-- ==== Sys2Proof/Word.lean ====
section
/-! DEFINITION. The word types of the module (R14: every multi-byte field is little-endian and made of bytes; R158: scalar,
vector, predicate and tile-descriptor registers). -/

namespace Sys2Proof

/-- One byte. -/
abbrev Byte := BitVec 8
/-- A 16-bit half word (error codes, R25). -/
abbrev W16 := BitVec 16
/-- A 32-bit word (registers, R16 to R19). -/
abbrev W32 := BitVec 32
/-- A 64-bit word (scalar registers, device addresses, beat counts). -/
abbrev W64 := BitVec 64
/-- A 128-bit record (latches, R375; ledger entries, R194). -/
abbrev W128 := BitVec 128
/-- A tile descriptor (R230). -/
abbrev TDesc := BitVec 256
/-- A predicate register (R158). -/
abbrev Pred := BitVec 512
/-- A vector register (R158). -/
abbrev Vec := BitVec 4096

end Sys2Proof
end

