-- ==== Sys2Proof/Syntax.lean ====
section
/-! DEFINITION. The commands of the block: one constructor of `Instr` per row of the opcode table, with the row's operands.
A slot instruction (S, V, M, C) carries the raw fields of its slot, reserved bits included (R206, R209, R213, R234, R240), and
an `Issue` that names the thread and says whether further slots of the same bundle follow (notes/assumptions/2.md). An event
of the outside world carries what the world measured (notes/assumptions/12.md). -/

namespace Sys2Proof

/-- Which thread issues a slot, and whether the bundle has a further slot after this one (R202). -/
structure Issue where
  /-- physical core, 0 to 143 (R27) -/
  core : Nat
  /-- thread, 0 to 31 (R158) -/
  thread : Nat
  /-- a further slot of the same bundle follows; the last slot closes the bundle -/
  more : Bool
  deriving DecidableEq, Repr

/-- Fields of the S slot (R209). -/
structure SF where
  sd : BitVec 5
  sa : BitVec 5
  sb : BitVec 5
  rsv : BitVec 9
  imm : BitVec 32
  deriving DecidableEq, Repr

/-- Fields of the V slot (R213). -/
structure VF where
  type : BitVec 4
  strict : Bool
  pn : Bool
  pred : BitVec 3
  pen : Bool
  vd : BitVec 5
  va : BitVec 5
  vb : BitVec 5
  vc : BitVec 5
  ss : BitVec 5
  rsv : BitVec 3
  imm : BitVec 32
  deriving DecidableEq, Repr

/-- Fields of M.TILE (R234). -/
structure MTileF where
  arr : BitVec 2
  half : BitVec 2
  td : BitVec 4
  smask : BitVec 5
  spad : BitVec 5
  sout : BitVec 5
  latch : BitVec 6
  men : Bool
  pen : Bool
  oen : Bool
  rsv : BitVec 24
  deriving DecidableEq, Repr

/-- Fields of M.TSET and M.TADD (R234); `rsv` joins the three reserved ranges. -/
structure MSetF where
  td : BitVec 4
  sa : BitVec 5
  field : BitVec 6
  rsv : BitVec 41
  deriving DecidableEq, Repr

/-- Fields of M.TCPY (R234); `rsv` joins the two reserved ranges. -/
structure MCpyF where
  td : BitVec 4
  ts : BitVec 4
  rsv : BitVec 48
  deriving DecidableEq, Repr

/-- C slot, format CA (R240): signed byte offset. -/
structure CA where
  a : BitVec 5
  b : BitVec 5
  off : BitVec 31
  deriving DecidableEq, Repr

/-- C slot, format CV (R240, R242). -/
structure CV where
  a : BitVec 5
  b : BitVec 5
  pen : Bool
  pred : BitVec 3
  vc : BitVec 5
  width : BitVec 2
  off : BitVec 20
  deriving DecidableEq, Repr

/-- C slot, format CX (R240). -/
structure CX where
  a : BitVec 5
  b : BitVec 5
  val : BitVec 5
  rsv : BitVec 26
  deriving DecidableEq, Repr

/-- C slot, format CL (R240). -/
structure CL where
  a : BitVec 5
  b : BitVec 5
  latch : BitVec 6
  cond : BitVec 4
  immv : Bool
  imm : BitVec 20
  deriving DecidableEq, Repr

/-- C slot, format CD (R240). -/
structure CD where
  a : BitVec 5
  b : BitVec 5
  q : BitVec 2
  rsv : BitVec 29
  deriving DecidableEq, Repr

/-- A packet: the fields of its PKT flit (R416) and the bytes of its data flits. -/
structure Pkt where
  /-- the beat counter stamp, SEND_BEAT (R366) -/
  sendBeat : BitVec 64
  vc : BitVec 2
  spart : BitVec 3
  kind : BitVec 3
  dst : BitVec 14
  dtr : BitVec 2
  src : BitVec 14
  len : BitVec 8
  lastb : BitVec 8
  daddr : BitVec 64
  group : BitVec 12
  tag : BitVec 16
  dseq : BitVec 16
  hopc : BitVec 3
  poismap : BitVec 64
  body : BitVec 128
  ecrc : BitVec 32
  /-- a reserved field of the header, or a reserved value, is not zero (R449) -/
  rsvSet : Bool
  /-- the bytes the packet writes: 64 per full data flit, LASTB in the last -/
  data : List (BitVec 8)
  deriving DecidableEq, Repr

/-- A CTRL flit (R425). -/
structure Ctrl where
  nak : Bool
  ackv : Bool
  ack : BitVec 12
  nakseq : BitVec 12
  /-- freed-flit counts of VC0, VC1, VC2, VC3 and DT -/
  cred : List (BitVec 16)
  wcmd : BitVec 4
  wold : BitVec 3
  wnew : BitVec 3
  lcmd : BitVec 8
  deriving DecidableEq, Repr

/-- A flit slot of a frame (R413 to R415). MARKER, DREQ and DRESP arrive as commands of their own; in a frame only their
place counts (R449). -/
inductive Flit where
  | idle
  | ctrl (c : Ctrl)
  | timing
  | ident
  | pkt (p : Pkt)
  | data (bytes : List (BitVec 8))
  /-- a reserved FTYPE (R414) -/
  | reserved
  deriving DecidableEq, Repr

/-- A frame (R410, R411). -/
structure Frame where
  fseq : BitVec 12
  rpl : Bool
  flits : List Flit
  deriving DecidableEq, Repr

/-- A mailbox request (R523): the channel it arrives on (32 to 35 are the management channels, R658), its header fields and
its body. The message code is the command's own name. -/
structure Msg where
  ch : Nat
  len : BitVec 16
  tag : BitVec 32
  version : BitVec 16
  sid : BitVec 32
  body : List (BitVec 8)
  deriving DecidableEq, Repr

/-- Who accesses a register (R19, R23, R301). `page c` is a host access through the page of mailbox channel c. -/
inductive Agent where
  | host
  | page (c : Nat)
  | mcp
  | wingCtl
  deriving DecidableEq, Repr

/-- The end of a tile (R139, R238): its half (0 = whole array, 1 = lo, 2 = hi), and whether the two copies of the output conversion
differ, an upset of the world (notes/assumptions/12.md). -/
structure HalfEnd where
  half : Nat
  fault : Bool := false
  deriving DecidableEq, Repr

/-- What takes a core over (R182, R192): a hardware cause 0x10 to 0x12 with the thread it hits, if any, or 0, an MCP decision. -/
structure HwCause where
  code : Nat
  thread : Option Nat := none
  deriving DecidableEq, Repr

/-- The commands, in the order of the opcode table. -/
inductive Instr where
  /-- S_NOP (R210): S-slot no-operation. -/
  | sNop (x : Issue) (f : SF)
  /-- S_ADD (R210): sd = sa + sb modulo 2^64. -/
  | sAdd (x : Issue) (f : SF)
  /-- S_SUB (R210): sd = sa - sb modulo 2^64. -/
  | sSub (x : Issue) (f : SF)
  /-- S_ADDI (R210): sd = sa + sign-extended IMM. -/
  | sAddi (x : Issue) (f : SF)
  /-- S_MUL (R210): sd = low 64 bits of sa times sb. -/
  | sMul (x : Issue) (f : SF)
  /-- S_MULHU (R210): sd = high 64 bits of the unsigned product. -/
  | sMulhu (x : Issue) (f : SF)
  /-- S_MULHS (R210): sd = high 64 bits of the signed product. -/
  | sMulhs (x : Issue) (f : SF)
  /-- S_AND (R210): sd = sa AND sb. -/
  | sAnd (x : Issue) (f : SF)
  /-- S_OR (R210): sd = sa OR sb. -/
  | sOr (x : Issue) (f : SF)
  /-- S_XOR (R210): sd = sa XOR sb. -/
  | sXor (x : Issue) (f : SF)
  /-- S_ANDI (R210): sd = sa AND IMM. -/
  | sAndi (x : Issue) (f : SF)
  /-- S_SHL (R210): Left shift of sa by sb[5:0]. -/
  | sShl (x : Issue) (f : SF)
  /-- S_SHR (R210): Logical right shift of sa by sb[5:0]. -/
  | sShr (x : Issue) (f : SF)
  /-- S_SAR (R210): Arithmetic right shift of sa by sb[5:0]. -/
  | sSar (x : Issue) (f : SF)
  /-- S_SHLI (R210): Left shift of sa by IMM[5:0]. -/
  | sShli (x : Issue) (f : SF)
  /-- S_SHRI (R210): Logical right shift of sa by IMM[5:0]. -/
  | sShri (x : Issue) (f : SF)
  /-- S_SARI (R210): Arithmetic right shift of sa by IMM[5:0]. -/
  | sSari (x : Issue) (f : SF)
  /-- S_SLT (R210): sd = 1 if sa < sb signed. -/
  | sSlt (x : Issue) (f : SF)
  /-- S_SLTU (R210): sd = 1 if sa < sb unsigned. -/
  | sSltu (x : Issue) (f : SF)
  /-- S_SEQ (R210): sd = 1 if sa = sb. -/
  | sSeq (x : Issue) (f : SF)
  /-- S_MIN (R210): Signed minimum. -/
  | sMin (x : Issue) (f : SF)
  /-- S_MAX (R210): Signed maximum. -/
  | sMax (x : Issue) (f : SF)
  /-- S_MINU (R210): Unsigned minimum. -/
  | sMinu (x : Issue) (f : SF)
  /-- S_MAXU (R210): Unsigned maximum. -/
  | sMaxu (x : Issue) (f : SF)
  /-- S_LI (R210): sd = IMM. -/
  | sLi (x : Issue) (f : SF)
  /-- S_LUI (R210): sd = (IMM << 32) OR sa[31:0]. -/
  | sLui (x : Issue) (f : SF)
  /-- S_POPC (R210): sd = number of set bits of sa. -/
  | sPopc (x : Issue) (f : SF)
  /-- S_CLZ (R210): sd = leading zero count of sa. -/
  | sClz (x : Issue) (f : SF)
  /-- S_BFX (R210): Unsigned bit-field extract of sa. -/
  | sBfx (x : Issue) (f : SF)
  /-- S_B (R210): Unconditional branch by IMM bundles. -/
  | sB (x : Issue) (f : SF)
  /-- S_BEQ (R210): Branch if sa = sb. -/
  | sBeq (x : Issue) (f : SF)
  /-- S_BNE (R210): Branch if sa differs from sb. -/
  | sBne (x : Issue) (f : SF)
  /-- S_BLT (R210): Branch if sa < sb signed. -/
  | sBlt (x : Issue) (f : SF)
  /-- S_BGE (R210): Branch if sa >= sb signed. -/
  | sBge (x : Issue) (f : SF)
  /-- S_BLTU (R210): Branch if sa < sb unsigned. -/
  | sBltu (x : Issue) (f : SF)
  /-- S_BGEU (R210): Branch if sa >= sb unsigned. -/
  | sBgeu (x : Issue) (f : SF)
  /-- S_CALL (R210): Link return address into sd and branch. -/
  | sCall (x : Issue) (f : SF)
  /-- S_JR (R211): Continue at address sa, checked for bounds and alignment. -/
  | sJr (x : Issue) (f : SF)
  /-- S_CRD (R207): Read a thread control register. -/
  | sCrd (x : Issue) (f : SF)
  /-- S_CWR (R207): Write a thread control register. -/
  | sCwr (x : Issue) (f : SF)
  /-- S_PCNT (R210): Count set bits of a predicate register. -/
  | sPcnt (x : Issue) (f : SF)
  /-- S_BRK (R210): Raise BREAK when a breakpoint is armed in SERVICE state. -/
  | sBrk (x : Issue) (f : SF)
  /-- S_END (R212): The thread becomes FREE after this bundle; queued operations still complete. -/
  | sEnd (x : Issue) (f : SF)
  /-- V_NOP (R217): V-slot no-operation. -/
  | vNop (x : Issue) (f : VF)
  /-- V_ADD (R217): Lane-wise addition. -/
  | vAdd (x : Issue) (f : VF)
  /-- V_SUB (R217): Lane-wise subtraction. -/
  | vSub (x : Issue) (f : VF)
  /-- V_MUL (R217): Lane-wise multiplication. -/
  | vMul (x : Issue) (f : VF)
  /-- V_FMA (R217): Lane-wise fused multiply-add. -/
  | vFma (x : Issue) (f : VF)
  /-- V_FMS (R217): Lane-wise fused multiply-subtract. -/
  | vFms (x : Issue) (f : VF)
  /-- V_DIV (R229): Lane-wise correctly rounded division. -/
  | vDiv (x : Issue) (f : VF)
  /-- V_SQRT (R229): Lane-wise correctly rounded square root. -/
  | vSqrt (x : Issue) (f : VF)
  /-- V_MAX (R101): Lane-wise maximum with NaN and signed-zero rules. -/
  | vMax (x : Issue) (f : VF)
  /-- V_MIN (R101): Lane-wise minimum with NaN and signed-zero rules. -/
  | vMin (x : Issue) (f : VF)
  /-- V_ABS (R217): Lane-wise absolute value. -/
  | vAbs (x : Issue) (f : VF)
  /-- V_NEG (R217): Lane-wise negation. -/
  | vNeg (x : Issue) (f : VF)
  /-- V_ADDS (R217): Lane-wise saturating integer sum. -/
  | vAdds (x : Issue) (f : VF)
  /-- V_SUBS (R217): Lane-wise saturating integer difference. -/
  | vSubs (x : Issue) (f : VF)
  /-- V_MULH (R217): High half of lane-wise integer product. -/
  | vMulh (x : Issue) (f : VF)
  /-- V_AND (R217): Bitwise AND. -/
  | vAnd (x : Issue) (f : VF)
  /-- V_OR (R217): Bitwise OR. -/
  | vOr (x : Issue) (f : VF)
  /-- V_XOR (R217): Bitwise XOR. -/
  | vXor (x : Issue) (f : VF)
  /-- V_NOT (R217): Bitwise NOT of va. -/
  | vNot (x : Issue) (f : VF)
  /-- V_SHL (R217): Lane-wise left shift. -/
  | vShl (x : Issue) (f : VF)
  /-- V_SHR (R217): Lane-wise logical right shift. -/
  | vShr (x : Issue) (f : VF)
  /-- V_SAR (R217): Lane-wise arithmetic right shift. -/
  | vSar (x : Issue) (f : VF)
  /-- V_LDEXP (R217): va times 2^vb, rounded as a conversion. -/
  | vLdexp (x : Issue) (f : VF)
  /-- V_EXP2 (R217): Lane-wise 2^va. -/
  | vExp2 (x : Issue) (f : VF)
  /-- V_LOG2 (R217): Lane-wise log2 of va. -/
  | vLog2 (x : Issue) (f : VF)
  /-- V_CMP (R218): Lane-wise compare into a predicate register. -/
  | vCmp (x : Issue) (f : VF)
  /-- V_SEL (R217): Select va or vb per predicate bit. -/
  | vSel (x : Issue) (f : VF)
  /-- V_PAND (R217): Predicate AND. -/
  | vPand (x : Issue) (f : VF)
  /-- V_POR (R217): Predicate OR. -/
  | vPor (x : Issue) (f : VF)
  /-- V_PXOR (R217): Predicate XOR. -/
  | vPxor (x : Issue) (f : VF)
  /-- V_PNOT (R217): Predicate NOT. -/
  | vPnot (x : Issue) (f : VF)
  /-- V_BCAST (R217): Broadcast a scalar into every lane. -/
  | vBcast (x : Issue) (f : VF)
  /-- V_IDX (R217): Write each lane's index. -/
  | vIdx (x : Issue) (f : VF)
  /-- V_GETL (R217): Move one lane to a scalar register. -/
  | vGetl (x : Issue) (f : VF)
  /-- V_SETL (R217): Move a scalar into one lane. -/
  | vSetl (x : Issue) (f : VF)
  /-- V_PERM (R217): Lane permutation by vb. -/
  | vPerm (x : Issue) (f : VF)
  /-- V_MOV (R217): Vector register move. -/
  | vMov (x : Issue) (f : VF)
  /-- V_RSUM (R221): Fixed-tree lane sum into lane 0. -/
  | vRsum (x : Issue) (f : VF)
  /-- V_RSSQ (R221): Fixed-tree lane sum of squares into lane 0. -/
  | vRssq (x : Issue) (f : VF)
  /-- V_RMAX (R221): Fixed-tree lane maximum into lane 0. -/
  | vRmax (x : Issue) (f : VF)
  /-- V_RMIN (R221): Fixed-tree lane minimum into lane 0. -/
  | vRmin (x : Issue) (f : VF)
  /-- V_MOM_ADD (R223): Add an element into each lane's moment triple. -/
  | vMomAdd (x : Issue) (f : VF)
  /-- V_MOM_CMB (R223): Combine two moment triples lane-wise. -/
  | vMomCmb (x : Issue) (f : VF)
  /-- V_MOM_RED (R223): Tree-combine a moment triple into lane 0. -/
  | vMomRed (x : Issue) (f : VF)
  /-- V_CVT (R219): Convert lanes between element types. -/
  | vCvt (x : Issue) (f : VF)
  /-- V_QSCL (R224): Select block scale codes under R76. -/
  | vQscl (x : Issue) (f : VF)
  /-- V_CVTQ (R224): Encode lanes into Q codes and add to QCNT. -/
  | vCvtq (x : Issue) (f : VF)
  /-- V_CVTF (R224): Decode Q codes into floating-point lanes. -/
  | vCvtf (x : Issue) (f : VF)
  /-- V_PACK4 (R224): Pack 512 4-bit codes into 256 bytes. -/
  | vPack4 (x : Issue) (f : VF)
  /-- V_UNPK4 (R224): Unpack 256 bytes into 512 4-bit codes. -/
  | vUnpk4 (x : Issue) (f : VF)
  /-- V_PACK6 (R224): Pack 512 6-bit codes into 384 bytes. -/
  | vPack6 (x : Issue) (f : VF)
  /-- V_UNPK6 (R224): Unpack 384 bytes into 512 6-bit codes. -/
  | vUnpk6 (x : Issue) (f : VF)
  /-- M_NOP (R234): M-slot no-operation. -/
  | mNop (x : Issue)
  /-- M_TILE (R239): Check a tile descriptor and queue the tile on an array. -/
  | mTile (x : Issue) (f : MTileF)
  /-- M_TSET (R234): Set one tile-descriptor field from a scalar. -/
  | mTset (x : Issue) (f : MSetF)
  /-- M_TCPY (R234): Copy one tile descriptor to another. -/
  | mTcpy (x : Issue) (f : MCpyF)
  /-- M_TADD (R234): Add a scalar to one tile-descriptor field. -/
  | mTadd (x : Issue) (f : MSetF)
  /-- C_NOP (R241): C-slot no-operation. -/
  | cNop (x : Issue)
  /-- C_LDB (R241): Issue a 1-byte local load, zero-extended. -/
  | cLdb (x : Issue) (f : CA)
  /-- C_LDH (R241): Issue a 2-byte local load, zero-extended. -/
  | cLdh (x : Issue) (f : CA)
  /-- C_LDW (R241): Issue a 4-byte local load, zero-extended. -/
  | cLdw (x : Issue) (f : CA)
  /-- C_LDD (R241): Issue an 8-byte local load. -/
  | cLdd (x : Issue) (f : CA)
  /-- C_LDBS (R241): Issue a 1-byte local load, sign-extended. -/
  | cLdbs (x : Issue) (f : CA)
  /-- C_LDHS (R241): Issue a 2-byte local load, sign-extended. -/
  | cLdhs (x : Issue) (f : CA)
  /-- C_LDWS (R241): Issue a 4-byte local load, sign-extended. -/
  | cLdws (x : Issue) (f : CA)
  /-- C_STB (R241): Store 1 byte locally. -/
  | cStb (x : Issue) (f : CA)
  /-- C_STH (R241): Store 2 bytes locally. -/
  | cSth (x : Issue) (f : CA)
  /-- C_STW (R241): Store 4 bytes locally. -/
  | cStw (x : Issue) (f : CA)
  /-- C_STD (R241): Store 8 bytes locally. -/
  | cStd (x : Issue) (f : CA)
  /-- C_GLD (R244): Issue a global 8-byte load. -/
  | cGld (x : Issue) (f : CA)
  /-- C_GST (R244): Global 8-byte store with bounds checks. -/
  | cGst (x : Issue) (f : CA)
  /-- C_VLD (R241): Load 512 local bytes into a vector register. -/
  | cVld (x : Issue) (f : CV)
  /-- C_VST (R241): Store a vector register locally under predicate. -/
  | cVst (x : Issue) (f : CV)
  /-- C_VGTH (R242): Gather local elements into vector lanes. -/
  | cVgth (x : Issue) (f : CV)
  /-- C_VSCT (R242): Scatter vector lanes to local elements. -/
  | cVsct (x : Issue) (f : CV)
  /-- C_PLD (R241): Load a predicate register from 64 local bytes. -/
  | cPld (x : Issue) (f : CV)
  /-- C_PST (R241): Store a predicate register as 64 local bytes. -/
  | cPst (x : Issue) (f : CV)
  /-- C_TLD (R241): Load a tile descriptor from 32 local bytes. -/
  | cTld (x : Issue) (f : CV)
  /-- C_TST (R241): Store a tile descriptor as 32 local bytes. -/
  | cTst (x : Issue) (f : CV)
  /-- C_FADD (R284): Atomic fetch-and-add on a larder word; a claim when aimed at a work counter's NEXT. -/
  | cFadd (x : Issue) (f : CX)
  /-- C_SWAP (R312): Atomic swap on a larder word. -/
  | cSwap (x : Issue) (f : CX)
  /-- C_CAS (R312): Atomic compare-and-swap on a larder word. -/
  | cCas (x : Issue) (f : CX)
  /-- C_DMA (R314): Submit a DMA descriptor to a core DMA queue. -/
  | cDma (x : Issue) (f : CD)
  /-- C_LPOST (R246): Queue a latch write behind a DMA queue's data. -/
  | cLpost (x : Issue) (f : CD)
  /-- C_FENCE (R246): Make later C-slot operations wait for global stores and atomics. -/
  | cFence (x : Issue)
  /-- C_LSET (R376): Set a plain latch and take ownership, rearming it. -/
  | cLset (x : Issue) (f : CL)
  /-- C_LADD (R376): Add to a plain latch. -/
  | cLadd (x : Issue) (f : CL)
  /-- C_LWAIT (R379): Test a latch condition and continue or park. -/
  | cLwait (x : Issue) (f : CL)
  /-- C_LRD (R376): Read a latch value into a scalar. -/
  | cLrd (x : Issue) (f : CL)
  /-- C_LARR (R387): Send a barrier arrival and record a pending release. -/
  | cLarr (x : Issue) (f : CL)
  /-- LOAD_RETURN (R248): A load or global access returns its data, or raises POISON. Operands: the n-th outstanding access of the thread returns. -/
  | loadReturn (core : Nat) (thread : Nat) (n : Nat)
  /-- WC_EXCEPTION (R186): The wing controller handles a thread's exception message. Operands: the wing controller handles the thread's exception message. -/
  | wcException (core : Nat) (thread : Nat)
  /-- THREAD_START (R261): The wing controller starts a thread on a core. Operands: start a thread of the live KERNEL or MATMUL command. -/
  | threadStart (core : Nat) (thread : Nat) (ring : Nat) (dcount : Nat)
  /-- THREAD_HOLD (R160): A wing controller or MCP holds a thread at a bundle boundary. Operands: hold at a bundle boundary. -/
  | threadHold (core : Nat) (thread : Nat)
  /-- THREAD_RELEASE (R160): A wing controller releases a held or faulted thread. Operands: release a HELD or FAULTED thread. -/
  | threadRelease (core : Nat) (thread : Nat)
  /-- CORE_GATE (R167): A core gates its clock after GATE_DELAY idle cycles. Operands: GATE_DELAY idle cycles have passed. -/
  | coreGate (core : Nat)
  /-- LATCH_WAIT_TIMEOUT (R379): A parked thread wakes with SYNC_TIMEOUT at its timeout beat. Operands: the parked thread's timeout edge. -/
  | latchWaitTimeout (core : Nat) (thread : Nat)
  /-- TILE_START (R121): An array takes a queued tile and begins staging. Operands: the array takes its oldest queued tile. -/
  | tileStart (array : Nat) (half : Nat)
  /-- RUN_COMPLETE (R132): A run of a tile completes; it is promoted or replayed on finite-overflow. Operands: a run of the tile in the half ends; fault 1 = a product was upset, 2 = an adder of copy B was (world). -/
  | runComplete (array : Nat) (half : Nat) (fault : Nat)
  /-- TILE_END (R238): A tile commits or is not written; outcome word and latch are updated. Operands: the half whose tile ends, with the world's upset of its output conversion. -/
  | tileEnd (array : Nat) (half : HalfEnd)
  /-- ITEM_REISSUE (R287): The wing controller reissues an item after a failed check or fault takeover. Operands: reissue an item on a logical core's thread. -/
  | itemReissue (ring : Nat) (dcount : Nat) (item : Nat) (core : Nat) (thread : Nat)
  /-- ARRAY_TEST (R573): A SUSPECT array is tested and returned, remapped or retired. Operands: result of the 2 ms array test. -/
  | arrayTest (array : Nat) (badRows : List Nat) (badCols : List Nat)
  /-- ARR_REMAP_WRITE (R150): A write of ARR_REMAP_i that takes effect at the next tile boundary. Operands: MCP write of ARR_REMAP_i. -/
  | arrRemapWrite (array : Nat) (val : BitVec 32)
  /-- ARR_INJ_ARM (R155): Arm one-bit corruption of an array's next tile. Operands: write of ARR_INJ_i with ARM. -/
  | arrInjArm (array : Nat) (val : BitVec 32)
  /-- ARR_ERR_READ (R152): Read of ARR_ERR_i that clears its RC counts. Operands: read of ARR_ERR_i. -/
  | arrErrRead (array : Nat)
  /-- CORE_FENCE (R192): Setting FENCE starts a fault takeover of the core. Operands: FENCE set by an MCP or wing controller. -/
  | coreFence (core : Nat)
  /-- FAULT_TAKEOVER (R192): A hardware cause or MCP decision fences a core and copies its identity. Operands: the hardware cause with the thread it hits, or an MCP decision; the latches that read with an uncorrectable error. -/
  | faultTakeover (core : Nat) (cause : HwCause) (badLatches : List Nat)
  /-- TAKEOVER_COMMIT (R192): The keep-region copy ends, the spare map commits and tiles are reissued. Operands: the copy ends and the spare map commits. -/
  | takeoverCommit (logical : Nat)
  /-- CORE_DRAIN (R190): Setting DRAIN starts a planned hand-over. Operands: write of DRAIN. -/
  | coreDrain (core : Nat) (on : Bool)
  /-- HANDOVER_FREEZE (R190): Drain complete; threads held and ingress frozen, identity copied. Operands: drain complete. -/
  | handoverFreeze (core : Nat)
  /-- HANDOVER_COMMIT (R190): Copy complete; spare map committed, threads resume, ingress released. Operands: copy complete. -/
  | handoverCommit (core : Nat)
  /-- CORE_HOLD_ALL (R198): HOLD_ALL holds every thread of a core. Operands: write of HOLD_ALL. -/
  | coreHoldAll (core : Nat) (on : Bool)
  /-- CORE_EXC3_READ (R200): Read of CORE_EXC3_i removes the oldest exception record. Operands: read of CORE_EXC3_i. -/
  | coreExc3Read (core : Nat)
  /-- CORE_EXC0_READ (R200): Read of CORE_EXC0_i that clears DROPPED. Operands: read of CORE_EXC0_i. -/
  | coreExc0Read (core : Nat)
  /-- LEDGER_CLEAR (R201): An MCP clears a core's work ledger and WRAP. Operands: CLEAR written. -/
  | ledgerClear (core : Nat) (byMcp : Bool)
  /-- DESCRIPTOR_TAKE (R537): The wing controller takes the next descriptor of a ring. Operands: the controller takes descriptor HEAD (its bytes when the ring is in host memory). -/
  | descriptorTake (ring : Nat) (hostBytes : List (BitVec 8))
  /-- COMMAND_WAIT_TIMEOUT (R251): A command's latch wait reaches WAIT_TIMEOUT and fails. Operands: the latch wait reached WAIT_TIMEOUT. -/
  | commandWaitTimeout (ring : Nat) (dcount : Nat)
  /-- NOP (R257): Command that does nothing beyond waits and signals. Operands: run the taken command. -/
  | nop (ring : Nat) (dcount : Nat)
  /-- MATMUL (R257): Matrix multiplication with segment table and K-split plan. Operands: run. -/
  | matmul (ring : Nat) (dcount : Nat)
  /-- QUANTIZE (R292): Quantise into a Q format with adaptive block size. Operands: run. -/
  | quantize (ring : Nat) (dcount : Nat)
  /-- CONVERT (R257): Convert each element between formats. Operands: run. -/
  | convert (ring : Nat) (dcount : Nat)
  /-- COPY (R257): Copy rows byte for byte, possibly to a remote destination. Operands: run. -/
  | copy (ring : Nat) (dcount : Nat)
  /-- FILL (R257): Set every element to PAD. Operands: run. -/
  | fill (ring : Nat) (dcount : Nat)
  /-- REDUCE_SUM (R258): Sum along the reduced axis in fixed chunk order. Operands: run. -/
  | reduceSum (ring : Nat) (dcount : Nat)
  /-- REDUCE_SSQ (R258): Sum of squares along the reduced axis. Operands: run. -/
  | reduceSsq (ring : Nat) (dcount : Nat)
  /-- REDUCE_MAX (R102): Maximum skipping NaN, with NaN count. Operands: run. -/
  | reduceMax (ring : Nat) (dcount : Nat)
  /-- REDUCE_MIN (R102): Minimum skipping NaN, with NaN count. Operands: run. -/
  | reduceMin (ring : Nat) (dcount : Nat)
  /-- MOMENTS (R258): Count, mean and M2 along the reduced axis. Operands: run. -/
  | moments (ring : Nat) (dcount : Nat)
  /-- SORT (R106): Stable sort of each row with index output. Operands: run. -/
  | sort (ring : Nat) (dcount : Nat)
  /-- GATHER (R260): Copy table rows named by an index. Operands: run. -/
  | gather (ring : Nat) (dcount : Nat)
  /-- SCATTER_ADD (R260): Add source rows into destination rows named by an index. Operands: run. -/
  | scatterAdd (ring : Nat) (dcount : Nat)
  /-- KERNEL (R261): Load a Brery program and start threads on the partition's cores. Operands: run. -/
  | kernel (ring : Nat) (dcount : Nat)
  /-- ALL_REDUCE (R468): Collective reduction whose result lands at every member. Operands: start the collective. -/
  | allReduce (ring : Nat) (dcount : Nat)
  /-- REDUCE_SCATTER (R473): Collective reduction leaving each member its shard. Operands: start. -/
  | reduceScatter (ring : Nat) (dcount : Nat)
  /-- ALL_GATHER (R468): Collective gathering every member's source. Operands: start. -/
  | allGather (ring : Nat) (dcount : Nat)
  /-- BROADCAST (R468): Collective distributing the root's source. Operands: start. -/
  | broadcast (ring : Nat) (dcount : Nat)
  /-- LR_REDUCE (R494): Low-rank gradient reduction in P and Q rounds. Operands: start. -/
  | lrReduce (ring : Nat) (dcount : Nat)
  /-- K_SPLIT_COMBINE (R271): All parts of an output tile committed; grand totals combined and written. Operands: all parts committed; combine. -/
  | kSplitCombine (ring : Nat) (dcount : Nat)
  /-- COMMAND_COMPLETE (R252): A command ends: completion block, SIGNAL and completion record written. Operands: the command ends. -/
  | commandComplete (ring : Nat) (dcount : Nat)
  /-- CHECK_REEXEC (R555): A selected item is re-executed as CHECKRUN and signatures compared. Operands: re-execution of a selected item on a physical core, and the signature it gave (world). -/
  | checkReexec (ring : Nat) (dcount : Nat) (item : Nat) (core : Nat) (sig : W64)
  /-- THIRD_EXECUTION (R556): A signature mismatch runs the item a third time to find the dissenter. Operands: the third run on a physical core, and the signature it gave (world). -/
  | thirdExecution (ring : Nat) (dcount : Nat) (item : Nat) (core : Nat) (sig : W64)
  /-- DMA_START (R319): A queued DMA descriptor is checked and starts moving bytes. Operands: oldest unstarted descriptor of the queue starts. -/
  | dmaStart (engine : Nat) (queue : Nat)
  /-- DMA_COMPLETE (R318): A descriptor completes; status word and latch add written. Operands: oldest started descriptor completes. -/
  | dmaComplete (engine : Nat) (queue : Nat)
  /-- BAR2_READ (R518): Host read through a BAR2 slot. Operands: host read. -/
  | bar2Read (off : Nat) (len : Nat)
  /-- BAR2_WRITE (R518): Host write through a BAR2 slot. Operands: host write. -/
  | bar2Write (off : Nat) (bytes : List (BitVec 8))
  /-- SCRUB_READ (R330): The scrubber reads a granule on its period and rewrites it. Operands: the scrubber reads the granule at the address. -/
  | scrubRead (addr : Nat)
  /-- BUCKET_LEAK (R332): A leak period ends and COUNT falls by 1. Operands: a leak period of bucket k ends. -/
  | bucketLeak (k : Nat)
  /-- REBUILD_END (R334): A channel rebuild ends; spare takes the position and the next waiter starts. Operands: the stack's rebuild ends. -/
  | rebuildEnd (stack : Nat)
  /-- SPARE_ERASE_REBUILD (R343): MEM_SPARE_CMD OP 0: erase a channel and rebuild onto a spare. Operands: MEM_SPARE_CMD GO, OP 0. -/
  | spareEraseRebuild (stack : Nat) (chan : Nat)
  /-- SPARE_ERASE_ONLY (R343): MEM_SPARE_CMD OP 1: erase a channel only. Operands: MEM_SPARE_CMD GO, OP 1. -/
  | spareEraseOnly (stack : Nat) (chan : Nat)
  /-- SPARE_START_REBUILD (R343): MEM_SPARE_CMD OP 2: start or queue an erased channel's rebuild. Operands: MEM_SPARE_CMD GO, OP 2. -/
  | spareStartRebuild (stack : Nat) (chan : Nat)
  /-- ROW_REMAP (R336): An MCP copies a DRAM row to a spare row and switches it. Operands: an MCP remaps a DRAM row. -/
  | rowRemap (stack : Nat) (chan : Nat) (row : Nat)
  /-- GRAN_MODE_CHANGE (R309): A MEM_GRAN_g write changes mode and starts the refill. Operands: MEM_GRAN_g write that changes MODE. -/
  | granModeChange (g : Nat) (val : BitVec 32)
  /-- REFILL_END (R309): A granule refill ends and BUSY clears. Operands: the refill ends. -/
  | refillEnd (g : Nat)
  /-- ECC_INJ_ARM (R338): Arm the flip mask for the next write to a word. Operands: write of ECC_INJ_CTL with ARM. -/
  | eccInjArm (val : BitVec 32)
  /-- RAW_READ (R339): ECC_RAW GO with OP 0 reads a granule without the code. Operands: write of ECC_RAW_CTL with GO, OP 0. -/
  | rawRead (val : BitVec 32)
  /-- RAW_WRITE (R339): ECC_RAW GO with OP 1 stores a granule exactly as given. Operands: write of ECC_RAW_CTL with GO, OP 1. -/
  | rawWrite (val : BitVec 32)
  /-- MEM_EPOCH_DROP_READ (R342): Read of MEM_EPOCH_DROP that clears it. Operands: read of MEM_EPOCH_DROP. -/
  | memEpochDropRead
  /-- ECC_BKT_READ (R347): Read of ECC_BKT_k that clears OVF_CNT. Operands: read of ECC_BKT_k. -/
  | eccBktRead (k : Nat)
  /-- SNAPSHOT (R368): At its beat, each member records partition state and starts logging channel state. Operands: the due SNAPSHOT event. -/
  | snapshot
  /-- STOP (R370): At its beat, the partition's threads, starts and egress are held. Operands: the due STOP event. -/
  | stop
  /-- RESUME (R370): At its beat, a stopped partition resumes. Operands: the due RESUME event. -/
  | resume
  /-- PROFILE (R601): At its beat, the core clock and voltage change to a new profile. Operands: the due PROFILE event. -/
  | profile
  /-- PERIOD (R371): At its beat, the beat period changes. Operands: the due PERIOD event. -/
  | period
  /-- COUNTER_WINDOW (R639): At its beat, a counter set is captured to open a window. Operands: the due COUNTER_WINDOW event. -/
  | counterWindow
  /-- TEST_SLICE (R561): At its beat, a core test slice runs. Operands: the due TEST_SLICE event. -/
  | testSlice
  /-- SPARE_SWAP (R574): At its beat, a planned link-interrupting spare action runs. Operands: the due SPARE_SWAP event. -/
  | spareSwap
  /-- COLL_DEADLINE (R485): At its beat, a tolerant operation's deadline is set. Operands: the due COLL_DEADLINE event. -/
  | collDeadline
  /-- SNAPSHOT_COMPLETE (R373): At N + LOGWIN the snapshot record is completed. Operands: N + LOGWIN reached. -/
  | snapshotComplete (part : Nat) (snapid : Nat)
  /-- WINDOW_CLOSE_CAPTURE (R639): At N + LEN the set is captured again and a window record written. Operands: N + LEN reached. -/
  | windowCloseCapture (slot : Nat)
  /-- EVENT (R363): An EVENT packet arrives and is scheduled, refused or carried out late. Operands: the oldest EVENT packet of the port (none: sent by this module's MCP to itself). -/
  | event (src : Option Nat)
  /-- MARKER (R355): A beat marker arrives and disciplines the counter. Operands: a MARKER flit; fracPs = what the world measured of the offset below the state: own phase within the beat, path latencies, in ps. -/
  | marker (port : Nat) (depth : BitVec 3) (bstate : BitVec 3) (gen : BitVec 8) (beat : BitVec 64) (phase : BitVec 16) (fracPs : Int)
  /-- MARKER_SEND (R354): Every 16 beats a LOCKED or MASTER module sends markers. Operands: every 16 beats. -/
  | markerSend
  /-- DELAY_EXCHANGE (R355): Every 1,024 beats a delay request is sent to each partner. Operands: every 1,024 beats. -/
  | delayExchange (t1 : BitVec 48)
  /-- DREQ (R430): A delay request arrives and is answered with DRESP. Operands: a delay request; t2 t3 = this module's stamps. -/
  | dreq (port : Nat) (id : BitVec 8) (t1 : BitVec 48) (t2 : BitVec 48) (t3 : BitVec 48)
  /-- DRESP (R430): A delay response arrives and the one-way delay is computed. Operands: a delay response. -/
  | dresp (port : Nat) (id : BitVec 8) (t2 : BitVec 48) (t3 : BitVec 48) (t4 : BitVec 48)
  /-- MARKER_LOSS (R358): No marker for 64 beats moves LOCKED to HOLDOVER. Operands: no marker for 64 beats. -/
  | markerLoss
  /-- HOLDOVER_EXPIRY (R358): HOLDOVER lasts 1 ms and ends in UNLOCKED with BEAT_LOST. Operands: 1 ms in HOLDOVER. -/
  | holdoverExpiry
  /-- BACKUP_MASTER_TAKEOVER (R360): The backup hears no marker for MASTER_TO beats and becomes master. Operands: no marker for MASTER_TO beats. -/
  | backupMasterTakeover
  /-- BEAT_PERIOD_WRITE (R394): A write of BEAT_CTL.PERIOD while UNLOCKED sets the period from the next edge. Operands: write of BEAT_CTL.PERIOD. -/
  | beatPeriodWrite (val : BitVec 32)
  /-- BEAT_COUNT_CAPTURE (R396): A read of BEAT_COUNT_LO captures the whole counter. Operands: read of BEAT_COUNT_LO. -/
  | beatCountCapture
  /-- BEAT_ERR_READ (R397): Read of BEAT_ERR that clears LATE_CNT. Operands: read. -/
  | beatErrRead
  /-- LAT_STAT_READ (R398): Read of LAT_STAT that clears IGNORED and DROPPED. Operands: read. -/
  | latStatRead
  /-- BARRIER_ARRIVAL (R388): A barrier counter handles an arrival for a round. Operands: the oldest arrival packet. -/
  | barrierArrival (src : Option Nat)
  /-- BARRIER_RELEASE (R390): A release raises the release latches of matching pending entries. Operands: the oldest release packet. -/
  | barrierRelease (src : Option Nat)
  /-- BARRIER_REFUSAL (R391): A refusal removes pending entries and breaks their latches. Operands: the oldest refusal packet. -/
  | barrierRefusal (src : Option Nat)
  /-- GROUP_RESET (R392): A reset sets counters to r0 and breaks pending entries. Operands: the oldest GROUP_RESET packet. -/
  | groupReset (src : Option Nat)
  /-- RESET_ACKNOWLEDGEMENT (R392): A reset acknowledgement reaches a parent counter. Operands: the oldest acknowledgement packet. -/
  | resetAcknowledgement (src : Option Nat)
  /-- EVENT_REQ (R372): Session requests a scheduled event for a group. Operands: message 0x0124. -/
  | eventReq (m : Msg)
  /-- BARRIER_RESET (R372): Session starts GROUP_RESET at a barrier counter. Operands: message 0x0125. -/
  | barrierReset (m : Msg)
  /-- SNAPSHOT_READ (R374): Session reads part of a snapshot record. Operands: message 0x0126. -/
  | snapshotRead (m : Msg)
  /-- FRAME_RECEIVE (R427): A frame arrives and is accepted or discarded, with its CTRL flits acted on. Operands: a frame; ok = FEC and FCRC pass. -/
  | frameReceive (port : Nat) (f : Frame) (ok : Bool)
  /-- FRAME_SEND (R426): The transmitter sends the next frame, new or resent. Operands: the transmitter sends its next frame. -/
  | frameSend (port : Nat)
  /-- WRITE (R449): A WRITE packet arrives and is checked, forwarded or written. Operands: the oldest WRITE packet. -/
  | write (src : Option Nat)
  /-- LATCH_ADD (R384): A LATCH_ADD packet is applied behind its queue's data. Operands: the oldest LATCH_ADD packet. -/
  | latchAdd (src : Option Nat)
  /-- STATUS (R447): A STATUS packet reaches its source engine. Operands: the oldest STATUS packet. -/
  | status (src : Option Nat)
  /-- MGMT (R417): An MGMT packet delivers an MCP message. Operands: the oldest MGMT packet. -/
  | mgmt (src : Option Nat)
  /-- ACK_TIMEOUT (R428): 20 µs without ACK progress retrains the link. Operands: 20 us without ACK progress. -/
  | ackTimeout (port : Nat)
  /-- LANE_LOCK_LOSS (R407): A receiver loses light or lock and enters RELOCK. Operands: light or lock lost. -/
  | laneLockLoss (port : Nat)
  /-- RELOCK_EXPIRY (R407): RELOCK lasts 1 ms and the link is declared DOWN. Operands: 1 ms in RELOCK. -/
  | relockExpiry (port : Nat)
  /-- RETRAIN_TIMEOUT (R428): A retrain not UP within 250 µs makes the port FAILED. Operands: 250 us without UP. -/
  | retrainTimeout (port : Nat)
  /-- LINK_TRAIN (R432): A port starts training. Operands: training starts. -/
  | linkTrain (port : Nat)
  /-- TRAINING_COMPLETE (R432): Training ends and the port enters UP or MISWIRED. Operands: IDENT received; training ends. -/
  | trainingComplete (port : Nat) (peer : BitVec 14) (role : BitVec 2) (dim : BitVec 2) (idle : BitVec 3) (pport : BitVec 8)
  /-- WAVELENGTH_TAKEOVER (R440): A lane trigger moves the link to its idle wavelength. Operands: a lane trigger. -/
  | wavelengthTakeover (port : Nat) (lane : Nat)
  /-- PORT_TAKEOVER (R441): A FAILED port's link moves to the engine's spare port. Operands: takeover of a FAILED port. -/
  | portTakeover (port : Nat)
  /-- CARTRIDGE_FAULT (R406): A cartridge fault switches cartridge 3 to the half. Operands: cartridge fault detected. -/
  | cartridgeFault (c : Nat)
  /-- LASER_FAIL (R408): One laser falls below target; every port of the half takes over the wavelength. Operands: laser k of cartridge c below 70 %. -/
  | laserFail (c : Nat) (k : Nat)
  /-- MARGIN_SCAN (R435): Every MARGIN_H hours each port scans its wavelengths. Operands: scan results. -/
  | marginScan (port : Nat) (margins : List (BitVec 8)) (bias : List (BitVec 8))
  /-- PACKET_AGED (R445): A packet held longer than AGE is discarded with FAB_AGED. Operands: the n-th held packet of the port exceeds AGE. -/
  | packetAged (port : Nat) (n : Nat)
  /-- VIOL_LEAK (R450): Each millisecond a non-zero VIOL falls by 1. Operands: a millisecond passes. -/
  | violLeak (port : Nat)
  /-- UNQ (R453): Leave QUARANTINED and retrain. Operands: write of FAB_PORT_p.UNQ. -/
  | unq (port : Nat)
  /-- RETRAIN (R453): Retrain the port now. Operands: write of FAB_PORT_p.RETRAIN. -/
  | retrain (port : Nat)
  /-- FAB_PORT_FAIL (R453): Declare the port FAILED and start the port takeover. Operands: write of FAB_PORT_p.FAIL. -/
  | fabPortFail (port : Nat)
  /-- DETOUR_WRITE (R446): An MCP sets DETOUR after the link has been DOWN 2 × AGE. Operands: write of FAB_ROUTE_x.DETOUR; down2Age = the link has been DOWN for 2 AGE (clock). -/
  | detourWrite (x : Nat) (val : BitVec 32) (down2Age : Bool)
  /-- OPT_CART_SWAP (R457): Switch cartridge 3 to this cartridge's half now. Operands: write of OPT_CART_c.SWAP. -/
  | optCartSwap (c : Nat)
  /-- FAB_PCNT_READ (R453): Read of FAB_PCNT_p that clears its counts. Operands: read. -/
  | fabPcntRead (port : Nat)
  /-- OPT_WAVE_READ (R458): Read of OPT_WAVE_p that clears SYMERR. Operands: read. -/
  | optWaveRead (port : Nat)
  /-- FABRIC_SET (R456): Write and commit fabric and beat settings. Operands: message 0x0120. -/
  | fabricSet (m : Msg)
  /-- FABRIC_QUERY (R456): Return the fabric settings in force. Operands: message 0x0121. -/
  | fabricQuery (m : Msg)
  /-- OWNER_ROUND_1 (R487): At its edge of D an owner scans for NaN and sends its round-1 mask. Operands: edge of D at this owner. -/
  | ownerRound1 (group : Nat) (opseq : Nat)
  /-- ROUND_2 (R487): Every part has landed; an owner sends its round-2 mask. Operands: every part landed. -/
  | round2 (group : Nat) (opseq : Nat)
  /-- AGREE (R488): A member holds every mask of a round and forms the agreed mask. Operands: every mask of the round held. -/
  | agree (group : Nat) (opseq : Nat)
  /-- HIER_LEVEL (R478): A level's parts are complete and the next level is sent and folded. Operands: a level's parts complete. -/
  | hierLevel (group : Nat) (opseq : Nat) (level : Nat)
  /-- COLL_TIMEOUT (R491): At the timeout beat an incomplete collective ends and sends abort notices. Operands: edge of T. -/
  | collTimeout (group : Nat) (opseq : Nat)
  /-- COLL_GT_WRITE (R464): Setting WRITE opens the older group-table bank for writing. Operands: WRITE set in COLL_GT_CTL. -/
  | collGtWrite
  /-- COLL_GT_COMMIT (R464): Setting COMMIT starts validation of the written bank. Operands: COMMIT set. -/
  | collGtCommit
  /-- GT_VALIDATION_END (R464): Validation ends; the bank gets a new sequence or FAIL is set. Operands: validation ends. -/
  | gtValidationEnd
  /-- COLL_STAT_READ (R504): Read of COLL_STAT that clears ABORTS. Operands: read. -/
  | collStatRead
  /-- COLL_DROP_READ (R505): Read of COLL_DROP that clears LATE and STALE. Operands: read. -/
  | collDropRead
  /-- GROUP_WRITE (R466): Write bytes of an entry into the staging copy. Operands: message 0x0122. -/
  | groupWrite (m : Msg)
  /-- GROUP_COMMIT (R466): Commit the staging copy as a new bank. Operands: message 0x0123. -/
  | groupCommit (m : Msg)
  /-- HOST_RESET (R510): Link-down, hot reset or FLR closes sessions and halts host-memory rings. Operands: link-down, hot reset or FLR. -/
  | hostReset
  /-- HIF_DBC (R516): Doorbell posting a ring's TAIL. Operands: doorbell. -/
  | hifDbc (ring : Nat) (tail : BitVec 32)
  /-- HIF_DBH (R516): Doorbell reporting a ring's consumed completion records. Operands: doorbell. -/
  | hifDbh (ring : Nat) (chead : BitVec 32)
  /-- HIF_ERRHD (R548): Host reports consumption of T620 error records. Operands: doorbell. -/
  | hifErrhd (head : BitVec 32)
  /-- HIF_BEAT_CAPTURE (R512): A read of HIF_BEAT_LO captures the beat counter. Operands: read of HIF_BEAT_LO. -/
  | hifBeatCapture
  /-- COALESCE_TIMEOUT (R539): COAL_US expires and the ring's vector is raised. Operands: COAL_US expired. -/
  | coalesceTimeout (ring : Nat)
  /-- HELLO (R527): Negotiate the interface version. Operands: message 0x0001. -/
  | hello (m : Msg)
  /-- IDENTITY (R525): Return identity registers and key-slot roles. Operands: message 0x0002. -/
  | identity (m : Msg)
  /-- SESSION_OPEN (R530): First step of the session handshake. Operands: message 0x0010. -/
  | sessionOpen (m : Msg)
  /-- SESSION_PROOF (R530): Check the proof and bind the channel. Operands: message 0x0011; late = more than 1 s after the nonce (clock). -/
  | sessionProof (m : Msg) (late : Bool)
  /-- SESSION_CLOSE (R532): Close the session. Operands: message 0x0012. -/
  | sessionClose (m : Msg)
  /-- KEY_SET (R535): Install a wrapped key into a slot. Operands: message 0x0013. -/
  | keySet (m : Msg)
  /-- ERRLOG_READ (R534): Return and remove session error-log entries. Operands: message 0x0014. -/
  | errlogRead (m : Msg)
  /-- PART_CREATE (R545): Create a partition and refill its resources. Operands: message 0x0020. -/
  | partCreate (m : Msg)
  /-- PART_DESTROY (R547): Destroy a partition. Operands: message 0x0021. -/
  | partDestroy (m : Msg)
  /-- PART_QUERY (R525): Return a partition's state and resources. Operands: message 0x0022. -/
  | partQuery (m : Msg)
  /-- PREEMPT (R546): Halt a partition's rings with DRAIN or ABORT. Operands: message 0x0023. -/
  | preempt (m : Msg)
  /-- PREEMPT_DONE (R546): No command of the partition is live; PREEMPT is answered. Operands: no command of the partition is live. -/
  | preemptDone (part : Nat)
  /-- BAR2_MAP (R518): Map BAR2 slots to granules. Operands: message 0x0024. -/
  | bar2Map (m : Msg)
  /-- RING_CREATE (R536): Create a command ring and completion ring. Operands: message 0x0030. -/
  | ringCreate (m : Msg)
  /-- RING_DESTROY (R525): Destroy a HALTED ring with no live command. Operands: message 0x0031. -/
  | ringDestroy (m : Msg)
  /-- RING_RESTART (R541): Return a HALTED ring to RUNNING. Operands: message 0x0032. -/
  | ringRestart (m : Msg)
  /-- RING_QUERY (R525): Return ring state and counts. Operands: message 0x0033. -/
  | ringQuery (m : Msg)
  /-- WINDOW_OPEN (R638): Open the counter window to this session. Operands: message 0x0040. -/
  | windowOpen (m : Msg)
  /-- WINDOW_CLOSE (R525): Close the counter window. Operands: message 0x0041. -/
  | windowClose (m : Msg)
  /-- ERR_RING (R548): Set up the T620 error record ring. Operands: message 0x0050. -/
  | errRing (m : Msg)
  /-- NONCE_EXPIRY (R531): A module nonce passes 1 s unproven and the channel fails back to UNBOUND. Operands: 1 s unproven. -/
  | nonceExpiry (ch : Nat)
  /-- LOCK_EXPIRY (R531): A channel's lockout runs out and it returns to UNBOUND. Operands: lockout ran out. -/
  | lockExpiry (ch : Nat)
  /-- ROLLING_TEST_DUE (R559): Every ROT_H × 3,600 / 72 s the next core of a wing falls due. Operands: the core falls due. -/
  | rollingTestDue (wing : Nat) (core : Nat)
  /-- TEST_WITHDRAW (R562): A deferral expires and the core is withdrawn to be tested in place. Operands: the deferral expires. -/
  | testWithdraw (wing : Nat)
  /-- CORE_TEST_RESULT (R563): A core test ends; the core joins the attic or is RETIRED. Operands: test result. -/
  | coreTestResult (core : Nat) (pass : Bool) (durationMs : Nat)
  /-- HALLWAY_LANE_SPARE (R573): Resends or lock loss on a hallway lane move it to a spare lane. Operands: trigger on a hallway lane. -/
  | hallwayLaneSpare (dir : Nat) (lane : Nat)
  /-- NATIVE_REPORT_SEND (R578): A report datagram leaves within 1 ms of its first record. Operands: a datagram leaves. -/
  | nativeReportSend
  /-- BST_CHECK_READ (R588): Read of BST_CHECK that clears its counts. Operands: read. -/
  | bstCheckRead
  /-- LC_SET (R571): Change the life-cycle state. Operands: message 0x0110. -/
  | lcSet (m : Msg)
  /-- PATTERN_LOAD (R569): Install a signed pattern set. Operands: message 0x0111 with the set's bytes. -/
  | patternLoad (m : Msg) (image : List (BitVec 8))
  /-- TEST_RUN (R572): Run a diagnostic test of a named unit. Operands: message 0x0112; pass = what the unit answers. -/
  | testRun (m : Msg) (pass : Bool)
  /-- LEDGER_READ (R583): Return ledger entries through a mailbox. Operands: message 0x0113. -/
  | ledgerRead (m : Msg)
  /-- REPORT_RESEND (R580): Resend a range of native report records. Operands: message 0x0114. -/
  | reportResend (m : Msg)
  /-- BLADE_UNDERVOLTAGE (R592): The blade falls below 36 V and the module stops in order. Operands: filtered blade voltage fell below 36 V. -/
  | bladeUndervoltage (mv : Nat)
  /-- BLADE_OVERVOLTAGE (R592): The blade rises above 61 V and the module stops in order. Operands: above 61 V. -/
  | bladeOvervoltage (mv : Nat)
  /-- PWR_OV_WARN (R590): The blade enters 60 V to 61 V. Operands: 60 V to 61 V. -/
  | pwrOvWarn (mv : Nat)
  /-- PWR_UV_LIMIT (R591): Below 40 V the input current limit begins to act. Operands: below 40 V. -/
  | pwrUvLimit (mv : Nat)
  /-- STANDBY_LOSS (R590): The blade falls below 20 V and the standby side stops. Operands: below 20 V. -/
  | standbyLoss (mv : Nat)
  /-- VOLTAGE_RECOVERY (R594): After 100 ms in range following a voltage stop, the module starts again. Operands: 100 ms between 40 V and 60 V. -/
  | voltageRecovery (mv : Nat)
  /-- BLADE_EN_N_HIGH (R651): BLADE_EN_N breaks and the module stops in order. Operands: contact breaks. -/
  | bladeEnNHigh
  /-- GOVERNOR_TICK (R595): Every 10 µs the governor measures and steps the clock. Operands: 10 us measurement; below97ms = every measure under 97 % for 1 ms. -/
  | governorTick (powerW : Nat) (avgW : Nat) (mv : Nat) (below97ms : Bool)
  /-- PWR_THERM_WARN (R605): Tj reaches 95 °C. Operands: Tj in 1/8 C. -/
  | pwrThermWarn (tj8 : Int)
  /-- THERMAL_THROTTLE (R605): Tj reaches 100 °C and the clock is lowered. Operands: Tj in 1/8 C, once per ms. -/
  | thermalThrottle (tj8 : Int)
  /-- PWR_THERM_STOP (R605): Tj holds 105 °C for 1 ms and the module stops in order. Operands: 105 C for 1 ms. -/
  | pwrThermStop (tj8 : Int)
  /-- THERMAL_TRIP (R605): At 110 °C the comparator removes main power at once. Operands: 110 C comparator. -/
  | thermalTrip
  /-- SITE_POWER_N (R655): SITE_POWER_N holds a new level for DEBOUNCE and is reported. Operands: level held for DEBOUNCE. -/
  | sitePowerN (asserted : Bool)
  /-- SITE_POWER_REPORT (R599): Every 100 ms each module reports its SITE_POWER_N level. Operands: every 100 ms. -/
  | sitePowerReport
  /-- PROFILE_DECISION (R600): The master's MCP receives a report and schedules a PROFILE event if needed. Operands: report of module src received by the master's MCP. -/
  | profileDecision (src : Nat) (asserted : Bool)
  /-- BOOT (R606): Blade power arrives and the module boots. Operands: blade power arrives. -/
  | boot (mv : Nat)
  /-- MCP_B_BOOT_TAKEOVER (R608): MCP-A misses step 3 within 2 s and MCP-B restarts the boot. Operands: step 3 missed within 2 s. -/
  | mcpBBootTakeover
  /-- MCP_HEARTBEAT_MISS (R619): Four missed heartbeats make MCP-B take over. Operands: fourth missed heartbeat. -/
  | mcpHeartbeatMiss
  /-- WC_STANDBY_TAKEOVER (R620): A wing controller's standby takes over after missed heartbeats. Operands: fourth missed heartbeat. -/
  | wcStandbyTakeover (wing : Nat)
  /-- FLASH_COPY_WRITE (R616): A committed runtime table's flash copy is written within 100 ms. Operands: the flash copy of a committed runtime table is written. -/
  | flashCopyWrite (kind : Nat)
  /-- PWR_ERR_READ (R625): Read of PWR_ERR that clears GOV_CNT. Operands: read. -/
  | pwrErrRead
  /-- PROFILE_REQ (R599): Set or clear the operator profile cap. Operands: message 0x0130. -/
  | profileReq (m : Msg)
  /-- POLICY_SET (R598): Write the power policy table. Operands: message 0x0131. -/
  | policySet (m : Msg)
  /-- SHUTDOWN (R611): Orderly shutdown with self test and record. Operands: message 0x0132. -/
  | shutdown (m : Msg)
  /-- IMAGE_WRITE (R615): Write a firmware image copy. Operands: message 0x0133 with the image's bytes. -/
  | imageWrite (m : Msg) (image : List (BitVec 8))
  /-- CAL_SET (R618): Write user calibration deltas. Operands: message 0x0134. -/
  | calSet (m : Msg) (image : List (BitVec 8))
  /-- CAL_READ (R621): Return factory, user and effective calibration. Operands: message 0x0135. -/
  | calRead (m : Msg)
  /-- TAKEOVER (R619): Force the standby MCP or wing controller to take over. Operands: message 0x0136. -/
  | takeover (m : Msg)
  /-- COUNTER_CAPTURE (R635): A read of word 0 of a view captures all its words. Operands: read of word 0 of a view (path 0: window, 1: doorbell page). -/
  | counterCapture (path : Nat) (off : Nat)
  /-- SWAP (R632): Swap a tracker's banks. Operands: SWAP written to CNT_TRK_x. -/
  | swap (x : Nat)
  /-- CNT_TRK_READ (R646): Read of CNT_TRK_x that clears MISSED. Operands: read. -/
  | cntTrkRead (x : Nat)
  /-- CNT_TRC_READ (R647): Read of CNT_TRC_y that clears LOST. Operands: read. -/
  | cntTrcRead (y : Nat)
  /-- CNT_TRACK (R645): Set a tracker's mode and filter, or swap it. Operands: message 0x0140. -/
  | cntTrack (m : Msg)
  /-- CNT_WINDOW (R645): Schedule a COUNTER_WINDOW for a group. Operands: message 0x0141. -/
  | cntWindow (m : Msg)
  /-- TRACE_CFG (R641): Set a trace ring's base, size, TSHIFT and EN. Operands: message 0x0142. -/
  | traceCfg (m : Msg)
  /-- TRACE_READ (R641): Return global trace records. Operands: message 0x0143. -/
  | traceRead (m : Msg)
  /-- SMBUS_READ (R656): An SMBus read of a listed code, clearing ALERT when read. Operands: Read Byte/Word/Block of a listed code. -/
  | smbusRead (code : Nat)
  /-- SMBUS_REFUSED (R656): An unlisted code or write transfer is answered with NACK. Operands: an unlisted code or a write transfer. -/
  | smbusRefused (code : Nat) (write : Bool)
  /-- CART_SERVICE (R663): Prepare a cartridge bay for removal. Operands: message 0x0150. -/
  | cartService (m : Msg)
  /-- LEVER_OPEN (R664): A bay lever opens; an ACTIVE cartridge is treated as faulted. Operands: the bay's lever opens. -/
  | leverOpen (c : Nat)
  /-- CARTRIDGE_INSERT (R665): A cartridge is inserted and begins warm-up. Operands: a cartridge is inserted. -/
  | cartridgeInsert (c : Nat)
  /-- CARTRIDGE_LOCKED (R665): Warm-up ends; the cartridge becomes STANDBY or FAILED. Operands: warm-up ends. -/
  | cartridgeLocked (c : Nat) (good : Bool)
  /-- REGISTER_WRITE (R19): A write to a register field with no row of its own. Operands: a write of the 32-bit word at a register-space
  offset, or at a device address of latch space (R298, R377, R386). -/
  | registerWrite (who : Agent) (off : Nat) (val : BitVec 32)
  /-- LOCK_REGAINED (R407): A receiver in RELOCK regains light and lock within 1 ms, and the port returns to UP and resends from its replay buffer. Operands: light and lock back within 1 ms. -/
  | lockRegained (port : Nat)
  /-- LIGHT_STOP (R660): 1 ms after its link goes DOWN a port stops sending light and falls back to 1 ms training bursts every 2 s. Operands: 1 ms after the link went DOWN. -/
  | lightStop (port : Nat)
  /-- CARTRIDGE_REMOVAL (R662): A cartridge leaves its bay, and its state becomes ABSENT with the lamp off. Operands: the cartridge leaves its bay. -/
  | cartridgeRemoval (c : Nat)
  /-- CONFIGURATION_REQUEST (R609): A PCI Express configuration request reaches the function and completes with Retry Status until the function is ready. Operands: a PCI Express configuration request. -/
  | configurationRequest (off : Nat)
  /-- REDUNDANCY_ROW_REMAP (R573): An MCP switches an SRAM row with repeated corrections to a redundancy row, holding the bank 1 µs. Operands: an MCP switches an SRAM row. -/
  | redundancyRowRemap (larder : Bool) (inst : Nat) (bank : Nat) (row : Nat)
  /-- DRAIN_S_EXPIRY (R611): DRAIN_S seconds after an orderly shutdown began, partitions still live receive PREEMPT with ABORT. Operands: DRAIN_S seconds after the shutdown began. -/
  | drainSExpiry
  /-- LOCKSTEP_MISCOMPARE (R619): MCP-A reports a lockstep miscompare or watchdog expiry, and MCP-B takes over. Operands: MCP-A reports a miscompare or watchdog expiry. -/
  | lockstepMiscompare
  /-- WC_PRIMARY_MISCOMPARE (R620): A miscompare of a wing's primary controller makes its standby take over at once. Operands: the primary miscompares. -/
  | wcPrimaryMiscompare (wing : Nat)
  /-- MCP_A_TEST_RESULT (R619): The test of a replaced MCP-A ends; it becomes standby, or PWR_STANDBY_LOST is logged. Operands: the replaced MCP-A's test ends. -/
  | mcpATestResult (pass : Bool)
  deriving DecidableEq, Repr

end Sys2Proof
end

