-- ==== Sys2Proof/Decode.lean ====
section
/-! DEFINITION. The words of commands. No row of the opcode table gives bits: a command is an access to a register, a message,
a packet, a slot or an event, and none has a word of its own in the table. The slot commands stand for the slots of a bundle, which has
one: the bundle's layout (R202, R203), the formats of its slots (R209, R213, R234, R240) and their opcodes (R210, R217, R234, R241) are
here, both ways. -/

namespace Sys2Proof

/-- The command that a word spells by the table's bits: none, since no row of the table gives bits. -/
def decodeTableWord (nbits w : Nat) : Option Instr :=
  match nbits, w with
  | _, _ => none

/-! ### Slot formats -/

/-- The S slot: OP [63:56], SD [55:51], SA [50:46], SB [45:41], reserved [40:32], IMM [31:0] (R209). -/
def SF.word (op : BitVec 8) (f : SF) : BitVec 64 := op ++ f.sd ++ f.sa ++ f.sb ++ f.rsv ++ f.imm
def SF.ofWord (w : BitVec 64) : SF :=
  { sd := w.extractLsb' 51 5, sa := w.extractLsb' 46 5, sb := w.extractLsb' 41 5, rsv := w.extractLsb' 32 9, imm := w.extractLsb' 0 32 }

/-- The V slot (R213). -/
def VF.word (op : BitVec 10) (f : VF) : BitVec 80 :=
  op ++ f.type ++ BitVec.ofBool f.strict ++ BitVec.ofBool f.pn ++ f.pred ++ BitVec.ofBool f.pen ++ f.vd ++ f.va ++ f.vb ++ f.vc ++ f.ss
    ++ f.rsv ++ f.imm
def VF.ofWord (w : BitVec 80) : VF :=
  { type := w.extractLsb' 66 4, strict := w.getLsbD 65, pn := w.getLsbD 64, pred := w.extractLsb' 61 3, pen := w.getLsbD 60
    vd := w.extractLsb' 55 5, va := w.extractLsb' 50 5, vb := w.extractLsb' 45 5, vc := w.extractLsb' 40 5, ss := w.extractLsb' 35 5
    rsv := w.extractLsb' 32 3, imm := w.extractLsb' 0 32 }

/-- M.TILE (R234). -/
def MTileF.word (op : BitVec 8) (f : MTileF) : BitVec 64 :=
  op ++ f.arr ++ f.half ++ f.td ++ f.smask ++ f.spad ++ f.sout ++ f.latch ++ BitVec.ofBool f.men ++ BitVec.ofBool f.pen
    ++ BitVec.ofBool f.oen ++ f.rsv
def MTileF.ofWord (w : BitVec 64) : MTileF :=
  { arr := w.extractLsb' 54 2, half := w.extractLsb' 52 2, td := w.extractLsb' 48 4, smask := w.extractLsb' 43 5
    spad := w.extractLsb' 38 5, sout := w.extractLsb' 33 5, latch := w.extractLsb' 27 6, men := w.getLsbD 26, pen := w.getLsbD 25
    oen := w.getLsbD 24, rsv := w.extractLsb' 0 24 }

/-- M.TSET and M.TADD: reserved [55:52], TD [51:48], SA [47:43], reserved [42:38], FIELD [37:32], reserved [31:0] (R234); `rsv` joins the
reserved ranges from the top. -/
def MSetF.word (op : BitVec 8) (f : MSetF) : BitVec 64 :=
  op ++ f.rsv.extractLsb' 37 4 ++ f.td ++ f.sa ++ f.rsv.extractLsb' 32 5 ++ f.field ++ f.rsv.extractLsb' 0 32
def MSetF.ofWord (w : BitVec 64) : MSetF :=
  { td := w.extractLsb' 48 4, sa := w.extractLsb' 43 5, field := w.extractLsb' 32 6
    rsv := w.extractLsb' 52 4 ++ w.extractLsb' 38 5 ++ w.extractLsb' 0 32 }

/-- M.TCPY: reserved [55:52], TD [51:48], TS [47:44], reserved [43:0] (R234); `rsv` joins the reserved ranges from the top. -/
def MCpyF.word (op : BitVec 8) (f : MCpyF) : BitVec 64 := op ++ f.rsv.extractLsb' 44 4 ++ f.td ++ f.ts ++ f.rsv.extractLsb' 0 44
def MCpyF.ofWord (w : BitVec 64) : MCpyF :=
  { td := w.extractLsb' 48 4, ts := w.extractLsb' 44 4, rsv := w.extractLsb' 52 4 ++ w.extractLsb' 0 44 }

/-- The C slot's formats, OP in [47:41], A in [40:36] and B in [35:31] of each (R240). -/
def CA.word (op : BitVec 7) (f : CA) : BitVec 48 := op ++ f.a ++ f.b ++ f.off
def CA.ofWord (w : BitVec 48) : CA := { a := w.extractLsb' 36 5, b := w.extractLsb' 31 5, off := w.extractLsb' 0 31 }
def CV.word (op : BitVec 7) (f : CV) : BitVec 48 := op ++ f.a ++ f.b ++ BitVec.ofBool f.pen ++ f.pred ++ f.vc ++ f.width ++ f.off
def CV.ofWord (w : BitVec 48) : CV :=
  { a := w.extractLsb' 36 5, b := w.extractLsb' 31 5, pen := w.getLsbD 30, pred := w.extractLsb' 27 3, vc := w.extractLsb' 22 5
    width := w.extractLsb' 20 2, off := w.extractLsb' 0 20 }
def CX.word (op : BitVec 7) (f : CX) : BitVec 48 := op ++ f.a ++ f.b ++ f.val ++ f.rsv
def CX.ofWord (w : BitVec 48) : CX :=
  { a := w.extractLsb' 36 5, b := w.extractLsb' 31 5, val := w.extractLsb' 26 5, rsv := w.extractLsb' 0 26 }
def CL.word (op : BitVec 7) (f : CL) : BitVec 48 := op ++ f.a ++ f.b ++ f.latch ++ f.cond ++ BitVec.ofBool f.immv ++ f.imm
def CL.ofWord (w : BitVec 48) : CL :=
  { a := w.extractLsb' 36 5, b := w.extractLsb' 31 5, latch := w.extractLsb' 25 6, cond := w.extractLsb' 21 4, immv := w.getLsbD 20
    imm := w.extractLsb' 0 20 }
def CD.word (op : BitVec 7) (f : CD) : BitVec 48 := op ++ f.a ++ f.b ++ f.q ++ f.rsv
def CD.ofWord (w : BitVec 48) : CD :=
  { a := w.extractLsb' 36 5, b := w.extractLsb' 31 5, q := w.extractLsb' 29 2, rsv := w.extractLsb' 0 29 }

/-! ### Opcodes: none for a reserved one (R206) -/

/-- The S slot (R210). -/
def decodeS (x : Issue) (w : BitVec 64) : Option Instr :=
  match (w.extractLsb' 56 8).toNat with
  | 0x00 => some (.sNop x (.ofWord w))
  | 0x01 => some (.sAdd x (.ofWord w))
  | 0x02 => some (.sSub x (.ofWord w))
  | 0x03 => some (.sAddi x (.ofWord w))
  | 0x04 => some (.sMul x (.ofWord w))
  | 0x05 => some (.sMulhu x (.ofWord w))
  | 0x06 => some (.sMulhs x (.ofWord w))
  | 0x08 => some (.sAnd x (.ofWord w))
  | 0x09 => some (.sOr x (.ofWord w))
  | 0x0A => some (.sXor x (.ofWord w))
  | 0x0B => some (.sAndi x (.ofWord w))
  | 0x0C => some (.sShl x (.ofWord w))
  | 0x0D => some (.sShr x (.ofWord w))
  | 0x0E => some (.sSar x (.ofWord w))
  | 0x0F => some (.sShli x (.ofWord w))
  | 0x10 => some (.sShri x (.ofWord w))
  | 0x11 => some (.sSari x (.ofWord w))
  | 0x12 => some (.sSlt x (.ofWord w))
  | 0x13 => some (.sSltu x (.ofWord w))
  | 0x14 => some (.sSeq x (.ofWord w))
  | 0x15 => some (.sMin x (.ofWord w))
  | 0x16 => some (.sMax x (.ofWord w))
  | 0x17 => some (.sMinu x (.ofWord w))
  | 0x18 => some (.sMaxu x (.ofWord w))
  | 0x19 => some (.sLi x (.ofWord w))
  | 0x1A => some (.sLui x (.ofWord w))
  | 0x1B => some (.sPopc x (.ofWord w))
  | 0x1C => some (.sClz x (.ofWord w))
  | 0x1D => some (.sBfx x (.ofWord w))
  | 0x20 => some (.sB x (.ofWord w))
  | 0x21 => some (.sBeq x (.ofWord w))
  | 0x22 => some (.sBne x (.ofWord w))
  | 0x23 => some (.sBlt x (.ofWord w))
  | 0x24 => some (.sBge x (.ofWord w))
  | 0x25 => some (.sBltu x (.ofWord w))
  | 0x26 => some (.sBgeu x (.ofWord w))
  | 0x27 => some (.sCall x (.ofWord w))
  | 0x28 => some (.sJr x (.ofWord w))
  | 0x29 => some (.sCrd x (.ofWord w))
  | 0x2A => some (.sCwr x (.ofWord w))
  | 0x2B => some (.sPcnt x (.ofWord w))
  | 0x2E => some (.sBrk x (.ofWord w))
  | 0x2F => some (.sEnd x (.ofWord w))
  | _ => none

/-- The V slot (R217). -/
def decodeV (x : Issue) (w : BitVec 80) : Option Instr :=
  match (w.extractLsb' 70 10).toNat with
  | 0x000 => some (.vNop x (.ofWord w))
  | 0x001 => some (.vAdd x (.ofWord w))
  | 0x002 => some (.vSub x (.ofWord w))
  | 0x003 => some (.vMul x (.ofWord w))
  | 0x004 => some (.vFma x (.ofWord w))
  | 0x005 => some (.vFms x (.ofWord w))
  | 0x006 => some (.vDiv x (.ofWord w))
  | 0x007 => some (.vSqrt x (.ofWord w))
  | 0x008 => some (.vMax x (.ofWord w))
  | 0x009 => some (.vMin x (.ofWord w))
  | 0x00A => some (.vAbs x (.ofWord w))
  | 0x00B => some (.vNeg x (.ofWord w))
  | 0x00C => some (.vAdds x (.ofWord w))
  | 0x00D => some (.vSubs x (.ofWord w))
  | 0x00E => some (.vMulh x (.ofWord w))
  | 0x010 => some (.vAnd x (.ofWord w))
  | 0x011 => some (.vOr x (.ofWord w))
  | 0x012 => some (.vXor x (.ofWord w))
  | 0x013 => some (.vNot x (.ofWord w))
  | 0x014 => some (.vShl x (.ofWord w))
  | 0x015 => some (.vShr x (.ofWord w))
  | 0x016 => some (.vSar x (.ofWord w))
  | 0x018 => some (.vLdexp x (.ofWord w))
  | 0x019 => some (.vExp2 x (.ofWord w))
  | 0x01A => some (.vLog2 x (.ofWord w))
  | 0x020 => some (.vCmp x (.ofWord w))
  | 0x021 => some (.vSel x (.ofWord w))
  | 0x022 => some (.vPand x (.ofWord w))
  | 0x023 => some (.vPor x (.ofWord w))
  | 0x024 => some (.vPxor x (.ofWord w))
  | 0x025 => some (.vPnot x (.ofWord w))
  | 0x028 => some (.vBcast x (.ofWord w))
  | 0x029 => some (.vIdx x (.ofWord w))
  | 0x02A => some (.vGetl x (.ofWord w))
  | 0x02B => some (.vSetl x (.ofWord w))
  | 0x02C => some (.vPerm x (.ofWord w))
  | 0x02D => some (.vMov x (.ofWord w))
  | 0x030 => some (.vRsum x (.ofWord w))
  | 0x031 => some (.vRssq x (.ofWord w))
  | 0x032 => some (.vRmax x (.ofWord w))
  | 0x033 => some (.vRmin x (.ofWord w))
  | 0x038 => some (.vMomAdd x (.ofWord w))
  | 0x039 => some (.vMomCmb x (.ofWord w))
  | 0x03A => some (.vMomRed x (.ofWord w))
  | 0x040 => some (.vCvt x (.ofWord w))
  | 0x041 => some (.vQscl x (.ofWord w))
  | 0x042 => some (.vCvtq x (.ofWord w))
  | 0x043 => some (.vCvtf x (.ofWord w))
  | 0x044 => some (.vPack4 x (.ofWord w))
  | 0x045 => some (.vUnpk4 x (.ofWord w))
  | 0x046 => some (.vPack6 x (.ofWord w))
  | 0x047 => some (.vUnpk6 x (.ofWord w))
  | _ => none

/-- The M slot (R234). M.NOP has no fields: its other bits are reserved. -/
def decodeM (x : Issue) (w : BitVec 64) : Option Instr :=
  match (w.extractLsb' 56 8).toNat with
  | 0x00 => if w = 0 then some (.mNop x) else none
  | 0x01 => some (.mTile x (.ofWord w))
  | 0x02 => some (.mTset x (.ofWord w))
  | 0x03 => some (.mTcpy x (.ofWord w))
  | 0x04 => some (.mTadd x (.ofWord w))
  | _ => none

/-- The C slot (R241). C.NOP and C.FENCE have no fields: their other bits are reserved. -/
def decodeC (x : Issue) (w : BitVec 48) : Option Instr :=
  match (w.extractLsb' 41 7).toNat with
  | 0x00 => if w.extractLsb' 0 41 = 0 then some (.cNop x) else none
  | 0x01 => some (.cLdb x (.ofWord w))
  | 0x02 => some (.cLdh x (.ofWord w))
  | 0x03 => some (.cLdw x (.ofWord w))
  | 0x04 => some (.cLdd x (.ofWord w))
  | 0x05 => some (.cLdbs x (.ofWord w))
  | 0x06 => some (.cLdhs x (.ofWord w))
  | 0x07 => some (.cLdws x (.ofWord w))
  | 0x08 => some (.cStb x (.ofWord w))
  | 0x09 => some (.cSth x (.ofWord w))
  | 0x0A => some (.cStw x (.ofWord w))
  | 0x0B => some (.cStd x (.ofWord w))
  | 0x0C => some (.cGld x (.ofWord w))
  | 0x0D => some (.cGst x (.ofWord w))
  | 0x10 => some (.cVld x (.ofWord w))
  | 0x11 => some (.cVst x (.ofWord w))
  | 0x12 => some (.cVgth x (.ofWord w))
  | 0x13 => some (.cVsct x (.ofWord w))
  | 0x14 => some (.cPld x (.ofWord w))
  | 0x15 => some (.cPst x (.ofWord w))
  | 0x16 => some (.cTld x (.ofWord w))
  | 0x17 => some (.cTst x (.ofWord w))
  | 0x18 => some (.cFadd x (.ofWord w))
  | 0x19 => some (.cSwap x (.ofWord w))
  | 0x1A => some (.cCas x (.ofWord w))
  | 0x20 => some (.cDma x (.ofWord w))
  | 0x21 => some (.cLpost x (.ofWord w))
  | 0x22 => if w.extractLsb' 0 41 = 0 then some (.cFence x) else none
  | 0x28 => some (.cLset x (.ofWord w))
  | 0x29 => some (.cLadd x (.ofWord w))
  | 0x2A => some (.cLwait x (.ofWord w))
  | 0x2B => some (.cLrd x (.ofWord w))
  | 0x2C => some (.cLarr x (.ofWord w))
  | _ => none

/-! ### Bundles -/

/-- A slot's word. -/
inductive SlotWord where
  | s (w : BitVec 64)
  | v (w : BitVec 80)
  | m (w : BitVec 64)
  | c (w : BitVec 48)
  deriving DecidableEq, Repr

/-- The slots of a bundle: S in [63:0], V in [143:64], M in [207:144], C in [255:208] (R202). -/
def bundleSlots (w : BitVec 256) : List SlotWord :=
  [.s (w.extractLsb' 0 64), .v (w.extractLsb' 64 80), .m (w.extractLsb' 144 64), .c (w.extractLsb' 208 48)]

/-- A bundle from its slots. -/
def bundleWord (s : BitVec 64) (v : BitVec 80) (m : BitVec 64) (c : BitVec 48) : BitVec 256 := c ++ m ++ v ++ s

/-- A bundle as its 32 bytes stand in the core store, little-endian (R14, R202). -/
def bundleBytes (w : BitVec 256) : List (BitVec 8) := (List.range 32).map (fun i => w.extractLsb' (8 * i) 8)
def bundleOfBytes (b : List (BitVec 8)) : BitVec 256 := BitVec.ofNat 256 (b.foldr (fun x n => x.toNat + 256 * n) 0)

/-- The kind of a slot: 0 S, 1 V, 2 M, 3 C, in the order of R184. -/
def SlotWord.kind : SlotWord → Nat
  | .s _ => 0
  | .v _ => 1
  | .m _ => 2
  | .c _ => 3

/-- The command a slot's word spells for a thread; none for a reserved opcode (R206). -/
def SlotWord.decode (x : Issue) : SlotWord → Option Instr
  | .s w => decodeS x w
  | .v w => decodeV x w
  | .m w => decodeM x w
  | .c w => decodeC x w

/-- The word of a slot command; none for a command that is no slot. -/
def Instr.slotWord : Instr → Option SlotWord
  | .sNop _ f => some (.s (f.word 0x00))
  | .sAdd _ f => some (.s (f.word 0x01))
  | .sSub _ f => some (.s (f.word 0x02))
  | .sAddi _ f => some (.s (f.word 0x03))
  | .sMul _ f => some (.s (f.word 0x04))
  | .sMulhu _ f => some (.s (f.word 0x05))
  | .sMulhs _ f => some (.s (f.word 0x06))
  | .sAnd _ f => some (.s (f.word 0x08))
  | .sOr _ f => some (.s (f.word 0x09))
  | .sXor _ f => some (.s (f.word 0x0A))
  | .sAndi _ f => some (.s (f.word 0x0B))
  | .sShl _ f => some (.s (f.word 0x0C))
  | .sShr _ f => some (.s (f.word 0x0D))
  | .sSar _ f => some (.s (f.word 0x0E))
  | .sShli _ f => some (.s (f.word 0x0F))
  | .sShri _ f => some (.s (f.word 0x10))
  | .sSari _ f => some (.s (f.word 0x11))
  | .sSlt _ f => some (.s (f.word 0x12))
  | .sSltu _ f => some (.s (f.word 0x13))
  | .sSeq _ f => some (.s (f.word 0x14))
  | .sMin _ f => some (.s (f.word 0x15))
  | .sMax _ f => some (.s (f.word 0x16))
  | .sMinu _ f => some (.s (f.word 0x17))
  | .sMaxu _ f => some (.s (f.word 0x18))
  | .sLi _ f => some (.s (f.word 0x19))
  | .sLui _ f => some (.s (f.word 0x1A))
  | .sPopc _ f => some (.s (f.word 0x1B))
  | .sClz _ f => some (.s (f.word 0x1C))
  | .sBfx _ f => some (.s (f.word 0x1D))
  | .sB _ f => some (.s (f.word 0x20))
  | .sBeq _ f => some (.s (f.word 0x21))
  | .sBne _ f => some (.s (f.word 0x22))
  | .sBlt _ f => some (.s (f.word 0x23))
  | .sBge _ f => some (.s (f.word 0x24))
  | .sBltu _ f => some (.s (f.word 0x25))
  | .sBgeu _ f => some (.s (f.word 0x26))
  | .sCall _ f => some (.s (f.word 0x27))
  | .sJr _ f => some (.s (f.word 0x28))
  | .sCrd _ f => some (.s (f.word 0x29))
  | .sCwr _ f => some (.s (f.word 0x2A))
  | .sPcnt _ f => some (.s (f.word 0x2B))
  | .sBrk _ f => some (.s (f.word 0x2E))
  | .sEnd _ f => some (.s (f.word 0x2F))
  | .vNop _ f => some (.v (f.word 0x000))
  | .vAdd _ f => some (.v (f.word 0x001))
  | .vSub _ f => some (.v (f.word 0x002))
  | .vMul _ f => some (.v (f.word 0x003))
  | .vFma _ f => some (.v (f.word 0x004))
  | .vFms _ f => some (.v (f.word 0x005))
  | .vDiv _ f => some (.v (f.word 0x006))
  | .vSqrt _ f => some (.v (f.word 0x007))
  | .vMax _ f => some (.v (f.word 0x008))
  | .vMin _ f => some (.v (f.word 0x009))
  | .vAbs _ f => some (.v (f.word 0x00A))
  | .vNeg _ f => some (.v (f.word 0x00B))
  | .vAdds _ f => some (.v (f.word 0x00C))
  | .vSubs _ f => some (.v (f.word 0x00D))
  | .vMulh _ f => some (.v (f.word 0x00E))
  | .vAnd _ f => some (.v (f.word 0x010))
  | .vOr _ f => some (.v (f.word 0x011))
  | .vXor _ f => some (.v (f.word 0x012))
  | .vNot _ f => some (.v (f.word 0x013))
  | .vShl _ f => some (.v (f.word 0x014))
  | .vShr _ f => some (.v (f.word 0x015))
  | .vSar _ f => some (.v (f.word 0x016))
  | .vLdexp _ f => some (.v (f.word 0x018))
  | .vExp2 _ f => some (.v (f.word 0x019))
  | .vLog2 _ f => some (.v (f.word 0x01A))
  | .vCmp _ f => some (.v (f.word 0x020))
  | .vSel _ f => some (.v (f.word 0x021))
  | .vPand _ f => some (.v (f.word 0x022))
  | .vPor _ f => some (.v (f.word 0x023))
  | .vPxor _ f => some (.v (f.word 0x024))
  | .vPnot _ f => some (.v (f.word 0x025))
  | .vBcast _ f => some (.v (f.word 0x028))
  | .vIdx _ f => some (.v (f.word 0x029))
  | .vGetl _ f => some (.v (f.word 0x02A))
  | .vSetl _ f => some (.v (f.word 0x02B))
  | .vPerm _ f => some (.v (f.word 0x02C))
  | .vMov _ f => some (.v (f.word 0x02D))
  | .vRsum _ f => some (.v (f.word 0x030))
  | .vRssq _ f => some (.v (f.word 0x031))
  | .vRmax _ f => some (.v (f.word 0x032))
  | .vRmin _ f => some (.v (f.word 0x033))
  | .vMomAdd _ f => some (.v (f.word 0x038))
  | .vMomCmb _ f => some (.v (f.word 0x039))
  | .vMomRed _ f => some (.v (f.word 0x03A))
  | .vCvt _ f => some (.v (f.word 0x040))
  | .vQscl _ f => some (.v (f.word 0x041))
  | .vCvtq _ f => some (.v (f.word 0x042))
  | .vCvtf _ f => some (.v (f.word 0x043))
  | .vPack4 _ f => some (.v (f.word 0x044))
  | .vUnpk4 _ f => some (.v (f.word 0x045))
  | .vPack6 _ f => some (.v (f.word 0x046))
  | .vUnpk6 _ f => some (.v (f.word 0x047))
  | .mNop _ => some (.m 0)
  | .mTile _ f => some (.m (f.word 0x01))
  | .mTset _ f => some (.m (f.word 0x02))
  | .mTcpy _ f => some (.m (f.word 0x03))
  | .mTadd _ f => some (.m (f.word 0x04))
  | .cNop _ => some (.c (0x00#7 ++ 0#41))
  | .cLdb _ f => some (.c (f.word 0x01))
  | .cLdh _ f => some (.c (f.word 0x02))
  | .cLdw _ f => some (.c (f.word 0x03))
  | .cLdd _ f => some (.c (f.word 0x04))
  | .cLdbs _ f => some (.c (f.word 0x05))
  | .cLdhs _ f => some (.c (f.word 0x06))
  | .cLdws _ f => some (.c (f.word 0x07))
  | .cStb _ f => some (.c (f.word 0x08))
  | .cSth _ f => some (.c (f.word 0x09))
  | .cStw _ f => some (.c (f.word 0x0A))
  | .cStd _ f => some (.c (f.word 0x0B))
  | .cGld _ f => some (.c (f.word 0x0C))
  | .cGst _ f => some (.c (f.word 0x0D))
  | .cVld _ f => some (.c (f.word 0x10))
  | .cVst _ f => some (.c (f.word 0x11))
  | .cVgth _ f => some (.c (f.word 0x12))
  | .cVsct _ f => some (.c (f.word 0x13))
  | .cPld _ f => some (.c (f.word 0x14))
  | .cPst _ f => some (.c (f.word 0x15))
  | .cTld _ f => some (.c (f.word 0x16))
  | .cTst _ f => some (.c (f.word 0x17))
  | .cFadd _ f => some (.c (f.word 0x18))
  | .cSwap _ f => some (.c (f.word 0x19))
  | .cCas _ f => some (.c (f.word 0x1A))
  | .cDma _ f => some (.c (f.word 0x20))
  | .cLpost _ f => some (.c (f.word 0x21))
  | .cFence _ => some (.c (0x22#7 ++ 0#41))
  | .cLset _ f => some (.c (f.word 0x28))
  | .cLadd _ f => some (.c (f.word 0x29))
  | .cLwait _ f => some (.c (f.word 0x2A))
  | .cLrd _ f => some (.c (f.word 0x2B))
  | .cLarr _ f => some (.c (f.word 0x2C))
  | _ => none

/-- The thread that a slot command is for. -/
def Instr.issue : Instr → Option Issue
  | .sNop x _ => some x
  | .sAdd x _ => some x
  | .sSub x _ => some x
  | .sAddi x _ => some x
  | .sMul x _ => some x
  | .sMulhu x _ => some x
  | .sMulhs x _ => some x
  | .sAnd x _ => some x
  | .sOr x _ => some x
  | .sXor x _ => some x
  | .sAndi x _ => some x
  | .sShl x _ => some x
  | .sShr x _ => some x
  | .sSar x _ => some x
  | .sShli x _ => some x
  | .sShri x _ => some x
  | .sSari x _ => some x
  | .sSlt x _ => some x
  | .sSltu x _ => some x
  | .sSeq x _ => some x
  | .sMin x _ => some x
  | .sMax x _ => some x
  | .sMinu x _ => some x
  | .sMaxu x _ => some x
  | .sLi x _ => some x
  | .sLui x _ => some x
  | .sPopc x _ => some x
  | .sClz x _ => some x
  | .sBfx x _ => some x
  | .sB x _ => some x
  | .sBeq x _ => some x
  | .sBne x _ => some x
  | .sBlt x _ => some x
  | .sBge x _ => some x
  | .sBltu x _ => some x
  | .sBgeu x _ => some x
  | .sCall x _ => some x
  | .sJr x _ => some x
  | .sCrd x _ => some x
  | .sCwr x _ => some x
  | .sPcnt x _ => some x
  | .sBrk x _ => some x
  | .sEnd x _ => some x
  | .vNop x _ => some x
  | .vAdd x _ => some x
  | .vSub x _ => some x
  | .vMul x _ => some x
  | .vFma x _ => some x
  | .vFms x _ => some x
  | .vDiv x _ => some x
  | .vSqrt x _ => some x
  | .vMax x _ => some x
  | .vMin x _ => some x
  | .vAbs x _ => some x
  | .vNeg x _ => some x
  | .vAdds x _ => some x
  | .vSubs x _ => some x
  | .vMulh x _ => some x
  | .vAnd x _ => some x
  | .vOr x _ => some x
  | .vXor x _ => some x
  | .vNot x _ => some x
  | .vShl x _ => some x
  | .vShr x _ => some x
  | .vSar x _ => some x
  | .vLdexp x _ => some x
  | .vExp2 x _ => some x
  | .vLog2 x _ => some x
  | .vCmp x _ => some x
  | .vSel x _ => some x
  | .vPand x _ => some x
  | .vPor x _ => some x
  | .vPxor x _ => some x
  | .vPnot x _ => some x
  | .vBcast x _ => some x
  | .vIdx x _ => some x
  | .vGetl x _ => some x
  | .vSetl x _ => some x
  | .vPerm x _ => some x
  | .vMov x _ => some x
  | .vRsum x _ => some x
  | .vRssq x _ => some x
  | .vRmax x _ => some x
  | .vRmin x _ => some x
  | .vMomAdd x _ => some x
  | .vMomCmb x _ => some x
  | .vMomRed x _ => some x
  | .vCvt x _ => some x
  | .vQscl x _ => some x
  | .vCvtq x _ => some x
  | .vCvtf x _ => some x
  | .vPack4 x _ => some x
  | .vUnpk4 x _ => some x
  | .vPack6 x _ => some x
  | .vUnpk6 x _ => some x
  | .mNop x => some x
  | .mTile x _ => some x
  | .mTset x _ => some x
  | .mTcpy x _ => some x
  | .mTadd x _ => some x
  | .cNop x => some x
  | .cLdb x _ => some x
  | .cLdh x _ => some x
  | .cLdw x _ => some x
  | .cLdd x _ => some x
  | .cLdbs x _ => some x
  | .cLdhs x _ => some x
  | .cLdws x _ => some x
  | .cStb x _ => some x
  | .cSth x _ => some x
  | .cStw x _ => some x
  | .cStd x _ => some x
  | .cGld x _ => some x
  | .cGst x _ => some x
  | .cVld x _ => some x
  | .cVst x _ => some x
  | .cVgth x _ => some x
  | .cVsct x _ => some x
  | .cPld x _ => some x
  | .cPst x _ => some x
  | .cTld x _ => some x
  | .cTst x _ => some x
  | .cFadd x _ => some x
  | .cSwap x _ => some x
  | .cCas x _ => some x
  | .cDma x _ => some x
  | .cLpost x _ => some x
  | .cFence x => some x
  | .cLset x _ => some x
  | .cLadd x _ => some x
  | .cLwait x _ => some x
  | .cLrd x _ => some x
  | .cLarr x _ => some x
  | _ => none

/-- The four commands of a bundle, in the order of its slots; none for a slot with a reserved opcode. The last one closes the bundle
(notes/assumptions/2.md). -/
def decodeBundle (core thread : Nat) (w : BitVec 256) : List (Option Instr) :=
  (bundleSlots w).map (fun v => v.decode { core, thread, more := decide (v.kind < 3) })

end Sys2Proof
end

