-- ==== Sys2Proof/Machine/Codes.lean ====
section
/-! DEFINITION. Error codes (R25, and the error table of each chapter) and exception causes (R182), by name. -/

namespace Sys2Proof.Machine

/-- BUNDLE_INVALID -/
def eBundleInvalid : W16 := 0x0107
/-- CONTRACT_VERSION -/
def eContractVersion : W16 := 0x0108
/-- DESC_INVALID -/
def eDescInvalid : W16 := 0x0109
/-- SHAPE_INVALID -/
def eShapeInvalid : W16 := 0x010A
/-- SEGMENT_INVALID -/
def eSegmentInvalid : W16 := 0x010B
/-- PAD_INVALID -/
def ePadInvalid : W16 := 0x010C
/-- FORMAT_INVALID -/
def eFormatInvalid : W16 := 0x0101
/-- SCALE_INVALID -/
def eScaleInvalid : W16 := 0x0102
/-- MODE_UNSUPPORTED -/
def eModeUnsupported : W16 := 0x0104
/-- INDEX_RANGE (R260) -/
def eIndexRange : W16 := 0x010D
/-- ACCUM_RANGE -/
def eAccumRange : W16 := 0x0103
/-- PAIRING_INVALID -/
def ePairingInvalid : W16 := 0x0105
/-- TILE_CHECK -/
def eTileCheck : W16 := 0x0106
/-- MEM_BOUNDS -/
def eMemBounds : W16 := 0x0201
/-- MEM_ALIGN -/
def eMemAlign : W16 := 0x0202
/-- MEM_POISON -/
def eMemPoison : W16 := 0x0203
/-- MEM_UE -/
def eMemUe : W16 := 0x0204
/-- DMA_DESC_INVALID -/
def eDmaDescInvalid : W16 := 0x0205
/-- MEM_EPOCH_DROP -/
def eMemEpochDrop : W16 := 0x0206
/-- MEM_BUCKET_OVF -/
def eMemBucketOvf : W16 := 0x0207
/-- MEM_CHAN_ERASED -/
def eMemChanErased : W16 := 0x0208
/-- MEM_SPARE_EXHAUSTED -/
def eMemSpareExhausted : W16 := 0x0209
/-- MEM_NOT_READY -/
def eMemNotReady : W16 := 0x020A
/-- SYNC_ROUND -/
def eSyncRound : W16 := 0x0501
/-- OWNER_LOST -/
def eOwnerLost : W16 := 0x0502
/-- SYNC_TIMEOUT -/
def eSyncTimeout : W16 := 0x0503
/-- SYNC_LATCH_BOUNDS -/
def eSyncLatchBounds : W16 := 0x0504
/-- SYNC_LEAD -/
def eSyncLead : W16 := 0x0505
/-- SYNC_EVT_FULL -/
def eSyncEvtFull : W16 := 0x0506
/-- SYNC_LATE -/
def eSyncLate : W16 := 0x0507
/-- SYNC_UNLOCKED -/
def eSyncUnlocked : W16 := 0x0508
/-- SYNC_KIND -/
def eSyncKind : W16 := 0x0509
/-- BEAT_STEP -/
def eBeatStep : W16 := 0x050A
/-- BEAT_LOST -/
def eBeatLost : W16 := 0x050B
/-- FAB_UNREACHABLE -/
def eFabUnreachable : W16 := 0x0301
/-- FAB_LINK_DOWN -/
def eFabLinkDown : W16 := 0x0302
/-- FAB_GROUP_DENIED -/
def eFabGroupDenied : W16 := 0x0303
/-- FAB_MALFORMED -/
def eFabMalformed : W16 := 0x0304
/-- FAB_CREDIT -/
def eFabCredit : W16 := 0x0305
/-- FAB_MISROUTE -/
def eFabMisroute : W16 := 0x0306
/-- FAB_ECRC -/
def eFabEcrc : W16 := 0x0307
/-- FAB_AGED -/
def eFabAged : W16 := 0x0308
/-- FAB_QUARANTINE -/
def eFabQuarantine : W16 := 0x0309
/-- FAB_MISWIRE -/
def eFabMiswire : W16 := 0x030A
/-- FAB_REMOTE_LATE -/
def eFabRemoteLate : W16 := 0x030B
/-- FAB_TAKEOVER -/
def eFabTakeover : W16 := 0x030C
/-- FAB_SPARE_EXHAUSTED -/
def eFabSpareExhausted : W16 := 0x030D
/-- FAB_STALE_ADD -/
def eFabStaleAdd : W16 := 0x030E
/-- COLL_TIMEOUT -/
def eCollTimeout : W16 := 0x0401
/-- COLL_NAN -/
def eCollNan : W16 := 0x0402
/-- COLL_PARAM -/
def eCollParam : W16 := 0x0403
/-- COLL_GSEQ -/
def eCollGseq : W16 := 0x0404
/-- COLL_NOT_MEMBER -/
def eCollNotMember : W16 := 0x0405
/-- COLL_WINDOW -/
def eCollWindow : W16 := 0x0406
/-- COLL_GROUP_MISMATCH -/
def eCollGroupMismatch : W16 := 0x0407
/-- COLL_GROUP_INVALID -/
def eCollGroupInvalid : W16 := 0x0408
/-- HIF_ROLE_DENIED -/
def eHifRoleDenied : W16 := 0x0601
/-- HIF_AUTH_FAIL -/
def eHifAuthFail : W16 := 0x0602
/-- HIF_LOCKED -/
def eHifLocked : W16 := 0x0603
/-- HIF_MSG_INVALID -/
def eHifMsgInvalid : W16 := 0x0604
/-- HIF_VERSION -/
def eHifVersion : W16 := 0x0605
/-- HIF_NOT_READY -/
def eHifNotReady : W16 := 0x0606
/-- HIF_RING_INVALID -/
def eHifRingInvalid : W16 := 0x0607
/-- HIF_PART_INVALID -/
def eHifPartInvalid : W16 := 0x0608
/-- HIF_PART_BUSY -/
def eHifPartBusy : W16 := 0x0609
/-- HIF_PREEMPTED -/
def eHifPreempted : W16 := 0x060A
/-- HIF_DB_INVALID -/
def eHifDbInvalid : W16 := 0x060B
/-- HIF_BAR2_DENIED -/
def eHifBar2Denied : W16 := 0x060C
/-- HIF_KEY_INVALID -/
def eHifKeyInvalid : W16 := 0x060D
/-- HIF_HOST_RESET -/
def eHifHostReset : W16 := 0x060E
/-- CHECK_MISMATCH -/
def eCheckMismatch : W16 := 0x0701
/-- CHECK_RESOLVED -/
def eCheckResolved : W16 := 0x0702
/-- BST_FAIL -/
def eBstFail : W16 := 0x0703
/-- BST_DEFERRED -/
def eBstDeferred : W16 := 0x0704
/-- BST_WITHDRAWN -/
def eBstWithdrawn : W16 := 0x0705
/-- PATTERN_INVALID -/
def ePatternInvalid : W16 := 0x0706
/-- PATTERN_ROLLBACK -/
def ePatternRollback : W16 := 0x0707
/-- LC_DENIED -/
def eLcDenied : W16 := 0x0708
/-- BST_BUSY -/
def eBstBusy : W16 := 0x0709
/-- SHUTDOWN_FAIL -/
def eShutdownFail : W16 := 0x070A
/-- SPARE_USED -/
def eSpareUsed : W16 := 0x070B
/-- ATTIC_EXHAUSTED -/
def eAtticExhausted : W16 := 0x070C
/-- PWR_UV_LIMIT -/
def ePwrUvLimit : W16 := 0x0801
/-- PWR_UV_STOP -/
def ePwrUvStop : W16 := 0x0802
/-- PWR_OV_STOP -/
def ePwrOvStop : W16 := 0x0803
/-- PWR_THERM_WARN -/
def ePwrThermWarn : W16 := 0x0804
/-- PWR_THERM_STOP -/
def ePwrThermStop : W16 := 0x0805
/-- PWR_GOV -/
def ePwrGov : W16 := 0x0806
/-- PWR_PROFILE_INVALID -/
def ePwrProfileInvalid : W16 := 0x0807
/-- CFG_IMAGE_INVALID -/
def eCfgImageInvalid : W16 := 0x0808
/-- CFG_SLOT_FALLBACK -/
def eCfgSlotFallback : W16 := 0x0809
/-- PWR_CAL_CLAMPED -/
def ePwrCalClamped : W16 := 0x080A
/-- PWR_TAKEOVER -/
def ePwrTakeover : W16 := 0x080B
/-- PWR_STANDBY_LOST -/
def ePwrStandbyLost : W16 := 0x080C
/-- PWR_OFF_READY -/
def ePwrOffReady : W16 := 0x080D
/-- PWR_OV_WARN -/
def ePwrOvWarn : W16 := 0x080E

/-- Exception causes of R182. -/
def cBundle : Nat := 0x01
/-- FORMAT -/
def cFormat : Nat := 0x02
/-- SCALE -/
def cScale : Nat := 0x03
/-- MODE -/
def cMode : Nat := 0x04
/-- PAIRING -/
def cPairing : Nat := 0x05
/-- ALIGN -/
def cAlign : Nat := 0x06
/-- BOUNDS -/
def cBounds : Nat := 0x07
/-- POISON -/
def cPoison : Nat := 0x08
/-- LATCH -/
def cLatch : Nat := 0x09
/-- BREAK -/
def cBreak : Nat := 0x0A
/-- REGFILE_UE -/
def cRegfile : Nat := 0x10
/-- CTRL_CHECK -/
def cCtrl : Nat := 0x11
/-- FETCH_UE -/
def cFetch : Nat := 0x12

/-- The code with which a command completes for a program or data cause of one of its threads (R182, R350, R399). -/
def causeCode (c : Nat) : W16 :=
  if c = cBundle then eBundleInvalid else if c = cFormat then eFormatInvalid else if c = cScale then eScaleInvalid
  else if c = cMode then eModeUnsupported else if c = cPairing then ePairingInvalid else if c = cAlign then eMemAlign
  else if c = cBounds then eMemBounds else if c = cPoison then eMemPoison else if c = cLatch then eSyncLatchBounds else 0

end Sys2Proof.Machine
end

