-- ==== Sys2Proof/Config.lean ====
section
/-! DEFINITION. What the manual leaves to the module or leaves open: constants with no body, so that no proof can see a value
(notes/assumptions/6.md, 9.md, 17.md). A `free` value takes the counter `State.freeCtr`, which every use advances. -/

namespace Sys2Proof.Config

/-- One free 64-bit value per counter value and index. -/
opaque freeWord : Nat → Nat → W64
/-- One free byte per counter value and index: undefined bytes of a destination (R186, R253). -/
opaque freeByte : Nat → Nat → Byte
/-- HIF_ID.STEPPING (R512; the dash of R18). -/
opaque stepping : Byte
/-- HIF_FW (R512). -/
opaque fwVersion : W32
/-- HIF_SERIAL_LO and HIF_SERIAL_HI (R512). -/
opaque serial : W64
/-- The arithmetic contract version HIF_STAT.ACV (R275, R513). -/
opaque acv : W16
/-- Whether a signature over a byte string verifies under the device key of the given kind (R568, R571, R614). -/
opaque signatureOk : Nat → List Byte → List Byte → Bool
/-- Stuck-at and transition coverage of the shipped pattern sets, in 1/100 % (R567). -/
opaque shippedCov : BitVec 14 × BitVec 14
/-- The key slot that the management configuration names for native reports (R578). -/
opaque mgmtSlot : BitVec 3
/-- Factory calibration of item k (R617). -/
opaque factoryCal : Nat → Int
/-- Least and greatest value of item k (R617). -/
opaque calRange : Nat → Int × Int
/-- The scale byte of a pad position beyond the last row of a DIR 1 scale tensor, by operand, block and k (R125 item 5). -/
opaque padScale : Nat → Nat → Nat → Byte
/-- The module that is beat master in a generation: the system configuration names it, no register shows it (R354, R360, R599). -/
opaque masterOf : Byte → BitVec 14

end Sys2Proof.Config
end

