-- ==== Sys2Proof/Machine/Bits.lean ====
section
/-! DEFINITION. Bit fields (R15), little-endian byte strings (R14), counters that hold at a limit, and the CRCs the manual
names (R412, R418, R554). -/

namespace Sys2Proof.Machine

/-- Bits [hi:lo] of a word as a number (R15: both ends included). -/
def bf {n : Nat} (w : BitVec n) (hi lo : Nat) : Nat := (w.toNat >>> lo) % 2 ^ (hi + 1 - lo)

/-- The word with bits [hi:lo] replaced by the low bits of `v`. -/
def bfSet {n : Nat} (w : BitVec n) (hi lo v : Nat) : BitVec n :=
  BitVec.ofNat n ((w.toNat >>> (hi + 1)) <<< (hi + 1) + (v % 2 ^ (hi + 1 - lo)) <<< lo + w.toNat % 2 ^ lo)

/-- Bit `i` of a word. -/
def bitAt {n : Nat} (w : BitVec n) (i : Nat) : Bool := w.getLsbD i

/-- The word with bit `i` set to `b`. -/
def bitSet {n : Nat} (w : BitVec n) (i : Nat) (b : Bool) : BitVec n := bfSet w i i (if b then 1 else 0)

/-- Number of set bits of a number below 2^n. -/
def popNat : Nat → Nat → Nat
  | 0, _ => 0
  | n + 1, v => v % 2 + popNat n (v / 2)

/-- A count of the given limit that holds there (R85, R200 and the like: 'held at'). -/
def holdAdd (limit a b : Nat) : Nat := min limit (a + b)

/-- The number a little-endian byte string spells (R14). -/
def leNat : List Byte → Nat
  | [] => 0
  | b :: t => b.toNat + 256 * leNat t

/-- The low `n` bytes of a number, little-endian (R14). -/
def leBytes : Nat → Nat → List Byte
  | 0, _ => []
  | n + 1, v => BitVec.ofNat 8 v :: leBytes n (v / 256)

/-- `n` bytes of a byte string from an offset, as a number; bytes beyond the end read 0. -/
def leAt (l : List Byte) (off n : Nat) : Nat := leNat ((l.drop off).take n)

/-- A byte string padded with zeros, or cut, to `n` bytes. -/
def padTo : Nat → List Byte → List Byte
  | 0, _ => []
  | n + 1, [] => 0 :: padTo n []
  | n + 1, b :: t => b :: padTo n t

/-- `n` zero bytes. -/
def zeros (n : Nat) : List Byte := padTo n []

/-- A byte string with the bytes from `off` replaced by `b`, its length kept. -/
def overlay (l : List Byte) (off : Nat) (b : List Byte) : List Byte :=
  (l.take off ++ b ++ l.drop (off + b.length)).take l.length

/-- Bits of a number that a signed field of width `w` stands for. -/
def signed (w v : Nat) : Int :=
  if v % 2 ^ w < 2 ^ (w - 1) then ((v % 2 ^ w : Nat) : Int) else ((v % 2 ^ w : Nat) : Int) - (2 ^ w : Nat)

/-- The low `w` bits of an integer. -/
def wrap (w : Nat) (v : Int) : Nat := (v % ((2 ^ w : Nat) : Int)).toNat

/-- Ceiling of a / b. -/
def cdiv (a b : Nat) : Nat := (a + b - 1) / b

/-- `List.range` from `a`, `n` long. -/
def span (a n : Nat) : List Nat := (List.range n).map (a + ·)

/-- Indices without repeats. -/
def dedupNat : List Nat → List Nat
  | [] => []
  | a :: r => if r.contains a then dedupNat r else a :: dedupNat r

/-- One reflected CRC step over a bit count. -/
def crcRefl (poly : Nat) : Nat → Nat → Nat
  | 0, c => c
  | k + 1, c => crcRefl poly k (if c % 2 = 1 then (c / 2) ^^^ poly else c / 2)

/-- CRC-32C of a byte string (R418): bit-reflected, initial value all ones, final inversion. 0x82F6_3B78 is the reflected
form of the polynomial 0x1EDC_6F41. -/
def crc32c (l : List Byte) : Nat :=
  (l.foldl (fun c b => crcRefl 0x82F63B78 8 (c ^^^ b.toNat)) 0xFFFFFFFF) ^^^ 0xFFFFFFFF

/-- Straight (unreflected) CRC of `w` bits: one byte, most significant bit first. -/
def crcStep (w poly : Nat) : Nat → Nat → Nat
  | 0, c => c
  | k + 1, c => crcStep w poly k (if c / 2 ^ (w - 1) % 2 = 1 then (c * 2 % 2 ^ w) ^^^ poly else c * 2 % 2 ^ w)

/-- CRC-64 of ECMA-182 (R554): polynomial 0x42F0_E1EB_A9EA_3693, initial value zero, no reflection, no inversion. -/
def crc64 (l : List Byte) : Nat :=
  l.foldl (fun c b => crcStep 64 0x42F0E1EBA9EA3693 8 (c ^^^ (b.toNat <<< 56))) 0

/-- CRC-24 (R412): polynomial 0x86_4CFB, initial value all ones, no final inversion. -/
def crc24 (l : List Byte) : Nat :=
  l.foldl (fun c b => crcStep 24 0x864CFB 8 (c ^^^ (b.toNat <<< 16))) 0xFFFFFF

end Sys2Proof.Machine
end

