-- ==== Sys2Proof/Machine/Tab.lean ====
section
/-! DEFINITION. Sparse tables: a list of (key, value) pairs in one canonical form (keys strictly rising, no value equal to what
an unlisted key reads as). Registers, contexts, memory: everything the manual has many of is one of these. -/

namespace Sys2Proof.Machine

/-- A sparse table. `d` in the operations below says what an unlisted key reads as. -/
abbrev Tab (α : Type) := List (Nat × α)

/-- What key `k` reads as. -/
def tget {α : Type} (d : Nat → α) : Tab α → Nat → α
  | [], k => d k
  | (a, x) :: t, k => if a = k then x else tget d t k

/-- Insert a pair at its place, replacing an old one. -/
def tins {α : Type} : Tab α → Nat → α → Tab α
  | [], k, v => [(k, v)]
  | (a, x) :: t, k, v => if a = k then (k, v) :: t else if k < a then (k, v) :: (a, x) :: t else (a, x) :: tins t k v

/-- Remove a key. -/
def tdel {α : Type} (t : Tab α) (k : Nat) : Tab α := t.filter (fun p => decide (p.1 ≠ k))

/-- Write key `k`: the pair is dropped when the value is what an unlisted key reads as. -/
def tput {α : Type} [DecidableEq α] (d : Nat → α) (t : Tab α) (k : Nat) (v : α) : Tab α :=
  if v = d k then tdel t k else tins t k v

/-- Remove every key from `a` to `a + n - 1`: they read as unlisted again. -/
def tclear {α : Type} (t : Tab α) (a n : Nat) : Tab α := t.filter (fun p => !(a ≤ p.1 && p.1 < a + n))

/-- The canonical form: keys strictly rising, no value equal to what an unlisted key reads as. -/
abbrev Tab.wf {α : Type} (d : Nat → α) (t : Tab α) : Prop :=
  t.Pairwise (fun p q => p.1 < q.1) ∧ ∀ p ∈ t, p.2 ≠ d p.1

end Sys2Proof.Machine
end

