-- ==== Sys2Proof/Machine/Regs.lean ====
section
/-! DEFINITION. The register space (R300): where each register lies, which bits each access code governs (R19), and its reset
value (R18). An offset counts from 0x0180_0000_0000; every register is a 32-bit word, and a 64-bit register is two words. -/

namespace Sys2Proof.Machine

/-- The bits of a register word by access code (R19); the remaining bits are RO or reserved. -/
structure RegDesc where
  rw : W32 := 0
  w1c : W32 := 0
  w1s : W32 := 0
  rc : W32 := 0
  wo : W32 := 0
  reset : W32 := 0
  deriving DecidableEq, Repr

/-! ### Offsets (R300 and each chapter's register section) -/

def hifReg (o : Nat) : Nat := o
def mbxReg (c o : Nat) : Nat := 0x10000 + 0x40 * c + o
def coreReg (i o : Nat) : Nat := 0x1000000 + 0x40 * i + o
def arrReg (i o : Nat) : Nat := 0x1010000 + 0x10 * i + o
def memReg (o : Nat) : Nat := 0x1020000 + o
def eccReg (o : Nat) : Nat := 0x1030000 + o
def latReg (o : Nat) : Nat := 0x1040000 + o
def beatReg (o : Nat) : Nat := 0x1050000 + o
def fabReg (o : Nat) : Nat := 0x1060000 + o
def optReg (o : Nat) : Nat := 0x1070000 + o
def collReg (o : Nat) : Nat := 0x1080000 + o
def bstReg (o : Nat) : Nat := 0x1090000 + o
def pwrReg (o : Nat) : Nat := 0x10A0000 + o
def cntReg (o : Nat) : Nat := 0x10B0000 + o
def cfgReg (o : Nat) : Nat := 0x10C0000 + o

def rHifStat : Nat := hifReg 0x08
def rMbxCtl (c : Nat) : Nat := mbxReg c 0
def rCoreStat (i : Nat) : Nat := coreReg i 0
def rCoreCtl (i : Nat) : Nat := coreReg i 4
def rLedgerCtl (i : Nat) : Nat := coreReg i 0x30
def rLedgerBase (i : Nat) : Nat := coreReg i 0x38
def rArrStat (i : Nat) : Nat := arrReg i 0
def rArrErr (i : Nat) : Nat := arrReg i 4
def rArrRemap (i : Nat) : Nat := arrReg i 8
def rArrInj (i : Nat) : Nat := arrReg i 0xC
def rMemInit : Nat := memReg 0
def rMemScrub : Nat := memReg 4
def rMemRebuild : Nat := memReg 8
def rMemEpochDrop : Nat := memReg 0xC
def rMemSpareCmd : Nat := memReg 0x10
def rMemGran (g : Nat) : Nat := memReg (0x1000 + 4 * g)
def rMemLpage (j : Nat) : Nat := memReg (0x1800 + 4 * j)
def rMemChan (x : Nat) : Nat := memReg (0x2000 + 4 * x)
def rEccBktCfg (k : Nat) : Nat := eccReg (8 * k)
def rEccBkt (k : Nat) : Nat := eccReg (8 * k + 4)
def rEccInjAddr : Nat := eccReg 0xA00
def rEccInjData : Nat := eccReg 0xA08
def rEccInjCtl : Nat := eccReg 0xA10
def rEccRawAddr : Nat := eccReg 0xB00
def rEccRawChk : Nat := eccReg 0xB08
def rEccRawCtl : Nat := eccReg 0xB10
def rEccRawData (i : Nat) : Nat := eccReg (0xB40 + 8 * i)
def rBeatCtl : Nat := beatReg 0
def rBeatStat : Nat := beatReg 4
def rBeatErr : Nat := beatReg 0x18
def rLatStat : Nat := latReg 0
def rFabId : Nat := fabReg 0
def rFabCfg : Nat := fabReg 4
def rFabPort (p : Nat) : Nat := fabReg (0x100 + 8 * p)
def rFabPcnt (p : Nat) : Nat := fabReg (0x104 + 8 * p)
def rFabLink (l : Nat) : Nat := fabReg (0x400 + 4 * l)
def rFabRoute (x : Nat) : Nat := fabReg (0x500 + 4 * x)
def rOptCart (c : Nat) : Nat := optReg (4 * (c - 1))
def rOptWave (p : Nat) : Nat := optReg (0x100 + 4 * p)
def rCollCtl : Nat := collReg 0
def rCollSeq (b : Nat) : Nat := collReg (4 + 4 * b)
def rCollStat : Nat := collReg 0x10
def rCollDrop : Nat := collReg 0x14
def rBstRot : Nat := bstReg 0
def rBstWing (w : Nat) : Nat := bstReg (0x10 + 4 * w)
def rBstResult (w : Nat) : Nat := bstReg (0x20 + 8 * w)
def rBstCov (w : Nat) : Nat := bstReg (0x24 + 8 * w)
def rBstCheck : Nat := bstReg 0x30
def rPwrStat : Nat := pwrReg 0
def rPwrMeas : Nat := pwrReg 4
def rPwrTemp : Nat := pwrReg 8
def rPwrErr : Nat := pwrReg 0xC
def rCfgImg (k : Nat) : Nat := cfgReg (0x10 + 4 * k)
def rCntTrk (x : Nat) : Nat := cntReg (0x100 + 16 * x)
def rCntTrkf (x : Nat) : Nat := cntReg (0x108 + 16 * x)
def rCntTrc (y : Nat) : Nat := cntReg (0x400 + 16 * y)
def rCntTrcb (y : Nat) : Nat := cntReg (0x408 + 16 * y)

/-! ### Descriptions, window by window -/

/-- HIF_ window (R512 to R514). -/
def hifDesc (o : Nat) : RegDesc :=
  if o = 0x00 then { reset := 0x09400000#32 ||| ((Config.stepping.setWidth 32) <<< 8) }
  else if o = 0x04 then { reset := 0x01000100 }
  else if o = 0x0C then { reset := Config.fwVersion }
  else if o = 0x10 then { reset := Config.serial.setWidth 32 }
  else if o = 0x14 then { reset := (Config.serial >>> 32).setWidth 32 }
  else if 0x100 ≤ o ∧ o < 0x300 ∧ o % 8 = 0 then { w1c := 0x02000000 }
  else {}

/-- MBX_ window (R520, R521). -/
def mbxDesc (o : Nat) : RegDesc :=
  if o % 0x40 = 0 then { rw := 0x3F01, w1s := 0x80000000 } else if o % 0x40 = 4 then { w1c := 6 } else {}

/-- CORE_ window (R197 to R201). -/
def coreDesc (o : Nat) : RegDesc :=
  if o = 0x00 then { reset := 0xFF000081 }
  else if o = 0x04 then { rw := 0x603FFF01, w1s := 0x80000000, reset := 0x801 }
  else if o = 0x20 then { rc := 0xFF }
  else if o = 0x30 then { rw := 0x400F0000, w1s := 0x20000000 }
  else if o = 0x38 then { rw := 0xFFFFF000 } else if o = 0x3C then { rw := 0xFFFFFFFF } else {}

/-- ARR_ window (R151 to R155). -/
def arrDesc (o : Nat) : RegDesc :=
  if o = 0x0 then { reset := 1 }
  else if o = 0x4 then { w1c := 0xF, rc := 0xFFFF0000 }
  else if o = 0x8 then { rw := 0xFFFFFFCF }
  else if o = 0xC then { rw := 0x03FFFF01, w1s := 0x80000000 } else {}

/-- MEM_ window (R340 to R346). Granule 383 resets to 0xE and holds it (R344). -/
def memDesc (o : Nat) : RegDesc :=
  if o = 0x04 then { rw := 0x80FFFF00, reset := 0x80180100 }
  else if o = 0x08 then { rw := 0xFF, reset := 8 }
  else if o = 0x0C then { rc := 0xFFFFFFFF }
  else if o = 0x10 then { rw := 0x071F0003, w1s := 0x80000000 }
  else if o = 0x1000 + 4 * 383 then { reset := 0xE00 }
  else if 0x1000 ≤ o ∧ o < 0x1600 ∧ o % 4 = 0 then { rw := 0xF30, reset := 0xF00 }
  else if 0x1800 ≤ o ∧ o < 0x1800 + 4 * 176 ∧ o % 4 = 0 then { rw := 0xF, reset := 0xF }
  else if 0x2000 ≤ o ∧ o < 0x2000 + 4 * 160 ∧ o % 4 = 0 then
    let c := (o - 0x2000) / 4 % 20
    { reset := if c < 18 then BitVec.ofNat 32 (c * 2 ^ 24 + 0x200) else 0x7F000200 }
  else {}

/-- ECC_ window (R347 to R349). -/
def eccDesc (o : Nat) : RegDesc :=
  if o < 8 * 320 ∧ o % 8 = 0 then { rw := 0x00FF1F01, reset := 0x00201001 }
  else if o < 8 * 320 ∧ o % 8 = 4 then { w1c := 1, rc := 0xFF000000 }
  else if o = 0xA00 then { rw := 0xFFFFFFF8 } else if o = 0xA04 then { rw := 0xFFFFFFFF }
  else if o = 0xA08 ∨ o = 0xA0C then { rw := 0xFFFFFFFF }
  else if o = 0xA10 then { rw := 0x00FFFF00, w1c := 0x40000000, w1s := 0x80000000, reset := 0x00F80000 }
  else if o = 0xB00 ∨ o = 0xB04 ∨ o = 0xB08 ∨ o = 0xB0C then { rw := 0xFFFFFFFF }
  else if o = 0xB10 then { rw := 1, w1s := 0x80000000 }
  else if 0xB40 ≤ o ∧ o < 0xB80 ∧ o % 4 = 0 then { rw := 0xFFFFFFFF }
  else {}

/-- BEAT_ window (R394 to R397). BEAT_CTL.PERIOD is written by BEAT_PERIOD_WRITE only. -/
def beatDesc (o : Nat) : RegDesc :=
  if o = 0x00 then { rw := 0xCF0FF800, reset := 0x08040880 }
  else if o = 0x04 then { reset := 0x1FF00000 }
  else if o = 0x18 then { w1c := 0x1F, rc := 0xFF000000 } else {}

/-- LAT_ window (R398). -/
def latDesc (o : Nat) : RegDesc := if o = 0 then { rc := 0xFFFF0000 } else {}

/-- FAB_ window (R451 to R455). -/
def fabDesc (o : Nat) : RegDesc :=
  if o = 0 then { rw := 0xBFFFFF77 }
  else if o = 4 then { rw := 0xF8FFFF00, reset := 0x80320600 }
  else if 0x100 ≤ o ∧ o < 0x100 + 8 * 52 ∧ o % 8 = 0 then
    let p := (o - 0x100) / 8
    { w1s := 7, reset := if p % 13 = 12 then 0xFF800000 else BitVec.ofNat 32 ((12 * (p / 13) + p % 13) * 2 ^ 23) }
  else if 0x100 ≤ o ∧ o < 0x100 + 8 * 52 ∧ o % 8 = 4 then { rc := 0xFFFFFFFF }
  else if 0x400 ≤ o ∧ o < 0x400 + 4 * 48 ∧ o % 4 = 0 then
    let l := (o - 0x400) / 4
    { rw := 0xFFFFFC00, reset := BitVec.ofNat 32 (13 * (l / 12) + l % 12) }
  else if 0x500 ≤ o ∧ o < 0x600 ∧ o % 4 = 0 then { rw := 0x800003FF, reset := 0x3F }
  else {}

/-- OPT_ window (R457, R458). -/
def optDesc (o : Nat) : RegDesc :=
  if o = 0 then { w1s := 1, reset := 0x0F800000 }
  else if o = 4 then { w1s := 1, reset := 0x1F800000 }
  else if o = 8 then { w1s := 1, reset := 0x6F800000 }
  else if 0x100 ≤ o ∧ o < 0x100 + 4 * 52 ∧ o % 4 = 0 then { rc := 0xFFFF, reset := 0x80FF0000 }
  else {}

/-- COLL_ window (R502 to R505). -/
def collDesc (o : Nat) : RegDesc :=
  if o = 0 then { rw := 0x40000000, w1c := 0x08000000, w1s := 0x80000000 }
  else if o = 0x10 then { rc := 0xFF } else if o = 0x14 then { rc := 0xFFFFFFFF } else {}

/-- BST_ window (R585 to R588). -/
def bstDesc (o : Nat) : RegDesc :=
  if o = 0 then { rw := 0x80FFFFFF, reset := 0x80092000 }
  else if o = 0x10 ∨ o = 0x14 then { reset := 0xFF000008 }
  else if o = 0x20 ∨ o = 0x28 then { reset := 0xFF000000 }
  else if o = 0x30 then { rc := 0xFFFFFFFF } else {}

/-- PWR_ window (R623 to R625). -/
def pwrDesc (o : Nat) : RegDesc :=
  if o = 0 then { reset := 0x640 } else if o = 0xC then { w1c := 0x1F, rc := 0xFF000000 } else {}

/-- CNT_ window (R646, R647). -/
def cntDesc (o : Nat) : RegDesc :=
  if 0x100 ≤ o ∧ o < 0x100 + 16 * 24 then
    if o % 16 = 0 then { rw := 0xC0000000, w1s := 0x20000000, rc := 0x0FF00000 }
    else if o % 16 = 8 ∨ o % 16 = 12 then { rw := 0xFFFFFFFF } else {}
  else if 0x400 ≤ o ∧ o < 0x400 + 16 * 9 then
    if o % 16 = 0 then { rw := 0xFFF00000, rc := 0xFFFF, reset := 0x2A000000 }
    else if o % 16 = 8 then { rw := 0xFFFFF000 } else if o % 16 = 12 then { rw := 0xFFFFFFFF } else {}
  else {}

/-- The description of the register at an offset (R300). -/
def regDesc (off : Nat) : RegDesc :=
  if off < 0x10000 then hifDesc off
  else if off < 0x10000 + 0x40 * 32 then mbxDesc (off - 0x10000)
  else if off < 0x1000000 then {}
  else if off < 0x1000000 + 0x40 * 144 then coreDesc ((off - 0x1000000) % 0x40)
  else if off < 0x1010000 then {}
  else if off < 0x1010000 + 0x10 * 576 then arrDesc ((off - 0x1010000) % 0x10)
  else if off < 0x1020000 then {}
  else if off < 0x1030000 then memDesc (off - 0x1020000)
  else if off < 0x1040000 then eccDesc (off - 0x1030000)
  else if off < 0x1050000 then latDesc (off - 0x1040000)
  else if off < 0x1060000 then beatDesc (off - 0x1050000)
  else if off < 0x1070000 then fabDesc (off - 0x1060000)
  else if off < 0x1080000 then optDesc (off - 0x1070000)
  else if off < 0x1090000 then collDesc (off - 0x1080000)
  else if off < 0x10A0000 then bstDesc (off - 0x1090000)
  else if off < 0x10B0000 then pwrDesc (off - 0x10A0000)
  else if off < 0x10C0000 then cntDesc (off - 0x10B0000)
  else {}

/-- What an unlisted register reads: its reset value (R18). -/
def resetReg (off : Nat) : W32 := (regDesc off).reset

/-- A plain write of a register word (R19): RW bits take the value, a 1 clears a W1C bit, everything else keeps. W1S and WO bits
act through the rows that name them. -/
def plainWrite (d : RegDesc) (old val : W32) : W32 :=
  (old &&& ~~~d.rw &&& ~~~(d.w1c &&& val)) ||| (val &&& d.rw)

end Sys2Proof.Machine
end

