-- ==== Sys2Proof/Machine/State.lean ====
section
/-! DEFINITION. The state of the module, as plain data. Word registers live in one register file (`regs`, keyed by their R300
offset; what an unlisted register reads as is its reset value, Machine/Regs.lean). Everything else the manual gives the module
has a field of its own. Tables are sparse and canonical (Machine/Tab.lean). -/

namespace Sys2Proof.Machine

/-- Faults. The manual names no condition that stops the module as a whole in a way that leaves no next state: exceptions,
refusals and power stops are all next states. No meaning raises this constructor; safe. -/
inductive Fault where
  /-- raised by nothing; safe -/
  | unused
  deriving DecidableEq, Repr

/-- Refusals. -/
inductive Refusal where
  /-- the command has no meaning yet; raised by an arm of `exec` only; safe -/
  | notModelled (mnemonic : String)
  deriving DecidableEq, Repr

/-! ### Cores and threads -/

/-- Thread states (R160). -/
inductive TState where
  | free | ready | parked | faulted | held
  deriving DecidableEq, Repr

/-- A register write of a slot (R205). -/
inductive RegWrite where
  | s (i : Nat) (v : W64)
  | v (i : Nat) (x : Vec)
  | p (i : Nat) (x : Pred)
  | t (i : Nat) (x : TDesc)
  deriving DecidableEq, Repr

/-- What an outstanding access is (R165, R246, R248). -/
inductive AccKind where
  /-- a load of the own core store -/
  | localLoad
  /-- a global load -/
  | globalLoad
  /-- a global store -/
  | globalStore
  /-- an atomic on a larder word -/
  | atomic
  deriving DecidableEq, Repr

/-- An access that has been issued and has not returned. `writes` are the results of its bundle, delivered at the return
(R183, R248). -/
structure Outst where
  kind : AccKind
  /-- the word read is poisoned: the return raises POISON (R176) -/
  poison : Bool
  writes : List RegWrite
  /-- bundle address of the issue -/
  pc : W64
  /-- the poisoned granules read, for the log of R326 -/
  addrs : List Nat := []
  deriving DecidableEq, Repr

/-- An armed latch wait (R379). -/
structure Wait where
  latch : Nat
  cond : Nat
  cmp : W64
  old : W64
  issued : W64
  timeout : Nat
  deriving DecidableEq, Repr

/-- A thread context (R158). -/
structure Thread where
  st : TState := .free
  /-- the state held before a hold (R160) -/
  under : TState := .free
  pc : W64 := 0
  s : Tab W64 := []
  v : Tab Vec := []
  p : Tab Pred := []
  t : Tab TDesc := []
  rm : BitVec 3 := 0
  /-- NV DZ OF UF NX, from bit 4 down (R95) -/
  flags : BitVec 5 := 0
  qsat : Nat := 0
  qlost : Nat := 0
  wstat : W16 := 0
  part : Nat := 0
  ring : Nat := 0
  dcount : Nat := 0
  seq : W32 := 0
  layer : W16 := 0
  oper : W16 := 0
  epoch : Nat := 0
  /-- a re-execution for checking: its writes outside its own core store are dropped (R555) -/
  checkrun : Bool := false
  outs : List Outst := []
  fence : Bool := false
  wait : Option Wait := none
  /-- slots of the bundle being assembled (notes/assumptions/2.md) -/
  bundle : List Instr := []
  /-- started to run an item again (R287) -/
  reissue : Bool := false
  deriving DecidableEq, Repr

/-- A record of the exception queue (R183, R200). -/
structure ExcRec where
  cause : Nat
  slot : Nat
  second : Bool
  thread : Nat
  part : Nat
  bundle : W64
  seq : W32
  beat : W32
  deriving DecidableEq, Repr

/-- A message of a core to its wing controller (R183): thread, cause, partition, and the command the thread ran for. -/
structure ExcMsg where
  thread : Nat
  cause : Nat
  part : Nat
  ring : Nat
  dcount : Nat
  deriving DecidableEq, Repr

/-- The parts of a physical core that are not registers (R185, R194, R563, R573). -/
structure Core where
  exc : List ExcRec := []
  dropped : Nat := 0
  /-- messages to the wing controller, oldest first (R183) -/
  msgs : List ExcMsg := []
  /-- work-ledger entries, oldest first (R194) -/
  ledger : List W128 := []
  /-- spill ring: entries written since the last clear (R195) -/
  spilled : Nat := 0
  bkpt : Bool := false
  retired : Bool := false
  /-- passed its last test (R189); DESIGN CHOICE at reset, notes/assumptions/4.md -/
  passed : Bool := true
  lastPass : W64 := 0
  /-- beats of its dissents, for the policy of R573 -/
  dissents : List W64 := []
  /-- to be tested next (R573, R584), and to be retired once handed over (R573) -/
  testNext : Bool := false
  retireNext : Bool := false
  withdrawn : Bool := false
  /-- beat of the last bundle issued (CORE_STAT_i.ISSUING, R197) -/
  issued : Option W64 := none
  deriving DecidableEq, Repr

/-- A hand-over or takeover in progress (R190, R192). -/
structure Handover where
  logical : Nat
  old : Nat
  new : Nat
  /-- true: fault takeover; false: planned -/
  fault : Bool
  /-- the identity is copied -/
  frozen : Bool
  /-- threads that the hand-over holds (R190) -/
  held : List Nat := []
  deriving DecidableEq, Repr

/-- An update of a latch from outside its core (R376, R377, R382, R386). -/
inductive LatchOp where
  | add (v : W64)
  /-- the release of a barrier -/
  | raise (v : W64)
  | brk (estat : Nat)
  /-- a 32-bit word of the record, written by a wing controller or an MCP -/
  | word (k : Nat) (v : W32)
  deriving DecidableEq, Repr

/-- An access to a core's register block (R190, R197 to R201): a plain write by offset in the block, the fields with rows of their own,
and the reads with an effect. -/
inductive CoreOp where
  | write (off : Nat) (val : W32)
  | drain (on : Bool)
  | holdAll (on : Bool)
  | clearLedger
  | excRead (word : Nat)
  deriving DecidableEq, Repr

/-- An external access held in the ingress buffer of a frozen core (R190, R193); a write names the granules it stores poisoned. -/
inductive HeldAccess where
  | write (addr : Nat) (bytes : List Byte) (poisoned : List Nat)
  | latch (j : Nat) (op : LatchOp)
  | core (op : CoreOp)
  deriving DecidableEq, Repr

/-- A pending release (R387). `child` names the child counter's core and latch when the entry belongs to one. -/
structure Release where
  /-- counter: module, logical core, latch -/
  cmod : Nat
  ccore : Nat
  clatch : Nat
  round : W64
  core : Nat
  latch : Nat
  child : Bool
  deriving DecidableEq, Repr

/-! ### Arrays -/

/-- A queued tile operation: what M.TILE captured at issue (R235, R236). -/
structure TileReq where
  core : Nat
  thread : Nat
  part : Nat
  ring : Nat
  dcount : Nat
  seq : W32
  layer : W16
  oper : W16
  epoch : Nat
  desc : TDesc
  half : Nat
  men : Bool
  smask : W64
  pen : Bool
  spad : W64
  oen : Bool
  sout : W64
  latch : Nat
  checkrun : Bool
  /-- the thread runs an item again (R287) -/
  reissue : Bool := false
  /-- the item of a MATMUL that the tile computes: its index in the item table (R283) -/
  item : Option Nat := none
  deriving DecidableEq, Repr

/-- An operand as the feeders have read it (R108, R115, R125): by row m of X or column n of W, the storage code and the scale byte of
every k of the part, pads included; a row that is not read is empty. -/
structure Operand where
  fmt : Nat := 0
  z : Int := 0
  el : List (List (Nat × Nat)) := []
  deriving DecidableEq, Repr

/-- An accumulator entry (R110): W32 run total, W48 grand total, replay shift, poison bit. -/
structure Entry where
  t : W32 := 0
  g : BitVec 48 := 0
  r : BitVec 2 := 0
  poison : Bool := false
  deriving DecidableEq, Repr

/-- A tile that runs in an array or one half of it. -/
structure Running where
  req : TileReq
  /-- the staged operands; columns m of X and columns n of W that poison reaches (R147) -/
  x : Operand := {}
  w : Operand := {}
  poisM : List Nat := []
  poisN : List Nat := []
  /-- columns m that are enabled (R125), and the elements of the part along k -/
  rows : List Nat := []
  kLen : Nat := 0
  /-- its first accumulator bank (R122, R143) -/
  bank : Nat := 0
  /-- the entries of its banks, keyed 4096 × bank + 64 m + j within the m-block (R110) -/
  acc : Tab Entry := []
  /-- W48 grand totals of the drained m-blocks, keyed 512 m + n (R121) -/
  out : Tab (BitVec 48) := []
  mb : Nat := 0
  run : Nat := 0
  /-- the run is being replayed (R132) -/
  replaying : Bool := false
  /-- 0 none, 1 checksum, 2 duplicate comparison (R140) -/
  failed : Nat := 0
  range : Bool := false
  /-- every m-block is drained, or the tile is not to be written -/
  done : Bool := false
  replays : Nat := 0
  injected : Bool := false
  /-- cycles from pass to pass, that of the slower half in co-residency (R669), and cycles of replayed runs (R136) -/
  cycI : Nat := 0
  replayCyc : Nat := 0
  /-- the co-resident tile was poisoned: this one commits if it is clean (R148) -/
  spared : Bool := false
  deriving DecidableEq, Repr

/-- A matrix array: its queue (R165), the tiles that stream (R143; a whole tile in `lo`), a whole tile that drains while the next one
streams (R122), and what its registers do not hold: a failed check marked it SUSPECT (R140), the spare assignment in effect (R150;
ARR_REMAP_i holds the last one written), the rate class last run. -/
structure Arr where
  queue : List TileReq := []
  lo : Option Running := none
  hi : Option Running := none
  drain : Option Running := none
  suspect : Bool := false
  remap : W32 := 0
  cls : Nat := 0
  deriving DecidableEq, Repr

/-! ### DMA -/

/-- A descriptor in a DMA queue, or a posted latch write (R246, R314). -/
structure DmaJob where
  desc : List Byte
  /-- C.LPOST: latch address and value -/
  post : Option (W64 × W64)
  part : Nat
  core : Nat
  /-- the logical core that every write carries, with its epoch (R304) -/
  lcore : Nat
  thread : Nat
  ring : Nat
  dcount : Nat
  epoch : Nat
  checkrun : Bool
  started : Bool := false
  bytes : Nat := 0
  poisoned : Nat := 0
  err : W16 := 0
  dseq : Nat := 0
  /-- the group entries of its data and of its latch write, chosen at the check (R672) -/
  group : Option Nat := none
  lgroup : Option Nat := none
  deriving DecidableEq, Repr

/-! ### Rings, commands, partitions -/

/-- Ring states (R514). -/
inductive RState where
  | none | running | halted | destroying
  deriving DecidableEq, Repr

/-- A ring (R514, R536, R537, R539). Counts are modulo 2^32. -/
structure Ring where
  st : RState := .none
  cause : Nat := 0
  dbErr : Bool := false
  log2e : Nat := 0
  lasterr : W16 := 0
  head : W32 := 0
  tail : W32 := 0
  chead : W32 := 0
  written : W32 := 0
  unsig : Nat := 0
  cmdDev : Bool := false
  cplDev : Bool := false
  vector : Nat := 0
  coalN : Nat := 1
  coalUs : Nat := 0
  cbase : W64 := 0
  rbase : W64 := 0
  /-- identifier of the session that created it (R516) -/
  owner : W32 := 0
  deriving DecidableEq, Repr

/-- Where a taken command stands (R251, R252). -/
inductive CPhase where
  /-- taken and checked; not started -/
  | taken
  /-- started; its destination is not complete -/
  | running
  /-- the destination is written -/
  | written
  /-- ended with an error; its record is not written yet -/
  | failed
  deriving DecidableEq, Repr

/-- An item selected for re-execution and where it stands (R553 to R556): logical cores of the two executions and their signatures
(R554); `st` 0 compared equal or resolved, 1 signatures differ, 2 not yet re-executed, 3 not yet committed. -/
structure Check where
  item : Nat
  first : Nat := 0
  re : Nat := 0
  sig : W64 := 0
  reSig : W64 := 0
  st : Nat := 3
  deriving DecidableEq, Repr

/-- An item due for reissue (R287): the logical core and the thread that ran it, and the COUNTED bits to carry over. -/
structure Due where
  item : Nat
  core : Nat
  thread : Nat
  counted : Nat
  deriving DecidableEq, Repr

/-- What names a tile across its executions (R141): the claimed item, or the thread of a tile without one; half and descriptor. -/
structure TileKey where
  item : Option Nat
  thread : Nat
  half : Nat
  desc : TDesc
  deriving DecidableEq, Repr

/-- A live command of a wing controller (R251 to R253, R296). -/
structure Cmd where
  ring : Nat
  dcount : Nat
  part : Nat
  desc : List Byte
  phase : CPhase := .taken
  err : W16 := 0
  detail : Nat := 0
  takenAt : W64 := 0
  beatStart : W64 := 0
  beatEnd : W64 := 0
  sat : Nat := 0
  lost : Nat := 0
  replays : Nat := 0
  nan : Nat := 0
  nz : Nat := 0
  items : Nat := 0
  reissued : Nat := 0
  reexec : Nat := 0
  level : Nat := 0
  acvChanged : Bool := false
  bsUsed : Nat := 0
  bsNext : Nat := 0
  adapted : Bool := false
  /-- the adaptive state record to be written at completion (R292, R294) -/
  adaptRec : List Byte := []
  /-- selected items not yet compared (R557) -/
  checks : List Check := []
  /-- the parameter block and the segment table, read when the command was checked (R297) -/
  param : List Byte := []
  segs : List Byte := []
  /-- work-counter records of the east and west wing (device addresses, 0 for none), and one-item records (R279, R282, R287) -/
  counterE : Nat := 0
  counterW : Nat := 0
  recs : List Nat := []
  /-- items to be reissued (R287) -/
  toReissue : List Due := []
  /-- tiles that failed a check, with the array (R141) -/
  tileFails : List (TileKey × Nat) := []
  /-- a MATMUL's item table (R283) -/
  tab : Nat := 0
  /-- items whose tile committed or is not written (R148), and those that committed -/
  kept : List Nat := []
  committed : List Nat := []
  /-- committed elements of D whose block has elements of other items: storage row, column, W48 code (notes/assumptions/14.md) -/
  heldOut : List (Nat × Nat × BitVec 48) := []
  /-- physical cores that hold the program (R261), and threads started, as 32 × logical core + thread -/
  loaded : List Nat := []
  started : List Nat := []
  /-- refused under R297: nothing of it is written -/
  refused : Bool := false
  /-- ended by PREEMPT with ABORT (R546) -/
  preempted : Bool := false
  /-- taken from a ring that a host reset halted: its completion record is discarded (R510) -/
  discard : Bool := false
  deriving DecidableEq, Repr

/-- Partition states (R542). -/
inductive PState where
  | free | creating | ready | destroying
  deriving DecidableEq, Repr

/-- An unanswered PREEMPT, PART_DESTROY or shutdown step (R546, R547, R611): who asked (channel 255: no one) and the commands ended
so far. -/
structure Preempt where
  ch : Nat
  tag : W32
  destroy : Bool := false
  ended : Nat := 0
  deriving DecidableEq, Repr

/-- A partition (R543). -/
structure Part where
  st : PState := .free
  check : Nat := 1
  minCheck : Nat := 0
  gtBase : Nat := 0
  gtCount : Nat := 0
  keyslot : Nat := 255
  cores : BitVec 128 := 0
  gran : BitVec 384 := 0
  lpage : BitVec 176 := 0
  gmode : BitVec 768 := 0
  preempts : List Preempt := []
  /-- threads that a STOP holds, as 32 × logical core + thread (R370) -/
  held : List Nat := []
  stopped : Bool := false
  deriving DecidableEq, Repr

/-! ### Host interface -/

/-- Binding of a mailbox channel (R521). -/
inductive Bind where
  | unbound | opening | bound | locked
  deriving DecidableEq, Repr

/-- Roles (R521, R528). -/
inductive Role where
  | none | operator | tenant | service | factory
  deriving DecidableEq, Repr

/-- An entry of a session error log (R534). -/
structure LogEntry where
  code : W16
  off : W32
  beat : W64
  deriving DecidableEq, Repr

/-- A mailbox channel (R519 to R531). -/
structure Chan where
  bind : Bind := .unbound
  role : Role := .none
  part : Nat := 0
  sid : W32 := 0
  overrun : Bool := false
  done : Bool := false
  busy : Bool := false
  fails : Nat := 0
  lockS : Nat := 0
  /-- beat at which the lock began (R521) -/
  lockAt : W64 := 0
  slot : Nat := 0
  /-- the PART of SESSION_OPEN -/
  opart : Nat := 255
  hn : List Byte := []
  mn : List Byte := []
  ver : Option W16 := none
  /-- HELLO found no common version (R527) -/
  noVersion : Bool := false
  resp : List Byte := []
  log : List LogEntry := []
  logLost : Nat := 0
  /-- last request of a management channel: tag and message code (R658) -/
  lastTag : Option (W32 × Nat) := none
  /-- a host reset came while a request was served: the channel is UNBOUND after its response (R550) -/
  closing : Bool := false
  deriving DecidableEq, Repr

/-- A key slot (R528). -/
structure KeySlot where
  role : Role := .none
  part : Nat := 0
  key : List Byte := []
  deriving DecidableEq, Repr

/-- The T620 error ring (R548). -/
structure ErrRing where
  on : Bool := false
  base : W64 := 0
  log2e : Nat := 0
  vector : Nat := 0
  written : W32 := 0
  consumed : W32 := 0
  dropped : Nat := 0
  deriving DecidableEq, Repr

/-- A native report (R579). -/
structure Report where
  rtype : Nat := 2
  unit : Nat
  sev : Nat
  inst : Nat
  err : W16
  beat : W64
  rseq : W32
  part : Nat := 255
  layer : W16 := 0
  oper : W16 := 0
  seq : W32 := 0
  /-- temperature and blade voltage at the event (R548) -/
  temp : W16 := 0
  volt : W16 := 0
  detail : Nat := 0
  /-- stands for records suppressed under R580, counted in `detail` -/
  summary : Bool := false
  deriving DecidableEq, Repr

/-- Reports of one code (R580): the beat at which the current second began, those sent in it and those suppressed. -/
structure Rate where
  at_ : W64 := 0
  sent : Nat := 0
  lost : Nat := 0
  deriving DecidableEq, Repr

/-- The host interface (R507 to R551). -/
structure HostIf where
  chans : Tab Chan := []
  keys : Tab KeySlot := []
  log : List LogEntry := []
  /-- BAR2 slot to partition and granule (R518) -/
  bar2 : Tab (Option (Nat × Nat)) := []
  msix : Bool := false
  irqs : List Nat := []
  window : Option Nat := none
  err : ErrRing := {}
  /-- native reports by error code (R580) -/
  rates : Tab Rate := []
  beatHi : W32 := 0
  cfgReady : Bool := false
  /-- host memory bytes the module has written (R536, R548) -/
  mem : Tab Byte := []
  deriving DecidableEq, Repr

/-! ### Beat -/

/-- A scheduled event (R361, R371). -/
structure Ev where
  beat : W64
  kind : Nat
  part : Nat
  ident : W32
  group : Nat
  src : Nat
  deriving DecidableEq, Repr

/-- An event this module's MCP sent, for the STATUS that may answer it (R362 to R364, R372): the packet's DSEQ, the kind, this module's
own partition in the entry, the identifier and the beat, and the request it serves, by channel and tag. -/
structure Sent where
  token : Nat
  kind : Nat
  part : Option Nat
  ident : W32
  beat : W64
  req : Option (Nat × W32) := none
  deriving DecidableEq, Repr

/-- An EVENT_REQ that waits for refusals (R372): its channel and tag, its beat N, and the beat at which it is answered without one. -/
structure Asked where
  req : Nat × W32
  beat : W64
  until_ : W64
  deriving DecidableEq, Repr

/-- A snapshot record (R373) with its sections as bytes; `hdrs` collects channel-state headers until it completes. -/
structure Snap where
  /-- its place in the partition's snapshot area, 0 to 3 (R374) -/
  slot : Nat
  part : Nat
  id : W32
  beat : W64
  counts : List Nat
  sections : List Byte
  hdrs : List Byte := []
  nhdr : Nat := 0
  perPort : Tab Nat := []
  incomplete : Bool := false
  late : Bool := false
  logfull : Bool := false
  complete : Bool := false
  deriving DecidableEq, Repr

/-- The beat unit beside its registers (R351 to R360). -/
structure Beat where
  count : W64 := 0
  phase : W16 := 0
  /-- captured high half (R396) -/
  hi : W32 := 0
  /-- beats for which the counter is held after a backward offset (R357) -/
  hold : Nat := 0
  /-- successive markers with an offset below 10 ns in ACQUIRE (R358) -/
  good : Nat := 0
  /-- beat of the last marker that disciplined the counter, and of the last marker of the current generation (R358, R360) -/
  lastMarker : W64 := 0
  /-- beat of the last marker of the current generation on any port (R360) -/
  lastGen : W64 := 0
  offsetPs : Int := 0
  /-- a change of master: the counter is slewed whatever the offset, until that is below 1 µs (R360) -/
  slewing : Bool := false
  /-- beat of the last markers sent (R354) -/
  markersAt : Option W64 := none
  /-- earlier beat periods, newest first, each with the beat up to which it was in force (R12) -/
  periods : List (W64 × Nat) := []
  /-- a period written while UNLOCKED, for the next edge (R352) -/
  nextPeriod : Option Nat := none
  events : List Ev := []
  /-- events this module's MCP sent (R362), and the EVENT_REQs not yet answered (R372) -/
  issued : List Sent := []
  asked : List Asked := []
  snaps : List Snap := []
  deriving DecidableEq, Repr

/-! ### Fabric -/

/-- A packet held in a port, with the frame-independent facts the rules need: the port it arrived on and whether its age limit
matters (R445). -/
structure Port where
  txSeq : Nat := 0
  rxSeq : Nat := 0
  /-- frames not covered by an ACK, oldest first (R426) -/
  replay : List Frame := []
  /-- how many of `replay` are still to be resent -/
  resend : Nat := 0
  nak : Bool := false
  /-- frame that the partner's last NAK named, and how often in a row (R428) -/
  nakSeq : Nat := 0
  nakRun : Nat := 0
  /-- frames sent since the last CTRL flit (R426) -/
  sinceCtrl : Nat := 0
  /-- the frame last sent, and the timing flit of its slot 0: bytes 0-7, 8-15 and 16-23 (R429) -/
  line : Option (Frame × Option (Nat × W64 × W64)) := none
  /-- flits sent in each pool, and freed by the partner: VC0 VC1 VC2 VC3 DT (R422) -/
  sent : List Nat := [0, 0, 0, 0, 0]
  freed : List Nat := [0, 0, 0, 0, 0]
  /-- flits freed at this receiver, reported in CTRL flits; flits held in the ingress pools -/
  myFreed : List Nat := [0, 0, 0, 0, 0]
  held : List Nat := [0, 0, 0, 0, 0]
  /-- packets to send, oldest first; true for a packet of this module -/
  egress : List (Bool × Pkt) := []
  /-- packets at their destination that their engine has not taken -/
  ingress : List Pkt := []
  /-- an open packet: header and data flits still to come (R415), as receiver and as sender -/
  openP : Option (Pkt × Nat) := none
  txOpen : Option (Pkt × Nat) := none
  /-- the last packet whose PKT flit an ACK has covered (R443) -/
  acked : Option Pkt := none
  /-- deficit round robin of VC0 and VC1: whose turn, and their deficits in flits (R423) -/
  drr : Nat × Nat × Nat := (1, 0, 0)
  /-- the last frame was refused for a flit-order fault (R449) -/
  faulted : Bool := false
  light : Bool := true
  /-- the link has trained and has neither gone DOWN nor into quarantine since (R443, R450) -/
  linkUp : Bool := false
  /-- equaliser settings stored by an earlier training (R434) -/
  stored : Bool := false
  /-- the MARKER offers heard: state, depth, generation, beat heard (R354, R359, R360) -/
  offer : Option (Nat × Nat × Nat × W64) := none
  /-- one-way delay in fabric cycles, and the request in flight (R355, R430) -/
  delay : Nat := 0
  dreq : Option (Nat × BitVec 48) := none
  /-- beat of the last delay exchange since the last training (R355) -/
  measured : Option W64 := none
  /-- markers, delay requests and responses sent: kept for the world to take -/
  timingOut : List (Nat × W64 × W64) := []
  /-- wavelengths that the last margin scan found below MARGIN_MIN (R573) -/
  lowScan : List Nat := []
  /-- wavelength command waiting to be sent in a CTRL flit (R440): command, old, new; and a link command (R425) -/
  wcmd : Option (Nat × Nat × Nat) := none
  lcmd : Nat := 0
  deriving DecidableEq, Repr

/-- The fabric beside its registers. -/
structure Fabric where
  ports : Tab Port := []
  /-- packets from an engine of this module to this module (R437 'deliver') -/
  localQ : List Pkt := []
  /-- last 256 dropped (SRC, TAG, DSEQ) triples (R448) -/
  dropped : List (Nat × Nat × Nat) := []
  lostStatus : Nat := 0
  /-- BARRIER_RESETs that wait for another module's MCP (R372): token, channel, tag -/
  resets : List (Nat × Nat × W32) := []
  /-- messages that MGMT packets delivered to the MCP: source module and data (R417) -/
  inbox : List (Nat × List Byte) := []
  startBeat : W64 := 0
  /-- hallway spare lanes used per direction (R33, R573) -/
  hallUsed : Tab Nat := []
  /-- descriptor count of each source queue (R416 DSEQ) -/
  dseq : Tab Nat := []
  deriving DecidableEq, Repr

/-! ### Collectives -/

/-- What a member has received from a rank in one phase (R480, R482). -/
structure Land where
  rank : Nat
  phase : Nat
  bytes : Nat
  last : W64
  attempt : Nat
  deriving DecidableEq, Repr

/-- A landing record (R480). `only`: level-0 ranks whose contributions a low-rank reduction still takes (R495). -/
structure Landing where
  group : Nat
  opseq : Nat
  parts : List Land := []
  closed : Bool := false
  only : Option Nat := none
  deriving DecidableEq, Repr

/-- A started collective operation (R468 to R499); its parameters are the command's. Masks are numbers, bit r for rank r. -/
structure CollOp where
  ring : Nat
  dcount : Nat
  group : Nat
  opseq : Nat
  rank : Nat
  /-- the entry's member words and level sizes -/
  members : List (Nat × Nat)
  levn : List Nat
  start : W64
  /-- reference beat (R469, R485); none until the COLL_DEADLINE event -/
  ref : Option W64
  /-- beat of the release of the own contribution (R472) -/
  released : Option W64 := none
  /-- masks sent: index and bytes (R487, R499) -/
  sent : List (Nat × List Byte) := []
  /-- round 1 fell below QUORUM (R488) -/
  need2 : Bool := false
  /-- agreed mask and round of the present round, and of the P round of LR_REDUCE -/
  agreed : Option (Nat × Nat) := none
  pAgreed : Option (Nat × Nat) := none
  nanset : Nat := 0
  /-- LR_REDUCE: the Q round, the own contribution's codes, P̄, and the result shards that have landed -/
  q : Bool := false
  own : List Nat := []
  pbar : List Nat := []
  low : Tab Byte := []
  /-- partial sums by level: element and code in the accumulation format, none for absent (R474) -/
  partials : List (List (Nat × Option Nat)) := []
  /-- results travel down (R478), and the level under way -/
  down : Bool := false
  level : Nat := 0
  attempt : Nat := 0
  restarts : Nat := 0
  deriving DecidableEq, Repr

/-- Collectives beside their registers and the group table (which is memory of granule 383, R460). -/
structure Coll where
  ops : List CollOp := []
  landings : List Landing := []
  /-- operations that have completed locally: group and OPSEQ (R481, R482) -/
  doneOps : List (Nat × Nat) := []
  /-- the MCP's staged GROUP_WRITEs since the last commit, oldest first: entry, offset, bytes (R466) -/
  staging : List (Nat × Nat × List Byte) := []
  /-- a GROUP_COMMIT that waits for its validation: channel and tag -/
  committer : Option (Nat × W32) := none
  deriving DecidableEq, Repr

/-! ### Memory, test, power, counters, bays -/

/-- Memory facts beside the bytes and registers (R333 to R338, R573). -/
structure MemX where
  /-- erased channels that wait for their turn, per stack, in order (R333): channel and whether OP 1 erased it -/
  waiting : Tab (List (Nat × Bool)) := []
  /-- the stack's erased channel: channel, erased with OP 1 -/
  erased : Tab (Option (Nat × Bool)) := []
  /-- corrections of the last millisecond: stack, position, line and beat (R333) -/
  burst : List (Nat × Nat × Nat × W64) := []
  /-- remapped rows: stack, channel, row and the spare row that holds it (R336); for SRAM redundancy, 8 + bank key, instance, row and
  redundancy row (R573). `flashRows`: the flash copy, loaded at boot with the spare map (R329, R616) -/
  rowMap : List (Nat × Nat × Nat × Nat) := []
  flashRows : List (Nat × Nat × Nat × Nat) := []
  redundancy : Tab Nat := []
  /-- armed flip mask: the stored word's address (R338) -/
  armed : Option Nat := none
  /-- beats of each bucket's overflows, for the 24 h policy of R573 -/
  overflows : Tab (List W64) := []
  /-- buckets whose overflows raised an interrupt to the MCPs (R332), oldest first (notes/assumptions/13.md) -/
  mcpIrqs : List Nat := []
  deriving DecidableEq, Repr

/-- A pattern set in force: version, coverage in 1/100 %, slices per run (R567). The shipped sets: notes/assumptions/11.md. -/
structure PSet where
  version : Nat := 1
  sa : Nat := Config.shippedCov.1.toNat
  tr : Nat := Config.shippedCov.2.toNat
  slices : Nat := 40
  deriving DecidableEq, Repr

/-- Rolling test, life cycle, patterns (R552 to R572). -/
structure Test where
  /-- life-cycle state: 0 BLANK, 1 FACTORY, 2 FIELD, 3 SERVICE, 4 RETIRED (R513) -/
  lc : Nat := 2
  /-- deferral start per wing (R562) -/
  deferred : Tab (Option W64) := []
  /-- pattern set in force per target (R567, R568), and the set that each wing's running test began with (R569) -/
  patterns : Tab PSet := []
  running : Tab PSet := []
  swaps : Nat := 0
  /-- the core of each wing that falls due next, and the beat at which the last one did (R559) -/
  nextCore : Tab Nat := []
  dueAt : Tab (Option W64) := []
  /-- planned SPARE_SWAP actions: swap identifier, action kind, unit (R574) -/
  planned : List (W32 × Nat × Nat) := []
  deriving DecidableEq, Repr

/-- A flash image kind: slots A and B as (valid, sequence), live sequence (R612 to R616). -/
structure Image where
  aOk : Bool := false
  aSeq : Nat := 0
  bOk : Bool := false
  bSeq : Nat := 0
  /-- firmware versions of the slots (R613) -/
  aVer : W32 := Config.fwVersion
  bVer : W32 := 0
  live : Nat := 0
  /-- the live copy is newer than the flash copy (R616) -/
  dirty : Bool := false
  deriving DecidableEq, Repr

/-- The shutdown record (R565, R566): outcome 0 PASS, 1 REPAIRED, 2 FAIL; firmware version and image sequences of the pattern sets; the
spare map's sequence; used by a start. -/
structure ShutRecord where
  outcome : Nat
  fw : W32
  versions : List Nat
  mapSeq : Nat
  used : Bool := false
  deriving DecidableEq, Repr

/-- A stop record (R592): STOP_CAUSE, beat, blade voltage in mV, PWR_TEMP's two temperatures and the spare map's sequence. -/
structure StopRecord where
  cause : Nat
  beat : W64
  mv : Nat
  temps : W32
  mapSeq : Nat
  deriving DecidableEq, Repr

/-- The power policy table (R598) with the operator cap (R604). -/
structure Policy where
  normal : Nat := 0
  site : Nat := 3
  pgroup : Nat := 0xFFF
  plead : Nat := 256
  debounce : Nat := 1000
  drainS : Nat := 30
  opcap : Option Nat := none
  deriving DecidableEq, Repr

/-- Power, boot and configuration beside their registers (R590 to R622). -/
structure Power where
  mv : Nat := 0
  standby : Bool := false
  main : Bool := false
  /-- what a restart waits for: 0 nothing, 1 the blade voltage in range (R594), 2 blade power removed and restored -/
  stopped : Nat := 0
  policy : Policy := {}
  /-- the flash copies of the policy, the partition table, the calibration, and the fabric and beat settings (R612, R616) -/
  flashPolicy : Policy := {}
  flashParts : Tab Part := []
  flashRegs : Tab W32 := []
  /-- user calibration: item and delta (R617) -/
  cal : List (Nat × Int) := []
  /-- modules of the group that report SITE_POWER_N asserted (R599) -/
  asserted : List Nat := []
  /-- profile last scheduled and its beat (R600) -/
  lastSched : Option (Nat × W64) := none
  /-- a replaced MCP waits for its test; the standby MCP is there; standby wing controllers are there, per wing (R619, R620) -/
  replaced : Bool := false
  standbyMcp : Bool := true
  wcStandby : Tab Bool := []
  images : Tab Image := []
  record : Option ShutRecord := none
  /-- stop records (R592) -/
  stopRecords : List StopRecord := []
  /-- an orderly shutdown is in progress (R611) -/
  shutting : Bool := false
  /-- warnings given in the present crossing (R590, R605) -/
  thermWarned : Bool := false
  ovWarned : Bool := false
  /-- the clock was lowered for temperature and has not come back (R605) -/
  thermHold : Bool := false
  /-- beats of the governor's last step down, its last step up and its last log entry (R595, R596) -/
  stepped : Option W64 := none
  raised : Option W64 := none
  logged : Option W64 := none
  /-- the profile before a downward change, whose cap applies until a beat (R603) -/
  oldCap : Option (Nat × W64) := none
  /-- THERM_TRIP_N is low (R653) -/
  trip : Bool := false
  /-- the ALERT field of the SMBus (R656) -/
  alert : BitVec 4 := 0
  recovery : Bool := false
  deriving DecidableEq, Repr

/-- A counter bank (R631, R634). -/
structure Bank where
  words : Tab W64 := []
  seq : W32 := 0
  layer : W16 := 0
  oper : W16 := 0
  beat : W64 := 0
  overlap : Bool := false
  deriving DecidableEq, Repr

/-- A tracker's banks (R631); MODE, ACTIVE and MISSED are in CNT_TRK_x. -/
structure Track where
  x : Bank := {}
  y : Bank := {}
  deriving DecidableEq, Repr

/-- A beat window (R639, R640). -/
structure Win where
  len : Nat := 0
  dest : W64 := 0
  part : Nat := 255
  opened : Option W64 := none
  /-- length and destination of the open window -/
  openLen : Nat := 0
  openDest : W64 := 0
  base : Tab W64 := []
  overrun : Bool := false
  late : Bool := false
  record : List W64 := []
  deriving DecidableEq, Repr

/-- Counters and tracing beside their registers (R628 to R647). -/
structure Counters where
  total : Tab Bank := []
  module_ : Bank := {}
  tracks : Tab Track := []
  /-- captured views, keyed by path and window offset (R635) -/
  shadows : List (Nat × Nat × List W64) := []
  /-- per-port, stack, larder, hallway and core blocks, keyed by window offset (R636) -/
  blocks : Tab W64 := []
  wins : Tab Win := []
  traceNext : Tab Nat := []
  /-- records that each wing wrote in a beat (R644), and per ring the LOST field and the records dropped since the last LOST record -/
  traceRate : Tab (W64 × Nat) := []
  traceLost : Tab (Nat × Nat) := []
  commits : Tab Nat := []
  deriving DecidableEq, Repr

/-- A cartridge bay (R661 to R665). -/
structure Bay where
  /-- 0 green, 1 amber, 2 amber flashing, 3 red, 4 off -/
  lamp : Nat := 0
  leverOpen : Bool := false
  fitted : Bool := true
  warming : Bool := false
  deriving DecidableEq, Repr

/-- The spare map a module is shipped with (notes/assumptions/11.md): logical core c of a wing on the wing's physical core of the same
place, the last 8 of each wing in the attic (R27). -/
def shippedMap : Tab (Option Nat) := (List.range 128).map (fun c => (c, some (72 * (c / 64) + c % 64)))

/-- The state of the module. -/
structure State where
  /-- commands waiting, first in first out -/
  pending : List Instr := []
  /-- the model's own counter of free values (notes/assumptions/9.md) -/
  freeCtr : Nat := 0
  /-- the last value or byte string returned to whoever asked (notes/assumptions/13.md) -/
  resp : List Byte := []
  regs : Tab W32 := []
  /-- memory bytes by physical device address (R298); an unlisted byte is 0 -/
  mem : List Host.Cell := []
  /-- stored check bits and tags, as the difference from the valid code (R320, R322) -/
  ecc : Tab W64 := []
  threads : Tab Thread := []
  latches : Tab W128 := []
  cores : Tab Core := []
  /-- logical core to physical core (R189); none: unmapped -/
  spareMap : Tab (Option Nat) := []
  /-- the spare map's flash copy, loaded at boot (R606, R616) -/
  flashMap : Tab (Option Nat) := shippedMap
  /-- retired physical core to the logical core it held last (R191) -/
  retiredMap : Tab (Option Nat) := []
  epochs : Tab Nat := []
  handovers : List Handover := []
  heldAcc : List (Nat × HeldAccess) := []
  releases : List Release := []
  resetAcks : Tab Nat := []
  arrays : Tab Arr := []
  dma : Tab (List DmaJob) := []
  rings : Tab Ring := []
  cmds : List Cmd := []
  parts : Tab Part := []
  host : HostIf := {}
  beat : Beat := {}
  fab : Fabric := {}
  coll : Coll := {}
  memx : MemX := {}
  test : Test := {}
  pwr : Power := {}
  cnt : Counters := {}
  bays : Tab Bay := []
  reports : List Report := []
  /-- sequence of the next report, and of the first one not yet sent (R578, R579) -/
  rseq : W32 := 0
  rsent : W32 := 0
  /-- sequences to be sent again (R580) -/
  resend : List W32 := []
  deriving DecidableEq, Repr

/-- The module right after reset: registers at the Reset column (R18: an unlisted register reads its reset value), memories
unlisted (R329), every thread FREE (R160), partitions FREE (R542), rings NONE, channels UNBOUND, the beat counter 0 in
UNLOCKED (R353), the power policy at the defaults of R598. Values the manual does not give: notes/assumptions/4.md. -/
def State.reset : State := {}

end Sys2Proof.Machine
end

