-- ==== Sys2Proof/Machine/Ops.lean ====
section
/-! DEFINITION. The named operations every meaning is made of: registers and their fields, the tables of the state, logs and
reports (R534, R548, R579), and counters (R629, R633). -/

namespace Sys2Proof.Machine

/-! ### Registers -/

/-- A register word. -/
def State.rd (s : State) (off : Nat) : W32 := tget resetReg s.regs off
/-- Store a register word. -/
def State.wr (s : State) (off : Nat) (v : W32) : State := { s with regs := tput resetReg s.regs off v }
/-- A field [hi:lo] of a register. -/
def State.rdF (s : State) (off hi lo : Nat) : Nat := bf (s.rd off) hi lo
/-- A one-bit field. -/
def State.rdB (s : State) (off i : Nat) : Bool := bitAt (s.rd off) i
/-- Store a field. -/
def State.wrF (s : State) (off hi lo v : Nat) : State := s.wr off (bfSet (s.rd off) hi lo v)
/-- Store a one-bit field. -/
def State.wrB (s : State) (off i : Nat) (b : Bool) : State := s.wr off (bitSet (s.rd off) i b)
/-- Count in a field that holds at its limit. -/
def State.incF (s : State) (off hi lo n : Nat) : State :=
  s.wrF off hi lo (holdAdd (2 ^ (hi + 1 - lo) - 1) (s.rdF off hi lo) n)
/-- A 64-bit register: its low word first (R14). -/
def State.rd64 (s : State) (off : Nat) : Nat := (s.rd off).toNat + 2 ^ 32 * (s.rd (off + 4)).toNat
/-- Store a 64-bit register. -/
def State.wr64 (s : State) (off : Nat) (v : Nat) : State :=
  (s.wr off (BitVec.ofNat 32 v)).wr (off + 4) (BitVec.ofNat 32 (v / 2 ^ 32))

/-- ARR_INJ_i, ECC_INJ_* and ECC_RAW_*: they work in the FACTORY and SERVICE states only, and read zero in the others (R155, R337,
R570). -/
def injReg (off : Nat) : Bool :=
  (rArrStat 0 ≤ off && off < rArrStat 576 && off % 16 = 12) || (rEccInjAddr ≤ off && off < rEccRawData 8)
def State.injectable (s : State) : Bool := s.test.lc = 1 || s.test.lc = 3
/-- The injection registers lose what they hold when the life-cycle state stops them. -/
def State.closeInj (s : State) : State :=
  if s.injectable then s
  else { s with regs := s.regs.filter (fun x => !injReg x.1), memx := { s.memx with armed := none } }

/-- Fields of a register that have rows of their own. -/
def ownRow (off : Nat) : W32 :=
  if 0x1000000 ≤ off && off < 0x1000000 + 0x40 * 144 && off % 0x40 = 4 then 0x60000000#32
  else if 0x1010000 ≤ off && off < 0x1010000 + 0x10 * 576 && off % 0x10 = 8 then 0xFFFFFFFF#32
  else if rMemGran 0 ≤ off && off < rMemGran 384 then 0x30#32
  else if off = rBeatCtl then 0x7FF#32
  else if rFabRoute 0 ≤ off && off < rFabRoute 64 then 0x80000000#32
  else if off = rCollCtl then 0x40000000#32
  else 0
/-- A plain write of a register word (R19); fields with a row of their own keep their value. -/
def State.plainReg (s : State) (off : Nat) (val : W32) : State :=
  let d := regDesc off
  s.wr off (plainWrite { d with rw := d.rw &&& ~~~(ownRow off) } (s.rd off) val)

/-! ### Tables -/

def State.thr (s : State) (c t : Nat) : Thread := tget (fun _ => {}) s.threads (32 * c + t)
def State.setThr (s : State) (c t : Nat) (x : Thread) : State :=
  { s with threads := tput (fun _ => {}) s.threads (32 * c + t) x }
def State.core (s : State) (c : Nat) : Core := tget (fun _ => {}) s.cores c
def State.setCore (s : State) (c : Nat) (x : Core) : State := { s with cores := tput (fun _ => {}) s.cores c x }
def State.arr (s : State) (a : Nat) : Arr := tget (fun _ => {}) s.arrays a
def State.setArr (s : State) (a : Nat) (x : Arr) : State := { s with arrays := tput (fun _ => {}) s.arrays a x }
def State.ring (s : State) (n : Nat) : Ring := tget (fun _ => {}) s.rings n
def State.setRing (s : State) (n : Nat) (x : Ring) : State := { s with rings := tput (fun _ => {}) s.rings n x }
def State.part (s : State) (p : Nat) : Part := tget (fun _ => {}) s.parts p
def State.setPart (s : State) (p : Nat) (x : Part) : State := { s with parts := tput (fun _ => {}) s.parts p x }
def State.chan (s : State) (c : Nat) : Chan := tget (fun _ => {}) s.host.chans c
def State.setChan (s : State) (c : Nat) (x : Chan) : State :=
  { s with host := { s.host with chans := tput (fun _ => {}) s.host.chans c x } }
def State.port (s : State) (p : Nat) : Port := tget (fun _ => {}) s.fab.ports p
def State.setPort (s : State) (p : Nat) (x : Port) : State :=
  { s with fab := { s.fab with ports := tput (fun _ => {}) s.fab.ports p x } }
def State.dmaq (s : State) (k : Nat) : List DmaJob := tget (fun _ => []) s.dma k
def State.setDmaq (s : State) (k : Nat) (x : List DmaJob) : State := { s with dma := tput (fun _ => []) s.dma k x }
/-- Bays as the module is shipped: three cartridges, the third STANDBY, amber (R457, R661). -/
def bayReset (c : Nat) : Bay := { lamp := if c = 3 then 1 else 0 }
def State.bay (s : State) (c : Nat) : Bay := tget bayReset s.bays c
def State.setBay (s : State) (c : Nat) (x : Bay) : State := { s with bays := tput bayReset s.bays c x }
def State.epoch (s : State) (c : Nat) : Nat := tget (fun _ => 0) s.epochs c
def State.bank (s : State) (p : Nat) : Bank := tget (fun _ => {}) s.cnt.total p
def State.track (s : State) (x : Nat) : Track := tget (fun _ => {}) s.cnt.tracks x

/-- The current beat. -/
def State.now (s : State) : W64 := s.beat.count
/-- A free value (notes/assumptions/9.md): the counter is read here and advanced by `bump`. -/
def State.free (s : State) (i : Nat) : W64 := Config.freeWord s.freeCtr i
def State.bump (s : State) : State := { s with freeCtr := s.freeCtr + 1 }
/-- What the module answers to whoever asked (notes/assumptions/13.md). -/
def State.answer (s : State) (b : List Byte) : State := { s with resp := b }

/-! ### Who is who -/

/-- The physical core of a logical core (R189). -/
def State.phys (s : State) (c : Nat) : Option Nat := tget (fun _ => none) s.spareMap c
/-- The logical core a physical core holds; none in the attic (R197). -/
def State.logical (s : State) (i : Nat) : Option Nat := (List.range 128).find? (fun c => s.phys c = some i)
/-- The wing of a physical core (R27). -/
def wingOf (i : Nat) : Nat := if i < 72 then 0 else 1
/-- The partition of a logical core: the one that lists it (R543). -/
def State.partOfCore (s : State) (c : Nat) : Option Nat :=
  (List.range 8).find? (fun p => (s.part p).st ≠ .free && (s.part p).cores.getLsbD c)
/-- The partition of a physical core (CORE_STAT.PART, R197). -/
def State.partOfPhys (s : State) (i : Nat) : Option Nat := (s.logical i).bind s.partOfCore
/-- The identity of this module (R451). -/
def State.maddr (s : State) : Nat := s.rdF rFabId 29 16

/-- A core of the partition is frozen for a hand-over: accesses to it are held (R190), and so are the wing controller's. -/
def State.frozenPart (s : State) (p : Nat) : Bool :=
  s.handovers.any (fun h => h.frozen && !h.fault && s.partOfCore h.logical = some p)
/-- Index of DMA queue q of physical core c; the wing engines' queues follow (R314). -/
def dmaIdx (c q : Nat) : Nat := 4 * c + q

/-! ### Reports and logs -/

/-- Unit codes of R549. -/
def uCore : Nat := 1
def uArray : Nat := 2
def uMem : Nat := 3
def uHall : Nat := 4
def uPort : Nat := 5
def uCart : Nat := 6
def uWc : Nat := 7
def uMcp : Nat := 8
def uPower : Nat := 9
def uHost : Nat := 10
def uBeat : Nat := 11
def uColl : Nat := 12

/-- Write host memory bytes: posted writes over PCI Express. -/
def State.hostWrite (s : State) (a : Nat) (b : List Byte) : State :=
  { s with host := { s.host with
      mem := (b.zipIdx).foldl (fun m x => tput (fun _ => 0) m (a + x.2) x.1) s.host.mem } }

/-- Raise an MSI-X vector; a host reset disables MSI-X (R510). -/
def State.irq (s : State) (v : Nat) : State :=
  if s.host.msix then { s with host := { s.host with irqs := s.host.irqs ++ [v] } } else s

/-- Nanoseconds from the edge of beat `b` to that of the current beat, each beat at the period in force during it (R12). -/
def State.nsSince (s : State) (b : W64) : Nat :=
  let r := s.beat.periods.foldl (fun (acc : Nat × Nat × Nat) x =>
    let lo := max b.toNat (min acc.1 x.1.toNat)
    (lo, x.2, acc.2.2 + (acc.1 - lo) * acc.2.1)) (s.now.toNat, s.rdF rBeatCtl 10 0, 0)
  8 * (r.2.2 + (r.1 - b.toNat) * r.2.1)

/-- The T620 record of an error or event in the host's error ring (R548): dropped and counted when the ring is full. -/
def State.errRecord (s : State) (r : Report) : State :=
  let g := s.host.err
  if !g.on || r.rtype ≠ 2 || r.summary then s
  else
    let n := 2 ^ g.log2e
    if n ≤ (g.written - g.consumed).toNat then
      { s with host := { s.host with err := { g with dropped := g.dropped + 1 } } }
    else
      let k := g.written.toNat
      let ph := if k / n % 2 = 0 then 0x80 else 0
      let rec_ := leBytes 2 1 ++ leBytes 1 r.unit ++ [0] ++ leBytes 2 r.inst ++ leBytes 2 r.err.toNat ++ leBytes 8 r.beat.toNat
        ++ leBytes 2 r.temp.toNat ++ leBytes 2 r.volt.toNat ++ leBytes 2 r.oper.toNat ++ leBytes 2 r.layer.toNat
        ++ leBytes 4 r.seq.toNat ++ [0, 0, 0] ++ leBytes 1 ph
      let s := s.hostWrite (g.base.toNat + 32 * (k % n)) rec_
      ({ s with host := { s.host with err := { g with written := g.written + 1 } } } : State).irq g.vector

/-- A native report gets its number (R578, R579; the last 4,096 are kept, R580), and its T620 record (R548). -/
def State.putReport (s : State) (r : Report) : State :=
  let r := { r with beat := s.now, rseq := s.rseq, temp := BitVec.ofNat 16 (s.rdF rPwrTemp 31 16), volt := BitVec.ofNat 16 s.pwr.mv }
  let l := s.reports ++ [r]
  ({ s with reports := l.drop (l.length - 4096), rseq := s.rseq + 1 } : State).errRecord r

def State.rate (s : State) (code : Nat) : Rate := tget (fun _ => {}) s.host.rates code
def State.setRate (s : State) (code : Nat) (x : Rate) : State :=
  { s with host := { s.host with rates := tput (fun _ => {}) s.host.rates code x } }
/-- The second of a code's reports is over (R580). -/
def State.rateOver (s : State) (code : Nat) : Bool := decide (1000000000 ≤ s.nsSince (s.rate code).at_)

/-- The SUMMARY record of a code's suppressed reports, if it has any (R580). -/
def State.summary (s : State) (code : Nat) : State :=
  let x := s.rate code
  if x.lost = 0 then s
  else (s.setRate code { x with lost := 0 }).putReport
    { unit := uMcp, sev := 0, inst := 0, err := BitVec.ofNat 16 code, beat := 0, rseq := 0, detail := x.lost, summary := true }

/-- The SUMMARY records whose second is over. -/
def State.dueSummaries (s : State) : State :=
  s.host.rates.foldl (fun s e => if s.rateOver e.1 then s.summary e.1 else s) s

/-- Log an event: at most 1,000 reports of one code in a second; those beyond are counted for a SUMMARY record (R580). A ledger-entry
record has no code of its own (R583). -/
def State.report (s : State) (r : Report) : State :=
  let code := r.err.toNat
  let x := s.rate code
  if r.rtype = 3 then s.putReport r
  else if x.sent = 0 || s.rateOver code then ((s.summary code).setRate code { at_ := s.now, sent := 1 }).putReport r
  else if x.sent < 1000 then (s.setRate code { x with sent := x.sent + 1 }).putReport r
  else s.setRate code { x with lost := x.lost + 1 }

/-- The plain event log: unit, severity, instance, code. -/
def State.event (s : State) (unit sev inst : Nat) (err : W16) : State := s.report { unit, sev, inst, err, beat := 0, rseq := 0 }

/-- Add to a session error log of 64 entries, the oldest overwritten when full (R534). `none` is the module log. -/
def State.logSession (s : State) (c : Option Nat) (code : W16) (off : Nat) : State :=
  let e : LogEntry := { code, off := BitVec.ofNat 32 off, beat := s.now }
  match c with
  | some c =>
    let x := s.chan c
    if x.log.length < 64 then s.setChan c { x with log := x.log ++ [e] }
    else s.setChan c { x with log := x.log.drop 1 ++ [e], logLost := x.logLost + 1 }
  | none => { s with host := { s.host with log := s.host.log ++ [e] } }

/-! ### Counters (R628 to R633) -/

/-- Who causes an event, and for which command (R629). -/
structure Req where
  part : Option Nat := none
  wing : Nat := 0
  /-- the event belongs to a command -/
  cmd : Bool := false
  layer : W16 := 0
  oper : W16 := 0
  seq : W32 := 0
  deriving DecidableEq, Repr

/-- The request of a thread. -/
def State.reqThr (s : State) (c t : Nat) : Req :=
  let x := s.thr c t
  { part := some x.part, wing := wingOf c, cmd := true, layer := x.layer, oper := x.oper, seq := x.seq }

def Bank.inc (b : Bank) (w n : Nat) : Bank :=
  { b with words := tput (fun _ => 0) b.words w (tget (fun _ => 0) b.words w + BitVec.ofNat 64 n) }

/-- Whether an event of a request counts in tracker x (R631). -/
def State.tracks (s : State) (x : Nat) (r : Req) : Bool :=
  let mode := s.rdF (rCntTrk x) 31 30
  if mode = 1 then true
  else if mode = 2 then
    let f := s.rd64 (rCntTrkf x)
    let lval := f / 2 ^ 48 % 2 ^ 16; let lmask := f / 2 ^ 32 % 2 ^ 16
    let oval := f / 2 ^ 16 % 2 ^ 16; let omask := f % 2 ^ 16
    r.cmd && r.layer.toNat &&& lmask = lval &&& lmask && r.oper.toNat &&& omask = oval &&& omask
  else false

/-- Count in a tracker's LIVE bank; an event of another command than the tagged one sets OVERLAP (R633). -/
def State.countTrack (s : State) (x w n : Nat) (r : Req) : State :=
  if s.tracks x r then
    let k := s.track x
    let y := s.rdB (rCntTrk x) 28
    let b := if y then k.y else k.x
    let b := { b.inc w n with overlap := b.overlap || (s.rdF (rCntTrk x) 31 30 = 2 && r.cmd && r.seq ≠ b.seq) }
    { s with cnt := { s.cnt with tracks := tput (fun _ => {}) s.cnt.tracks x (if y then { k with y := b } else { k with x := b }) } }
  else s

/-- Count an event: in the partition's TOTAL set and trackers, and in the module TOTAL (R629, R631, R636). -/
def State.count (s : State) (r : Req) (w n : Nat) : State :=
  if n = 0 then s
  else
    let s := { s with cnt := { s.cnt with module_ := s.cnt.module_.inc w n } }
    match r.part with
    | none => s
    | some p =>
      let s := { s with cnt := { s.cnt with total := tput (fun _ => {}) s.cnt.total p ((s.bank p).inc w n) } }
      [0, 1, 2].foldl (fun s t => s.countTrack (3 * p + t) w n r) s

/-- Count in a per-unit block of the counter window (R636), by window offset. -/
def State.countBlock (s : State) (off n : Nat) : State :=
  { s with cnt := { s.cnt with blocks := tput (fun _ => 0) s.cnt.blocks off (tget (fun _ => 0) s.cnt.blocks off + BitVec.ofNat 64 n) } }

end Sys2Proof.Machine
end

