-- ==== Sys2Proof/Machine/Mem.lean ====
section
/-! DEFINITION. The memories: the device address map (R298, R299), ownership (R302), the check codes with correction and poison
(R320 to R328), the leaky buckets and channel erasure a read can trigger (R331 to R335), the flip mask (R338), and traces
(R641). Bytes are kept by physical device address; what a granule's check bits say is kept as their difference from the valid
code of the stored data (notes/assumptions/10.md). -/

namespace Sys2Proof.Machine

/-! ### The address map -/

def dramEnd : Nat := 0x006000000000
def larderBase (w : Nat) : Nat := 0x010000000000 + 0x10000000 * w
def larderSize : Nat := 0x06000000
def storeBase (i : Nat) : Nat := 0x010100000000 + 0x400000 * i
def storeSize : Nat := 0x200000
def latchBase (i : Nat) : Nat := 0x010200000000 + 0x400 * i

/-- What a local device address names (R298): a byte of memory by its physical address, a byte of a latch record, a register
offset, or nothing. -/
inductive Loc where
  | mem (pa : Nat)
  | latch (core latch off : Nat)
  | reg (off : Nat)
  | unmapped
  deriving DecidableEq, Repr

/-- The physical core that answers in physical core i's windows: the replacement once i is retired (R191). -/
def State.target (s : State) (i : Nat) : Nat :=
  match tget (fun _ => none) s.retiredMap i with
  | some c => (s.phys c).getD i
  | none => i

/-- A core-store byte of a physical core. -/
def storeLoc (i off : Nat) : Loc := if off < storeSize then .mem (storeBase i + off) else .unmapped
/-- A latch byte of a physical core. -/
def latchLoc (i off : Nat) : Loc := if off < 768 then .latch i (off / 16) (off % 16) else .unmapped

/-- Resolve a local device address (R298, R300): logical windows through the spare map. -/
def State.resolve (s : State) (a : Nat) : Loc :=
  if a < dramEnd then .mem a
  else if larderBase 0 ≤ a ∧ a < larderBase 0 + larderSize then .mem a
  else if larderBase 1 ≤ a ∧ a < larderBase 1 + larderSize then .mem a
  else if 0x010100000000 ≤ a ∧ a < 0x010100000000 + 144 * 0x400000 then
    storeLoc (s.target ((a - 0x010100000000) / 0x400000)) ((a - 0x010100000000) % 0x400000)
  else if 0x010180000000 ≤ a ∧ a < 0x010180000000 + 128 * 0x400000 then
    match s.phys ((a - 0x010180000000) / 0x400000) with
    | some i => storeLoc i ((a - 0x010180000000) % 0x400000)
    | none => .unmapped
  else if 0x010200000000 ≤ a ∧ a < 0x010200000000 + 144 * 0x400 then
    latchLoc (s.target ((a - 0x010200000000) / 0x400)) ((a - 0x010200000000) % 0x400)
  else if 0x010200100000 ≤ a ∧ a < 0x010200100000 + 128 * 0x400 then
    match s.phys ((a - 0x010200100000) / 0x400) with
    | some i => latchLoc i ((a - 0x010200100000) % 0x400)
    | none => .unmapped
  else if 0x018000000000 ≤ a ∧ a < 0x018002000000 then .reg (a - 0x018000000000)
  else .unmapped

def isDram (pa : Nat) : Bool := decide (pa < dramEnd)
/-- The larder a physical address lies in. -/
def larderOf (pa : Nat) : Option Nat :=
  if larderBase 0 ≤ pa ∧ pa < larderBase 0 + larderSize then some 0
  else if larderBase 1 ≤ pa ∧ pa < larderBase 1 + larderSize then some 1 else none
/-- The core store a physical address lies in. -/
def storeOf (pa : Nat) : Option Nat :=
  if 0x010100000000 ≤ pa ∧ pa < 0x010100000000 + 144 * 0x400000 then some ((pa - 0x010100000000) / 0x400000) else none

/-- The end of the memory that a physical address lies in (R298). -/
def memEnd (pa : Nat) : Nat :=
  if isDram pa then dramEnd
  else match larderOf pa with
  | some w => larderBase w + larderSize
  | none => match storeOf pa with
    | some i => storeBase i + storeSize
    | none => 0

/-- The physical address of a range of n bytes that lies whole in one memory: no byte of it is unmapped (R298). -/
def State.range (s : State) (a n : Nat) : Option Nat :=
  match s.resolve a with
  | .mem p => if p + n ≤ memEnd p then some p else none
  | _ => none

/-- A core store whose core is frozen for a hand-over (R190). -/
def State.frozenStore (s : State) (pa : Nat) : Bool :=
  match storeOf pa with
  | some i => s.rdB (rCoreStat i) 4
  | none => false

/-- The work-counter region of a larder (R310). -/
def inWorkRegion (pa : Nat) : Bool :=
  match larderOf pa with
  | some w => decide (0x5800000 ≤ pa - larderBase w ∧ pa - larderBase w < 0x5C00000)
  | none => false

/-- A granule whose refill is in progress (R309). -/
def State.busyGran (s : State) (pa : Nat) : Bool := isDram pa && s.rdB (rMemGran (pa / 2 ^ 30)) 3

/-- The stack of a DRAM address (R307). -/
def State.stackOf (s : State) (pa : Nat) : Nat :=
  let a := pa % 2 ^ 30
  let m := s.rdF (rMemGran (pa / 2 ^ 30)) 5 4
  if m = 1 then (a / 2 ^ 8 % 4) ^^^ (a / 2 ^ 16 % 4) ^^^ (a / 2 ^ 24 % 4)
  else if m = 2 then 4 + ((a / 2 ^ 8 % 4) ^^^ (a / 2 ^ 16 % 4) ^^^ (a / 2 ^ 24 % 4))
  else (a / 2 ^ 8 % 8) ^^^ (a / 2 ^ 16 % 8) ^^^ (a / 2 ^ 24 % 8)

/-! ### Bytes and granules -/

/-- A stored byte; an unlisted one is 0 (R329, notes/assumptions/5.md). -/
def State.byte (s : State) (pa : Nat) : Byte := tget (fun _ => 0) s.mem pa
def State.bytes (s : State) (pa n : Nat) : List Byte := (span pa n).map s.byte
/-- Store bytes, check bits aside. -/
def putBytes (m : List Host.Cell) : Nat → List Byte → List Host.Cell
  | _, [] => m
  | a, b :: t => putBytes (tput (fun _ => 0) m a b) (a + 1) t

/-- Size of the poison granule: a 64-byte line in DRAM, an 8-byte word elsewhere (R325). -/
def granSize (pa : Nat) : Nat := if isDram pa then 64 else 8
def granOf (pa : Nat) : Nat := pa / granSize pa * granSize pa
def State.delta (s : State) (g : Nat) : Nat := (tget (fun _ => 0) s.ecc g).toNat
def State.setDelta (s : State) (g d : Nat) : State := { s with ecc := tput (fun _ => 0) s.ecc g (BitVec.ofNat 64 d) }
/-- The difference that marks a granule poisoned: the tag (R321), or all check symbols XORed with 0xFF (R322). -/
def poisonDelta (g : Nat) : Nat := if isDram g then 2 ^ 64 - 1 else 0x700

/-! ### The SRAM code (R320, R321) -/

/-- The 8-bit values of a weight, ascending. -/
def weighted (w : Nat) : List Nat := (List.range 256).filter (fun v => popNat 8 v = w)
/-- Parity-check columns of data bits 0 to 63. -/
def hsiaoCols : List Nat := weighted 3 ++ (weighted 5).take 8
/-- Check bits of an 8-byte word. -/
def hsiao (d : Nat) : Nat := (hsiaoCols.zipIdx).foldl (fun a x => if d / 2 ^ x.2 % 2 = 1 then a ^^^ x.1 else a) 0

/-! ### The DRAM code (R322, R323) -/

/-- Multiplication in GF(2^8) modulo x^8 + x^4 + x^3 + x^2 + 1. -/
def gfMulN : Nat → Nat → Nat → Nat
  | 0, _, _ => 0
  | k + 1, a, b =>
    (if b % 2 = 1 then a else 0) ^^^ gfMulN k (if a * 2 < 256 then a * 2 else (a * 2) ^^^ 0x11D) (b / 2)
def gfMul (a b : Nat) : Nat := gfMulN 8 a b
/-- α^i. -/
def gfAlpha : Nat → Nat
  | 0 => 1
  | i + 1 => gfMul (gfAlpha i) 2
def gfPow (a : Nat) : Nat → Nat
  | 0 => 1
  | i + 1 => gfMul (gfPow a i) a
/-- The inverse of a non-zero element. -/
def gfInv (a : Nat) : Nat := gfPow a 254

/-- Byte k of a number. -/
def byteAt (d k : Nat) : Nat := d / 256 ^ k % 256

/-- The two check symbols that a wrong symbol e at data position i stands for: the solution of s0 = e, s1 = e α^i. -/
def rsPair (i e : Nat) : Nat × Nat :=
  let c := gfMul (gfMul e (gfAlpha i ^^^ gfAlpha 17)) (gfInv (gfAlpha 16 ^^^ gfAlpha 17))
  (c, e ^^^ c)

/-- The check symbols of a line as ECC_RAW_CHK holds them: codeword b at bytes 2b and 2b + 1 (R339). -/
def rsCode (line : List Byte) : Nat :=
  (List.range 4).foldl (fun a b =>
    let p := (List.range 16).foldl (fun p i =>
      let q := rsPair i (line.getD (4 * i + b) 0).toNat
      (p.1 ^^^ q.1, p.2 ^^^ q.2)) (0, 0)
    a + (p.1 + 256 * p.2) * 256 ^ (2 * b)) 0

/-- Syndromes of a line from its check difference: s0 and s1 of the four codewords. -/
def rsSyn (d : Nat) : List (Nat × Nat) :=
  (List.range 4).map (fun b =>
    let c := byteAt d (2 * b); let e := byteAt d (2 * b + 1)
    (c ^^^ e, gfMul (gfAlpha 16) c ^^^ gfMul (gfAlpha 17) e))

/-- π of R322. -/
def rsPi : Nat := gfMul 0xFF (gfAlpha 16 ^^^ gfAlpha 17)

/-- What a line decodes to under one reading: no correction, or position i corrected (R323). -/
def rsTry (syn : List (Nat × Nat)) (erased : Option Nat) (poison : Bool) : Option (Option Nat) :=
  let st := syn.map (fun x => (x.1, x.2 ^^^ (if poison then rsPi else 0)))
  match erased with
  | none =>
    if st.all (fun x => x.1 = 0 && x.2 = 0) then some none
    else match (List.range 18).find? (fun i => st.all (fun x => x.2 = gfMul x.1 (gfAlpha i))) with
      | some i => some (some i)
      | none => none
  | some j => if st.all (fun x => x.2 = gfMul x.1 (gfAlpha j)) then some (some j) else none

/-- The decoding of R323: poisoned, and the position corrected. -/
def rsDecode (d : Nat) (erased : Option Nat) : Option (Bool × Option Nat) :=
  let syn := rsSyn d
  match rsTry syn erased true with
  | some c => some (true, c)
  | none => match rsTry syn erased false with
    | some c => some (false, c)
    | none => none

/-! ### Channels and buckets (R331 to R335, R346) -/

def State.chanSt (s : State) (st c : Nat) : Nat := s.rdF (rMemChan (20 * st + c)) 31 29
def State.setChanSt (s : State) (st c v pos : Nat) : State :=
  (s.wrF (rMemChan (20 * st + c)) 31 29 v).wrF (rMemChan (20 * st + c)) 28 24 pos
/-- The physical channel that carries a codeword position of a stack: the one at that position that is not a spare in rebuild. -/
def State.chanAt (s : State) (st pos : Nat) : Nat :=
  ((List.range 20).find? (fun c => s.rdF (rMemChan (20 * st + c)) 28 24 = pos && s.chanSt st c ≠ 2)).getD pos
/-- The stack's erased channel. -/
def State.erasedChan (s : State) (st : Nat) : Option (Nat × Bool) := tget (fun _ => none) s.memx.erased st
/-- The erased codeword position of a stack. -/
def State.erasedPos (s : State) (st : Nat) : Option Nat :=
  (s.erasedChan st).map (fun c => s.rdF (rMemChan (20 * st + c.1)) 28 24)

/-- Start the rebuild of the stack's erased channel onto the first idle spare (R334). -/
def State.startRebuild (s : State) (st : Nat) : State :=
  match s.erasedPos st with
  | none => s
  | some pos =>
    match (List.range 20).find? (fun c => s.chanSt st c = 3) with
    | some sp =>
      if (List.range 20).any (fun c => s.chanSt st c = 2) then s
      else (s.setChanSt st sp 2 pos).wrF (rMemChan (20 * st + sp)) 23 17 0
    | none => s

/-- Erase an ACTIVE channel (R333, R335, R343): it becomes the stack's erased position or waits; `only` is OP 1. -/
def State.eraseChan (s : State) (st c : Nat) (only : Bool) : State :=
  let s := s.wrF (rMemChan (20 * st + c)) 31 29 1
  let s := s.report { unit := uMem, sev := if only then 0 else 2, inst := 20 * st + c, err := eMemChanErased, beat := 0, rseq := 0 }
  let gone := (List.range 20).filter (fun k => s.chanSt st k = 1 || s.chanSt st k = 4)
  let s := if 3 ≤ gone.length then s.event uMem 3 st eMemSpareExhausted else s
  match s.erasedChan st with
  | some _ =>
    { s with memx := { s.memx with waiting := tput (fun _ => []) s.memx.waiting st (tget (fun _ => []) s.memx.waiting st ++ [(c, only)]) } }
  | none =>
    let s := { s with memx := { s.memx with erased := tput (fun _ => none) s.memx.erased st (some (c, only)) } }
    if only then s else s.startRebuild st

/-- Beats of a number of nanoseconds at the period in force (R12, R352), rounded up. -/
def State.nsBeats (s : State) (ns : Nat) : Nat := cdiv ns (max 1 (8 * s.rdF rBeatCtl 10 0))
/-- Set the beat period from the current beat on (R352, R371). -/
def State.setPeriod (s : State) (p : Nat) : State :=
  ({ s with beat := { s.beat with periods := (s.now, s.rdF rBeatCtl 10 0) :: s.beat.periods } } : State).wrF rBeatCtl 10 0 p

/-- The beats of a history that lie within the last 24 hours. -/
def State.lastDay (s : State) (l : List W64) : List W64 := l.filter (fun b => decide (s.nsSince b < 86400000000000))

/-- A correctable event in bucket k (R332). Its overflows within 24 h draw on the attic (R573): 4 of a DRAM channel erase it onto a
spare, 3 of a core store start the planned hand-over of its core and a test. -/
def State.bucket (s : State) (k : Nat) : State :=
  let c := s.rdF (rEccBkt k) 23 16 + 1
  let th := max 1 (s.rdF (rEccBktCfg k) 23 16)
  if th ≤ c then
    let s := ((s.wrB (rEccBkt k) 0 true).incF (rEccBkt k) 31 24 1).wrF (rEccBkt k) 23 16 0
    let h := s.now :: s.lastDay (tget (fun _ => []) s.memx.overflows k)
    let s := { s with memx := { s.memx with overflows := tput (fun _ => []) s.memx.overflows k h } }
    let s := s.event uMem 1 k eMemBucketOvf
    let s := if s.rdB (rEccBktCfg k) 0 then { s with memx := { s.memx with mcpIrqs := s.memx.mcpIrqs ++ [k] } } else s
    if k < 160 && 4 ≤ h.length && s.chanSt (k / 20) (k % 20) = 0 then s.eraseChan (k / 20) (k % 20) false
    else if 176 ≤ k && 3 ≤ h.length then
      let i := k - 176
      let s := s.setCore i { s.core i with testNext := true }
      (s.wrB (rCoreCtl i) 30 true).wrB (rCoreStat i) 5 (!s.rdB (rCoreStat i) 6)
    else s
  else s.wrF (rEccBkt k) 23 16 c

/-- A corrected position of a DRAM line: its bucket, and the erasure trigger of R333, more than 64 lines of one position within
1 ms. -/
def State.dramCorrected (s : State) (g pos : Nat) : State :=
  let st := s.stackOf g
  let c := s.chanAt st pos
  let s := (s.bucket (20 * st + c)).countBlock (0x11000 + 64 * st + 16) 1
  let recent := s.memx.burst.filter (fun x => decide (s.nsSince x.2.2.2 < 1000000))
  let b := (st, pos, g, s.now) :: recent.filter (fun x => !(x.1 = st && x.2.1 = pos && x.2.2.1 = g))
  let s := { s with memx := { s.memx with burst := b } }
  if 64 < (b.filter (fun x => x.1 = st && x.2.1 = pos)).length && s.chanSt st c = 0 && (s.erasedChan st).isNone then
    s.eraseChan st c false
  else s

/-- The bucket of an SRAM word (R331). -/
def sramBucket (g : Nat) : Nat :=
  match larderOf g with
  | some w => 160 + 8 * w + (g - larderBase w) / (12 * 2 ^ 20)
  | none => 176 + (storeOf g).getD 0

/-- Log an uncorrectable granule, now poisoned (R321, R323). -/
def State.ue (s : State) (g : Nat) : State :=
  let s := if isDram g then s.countBlock (0x11000 + 64 * s.stackOf g + 24) 1 else s
  (s.setDelta g (poisonDelta g)).report { unit := uMem, sev := 0, inst := 0, err := eMemUe, beat := 0, rseq := 0, detail := g }

/-- Flip bits of the stored data of a granule. -/
def State.flipByte (s : State) (a e : Nat) : State :=
  { s with mem := tput (fun _ => 0) s.mem a (s.byte a ^^^ BitVec.ofNat 8 e) }

/-- Correct a DRAM position of a line: the s0 of each codeword is XORed into its symbol there. -/
def State.fixPos (s : State) (g d i : Nat) : State :=
  if i < 16 then
    ((rsSyn d).zipIdx).foldl (fun s x => s.flipByte (g + 4 * i + x.2) x.1.1) s
  else s

/-- The armed flip mask, after a write that covers its word (R338). -/
def State.flipMask (s : State) (g : Nat) : State :=
  match s.memx.armed with
  | none => s
  | some w =>
    if granOf w ≠ g then s
    else
      let m := s.rd64 rEccInjData
      let chk := s.rdF rEccInjCtl 15 8
      let tag := s.rdF rEccInjCtl 18 16
      let ch := s.rdF rEccInjCtl 23 19
      let s1 := (List.range 8).foldl (fun s k => s.flipByte (w + k) (byteAt m k)) s
      let s2 :=
        if isDram g then
          let o := w - g
          let d := (List.range 8).foldl (fun d k =>
            let p := (o + k) / 4; let b := (o + k) % 4
            let q := rsPair p (byteAt m k)
            d ^^^ ((q.1 + 256 * q.2) * 256 ^ (2 * b))) (s1.delta g)
          if ch < 16 then
            let q := rsPair ch chk
            let s1 := (List.range 4).foldl (fun s b => s.flipByte (g + 4 * ch + b) chk) s1
            s1.setDelta g ((List.range 4).foldl (fun d b => d ^^^ ((q.1 + 256 * q.2) * 256 ^ (2 * b))) d)
          else if ch < 18 then
            s1.setDelta g ((List.range 4).foldl (fun d b => d ^^^ (chk * 256 ^ (2 * b + (ch - 16)))) d)
          else s1.setDelta g d
        else s1.setDelta g (s1.delta g ^^^ hsiao m ^^^ chk ^^^ (tag * 256))
      let s3 := { s2 with memx := { s2.memx with armed := none } }
      (s3.wrB rEccInjCtl 31 false).wrB rEccInjCtl 30 true

/-- A tag that decoding corrected is an event of its own beside a corrected bit (R321). -/
def State.tagFix (s : State) (g tag : Nat) : State := if tag = 0 || tag = 7 then s else s.bucket (sramBucket g)

/-- Correct position i of a line: an erased position is only reconstructed, another one is stored corrected and counted (R323). -/
def State.correctPos (s : State) (g d i : Nat) (po erased : Bool) : State × Bool × List Byte :=
  let f := s.fixPos g d i
  if erased then (s, po, f.bytes g 64)
  else let f := (f.setDelta g (if po then poisonDelta g else 0)).dramCorrected g i; (f, po, f.bytes g 64)

/-- Decode a granule (R321, R323): a correctable one is corrected and counted, an uncorrectable one poisoned; whether it reads poisoned,
and its bytes as the consumer gets them. -/
def State.decodeGran (s : State) (g : Nat) : State × Bool × List Byte :=
  let d := s.delta g
  if d = 0 then (s, false, s.bytes g (granSize g))
  else if isDram g then
    let er := s.erasedPos (s.stackOf g)
    match rsDecode d er with
    | none => let s := s.ue g; (s, true, s.bytes g 64)
    | some (po, none) => (s, po, s.bytes g 64)
    | some (po, some i) => s.correctPos g d i po er.isSome
  else
    let syn := d % 256
    let tag := d / 256 % 8
    let po := decide (2 ≤ popNat 3 tag)
    let s1 := s.setDelta g (if po then 0x700 else 0)
    if syn = 0 then let s := s1.tagFix g tag; (s, po, s.bytes g 8)
    else
      match hsiaoCols.findIdx? (fun c => c = syn) with
      | some i => let s := ((s1.flipByte (g + i / 8) (2 ^ (i % 8))).bucket (sramBucket g)).tagFix g tag; (s, po, s.bytes g 8)
      | none =>
        if (List.range 8).any (fun j => 2 ^ j = syn) then let s := (s1.bucket (sramBucket g)).tagFix g tag; (s, po, s.bytes g 8)
        else let s := s.ue g; (s, true, s.bytes g 8)

/-- Read a granule (R321, R323, R326). A read that writes the granule back, corrected or poisoned, is a write for the flip mask (R338). -/
def State.readGran (s : State) (g : Nat) : State × Bool × List Byte :=
  let r := s.decodeGran g
  if r.1.delta g = s.delta g then r else (r.1.flipMask g, r.2)

/-- Bases of the granules that n ≥ 1 bytes at a physical address touch. -/
def granules (pa n : Nat) : List Nat :=
  let z := granSize pa
  (span (pa / z) ((pa + n - 1) / z + 1 - pa / z)).map (· * z)

/-- Read n bytes: state, the poisoned granules among those touched, and the bytes. -/
def State.readMem (s : State) (pa n : Nat) : State × List Nat × List Byte :=
  if n = 0 then (s, [], [])
  else
    let r := (granules pa n).foldl (fun (acc : State × List Nat × List Byte) g =>
      let x := acc.1.readGran g
      (x.1, if x.2.1 then acc.2.1 ++ [g] else acc.2.1, acc.2.2 ++ x.2.2)) (s, [], [])
    (r.1, r.2.1, (r.2.2.drop (pa - granOf pa)).take n)

/-- The bytes of a range as a consumer gets them, corrected (R321, R323). -/
def State.seen (s : State) (pa n : Nat) : List Byte :=
  if n = 0 then []
  else if (granules pa n).all (fun g => s.delta g = 0) then s.bytes pa n else (s.readMem pa n).2.2

/-! ### Owners (R302) -/

/-- PART of the work-counter record at a physical address (R282). -/
def State.recPart (s : State) (r : Nat) : Nat := leNat (s.seen (r + 28) 1)

/-- The owner of a byte (R302, R310, R344, R345): partition 0 to 7, 0xE firmware, 0xF none. -/
def State.owner (s : State) (pa : Nat) : Nat :=
  if isDram pa then s.rdF (rMemGran (pa / 2 ^ 30)) 11 8
  else match larderOf pa with
  | some w =>
    let o := pa - larderBase w
    if o < 0x5800000 then s.rdF (rMemLpage (88 * w + o / 2 ^ 20)) 3 0
    else if o < 0x5C00000 then s.recPart (pa / 64 * 64) else 0xE
  | none => match storeOf pa with
    | some i => (s.partOfPhys i).getD 0xF
    | none => 0xF

/-- Every byte of a physical range belongs to partition p (R302). Ownership changes at multiples of 1 MiB, and in the work-counter region
from record to record. -/
def State.owns (s : State) (p pa n : Nat) : Bool :=
  let z := if inWorkRegion pa || inWorkRegion (pa + n - 1) then 64 else 2 ^ 20
  n = 0 || (span (pa / z) ((pa + n - 1) / z + 1 - pa / z)).all (fun u => s.owner (max (u * z) pa) = p)

/-- A local device range that a partition may access: mapped, and owned (R302). -/
def State.partRange (s : State) (p a n : Nat) : Option Nat :=
  match s.range a n with
  | some pa => if s.owns p pa n then some pa else none
  | none => none

/-- Write bytes inside one granule (R174, R324, R325, R327): all of it stores a clean granule; part of it is a read-modify-write
that keeps poison; `poison` stores it poisoned (R328). -/
def State.writeGran (s : State) (g off : Nat) (b : List Byte) (poison : Bool) : State :=
  let full := off = 0 && b.length = granSize g
  -- a read-modify-write stores the corrected line it read; the flip mask acts on what is stored
  let r := if full then (s, false, []) else s.decodeGran g
  let m := putBytes (putBytes r.1.mem g r.2.2) (g + off) b
  ((({ r.1 with mem := m } : State).setDelta g (if r.2.1 || poison then poisonDelta g else 0))).flipMask g

/-- Write bytes granule by granule; `pois` names the granules to store poisoned. -/
def State.writeMem (s : State) (pa : Nat) (b : List Byte) (pois : List Nat := []) : State :=
  if b.isEmpty then s
  else (granules pa b.length).foldl (fun s g =>
    let lo := max g pa
    let hi := min (g + granSize g) (pa + b.length)
    s.writeGran g (lo - g) ((b.drop (lo - pa)).take (hi - lo)) (pois.contains g)) s

/-- Fill a physical range with zero data, valid check bits and a clear tag (R309, R329); the flip mask acts on a word of it
(R338). -/
def State.zeroFill (s : State) (pa n : Nat) : State :=
  let s := { s with mem := tclear s.mem pa n, ecc := tclear s.ecc pa n }
  match s.memx.armed with
  | some w => if pa ≤ w && w < pa + n then s.flipMask (granOf w) else s
  | none => s

/-- The power-on fill is complete and no refill of the granule is in progress (R309, R329). -/
def State.memReady (s : State) (pa : Nat) : Bool := s.rdB rMemInit 31 && !s.busyGran pa

/-- A write of the MCPs or a wing controller: a BUSY granule refuses it (R309, R350). -/
def State.ctlWrite (s : State) (pa : Nat) (b : List Byte) : State :=
  if s.busyGran pa then s.event uMem 0 (pa / 2 ^ 30) eMemNotReady else s.writeMem pa b

/-! ### Byte counters (R628) -/

/-- Count payload bytes that pass from a requester to a unit of wing `home`, or back from it in a read, when they cross the hallway: in
word 7 and in the block of the direction, at the wing that sends them (R33, R628, R636). -/
def State.cross (s : State) (r : Req) (home n : Nat) (wr : Bool) : State :=
  if home = r.wing then s
  else (s.count r 7 n).countBlock (0x11280 + 64 * (if wr then r.wing else home) + (if wr then 8 else 0)) n

/-- Count the bytes a request moved, 64-byte unit by 64-byte unit: the memory, near or far, and the hallway (R30, R31). -/
def State.countMem (s : State) (r : Req) (pa n : Nat) (wr : Bool) : State :=
  if n = 0 then s
  else (span (pa / 64) ((pa + n - 1) / 64 + 1 - pa / 64)).foldl (fun s u =>
    let lo := max (64 * u) pa
    let k := min (64 * u + 64) (pa + n) - lo
    let w := if wr then 8 else 0
    match storeOf lo with
    | some i => ((s.count r 2 k).countBlock (0x20000 + 256 * i + 152) k).cross r (wingOf i) k wr
    | none =>
      let dram := isDram lo
      let home := if dram then s.stackOf lo / 4 else (larderOf lo).getD 0
      let s := s.countBlock (if dram then 0x11000 + 64 * s.stackOf lo + w else 0x11200 + 64 * home + w) k
      if home = r.wing then s.count r (if dram then 5 else 3) k
      else (s.count r (if dram then 6 else 4) k).cross r home k wr) s

/-- Log a consumption of poison: address and consumer (R326). -/
def State.logPoison (s : State) (unit inst a : Nat) (r : Req) : State :=
  s.report { unit, sev := 0, inst, err := eMemPoison, beat := 0, rseq := 0, part := r.part.getD 255, layer := r.layer,
             oper := r.oper, seq := r.seq, detail := a }

/-- Log and count a write dropped for its epoch (R304). -/
def State.epochDrop (s : State) (c : Nat) : State :=
  (s.wr rMemEpochDrop (BitVec.ofNat 32 (holdAdd (2 ^ 32 - 1) (s.rd rMemEpochDrop).toNat 1))).event uMem 0 c eMemEpochDrop

/-! ### Traces (R641 to R644) -/

/-- What a trace record holds beside its time (R642). -/
structure TraceRec where
  type : Nat
  part : Nat
  unit : Nat
  inst : Nat
  layer : W16 := 0
  oper : W16 := 0
  seq : W32 := 0
  data : Nat

/-- Append a record to trace ring y (8 is the module's). -/
def State.putTrace (s : State) (y : Nat) (r : TraceRec) : State :=
  let rg := s.rdF (rCntTrc y) 30 26
  let n := 2 ^ (if rg < 10 then 10 else if 20 < rg then 20 else rg)
  let k := tget (fun _ => 0) s.cnt.traceNext y
  let rec_ := leBytes 8 s.now.toNat ++ leBytes 2 s.beat.phase.toNat ++ leBytes 1 r.type ++ leBytes 1 r.part ++ leBytes 2 r.layer.toNat
    ++ leBytes 2 r.oper.toNat ++ leBytes 4 r.seq.toNat ++ leBytes 2 r.inst ++ leBytes 1 r.unit ++ [0] ++ leBytes 8 r.data
  let s := s.ctlWrite (s.rd64 (rCntTrcb y) + 32 * (k % n)) rec_
  { s with cnt := { s.cnt with traceNext := tput (fun _ => 0) s.cnt.traceNext y (k + 1) } }

/-- Trace records that a wing may write in one beat: 64 in each whole microsecond of it, the beat being the model's shortest time
(R644; DESIGN CHOICE, notes/assumptions/36.md). -/
def State.traceRoom (s : State) : Nat := 64 * max 1 (8 * s.rdF rBeatCtl 10 0 / 1000)

/-- A record for trace ring y, when it is enabled: of a wing beyond its rate, dropped and counted; the next one is preceded by a LOST
record (R641, R644). -/
def State.traceTo (s : State) (y : Nat) (w : Option Nat) (r : TraceRec) : State :=
  if !s.rdB (rCntTrc y) 31 then s
  else
    let at_ (w : Nat) : W64 × Nat := tget (fun _ => (0, 0)) s.cnt.traceRate w
    let used := (w.map (fun w => if (at_ w).1 = s.now then (at_ w).2 else 0)).getD 0
    let lost := tget (fun _ => (0, 0)) s.cnt.traceLost y
    let setLost (s : State) (v : Nat × Nat) : State := { s with cnt := { s.cnt with traceLost := tput (fun _ => (0, 0)) s.cnt.traceLost y v } }
    if w.isSome && s.traceRoom ≤ used then setLost s (min 0xFFFF (lost.1 + 1), lost.2 + 1)
    else
      let s := if lost.2 = 0 then s
        else (setLost s (lost.1, 0)).putTrace y { type := 0x1F, part := if y = 8 then 0x80 else y, unit := uWc, inst := w.getD 0, data := lost.2 }
      let s := match w with
        | some w => { s with cnt := { s.cnt with traceRate := tput (fun _ => (0, 0)) s.cnt.traceRate w (s.now, used + 1) } }
        | none => s
      s.putTrace y r

/-- A partition's trace record: its own ring, and the module ring under GLOBAL_ALL (R643). -/
def State.trace (s : State) (p type unit inst : Nat) (r : Req) (data : Nat) : State :=
  let x : TraceRec := { type, part := p, unit, inst, layer := r.layer, oper := r.oper, seq := r.seq, data }
  let s := s.traceTo p (some r.wing) x
  if s.rdB (rCntTrc 8) 20 then s.traceTo 8 (some r.wing) x else s

/-- A module record of an MCP: the global ring only (R643). -/
def State.traceModule (s : State) (type unit inst data : Nat) : State := s.traceTo 8 none { type, part := 0x80, unit, inst, data }

/-- A spare action (R573, R578, R643). -/
def State.spareUsed (s : State) (unit inst : Nat) : State :=
  (s.event unit 2 inst eSpareUsed).traceModule 0x10 unit inst eSpareUsed.toNat
/-- A trigger found its spare class empty (R575). -/
def State.noSpare (s : State) (unit inst : Nat) : State := s.event unit 3 inst eAtticExhausted

end Sys2Proof.Machine
end

