-- ==== Sys2Proof/Machine/Latch.lean ====
section
/-! DEFINITION. Threads and latches: thread states (R160), taking a cause (R182 to R185), and every update of a latch (R375 to
R383). -/

namespace Sys2Proof.Machine

/-! ### Threads and their states -/

/-- The state a thread has under a hold (R160). -/
def Thread.eff (x : Thread) : TState := if x.st = .held then x.under else x.st

/-- Move a thread to a state; a held thread moves underneath (R160). -/
def Thread.move (x : Thread) (st : TState) : Thread := if x.st = .held then { x with under := st } else { x with st := st }

/-- Free a thread: it holds no program (R160). Its registers keep their contents; a start sets them (R261). -/
def Thread.free (x : Thread) : Thread :=
  { x with st := .free, under := .free, outs := [], fence := false, wait := none, bundle := [], reissue := false }

/-- The core clock runs again (R168). -/
def State.ungate (s : State) (c : Nat) : State := s.wrB (rCoreStat c) 0 false

/-- A thread leaves its hold for the state it held before (R160), unless HOLD_ALL or a hand-over keeps it (R190, R198), or its partition
is stopped, whose RESUME then releases it (R370); a core with a READY thread is not gated (R167). -/
def State.letGo (s : State) (c t : Nat) : State :=
  let x := s.thr c t
  let q := s.part x.part
  let h := 32 * (s.logical c).getD 128 + t
  if x.st ≠ .held || s.rdB (rCoreCtl c) 29 || s.handovers.any (fun h => h.old = c && h.held.contains t) then s
  else if q.stopped then (if q.held.contains h then s else s.setPart x.part { q with held := q.held ++ [h] })
  else
    let s := s.setThr c t { x with st := x.under }
    if x.under = .ready then s.ungate c else s

/-- Bits of the threads of a core in a state: CORE_READY_i and its siblings (R199). -/
def State.threadBits (s : State) (c : Nat) (st : TState) : Nat :=
  (List.range 32).foldl (fun a t => if (s.thr c t).st = st then a + 2 ^ t else a) 0

/-- Raise a cause (R182 to R185): a record in the exception queue or a DROPPED count, a message to the wing controller, and the
thread FAULTED. -/
def State.raise (s : State) (c t cause slot : Nat) (second : Bool) (pc : W64) : State :=
  let x := s.thr c t
  let k := s.core c
  let r : ExcRec := { cause, slot, second, thread := t, part := x.part, bundle := pc, seq := x.seq, beat := s.now.setWidth 32 }
  let k := if k.exc.length < 8 then { k with exc := k.exc ++ [r] } else { k with dropped := holdAdd 255 k.dropped 1 }
  let s := s.setCore c { k with msgs := k.msgs ++ [⟨t, cause, x.part, x.ring, x.dcount⟩] }
  s.setThr c t { x with st := .faulted, under := .free, outs := [], fence := false, wait := none, bundle := [] }

/-! ### Latches -/

/-- The stored record of latch j of physical core i; PART and WAITERS are views (R375). -/
def State.latch (s : State) (i j : Nat) : W128 := tget (fun _ => 0) s.latches (48 * i + j)
def State.setLatch (s : State) (i j : Nat) (v : W128) : State :=
  { s with latches := tput (fun _ => 0) s.latches (48 * i + j) v }

def lValue (r : W128) : W64 := r.setWidth 64
def lKind (r : W128) : Nat := bf r 91 90
def lBroken (r : W128) : Bool := bitAt r 92
def lEstat (r : W128) : Nat := bf r 79 72
def lOwned (r : W128) : Bool := bitAt r 89
def lOwner (r : W128) : Nat := bf r 127 96
def lSetValue (r : W128) (v : W64) : W128 := bfSet r 63 0 v.toNat

/-- COND of C.LWAIT against a value (R378). -/
def condMet (cond : Nat) (v c old : W64) : Bool :=
  if cond = 0 then decide (c.toNat ≤ v.toNat)
  else if cond = 1 then v = c
  else if cond = 2 then v ≠ c
  else if cond = 3 then decide (v.toNat < c.toNat)
  else if cond = 4 then v &&& c ≠ 0
  else if cond = 5 then v &&& c = c
  else v ≠ old

/-- Wake a parked thread with a WSTAT (R379); a thread HELD while PARKED leaves the hold in READY (R160). -/
def State.wake (s : State) (i t : Nat) (wstat : W16) : State :=
  let x := s.thr i t
  (s.setThr i t { x.move .ready with wait := none, wstat }).ungate i

/-- The threads of core i parked on latch j. -/
def State.waiters (s : State) (i j : Nat) : List Nat :=
  (List.range 32).filter (fun t => (s.thr i t).eff = .parked && (s.thr i t).wait.any (fun w => w.latch = j))

/-- The record as a data read of latch space returns it (R375, R377); a LINK latch has neither PART nor WAITERS (R386). -/
def State.latchView (s : State) (i j : Nat) : W128 :=
  if lKind (s.latch i j) = 2 then s.latch i j
  else bfSet (bfSet (s.latch i j) 95 93 ((s.partOfPhys i).getD 0)) 71 64 (s.waiters i j).length

/-- Test the parked threads of a latch after an update (R379). -/
def State.latchTest (s : State) (i j : Nat) : State :=
  let v := lValue (s.latch i j)
  (s.waiters i j).foldl (fun s t =>
    match (s.thr i t).wait with
    | some w => if condMet w.cond v w.cmp w.old then s.wake i t 0 else s
    | none => s) s

/-- An add (R376, R377, R383): ignored and counted on a BARRIER or LINK latch, dropped and counted on a broken one. -/
def State.latchAdd (s : State) (i j : Nat) (v : W64) : State :=
  let r := s.latch i j
  if lKind r ≠ 0 then s.incF rLatStat 31 24 1
  else if lBroken r then s.incF rLatStat 23 16 1
  else (s.setLatch i j (lSetValue r (lValue r + v))).latchTest i j

/-- The raise of a barrier release: VALUE becomes the larger of VALUE and v (R377, R383, R390). -/
def State.latchRaise (s : State) (i j : Nat) (v : W64) : State :=
  let r := s.latch i j
  if lBroken r then s.incF rLatStat 23 16 1
  else
    (s.setLatch i j (lSetValue r (if (lValue r).toNat < v.toNat then v else lValue r))).latchTest i j

/-- C.LSET (R376, R383): value, owner, and the latch rearmed. -/
def State.latchSet (s : State) (i j : Nat) (v : W64) (seq : W32) : State :=
  let r := s.latch i j
  if lKind r ≠ 0 then s.incF rLatStat 31 24 1
  else
    let r := bfSet (bitSet (bitSet (lSetValue r v) 89 true) 92 false) 79 72 0
    (s.setLatch i j (bfSet r 127 96 seq.toNat)).latchTest i j

/-- Break a latch (R382): every parked waiter wakes with 0x0500 OR ESTAT. -/
def State.latchBreak (s : State) (i j estat : Nat) : State :=
  let w := s.waiters i j
  let s := s.setLatch i j (bfSet (bitSet (s.latch i j) 92 true) 79 72 estat)
  let s := match s.partOfPhys i with
    | some p => s.trace p 0x06 uCore i {} (j + 256 * estat)
    | none => s
  w.foldl (fun s t => s.wake i t (BitVec.ofNat 16 (0x0500 ||| estat))) s

/-- Bits of a record that a write keeps, by KIND: those that are neither reserved nor views, and OWNED on a PLAIN latch only (R375, R386). -/
def lMask (kind : Nat) : W128 :=
  if kind = 2 then 0xFFF0_0000_0C00_0000_FFFF_FFFF_FFFF_FFFF#128
  else if kind = 1 then 0xFFFF_FFFF_1C00_FF00_FFFF_FFFF_FFFF_FFFF#128
  else 0xFFFF_FFFF_1E00_FF00_FFFF_FFFF_FFFF_FFFF#128

/-- A write of word k of a record by a wing controller or an MCP: it makes and clears counters, and rearms a broken latch or breaks one
(R377, R382, R383, R386). -/
def State.latchWord (s : State) (i j k : Nat) (v : W32) : State :=
  let r := bfSet (s.latch i j) (32 * k + 31) (32 * k) v.toNat
  let r := r &&& lMask (lKind r)
  let s := s.setLatch i j r
  if lBroken r then s.latchBreak i j (lEstat r) else s.latchTest i j

/-- An update from outside the core (R376, R377, R382). -/
def State.latchOp (s : State) (i j : Nat) : LatchOp → State
  | .add v => s.latchAdd i j v
  | .raise v => s.latchRaise i j v
  | .brk e => s.latchBreak i j e
  | .word k v => s.latchWord i j k v

/-- The core is frozen for a hand-over (R190, R197). -/
def State.frozen (s : State) (i : Nat) : Bool := s.rdB (rCoreStat i) 4

/-- An access from outside waits in the ingress buffer of a frozen core (R190). -/
def State.hold (s : State) (i : Nat) (h : HeldAccess) : State := { s with heldAcc := s.heldAcc ++ [(i, h)] }

/-- An update from outside the core; a frozen core's replacement gets it (R190, R193, R381). -/
def State.extLatch (s : State) (i j : Nat) (op : LatchOp) : State :=
  if s.frozen i then s.hold i (.latch j op) else s.latchOp i j op

/-- Break every latch of a partition that a command owns (R382, first cause). -/
def State.breakOwned (s : State) (p : Nat) (seq : W32) : State :=
  (List.range 128).foldl (fun s c =>
    if s.partOfCore c = some p then
      match s.phys c with
      | some i => (List.range 48).foldl (fun s j =>
          if lOwned (s.latch i j) && lOwner (s.latch i j) = seq.toNat then s.extLatch i j (.brk 2) else s) s
      | none => s
    else s) s

end Sys2Proof.Machine
end

