-- ==== Sys2Proof/Machine/Bundle.lean ====
section
/-! DEFINITION. Bundles (R202 to R206): what one slot asks for, the checks on a bundle as a whole, and its issue (R161, R163,
R183, R204, R205, R248). Slots of a bundle arrive one command each (notes/assumptions/2.md). -/

namespace Sys2Proof.Machine

/-- A register a slot reads or writes. -/
inductive RegRef where
  | s (i : Nat)
  | v (i : Nat)
  | p (i : Nat)
  | t (i : Nat)
  deriving DecidableEq, Repr

/-- What a slot does when its bundle issues, computed on the state before the bundle (R204). -/
structure SlotOut where
  /-- 0 S, 1 V, 2 M, 3 C (R200) -/
  kind : Nat
  /-- the cause it raises (R248) -/
  cause : Option Nat := none
  /-- its unit can accept it (R161, R165, R246) -/
  ready : Bool := true
  srcs : List RegRef := []
  dsts : List RegRef := []
  writes : List RegWrite := []
  /-- branch target -/
  target : Option W64 := none
  /-- an access that returns later, whether what it read is poisoned, and the poisoned granules (R248, R326) -/
  load : Option (AccKind × Bool × List Nat) := none
  /-- poisoned granules that a slot consumes as it raises its cause (R247, R326) -/
  consumed : List Nat := []
  /-- everything but register writes -/
  act : State → State := fun s => s
  /-- S.END -/
  ends : Bool := false

/-- A slot that raises a cause, with the sources that its check read. -/
def SlotOut.raises (kind cause : Nat) (dsts : List RegRef := []) (srcs : List RegRef := []) : SlotOut :=
  { kind, cause := some cause, dsts, srcs }

/-! ### Thread registers -/

def Thread.sreg (x : Thread) (i : Nat) : W64 := tget (fun _ => 0) x.s i
def Thread.vreg (x : Thread) (i : Nat) : Vec := tget (fun _ => 0) x.v i
def Thread.preg (x : Thread) (i : Nat) : Pred := tget (fun _ => 0) x.p i
def Thread.treg (x : Thread) (i : Nat) : TDesc := tget (fun _ => 0) x.t i

/-- One register write. -/
def Thread.put (x : Thread) : RegWrite → Thread
  | .s i v => { x with s := tput (fun _ => 0) x.s i v }
  | .v i v => { x with v := tput (fun _ => 0) x.v i v }
  | .p i v => { x with p := tput (fun _ => 0) x.p i v }
  | .t i v => { x with t := tput (fun _ => 0) x.t i v }

def RegWrite.ref : RegWrite → RegRef
  | .s i _ => .s i
  | .v i _ => .v i
  | .p i _ => .p i
  | .t i _ => .t i

/-- The registers that wait for a return (R163, R248). -/
def Thread.pendingRegs (x : Thread) : List RegRef := x.outs.flatMap (fun o => o.writes.map RegWrite.ref)

/-- Whether two lists name a common register. -/
def sharesReg (a b : List RegRef) : Bool := a.any (fun r => b.contains r)

/-- The slots whose destinations an earlier slot of the bundle also writes, and the earlier slots themselves (R205): the kind of
the first slot involved in a conflict. -/
def conflictKind : List SlotOut → Option Nat
  | [] => none
  | o :: r => if r.any (fun q => sharesReg o.dsts q.dsts) then some o.kind else conflictKind r

/-- Causes of a bundle in slot order (R184), a register conflict counted at its first slot (R205). -/
def bundleCauses (outs : List SlotOut) : List (Nat × Nat) :=
  outs.filterMap (fun o =>
    if conflictKind outs = some o.kind then some (o.kind, cBundle) else o.cause.map (fun c => (o.kind, c)))

/-- Outstanding accesses of a core outside its own store (R165). -/
def State.coreOuts (s : State) (c : Nat) : Nat :=
  (List.range 32).foldl (fun n t => n + ((s.thr c t).outs.filter (fun o => o.kind ≠ .localLoad)).length) 0

/-- The bundle is eligible (R161, R163, R165). -/
def State.eligible (s : State) (c t : Nat) (outs : List SlotOut) : Bool :=
  let x := s.thr c t
  let pend := x.pendingRegs
  let global := outs.any (fun o => match o.load with
    | some (k, _, _) => k ≠ .localLoad
    | none => false)
  outs.all (fun o => o.ready && !sharesReg o.srcs pend && !sharesReg o.dsts pend)
    && (!global || ((x.outs.filter (fun o => o.kind ≠ .localLoad)).length < 8 && s.coreOuts c < 128))

/-- Issue a complete bundle: not eligible, it changes nothing; with a cause, no slot takes effect (R183, R206); else registers
are written, or withheld until the access of the bundle returns (R248), the pc moves, and the slots act in the order S, V, M,
C. -/
def State.runBundle (s : State) (c t : Nat) (outs : List SlotOut) : State :=
  let x := s.thr c t
  if !s.eligible c t outs then s.setThr c t { x with bundle := [] }
  else match bundleCauses outs with
  | (k, cause) :: more =>
    (outs.flatMap (fun o => o.consumed)).foldl (fun s g => s.logPoison uCore c g (s.reqThr c t)) (s.raise c t cause k (!more.isEmpty) x.pc)
  | [] =>
    let ws := outs.flatMap (fun o => o.writes)
    let next := (outs.findSome? (fun o => o.target)).getD (x.pc + 32)
    let x1 := { x with bundle := [], pc := next }
    let x2 := match outs.findSome? (fun o => o.load) with
      | some (.globalStore, _, a) => ws.foldl Thread.put { x1 with outs := x1.outs ++ [⟨.globalStore, false, [], x.pc, a⟩] }
      | some (k, po, a) => { x1 with outs := x1.outs ++ [⟨k, po, ws, x.pc, a⟩] }
      | none => ws.foldl Thread.put x1
    let r := s.reqThr c t
    let s := s.setCore c { s.core c with issued := some s.now }
    let s1 := ((s.setThr c t x2).count r 18 1).countBlock (0x20000 + 256 * c + 128) 1
    -- an access that will return POISON leaves the other slots without effect (R183, R248)
    let live := if outs.any (fun o => o.load.any (fun l => l.2.1)) then outs.filter (fun o => o.load.isSome) else outs
    let s2 := live.foldl (fun s o => o.act s) s1
    if live.any (fun o => o.ends) then s2.setThr c t (s2.thr c t).free else s2

/-- A core that issues: not gated (R167), no HOLD_ALL (R198), not fenced, not frozen, not under test (R190, R192, R560). -/
def State.issues (s : State) (c : Nat) : Bool :=
  !s.rdB (rCoreStat c) 0 && !s.rdB (rCoreCtl c) 29 && !s.rdB (rCoreStat c) 6 && !s.rdB (rCoreStat c) 4 && !s.rdB (rCoreStat c) 3 && !(s.core c).retired

/-- The slots of a bundle come in the order S, V, M, C, each at most once. -/
def ascending : List Nat → Bool
  | a :: b :: r => a < b && ascending (b :: r)
  | _ => true

end Sys2Proof.Machine
end

