-- ==== Sys2Proof/Machine/GTable.lean ====
section
/-! DEFINITION. The group table (R460 to R465) as bytes of firmware granule 383, latch addresses (R243, R245), and the choice of a
group entry for a packet (R672). -/

namespace Sys2Proof.Machine

/-- Base of granule 383 (R303). -/
def fwGran : Nat := 383 * 2 ^ 30
/-- Address of entry i of bank b (R460). -/
def gtAddr (b i : Nat) : Nat := fwGran + 2 ^ 25 * b + 8192 * i
def State.gtSeq (s : State) (b : Nat) : Nat := (s.rd (rCollSeq b)).toNat
/-- The bank with the newest sequence (R464); sequences are compared as numbers. -/
def State.gtNewest (s : State) : Nat := if s.gtSeq 0 < s.gtSeq 1 then 1 else 0
/-- A bank that holds a table and is not being written: WRITE opens the older one (R464, R465). -/
def State.gtUsable (s : State) (b : Nat) : Bool :=
  s.gtSeq b ≠ 0 && !(s.rdB rCollCtl 30 && b ≠ s.gtNewest)
def State.gtByte (s : State) (b i o : Nat) : Nat := leNat (s.seen (gtAddr b i + o) 1)
def State.gtCount (s : State) (b i : Nat) : Nat := leNat (s.seen (gtAddr b i) 2)
/-- The member words of an entry (R462). -/
def State.gtMembers (s : State) (b i : Nat) : List (Nat × Nat) :=
  (List.range (min 1024 (s.gtCount b i))).map (fun r =>
    let w := leNat (s.seen (gtAddr b i + 64 + 4 * r) 4)
    (w % 2 ^ 14, w / 2 ^ 14 % 8))
/-- Whether an entry lists a module with a partition. -/
def State.gtLists (s : State) (b i md p : Nat) : Bool := (s.gtMembers b i).contains (md, p)
def State.gtListsMod (s : State) (b i md : Nat) : Bool := (s.gtMembers b i).any (fun m => m.1 = md)
/-- The rank of a module in an entry. -/
def State.gtRank (s : State) (b i md : Nat) : Option Nat := (s.gtMembers b i).findIdx? (fun m => m.1 = md)

/-- The lowest entry of a partition, in the newest bank, that lists this module with the partition and the destination module
(R672). -/
def State.gtFor (s : State) (p dst : Nat) : Option Nat :=
  let b := s.gtNewest
  if s.gtSeq b = 0 then none
  else (span (s.part p).gtBase (s.part p).gtCount).find? (fun i => s.gtLists b i s.maddr p && s.gtListsMod b i dst)

/-- Remote addresses (R299). -/
def isRemote (a : Nat) : Bool := a / 2 ^ 63 % 2 = 1
/-- Bit 62 of a remote address must be zero (R299). -/
def remoteBad (a : Nat) : Bool := isRemote a && a / 2 ^ 62 % 2 = 1
def remoteMod (a : Nat) : Nat := a / 2 ^ 48 % 2 ^ 14
def remoteLocal (a : Nat) : Nat := a % 2 ^ 48
/-- A local address in a latch window of R298. -/
def inLatchWindow (a : Nat) : Bool :=
  (decide (0x010200000000 ≤ a ∧ a < 0x010200000000 + 144 * 0x400) && decide ((a - 0x010200000000) % 0x400 < 768))
  || (decide (0x010200100000 ≤ a ∧ a < 0x010200100000 + 128 * 0x400) && decide ((a - 0x010200100000) % 0x400 < 768))

/-- The cause a latch address raises in C.LARR and C.LPOST for a thread of partition p (R243, R245). -/
def State.latchAddrCause (s : State) (p a : Nat) : Option Nat :=
  if a % 16 ≠ 0 then some cAlign
  else if isRemote a then
    if remoteBad a || !inLatchWindow (remoteLocal a) then some cBounds
    else if (s.gtFor p (remoteMod a)).isNone then some cLatch else none
  else match s.resolve a with
    | .latch i _ _ => if s.partOfPhys i = some p then none else some cLatch
    | _ => if inLatchWindow a then some cLatch else some cBounds

end Sys2Proof.Machine
end

