-- ==== Sys2Proof/Machine/Cmds.lean ====
section
/-! DEFINITION. Shared operations over commands, threads of commands, the work ledger (R194, R195), copies that carry poison (R192,
R328) and the claims of a work counter (R282, R284). -/

namespace Sys2Proof.Machine

/-! ### Copies that carry poison -/

/-- Destination granules that receive a byte of a poisoned source granule (R328). -/
def poisMap (pois : List Nat) (src dst n : Nat) : List Nat :=
  (if n = 0 then [] else granules dst n).filter (fun g => pois.any (fun h =>
    let lo := max h src - src + dst
    let hi := min (h + granSize h) (src + n) - src + dst
    decide (lo < g + granSize g) && decide (g < hi)))

/-- Copy n bytes: reads correct and count, poison goes along; the number of granules written poisoned. -/
def State.copyMem (s : State) (src dst n : Nat) : State × Nat :=
  if n = 0 then (s, 0)
  else
    let r := s.readMem src n
    let po := poisMap r.2.1 src dst n
    (r.1.writeMem dst r.2.2 po, po.length)

/-! ### Commands (R250) -/

def Cmd.opcode (k : Cmd) : Nat := leAt k.desc 0 1
def Cmd.flag (k : Cmd) (i : Nat) : Bool := leAt k.desc 1 1 / 2 ^ i % 2 = 1
def Cmd.serial (k : Cmd) : Bool := k.flag 0
def Cmd.waitEn (k : Cmd) : Bool := k.flag 1
def Cmd.signalEn (k : Cmd) : Bool := k.flag 2
def Cmd.resultEn (k : Cmd) : Bool := k.flag 3
def Cmd.seq (k : Cmd) : W32 := BitVec.ofNat 32 (leAt k.desc 4 4)
def Cmd.layer (k : Cmd) : W16 := BitVec.ofNat 16 (leAt k.desc 8 2)
def Cmd.oper (k : Cmd) : W16 := BitVec.ofNat 16 (leAt k.desc 10 2)
def Cmd.waitCore (k : Cmd) : Nat := leAt k.desc 12 2 / 64 % 128
def Cmd.waitLatch (k : Cmd) : Nat := leAt k.desc 12 2 % 64
def Cmd.waitValue (k : Cmd) : W64 := BitVec.ofNat 64 (leAt k.desc 16 4)
def Cmd.waitTimeout (k : Cmd) : Nat := leAt k.desc 20 4
def Cmd.result (k : Cmd) : Nat := leAt k.desc 32 8
def Cmd.scratch (k : Cmd) : Nat := leAt k.desc 40 8
def Cmd.signal (k : Cmd) : Nat := leAt k.desc 48 8

/-- Fields of a KERNEL operation block (R261). -/
def Cmd.kProg (k : Cmd) : Nat := leAt k.param 0 8
def Cmd.kLen (k : Cmd) : Nat := leAt k.param 8 4
def Cmd.kThreads (k : Cmd) : Nat := leAt k.param 12 1
def Cmd.kItems (k : Cmd) : Nat := leAt k.param 16 4
def Cmd.kLoadAt (k : Cmd) : Nat := leAt k.param 20 4
def Cmd.kArgs (k : Cmd) : Nat := leAt k.param 24 8

def State.cmd (s : State) (ring dc : Nat) : Option Cmd := s.cmds.find? (fun k => k.ring = ring && k.dcount = dc)
def State.updCmd (s : State) (ring dc : Nat) (f : Cmd → Cmd) : State :=
  { s with cmds := s.cmds.map (fun k => if k.ring = ring && k.dcount = dc then f k else k) }

/-- Logical cores of a partition, in order; those of a wing. -/
def State.coresOf (s : State) (p : Nat) : List Nat := (List.range 128).filter (fun c => (s.part p).cores.getLsbD c)
def State.coresOfWing (s : State) (p w : Nat) : List Nat := (s.coresOf p).filter (fun c => c / 64 = w)
/-- The wing on whose behalf a command's wing controller asks: that of the partition's first core. -/
def State.wingOfPart (s : State) (p : Nat) : Nat := ((s.coresOf p).head?.getD 0) / 64

/-- The request of a command (R629). -/
def State.reqCmd (s : State) (k : Cmd) : Req :=
  { part := some k.part, wing := s.wingOfPart k.part, cmd := true, layer := k.layer, oper := k.oper, seq := k.seq }

/-- End every thread of a command, on every core (R186). -/
def State.endThreads (s : State) (ring dc : Nat) : State :=
  { s with threads := s.threads.foldl (fun t x =>
      if x.2.st ≠ .free && x.2.ring = ring && x.2.dcount = dc then tput (fun _ => {}) t x.1 x.2.free else t) s.threads }

/-- A failed command halts its ring (R541). -/
def State.haltRing (s : State) (n cause : Nat) (err : W16) : State :=
  let r := s.ring n
  if r.st = .running then s.setRing n { r with st := .halted, cause, lasterr := err } else s

/-- A command fails (R186, R253, R382): its threads end, the latches it owns break, its ring halts, the error is reported. Its record
follows at COMMAND_COMPLETE. -/
def State.failCmd (s : State) (ring dc : Nat) (code : W16) (detail : Nat) : State :=
  match s.cmd ring dc with
  | none => s
  | some k =>
    if k.phase = .failed then s
    else
      let s := s.updCmd ring dc (fun k => { k with phase := .failed, err := code, detail, beatEnd := s.now, toReissue := [] })
      (((s.endThreads ring dc).breakOwned k.part k.seq).haltRing ring 1 code).report
        { unit := uWc, sev := 0, inst := ring, err := code, beat := 0, rseq := 0, part := k.part, layer := k.layer, oper := k.oper,
          seq := k.seq, detail }

/-- An uncorrectable error in a work-counter record or a claim slot stops the commands of the record's partition (R577). -/
def State.recordLost (s : State) (p : Nat) (bad : Bool) : State :=
  if bad then (s.cmds.filter (fun k => k.part = p)).foldl (fun s k => s.failCmd k.ring k.dcount eMemPoison 0) s else s

/-! ### The work ledger (R194, R195) -/

def ledgerEntry (beat : W64) (seq : W32) (layer oper : W16) (part check tiles : Nat) : W128 :=
  BitVec.ofNat 128 (tiles + 2 ^ 10 * check + 2 ^ 13 * part + 2 ^ 16 * oper.toNat + 2 ^ 32 * layer.toNat + 2 ^ 48 * seq.toNat
    + 2 ^ 80 * (beat.toNat % 2 ^ 48))

/-- Entries of the spill ring (R201). -/
def State.spillSize (s : State) (i : Nat) : Nat := 2 ^ (min 6 (s.rdF (rLedgerCtl i) 19 16) + 10)

/-- A start recorded in the ledger of physical core i (R195). A full ledger gives up its oldest entry, to the spill ring when spilling
is enabled. -/
def State.ledgerStart (s : State) (i : Nat) (seq : W32) (layer oper : W16) (part check : Nat) : State :=
  let k := s.core i
  match k.ledger.getLast? with
  | some e =>
    if bf e 15 13 = part && bf e 79 48 = seq.toNat then
      s.setCore i { k with ledger := k.ledger.dropLast ++ [bfSet e 9 0 (holdAdd 1023 (bf e 9 0) 1)] }
    else
      let new := ledgerEntry s.now seq layer oper part check 1
      if k.ledger.length < 1024 then s.setCore i { k with ledger := k.ledger ++ [new] }
      else
        let old := k.ledger.headD 0
        let s := s.setCore i { k with ledger := k.ledger.drop 1 ++ [new] }
        if s.rdB (rLedgerCtl i) 30 then
          let n := s.spillSize i
          let s := s.ctlWrite (s.rd64 (rLedgerBase i) + 16 * (k.spilled % n)) (leBytes 16 old.toNat)
          let s := s.setCore i { s.core i with spilled := k.spilled + 1 }
          if n ≤ k.spilled then s.wrB (rLedgerCtl i) 31 true else s
        else s
  | none => s.setCore i { k with ledger := [ledgerEntry s.now seq layer oper part check 1] }

/-- Ledger entries of a core, oldest first, the spill ring included (R581). -/
def State.ledgerAll (s : State) (i : Nat) : List W128 :=
  let k := s.core i
  let n := s.spillSize i
  let m := min n k.spilled
  (span (k.spilled - m) m).map (fun j => BitVec.ofNat 128 (leNat (s.seen (s.rd64 (rLedgerBase i) + 16 * (j % n)) 16))) ++ k.ledger

/-- The blast-radius report (R581, R583): the failure's report with its DETAIL, then one record per ledger entry. -/
def State.blastReport (s : State) (i : Nat) (err : W16) : State :=
  let k := s.core i
  let es := s.ledgerAll i
  let wrap := if s.rdB (rLedgerCtl i) 31 then 1 else 0
  let s := s.report { unit := uCore, sev := 3, inst := i, err, beat := 0, rseq := 0,
                      detail := k.lastPass.toNat + 2 ^ 64 * s.now.toNat + 2 ^ 128 * es.length + 2 ^ 160 * wrap }
  (es.zipIdx).foldl (fun s e =>
    s.report { rtype := 3, unit := uCore, sev := 0, inst := i, err, beat := 0, rseq := 0, detail := e.2 + 2 ^ 32 * e.1.toNat }) s

/-! ### Cores and spares -/

def State.fenced (s : State) (i : Nat) : Bool := s.rdB (rCoreStat i) 6
/-- A thread's core takes no new work: fenced, draining, frozen, under test, withdrawn or retired. -/
def State.coreOpen (s : State) (i : Nat) : Bool :=
  !s.fenced i && !s.rdB (rCoreStat i) 5 && !s.rdB (rCoreStat i) 4 && !s.rdB (rCoreStat i) 3 && !(s.core i).withdrawn
  && !(s.core i).retired

/-- The attic core that replaces a core of a wing: idle, passed, lowest physical index (R189). -/
def State.spareFor (s : State) (w : Nat) : Option Nat :=
  (span (72 * w) 72).find? (fun i =>
    (s.logical i).isNone && (s.core i).passed && !(s.core i).retired && !s.rdB (rCoreStat i) 3 && !s.fenced i
    && !(s.handovers.any (fun h => h.new = i)))

/-- Attic cores of a wing that are passed and idle (R586). -/
def State.sparesOf (s : State) (w : Nat) : Nat :=
  ((span (72 * w) 72).filter (fun i => (s.logical i).isNone && (s.core i).passed && !(s.core i).retired && !s.rdB (rCoreStat i) 3
    && !s.fenced i)).length

/-- Refresh BST_WING_w.SPARES (R586). -/
def State.countSpares (s : State) (w : Nat) : State := s.wrF (rBstWing w) 7 0 (s.sparesOf w)

/-! ### Claims (R284) -/

/-- Address of a claim slot (R284, R310): by logical core of the wing and thread. -/
def claimAddr (lcore t : Nat) : Nat := larderBase (lcore / 64) + 0x5C00000 + 8 * ((lcore % 64) * 32 + t)
def State.claimSlot (s : State) (lcore t : Nat) : Nat := leNat (s.readMem (claimAddr lcore t) 8).2.2
/-- The slot reads poisoned. -/
def State.slotLost (s : State) (lcore t : Nat) : Bool := !(s.readMem (claimAddr lcore t) 8).2.1.isEmpty
/-- An item of a live command is due for reissue, once (R287, R290). -/
def State.addDue (s : State) (ring dc : Nat) (d : Due) : State :=
  s.updCmd ring dc (fun k =>
    if k.phase = .failed || k.toReissue.any (fun x => x.item = d.item) then k else { k with toReissue := k.toReissue ++ [d] })

/-- A work-counter record (R282). -/
def workRecord (next limit items : Nat) (seq : W32) (part flags id : Nat) : List Byte :=
  leBytes 8 next ++ leBytes 8 limit ++ leBytes 8 items ++ leBytes 4 seq.toNat ++ leBytes 1 part ++ leBytes 1 flags ++ leBytes 2 id
    ++ zeros 32

/-- The lowest record of a wing's work-counter region that no live command uses; its index is its COUNTER_ID (R282, R310). -/
def State.freeRecord (s : State) (w : Nat) : Nat :=
  let base := larderBase w + 0x5800000
  let used := s.cmds.flatMap (fun k => k.counterE :: k.counterW :: k.recs)
  ((List.range (used.length + 1)).find? (fun r => !used.contains (base + 64 * r))).getD 0
def recordAddr (w r : Nat) : Nat := larderBase w + 0x5800000 + 64 * r

end Sys2Proof.Machine
end

