-- ==== Sys2Proof/Machine/Num.lean ====
section
/-! DEFINITION. Numbers (Number Formats and Scales): the exact value a code stands for, exact sums and products, and the
encodings that round (R54 to R106). A rounding happens in one place only, `roundAt`. -/

namespace Sys2Proof.Machine

/-- An exact value: NaN, an infinity, or (-1)^neg × m × 2^e. `fin neg 0 e` is a signed zero. -/
inductive Val where
  | nan
  | inf (neg : Bool)
  | fin (neg : Bool) (m : Nat) (e : Int)
  deriving DecidableEq, Repr

def Val.zero (neg : Bool) : Val := .fin neg 0 0

def Val.isNan : Val → Bool
  | .nan => true
  | _ => false

def Val.isZero : Val → Bool
  | .fin _ m _ => m = 0
  | _ => false

def Val.isFinite : Val → Bool
  | .fin _ _ _ => true
  | _ => false

def Val.sign : Val → Bool
  | .nan => false
  | .inf s => s
  | .fin s _ _ => s

def Val.neg : Val → Val
  | .nan => .nan
  | .inf s => .inf (!s)
  | .fin s m e => .fin (!s) m e

def Val.abs : Val → Val
  | .nan => .nan
  | .inf _ => .inf false
  | .fin _ m e => .fin false m e

/-- An integer as a value. -/
def Val.ofInt (i : Int) : Val := .fin (decide (i < 0)) i.natAbs 0

/-- A value times 2^k. -/
def Val.scale (k : Int) : Val → Val
  | .fin s m e => .fin s m (e + k)
  | v => v

/-! ### Format parameters (R54) -/

/-- Exponent and mantissa widths of H16, W32, W48 and W64. -/
def wideE (f : Nat) : Nat := if f = 6 then 7 else if f = 7 then 8 else 11
def wideM (f : Nat) : Nat := if f = 6 then 8 else if f = 7 then 23 else if f = 8 then 36 else 52
/-- Exponent bias: 63, 127, 1023, 1023. -/
def wideBias (f : Nat) : Nat := 2 ^ (wideE f - 1) - 1
/-- Bits per element of each format code. -/
def fmtBits (f : Nat) : Nat :=
  if f ≤ 1 then 4 else if f = 2 then 6 else if f ≤ 5 then 8 else if f = 6 then 16 else if f = 7 then 32
  else if f = 8 then 48 else 64
def isQ (f : Nat) : Bool := f ≤ 5
def isQint (f : Nat) : Bool := f = 0 || f = 5
/-- Exponent and mantissa widths and bias of the Q float formats Q4f, Q6, Q8e, Q8r. -/
def qE (f : Nat) : Nat := if f = 1 then 2 else if f = 2 then 3 else if f = 3 then 4 else 5
def qM (f : Nat) : Nat := if f = 1 then 1 else if f = 2 then 2 else if f = 3 then 3 else 2
def qBias (f : Nat) : Nat := 2 ^ (qE f - 1) - 1
/-- Largest magnitude of a Q integer code before the zero point: 7 or 127. -/
def qMax (f : Nat) : Nat := if f = 0 then 7 else 127
/-- emax of R66. -/
def qEmax (f : Nat) : Int := if f ≤ 1 then 2 else if f = 2 then 4 else if f = 3 then 8 else if f = 4 then 16 else 6
/-- The NaN code of a Q format (R56). -/
def qNan (f : Nat) : Nat := 2 ^ (fmtBits f - 1)

/-- Canonical NaN of a wide format (R67). -/
def wideNan (f : Nat) : Nat := (2 ^ wideE f - 1) * 2 ^ wideM f + 2 ^ (wideM f - 1)
/-- Infinity of a wide format (R67). -/
def wideInf (f : Nat) (neg : Bool) : Nat :=
  (if neg then 2 ^ (wideE f + wideM f) else 0) + (2 ^ wideE f - 1) * 2 ^ wideM f

/-! ### Decoding -/

/-- The value of a wide code (R60 to R62). `flush` reads a subnormal as zero of its sign (R78, R89); W48 always does (R62). -/
def wideVal (f : Nat) (flush : Bool) (code : Nat) : Val :=
  let mb := wideM f
  let s := code / 2 ^ (wideE f + mb) % 2 = 1
  let ef := code / 2 ^ mb % 2 ^ wideE f
  let m := code % 2 ^ mb
  if ef = 2 ^ wideE f - 1 then (if m = 0 then .inf s else .nan)
  else if ef = 0 then (if flush || f = 8 then .zero s else .fin s m (1 - (wideBias f : Int) - mb))
  else .fin s (2 ^ mb + m) ((ef : Int) - wideBias f - mb)

/-- A signalling NaN of W32 or W64 (R61, R63). -/
def isSnan (f code : Nat) : Bool :=
  (f = 7 || f = 9) && code / 2 ^ wideM f % 2 ^ wideE f = 2 ^ wideE f - 1 && code % 2 ^ wideM f ≠ 0 &&
    code / 2 ^ (wideM f - 1) % 2 = 0

/-- The value of a Q element code under a scale byte and zero point (R58, R59, R68, R71, R72). -/
def qVal (f scale : Nat) (z : Int) (code : Nat) : Val :=
  let c := code % 2 ^ fmtBits f
  if scale = 0 then .zero false
  else if scale = 255 then .nan
  else if c = qNan f then .nan
  else
    let k : Int := (scale : Int) - 127
    if isQint f then
      let v := signed (fmtBits f) c - z
      .fin (decide (v < 0)) v.natAbs k
    else
      let mb := qM f
      let s := c / 2 ^ (qE f + mb) % 2 = 1
      let ef := c / 2 ^ mb % 2 ^ qE f
      let m := c % 2 ^ mb
      if ef = 0 then .fin s m (1 - (qBias f : Int) - mb + k)
      else .fin s (2 ^ mb + m) ((ef : Int) - qBias f - mb + k)

/-- The value of an element of any format: `scale` and `z` matter for the Q formats only. -/
def fmtVal (f : Nat) (flush : Bool) (scale : Nat) (z : Int) (code : Nat) : Val :=
  if isQ f then qVal f scale z code else wideVal f flush code

/-! ### Rounding -/

/-- floor(log2 m) of a positive number, and 0 of 0. -/
def lg (m : Nat) : Nat := Nat.log2 m

/-- m × 2^e rounded to a multiple of 2^q, under rounding mode `rm` (R94): the multiple and whether it is inexact. -/
def roundAt (rm : Nat) (neg : Bool) (m : Nat) (e q : Int) : Nat × Bool :=
  if q ≤ e then (m * 2 ^ (e - q).toNat, false)
  else
    let s := (q - e).toNat
    if m.log2 + 2 < s then
      -- the value is below a quarter of the step
      if m = 0 then (0, false)
      else (if (rm = 2 && neg) || (rm = 3 && !neg) then 1 else 0, true)
    else
      let hi := m / 2 ^ s
      let rem := m % 2 ^ s
      let half := 2 ^ (s - 1)
      let up := if rem = 0 then false
        else if rm = 1 then false
        else if rm = 2 then neg
        else if rm = 3 then !neg
        else if rm = 4 then half ≤ rem
        else half < rem || (half = rem && hi % 2 = 1)
      (if up then hi + 1 else hi, rem ≠ 0)

/-- m × 2^e rounded to p significant bits with an unbounded exponent: mantissa, exponent of its unit, inexact. -/
def roundP (rm p : Nat) (neg : Bool) (m : Nat) (e : Int) : Nat × Int × Bool :=
  let q : Int := e + lg m + 1 - p
  if q ≤ e then (m, e, false)
  else
    let r := roundAt rm neg m e q
    (r.1, q, r.2)

/-- A normal number m × 2^e as a code, its mantissa exact in the format. -/
def packNormal (f : Nat) (neg : Bool) (m : Nat) (e : Int) : Nat :=
  let mb := wideM f
  let l := lg m
  let frac := if l ≤ mb then m * 2 ^ (mb - l) else m / 2 ^ (l - mb)
  (if neg then 2 ^ (wideE f + mb) else 0) + (e + l + wideBias f).toNat * 2 ^ mb + (frac - 2 ^ mb)

/-- Encoding into H16, W48 and fast-mode W32 (R82, R84): nearest even, overflow to infinity, tiny after rounding to zero. -/
def encFast (f : Nat) (v : Val) : Nat :=
  match v with
  | .nan => wideNan f
  | .inf s => wideInf f s
  | .fin s m e =>
    let z := if s then 2 ^ (wideE f + wideM f) else 0
    if m = 0 then z
    else
      let r := roundP 0 (wideM f + 1) s m e
      let ex : Int := r.2.1 + lg r.1
      if (wideBias f : Int) < ex then wideInf f s
      else if ex < 1 - (wideBias f : Int) then z
      else packNormal f s r.1 r.2.1

/-- Largest finite code of a wide format, by sign. -/
def wideMax (f : Nat) (neg : Bool) : Nat := wideInf f neg - 1

/-- Flag bits of R95: NV, DZ, OF, UF, NX from bit 4 down. -/
def fNV : Nat := 16
def fDZ : Nat := 8
def fOF : Nat := 4
def fUF : Nat := 2
def fNX : Nat := 1

/-- Encoding into W64 and strict-mode W32 (R83, R92, R94, R95): code and flags. Tininess is detected after rounding. -/
def encStrict (f rm : Nat) (v : Val) : Nat × Nat :=
  match v with
  | .nan => (wideNan f, 0)
  | .inf s => (wideInf f s, 0)
  | .fin s m e =>
    let z := if s then 2 ^ (wideE f + wideM f) else 0
    if m = 0 then (z, 0)
    else
      let r := roundP rm (wideM f + 1) s m e
      let ex : Int := r.2.1 + lg r.1
      if (wideBias f : Int) < ex then
        let toInf := rm = 0 || rm = 4 || (rm = 2 && s) || (rm = 3 && !s)
        (if toInf then wideInf f s else wideMax f s, fOF + fNX)
      else if ex < 1 - (wideBias f : Int) then
        let d := roundAt rm s m e (1 - (wideBias f : Int) - wideM f)
        (z + d.1, if d.2 then fUF + fNX else 0)
      else (packNormal f s r.1 r.2.1, if r.2.2 then fNX else 0)

/-- Encoding into a wide format, in strict mode when `strict` (W64 always is): code and flags. -/
def encWide (f : Nat) (strict : Bool) (rm : Nat) (v : Val) : Nat × Nat :=
  if strict then encStrict f rm v else (encFast f v, 0)

/-- A Q code with whether it saturated and whether it was lost (R80, R81, R84, R85). -/
structure QCode where
  code : Nat
  sat : Bool
  lost : Bool
  deriving DecidableEq, Repr

/-- Encoding into a Q format under scale byte `scale` and zero point z. A scale byte of 0x00 gives code 0x00 (or z) and counts
each finite non-zero element as lost; 0xFF gives the NaN code and counts nothing (R224). -/
def encQ (f scale : Nat) (z : Int) (v : Val) : QCode :=
  let w := fmtBits f
  let zc := if isQint f then wrap w z else 0
  if scale = 255 then ⟨qNan f, false, false⟩
  else if scale = 0 then ⟨zc, false, v.isFinite && !v.isZero⟩
  else
  let k : Int := (scale : Int) - 127
  if isQint f then
    let lim : Int := qMax f
    match v with
    | .nan => ⟨qNan f, false, false⟩
    | .inf s => ⟨wrap w (if s then -lim else lim), true, false⟩
    | .fin s m e =>
      let r := (roundAt 0 s m (e - k) 0).1
      let q : Int := (if s then -(r : Int) else r) + z
      if q < -lim then ⟨wrap w (-lim), true, false⟩
      else if lim < q then ⟨wrap w lim, true, false⟩
      else ⟨wrap w q, false, decide (m ≠ 0 ∧ r = 0)⟩
  else
    let mb := qM f
    let sb (s : Bool) : Nat := if s then 2 ^ (w - 1) else 0
    let top := 2 ^ (w - 1) - 1
    match v with
    | .nan => ⟨qNan f, false, false⟩
    | .inf s => ⟨sb s + top, true, false⟩
    | .fin s m e =>
      if m = 0 then ⟨0, false, false⟩
      else
        let e' := e - k
        let u : Int := 1 - (qBias f : Int) - mb
        let q0 : Int := e' + lg m - mb
        let q : Int := if q0 < u then u else q0
        let r := (roundAt 0 s m e' q).1
        if r = 0 then ⟨0, false, true⟩
        else
          -- unit steps of 2^u: the code of a normal number is its exponent field and mantissa
          let ex : Int := q + lg r
          if r < 2 ^ mb then ⟨sb s + r, false, false⟩
          else
            let fld : Int := ex + qBias f
            let frac := if lg r ≤ mb then r * 2 ^ (mb - lg r) else r / 2 ^ (lg r - mb)
            let c := fld.toNat * 2 ^ mb + (frac - 2 ^ mb)
            if top < c then ⟨sb s + top, true, false⟩ else ⟨sb s + c, false, false⟩

/-! ### Exact arithmetic -/

/-- Order of two values that are not NaN; zeros of both signs compare equal. -/
def Val.lt : Val → Val → Bool
  | .nan, _ => false
  | _, .nan => false
  | .inf s, .inf t => s && !t
  | .inf s, .fin _ _ _ => s
  | .fin _ _ _, .inf t => !t
  | .fin s m e, .fin t n g =>
    let q := min e g
    let a : Int := (m * 2 ^ (e - q).toNat : Nat)
    let b : Int := (n * 2 ^ (g - q).toNat : Nat)
    (if s then -a else a) < (if t then -b else b)

/-- Equality of two values that are not NaN (R105: +0 equals -0). -/
def Val.eq (a b : Val) : Bool := !a.isNan && !b.isNan && !Val.lt a b && !Val.lt b a

/-- The order in which -0 lies below +0 (R101, R106). -/
def Val.ltz (a b : Val) : Bool :=
  Val.lt a b || (a.isZero && b.isZero && a.sign && !b.sign)

/-- The exact sum (R97, R100): a zero sum of operands that are not zeros of one sign is +0, or -0 under rounding mode 2. -/
def Val.add (rm : Nat) : Val → Val → Val
  | .nan, _ => .nan
  | _, .nan => .nan
  | .inf s, .inf t => if s = t then .inf s else .nan
  | .inf s, .fin _ _ _ => .inf s
  | .fin _ _ _, .inf t => .inf t
  | .fin s m e, .fin t n g =>
    if m = 0 && n = 0 then .zero (if s = t then s else rm = 2)
    else if m = 0 then .fin t n g
    else if n = 0 then .fin s m e
    else
      let q := min e g
      let a : Int := (m * 2 ^ (e - q).toNat : Nat)
      let b : Int := (n * 2 ^ (g - q).toNat : Nat)
      let c := (if s then -a else a) + (if t then -b else b)
      if c = 0 then .zero (rm = 2) else .fin (decide (c < 0)) c.natAbs q

/-- The exact product (R97, R100). -/
def Val.mul : Val → Val → Val
  | .nan, _ => .nan
  | _, .nan => .nan
  | .inf s, .inf t => .inf (s != t)
  | .inf s, .fin t n _ => if n = 0 then .nan else .inf (s != t)
  | .fin s m _, .inf t => if m = 0 then .nan else .inf (s != t)
  | .fin s m e, .fin t n g => if m = 0 || n = 0 then .zero (s != t) else .fin (s != t) (m * n) (e + g)

/-- The quotient to 128 bits and a sticky bit below: it rounds as the exact quotient does in every format (R229). -/
def Val.div : Val → Val → Val
  | .nan, _ => .nan
  | _, .nan => .nan
  | .inf _, .inf _ => .nan
  | .inf s, .fin t _ _ => .inf (s != t)
  | .fin s _ _, .inf t => .zero (s != t)
  | .fin s m e, .fin t n g =>
    if n = 0 then (if m = 0 then .nan else .inf (s != t))
    else if m = 0 then .zero (s != t)
    else
      let k := lg n + 128
      let q := m * 2 ^ k / n
      .fin (s != t) (2 * q + (if m * 2 ^ k % n = 0 then 0 else 1)) (e - g - k - 1)

/-- Integer square root, bit by bit. -/
def isqrt (x : Nat) : Nat → Nat → Nat
  | 0, r => r
  | i + 1, r => isqrt x i (if (r + 2 ^ i) * (r + 2 ^ i) ≤ x then r + 2 ^ i else r)

/-- The square root with a sticky bit below (R229): -0 gives -0, a negative value NaN. -/
def Val.sqrt : Val → Val
  | .nan => .nan
  | .inf s => if s then .nan else .inf false
  | .fin s m e =>
    if m = 0 then .zero s
    else if s then .nan
    else
      let odd := e % 2 ≠ 0
      let m1 := (if odd then 2 * m else m) * 2 ^ 128
      let e1 := (if odd then e - 1 else e) - 128
      let r := isqrt m1 (lg m1 / 2 + 1) 0
      .fin false (2 * r + (if r * r = m1 then 0 else 1)) (e1 / 2 - 1)

/-! ### 2^x and log2 x (R217), in fixed point with 192 fraction bits (notes/assumptions/21.md) -/

/-- ln 2 × 2^192, rounded down. -/
def ln2Fix : Nat := 0xb17217f7d1cf79abc9e3b39803f2f6af40f343267298b62d

/-- Σ t^n / n! from term n on, t with 192 fraction bits, `term` the term before n. -/
def expSeries (t : Nat) : Nat → Nat → Nat → Nat
  | 0, _, _ => 0
  | k + 1, n, term => term + expSeries t k (n + 1) (term * t / 2 ^ 192 / n)

/-- 2^x, with a sticky bit where it is not exact. -/
def Val.exp2 : Val → Val
  | .nan => .nan
  | .inf s => if s then .zero false else .inf false
  | .fin s m e =>
    if m = 0 then .fin false 1 0
    else if 0 ≤ e then
      let k : Int := if 20 < (lg m : Int) + e then 2 ^ 20 else ((m * 2 ^ e.toNat : Nat) : Int)
      .fin false 1 (if s then -k else k)
    else if 20 < (lg m : Int) + e then .fin false 1 (if s then -(2 ^ 20) else 2 ^ 20)
    else
      let d := (-e).toNat
      let x : Int := if s then -(m : Int) else m
      let ip := x / ((2 ^ d : Nat) : Int)
      let fr := (x % ((2 ^ d : Nat) : Int)).toNat
      if fr = 0 then .fin false 1 ip
      else
        let t := if d ≤ 192 then fr * 2 ^ (192 - d) else fr / 2 ^ (d - 192)
        let y := expSeries (t * ln2Fix / 2 ^ 192) 48 1 (2 ^ 192)
        .fin false (2 * y + 1) (ip - 193)

/-- Σ z^(2n+1) / (2n+1), z with 192 fraction bits: `pw` is z^(2n+1). -/
def atanhSeries (z2 : Nat) : Nat → Nat → Nat → Nat
  | 0, _, _ => 0
  | k + 1, n, pw => pw / (2 * n + 1) + atanhSeries z2 k (n + 1) (pw * z2 / 2 ^ 192)

/-- log2 x, with a sticky bit where it is not exact. -/
def Val.log2 : Val → Val
  | .nan => .nan
  | .inf s => if s then .nan else .inf false
  | .fin s m e =>
    if m = 0 then .inf true
    else if s then .nan
    else
      let l := lg m
      let ex : Int := e + l
      if m = 2 ^ l then Val.ofInt ex
      else
        -- ln y = 2 atanh ((y - 1) / (y + 1)) for y = m / 2^l in (1, 2)
        let z := (m - 2 ^ l) * 2 ^ 192 / (m + 2 ^ l)
        let at_ := atanhSeries (z * z / 2 ^ 192) 64 0 z
        let lf : Int := (2 * at_ * 2 ^ 192 / ln2Fix : Nat)
        let r : Int := ex * 2 ^ 192 + lf
        .fin (decide (r < 0)) (2 * r.natAbs + 1) (-193)

/-! ### Minimum, maximum, comparison -/

/-- V.MAX and V.MIN on values (R101). -/
def Val.max (a b : Val) : Val :=
  if a.isNan || b.isNan then .nan else if Val.ltz a b then b else a
def Val.min (a b : Val) : Val :=
  if a.isNan || b.isNan then .nan else if Val.ltz b a then b else a

/-- Comparisons of V.CMP: 0 EQ, 1 NE, 2 LT, 3 LE, 4 GT, 5 GE (R105, R217). -/
def Val.cmp (op : Nat) (a b : Val) : Bool :=
  if op = 0 then Val.eq a b
  else if op = 1 then !Val.eq a b
  else if op = 2 then Val.lt a b
  else if op = 3 then Val.lt a b || Val.eq a b
  else if op = 4 then Val.lt b a
  else Val.lt b a || Val.eq a b

/-! ### Scale selection (R76) -/

/-- The scale of a block of destination format f, from the values about to be encoded into it. -/
def selectScale (f : Nat) (vs : List Val) : Nat :=
  if vs.isEmpty then 0
  else if vs.all Val.isNan then 255
  else
    let fin := vs.filter Val.isFinite
    let a := fin.foldl (fun a v => if Val.lt a v.abs then v.abs else a) (Val.zero false)
    match a with
    | .fin _ m e =>
      if m = 0 then (if vs.all Val.isFinite then 0 else 0x7F)
      else
        let ex : Int := e + lg m
        let c : Int := ex - qEmax f + 127
        -- y rounded under step 1 of R80 or R81
        let ey := e - (c - 127)
        let ovf : Bool :=
          if isQint f then decide (qMax f < (roundAt 0 false m ey 0).1)
          else
            let mb := qM f
            let r := roundP 0 (mb + 1) false m ey
            Val.lt (.fin false (2 ^ (mb + 1) - 1) (qEmax f - mb)) (.fin false r.1 r.2.1)
        let c := if ovf then c + 1 else c
        if c < 1 then 1 else if 254 < c then 254 else c.toNat
    | _ => 0

/-- Rounding of a value to an integer of width w, nearest even, saturating, 0 for NaN (R219). -/
def toIntSat (w : Nat) (sgn : Bool) (v : Val) : Nat :=
  let lo : Int := if sgn then -(2 ^ (w - 1) : Nat) else 0
  let hi : Int := if sgn then (2 ^ (w - 1) : Nat) - 1 else (2 ^ w : Nat) - 1
  match v with
  | .nan => 0
  | .inf s => wrap w (if s then lo else hi)
  | .fin s m e =>
    if 70 < (lg m : Int) + e then wrap w (if m = 0 then 0 else if s then lo else hi)
    else
      let r := (roundAt 0 s m e 0).1
      let q : Int := if s then -(r : Int) else r
      wrap w (if q < lo then lo else if hi < q then hi else q)

end Sys2Proof.Machine
end

