-- ==== Sys2Proof/Machine/Tile.lean ====
section
/-! DEFINITION. Tiles: the tile descriptor (R230), scale control and pairing checks (R59, R73, R75, R107, R112, R113), exact segment
accumulation (R125 to R131), and the encoding of a destination with its scales (R73, R74, R76, R231, R232). Shared by the arrays
and by the tensor commands. -/

namespace Sys2Proof.Machine

/-! ### Tile descriptor fields (R230) -/

/-- High and low bit of the field with an ID; none for an ID that names no field. -/
def tfield (id : Nat) : Option (Nat × Nat) :=
  [(14, 0), (29, 15), (44, 30), (62, 45), (80, 63), (98, 81), (109, 99), (120, 110), (131, 121), (139, 132), (148, 140),
   (168, 149), (172, 169), (176, 173), (180, 177), (188, 181), (196, 189), (204, 197), (206, 205), (214, 207), (219, 215),
   (227, 220), (235, 228), (243, 236), (244, 244)][id]?

/-- The field with an ID. -/
def tget' (d : TDesc) (id : Nat) : Nat :=
  match tfield id with
  | some (hi, lo) => bf d hi lo
  | none => 0

/-- A descriptor read out. -/
structure TileP where
  M : Nat
  N : Nat
  K : Nat
  xf : Nat
  wf : Nat
  df : Nat
  xsc : Nat
  wsc : Nat
  dsc : Nat
  xz : Int
  wz : Int
  dz : Int
  xa : Nat
  wa : Nat
  da : Nat
  xsa : Nat
  wsa : Nat
  dsa : Nat
  xst : Nat
  wst : Nat
  dst : Nat
  seg : Nat
  promo : Nat
  step : Nat
  rowMajor : Bool

def tileP (d : TDesc) : TileP where
  M := tget' d 9 + 1
  N := tget' d 0xA + 1
  K := tget' d 0xB + 1
  xf := tget' d 0xC
  wf := tget' d 0xD
  df := tget' d 0xE
  xsc := tget' d 0xF
  wsc := tget' d 0x10
  dsc := tget' d 0x11
  xz := signed 8 (tget' d 0x15)
  wz := signed 8 (tget' d 0x16)
  dz := signed 8 (tget' d 0x17)
  xa := 64 * tget' d 0
  wa := 64 * tget' d 1
  da := 64 * tget' d 2
  xsa := 8 * tget' d 3
  wsa := 8 * tget' d 4
  dsa := 8 * tget' d 5
  xst := 64 * tget' d 6
  wst := 64 * tget' d 7
  dst := 64 * tget' d 8
  seg := tget' d 0x12
  promo := tget' d 0x13
  step := tget' d 0x14
  rowMajor := tget' d 0x18 = 1

/-! ### Scale control (R73) and checks -/

def scMode (sc : Nat) : Nat := sc / 8 % 4
def scDir (sc : Nat) : Nat := sc / 4 % 2
def scB (sc : Nat) : Nat := 2 ^ (3 + sc % 4)

/-- A condition of SCALE_INVALID on format, scale control and zero point (R59, R73, R75, R77, R107). -/
def scaleBad (fmt sc : Nat) (z : Int) (dest : Bool) : Bool :=
  sc / 32 ≠ 0 || scMode sc = 3 || (!isQ fmt && sc ≠ 0) || (!dest && scMode sc = 2) || (scMode sc = 2 && z ≠ 0)
  || (!isQint fmt && z ≠ 0) || (isQint fmt && (qMax fmt : Int) < z.natAbs)

/-- Rate class of a pairing: 0 4-bit, 1 8-bit, 2 H16, 3 W32; none for a pairing outside R112 (R113). -/
def rateClass (x w : Nat) : Option Nat :=
  if 8 ≤ x || 8 ≤ w then none
  else if x ≤ 1 && w ≤ 1 then some 0
  else if isQ x && isQ w then some 1
  else if x = 7 || w = 7 then (if isQ x || isQ w then none else some 3)
  else some 2

/-- Bytes of a row of n elements, whole bytes for Q4 and whole 3-byte groups for Q6 (R64, R65). -/
def rowBytes (f n : Nat) : Nat := if f = 2 then 3 * cdiv n 4 else cdiv (fmtBits f * n) 8

/-- Row pitch of a scale tensor whose sharing direction has size S (R231). -/
def scPitch (S b : Nat) : Nat := cdiv (cdiv S b) 8 * 8

/-- Segment length (R126). -/
def segLen (xf xsc wf wsc seg : Nat) : Nat :=
  let xk := isQ xf && scMode xsc ≠ 0 && scDir xsc = 0
  let wk := isQ wf && scMode wsc ≠ 0 && scDir wsc = 0
  if xk && wk then min (scB xsc) (scB wsc) else if xk then scB xsc else if wk then scB wsc else 2 ^ (3 + seg % 4)

/-- The code of real zero of a format (R125). -/
def zeroCode (f : Nat) (z : Int) : Nat := if isQint f then wrap (fmtBits f) z else 0

/-! ### Reading elements -/

/-- Element k of a packed row whose first byte is at physical address `pa` (R64). -/
def State.elem (s : State) (f pa k : Nat) : Nat :=
  let b := fmtBits f * k
  leNat (s.seen (pa + b / 8) (cdiv (b % 8 + fmtBits f) 8)) / 2 ^ (b % 8) % 2 ^ fmtBits f

/-- One operand of a product: element codes and scale bytes by row (or column) index and k. -/
structure Opnd where
  fmt : Nat
  z : Int
  pad : Nat
  /-- valid length along k; positions beyond take the pad code (R125) -/
  K : Nat
  code : Nat → Nat → Nat
  scale : Nat → Nat → Nat

/-- The exact value of an element, fast-mode flush included (R111, R125). -/
def Opnd.val (x : Opnd) (o k : Nat) : Val :=
  fmtVal x.fmt true (x.scale o k) x.z (if k < x.K then x.code o k else x.pad)

/-! ### Staging (R115, R125, R147) -/

/-- Element k of a packed row that stands in a byte string (R64). -/
def elemIn (f : Nat) (b : List Byte) (k : Nat) : Nat :=
  let o := fmtBits f * k
  leAt b (o / 8) (cdiv (o % 8 + fmtBits f) 8) / 2 ^ (o % 8) % 2 ^ fmtBits f

/-- Where an operand of a tile stands: the rows read, and along k the part's elements from k0, `kLen` of them valid and `kPad` fed. -/
structure Feed where
  fmt : Nat
  sc : Nat
  z : Int
  pad : Nat
  /-- 0 for X, 1 for W -/
  which : Nat
  rows : List Nat
  k0 : Nat
  kLen : Nat
  kPad : Nat
  /-- physical address of the first byte of the part in row o -/
  addr : Nat → Nat
  /-- block of row o when scales are shared along the rows (DIR 1) -/
  blk : Nat → Nat
  /-- physical address of scale byte b of scale row r: rows run along o for DIR 0, along k for DIR 1 -/
  scAddr : Nat → Nat → Nat
  /-- scale rows along k that the scale tensor holds (DIR 1) -/
  scRows : Nat

/-- The operand has a scale tensor. -/
def Feed.scaled (f : Feed) : Bool := isQ f.fmt && scMode f.sc ≠ 0
/-- Byte ranges of the scales of row o that are read, shared along k. -/
def Feed.scRange (f : Feed) (o : Nat) : Nat × Nat :=
  let b := scB f.sc
  (f.scAddr o (f.k0 / b), cdiv (f.k0 + f.kLen) b - f.k0 / b)
/-- Scale bytes of DIR 1 that are read: k and block. -/
def Feed.scCells (f : Feed) : List (Nat × Nat) :=
  ((span f.k0 f.kPad).filter (fun k => k < f.scRows)).flatMap (fun k => (dedupNat (f.rows.map f.blk)).map (fun b => (k, b)))

/-- Read byte ranges one after the other for a consumer: what each gave, with the first poisoned granule it met; every poisoned granule
is logged (R326). -/
def State.readRanges (s : State) (unit inst : Nat) (r : Req) (l : List (Nat × Nat)) : State × List (List Byte × Option Nat) :=
  let x := l.foldl (fun (acc : State × List (List Byte × Option Nat) × List Nat) x =>
    let y := acc.1.readMem x.1 x.2
    (y.1.countMem r x.1 x.2 false, acc.2.1 ++ [(y.2.2, y.2.1.head?)], acc.2.2 ++ y.2.1)) (s, [], [])
  ((dedupNat x.2.2).foldl (fun s g => s.logPoison unit inst g r) x.1, x.2.1)

/-- What a feeder delivers: the operand, the rows that poison reaches, and the first poisoned granule (R147). A scale byte beyond the
scale tensor is a free value (notes/assumptions/25.md). -/
def State.feed (s : State) (inst : Nat) (r : Req) (f : Feed) : State × Operand × List Nat × Option Nat :=
  let alongK := f.scaled && scDir f.sc = 0
  let cells := if f.scaled && scDir f.sc ≠ 0 then f.scCells else []
  let data := s.readRanges uArray inst r (f.rows.map (fun o => (f.addr o, rowBytes f.fmt f.kLen)))
  let sk := data.1.readRanges uArray inst r (if alongK then f.rows.map f.scRange else [])
  let so := sk.1.readRanges uArray inst r (cells.map (fun c => (f.scAddr c.1 c.2, 1)))
  let scaleOf (j o i : Nat) : Nat :=
    if !f.scaled then 0x7F
    else if alongK then leAt ((sk.2[j]?.map (·.1)).getD []) ((f.k0 + i) / scB f.sc - f.k0 / scB f.sc) 1
    else if f.k0 + i < f.scRows then
      match cells.findIdx? (fun c => c.1 = f.k0 + i && c.2 = f.blk o) with
      | some n => leAt ((so.2[n]?.map (·.1)).getD []) 0 1
      | none => 0
    else (Config.padScale f.which (f.blk o) (f.k0 + i)).toNat
  let row (o : Nat) : List (Nat × Nat) :=
    match f.rows.findIdx? (fun x => x = o) with
    | none => []
    | some j => (List.range f.kPad).map (fun i =>
        (if i < f.kLen then elemIn f.fmt ((data.2[j]?.map (·.1)).getD []) i else f.pad, scaleOf j o i))
  let hit (l : List (List Byte × Option Nat)) : List Nat := ((f.rows.zip l).filter (fun x => x.2.2.isSome)).map (·.1)
  let blocks := ((cells.zip so.2).filter (fun x => x.2.2.isSome)).map (fun x => x.1.2)
  let el := (List.range (f.rows.foldl (fun a o => max a (o + 1)) 0)).map row
  (so.1, { fmt := f.fmt, z := f.z, el }, hit data.2 ++ hit sk.2 ++ f.rows.filter (fun o => blocks.contains (f.blk o)),
    ((data.2 ++ sk.2 ++ so.2).filterMap (·.2)).head?)

/-- The staged operand as the procedure of R128 reads it: pads are staged with the rest. -/
def Operand.opnd (x : Operand) : Opnd where
  fmt := x.fmt
  z := x.z
  pad := 0
  K := 2 ^ 21
  code o k := (((x.el[o]?).getD [])[k]?.map (·.1)).getD 0
  scale o k := (((x.el[o]?).getD [])[k]?.map (·.2)).getD 0

/-! ### Accumulation (R128, R129) -/

/-- Rounding to p bits with an unbounded exponent, tiny results to +0: value and whether it exceeds exponent `emax`. -/
def roundAcc (p : Nat) (emin emax : Int) (v : Val) : Val × Bool :=
  match v with
  | .fin s m e =>
    if m = 0 then (.zero false, false)
    else
      let r := roundP 0 p s m e
      let ex : Int := r.2.1 + lg r.1
      if ex < emin then (.zero false, false) else (.fin s r.1 r.2.1, decide (emax < ex))
  | v => (v, false)
/-- round_w32: a finite-overflow is a rounded magnitude above 0x7F7F_FFFF. -/
def roundW32 (v : Val) : Val × Bool := roundAcc 24 (-126) 127 v
def roundW48 (v : Val) : Val := (roundAcc 37 (-1022) 1023 v).1

/-- Exact sum of the products of a segment, k from k0 on (R131). -/
def segSum (x w : Opnd) (m n : Nat) : Nat → Nat → Val
  | _, 0 => .zero false
  | k0, L + 1 => Val.add 0 (Val.mul (x.val m k0) (w.val n k0)) (segSum x w m n (k0 + 1) L)

/-- Run total of an element over `nq` segments of length L from k0 under shift r × step, and whether it met a
finite-overflow. -/
def runTotal (x w : Opnd) (m n L sh : Nat) : Nat → Nat → Val → Bool → Val × Bool
  | 0, _, t, ov => (t, ov)
  | q + 1, k0, t, ov =>
    let s := (segSum x w m n k0 L).scale (-(sh : Int))
    let r := roundW32 (Val.add 0 t s)
    runTotal x w m n L sh q (k0 + L) r.1 (ov || r.2)

/-- First k of run j of a part that begins at k0 (R127), and its number of segments: those that hold an element of the part. -/
def runBounds (kEnd L P k0 j : Nat) : Nat × Nat :=
  let a := k0 + 64 * P * j
  (a, cdiv (min (64 * P) (kEnd - a)) L)
/-- Runs of a part: at least one pass when it holds an element. -/
def runCount (k0 kEnd P : Nat) : Nat := cdiv (kEnd - k0) (64 * P)

/-- The promotion interval and the replay step with their defaults (R127, R133). -/
def promoOf (p : Nat) : Nat := if p = 0 then 16 else p
def stepOf (p : Nat) : Nat := if p = 0 then 16 else p

/-- One run of an element at a shift count: promoted total, or the next shift count. -/
def elemRun (x w : Opnd) (m n L k0 nq r step : Nat) : Val × Bool := runTotal x w m n L (r * step) nq k0 (.zero false) false

/-- The runs of an element replayed to their end: the run total scaled back, the shift count, or none for ACCUM_RANGE (R132 to
R134). -/
def replayRun (x w : Opnd) (m n L k0 nq step : Nat) : Nat → Nat → Option (Val × Nat)
  | r, fuel =>
    let t := elemRun x w m n L k0 nq r step
    if !t.2 then some (t.1.scale ((r * step : Nat) : Int), r)
    else match fuel with
      | 0 => none
      | f + 1 => replayRun x w m n L k0 nq step (r + 1) f

/-- Grand total of an element over a part [k0, kEnd): value and element-runs replayed; none for ACCUM_RANGE. -/
def grandTotal (x w : Opnd) (m n L P step k0 kEnd : Nat) : Option (Val × Nat) :=
  (List.range (runCount k0 kEnd P)).foldl (fun acc j =>
    match acc with
    | none => none
    | some (g, n') =>
      let b := runBounds kEnd L P k0 j
      match replayRun x w m n L b.1 b.2 step 0 2 with
      | none => none
      | some (t, r) => some (roundW48 (Val.add 0 g t), if 0 < r then n' + 1 else n')) (some (.zero false, 0))

/-! ### Destinations -/

/-- A destination to encode: elements by row and column. Its blocks run along the columns of a row (DIR 0) or along the rows of a
column (DIR 1) (notes/assumptions/26.md). -/
structure Dst where
  fmt : Nat
  sc : Nat
  z : Int
  rows : List Nat
  cols : List Nat
  /-- the element is written -/
  on : Nat → Nat → Bool
  val : Nat → Nat → Val
  /-- physical address of the scale byte of block β at index o -/
  sAddr : Nat → Nat → Nat

/-- What encoding a destination gives: codes by row and column, scale bytes by physical address, and the counts of R85, R87. -/
structure Enc where
  codes : List (Nat × Nat × Nat) := []
  scales : List (Nat × Byte) := []
  sat : Nat := 0
  lost : Nat := 0
  nz : Nat := 0
  /-- a MODE 1 scale of 0x00 or 0xFF (R74, R107) -/
  bad : Bool := false

def Dst.blockOf (d : Dst) (r c : Nat) : Nat × Nat :=
  if scDir d.sc = 0 then (r, c / scB d.sc) else (c, r / scB d.sc)

/-- The blocks of a destination with their scale bytes (R70, R76): only valid elements count. The scale byte of a block all of whose
elements are masked or skipped is left as it was, in MODE 2 too (DESIGN CHOICE, notes/assumptions/42.md). -/
def Dst.blocks (d : Dst) (s : State) : List (Nat × Nat × Nat) :=
  let b := scB d.sc
  let along := if scDir d.sc = 0 then d.cols else d.rows
  let other := if scDir d.sc = 0 then d.rows else d.cols
  other.flatMap (fun o => (dedupNat (along.map (· / b))).filterMap (fun k =>
    let mem := along.filter (fun a => a / b = k && (if scDir d.sc = 0 then d.on o a else d.on a o))
    if mem.isEmpty then none
    else some (o, k,
      if scMode d.sc = 1 then leNat (s.seen (d.sAddr o k) 1)
      else selectScale d.fmt (mem.map (fun a => if scDir d.sc = 0 then d.val o a else d.val a o)))))

/-- Encode a destination. The finite, non-zero source elements (R87) are counted after the input flush (R90), so that a subnormal one
that reads as zero is not among them (DESIGN CHOICE, notes/assumptions/42.md). -/
def Dst.encode (d : Dst) (s : State) : Enc :=
  let scaled := isQ d.fmt && scMode d.sc ≠ 0
  let bl := if scaled then d.blocks s else []
  let tab : List ((Nat × Nat) × Nat) := bl.map (fun x => ((x.1, x.2.1), x.2.2))
  let cells := d.rows.flatMap (fun r => (d.cols.filter (d.on r)).map (fun c => (r, c)))
  let q := cells.map (fun x =>
    let v := d.val x.1 x.2
    if isQ d.fmt then
      let sb := if scaled then ((tab.find? (fun y => y.1 = d.blockOf x.1 x.2)).map (·.2)).getD 0x7F else 0x7F
      let e := encQ d.fmt sb d.z v
      ((x.1, x.2, e.code), e.sat, e.lost, v.isFinite && !v.isZero)
    else ((x.1, x.2, encFast d.fmt v), false, false, false))
  { codes := q.map (·.1)
    scales := if scaled && scMode d.sc = 2 then bl.map (fun x => (d.sAddr x.1 x.2.1, BitVec.ofNat 8 x.2.2)) else []
    sat := (q.filter (fun x => x.2.1)).length
    lost := (q.filter (fun x => x.2.2.1)).length
    nz := (q.filter (fun x => x.2.2.2)).length
    bad := scaled && scMode d.sc = 1 && bl.any (fun x => x.2.2 = 0 || x.2.2 = 255) }

/-- Bytes of a packed row with some elements replaced: from the byte of the first to that of the last, and to the end of the row's
last byte or group with the bits beyond the row zero when the row is written whole (R65). -/
def State.packRow (s : State) (f pa n : Nat) (es : List (Nat × Nat)) : Nat × List Byte :=
  let w := fmtBits f
  let whole := es.length = n
  let lo := if whole then 0 else (es.foldl (fun a e => min a e.1) n) * w / 8
  let hi := if whole then rowBytes f n else cdiv ((es.foldl (fun a e => max a e.1) 0 + 1) * w) 8
  let old := if whole then 0 else leNat (s.seen (pa + lo) (hi - lo))
  let v := es.foldl (fun (v : BitVec (8 * (hi - lo))) e => bfSet v ((e.1 + 1) * w - 8 * lo - 1) (e.1 * w - 8 * lo) e.2)
    (BitVec.ofNat (8 * (hi - lo)) old)
  (pa + lo, leBytes (hi - lo) v.toNat)

/-- The bits of a packed row's last byte or group beyond its n elements become zero (R65). -/
def State.zeroTail (s : State) (f pa n : Nat) : State :=
  let lo := fmtBits f * n / 8
  let hi := rowBytes f n
  s.writeMem (pa + lo) (leBytes (hi - lo) (leNat (s.seen (pa + lo) (hi - lo)) % 2 ^ (fmtBits f * n % 8)))

/-- Overlapping destination rows leave each overlapped byte holding one of the values written to it (R233; for commands,
notes/assumptions/29.md). Of the n bytes at pa that row o has just written, those that lie in a row written before (`seen`) keep, by a
free choice, what they held. -/
def State.overlap (old new : State) (seen : List (Nat × Nat)) (o pa n : Nat) : State :=
  if seen.any (fun y => y.1 < pa + n && pa < y.1 + y.2) then
    ((span pa n).filter (fun a => seen.any (fun y => y.1 ≤ a && a < y.1 + y.2)
      && (Config.freeWord old.freeCtr (2 ^ 100 + 2 ^ 64 * o + a)).getLsbD 0)).foldl (fun s a => s.writeMem a [old.byte a]) new
  else new

/-- The next free value, when two of the rows (address and length) overlap. -/
def State.bumpOverlap (s : State) : List (Nat × Nat) → State
  | [] => s
  | r :: l => if l.any (fun y => y.1 < r.1 + r.2 && r.1 < y.1 + y.2) then s.bump else s.bumpOverlap l

/-- Write encoded codes: one packed row per outer index. `rowMajor` makes rows of D the packed rows; `base` is the physical
address of a packed row, `n` its length in elements. -/
def State.putCodes (s : State) (f n : Nat) (rowMajor : Bool) (base : Nat → Nat) (codes : List (Nat × Nat × Nat)) : State :=
  let outer := dedupNat (codes.map (fun c => if rowMajor then c.1 else c.2.1))
  let w := outer.foldl (fun (acc : State × List (Nat × Nat)) o =>
    let es := (codes.filter (fun c => (if rowMajor then c.1 else c.2.1) = o)).map
      (fun c => (if rowMajor then c.2.1 else c.1, c.2.2))
    let r := acc.1.packRow f (base o) n es
    (acc.1.overlap (acc.1.writeMem r.1 r.2) acc.2 o r.1 r.2.length, (r.1, r.2.length) :: acc.2)) (s, [])
  w.1.bumpOverlap w.2

/-- Write scale bytes; one that is written twice holds one of its values (R233). -/
def State.putScales (s : State) (l : List (Nat × Byte)) : State :=
  let w := l.foldl (fun (acc : State × List (Nat × Nat)) x =>
    (acc.1.overlap (acc.1.writeMem x.1 [x.2]) acc.2 (2 ^ 30 + acc.2.length) x.1 1, (x.1, 1) :: acc.2)) (s, [])
  w.1.bumpOverlap w.2

end Sys2Proof.Machine
end

