-- ==== Sys2Proof/Machine/Matrix.lean ====
section
/-! DEFINITION. The M slot (R234 to R239). -/

namespace Sys2Proof.Machine

def slotMNop : SlotOut := { kind := 2 }

/-- A write of a tile-descriptor field; a FIELD that names no field, or a reserved bit, is invalid (R234, R206). -/
def mField (f : MSetF) (x : Thread) (last : Nat) (g : Nat → Nat → Nat) : SlotOut :=
  let td := f.td.toNat
  match tfield f.field.toNat with
  | some (hi, lo) =>
    if f.rsv ≠ 0 || last < f.field.toNat then .raises 2 cBundle [.t td]
    else
      let d := x.treg td
      { kind := 2, srcs := [.t td, .s f.sa.toNat], dsts := [.t td]
        writes := [.t td (bfSet d hi lo (g (bf d hi lo) (x.sreg f.sa.toNat).toNat))] }
  | none => .raises 2 cBundle [.t td]

def slotMTset (f : MSetF) (x : Thread) : SlotOut := mField f x 0x18 (fun _ v => v)
def slotMTadd (f : MSetF) (x : Thread) : SlotOut := mField f x 0x0B (fun a v => a + v)

def slotMTcpy (f : MCpyF) (x : Thread) : SlotOut :=
  if f.rsv ≠ 0 then .raises 2 cBundle [.t f.td.toNat]
  else { kind := 2, srcs := [.t f.ts.toNat], dsts := [.t f.td.toNat], writes := [.t f.td.toNat (x.treg f.ts.toNat)] }

/-! ### M.TILE -/

/-- One past the last byte of n rows of a tensor. -/
def rowsEnd (base stride n row : Nat) : Nat := base + (n - 1) * stride + row
/-- One past the last byte of a scale tensor: `S` along its sharing direction, `O` the other dimension (R231); 0 when none is in
use. -/
def scaleEnd (base sc S O : Nat) : Nat :=
  if scMode sc = 0 then 0 else base + (O - 1) * scPitch S (scB sc) + cdiv S (scB sc)

/-- One past the last byte that a tile touches, for rule 4 of R239. -/
def tileEnd (p : TileP) : Nat :=
  let dir (sc k o : Nat) : Nat × Nat := if scDir sc = 0 then (k, o) else (o, k)
  let xs := dir p.xsc p.K p.M
  let ws := dir p.wsc p.K p.N
  let ds := dir p.dsc p.N p.M
  [rowsEnd p.xa p.xst p.M (rowBytes p.xf p.K), rowsEnd p.wa p.wst p.N (rowBytes p.wf p.K),
   if p.rowMajor then rowsEnd p.da p.dst p.M (rowBytes p.df p.N) else rowsEnd p.da p.dst p.N (rowBytes p.df p.M),
   scaleEnd p.xsa p.xsc xs.1 xs.2, scaleEnd p.wsa p.wsc ws.1 ws.2, scaleEnd p.dsa p.dsc ds.1 ds.2].foldl max 0

/-- The tile request M.TILE captures at issue (R235, R236). -/
def State.tileReq (s : State) (f : MTileF) (c t : Nat) : TileReq :=
  let x := s.thr c t
  { core := c, thread := t, part := x.part, ring := x.ring, dcount := x.dcount, seq := x.seq, layer := x.layer, oper := x.oper
    epoch := x.epoch, desc := x.treg f.td.toNat, half := f.half.toNat
    men := f.men, smask := x.sreg f.smask.toNat, pen := f.pen, spad := x.sreg f.spad.toNat
    oen := f.oen, sout := x.sreg f.sout.toNat, latch := f.latch.toNat, checkrun := x.checkrun, reissue := x.reissue }

/-- Half tiles queued or running in the other half of an array (R237). -/
def Arr.others (a : Arr) (half : Nat) : List TileReq :=
  let other := 3 - half
  a.queue.filter (fun q => q.half = other)
    ++ [a.lo, a.hi].filterMap (fun r => r.bind (fun r => if r.req.half = other then some r.req else none))
/-- A tile may share an array with a tile of the other half: one partition and one rate class (R143). -/
def TileReq.fits (q o : TileReq) : Bool :=
  q.part = o.part && rateClass (tileP q.desc).xf (tileP q.desc).wf = rateClass (tileP o.desc).xf (tileP o.desc).wf

/-- A format code of R54. -/
def fmtOk (f : Nat) : Bool := f ≤ 9

/-- The cause of M.TILE's descriptor check (R239); the outcome word counts with the bytes of rule 4 (R177,
notes/assumptions/27.md). -/
def tileCause (a : Arr) (q : TileReq) : Option Nat :=
  let p := tileP q.desc
  if !fmtOk p.xf || !fmtOk p.wf || !fmtOk p.df || p.df = 9 then some cFormat
  else if scaleBad p.xf p.xsc p.xz false || scaleBad p.wf p.wsc p.wz false || scaleBad p.df p.dsc p.dz true then some cScale
  else if (rateClass p.xf p.wf).isNone then some cPairing
  else if q.half ≠ 0 && (32 < p.M || 256 < p.N || (a.others q.half).any (fun o => !q.fits o)) then
    some cPairing
  else if storeSize < tileEnd p || (q.oen && storeSize < q.sout.toNat + 8) then some cBounds
  else if 48 ≤ q.latch then some cLatch
  else none

/-- The array a tile is queued on: the one named; for an item that runs again, another one of the core when that one is SUSPECT and
another is not (R287). -/
def State.tileArray (s : State) (c a : Nat) (reissue : Bool) : Nat :=
  let bad (i : Nat) : Bool := s.rdB (rArrStat i) 7
  if reissue && bad (4 * c + a) then ((span (4 * c) 4).find? (fun i => !bad i)).getD (4 * c + a) else 4 * c + a

/-- M.TILE (R235 to R239). A full queue, or a core that drains, is not eligible (R165, R190). -/
def slotMTile (f : MTileF) (s : State) (c t : Nat) : SlotOut :=
  let q := s.tileReq f c t
  let i := s.tileArray c f.arr.toNat q.reissue
  let srcs := [.t f.td.toNat] ++ (if f.men then [.s f.smask.toNat] else []) ++ (if f.pen then [.s f.spad.toNat] else [])
    ++ (if f.oen then [.s f.sout.toNat] else [])
  if f.rsv ≠ 0 || q.half = 3 then .raises 2 cBundle
  else match tileCause (s.arr i) q with
  | some k => .raises 2 k [] srcs
  | none =>
    { kind := 2
      ready := decide ((s.arr i).queue.length < 4) && !s.rdB (rCoreStat c) 5
      srcs
      act := fun s => s.setArr i { s.arr i with queue := (s.arr i).queue ++ [q] } }

end Sys2Proof.Machine
end

