-- ==== Sys2Proof/Machine/Packet.lean ====
section
/-! DEFINITION. Packets (R416 to R420), routes (R436, R437, R444), the sending of packets and of STATUS answers (R443, R447), and
barrier packets (R387 to R391). A packet from an engine of the module to the module itself is delivered through `Fabric.localQ`. -/

namespace Sys2Proof.Machine

/-! ### Packets -/

/-- Bytes 0 to 59 of a PKT flit, DTR and HOPC read as zero (R416, R418). -/
def pktHeader (p : Pkt) : List Byte :=
  leBytes 1 0x10 ++ leBytes 1 (64 * p.vc.toNat + 8 * p.spart.toNat + p.kind.toNat) ++ leBytes 2 p.dst.toNat
  ++ leBytes 2 p.src.toNat ++ leBytes 1 p.len.toNat ++ leBytes 1 p.lastb.toNat ++ leBytes 8 p.daddr.toNat
  ++ leBytes 8 p.sendBeat.toNat ++ leBytes 2 p.group.toNat ++ leBytes 2 p.tag.toNat ++ leBytes 2 p.dseq.toNat ++ [0, 0]
  ++ leBytes 8 p.poismap.toNat ++ leBytes 16 p.body.toNat ++ [0, 0, 0, 0]
/-- The end-to-end check of a packet (R418). -/
def pktCrc (p : Pkt) : Nat := crc32c (pktHeader p ++ p.data)
def pktSeal (p : Pkt) : Pkt := { p with ecrc := BitVec.ofNat 32 (pktCrc p) }

/-- Body word of a packet: bytes 40 to 47. -/
def pktWord (p : Pkt) : W64 := p.body.setWidth 64
/-- Body byte 48 + i. -/
def pktByte (p : Pkt) (i : Nat) : Nat := byteAt (p.body.toNat / 2 ^ 64) i

/-- Data flits of n bytes and the LASTB field. -/
def flitsOf (n : Nat) : Nat := cdiv n 64
def lastbOf (n : Nat) : Nat := n % 64

/-- A packet of this module. `group` is 0xFFF for MCP traffic (R416). -/
def State.mkPkt (s : State) (kind vc spart dst daddr group tag dseq : Nat) (body : Nat) (data : List Byte) (pois : Nat := 0) :
    Pkt where
  sendBeat := 0
  vc := BitVec.ofNat 2 vc
  spart := BitVec.ofNat 3 spart
  kind := BitVec.ofNat 3 kind
  dst := BitVec.ofNat 14 dst
  dtr := 0
  src := BitVec.ofNat 14 s.maddr
  len := BitVec.ofNat 8 (flitsOf data.length)
  lastb := BitVec.ofNat 8 (lastbOf data.length)
  daddr := BitVec.ofNat 64 daddr
  group := BitVec.ofNat 12 group
  tag := BitVec.ofNat 16 tag
  dseq := BitVec.ofNat 16 dseq
  hopc := 0
  poismap := BitVec.ofNat 64 pois
  body := BitVec.ofNat 128 body
  ecrc := 0
  rsvSet := false
  data := data

/-! ### Addresses and routes -/

/-- Coordinate d of a module address (R436). -/
def coord (a d : Nat) : Nat := if d = 0 then a % 8 else if d = 1 then a / 8 % 8 else if d = 2 then a / 64 % 16 else a / 1024 % 16
/-- Size of dimension d (R451). -/
def State.dimSize (s : State) (d : Nat) : Nat :=
  1 + (if d = 0 then s.rdF rFabId 2 0 else if d = 1 then s.rdF rFabId 6 4 else if d = 2 then s.rdF rFabId 11 8 else s.rdF rFabId 15 12)
/-- Every coordinate names a member (R436). -/
def State.inArrangement (s : State) (a : Nat) : Bool := [0, 1, 2, 3].all (fun d => coord a d < s.dimSize d)

def State.portState (s : State) (p : Nat) : Nat := s.rdF (rFabPort p) 31 29
/-- The port that serves a link (R454). -/
def State.linkPort (s : State) (l : Nat) : Nat := s.rdF (rFabLink l) 5 0
/-- The link a port serves; none for 0x3F (R453). -/
def State.portLink (s : State) (p : Nat) : Option Nat :=
  let l := s.rdF (rFabPort p) 28 23
  if l < 48 then some l else none
/-- A link that carries packets: it has trained and has not gone DOWN or into quarantine since (R443, R444, R450). A retrain, a
RELOCK and a port takeover keep it (R407, R428, R441). -/
def State.linkUp (s : State) (l : Nat) : Bool := l < 48 && (s.port (s.linkPort l)).linkUp

/-- Where a packet goes next: here, a link with its new DTR, or nowhere (R437). -/
inductive Hop where
  | here
  | link (l dtr : Nat)
  | none
  deriving DecidableEq, Repr

/-- The first dimension in which two addresses differ. -/
def firstDim (a b : Nat) : Option Nat := [0, 1, 2, 3].find? (fun d => coord a d ≠ coord b d)

/-- The procedure of R437. -/
def State.route (s : State) (dst dtr : Nat) : Hop :=
  match (List.range 48).find? (fun l => 2 ≤ s.rdF (rFabLink l) 31 30 && s.rdF (rFabLink l) 29 16 = dst) with
  | some l => if s.linkUp l then .link l 0 else .none
  | none =>
    if dst = s.maddr then .here
    else match firstDim dst s.maddr with
    | none => .here
    | some d =>
      let e := rFabRoute (16 * d + coord dst d)
      if s.rdB e 31 && dtr = 0 then
        let v := s.rdF (rFabRoute (16 * d + s.rdF e 9 6)) 5 0
        if s.linkUp v then .link v 1 else .none
      else
        let l := s.rdF e 5 0
        if s.linkUp l then .link l (if dtr = 1 then 2 else 0) else .none

/-- Recompute UNREACH of every route (R444, R446): its link is DOWN and its detour, if any, unusable. -/
def State.reroute (s : State) : State :=
  (List.range 64).foldl (fun s x =>
    let l := s.rdF (rFabRoute x) 5 0
    let via := s.rdF (rFabRoute (16 * (x / 16) + s.rdF (rFabRoute x) 9 6)) 5 0
    let bad := l < 48 && (if s.rdB (rFabRoute x) 31 then !s.linkUp via else !s.linkUp l)
    s.wrB (rFabRoute x) 30 bad) s

/-- Whether the route to a module shows UNREACH (R444). -/
def State.unreachable (s : State) (dst : Nat) : Bool :=
  match firstDim dst s.maddr with
  | some d => s.rdB (rFabRoute (16 * d + coord dst d)) 30
  | none => false

/-! ### Sending -/

/-- Hand a packet to its egress, or to this module; none when no route takes it. HOPC rises by 1 at each hop, the first one included
(R437). -/
def State.launch (s : State) (own : Bool) (p : Pkt) : Option State :=
  match s.route p.dst.toNat p.dtr.toNat with
  | .here => some { s with fab := { s.fab with localQ := s.fab.localQ ++ [pktSeal p] } }
  | .link l dtr =>
    let x := s.linkPort l
    let q := s.port x
    some (s.setPort x { q with egress := q.egress ++ [(own, { p with dtr := BitVec.ofNat 2 dtr, hopc := p.hopc + 1 })] })
  | .none => none

/-- A STATUS for a packet, to its source (R417, R443, R447): a STATUS is never answered, and one with no route is counted. -/
def State.sendStatus (s : State) (p : Pkt) (code : W16) : State :=
  if p.kind = 3 then { s with fab := { s.fab with lostStatus := s.fab.lostStatus + 1 } }
  else
    let body := code.toNat + 2 ^ 16 * p.tag.toNat + 2 ^ 32 * p.dseq.toNat + 2 ^ 64 * p.daddr.toNat
    let q := s.mkPkt 3 3 p.spart.toNat p.src.toNat 0 0xFFF p.tag.toNat p.dseq.toNat body []
    match s.launch true q with
    | some s => s
    | none => { s with fab := { s.fab with lostStatus := s.fab.lostStatus + 1 } }

/-- Send a packet of this module; with no usable route it is discarded with FAB_UNREACHABLE (R437). -/
def State.sendPkt (s : State) (p : Pkt) : State :=
  match s.launch true p with
  | some t => t
  | none => s.sendStatus p eFabUnreachable

/-- Bytes a packet writes; a WRITE's last data flit holds LASTB bytes. -/
def pktBytes (p : Pkt) : Nat := p.data.length
/-- The wing of a port's engine (R34). -/
def wingOfPort (port : Nat) : Nat := port / 26

/-- Count the data of a packet that goes from a wing to the port of its next hop (R33). -/
def State.crossOut (s : State) (r : Req) (p : Pkt) : State :=
  match s.route p.dst.toNat p.dtr.toNat with
  | .link l _ => s.cross r (wingOfPort (s.linkPort l)) (pktBytes p) true
  | _ => s

/-- Forward an arriving packet as it is (R437, R418). -/
def State.forwardPkt (s : State) (p : Pkt) : State :=
  match s.launch false p with
  | some t => t
  | none => s.sendStatus p eFabUnreachable

/-! ### Barriers -/

/-- Tags of the packets of the latch units (R416: bit 15 set, the rest set by the engine): an arrival, a broadcast to a group, an
answer. -/
def tagLatch : Nat := 0x8000
def tagBroadcast : Nat := 0x8001
def tagAnswer : Nat := 0x8002
/-- Tag of the wing DMA engines, the collective engine and the MCPs (R416). -/
def tagWing (w e : Nat) : Nat := 0x8100 + 16 * w + e
def tagColl : Nat := 0x8200
def tagMcp : Nat := 0x8300

/-- A BARRIER packet's body (R417): the round modulo 2^16, zero-extended (R386). -/
def barrierBody (round : W64) (op estat : Nat) : Nat := round.toNat % 2 ^ 16 + 2 ^ 64 * op + 2 ^ 72 * estat

/-- A counter's address in the logical window (R298, R390). -/
def counterAddr (lcore latch : Nat) : Nat := 0x010200100000 + 0x400 * lcore + 16 * latch

/-- The counter a local latch address names: logical core and latch (R387). -/
def State.counterOf (s : State) (a : Nat) : Nat × Nat :=
  if 0x010200100000 ≤ a then ((a - 0x010200100000) / 0x400, (a - 0x010200100000) % 0x400 / 16)
  else ((s.logical ((a - 0x010200000000) / 0x400)).getD 255, (a - 0x010200000000) % 0x400 / 16)

/-- The counter a global latch address names: module, logical core, latch. What a physical window of another module holds is that
module's; here it is a free value (notes/assumptions/9.md). -/
def State.globalCounter (s : State) (a : Nat) : Nat × Nat × Nat :=
  if isRemote a && remoteMod a ≠ s.maddr then
    let l := remoteLocal a
    if 0x010200100000 ≤ l then (remoteMod a, (l - 0x010200100000) / 0x400, (l - 0x010200100000) % 0x400 / 16)
    else (remoteMod a, bf (s.free 0) 6 0, (l - 0x010200000000) % 0x400 / 16)
  else
    let c := s.counterOf (remoteLocal a)
    (s.maddr, c.1, c.2)

/-- Send a barrier packet of partition p to a module. The latch units have no descriptors: DSEQ holds the destination module, so that a
STATUS tells whom the packet was for. -/
def State.sendBarrier (s : State) (p dst daddr group : Nat) (round : W64) (op estat : Nat) (tag : Nat := tagLatch) : State :=
  s.sendPkt (s.mkPkt 2 2 p dst daddr group tag dst (barrierBody round op estat) [])

/-- An arrival for a round at a counter, with its pending release (R387, R388): `core` is the logical core and `latch` the release
latch, or for a child counter the child's own core and latch. -/
def State.sendArrival (s : State) (p addr : Nat) (round : W64) (core latch : Nat) (child : Bool) : State :=
  let c := s.globalCounter addr
  let remote := isRemote addr && remoteMod addr ≠ s.maddr
  let s1 := { s with releases := s.releases ++ [(⟨c.1, c.2.1, c.2.2, round, core, latch, child⟩ : Release)] }
  let s2 := if remote && remoteLocal addr < 0x010200100000 then s1.bump else s1
  s2.sendBarrier p (if remote then remoteMod addr else s.maddr) (remoteLocal addr) ((s.gtFor p c.1).getD 0) round 0 0

end Sys2Proof.Machine
end

