-- ==== Sys2Proof/Machine/Vector.lean ====
section
/-! DEFINITION. The V slot (R213 to R229): lanes, predicates, arithmetic in fast and strict mode, reductions, moments and the
Q-format conversions. -/

namespace Sys2Proof.Machine

/-! ### Lanes (R178, R179, R214) -/

/-- Width of an element type. -/
def tyW (t : Nat) : Nat :=
  if t ≤ 1 then 8 else if t ≤ 3 then 16 else if t ≤ 5 then 32 else if t ≤ 7 then 64
  else if t = 8 then 16 else if t = 9 then 32 else if t = 10 then 64 else 8
def tyLanes (t : Nat) : Nat := 4096 / tyW t
def tyInt (t : Nat) : Bool := t ≤ 7
def tySigned (t : Nat) : Bool := t ≤ 7 && t % 2 = 0
def tyFloat (t : Nat) : Bool := t = 8 || t = 9 || t = 10
/-- Format code of a float type (R54). -/
def tyFmt (t : Nat) : Nat := if t = 8 then 6 else if t = 9 then 7 else 9

/-- Lane i of width w. -/
def lane (v : Vec) (w i : Nat) : Nat := v.toNat / 2 ^ (w * i) % 2 ^ w
/-- A number from its lanes, lane 0 least significant. -/
def packLanes (w : Nat) : List Nat → Nat
  | [] => 0
  | x :: r => x % 2 ^ w + 2 ^ w * packLanes w r
/-- A vector of L lanes given by a function of the index. -/
def vecOf (w L : Nat) (g : Nat → Nat) : Vec := BitVec.ofNat 4096 (packLanes w ((List.range L).map g))

/-- A V slot's fields and thread, ready to use. -/
structure VC where
  f : VF
  x : Thread
  /-- element type -/
  ty : Nat
  w : Nat
  L : Nat
  /-- the free answer of notes/assumptions/23.md -/
  fr : Bool := false

def mkVC (f : VF) (x : Thread) (fr : Bool := false) : VC := ⟨f, x, f.type.toNat, tyW f.type.toNat, tyLanes f.type.toNat, fr⟩

/-- Lane i is enabled (R213, R215). -/
def VC.en (c : VC) (i : Nat) : Bool := !c.f.pen || ((c.x.preg c.f.pred.toNat).getLsbD i != c.f.pn)

/-- Strict mode applies (R225 to R227): W64 always, W32 with STRICT = 1. -/
def VC.strict (c : VC) : Bool := c.ty = 10 || (c.ty = 9 && c.f.strict)
def VC.fmt (c : VC) : Nat := tyFmt c.ty
def VC.rm (c : VC) : Nat := if c.strict then c.x.rm.toNat else 0
def VC.vd (c : VC) : Nat := c.f.vd.toNat
def VC.va (c : VC) : Nat := c.f.va.toNat
def VC.vb (c : VC) : Nat := c.f.vb.toNat
def VC.vc (c : VC) : Nat := c.f.vc.toNat
def VC.ss (c : VC) : Nat := c.f.ss.toNat
def VC.imm (c : VC) : Nat := c.f.imm.toNat
def VC.a (c : VC) (i : Nat) : Nat := lane (c.x.vreg c.va) c.w i
/-- VB, or the low bits of SS repeated when IMM[0] = 1 (R216). -/
def VC.b (c : VC) (i : Nat) : Nat :=
  if c.imm % 2 = 1 then (c.x.sreg c.ss).toNat % 2 ^ c.w else lane (c.x.vreg c.vb) c.w i
def VC.c (c : VC) (i : Nat) : Nat := lane (c.x.vreg c.vc) c.w i
def VC.old (c : VC) (i : Nat) : Nat := lane (c.x.vreg c.vd) c.w i

/-- Exact value of a float lane, flushed in fast mode (R89, R92). -/
def VC.val (c : VC) (code : Nat) : Val := wideVal c.fmt (!c.strict) code
/-- NV for a signalling NaN operand in strict mode (R95). -/
def VC.sn (c : VC) (codes : List Nat) : Nat := if c.strict && codes.any (isSnan c.fmt) then fNV else 0
/-- Encode a float result: code and flags. -/
def VC.enc (c : VC) (v : Val) (fl : Nat) : Nat × Nat :=
  let r := encWide c.fmt c.strict c.rm v
  (r.1, if c.strict then r.2 ||| fl else 0)

/-- An element as an integer, by the signedness of its type. -/
def VC.int (c : VC) (v : Nat) : Int := if tySigned c.ty then signed c.w v else (v : Int)

/-! ### Checks common to the opcodes (R206, R214, R217, R226) -/

/-- Sources of the predicate, when it governs. -/
def VC.psrc (c : VC) : List RegRef := if c.f.pen then [.p c.f.pred.toNat] else []

/-- BUNDLE_INVALID for reserved bits, a reserved TYPE and IMM bits outside `mask`; FORMAT for a type outside the column and for
W64 without STRICT; MODE where strict mode is named for an operation without one. -/
def VC.check (c : VC) (mask : Nat) (okType : Bool) (noStrict : Bool := false) : Option Nat :=
  if c.f.rsv ≠ 0 || 12 ≤ c.ty || c.imm ||| mask ≠ mask then some cBundle
  else if !okType || (c.ty = 10 && !c.f.strict) then some cFormat
  else if noStrict && c.f.strict then some cMode
  else none

/-- A slot that writes one vector register, with flags to OR into FPST (R95, R96). -/
def vOut (c : VC) (th : Nat × Nat) (srcs : List RegRef) (v : Vec) (flags : Nat := 0) : SlotOut :=
  { kind := 1, srcs, dsts := [.v c.vd], writes := [.v c.vd v],
    act := fun s => if flags = 0 then s else
      s.setThr th.1 th.2 { s.thr th.1 th.2 with flags := (s.thr th.1 th.2).flags ||| BitVec.ofNat 5 flags } }

/-- Lane-wise results (code, flags); a disabled lane keeps its element and raises no flag (R215). -/
def vLanes (c : VC) (g : Nat → Nat × Nat) : Vec × Nat :=
  let r := (List.range c.L).map (fun i => if c.en i then g i else (c.old i, 0))
  (BitVec.ofNat 4096 (packLanes c.w (r.map (·.1))), r.foldl (fun a x => a ||| x.2) 0)

/-- A lane-wise slot with its check. -/
def vMap (c : VC) (th : Nat × Nat) (chk : Option Nat) (srcs : List RegRef) (g : Nat → Nat × Nat) : SlotOut :=
  match chk with
  | some k => .raises 1 k [.v c.vd]
  | none => let r := vLanes c g; vOut c th (.v c.vd :: srcs ++ c.psrc) r.1 r.2

def VC.srcA (c : VC) : List RegRef := [.v c.va]
def VC.srcAB (c : VC) : List RegRef := [.v c.va, if c.imm % 2 = 1 then .s c.ss else .v c.vb]
def VC.srcABC (c : VC) : List RegRef := .v c.vc :: c.srcAB

/-! ### Arithmetic -/

/-- Invalid operations of a sum (R95, R97). -/
def nvAdd (a b : Val) : Nat :=
  match a, b with
  | .inf s, .inf t => if s = t then 0 else fNV
  | _, _ => 0
/-- Invalid operations of a product. -/
def nvMul (a b : Val) : Nat :=
  match a, b with
  | .inf _, .fin _ m _ => if m = 0 then fNV else 0
  | .fin _ m _, .inf _ => if m = 0 then fNV else 0
  | _, _ => 0

def VC.fadd (c : VC) (a b : Nat) : Nat × Nat :=
  c.enc (Val.add c.rm (c.val a) (c.val b)) (c.sn [a, b] ||| nvAdd (c.val a) (c.val b))
def VC.fsub (c : VC) (a b : Nat) : Nat × Nat :=
  c.enc (Val.add c.rm (c.val a) (c.val b).neg) (c.sn [a, b] ||| nvAdd (c.val a) (c.val b).neg)
def VC.fmul (c : VC) (a b : Nat) : Nat × Nat :=
  c.enc (Val.mul (c.val a) (c.val b)) (c.sn [a, b] ||| nvMul (c.val a) (c.val b))
/-- a × b + d with one rounding; `sub` negates d. Zero times infinity is invalid; with a quiet NaN added IEEE 754 leaves the
flag to the implementation: a free bit answers it (notes/assumptions/23.md). -/
def VC.ffma (c : VC) (sub : Bool) (a b d : Nat) : Nat × Nat :=
  let d' := if sub then (c.val d).neg else c.val d
  let p := Val.mul (c.val a) (c.val b)
  let nv := nvMul (c.val a) (c.val b)
  let nv := if d'.isNan && !c.fr then 0 else nv
  c.enc (Val.add c.rm p d') (c.sn [a, b, d] ||| nv ||| nvAdd p d')
/-- An FMA lane whose NV flag is open. -/
def VC.fmaOpen (c : VC) (a b d : Nat) : Bool :=
  c.strict && nvMul (c.val a) (c.val b) ≠ 0 && (c.val d).isNan
def VC.fdiv (c : VC) (a b : Nat) : Nat × Nat :=
  let x := c.val a; let y := c.val b
  let nv := match x, y with
    | .inf _, .inf _ => fNV
    | .fin _ m _, .fin _ n _ => if n = 0 then (if m = 0 then fNV else fDZ) else 0
    | _, _ => 0
  c.enc (Val.div x y) (c.sn [a, b] ||| nv)
def VC.fsqrt (c : VC) (a : Nat) : Nat × Nat :=
  let x := c.val a
  let nv := if x.isNan || x.isZero || !x.sign then 0 else fNV
  c.enc (Val.sqrt x) (c.sn [a] ||| nv)
def VC.fmax (c : VC) (a b : Nat) : Nat × Nat := c.enc (Val.max (c.val a) (c.val b)) (c.sn [a, b])
def VC.fmin (c : VC) (a b : Nat) : Nat × Nat := c.enc (Val.min (c.val a) (c.val b)) (c.sn [a, b])

def intOrFloat (t : Nat) : Bool := tyInt t || tyFloat t
def anyType (t : Nat) : Bool := t < 12

/-- A two-operand slot: an integer function, wrapping (R180), or a float function. -/
def vBin (f : VF) (x : Thread) (th : Nat × Nat) (gi : VC → Int → Int → Int) (gf : VC → Nat → Nat → Nat × Nat) : SlotOut :=
  let c := mkVC f x
  vMap c th (c.check 1 (intOrFloat c.ty)) c.srcAB (fun i =>
    if tyInt c.ty then (wrap c.w (gi c (c.int (c.a i)) (c.int (c.b i))), 0) else gf c (c.a i) (c.b i))

def slotVNop (f : VF) (x : Thread) : SlotOut :=
  let c := mkVC f x
  match c.check 0 (anyType c.ty) with
  | some k => .raises 1 k
  | none => { kind := 1 }
def slotVAdd (f : VF) (x : Thread) (th : Nat × Nat) : SlotOut := vBin f x th (fun _ a b => a + b) VC.fadd
def slotVSub (f : VF) (x : Thread) (th : Nat × Nat) : SlotOut := vBin f x th (fun _ a b => a - b) VC.fsub
def slotVMul (f : VF) (x : Thread) (th : Nat × Nat) : SlotOut := vBin f x th (fun _ a b => a * b) VC.fmul

/-- V.FMA and V.FMS (R217). -/
def vFused (f : VF) (s : State) (x : Thread) (th : Nat × Nat) (sub : Bool) : SlotOut :=
  let c := mkVC f x ((s.free 0).getLsbD 0)
  let o := vMap c th (c.check 1 (intOrFloat c.ty)) c.srcABC (fun i =>
    if tyInt c.ty then
      (wrap c.w (c.int (c.a i) * c.int (c.b i) + (if sub then -(c.int (c.c i)) else c.int (c.c i))), 0)
    else c.ffma sub (c.a i) (c.b i) (c.c i))
  if tyFloat c.ty && (List.range c.L).any (fun i => c.en i && c.fmaOpen (c.a i) (c.b i) (c.c i)) then
    { o with act := fun s => (o.act s).bump }
  else o
def slotVFma (f : VF) (s : State) (x : Thread) (th : Nat × Nat) : SlotOut := vFused f s x th false
def slotVFms (f : VF) (s : State) (x : Thread) (th : Nat × Nat) : SlotOut := vFused f s x th true

def slotVDiv (f : VF) (x : Thread) (th : Nat × Nat) : SlotOut :=
  let c := mkVC f x
  vMap c th (c.check 1 (tyFloat c.ty)) c.srcAB (fun i => c.fdiv (c.a i) (c.b i))
def slotVSqrt (f : VF) (x : Thread) (th : Nat × Nat) : SlotOut :=
  let c := mkVC f x
  vMap c th (c.check 0 (tyFloat c.ty)) c.srcA (fun i => c.fsqrt (c.a i))
def slotVMax (f : VF) (x : Thread) (th : Nat × Nat) : SlotOut :=
  vBin f x th (fun _ a b => if a < b then b else a) VC.fmax
def slotVMin (f : VF) (x : Thread) (th : Nat × Nat) : SlotOut :=
  vBin f x th (fun _ a b => if a < b then a else b) VC.fmin

/-- A one-operand slot. R225 does not list these: W32 and H16 follow fast mode whatever STRICT holds, and W64, always strict (R93),
raises NV for a signalling NaN (R95; notes/assumptions/22.md). -/
def vUn (f : VF) (x : Thread) (th : Nat × Nat) (gi : Int → Int) (gf : Val → Val) : SlotOut :=
  let c := mkVC f x
  vMap c th (c.check 0 (intOrFloat c.ty)) c.srcA (fun i =>
    if tyInt c.ty then (wrap c.w (gi (c.int (c.a i))), 0)
    else if c.ty = 10 then c.enc (gf (c.val (c.a i))) (c.sn [c.a i])
    else (encFast c.fmt (gf (wideVal c.fmt true (c.a i))), 0))
/-- The integer minimum stays (R217): its absolute value wraps to itself. -/
def slotVAbs (f : VF) (x : Thread) (th : Nat × Nat) : SlotOut := vUn f x th (fun a => (a.natAbs : Int)) Val.abs
def slotVNeg (f : VF) (x : Thread) (th : Nat × Nat) : SlotOut := vUn f x th (fun a => -a) Val.neg

/-- Saturation to the type's limits. -/
def VC.clamp (c : VC) (v : Int) : Nat :=
  let lo : Int := if tySigned c.ty then -(2 ^ (c.w - 1) : Nat) else 0
  let hi : Int := if tySigned c.ty then (2 ^ (c.w - 1) : Nat) - 1 else (2 ^ c.w : Nat) - 1
  wrap c.w (if v < lo then lo else if hi < v then hi else v)

/-- An integer-only two-operand slot. -/
def vInt (f : VF) (x : Thread) (th : Nat × Nat) (g : VC → Nat → Nat → Nat) : SlotOut :=
  let c := mkVC f x
  vMap c th (c.check 1 (tyInt c.ty)) c.srcAB (fun i => (g c (c.a i) (c.b i), 0))
def slotVAdds (f : VF) (x : Thread) (th : Nat × Nat) : SlotOut := vInt f x th (fun c a b => c.clamp (c.int a + c.int b))
def slotVSubs (f : VF) (x : Thread) (th : Nat × Nat) : SlotOut := vInt f x th (fun c a b => c.clamp (c.int a - c.int b))
def slotVMulh (f : VF) (x : Thread) (th : Nat × Nat) : SlotOut :=
  vInt f x th (fun c a b => wrap c.w (c.int a * c.int b / ((2 ^ c.w : Nat) : Int)))
def slotVShl (f : VF) (x : Thread) (th : Nat × Nat) : SlotOut := vInt f x th (fun c a b => a * 2 ^ (b % c.w) % 2 ^ c.w)
def slotVShr (f : VF) (x : Thread) (th : Nat × Nat) : SlotOut := vInt f x th (fun c a b => a / 2 ^ (b % c.w))
def slotVSar (f : VF) (x : Thread) (th : Nat × Nat) : SlotOut :=
  vInt f x th (fun c a b => wrap c.w (signed c.w a / ((2 ^ (b % c.w) : Nat) : Int)))

/-- A bitwise two-operand slot, any type. -/
def vBits (f : VF) (x : Thread) (th : Nat × Nat) (g : Nat → Nat → Nat) : SlotOut :=
  let c := mkVC f x
  vMap c th (c.check 1 (anyType c.ty)) c.srcAB (fun i => (g (c.a i) (c.b i), 0))
def slotVAnd (f : VF) (x : Thread) (th : Nat × Nat) : SlotOut := vBits f x th (· &&& ·)
def slotVOr (f : VF) (x : Thread) (th : Nat × Nat) : SlotOut := vBits f x th (· ||| ·)
def slotVXor (f : VF) (x : Thread) (th : Nat × Nat) : SlotOut := vBits f x th (· ^^^ ·)
def slotVNot (f : VF) (x : Thread) (th : Nat × Nat) : SlotOut :=
  let c := mkVC f x
  vMap c th (c.check 0 (anyType c.ty)) c.srcA (fun i => (2 ^ c.w - 1 - c.a i, 0))

/-- va × 2^vb (R217). Exponents beyond every format act alike, so vb is cut to ±100,000. -/
def slotVLdexp (f : VF) (x : Thread) (th : Nat × Nat) : SlotOut :=
  let c := mkVC f x
  vMap c th (c.check 1 (tyFloat c.ty)) c.srcAB (fun i =>
    let k := signed c.w (c.b i)
    let k := if k < -100000 then -100000 else if 100000 < k then 100000 else k
    c.enc ((c.val (c.a i)).scale k) (c.sn [c.a i]))

def slotVExp2 (f : VF) (x : Thread) (th : Nat × Nat) : SlotOut :=
  let c := mkVC f x
  vMap c th (c.check 0 (c.ty = 8 || c.ty = 9) true) c.srcA (fun i => (encFast c.fmt (wideVal c.fmt true (c.a i)).exp2, 0))
def slotVLog2 (f : VF) (x : Thread) (th : Nat × Nat) : SlotOut :=
  let c := mkVC f x
  vMap c th (c.check 0 (c.ty = 8 || c.ty = 9) true) c.srcA (fun i => (encFast c.fmt (wideVal c.fmt true (c.a i)).log2, 0))

/-! ### Predicates (R217, R218) -/

/-- A slot that writes a predicate register. -/
def pOut (th : Nat × Nat) (d : Nat) (srcs : List RegRef) (v : Pred) (flags : Nat := 0) : SlotOut :=
  { kind := 1, srcs, dsts := [.p d], writes := [.p d v],
    act := fun s => if flags = 0 then s else
      s.setThr th.1 th.2 { s.thr th.1 th.2 with flags := (s.thr th.1 th.2).flags ||| BitVec.ofNat 5 flags } }

/-- A comparison: NV for a signalling NaN, and for any NaN of an ordered comparison (R92, R95, R105): LT, LE, GT and GE are the
signalling predicates of IEEE 754, EQ and NE the quiet ones (DESIGN CHOICE, notes/assumptions/42.md). -/
def VC.fcmp (c : VC) (op a b : Nat) : Bool × Nat :=
  let x := c.val a; let y := c.val b
  let nv := if c.strict && 2 ≤ op && (x.isNan || y.isNan) then fNV else 0
  (Val.cmp op x y, c.sn [a, b] ||| nv)

/-- Comparison of integers by code. -/
def intCmp (op : Nat) (a b : Int) : Bool :=
  if op = 0 then a = b else if op = 1 then a ≠ b else if op = 2 then a < b else if op = 3 then a ≤ b
  else if op = 4 then b < a else b ≤ a

def slotVCmp (f : VF) (x : Thread) (th : Nat × Nat) : SlotOut :=
  let c := mkVC f x
  let d := c.vd % 8
  let op := c.imm % 8
  -- R218 by its letter: VD, VA and VB must have bits [4:3] zero
  let bad := 8 ≤ c.vd || 8 ≤ c.va || 8 ≤ c.vb || 6 ≤ op
  match (if bad then some cBundle else c.check 7 (intOrFloat c.ty)) with
  | some k => .raises 1 k [.p d]
  | none =>
    let o := x.preg d
    let r := (List.range c.L).map (fun i =>
      if c.en i then
        (if tyInt c.ty then (intCmp op (c.int (c.a i)) (c.int (lane (x.vreg c.vb) c.w i)), 0)
         else c.fcmp op (c.a i) (lane (x.vreg c.vb) c.w i))
      else (o.getLsbD i, 0))
    pOut th d ([.p d, .v c.va, .v c.vb] ++ c.psrc)
      (BitVec.ofNat 512 (packLanes 1 (r.map (fun y => if y.1 then 1 else 0)))) (r.foldl (fun a y => a ||| y.2) 0)

/-- Predicate logic over 512 bits; the type column is empty, so any type but a reserved one will do. -/
def vPred (f : VF) (x : Thread) (th : Nat × Nat) (two : Bool) (g : Pred → Pred → Pred) : SlotOut :=
  let c := mkVC f x
  let d := c.vd % 8
  let bad := 8 ≤ c.vd || 8 ≤ c.va || 8 ≤ c.vb
  match (if bad then some cBundle else c.check 0 (anyType c.ty)) with
  | some k => .raises 1 k [.p d]
  | none => pOut th d ([.p c.va] ++ (if two then [.p c.vb] else [])) (g (x.preg c.va) (x.preg c.vb))
def slotVPand (f : VF) (x : Thread) (th : Nat × Nat) : SlotOut := vPred f x th true (· &&& ·)
def slotVPor (f : VF) (x : Thread) (th : Nat × Nat) : SlotOut := vPred f x th true (· ||| ·)
def slotVPxor (f : VF) (x : Thread) (th : Nat × Nat) : SlotOut := vPred f x th true (· ^^^ ·)
def slotVPnot (f : VF) (x : Thread) (th : Nat × Nat) : SlotOut := vPred f x th false (fun a _ => ~~~a)

/-! ### Moves -/

/-- PEN must be 1, and every lane is written (R217). -/
def slotVSel (f : VF) (x : Thread) (th : Nat × Nat) : SlotOut :=
  let c := mkVC f x
  match (if !f.pen then some cBundle else c.check 0 (anyType c.ty)) with
  | some k => .raises 1 k [.v c.vd]
  | none => vOut c th ([.v c.va, .v c.vb] ++ c.psrc) (vecOf c.w c.L (fun i => if c.en i then c.a i else lane (x.vreg c.vb) c.w i))
def slotVBcast (f : VF) (x : Thread) (th : Nat × Nat) : SlotOut :=
  let c := mkVC f x
  vMap c th (c.check 0 (anyType c.ty)) [.s c.ss] (fun _ => ((x.sreg c.ss).toNat % 2 ^ c.w, 0))
def slotVIdx (f : VF) (x : Thread) (th : Nat × Nat) : SlotOut :=
  let c := mkVC f x
  vMap c th (c.check 0 (tyInt c.ty)) [] (fun i => (i % 2 ^ c.w, 0))
/-- A lane number beyond the type's lanes names no element: its value is free (notes/assumptions/24.md). -/
def slotVGetl (f : VF) (s : State) (x : Thread) : SlotOut :=
  let c := mkVC f x
  match c.check 0x1FF (anyType c.ty) with
  | some k => .raises 1 k [.s c.ss]
  | none =>
    let i := c.imm % 512
    if i < c.L then { kind := 1, srcs := [.v c.va], dsts := [.s c.ss], writes := [.s c.ss (BitVec.ofNat 64 (c.a i))] }
    else { kind := 1, srcs := [.v c.va], dsts := [.s c.ss], writes := [.s c.ss (s.free 1)], act := fun s => s.bump }
def slotVSetl (f : VF) (x : Thread) (th : Nat × Nat) : SlotOut :=
  let c := mkVC f x
  vMap c th (c.check 0x1FF (anyType c.ty)) [.s c.ss] (fun i =>
    (if i = c.imm % 512 then (x.sreg c.ss).toNat % 2 ^ c.w else c.old i, 0))
def slotVPerm (f : VF) (x : Thread) (th : Nat × Nat) : SlotOut :=
  let c := mkVC f x
  vMap c th (c.check 0 (anyType c.ty)) [.v c.va, .v c.vb] (fun i => (c.a (lane (x.vreg c.vb) c.w i % c.L), 0))
def slotVMov (f : VF) (x : Thread) (th : Nat × Nat) : SlotOut :=
  let c := mkVC f x
  vMap c th (c.check 0 (anyType c.ty)) c.srcA (fun i => (c.a i, 0))

/-! ### Lane reductions (R221) -/

/-- One level of the tree: the first half of the list combined with the second, lane i with lane i + s. -/
def treeLevel {α : Type} (op : α → α → α × Nat) (l : List α) : List α × Nat :=
  let h := l.length / 2
  let r := List.zipWith op (l.take h) (l.drop h)
  (r.map (·.1), r.foldl (fun a x => a ||| x.2) 0)
/-- The fixed tree over 2^k elements: the result and the flags. -/
def tree {α : Type} (op : α → α → α × Nat) (d : α) : Nat → List α → α × Nat
  | 0, l => (l.headD d, 0)
  | k + 1, l =>
    let r := treeLevel op l
    let q := tree op d k r.1
    (q.1, r.2 ||| q.2)

/-- A reduction slot: lane 0 of vd is the result and the other lanes are zero. -/
def vReduce (f : VF) (x : Thread) (th : Nat × Nat) (pre : VC → Nat → Nat × Nat) (off : VC → Nat)
    (op : VC → Nat → Nat → Nat × Nat) : SlotOut :=
  let c := mkVC f x
  match c.check 0 (intOrFloat c.ty) with
  | some k => .raises 1 k [.v c.vd]
  | none =>
    let l := (List.range c.L).map (fun i => if c.en i then pre c (c.a i) else (off c, 0))
    let fl := l.foldl (fun a y => a ||| y.2) 0
    let r := tree (op c) 0 (Nat.log2 c.L) (l.map (·.1))
    vOut c th (c.srcA ++ c.psrc) (BitVec.ofNat 4096 (r.1 % 2 ^ c.w)) (fl ||| r.2)

def VC.sumOp (c : VC) (a b : Nat) : Nat × Nat := if tyInt c.ty then (wrap c.w (a + b), 0) else c.fadd a b
def VC.maxOp (c : VC) (a b : Nat) : Nat × Nat := if tyInt c.ty then (if c.int a < c.int b then b else a, 0) else c.fmax a b
def VC.minOp (c : VC) (a b : Nat) : Nat × Nat := if tyInt c.ty then (if c.int a < c.int b then a else b, 0) else c.fmin a b
def slotVRsum (f : VF) (x : Thread) (th : Nat × Nat) : SlotOut := vReduce f x th (fun _ a => (a, 0)) (fun _ => 0) VC.sumOp
def slotVRssq (f : VF) (x : Thread) (th : Nat × Nat) : SlotOut :=
  vReduce f x th (fun c a => if tyInt c.ty then (wrap c.w (c.int a * c.int a), 0) else c.fmul a a) (fun _ => 0) VC.sumOp
def slotVRmax (f : VF) (x : Thread) (th : Nat × Nat) : SlotOut :=
  vReduce f x th (fun _ a => (a, 0))
    (fun c => if tyInt c.ty then (if tySigned c.ty then 2 ^ (c.w - 1) else 0) else wideInf c.fmt true) VC.maxOp
def slotVRmin (f : VF) (x : Thread) (th : Nat × Nat) : SlotOut :=
  vReduce f x th (fun _ a => (a, 0))
    (fun c => if tyInt c.ty then (if tySigned c.ty then 2 ^ (c.w - 1) - 1 else 2 ^ c.w - 1) else wideInf c.fmt false) VC.minOp

/-! ### Moments (R222, R223) -/

/-- An element as the arithmetic takes it: its subnormal flushed in fast mode (R89), a NaN canonical (R67), NV for a signalling NaN
in strict mode (R95). -/
def VC.norm (c : VC) (a : Nat) : Nat × Nat := c.enc (c.val a) (c.sn [a])

/-- The triple of one element, a W32 code (R223): a NaN makes mean and M2 NaN in every triple that contains it (R104). -/
def momOne (e : Nat) : Nat × Nat × Nat := (1, e, if 0x7F800000 < e % 2 ^ 31 then e else 0)

/-- combine of R223 on W32 codes (n, mean, m2), each step rounded once in the mode of the instruction. -/
def momCombine (c : VC) (a b : Nat × Nat × Nat) : (Nat × Nat × Nat) × Nat :=
  if b.1 = 0 then (a, 0)
  else if a.1 = 0 then (b, 0)
  else
    let n := min 0xFFFFFFFF (a.1 + b.1)
    let d := c.fsub b.2.1 a.2.1
    let cb := c.enc (Val.ofInt b.1) 0
    let cn := c.enc (Val.ofInt n) 0
    let w := c.fdiv cb.1 cn.1
    let m := c.ffma false d.1 w.1 a.2.1
    let ca := c.enc (Val.ofInt a.1) 0
    let cc := c.fmul ca.1 w.1
    let t := c.fmul d.1 d.1
    let q := c.fadd a.2.2 b.2.2
    let q2 := c.ffma false t.1 cc.1 q.1
    ((n, m.1, q2.1), d.2 ||| cb.2 ||| cn.2 ||| w.2 ||| m.2 ||| ca.2 ||| cc.2 ||| t.2 ||| q.2 ||| q2.2)

/-- Lane i of a triple. -/
def triple (x : Thread) (r i : Nat) : Nat × Nat × Nat :=
  (lane (x.vreg r) 32 i, lane (x.vreg (r + 1)) 32 i, lane (x.vreg (r + 2)) 32 i)

/-- Writes of a triple from its 128 lanes. -/
def tripleWrites (r : Nat) (l : List (Nat × Nat × Nat)) : List RegWrite :=
  [.v r (BitVec.ofNat 4096 (packLanes 32 (l.map (·.1)))), .v (r + 1) (BitVec.ofNat 4096 (packLanes 32 (l.map (·.2.1)))),
   .v (r + 2) (BitVec.ofNat 4096 (packLanes 32 (l.map (·.2.2))))]
def tripleRefs (r : Nat) : List RegRef := [.v r, .v (r + 1), .v (r + 2)]

/-- The checks and the result of a V.MOM slot: a triple above 29, or overlapping triples, is invalid (R222). -/
def vMom (f : VF) (s : State) (x : Thread) (th : Nat × Nat) (two : Bool) (g : VC → List ((Nat × Nat × Nat) × Nat)) : SlotOut :=
  let c := mkVC f x ((s.free 0).getLsbD 0)
  let bad := 29 < c.vd || 29 < c.va || (two && c.vd < c.va + 3 && c.va < c.vd + 3)
  match (if bad then some cBundle else c.check 0 (c.ty = 9)) with
  | some k => .raises 1 k (tripleRefs c.vd)
  | none =>
    let r := g c
    let fl := r.foldl (fun a y => a ||| y.2) 0
    { kind := 1, srcs := tripleRefs c.vd ++ (if two then tripleRefs c.va else [.v c.va]) ++ c.psrc, dsts := tripleRefs c.vd,
      writes := tripleWrites c.vd (r.map (·.1)), act := fun s => let s := (vOut c th [] 0 fl).act s; if c.strict then s.bump else s }
def slotVMomAdd (f : VF) (s : State) (x : Thread) (th : Nat × Nat) : SlotOut :=
  vMom f s x th false (fun c => (List.range 128).map (fun i =>
    if c.en i then
      let e := c.norm (c.a i)
      let r := momCombine c (triple x c.vd i) (momOne e.1)
      (r.1, r.2 ||| e.2)
    else (triple x c.vd i, 0)))
def slotVMomCmb (f : VF) (s : State) (x : Thread) (th : Nat × Nat) : SlotOut :=
  vMom f s x th true (fun c => (List.range 128).map (fun i =>
    if c.en i then momCombine c (triple x c.vd i) (triple x c.va i) else (triple x c.vd i, 0)))
def slotVMomRed (f : VF) (s : State) (x : Thread) (th : Nat × Nat) : SlotOut :=
  vMom f s x th true (fun c =>
    let r := tree (momCombine c) (0, 0, 0) 7 ((List.range 128).map (fun i => if c.en i then triple x c.va i else (0, 0, 0)))
    r :: (List.range 127).map (fun _ => ((0, 0, 0), 0)))

/-! ### Conversions (R219, R224) -/

/-- One element from type t to the slot's type (R80 to R84, R219): between W32 and W64 in strict mode (R225), to W64 always so (R83),
everything else in fast mode, W32 to W32 among it. -/
def cvtElem (c : VC) (t v : Nat) : Nat × Nat :=
  let st := (t = 9 && c.ty = 10 || t = 10 && (c.ty = 9 || c.ty = 10)) && c.f.strict
  let x : Val :=
    if tyInt t then Val.ofInt (if tySigned t then signed (tyW t) v else (v : Int))
    else wideVal (tyFmt t) (!(t = 10 || (t = 9 && st))) v
  if tyInt c.ty then (toIntSat c.w (tySigned c.ty) x, 0)
  else
    let sn := if st && isSnan (tyFmt t) v then fNV else 0
    let strict := st || c.ty = 10
    let r := encWide c.fmt strict (if strict then c.x.rm.toNat else 0) x
    (r.1, if strict then r.2 ||| sn else 0)

def slotVCvt (f : VF) (x : Thread) (th : Nat × Nat) : SlotOut :=
  let c := mkVC f x
  let t := c.imm % 16
  let up := c.imm / 16 % 2 = 1
  let chk := match c.check 0x1F (intOrFloat c.ty) with
    | some k => some k
    | none => if !intOrFloat t || (t = 10 && !f.strict) then some cFormat else none
  match chk with
  | some k => .raises 1 k [.v c.vd]
  | none =>
    let ws := tyW t
    let Ls := tyLanes t
    -- where result lane i comes from
    let src (i : Nat) : Option Nat :=
      if ws = c.w then some i
      else if ws < c.w then some (i + (if up then Ls / 2 else 0))
      else
        let o := if up then c.L / 2 else 0
        if o ≤ i ∧ i < o + Ls then some (i - o) else none
    let r := vLanes c (fun i => match src i with
      | some k => cvtElem c t (lane (x.vreg c.va) ws k)
      | none => (c.old i, 0))
    vOut c th (.v c.vd :: c.srcA ++ c.psrc) r.1 r.2

/-- IMM fields of the Q conversions (R224). -/
def VC.qfmt (c : VC) : Nat := c.imm % 16
def VC.qb (c : VC) : Nat := 2 ^ (3 + c.imm / 16 % 4)
def VC.qzp (c : VC) : Int := signed 8 (c.imm / 256 % 256)
def VC.qpos (c : VC) : Nat := c.imm / 2 ^ 16 % 4

/-- Their checks (R224): FORMAT for the type or a QFMT that is no Q format, SCALE for a zero point or part out of range. -/
def VC.qcheck (c : VC) : Option Nat :=
  match c.check 0x0003FF3F (c.ty = 8 || c.ty = 9) with
  | some k => some k
  | none =>
    if !isQ c.qfmt then some cFormat
    else if (isQint c.qfmt && (qMax c.qfmt : Int) < c.qzp.natAbs) || (!isQint c.qfmt && c.qzp ≠ 0)
      || (c.ty = 8 && 2 ≤ c.qpos) then some cScale
    else none

def slotVQscl (f : VF) (x : Thread) (th : Nat × Nat) : SlotOut :=
  let c := mkVC f x
  match c.qcheck with
  | some k => .raises 1 k [.v c.vd]
  | none =>
    let b := c.qb
    vOut c th (c.srcA ++ c.psrc) (vecOf 8 (c.L / b) (fun j =>
      selectScale c.qfmt (((span (j * b) b).filter c.en).map (fun i => wideVal c.fmt true (c.a i)))))

def slotVCvtq (f : VF) (x : Thread) (th : Nat × Nat) : SlotOut :=
  let c := mkVC f x
  match c.qcheck with
  | some k => .raises 1 k [.v c.vd]
  | none =>
    let r := (List.range c.L).map (fun i =>
      if c.en i then some (encQ c.qfmt (lane (x.vreg c.vb) 8 (i / c.qb)) c.qzp (wideVal c.fmt true (c.a i))) else none)
    let lo := c.qpos * c.L
    let sat := (r.filter (fun q => q.any (·.sat))).length
    let lost := (r.filter (fun q => q.any (·.lost))).length
    { kind := 1, srcs := [.v c.vd, .v c.va, .v c.vb] ++ c.psrc, dsts := [.v c.vd],
      writes := [.v c.vd (vecOf 8 512 (fun k =>
        if lo ≤ k ∧ k < lo + c.L then
          match r.getD (k - lo) none with
          | some q => q.code
          | none => lane (x.vreg c.vd) 8 k
        else lane (x.vreg c.vd) 8 k))],
      act := fun s => s.setThr th.1 th.2 { s.thr th.1 th.2 with
        qsat := holdAdd (2 ^ 32 - 1) (s.thr th.1 th.2).qsat sat, qlost := holdAdd (2 ^ 32 - 1) (s.thr th.1 th.2).qlost lost } }

def slotVCvtf (f : VF) (x : Thread) (th : Nat × Nat) : SlotOut :=
  let c := mkVC f x
  vMap c th c.qcheck [.v c.va, .v c.vb] (fun i =>
    (encFast c.fmt (qVal c.qfmt (lane (x.vreg c.vb) 8 (i / c.qb)) c.qzp (lane (x.vreg c.va) 8 (c.qpos * c.L + i))), 0))

/-- Packing slots work on Q8 codes (R217, R224). -/
def vPack (f : VF) (x : Thread) (th : Nat × Nat) (mask : Nat) (g : VC → Vec) : SlotOut :=
  let c := mkVC f x
  match c.check mask (c.ty = 11) with
  | some k => .raises 1 k [.v c.vd]
  | none => vOut c th (.v c.vd :: c.srcA ++ c.psrc) (g c)
def slotVPack4 (f : VF) (x : Thread) (th : Nat × Nat) : SlotOut :=
  vPack f x th 0x10 (fun c =>
    let h := c.imm / 16 % 2
    vecOf 4 1024 (fun k =>
      if k / 512 = h && c.en (k % 512) then c.a (k % 512) % 16 else lane (x.vreg c.vd) 4 k))
def slotVUnpk4 (f : VF) (x : Thread) (th : Nat × Nat) : SlotOut :=
  vPack f x th 0x10 (fun c =>
    vecOf 8 512 (fun i => if c.en i then lane (x.vreg c.va) 4 (512 * (c.imm / 16 % 2) + i) else c.old i))
def slotVPack6 (f : VF) (x : Thread) (th : Nat × Nat) : SlotOut :=
  vPack f x th 0 (fun c => vecOf 6 512 (fun i => if c.en i then c.a i % 64 else lane (x.vreg c.vd) 6 i))
def slotVUnpk6 (f : VF) (x : Thread) (th : Nat × Nat) : SlotOut :=
  vPack f x th 0 (fun c => vecOf 8 512 (fun i => if c.en i then lane (x.vreg c.va) 6 i else c.old i))

end Sys2Proof.Machine
end

