-- ==== Sys2Proof/Machine/Tensor.lean ====
section
/-! DEFINITION. Tensors of commands (R254, R255), the segment table and m-groups of a MATMUL (R262 to R268), and the checks of R297 in
their order. Readings: notes/assumptions/29.md. -/

namespace Sys2Proof.Machine

/-! ### Tensor descriptors (R255) -/

/-- A tensor descriptor read out. -/
structure Tensor where
  base : Nat := 0
  sbase : Nat := 0
  stride : Nat := 0
  fmt : Nat := 0
  sc : Nat := 0
  z : Int := 0
  padEn : Bool := false
  pad : Nat := 0
  sstride : Nat := 0
  /-- a reserved bit is set -/
  rsv : Bool := false
  deriving DecidableEq, Repr

/-- The descriptor in entry i of a parameter block. -/
def tensorAt (b : List Byte) (i : Nat) : Tensor :=
  let o := 32 * i
  { base := leAt b o 8, sbase := leAt b (o + 8) 8, stride := leAt b (o + 16) 4, fmt := leAt b (o + 20) 1 % 16, sc := leAt b (o + 21) 1
    z := signed 8 (leAt b (o + 22) 1), padEn := leAt b (o + 23) 1 % 2 = 1, pad := leAt b (o + 24) 4, sstride := leAt b (o + 28) 4
    rsv := leAt b (o + 20) 1 / 16 ≠ 0 || leAt b (o + 23) 1 / 2 ≠ 0 }

/-- Row distance of a tensor whose rows hold n elements: dense when STRIDE is 0. -/
def Tensor.pitch (t : Tensor) (n : Nat) : Nat := if t.stride = 0 then rowBytes t.fmt n else t.stride
/-- Bytes that hold `rows` rows of n elements. -/
def Tensor.size (t : Tensor) (rows n : Nat) : Nat := if rows = 0 || n = 0 then 0 else (rows - 1) * t.pitch n + rowBytes t.fmt n
/-- A scale tensor exists. -/
def Tensor.scaled (t : Tensor) : Bool := isQ t.fmt && (scMode t.sc = 1 || scMode t.sc = 2)
/-- Row distance of the scale tensor: S is the size along the sharing direction. -/
def Tensor.scRow (t : Tensor) (S : Nat) : Nat := if t.sstride = 0 then scPitch S (scB t.sc) else t.sstride
/-- Bytes of the scale tensor of rows × cols elements: DIR 0 shares along the columns, DIR 1 along the rows. -/
def Tensor.scSize (t : Tensor) (rows cols : Nat) : Nat :=
  let S := if scDir t.sc = 0 then cols else rows
  let O := if scDir t.sc = 0 then rows else cols
  if !t.scaled || O = 0 || S = 0 then 0 else (O - 1) * t.scRow S + cdiv S (scB t.sc)
/-- The pad code: PAD, or the code of real zero. -/
def Tensor.padCode (t : Tensor) : Nat := if t.padEn then t.pad % 2 ^ fmtBits t.fmt else zeroCode t.fmt t.z

/-- A byte range of partition p (R254). A range of no bytes lies everywhere. -/
def State.inPart (s : State) (p a n : Nat) : Bool := n = 0 || (s.partRange p a n).isSome
/-- The physical address of a checked range. -/
def State.physOf (s : State) (a : Nat) : Nat :=
  match s.resolve a with
  | .mem pa => pa
  | _ => 0

/-- A tensor of rows × cols elements lies in the partition, scales included. -/
def State.tensorIn (s : State) (p : Nat) (t : Tensor) (rows cols : Nat) : Bool :=
  s.inPart p t.base (t.size rows cols) && s.inPart p t.sbase (t.scSize rows cols)

/-- Value of element (r, c) of a tensor of rows × cols elements, in fast mode (R78). -/
def State.tval (s : State) (t : Tensor) (rows cols r c : Nat) : Val :=
  let code := s.elem t.fmt (s.physOf t.base + r * t.pitch cols) c
  let sb := if t.scaled then
      let o := if scDir t.sc = 0 then r else c
      let k := if scDir t.sc = 0 then c else r
      leNat (s.seen (s.physOf t.sbase + o * t.scRow (if scDir t.sc = 0 then cols else rows) + k / scB t.sc) 1)
    else 0x7F
  fmtVal t.fmt true sb t.z code

/-- Read a tensor row by row for a command's program on a wing: corrections and counts, every poisoned granule logged (R326), and
whether it met one. -/
def State.readTensor (s : State) (r : Req) (t : Tensor) (rows cols : Nat) : State × Bool :=
  let x := s.readRanges uWc r.wing r ((List.range rows).map (fun i => (s.physOf t.base + i * t.pitch cols, rowBytes t.fmt cols))
    ++ (if t.scaled then [(s.physOf t.sbase, t.scSize rows cols)] else []))
  (x.1, x.2.any (fun y => y.2.isSome))

/-! ### Operation blocks -/

def Cmd.p4 (k : Cmd) (o : Nat) : Nat := leAt k.param o 4
def Cmd.p8 (k : Cmd) (o : Nat) : Nat := leAt k.param o 8
def Cmd.pb (k : Cmd) (o : Nat) : Nat := leAt k.param o 1
/-- R259: rows, columns, axis, total format, XROWS. -/
def Cmd.rows (k : Cmd) : Nat := k.p4 0
def Cmd.cols (k : Cmd) : Nat := k.p4 4
def Cmd.axis (k : Cmd) : Nat := k.pb 8 % 2
def Cmd.accf (k : Cmd) : Nat := k.pb 9
def Cmd.adapt (k : Cmd) : Bool := k.pb 10 % 2 = 1
def Cmd.minB (k : Cmd) : Nat := k.pb 10 / 2 % 4
def Cmd.stateAt (k : Cmd) : Nat := k.p8 16
def Cmd.xrows (k : Cmd) : Nat := k.p4 24
/-- Outputs of a reduction (R670). -/
def Cmd.outs (k : Cmd) : Nat := if k.axis = 0 then k.rows else k.cols
/-- Tensor j after entry 0. -/
def Cmd.ten (k : Cmd) (j : Nat) : Tensor := tensorAt k.param (j + 1)

/-- Opcodes of the elementwise operation block, and their groups. -/
def isReduce (op : Nat) : Bool := 8 ≤ op && op ≤ 0xC
def isElementwise (op : Nat) : Bool := [2, 3, 4, 5, 8, 9, 0xA, 0xB, 0xC, 0x10, 0x11, 0x12].contains op
/-- COPY, FILL and GATHER move codes without arithmetic (R107). -/
def movesCodes (op : Nat) : Bool := op = 4 || op = 5 || op = 0x11

/-- Parameter entries an opcode needs (R257, R468; a low-rank reduction's two more tensors are judged with its parameters). -/
def needEntries (op : Nat) : Nat :=
  if op = 0 || op = 0x18 then 1 else if op = 5 then 2 else if op = 1 || op = 0x10 || op = 0x11 || op = 0x12 || op = 0x20 then 4 else 3

/-- QUANTIZE with adaptive block size: BSIZE replaced (R291, R293). -/
def Tensor.withB (t : Tensor) (b : Nat) : Tensor := { t with sc := t.sc / 4 * 4 + b % 4 }

/-- The tensors of an elementwise command with their shapes; `true` marks a destination. Index tensors are not among them. COPY's
destination holds rows of the source's bytes. -/
def Cmd.shapes (k : Cmd) : List (Tensor × Nat × Nat × Bool) :=
  let op := k.opcode
  if op = 5 then [(k.ten 0, k.rows, k.cols, true)]
  else if op = 2 then
    [(k.ten 0, k.rows, k.cols, false), (if k.adapt then (k.ten 1).withB k.minB else k.ten 1, k.rows, k.cols, true)]
  else if op = 3 || op = 4 || op = 0x10 then [(k.ten 0, k.rows, k.cols, false), (k.ten 1, k.rows, k.cols, true)]
  else if isReduce op then
    [(k.ten 0, k.rows, k.cols, false), ({ k.ten 1 with stride := 0 }, 1, if op = 0xC then 3 * k.outs else k.outs, true)]
  else if op = 0x11 then [(k.ten 0, k.rows, k.cols, false), (k.ten 2, k.xrows, k.cols, true)]
  else if op = 0x12 then [(k.ten 0, k.rows, k.cols, false), (k.ten 2, k.xrows, k.cols, true)]
  else []

/-- The index tensor and its entries: GATHER, SCATTER_ADD, and SORT's index output. -/
def Cmd.index (k : Cmd) : Option (Tensor × Nat × Nat) :=
  if k.opcode = 0x11 then some (k.ten 1, 1, k.xrows) else if k.opcode = 0x12 then some (k.ten 1, 1, k.rows)
  else if k.opcode = 0x10 then some (k.ten 2, k.rows, k.cols) else none

/-! ### MATMUL (R262 to R268) -/

def Cmd.mM (k : Cmd) : Nat := k.p4 0
def Cmd.mN (k : Cmd) : Nat := k.p4 4
def Cmd.mK (k : Cmd) : Nat := k.p4 8
def Cmd.mSeg (k : Cmd) : Nat := k.pb 12
def Cmd.mPromo (k : Cmd) : Nat := promoOf (k.pb 13)
def Cmd.mStep (k : Cmd) : Nat := stepOf (k.pb 14 % 32)
def Cmd.mParts (k : Cmd) : Nat := max 1 (k.pb 15)
def Cmd.mTree (k : Cmd) : Nat := k.pb 16 % 4
def Cmd.mAcc (k : Cmd) : Bool := k.pb 17 % 2 = 1
def Cmd.mRowMajor (k : Cmd) : Bool := k.pb 17 / 2 % 2 = 1
def Cmd.mNseg (k : Cmd) : Nat := leAt k.param 18 2
def Cmd.mWmat (k : Cmd) : Nat := 64 * k.p4 20
def Cmd.mSegtab (k : Cmd) : Nat := k.p8 24

/-- A segment with its defaults applied (R265). -/
structure MSeg where
  rows : Nat
  ncols : Nat
  klen : Nat
  widx : Nat
  xrow : Nat
  drow : Nat
  pack : Bool
  skip : Bool
  rsv : Bool
  deriving DecidableEq, Repr

def mSegAt (k : Cmd) (b : List Byte) (i : Nat) : MSeg :=
  let o := 32 * i
  let nc := leAt b (o + 4) 4
  let kl := leAt b (o + 8) 4
  let f := leAt b (o + 24) 4
  { rows := leAt b o 4, ncols := if nc = 0 then k.mN else nc, klen := if kl = 0 then k.mK else kl, widx := leAt b (o + 12) 4
    xrow := leAt b (o + 16) 4, drow := leAt b (o + 20) 4, pack := f % 2 = 1, skip := f / 2 % 2 = 1
    rsv := f / 4 ≠ 0 || leAt b (o + 28) 4 ≠ 0 }

/-- The segments of a command; without a table, one segment of the whole shape. -/
def Cmd.segments (k : Cmd) : List MSeg :=
  if k.mNseg = 0 then [⟨k.mM, k.mN, k.mK, 0, 0, 0, false, false, false⟩] else (List.range k.mNseg).map (mSegAt k k.segs)

/-- The conditions under which a PACK segment joins the group of the segment before it (R266). -/
def packFits (a b : MSeg) : Bool :=
  a.widx = b.widx && a.ncols = b.ncols && a.klen = b.klen && b.xrow = a.xrow + a.rows && b.drow = a.drow + a.rows

/-- An m-group: first segment and first logical row, rows, and the shared bounds; `off` lists the rows of SKIP segments, as (first,
count) from the group's first row. -/
structure MGroup where
  seg : Nat
  m0 : Nat
  rows : Nat
  ncols : Nat
  klen : Nat
  widx : Nat
  xrow : Nat
  drow : Nat
  off : List (Nat × Nat)
  deriving DecidableEq, Repr

/-- The m-groups of a segment list (R266). -/
def mGroups (l : List MSeg) : List MGroup :=
  (l.zipIdx.foldl (fun (acc : List MGroup × Nat) x =>
    let g := x.1
    let skip (at_ : Nat) : List (Nat × Nat) := if g.skip then [(at_, g.rows)] else []
    let new : MGroup := ⟨x.2, acc.2, g.rows, g.ncols, g.klen, g.widx, g.xrow, g.drow, skip 0⟩
    match acc.1.getLast? with
    | some h =>
      if g.pack then (acc.1.dropLast ++ [{ h with rows := h.rows + g.rows, off := h.off ++ skip h.rows }], acc.2 + g.rows)
      else (acc.1 ++ [new], acc.2 + g.rows)
    | none => ([new], g.rows)) ([], 0)).1

/-- Row i of a group is computed (R267). -/
def MGroup.on (g : MGroup) (i : Nat) : Bool := !g.off.any (fun r => r.1 ≤ i && i < r.1 + r.2)

/-- Storage rows of X and of D: the size that a scale tensor shared along m covers. -/
def xRows (k : Cmd) (l : List MSeg) : Nat := l.foldl (fun a g => max a (g.xrow + g.rows)) k.mM
def dRows (k : Cmd) (l : List MSeg) : Nat := l.foldl (fun a g => max a (g.drow + g.rows)) k.mM

/-- Size of one matrix's scale tensor of W (R265). -/
def wScaleSize (k : Cmd) : Nat :=
  let w := k.ten 1
  if scDir w.sc = 0 then k.mN * w.scRow k.mK else k.mK * w.scRow k.mN

/-- Bytes between rows (or columns) of D. -/
def dPitch (k : Cmd) (dr : Nat) : Nat := (k.ten 2).pitch (if k.mRowMajor then k.mN else dr)

/-- Every byte a MATMUL uses lies in the partition (R254). -/
def State.matmulIn (s : State) (k : Cmd) (l : List MSeg) : Bool :=
  let p := k.part
  let x := k.ten 0
  let w := k.ten 1
  let d := k.ten 2
  let xr := xRows k l
  let dr := dRows k l
  l.all (fun g =>
    s.inPart p (x.base + g.xrow * x.pitch k.mK) (if g.rows = 0 then 0 else (g.rows - 1) * x.pitch k.mK + rowBytes x.fmt g.klen)
    && s.inPart p (w.base + g.widx * k.mWmat) (if g.ncols = 0 then 0 else (g.ncols - 1) * w.pitch k.mK + rowBytes w.fmt g.klen)
    && (!w.scaled || s.inPart p (w.sbase + g.widx * wScaleSize k) (wScaleSize k))
    && (if k.mRowMajor then
          s.inPart p (d.base + g.drow * dPitch k dr) (if g.rows = 0 then 0 else (g.rows - 1) * dPitch k dr + rowBytes d.fmt g.ncols)
        else s.inPart p d.base (if g.ncols = 0 then 0 else (g.ncols - 1) * dPitch k dr + rowBytes d.fmt (g.drow + g.rows))))
  && s.inPart p x.sbase (x.scSize xr k.mK) && s.inPart p d.sbase (d.scSize dr k.mN)

/-! ### The checks of R297 -/

/-- Order 1, on the descriptor alone. An address that its flag leaves unused is not checked. -/
def descBad (k : Cmd) : Bool :=
  let d := k.desc
  let fl := leAt d 1 1
  !(isElementwise k.opcode || [0, 1, 0x18, 0x20].contains k.opcode) || fl / 32 = 5 || fl / 32 = 6
  || leAt d 12 2 / 2 ^ 13 ≠ 0 || leAt d 14 2 ≠ 0 || leAt d 58 6 ≠ 0 || (k.waitEn && 48 ≤ k.waitLatch)
  || leAt d 56 2 = 0 || 1024 < leAt d 56 2 || leAt d 24 8 % 32 ≠ 0 || (k.resultEn && k.result % 64 ≠ 0) || k.scratch % 64 ≠ 0
  || (k.signalEn && k.signal % 16 ≠ 0) || leAt d 56 2 < needEntries k.opcode

/-- Order 2 (R277). -/
def acvBad (k : Cmd) : Bool :=
  let v := leAt k.desc 2 2
  v ≠ 0 && v ≠ Config.acv.toNat && (!k.flag 4 || Config.acv.toNat < v)

/-- Where the parameter block lies. -/
def Cmd.paramAt (k : Cmd) : Nat := leAt k.desc 24 8
def Cmd.paramLen (k : Cmd) : Nat := 32 * leAt k.desc 56 2

/-- A tensor that COPY may send to another module (R257). -/
def Cmd.remoteD (k : Cmd) : Bool := k.opcode = 4 && isRemote (k.ten 1).base

/-- Order 3 for the tensors and the scratch memory, once parameters and segment table are read. -/
def State.tensorsOut (s : State) (k : Cmd) : Bool :=
  let p := k.part
  if k.opcode = 1 then
    !s.matmulIn k k.segments || (2 ≤ k.mParts && k.scratch ≠ 0 && !s.inPart p k.scratch (k.mParts * k.mM * k.mN * 6))
  else if k.opcode = 0x18 then !s.inPart p k.kProg (32 * k.kLen) || !s.inPart p k.kArgs 64
  else if isElementwise k.opcode then
    k.shapes.any (fun x =>
      if k.remoteD && x.2.2.2 then remoteBad x.1.base
      else if k.opcode = 4 && x.2.2.2 then
        let n := rowBytes (k.ten 0).fmt k.cols
        !s.inPart p x.1.base (if k.rows = 0 || k.cols = 0 then 0 else (k.rows - 1) * (if x.1.stride = 0 then n else x.1.stride) + n)
      else !s.tensorIn p x.1 x.2.1 x.2.2.1)
    || (k.index.any (fun x => !s.inPart p x.1.base (4 * x.2.1 * x.2.2)))
    || (k.opcode = 2 && k.adapt && !s.inPart p k.stateAt 16)
  else false

/-- Order 4: reserved bits of the parameter block. A misaligned SEGTAB or STATE counts here. -/
def paramBad (k : Cmd) : Bool :=
  if k.opcode = 1 then
    k.pb 12 / 4 ≠ 0 || k.pb 14 / 32 ≠ 0 || k.pb 16 / 4 ≠ 0 || k.pb 17 / 4 ≠ 0 || (k.ten 0).rsv || (k.ten 1).rsv || (k.ten 2).rsv
    || (k.mNseg ≠ 0 && k.mSegtab % 32 ≠ 0)
  else if k.opcode = 0x18 then leAt k.param 13 3 ≠ 0
  else if isElementwise k.opcode then
    k.pb 8 / 2 ≠ 0 || (k.opcode = 2 && (k.pb 10 / 8 ≠ 0 || (k.adapt && k.stateAt % 16 ≠ 0))) || leAt k.param 14 2 ≠ 0 || k.p4 28 ≠ 0
    || (k.opcode ≠ 0x11 && k.opcode ≠ 0x12 && k.xrows ≠ 0) || k.shapes.any (fun x => x.1.rsv)
  else false

/-- A MODE 1 destination scale of 0x00 or 0xFF (R107). -/
def State.badScales (s : State) (t : Tensor) (rows cols : Nat) : Bool :=
  isQ t.fmt && scMode t.sc = 1 &&
    (let S := if scDir t.sc = 0 then cols else rows
     let O := if scDir t.sc = 0 then rows else cols
     (List.range O).any (fun o => (s.seen (s.physOf t.sbase + o * t.scRow S) (cdiv S (scB t.sc))).any (fun b => b = 0 || b = 255)))

/-- The block size that the adaptive state record holds (R291). -/
def State.recordB (s : State) (k : Cmd) : Nat := leNat (s.seen (s.physOf k.stateAt) 1) % 4
/-- A destination with the block size in use (R293). -/
def State.inUse (s : State) (k : Cmd) (t : Tensor) : Tensor := if k.opcode = 2 && k.adapt then t.withB (s.recordB k) else t

/-- Order 5: formats, scales, pairing (R55, R107, R113). A QUANTIZE whose D is no Q format has FORMAT_INVALID (DESIGN CHOICE,
notes/assumptions/42.md: R257 wants a Q format and names no code). -/
def State.formatCode (s : State) (k : Cmd) : Option W16 :=
  if k.opcode = 1 then
    let x := k.ten 0
    let w := k.ten 1
    let d := k.ten 2
    if !fmtOk x.fmt || !fmtOk w.fmt || !fmtOk d.fmt || d.fmt = 9 then some eFormatInvalid
    else if scaleBad x.fmt x.sc x.z false || scaleBad w.fmt w.sc w.z false || scaleBad d.fmt d.sc d.z true then some eScaleInvalid
    else if (rateClass x.fmt w.fmt).isNone then some ePairingInvalid
    else none
  else if isElementwise k.opcode then
    if k.shapes.any (fun x => !fmtOk x.1.fmt || (x.1.fmt = 9 && !movesCodes k.opcode)) || (k.opcode = 2 && !isQ (k.ten 1).fmt) then
      some eFormatInvalid
    else if k.shapes.any (fun x => scaleBad x.1.fmt x.1.sc x.1.z x.2.2.2)
        || k.shapes.any (fun x => x.2.2.2 && (!k.remoteD || s.inPart k.part x.1.sbase (x.1.scSize x.2.1 x.2.2.1))
          && s.badScales (s.inUse k x.1) x.2.1 x.2.2.1) then some eScaleInvalid
    else none
  else none

/-- Order 6. -/
def shapeBad (k : Cmd) : Bool :=
  if k.opcode = 1 then
    k.mM = 0 || k.mN = 0 || k.mK = 0 || 1048576 < k.mK || 16 < k.mParts || cdiv k.mK 64 < k.mParts
    || (2 ≤ k.mParts && k.scratch = 0) || 2 ≤ k.mTree || (k.mAcc && !([6, 7, 8].contains (k.ten 2).fmt))
  else if k.opcode = 0x18 then
    k.kThreads = 0 || 32 < k.kThreads || k.kLoadAt % 32 ≠ 0 || storeSize < k.kLoadAt + 32 * k.kLen
  else if isElementwise k.opcode then
    let wide (f : Nat) : Bool := [6, 7, 8].contains f
    k.rows = 0 || k.cols = 0
    || ((k.opcode = 8 || k.opcode = 9 || k.opcode = 0xC) && k.accf ≠ 7 && k.accf ≠ 8)
    || (k.opcode = 0xC && (k.ten 1).fmt ≠ 7)
    || k.index.any (fun x => x.1.stride ≠ 0 && x.1.stride ≠ 4)
    || ((k.opcode = 0x11 || k.opcode = 0x12) && k.xrows = 0)
    || (k.opcode = 0x11 && (k.ten 2).fmt ≠ (k.ten 0).fmt)
    || (k.opcode = 0x12 && (!wide (k.ten 0).fmt || !wide (k.ten 2).fmt))
  else false

/-- Order 7 (R265, R266, R268). -/
def segBad (k : Cmd) (l : List MSeg) : Bool :=
  let x := k.ten 0
  let d := k.ten 2
  let blk (t : Tensor) (row : Nat) : Bool := isQ t.fmt && scMode t.sc ≠ 0 && scDir t.sc = 1 && row % scB t.sc ≠ 0
  k.mNseg ≠ 0 && (l.any (fun g => g.rsv || g.rows = 0 || k.mN < g.ncols || k.mK < g.klen)
    || l.foldl (fun a g => a + g.rows) 0 ≠ k.mM
    || l.head?.any (fun g => g.pack)
    || (l.zip (l.drop 1)).any (fun q => q.2.pack && !packFits q.1 q.2)
    || (mGroups l).any (fun g => blk x g.xrow || blk d g.drow))

/-- Order 8 (R269): a pad must be a finite code of its format. -/
def padBad (t : Tensor) : Bool :=
  t.padEn && (decide (2 ^ fmtBits t.fmt ≤ t.pad) || !(fmtVal t.fmt false 0x7F 0 (t.pad % 2 ^ fmtBits t.fmt)).isFinite)

/-- Orders 4 to 8 for every command but a collective, after the bounds. -/
def State.checkRest (s : State) (k : Cmd) : Option (W16 × Nat) :=
  if paramBad k then some (eDescInvalid, 4)
  else match s.formatCode k with
  | some c => some (c, 5)
  | none =>
    if shapeBad k then some (eShapeInvalid, 6)
    else if k.opcode = 1 && segBad k k.segments then some (eSegmentInvalid, 7)
    else if k.opcode = 1 && (padBad (k.ten 0) || padBad (k.ten 1)) then some (ePadInvalid, 8)
    else none

end Sys2Proof.Machine
end

