-- ==== Sys2Proof/Machine/CollParam.lean ====
section
/-! DEFINITION. The parameters of a COLLECTIVE command (R468 to R471, R483) and the checks of R297 and R506 on them. -/

namespace Sys2Proof.Machine

/-! ### Operation and extension block (R469, R470) -/

def Cmd.cCop (k : Cmd) : Nat := k.pb 0
def Cmd.cFlag (k : Cmd) (i : Nat) : Bool := k.pb 1 / 2 ^ i % 2 = 1
def Cmd.cTolerant (k : Cmd) : Bool := k.cFlag 0
def Cmd.cMean (k : Cmd) : Bool := k.cFlag 1
def Cmd.cNanq (k : Cmd) : Bool := k.cFlag 2
def Cmd.cGated (k : Cmd) : Bool := k.cFlag 4
def Cmd.cGroup (k : Cmd) : Nat := leAt k.param 2 2 % 4096
def Cmd.cGseq (k : Cmd) : Nat := k.p4 4
def Cmd.cOpseq (k : Cmd) : Nat := k.p4 8
def Cmd.cCount (k : Cmd) : Nat := k.p4 12
def Cmd.cDeadline (k : Cmd) : Nat := k.p8 16
def Cmd.cTimeout (k : Cmd) : Nat := k.p4 24
def Cmd.cQr (k : Cmd) : Nat := leAt k.param 28 2
def Cmd.cSlatch (k : Cmd) : Nat := leAt k.param 30 2
def Cmd.cSvalue (k : Cmd) : Nat := k.p8 32
def Cmd.cLrank (k : Cmd) : Nat := k.pb 40
def Cmd.cRows (k : Cmd) : Nat := k.p4 48
def Cmd.cCols (k : Cmd) : Nat := k.p4 52
def Cmd.cSlen (k : Cmd) : Nat := k.p8 56
/-- Source (or G), and D (or E); Q and D of LR_REDUCE. -/
def Cmd.cSrc (k : Cmd) : Tensor := k.ten 1
def Cmd.cDst (k : Cmd) : Tensor := if k.cCop = 5 then k.ten 4 else k.ten 2
def Cmd.cE (k : Cmd) : Tensor := k.ten 2
def Cmd.cQ (k : Cmd) : Tensor := k.ten 3

/-- The accumulation format (R469). -/
def Cmd.accFmt (k : Cmd) : Nat := if k.cFlag 3 then 8 else 7
/-- A reduction forms masks (R468). -/
def Cmd.reduces (k : Cmd) : Bool := k.cCop = 1 || k.cCop = 2 || k.cCop = 5
/-- Format of a contribution and of a result shard; both rounds of LR_REDUCE travel in W32 (R494). -/
def Cmd.inFmt (k : Cmd) : Nat := if k.cCop = 5 then 7 else k.cSrc.fmt
def Cmd.outFmt (k : Cmd) : Nat := if k.cCop = 5 then 7 else k.cDst.fmt

/-! ### Live operations and the window (R481) -/

/-- A COLLECTIVE command that has been accepted and has not ended. -/
def Cmd.collLive (k : Cmd) : Bool := k.opcode = 0x20 && (k.phase = .taken || k.phase = .running) && !k.refused
/-- Live commands of a group but one. -/
def State.liveOps (s : State) (g : Nat) (but : Option (Nat × Nat)) : List Nat :=
  (s.cmds.filter (fun k => k.collLive && k.cGroup = g && but ≠ some (k.ring, k.dcount))).map Cmd.cOpseq
/-- BASE: the lowest live OPSEQ, or one above the last completed; none before any (notes/assumptions/20.md). -/
def State.collBase (s : State) (g : Nat) (but : Option (Nat × Nat)) : Option Nat :=
  match s.liveOps g but with
  | a :: l => some (l.foldl min a)
  | [] => match (s.coll.doneOps.filter (fun x => x.1 = g)).map (·.2) with
    | a :: l => some (l.foldl max a + 1)
    | [] => none

/-! ### SCRATCH (R483) -/

/-- Bytes of an element in memory. -/
def esz (f : Nat) : Nat := fmtBits f / 8
/-- n_0 × … × n_(l−1): span(l − 1). -/
def below (levn : List Nat) (l : Nat) : Nat := (levn.take l).foldl (· * ·) 1
/-- Bytes of one staging slot of level l. -/
def slotSize (k : Cmd) (levn : List Nat) (e l : Nat) : Nat :=
  cdiv (cdiv e (max 1 (below levn (l + 1))) * (if l = 0 then esz k.inFmt else esz k.accFmt)) 64 * 64
/-- Z(l). -/
def levelSize (k : Cmd) (levn : List Nat) (e l : Nat) : Nat := levn.getD l 1 * slotSize k levn e l
/-- STG. -/
def stgAt (n : Nat) : Nat := cdiv (0x2000 + 1536 * n) 4096 * 4096
/-- Offset of the staging of level l in SCRATCH. -/
def stageAt (k : Cmd) (n : Nat) (levn : List Nat) (e l : Nat) : Nat :=
  stgAt n + ((List.range l).map (levelSize k levn e)).foldl (· + ·) 0
/-- Bytes of SCRATCH that an operation of n members needs. -/
def scratchNeed (k : Cmd) (n : Nat) (levn : List Nat) : Nat :=
  let total (e : Nat) : Nat := stageAt k n levn e levn.length
  if k.cCop = 5 then max (total (k.cRows * k.cLrank)) (total (k.cCols * k.cLrank)) else total k.cCount

/-! ### The checks -/

/-- The bank that an operation uses (R465): the one of its GSEQ. -/
def State.collBank (s : State) (k : Cmd) : Option Nat := [0, 1].find? (fun b => s.gtUsable b && s.gtSeq b = k.cGseq)
/-- NLEV and LEVN of an entry (R461). -/
def State.gtLevn (s : State) (b i : Nat) : List Nat := (List.range (min 4 (s.gtByte b i 3))).map (fun l => s.gtByte b i (4 + l))

/-- Tensors of a collective with rows, columns: `n` members. -/
def Cmd.collShapes (k : Cmd) (n : Nat) : List (Tensor × Nat × Nat) :=
  let e := k.cCount
  if k.cCop = 5 then
    [(k.cSrc, k.cRows, k.cCols), (k.cE, k.cRows, k.cCols), (k.cQ, k.cCols, k.cLrank), (k.cDst, k.cRows, k.cCols)]
  else if k.cCop = 3 then [(k.cSrc, 1, e), ({ k.cDst with stride := 0 }, n, e)]
  else if k.cCop = 2 then [(k.cSrc, 1, e), (k.cDst, 1, cdiv e (max 1 n))]
  else [(k.cSrc, 1, e), (k.cDst, 1, e)]
/-- Members of a collective's entry; 1 while it is unknown. -/
def State.collSize (s : State) (k : Cmd) : Nat :=
  match s.collBank k with
  | some b => max 1 (s.gtCount b k.cGroup)
  | none => 1
/-- LR_REDUCE needs six parameter entries. -/
def Cmd.collShort (k : Cmd) : Bool := k.cCop = 5 && leAt k.desc 56 2 < 6

/-- Order 3 (R254): tensors and SCRATCH. -/
def State.collOut (s : State) (k : Cmd) : Bool :=
  (!k.collShort && (k.collShapes (s.collSize k)).any (fun x => !s.inPart k.part x.1.base (x.1.size x.2.1 x.2.2)))
  || (k.scratch ≠ 0 && !s.inPart k.part k.scratch k.cSlen)

/-- COLL_PARAM for the limits that need no group entry (R506). -/
def collParamBad (k : Cmd) : Bool :=
  let c := k.cCop
  let wide (f : Nat) : Bool := f = 6 || f = 7
  c = 0 || 5 < c || k.collShort || 47 < k.cSlatch % 64 || k.cCount = 0 || 2 ^ 31 < k.cCount || k.cTimeout = 0 || k.scratch = 0
  || ((k.cTolerant || k.cNanq) && !k.reduces) || (k.cMean && c ≠ 1 && c ≠ 5) || (!k.cTolerant && k.cDeadline = 0)
  || ((c = 1 || c = 2) && (!wide k.cSrc.fmt || !wide k.cDst.fmt || k.cSrc.sc ≠ 0 || k.cDst.sc ≠ 0))
  || ((c = 3 || c = 4) && k.cDst.fmt ≠ k.cSrc.fmt)
  || (c = 5 && (k.cSrc.fmt ≠ 6 || k.cE.fmt ≠ 6 || k.cQ.fmt ≠ 7 || !wide k.cDst.fmt || k.cLrank = 0 || 64 < k.cLrank || k.cRows = 0
      || k.cCols = 0))

/-- The checks of R506 in their order. -/
def State.collCode (s : State) (k : Cmd) : Option W16 :=
  if collParamBad k then some eCollParam
  else match s.collBank k with
  | none => some eCollGseq
  | some b =>
    let n := s.gtCount b k.cGroup
    if !s.gtLists b k.cGroup s.maddr k.part then some eCollNotMember
    else if (k.cTolerant && n < k.cQr) || (k.cCop = 4 && n ≤ k.cQr) || k.cSlen < scratchNeed k n (s.gtLevn b k.cGroup) then
      some eCollParam
    else
      let me := some (k.ring, k.dcount)
      if (s.liveOps k.cGroup me).contains k.cOpseq || (s.collBase k.cGroup me).any (fun x => decide (x + 63 < k.cOpseq)) then
        some eCollWindow
      else none

/-- Reserved bits of the operation block and the extension block (R469, R470). -/
def collRsv (k : Cmd) : Bool :=
  k.pb 1 / 32 ≠ 0 || leAt k.param 2 2 / 4096 ≠ 0 || k.cSlatch / 2 ^ 13 ≠ 0 || leAt k.param 41 7 ≠ 0
/-- The collective-transport column of R55. -/
def transportFmt (f : Nat) : Bool := f = 6 || f = 7

/-- Orders 4 and 5 of R297, then R506, whose DETAIL is 0. -/
def State.checkColl (s : State) (k : Cmd) : Option (W16 × Nat) :=
  let ts := if k.collShort then [] else (k.collShapes 1).map (·.1)
  if collRsv k || ts.any (fun t => t.rsv) then some (eDescInvalid, 4)
  else if ts.any (fun t => !transportFmt t.fmt) then some (eFormatInvalid, 5)
  else if (ts.take 1).any (fun t => scaleBad t.fmt t.sc t.z false) || (ts.drop 1).any (fun t => scaleBad t.fmt t.sc t.z true) then
    some (eScaleInvalid, 5)
  else (s.collCode k).map (fun c => (c, 0))

end Sys2Proof.Machine
end

