-- ==== Sys2Proof/Machine/Ctl.lean ====
section
/-! DEFINITION. The C slot (R240 to R248): loads and stores of the own core store, global accesses and atomics, DMA submission,
and the latch instructions. A load takes its bytes at issue and delivers them at its return (notes/assumptions/7.md). -/

namespace Sys2Proof.Machine

/-- Poisoned granules make the return raise POISON. -/
def poisoned (r : State × List Nat × List Byte) : Bool := !r.2.1.isEmpty

/-! ### Local accesses -/

/-- A load of n bytes at core-local address a, aligned to `al`; BOUNDS when a byte lies outside the store (R177, R243, R244): `dst` is written with what `g` makes of the bytes. -/
def cLoad (s : State) (c t : Nat) (a : W64) (al n : Nat) (srcs : List RegRef) (g : List Byte → RegWrite) : SlotOut :=
  let dst := (g []).ref
  if a.toNat % al ≠ 0 then .raises 3 cAlign [dst] srcs
  else if storeSize < a.toNat + n then .raises 3 cBounds [dst] srcs
  else
    let pa := storeBase c + a.toNat
    let r := s.readMem pa n
    { kind := 3, srcs, dsts := [dst], writes := [g r.2.2], load := some (.localLoad, poisoned r, r.2.1)
      act := fun s => ((s.readMem pa n).1).countMem (s.reqThr c t) pa n false }

/-- A store of bytes at core-local address a. -/
def cStore (c t : Nat) (a : W64) (al : Nat) (srcs : List RegRef) (b : List Byte) : SlotOut :=
  if a.toNat % al ≠ 0 then .raises 3 cAlign [] srcs
  else if storeSize < a.toNat + b.length then .raises 3 cBounds [] srcs
  else
    let pa := storeBase c + a.toNat
    { kind := 3, srcs, act := fun s => (s.writeMem pa b).countMem (s.reqThr c t) pa b.length true }

/-- Base plus signed byte offset (R240, R241). -/
def caAddr (f : CA) (x : Thread) : W64 := x.sreg f.b.toNat + f.off.signExtend 64
/-- Base plus signed offset in 32-byte units (R240). -/
def cvAddr (f : CV) (x : Thread) : W64 := x.sreg f.b.toNat + 32 * f.off.signExtend 64

/-- A scalar load of n bytes, zero- or sign-extended. -/
def cLd (f : CA) (s : State) (c t n : Nat) (sx : Bool) : SlotOut :=
  cLoad s c t (caAddr f (s.thr c t)) n n [.s f.b.toNat] (fun b =>
    .s f.a.toNat (if sx then BitVec.ofInt 64 (signed (8 * n) (leNat b)) else BitVec.ofNat 64 (leNat b)))

/-- A scalar store of the low n bytes of A. -/
def cSt (f : CA) (s : State) (c t n : Nat) : SlotOut :=
  let x := s.thr c t
  cStore c t (caAddr f x) n [.s f.b.toNat, .s f.a.toNat] (leBytes n (x.sreg f.a.toNat).toNat)

def slotCNop : SlotOut := { kind := 3 }
def slotCLdb (f : CA) (s : State) (c t : Nat) : SlotOut := cLd f s c t 1 false
def slotCLdh (f : CA) (s : State) (c t : Nat) : SlotOut := cLd f s c t 2 false
def slotCLdw (f : CA) (s : State) (c t : Nat) : SlotOut := cLd f s c t 4 false
def slotCLdd (f : CA) (s : State) (c t : Nat) : SlotOut := cLd f s c t 8 false
def slotCLdbs (f : CA) (s : State) (c t : Nat) : SlotOut := cLd f s c t 1 true
def slotCLdhs (f : CA) (s : State) (c t : Nat) : SlotOut := cLd f s c t 2 true
def slotCLdws (f : CA) (s : State) (c t : Nat) : SlotOut := cLd f s c t 4 true
def slotCStb (f : CA) (s : State) (c t : Nat) : SlotOut := cSt f s c t 1
def slotCSth (f : CA) (s : State) (c t : Nat) : SlotOut := cSt f s c t 2
def slotCStw (f : CA) (s : State) (c t : Nat) : SlotOut := cSt f s c t 4
def slotCStd (f : CA) (s : State) (c t : Nat) : SlotOut := cSt f s c t 8

/-! ### Vector, predicate and tile-descriptor moves -/

/-- WIDTH and VC are zero outside gather and scatter (R242). -/
def cvPlain (f : CV) : Bool := f.width = 0 && f.vc = 0

def cvLoad (f : CV) (s : State) (c t al n : Nat) (g : List Byte → RegWrite) : SlotOut :=
  if !cvPlain f then .raises 3 cBundle [(g []).ref]
  else cLoad s c t (cvAddr f (s.thr c t)) al n [.s f.b.toNat] g

def cvStore (f : CV) (s : State) (c t al : Nat) (src : RegRef) (b : List Byte) : SlotOut :=
  if !cvPlain f then .raises 3 cBundle else cStore c t (cvAddr f (s.thr c t)) al [.s f.b.toNat, src] b

def slotCVld (f : CV) (s : State) (c t : Nat) : SlotOut :=
  cvLoad f s c t 64 512 (fun b => .v f.a.toNat (BitVec.ofNat 4096 (leNat b)))
/-- Predicate A[2:0] (R241). -/
def slotCPld (f : CV) (s : State) (c t : Nat) : SlotOut :=
  cvLoad f s c t 64 64 (fun b => .p (f.a.toNat % 8) (BitVec.ofNat 512 (leNat b)))
def slotCTld (f : CV) (s : State) (c t : Nat) : SlotOut :=
  cvLoad f s c t 32 32 (fun b => .t (f.a.toNat % 16) (BitVec.ofNat 256 (leNat b)))
def slotCPst (f : CV) (s : State) (c t : Nat) : SlotOut :=
  cvStore f s c t 64 (.p (f.a.toNat % 8)) (leBytes 64 ((s.thr c t).preg (f.a.toNat % 8)).toNat)
def slotCTst (f : CV) (s : State) (c t : Nat) : SlotOut :=
  cvStore f s c t 32 (.t (f.a.toNat % 16)) (leBytes 32 ((s.thr c t).treg (f.a.toNat % 16)).toNat)

/-- C.VST: with PEN, predicate bit j governs 8-byte word j (R241). -/
def slotCVst (f : CV) (s : State) (c t : Nat) : SlotOut :=
  let x := s.thr c t
  let a := cvAddr f x
  let b := leBytes 512 (x.vreg f.a.toNat).toNat
  let srcs := [.s f.b.toNat, .v f.a.toNat] ++ (if f.pen then [.p f.pred.toNat] else [])
  if !cvPlain f then .raises 3 cBundle
  else if !f.pen then cStore c t a 64 srcs b
  else if a.toNat % 64 ≠ 0 then .raises 3 cAlign [] srcs
  else if storeSize ≤ a.toNat || (List.range 64).any (fun j => (x.preg f.pred.toNat).getLsbD j && decide (storeSize < a.toNat + 8 * j + 8)) then
    .raises 3 cBounds [] srcs
  else
    let pa := storeBase c + a.toNat
    { kind := 3, srcs
      act := fun s => ((List.range 64).filter (fun j => (x.preg f.pred.toNat).getLsbD j)).foldl (fun s j =>
        (s.writeMem (pa + 8 * j) ((b.drop (8 * j)).take 8)).countMem (s.reqThr c t) (pa + 8 * j) 8 true) s }

/-- Enabled lanes of a gather or scatter with their addresses (R242), or the cause. -/
def cvLanes (f : CV) (x : Thread) : Option Nat × List (Nat × Nat) :=
  let w := 2 * 2 ^ f.width.toNat
  let ls := ((List.range (512 / w)).filter (fun i => !f.pen || (x.preg f.pred.toNat).getLsbD i)).map (fun i =>
    (i, (cvAddr f x + BitVec.ofNat 64 (w * lane (x.vreg f.vc.toNat) (8 * w) i)).toNat))
  (if f.width = 3 then some cBundle
   else if ls.any (fun l => l.2 % w ≠ 0) then some cAlign
   else if ls.any (fun l => storeSize ≤ l.2) then some cBounds
   else none, ls)

def cvIdxSrcs (f : CV) : List RegRef := [.s f.b.toNat, .v f.vc.toNat, .v f.a.toNat] ++ (if f.pen then [.p f.pred.toNat] else [])

def slotCVgth (f : CV) (s : State) (c t : Nat) : SlotOut :=
  let x := s.thr c t
  let w := 2 * 2 ^ f.width.toNat
  match cvLanes f x with
  | (some k, _) => .raises 3 k [.v f.a.toNat] (cvIdxSrcs f)
  | (none, ls) =>
    let rd := ls.map (fun l => (l.1, s.readMem (storeBase c + l.2) w))
    let v := vecOf (8 * w) (512 / w) (fun i =>
      match rd.find? (fun r => r.1 = i) with
      | some r => leNat r.2.2.2
      | none => lane (x.vreg f.a.toNat) (8 * w) i)
    { kind := 3, srcs := cvIdxSrcs f, dsts := [.v f.a.toNat], writes := [.v f.a.toNat v]
      load := some (.localLoad, rd.any (fun r => poisoned r.2), dedupNat (rd.flatMap (fun r => r.2.2.1)))
      act := fun s => ls.foldl (fun s l =>
        ((s.readMem (storeBase c + l.2) w).1).countMem (s.reqThr c t) (storeBase c + l.2) w false) s }

/-- Lanes are written in ascending order, so the higher of two lanes at one element stays (R242). -/
def slotCVsct (f : CV) (s : State) (c t : Nat) : SlotOut :=
  let x := s.thr c t
  let w := 2 * 2 ^ f.width.toNat
  match cvLanes f x with
  | (some k, _) => .raises 3 k [] (cvIdxSrcs f)
  | (none, ls) =>
    { kind := 3, srcs := cvIdxSrcs f
      act := fun s => ls.foldl (fun s l =>
        (s.writeMem (storeBase c + l.2) (leBytes w (lane (x.vreg f.a.toNat) (8 * w) l.1))).countMem
          (s.reqThr c t) (storeBase c + l.2) w true) s }

/-! ### Global accesses -/

/-- The memory a thread of partition p reaches at an 8-byte-aligned global address (R244, R302, R311): plain memory, a word of one of
its own work-counter records, or a latch record. -/
inductive GTarget where
  | mem (pa : Nat)
  | work (pa : Nat)
  | latch (core latch off : Nat)
  deriving DecidableEq, Repr

/-- Base of the work-counter record that holds a larder address. -/
def recordOf (pa : Nat) : Nat := pa / 64 * 64

def State.gTarget (s : State) (p a : Nat) : Option GTarget :=
  if isRemote a then none
  else match s.resolve a with
  | .mem pa =>
    if inWorkRegion pa then (if s.recPart (recordOf pa) = p then some (.work pa) else none)
    else if s.owner pa = p then some (.mem pa) else none
  | .latch i j o => if s.partOfPhys i = some p then some (.latch i j o) else none
  | _ => none

/-- C.GLD. A load from a frozen core is held until its replacement serves it (R190, R193): the bundle waits. -/
def slotCGld (f : CA) (s : State) (c t : Nat) : SlotOut :=
  let x := s.thr c t
  let a := (caAddr f x).toNat
  let d := f.a.toNat
  if a % 8 ≠ 0 then .raises 3 cAlign [.s d] [.s f.b.toNat]
  else
    let mem (pa : Nat) : SlotOut :=
      let r := s.readMem pa 8
      { kind := 3, ready := !s.frozenStore pa, srcs := [.s f.b.toNat], dsts := [.s d]
        writes := [.s d (BitVec.ofNat 64 (leNat r.2.2))], load := some (.globalLoad, poisoned r, r.2.1)
        act := fun s => ((s.readMem pa 8).1).countMem (s.reqThr c t) pa 8 false }
    match s.gTarget x.part a with
    | none => .raises 3 cBounds [.s d] [.s f.b.toNat]
    | some (.mem pa) => mem pa
    | some (.work pa) => mem pa
    | some (.latch i j o) =>
      { kind := 3, ready := !s.rdB (rCoreStat i) 4, srcs := [.s f.b.toNat], dsts := [.s d]
        writes := [.s d ((s.latchView i j >>> (8 * o)).setWidth 64)], load := some (.globalLoad, false, []) }

/-- The epoch under which core c writes is the current one (R304). -/
def State.writeOk (s : State) (c t : Nat) : Bool := (s.thr c t).epoch = s.epoch ((s.logical c).getD 255)

/-- A write of core c to memory, carried out, or held at a frozen core (R190). -/
def State.landWrite (s : State) (c t pa : Nat) (b : List Byte) : State :=
  match storeOf pa with
  | some i =>
    let s := s.countMem (s.reqThr c t) pa b.length true
    if s.frozen i then s.hold i (.write pa b []) else s.writeMem pa b
  | none => (s.countMem (s.reqThr c t) pa b.length true).writeMem pa b

/-- A global write of a thread: dropped for an old epoch (R304), and for a re-execution outside its own core store (R555). `work`:
to its work-counter record, which a re-execution writes too. -/
def State.globalWrite (s : State) (c t pa : Nat) (b : List Byte) (work : Bool) : State :=
  if (s.thr c t).checkrun && !work && storeOf pa ≠ some c then s
  else if !s.writeOk c t then s.epochDrop ((s.logical c).getD 255)
  else s.landWrite c t pa b

def slotCGst (f : CA) (s : State) (c t : Nat) : SlotOut :=
  let x := s.thr c t
  let a := (caAddr f x).toNat
  if a % 8 ≠ 0 then .raises 3 cAlign [] [.s f.b.toNat]
  else match s.gTarget x.part a with
  | some (.mem pa) =>
    let b := leBytes 8 (x.sreg f.a.toNat).toNat
    { kind := 3, srcs := [.s f.b.toNat, .s f.a.toNat], load := some (.globalStore, false, [])
      act := fun s => s.globalWrite c t pa b false }
  | _ => .raises 3 cBounds [] [.s f.b.toNat]

/-! ### Atomics -/

/-- Record a claim (R284, R287): VALID when the item is below LIMIT; a reissue record carries the COUNTED bits over. A record, or a slot
whose bits are carried over, that reads poisoned stops the partition's commands (R577). -/
def State.claim (s : State) (c t rec_ item : Nat) : State :=
  let lc := (s.logical c).getD 0
  let r := s.readMem rec_ 64
  let limit := leAt r.2.2 8 8
  let id := leAt r.2.2 30 2
  let reissue := leAt r.2.2 29 1 % 2 = 1
  let sl := claimAddr lc t
  let o := r.1.readMem sl 8
  let s := o.1
  let counted := if reissue then leNat o.2.2 / 2 % 4 else 0
  let v := item % 2 ^ 32 * 2 ^ 32 + (s.thr c t).epoch % 256 * 2 ^ 24 + id * 2 ^ 8 + counted * 2 + (if item < limit then 1 else 0)
  (s.writeMem sl (leBytes 8 v)).recordLost (s.thr c t).part (poisoned r || (reissue && poisoned o))

/-- An atomic on a larder word (R244, R311, R312): `g` gives the new word from the old one, or leaves it. -/
def cAtomic (f : CX) (s : State) (c t : Nat) (fadd : Bool) (srcs : List RegRef) (g : W64 → Option W64) : SlotOut :=
  let x := s.thr c t
  let a := (x.sreg f.b.toNat).toNat
  let d := f.a.toNat
  let run (pa : Nat) (work : Bool) : SlotOut :=
    let r := s.readMem pa 8
    let old := BitVec.ofNat 64 (leNat r.2.2)
    { kind := 3, srcs := .s f.b.toNat :: srcs, dsts := [.s d], writes := [.s d old], load := some (.atomic, poisoned r, r.2.1)
      act := fun s =>
        let s1 := ((s.readMem pa 8).1).countMem (s.reqThr c t) pa 8 false
        if poisoned r then s1.recordLost x.part work
        else
          let s2 := match g old with
            | some v => s1.globalWrite c t pa (leBytes 8 v.toNat) work
            | none => s1
          if work && s.writeOk c t then s2.claim c t (recordOf pa) old.toNat else s2 }
  if f.rsv ≠ 0 then .raises 3 cBundle [.s d]
  else if a % 8 ≠ 0 then .raises 3 cAlign [.s d] [.s f.b.toNat]
  else match s.gTarget x.part a with
  | some (.mem pa) => if (larderOf pa).isSome then run pa false else .raises 3 cBounds [.s d] [.s f.b.toNat]
  | some (.work pa) => if fadd && pa % 64 = 0 then run pa true else .raises 3 cBounds [.s d] [.s f.b.toNat]
  | _ => .raises 3 cBounds [.s d] [.s f.b.toNat]

def slotCFadd (f : CX) (s : State) (c t : Nat) : SlotOut :=
  let v := (s.thr c t).sreg f.val.toNat
  cAtomic f s c t true [.s f.val.toNat] (fun o => some (o + v))
def slotCSwap (f : CX) (s : State) (c t : Nat) : SlotOut :=
  let v := (s.thr c t).sreg f.val.toNat
  cAtomic f s c t false [.s f.val.toNat] (fun _ => some v)
def slotCCas (f : CX) (s : State) (c t : Nat) : SlotOut :=
  let v := (s.thr c t).sreg f.val.toNat
  let e := (s.thr c t).sreg f.a.toNat
  cAtomic f s c t false [.s f.val.toNat, .s f.a.toNat] (fun o => if o = e then some v else none)

/-! ### DMA submission -/

/-- A job a thread puts into its queue. -/
def State.jobOf (s : State) (c t : Nat) (desc : List Byte) (post : Option (W64 × W64)) : DmaJob :=
  let x := s.thr c t
  { desc, post, part := x.part, core := c, lcore := (s.logical c).getD 255, thread := t, ring := x.ring, dcount := x.dcount, epoch := x.epoch
    checkrun := x.checkrun }

def slotCDma (f : CD) (s : State) (c t : Nat) : SlotOut :=
  let x := s.thr c t
  let a := (x.sreg f.a.toNat).toNat
  let k := dmaIdx c f.q.toNat
  if f.rsv ≠ 0 then .raises 3 cBundle
  else if a % 64 ≠ 0 then .raises 3 cAlign [] [.s f.a.toNat]
  else if storeSize ≤ a then .raises 3 cBounds [] [.s f.a.toNat]
  else
    let r := s.readMem (storeBase c + a) 64
    if poisoned r then { kind := 3, cause := some cPoison, srcs := [.s f.a.toNat], consumed := r.2.1 }
    else
      { kind := 3, ready := decide ((s.dmaq k).length < 16), srcs := [.s f.a.toNat]
        act := fun s => ((s.readMem (storeBase c + a) 64).1).setDmaq k (s.dmaq k ++ [s.jobOf c t r.2.2 none]) }

def slotCLpost (f : CD) (s : State) (c t : Nat) : SlotOut :=
  let x := s.thr c t
  let a := x.sreg f.a.toNat
  let v := x.sreg f.b.toNat
  let k := dmaIdx c f.q.toNat
  if f.rsv ≠ 0 then .raises 3 cBundle
  else match s.latchAddrCause x.part a.toNat with
  | some e => .raises 3 e [] [.s f.a.toNat]
  | none =>
    { kind := 3, ready := decide ((s.dmaq k).length < 16), srcs := [.s f.a.toNat, .s f.b.toNat]
      act := fun s => s.setDmaq k (s.dmaq k ++ [s.jobOf c t [] (some (a, v))]) }

def slotCFence : SlotOut := { kind := 3 }

/-! ### Latches -/

/-- The value operand of a CL slot (R241). -/
def clVal (f : CL) (x : Thread) : W64 := if f.immv then f.imm.signExtend 64 else x.sreg f.a.toNat
def clSrc (f : CL) : List RegRef := if f.immv then [] else [.s f.a.toNat]

def slotCLset (f : CL) (s : State) (c t : Nat) : SlotOut :=
  let x := s.thr c t
  if 48 ≤ f.latch.toNat then .raises 3 cLatch
  else { kind := 3, srcs := clSrc f, act := fun s => s.latchSet c f.latch.toNat (clVal f x) x.seq }

def slotCLadd (f : CL) (s : State) (c t : Nat) : SlotOut :=
  let x := s.thr c t
  if 48 ≤ f.latch.toNat then .raises 3 cLatch
  else { kind := 3, srcs := clSrc f, act := fun s => s.latchAdd c f.latch.toNat (clVal f x) }

def slotCLrd (f : CL) (s : State) (c : Nat) : SlotOut :=
  let d := f.a.toNat
  if 48 ≤ f.latch.toNat then .raises 3 cLatch [.s d]
  else { kind := 3, dsts := [.s d], writes := [.s d (lValue (s.latch c f.latch.toNat))] }

/-- C.LWAIT (R378, R379): go on with WSTAT 0, or with the broken code, or park with the wait armed. -/
def slotCLwait (f : CL) (s : State) (c t : Nat) : SlotOut :=
  let x := s.thr c t
  let j := f.latch.toNat
  let cmp := clVal f x
  if 6 < f.cond.toNat then .raises 3 cBundle
  else if 48 ≤ j then .raises 3 cLatch
  else
    { kind := 3, srcs := .s f.b.toNat :: clSrc f
      act := fun s =>
        let r := s.latch c j
        let y := s.thr c t
        if condMet f.cond.toNat (lValue r) cmp (lValue r) then s.setThr c t { y with wstat := 0 }
        else if lBroken r then s.setThr c t { y with wstat := BitVec.ofNat 16 (0x0500 ||| lEstat r) }
        else s.setThr c t { y.move .parked with wait := some ({ latch := j, cond := f.cond.toNat, cmp, old := lValue r, issued := s.now, timeout := bf (x.sreg f.b.toNat) 31 0 } : Wait) } }

/-- C.LARR (R387): an arrival for the round in B at the counter in A, with a pending release for latch LATCH. -/
def slotCLarr (f : CL) (s : State) (c t : Nat) : SlotOut :=
  let x := s.thr c t
  let a := x.sreg f.a.toNat
  let b := x.sreg f.b.toNat
  match s.latchAddrCause x.part a.toNat with
  | some e => .raises 3 e [] [.s f.a.toNat]
  | none =>
    if 48 ≤ f.latch.toNat then .raises 3 cLatch
    else
      { kind := 3, ready := decide (s.releases.length < 256), srcs := [.s f.a.toNat, .s f.b.toNat]
        act := fun s => s.sendArrival x.part a.toNat b ((s.logical c).getD 255) f.latch.toNat false }

end Sys2Proof.Machine
end

