-- ==== Sys2Proof/Machine/Dma.lean ====
section
/-! DEFINITION. DMA (R314 to R319, R328, R671, R672): the checks of a descriptor, the move of its rows with poison and conversion, the
packets of a remote destination (R416, R419, R420), and completion. All bytes of a descriptor move at DMA_START
(notes/assumptions/18.md). -/

namespace Sys2Proof.Machine

/-! ### Remote writes -/

/-- Destination granules touched by byte ranges [lo, hi) of n bytes that start at physical address `dst` (R328). -/
def hitGranules (dst n : Nat) (bad : List (Nat × Nat)) : List Nat :=
  (if n = 0 || bad.isEmpty then [] else granules dst n).filter (fun g =>
    bad.any (fun r => decide (dst + r.1 < g + granSize g) && decide (g < dst + r.2)))

/-- Send n bytes to another module in WRITE packets (R420): at most 4,096 bytes, none across a 4 KiB boundary of the destination; the
data flits sent with their POISMAP bit (R419). -/
def State.sendWrites (s : State) (r : Req) (vc dst daddr group tag dseq : Nat) (b : List Byte) (bad : List (Nat × Nat)) : State × Nat :=
  if b.isEmpty then (s, 0)
  else
    let n := b.length
    (span (daddr / 4096) ((daddr + n - 1) / 4096 + 1 - daddr / 4096)).foldl (fun (acc : State × Nat) pg =>
      let lo := max (4096 * pg) daddr
      let hi := min (4096 * pg + 4096) (daddr + n)
      let data := (b.drop (lo - daddr)).take (hi - lo)
      let fl := (List.range (flitsOf data.length)).filter (fun i =>
        bad.any (fun x => decide (daddr + x.1 < min hi (lo + 64 * i + 64)) && decide (lo + 64 * i < daddr + x.2)))
      let p := acc.1.mkPkt 0 vc (r.part.getD 0) dst lo group tag dseq 0 data (fl.foldl (fun a i => a + 2 ^ i) 0)
      (((acc.1.crossOut r p).sendPkt p).count r 8 data.length, acc.2 + fl.length)) (s, 0)

/-- A latch write toward a global latch address (R384): a local add, or a LATCH_ADD packet with a group entry (R672). An address that
names no latch of the partition takes no add. -/
def State.postLatch (s : State) (r : Req) (a : Nat) (v : W64) (vc tag dseq : Nat) (g : Option Nat) : State :=
  if isRemote a then
    match g with
    | some g => s.sendPkt (s.mkPkt 1 vc (r.part.getD 0) (remoteMod a) (remoteLocal a) g tag dseq v.toNat [])
    | none => s
  else match s.resolve a with
    | .latch i j _ => if s.partOfPhys i = r.part then (s.extLatch i j (.add v)).cross r (wingOf i) 8 true else s
    | _ => s

/-! ### Descriptors (R315) -/

structure DmaD where
  src : Nat
  dst : Nat
  rowlen : Nat
  rows : Nat
  sstr : Nat
  dstr : Nat
  sf : Nat
  df : Nat
  conv : Bool
  fence : Bool
  stat : Bool
  zero : Bool
  rsv : Bool
  lvalue : Nat
  latch : Nat
  status : Nat
  deriving DecidableEq, Repr

def dmaD (b : List Byte) : DmaD :=
  let f := leAt b 33 1
  { src := leAt b 0 8, dst := leAt b 8 8, rowlen := leAt b 16 4, rows := leAt b 20 4, sstr := leAt b 24 4, dstr := leAt b 28 4
    sf := leAt b 32 1 % 16, df := leAt b 32 1 / 16, conv := f % 2 = 1, fence := f / 2 % 2 = 1, stat := f / 4 % 2 = 1
    zero := f / 8 % 2 = 1, rsv := f / 16 ≠ 0 || leAt b 34 2 ≠ 0 || leAt b 56 8 ≠ 0
    lvalue := leAt b 36 4, latch := leAt b 40 8, status := leAt b 48 8 }

/-- Bytes of an element of H16, W32 or W48. -/
def wideSize (f : Nat) : Nat := fmtBits f / 8
def convFmt (f : Nat) : Bool := f = 6 || f = 7 || f = 8
/-- Bytes of a destination row. -/
def DmaD.outLen (d : DmaD) : Nat := if d.conv then d.rowlen / wideSize d.sf * wideSize d.df else d.rowlen

/-- Where a source row lies: memory, or latch records from a byte offset in a core's latch window (R301, R377). -/
inductive DmaSrc where
  | mem (pa : Nat)
  | latch (core off : Nat)
  deriving DecidableEq, Repr

/-- The source row of partition p (R302): its own memory, its work-counter records, or latches of its cores. -/
def State.dmaSrc (s : State) (p a n : Nat) : Option DmaSrc :=
  match s.resolve a, s.resolve (a + n - 1) with
  | .mem x, .mem y =>
    if y ≠ x + (n - 1) then none
    else if s.owns p x n then some (.mem x)
    else if inWorkRegion x && inWorkRegion y
        && (span (x / 64) (y / 64 + 1 - x / 64)).all (fun r => s.recPart (64 * r) = p) then some (.mem x)
    else none
  | .latch i j o, .latch i2 j2 o2 =>
    if i = i2 && 16 * j2 + o2 = 16 * j + o + (n - 1) && s.partOfPhys i = some p then some (.latch i (16 * j + o)) else none
  | _, _ => none

/-- The group entry for an address, as it is chosen at the check (R672); a local address needs none. -/
def State.entryFor (s : State) (p a : Nat) : Option Nat := if isRemote a then s.gtFor p (remoteMod a) else some 0

/-- The error a descriptor completes with before any byte moves (R316, R318, R319, R671, R672). -/
def State.dmaError (s : State) (p : Nat) (d : DmaD) : Option W16 :=
  let ss := wideSize d.sf
  let ds := wideSize d.df
  let n := d.rowlen
  let rs := List.range d.rows
  if d.rsv || n = 0 || d.rows = 0 || (!d.zero && isRemote d.src) then some eDmaDescInvalid
  else if d.conv && (!convFmt d.sf || !convFmt d.df || n % ss ≠ 0) then some eDmaDescInvalid
  else if d.latch ≠ 0 && d.latch % 16 ≠ 0 then some eMemAlign
  else if d.conv && ((!d.zero && (d.src % ss ≠ 0 || d.sstr % ss ≠ 0)) || d.dst % ds ≠ 0 || d.dstr % ds ≠ 0) then some eMemAlign
  else if !d.zero && rs.any (fun r => (s.dmaSrc p (d.src + r * d.sstr) n).isNone) then some eMemBounds
  else if remoteBad d.dst then some eMemBounds
  else if !isRemote d.dst && rs.any (fun r => (s.partRange p (d.dst + r * d.dstr) d.outLen).isNone) then some eMemBounds
  else if d.stat && storeSize < d.status + 8 then some eMemBounds
  else if d.latch ≠ 0 && (if isRemote d.latch then remoteBad d.latch || !inLatchWindow (remoteLocal d.latch) else
      match s.resolve d.latch with
      | .latch i _ _ => s.partOfPhys i ≠ some p
      | _ => true) then some eMemBounds
  else if (s.entryFor p d.dst).isNone || (s.entryFor p d.latch).isNone then some eFabGroupDenied
  else none

/-- Read a source row: its bytes, and the byte ranges that are poisoned. -/
def State.dmaRead (s : State) (r : Req) (src : DmaSrc) (n : Nat) : State × List Byte × List (Nat × Nat) :=
  match src with
  | .mem pa =>
    let y := s.readMem pa n
    (y.1.countMem r pa n false, y.2.2, y.2.1.map (fun h => (max h pa - pa, min (h + granSize h) (pa + n) - pa)))
  | .latch i off =>
    let b := (List.range 48).flatMap (fun j => leBytes 16 (s.latchView i j).toNat)
    (s, (b.drop off).take n, [])

/-- A row converted element by element under R82, with its poisoned ranges. -/
def convRow (d : DmaD) (b : List Byte) (bad : List (Nat × Nat)) : List Byte × List (Nat × Nat) :=
  if !d.conv then (b, bad)
  else
    let ss := wideSize d.sf
    let ds := wideSize d.df
    ((List.range (d.rowlen / ss)).flatMap (fun e => leBytes ds (encFast d.df (wideVal d.sf true (leAt b (e * ss) ss)))),
     bad.map (fun r => (r.1 / ss * ds, cdiv r.2 ss * ds)))

/-! ### Jobs -/

/-- Virtual channel and TAG of queue q of core c (R416, R421). -/
def dmaVc (q : Nat) : Nat := if q < 2 then 0 else 1
def State.dmaTag (s : State) (c q : Nat) : Nat := 2 ^ 8 * ((s.logical c).getD 0) + 2 ^ 6 * q

/-- A job's writes outside its own core store, and those under an old epoch, are dropped (R304, R555). -/
def State.jobStale (s : State) (j : DmaJob) : Bool := j.epoch ≠ s.epoch j.lcore

/-- A source row lies in a frozen core, which holds the read until its replacement serves it (R190, R193). -/
def State.dmaHeld (s : State) (p : Nat) (d : DmaD) : Bool :=
  !d.zero && (List.range d.rows).any (fun i =>
    match s.dmaSrc p (d.src + i * d.sstr) d.rowlen with
    | some (.mem pa) => s.frozenStore pa
    | some (.latch k _) => s.rdB (rCoreStat k) 4
    | none => false)

/-- Move the rows of a checked descriptor: bytes written, and flits or distinct granules written poisoned (R318, R328). Of rows that overlap, each byte holds
one of the values written to it (notes/assumptions/18.md). -/
def State.dmaMove (s : State) (j : DmaJob) (q : Nat) (d : DmaD) : State × Nat × Nat :=
  let r := s.reqThr j.core j.thread
  let r := { r with part := some j.part }
  let g := j.group.getD 0
  let w := (List.range d.rows).foldl (fun (acc : State × Nat × (Nat × List Nat) × List (Nat × Nat)) i =>
    let s := acc.1
    let rd : State × List Byte × List (Nat × Nat) :=
      if d.zero then (s, zeros d.outLen, [])
      else match s.dmaSrc j.part (d.src + i * d.sstr) d.rowlen with
        | some src => let y := s.dmaRead r src d.rowlen; let c := convRow d y.2.1 y.2.2; (y.1, c.1, c.2)
        | none => (s, [], [])
    let s := rd.1
    let a := d.dst + i * d.dstr
    if isRemote d.dst then
      if j.checkrun then (s, acc.2)
      else
        let w := s.sendWrites r (dmaVc q) (remoteMod a) (remoteLocal a) g (s.dmaTag j.core q) j.dseq rd.2.1 rd.2.2
        (w.1, acc.2.1 + rd.2.1.length, (acc.2.2.1.1 + w.2, acc.2.2.1.2), acc.2.2.2)
    else match s.partRange j.part a d.outLen with
      | none => (s, acc.2)
      | some pa =>
        let po := hitGranules pa rd.2.1.length rd.2.2
        if j.checkrun && storeOf pa ≠ some j.core then (s, acc.2)
        else
          let s := s.countMem r pa rd.2.1.length true
          let s := if s.frozenStore pa then s.hold ((storeOf pa).getD 0) (.write pa rd.2.1 po)
            else s.overlap (s.writeMem pa rd.2.1 po) acc.2.2.2 i pa rd.2.1.length
          (s, acc.2.1 + rd.2.1.length, (acc.2.2.1.1, po ++ acc.2.2.1.2), (pa, rd.2.1.length) :: acc.2.2.2)) (s, 0, (0, []), [])
  (w.1.bumpOverlap w.2.2.2, w.2.1, w.2.2.1.1 + (dedupNat w.2.2.1.2).length)

/-- DMA_START: the first waiting descriptor of a queue is checked and its bytes move; with FENCE it waits for every earlier one
(R317); a stopped partition starts none (R370). -/
def State.dmaStart (s : State) (c q : Nat) : State :=
  let k := dmaIdx c q
  let l := s.dmaq k
  match l.findIdx? (fun j => !j.started) with
  | none => s
  | some n =>
    match l[n]? with
    | none => s
    | some j =>
      let d := dmaD j.desc
      if (s.part j.part).stopped || (j.post.isNone && ((d.fence && n ≠ 0) || ((s.dmaError j.part d).isNone && s.dmaHeld j.part d))) then s
      else
        let seq := tget (fun _ => 0) s.fab.dseq k
        let s := { s with fab := { s.fab with dseq := tput (fun _ => 0) s.fab.dseq k ((seq + 1) % 2 ^ 16) } }
        let latch := (j.post.map (fun x => x.1.toNat)).getD d.latch
        let j := { j with started := true, dseq := seq, group := s.entryFor j.part d.dst, lgroup := s.entryFor j.part latch }
        let put (s : State) (j : DmaJob) : State := s.setDmaq k ((s.dmaq k).set n j)
        if j.post.isSome then put s j
        else match s.dmaError j.part d with
        | some e => put s { j with err := e }
        | none =>
          if s.jobStale j then put (s.epochDrop j.lcore) j
          else
            let m := s.dmaMove j q d
            put m.1 { j with bytes := m.2.1, poisoned := m.2.2 }

def execDmaStart (engine queue : Nat) (s : State) : Host.Outcome State Fault Refusal := .next (s.dmaStart engine queue)

/-- The status word (R318). -/
def dmaStatus (j : DmaJob) : Nat := j.err.toNat + 2 ^ 16 * min 0xFFFF j.poisoned + 2 ^ 32 * min 0xFFFFFFFF j.bytes

/-- DMA_COMPLETE: the oldest descriptor of a queue completes (R317, R318): status word, then the latch; with an error no latch, and
its thread's command ends. -/
def State.dmaComplete (s : State) (c q : Nat) : State :=
  let k := dmaIdx c q
  match s.dmaq k with
  | [] => s
  | j :: rest =>
    if !j.started then s
    else
      let s := s.setDmaq k rest
      let tag := s.dmaTag c q
      let r : Req := { s.reqThr c j.thread with part := some j.part }
      match j.post with
      | some (a, v) =>
        if s.jobStale j then s.epochDrop j.lcore else s.postLatch r a.toNat v (dmaVc q) tag j.dseq j.lgroup
      | none =>
        let d := dmaD j.desc
        let s := if d.stat && d.status + 8 ≤ storeSize && !s.jobStale j then
            let b := leBytes 8 (dmaStatus j)
            if s.frozen c then s.hold c (.write (storeBase c + d.status) b []) else s.writeMem (storeBase c + d.status) b else s
        let s := (s.count r 20 1).trace j.part 0x04 uCore c r (min 0xFFFFFFFF j.bytes + 2 ^ 32 * j.err.toNat)
        if j.err ≠ 0 then s.failCmd j.ring j.dcount j.err 0
        else if d.latch = 0 then s
        else if s.jobStale j then s.epochDrop j.lcore
        else s.postLatch r d.latch (BitVec.ofNat 64 d.lvalue) (dmaVc q) tag j.dseq j.lgroup

def execDmaComplete (engine queue : Nat) (s : State) : Host.Outcome State Fault Refusal := .next (s.dmaComplete engine queue)

/-- A STATUS or another late error for a descriptor that has not completed (R447). -/
def State.failJob (s : State) (k dseq : Nat) (code : W16) : State × Bool :=
  let l := s.dmaq k
  if l.any (fun j => j.started && j.dseq = dseq && j.err = 0) then
    (s.setDmaq k (l.map (fun j => if j.started && j.dseq = dseq && j.err = 0 then { j with err := code } else j)), true)
  else (s, false)

end Sys2Proof.Machine
end

