-- ==== Sys2Proof/Machine/Commands.lean ====
section
/-! DEFINITION. The life of a command (R249 to R256, R289, R295 to R297, R536 to R541): taken from its ring and checked, started in
ring order; its completion block and record (Machine/Complete.lean completes it). -/

namespace Sys2Proof.Machine

/-! ### Trackers (R631, R632) -/

/-- Swap the banks of tracker x: the LIVE bank becomes LAST, the other one is zeroed and tagged. -/
def State.swapTracker (s : State) (x : Nat) (seq : W32) (layer oper : W16) : State :=
  let k := s.track x
  let b : Bank := { seq, layer, oper, beat := s.now }
  let live := s.rdB (rCntTrk x) 28
  ({ s with cnt := { s.cnt with tracks := tput (fun _ => {}) s.cnt.tracks x (if live then { k with x := b } else { k with y := b }) } } : State).wrB
    (rCntTrk x) 28 (!live)

/-- A starting command swaps the FOLLOW trackers it matches. -/
def State.followTrackers (s : State) (k : Cmd) : State :=
  [0, 1, 2].foldl (fun s t =>
    let x := 3 * k.part + t
    if s.rdF (rCntTrk x) 31 30 = 2 && s.tracks x (s.reqCmd k) then s.swapTracker x k.seq k.layer k.oper else s) s

/-! ### Taking a descriptor -/

/-- The check level a command runs at (R295). -/
def State.levelOf (s : State) (k : Cmd) : Nat :=
  let p := s.part k.part
  let f := leAt k.desc 1 1 / 32
  max (if f = 7 then p.check else f) p.minCheck

/-- Refuse a command (R297): nothing of it is written. -/
def State.refuse (s : State) (k : Cmd) (code : W16) (order : Nat) : State :=
  (s.updCmd k.ring k.dcount (fun k => { k with refused := true })).failCmd k.ring k.dcount code order

/-- Log that the wing controller of a command consumed poison (R326). -/
def State.wcPoison (s : State) (k : Cmd) (a : Nat) : State := s.logPoison uWc (s.wingOfPart k.part) a (s.reqCmd k)

/-- A read of the wing controller on behalf of a command: bytes, and the first poisoned granule; each is logged (R326). -/
def State.wcRead (s : State) (k : Cmd) (a n : Nat) : State × Option Nat × List Byte :=
  let pa := s.physOf a
  let r := s.readMem pa n
  (r.2.1.foldl (fun s g => s.wcPoison k g) (r.1.countMem (s.reqCmd k) pa n false), r.2.1.head?, r.2.2)

/-- Orders 1 to 8 of R297 for a command that stands in the command list. -/
def State.checkCmd (s : State) (k : Cmd) : State :=
  if descBad k then s.refuse k eDescInvalid 1
  else if acvBad k then s.refuse k eContractVersion 2
  else if !s.inPart k.part k.paramAt k.paramLen then s.refuse k eMemBounds 3
  else
    let r := s.wcRead k k.paramAt k.paramLen
    match r.2.1 with
    | some _ => r.1.refuse k eMemPoison 3
    | none =>
      let s := r.1
      let k := { k with param := r.2.2 }
      let s := s.updCmd k.ring k.dcount (fun c => { c with param := r.2.2 })
      if k.opcode = 1 && !s.inPart k.part k.mSegtab (32 * k.mNseg) then s.refuse k eMemBounds 3
      else
        let t := if k.opcode = 1 then s.wcRead k k.mSegtab (32 * k.mNseg) else (s, none, [])
        match t.2.1 with
        | some _ => t.1.refuse k eMemPoison 3
        | none =>
          let k := { k with segs := t.2.2 }
          let s := t.1.updCmd k.ring k.dcount (fun c => { c with segs := t.2.2 })
          if s.tensorsOut k || (k.opcode = 0x20 && s.collOut k) then s.refuse k eMemBounds 3
          else match (if k.opcode = 0x20 then s.checkColl k else s.checkRest k) with
          | some e => s.refuse k e.1 e.2
          | none => s

/-- DESCRIPTOR_TAKE (R537): the next descriptor of a RUNNING ring is read, from device memory or as the bytes the host's memory
answers, and checked (R297). A stopped partition takes none (R370), nor does one with a frozen core (R190). -/
def State.descriptorTake (s : State) (n : Nat) (hostBytes : List Byte) : State :=
  let r := s.ring n
  let p := n / 8
  if r.st ≠ .running || r.head = r.tail || 2 ^ r.log2e ≤ (r.head - r.chead).toNat || (s.part p).stopped || s.frozenPart p then s
  else
    let a := r.cbase.toNat + 64 * (r.head.toNat % 2 ^ r.log2e)
    let req : Req := { part := some p, wing := s.wingOfPart p }
    let rd : State × List Nat × List Byte :=
      if r.cmdDev then let y := s.readMem (s.physOf a) 64; (y.1.countMem req (s.physOf a) 64 false, y.2)
      else (s.count req 10 64, [], padTo 64 hostBytes)
    let k : Cmd := { ring := n, dcount := r.head.toNat, part := p, desc := rd.2.2, takenAt := s.now, items := 1 }
    let k := { k with level := s.levelOf k, acvChanged := leAt k.desc 2 2 ≠ 0 && leAt k.desc 2 2 < Config.acv.toNat }
    let s := rd.1.setRing n { r with head := r.head + 1 }
    let s := { s with cmds := s.cmds ++ [k] }
    if rd.2.1.isEmpty then s.checkCmd k else (rd.2.1.foldl (fun s g => s.wcPoison k g) s).refuse k eMemPoison 0

def execDescriptorTake (ring : Nat) (hostBytes : List (BitVec 8)) (s : State) : Host.Outcome State Fault Refusal :=
  .next (s.descriptorTake ring hostBytes)

/-! ### Starting -/

/-- Whether a taken command may start. -/
inductive Gate where
  /-- not yet -/
  | wait
  | go
  /-- its wait latch is broken or outside the partition -/
  | fail (code : W16)
  deriving DecidableEq, Repr

/-- The latch wait of a command (R250, R251). -/
def State.waitGate (s : State) (k : Cmd) : Gate :=
  if !k.waitEn then .go
  else if s.partOfCore k.waitCore ≠ some k.part then .fail eSyncLatchBounds
  else match s.phys k.waitCore with
  | none => .fail eSyncLatchBounds
  | some i =>
    let r := s.latch i k.waitLatch
    if condMet 0 (lValue r) k.waitValue 0 then .go
    else if lBroken r then .fail (BitVec.ofNat 16 (0x0500 ||| lEstat r))
    else .wait

/-- Commands of a ring before this one, in the command list. -/
def State.earlier (s : State) (k : Cmd) : List Cmd :=
  (s.cmds.filter (fun c => c.ring = k.ring)).takeWhile (fun c => c.dcount ≠ k.dcount)

/-- The start rule of R251. -/
def State.gate (s : State) (k : Cmd) : Gate :=
  if k.phase ≠ .taken || (s.part k.part).stopped || s.frozenPart k.part then .wait
  else if (s.earlier k).any (fun c => c.phase = .taken) || (k.serial && !(s.earlier k).isEmpty) then .wait
  else s.waitGate k

/-- A command starts. -/
def State.beginCmd (s : State) (k : Cmd) : State :=
  let s := s.updCmd k.ring k.dcount (fun k => { k with phase := .running, beatStart := s.now })
  let w := s.wingOfPart k.part
  (s.followTrackers k).trace k.part 0x01 uWc w (s.reqCmd k) (k.dcount % 2 ^ 32 + 2 ^ 32 * k.ring)

/-- The destination of a command is complete. -/
def State.doneCmd (s : State) (k : Cmd) : State :=
  s.updCmd k.ring k.dcount (fun k => { k with phase := .written, beatEnd := s.now })

/-- The firmware-library program of a command starts on the cores of its partition that take work, and each records the start (R194,
R195). A NOP runs none; a MATMUL's threads and tiles record themselves as they start; a KERNEL runs the tenant's program (R261). -/
def State.recordStarts (s : State) (k : Cmd) : State :=
  if ([0, 1, 0x18] : List Nat).contains k.opcode then s
  else (s.coresOf k.part).foldl (fun s lc =>
    match s.phys lc with
    | some i => if s.coreOpen i then s.ledgerStart i k.seq k.layer k.oper k.part k.level else s
    | none => s) s

/-- Run a command of an opcode when it may start. -/
def State.runCmd (s : State) (ring dc op : Nat) (body : State → Cmd → State) : State :=
  match s.cmd ring dc with
  | none => s
  | some k =>
    if k.opcode ≠ op then s
    else match s.gate k with
    | .wait => s
    | .fail c => s.failCmd ring dc c 0
    | .go => body ((s.beginCmd k).recordStarts k) k

/-- COMMAND_WAIT_TIMEOUT (R251): the wait of a taken command has lasted WAIT_TIMEOUT beats, counted from when it was taken. -/
def State.waitTimeout (s : State) (ring dc : Nat) : State :=
  match s.cmd ring dc with
  | none => s
  | some k =>
    if k.phase = .taken && k.waitEn && k.waitTimeout ≠ 0 && k.takenAt.toNat + k.waitTimeout ≤ s.now.toNat && s.waitGate k = .wait then
      s.failCmd ring dc eSyncTimeout 0
    else s

def execCommandWaitTimeout (ring dcount : Nat) (s : State) : Host.Outcome State Fault Refusal := .next (s.waitTimeout ring dcount)

/-! ### Completion -/

/-- Every thread of a command is FREE or on a fenced core (R289). -/
def State.threadsEnded (s : State) (ring dc : Nat) : Bool :=
  s.threads.all (fun x => x.2.st = .free || x.2.ring ≠ ring || x.2.dcount ≠ dc || s.fenced (x.1 / 32))

/-- The queued array and DMA operations of a command have ended (R289). -/
def State.opsEnded (s : State) (ring dc : Nat) : Bool :=
  let mine (q : TileReq) : Bool := q.ring = ring && q.dcount = dc
  s.arrays.all (fun x => !(x.2.queue.any mine) && !([x.2.lo, x.2.hi, x.2.drain].any (fun r => r.any (fun r => mine r.req))))
  && s.dma.all (fun x => !(x.2.any (fun j => j.ring = ring && j.dcount = dc)))

/-- A KERNEL has started THREADS threads on every core of its partition that takes work. -/
def State.allStarted (s : State) (k : Cmd) : Bool :=
  (s.coresOf k.part).all (fun lc => !((s.phys lc).any (fun i => s.coreOpen i))
    || (List.range k.kThreads).all (fun t => k.started.contains (32 * lc + t)))

def cap32 (n : Nat) : Nat := min 0xFFFFFFFF n

/-- The completion block (R296). -/
def Cmd.block (k : Cmd) : List Byte :=
  leBytes 4 k.seq.toNat ++ leBytes 2 k.err.toNat ++ leBytes 2 Config.acv.toNat ++ leBytes 4 (cap32 k.sat) ++ leBytes 4 (cap32 k.lost)
  ++ leBytes 4 (cap32 k.replays) ++ leBytes 4 (cap32 k.nan) ++ leBytes 4 (cap32 k.nz)
  ++ leBytes 1 (64 * (k.bsNext % 4) + 16 * (k.bsUsed % 4) + (if k.acvChanged then 8 else 0) + k.level % 8)
  ++ leBytes 1 (if k.adapted then 1 else 0) ++ zeros 2 ++ leBytes 4 (cap32 k.items) ++ leBytes 4 (cap32 k.reissued)
  ++ leBytes 4 (cap32 k.reexec) ++ zeros 4 ++ leBytes 8 k.beatStart.toNat ++ leBytes 8 k.beatEnd.toNat

/-- A completion record, its phase bit last (R538, R539). -/
def Cmd.record (k : Cmd) (result signalled : Bool) (beat : W64) (phase : Bool) : List Byte :=
  leBytes 4 k.seq.toNat ++ leBytes 2 k.err.toNat ++ leBytes 1 k.ring
  ++ leBytes 1 ((if result then 1 else 0) + (if signalled then 2 else 0)) ++ leBytes 4 k.dcount ++ leBytes 4 (k.detail % 2 ^ 32)
  ++ leBytes 8 beat.toNat ++ zeros 7 ++ leBytes 1 (if phase then 0x80 else 0)

/-- Write the next record of a ring (R539): phase, slot, interrupt. The records of the commands that a ring had taken when a host reset
halted it are discarded (R510). -/
def State.putRecord (s : State) (k : Cmd) (result signalled : Bool) : State :=
  let r := s.ring k.ring
  if k.discard then s
  else
    let E := 2 ^ r.log2e
    let n := r.written.toNat
    let rec_ := k.record result signalled s.now (n / E % 2 = 0)
    let a := r.rbase.toNat + 32 * (n % E)
    let req : Req := { part := some k.part, wing := s.wingOfPart k.part }
    let s := if r.cplDev then (s.writeMem (s.physOf a) rec_).countMem req (s.physOf a) 32 true else (s.hostWrite a rec_).count req 10 32
    let due := max 1 r.coalN ≤ r.unsig + 1 || r.coalUs = 0
    let s := s.setRing k.ring { r with written := r.written + 1, unsig := if due then 0 else r.unsig + 1 }
    if due then s.irq r.vector else s

end Sys2Proof.Machine
end

