-- ==== Sys2Proof/Machine/TensorRun.lean ====
section
/-! DEFINITION. The elementwise commands and KERNEL (R257 to R261, R291 to R294, R670), each as one transaction at its start
(notes/assumptions/14.md). A poisoned source ends the command as R186 states for a data cause: its destination holds free values. -/

namespace Sys2Proof.Machine

/-! ### Destinations -/

/-- The destination of rows × cols elements of a tensor: DIR 0 shares a scale along the columns, DIR 1 along the rows. -/
def State.destOf (s : State) (t : Tensor) (rows cols : Nat) (val : Nat → Nat → Val) : Dst where
  fmt := t.fmt
  sc := t.sc
  z := t.z
  rows := List.range rows
  cols := List.range cols
  on := fun _ _ => true
  val := val
  sAddr := fun o b => s.physOf t.sbase + o * t.scRow (if scDir t.sc = 0 then cols else rows) + b

/-- Write codes into a tensor, row by row, and count the bytes. -/
def State.putTensor (s : State) (r : Req) (t : Tensor) (rows cols : Nat) (codes : List (Nat × Nat × Nat)) (scales : List (Nat × Byte)) :
    State :=
  let base := s.physOf t.base
  let s := (s.putCodes t.fmt cols true (fun o => base + o * t.pitch cols) codes).putScales scales
  (List.range rows).foldl (fun s o => s.countMem r (base + o * t.pitch cols) (rowBytes t.fmt cols) true) s

/-- A destination with free codes and, in MODE 2, free scales (R186). -/
def State.scramble (s : State) (r : Req) (t : Tensor) (rows cols : Nat) : State :=
  let fc := s.freeCtr
  let code (i j : Nat) : Nat := (Config.freeWord fc (2 * (i * cols + j))).toNat % 2 ^ fmtBits t.fmt
  let n := if scMode t.sc = 2 && isQ t.fmt then t.scSize rows cols else 0
  (s.putTensor r t rows cols ((List.range rows).flatMap (fun i => (List.range cols).map (fun j => (i, j, code i j))))
    ((List.range n).map (fun i => (s.physOf t.sbase + i, Config.freeByte fc (2 * i + 1))))).bump

/-- Add the counts of R85 and R87 to a command. -/
def State.addCounts (s : State) (k : Cmd) (e : Enc) : State :=
  let s := s.updCmd k.ring k.dcount (fun k =>
    { k with sat := cap32 (k.sat + e.sat), lost := cap32 (k.lost + e.lost), nz := if isQ (k.ten 1).fmt then cap32 (k.nz + e.nz) else k.nz })
  (s.count (s.reqCmd k) 23 e.lost).count (s.reqCmd k) 24 e.sat

/-- The shape of a command's destination. -/
def Cmd.dest (k : Cmd) : Tensor × Nat × Nat :=
  match k.shapes.find? (fun x => x.2.2.2) with
  | some x => (x.1, x.2.1, x.2.2.1)
  | none => ({}, 0, 0)

/-- The command met poison: free destination, and MEM_POISON. -/
def State.poisonEnd (s : State) (k : Cmd) : State :=
  let d := k.dest
  (s.scramble (s.reqCmd k) d.1 d.2.1 d.2.2).failCmd k.ring k.dcount eMemPoison 0

/-- Read the source tensor (tensor 0) of a command and go on when nothing of it is poisoned. -/
def State.withSource (s : State) (k : Cmd) (go : State → State) : State :=
  let r := s.readTensor (s.reqCmd k) (k.ten 0) k.rows k.cols
  if r.2 then r.1.poisonEnd k else go r.1

/-- Element (r, c) of the source. -/
def State.srcVal (s : State) (k : Cmd) (r c : Nat) : Val := s.tval (k.ten 0) k.rows k.cols r c

/-- Encode and write a whole destination. -/
def State.putDest (s : State) (k : Cmd) (t : Tensor) (rows cols : Nat) (val : Nat → Nat → Val) : State × Enc :=
  let e := (s.destOf t rows cols val).encode s
  ((s.putTensor (s.reqCmd k) t rows cols e.codes e.scales).addCounts k e, e)

/-! ### NOP, CONVERT, FILL -/

def execNop (ring dcount : Nat) (s : State) : Host.Outcome State Fault Refusal :=
  .next (s.runCmd ring dcount 0 (fun s k => s.doneCmd k))

def State.convertCmd (s : State) (k : Cmd) : State :=
  s.withSource k (fun s => ((s.putDest k (k.ten 1) k.rows k.cols (s.srcVal k)).1).doneCmd k)
def execConvert (ring dcount : Nat) (s : State) : Host.Outcome State Fault Refusal :=
  .next (s.runCmd ring dcount 3 State.convertCmd)

/-- The code FILL writes: PAD, in the upper 32 bits for W48 and W64 (R257). -/
def fillCode (t : Tensor) : Nat := if 8 ≤ t.fmt then t.pad * 2 ^ (fmtBits t.fmt - 32) else t.pad % 2 ^ fmtBits t.fmt

def State.fillCmd (s : State) (k : Cmd) : State :=
  let t := k.ten 0
  (s.putTensor (s.reqCmd k) t k.rows k.cols
    ((List.range k.rows).flatMap (fun i => (List.range k.cols).map (fun j => (i, j, fillCode t)))) []).doneCmd k
def execFill (ring dcount : Nat) (s : State) : Host.Outcome State Fault Refusal := .next (s.runCmd ring dcount 5 State.fillCmd)

/-! ### COPY -/

/-- COPY (R257): the bytes of each row, with the poison they carry (R328); a remote destination takes WRITE packets of a wing DMA
engine, under the group entry chosen at the check, or FAB_GROUP_DENIED (R672). -/
def State.copyCmd (s : State) (k : Cmd) : State :=
  let a := k.ten 0
  let d := k.ten 1
  let n := rowBytes a.fmt k.cols
  let dp := if d.stride = 0 then n else d.stride
  let r := s.reqCmd k
  let wing := s.wingOfPart k.part
  let src (i : Nat) : Nat := s.physOf a.base + i * a.pitch k.cols
  let g := s.entryFor k.part d.base
  if g.isNone then s.failCmd k.ring k.dcount eFabGroupDenied 0 else
  let w := (List.range k.rows).foldl (fun (acc : State × List (Nat × Nat)) i =>
    let s := acc.1
    if k.remoteD then
      let y := s.dmaRead r (.mem (src i)) n
      ((y.1.sendWrites r 0 (remoteMod d.base) (remoteLocal d.base + i * dp) (g.getD 0)
        (tagWing wing 0) 0 y.2.1 y.2.2).1, acc.2)
    else
      let pa := s.physOf d.base + i * dp
      (((s.overlap (s.copyMem (src i) pa n).1 acc.2 i pa n).countMem r (src i) n false).countMem r pa n true, (pa, n) :: acc.2)) (s, [])
  (w.1.bumpOverlap w.2).doneCmd k
def execCopy (ring dcount : Nat) (s : State) : Host.Outcome State Fault Refusal := .next (s.runCmd ring dcount 4 State.copyCmd)

/-! ### QUANTIZE (R291 to R294) -/

/-- QUANTIZE reads its adaptive state record at its start; the record is written at completion (R292, R294). -/
def State.quantizeCmd (s : State) (k : Cmd) : State :=
  s.withSource k (fun s =>
    let rd := if k.adapt then s.wcRead k k.stateAt 16 else (s, none, [])
    match rd.2.1 with
    | some _ => rd.1.poisonEnd k
    | none =>
      let s := rd.1
      let t := k.ten 1
      let b := if k.adapt then leAt rd.2.2 0 1 % 4 else t.sc % 4
      -- the scales of the block size in use, when the record changed since the check (R107, R293)
      if k.adapt && s.badScales (t.withB b) k.rows k.cols then s.refuse k eScaleInvalid 5 else
      let w := s.putDest k (t.withB b) k.rows k.cols (s.srcVal k)
      let s := w.1
      let halve := k.adapt && decide (leAt k.param 12 2 * w.2.nz < w.2.lost * 65536) && decide (k.minB < b)
      let nb := if halve then b - 1 else b
      let h := leAt rd.2.2 1 1
      let rec_ := if k.adapt then leBytes 1 nb ++ leBytes 1 (if halve then holdAdd 255 h 1 else h) ++ zeros 14 else []
      (s.updCmd k.ring k.dcount (fun k => { k with bsUsed := b, bsNext := nb, adapted := halve, adaptRec := rec_ })).doneCmd k)
def execQuantize (ring dcount : Nat) (s : State) : Host.Outcome State Fault Refusal := .next (s.runCmd ring dcount 2 State.quantizeCmd)

/-! ### Reductions (R258, R670) -/

/-- W32 lanes in fast mode. -/
def fastLanes : VC :=
  mkVC { type := 9, strict := false, pn := false, pred := 0, pen := false, vd := 0, va := 0, vb := 0, vc := 0, ss := 0, rsv := 0, imm := 0 } {}

/-- The values along the reduced axis of output i. -/
def State.axisVals (s : State) (k : Cmd) (i : Nat) : List Val :=
  if k.axis = 0 then (List.range k.cols).map (fun c => s.srcVal k i c) else (List.range k.rows).map (fun r => s.srcVal k r i)

/-- Chunks of 128, the last one partial. -/
def chunks128 {α : Type} (l : List α) : List (List α) :=
  (List.range (cdiv l.length 128)).map (fun j => (l.drop (128 * j)).take 128)
/-- 128 lanes of a chunk, the missing ones `d`. -/
def lanes128 {α : Type} (d : α) (l : List α) : List α := l ++ (List.range (128 - l.length)).map (fun _ => d)

/-- A sum reduction: W32 lanes through the tree of R221, chunk results added into a total of format `accf` that starts at +0. -/
def sumTotal (accf : Nat) (sq : Bool) (l : List Val) : Val :=
  let c := fastLanes
  wideVal accf true ((chunks128 l).foldl (fun t ch =>
    let xs := ch.map (fun v => let x := encFast 7 v; if sq then (c.fmul x x).1 else x)
    let r := (tree c.sumOp 0 7 (lanes128 0 xs)).1
    encFast accf (Val.add 0 (wideVal accf true t) (wideVal 7 true r))) 0)

/-- Count, mean and M2 as three W32 words, the count a U32. -/
def momTotal (l : List Val) : Nat × Nat × Nat :=
  let c := fastLanes
  (chunks128 l).foldl (fun t ch =>
    let xs := ch.map (fun v => momOne (encFast 7 v))
    (momCombine c t (tree (momCombine c) (0, 0, 0) 7 (lanes128 (0, 0, 0) xs)).1).1) (0, 0, 0)

/-- REDUCE_SUM and REDUCE_SSQ. -/
def State.sumCmd (sq : Bool) (s : State) (k : Cmd) : State :=
  s.withSource k (fun s =>
    ((s.putDest k { k.ten 1 with stride := 0 } 1 k.outs (fun _ i => sumTotal k.accf sq (s.axisVals k i))).1).doneCmd k)
def execReduceSum (ring dcount : Nat) (s : State) : Host.Outcome State Fault Refusal :=
  .next (s.runCmd ring dcount 8 (State.sumCmd false))
def execReduceSsq (ring dcount : Nat) (s : State) : Host.Outcome State Fault Refusal :=
  .next (s.runCmd ring dcount 9 (State.sumCmd true))

/-- The extreme of the values that are not NaN; NaN when there is none (R102). -/
def extreme (mx : Bool) (l : List Val) : Val :=
  match l.filter (fun v => !v.isNan) with
  | [] => .nan
  | v :: r => r.foldl (fun a b => if mx then Val.max a b else Val.min a b) v

/-- REDUCE_MAX and REDUCE_MIN with the NaN count. -/
def State.extremeCmd (mx : Bool) (s : State) (k : Cmd) : State :=
  s.withSource k (fun s =>
    let nan := ((List.range k.outs).map (fun i => ((s.axisVals k i).filter Val.isNan).length)).foldl (· + ·) 0
    let s := s.updCmd k.ring k.dcount (fun k => { k with nan := cap32 nan })
    ((s.putDest k { k.ten 1 with stride := 0 } 1 k.outs (fun _ i => extreme mx (s.axisVals k i))).1).doneCmd k)
def execReduceMax (ring dcount : Nat) (s : State) : Host.Outcome State Fault Refusal :=
  .next (s.runCmd ring dcount 0xA (State.extremeCmd true))
def execReduceMin (ring dcount : Nat) (s : State) : Host.Outcome State Fault Refusal :=
  .next (s.runCmd ring dcount 0xB (State.extremeCmd false))

/-- MOMENTS: 12 bytes per output. -/
def State.momentsCmd (s : State) (k : Cmd) : State :=
  s.withSource k (fun s =>
    let pa := s.physOf (k.ten 1).base
    let s := (List.range k.outs).foldl (fun t i =>
      let m := momTotal (s.axisVals k i)
      (t.writeMem (pa + 12 * i) (leBytes 4 m.1 ++ leBytes 4 m.2.1 ++ leBytes 4 m.2.2)).countMem (s.reqCmd k) (pa + 12 * i) 12 true) s
    s.doneCmd k)
def execMoments (ring dcount : Nat) (s : State) : Host.Outcome State Fault Refusal := .next (s.runCmd ring dcount 0xC State.momentsCmd)

/-! ### SORT (R106) -/

/-- a may stand before b: NaN last, -0 below +0; descending reverses everything but the NaN. -/
def sortLe (desc : Bool) (a b : Val) : Bool :=
  if a.isNan then b.isNan else if b.isNan then true else if desc then !Val.ltz a b else !Val.ltz b a

/-- Insert before the first element that may not stand before it. -/
def sortIns (desc : Bool) (x : Nat × Val) : List (Nat × Val) → List (Nat × Val)
  | [] => [x]
  | y :: r => if sortLe desc x.2 y.2 then x :: y :: r else y :: sortIns desc x r
/-- The stable order of a row: positions and values. -/
def sortRow (desc : Bool) (l : List (Nat × Val)) : List (Nat × Val) := l.foldr (sortIns desc) []

def State.sortCmd (s : State) (k : Cmd) : State :=
  s.withSource k (fun s =>
    let rows := (List.range k.rows).map (fun r => sortRow (k.pb 11 % 2 = 1) ((List.range k.cols).map (fun c => (c, s.srcVal k r c))))
    let at_ (r c : Nat) : Nat × Val := ((rows[r]?.getD [])[c]?).getD (0, .nan)
    let w := s.putDest k (k.ten 1) k.rows k.cols (fun r c => (at_ r c).2)
    let ix := s.physOf (k.ten 2).base
    let n := 4 * k.rows * k.cols
    let b := (List.range (k.rows * k.cols)).flatMap (fun j => leBytes 4 (at_ (j / k.cols) (j % k.cols)).1)
    ((w.1.writeMem ix b).countMem (s.reqCmd k) ix n true).doneCmd k)
def execSort (ring dcount : Nat) (s : State) : Host.Outcome State Fault Refusal := .next (s.runCmd ring dcount 0x10 State.sortCmd)

/-! ### GATHER and SCATTER_ADD (R260) -/

/-- The entries of an index tensor, or the poisoned granule met. -/
def State.readIndex (s : State) (k : Cmd) (n : Nat) : State × Option Nat × List Nat :=
  let r := s.wcRead k (k.ten 1).base (4 * n)
  (r.1, r.2.1, (List.range n).map (fun j => leAt r.2.2 (4 * j) 4))

/-- The end of an indexed command: INDEX_RANGE when an entry was out of range. -/
def State.indexEnd (s : State) (k : Cmd) (bad : Nat) : State :=
  if bad = 0 then s.doneCmd k else s.failCmd k.ring k.dcount eIndexRange (cap32 bad)

def State.gatherCmd (s : State) (k : Cmd) : State :=
  let x := s.readIndex k k.xrows
  match x.2.1 with
  | some _ => x.1.poisonEnd k
  | none =>
    let a := k.ten 0
    let d := k.ten 2
    let n := rowBytes a.fmt k.cols
    let r := s.reqCmd k
    let s := (x.2.2.zipIdx).foldl (fun s e =>
      let pa := s.physOf d.base + e.2 * d.pitch k.cols
      if e.1 < k.rows then
        let sa := s.physOf a.base + e.1 * a.pitch k.cols
        (((s.copyMem sa pa n).1).countMem r sa n false).countMem r pa n true
      else
        let w := s.packRow d.fmt pa k.cols ((List.range k.cols).map (fun c => (c, d.padCode)))
        (s.writeMem w.1 w.2).countMem r pa n true) x.1
    s.indexEnd k ((x.2.2.filter (fun e => !decide (e < k.rows))).length)
def execGather (ring dcount : Nat) (s : State) : Host.Outcome State Fault Refusal := .next (s.runCmd ring dcount 0x11 State.gatherCmd)

def State.scatterAddCmd (s : State) (k : Cmd) : State :=
  s.withSource k (fun s =>
    let x := s.readIndex k k.rows
    let d := k.ten 2
    let r := s.reqCmd k
    let n := rowBytes d.fmt k.cols
    let rowAt (s : State) (e : Nat) : Nat := s.physOf d.base + e * d.pitch k.cols
    let rd := x.1.readRanges uWc r.wing r ((x.2.2.filter (fun e => decide (e < k.xrows))).map (fun e => (rowAt s e, n)))
    if x.2.1.isSome || rd.2.any (fun y => y.2.isSome) then rd.1.poisonEnd k
    else
      let s := (x.2.2.zipIdx).foldl (fun s e =>
        if e.1 < k.xrows then
          let pa := rowAt s e.1
          let codes := (List.range k.cols).map (fun c =>
            (c, encFast d.fmt (Val.add 0 (s.srcVal k e.2 c) (wideVal d.fmt false (s.elem d.fmt pa c)))))
          let w := s.packRow d.fmt pa k.cols codes
          (s.writeMem w.1 w.2).countMem r pa n true
        else s) rd.1
      s.indexEnd k ((x.2.2.filter (fun e => !decide (e < k.xrows))).length))
def execScatterAdd (ring dcount : Nat) (s : State) : Host.Outcome State Fault Refusal :=
  .next (s.runCmd ring dcount 0x12 State.scatterAddCmd)

/-! ### KERNEL (R261, R279, R282) -/

/-- Active cores of a partition on a wing. -/
def State.activeCores (s : State) (p w : Nat) : Nat := ((s.coresOfWing p w).filter (fun l => (s.phys l).any (fun i => s.coreOpen i))).length

/-- The work counters of the wings that hold cores of a command's partition (R279, R282): the east record claims items 0 up to its
share, the west record the rest. -/
def State.putCounters (s : State) (k : Cmd) (share n tab : Nat) : State :=
  let put (s : State) (wing lo hi : Nat) : State × Nat :=
    let id := s.freeRecord wing
    let a := recordAddr wing id
    (s.writeMem a (workRecord lo hi tab k.seq k.part 0 id), a)
  let east := !(s.coresOfWing k.part 0).isEmpty
  let west := !(s.coresOfWing k.part 1).isEmpty
  let re := if east then put s 0 0 (if west then share else n) else (s, 0)
  let rw_ := if west then put re.1 1 (if east then share else 0) n else (re.1, 0)
  rw_.1.updCmd k.ring k.dcount (fun k => { k with counterE := re.2, counterW := rw_.2 })

/-- KERNEL: a record's ITEMS word, for which a KERNEL has no item table, is free. -/
def State.kernelCmd (s : State) (k : Cmd) : State :=
  let n := k.kItems
  let e := s.activeCores k.part 0
  let w := s.activeCores k.part 1
  let s1 := s.putCounters k (if w = 0 then n else n * e / (e + w)) n (s.free 0).toNat
  s1.bump.updCmd k.ring k.dcount (fun k => { k with items := n })
def execKernel (ring dcount : Nat) (s : State) : Host.Outcome State Fault Refusal := .next (s.runCmd ring dcount 0x18 State.kernelCmd)

end Sys2Proof.Machine
end

