-- ==== Sys2Proof/Machine/Matmul.lean ====
section
/-! DEFINITION. MATMUL (R262 to R272, R278 to R283): its work items and their table, where an item's operands stand and where its
elements go, the combination of a K split, and the state of its destination after a failure. The arrays run the items
(Machine/Arrays.lean). -/

namespace Sys2Proof.Machine

/-! ### Items (R278 to R281) -/

/-- A work item: rows [i0, i0 + rows) of a group, columns [n0, n0 + cols), part of K. -/
structure MItem where
  g : MGroup
  i0 : Nat
  rows : Nat
  n0 : Nat
  cols : Nat
  part : Nat
  deriving DecidableEq, Repr

/-- Tile width of a group after h halvings, floor 64. -/
def tileN (ncols : Nat) : Nat → Nat
  | 0 => if ncols ≤ 512 then ncols else 256
  | h + 1 => let n := tileN ncols h; if 64 < n then max 64 (n / 2) else n

/-- The tiles of a group: n-tiles outer when the bytes of one n-tile of W exceed those of one m-tile of X (R278). -/
def groupItems (k : Cmd) (g : MGroup) (h mt : Nat) : List MItem :=
  let nt := max 1 (tileN g.ncols h)
  let ms := (List.range (cdiv g.rows mt)).map (fun i => (mt * i, min mt (g.rows - mt * i)))
  let ns := (List.range (cdiv g.ncols nt)).map (fun i => (nt * i, min nt (g.ncols - nt * i)))
  let wOuter := decide (mt * rowBytes (k.ten 0).fmt g.klen < nt * rowBytes (k.ten 1).fmt g.klen)
  let pairs := if wOuter then ns.flatMap (fun n => ms.map (fun m => (m, n))) else ms.flatMap (fun m => ns.map (fun n => (m, n)))
  pairs.flatMap (fun x => (List.range k.mParts).map (fun j => ⟨g, x.1.1, x.1.2, x.2.1, x.2.2, j⟩))

/-- The halving loop of R278: `fuel` bounds it; c is the number of active cores. -/
def planItems (k : Cmd) (gs : List MGroup) (c : Nat) : Nat → Nat → Nat → List MItem
  | 0, h, mt => gs.flatMap (fun g => groupItems k g h mt)
  | fuel + 1, h, mt =>
    let items := gs.flatMap (fun g => groupItems k g h mt)
    if 4 * c ≤ items.length then items
    else if gs.any (fun g => 64 < tileN g.ncols h) then planItems k gs c fuel (h + 1) mt
    else if 64 < mt then planItems k gs c fuel h (mt / 2)
    else items

/-- A tile that may run in one half of an array (R281). -/
def MItem.pairable (x : MItem) : Bool := x.rows ≤ 32 && x.cols ≤ 256

/-- Each pairable item takes the next pairable item as its partner, which moves behind it (R281, R283). `hold` is an item that waits for
a partner with the items that stand after it. The numbers are the entries' FLAGS: 1 PAIRED, 2 HALFHI. -/
def pairItems : List MItem → Option (MItem × List MItem) → List (MItem × Nat)
  | [], none => []
  | [], some (x, l) => (x, 0) :: l.map (fun y => (y, 0))
  | x :: r, none => if x.pairable then pairItems r (some (x, [])) else (x, 0) :: pairItems r none
  | x :: r, some (y, l) =>
    if x.pairable then (y, 1) :: (x, 2) :: (l.map (fun z => (z, 0)) ++ pairItems r none) else pairItems r (some (y, l ++ [x]))

/-- The items of a MATMUL in item order, for c active cores on the wing whose controller plans it. -/
def Cmd.plan (k : Cmd) (c : Nat) : List (MItem × Nat) := pairItems (planItems k (mGroups k.segments) c 24 0 256) none

/-- Two items are parts of one output tile. -/
def MItem.sameTile (x y : MItem) : Bool := { x with part := 0 } = { y with part := 0 }

/-- The east wing's share of the items (R279): in proportion to its active cores, rounded down, and further down to where no pair and no
K split lies on both wings (R44; notes/assumptions/14.md). -/
def eastShare (items : List (MItem × Nat)) (e w : Nat) : Nat :=
  let whole (n : Nat) : Bool :=
    (items[n]?.map (·.2)) ≠ some 2 && !((items.take n).any (fun x => (items.drop n).any (fun y => x.1.sameTile y.1)))
  if w = 0 then items.length
  else if e = 0 then 0
  else ((List.range (items.length * e / (e + w) + 1)).reverse.find? whole).getD 0

/-! ### The item table (R283) -/

/-- Column-enable mask (R280): a column is enabled when one of its rows is. -/
def MItem.smask (x : MItem) : Nat :=
  (List.range 64).foldl (fun a j => if (span x.i0 x.rows).any (fun i => (i - x.i0) % 64 = j && x.g.on i) then a + 2 ^ j else a) 0

/-- The entry of an item. -/
def MItem.entry (x : MItem) (flags : Nat) : List Byte :=
  leBytes 4 (x.g.m0 + x.i0) ++ leBytes 2 x.rows ++ leBytes 2 x.cols ++ leBytes 4 x.n0 ++ leBytes 2 x.g.seg ++ leBytes 1 x.part
    ++ leBytes 1 flags ++ leBytes 8 x.smask ++ zeros 8

/-- Where a new item table stands: behind those of the live commands, in the firmware's granule (notes/assumptions/14.md). -/
def State.freeTable (s : State) : Nat := s.cmds.foldl (fun a k => if k.tab = 0 then a else max a (k.tab + 32 * k.items)) (fwGran + 2 ^ 28)

/-- The item and the FLAGS that an entry's bytes spell. -/
def Cmd.itemOf (k : Cmd) (b : List Byte) : Option (MItem × Nat) :=
  ((mGroups k.segments).find? (fun g => g.seg = leAt b 12 2)).map (fun g =>
    (⟨g, leAt b 0 4 - g.m0, leAt b 4 2, leAt b 8 4, leAt b 6 2, leAt b 14 1⟩, leAt b 15 1))

/-- Entry i of a command's item table, read from memory. -/
def State.itemAt (s : State) (k : Cmd) (i : Nat) : Option (MItem × Nat) := k.itemOf (s.readMem (k.tab + 32 * i) 32).2.2

/-- Thresholds of R553 for L1 to L4, of 64. -/
def checkShare (level : Nat) : Nat := if level = 1 then 1 else if level = 2 then 4 else if level = 3 then 16 else if 4 ≤ level then 64 else 0
/-- Item i is selected for re-execution (R553). -/
def checkSelected (seq : W32) (level i : Nat) : Bool :=
  decide (crc32c (leBytes 4 seq.toNat ++ leBytes 4 i) % 64 < checkShare level)

/-- MATMUL starts: the wing controller of its ring plans the items and writes the item table and the work counters of the wings
(R278, R279, R282, R283). -/
def State.matmulCmd (s : State) (k : Cmd) : State :=
  let items := k.plan (s.activeCores k.part (s.wingOfPart k.part))
  let tab := s.freeTable
  let s := items.zipIdx.foldl (fun s x => s.writeMem (tab + 32 * x.2) (x.1.1.entry x.1.2)) s
  let share := eastShare items (s.activeCores k.part 0) (s.activeCores k.part 1)
  let n := items.length
  let s := s.updCmd k.ring k.dcount (fun k => { k with
    tab, items := n, checks := ((List.range n).filter (checkSelected k.seq k.level)).map (fun i => { item := i }) })
  s.putCounters k share n tab

def execMatmul (ring dcount : Nat) (s : State) : Host.Outcome State Fault Refusal := .next (s.runCmd ring dcount 1 State.matmulCmd)

/-! ### An item as a tile -/

/-- Bounds of part j along k (R270). -/
def partBounds (k : Cmd) (klen j : Nat) : Nat × Nat :=
  let P := cdiv klen 64
  let p := k.mParts
  if p = 1 then (0, klen) else (64 * (j * P / p), min klen (64 * ((j + 1) * P / p)))

/-- Elements of an item's part along k. -/
def MItem.kLen (k : Cmd) (x : MItem) : Nat := let b := partBounds k x.g.klen x.part; b.2 - b.1

/-- A tile descriptor with the fields given by ID (R230). -/
def descOf (l : List (Nat × Nat)) : TDesc :=
  l.foldl (fun d x =>
    match tfield x.1 with
    | some (hi, lo) => bfSet d hi lo x.2
    | none => d) 0

/-- The tile of an item: shape, formats and accumulation parameters; its operands and its destination stand where the command says
(`State.itemX`, `State.itemW`, `State.itemOut`). The grand totals of a part go out in W48 (R271). -/
def Cmd.itemDesc (k : Cmd) (x : MItem) : TDesc :=
  let a := k.ten 0
  let w := k.ten 1
  let d := k.ten 2
  descOf ([(9, x.rows - 1), (0xA, x.cols - 1), (0xB, x.kLen k - 1), (0xC, a.fmt), (0xD, w.fmt), (0xF, a.sc), (0x10, w.sc),
    (0x12, k.mSeg), (0x13, k.pb 13), (0x14, k.pb 14), (0x15, wrap 8 a.z), (0x16, wrap 8 w.z), (0x18, if k.mRowMajor then 1 else 0)]
    ++ (if k.mParts = 1 then [(0xE, d.fmt), (0x11, d.sc), (0x17, wrap 8 d.z)] else [(0xE, 8)]))

/-- Enabled rows of an item, from its first row (R267, R280). -/
def MItem.on (x : MItem) : List Nat := (List.range x.rows).filter (fun i => x.g.on (x.i0 + i))

/-- Elements that are fed along k: to the end of the last segment that holds one (R125). -/
def fedLen (L n : Nat) : Nat := L * cdiv n L

/-- X of an item (R263, R269). A DIR 1 scale tensor holds a scale row for every k below K, past KLEN too. -/
def State.itemX (s : State) (k : Cmd) (x : MItem) : Feed :=
  let t := k.ten 0
  let r0 := x.g.xrow + x.i0
  let b := partBounds k x.g.klen x.part
  let L := segLen t.fmt t.sc (k.ten 1).fmt (k.ten 1).sc k.mSeg
  { fmt := t.fmt, sc := t.sc, z := t.z, pad := t.padCode, which := 0, rows := x.on, k0 := b.1, kLen := b.2 - b.1
    kPad := fedLen L (b.2 - b.1)
    addr := fun o => s.physOf t.base + (r0 + o) * t.pitch k.mK + fmtBits t.fmt * b.1 / 8
    blk := fun o => (r0 + o) / scB t.sc
    scAddr := fun r c => s.physOf t.sbase + c
      + (if scDir t.sc = 0 then (r0 + r) * t.scRow k.mK else r * t.scRow (xRows k k.segments))
    scRows := k.mK }

/-- W of an item: with every row masked, none of it is read (R147). -/
def State.itemW (s : State) (k : Cmd) (x : MItem) : Feed :=
  let t := k.ten 1
  let b := partBounds k x.g.klen x.part
  let L := segLen (k.ten 0).fmt (k.ten 0).sc t.fmt t.sc k.mSeg
  let base := s.physOf (t.base + x.g.widx * k.mWmat)
  let sbase := s.physOf (t.sbase + x.g.widx * wScaleSize k)
  { fmt := t.fmt, sc := t.sc, z := t.z, pad := t.padCode, which := 1, rows := if x.on.isEmpty then [] else List.range x.cols
    k0 := b.1, kLen := b.2 - b.1, kPad := fedLen L (b.2 - b.1)
    addr := fun o => base + (x.n0 + o) * t.pitch k.mK + fmtBits t.fmt * b.1 / 8
    blk := fun o => (x.n0 + o) / scB t.sc
    scAddr := fun r c => sbase + c + (if scDir t.sc = 0 then (x.n0 + r) * t.scRow k.mK else r * t.scRow k.mN)
    scRows := k.mK }

/-! ### The destination -/

/-- Physical address of packed row o of D: a storage row, or a column under the other layout. -/
def State.dRow (s : State) (k : Cmd) (o : Nat) : Nat := s.physOf (k.ten 2).base + o * dPitch k (dRows k k.segments)

/-- Old value of D at a storage row and column, read exactly (R264). -/
def State.matOld (s : State) (k : Cmd) (row n : Nat) : Val :=
  let d := k.ten 2
  wideVal d.fmt false (if k.mRowMajor then s.elem d.fmt (s.dRow k row) n else s.elem d.fmt (s.dRow k n) row)

/-- The value an element takes before conversion (R264, R271). -/
def State.matOut (s : State) (k : Cmd) (row n : Nat) (v : Val) : Val :=
  if k.mAcc then roundW48 (Val.add 0 v (s.matOld k row n)) else v

/-- A destination in D: storage rows and columns, with the values before ACC. -/
def State.matDst (s : State) (k : Cmd) (rows cols : List Nat) (val : Nat → Nat → Val) : Dst :=
  let d := k.ten 2
  { fmt := d.fmt, sc := d.sc, z := d.z, rows, cols
    on := fun _ _ => true
    val := fun r n => s.matOut k r n (val r n)
    sAddr := fun o b => s.physOf d.sbase + o * d.scRow (if scDir d.sc = 0 then k.mN else dRows k k.segments) + b }

/-- Byte ranges of D and its scales that a commit of these rows and columns reads: old values under ACC (R264), scales in MODE 1. -/
def State.matDstReads (s : State) (k : Cmd) (rows cols : List Nat) : List (Nat × Nat) :=
  let d := k.ten 2
  let x := s.matDst k rows cols (fun _ _ => .zero false)
  let cells := rows.flatMap (fun r => cols.map (fun n => (r, n)))
  (if k.mAcc then cells.map (fun c => let z := wideSize d.fmt
      if k.mRowMajor then (s.dRow k c.1 + z * c.2, z) else (s.dRow k c.2 + z * c.1, z)) else [])
    ++ (if isQ d.fmt && scMode d.sc = 1 then
        (dedupNat (cells.map (fun c => let b := x.blockOf c.1 c.2; x.sAddr b.1 b.2))).map (fun a => (a, 1)) else [])

/-- Every storage row of D is written by the command. -/
def Cmd.rowsFull (k : Cmd) : Bool :=
  let gs := mGroups k.segments
  (List.range (dRows k k.segments)).all (fun r => gs.any (fun g => g.drow ≤ r && r < g.drow + g.rows && g.on (r - g.drow)))

/-- Write codes of D; packed rows follow DLAYOUT. Where the command writes a whole packed row, the bits beyond it become zero with its
last element (R65). -/
def State.matPut (s : State) (k : Cmd) (r : Req) (codes : List (Nat × Nat × Nat)) (scales : List (Nat × Byte)) : State :=
  let d := k.ten 2
  let n := if k.mRowMajor then k.mN else dRows k k.segments
  let outer (c : Nat × Nat × Nat) : Nat := if k.mRowMajor then c.1 else c.2.1
  let inner (c : Nat × Nat × Nat) : Nat := if k.mRowMajor then c.2.1 else c.1
  let full (o : Nat) : Bool :=
    if k.mRowMajor then (mGroups k.segments).any (fun g => g.drow ≤ o && o < g.drow + g.rows && g.ncols = k.mN) else k.rowsFull
  let s := (s.putCodes d.fmt n k.mRowMajor (s.dRow k) codes).putScales scales
  let s := ((dedupNat ((codes.filter (fun c => inner c + 1 = n)).map outer)).filter full).foldl (fun s o => s.zeroTail d.fmt (s.dRow k o) n) s
  (dedupNat (codes.map outer)).foldl (fun s o =>
    s.countMem r (s.dRow k o) (cdiv (fmtBits d.fmt * (codes.filter (fun c => outer c = o)).length) 8) true) s

/-! ### The state of D after a failure (R148, R186) -/

/-- A storage element of D belongs to an item's tile. -/
def MItem.has (x : MItem) (row n : Nat) : Bool :=
  x.g.drow + x.i0 ≤ row && row < x.g.drow + x.i0 + x.rows && x.n0 ≤ n && n < x.n0 + x.cols

/-- D of a command that failed: the tiles of `keep`, which committed or are not written, stand; every other element holds a free value,
and so does a selected scale whose block has none of their elements. -/
def State.matScramble (s : State) (k : Cmd) (keep : List MItem) : State :=
  let fc := s.freeCtr
  let d := k.ten 2
  let cells := (mGroups k.segments).flatMap (fun g =>
    ((List.range g.rows).filter g.on).flatMap (fun i => (List.range g.ncols).map (fun n => (g.drow + i, n))))
  let kept (c : Nat × Nat) : Bool := keep.any (fun x => x.has c.1 c.2)
  let codes := (cells.filter (fun c => !kept c)).map (fun c =>
    (c.1, c.2, (Config.freeWord fc (2 * (c.1 * k.mN + c.2))).toNat % 2 ^ fmtBits d.fmt))
  let x := s.matDst k [] [] (fun _ _ => .zero false)
  let addr (c : Nat × Nat) : Nat := let b := x.blockOf c.1 c.2; x.sAddr b.1 b.2
  let fixed := (cells.filter kept).map addr
  let sc := if isQ d.fmt && scMode d.sc = 2 then (dedupNat (codes.map (fun c => addr (c.1, c.2.1)))).filter (fun a => !fixed.contains a) else []
  (s.matPut k (s.reqCmd k) codes (sc.map (fun a => (a, Config.freeByte fc (2 * a + 1))))).bump

/-! ### The combination of parts (R271) -/

/-- One level of the pairwise tree. -/
def pairLevel : List Val → List Val
  | a :: b :: r => roundW48 (Val.add 0 a b) :: pairLevel r
  | l => l
/-- The pairwise tree; `fuel` bounds its levels. -/
def pairTree : Nat → List Val → Val
  | 0, l => l.headD (.zero false)
  | f + 1, l => if l.length ≤ 1 then l.headD (.zero false) else pairTree f (pairLevel l)
/-- combine of R271, before the conversion. -/
def combineParts (tree : Nat) (g : List Val) : Val :=
  if tree = 0 then
    match g with
    | [] => .zero false
    | a :: r => r.foldl (fun t x => roundW48 (Val.add 0 t x)) a
  else pairTree 5 g

/-- Address of the W48 grand total of part j at logical row m, column n (R271). -/
def State.partAt (s : State) (k : Cmd) (j m n : Nat) : Nat := s.physOf k.scratch + ((j * k.mM + m) * k.mN + n) * 6

end Sys2Proof.Machine
end

