-- ==== Sys2Proof/Machine/Flash.lean ====
section
/-! DEFINITION. Flash images in two slots (R612 to R616, R626) and the runtime tables that have a live copy beside their flash copy. -/

namespace Sys2Proof.Machine

/-- The two slots of an image kind as the module is shipped: firmware, a spare map and pattern sets in slot A, nothing else
(notes/assumptions/11.md). -/
def shipped (k : Nat) : Image := if k = 0 || k = 4 || 6 ≤ k then { aOk := true, aSeq := 1, live := 1 } else {}
def State.image (s : State) (k : Nat) : Image := tget shipped s.pwr.images k

/-- The slot in use: the valid one with the higher sequence, slot A on equality (R614); true for B. -/
def Image.inUse (i : Image) : Option Bool :=
  if i.aOk && i.bOk then some (decide (i.aSeq < i.bSeq)) else if i.aOk then some false else if i.bOk then some true else none
/-- The sequence in use; 0 for none. -/
def Image.seq (i : Image) : Nat :=
  match i.inUse with
  | some true => i.bSeq
  | some false => i.aSeq
  | none => 0
/-- Firmware version of the slot in use. -/
def Image.ver (i : Image) : W32 := if i.inUse = some true then i.bVer else i.aVer
/-- A new copy goes into the invalid slot, or else into the one with the lower sequence (R615). -/
def Image.put (i : Image) (seq : Nat) (ver : W32 := 0) : Image :=
  if !i.aOk then { i with aOk := true, aSeq := seq, aVer := ver }
  else if !i.bOk then { i with bOk := true, bSeq := seq, bVer := ver }
  else if i.bSeq < i.aSeq then { i with bSeq := seq, bVer := ver } else { i with aSeq := seq, aVer := ver }

/-- CFG_IMG_k (R626). -/
def Image.word (i : Image) : W32 :=
  BitVec.ofNat 32 ((if i.aOk then 2 ^ 31 else 0) + (if i.bOk then 2 ^ 30 else 0) + (if i.inUse = some true then 2 ^ 29 else 0)
    + i.seq % 2 ^ 24)

/-- Store an image's slots and show them in CFG_IMG_k. -/
def State.setImage (s : State) (k : Nat) (i : Image) : State :=
  ({ s with pwr := { s.pwr with images := tput shipped s.pwr.images k i } } : State).wr (rCfgImg k) i.word

/-- Write a copy of an image at once (R615). -/
def State.flashImage (s : State) (k : Nat) : State :=
  let i := s.image k
  let n := i.seq + 1
  s.setImage k { i.put n with live := n, dirty := false }

/-- A change of a runtime table of kinds 3 to 5 commits by raising the live copy's sequence (R616). -/
def State.commitTable (s : State) (k : Nat) : State :=
  let i := s.image k
  { s with pwr := { s.pwr with images := tput shipped s.pwr.images k { i with live := i.live + 1, dirty := true } } }

/-- Write the flash copy of a runtime table (R616). -/
def State.flashTable (s : State) (k : Nat) : State :=
  let i := s.image k
  if !i.dirty then s
  else
    let s := s.setImage k { i.put i.live with dirty := false }
    if k = 3 then { s with pwr := { s.pwr with flashParts := s.parts.filter (fun p => p.2.st = .ready) } }
    else if k = 4 then { s with flashMap := s.spareMap, memx := { s.memx with flashRows := s.memx.rowMap } }
    else if k = 5 then { s with pwr := { s.pwr with flashPolicy := s.pwr.policy } }
    else s

/-- FLASH_COPY_WRITE. -/
def execFlashCopyWrite (kind : Nat) (s : State) : Host.Outcome State Fault Refusal :=
  .next (if 3 ≤ kind && kind ≤ 5 then s.flashTable kind else s)

end Sys2Proof.Machine
end

