-- ==== Sys2Proof/Machine/Scalar.lean ====
section
/-! DEFINITION. The S slot (R207 to R212). -/

namespace Sys2Proof.Machine

/-- IMM sign-extended (R209). -/
def sImm (f : SF) : W64 := f.imm.signExtend 64
def sD (f : SF) : Nat := f.sd.toNat
def sA (f : SF) (x : Thread) : W64 := x.sreg f.sa.toNat
def sB (f : SF) (x : Thread) : W64 := x.sreg f.sb.toNat

/-- An S slot that writes sd from the named sources; a reserved bit raises BUNDLE_INVALID (R206). -/
def sWrite (f : SF) (srcs : List RegRef) (v : W64) : SlotOut :=
  if f.rsv ≠ 0 then .raises 0 cBundle [.s (sD f)] else { kind := 0, srcs, dsts := [.s (sD f)], writes := [.s (sD f) v] }

def sOne (f : SF) (x : Thread) (g : W64 → W64) : SlotOut := sWrite f [.s f.sa.toNat] (g (sA f x))
def sTwo (f : SF) (x : Thread) (g : W64 → W64 → W64) : SlotOut :=
  sWrite f [.s f.sa.toNat, .s f.sb.toNat] (g (sA f x) (sB f x))

/-- 1 or 0. -/
def bit01 (b : Bool) : W64 := if b then 1 else 0

/-- Branch target (R210), checked against the core store whether the branch is taken or not (R211; notes/assumptions/22.md). -/
def sBranch (f : SF) (x : Thread) (srcs : List RegRef) (taken : Bool) (link : List RegWrite := []) : SlotOut :=
  let tgt := x.pc + 32 * (sImm f)
  if f.rsv ≠ 0 then .raises 0 cBundle (link.map RegWrite.ref)
  else if 0x200000 ≤ tgt.toNat then .raises 0 cBounds (link.map RegWrite.ref) srcs
  else { kind := 0, srcs, dsts := link.map RegWrite.ref, writes := link, target := if taken then some tgt else none }

def sCond (f : SF) (x : Thread) (g : W64 → W64 → Bool) : SlotOut :=
  sBranch f x [.s f.sa.toNat, .s f.sb.toNat] (g (sA f x) (sB f x))

def slotSNop (f : SF) : SlotOut := if f.rsv ≠ 0 then .raises 0 cBundle else { kind := 0 }
def slotSAdd (f : SF) (x : Thread) : SlotOut := sTwo f x (· + ·)
def slotSSub (f : SF) (x : Thread) : SlotOut := sTwo f x (· - ·)
def slotSAddi (f : SF) (x : Thread) : SlotOut := sOne f x (· + (sImm f))
def slotSMul (f : SF) (x : Thread) : SlotOut := sTwo f x (· * ·)
def slotSMulhu (f : SF) (x : Thread) : SlotOut :=
  sTwo f x (fun a b => BitVec.ofNat 64 (a.toNat * b.toNat / 2 ^ 64))
def slotSMulhs (f : SF) (x : Thread) : SlotOut :=
  sTwo f x (fun a b => BitVec.ofInt 64 (a.toInt * b.toInt / ((2 ^ 64 : Nat) : Int)))
def slotSAnd (f : SF) (x : Thread) : SlotOut := sTwo f x (· &&& ·)
def slotSOr (f : SF) (x : Thread) : SlotOut := sTwo f x (· ||| ·)
def slotSXor (f : SF) (x : Thread) : SlotOut := sTwo f x (· ^^^ ·)
def slotSAndi (f : SF) (x : Thread) : SlotOut := sOne f x (· &&& (sImm f))
def slotSShl (f : SF) (x : Thread) : SlotOut := sTwo f x (fun a b => a <<< (b.toNat % 64))
def slotSShr (f : SF) (x : Thread) : SlotOut := sTwo f x (fun a b => a >>> (b.toNat % 64))
def slotSSar (f : SF) (x : Thread) : SlotOut := sTwo f x (fun a b => a.sshiftRight (b.toNat % 64))
def slotSShli (f : SF) (x : Thread) : SlotOut := sOne f x (fun a => a <<< bf f.imm 5 0)
def slotSShri (f : SF) (x : Thread) : SlotOut := sOne f x (fun a => a >>> bf f.imm 5 0)
def slotSSari (f : SF) (x : Thread) : SlotOut := sOne f x (fun a => a.sshiftRight (bf f.imm 5 0))
def slotSSlt (f : SF) (x : Thread) : SlotOut := sTwo f x (fun a b => bit01 (a.slt b))
def slotSSltu (f : SF) (x : Thread) : SlotOut := sTwo f x (fun a b => bit01 (a.ult b))
def slotSSeq (f : SF) (x : Thread) : SlotOut := sTwo f x (fun a b => bit01 (a = b))
def slotSMin (f : SF) (x : Thread) : SlotOut := sTwo f x (fun a b => if a.slt b then a else b)
def slotSMax (f : SF) (x : Thread) : SlotOut := sTwo f x (fun a b => if a.slt b then b else a)
def slotSMinu (f : SF) (x : Thread) : SlotOut := sTwo f x (fun a b => if a.ult b then a else b)
def slotSMaxu (f : SF) (x : Thread) : SlotOut := sTwo f x (fun a b => if a.ult b then b else a)
def slotSLi (f : SF) : SlotOut := sWrite f [] (sImm f)
def slotSLui (f : SF) (x : Thread) : SlotOut :=
  sOne f x (fun a => (f.imm.setWidth 64 <<< 32) ||| (a.setWidth 32).setWidth 64)
def slotSPopc (f : SF) (x : Thread) : SlotOut := sOne f x (fun a => BitVec.ofNat 64 (popNat 64 a.toNat))
def slotSClz (f : SF) (x : Thread) : SlotOut :=
  sOne f x (fun a => if a = 0 then 64 else BitVec.ofNat 64 (63 - Nat.log2 a.toNat))
/-- Bits beyond bit 63 read zero (R210). -/
def slotSBfx (f : SF) (x : Thread) : SlotOut :=
  sOne f x (fun a => BitVec.ofNat 64 ((a.toNat >>> bf f.imm 5 0) % 2 ^ (bf f.imm 11 6 + 1)))
def slotSB (f : SF) (x : Thread) : SlotOut := sBranch f x [] true
def slotSBeq (f : SF) (x : Thread) : SlotOut := sCond f x (fun a b => a = b)
def slotSBne (f : SF) (x : Thread) : SlotOut := sCond f x (fun a b => a ≠ b)
def slotSBlt (f : SF) (x : Thread) : SlotOut := sCond f x (fun a b => a.slt b)
def slotSBge (f : SF) (x : Thread) : SlotOut := sCond f x (fun a b => !a.slt b)
def slotSBltu (f : SF) (x : Thread) : SlotOut := sCond f x (fun a b => a.ult b)
def slotSBgeu (f : SF) (x : Thread) : SlotOut := sCond f x (fun a b => !a.ult b)
def slotSCall (f : SF) (x : Thread) : SlotOut := sBranch f x [] true [.s (sD f) (x.pc + 32)]
/-- S.JR (R211): BOUNDS at or above the core store, ALIGN off a bundle. -/
def slotSJr (f : SF) (x : Thread) : SlotOut :=
  let a := sA f x
  if f.rsv ≠ 0 then .raises 0 cBundle
  else if 0x200000 ≤ a.toNat then .raises 0 cBounds [] [.s f.sa.toNat]
  else if a.toNat % 32 ≠ 0 then .raises 0 cAlign [] [.s f.sa.toNat]
  else { kind := 0, srcs := [.s f.sa.toNat], target := some a }

/-- The FPST word: RM in [7:5], flags in [4:0] (R207). -/
def Thread.fpst (x : Thread) : W64 := (x.rm ++ x.flags).setWidth 64

/-- A control register's value (R207); CYCLE is a free value (notes/assumptions/15.md). -/
def State.crd (s : State) (c t i : Nat) : Option W64 :=
  let x := s.thr c t
  if i = 0 then some x.fpst
  else if i = 1 then some (BitVec.ofNat 64 (x.qlost * 2 ^ 32 + x.qsat))
  else if i = 2 then some (x.wstat.setWidth 64)
  else if i = 3 then some (BitVec.ofNat 64 t)
  else if i = 4 then some (BitVec.ofNat 64 ((s.logical c).getD 0xFF))
  else if i = 5 then some (BitVec.ofNat 64 x.part)
  else if i = 6 then some (x.seq.setWidth 64)
  else if i = 7 then some (BitVec.ofNat 64 x.epoch)
  else if i = 8 then some s.now
  else if i = 9 then some (s.free 0)
  else if i = 10 then some ((x.layer ++ x.oper).setWidth 64)
  else none

def slotSCrd (f : SF) (s : State) (c t : Nat) : SlotOut :=
  match s.crd c t (bf f.imm 7 0) with
  | none => .raises 0 cBundle [.s (sD f)]
  | some v =>
    let o := sWrite f [] v
    if bf f.imm 7 0 = 9 then { o with act := fun s => s.bump } else o

/-- A write of RM 5 to 7 stores 0 (R94). -/
def rmStored (r : Nat) : BitVec 3 := if r < 5 then BitVec.ofNat 3 r else 0

def slotSCwr (f : SF) (x : Thread) (c t : Nat) : SlotOut :=
  let i := bf f.imm 7 0
  let v := sA f x
  if f.rsv ≠ 0 then .raises 0 cBundle
  else if i = 0 then
    { kind := 0, srcs := [.s f.sa.toNat],
      act := fun s => s.setThr c t { s.thr c t with rm := rmStored (bf v 7 5), flags := v.setWidth 5 } }
  else if i = 1 then
    { kind := 0, srcs := [.s f.sa.toNat],
      act := fun s => s.setThr c t { s.thr c t with qsat := bf v 31 0, qlost := bf v 63 32 } }
  else .raises 0 cBundle

def slotSPcnt (f : SF) (x : Thread) : SlotOut :=
  sWrite f [.p (bf f.imm 2 0)] (BitVec.ofNat 64 (popNat 512 (x.preg (bf f.imm 2 0)).toNat))

/-- BREAK only in the SERVICE life-cycle state with a breakpoint armed (R182, R210). -/
def slotSBrk (f : SF) (s : State) (c : Nat) : SlotOut :=
  if f.rsv ≠ 0 then .raises 0 cBundle
  else if (s.core c).bkpt && s.test.lc = 3 then .raises 0 cBreak else { kind := 0 }

def slotSEnd (f : SF) : SlotOut := if f.rsv ≠ 0 then .raises 0 cBundle else { kind := 0, ends := true }

end Sys2Proof.Machine
end

