-- ==== Sys2Proof/Machine/Issue.lean ====
section
/-! DEFINITION. The slot commands: each slot instruction is offered to its thread's bundle; the last slot of a bundle issues it
(R161 to R163, R202 to R206; notes/assumptions/2.md). One `exec` definition per slot row. -/

namespace Sys2Proof.Machine

/-- What the slot of a command asks for; none for a command that is no slot. -/
def slotOut (i : Instr) (s : State) (c t : Nat) : Option SlotOut :=
  let y := s.thr c t
  match i with
  | .sNop _ f => some (slotSNop f)
  | .sAdd _ f => some (slotSAdd f y)
  | .sSub _ f => some (slotSSub f y)
  | .sAddi _ f => some (slotSAddi f y)
  | .sMul _ f => some (slotSMul f y)
  | .sMulhu _ f => some (slotSMulhu f y)
  | .sMulhs _ f => some (slotSMulhs f y)
  | .sAnd _ f => some (slotSAnd f y)
  | .sOr _ f => some (slotSOr f y)
  | .sXor _ f => some (slotSXor f y)
  | .sAndi _ f => some (slotSAndi f y)
  | .sShl _ f => some (slotSShl f y)
  | .sShr _ f => some (slotSShr f y)
  | .sSar _ f => some (slotSSar f y)
  | .sShli _ f => some (slotSShli f y)
  | .sShri _ f => some (slotSShri f y)
  | .sSari _ f => some (slotSSari f y)
  | .sSlt _ f => some (slotSSlt f y)
  | .sSltu _ f => some (slotSSltu f y)
  | .sSeq _ f => some (slotSSeq f y)
  | .sMin _ f => some (slotSMin f y)
  | .sMax _ f => some (slotSMax f y)
  | .sMinu _ f => some (slotSMinu f y)
  | .sMaxu _ f => some (slotSMaxu f y)
  | .sLi _ f => some (slotSLi f)
  | .sLui _ f => some (slotSLui f y)
  | .sPopc _ f => some (slotSPopc f y)
  | .sClz _ f => some (slotSClz f y)
  | .sBfx _ f => some (slotSBfx f y)
  | .sB _ f => some (slotSB f y)
  | .sBeq _ f => some (slotSBeq f y)
  | .sBne _ f => some (slotSBne f y)
  | .sBlt _ f => some (slotSBlt f y)
  | .sBge _ f => some (slotSBge f y)
  | .sBltu _ f => some (slotSBltu f y)
  | .sBgeu _ f => some (slotSBgeu f y)
  | .sCall _ f => some (slotSCall f y)
  | .sJr _ f => some (slotSJr f y)
  | .sCrd _ f => some (slotSCrd f s c t)
  | .sCwr _ f => some (slotSCwr f y c t)
  | .sPcnt _ f => some (slotSPcnt f y)
  | .sBrk _ f => some (slotSBrk f s c)
  | .sEnd _ f => some (slotSEnd f)
  | .vNop _ f => some (slotVNop f y)
  | .vAdd _ f => some (slotVAdd f y (c, t))
  | .vSub _ f => some (slotVSub f y (c, t))
  | .vMul _ f => some (slotVMul f y (c, t))
  | .vFma _ f => some (slotVFma f s y (c, t))
  | .vFms _ f => some (slotVFms f s y (c, t))
  | .vDiv _ f => some (slotVDiv f y (c, t))
  | .vSqrt _ f => some (slotVSqrt f y (c, t))
  | .vMax _ f => some (slotVMax f y (c, t))
  | .vMin _ f => some (slotVMin f y (c, t))
  | .vAbs _ f => some (slotVAbs f y (c, t))
  | .vNeg _ f => some (slotVNeg f y (c, t))
  | .vAdds _ f => some (slotVAdds f y (c, t))
  | .vSubs _ f => some (slotVSubs f y (c, t))
  | .vMulh _ f => some (slotVMulh f y (c, t))
  | .vAnd _ f => some (slotVAnd f y (c, t))
  | .vOr _ f => some (slotVOr f y (c, t))
  | .vXor _ f => some (slotVXor f y (c, t))
  | .vNot _ f => some (slotVNot f y (c, t))
  | .vShl _ f => some (slotVShl f y (c, t))
  | .vShr _ f => some (slotVShr f y (c, t))
  | .vSar _ f => some (slotVSar f y (c, t))
  | .vLdexp _ f => some (slotVLdexp f y (c, t))
  | .vExp2 _ f => some (slotVExp2 f y (c, t))
  | .vLog2 _ f => some (slotVLog2 f y (c, t))
  | .vCmp _ f => some (slotVCmp f y (c, t))
  | .vSel _ f => some (slotVSel f y (c, t))
  | .vPand _ f => some (slotVPand f y (c, t))
  | .vPor _ f => some (slotVPor f y (c, t))
  | .vPxor _ f => some (slotVPxor f y (c, t))
  | .vPnot _ f => some (slotVPnot f y (c, t))
  | .vBcast _ f => some (slotVBcast f y (c, t))
  | .vIdx _ f => some (slotVIdx f y (c, t))
  | .vGetl _ f => some (slotVGetl f s y)
  | .vSetl _ f => some (slotVSetl f y (c, t))
  | .vPerm _ f => some (slotVPerm f y (c, t))
  | .vMov _ f => some (slotVMov f y (c, t))
  | .vRsum _ f => some (slotVRsum f y (c, t))
  | .vRssq _ f => some (slotVRssq f y (c, t))
  | .vRmax _ f => some (slotVRmax f y (c, t))
  | .vRmin _ f => some (slotVRmin f y (c, t))
  | .vMomAdd _ f => some (slotVMomAdd f s y (c, t))
  | .vMomCmb _ f => some (slotVMomCmb f s y (c, t))
  | .vMomRed _ f => some (slotVMomRed f s y (c, t))
  | .vCvt _ f => some (slotVCvt f y (c, t))
  | .vQscl _ f => some (slotVQscl f y (c, t))
  | .vCvtq _ f => some (slotVCvtq f y (c, t))
  | .vCvtf _ f => some (slotVCvtf f y (c, t))
  | .vPack4 _ f => some (slotVPack4 f y (c, t))
  | .vUnpk4 _ f => some (slotVUnpk4 f y (c, t))
  | .vPack6 _ f => some (slotVPack6 f y (c, t))
  | .vUnpk6 _ f => some (slotVUnpk6 f y (c, t))
  | .mNop _ => some (slotMNop)
  | .mTile _ f => some (slotMTile f s c t)
  | .mTset _ f => some (slotMTset f y)
  | .mTcpy _ f => some (slotMTcpy f y)
  | .mTadd _ f => some (slotMTadd f y)
  | .cNop _ => some (slotCNop)
  | .cLdb _ f => some (slotCLdb f s c t)
  | .cLdh _ f => some (slotCLdh f s c t)
  | .cLdw _ f => some (slotCLdw f s c t)
  | .cLdd _ f => some (slotCLdd f s c t)
  | .cLdbs _ f => some (slotCLdbs f s c t)
  | .cLdhs _ f => some (slotCLdhs f s c t)
  | .cLdws _ f => some (slotCLdws f s c t)
  | .cStb _ f => some (slotCStb f s c t)
  | .cSth _ f => some (slotCSth f s c t)
  | .cStw _ f => some (slotCStw f s c t)
  | .cStd _ f => some (slotCStd f s c t)
  | .cGld _ f => some (slotCGld f s c t)
  | .cGst _ f => some (slotCGst f s c t)
  | .cVld _ f => some (slotCVld f s c t)
  | .cVst _ f => some (slotCVst f s c t)
  | .cVgth _ f => some (slotCVgth f s c t)
  | .cVsct _ f => some (slotCVsct f s c t)
  | .cPld _ f => some (slotCPld f s c t)
  | .cPst _ f => some (slotCPst f s c t)
  | .cTld _ f => some (slotCTld f s c t)
  | .cTst _ f => some (slotCTst f s c t)
  | .cFadd _ f => some (slotCFadd f s c t)
  | .cSwap _ f => some (slotCSwap f s c t)
  | .cCas _ f => some (slotCCas f s c t)
  | .cDma _ f => some (slotCDma f s c t)
  | .cLpost _ f => some (slotCLpost f s c t)
  | .cFence _ => some (slotCFence)
  | .cLset _ f => some (slotCLset f s c t)
  | .cLadd _ f => some (slotCLadd f s c t)
  | .cLwait _ f => some (slotCLwait f s c t)
  | .cLrd _ f => some (slotCLrd f s c)
  | .cLarr _ f => some (slotCLarr f s c t)
  | _ => none

/-- Slot kind of a command: 0 S, 1 V, 2 M, 3 C. -/
def slotKind (i : Instr) (s : State) (c t : Nat) : Option Nat := (slotOut i s c t).map SlotOut.kind

/-- Fast, strict W32 or W64 figure of a V slot. -/
def vecBy (f : VF) (fast strict w64 : Nat) : Nat :=
  if f.type.toNat = 10 then w64 else if f.type.toNat = 9 && f.strict then strict else fast
def vecBase (f : VF) : Nat := vecBy f 1 8 16

/-- Cycles a V slot occupies the vector unit (R164, R220); `ty` is its type code and `strict` the strict W32 mode. -/
def vecCycles : Instr → Nat
  | .vNop _ _ => 0
  | .vMul _ f => if f.type.toNat = 6 || f.type.toNat = 7 then 4 else vecBase f
  | .vMulh _ f => if f.type.toNat = 6 || f.type.toNat = 7 then 4 else vecBase f
  | .vDiv _ f => vecBy f 4 8 16
  | .vSqrt _ f => vecBy f 4 8 16
  | .vExp2 _ f => vecBy f 4 8 16
  | .vLog2 _ f => vecBy f 4 8 16
  | .vRsum _ f => vecBy f 2 16 32
  | .vRssq _ f => vecBy f 2 16 32
  | .vRmax _ f => vecBy f 2 16 32
  | .vRmin _ f => vecBy f 2 16 32
  | .vMomAdd _ f => vecBy f 6 48 16
  | .vMomCmb _ f => vecBy f 6 48 16
  | .vMomRed _ f => vecBy f 12 96 16
  | .vCvt _ _ => 1
  | .vQscl _ _ => 1
  | .vCvtq _ _ => 1
  | .vCvtf _ _ => 1
  | .vPack4 _ _ => 1
  | .vUnpk4 _ _ => 1
  | .vPack6 _ _ => 1
  | .vUnpk6 _ _ => 1
  | .vAdd _ f => vecBase f
  | .vSub _ f => vecBase f
  | .vFma _ f => vecBase f
  | .vFms _ f => vecBase f
  | .vMax _ f => vecBase f
  | .vMin _ f => vecBase f
  | .vAbs _ f => vecBase f
  | .vNeg _ f => vecBase f
  | .vAdds _ f => vecBase f
  | .vSubs _ f => vecBase f
  | .vAnd _ f => vecBase f
  | .vOr _ f => vecBase f
  | .vXor _ f => vecBase f
  | .vNot _ f => vecBase f
  | .vShl _ f => vecBase f
  | .vShr _ f => vecBase f
  | .vSar _ f => vecBase f
  | .vLdexp _ f => vecBase f
  | .vCmp _ f => vecBase f
  | .vSel _ f => vecBase f
  | .vPand _ f => vecBase f
  | .vPor _ f => vecBase f
  | .vPxor _ f => vecBase f
  | .vPnot _ f => vecBase f
  | .vBcast _ f => vecBase f
  | .vIdx _ f => vecBase f
  | .vGetl _ f => vecBase f
  | .vSetl _ f => vecBase f
  | .vPerm _ f => vecBase f
  | .vMov _ f => vecBase f
  | _ => 0

/-- The slots of an assembled bundle, in order. A C.FENCE holds back later operations of the C slot until the thread's global stores
and atomics have completed (R241, R246). -/
def bundleOuts (l : List Instr) (s : State) (c t : Nat) : List SlotOut :=
  let y := s.thr c t
  let wait := y.fence && y.outs.any (fun o => o.kind = .globalStore || o.kind = .atomic)
  l.filterMap (fun i => (slotOut i s c t).map (fun o =>
    match i with
    | .cNop _ => o
    | .cFence _ => { o with ready := !wait, act := fun s => s.setThr c t { s.thr c t with fence := (s.thr c t).outs.any (fun o => o.kind = .globalStore || o.kind = .atomic) } }
    | _ => if wait && o.kind = 3 then { o with ready := false } else o))

/-- Issue the slots of a whole bundle; `busy` is the cycles they occupy the vector unit. -/
def State.issueOuts (s : State) (c t : Nat) (outs : List SlotOut) (cycles : Nat) : State :=
  let busy := if s.eligible c t outs && (bundleCauses outs).isEmpty then cycles else 0
  ((s.runBundle c t outs).count (s.reqThr c t) 19 busy).countBlock (0x20000 + 256 * c + 136) busy

/-- Offer a slot to its thread (R160, R161): a thread that is not READY, or a core that does not issue, turns it away. A slot with
`more` waits for the rest of its bundle; the last one issues the bundle. Slots come in the order S, V, M, C. -/
def State.issueSlot (s : State) (x : Issue) (i : Instr) : State :=
  let c := x.core
  let t := x.thread
  let y := s.thr c t
  let l := y.bundle ++ [i]
  if y.st ≠ .ready || !s.issues c || !ascending (l.filterMap (fun i => slotKind i s c t)) then s
  else if x.more then s.setThr c t { y with bundle := l }
  else s.issueOuts c t (bundleOuts l s c t) ((l.map vecCycles).foldl (· + ·) 0)

/-- What the slots of a bundle word ask for: a reserved opcode raises BUNDLE_INVALID (R206). -/
def wordOuts (w : BitVec 256) (s : State) (c t : Nat) : List SlotOut :=
  ((bundleSlots w).zip (decodeBundle c t w)).flatMap (fun x =>
    match x.2 with
    | some i => bundleOuts [i] s c t
    | none => [.raises x.1.kind cBundle])

/-- A READY thread issues the bundle that stands in its core store at its pc (R161, R202). No row of the table commands it: the slot
commands are its effect slot by slot. -/
def State.issueWord (s : State) (c t : Nat) : State :=
  let y := s.thr c t
  let w := bundleOfBytes (s.seen (storeBase c + y.pc.toNat) 32)
  if y.st ≠ .ready || !s.issues c then s
  else s.issueOuts c t (wordOuts w s c t) (((decodeBundle c t w).filterMap id).map vecCycles).sum

/-- A slot command's outcome. -/
def slotStep (s : State) (x : Issue) (i : Instr) : Host.Outcome State Fault Refusal := .next (s.issueSlot x i)

/-- S_NOP (R210). -/
def execSNop (x : Issue) (f : SF) (s : State) : Host.Outcome State Fault Refusal :=
  slotStep s x (.sNop x f)
/-- S_ADD (R210). -/
def execSAdd (x : Issue) (f : SF) (s : State) : Host.Outcome State Fault Refusal :=
  slotStep s x (.sAdd x f)
/-- S_SUB (R210). -/
def execSSub (x : Issue) (f : SF) (s : State) : Host.Outcome State Fault Refusal :=
  slotStep s x (.sSub x f)
/-- S_ADDI (R210). -/
def execSAddi (x : Issue) (f : SF) (s : State) : Host.Outcome State Fault Refusal :=
  slotStep s x (.sAddi x f)
/-- S_MUL (R210). -/
def execSMul (x : Issue) (f : SF) (s : State) : Host.Outcome State Fault Refusal :=
  slotStep s x (.sMul x f)
/-- S_MULHU (R210). -/
def execSMulhu (x : Issue) (f : SF) (s : State) : Host.Outcome State Fault Refusal :=
  slotStep s x (.sMulhu x f)
/-- S_MULHS (R210). -/
def execSMulhs (x : Issue) (f : SF) (s : State) : Host.Outcome State Fault Refusal :=
  slotStep s x (.sMulhs x f)
/-- S_AND (R210). -/
def execSAnd (x : Issue) (f : SF) (s : State) : Host.Outcome State Fault Refusal :=
  slotStep s x (.sAnd x f)
/-- S_OR (R210). -/
def execSOr (x : Issue) (f : SF) (s : State) : Host.Outcome State Fault Refusal :=
  slotStep s x (.sOr x f)
/-- S_XOR (R210). -/
def execSXor (x : Issue) (f : SF) (s : State) : Host.Outcome State Fault Refusal :=
  slotStep s x (.sXor x f)
/-- S_ANDI (R210). -/
def execSAndi (x : Issue) (f : SF) (s : State) : Host.Outcome State Fault Refusal :=
  slotStep s x (.sAndi x f)
/-- S_SHL (R210). -/
def execSShl (x : Issue) (f : SF) (s : State) : Host.Outcome State Fault Refusal :=
  slotStep s x (.sShl x f)
/-- S_SHR (R210). -/
def execSShr (x : Issue) (f : SF) (s : State) : Host.Outcome State Fault Refusal :=
  slotStep s x (.sShr x f)
/-- S_SAR (R210). -/
def execSSar (x : Issue) (f : SF) (s : State) : Host.Outcome State Fault Refusal :=
  slotStep s x (.sSar x f)
/-- S_SHLI (R210). -/
def execSShli (x : Issue) (f : SF) (s : State) : Host.Outcome State Fault Refusal :=
  slotStep s x (.sShli x f)
/-- S_SHRI (R210). -/
def execSShri (x : Issue) (f : SF) (s : State) : Host.Outcome State Fault Refusal :=
  slotStep s x (.sShri x f)
/-- S_SARI (R210). -/
def execSSari (x : Issue) (f : SF) (s : State) : Host.Outcome State Fault Refusal :=
  slotStep s x (.sSari x f)
/-- S_SLT (R210). -/
def execSSlt (x : Issue) (f : SF) (s : State) : Host.Outcome State Fault Refusal :=
  slotStep s x (.sSlt x f)
/-- S_SLTU (R210). -/
def execSSltu (x : Issue) (f : SF) (s : State) : Host.Outcome State Fault Refusal :=
  slotStep s x (.sSltu x f)
/-- S_SEQ (R210). -/
def execSSeq (x : Issue) (f : SF) (s : State) : Host.Outcome State Fault Refusal :=
  slotStep s x (.sSeq x f)
/-- S_MIN (R210). -/
def execSMin (x : Issue) (f : SF) (s : State) : Host.Outcome State Fault Refusal :=
  slotStep s x (.sMin x f)
/-- S_MAX (R210). -/
def execSMax (x : Issue) (f : SF) (s : State) : Host.Outcome State Fault Refusal :=
  slotStep s x (.sMax x f)
/-- S_MINU (R210). -/
def execSMinu (x : Issue) (f : SF) (s : State) : Host.Outcome State Fault Refusal :=
  slotStep s x (.sMinu x f)
/-- S_MAXU (R210). -/
def execSMaxu (x : Issue) (f : SF) (s : State) : Host.Outcome State Fault Refusal :=
  slotStep s x (.sMaxu x f)
/-- S_LI (R210). -/
def execSLi (x : Issue) (f : SF) (s : State) : Host.Outcome State Fault Refusal :=
  slotStep s x (.sLi x f)
/-- S_LUI (R210). -/
def execSLui (x : Issue) (f : SF) (s : State) : Host.Outcome State Fault Refusal :=
  slotStep s x (.sLui x f)
/-- S_POPC (R210). -/
def execSPopc (x : Issue) (f : SF) (s : State) : Host.Outcome State Fault Refusal :=
  slotStep s x (.sPopc x f)
/-- S_CLZ (R210). -/
def execSClz (x : Issue) (f : SF) (s : State) : Host.Outcome State Fault Refusal :=
  slotStep s x (.sClz x f)
/-- S_BFX (R210). -/
def execSBfx (x : Issue) (f : SF) (s : State) : Host.Outcome State Fault Refusal :=
  slotStep s x (.sBfx x f)
/-- S_B (R210). -/
def execSB (x : Issue) (f : SF) (s : State) : Host.Outcome State Fault Refusal :=
  slotStep s x (.sB x f)
/-- S_BEQ (R210). -/
def execSBeq (x : Issue) (f : SF) (s : State) : Host.Outcome State Fault Refusal :=
  slotStep s x (.sBeq x f)
/-- S_BNE (R210). -/
def execSBne (x : Issue) (f : SF) (s : State) : Host.Outcome State Fault Refusal :=
  slotStep s x (.sBne x f)
/-- S_BLT (R210). -/
def execSBlt (x : Issue) (f : SF) (s : State) : Host.Outcome State Fault Refusal :=
  slotStep s x (.sBlt x f)
/-- S_BGE (R210). -/
def execSBge (x : Issue) (f : SF) (s : State) : Host.Outcome State Fault Refusal :=
  slotStep s x (.sBge x f)
/-- S_BLTU (R210). -/
def execSBltu (x : Issue) (f : SF) (s : State) : Host.Outcome State Fault Refusal :=
  slotStep s x (.sBltu x f)
/-- S_BGEU (R210). -/
def execSBgeu (x : Issue) (f : SF) (s : State) : Host.Outcome State Fault Refusal :=
  slotStep s x (.sBgeu x f)
/-- S_CALL (R210). -/
def execSCall (x : Issue) (f : SF) (s : State) : Host.Outcome State Fault Refusal :=
  slotStep s x (.sCall x f)
/-- S_JR (R211). -/
def execSJr (x : Issue) (f : SF) (s : State) : Host.Outcome State Fault Refusal :=
  slotStep s x (.sJr x f)
/-- S_CRD (R207). -/
def execSCrd (x : Issue) (f : SF) (s : State) : Host.Outcome State Fault Refusal :=
  slotStep s x (.sCrd x f)
/-- S_CWR (R207). -/
def execSCwr (x : Issue) (f : SF) (s : State) : Host.Outcome State Fault Refusal :=
  slotStep s x (.sCwr x f)
/-- S_PCNT (R210). -/
def execSPcnt (x : Issue) (f : SF) (s : State) : Host.Outcome State Fault Refusal :=
  slotStep s x (.sPcnt x f)
/-- S_BRK (R210). -/
def execSBrk (x : Issue) (f : SF) (s : State) : Host.Outcome State Fault Refusal :=
  slotStep s x (.sBrk x f)
/-- S_END (R212). -/
def execSEnd (x : Issue) (f : SF) (s : State) : Host.Outcome State Fault Refusal :=
  slotStep s x (.sEnd x f)
/-- V_NOP (R217). -/
def execVNop (x : Issue) (f : VF) (s : State) : Host.Outcome State Fault Refusal :=
  slotStep s x (.vNop x f)
/-- V_ADD (R217). -/
def execVAdd (x : Issue) (f : VF) (s : State) : Host.Outcome State Fault Refusal :=
  slotStep s x (.vAdd x f)
/-- V_SUB (R217). -/
def execVSub (x : Issue) (f : VF) (s : State) : Host.Outcome State Fault Refusal :=
  slotStep s x (.vSub x f)
/-- V_MUL (R217). -/
def execVMul (x : Issue) (f : VF) (s : State) : Host.Outcome State Fault Refusal :=
  slotStep s x (.vMul x f)
/-- V_FMA (R217). -/
def execVFma (x : Issue) (f : VF) (s : State) : Host.Outcome State Fault Refusal :=
  slotStep s x (.vFma x f)
/-- V_FMS (R217). -/
def execVFms (x : Issue) (f : VF) (s : State) : Host.Outcome State Fault Refusal :=
  slotStep s x (.vFms x f)
/-- V_DIV (R229). -/
def execVDiv (x : Issue) (f : VF) (s : State) : Host.Outcome State Fault Refusal :=
  slotStep s x (.vDiv x f)
/-- V_SQRT (R229). -/
def execVSqrt (x : Issue) (f : VF) (s : State) : Host.Outcome State Fault Refusal :=
  slotStep s x (.vSqrt x f)
/-- V_MAX (R101). -/
def execVMax (x : Issue) (f : VF) (s : State) : Host.Outcome State Fault Refusal :=
  slotStep s x (.vMax x f)
/-- V_MIN (R101). -/
def execVMin (x : Issue) (f : VF) (s : State) : Host.Outcome State Fault Refusal :=
  slotStep s x (.vMin x f)
/-- V_ABS (R217). -/
def execVAbs (x : Issue) (f : VF) (s : State) : Host.Outcome State Fault Refusal :=
  slotStep s x (.vAbs x f)
/-- V_NEG (R217). -/
def execVNeg (x : Issue) (f : VF) (s : State) : Host.Outcome State Fault Refusal :=
  slotStep s x (.vNeg x f)
/-- V_ADDS (R217). -/
def execVAdds (x : Issue) (f : VF) (s : State) : Host.Outcome State Fault Refusal :=
  slotStep s x (.vAdds x f)
/-- V_SUBS (R217). -/
def execVSubs (x : Issue) (f : VF) (s : State) : Host.Outcome State Fault Refusal :=
  slotStep s x (.vSubs x f)
/-- V_MULH (R217). -/
def execVMulh (x : Issue) (f : VF) (s : State) : Host.Outcome State Fault Refusal :=
  slotStep s x (.vMulh x f)
/-- V_AND (R217). -/
def execVAnd (x : Issue) (f : VF) (s : State) : Host.Outcome State Fault Refusal :=
  slotStep s x (.vAnd x f)
/-- V_OR (R217). -/
def execVOr (x : Issue) (f : VF) (s : State) : Host.Outcome State Fault Refusal :=
  slotStep s x (.vOr x f)
/-- V_XOR (R217). -/
def execVXor (x : Issue) (f : VF) (s : State) : Host.Outcome State Fault Refusal :=
  slotStep s x (.vXor x f)
/-- V_NOT (R217). -/
def execVNot (x : Issue) (f : VF) (s : State) : Host.Outcome State Fault Refusal :=
  slotStep s x (.vNot x f)
/-- V_SHL (R217). -/
def execVShl (x : Issue) (f : VF) (s : State) : Host.Outcome State Fault Refusal :=
  slotStep s x (.vShl x f)
/-- V_SHR (R217). -/
def execVShr (x : Issue) (f : VF) (s : State) : Host.Outcome State Fault Refusal :=
  slotStep s x (.vShr x f)
/-- V_SAR (R217). -/
def execVSar (x : Issue) (f : VF) (s : State) : Host.Outcome State Fault Refusal :=
  slotStep s x (.vSar x f)
/-- V_LDEXP (R217). -/
def execVLdexp (x : Issue) (f : VF) (s : State) : Host.Outcome State Fault Refusal :=
  slotStep s x (.vLdexp x f)
/-- V_EXP2 (R217). -/
def execVExp2 (x : Issue) (f : VF) (s : State) : Host.Outcome State Fault Refusal :=
  slotStep s x (.vExp2 x f)
/-- V_LOG2 (R217). -/
def execVLog2 (x : Issue) (f : VF) (s : State) : Host.Outcome State Fault Refusal :=
  slotStep s x (.vLog2 x f)
/-- V_CMP (R218). -/
def execVCmp (x : Issue) (f : VF) (s : State) : Host.Outcome State Fault Refusal :=
  slotStep s x (.vCmp x f)
/-- V_SEL (R217). -/
def execVSel (x : Issue) (f : VF) (s : State) : Host.Outcome State Fault Refusal :=
  slotStep s x (.vSel x f)
/-- V_PAND (R217). -/
def execVPand (x : Issue) (f : VF) (s : State) : Host.Outcome State Fault Refusal :=
  slotStep s x (.vPand x f)
/-- V_POR (R217). -/
def execVPor (x : Issue) (f : VF) (s : State) : Host.Outcome State Fault Refusal :=
  slotStep s x (.vPor x f)
/-- V_PXOR (R217). -/
def execVPxor (x : Issue) (f : VF) (s : State) : Host.Outcome State Fault Refusal :=
  slotStep s x (.vPxor x f)
/-- V_PNOT (R217). -/
def execVPnot (x : Issue) (f : VF) (s : State) : Host.Outcome State Fault Refusal :=
  slotStep s x (.vPnot x f)
/-- V_BCAST (R217). -/
def execVBcast (x : Issue) (f : VF) (s : State) : Host.Outcome State Fault Refusal :=
  slotStep s x (.vBcast x f)
/-- V_IDX (R217). -/
def execVIdx (x : Issue) (f : VF) (s : State) : Host.Outcome State Fault Refusal :=
  slotStep s x (.vIdx x f)
/-- V_GETL (R217). -/
def execVGetl (x : Issue) (f : VF) (s : State) : Host.Outcome State Fault Refusal :=
  slotStep s x (.vGetl x f)
/-- V_SETL (R217). -/
def execVSetl (x : Issue) (f : VF) (s : State) : Host.Outcome State Fault Refusal :=
  slotStep s x (.vSetl x f)
/-- V_PERM (R217). -/
def execVPerm (x : Issue) (f : VF) (s : State) : Host.Outcome State Fault Refusal :=
  slotStep s x (.vPerm x f)
/-- V_MOV (R217). -/
def execVMov (x : Issue) (f : VF) (s : State) : Host.Outcome State Fault Refusal :=
  slotStep s x (.vMov x f)
/-- V_RSUM (R221). -/
def execVRsum (x : Issue) (f : VF) (s : State) : Host.Outcome State Fault Refusal :=
  slotStep s x (.vRsum x f)
/-- V_RSSQ (R221). -/
def execVRssq (x : Issue) (f : VF) (s : State) : Host.Outcome State Fault Refusal :=
  slotStep s x (.vRssq x f)
/-- V_RMAX (R221). -/
def execVRmax (x : Issue) (f : VF) (s : State) : Host.Outcome State Fault Refusal :=
  slotStep s x (.vRmax x f)
/-- V_RMIN (R221). -/
def execVRmin (x : Issue) (f : VF) (s : State) : Host.Outcome State Fault Refusal :=
  slotStep s x (.vRmin x f)
/-- V_MOM_ADD (R223). -/
def execVMomAdd (x : Issue) (f : VF) (s : State) : Host.Outcome State Fault Refusal :=
  slotStep s x (.vMomAdd x f)
/-- V_MOM_CMB (R223). -/
def execVMomCmb (x : Issue) (f : VF) (s : State) : Host.Outcome State Fault Refusal :=
  slotStep s x (.vMomCmb x f)
/-- V_MOM_RED (R223). -/
def execVMomRed (x : Issue) (f : VF) (s : State) : Host.Outcome State Fault Refusal :=
  slotStep s x (.vMomRed x f)
/-- V_CVT (R219). -/
def execVCvt (x : Issue) (f : VF) (s : State) : Host.Outcome State Fault Refusal :=
  slotStep s x (.vCvt x f)
/-- V_QSCL (R224). -/
def execVQscl (x : Issue) (f : VF) (s : State) : Host.Outcome State Fault Refusal :=
  slotStep s x (.vQscl x f)
/-- V_CVTQ (R224). -/
def execVCvtq (x : Issue) (f : VF) (s : State) : Host.Outcome State Fault Refusal :=
  slotStep s x (.vCvtq x f)
/-- V_CVTF (R224). -/
def execVCvtf (x : Issue) (f : VF) (s : State) : Host.Outcome State Fault Refusal :=
  slotStep s x (.vCvtf x f)
/-- V_PACK4 (R224). -/
def execVPack4 (x : Issue) (f : VF) (s : State) : Host.Outcome State Fault Refusal :=
  slotStep s x (.vPack4 x f)
/-- V_UNPK4 (R224). -/
def execVUnpk4 (x : Issue) (f : VF) (s : State) : Host.Outcome State Fault Refusal :=
  slotStep s x (.vUnpk4 x f)
/-- V_PACK6 (R224). -/
def execVPack6 (x : Issue) (f : VF) (s : State) : Host.Outcome State Fault Refusal :=
  slotStep s x (.vPack6 x f)
/-- V_UNPK6 (R224). -/
def execVUnpk6 (x : Issue) (f : VF) (s : State) : Host.Outcome State Fault Refusal :=
  slotStep s x (.vUnpk6 x f)
/-- M_NOP (R234). -/
def execMNop (x : Issue) (s : State) : Host.Outcome State Fault Refusal := slotStep s x (.mNop x)
/-- M_TILE (R239). -/
def execMTile (x : Issue) (f : MTileF) (s : State) : Host.Outcome State Fault Refusal :=
  slotStep s x (.mTile x f)
/-- M_TSET (R234). -/
def execMTset (x : Issue) (f : MSetF) (s : State) : Host.Outcome State Fault Refusal :=
  slotStep s x (.mTset x f)
/-- M_TCPY (R234). -/
def execMTcpy (x : Issue) (f : MCpyF) (s : State) : Host.Outcome State Fault Refusal :=
  slotStep s x (.mTcpy x f)
/-- M_TADD (R234). -/
def execMTadd (x : Issue) (f : MSetF) (s : State) : Host.Outcome State Fault Refusal :=
  slotStep s x (.mTadd x f)
/-- C_NOP (R241). -/
def execCNop (x : Issue) (s : State) : Host.Outcome State Fault Refusal := slotStep s x (.cNop x)
/-- C_LDB (R241). -/
def execCLdb (x : Issue) (f : CA) (s : State) : Host.Outcome State Fault Refusal :=
  slotStep s x (.cLdb x f)
/-- C_LDH (R241). -/
def execCLdh (x : Issue) (f : CA) (s : State) : Host.Outcome State Fault Refusal :=
  slotStep s x (.cLdh x f)
/-- C_LDW (R241). -/
def execCLdw (x : Issue) (f : CA) (s : State) : Host.Outcome State Fault Refusal :=
  slotStep s x (.cLdw x f)
/-- C_LDD (R241). -/
def execCLdd (x : Issue) (f : CA) (s : State) : Host.Outcome State Fault Refusal :=
  slotStep s x (.cLdd x f)
/-- C_LDBS (R241). -/
def execCLdbs (x : Issue) (f : CA) (s : State) : Host.Outcome State Fault Refusal :=
  slotStep s x (.cLdbs x f)
/-- C_LDHS (R241). -/
def execCLdhs (x : Issue) (f : CA) (s : State) : Host.Outcome State Fault Refusal :=
  slotStep s x (.cLdhs x f)
/-- C_LDWS (R241). -/
def execCLdws (x : Issue) (f : CA) (s : State) : Host.Outcome State Fault Refusal :=
  slotStep s x (.cLdws x f)
/-- C_STB (R241). -/
def execCStb (x : Issue) (f : CA) (s : State) : Host.Outcome State Fault Refusal :=
  slotStep s x (.cStb x f)
/-- C_STH (R241). -/
def execCSth (x : Issue) (f : CA) (s : State) : Host.Outcome State Fault Refusal :=
  slotStep s x (.cSth x f)
/-- C_STW (R241). -/
def execCStw (x : Issue) (f : CA) (s : State) : Host.Outcome State Fault Refusal :=
  slotStep s x (.cStw x f)
/-- C_STD (R241). -/
def execCStd (x : Issue) (f : CA) (s : State) : Host.Outcome State Fault Refusal :=
  slotStep s x (.cStd x f)
/-- C_GLD (R244). -/
def execCGld (x : Issue) (f : CA) (s : State) : Host.Outcome State Fault Refusal :=
  slotStep s x (.cGld x f)
/-- C_GST (R244). -/
def execCGst (x : Issue) (f : CA) (s : State) : Host.Outcome State Fault Refusal :=
  slotStep s x (.cGst x f)
/-- C_VLD (R241). -/
def execCVld (x : Issue) (f : CV) (s : State) : Host.Outcome State Fault Refusal :=
  slotStep s x (.cVld x f)
/-- C_VST (R241). -/
def execCVst (x : Issue) (f : CV) (s : State) : Host.Outcome State Fault Refusal :=
  slotStep s x (.cVst x f)
/-- C_VGTH (R242). -/
def execCVgth (x : Issue) (f : CV) (s : State) : Host.Outcome State Fault Refusal :=
  slotStep s x (.cVgth x f)
/-- C_VSCT (R242). -/
def execCVsct (x : Issue) (f : CV) (s : State) : Host.Outcome State Fault Refusal :=
  slotStep s x (.cVsct x f)
/-- C_PLD (R241). -/
def execCPld (x : Issue) (f : CV) (s : State) : Host.Outcome State Fault Refusal :=
  slotStep s x (.cPld x f)
/-- C_PST (R241). -/
def execCPst (x : Issue) (f : CV) (s : State) : Host.Outcome State Fault Refusal :=
  slotStep s x (.cPst x f)
/-- C_TLD (R241). -/
def execCTld (x : Issue) (f : CV) (s : State) : Host.Outcome State Fault Refusal :=
  slotStep s x (.cTld x f)
/-- C_TST (R241). -/
def execCTst (x : Issue) (f : CV) (s : State) : Host.Outcome State Fault Refusal :=
  slotStep s x (.cTst x f)
/-- C_FADD (R284). -/
def execCFadd (x : Issue) (f : CX) (s : State) : Host.Outcome State Fault Refusal :=
  slotStep s x (.cFadd x f)
/-- C_SWAP (R312). -/
def execCSwap (x : Issue) (f : CX) (s : State) : Host.Outcome State Fault Refusal :=
  slotStep s x (.cSwap x f)
/-- C_CAS (R312). -/
def execCCas (x : Issue) (f : CX) (s : State) : Host.Outcome State Fault Refusal :=
  slotStep s x (.cCas x f)
/-- C_DMA (R314). -/
def execCDma (x : Issue) (f : CD) (s : State) : Host.Outcome State Fault Refusal :=
  slotStep s x (.cDma x f)
/-- C_LPOST (R246). -/
def execCLpost (x : Issue) (f : CD) (s : State) : Host.Outcome State Fault Refusal :=
  slotStep s x (.cLpost x f)
/-- C_FENCE (R246). -/
def execCFence (x : Issue) (s : State) : Host.Outcome State Fault Refusal := slotStep s x (.cFence x)
/-- C_LSET (R376). -/
def execCLset (x : Issue) (f : CL) (s : State) : Host.Outcome State Fault Refusal :=
  slotStep s x (.cLset x f)
/-- C_LADD (R376). -/
def execCLadd (x : Issue) (f : CL) (s : State) : Host.Outcome State Fault Refusal :=
  slotStep s x (.cLadd x f)
/-- C_LWAIT (R379). -/
def execCLwait (x : Issue) (f : CL) (s : State) : Host.Outcome State Fault Refusal :=
  slotStep s x (.cLwait x f)
/-- C_LRD (R376). -/
def execCLrd (x : Issue) (f : CL) (s : State) : Host.Outcome State Fault Refusal :=
  slotStep s x (.cLrd x f)
/-- C_LARR (R387). -/
def execCLarr (x : Issue) (f : CL) (s : State) : Host.Outcome State Fault Refusal :=
  slotStep s x (.cLarr x f)

end Sys2Proof.Machine
end

