-- ==== Sys2Proof/Machine/Threads.lean ====
section
/-! DEFINITION. Threads and cores: returns of outstanding accesses (R163, R248), the wing controller's answer to an exception (R186,
R187), start, hold and release of a thread (R160, R261, R287), clock gating (R167), wait timeouts (R379), fences and hand-overs
(R189 to R193, R575), the exception queue (R200) and the work ledger's clear (R196, R201). -/

namespace Sys2Proof.Machine

/-! ### Returns -/

/-- LOAD_RETURN: access n of a thread returns and its bundle's results are written (R163, R248); a poisoned word raises POISON and
writes nothing (R176, R183, R326). A fence ends with the last global store or atomic before it (R241). -/
def State.loadReturn (s : State) (c t n : Nat) : State :=
  let x := s.thr c t
  match x.outs[n]? with
  | none => s
  | some o =>
    let outs := x.outs.eraseIdx n
    let y := { x with outs, fence := x.fence && outs.any (fun o => o.kind = .globalStore || o.kind = .atomic) }
    if o.poison then o.addrs.foldl (fun u g => u.logPoison uCore c g (s.reqThr c t)) ((s.setThr c t y).raise c t cPoison 3 false o.pc)
    else s.setThr c t (o.writes.foldl Thread.put y)

def execLoadReturn (core thread n : Nat) (s : State) : Host.Outcome State Fault Refusal := .next (s.loadReturn core thread n)

/-! ### Fences -/

/-- The items in the VALID claim slots of a logical core that belong to live commands (R287), with their commands. -/
def State.claimedBy (s : State) (lc : Nat) : List (Cmd × Due) :=
  (List.range 32).flatMap (fun t =>
    let v := s.claimSlot lc t
    if v % 2 = 1 then
      let id := v / 2 ^ 8 % 2 ^ 16
      (s.cmds.filter (fun k => (k.counterE :: k.counterW :: k.recs).contains (recordAddr (lc / 64) id))).map (fun k =>
        (k, ⟨v / 2 ^ 32, lc, t, v / 2 % 4⟩))
    else [])

/-! ### The array status word (R150, R151, R154) -/

/-- A spare assignment that keeps the array SUSPECT: two enabled spares with one column or one row, or a column above 64. -/
def remapBad (v : W32) : Bool :=
  (bitAt v 0 && bitAt v 1 && bf v 11 6 = bf v 17 12) || (bitAt v 2 && bitAt v 3 && bf v 24 18 = bf v 31 25)
  || (bitAt v 2 && decide (64 < bf v 24 18)) || (bitAt v 3 && decide (64 < bf v 31 25))

/-- No tile is staged, streams or drains. -/
def Arr.idle (a : Arr) : Bool := a.lo.isNone && a.hi.isNone && a.drain.isNone
/-- SUSPECT: a failed check, or a bad assignment in effect (R140, R154). -/
def Arr.bad (a : Arr) : Bool := a.suspect || remapBad a.remap

/-- ARR_STAT_i as the array stands. A tile whose runs are over drains until it ends; CLASS keeps the last tile's class while no tile
runs (DESIGN CHOICE, notes/assumptions/39.md). -/
def Arr.stat (a : Arr) : W32 :=
  let b (i : Nat) (x : Bool) : Nat := if x then 2 ^ i else 0
  let any (f : Running → Bool) : Bool := [a.lo, a.hi, a.drain].any (fun r => r.any f)
  BitVec.ofNat 32 (b 0 a.idle + b 1 (!a.idle) + b 2 (any (fun r => r.done && r.failed = 0 && !r.range)) + b 3 (any (fun r => r.replaying))
    + 2 ^ 4 * (a.cls % 4) + b 6 (a.lo.isSome && a.hi.isSome) + b 7 a.bad + 2 ^ 8 * popNat 2 (bf a.remap 1 0)
    + 2 ^ 10 * popNat 2 (bf a.remap 3 2))

/-- Store an array with its status word. At a tile boundary the assignment last written takes effect (R150). -/
def State.putArr (s : State) (i : Nat) (a : Arr) : State :=
  let a := if a.idle then { a with remap := s.rd (rArrRemap i) } else a
  (s.setArr i a).wr (rArrStat i) a.stat

/-- What a hand-over copied to a spare is discarded (R193): the spare is as its last test left it (R191). -/
def State.dropCopy (s : State) (new : Nat) : State :=
  let s := (List.range 32).foldl (fun s t => s.setThr new t {}) (s.zeroFill (storeBase new) storeSize)
  let s := (List.range 48).foldl (fun s j => s.setLatch new j 0) s
  (s.setCore new { s.core new with exc := [], dropped := 0, msgs := [] }).wrF (rCoreCtl new) 21 16 0

/-- The tiles of a fenced core are abandoned (R192). -/
def State.dropTiles (s : State) (i : Nat) : State :=
  (List.range 4).foldl (fun s a =>
    s.putArr (4 * i + a) { s.arr (4 * i + a) with queue := [], lo := none, hi := none, drain := none }) s

/-- A planned hand-over of a core that is fenced is discarded (R193). -/
def State.dropHandover (s : State) (i : Nat) : State :=
  let s := (s.handovers.filter (fun h => h.old = i && h.frozen && !h.fault)).foldl (fun s h => s.dropCopy h.new) s
  { s with handovers := s.handovers.filter (fun h => h.old ≠ i) }

/-- A claim slot of a logical core that reads poisoned stops the commands of the core's partition (R577). -/
def State.slotsLost (s : State) (lc : Nat) : State :=
  match s.partOfCore lc with
  | some p => s.recordLost p ((List.range 32).any (s.slotLost lc))
  | none => s

/-- The ownership epoch of a logical core rises (R192). -/
def State.epochUp (s : State) (lc : Nat) : State := { s with epochs := tput (fun _ => 0) s.epochs lc (s.epoch lc + 1) }

/-- The epoch of a logical core rises, and the items of its claim slots are due for reissue (R192, R287). -/
def State.claimsDue (s : State) (lc : Nat) : State :=
  ((s.claimedBy lc).foldl (fun s x => s.addDue x.1.ring x.1.dcount x.2) (s.epochUp lc)).slotsLost lc

/-- Set FENCE (R192 step 1): the epoch rises, tiles are abandoned, a planned hand-over under way is discarded (R193), and the items of
the core's claim slots are due for reissue (R287). -/
def State.fenceCore (s : State) (i : Nat) : State :=
  if s.fenced i then s
  else
    let s := (s.wrB (rCoreStat i) 6 true).wrB (rCoreCtl i) 31 true
    let s := (s.wrB (rCoreStat i) 5 false).wrB (rCoreStat i) 4 false
    let s := (s.dropTiles i).dropHandover i
    match s.logical i with
    | none => s
    | some lc => s.claimsDue lc

/-- CORE_CTL_i.FENCE: the first step of a fault takeover (R192, R198). -/
def execCoreFence (core : Nat) (s : State) : Host.Outcome State Fault Refusal := .next (s.fenceCore core)

/-! ### The identity of a core (R189) -/

/-- Bytes of the keep region (R189, R198). -/
def State.keepBytes (s : State) (i : Nat) : Nat := 65536 * min 32 (s.rdF (rCoreCtl i) 21 16)

/-- Copy the latches of a core to its replacement. -/
def State.copyLatches (s : State) (old new : Nat) : State :=
  (List.range 48).foldl (fun s j => s.setLatch new j (s.latch old j)) s

/-- Copy the thread contexts, with the exception queue and its messages (R189, R193). -/
def State.copyContexts (s : State) (old new : Nat) : State :=
  let s := (List.range 32).foldl (fun s t => s.setThr new t (s.thr old t)) s
  s.setCore new { s.core new with exc := (s.core old).exc, dropped := (s.core old).dropped, msgs := (s.core old).msgs }

/-- Copy latches and keep region to a replacement, whose store is otherwise zero (R190, R191, R192). KEEP goes with the identity
(notes/assumptions/28.md). -/
def State.copyIdentity (s : State) (old new : Nat) : State :=
  let s := s.zeroFill (storeBase new) storeSize
  let s := (s.copyMem (storeBase old) (storeBase new) (s.keepBytes old)).1
  (s.copyLatches old new).wrF (rCoreCtl new) 21 16 (s.rdF (rCoreCtl old) 21 16)

/-- Commit a spare-map entry (R189, R191): the old core's windows lead to the replacement until the entry is rewritten. -/
def State.commitMap (s : State) (lc old new : Nat) : State :=
  ({ s with
    spareMap := tput (fun _ => none) s.spareMap lc (some new)
    retiredMap := tput (fun _ => none) (s.retiredMap.filter (fun x => x.2 ≠ some lc && x.1 ≠ new)) old (some lc) } : State).commitTable 4

/-- CORE_LEDGER_CTL_i.CLEAR, from an MCP only (R201): the ledger, the spill ring's count and WRAP. -/
def State.clearLedger (s : State) (i : Nat) : State :=
  (s.setCore i { s.core i with ledger := [], spilled := 0 }).wrB (rLedgerCtl i) 31 false

/-- Hold the running and parked threads of a core; which ones. -/
def State.holdAll (s : State) (i : Nat) : State × List Nat :=
  let ts := (List.range 32).filter (fun t => (s.thr i t).st = .ready || (s.thr i t).st = .parked)
  (ts.foldl (fun s t => let x := s.thr i t; s.setThr i t { x with st := .held, under := x.st }) s, ts)

/-- The four words of an exception record (R200). -/
def excWords (r : ExcRec) (dropped : Nat) : List W32 :=
  [BitVec.ofNat 32 (r.cause * 2 ^ 24 + r.slot * 2 ^ 22 + (if r.second then 2 ^ 21 else 0) + r.thread * 2 ^ 16 + r.part * 2 ^ 13
     + dropped),
   BitVec.ofNat 32 (bf r.bundle 20 5 * 2 ^ 5), r.seq, r.beat]

/-- What CORE_EXC0_i to CORE_EXC3_i read: the oldest record; an empty queue reads CAUSE 0. -/
def State.excRead (s : State) (i w : Nat) : W32 :=
  let k := s.core i
  match k.exc with
  | r :: _ => (excWords r k.dropped).getD w 0
  | [] => if w = 0 then BitVec.ofNat 32 k.dropped else 0

/-- An access to the register block of core i (R198 to R201). A read of CORE_EXC0_i clears DROPPED, one of CORE_EXC3_i removes the
record. -/
def State.coreOp (s : State) (i : Nat) : CoreOp → State
  | .write off val => s.plainReg (rCoreStat i + off) val
  | .drain on =>
    let s := s.wrB (rCoreCtl i) 30 on
    s.wrB (rCoreStat i) 5 (on && !s.fenced i)
  | .holdAll on =>
    let s := s.wrB (rCoreCtl i) 29 on
    if on then (s.holdAll i).1 else s
  | .clearLedger => s.clearLedger i
  | .excRead w =>
    let k := s.core i
    let k := if w = 0 then { k with dropped := 0 } else if w = 3 then { k with exc := k.exc.drop 1 } else k
    (s.setCore i k).answer (leBytes 4 (s.excRead i w).toNat)

/-- An access to a core's register block; a frozen core's replacement gets it (R190). -/
def State.extCore (s : State) (i : Nat) (op : CoreOp) : State :=
  if s.frozen i then s.hold i (.core op) else s.coreOp i op

/-- Deliver what the ingress buffer holds for a core to its replacement, in arrival order (R190, R193). -/
def State.releaseHeld (s : State) (old new : Nat) : State :=
  let mine := s.heldAcc.filter (fun h => h.1 = old)
  let s := { s with heldAcc := s.heldAcc.filter (fun h => h.1 ≠ old) }
  mine.foldl (fun s h =>
    match h.2 with
    | .write pa b po => s.writeMem (pa - storeBase old + storeBase new) b (po.map (fun g => g - storeBase old + storeBase new))
    | .latch j op => s.latchOp new j op
    | .core op => s.coreOp new op) s

/-! ### Events of the module itself (R365) -/

/-- Insert an event in order of its beat and, within a beat, of its kind (R365). -/
def insEv (e : Ev) : List Ev → List Ev
  | [] => [e]
  | f :: t => if e.beat < f.beat ∨ (e.beat = f.beat ∧ e.kind < f.kind) then e :: f :: t else f :: insEv e t
/-- Store the event table: EVT_USED and PWR_STAT.PENDING show it (R395, R623). -/
def State.setEvents (s : State) (l : List Ev) : State :=
  ((({ s with beat := { s.beat with events := l } } : State).wrF rBeatStat 11 6 l.length).wrB rPwrStat 29 (l.any (fun e => e.kind = 4)))
/-- Schedule an event: false when the table of 32 is full (R361). -/
def State.addEvent (s : State) (e : Ev) : State × Bool :=
  if 32 ≤ s.beat.events.length then (s, false) else (s.setEvents (insEv e s.beat.events), true)

/-! ### The core under test of a wing (R560, R561, R586) -/

def State.testCore (s : State) (w : Nat) : Nat := s.rdF (rBstWing w) 31 24
def State.testState (s : State) (w : Nat) : Nat := s.rdF (rBstWing w) 23 21
def State.setTest (s : State) (w core st : Nat) : State := (s.wrF (rBstWing w) 31 24 core).wrF (rBstWing w) 23 21 st
/-- The pattern set in force for a target (R568). -/
def State.patternSet (s : State) (target : Nat) : PSet := tget (fun _ => {}) s.test.patterns target
/-- Group that marks a TEST_SLICE event of this module's own: wing w. -/
def localGroup (w : Nat) : Nat := 0x1000 + w
/-- Schedule slice n of the wing's test. -/
def State.nextSlice (s : State) (w n : Nat) (beat : W64) : State :=
  (s.addEvent { beat, kind := 7, part := 0xFF, ident := BitVec.ofNat 32 n, group := localGroup w, src := s.maddr }).1
/-- The test of a free core begins, with the set now in force (R561, R569). -/
def State.beginTest (s : State) (i : Nat) : State :=
  let w := wingOf i
  let s := ((s.setTest w i 3).wrF (rBstWing w) 20 14 0).wrB (rCoreStat i) 3 true
  let s := s.setCore i { s.core i with testNext := false }
  ({ s with test := { s.test with running := tput (fun _ => {}) s.test.running w (s.patternSet 1) } } : State).nextSlice w 0 s.now
/-- A core was moved out: the wing's test takes it when the test waits for it, or when it is to be tested next (R573, R584). -/
def State.testFreed (s : State) (i : Nat) : State :=
  let w := wingOf i
  if (s.core i).retired then (if s.testCore w = i then s.setTest w 0xFF 0 else s)
  else if s.testCore w = i || ((s.core i).testNext && s.testState w = 0) then s.beginTest i
  else s
/-- A test waits for a spare: DEFERRED, from now (R562). -/
def State.deferTest (s : State) (i : Nat) : State :=
  let w := wingOf i
  ({ s.setTest w i 4 with test := { s.test with deferred := tput (fun _ => none) s.test.deferred w (some s.now) } } : State).event
    uCore 0 i eBstDeferred

/-! ### Planned hand-over (R190) -/

/-- CORE_CTL_i.DRAIN: the first step of a planned hand-over; no new tiles. -/
def execCoreDrain (core : Nat) (on : Bool) (s : State) : Host.Outcome State Fault Refusal :=
  .next (s.extCore core (.drain on))

/-- Every array of a core is idle. -/
def State.arraysIdle (s : State) (i : Nat) : Bool :=
  (List.range 4).all (fun a => let r := s.arr (4 * i + a); r.queue.isEmpty && r.idle)

/-- Drop a planned action (R575): the threads it held go on. -/
def State.cancelHandover (s : State) (i : Nat) (held : List Nat) : State :=
  let s := { s with handovers := s.handovers.filter (fun h => h.old ≠ i) }
  let s := held.foldl (fun s t => s.letGo i t) s
  (s.wrB (rCoreCtl i) 30 false).wrB (rCoreStat i) 5 false

/-- Steps 2 to 4: with every tile committed the threads are held, and with every load returned the core freezes and its identity is
copied (R190). A spare once taken stays the hand-over's. With no spare the planned action is not taken (R575), and a test is deferred (R562). -/
def State.handoverFreeze (s : State) (i : Nat) : State :=
  match s.logical i with
  | none => s
  | some lc =>
    if !s.rdB (rCoreStat i) 5 || s.fenced i || !s.arraysIdle i || s.handovers.any (fun h => h.old = i && h.frozen) then s
    else
      let before := s.handovers.find? (fun h => h.old = i)
      let r := s.holdAll i
      let held := (before.map (fun h => h.held)).getD [] ++ r.2
      match (before.map (fun h => h.new)).orElse (fun _ => s.spareFor (wingOf i)) with
      | none =>
        let s := r.1.cancelHandover i held
        if s.testCore (wingOf i) = i then s.deferTest i else s.noSpare uCore i
      | some new =>
        let busy := (List.range 32).any (fun t => !((r.1.thr i t).outs.isEmpty))
        let rest := r.1.handovers.filter (fun h => h.old ≠ i)
        let h : Handover := { logical := lc, old := i, new, fault := false, frozen := !busy, held }
        let s := { r.1 with handovers := rest ++ [h] }
        if busy then s
        else
          ((s.wrB (rCoreStat i) 4 true).copyIdentity i new).copyContexts i new

def execHandoverFreeze (core : Nat) (s : State) : Host.Outcome State Fault Refusal := .next (s.handoverFreeze core)

/-- The descriptors that wait in a core's DMA queues go on at the core that holds its identity (notes/assumptions/28.md). -/
def State.moveDma (s : State) (old new : Nat) : State :=
  (List.range 4).foldl (fun s q =>
    let k := dmaIdx old q
    let n := dmaIdx new q
    let s := { s with fab := { s.fab with dseq := tput (fun _ => 0) s.fab.dseq n (tget (fun _ => 0) s.fab.dseq k) } }
    (s.setDmaq n (s.dmaq n ++ (s.dmaq k).map (fun j => { j with core := new }))).setDmaq k []) s

/-- Step 5: the spare-map entry is committed, the replacement's threads go on in the states they held, and the ingress buffer is
delivered (R190): latches and contexts as they stand now. The freed core's contexts are empty. -/
def State.handoverCommit (s : State) (i : Nat) : State :=
  match s.handovers.find? (fun h => h.old = i && h.frozen && !h.fault) with
  | none => s
  | some h =>
    let s := { s with handovers := s.handovers.filter (fun h => h.old ≠ i) }
    let s := ((s.copyLatches i h.new).copyContexts i h.new).commitMap h.logical i h.new
    let s := h.held.foldl (fun s t => s.letGo h.new t) s
    let s := (List.range 32).foldl (fun s t => s.setThr i t (s.thr i t).free) s
    let s := s.setCore i { s.core i with exc := [], dropped := 0, msgs := [], retired := (s.core i).retired || (s.core i).retireNext }
    let s := ((s.wrB (rCoreStat i) 5 false).wrB (rCoreStat i) 4 false).wrB (rCoreCtl i) 30 false
    let s := ((s.ungate h.new).moveDma i h.new).releaseHeld i h.new
    ((s.spareUsed uCore i).testFreed i).countSpares (wingOf i)

def execHandoverCommit (core : Nat) (s : State) : Host.Outcome State Fault Refusal := .next (s.handoverCommit core)

/-! ### Fault takeover (R192) -/

/-- A register file, the issue logic or a fetched bundle of a thread fails (R182, R183, R248): the thread is FAULTED at its bundle, of
which no slot takes effect. The record holds the hardware cause ahead of what the bundle's slots raise, which SECOND shows (R184); its
SLOT is a free value (notes/assumptions/40.md). -/
def State.hardwareCause (s : State) (c t cause : Nat) : State :=
  let x := s.thr c t
  if x.eff ≠ .ready then s
  else
    let more := bundleCauses (x.bundle.filterMap (fun i => slotOut i s c t))
    (s.raise c t cause ((s.free 0).toNat % 4) (!more.isEmpty) x.pc).bump

/-- Steps 1 and 2 (R192): a hardware cause is raised by its thread, the core is fenced, latches and keep region are copied
through the test path; `bad` names the latches that read with an uncorrectable error and enter the broken state on the replacement. A hardware cause issues the blast-radius report
(R581). With no spare the logical core stays unmapped and its latches break (R575). -/
def State.faultTakeover (s : State) (i : Nat) (cause : HwCause) (bad : List Nat) : State :=
  let s := match cause.thread with
    | some t => if 0x10 ≤ cause.code then s.hardwareCause i t cause.code else s
    | none => s
  let s := s.fenceCore i
  let s := if 0x10 ≤ cause.code then
      (s.blastReport i (BitVec.ofNat 16 cause.code)).setCore i { (s.blastReport i (BitVec.ofNat 16 cause.code)).core i with testNext := true }
    else s
  match s.logical i with
  | none => s
  | some lc =>
    if s.handovers.any (fun h => h.old = i) then s
    else match s.spareFor (wingOf i) with
    | none =>
      let s := (List.range 48).foldl (fun s j => s.latchBreak i j 2) s
      (({ s with heldAcc := s.heldAcc.filter (fun h => h.1 ≠ i)
                 spareMap := tput (fun _ => none) s.spareMap lc none } : State).commitTable 4).noSpare uCore i
    | some new =>
      let s := s.copyIdentity i new
      let s := bad.foldl (fun s j =>
        if j < 48 then s.setLatch new j (bfSet (bitSet (s.latch new j) 92 true) 79 72 2) else s) s
      { s with handovers := s.handovers ++ [{ logical := lc, old := i, new, fault := true, frozen := true }] }

def execFaultTakeover (core : Nat) (cause : HwCause) (badLatches : List Nat) (s : State) : Host.Outcome State Fault Refusal :=
  .next (s.faultTakeover core cause badLatches)

/-! ### The wing controller's answer to an exception -/

/-- Take the first message of a thread from its core's list (R183). -/
def State.takeMsg (s : State) (c t : Nat) : Option (ExcMsg × State) :=
  let k := s.core c
  (k.msgs.find? (fun m => m.thread = t)).map (fun m => (m, s.setCore c { k with msgs := k.msgs.erase m }))

/-- WC_EXCEPTION (R182, R186, R187): BREAK holds the thread, whose release makes it READY at the S.BRK bundle (DESIGN CHOICE,
notes/assumptions/40.md); a hardware cause fences the core; any other cause ends the command that the message names with its code. -/
def State.wcException (s : State) (c t : Nat) : State :=
  match s.takeMsg c t with
  | none => s
  | some (m, s) =>
    let mine (x : Thread) : Bool := x.st = .faulted && x.ring = m.ring && x.dcount = m.dcount
    if m.cause = cBreak then
      let x := s.thr c t
      if mine x then s.setThr c t { x with st := .held, under := .ready } else s
    else if 0x10 ≤ m.cause then s.fenceCore c
    else
      let s := s.failCmd m.ring m.dcount (causeCode m.cause) 0
      let y := s.thr c t
      if mine y then s.setThr c t y.free else s

def execWcException (core thread : Nat) (s : State) : Host.Outcome State Fault Refusal := .next (s.wcException core thread)

/-! ### Start, hold, release -/

/-- Scalar registers of a started thread (R261): s1, s2 and the eight arguments; the rest are zero. -/
def startRegs (rec_ limit : Nat) (args : List Byte) : Tab W64 :=
  let t := tput (fun _ => 0) (tput (fun _ => 0) [] 1 (BitVec.ofNat 64 rec_)) 2 (BitVec.ofNat 64 limit)
  (List.range 8).foldl (fun t j => tput (fun _ => 0) t (24 + j) (BitVec.ofNat 64 (leAt args (8 * j) 8))) t

/-- Copy the program of a KERNEL command to a core (R261), once, before its first thread starts there. -/
def State.loadProgram (s : State) (c : Nat) (k : Cmd) : State :=
  let s := s.updCmd k.ring k.dcount (fun k => { k with loaded := c :: k.loaded })
  match s.range k.kProg (32 * k.kLen) with
  | some pa => (s.copyMem pa (storeBase c + k.kLoadAt) (32 * k.kLen)).1
  | none => s

/-- Start a thread of a KERNEL command on physical core c with a work-counter record (R261, R287). A thread that is not FREE, or a core
that takes no work or is outside the partition, takes no start, and a stopped partition starts none (R370). Poisoned arguments
end the command (R326). -/
def State.startThread (s : State) (c t : Nat) (k : Cmd) (rec_ limit : Nat) (checkrun : Bool) : State :=
  match s.logical c with
  | none => s
  | some lc =>
    if (s.thr c t).st ≠ .free || !s.coreOpen c || s.partOfCore lc ≠ some k.part || (s.part k.part).stopped then s
    else
      let a := match s.range k.kArgs 64 with
        | some pa => s.readMem pa 64
        | none => (s, [], [])
      if !a.2.1.isEmpty then
        (a.2.1.foldl (fun s g => s.logPoison uWc (wingOf c) g (s.reqCmd k)) a.1).failCmd k.ring k.dcount eMemPoison 0
      else
      let s := if k.loaded.contains c then a.1 else a.1.loadProgram c k
      let x := s.thr c t
      let held := s.rdB (rCoreCtl c) 29
      let args := a.2.2
      let s := s.updCmd k.ring k.dcount (fun k => { k with
        started := if k.started.contains (32 * lc + t) then k.started else (32 * lc + t) :: k.started })
      (s.setThr c t { x with
        st := if held then .held else .ready, under := .ready, pc := BitVec.ofNat 64 k.kLoadAt
        s := startRegs rec_ limit args, rm := 0, flags := 0, qsat := 0, qlost := 0, wstat := 0
        part := k.part, ring := k.ring, dcount := k.dcount, seq := k.seq, layer := k.layer, oper := k.oper
        epoch := s.epoch lc, checkrun, outs := [], fence := false, wait := none, bundle := [] }).ungate c

/-- The work-counter record of a command on a wing, with its LIMIT. -/
def State.counterFor (s : State) (k : Cmd) (w : Nat) : Nat × Nat :=
  let a := if w = 0 then k.counterE else k.counterW
  (a, leAt (s.readMem a 64).2.2 8 8)

/-- THREAD_HOLD: a READY or PARKED thread stops at a bundle boundary (R160). -/
def execThreadHold (core thread : Nat) (s : State) : Host.Outcome State Fault Refusal :=
  let x := s.thr core thread
  if x.st = .ready || x.st = .parked then .next (s.setThr core thread { x with st := .held, under := x.st }) else .next s

/-- THREAD_RELEASE: a HELD thread returns to the state it held before, a FAULTED one becomes FREE (R160). HOLD_ALL, a hand-over
and a stopped partition keep a thread held (R190, R198, R370). -/
def execThreadRelease (core thread : Nat) (s : State) : Host.Outcome State Fault Refusal :=
  let x := s.thr core thread
  if x.st = .held then .next (s.letGo core thread)
  else if x.st = .faulted then .next (s.setThr core thread x.free)
  else .next s

/-- CORE_CTL_i.HOLD_ALL (R198): set, it holds every thread; cleared, threads leave the hold by a release (R160). -/
def execCoreHoldAll (core : Nat) (on : Bool) (s : State) : Host.Outcome State Fault Refusal :=
  .next (s.extCore core (.holdAll on))

/-! ### Gating and timeouts -/

/-- CORE_GATE: the clock stops when gating is allowed and the core is idle (R167, R198). A core that is gated stays so when gating is no
longer allowed, until a wake or a start (DESIGN CHOICE, notes/assumptions/40.md). -/
def execCoreGate (core : Nat) (s : State) : Host.Outcome State Fault Refusal :=
  let idle := (List.range 32).all (fun t => (s.thr core t).st ≠ .ready && (s.thr core t).outs.isEmpty)
  let gated := (List.range 4).all (fun a => s.rdB (rArrStat (4 * core + a)) 0 && (s.arr (4 * core + a)).queue.isEmpty)
  if s.rdB (rCoreCtl core) 0 && idle && gated then .next (s.wrB (rCoreStat core) 0 true) else .next s

/-- LATCH_WAIT_TIMEOUT: a parked thread wakes with SYNC_TIMEOUT once its timeout's beats have passed (R379). -/
def execLatchWaitTimeout (core thread : Nat) (s : State) : Host.Outcome State Fault Refusal :=
  let x := s.thr core thread
  match x.wait with
  | some w =>
    if x.eff = .parked && w.timeout ≠ 0 && w.issued.toNat + w.timeout ≤ s.now.toNat then .next (s.wake core thread eSyncTimeout)
    else .next s
  | none => .next s

/-! ### Exception queue and ledger registers -/

/-- A read of CORE_EXC3_i removes the record (R200). -/
def execCoreExc3Read (core : Nat) (s : State) : Host.Outcome State Fault Refusal :=
  .next (s.extCore core (.excRead 3))

/-- A read of CORE_EXC0_i clears DROPPED (R19, R200). -/
def execCoreExc0Read (core : Nat) (s : State) : Host.Outcome State Fault Refusal :=
  .next (s.extCore core (.excRead 0))

/-- CORE_LEDGER_CTL_i.CLEAR (R201): ignored and recorded from another agent than an MCP (R23). -/
def execLedgerClear (core : Nat) (byMcp : Bool) (s : State) : Host.Outcome State Fault Refusal :=
  .next (if byMcp then s.extCore core .clearLedger else s.logSession none eHifRoleDenied (rLedgerCtl core))

end Sys2Proof.Machine
end

