-- ==== Sys2Proof/Machine/Arrays.lean ====
section
/-! DEFINITION. The matrix arrays (R108 to R156): a tile is taken from the queue and staged, its runs complete or are replayed, and it
commits or is not written; the outcome word and the latch follow (R236, R238). Tiles come from M.TILE and from the items of MATMUL
commands, whose threads claim them here (R282 to R284). Also the reissue of items (R287), the array test (R573) and the array
registers. -/

namespace Sys2Proof.Machine

/-! ### What a tile reads -/

/-- Column m of an m-block is enabled (R125, R236). -/
def TileReq.on (q : TileReq) (m : Nat) : Bool := !q.men || q.smask.getLsbD (m % 64)
def TileReq.base (q : TileReq) : Nat := storeBase q.core
/-- Pad codes (R125, R236). -/
def TileReq.padX (q : TileReq) (p : TileP) : Nat :=
  if q.pen then bf q.spad 31 0 % 2 ^ fmtBits p.xf else zeroCode p.xf p.xz
def TileReq.padW (q : TileReq) (p : TileP) : Nat :=
  if q.pen then bf q.spad 63 32 % 2 ^ fmtBits p.wf else zeroCode p.wf p.wz
def TileP.segL (p : TileP) : Nat := segLen p.xf p.xsc p.wf p.wsc p.seg
def TileReq.rows (q : TileReq) (p : TileP) : List Nat := (List.range p.M).filter q.on

/-- An operand of M.TILE in the core store (R230, R231). -/
def TileReq.opnd (q : TileReq) (p : TileP) (which fmt sc : Nat) (z : Int) (a st sa O pad : Nat) (rows : List Nat) : Feed :=
  { fmt, sc, z, pad, which, rows, k0 := 0, kLen := p.K, kPad := fedLen p.segL p.K
    addr := fun o => q.base + a + o * st
    blk := fun o => o / scB sc
    scAddr := fun r b => q.base + sa + r * scPitch (if scDir sc = 0 then p.K else O) (scB sc) + b
    scRows := p.K }

/-- Operands of a tile: X, W, the enabled rows, and the elements along k. With every column gated no output element is reached, and W is
not read (R147). -/
structure TileIn where
  x : Feed
  w : Feed
  rows : List Nat
  kLen : Nat

def TileReq.tileIn (q : TileReq) : TileIn :=
  let p := tileP q.desc
  let rows := q.rows p
  { x := q.opnd p 0 p.xf p.xsc p.xz p.xa p.xst p.xsa p.M (q.padX p) rows
    w := q.opnd p 1 p.wf p.wsc p.wz p.wa p.wst p.wsa p.N (q.padW p) (if rows.isEmpty then [] else List.range p.N)
    rows, kLen := p.K }

/-- What a queued tile reads: for an item, its command's tensors; none when the command or the item is gone. -/
def State.tileIn (s : State) (q : TileReq) : Option TileIn :=
  match q.item with
  | none => some q.tileIn
  | some i => (s.cmd q.ring q.dcount).bind (fun k => (s.itemAt k i).map (fun x =>
      { x := s.itemX k x.1, w := s.itemW k x.1, rows := x.1.on, kLen := x.1.kLen k }))

/-! ### Cycles (R669) -/

/-- Staging cycles of one X tile (R115). -/
def stageCycles (f : Nat) : Nat := if f ≤ 1 then 8 else if f = 2 then 12 else if f ≤ 5 then 16 else if f = 6 then 32 else 64
/-- Half cycles from one W column to the next. -/
def halfStep (p : TileP) : Nat :=
  match rateClass p.xf p.wf with
  | some 0 => 1
  | some 1 => 2
  | some 2 => 4
  | _ => 32
/-- I: cycles from the first column of one pass to the first column of the next. -/
def passCycles (p : TileP) : Nat := max (cdiv (p.N * halfStep p) 2) (max (stageCycles p.xf) 8)
/-- Cycles from the first staging cycle of a tile to its commit, with `I` cycles from pass to pass. -/
def tileCycles (p : TileP) (kLen I : Nat) : Nat :=
  let S := stageCycles p.xf
  let A := (cdiv kLen 64 - 1) * I + (p.N - 1) * halfStep p / 2
  S + (cdiv p.M 64 - 1) * (A + 70 + max p.N S) + A + p.N + 76

/-! ### Array registers -/

/-- ARR_REMAP_WRITE: the register holds what is written; the assignment takes effect at the next tile boundary (R150, R153). -/
def execArrRemapWrite (array : Nat) (val : W32) (s : State) : Host.Outcome State Fault Refusal :=
  .next ((s.wr (rArrRemap array) (val &&& 0xFFFFFFCF)).putArr array (s.arr array))

/-- ARR_INJ_ARM (R155). ARM is W1S (R19): a 0 leaves it. -/
def execArrInjArm (array : Nat) (val : W32) (s : State) : Host.Outcome State Fault Refusal :=
  if s.injectable then .next (s.wr (rArrInj array) ((val &&& 0x83FFFF01) ||| (s.rd (rArrInj array) &&& 0x80000000))) else .next s

/-- A read of ARR_ERR_i clears its counts (R152). -/
def execArrErrRead (array : Nat) (s : State) : Host.Outcome State Fault Refusal :=
  .next ((s.wrF (rArrErr array) 31 16 0).answer (leBytes 4 (s.rd (rArrErr array)).toNat))

/-! ### A tile starts -/

/-- The place a tile of a HALF streams in: the whole array and HALF 1 in `lo`, HALF 2 in `hi`. -/
def Arr.place (a : Arr) (half : Nat) : Option Running := if half = 2 then a.hi else a.lo
def Arr.setPlace (a : Arr) (half : Nat) (r : Option Running) : Arr := if half = 2 then { a with hi := r } else { a with lo := r }

/-- Half the banks are enough for a tile (R122). -/
def TileReq.slim (q : TileReq) : Bool := (tileP q.desc).N ≤ 256
/-- The whole tile in `lo` is only drained and leaves half the banks free for `q` (R122). -/
def Arr.lets (a : Arr) (q : TileReq) : Bool :=
  a.drain.isNone && q.slim && a.lo.any (fun r => r.req.half = 0 && r.done && r.req.slim)

/-- The first queued tile of a HALF that may start: nothing that needs the whole array stands before it or streams (R237). -/
def Arr.startable (a : Arr) (half : Nat) : Option Nat :=
  match a.queue.findIdx? (fun q => q.half = half) with
  | none => none
  | some n =>
    let whole := (a.queue.take n).any (fun q => q.half = 0)
    let streams := a.lo.any (fun r => r.req.half = 0) || a.drain.isSome
    if half = 0 then
      (if n = 0 && a.hi.isNone && (a.queue[n]?).any (fun q => if a.lo.isNone then a.drain.isNone || q.slim else a.lets q) then some n
       else none)
    else if whole || streams || (a.place half).isSome then none else some n

/-- At P600 at most three of a core's four arrays are busy at once (R40, R602): this one must stay idle. -/
def State.idleArray (s : State) (i : Nat) : Bool :=
  let busy (a : Nat) : Bool := !(s.arr a).idle
  s.rdF rPwrStat 31 30 = 3 && !busy i && 3 ≤ ((span (4 * (i / 4)) 4).filter busy).length

/-- The first bank of a starting tile: the half tiles have acc0 and acc4, a whole tile the bank set that does not drain (R122, R143). -/
def Arr.bankFor (a : Arr) (half : Nat) : Nat :=
  let used := (if a.lo.isSome then a.lo else a.drain).map (fun r => r.bank)
  if half = 1 then 0 else if half = 2 then 4 else if used = some 0 then 4 else 0

/-- The array with a tile put into its place; a co-resident pair streams in lockstep with the larger I (R144, R669). -/
def Arr.enter (a : Arr) (half : Nat) (r : Running) : Arr :=
  let a := if half = 0 && a.lo.isSome then { a with drain := a.lo, lo := none } else a
  let other := if half = 2 then a.lo else if half = 1 then a.hi else none
  let I := max r.cycI ((other.map (fun o => o.cycI)).getD 0)
  let a := if other.isSome then a.setPlace (3 - half) (other.map (fun o => { o with cycI := I })) else a
  a.setPlace half (some { r with cycI := I })

/-- TILE_START: the array takes a queued tile and stages it (R121, R142, R147, R194). A part of no elements is at its end, with every
grand total +0 (R270). -/
def State.tileStart (s : State) (i half : Nat) : State :=
  let a := s.arr i
  match a.startable half with
  | none => s
  | some n =>
    match a.queue[n]? with
    | none => s
    | some q =>
      let rest := { a with queue := a.queue.eraseIdx n }
      if a.bad || s.idleArray i || (s.part q.part).stopped then s
      else match s.tileIn q with
      | none => s.putArr i rest
      | some f =>
        let p := tileP q.desc
        let r := s.reqThr q.core q.thread
        let level := ((s.cmd q.ring q.dcount).map (fun k => k.level)).getD 0
        let s := s.ledgerStart (i / 4) q.seq q.layer q.oper q.part level
        let x := s.feed i r f.x
        let w := x.1.feed i r f.w
        let s := w.1
        let inj := s.rdB (rArrInj i) 31
        let s := if inj then s.wrB (rArrInj i) 31 false else s
        let run : Running := { req := q, x := x.2.1, w := w.2.1, poisM := x.2.2.1, poisN := w.2.2.1, rows := f.rows, kLen := f.kLen
                               bank := a.bankFor half, done := f.kLen = 0, injected := inj, cycI := passCycles p }
        s.putArr i { rest.enter half run with cls := (rateClass p.xf p.wf).getD 0 }

def execTileStart (array half : Nat) (s : State) : Host.Outcome State Fault Refusal := .next (s.tileStart array half)

/-! ### A run -/

/-- Key of an entry (R110): column n of the tile in bank n / 64 of its banks, row m of the m-block. -/
def Running.key (r : Running) (m n : Nat) : Nat := 4096 * (r.bank + n / 64) + 64 * (m % 64) + n % 64
def Running.entry (r : Running) (m n : Nat) : Entry := tget (fun _ => {}) r.acc (r.key m n)
/-- Output element (m, n) is poisoned (R147). -/
def Running.pois (r : Running) (m n : Nat) : Bool := r.poisM.contains m || r.poisN.contains n
/-- The tile has a poisoned output element. -/
def Running.poisoned (r : Running) : Bool := !r.rows.isEmpty && (!r.poisN.isEmpty || r.rows.any (fun m => r.poisM.contains m))
/-- Enabled rows of the current m-block. -/
def Running.blockRows (r : Running) : List Nat := r.rows.filter (fun m => m / 64 = r.mb)
/-- Elements of the current m-block. -/
def Running.cells (r : Running) (p : TileP) : List (Nat × Nat) := r.blockRows.flatMap (fun m => (List.range p.N).map (fun n => (m, n)))
/-- First k of the current run and its segments (R127). -/
def Running.bounds (r : Running) (p : TileP) : Nat × Nat := runBounds r.kLen p.segL (promoOf p.promo) 0 r.run

/-- Run totals of the current run: element, run total and finite-overflow (R128). -/
def Running.totals (r : Running) (p : TileP) : List ((Nat × Nat) × Val × Bool) :=
  let b := r.bounds p
  (r.cells p).map (fun c => (c, elemRun r.x.opnd r.w.opnd c.1 c.2 p.segL b.1 b.2 (r.entry c.1 c.2).r.toNat (stepOf p.step)))

/-- One execution of the current run (R128, R132 to R134): promoted when no element met a finite-overflow, else the run is to be
replayed with those elements' shift counts raised. A poisoned tile is not replayed (R148). X and W are those staged when the tile began to
stream (DESIGN CHOICE, notes/assumptions/39.md: R121 does not say when they are sampled). -/
def Running.runOnce (r : Running) : Running :=
  let p := tileP r.req.desc
  let P := promoOf p.promo
  let step := stepOf p.step
  let res := r.totals p
  let hit := if r.poisoned then [] else res.filter (fun e => e.2.2)
  let put (f : (Nat × Nat) → Val → Bool → Entry → Entry) : Tab Entry := res.foldl (fun t e =>
    let k := r.key e.1.1 e.1.2
    let old := tget (fun _ => {}) t k
    tput (fun _ => {}) t k (f e.1 e.2.1 e.2.2 { old with t := BitVec.ofNat 32 (encFast 7 e.2.1), poison := r.pois e.1.1 e.1.2 })) r.acc
  if hit.isEmpty then
    let acc := put (fun _ t _ e =>
      let v := roundW48 (Val.add 0 (wideVal 8 true e.g.toNat) (t.scale ((e.r.toNat * step : Nat) : Int)))
      { e with g := BitVec.ofNat 48 (encFast 8 v), r := 0 })
    let r := { r with replaying := false }
    if r.run + 1 < runCount 0 r.kLen P then { r with acc, run := r.run + 1 }
    else
      -- the m-block drains, and the banks are cleared for the next one (R121)
      let out := (r.cells p).foldl (fun o c => tput (fun _ => 0) o (512 * c.1 + c.2) (tget (fun _ => ({} : Entry)) acc (r.key c.1 c.2)).g) r.out
      { r with acc := [], out, run := 0, mb := r.mb + 1, done := decide (cdiv p.M 64 ≤ r.mb + 1) }
  else if hit.any (fun e => (r.entry e.1.1 e.1.2).r = 2) then { r with range := true, done := true, replaying := false }
  else
    { r with
      acc := put (fun _ _ ov e => if ov then { e with r := e.r + 1 } else e)
      replaying := true
      replays := r.replays + (hit.filter (fun e => (r.entry e.1.1 e.1.2).r = 0)).length
      replayCyc := r.replayCyc + cdiv (min (64 * P) (r.kLen - 64 * P * r.run)) 64 * r.cycI }

/-! ### The checks of a run (R137 to R139) -/

/-- The checksum column's exact segment sum for column n: checksum PE(k) holds the sum of X over the enabled rows (R137). -/
def checkSum (x w : Opnd) (ms : List Nat) (n : Nat) : Nat → Nat → Val
  | _, 0 => .zero false
  | k, L + 1 =>
    Val.add 0 (Val.mul (ms.foldl (fun a m => Val.add 0 a (x.val m k)) (.zero false)) (w.val n k)) (checkSum x w ms n (k + 1) L)

/-- The checksum test of a segment (R137, R138): the columns' segment sums add up to the checksum column's, or, with a non-finite
product, its flag is set exactly when a column is non-finite. `upset`: a product of a column is corrupted. -/
def csumOk (x w : Opnd) (ms : List Nat) (n k L : Nat) (upset : Bool) : Bool :=
  let seg := ms.map (fun m => segSum x w m n k L)
  let c := checkSum x w ms n k L
  if seg.all Val.isFinite && c.isFinite then
    Val.eq (seg.foldl (Val.add 0) (if upset then .fin false 1 0 else .zero false)) c
  else ((seg.any (fun v => !v.isFinite)) != upset) = !c.isFinite

/-- What the checks of the current run find (R137 to R139): 0 nothing, 1 a failed checksum test, 2 a failed comparison of the duplicated
adders. `upset` 1 corrupts a product of the first segment of column 0, 2 a result of copy B. -/
def Running.check (r : Running) (upset : Nat) : Nat :=
  let p := tileP r.req.desc
  let b := r.bounds p
  let x := r.x.opnd
  let w := r.w.opnd
  let ms := r.blockRows
  let csum := (List.range p.N).all (fun n => (List.range b.2).all (fun q =>
    csumOk x w ms n (b.1 + q * p.segL) p.segL (upset = 1 && n = 0 && q = 0)))
  let copyA := (r.totals p).map (fun e => encFast 7 e.2.1)
  let copyB := if upset = 2 then (copyA.headD 0 ^^^ 1) :: copyA.drop 1 else copyA
  if !csum then 1 else if copyA ≠ copyB then 2 else 0

/-- RUN_COMPLETE: the checks of the run (R137 to R140, R155) and its promotion or replay. `fault` is what upset the array in this run: 1
a product, 2 an adder of copy B; an armed injection upsets the first run. A failed check prevails over an overflow (R148). -/
def State.runComplete (s : State) (i half fault : Nat) : State :=
  let a := s.arr i
  match a.place half with
  | none => s
  | some r =>
    if r.done then s
    else
      let upset := if fault ≠ 0 then min 2 fault else if r.injected then 1 + bf (s.rd (rArrInj i)) 0 0 else 0
      let f := r.check upset
      let r2 := if f ≠ 0 then { r with failed := f, injected := r.injected && fault = 0, done := true, replaying := false } else r.runOnce
      s.putArr i (a.setPlace half (some r2))

def execRunComplete (array half fault : Nat) (s : State) : Host.Outcome State Fault Refusal := .next (s.runComplete array half fault)

/-! ### The threads of a MATMUL (R282 to R285) -/

/-- The thread of a MATMUL that a claim has queued its tiles for: they are on one array of its core. -/
def TileReq.of (q : TileReq) (c t : Nat) : Bool := q.core = c && q.thread = t && q.item.isSome
def State.tilesOf (s : State) (c t : Nat) : Bool :=
  (span (4 * c) 4).any (fun i => let a := s.arr i
    a.queue.any (fun q => q.of c t) || [a.lo, a.hi, a.drain].any (fun r => r.any (fun r => r.req.of c t)))

/-- The array of a core for the next tile or pair of an item (R142, R165, R237): the least loaded one that is not SUSPECT, has room for
two, and shares no array with half tiles that the item's could not stand beside. -/
def State.arrayFor (s : State) (c : Nat) (q : TileReq) : Option Nat :=
  let load (i : Nat) : Nat := let a := s.arr i; 2 * a.queue.length + (if a.idle then 0 else 1)
  let ok (i : Nat) : Bool := let a := s.arr i
    !a.bad && a.queue.length ≤ 2 && (a.others 1 ++ a.others 2).all (fun o => q.fits o)
  ((span (4 * c) 4).filter ok).foldl (fun b i => match b with
    | none => some i
    | some j => if load i < load j then some i else b) none

/-- The tile of item i of a command, for thread t of core c. -/
def State.itemReq (s : State) (c t : Nat) (k : Cmd) (i half : Nat) (x : MItem) : TileReq :=
  let a := k.ten 0
  let w := k.ten 1
  let y := s.thr c t
  { core := c, thread := t, part := k.part, ring := k.ring, dcount := k.dcount, seq := k.seq, layer := k.layer, oper := k.oper
    epoch := y.epoch, desc := k.itemDesc x, half, men := true, smask := BitVec.ofNat 64 x.smask, pen := true
    spad := BitVec.ofNat 64 (a.padCode + 2 ^ 32 * w.padCode), oen := false, sout := 0, latch := 0, checkrun := y.checkrun
    reissue := y.reissue, item := some i }

/-- C.FADD of a library thread on its counter: the old NEXT and LIMIT, with the claim recorded (R284). -/
def State.claimNext (s : State) (c t rec_ : Nat) : State × Nat × Nat :=
  let r := s.readMem rec_ 16
  let next := leAt r.2.2 0 8
  let s := (r.1.countMem (s.reqThr c t) rec_ 8 false).writeMem rec_ (leBytes 8 (next + 1))
  (s.claim c t rec_ next, next, leAt r.2.2 8 8)

/-- A library thread claims the next item and queues its tile, or the two tiles of a pair; an entry with HALFHI is passed over (R284). It
ends when nothing is left or no array can take a tile. -/
def State.libClaim (s : State) (c t : Nat) (k : Cmd) : Nat → State
  | 0 => s
  | fuel + 1 =>
    let x := s.thr c t
    let stop (s : State) : State := s.setThr c t (s.thr c t).free
    let any : TileReq := s.itemReq c t k 0 0 ⟨⟨0, 0, 0, 0, 0, 0, 0, 0, []⟩, 0, 0, 0, 0, 0⟩
    match s.arrayFor c any with
    | none => stop s
    | some i =>
      let y := s.claimNext c t (x.sreg 1).toNat
      let s := y.1
      if y.2.2 ≤ y.2.1 then stop s
      else match s.itemAt k y.2.1 with
      | none => stop s
      | some e =>
        if e.2 / 2 % 2 = 1 then s.libClaim c t k fuel
        else
          let q1 := s.itemReq c t k y.2.1 (if e.2 % 2 = 1 then 1 else 0) e.1
          let q2 := if e.2 % 2 = 1 then
              match s.itemAt k (y.2.1 + 1) with
              | some e2 => [s.itemReq c t k (y.2.1 + 1) 2 e2.1]
              | none => []
            else []
          let a := s.arr i
          s.putArr i { a with queue := a.queue ++ q1 :: q2 }

/-- Start a library thread of a MATMUL with a work-counter record: it waits PARKED while its tiles run (notes/assumptions/14.md). -/
def State.startLib (s : State) (c t : Nat) (k : Cmd) (rec_ limit : Nat) (reissue : Bool) : State :=
  match s.logical c with
  | none => s
  | some lc =>
    if (s.thr c t).st ≠ .free || !s.coreOpen c || s.partOfCore lc ≠ some k.part || (s.part k.part).stopped || s.rdB (rCoreCtl c) 29 then s
    else
      let level := k.level
      let s := (s.ledgerStart c k.seq k.layer k.oper k.part level).setThr c t { s.thr c t with
        st := .parked, under := .parked, pc := 0, s := startRegs rec_ limit [], rm := 0, flags := 0, qsat := 0, qlost := 0, wstat := 0
        part := k.part, ring := k.ring, dcount := k.dcount, seq := k.seq, layer := k.layer, oper := k.oper
        epoch := s.epoch lc, checkrun := false, outs := [], fence := false, wait := none, bundle := [], reissue }
      (s.ungate c).libClaim c t k 2

/-- THREAD_START: the wing controller starts a thread of a running KERNEL or MATMUL command (R160, R261, R282). -/
def execThreadStart (core thread ring dcount : Nat) (s : State) : Host.Outcome State Fault Refusal :=
  match s.cmd ring dcount with
  | none => .next s
  | some k =>
    let r := s.counterFor k (wingOf core)
    if k.phase ≠ .running || r.1 = 0 then .next s
    else if k.opcode = 0x18 && thread < k.kThreads then .next (s.startThread core thread k r.1 r.2 false)
    else if k.opcode = 1 then .next (s.startLib core thread k r.1 r.2 false)
    else .next s

/-- After a tile of an item: with every tile of its claim ended, the thread claims again while it may, else it ends (R285). -/
def State.libNext (s : State) (c t : Nat) (k : Cmd) : State :=
  let x := s.thr c t
  if s.tilesOf c t || x.st = .free || x.ring ≠ k.ring || x.dcount ≠ k.dcount then s
  else if x.st = .parked && s.coreOpen c && k.phase = .running && !(s.part k.part).stopped then s.libClaim c t k 2
  else s.setThr c t x.free

/-! ### The end of a tile -/

/-- The destination of M.TILE (R73, R124, R230, R231). -/
def Running.dst (r : Running) : Dst :=
  let p := tileP r.req.desc
  { fmt := p.df, sc := p.dsc, z := p.dz, rows := r.rows, cols := List.range p.N
    on := fun _ _ => true
    val := fun m n => wideVal 8 true (tget (fun _ => (0 : BitVec 48)) r.out (512 * m + n)).toNat
    sAddr := fun o b => r.req.base + p.dsa + o * scPitch (if scDir p.dsc = 0 then p.N else p.M) (scB p.dsc) + b }

/-- A clean tile: no poison, no failed check, no ACCUM_RANGE. -/
def Running.clean (r : Running) : Bool := !r.poisoned && r.failed = 0 && !r.range

/-- Outcome of a tile (R148's table, R238). -/
def Running.outcome (r : Running) (e : Enc) : Nat :=
  if r.poisoned then 2 else if r.failed ≠ 0 then 1 else if r.range then 3 else if e.bad then 4 else 0

/-- Whether a committed tile's counts are added, and the claim slot after it (R284, R286): not for an old epoch, nor twice for one
item. A thread without a live claim has no item to count twice. -/
def State.countTile (s : State) (lc t half epoch : Nat) : Bool × Option Nat :=
  let v := s.claimSlot lc t
  let bit := if half = 2 then 2 else 1
  if v % 2 = 0 then (true, none)
  else if epoch ≠ s.epoch lc % 256 || v / 2 ^ 24 % 256 ≠ s.epoch lc % 256 || v / 2 ^ bit % 2 = 1 then (false, none)
  else (true, some (v + 2 ^ bit))

/-- Counts of a committed tile (R86, R136, R286, R628), once; those of a re-execution for checking are not added (R555). An item that is
already due for reissue carries the COUNTED bit with it. -/
def State.tileCounts (s : State) (q : TileReq) (e : Enc) (replays : Nat) : State :=
  let lc := (s.logical q.core).getD 255
  let d := s.countTile lc q.thread q.half (q.epoch % 256)
  if s.slotLost lc q.thread then s.recordLost q.part true
  else if !d.1 || q.checkrun then s
  else
    let bit := if q.half = 2 then 2 else 1
    let item := s.claimSlot lc q.thread / 2 ^ 32
    let s := match d.2 with
      | some v => s.writeMem (claimAddr lc q.thread) (leBytes 8 v)
      | none => s
    let m := 2 ^ 32 - 1
    let s := s.updCmd q.ring q.dcount (fun k =>
      { k with sat := holdAdd m k.sat e.sat, lost := holdAdd m k.lost e.lost, nz := holdAdd m k.nz e.nz,
               replays := holdAdd m k.replays replays
               toReissue := k.toReissue.map (fun x =>
                 if d.2.isSome && x.item = item && x.core = lc && x.thread = q.thread then { x with counted := x.counted ||| bit } else x) })
    let r := s.reqThr q.core q.thread
    ((s.count r 15 1).count r 23 e.lost).count r 24 e.sat

/-- One TILE trace record per 2^TSHIFT commits of the partition (R643). -/
def State.traceTile (s : State) (q : TileReq) (i outcome : Nat) : State :=
  let n := tget (fun _ => 0) s.cnt.commits q.part + 1
  let s := { s with cnt := { s.cnt with commits := tput (fun _ => 0) s.cnt.commits q.part n } }
  if n % 2 ^ s.rdF (rCntTrc q.part) 25 21 = 0 then
    s.trace q.part 0x03 uArray i (s.reqThr q.core q.thread) ((s.logical q.core).getD 255 + 256 * (i % 4) + 2 ^ 16 * outcome)
  else s

/-- ARR_ERR after a failed check, and SUSPECT (R140, R152, R156). The failed checks of one tile count once (DESIGN CHOICE,
notes/assumptions/39.md). -/
def State.arrayFailed (s : State) (i : Nat) (r : Running) : State :=
  let s := if r.failed = 1 then (s.wrB (rArrErr i) 0 true).incF (rArrErr i) 31 24 1 else (s.wrB (rArrErr i) 1 true).incF (rArrErr i) 23 16 1
  if r.injected then s else (s.putArr i { s.arr i with suspect := true }).event uArray 1 i eTileCheck

/-- The claimed item of a thread, if there is one, is due for reissue. -/
def State.slotDue (s : State) (q : TileReq) (lc v : Nat) : State :=
  if v % 2 = 1 then s.addDue q.ring q.dcount ⟨v / 2 ^ 32, lc, q.thread, v / 2 % 4⟩ else s

/-- A tile failed a check (R140, R141, R152, R156): the array becomes SUSPECT, and the claimed item is due for reissue, or after three
arrays the command ends with TILE_CHECK. An injected failure counts for neither. -/
def State.tileFailed (s : State) (i : Nat) (r : Running) : State :=
  let q := r.req
  let s := s.arrayFailed i r
  if r.poisoned then s
  else
    let lc := (s.logical q.core).getD 255
    let s := s.recordLost q.part (s.slotLost lc q.thread)
    let v := s.claimSlot lc q.thread
    let item := if v % 2 = 1 then some (v / 2 ^ 32) else none
    let key : TileKey := { item, thread := if item.isSome then 0 else 32 * q.core + q.thread, half := q.half, desc := q.desc }
    match s.cmd q.ring q.dcount with
    | none => s
    | some k =>
      let fails := if r.injected || k.tileFails.contains (key, i) then k.tileFails else k.tileFails ++ [(key, i)]
      let s := s.updCmd q.ring q.dcount (fun k => { k with tileFails := fails })
      if 3 ≤ (fails.filter (fun f => f.1 = key)).length then s.failCmd q.ring q.dcount eTileCheck (item.getD 0)
      else s.slotDue q lc v

/-- The outcome word (R238). -/
def outcomeWord (outcome : Nat) (e : Enc) (replays : Nat) : Nat :=
  outcome + 2 ^ 16 * min 0xFFFF replays + 2 ^ 32 * min 0xFFFF e.sat + 2 ^ 48 * min 0xFFFF e.lost

/-- M.TILE's output is converted and written to the core store, when the tile is to be written: outcome and counts. -/
def State.tileWrite (s : State) (r : Running) : State × Nat × Enc :=
  let q := r.req
  let p := tileP q.desc
  let e := if r.clean then r.dst.encode s else {}
  let oc := r.outcome e
  if oc ≠ 0 then (s, oc, e)
  else
    let s := s.putCodes p.df (if p.rowMajor then p.N else p.M) p.rowMajor (fun o => q.base + p.da + o * p.dst) e.codes
    let s := s.putScales e.scales
    let row := if p.rowMajor then rowBytes p.df p.N else rowBytes p.df p.M
    (s.count (s.reqThr q.core q.thread) 2 (row * (if p.rowMajor then p.M else p.N)), oc, e)

/-- The W48 grand total of row i, column n of an item's tile. -/
def Running.total (r : Running) (i n : Nat) : BitVec 48 := tget (fun _ => 0) r.out (512 * i + n)

/-- Columns of a MODE 2 destination that shares scales along n, whose block has columns of other items (notes/assumptions/14.md). -/
def Cmd.splitCols (k : Cmd) (x : MItem) : List Nat :=
  let d := k.ten 2
  let b := scB d.sc
  if isQ d.fmt && scMode d.sc = 2 && scDir d.sc = 0 then
    (span x.n0 x.cols).filter (fun n => n / b * b < x.n0 || x.n0 + x.cols < min x.g.ncols (n / b * b + b))
  else []

/-- Two encodings together. -/
def Enc.join (a b : Enc) : Enc :=
  { codes := a.codes ++ b.codes, scales := a.scales ++ b.scales, sat := a.sat + b.sat, lost := a.lost + b.lost, nz := a.nz + b.nz,
    bad := a.bad || b.bad }

/-- The held W48 code of an element. -/
def heldAt (l : List (Nat × Nat × BitVec 48)) (row n : Nat) : BitVec 48 :=
  ((l.find? (fun h => h.1 = row && h.2.1 = n)).map (fun h => h.2.2)).getD 0

/-- Blocks of D that are complete with the held elements: storage row and columns. -/
def Cmd.fullBlocks (k : Cmd) (x : MItem) (held : List (Nat × Nat × BitVec 48)) : List (Nat × List Nat) :=
  let b := scB (k.ten 2).sc
  let rows := x.on.map (fun i => x.g.drow + x.i0 + i)
  rows.flatMap (fun r => (dedupNat ((k.splitCols x).map (· / b))).filterMap (fun β =>
    let cols := (span (b * β) b).filter (fun n => n < x.g.ncols)
    if cols.all (fun n => held.any (fun h => h.1 = r && h.2.1 = n)) then some (r, cols) else none))

/-- The bytes of a tile in drain order, for its signature (R554): by column, enabled rows, each code little-endian in whole bytes. -/
def Running.drained (r : Running) (p : TileP) (code : Nat → Nat → Nat) (bytes : Nat) : List Byte :=
  (List.range p.N).flatMap (fun n => r.rows.flatMap (fun m => leBytes bytes (code m n)))

/-- What the commit of an item does beside its counts: the item stands, and a selected one has its first signature (R148, R554). -/
def State.itemDone (s : State) (k : Cmd) (i lc : Nat) (sig : Nat) : State :=
  s.updCmd k.ring k.dcount (fun k => { k with
    beatEnd := s.now, kept := i :: k.kept, committed := i :: k.committed
    checks := k.checks.map (fun c => if c.item = i && c.st = 3 then { c with first := lc, sig := BitVec.ofNat 64 sig, st := 2 } else c) })

/-- The output of an item (R148, R264, R271): a part's grand totals go to SCRATCH; without a split the elements are converted and written
to D. Of a block that other items share, the elements wait until it is whole. A run of an item that has committed writes nothing new under
ACC, whose old values are gone (notes/assumptions/14.md). -/
def State.itemOut (s : State) (k : Cmd) (r : Running) (i : Nat) (x : MItem) : State × Nat × Enc :=
  let q := r.req
  let p := tileP q.desc
  let req := s.reqThr q.core q.thread
  let lc := (s.logical q.core).getD 255
  if !r.clean then (s, r.outcome {}, {})
  else if k.mParts ≠ 1 then
    let s := r.rows.foldl (fun s m => (List.range x.cols).foldl (fun s n =>
      let a := s.partAt k x.part (x.g.m0 + x.i0 + m) (x.n0 + n)
      (s.writeMem a (leBytes 6 (r.total m n).toNat)).countMem req a 6 true) s) s
    (s.itemDone k i lc (crc64 (r.drained p (fun m n => (r.total m n).toNat) 6)), 0, {})
  else
    let again := k.committed.contains i
    if again && k.mAcc then (s, 0, {})
    else
      let rows := r.rows.map (fun m => x.g.drow + x.i0 + m)
      let split := k.splitCols x
      let inner := (span x.n0 x.cols).filter (fun n => !split.contains n)
      let rd := s.readRanges uArray (4 * q.core) req (s.matDstReads k rows (span x.n0 x.cols))
      match (rd.2.filterMap (·.2)).head? with
      | some _ => (rd.1, 2, {})
      | none =>
        let s := rd.1
        let val (row n : Nat) : Val := wideVal 8 true (r.total (row - (x.g.drow + x.i0)) (n - x.n0)).toNat
        let mine := if again then [] else rows.flatMap (fun w => split.map (fun n => (w, n, r.total (w - (x.g.drow + x.i0)) (n - x.n0))))
        let held : List (Nat × Nat × BitVec 48) := k.heldOut ++ mine
        let full := k.fullBlocks x held
        let at_ (row n : Nat) : Val := wideVal 8 true (heldAt held row n).toNat
        let e := full.foldl (fun e f => e.join ((s.matDst k [f.1] f.2 at_).encode s)) ((s.matDst k rows inner val).encode s)
        if e.bad then (s, 4, e)
        else
          let s := s.matPut k req e.codes e.scales
          let s := s.updCmd k.ring k.dcount (fun k => { k with
            heldOut := held.filter (fun h => !full.any (fun f => f.1 = h.1 && f.2.contains h.2.1)) })
          let code (m n : Nat) : Nat :=
            ((e.codes.find? (fun c => c.1 = x.g.drow + x.i0 + m && c.2.1 = x.n0 + n)).map (·.2.2)).getD (r.total m n).toNat
          (s.itemDone k i lc (crc64 (r.drained p code (cdiv (fmtBits (k.ten 2).fmt) 8))), 0, e)

/-- The output of a tile (outcome, counts): M.TILE's to the core store, an item's as its command says. A tile whose command has failed is
not written, when it shares its array with another one (R290) or is an item's; except beside a poisoned one (R148). -/
def State.tileOut (s : State) (r : Running) : State × Option Nat × Enc :=
  let q := r.req
  let k := s.cmd q.ring q.dcount
  let dead := (q.half ≠ 0 || q.item.isSome) && !(k.any (fun k => k.phase ≠ .failed || r.spared))
  if dead then (s, if r.clean then none else some (r.outcome {}), {})
  else match q.item, k with
  | none, _ => let w := s.tileWrite r; (w.1, some w.2.1, w.2.2)
  | some i, some k =>
    (match s.itemAt k i with
     | some x => let w := s.itemOut k r i x.1; (w.1, some w.2.1, w.2.2)
     | none => (s, none, {}))
  | some _, none => (s, none, {})

/-- Array cycles of a tile that ended (R136, R629, R636, R669). Co-resident tiles run at one time: an array's own counts take those of
the one that ends last, a command's take its tiles' once. A tile that ends early counts in full (DESIGN CHOICE, notes/assumptions/39.md). -/
def State.tileCycled (s : State) (i : Nat) (r : Running) (other : Option Running) : State :=
  let req := s.reqThr r.req.core r.req.thread
  let cyc := tileCycles (tileP r.req.desc) r.kLen r.cycI + r.replayCyc
  let at_ := 0x20000 + 256 * (i / 4) + 32 * (i % 4)
  let alone := other.isNone
  let own := alone || other.any (fun o => o.req.ring ≠ r.req.ring || o.req.dcount ≠ r.req.dcount)
  let s := if own then s.count req 11 cyc else s
  let s := (s.count req 13 r.replayCyc).countBlock (at_ + 16) r.replayCyc
  if alone then s.countBlock at_ cyc else s

/-- The effects of how a tile ended beside its output (R140, R148, R152, R157). -/
def State.tileResult (s : State) (i : Nat) (r : Running) (oc : Option Nat) : State :=
  let q := r.req
  let s := if r.failed ≠ 0 then s.tileFailed i r else s
  if oc = some 2 then (s.wrB (rArrErr i) 3 true).failCmd q.ring q.dcount eMemPoison 0
  else if oc = some 3 then (s.wrB (rArrErr i) 2 true).failCmd q.ring q.dcount eAccumRange 0
  else if oc = some 4 && q.item.isSome then s.failCmd q.ring q.dcount eScaleInvalid 0
  else s

/-- The outcome word of an M.TILE, written when the tile ended in one and the request asks for it (R238). -/
def State.putOutcome (s : State) (q : TileReq) (oc : Option Nat) (e : Enc) (replays : Nat) : State :=
  match oc with
  | some n => if q.oen then s.writeMem (q.base + q.sout.toNat) (leBytes 8 (outcomeWord n e replays)) else s
  | none => s

/-- TILE_END (R119, R140, R148, R238): the tile is converted and written, or not written; the outcome word and then the latch are
updated. `fault`: the two copies of the output conversion differ (R139). A whole tile that drains beside the next one ends first. -/
def State.tileEnd (s : State) (i half : Nat) (fault : Bool) : State :=
  let a := s.arr i
  let drains := half ≠ 2 && a.drain.isSome
  match (if drains then a.drain else a.place half) with
  | none => s
  | some r =>
    if !r.done then s
    else
      let r := if fault && r.failed = 0 && !r.range then { r with failed := 2, injected := false } else r
      let q := r.req
      let other := if r.req.half = 0 then none else a.place (3 - r.req.half)
      let w := s.tileOut r
      let oc := w.2.1
      let poisoned := oc = some 2
      let a := if drains then { a with drain := none } else a.setPlace half none
      let a := if poisoned && other.isSome then a.setPlace (3 - r.req.half) (other.map (fun o =>
        { o with spared := o.req.ring = q.ring && o.req.dcount = q.dcount })) else a
      let s := w.1.putArr i a
      let s := if oc = some 0 then (s.tileCounts q w.2.2 r.replays).traceTile q i 0 else s
      let s := (s.tileResult i r oc).tileCycled i r other
      match q.item with
      | none => (s.putOutcome q oc w.2.2 r.replays).latchAdd q.core q.latch 1
      | some n =>
        let s := if poisoned then s.updCmd q.ring q.dcount (fun k => { k with kept := n :: k.kept }) else s
        match s.cmd q.ring q.dcount with
        | some k => s.libNext q.core q.thread k
        | none => s

def execTileEnd (array : Nat) (half : HalfEnd) (s : State) : Host.Outcome State Fault Refusal := .next (s.tileEnd array half.half half.fault)

/-! ### The array test (R142, R573) -/

/-- The spare assignment of an array with more failing rows and columns replaced; none when the spares do not suffice, or a failing row
or column is one that a spare already replaces. -/
def addSpares (v : W32) (rows cols : List Nat) : Option W32 :=
  let r0 := (if bitAt v 0 then [bf v 11 6] else []) ++ (if bitAt v 1 then [bf v 17 12] else [])
  let c0 := (if bitAt v 2 then [bf v 24 18] else []) ++ (if bitAt v 3 then [bf v 31 25] else [])
  let rs := r0 ++ rows
  let cs := c0 ++ cols
  if 2 < rs.length || 2 < cs.length || rows.any (fun x => r0.contains x) || cols.any (fun x => c0.contains x) then none
  else some (BitVec.ofNat 32 ((2 ^ rs.length - 1) + 4 * (2 ^ cs.length - 1)
    + 2 ^ 6 * (rs.getD 0 0 % 64) + 2 ^ 12 * (rs.getD 1 0 % 64) + 2 ^ 18 * (cs.getD 0 0 % 128) + 2 ^ 25 * (cs.getD 1 0 % 128)))

/-- ARRAY_TEST of a SUSPECT array that runs no tile: clean, it returns to service, unless its assignment is the cause (R154); failing rows
and columns take the spares left; more start the planned hand-over of its core, which then retires (R573, R575). -/
def State.arrayTest (s : State) (i : Nat) (rows cols : List Nat) : State :=
  let a := s.arr i
  if !a.bad || !a.idle then s
  else if rows.isEmpty && cols.isEmpty then s.putArr i { a with suspect := false }
  else match addSpares a.remap rows cols with
  | some v => ((s.wr (rArrRemap i) v).putArr i { a with suspect := false }).spareUsed uArray i
  | none =>
    let c := i / 4
    match s.spareFor (wingOf c) with
    | none => s.noSpare uCore c
    | some _ =>
      let s := s.setCore c { s.core c with retireNext := true }
      (s.wrB (rCoreCtl c) 30 true).wrB (rCoreStat c) 5 (!s.fenced c)

def execArrayTest (array : Nat) (badRows badCols : List Nat) (s : State) : Host.Outcome State Fault Refusal :=
  .next (s.arrayTest array badRows badCols)

/-! ### Reissue (R287, R288) -/

/-- ITEM_REISSUE: a one-item record, the COUNTED bits carried over to the new claim, and a thread on another logical core of the
partition on the wing, or on the same one when there is no other. -/
def State.itemReissue (s : State) (ring dc item c t : Nat) : State :=
  match s.cmd ring dc, s.logical c with
  | some k, some lc =>
    match k.toReissue.find? (fun x => x.item = item) with
    | none => s
    | some d =>
      let w := d.core / 64
      let usable := (s.coresOfWing k.part w).filter (fun l => (s.phys l).any (fun i => s.coreOpen i))
      let suspect := (List.range 4).all (fun a => (s.arr (4 * c + a)).bad)
      if k.phase = .failed || lc / 64 ≠ w || (lc = d.core && usable.any (fun l => l ≠ d.core)) || suspect || (s.thr c t).st ≠ .free
          || !s.coreOpen c || s.partOfCore lc ≠ some k.part || (s.part k.part).stopped || (k.opcode = 1 && s.rdB (rCoreCtl c) 29) then s
      else
        let id := s.freeRecord w
        let rec_ := recordAddr w id
        let items := leAt (s.readMem (s.counterFor k w).1 64).2.2 16 8
        let s := s.writeMem rec_ (workRecord item (item + 1) items k.seq k.part 1 id)
        let s := s.writeMem (claimAddr lc t) (leBytes 8 (2 * d.counted))
        let s := s.updCmd ring dc (fun k => { k with
          reissued := k.reissued + 1, recs := k.recs ++ [rec_], toReissue := k.toReissue.erase d })
        let s := if k.opcode = 1 then s.startLib c t k rec_ (item + 1) true
          else (s.startThread c t k rec_ (item + 1) false).setThr c t { (s.startThread c t k rec_ (item + 1) false).thr c t with reissue := true }
        s.count (s.reqCmd k) 16 1
  | _, _ => s

def execItemReissue (ring dcount item core thread : Nat) (s : State) : Host.Outcome State Fault Refusal :=
  .next (s.itemReissue ring dcount item core thread)

end Sys2Proof.Machine
end

