-- ==== Sys2Proof/Machine/Ingress.lean ====
section
/-! DEFINITION. A packet at its destination: taken from a port's ingress or from this module itself, checked (R449, R673), refused with a
STATUS (R447, R448), the landing of data (R419) and the LATCH_ADD packet (R377, R384). -/

namespace Sys2Proof.Machine

/-! ### Taking a packet -/

/-- Credit pool of a packet (R421): VC0 to VC3, or DT. -/
def pktPool (p : Pkt) : Nat := if p.dtr = 1 then 4 else p.vc.toNat
def addAt (l : List Nat) (i n : Nat) : List Nat := l.set i (l.getD i 0 + n)
def subAt (l : List Nat) (i n : Nat) : List Nat := l.set i (l.getD i 0 - n)

/-- A packet leaves the ingress pools of a port: its flits are freed (R422). -/
def State.freeFlits (s : State) (port : Nat) (p : Pkt) : State :=
  let x := s.port port
  let n := p.len.toNat + 1
  s.setPort port { x with held := subAt x.held (pktPool p) n, myFreed := addAt x.myFreed (pktPool p) n }

/-- OP of a BARRIER packet (R417). -/
def barrierOp (p : Pkt) : Nat := pktByte p 0

/-- The oldest packet of a kind that satisfies `f`, from a port's ingress or from this module itself. -/
def State.takePkt (s : State) (src : Option Nat) (f : Pkt → Bool) : Option (Pkt × State) :=
  match src with
  | some port =>
    let x := s.port port
    match x.ingress.findIdx? f with
    | none => none
    | some i =>
      match x.ingress[i]? with
      | none => none
      | some p => some (p, (s.setPort port { x with ingress := x.ingress.eraseIdx i }).freeFlits port p)
  | none =>
    match s.fab.localQ.findIdx? f with
    | none => none
    | some i =>
      match s.fab.localQ[i]? with
      | none => none
      | some p => some (p, { s with fab := { s.fab with localQ := s.fab.localQ.eraseIdx i } })

/-! ### Refusals -/

/-- Remember a dropped WRITE (R448): the last 256 triples. -/
def State.rememberDrop (s : State) (p : Pkt) : State :=
  if p.kind ≠ 0 then s
  else
    let l := s.fab.dropped ++ [(p.src.toNat, p.tag.toNat, p.dseq.toNat)]
    { s with fab := { s.fab with dropped := l.drop (l.length - 256) } }

/-- Count a packet dropped as receiver, at its port (R453, R636). -/
def State.countDrop (s : State) (src : Option Nat) : State :=
  match src with
  | some port => (s.incF (rFabPcnt port) 7 0 1).countBlock (0x10000 + 64 * port + 56) 1
  | none => s

/-- Drop a packet with a STATUS to its source (R449). -/
def State.refusePkt (s : State) (src : Option Nat) (p : Pkt) (code : W16) : State :=
  ((s.rememberDrop p).countDrop src).sendStatus p code

/-- A LATCH_ADD whose data was dropped is dropped and logged (R448). -/
def State.staleAdd (s : State) (src : Option Nat) (p : Pkt) : State :=
  (s.countDrop src).report { unit := uPort, sev := 0, inst := src.getD 0, err := eFabStaleAdd, beat := 0, rseq := 0
                             detail := p.src.toNat + 2 ^ 16 * p.tag.toNat + 2 ^ 32 * p.dseq.toNat }
/-- Whether a WRITE of a LATCH_ADD's descriptor is among those dropped (R448). -/
def State.isStale (s : State) (p : Pkt) : Bool := s.fab.dropped.contains (p.src.toNat, p.tag.toNat, p.dseq.toNat)

/-- A violation of the source: logged with its address (R449). -/
def State.refuseSource (s : State) (src : Option Nat) (p : Pkt) (code : W16) : State :=
  (s.refusePkt src p code).report { unit := uPort, sev := 0, inst := src.getD 0, err := code, beat := 0, rseq := 0
                                    detail := p.src.toNat }

/-! ### Checks at the destination (R673, steps 2 to 4) -/

/-- DADDR of a packet that names memory of this module: what lies there, or none when R449 refuses it with MEM_BOUNDS. -/
def State.target? (s : State) (p : Pkt) : Option Loc :=
  let a := p.daddr.toNat
  match s.resolve a with
  | .mem pa =>
    if 383 * 2 ^ 30 ≤ pa && pa < dramEnd then none
    else if p.kind = 1 then none
    else if p.kind = 0 && (s.range a (max 1 (pktBytes p))).isNone then none
    else some (.mem pa)
  | .latch i j o => if p.kind = 0 || (p.kind = 1 && o ≠ 0) then none else some (.latch i j o)
  | _ => none

/-- The partition that a location belongs to. -/
def State.locPart (s : State) (l : Loc) : Option Nat :=
  match l with
  | .mem pa => let o := if inWorkRegion pa then 0xE else s.owner pa; if o < 8 then some o else none
  | .latch i _ _ => s.partOfPhys i
  | _ => none

/-- The GROUP check of R673 for a partition reached; both banks serve (R465). -/
def State.groupPermits (s : State) (p : Pkt) (part : Nat) : Bool :=
  [0, 1].any (fun b => s.gtUsable b && s.gtLists b p.group.toNat p.src.toNat p.spart.toNat
    && s.gtLists b p.group.toNat s.maddr part)
/-- The partition that a packet's entry lists for this module, when the entry permits its source. -/
def State.groupPart (s : State) (p : Pkt) : Option Nat :=
  [0, 1].findSome? (fun b =>
    if s.gtUsable b && s.gtLists b p.group.toNat p.src.toNat p.spart.toNat then
      ((s.gtMembers b p.group.toNat).find? (fun m => m.1 = s.maddr)).map (·.2)
    else none)

/-- Steps 2 to 4 for a packet whose DADDR names memory of this module: the location and its partition, or the refusal. What this module
sends to itself carries no group check. -/
def State.checkTarget (s : State) (src : Option Nat) (p : Pkt) : W16 ⊕ (Loc × Nat) :=
  if BitVec.ofNat 32 (pktCrc p) ≠ p.ecrc then .inl eFabEcrc
  else match s.target? p with
  | none => .inl eMemBounds
  | some l =>
    match s.locPart l with
    | none => if src.isNone then .inl eMemBounds else .inl eFabGroupDenied
    | some q => if src.isSome && !s.groupPermits p q then .inl eFabGroupDenied else .inr (l, q)

/-- Steps 2 and 4 for a packet that names a counter of its sender: the partition it acts on. -/
def State.checkBroadcast (s : State) (src : Option Nat) (p : Pkt) : W16 ⊕ Nat :=
  if BitVec.ofNat 32 (pktCrc p) ≠ p.ecrc then .inl eFabEcrc
  else if src.isNone then .inr p.spart.toNat
  else match s.groupPart p with
  | some q => .inr q
  | none => .inl eFabGroupDenied

/-! ### Data and LATCH_ADD -/

/-- Store a packet's data, which comes from the wing of its port; the granules that a poisoned flit reaches are poisoned (R419). At a
frozen core it is held (R190). -/
def State.landPkt (s : State) (src : Option Nat) (p : Pkt) (pa part : Nat) : State :=
  let n := pktBytes p
  let bad := ((List.range (flitsOf n)).filter (fun i => p.poismap.getLsbD i)).map (fun i => (64 * i, min n (64 * i + 64)))
  let r : Req := { part := some part, wing := match src with
    | some port => wingOfPort port
    | none => s.wingOfPart part }
  let s := (s.countMem r pa n true).count r 9 n
  if s.frozenStore pa then s.hold ((storeOf pa).getD 0) (.write pa p.data (hitGranules pa n bad))
  else s.writeMem pa p.data (hitGranules pa n bad)

/-- LATCH_ADD (R377, R384, R448): dropped when a WRITE of its descriptor was dropped. -/
def State.latchAddRow (s : State) (src : Option Nat) : State :=
  match s.takePkt src (fun p => p.kind = 1) with
  | none => s
  | some (p, s) =>
    match s.checkTarget src p with
    | .inr (.latch i j _, _) => if s.isStale p then s.staleAdd src p else s.extLatch i j (.add (pktWord p))
    | .inr _ => s.refuseSource src p eMemBounds
    | .inl e => s.refuseSource src p e

def execLatchAdd (src : Option Nat) (s : State) : Host.Outcome State Fault Refusal := .next (s.latchAddRow src)

end Sys2Proof.Machine
end

