-- ==== Sys2Proof/Machine/Barrier.lean ====
section
/-! DEFINITION. Barriers (R386 to R392): counters, pending releases, refusals and resets. -/

namespace Sys2Proof.Machine

/-! ### Counters (R386) -/

/-- A barrier counter: the logical core and latch that name it, and its records. -/
structure Ctr where
  core : Nat
  latch : Nat
  /-- physical core -/
  phys : Nat
  value : W64
  link : W128
  deriving DecidableEq, Repr

/-- The counter at latch j of a physical core, when that is one. -/
def State.ctrAt (s : State) (i j : Nat) : Option Ctr :=
  if lKind (s.latch i j) = 1 && j % 2 = 0 && lKind (s.latch i (j + 1)) = 2 then
    some { core := (s.logical i).getD 255, latch := j, phys := i, value := lValue (s.latch i j), link := s.latch i (j + 1) }
  else none

def Ctr.round (c : Ctr) : Nat := bf c.value 63 48
def Ctr.cur (c : Ctr) : Nat := bf c.value 47 32
def Ctr.nxt (c : Ctr) : Nat := bf c.value 31 16
def Ctr.expect (c : Ctr) : Nat := bf c.value 15 0
def Ctr.group (c : Ctr) : Nat := bf c.link 127 116
def Ctr.parent (c : Ctr) : Nat := bf c.link 63 0
/-- Store ROUND, CUR and NEXT; a thread parked on the latch is tested again (R379). -/
def State.putCtr (s : State) (c : Ctr) (round cur next : Nat) : State :=
  let v := bfSet (bfSet (bfSet c.value 63 48 round) 47 32 cur) 31 16 next
  (s.setLatch c.phys c.latch (lSetValue (s.latch c.phys c.latch) v)).latchTest c.phys c.latch
def State.ctrPart (s : State) (c : Ctr) : Nat := (s.partOfPhys c.phys).getD 0

/-- Send a packet of a counter to every module of its GROUP's entry and to this module (R390 to R392). -/
def State.toGroup (s : State) (c : Ctr) (round op estat : Nat) : State :=
  let b := s.gtNewest
  let mods := (s.gtMembers b c.group).map (·.1)
  ((mods.filter (· ≠ s.maddr)) ++ [s.maddr]).foldl (fun s m =>
    s.sendBarrier (s.ctrPart c) m (counterAddr c.core c.latch) c.group (BitVec.ofNat 64 round) op estat tagBroadcast) s

/-- complete and advance of R388. -/
def State.advance (s : State) (c : Ctr) : State :=
  let c' := { c with value := lValue (s.latch c.phys c.latch) }
  let s := s.putCtr c' ((c'.round + 1) % 2 ^ 16) c'.nxt 0
  if c'.nxt ≠ c'.expect then s
  else
    let r := (c'.round + 1) % 2 ^ 16
    if c'.parent = 0 then (s.toGroup c' r 1 0).putCtr c' ((r + 1) % 2 ^ 16) 0 0
    else s.sendArrival (s.ctrPart c) c'.parent (BitVec.ofNat 64 r) c.core c.latch true

/-- complete() of a counter in a round. -/
def State.complete (s : State) (c : Ctr) : State :=
  if c.parent = 0 then (s.toGroup c c.round 1 0).advance c
  else s.sendArrival (s.ctrPart c) c.parent (BitVec.ofNat 64 c.round) c.core c.latch true

/-- Refuse an arrival (R391): the counter is not changed. -/
def State.refuseArrival (s : State) (p : Pkt) (estat : Nat) : State :=
  s.sendBarrier p.spart.toNat p.src.toNat p.daddr.toNat p.group.toNat (pktWord p) 4 estat tagAnswer

/-- arrive(b) of R388. -/
def State.arrive (s : State) (c : Ctr) (p : Pkt) : State :=
  let d := (pktWord p).toNat % 2 ^ 16 + 2 ^ 16 - c.round
  if d % 2 ^ 16 = 0 then
    let cur := (c.cur + 1) % 2 ^ 16
    let s := s.putCtr c c.round cur c.nxt
    if cur = c.expect then s.complete { c with value := lValue (s.latch c.phys c.latch) } else s
  else if d % 2 ^ 16 = 1 then s.putCtr c c.round c.cur ((c.nxt + 1) % 2 ^ 16)
  else s.refuseArrival p 0x01

/-- BARRIER_ARRIVAL (R388, R391, R673). An arrival at a frozen core waits where it is (R190). -/
def State.arrivalRow (s : State) (src : Option Nat) : State :=
  match s.takePkt src (fun p => p.kind = 2 && barrierOp p = 0) with
  | none => s
  | some (p, t) =>
    match t.checkTarget src p with
    | .inl e => t.refuseSource src p e
    | .inr (.latch i j 0, _) =>
      if s.frozen i then s
      else let s := t; match s.ctrAt i j with
      | some c => s.arrive c p
      | none => s.refuseArrival p 0x09
    | .inr _ => t.refuseArrival p 0x09

def execBarrierArrival (src : Option Nat) (s : State) : Host.Outcome State Fault Refusal := .next (s.arrivalRow src)

/-! ### Pending releases -/

/-- The counter that a release, refusal or reset names, at the sending module (R390). -/
def State.senderCtr (s : State) (p : Pkt) : Nat × Nat × Nat :=
  let c := s.counterOf p.daddr.toNat
  (p.src.toNat, c.1, c.2)

def Release.names (e : Release) (c : Nat × Nat × Nat) : Bool := e.cmod = c.1 && e.ccore = c.2.1 && e.clatch = c.2.2
def Release.inRound (e : Release) (r : Nat) : Bool := e.round.toNat % 2 ^ 16 = r % 2 ^ 16

/-- The pending entries of a counter for partition q that satisfy f, taken out of the table. -/
def State.takeReleases (s : State) (q : Nat) (f : Release → Bool) : List Release × State :=
  let mine (e : Release) : Bool := f e && s.partOfCore e.core = some q
  (s.releases.filter mine, { s with releases := s.releases.filter (fun e => !mine e) })

/-- A release of a round at one entry: its latch is raised, or the child counter releases in turn and advances (R389, R390). -/
def State.releaseEntry (s : State) (e : Release) : State :=
  match s.phys e.core with
  | none => s
  | some i =>
    if e.child then
      match s.ctrAt i e.latch with
      | some c => (s.toGroup c (e.round.toNat % 2 ^ 16) 1 0).advance c
      | none => s
    else s.extLatch i e.latch (.raise (e.round + 1))

/-- A pending entry of the counter for partition q is a child counter of a frozen core: the packet waits (R190). -/
def State.childFrozen (s : State) (q : Nat) (c : Nat × Nat × Nat) : Bool :=
  s.releases.any (fun e => e.child && e.names c && s.partOfCore e.core = some q && (s.phys e.core).any s.frozen)

/-- BARRIER_RELEASE (R390). -/
def State.releaseRow (s : State) (src : Option Nat) : State :=
  match s.takePkt src (fun p => p.kind = 2 && barrierOp p = 1) with
  | none => s
  | some (p, t) =>
    match t.checkBroadcast src p with
    | .inl e => t.refuseSource src p e
    | .inr q =>
      let c := t.senderCtr p
      if s.childFrozen q c then s else
      let s := t
      let r := s.takeReleases q (fun e => e.names c && e.inRound (pktWord p).toNat)
      r.1.foldl State.releaseEntry r.2

def execBarrierRelease (src : Option Nat) (s : State) : Host.Outcome State Fault Refusal := .next (s.releaseRow src)

/-- A refusal at one entry (R391): its latch breaks, or the child counter refuses in turn and advances; logged here. -/
def State.refuseEntry (s : State) (estat : Nat) (e : Release) : State :=
  match s.phys e.core with
  | none => s
  | some i =>
    let s := s.event uCore 0 i (BitVec.ofNat 16 (0x0500 ||| estat))
    if e.child then
      match s.ctrAt i e.latch with
      | some c => (s.toGroup c (e.round.toNat % 2 ^ 16) 4 estat).advance c
      | none => s
    else s.extLatch i e.latch (.brk estat)

/-- BARRIER_REFUSAL (R391): the answer to one arrival removes one entry, a child counter's broadcast every entry of the round. -/
def State.refusalRow (s : State) (src : Option Nat) : State :=
  match s.takePkt src (fun p => p.kind = 2 && barrierOp p = 4) with
  | none => s
  | some (p, t) =>
    match t.checkBroadcast src p with
    | .inl e => t.refuseSource src p e
    | .inr q =>
      let c := t.senderCtr p
      if s.childFrozen q c then s else
      let s := t
      let f (e : Release) : Bool := e.names c && e.inRound (pktWord p).toNat
      let estat := pktByte p 1
      if p.tag.toNat = tagBroadcast then
        let r := s.takeReleases q f
        r.1.foldl (fun s e => s.refuseEntry estat e) r.2
      else
        match s.releases.find? (fun e => f e && s.partOfCore e.core = some q) with
        | some e => ({ s with releases := s.releases.erase e } : State).refuseEntry estat e
        | none => s

def execBarrierRefusal (src : Option Nat) (s : State) : Host.Outcome State Fault Refusal := .next (s.refusalRow src)

/-! ### Resets (R392) -/

/-- The global address by which a child names a counter as its PARENT: this module's own form, or the remote one. -/
def State.isParent (s : State) (a : Nat) (c : Nat × Nat × Nat) : Bool := a ≠ 0 && s.globalCounter a = c

/-- Reset a counter to round r0, send the reset on and acknowledge to its PARENT. -/
def State.resetCtr (s : State) (c : Ctr) (r0 : Nat) : State :=
  let s := (s.putCtr c r0 0 0).toGroup c r0 2 0
  if c.parent = 0 then s
  else
    let m := if isRemote c.parent then remoteMod c.parent else s.maddr
    s.sendBarrier (s.ctrPart c) m (remoteLocal c.parent) ((s.gtFor (s.ctrPart c) m).getD c.group) (BitVec.ofNat 64 r0) 3 0 tagAnswer

/-- Break a pending entry (R382). A child counter's entry has no release latch. -/
def State.breakEntry (s : State) (e : Release) : State :=
  if e.child then s
  else match s.phys e.core with
    | some i => s.extLatch i e.latch (.brk 2)
    | none => s

/-- Counters of partition q on this module whose PARENT is the given counter. -/
def State.children (s : State) (q : Nat) (c : Nat × Nat × Nat) : List Ctr :=
  (s.coresOf q).flatMap (fun lc =>
    match s.phys lc with
    | some i => (List.range 24).filterMap (fun j => (s.ctrAt i (2 * j)).filter (fun k => s.isParent k.parent c))
    | none => [])

/-- GROUP_RESET: pending entries of the barrier break, and the child counters on this module are reset in turn. -/
def State.resetRow (s : State) (src : Option Nat) : State :=
  match s.takePkt src (fun p => p.kind = 2 && barrierOp p = 2) with
  | none => s
  | some (p, t) =>
    match t.checkBroadcast src p with
    | .inl e => t.refuseSource src p e
    | .inr q =>
      let c := t.senderCtr p
      if s.childFrozen q c then s else
      let s := t
      let r := s.takeReleases q (fun e => e.names c)
      let s := r.1.foldl State.breakEntry r.2
      (s.children q c).foldl (fun s k => s.resetCtr k ((pktWord p).toNat % 2 ^ 16)) s

def execGroupReset (src : Option Nat) (s : State) : Host.Outcome State Fault Refusal := .next (s.resetRow src)

/-- RESET_ACKNOWLEDGEMENT: counted at the counter, and sent on along the PARENT chain. -/
def State.ackRow (s : State) (src : Option Nat) : State :=
  match s.takePkt src (fun p => p.kind = 2 && barrierOp p = 3) with
  | none => s
  | some (p, s) =>
    match s.checkTarget src p with
    | .inl e => s.refuseSource src p e
    | .inr (.latch i j _, _) =>
      match s.ctrAt i j with
      | none => s
      | some c =>
        let k := 48 * c.core + c.latch
        let s := { s with resetAcks := tput (fun _ => 0) s.resetAcks k (tget (fun _ => 0) s.resetAcks k + 1) }
        if c.parent = 0 then s
        else
          let m := if isRemote c.parent then remoteMod c.parent else s.maddr
          s.sendBarrier (s.ctrPart c) m (remoteLocal c.parent) ((s.gtFor (s.ctrPart c) m).getD c.group) (pktWord p) 3 0 tagAnswer
    | .inr _ => s

def execResetAcknowledgement (src : Option Nat) (s : State) : Host.Outcome State Fault Refusal := .next (s.ackRow src)

/-- Start GROUP_RESET at the counter a local address names (R372): none when it names no BARRIER latch of the partition asked for. -/
def State.startReset (s : State) (a r0 : Nat) (part : Option Nat) : Option State :=
  match s.resolve a with
  | .latch i j 0 =>
    match s.ctrAt i j with
    | some c =>
      if part.all (fun p => s.partOfPhys i = some p) then
        let s := { s with resetAcks := tput (fun _ => 0) s.resetAcks (48 * c.core + c.latch) 0 }
        some (s.resetCtr c r0)
      else none
    | none => none
  | _ => none

/-- The pending entries toward a module that cannot be reached break (R382). -/
def State.breakUnreachable (s : State) (f : Release → Bool) : State :=
  let gone := s.releases.filter f
  let s := { s with releases := s.releases.filter (fun e => !f e) }
  gone.foldl State.breakEntry s

/-- After a change of routes (R382, R444). -/
def State.routesChanged (s : State) : State :=
  let s := s.reroute
  s.breakUnreachable (fun e => e.cmod ≠ s.maddr && s.unreachable e.cmod)

end Sys2Proof.Machine
end

