-- ==== Sys2Proof/Machine/Hmac.lean ====
section
/-! DEFINITION. HMAC-SHA-256, which the session handshake and key wrapping use (R530, R535). -/

namespace Sys2Proof.Machine

/-- The primes below 312, of which there are 64: no divisor from 2 to 17. -/
def shaPrimes : List Nat := (span 2 310).filter (fun n => (span 2 16).all (fun d => n < d * d || n % d ≠ 0))

/-- The whole part of the k-th root of n, bit by bit from bit 36. -/
def rootFloor (k n : Nat) : Nat := (List.range 37).foldr (fun i r => if (r + 2 ^ i) ^ k ≤ n then r + 2 ^ i else r) 0

/-- The first 32 fraction bits of a prime's k-th root. -/
def rootFrac (k p : Nat) : Nat := rootFloor k (p * 2 ^ (32 * k)) % 2 ^ 32

/-- SHA-256's constants, as FIPS 180-4 defines them: cube roots of the first 64 primes for the rounds, square roots of the first eight to
begin with. -/
def shaK : List Nat := shaPrimes.map (rootFrac 3)
def shaInit : List Nat := (shaPrimes.take 8).map (rootFrac 2)

def rotr32 (x n : Nat) : Nat := (x >>> n) ||| (x <<< (32 - n) % 2 ^ 32)
def add32 (l : List Nat) : Nat := l.foldl (· + ·) 0 % 2 ^ 32

/-- A number of four bytes, most significant first. -/
def beNat (l : List Byte) : Nat := l.foldl (fun a b => 256 * a + b.toNat) 0
/-- The low n bytes of a number, most significant first. -/
def beBytes (n v : Nat) : List Byte := (leBytes n v).reverse

/-- The message schedule, newest word first. -/
def shaSched : Nat → List Nat → List Nat
  | 0, w => w
  | k + 1, w =>
    let s0 (x : Nat) : Nat := rotr32 x 7 ^^^ rotr32 x 18 ^^^ (x >>> 3)
    let s1 (x : Nat) : Nat := rotr32 x 17 ^^^ rotr32 x 19 ^^^ (x >>> 10)
    shaSched k (add32 [s1 (w.getD 1 0), w.getD 6 0, s0 (w.getD 14 0), w.getD 15 0] :: w)

/-- One round on the working variables a to h. -/
def shaRound (v : List Nat) (kw : Nat) : List Nat :=
  match v with
  | [a, b, c, d, e, f, g, h] =>
    let s1 := rotr32 e 6 ^^^ rotr32 e 11 ^^^ rotr32 e 25
    let ch := (e &&& f) ^^^ ((e ^^^ 0xFFFFFFFF) &&& g)
    let t1 := add32 [h, s1, ch, kw]
    let s0 := rotr32 a 2 ^^^ rotr32 a 13 ^^^ rotr32 a 22
    let mj := (a &&& b) ^^^ (a &&& c) ^^^ (b &&& c)
    [add32 [t1, s0, mj], a, b, c, add32 [d, t1], e, f, g]
  | v => v

/-- One 64-byte block. -/
def shaBlock (h : List Nat) (blk : List Byte) : List Nat :=
  let w := ((List.range 16).map (fun i => beNat ((blk.drop (4 * i)).take 4))).reverse
  let ws := (shaSched 48 w).reverse
  let v := (ws.zip shaK).foldl (fun v x => shaRound v (x.1 + x.2)) h
  (h.zip v).map (fun x => add32 [x.1, x.2])

/-- SHA-256 of a byte string. -/
def sha256 (m : List Byte) : List Byte :=
  let z := (119 - m.length % 64) % 64
  let p := m ++ [0x80] ++ zeros z ++ beBytes 8 (8 * m.length)
  let h := (List.range (p.length / 64)).foldl (fun h i => shaBlock h ((p.drop (64 * i)).take 64)) shaInit
  h.flatMap (beBytes 4)

/-- HMAC-SHA-256 with a key of at most 64 bytes. -/
def hmac256 (key m : List Byte) : List Byte :=
  let k := padTo 64 key
  sha256 (k.map (· ^^^ 0x5C) ++ sha256 (k.map (· ^^^ 0x36) ++ m))

end Sys2Proof.Machine
end

