-- ==== Sys2Proof/Machine/Memory.lean ====
section
/-! DEFINITION. Memory commands: host accesses through BAR2 (R518), the scrubber and the buckets (R330, R332), channel and row spares
(R333 to R336, R343), granule modes (R308, R309), and the test of the checker (R337 to R339). -/

namespace Sys2Proof.Machine

/-! ### BAR2 (R518) -/

/-- The granule behind a BAR2 access: mapped, owned by the slot's partition, whole inside one slot. -/
def State.bar2Target (s : State) (off n : Nat) : Option (Nat × Nat) :=
  match tget (fun _ => none) s.host.bar2 (off / 2 ^ 30) with
  | none => none
  | some (p, g) =>
    if s.rdF (rMemGran g) 11 8 = p && decide (off % 2 ^ 30 + n ≤ 2 ^ 30) then some (p, g * 2 ^ 30 + off % 2 ^ 30) else none

/-- An access that completes as Unsupported Request answers no bytes. -/
def State.unsupported (s : State) : State := s.answer []

/-- BAR2_READ: poison is returned as stored data and logged (R326). -/
def State.bar2Read (s : State) (off n : Nat) : State :=
  match s.bar2Target off n with
  | none => (s.logSession none eHifBar2Denied off).unsupported
  | some (p, pa) =>
    if !s.memReady pa then s.unsupported
    else
      let r : Req := { part := some p, wing := 0 }
      let y := s.readMem pa n
      let s := ((y.1.countMem r pa n false).count r 10 n).answer y.2.2
      y.2.1.foldl (fun s g => s.logPoison uHost 0 g r) s

def execBar2Read (off len : Nat) (s : State) : Host.Outcome State Fault Refusal := .next (s.bar2Read off len)

/-- BAR2_WRITE (R324, R327). -/
def State.bar2Write (s : State) (off : Nat) (b : List Byte) : State :=
  match s.bar2Target off b.length with
  | none => (s.logSession none eHifBar2Denied off).unsupported
  | some (p, pa) =>
    if !s.memReady pa then s.unsupported
    else
      let r : Req := { part := some p, wing := 0 }
      ((s.writeMem pa b).countMem r pa b.length true).count r 10 b.length

def execBar2Write (off : Nat) (bytes : List (BitVec 8)) (s : State) : Host.Outcome State Fault Refusal := .next (s.bar2Write off bytes)

/-! ### The scrubber and the buckets -/

/-- SCRUB_READ (R330), after the power-on fill (R329): the granule is read, corrected or poisoned. A DRAM pass is complete with its last line. -/
def State.scrubRead (s : State) (a : Nat) : State :=
  if !s.rdB rMemScrub 31 || !s.rdB rMemInit 31 then s
  else match s.resolve a with
  | .mem pa =>
    let s := (s.readGran (granOf pa)).1
    if isDram pa then
      let s := s.countBlock (0x11000 + 64 * s.stackOf pa + 40) 64
      if granOf pa + 64 = dramEnd then s.wrF rMemScrub 7 0 (s.rdF rMemScrub 7 0 + 1) else s
    else s
  | _ => s

def execScrubRead (addr : Nat) (s : State) : Host.Outcome State Fault Refusal := .next (s.scrubRead addr)

/-- BUCKET_LEAK (R332). -/
def execBucketLeak (k : Nat) (s : State) : Host.Outcome State Fault Refusal :=
  .next (if k < 320 then s.wrF (rEccBkt k) 23 16 (s.rdF (rEccBkt k) 23 16 - 1) else s)

/-- A read of ECC_BKT_k clears OVF_CNT (R347). -/
def execEccBktRead (k : Nat) (s : State) : Host.Outcome State Fault Refusal :=
  .next ((s.wrF (rEccBkt k) 31 24 0).answer (leBytes 4 (s.rd (rEccBkt k)).toNat))

/-- A read of MEM_EPOCH_DROP clears it (R342). -/
def execMemEpochDropRead (s : State) : Host.Outcome State Fault Refusal :=
  .next ((s.wr rMemEpochDrop 0).answer (leBytes 4 (s.rd rMemEpochDrop).toNat))

/-! ### Channel spares -/

/-- A line of a stack once its erased position has been rebuilt: corrected and clean, or poisoned (R334). -/
def State.rebuildLine (s : State) (g pos : Nat) : State :=
  let d := s.delta g
  match rsDecode d (some pos) with
  | some (po, some i) => (s.fixPos g d i).setDelta g (if po then poisonDelta g else 0)
  | some (po, none) => s.setDelta g (if po then poisonDelta g else 0)
  | none => s.ue g

/-- REBUILD_END (R333, R334): the spare takes the position, the failed channel is RETIRED, and the next waiting channel becomes the
erased position. -/
def State.rebuildEnd (s : State) (st : Nat) : State :=
  match s.erasedChan st, (List.range 20).find? (fun c => s.chanSt st c = 2) with
  | some (c, _), some sp =>
    let pos := s.rdF (rMemChan (20 * st + c)) 28 24
    let lines := (s.ecc.map (·.1)).filter (fun g => isDram g && s.stackOf g = st)
    let s := lines.foldl (fun s g => s.rebuildLine g pos) s
    let s := ((s.setChanSt st sp 0 pos).setChanSt st c 4 0x1F).wrF (rMemChan (20 * st + sp)) 23 17 100
    let s := s.countBlock (0x11000 + 64 * st + 32) (48 * 2 ^ 30)
    let s := s.spareUsed uMem (20 * st + sp)
    match tget (fun _ => []) s.memx.waiting st with
    | [] => { s with memx := { s.memx with erased := tput (fun _ => none) s.memx.erased st none } }
    | (n, only) :: rest =>
      let s := { s with memx := { s.memx with erased := tput (fun _ => none) s.memx.erased st (some (n, only))
                                              waiting := tput (fun _ => []) s.memx.waiting st rest } }
      if only then s else s.startRebuild st
  | _, _ => s

def execRebuildEnd (stack : Nat) (s : State) : Host.Outcome State Fault Refusal := .next (s.rebuildEnd stack)

/-- The fields of a MEM_SPARE_CMD write; GO clears when the action begins or is not acted on (R343). -/
def State.spareCmd (s : State) (st c op : Nat) : State :=
  s.wr rMemSpareCmd (BitVec.ofNat 32 (2 ^ 24 * (st % 8) + 2 ^ 16 * (c % 32) + op))

/-- MEM_SPARE_CMD with OP 0: erase an ACTIVE channel and rebuild it. -/
def execSpareEraseRebuild (stack chan : Nat) (s : State) : Host.Outcome State Fault Refusal :=
  let s := s.spareCmd stack chan 0
  .next (if stack < 8 && chan < 20 && s.chanSt stack chan = 0 then s.eraseChan stack chan false else s)

/-- MEM_SPARE_CMD with OP 1: erase an ACTIVE channel only. -/
def execSpareEraseOnly (stack chan : Nat) (s : State) : Host.Outcome State Fault Refusal :=
  let s := s.spareCmd stack chan 1
  .next (if stack < 8 && chan < 20 && s.chanSt stack chan = 0 then s.eraseChan stack chan true else s)

/-- MEM_SPARE_CMD with OP 2: the rebuild of a channel erased with OP 1 starts, or is queued for its turn. -/
def State.spareStart (s : State) (st c : Nat) : State :=
  if s.erasedChan st = some (c, true) then
    let s := { s with memx := { s.memx with erased := tput (fun _ => none) s.memx.erased st (some (c, false)) } }
    s.startRebuild st
  else
    let w := tget (fun _ => []) s.memx.waiting st
    { s with memx := { s.memx with waiting := tput (fun _ => []) s.memx.waiting st (w.map (fun x => if x.1 = c then (c, false) else x)) } }

def execSpareStartRebuild (stack chan : Nat) (s : State) : Host.Outcome State Fault Refusal :=
  let s := s.spareCmd stack chan 2
  .next (if stack < 8 && chan < 20 && s.chanSt stack chan = 1 then s.spareStart stack chan else s)

/-! ### Row spares -/

/-- ROW_REMAP (R336): the channel's next spare row takes over a row. Its lines are copied with their check symbols, so no stored bit
changes; the entry goes into the metadata rows and the attic's spare map, whose live copy commits (R616). -/
def execRowRemap (stack chan row : Nat) (s : State) : Host.Outcome State Fault Refusal :=
  let x := rMemChan (20 * stack + chan)
  if !(stack < 8 && chan < 20) then .next s
  else if s.rdF x 9 0 = 0 then .next (s.noSpare uMem (20 * stack + chan))
  else
    let spare := 512 - s.rdF x 9 0
    let s := s.wrF x 9 0 (s.rdF x 9 0 - 1)
    .next ((({ s with memx := { s.memx with rowMap := s.memx.rowMap ++ [(stack, chan, row, spare)] } } : State).commitTable 4).spareUsed uMem (20 * stack + chan))

/-- Redundancy rows of a bank (R573): 8 of a larder bank, 4 of a core-store bank. -/
def bankKey (larder : Bool) (inst bank : Nat) : Nat := if larder then 1024 * inst + bank else 4096 + 1024 * inst + bank
/-- REDUNDANCY_ROW_REMAP (R573, R575). -/
def execRedundancyRowRemap (larder : Bool) (inst bank row : Nat) (s : State) : Host.Outcome State Fault Refusal :=
  let k := bankKey larder inst bank
  let used := tget (fun _ => 0) s.memx.redundancy k
  if !(if larder then inst < 2 && bank < 48 else inst < 144 && bank < 64) then .next s
  else if (if larder then 8 else 4) ≤ used then .next (s.noSpare uMem inst)
  else
    let s := { s with memx := { s.memx with redundancy := tput (fun _ => 0) s.memx.redundancy k (used + 1)
                                            rowMap := s.memx.rowMap ++ [(8 + k, inst, row, used)] } }
    .next ((s.commitTable 4).spareUsed uMem inst)

/-! ### Granule modes (R308, R309, R344) -/

/-- Mode 3 acts as 0. -/
def granMode (m : Nat) : Nat := if m = 1 then 1 else if m = 2 then 2 else 0
/-- R308 with granule g in mode m. -/
def modesFit (mode : Nat → Nat) : Bool :=
  let n (m : Nat) : Nat := ((List.range 384).filter (fun g => granMode (mode g) = m)).length
  decide (2 * n 1 + n 0 ≤ 384) && decide (2 * n 2 + n 0 ≤ 384)
def State.modeOf (s : State) (g : Nat) : Nat := s.rdF (rMemGran g) 5 4

/-- Fill a granule with zero data, clean (R309). -/
def State.refill (s : State) (g : Nat) : State := s.zeroFill (g * 2 ^ 30) (2 ^ 30)

/-- GRAN_MODE_CHANGE: a MEM_GRAN_g write. A mode changes only while OWNER is 0xF, and starts the refill, during which OWNER stays 0xF;
on an owned granule the write changes OWNER alone. A write that would break R308 is ignored. Granule 383 holds 0xE. -/
def State.granWrite (s : State) (g : Nat) (v : W32) : State :=
  let x := rMemGran g
  let m := bf v 5 4
  let new := granMode m ≠ granMode (s.modeOf g)
  if 383 ≤ g || s.rdB x 3 || (new && !modesFit (fun h => if h = g then m else s.modeOf h)) then s
  else if new && s.rdF x 11 8 = 0xF then (s.wrF x 5 4 m).wrB x 3 true
  else (if new then s else s.wrF x 5 4 m).wrF x 11 8 (bf v 11 8)

def execGranModeChange (g : Nat) (val : BitVec 32) (s : State) : Host.Outcome State Fault Refusal := .next (s.granWrite g val)

/-- REFILL_END. -/
def execRefillEnd (g : Nat) (s : State) : Host.Outcome State Fault Refusal :=
  if g < 384 && s.rdB (rMemGran g) 3 then .next ((s.refill g).wrB (rMemGran g) 3 false) else .next s

/-! ### The test of the checker -/

/-- The 8-byte-aligned stored word that an address names (R338). -/
def State.wordOf (s : State) (a : Nat) : Option Nat :=
  match s.resolve (a / 8 * 8) with
  | .mem pa => some pa
  | _ => none

/-- ECC_INJ_ARM: a write of ECC_INJ_CTL with ARM set (R338, R348). -/
def execEccInjArm (val : BitVec 32) (s : State) : Host.Outcome State Fault Refusal :=
  if !s.injectable then .next s
  else
    let old := s.rd rEccInjCtl
    let s := s.wr rEccInjCtl (plainWrite (regDesc rEccInjCtl) old val)
    match s.wordOf (s.rd64 rEccInjAddr) with
    | some pa => .next (({ s with memx := { s.memx with armed := some pa } } : State).wrB rEccInjCtl 31 true)
    | none => .next (({ s with memx := { s.memx with armed := none } } : State).wrB rEccInjCtl 31 false)

/-- The check bits of a granule as ECC_RAW_CHK holds them (R339). -/
def State.rawChk (s : State) (g : Nat) : Nat :=
  if isDram g then (BitVec.ofNat 64 (rsCode (s.bytes g 64)) ^^^ BitVec.ofNat 64 (s.delta g)).toNat
  else ((BitVec.ofNat 64 (hsiao (leNat (s.bytes g 8)))) ^^^ BitVec.ofNat 64 (s.delta g)).toNat

/-- RAW_READ, after the power-on fill (R329, R339): the stored data and check bits, without the code. -/
def execRawRead (val : BitVec 32) (s : State) : Host.Outcome State Fault Refusal :=
  if !s.injectable || !s.rdB rMemInit 31 then .next s
  else
    let s := s.wr rEccRawCtl (val &&& 1)
    match s.wordOf (s.rd64 rEccRawAddr) with
    | none => .next s
    | some pa =>
      let g := granOf pa
      let n := granSize g / 8
      let t := (List.range n).foldl (fun t i => t.wr64 (rEccRawData i) (leNat (s.bytes (g + 8 * i) 8))) s
      .next (t.wr64 rEccRawChk (s.rawChk g))

/-- RAW_WRITE, after the power-on fill (R329, R339): data and check bits exactly as given. -/
def execRawWrite (val : BitVec 32) (s : State) : Host.Outcome State Fault Refusal :=
  if !s.injectable || !s.rdB rMemInit 31 then .next s
  else
    let s := s.wr rEccRawCtl (val &&& 1)
    match s.wordOf (s.rd64 rEccRawAddr) with
    | none => .next s
    | some pa =>
      let g := granOf pa
      let b := (List.range (granSize g / 8)).flatMap (fun i => leBytes 8 (s.rd64 (rEccRawData i)))
      let t := { s with mem := putBytes s.mem g b }
      let chk := s.rd64 rEccRawChk
      let code := if isDram g then rsCode b else hsiao (leNat b)
      let d := (BitVec.ofNat 64 (if isDram g then chk else chk % 2048) ^^^ BitVec.ofNat 64 code).toNat
      .next (t.setDelta g d)

end Sys2Proof.Machine
end

