-- ==== Sys2Proof/Machine/Hif.lean ====
section
/-! DEFINITION. The host interface (R507 to R551): views of the HIF_ registers, doorbells, the request protocol of the mailbox and
management channels (R519 to R527, R658), sessions and keys (R528 to R535), rings (R536, R541), and the error ring (R548). Body
layouts that the manual does not give: notes/assumptions/16.md. -/

namespace Sys2Proof.Machine

/-! ### Registers (R512 to R514) -/

def rstateCode : RState → Nat
  | .none => 0
  | .running => 1
  | .halted => 2
  | .destroying => 3

/-- HIF_RINGST_n. -/
def State.ringSt (s : State) (n : Nat) : Nat :=
  let r := s.ring n
  rstateCode r.st * 2 ^ 29 + (if r.st = .halted then r.cause % 8 else 0) * 2 ^ 26 + (if r.dbErr then 2 ^ 25 else 0)
    + r.log2e % 32 * 2 ^ 20 + r.lasterr.toNat

/-- HIF_STAT.STATE (R513). -/
def State.hifState (s : State) : Nat := s.rdF rHifStat 31 29

/-- A word of the HIF_ window below 0x308 as a read returns it. -/
def State.hifWord (s : State) (o : Nat) : Nat :=
  if o = 0x08 then (bfSet (bfSet (s.rd rHifStat) 27 25 s.test.lc) 15 0 Config.acv.toNat).toNat
  else if o = 0x18 then (if s.rdB rFabId 31 then 2 ^ 31 else 0) + s.maddr
  else if o = 0x20 then s.now.toNat % 2 ^ 32
  else if o = 0x24 then s.host.beatHi.toNat
  else if 0x100 ≤ o ∧ o < 0x300 then
    if o % 8 = 0 then s.ringSt ((o - 0x100) / 8) else (s.ring ((o - 0x100) / 8)).head.toNat
  else if o < 0x28 then (s.rd (hifReg o)).toNat
  else 0

/-- A read of HIF_BEAT_LO captures the counter (R512). -/
def execHifBeatCapture (s : State) : Host.Outcome State Fault Refusal :=
  .next (({ s with host := { s.host with beatHi := BitVec.ofNat 32 (s.now.toNat / 2 ^ 32) } } : State).answer
    (leBytes 4 (s.now.toNat % 2 ^ 32)))

/-! ### Doorbells (R515 to R517) -/

/-- The channel bound to a session. -/
def State.chanOf (s : State) (sid : W32) : Option Nat :=
  (List.range 36).find? (fun c => (s.chan c).bind = .bound && (s.chan c).sid = sid)

/-- A refused doorbell: DB_ERR, and HIF_DB_INVALID in the ring's session log (R516). -/
def State.dbRefuse (s : State) (n : Nat) : State :=
  let r := s.ring n
  (s.setRing n { r with dbErr := true }).logSession (if r.st = .none then none else s.chanOf r.owner) eHifDbInvalid (0x100 + 8 * n)

/-- HIF_DBC_n. -/
def execHifDbc (ring : Nat) (tail : BitVec 32) (s : State) : Host.Outcome State Fault Refusal :=
  let r := s.ring ring
  let d := (tail - r.head).toNat
  .next (if r.st = .none || 2 ^ r.log2e < d || d < (r.tail - r.head).toNat then s.dbRefuse ring
    else s.setRing ring { r with tail })

/-- HIF_DBH_n. -/
def execHifDbh (ring : Nat) (chead : BitVec 32) (s : State) : Host.Outcome State Fault Refusal :=
  let r := s.ring ring
  .next (if r.st = .none || (r.written - r.chead).toNat < (chead - r.chead).toNat then s.dbRefuse ring
    else s.setRing ring { r with chead })

/-- HIF_ERRHD (R548). -/
def execHifErrhd (head : BitVec 32) (s : State) : Host.Outcome State Fault Refusal :=
  .next { s with host := { s.host with err := { s.host.err with consumed := head } } }

/-- COALESCE_TIMEOUT (R539). -/
def execCoalesceTimeout (ring : Nat) (s : State) : Host.Outcome State Fault Refusal :=
  let r := s.ring ring
  .next (if r.unsig = 0 then s else (s.setRing ring { r with unsig := 0 }).irq r.vector)

/-! ### Requests and responses (R522 to R527) -/

/-- The version a channel speaks (R527). -/
def Chan.version (x : Chan) : W16 := x.ver.getD 0x0100

/-- A channel that returns to UNBOUND (R531, R532): the failure count stays. The counter window of its session closes (R550). -/
def State.closeChan (s : State) (c : Nat) : State :=
  let x := s.chan c
  let s := s.setChan c { x with bind := .unbound, role := .none, part := 0, sid := 0, slot := 0, opart := 255, hn := [], mn := []
                                ver := none, noVersion := false, log := [], logLost := 0, lockS := 0, closing := false }
  if s.host.window = some c then { s with host := { s.host with window := none } } else s

/-- Write the response of a channel: header and body, BUSY clear, DONE set, the interrupt (R522, R523). A channel that a host reset found
busy is then UNBOUND (R550). -/
def State.respond (s : State) (c code : Nat) (tag : W32) (status : W16) (body : List Byte) : State :=
  if 36 ≤ c then s
  else
    let x := s.chan c
    let r := leBytes 2 code ++ leBytes 2 body.length ++ leBytes 4 tag.toNat ++ leBytes 2 status.toNat ++ leBytes 2 x.version.toNat
      ++ leBytes 4 (if x.bind = .bound then x.sid.toNat else 0) ++ body
    let s := (s.setChan c { x with resp := r, busy := false, done := true, lastTag := some (tag, code) }).answer r
    let s := if c < 32 && s.rdB (rMbxCtl c) 0 then s.irq (s.rdF (rMbxCtl c) 13 8) else s
    if x.busy && x.closing then s.closeChan c else s

/-- What a served request answers: now, or later. -/
abbrev Answer := Option (W16 × List Byte)

/-- A refusal's answer. -/
def refusal (code : W16) : Answer := some (code, [])

/-- Who may send a message: by channel (R525, R526). -/
def anyChan (_ : Chan) : Bool := true
def isBound (x : Chan) : Bool := x.bind = .bound
def hasRole (l : List Role) (x : Chan) : Bool := x.bind = .bound && l.contains x.role
/-- A TENANT session names its own partition only (R525). -/
def ownPart (x : Chan) (p : Nat) : Bool := x.role ≠ .tenant || x.part = p

/-- Messages served in any state of the module (R526, R608). -/
def State.mayServe (s : State) (code : Nat) (x : Chan) : Bool :=
  code = 1 || code = 2 || s.hifState = 2
  || (s.pwr.recovery && (code = 0x10 || code = 0x11 || (code = 0x133 && x.role = .service)))

/-- Serve a request of message `code` with a body of at most `size` bytes (R522 to R527): a busy channel ignores it; the general
refusals; then the message's own effect `f`. A management channel answers a repeated TAG with its last response (R658). Body bytes
beyond LEN are zero. -/
def State.serve (s : State) (m : Msg) (code size : Nat) (who : Chan → Bool) (f : State → List Byte → State × Answer) : State :=
  let c := m.ch
  let x := s.chan c
  if 36 ≤ c then s
  else if 32 ≤ c && x.lastTag.any (fun l => l.1 = m.tag) then (if x.busy then s else s.answer x.resp)
  else if x.busy then s.setChan c { x with overrun := true }
  else
    let out (s : State) (a : Answer) : State :=
      match a with
      | some (st, b) =>
        let s := if st = eHifRoleDenied then
            s.logSession (if x.bind = .bound && (s.chan c).bind = .bound then some c else none) st code else s
        s.respond c code m.tag st b
      | none => s.setChan c { s.chan c with busy := true, lastTag := some (m.tag, code) }
    let want : W32 := if x.bind = .bound || x.bind = .opening then x.sid else 0
    let s := s.setChan c { x with done := false }
    if x.bind = .locked then out s (refusal eHifLocked)
    else if 1008 < m.len.toNat || size < m.len.toNat || m.sid ≠ want then out s (refusal eHifMsgInvalid)
    else if code ≠ 1 && code ≠ 2 && (x.noVersion || m.version ≠ x.version) then out s (refusal eHifVersion)
    else if !s.mayServe code x then out s (refusal eHifNotReady)
    else if !who x then out s (refusal eHifRoleDenied)
    else
      let r := f s (padTo size (m.body.take m.len.toNat))
      out r.1 r.2

/-! ### HELLO and IDENTITY -/

/-- HELLO (R527): version 1.0 when it lies in the host's range. -/
def execHello (m : Msg) (s : State) : Host.Outcome State Fault Refusal :=
  .next (s.serve m 0x0001 4 anyChan (fun s b =>
    let x := s.chan m.ch
    if leAt b 0 2 ≤ 0x0100 && 0x0100 ≤ leAt b 2 2 then
      (s.setChan m.ch { x with ver := some 0x0100, noVersion := false }, some (0, leBytes 2 0x0100))
    else (s.setChan m.ch { x with noVersion := true }, refusal eHifVersion)))

def roleCode : Role → Nat
  | .none => 0
  | .operator => 1
  | .tenant => 2
  | .service => 3
  | .factory => 4
def roleOf (n : Nat) : Role :=
  if n = 1 then .operator else if n = 2 then .tenant else if n = 3 then .service else if n = 4 then .factory else .none
def noKey : KeySlot := {}
def State.key (s : State) (k : Nat) : KeySlot := tget (fun _ => noKey) s.host.keys k
def State.setKey (s : State) (k : Nat) (x : KeySlot) : State :=
  { s with host := { s.host with keys := tput (fun _ => noKey) s.host.keys k x } }

/-- IDENTITY (R525, R528): the identity registers, and role and partition of each key slot. -/
def execIdentity (m : Msg) (s : State) : Host.Outcome State Fault Refusal :=
  .next (s.serve m 0x0002 0 anyChan (fun s _ =>
    (s, some (0, (List.range 10).flatMap (fun i => leBytes 4 (s.hifWord (4 * i)))
      ++ (List.range 8).flatMap (fun k => leBytes 1 (roleCode (s.key k).role) ++ leBytes 1 (s.key k).part)))))

/-! ### Sessions (R528 to R532) -/

/-- The life-cycle states in which a slot of a role opens a session (R529): 0 BLANK, 1 FACTORY, 2 FIELD, 3 SERVICE, 4 RETIRED. -/
def roleOpens (r : Role) (lc : Nat) : Bool :=
  match r with
  | .none => false
  | .factory => lc ≤ 1
  | .operator => lc = 1 || lc = 2 || lc = 3
  | .tenant => lc = 2 || lc = 3
  | .service => lc = 1 || lc = 2 || lc = 3 || lc = 4

/-- SESSION_OPEN (R530): the nonce and the session identifier are free values (notes/assumptions/9.md). -/
def execSessionOpen (m : Msg) (s : State) : Host.Outcome State Fault Refusal :=
  .next (s.serve m 0x0010 32 (fun x => x.bind = .unbound) (fun s b =>
    let x := s.chan m.ch
    let slot := leAt b 0 1
    let part := leAt b 1 1
    let k := s.key slot
    if 7 < slot || leAt b 2 14 ≠ 0 then (s, refusal eHifMsgInvalid)
    else if !roleOpens k.role s.test.lc then (s, refusal eHifRoleDenied)
    else if k.role = .tenant && (part ≠ k.part || (s.part part).st ≠ .ready) then (s, refusal eHifPartInvalid)
    else if k.role ≠ .tenant && part ≠ 255 then (s, refusal eHifMsgInvalid)
    else
      let mn := (List.range 4).flatMap (fun i => leBytes 8 (s.free i).toNat)
      let sid := BitVec.ofNat 32 (s.free 4).toNat
      ((s.setChan m.ch { x with bind := .opening, sid, slot, opart := part, hn := (b.drop 16).take 16, mn }).bump,
       some (0, mn ++ leBytes 4 sid.toNat))))

/-- The message A of R530. -/
def proofMessage (c : Nat) (x : Chan) : List Byte :=
  [0x50, 0x48, 0x53, 0x45, 0x53, 0x53, 0x31] ++ leBytes 1 c ++ leBytes 1 x.slot ++ leBytes 1 x.opart ++ leBytes 4 x.sid.toNat
    ++ x.hn ++ x.mn

/-- A failed handshake (R531): UNBOUND, one failure more, and from the fourth on LOCKED. -/
def State.authFail (s : State) (c : Nat) : State :=
  let n := (s.chan c).fails + 1
  let s := s.closeChan c
  let x := s.chan c
  if n < 4 then s.setChan c { x with fails := n }
  else s.setChan c { x with fails := n, bind := .locked, lockS := min 64 (2 ^ (n - 4)), lockAt := s.now }

/-- SESSION_PROOF (R530, R531); `late`: more than 1 s after the nonce. -/
def execSessionProof (m : Msg) (late : Bool) (s : State) : Host.Outcome State Fault Refusal :=
  .next (s.serve m 0x0011 32 (fun x => x.bind = .opening) (fun s b =>
    let x := s.chan m.ch
    let k := s.key x.slot
    let a := proofMessage m.ch x
    if !late && k.role ≠ .none && b = hmac256 k.key a then
      (s.setChan m.ch { x with bind := .bound, role := k.role, part := if k.role = .tenant then x.opart else 0, fails := 0
                               mn := [], hn := [], log := [], logLost := 0 },
       some (0, hmac256 k.key (a ++ [0x4D])))
    else (s.authFail m.ch, refusal eHifAuthFail)))

/-- SESSION_CLOSE (R532). -/
def execSessionClose (m : Msg) (s : State) : Host.Outcome State Fault Refusal :=
  .next (s.serve m 0x0012 0 isBound (fun s _ => (s.closeChan m.ch, some (0, []))))

/-- NONCE_EXPIRY (R531). -/
def execNonceExpiry (ch : Nat) (s : State) : Host.Outcome State Fault Refusal :=
  .next (if (s.chan ch).bind = .opening then (s.authFail ch).logSession none eHifAuthFail 0x0011 else s)

/-- LOCK_EXPIRY (R531): UNBOUND with its failure count. -/
def execLockExpiry (ch : Nat) (s : State) : Host.Outcome State Fault Refusal :=
  let x := s.chan ch
  .next (if x.bind = .locked then s.setChan ch { x with bind := .unbound, lockS := 0 } else s)

/-- Some slot opens an OPERATOR session in the current life-cycle state (R535). -/
def State.operatorOpens (s : State) : Bool :=
  (List.range 8).any (fun k => (s.key k).role = .operator && roleOpens .operator s.test.lc)

/-- Close the sessions that a slot opened (R532). -/
def State.closeSlot (s : State) (k : Nat) : State :=
  (List.range 36).foldl (fun s c => if (s.chan c).bind = .bound && (s.chan c).slot = k then s.closeChan c else s) s

/-- KEY_SET (R535), which writes the configuration image (R612): SLOT, ROLE, PART in bytes 0 to 2, WKEY in bytes 16 to 47. An OPERATOR sets TENANT slots, empty slots to TENANT, and
its own slot. -/
def execKeySet (m : Msg) (s : State) : Host.Outcome State Fault Refusal :=
  .next (s.serve m 0x0013 48 (hasRole [.factory, .operator]) (fun s b =>
    let x := s.chan m.ch
    let slot := leAt b 0 1
    let role := roleOf (leAt b 1 1)
    let part := leAt b 2 1
    let old := (s.key slot).role
    let mine (r : Role) : Bool := r = .tenant || r = .none
    if 7 < slot || 4 < leAt b 1 1 || 7 < part || leAt b 3 13 ≠ 0 then (s, refusal eHifMsgInvalid)
    else if x.role = .operator && slot ≠ x.slot && !(mine old && mine role) then (s, refusal eHifRoleDenied)
    else
      let mask := hmac256 (s.key x.slot).key
        ([0x50, 0x48, 0x57, 0x52, 0x41, 0x50, 0x31] ++ leBytes 4 x.sid.toNat ++ leBytes 1 slot)
      let key := ((b.drop 16).zip mask).map (fun y => y.1 ^^^ y.2)
      let t := s.setKey slot (if role = .none then noKey else { role, part, key })
      if s.operatorOpens && !t.operatorOpens then (s, refusal eHifKeyInvalid)
      else ((if role = .none then t.closeSlot slot else t).flashImage 1, some (0, []))))

/-- ERRLOG_READ (R525, R534): byte 0 selects the module log; up to 60 entries are returned and removed, after their count and the
overflow count. -/
def logBytes (e : LogEntry) : List Byte := leBytes 2 e.code.toNat ++ zeros 2 ++ leBytes 4 e.off.toNat ++ leBytes 8 e.beat.toNat
def execErrlogRead (m : Msg) (s : State) : Host.Outcome State Fault Refusal :=
  .next (s.serve m 0x0014 16 isBound (fun s b =>
    let x := s.chan m.ch
    let sel := leAt b 0 1
    let out (l : List LogEntry) (lost : Nat) : Answer :=
      some (0, leBytes 4 (min 60 l.length) ++ leBytes 4 lost ++ zeros 8 ++ (l.take 60).flatMap logBytes)
    if 1 < sel || leAt b 1 15 ≠ 0 then (s, refusal eHifMsgInvalid)
    else if sel = 1 then
      if x.role = .operator || x.role = .service then
        ({ s with host := { s.host with log := s.host.log.drop 60 } }, out s.host.log s.host.err.dropped)
      else (s, refusal eHifRoleDenied)
    else (s.setChan m.ch { x with log := x.log.drop 60 }, out x.log x.logLost)))

/-! ### Rings (R536, R541) -/

/-- The partition of a ring number. -/
def ringPart (n : Nat) : Nat := n / 8
/-- A ring has a live command (R551). -/
def State.ringLive (s : State) (n : Nat) : Bool := s.cmds.any (fun k => k.ring = n)

/-- Bytes of a ring in the partition's granules (R536). -/
def State.ringAt (s : State) (p a n : Nat) : Bool :=
  match s.partRange p a n with
  | some pa => isDram pa
  | none => false

/-- RING_CREATE (R536). -/
def execRingCreate (m : Msg) (s : State) : Host.Outcome State Fault Refusal :=
  .next (s.serve m 0x0030 24 (hasRole [.operator, .tenant]) (fun s b =>
    let n := leAt b 0 1
    let e := leAt b 1 1
    let w := leAt b 2 1
    let cb := leAt b 8 8
    let rb := leAt b 16 8
    let p := ringPart n
    if 63 < n then (s, refusal eHifRingInvalid)
    else if !ownPart (s.chan m.ch) p then (s, refusal eHifRoleDenied)
    else if 3 < w then (s, refusal eHifMsgInvalid)
    else if (s.ring n).st ≠ .none || e < 4 || 16 < e || 63 < leAt b 3 1 || 255 < leAt b 4 2 || cb % 64 ≠ 0 || rb % 32 ≠ 0
        || (s.part p).st ≠ .ready || (w % 2 = 1 && !s.ringAt p cb (64 * 2 ^ e)) || (2 ≤ w && !s.ringAt p rb (32 * 2 ^ e)) then
      (s, refusal eHifRingInvalid)
    else
      (s.setRing n { st := .running, log2e := e, cmdDev := w % 2 = 1, cplDev := decide (2 ≤ w), vector := leAt b 3 1
                     coalN := leAt b 4 2, coalUs := leAt b 6 2, cbase := BitVec.ofNat 64 cb, rbase := BitVec.ofNat 64 rb
                     owner := (s.chan m.ch).sid }, some (0, []))))

/-- The checks that RING_DESTROY, RING_RESTART and RING_QUERY share: RING in byte 0. -/
def State.ringMsg (s : State) (ch : Nat) (b : List Byte) (f : Nat → State × Answer) : State × Answer :=
  let n := leAt b 0 1
  if 63 < n then (s, refusal eHifRingInvalid)
  else if !ownPart (s.chan ch) (ringPart n) then (s, refusal eHifRoleDenied)
  else f n

/-- RING_DESTROY (R525, R551). -/
def execRingDestroy (m : Msg) (s : State) : Host.Outcome State Fault Refusal :=
  .next (s.serve m 0x0031 1 (hasRole [.operator, .tenant]) (fun s b => s.ringMsg m.ch b (fun n =>
    if (s.ring n).st ≠ .halted || s.ringLive n then (s, refusal eHifRingInvalid) else (s.setRing n {}, some (0, [])))))

/-- RING_RESTART (R541). -/
def execRingRestart (m : Msg) (s : State) : Host.Outcome State Fault Refusal :=
  .next (s.serve m 0x0032 1 (hasRole [.operator, .tenant]) (fun s b => s.ringMsg m.ch b (fun n =>
    let r := s.ring n
    if r.st ≠ .halted then (s, refusal eHifRingInvalid)
    else (s.setRing n { r with st := .running, cause := 0 }, some (0, [])))))

/-- RING_QUERY (R525). -/
def execRingQuery (m : Msg) (s : State) : Host.Outcome State Fault Refusal :=
  .next (s.serve m 0x0033 1 (hasRole [.operator, .service, .tenant]) (fun s b => s.ringMsg m.ch b (fun n =>
    let r := s.ring n
    (s, some (0, leBytes 4 (s.ringSt n) ++ leBytes 4 r.head.toNat ++ leBytes 4 r.tail.toNat ++ leBytes 4 r.chead.toNat
      ++ leBytes 4 r.written.toNat)))))

/-- ERR_RING (R548). -/
def execErrRing (m : Msg) (s : State) : Host.Outcome State Fault Refusal :=
  .next (s.serve m 0x0050 10 (hasRole [.operator, .service]) (fun s b =>
    let e := leAt b 8 1
    if leAt b 0 8 % 32 ≠ 0 || e < 4 || 12 < e || 63 < leAt b 9 1 then (s, refusal eHifMsgInvalid)
    else ({ s with host := { s.host with err :=
      { on := true, base := BitVec.ofNat 64 (leAt b 0 8), log2e := e, vector := leAt b 9 1 } } }, some (0, []))))

/-! ### BAR2 map and the host's resets -/

/-- One entry of a BAR2_MAP: slot, and granule or 0xFFFF to unmap (R518, R525). -/
def State.mapEntry (s : State) (x : Chan) (e : Nat × Nat) : Answer :=
  let own := if e.2 = 0xFFFF then ((tget (fun _ => none) s.host.bar2 e.1).map (·.1)).getD x.part else s.owner (e.2 * 2 ^ 30)
  if 511 < e.1 || (e.2 ≠ 0xFFFF && 383 ≤ e.2) || (e.2 ≠ 0xFFFF && 7 < own) then refusal eHifMsgInvalid
  else if !ownPart x own then refusal eHifRoleDenied
  else none

def execBar2Map (m : Msg) (s : State) : Host.Outcome State Fault Refusal :=
  .next (s.serve m 0x0024 1008 (hasRole [.operator, .tenant]) (fun s b =>
    let n := m.len.toNat
    let es := (List.range (n / 4)).map (fun i => (leAt b (4 * i) 2, leAt b (4 * i + 2) 2))
    if n = 0 || n % 4 ≠ 0 then (s, refusal eHifMsgInvalid)
    else match es.findSome? (s.mapEntry (s.chan m.ch)) with
    | some e => (s, some e)
    | none =>
      (es.foldl (fun s e =>
        let v := if e.2 = 0xFFFF then none else some (s.owner (e.2 * 2 ^ 30), e.2)
        { s with host := { s.host with bar2 := tput (fun _ => none) s.host.bar2 e.1 v } }) s, some (0, []))))

/-- A host reset closes the session of a mailbox channel; where a request is being served, after its response (R510, R550). -/
def State.resetChan (s : State) (c : Nat) : State :=
  let x := s.chan c
  if x.busy then s.setChan c { x with closing := true } else s.closeChan c

/-- A host reset halts a ring one of whose two rings lies in host memory; the records of its taken commands are discarded (R510). -/
def State.resetRing (s : State) (n : Nat) : State :=
  let r := s.ring n
  if r.st = .none || (r.cmdDev && r.cplDev) then s
  else
    let s := if r.st = .running then s.setRing n { r with st := .halted, cause := 3 } else s
    { s with cmds := s.cmds.map (fun k => if k.ring = n then { k with discard := true } else k) }

/-- HOST_RESET (R510): link-down, hot reset or function-level reset. -/
def execHostReset (s : State) : Host.Outcome State Fault Refusal :=
  let s := (List.range 32).foldl State.resetChan s
  let s := { s with host := { s.host with bar2 := [], msix := false } }
  let s := (List.range 64).foldl State.resetRing s
  .next (s.event uHost 0 0 eHifHostReset)

/-- CONFIGURATION_REQUEST (R508, R609): before the function is ready it completes with Configuration Request Retry Status (answer 2);
afterwards it succeeds, and the host has MSI-X enabled (notes/assumptions/13.md). -/
def execConfigurationRequest (_off : Nat) (s : State) : Host.Outcome State Fault Refusal :=
  if s.host.cfgReady then .next (({ s with host := { s.host with msix := true } } : State).answer [0]) else .next (s.answer [2])

end Sys2Proof.Machine
end

