-- ==== Sys2Proof/Machine/Counters.lean ====
section
/-! DEFINITION. Counter views and captures (R631 to R638), beat windows (R639, R640), trackers (R645, R646), traces (R641, R647). -/

namespace Sys2Proof.Machine

/-! ### Views (R634 to R637) -/

/-- The 32 words of a bank with its tag. -/
def Bank.view (b : Bank) (low : Nat) : List W64 :=
  [BitVec.ofNat 64 (b.oper.toNat + 2 ^ 16 * b.layer.toNat + 2 ^ 32 * b.seq.toNat),
   BitVec.ofNat 64 (low + (if b.overlap then 2 ^ 10 else 0) + 2 ^ 16 * (b.beat.toNat % 2 ^ 48))]
  ++ (span 2 30).map (tget (fun _ => 0) b.words)
/-- A TOTAL set. -/
def Bank.total (b : Bank) : List W64 := b.view 0x1FF
/-- LIVE or LAST of tracker x. -/
def State.trackView (s : State) (x : Nat) (last : Bool) : List W64 :=
  let k := s.track x
  let b := if s.rdB (rCntTrk x) 28 != last then k.y else k.x
  b.view (x % 3 + (if last then 2 ^ 9 else 0))
/-- Words of a per-unit block. -/
def State.blockWords (s : State) (base n : Nat) : List W64 := (List.range n).map (fun i => tget (fun _ => 0) s.cnt.blocks (base + 8 * i))
def State.win (s : State) (slot : Nat) : Win := tget (fun _ => {}) s.cnt.wins slot
def State.setWin (s : State) (slot : Nat) (w : Win) : State :=
  { s with cnt := { s.cnt with wins := tput (fun _ => {}) s.cnt.wins slot w } }

/-- The view that holds a window offset: its first offset and its words (R636). -/
def State.viewAt (s : State) (off : Nat) : Option (Nat × List W64) :=
  if off < 0x4000 then
    let p := off / 0x800
    let k := off % 0x800 / 0x100
    if k = 0 then some (0x800 * p, (s.bank p).total)
    else if k < 7 then some (0x800 * p + 0x100 * k, s.trackView (3 * p + (k - 1) / 2) (k % 2 = 0))
    else none
  else if off < 0x4100 then some (0x4000, s.cnt.module_.total)
  else if (0x10000 ≤ off ∧ off < 0x10000 + 64 * 52) ∨ (0x11000 ≤ off ∧ off < 0x11300) then
    some (off / 64 * 64, s.blockWords (off / 64 * 64) 8)
  else if 0x20000 ≤ off ∧ off < 0x20000 + 256 * 144 then some (off / 256 * 256, s.blockWords (off / 256 * 256) 32)
  else if 0x60000 ≤ off ∧ off < 0x61000 then
    some (off / 256 * 256, (List.range 32).map (fun i => (s.win ((off - 0x60000) / 256)).record.getD i 0))
  else none

/-- COUNTER_CAPTURE (R635, R638): path 0 is the counter window, 1 a partition's doorbell page. A read of the window that no session holds
returns zero and is logged (R23). -/
def execCounterCapture (path off : Nat) (s : State) : Host.Outcome State Fault Refusal :=
  if path = 0 && s.host.window.isNone then .next ((s.logSession none eHifRoleDenied (0x80000 + off)).answer (zeros 8))
  else if path ≠ 0 && 0x4000 ≤ off then .next (s.answer (zeros 8))
  else match s.viewAt off with
  | none => .next (s.answer (zeros 8))
  | some (base, words) =>
    let old := s.cnt.shadows.find? (fun (x : Nat × Nat × List W64) => x.1 = path && x.2.1 = base)
    if off = base then
      let t : State := { s with cnt := { s.cnt with
        shadows := s.cnt.shadows.filter (fun (x : Nat × Nat × List W64) => !(x.1 = path && x.2.1 = base)) ++ [(path, base, words)] } }
      .next (t.answer (leBytes 8 (words.getD 0 0).toNat))
    else .next (s.answer (leBytes 8 (((old.map (·.2.2)).getD []).getD ((off - base) / 8) 0).toNat))

/-! ### The window's session (R638) -/

def execWindowOpen (m : Msg) (s : State) : Host.Outcome State Fault Refusal :=
  .next (s.serve m 0x0040 0 (hasRole [.operator, .service]) (fun s _ =>
    if s.host.window.any (fun c => c ≠ m.ch) then (s, refusal eHifRoleDenied)
    else ({ s with host := { s.host with window := some m.ch } }, some (0, []))))
def execWindowClose (m : Msg) (s : State) : Host.Outcome State Fault Refusal :=
  .next (s.serve m 0x0041 0 isBound (fun s _ =>
    if s.host.window = some m.ch then ({ s with host := { s.host with window := none } }, some (0, [])) else (s, refusal eHifRoleDenied)))

/-! ### Beat windows (R639, R640) -/

/-- Word 0 of a window record. -/
def winWord (len slot part flags : Nat) : Nat := 2 ^ 32 * len + 2 ^ 24 * slot + 2 ^ 16 * part + 2 ^ 8 * flags
/-- The set that a window samples. -/
def State.winSet (s : State) (part : Nat) : Tab W64 := if part < 8 then (s.bank part).words else s.cnt.module_.words
/-- Write a window record: to DEST in the partition's memory, or to the window area. -/
def State.putWindow (s : State) (slot part : Nat) (dest : W64) (words : List W64) (flags : Nat) : State :=
  let w : Win := s.win slot
  if part < 8 then
    let s := match s.partRange part dest.toNat 256 with
      | some pa => (s.writeMem pa (words.flatMap (fun (x : W64) => leBytes 8 x.toNat))).countMem { part := some part, wing := s.wingOfPart part } pa 256 true
      | none => s
    s.trace part 0x07 uWc (s.wingOfPart part) {} (slot + 2 ^ 8 * flags)
  else (s.setWin slot { w with record := words }).traceModule 0x07 uWc 0 (slot + 2 ^ 8 * flags)
/-- A window opens at its beat: a window still open is kept, and its record shows OVERRUN. -/
def State.openWindow (s : State) (slot part : Nat) (n : W64) : State :=
  let w := s.win slot
  if w.opened.isSome then s.setWin slot { w with overrun := true }
  else if w.len = 0 then s
  else s.setWin slot { w with opened := some n, openLen := w.len, openDest := w.dest, part, base := s.winSet part, overrun := false }
/-- A window's second capture. -/
def State.closeWindow (s : State) (slot : Nat) : State :=
  let w := s.win slot
  match w.opened with
  | none => s
  | some n =>
    if s.now.toNat < n.toNat + w.openLen then s
    else
      let cur := s.winSet w.part
      let fl := if w.overrun then 2 else 0
      let words := [BitVec.ofNat 64 (winWord w.openLen slot w.part fl), n]
        ++ (span 2 30).map (fun i => tget (fun _ => 0) cur i - tget (fun _ => 0) w.base i)
      (s.setWin slot { w with opened := none, base := [], overrun := false }).putWindow slot w.part w.openDest words fl
def execWindowCloseCapture (slot : Nat) (s : State) : Host.Outcome State Fault Refusal := .next (s.closeWindow slot)
/-- A late window event: a record with LATE and zero counts. -/
def State.lateWindow (s : State) (slot part : Nat) (n : W64) : State :=
  s.putWindow slot part (s.win slot).dest ([BitVec.ofNat 64 (winWord (s.win slot).len slot part 1), n] ++ List.replicate 30 0) 1

/-! ### Trackers (R631, R632, R645, R646) -/

/-- SWAP written to CNT_TRK_x: a tracker that is OFF has no swap. -/
def State.swapRow (s : State) (x : Nat) : State :=
  let mode := s.rdF (rCntTrk x) 31 30
  if mode = 1 || mode = 2 then s.swapTracker x 0 0 0 else s
def execSwap (x : Nat) (s : State) : Host.Outcome State Fault Refusal := .next (s.swapRow x)
def execCntTrkRead (x : Nat) (s : State) : Host.Outcome State Fault Refusal :=
  .next ((s.wrF (rCntTrk x) 27 20 0).answer (leBytes 4 (s.rd (rCntTrk x)).toNat))
/-- A read of CNT_TRC_y clears LOST (R647). -/
def execCntTrcRead (y : Nat) (s : State) : Host.Outcome State Fault Refusal :=
  let lost := tget (fun _ => (0, 0)) s.cnt.traceLost y
  let t : State := { s with cnt := { s.cnt with traceLost := tput (fun _ => (0, 0)) s.cnt.traceLost y (0, lost.2) } }
  .next ((t.wrF (rCntTrc y) 15 0 0).answer (leBytes 4 (bfSet (s.rd (rCntTrc y)) 15 0 lost.1).toNat))

/-- CNT_TRACK: PART, tracker, MODE, SWAP in bytes 0 to 3, the filter in bytes 8 to 15 (notes/assumptions/36.md). -/
def execCntTrack (m : Msg) (s : State) : Host.Outcome State Fault Refusal :=
  .next (s.serve m 0x0140 16 (hasRole [.operator, .tenant]) (fun s b =>
    let p := leAt b 0 1
    let t := leAt b 1 1
    let x := 3 * p + t
    if 7 < p || 2 < t || 2 < leAt b 2 1 || 1 < leAt b 3 1 || leAt b 4 4 ≠ 0 then (s, refusal eHifMsgInvalid)
    else if !ownPart (s.chan m.ch) p then (s, refusal eHifRoleDenied)
    else if leAt b 3 1 = 1 then (s.swapRow x, some (0, []))
    else ((s.wrF (rCntTrk x) 31 30 (leAt b 2 1)).wr64 (rCntTrkf x) (leAt b 8 8), some (0, []))))

/-! ### Traces (R641, R645, R647) -/

/-- The module's trace ring in granule 383 (notes/assumptions/36.md). -/
def traceBase : Nat := fwGran + 0x8000000

/-- TRACE_CFG: ring, RING, TSHIFT, and EN and GLOBAL_ALL in bytes 0 to 3, the base in bytes 8 to 15 (notes/assumptions/36.md). -/
def execTraceCfg (m : Msg) (s : State) : Host.Outcome State Fault Refusal :=
  .next (s.serve m 0x0142 16 (hasRole [.operator, .tenant]) (fun s b =>
    let y := leAt b 0 1
    let rg := leAt b 1 1
    let fl := leAt b 3 1
    let base := leAt b 8 8
    let at_ := if y = 8 then some traceBase else (s.partRange y base (32 * 2 ^ rg)).filter isDram
    if 8 < y || rg < 10 || 20 < rg || 31 < leAt b 2 1 || 3 < fl || (y < 8 && 1 < fl) || leAt b 4 4 ≠ 0 then (s, refusal eHifMsgInvalid)
    else if (s.chan m.ch).role = .tenant && y ≠ (s.chan m.ch).part then (s, refusal eHifRoleDenied)
    else match (if base % 4096 = 0 && (y < 8 || base = 0) then at_ else none) with
    | none => (s, refusal eHifMsgInvalid)
    | some pa =>
      let s := (s.wrF (rCntTrc y) 31 20 (2 ^ 11 * (fl % 2) + 2 ^ 6 * rg + 2 * leAt b 2 1 + fl / 2)).wr64 (rCntTrcb y) pa
      let s := if fl % 2 = 1 then
          { s.zeroFill pa (32 * 2 ^ rg) with cnt := { s.cnt with traceNext := tput (fun _ => 0) s.cnt.traceNext y 0 } } else s
      (s, some (0, []))))

/-- TRACE_READ: the first slot in bytes 0 to 3; the count and up to 31 records (notes/assumptions/36.md). -/
def execTraceRead (m : Msg) (s : State) : Host.Outcome State Fault Refusal :=
  .next (s.serve m 0x0143 4 (hasRole [.operator, .service]) (fun s b =>
    let n := 2 ^ max 10 (min 20 (s.rdF (rCntTrc 8) 30 26))
    let k := leAt b 0 4
    if n ≤ k then (s, refusal eHifMsgInvalid)
    else
      let c := min 31 (n - k)
      (s, some (0, leBytes 4 c ++ zeros 12 ++ s.seen (s.rd64 (rCntTrcb 8) + 32 * k) (32 * c)))))

end Sys2Proof.Machine
end

