-- ==== Sys2Proof/Machine/Parts.lean ====
section
/-! DEFINITION. Partitions (R542 to R547, R550): creation, destruction, pre-emption and query, and the wait of a request until no command
of the partition is live. -/

namespace Sys2Proof.Machine

/-! ### Pre-emption (R546) -/

/-- No command of a partition is live. -/
def State.partIdle (s : State) (p : Nat) : Bool := s.cmds.all (fun k => k.part ≠ p)

/-- Halt every ring of a partition with CAUSE 2. -/
def State.haltPart (s : State) (p : Nat) : State :=
  (List.range 8).foldl (fun s j =>
    let r := s.ring (8 * p + j)
    if r.st = .running || r.st = .halted then s.setRing (8 * p + j) { r with st := .halted, cause := 2 } else s) s

/-- ABORT: every taken command other than a collective ends with HIF_PREEMPTED (R493, R546). -/
def State.abortPart (s : State) (p : Nat) : State :=
  (s.cmds.filter (fun k => k.part = p && k.opcode ≠ 0x20)).foldl (fun s k =>
    (s.failCmd k.ring k.dcount eHifPreempted 0).updCmd k.ring k.dcount (fun k => { k with preempted := true })) s

/-- Apply a PREEMPT and remember who waits for it. -/
def State.preempt (s : State) (p : Nat) (abort : Bool) (w : Preempt) : State :=
  let s := s.haltPart p
  let s := if abort then s.abortPart p else s
  s.setPart p { s.part p with preempts := (s.part p).preempts ++ [w] }

/-! ### Creation (R543 to R545) -/

/-- The bits set in a little-endian bit set of n bytes. -/
def bitsOf (b : List Byte) (off n : Nat) : List Nat :=
  let v := leAt b off n
  (List.range (8 * n)).filter (fun i => v / 2 ^ i % 2 = 1)

/-- A partition of a PART_CREATE body. -/
def partOf (b : List Byte) : Part :=
  { st := .ready, check := leAt b 1 1 % 8, minCheck := leAt b 1 1 / 8 % 8, gtBase := leAt b 2 2, gtCount := leAt b 4 2
    keyslot := leAt b 6 1, cores := BitVec.ofNat 128 (leAt b 8 16), gran := BitVec.ofNat 384 (leAt b 24 48)
    lpage := BitVec.ofNat 176 (leAt b 72 22), gmode := BitVec.ofNat 768 (leAt b 96 96) }

def Part.grans (x : Part) : List Nat := (List.range 384).filter (fun g => x.gran.getLsbD g)
def Part.lpages (x : Part) : List Nat := (List.range 176).filter (fun g => x.lpage.getLsbD g)
def Part.coreList (x : Part) : List Nat := (List.range 128).filter (fun g => x.cores.getLsbD g)
/-- MODE of granule g in GMODE. -/
def Part.mode (x : Part) (g : Nat) : Nat := bf x.gmode (2 * g + 1) (2 * g)

/-- Group-table entries of another partition among those of x. -/
def State.entriesTaken (s : State) (p : Nat) (x : Part) : Bool :=
  (List.range 8).any (fun q => q ≠ p && (s.part q).st ≠ .free
    && decide (x.gtBase < (s.part q).gtBase + (s.part q).gtCount) && decide ((s.part q).gtBase < x.gtBase + x.gtCount))

/-- R544, first list. A core of another partition counts with the resources that belong to it. -/
def State.partInvalid (s : State) (p : Nat) (x : Part) : Bool :=
  7 < p || (s.part p).st ≠ .free || x.check < x.minCheck || 4 < x.check || 4 < x.minCheck
  || x.gran.getLsbD 383 || x.grans.any (fun g => s.rdF (rMemGran g) 11 8 ≠ 0xF)
  || x.lpages.any (fun j => s.rdF (rMemLpage j) 3 0 ≠ 0xF)
  || (0 < x.gtCount && (0xFFE < x.gtBase + x.gtCount - 1 || s.entriesTaken p x))
  || !modesFit (fun g => if x.gran.getLsbD g then x.mode g else s.modeOf g)
  || (x.keyslot ≠ 255 && (7 < x.keyslot || (s.key x.keyslot).role ≠ .tenant || (s.key x.keyslot).part ≠ p))
/-- A named core has a thread that is not FREE. -/
def State.coresBusy (s : State) (x : Part) : Bool :=
  x.coreList.any (fun c => (s.phys c).any (fun i => (List.range 32).any (fun t => (s.thr i t).st ≠ .free)))

/-- Base of larder page j (R345). -/
def pageBase (j : Nat) : Nat := larderBase (j / 88) + 2 ^ 20 * (j % 88)

/-- Steps 2 to 5 of R545. -/
def State.makePart (s : State) (p : Nat) (x : Part) : State :=
  let s := x.grans.foldl (fun s g => ((s.wrF (rMemGran g) 5 4 (x.mode g)).wrB (rMemGran g) 3 false).refill g) s
  let s := x.lpages.foldl (fun s j => s.zeroFill (pageBase j) (2 ^ 20)) s
  let s := x.coreList.foldl (fun s c =>
    match s.phys c with
    | some i => (List.range 48).foldl (fun s j => s.setLatch i j 0) (s.zeroFill (storeBase i) storeSize)
    | none => s) s
  let s := (s.setPart p x).commitTable 3
  let s := x.grans.foldl (fun s g => s.wrF (rMemGran g) 11 8 p) s
  x.lpages.foldl (fun s j => s.wrF (rMemLpage j) 3 0 p) s

/-- PART_CREATE. -/
def execPartCreate (m : Msg) (s : State) : Host.Outcome State Fault Refusal :=
  .next (s.serve m 0x0020 192 (hasRole [.operator]) (fun s b =>
    let p := leAt b 0 1
    let x := partOf b
    if 63 < leAt b 1 1 || leAt b 7 1 ≠ 0 || leAt b 94 2 ≠ 0 then (s, refusal eHifMsgInvalid)
    else if s.partInvalid p x then (s, refusal eHifPartInvalid)
    else if s.coresBusy x then (s, refusal eHifPartBusy)
    else if x.coreList.any (fun c => (s.partOfCore c).isSome) then (s, refusal eHifPartInvalid)
    else (s.makePart p x, some (0, []))))

/-! ### Destruction (R547) -/

/-- Steps 2 to 6 once no command of the partition is live; its snapshots and waiting threads go with it (R374, R382). -/
def State.dropPart (s : State) (p : Nat) : State :=
  let x := s.part p
  let s := (List.range 8).foldl (fun s j => s.setRing (8 * p + j) {}) s
  let s := (List.range 36).foldl (fun s c =>
    if (s.chan c).bind = .bound && (s.chan c).role = .tenant && (s.chan c).part = p then s.closeChan c else s) s
  let s := { s with host := { s.host with bar2 := s.host.bar2.filter (fun e => e.2.all (fun (y : Nat × Nat) => !x.gran.getLsbD y.2)) } }
  let s := x.coreList.foldl (fun s c =>
    match s.phys c with
    | some i => (List.range 48).foldl (fun s j => s.extLatch i j (.brk 2)) s
    | none => s) s
  let s := x.grans.foldl (fun s g => (s.refill g).wrF (rMemGran g) 11 8 0xF) s
  let s := x.lpages.foldl (fun s j => (s.zeroFill (pageBase j) (2 ^ 20)).wrF (rMemLpage j) 3 0 0xF) s
  let s := { s with beat := { s.beat with snaps := s.beat.snaps.filter (fun n => n.part ≠ p) } }
  (s.setPart p {}).commitTable 3

/-- Answer the requests that wait for a partition to be idle, dropping it when one of them destroys it. -/
def State.answerPreempts (s : State) (p : Nat) : State :=
  if !s.partIdle p then s
  else
    let ws := (s.part p).preempts
    let s := s.setPart p { s.part p with preempts := [] }
    let s := if ws.any (fun w => w.destroy) then s.dropPart p else s
    ws.foldl (fun s w =>
      s.respond w.ch (if w.destroy then 0x0021 else 0x0023) w.tag 0 (if w.destroy then [] else leBytes 4 w.ended)) s

/-- PART_DESTROY: PREEMPT with ABORT, and the rest when the partition is idle. -/
def execPartDestroy (m : Msg) (s : State) : Host.Outcome State Fault Refusal :=
  .next (s.serve m 0x0021 1 (hasRole [.operator]) (fun s b =>
    let p := leAt b 0 1
    if 7 < p || (s.part p).st ≠ .ready then (s, refusal eHifPartInvalid)
    else
      let s := s.setPart p { s.part p with st := .destroying }
      let s := s.preempt p true { ch := m.ch, tag := m.tag, destroy := true }
      if s.partIdle p then
        let t := s.setPart p { s.part p with preempts := (s.part p).preempts.dropLast }
        ((t.answerPreempts p).dropPart p, some (0, []))
      else (s, none)))

/-- PREEMPT: PART in byte 0, MODE in byte 1 (R546). -/
def execPreempt (m : Msg) (s : State) : Host.Outcome State Fault Refusal :=
  .next (s.serve m 0x0023 2 (hasRole [.operator, .tenant]) (fun s b =>
    let p := leAt b 0 1
    if 7 < p || 1 < leAt b 1 1 then (s, refusal eHifMsgInvalid)
    else if !ownPart (s.chan m.ch) p then (s, refusal eHifRoleDenied)
    else if (s.part p).st ≠ .ready then (s, refusal eHifPartInvalid)
    else
      let s := s.preempt p (leAt b 1 1 = 1) { ch := m.ch, tag := m.tag }
      if s.partIdle p then
        (s.setPart p { s.part p with preempts := (s.part p).preempts.dropLast }, some (0, leBytes 4 0))
      else (s, none)))

/-- PART_QUERY: the layout of PART_CREATE, with the state in byte 7. -/
def pstateCode : PState → Nat
  | .free => 0
  | .creating => 1
  | .ready => 2
  | .destroying => 3
def Part.body (x : Part) (p : Nat) : List Byte :=
  leBytes 1 p ++ leBytes 1 (x.check + 8 * x.minCheck) ++ leBytes 2 x.gtBase ++ leBytes 2 x.gtCount ++ leBytes 1 x.keyslot
    ++ leBytes 1 (pstateCode x.st) ++ leBytes 16 x.cores.toNat ++ leBytes 48 x.gran.toNat ++ leBytes 22 x.lpage.toNat ++ zeros 2
    ++ leBytes 96 x.gmode.toNat
def execPartQuery (m : Msg) (s : State) : Host.Outcome State Fault Refusal :=
  .next (s.serve m 0x0022 1 (hasRole [.operator, .service, .tenant]) (fun s b =>
    let p := leAt b 0 1
    if 7 < p then (s, refusal eHifMsgInvalid)
    else if !ownPart (s.chan m.ch) p then (s, refusal eHifRoleDenied)
    else (s, some (0, (s.part p).body p))))

end Sys2Proof.Machine
end

