-- ==== Sys2Proof/Machine/Rel.lean ====
section
/-! DEFINITION. The rolling core test (R559 to R563), life-cycle states (R570, R571), pattern sets (R567 to R569), diagnostics (R572), hallway
spares (R573), native reports (R578 to R580) and ledger reads (R583). -/

namespace Sys2Proof.Machine

/-! ### The rolling core test -/

/-- The test engine runs in no state but FACTORY, FIELD and SERVICE (R570). -/
def State.engineAllowed (s : State) : Bool := s.test.lc = 1 || s.test.lc = 2 || s.test.lc = 3

/-- A wing withdraws a core (R562). -/
def State.withdraw (s : State) (i : Nat) : State :=
  let w := wingOf i
  let s := { s with test := { s.test with deferred := tput (fun _ => none) s.test.deferred w none } }
  let s := (s.setTest w i 5).wrF (rBstWing w) 20 14 0
  let s := s.setCore i { s.core i with withdrawn := true, testNext := false }
  let s := { s with test := { s.test with running := tput (fun _ => {}) s.test.running w (s.patternSet 1) } }
  (s.event uCore 0 i eBstWithdrawn).nextSlice w 0 s.now

/-- Test a core (R560): where it stands in the attic, or after a planned hand-over; with no spare the test is deferred, or withdraws the
core at once under a limit of 0 (R562, R585). A wing tests one core at a time: another one waits (R559, R584). -/
def State.testDue (s : State) (i : Nat) : State :=
  let w := wingOf i
  if !s.engineAllowed || (s.core i).retired then s
  else if s.testState w ≠ 0 && (s.testState w ≠ 4 || s.testCore w ≠ i) then s.setCore i { s.core i with testNext := true }
  else if s.handovers.any (fun h => h.old = i) then s.setTest w i 2
  else if (s.logical i).isNone then s.beginTest i
  else match s.spareFor w with
  | some _ => ((s.setTest w i 2).wrB (rCoreCtl i) 30 true).wrB (rCoreStat i) 5 (!s.fenced i)
  | none => if s.rdF rBstRot 15 0 = 0 then s.withdraw i else s.deferTest i

/-- The cores of a wing. -/
def wingCores (w : Nat) : List Nat := span (72 * w) 72

/-- The wing's test engine is free, or a spare was released: a deferred core retries, and then a core that waits is tested (R562,
R584). -/
def State.nextTest (s : State) (w : Nat) : State :=
  if s.testState w = 4 then
    if (s.spareFor w).isSome then s.testDue (s.testCore w) else s
  else if s.testState w = 0 then
    match (wingCores w).find? (fun i => (s.core i).testNext && !(s.core i).retired && !s.handovers.any (fun h => h.old = i)) with
    | some i => s.testDue i
    | none => s
  else s

/-- The core of wing w that falls due next: ascending physical index (R559). -/
def State.dueCore (s : State) (w : Nat) : Nat := 72 * w + tget (fun _ => 0) s.test.nextCore w % 72

/-- ROT_H × 3,600 / 72 seconds have passed since the last core of wing w fell due (R559, R585). -/
def State.dueTime (s : State) (w : Nat) : Bool :=
  match tget (fun _ => none) s.test.dueAt w with
  | some b => decide (max 1 (s.rdF rBstRot 23 16) * 50000000000 ≤ s.nsSince b)
  | none => true

/-- ROLLING_TEST_DUE (R559): before its time, or for another core than the next one, it does nothing. -/
def execRollingTestDue (wing core : Nat) (s : State) : Host.Outcome State Fault Refusal :=
  .next (if s.rdB rBstRot 31 && wing < 2 && core = s.dueCore wing && s.dueTime wing then
    ({ s with test := { s.test with nextCore := tput (fun _ => 0) s.test.nextCore wing ((core - 72 * wing + 1) % 72)
                                    dueAt := tput (fun _ => none) s.test.dueAt wing (some s.now) } } : State).testDue core
  else s)

/-- TEST_WITHDRAW (R562): the deferral has lasted DEFER × 65,536 beats. -/
def execTestWithdraw (wing : Nat) (s : State) : Host.Outcome State Fault Refusal :=
  match tget (fun _ => none) s.test.deferred wing with
  | some b =>
    .next (if s.testState wing = 4 && b.toNat + 65536 * s.rdF rBstRot 15 0 ≤ s.now.toNat then s.withdraw (s.testCore wing) else s)
  | none => .next s

/-- A slice of the wing's test (R561): of a free core, or of a withdrawn one whose threads are FREE. It counts, and the next one
follows 250 ms after this one's start. -/
def State.runSlice (s : State) (w : Nat) : State :=
  let i := s.testCore w
  let idle := (List.range 32).all (fun t => (s.thr i t).st = .free)
  let n := s.rdF (rBstWing w) 20 14
  let set := tget (fun _ => {}) s.test.running w
  let again := s.now + BitVec.ofNat 64 (s.nsBeats 250000000)
  if s.testState w = 5 && !idle then s.nextSlice w n again
  else if s.testState w = 3 || s.testState w = 5 then
    let s := (s.setTest w i 3).wrB (rCoreStat i) 3 true
    let s := s.incF (rBstWing w) 20 14 1
    if n + 1 < set.slices then s.nextSlice w (n + 1) again else s
  else s

/-- A test ends: the wing's engine is idle, and its remaining slices are dropped. -/
def State.endTest (s : State) (w i : Nat) : State :=
  let s := ((s.setTest w 0xFF 0).wrF (rBstWing w) 20 14 0).wrB (rCoreStat i) 3 false
  s.setEvents (s.beat.events.filter (fun e => e.group ≠ localGroup w))

/-- A passed test (R560, R562, R563): the ledger and the fence are cleared, the store is filled with zeros; a withdrawn core gets its
identity back. -/
def State.testPassed (s : State) (i : Nat) : State :=
  let k := s.core i
  let keep := if k.withdrawn then s.keepBytes i else 0
  let s := s.clearLedger i
  let s := s.setCore i { s.core i with passed := true, lastPass := s.now, withdrawn := false, testNext := false }
  let s := s.zeroFill (storeBase i + keep) (storeSize - keep)
  ((s.wrB (rCoreCtl i) 31 false).wrB (rCoreStat i) 6 false).wrB (rCoreCtl i) 30 false

/-- A failed test (R563, R581): RETIRED, with the blast-radius report. A core withdrawn for its test gives up its identity as in a fault
takeover. -/
def State.testFailed (s : State) (i : Nat) : State :=
  let s := s.blastReport i eBstFail
  let s := s.setCore i { s.core i with passed := false, retired := true, withdrawn := false, testNext := false }
  if (s.logical i).isSome then s.faultTakeover i ⟨0, none⟩ [] else s

/-- CORE_TEST_RESULT (R563). -/
def State.testResult (s : State) (i : Nat) (pass : Bool) (ms : Nat) : State :=
  let w := wingOf i
  if s.testCore w ≠ i || (s.testState w ≠ 3 && s.testState w ≠ 5) then s
  else
    let set := tget (fun _ => {}) s.test.running w
    let word := BitVec.ofNat 32 (i * 2 ^ 24 + (if pass then 2 ^ 23 else 0) + min 0xFFFF ms)
    let s := (s.wr (rBstResult w) word).wr (rBstCov w) (BitVec.ofNat 32 (set.sa % 2 ^ 14 * 2 ^ 18 + set.tr % 2 ^ 14 * 2 ^ 4))
    let s := s.endTest w i
    let s := if pass then
        (s.testPassed i).report { unit := uCore, sev := 0, inst := i, err := 0, beat := 0, rseq := 0, detail := word.toNat }
      else s.testFailed i
    (s.countSpares w).nextTest w

def execCoreTestResult (core : Nat) (pass : Bool) (durationMs : Nat) (s : State) : Host.Outcome State Fault Refusal :=
  .next (s.testResult core pass durationMs)

/-! ### Hallway lanes (R33, R573) -/

/-- HALLWAY_LANE_SPARE: 16 spare lanes in each direction. -/
def execHallwayLaneSpare (dir lane : Nat) (s : State) : Host.Outcome State Fault Refusal :=
  let n := tget (fun _ => 0) s.fab.hallUsed dir
  .next (if n < 16 then
      (({ s with fab := { s.fab with hallUsed := tput (fun _ => 0) s.fab.hallUsed dir (n + 1) } } : State)).spareUsed uHall (272 * dir + lane)
    else s.noSpare uHall (272 * dir + lane))

/-! ### Native reports (R578 to R580, R583) -/

/-- A record on the wire. A ledger-entry record has its own layout; its detail holds the index below and the entry above (R583). -/
def Report.bytes (r : Report) : List Byte :=
  if r.rtype = 3 then
    padTo 64 (leBytes 2 3 ++ zeros 2 ++ leBytes 2 r.inst ++ zeros 10 ++ leBytes 4 r.rseq.toNat ++ leBytes 4 r.detail ++ zeros 8
      ++ leBytes 16 (r.detail / 2 ^ 32))
  else
    leBytes 2 2 ++ leBytes 1 r.unit ++ leBytes 1 r.sev ++ leBytes 2 r.inst ++ leBytes 2 r.err.toNat ++ leBytes 8 r.beat.toNat
      ++ leBytes 4 r.rseq.toNat ++ leBytes 1 r.part ++ leBytes 1 (if r.summary then 1 else 0) ++ leBytes 2 r.layer.toNat ++ leBytes 2 r.oper.toNat
      ++ leBytes 2 r.temp.toNat ++ leBytes 4 r.seq.toNat ++ leBytes 2 r.volt.toNat ++ zeros 2 ++ leBytes 28 r.detail

/-- The datagram header, records and tag. -/
def State.datagram (s : State) (l : List Report) : List Byte :=
  let first := (l.head?.map (·.rseq)).getD 0
  let b := [0x50, 0x48, 0x4E, 0x52] ++ leBytes 2 0x0100 ++ leBytes 2 s.maddr ++ leBytes 8 Config.serial.toNat ++ leBytes 4 first.toNat
    ++ leBytes 1 l.length ++ zeros 11 ++ l.flatMap Report.bytes
  b ++ (hmac256 (s.key Config.mgmtSlot.toNat).key b).take 16

/-- NATIVE_REPORT_SEND: up to 16 records, those asked for again first, after the SUMMARY records that are due (R580). -/
def execNativeReportSend (s : State) : Host.Outcome State Fault Refusal :=
  let s := s.dueSummaries
  if s.resend ≠ [] then
    let l := s.reports.filter (fun r => (s.resend.take 16).contains r.rseq)
    .next (({ s with resend := s.resend.drop 16 } : State).answer (s.datagram l))
  else
    let l := (s.reports.filter (fun r => decide ((r.rseq - s.rsent).toNat < 2 ^ 31))).take 16
    match l.getLast? with
    | none => .next s
    | some r => .next (({ s with rsent := r.rseq + 1 } : State).answer (s.datagram l))

/-- REPORT_RESEND: first RSEQ in bytes 0–3, count in bytes 4–7 (notes/assumptions/16.md). -/
def execReportResend (m : Msg) (s : State) : Host.Outcome State Fault Refusal :=
  .next (s.serve m 0x0114 8 (hasRole [.operator, .service]) (fun s b =>
    let first := BitVec.ofNat 32 (leAt b 0 4)
    let want := (s.reports.filter (fun r => decide ((r.rseq - first).toNat < leAt b 4 4))).map (·.rseq)
    ({ s with resend := s.resend ++ want }, some (0, []))))

/-- LEDGER_READ: physical core in bytes 0–1, first entry in bytes 4–7; the count, WRAP, and up to 62 entries
(notes/assumptions/16.md). -/
def execLedgerRead (m : Msg) (s : State) : Host.Outcome State Fault Refusal :=
  .next (s.serve m 0x0113 8 (hasRole [.operator, .service]) (fun s b =>
    let i := leAt b 0 2
    let es := s.ledgerAll i
    if 144 ≤ i || leAt b 2 2 ≠ 0 then (s, refusal eHifMsgInvalid)
    else
      (s, some (0, leBytes 4 es.length ++ leBytes 4 (if s.rdB (rLedgerCtl i) 31 then 1 else 0)
        ++ ((es.drop (leAt b 4 4)).take 62).flatMap (fun e => leBytes 16 e.toNat)))))

/-- A read of BST_CHECK clears its counts (R588). -/
def execBstCheckRead (s : State) : Host.Outcome State Fault Refusal :=
  .next ((s.wr rBstCheck 0).answer (leBytes 4 (s.rd rBstCheck).toNat))

/-! ### Life cycle (R570, R571) -/

/-- Whether a role makes a change of the life-cycle state: none when there is no such change. -/
def lcChange (role : Role) (old new : Nat) : Option Bool :=
  if (old = 0 && new = 1) || (old = 1 && new = 2) then some (role = .factory)
  else if (old = 2 && new = 3) || (old = 3 && new = 2) then some (role = .service)
  else if (old = 2 || old = 3) && new = 4 then some (role = .operator || role = .service)
  else none

/-- Entry to RETIRED (R571): OPERATOR and TENANT slots are erased, with the sessions they opened, and every partition is destroyed. -/
def State.retireModule (s : State) : State :=
  let s := (List.range 8).foldl (fun s k =>
    if (s.key k).role = .operator || (s.key k).role = .tenant then (s.setKey k noKey).closeSlot k else s) s
  (List.range 8).foldl (fun s p =>
    if (s.part p).st ≠ .ready then s
    else
      let s := s.setPart p { s.part p with st := .destroying }
      (s.preempt p true { ch := 255, tag := 0, destroy := true }).answerPreempts p) s

/-- LC_SET: the new state in byte 0 (notes/assumptions/16.md). SERVICE stands in the configuration image (R570, R612). -/
def execLcSet (m : Msg) (s : State) : Host.Outcome State Fault Refusal :=
  .next (s.serve m 0x0110 1 isBound (fun s b =>
    let new := leAt b 0 1
    match lcChange (s.chan m.ch).role s.test.lc new with
    | none => (s, refusal eLcDenied)
    | some false => (s, refusal eHifRoleDenied)
    | some true =>
      let old := s.test.lc
      let s := ({ s with test := { s.test with lc := new } } : State).closeInj
      let s := if new = 3 || old = 3 then s.flashImage 1 else s
      (if new = 4 then s.retireModule else s, some (0, []))))

/-! ### Pattern sets (R567 to R569) -/

/-- Whether a file is a pattern set that R568 accepts but for its version: the key's OTP entry is part of the signature check. -/
def patternOk (b : List Byte) : Bool :=
  let target := leAt b 4 2
  let key := leAt b 28 1
  224 ≤ b.length && b.take 4 = [0x50, 0x48, 0x50, 0x53] && 1 ≤ target && target ≤ 6 && leAt b 6 2 = 0 && 1 ≤ leAt b 8 4
  && leAt b 12 4 = b.length && leAt b 22 2 = 0 && key ≤ 3 && leAt b 29 99 = 0
  && (target ≠ 1 || (9850 ≤ leAt b 16 2 && 9200 ≤ leAt b 18 2)) && leAt b 24 4 ≤ 50 * leAt b 20 2
  && Config.signatureOk key (b.take (b.length - 96)) (b.drop (b.length - 96))

/-- PATTERN_LOAD: the new set is in force from the next test of its target, in the slot that R615 names. -/
def execPatternLoad (m : Msg) (image : List (BitVec 8)) (s : State) : Host.Outcome State Fault Refusal :=
  .next (s.serve m 0x0111 1008 (hasRole [.operator, .service]) (fun s _ =>
    let target := leAt image 4 2
    let v := leAt image 8 4
    if !patternOk image then (s, refusal ePatternInvalid)
    else if v < (s.patternSet target).version then (s, refusal ePatternRollback)
    else
      let set : PSet := { version := v, sa := leAt image 16 2, tr := leAt image 18 2, slices := leAt image 20 2 }
      let s := { s with test := { s.test with patterns := tput (fun _ => {}) s.test.patterns target set } }
      let k := 5 + target
      (s.setImage k { (s.image k).put v with live := v }, some (0, []))))

/-! ### Diagnostics (R572) -/

/-- A partition uses the unit: its core's, its memory's, or a unit that every partition shares. -/
def State.unitUsed (s : State) (unit inst : Nat) : Bool :=
  let ps := (List.range 8).filter (fun p => (s.part p).st ≠ .free)
  if unit = uArray then (s.partOfPhys (inst / 4)).isSome
  else if unit = uMem then ps.any (fun p => (s.part p).gran ≠ 0 || (s.part p).lpage ≠ 0)
  else !ps.isEmpty

/-- TEST_RUN: unit code in byte 0, instance in bytes 2–3 (notes/assumptions/16.md). A core is moved out first; its result follows as a
core test's. For other units the answer's byte 0 says whether the test passed. -/
def execTestRun (m : Msg) (pass : Bool) (s : State) : Host.Outcome State Fault Refusal :=
  .next (s.serve m 0x0112 4 (hasRole [.service]) (fun s b =>
    let unit := leAt b 0 1
    let inst := leAt b 2 2
    if s.test.lc ≠ 3 then (s, refusal eHifRoleDenied)
    else if unit = 0 || 12 < unit || leAt b 1 1 ≠ 0 || (unit = uCore && 143 < inst) || (unit = uArray && 575 < inst) then
      (s, refusal eHifMsgInvalid)
    else if unit = uCore then
      ((s.setCore inst { s.core inst with testNext := true }).nextTest (wingOf inst), some (0, []))
    else if s.unitUsed unit inst then (s, refusal eBstBusy)
    else if pass then (s, some (0, [1]))
    else (s.event unit 3 inst eBstFail, some (0, [0]))))

end Sys2Proof.Machine
end

