-- ==== Sys2Proof/Machine/Beat.lean ====
section
/-! DEFINITION. The beat unit (R351 to R360, R394 to R398): markers, correction of the counter, states, upstream choice, link delays. -/

namespace Sys2Proof.Machine

/-! ### Registers -/

def rBeatOffset : Nat := beatReg 0x14
def State.beatSt (s : State) : Nat := s.rdF rBeatStat 31 29
def State.setBeatSt (s : State) (v : Nat) : State := s.wrF rBeatStat 31 29 v
def State.upport (s : State) : Nat := s.rdF rBeatStat 25 20
def State.beatGen (s : State) : Nat := s.rdF rBeatStat 19 12
/-- LOCKED, HOLDOVER or MASTER (R363). -/
def State.disciplined (s : State) : Bool := 2 ≤ s.beatSt
/-- BEAT_CTL.LEAD, no less than 8 (R394). -/
def State.lead (s : State) : Nat := max 8 (s.rdF rBeatCtl 27 24)
/-- A PERIOD value within its range (R352). -/
def clampPeriod (v : Nat) : Nat := max 32 (min 2000 v)
/-- The period in ps. -/
def State.periodPs (s : State) : Nat := 8000 * max 1 (s.rdF rBeatCtl 10 0)

/-! ### Upstream (R354, R359, R360) -/

/-- Generation a is newer than b, modulo 256. -/
def newer (a b : Nat) : Bool := 0 < (a + 256 - b % 256) % 256 && (a + 256 - b % 256) % 256 < 128
/-- A trained port that flows. -/
def State.portUp (s : State) (p : Nat) : Bool := (s.port p).linkUp && s.portState p = 2
/-- Beats without a marker after which a port no longer counts (R358). -/
def markerBeats : Nat := 64
/-- What a usable port offers: its depth and generation. -/
def State.offer (s : State) (p : Nat) : Option (Nat × Nat) :=
  match (s.port p).offer with
  | some (st, d, g, b) =>
    if s.portUp p && (st = 2 || st = 4) && s.now.toNat < b.toNat + markerBeats then some (d, g) else none
  | none => none
/-- The better of two offers: newest generation, smallest depth; the earlier port wins a tie. -/
def betterOffer (a b : Nat × Nat) : Bool := newer b.2 a.2 || (b.2 = a.2 && b.1 < a.1)
/-- The port to take as upstream, among those that `ok` permits. -/
def State.bestUp (s : State) (ok : Nat → Bool) : Option Nat :=
  (List.range 52).foldl (fun best p =>
    match (if ok p then s.offer p else none), best with
    | none, _ => best
    | some _, none => some p
    | some x, some q => if ((s.offer q).map (fun y => betterOffer y x)).getD true then some p else best) none
def State.setUp (s : State) (p : Option Nat) : State := s.wrF rBeatStat 25 20 (p.getD 0x3F)
/-- The upstream port under the master of a generation: the first hop of the route to it (R354), unless another port offers a newer
generation or, outside UNLOCKED, it offers nothing (R359, R360). Which module masters a generation is part of the system configuration
(notes/assumptions/9.md). -/
def State.upFor (s : State) (gen : Nat) : Option Nat :=
  let best := s.bestUp (fun _ => true)
  match s.route (Config.masterOf (BitVec.ofNat 8 gen)).toNat 0 with
  | .link l _ =>
    let p := s.linkPort l
    match s.offer p with
    | some x => if best.any (fun q => (s.offer q).any (fun y => newer y.2 x.2)) then best else some p
    | none => if s.beatSt = 0 then some p else best
  | _ => best

/-! ### Correction (R357, R358) -/

/-- Log a step or a hold (R357). -/
def State.stepped (s : State) : State :=
  let s := ((s.setBeatSt 1).wrB rBeatErr 3 true).event uBeat 0 0 eBeatStep
  { s with beat := { s.beat with good := 0 } }

/-- An offset below 1 µs: slewed, and the state moves on (R358). -/
def State.slew (s : State) (off : Int) : State :=
  let good := if off.natAbs < 10000 then s.beat.good + 1 else 0
  if s.beatSt = 0 || s.beatSt = 4 then ({ s with beat := { s.beat with good := if off.natAbs < 10000 then 1 else 0 } } : State).setBeatSt 1
  else if s.beatSt = 1 then
    if 16 ≤ good then ({ s with beat := { s.beat with good := 0 } } : State).setBeatSt 2 else { s with beat := { s.beat with good } }
  else s.setBeatSt 2

/-- Correct an offset from upstream, in ps (R357); after a change of master it is slewed, however large (R360). -/
def State.discipline (s : State) (off : Int) : State :=
  let s := s.wr rBeatOffset (BitVec.ofNat 32 (wrap 32 (max (-(2 ^ 31)) (min (2 ^ 31 - 1) off))))
  let s := { s with beat := { s.beat with offsetPs := off } }
  let per := s.periodPs
  if off.natAbs < 1000000 then ({ s with beat := { s.beat with slewing := false } } : State).slew off
  else if s.beat.slewing then s.slew off
  else if 0 < off then
    let t := off.toNat + 625 * s.beat.phase.toNat
    ({ s with beat := { s.beat with count := s.beat.count + BitVec.ofNat 64 (t / per), phase := BitVec.ofNat 16 (t % per / 625)
                                    hold := 0 } } : State).stepped
  else
    ({ s with beat := { s.beat with hold := cdiv off.natAbs per } } : State).stepped

/-- The offset that a marker shows, in ps: `frac` is what the world measured below the state (R355). -/
def State.markerOffset (s : State) (port : Nat) (beat : W64) (phase : W16) (frac : Int) : Int :=
  ((beat.toNat : Int) - s.now.toNat) * s.periodPs + ((phase.toNat : Int) - s.beat.phase.toNat + (s.port port).delay) * 625 + frac

/-- MARKER: the offer of its port is kept; on the upstream port it disciplines the counter. A master follows a newer generation only. -/
def State.marker (s : State) (port depth bst gen : Nat) (beat : W64) (phase : W16) (frac : Int) : State :=
  if !s.rdB rBeatCtl 11 || !s.portUp port then s
  else
    let s := s.setPort port { s.port port with offer := some (bst, depth, gen, s.now) }
    if bst ≠ 2 && bst ≠ 4 then s
    else if s.beatSt = 4 && !newer gen s.beatGen then s
    else
      let up := s.upport
      let first := up = 0x3F || s.beatSt = 0 || s.beatSt = 4
      let change := s.beatSt ≠ 0 && newer gen s.beatGen
      let s := if first || change then s.setUp (s.upFor gen) else if (s.offer up).isNone then s.setUp (s.bestUp (fun _ => true)) else s
      let s := if first || !newer s.beatGen gen then { s with beat := { s.beat with lastGen := s.now } } else s
      if s.upport ≠ port then s
      else
        let s := (s.wrF rBeatStat 28 26 (min 7 (depth + 1))).wrF rBeatStat 19 12 gen
        let s := if change then { s with beat := { s.beat with slewing := true } } else s
        let t := s.discipline (s.markerOffset port beat phase frac)
        { t with beat := { t.beat with lastMarker := t.now, lastGen := t.now } }

def execMarker (port : Nat) (depth bstate : BitVec 3) (gen : BitVec 8) (beat : BitVec 64) (phase : BitVec 16) (fracPs : Int)
    (s : State) : Host.Outcome State Fault Refusal :=
  .next (s.marker port depth.toNat bstate.toNat gen.toNat beat phase fracPs)

/-! ### Sending -/

/-- Trained ports that flow. -/
def State.upPorts (s : State) : List Nat := (List.range 52).filter s.portUp
/-- Put a timing flit, given by its bytes 0–7, 8–15 and 16–23 (R429), in slot 0 of a port's next frame. -/
def State.sendTiming (s : State) (p : Nat) (f : Nat × W64 × W64) : State :=
  s.setPort p { s.port p with timingOut := (s.port p).timingOut ++ [f] }

/-- MARKER_SEND (R354): in LOCKED or MASTER, on every trained port, once every 16 beats. -/
def execMarkerSend (s : State) : Host.Outcome State Fault Refusal :=
  let st := s.beatSt
  let w := 2 + 2 ^ 8 * (s.rdF rBeatStat 28 26 + 8 * st) + 2 ^ 16 * s.beatGen
  let due := s.beat.markersAt.all (fun b => decide (b.toNat + 16 ≤ s.now.toNat))
  .next (if s.rdB rBeatCtl 11 && (st = 2 || st = 4) && due then
      s.upPorts.foldl (fun s p => s.sendTiming p (w, s.now, s.beat.phase.setWidth 64))
        { s with beat := { s.beat with markersAt := some s.now } }
    else s)

/-- DELAY_EXCHANGE (R355): a request to each partner, with stamp T1, after a training and every 1,024 beats. The model numbers a request
one above the port's last. -/
def execDelayExchange (t1 : BitVec 48) (s : State) : Host.Outcome State Fault Refusal :=
  .next ((s.upPorts.filter (fun p => (s.port p).measured.all (fun b => decide (b.toNat + 1024 ≤ s.now.toNat)))).foldl (fun s p =>
    let x := s.port p
    let id := ((x.dreq.map (·.1)).getD 0 + 1) % 256
    (s.setPort p { x with dreq := some (id, t1), measured := some s.now }).sendTiming p (3 + 2 ^ 8 * id, t1.setWidth 64, 0)) s)

/-- DREQ (R430): answered with the stamps of its arrival and of the answer's departure. -/
def execDreq (port : Nat) (id : BitVec 8) (_t1 t2 t3 : BitVec 48) (s : State) : Host.Outcome State Fault Refusal :=
  .next (if s.portUp port then s.sendTiming port (4 + 2 ^ 8 * id.toNat, t2.setWidth 64, t3.setWidth 64) else s)

/-- DRESP (R430): the one-way delay ((T4 − T1) − (T3 − T2)) / 2 of the request it answers. -/
def execDresp (port : Nat) (id : BitVec 8) (t2 t3 t4 : BitVec 48) (s : State) : Host.Outcome State Fault Refusal :=
  let x := s.port port
  match x.dreq with
  | some (n, t1) => .next (if n = id.toNat then s.setPort port { x with delay := ((t4 - t1) - (t3 - t2)).toNat / 2 } else s)
  | none => .next s

/-! ### Loss (R358 to R360) -/

/-- Enter HOLDOVER, with another upstream when one offers (R359). -/
def State.toHoldover (s : State) : State :=
  let old := s.upport
  (s.setBeatSt 3).setUp (s.bestUp (fun p => p ≠ old))

/-- The upstream port failed (R359). -/
def State.upstreamLost (s : State) (port : Nat) : State :=
  if s.upport = port && (s.beatSt = 1 || s.beatSt = 2) then s.toHoldover
  else if s.upport = port then s.setUp (s.bestUp (fun p => p ≠ port)) else s

/-- MARKER_LOSS: LOCKED for 64 beats without a marker. -/
def execMarkerLoss (s : State) : Host.Outcome State Fault Refusal :=
  .next (if s.beatSt = 2 && s.beat.lastMarker.toNat + markerBeats ≤ s.now.toNat then s.toHoldover else s)

/-- HOLDOVER_EXPIRY: 1 ms in HOLDOVER. -/
def execHoldoverExpiry (s : State) : Host.Outcome State Fault Refusal :=
  .next (if s.beatSt = 3 then
      ((((s.setBeatSt 0).setUp none).wrF rBeatStat 28 26 7).wrB rBeatErr 4 true).event uBeat 0 0 eBeatLost
    else s)

/-- Start the counter at the starting value (R354); a counter that is already past it goes on, since it never decreases (R353). -/
def State.countFrom (s : State) (start : W64) : State :=
  if s.beat.count < start then { s with beat := { s.beat with count := start, phase := 0 } } else s
/-- Become the master: depth 0, no upstream. -/
def State.master (s : State) : State := ((s.setBeatSt 4).setUp none).wrF rBeatStat 28 26 0

/-- BACKUP_MASTER_TAKEOVER (R360). -/
def execBackupMasterTakeover (s : State) : Host.Outcome State Fault Refusal :=
  let limit := max 1 (s.rdF rBeatCtl 19 12)
  .next (if s.rdF rBeatCtl 31 30 = 2 && s.rdB rBeatCtl 11 && s.beatSt ≠ 4 && s.beat.lastGen.toNat + limit ≤ s.now.toNat then
      let t := s.master.wrF rBeatStat 19 12 (s.beatGen + 1)
      -- a change of master: the requested profile is rebuilt from new reports (R600)
      { t with pwr := { t.pwr with asserted := [], lastSched := none } }
    else s)

/-! ### Registers with effects -/

/-- A write of BEAT_CTL.PERIOD: taken from the next edge while UNLOCKED, ignored in every other state (R352, R394). -/
def State.periodWrite (s : State) (val : W32) : State :=
  if s.beatSt = 0 then { s with beat := { s.beat with nextPeriod := some (clampPeriod (bf val 10 0)) } } else s
def execBeatPeriodWrite (val : BitVec 32) (s : State) : Host.Outcome State Fault Refusal := .next (s.periodWrite val)

/-- A read of BEAT_COUNT_LO captures the counter (R396). -/
def execBeatCountCapture (s : State) : Host.Outcome State Fault Refusal :=
  .next (({ s with beat := { s.beat with hi := BitVec.ofNat 32 (s.now.toNat / 2 ^ 32) } } : State).answer
    (leBytes 4 (s.now.toNat % 2 ^ 32)))

/-- A read of BEAT_ERR clears LATE_CNT (R397). -/
def execBeatErrRead (s : State) : Host.Outcome State Fault Refusal :=
  .next ((s.wrF rBeatErr 31 24 0).answer (leBytes 4 (s.rd rBeatErr).toNat))

/-- A read of LAT_STAT clears IGNORED and DROPPED; PEND_USED counts the pending releases (R398). -/
def execLatStatRead (s : State) : Host.Outcome State Fault Refusal :=
  .next ((s.wrF rLatStat 31 16 0).answer (leBytes 4 (bfSet (s.rd rLatStat) 8 0 (min 256 s.releases.length)).toNat))

end Sys2Proof.Machine
end

