-- ==== Sys2Proof/Machine/Coll.lean ====
section
/-! DEFINITION. Collective operations (R472 to R499): parts and shards, the order of summation, masks and agreement, landing records,
reports and ends. What the manual leaves to its packets: notes/assumptions/20.md. -/

namespace Sys2Proof.Machine

/-! ### Ranks, levels, shards (R463, R473, R478) -/

/-- Digit l of a rank. -/
def digitOf (levn : List Nat) (r l : Nat) : Nat := r / max 1 (below levn l) % max 1 (levn.getD l 1)
/-- The rank that differs from r in digit l only, where it is j. -/
def peerOf (levn : List Nat) (r l j : Nat) : Nat := r - digitOf levn r l * below levn l + j * below levn l
/-- Ranks that share r's digits below level l. -/
def sharing (levn : List Nat) (n r l : Nat) : List Nat :=
  (List.range n).filter (fun x => x % max 1 (below levn l) = r % max 1 (below levn l))
/-- Shard r of e elements over n owners. -/
def shardOf (e n r : Nat) : Nat × Nat := (r * e / max 1 n, (r + 1) * e / max 1 n)

def CollOp.size (o : CollOp) : Nat := o.members.length
def CollOp.levels (o : CollOp) : Nat := o.levn.length
/-- The other ranks of this member's level-l block. -/
def CollOp.peers (o : CollOp) (l : Nat) : List Nat :=
  ((List.range (o.levn.getD l 1)).map (peerOf o.levn o.rank l)).filter (fun x => x ≠ o.rank)
/-- Elements of the present round (R483, R494). -/
def CollOp.elems (o : CollOp) (k : Cmd) : Nat :=
  if k.cCop = 5 then (if o.q then k.cCols else k.cRows) * k.cLrank else k.cCount
/-- Elements of the shards of ranks x that share digits below l with this member and have digit j at level l, in order: what travels to
that level-l peer. -/
def CollOp.part (o : CollOp) (k : Cmd) (l j : Nat) : List Nat :=
  ((sharing o.levn o.size o.rank l).filter (fun x => digitOf o.levn x l = j)).flatMap (fun x =>
    let sh := shardOf (o.elems k) o.size x
    span sh.1 (sh.2 - sh.1))
/-- This member's own part at level l. -/
def CollOp.mine (o : CollOp) (k : Cmd) (l : Nat) : List Nat := o.part k l (digitOf o.levn o.rank l)
/-- Offset in SCRATCH of the staging slot at level l for the sender with digit j (R483). -/
def CollOp.slot (o : CollOp) (k : Cmd) (l j : Nat) : Nat :=
  stageAt k o.size o.levn (o.elems k) l + j * slotSize k o.levn (o.elems k) l

/-! ### Operations of the state -/

def State.collOp (s : State) (g opseq : Nat) : Option CollOp := s.coll.ops.find? (fun o => o.group = g && o.opseq = opseq)
def State.updOp (s : State) (o : CollOp) (f : CollOp → CollOp) : State :=
  { s with coll := { s.coll with ops := s.coll.ops.map (fun x => if x.group = o.group && x.opseq = o.opseq then f x else x) } }
def State.landing (s : State) (g opseq : Nat) : Option Landing :=
  s.coll.landings.find? (fun l => l.group = g && l.opseq = opseq)
def State.updLanding (s : State) (g opseq : Nat) (f : Landing → Landing) : State :=
  { s with coll := { s.coll with landings := s.coll.landings.map (fun l => if l.group = g && l.opseq = opseq then f l else l) } }
/-- The landing record of an operation, opened when there is none (R480). -/
def State.openLanding (s : State) (g opseq : Nat) : State :=
  if (s.landing g opseq).isSome then s
  else { s with coll := { s.coll with landings := s.coll.landings ++ [{ group := g, opseq }] } }
/-- What a rank has landed in a phase. -/
def State.landed (s : State) (o : CollOp) (rank phase : Nat) : Option Land :=
  (s.landing o.group o.opseq).bind (fun l => l.parts.find? (fun x => x.rank = rank && x.phase = phase))
def State.landedBytes (s : State) (o : CollOp) (rank phase : Nat) : Nat := ((s.landed o rank phase).map (·.bytes)).getD 0

/-! ### Sending (R479) -/

/-- The TAG of a collective packet. -/
def collTag (o : CollOp) (phase : Nat) : Nat := 0xC000 + 2 ^ 12 * phase + 2 ^ 10 * (o.attempt % 4) + o.opseq % 1024
/-- Send bytes of a phase to a rank, at a device address of that member. -/
def State.collSend (s : State) (k : Cmd) (o : CollOp) (dst phase addr : Nat) (b : List Byte) (bad : List (Nat × Nat) := []) : State :=
  if dst = o.rank || b.isEmpty then s
  else
    let seq := tget (fun _ => 0) s.fab.dseq 2000
    let s := { s with fab := { s.fab with dseq := tput (fun _ => 0) s.fab.dseq 2000 ((seq + 1) % 2 ^ 16) } }
    let s := s.trace k.part 0x05 uColl 0 (s.reqCmd k)
      (o.opseq + 2 ^ 32 * phase + 2 ^ 34 * popNat o.size ((o.agreed.map (·.1)).getD 0))
    ((s.sendWrites (s.reqCmd k) 0 (o.members.getD dst (0, 0)).1 addr o.group (collTag o phase) seq b bad).1).count (s.reqCmd k) 21 b.length

/-- Code of element e of the own contribution: in the source tensor, or computed (LR_REDUCE). -/
def State.ownCode (s : State) (k : Cmd) (o : CollOp) (e : Nat) : Nat :=
  if k.cCop = 5 then o.own.getD e 0 else s.elem k.cSrc.fmt (s.physOf k.cSrc.base) e
/-- Poisoned elements of the own contribution, as byte ranges of a packed list of elements. -/
def State.ownPoison (s : State) (k : Cmd) (es : List Nat) : List (Nat × Nat) :=
  if k.cCop = 5 then []
  else
    let n := esz k.cSrc.fmt
    (es.zipIdx.filter (fun x => !(s.readMem (s.physOf k.cSrc.base + n * x.1) n).2.1.isEmpty)).map (fun x => (n * x.2, n * x.2 + n))

/-- Send the own contribution to the level-0 peers (R477, R478). -/
def State.sendContribution (s : State) (k : Cmd) (o : CollOp) : State :=
  (o.peers 0).foldl (fun s p =>
    let es := o.part k 0 (digitOf o.levn p 0)
    s.collSend k o p 0 (k.scratch + o.slot k 0 (digitOf o.levn o.rank 0)) (es.flatMap (fun e => leBytes (esz k.inFmt) (s.ownCode k o e)))
      (s.ownPoison k es)) s

/-- Send the partial sums of level l − 1 to the level-l peers, in the accumulation format (R478). An absent sum travels as zeros: the mask
says that it is absent. -/
def State.sendPartials (s : State) (k : Cmd) (o : CollOp) (l : Nat) : State :=
  let ps := o.partials.getD (l - 1) []
  (o.peers l).foldl (fun s p =>
    s.collSend k o p 0 (k.scratch + o.slot k l (digitOf o.levn o.rank l))
      ((o.part k l (digitOf o.levn p l)).flatMap (fun e =>
        leBytes (esz k.accFmt) (((ps.find? (fun x => x.1 = e)).bind (·.2)).getD 0)))) s

/-! ### The order of summation (R474, R475) -/

/-- round_acc(t + x) in the accumulation format, where t may be absent. -/
def accStep (acc : Nat) (t : Option Nat) (x : Val) : Option Nat :=
  match t with
  | none => some (encFast acc x)
  | some t => some (encFast acc (Val.add 0 (wideVal acc true t) x))

/-- The agreed mask holds a rank of those that share x's digits from level l up. -/
def maskHolds (mask n bl x : Nat) : Bool := (List.range n).any (fun r => r / max 1 bl = x / max 1 bl && mask / 2 ^ r % 2 = 1)

/-- Fold level l for this member's part: elements in order, none for absent. -/
def State.foldLevel (s : State) (k : Cmd) (o : CollOp) (mask l : Nat) : List (Nat × Option Nat) :=
  let acc := k.accFmt
  let size := if l = 0 then esz k.inFmt else esz acc
  let before := o.partials.getD (l - 1) []
  (o.mine k l).zipIdx.map (fun x =>
    (x.1, (List.range (o.levn.getD l 1)).foldl (fun t j =>
      let p := peerOf o.levn o.rank l j
      if !maskHolds mask o.size (below o.levn l) p then t
      else if p ≠ o.rank then
        accStep acc t (wideVal (if l = 0 then k.inFmt else acc) true
          (leNat (s.seen (s.physOf (k.scratch + o.slot k l j) + size * x.2) size)))
      else if l = 0 then accStep acc t (wideVal k.inFmt true (s.ownCode k o x.1))
      else match (before.find? (fun y => y.1 = x.1)).bind (·.2) with
        | some c => accStep acc t (wideVal acc true c)
        | none => t) none))

/-- The result of an element, rounded once (R475). -/
def collResult (k : Cmd) (mask n : Nat) (t : Option Nat) : Nat :=
  let d := k.outFmt
  let c := popNat n mask
  match t with
  | none => if k.cMean then wideNan d else 0
  | some t =>
    let v := wideVal k.accFmt true t
    encFast d (if k.cMean then Val.div v (.fin false c 0) else v)

/-! ### Results (R477, R478) -/

/-- What rank x's result occupies in D, in bytes: offset and length. Both rounds of LR_REDUCE keep their shards apart from D. -/
def CollOp.shardBytes (o : CollOp) (k : Cmd) (x : Nat) : Nat × Nat :=
  if k.cCop = 3 then let n := rowBytes k.cDst.fmt k.cCount; (x * n, n)
  else if k.cCop = 4 then (0, if x = k.cQr then rowBytes k.cDst.fmt k.cCount else 0)
  else
    let sh := shardOf (o.elems k) o.size x
    (sh.1 * esz k.outFmt, (sh.2 - sh.1) * esz k.outFmt)
/-- Device address of a result: D, or for LR_REDUCE the staging area. -/
def CollOp.resultAt (o : CollOp) (k : Cmd) (x : Nat) : Nat :=
  (if k.cCop = 5 then k.scratch + stgAt o.size else k.cDst.base) + (o.shardBytes k x).1
/-- The bytes of a result that this member holds. -/
def State.resultBytes (s : State) (k : Cmd) (o : CollOp) (x : Nat) : List Byte :=
  let sh := o.shardBytes k x
  if k.cCop = 5 then (span sh.1 sh.2).map (tget (fun _ => 0) o.low) else s.seen (s.physOf k.cDst.base + sh.1) sh.2
/-- Store a result of this member. -/
def State.keepResult (s : State) (k : Cmd) (o : CollOp) (x : Nat) (b : List Byte) : State :=
  let sh := o.shardBytes k x
  if k.cCop = 5 then
    s.updOp o (fun o => { o with low := b.zipIdx.foldl (fun t y => tput (fun _ => 0) t (sh.1 + y.2) y.1) o.low })
  else
    let pa := s.physOf k.cDst.base + (if k.cCop = 2 then 0 else sh.1)
    (s.writeMem pa b).countMem (s.reqCmd k) pa b.length true
/-- Send the results that the ranks sharing digits 0 to l hold to the level-l peers. -/
def State.sendResults (s : State) (k : Cmd) (o : CollOp) (l : Nat) : State :=
  (o.peers l).foldl (fun s p =>
    (sharing o.levn o.size o.rank (l + 1)).foldl (fun s x => s.collSend k o p 2 (o.resultAt k x) (s.resultBytes k o x)) s) s
/-- Every result that the level-l peers send has landed. -/
def State.resultsIn (s : State) (k : Cmd) (o : CollOp) (l : Nat) : Bool :=
  (o.peers l).all (fun p =>
    decide (((sharing o.levn o.size p (l + 1)).map (fun x => (o.shardBytes k x).2)).foldl (· + ·) 0 ≤ s.landedBytes o p 2))
/-- Every part that the level-l peers send up has landed; `who` names the ranks that count at level 0. -/
def State.partsIn (s : State) (k : Cmd) (o : CollOp) (l : Nat) (who : Nat → Bool := fun _ => true) : Bool :=
  let n := (o.mine k l).length * (if l = 0 then esz k.inFmt else esz k.accFmt)
  (o.peers l).all (fun p => !who p || decide (n ≤ s.landedBytes o p 0))

/-! ### Masks (R487, R488) -/

def CollOp.maskAt (_o : CollOp) (k : Cmd) (owner idx : Nat) : Nat := k.scratch + 0x2000 + 512 * (3 * owner + idx)
/-- A mask message. -/
def maskBytes (opseq idx owner gseq nanown arrived nanset : Nat) : List Byte :=
  let b := leBytes 4 opseq ++ leBytes 1 idx ++ [0] ++ leBytes 2 owner ++ leBytes 4 gseq ++ leBytes 4 (cap32 nanown) ++ zeros 48
    ++ leBytes 128 arrived ++ leBytes 128 nanset ++ zeros 188
  b ++ leBytes 4 (crc32c b)
/-- The bytes of slot (owner, idx). -/
def State.maskSlot (s : State) (k : Cmd) (o : CollOp) (owner idx : Nat) : List Byte := s.seen (s.physOf (o.maskAt k owner idx)) 512
/-- A slot that holds the mask expected there (R487). -/
def maskValid (opseq owner idx : Nat) (b : List Byte) : Bool :=
  leAt b 0 4 = opseq && leAt b 4 1 = idx && leAt b 6 2 = owner && leAt b 508 4 = crc32c (b.take 508)
/-- Some valid mask bears another GSEQ (R467). -/
def State.maskMismatch (s : State) (k : Cmd) (o : CollOp) : Bool :=
  (List.range o.size).any (fun w => [0, 1, 2].any (fun i =>
    let b := s.maskSlot k o w i
    maskValid o.opseq w i b && leAt b 8 4 ≠ k.cGseq))

/-- Write a mask to the own slot and to every member's (R487). -/
def State.sendMask (s : State) (k : Cmd) (o : CollOp) (idx : Nat) (b : List Byte) : State :=
  let s := s.writeMem (s.physOf (o.maskAt k o.rank idx)) b
  (List.range o.size).foldl (fun s r => s.collSend k o r 1 (o.maskAt k o.rank idx) b) s

/-- NaN elements among codes. -/
def nanCount (f : Nat) (l : List Nat) : Nat := (l.filter (fun c => (wideVal f true c).isNan)).length
/-- A NaN stands in rank p's part at this owner. -/
def State.partNan (s : State) (k : Cmd) (o : CollOp) (p : Nat) : Bool :=
  let es := o.mine k 0
  let f := k.inFmt
  if p = o.rank then 0 < nanCount f (es.map (s.ownCode k o))
  else
    let a := s.physOf (k.scratch + o.slot k 0 (digitOf o.levn p 0))
    0 < nanCount f ((List.range es.length).map (fun i => leNat (s.seen (a + i * esz f) (esz f))))
/-- NANOWN: 0 before the own contribution is released. -/
def State.nanOwn (s : State) (k : Cmd) (o : CollOp) : Nat :=
  if o.released.isSome then nanCount k.inFmt ((List.range (o.elems k)).map (s.ownCode k o)) else 0

/-- Scan the ranks of the level-0 block that satisfy `arr`, and send the mask of an index. -/
def State.scanAndSend (s : State) (k : Cmd) (o : CollOp) (idx : Nat) (arr : Nat → Bool) : State :=
  let block := o.rank :: o.peers 0
  let bits (f : Nat → Bool) : Nat := ((List.range o.size).filter f).foldl (fun a r => a + 2 ^ r) 0
  let arrived := bits (fun r => !block.contains r || arr r)
  let nanset := bits (fun r => block.contains r && arr r && s.partNan k o r)
  let b := maskBytes o.opseq idx o.rank k.cGseq (s.nanOwn k o) arrived nanset
  (s.updOp o (fun o => { o with sent := o.sent.filter (fun m => m.1 ≠ idx) ++ [(idx, b)] })).sendMask k o idx b

/-- The AND of ARRIVED and the OR of NANSET over every owner's mask of an index; none until all are there. -/
def State.masks (s : State) (k : Cmd) (o : CollOp) (idx : Nat) : Option (Nat × Nat) :=
  let l := (List.range o.size).map (fun w => s.maskSlot k o w idx)
  if l.zipIdx.all (fun x => maskValid o.opseq x.2 idx x.1) then
    some (l.foldl (fun a b => a &&& leAt b 64 128) (2 ^ o.size - 1), l.foldl (fun a b => a ||| leAt b 192 128) 0)
  else none
/-- Remove a set from a mask. -/
def maskMinus (a b : Nat) : Nat := a ^^^ (a &&& b)

/-! ### Ends (R490, R491) -/

/-- The report (R490). -/
def State.collReport (s : State) (k : Cmd) (o : CollOp) (status : W16) : State :=
  let p := if k.cCop = 5 && o.q then o.pAgreed else o.agreed
  let qm := if k.cCop = 5 && o.q then (o.agreed.map (·.1)).getD 0 else 0
  let mask := (p.map (·.1)).getD 0
  let round := (p.map (·.2)).getD 0
  let inM (m : Nat) : Nat := m / 2 ^ o.rank % 2
  let low := ((List.range o.size).find? (fun r => o.nanset / 2 ^ r % 2 = 1)).getD 0xFFFF
  let quar := k.cNanq && o.nanset ≠ 0
  let st := if status = 0 && o.nanset ≠ 0 then eCollNan else status
  let idx := round - 1
  let b := leBytes 4 o.opseq ++ leBytes 2 st.toNat ++ leBytes 2 (popNat o.size mask) ++ leBytes 2 low ++ leBytes 1 round
    ++ leBytes 1 (inM mask + (if quar then 2 else 0) + 4 * inM qm) ++ zeros 52 ++ leBytes 128 mask ++ leBytes 128 o.nanset ++ leBytes 128 qm
  let cnt := (List.range o.size).flatMap (fun r =>
    let m := s.maskSlot k o r idx
    leBytes 4 (if maskValid o.opseq r idx m then leAt m 12 4 else 0))
  (s.writeMem (s.physOf k.scratch) b).writeMem (s.physOf k.scratch + 4096) (padTo 4096 cnt)

/-- The operation is over on this member. -/
def State.dropOp (s : State) (o : CollOp) : State :=
  { s with coll := { s.coll with
      ops := s.coll.ops.filter (fun x => !(x.group = o.group && x.opseq = o.opseq))
      landings := s.coll.landings.filter (fun x => !(x.group = o.group && x.opseq = o.opseq))
      doneOps := s.coll.doneOps ++ [(o.group, o.opseq)] } }

/-- Completion: report, COLL_NAN as an event, the command's destination is written. -/
def State.finishOp (s : State) (k : Cmd) (o : CollOp) : State :=
  let s := s.collReport k o 0
  let s := if o.nanset = 0 then s else
    s.report { unit := uColl, sev := 0, inst := 0, err := eCollNan, beat := 0, rseq := 0, part := k.part, layer := k.layer, oper := k.oper
               seq := k.seq, detail := o.nanset }
  (s.dropOp o).doneCmd k

/-- Fill device bytes of this partition with free values (R491). -/
def State.scrambleBytes (s : State) (a n : Nat) : State :=
  (s.writeMem (s.physOf a) ((List.range n).map (Config.freeByte s.freeCtr))).bump

/-- End an operation with an error (R467, R491): D and SCRATCH hold free values but for the report and the mask slots. -/
def State.endOp (s : State) (k : Cmd) (o : CollOp) (code : W16) : State :=
  let s := if code = eCollTimeout then s.incF rCollStat 7 0 1 else s
  let m := (k.collShapes o.size).getLast?
  let s := match m with
    | some x => s.scrambleBytes x.1.base (if k.cCop = 2 then (o.shardBytes k o.rank).2 else x.1.size x.2.1 x.2.2)
    | none => s
  let s := if k.cCop = 5 then
      (s.scrambleBytes k.cE.base (k.cE.size k.cRows k.cCols)).scrambleBytes k.cQ.base (k.cQ.size k.cCols k.cLrank) else s
  let s := s.scrambleBytes (k.scratch + stgAt o.size) (k.cSlen - stgAt o.size)
  ((s.collReport k o code).dropOp o).failCmd k.ring k.dcount code 0

/-- Abort notices to every member (R491): 8 zero bytes in the own first mask slot. -/
def State.sendNotices (s : State) (k : Cmd) (o : CollOp) : State :=
  (List.range o.size).foldl (fun s r => s.collSend k o r 3 (o.maskAt k o.rank 0) (zeros 8)) s
/-- COLL_TIMEOUT at this member. -/
def State.timeoutOp (s : State) (k : Cmd) (o : CollOp) : State := (s.endOp k o eCollTimeout).sendNotices k o

/-! ### LR_REDUCE (R494 to R496) -/

/-- Value of element (r, c) of a W32 or H16 tensor. -/
def State.lrVal (s : State) (t : Tensor) (cols r c : Nat) : Val := wideVal t.fmt true (s.elem t.fmt (s.physOf t.base + r * t.pitch cols) c)
/-- m = w32(g + e). -/
def State.lrM (s : State) (k : Cmd) (r c : Nat) : Nat :=
  encFast 7 (Val.add 0 (s.lrVal k.cSrc k.cCols r c) (s.lrVal k.cE k.cCols r c))
/-- A W32 operand of a product by its codes. -/
def lrOpnd (n : Nat) (code : Nat → Nat → Nat) : Opnd where
  fmt := 7
  z := 0
  pad := 0
  K := n
  code := code
  scale := fun _ _ => 0x7F
/-- Grand totals of a product of rows × cols over length n (R128: segment code 3, PROMO 16, STEP 16); none for ACCUM_RANGE. -/
def lrMatmul (rows cols n : Nat) (x w : Nat → Nat → Nat) : Option (List Val) :=
  ((List.range rows).flatMap (fun i => (List.range cols).map (fun j =>
    (grandTotal (lrOpnd n x) (lrOpnd n w) i j 64 16 16 0 n).map (·.1)))).foldr (fun v l => v.bind (fun v => l.map (v :: ·))) (some [])
/-- The dot product of two columns in chunks of 128 with a W32 total (R258, R496). -/
def lrDot (a b : List Nat) : Nat :=
  let c := fastLanes
  (chunks128 (a.zip b)).foldl (fun t ch =>
    let r := (tree c.sumOp 0 7 (lanes128 0 (ch.map (fun x => (c.fmul x.1 x.2).1)))).1
    encFast 7 (Val.add 0 (wideVal 7 true t) (wideVal 7 true r))) 0
/-- Orthonormalise the columns (R496). -/
def orthonormalise (cols : List (List Nat)) : List (List Nat) :=
  cols.foldl (fun acc p =>
    let p := acc.foldl (fun p q =>
      let c := (wideVal 7 true (lrDot q p)).neg
      (p.zip q).map (fun x => encFast 7 (Val.add 0 (Val.mul c (wideVal 7 true x.2)) (wideVal 7 true x.1)))) p
    let n := wideVal 7 true (encFast 7 (Val.sqrt (wideVal 7 true (lrDot p p))))
    acc ++ [if n.isZero then p.map (fun _ => 0) else p.map (fun x => encFast 7 (Val.div (wideVal 7 true x) n))]) []
/-- P̂ by element of rows × r. -/
def phatOf (k : Cmd) (pbar : List Nat) : List Nat :=
  let r := k.cLrank
  let cols := orthonormalise ((List.range r).map (fun j => (List.range k.cRows).map (fun i => pbar.getD (i * r + j) 0)))
  (List.range k.cRows).flatMap (fun i => (List.range r).map (fun j => (cols.getD j []).getD i 0))

/-- p = matmul(m, q), the contribution of the P round. -/
def State.lrP (s : State) (k : Cmd) : Option (List Nat) :=
  (lrMatmul k.cRows k.cLrank k.cCols (s.lrM k) (fun j c => s.elem 7 (s.physOf k.cQ.base + c * k.cQ.pitch k.cLrank) j)).map
    (fun l => l.map (encFast 7))
/-- q' = matmul(transpose(m), phat), the contribution of the Q round. -/
def State.lrQ (s : State) (k : Cmd) (phat : List Nat) : Option (List Nat) :=
  (lrMatmul k.cCols k.cLrank k.cRows (fun c i => s.lrM k i c) (fun j i => phat.getD (i * k.cLrank + j) 0)).map (fun l => l.map (encFast 7))

/-- Codes of W32 results that have landed. -/
def lowCodes (o : CollOp) (n : Nat) : List Nat := (List.range n).map (fun i => leNat ((span (4 * i) 4).map (tget (fun _ => 0) o.low)))

/-- Write a tensor of the command's own formats. -/
def State.lrPut (s : State) (k : Cmd) (t : Tensor) (rows cols : Nat) (code : Nat → Nat → Nat) : State :=
  s.putTensor (s.reqCmd k) t rows cols ((List.range rows).flatMap (fun i => (List.range cols).map (fun j => (i, j, code i j)))) []

/-- The last three lines of R494: D, E and Q. -/
def State.lrEnd (s : State) (k : Cmd) (o : CollOp) : State :=
  let r := k.cLrank
  let qbar := lowCodes o (k.cCols * r)
  let phat := phatOf k o.pbar
  match lrMatmul k.cRows k.cCols r (fun i j => phat.getD (i * r + j) 0) (fun c j => qbar.getD (c * r + j) 0) with
  | none => s.endOp k o eAccumRange
  | some g =>
    let self := ((o.agreed.map (·.1)).getD 0) / 2 ^ o.rank % 2 = 1
    let at_ (i c : Nat) : Val := g.getD (i * k.cCols + c) (.zero false)
    let m (i c : Nat) : Val := wideVal 7 true (s.lrM k i c)
    let e (i c : Nat) : Nat := encFast 6 (if self then Val.add 0 (m i c) (at_ i c).neg else m i c)
    let s1 := s.lrPut k k.cDst k.cRows k.cCols (fun i c => encFast k.cDst.fmt (at_ i c))
    let es := (List.range k.cRows).flatMap (fun i => (List.range k.cCols).map (fun c => (i, c, e i c)))
    let s2 := s1.putTensor (s.reqCmd k) k.cE k.cRows k.cCols es []
    (s2.lrPut k k.cQ k.cCols r (fun c j => qbar.getD (c * r + j) 0)).finishOp k o

/-- The P round is over: P̂, and the Q round's contribution of a member of the agreed mask. Counts of partials and results start anew. -/
def State.lrSecond (s : State) (k : Cmd) (o : CollOp) : State :=
  let pbar := lowCodes o (k.cRows * k.cLrank)
  let mask := (o.agreed.map (·.1)).getD 0
  let self := mask / 2 ^ o.rank % 2 = 1
  let own := if self then s.lrQ k (phatOf k pbar) else some []
  match own with
  | none => s.endOp k o eAccumRange
  | some own =>
    let block := o.rank :: o.peers 0
    let s := s.updLanding o.group o.opseq (fun l => { l with parts := l.parts.filter (fun x => x.phase = 0 && block.contains x.rank) })
    let n : CollOp := { o with q := true, own, pbar, pAgreed := o.agreed, agreed := none, partials := [], down := false, level := 0 }
    let s := s.updOp o (fun _ => n)
    if self then s.sendContribution k n else s

/-! ### Progress -/

/-- Results travel down from the top level. -/
def State.startDown (s : State) (k : Cmd) (o : CollOp) : State :=
  let top := o.levels - 1
  (s.updOp o (fun o => { o with down := true, level := top })).sendResults k o top

/-- A member that holds every result is done with the round. -/
def State.collAdvance (s : State) (g opseq : Nat) : State :=
  match s.collOp g opseq with
  | none => s
  | some o =>
    match s.cmd o.ring o.dcount with
    | none => s
    | some k =>
      if o.down && o.level = 0 && s.resultsIn k o 0 then
        if k.cCop = 5 then (if o.q then s.lrEnd k o else s.lrSecond k o) else s.finishOp k o
      else s

/-- Level l is folded: the next level's partial sums, or the result. -/
def State.folded (s : State) (k : Cmd) (o : CollOp) (mask l : Nat) : State :=
  let ps := s.foldLevel k o mask l
  let n : CollOp := { o with partials := o.partials ++ [ps], level := l + 1 }
  let s := s.updOp o (fun _ => n)
  if l + 1 < o.levels then s.sendPartials k n (l + 1)
  else
    let s := s.keepResult k n o.rank (ps.flatMap (fun x => leBytes (esz k.outFmt) (collResult k mask o.size x.2)))
    if k.cCop = 2 then s.finishOp k n
    else match s.collOp o.group o.opseq with
      | some n => s.startDown k n
      | none => s

/-- The own contribution is released (R472): sent to the level-0 peers; ALL_GATHER and BROADCAST move the source itself. -/
def State.releaseOp (s : State) (k : Cmd) (o : CollOp) : State :=
  if k.reduces then
    let own := if k.cCop = 5 then s.lrP k else some []
    match own with
    | none => s.endOp k o eAccumRange
    | some own =>
      let n : CollOp := { o with released := some s.now, own }
      (s.updOp o (fun _ => n)).sendContribution k n
  else
    let n : CollOp := { o with released := some s.now }
    let s := s.updOp o (fun _ => n)
    let sh := o.shardBytes k o.rank
    let rd := s.readMem (s.physOf k.cSrc.base) sh.2
    let s := if sh.2 = 0 then s else (rd.1.countMem (s.reqCmd k) (s.physOf k.cSrc.base) sh.2 false).keepResult k n o.rank rd.2.2
    s.startDown k n

/-- The gate of an operation is open (R470, R472). A broken latch never opens it. -/
def State.gateOpen (s : State) (k : Cmd) : Bool :=
  if !k.cGated then true
  else match s.phys (k.cSlatch / 64 % 128) with
  | some i => let r := s.latch i (k.cSlatch % 64); !lBroken r && decide (k.cSvalue ≤ (lValue r).toNat)
  | none => false

/-- Release every contribution whose gate is open, in partitions that run. -/
def State.releaseGated (s : State) : State :=
  s.coll.ops.foldl (fun s o =>
    match s.collOp o.group o.opseq, s.cmd o.ring o.dcount with
    | some o, some k =>
      if o.released.isNone && s.gateOpen k && !(s.part k.part).stopped && !s.frozenPart k.part then (s.releaseOp k o).collAdvance o.group o.opseq else s
    | _, _ => s) s

/-! ### The commands (R468) -/

/-- Beat of the COLL_DEADLINE event that stands in the event table for an operation (R485). -/
def State.deadlineEvent (s : State) (g opseq : Nat) : Option W64 :=
  (s.beat.events.find? (fun e => e.kind = 9 && e.group = g && e.ident.toNat = opseq)).map (·.beat)

/-- A collective command starts. -/
def State.startColl (s : State) (k : Cmd) : State :=
  match s.collBank k with
  | none => s.failCmd k.ring k.dcount eCollGseq 0
  | some b =>
    let ms := s.gtMembers b k.cGroup
    let rank := (ms.findIdx? (fun m => m.1 = s.maddr)).getD 0
    if k.cGated && s.partOfCore (k.cSlatch / 64 % 128) ≠ some k.part then s.failCmd k.ring k.dcount eSyncLatchBounds 0
    else
      let g := k.cGroup
      let ref := if k.cDeadline ≠ 0 then some (BitVec.ofNat 64 k.cDeadline) else s.deadlineEvent g k.cOpseq
      let all := if k.reduces then none else some (2 ^ ms.length - 1, 2)
      let o : CollOp := { ring := k.ring, dcount := k.dcount, group := g, opseq := k.cOpseq, rank, members := ms
                          levn := s.gtLevn b g, start := s.now, ref, agreed := all }
      let s := s.openLanding g k.cOpseq
      let s := { s with coll := { s.coll with ops := s.coll.ops ++ [o] } }
      if s.maskMismatch k o then s.endOp k o eCollGroupMismatch else s.releaseGated

/-- Start a command of one collective operation. -/
def State.runColl (s : State) (ring dc cop : Nat) : State :=
  match s.cmd ring dc with
  | some k => if k.opcode = 0x20 && k.cCop = cop then s.runCmd ring dc 0x20 State.startColl else s
  | none => s

def execAllReduce (ring dcount : Nat) (s : State) : Host.Outcome State Fault Refusal := .next (s.runColl ring dcount 1)
def execReduceScatter (ring dcount : Nat) (s : State) : Host.Outcome State Fault Refusal := .next (s.runColl ring dcount 2)
def execAllGather (ring dcount : Nat) (s : State) : Host.Outcome State Fault Refusal := .next (s.runColl ring dcount 3)
def execBroadcast (ring dcount : Nat) (s : State) : Host.Outcome State Fault Refusal := .next (s.runColl ring dcount 4)
def execLrReduce (ring dcount : Nat) (s : State) : Host.Outcome State Fault Refusal := .next (s.runColl ring dcount 5)

/-- An operation with its command, when it may act: its partition is not stopped (R370, R493) and none of its cores is frozen (R190). -/
def State.withOp (s : State) (g opseq : Nat) (f : State → Cmd → CollOp → State) : State :=
  match s.collOp g opseq with
  | none => s
  | some o =>
    match s.cmd o.ring o.dcount with
    | none => s
    | some k => if (s.part k.part).stopped || s.frozenPart k.part then s else f s k o

/-- OWNER_ROUND_1 (R486, R487): at or after D, the ranks whose parts were accepted below it. -/
def State.ownerRound1 (s : State) (g opseq : Nat) : State :=
  s.withOp g opseq (fun s k o =>
    match o.ref with
    | none => s
    | some d =>
      if !k.reduces || !k.cTolerant || o.q || o.sent.any (fun m => m.1 = 0) || s.now < d then s
      else
        let n := (o.mine k 0).length * esz k.inFmt
        s.scanAndSend k o 0 (fun r =>
          if r = o.rank then o.released.any (fun b => b < d)
          else match s.landed o r 0 with
            | some l => decide (n ≤ l.bytes) && l.last < d
            | none => n = 0))
def execOwnerRound1 (group opseq : Nat) (s : State) : Host.Outcome State Fault Refusal := .next (s.ownerRound1 group opseq)

/-- ROUND_2 (R487): a reduction without TOLERANT, one below QUORUM, or the Q round of LR_REDUCE, once every part has landed. -/
def State.round2 (s : State) (g opseq : Nat) : State :=
  s.withOp g opseq (fun s k o =>
    let idx := if o.q then 2 else 1
    let pm := (o.pAgreed.map (·.1)).getD 0
    let counts (r : Nat) : Bool := !o.q || pm / 2 ^ r % 2 = 1
    if !k.reduces || o.agreed.isSome || o.sent.any (fun m => m.1 = idx) || !(o.q || !k.cTolerant || o.need2) || o.released.isNone
        || !s.partsIn k o 0 counts then s
    else if o.q then
      -- ARRIVED is all ones; only ranks of the P mask are scanned for NaN
      let block := (o.rank :: o.peers 0).filter counts
      let nanset := ((List.range o.size).filter (fun r => block.contains r && s.partNan k o r)).foldl (fun a r => a + 2 ^ r) 0
      let own := if counts o.rank then s.nanOwn k o else 0
      let b := maskBytes o.opseq 2 o.rank k.cGseq own (2 ^ o.size - 1) nanset
      (s.updOp o (fun o => { o with sent := o.sent.filter (fun m => m.1 ≠ 2) ++ [(2, b)] })).sendMask k o 2 b
    else s.scanAndSend k o idx (fun _ => true))
def execRound2 (group opseq : Nat) (s : State) : Host.Outcome State Fault Refusal := .next (s.round2 group opseq)

/-- A mask is agreed: contributions close, the P round of LR_REDUCE keeps the ranks it counts (R495), and level 0 is folded. -/
def State.agreedOn (s : State) (k : Cmd) (o : CollOp) (mask round nanset : Nat) : State :=
  let block := o.rank :: o.peers 0
  let p := k.cCop = 5 && !o.q
  let s := s.updLanding o.group o.opseq (fun l =>
    { l with closed := !p, only := if p then some mask else none
             parts := if p then l.parts.filter (fun x => !(x.phase = 0 && block.contains x.rank)) else l.parts })
  let n : CollOp := { o with agreed := some (mask, round), nanset := o.nanset ||| nanset }
  (s.updOp o (fun _ => n)).folded k n mask 0

/-- AGREE (R467, R488). -/
def State.agree (s : State) (g opseq : Nat) : State :=
  (s.withOp g opseq (fun s k o =>
    if s.maskMismatch k o then s.endOp k o eCollGroupMismatch
    else if !k.reduces || o.agreed.isSome then s
    else
      let idx := if o.q then 2 else if k.cTolerant && !o.need2 then 0 else 1
      match s.masks k o idx with
      | none => s
      | some (a, nans) =>
        let m := if k.cNanq then maskMinus a nans else a
        if o.q then s.agreedOn k o (m &&& ((o.pAgreed.map (·.1)).getD 0)) 2 nans
        else if idx = 0 && popNat o.size m < max 1 k.cQr then s.updOp o (fun o => { o with need2 := true })
        else s.agreedOn k o m (idx + 1) nans)).collAdvance g opseq
def execAgree (group opseq : Nat) (s : State) : Host.Outcome State Fault Refusal := .next (s.agree group opseq)

/-- HIER_LEVEL (R478): the parts of the level under way are complete. -/
def State.hierLevel (s : State) (g opseq l : Nat) : State :=
  (s.withOp g opseq (fun s k o =>
    if o.level ≠ l || l = 0 then s
    else if o.down then
      if !s.resultsIn k o l then s
      else (s.updOp o (fun o => { o with level := l - 1 })).sendResults k o (l - 1)
    else match o.agreed with
      | some (mask, _) => if s.partsIn k o l then s.folded k o mask l else s
      | none => s)).collAdvance g opseq
def execHierLevel (group opseq level : Nat) (s : State) : Host.Outcome State Fault Refusal := .next (s.hierLevel group opseq level)

/-- COLL_TIMEOUT (R485, R491): the edge of T, or of the start plus TIMEOUT when no deadline came. A STOP does not hold it (R493). -/
def State.collTimeout (s : State) (g opseq : Nat) : State :=
  match s.collOp g opseq with
  | none => s
  | some o =>
    match s.cmd o.ring o.dcount with
    | none => s
    | some k => if (o.ref.getD o.start).toNat + k.cTimeout ≤ s.now.toNat then s.timeoutOp k o else s
def execCollTimeout (group opseq : Nat) (s : State) : Host.Outcome State Fault Refusal := .next (s.collTimeout group opseq)

/-! ### Packets (R479 to R482) -/

/-- The OPSEQ that a packet names: one of the 64 window values and not completed here. -/
def State.opseqOf (s : State) (g low : Nat) : Option Nat :=
  let base := (s.collBase g none).getD 0
  let n := base + (low + 1024 - base % 1024) % 1024
  if n ≤ base + 63 && !s.coll.doneOps.contains (g, n) then some n else none

/-- The rank of a packet's source in its operation's entry. -/
def State.rankOf (s : State) (g : Nat) (o : Option CollOp) (src : Nat) : Option Nat :=
  match o with
  | some o => o.members.findIdx? (fun m => m.1 = src)
  | none => [s.gtNewest, 1 - s.gtNewest].findSome? (fun b => if s.gtUsable b then s.gtRank b g src else none)

def State.stale (s : State) : State := s.incF rCollDrop 15 0 1

/-- Count a packet in its landing record. -/
def State.countLand (s : State) (g n r ph at_ bytes : Nat) : State :=
  s.updLanding g n (fun l =>
    let old := l.parts.find? (fun x => x.rank = r && x.phase = ph)
    let b := match old with
      | some x => if x.attempt = at_ then x.bytes + bytes else bytes
      | none => bytes
    { l with parts := l.parts.filter (fun x => !(x.rank = r && x.phase = ph)) ++ [⟨r, ph, b, s.now, at_⟩] })

/-- A contribution that its record takes no more (R487, R495): of a level-0 peer. -/
def State.contribClosed (s : State) (o : Option CollOp) (g n r : Nat) : Bool :=
  match o, s.landing g n with
  | some o, some l => (o.peers 0).contains r && (l.closed || l.only.any (fun m => m / 2 ^ r % 2 = 0))
  | _, _ => false

/-- A result of LR_REDUCE goes to its operation, everything else to memory. -/
def State.landColl (s : State) (src : Option Nat) (o : Option CollOp) (p : Pkt) (ph pa q : Nat) : State :=
  match o.bind (fun o => (s.cmd o.ring o.dcount).map (fun k => (o, k))) with
  | some (o, k) =>
    if k.cCop = 5 && ph = 2 then
      let off := p.daddr.toNat - (k.scratch + stgAt o.size)
      s.updOp o (fun o => { o with low := p.data.zipIdx.foldl (fun t y => tput (fun _ => 0) t (off + y.2) y.1) o.low })
    else s.landPkt src p pa q
  | none => s.landPkt src p pa q

/-- An abort notice (R491). -/
def State.notice (s : State) (g n : Nat) : State :=
  match s.collOp g n with
  | some o =>
    match s.cmd o.ring o.dcount with
    | some k => s.endOp k o eCollTimeout
    | none => s
  | none =>
    match s.cmds.find? (fun k => k.collLive && k.cGroup = g && k.cOpseq = n) with
    | some k =>
      let s := { s.incF rCollStat 7 0 1 with coll := { s.coll with doneOps := s.coll.doneOps ++ [(g, n)] } }
      s.failCmd k.ring k.dcount eCollTimeout 0
    | none => s

/-- A collective packet at the memory boundary. -/
def State.collPacket (s : State) (src : Option Nat) (p : Pkt) : State :=
  match s.checkTarget src p with
  | .inl e => s.refuseSource src p e
  | .inr (.mem pa, q) =>
    let g := p.group.toNat
    let ph := p.tag.toNat / 2 ^ 12 % 4
    let at_ := p.tag.toNat / 2 ^ 10 % 4
    match s.opseqOf g (p.tag.toNat % 1024) with
    | none => s.stale
    | some n =>
      let o := s.collOp g n
      match s.rankOf g o p.src.toNat with
      | none => s.stale
      | some r =>
        if (s.landing g n).isNone && 128 ≤ s.coll.landings.length then s.stale
        else
          let s := s.openLanding g n
          let seen := ((s.landing g n).bind (fun l => l.parts.find? (fun x => x.rank = r && x.phase = ph))).map (·.attempt)
          if seen.any (fun a => at_ < a) then s.stale
          else if ph = 0 && s.contribClosed o g n r then s.incF rCollDrop 31 16 1
          else if ph = 3 then s.notice g n
          else
            let s := (s.landColl src o p ph pa q).countLand g n r ph at_ p.data.length
            match o.bind (fun o => (s.cmd o.ring o.dcount).map (fun k => (o, k))) with
            | some (o, k) => if ph = 1 && s.maskMismatch k o then s.endOp k o eCollGroupMismatch else s.collAdvance g n
            | none => s
  | .inr _ => s.refuseSource src p eMemBounds

/-- WRITE (R449, R479, R673): a collective packet when TAG bits 15 and 14 are set. -/
def State.writeRow (s : State) (src : Option Nat) : State :=
  match s.takePkt src (fun p => p.kind = 0) with
  | none => s
  | some (p, s) =>
    if 0xC000 ≤ p.tag.toNat then s.collPacket src p
    else match s.checkTarget src p with
    | .inr (.mem pa, q) => s.landPkt src p pa q
    | .inr _ => s.refuseSource src p eMemBounds
    | .inl e => s.refuseSource src p e

def execWrite (src : Option Nat) (s : State) : Host.Outcome State Fault Refusal := .next (s.writeRow src)

/-! ### Restart after a fault takeover (R192, R499) -/

/-- Restart an operation with ATTEMPT raised by one: contribution, partial sums, masks and results are sent again. -/
def State.restartOp (s : State) (k : Cmd) (o : CollOp) : State :=
  if 3 ≤ o.restarts then s.timeoutOp k o
  else
    let n : CollOp := { o with attempt := o.attempt + 1, restarts := o.restarts + 1 }
    let s := s.updOp o (fun _ => n)
    let pm := (o.pAgreed.map (·.1)).getD 0
    let s := if k.reduces && o.released.isSome && (!o.q || pm / 2 ^ o.rank % 2 = 1) then s.sendContribution k n else s
    let s := (List.range (o.levels - 1)).foldl (fun s l => if l < o.partials.length then s.sendPartials k n (l + 1) else s) s
    let s := o.sent.foldl (fun s m => (List.range o.size).foldl (fun s r => s.collSend k n r 1 (o.maskAt k o.rank m.1) m.2) s) s
    if o.down then (List.range o.levels).foldl (fun s l => if o.level ≤ l then s.sendResults k n l else s) s else s

end Sys2Proof.Machine
end

