-- ==== Sys2Proof/Machine/GroupTab.lean ====
section
/-! DEFINITION. Changes of the group table (R462 to R466, R502), the collective counters (R504, R505), and the commit of a fault takeover
(R192, R499). -/

namespace Sys2Proof.Machine

/-! ### Validation (R463) -/

/-- Two members that differ only in digit l name modules that differ only in the level's dimension. -/
def levelOk (a b dim : Nat) : Bool := [0, 1, 2, 3].all (fun d => (coord a d = coord b d) = (d ≠ dim))

/-- Entry i of bank b is empty or valid. -/
def State.entryOk (s : State) (b i : Nat) : Bool :=
  let n := s.gtCount b i
  let nlev := s.gtByte b i 3
  let levn := s.gtLevn b i
  let dim (l : Nat) : Nat := s.gtByte b i 8 / 4 ^ l % 4
  let ms := (s.gtMembers b i).map (·.1)
  n = 0 || (n ≤ 1024 && s.gtByte b i 2 ≤ 1 && 1 ≤ nlev && nlev ≤ 4 && levn.all (fun x => 1 ≤ x && x ≤ 16) && below levn nlev = n
    && ((List.range nlev).map dim).Nodup && (s.gtByte b i 2 = 1 || nlev = 1)
    && (List.range nlev).all (fun l => (List.range n).all (fun r => (List.range (levn.getD l 1)).all (fun j =>
        let x := peerOf levn r l j
        x = r || levelOk (ms.getD r 0) (ms.getD x 0) (dim l)))))

/-- The first invalid entry of a bank. -/
def State.firstInvalid (s : State) (b : Nat) : Option Nat := (List.range 4096).find? (fun i => !s.entryOk b i)

/-! ### The four steps (R464) -/

/-- Live operations that name the older bank's sequence (LIVE_OLD). -/
def State.liveOld (s : State) : Nat :=
  let q := s.gtSeq (1 - s.gtNewest)
  if q = 0 then 0 else (s.cmds.filter (fun k => k.collLive && k.cGseq = q)).length

/-- COLL_GT_CTL.WRITE. -/
def execCollGtWrite (s : State) : Host.Outcome State Fault Refusal := .next (if s.liveOld = 0 then s.wrB rCollCtl 30 true else s)

/-- COLL_GT_CTL.COMMIT: without WRITE there is nothing to commit. -/
def State.gtCommit (s : State) : State := if s.rdB rCollCtl 30 then (s.wrB rCollCtl 31 true).wrB rCollCtl 29 true else s
def execCollGtCommit (s : State) : Host.Outcome State Fault Refusal := .next s.gtCommit

/-- Answer the GROUP_COMMIT that waits. -/
def State.answerCommit (s : State) (st : W16) (b : List Byte) : State :=
  match s.coll.committer with
  | some (c, tag) => ({ s with coll := { s.coll with committer := none } } : State).respond c 0x0123 tag st b
  | none => s

/-- GT_VALIDATION_END: the older bank becomes the newest, or FAIL. A sequence never becomes 0, which marks a bank with no table. -/
def State.validated (s : State) : State :=
  if !s.rdB rCollCtl 29 then s
  else
    let b := 1 - s.gtNewest
    let s1 := (s.wrB rCollCtl 31 false).wrB rCollCtl 29 false
    match s1.firstInvalid b with
    | some i =>
      (((s1.wrB rCollCtl 27 true).wrF rCollCtl 23 12 i).event uColl 1 i eCollGroupInvalid).answerCommit eCollGroupInvalid
        (zeros 4 ++ leBytes 2 i)
    | none =>
      let n := (s.gtSeq (1 - b) + 1) % 2 ^ 32
      let q := if n = 0 then 1 else n
      let s2 := (s1.wr (rCollSeq b) (BitVec.ofNat 32 q)).wrF rCollCtl 28 28 b
      let s3 := (s2.wrB rCollCtl 30 false).wrB rCollCtl 27 false
      let s4 := if s3.coll.committer.isSome then { s3 with coll := { s3.coll with staging := [] } } else s3
      s4.answerCommit 0 (leBytes 4 q)
def execGtValidationEnd (s : State) : Host.Outcome State Fault Refusal := .next s.validated

/-! ### Messages (R466) -/

/-- Entry i belongs to the partition of a TENANT session. -/
def State.ownEntry (s : State) (x : Chan) (i : Nat) : Bool :=
  x.role ≠ .tenant || decide ((s.part x.part).gtBase ≤ i ∧ i < (s.part x.part).gtBase + (s.part x.part).gtCount)

/-- GROUP_WRITE. -/
def execGroupWrite (m : Msg) (s : State) : Host.Outcome State Fault Refusal :=
  .next (s.serve m 0x0122 1008 (hasRole [.operator, .tenant]) (fun s b =>
    let i := leAt b 0 2
    let off := leAt b 2 2
    let n := leAt b 4 2
    if 0xFFE < i || n = 0 || 992 < n || 4160 < off + n || leAt b 6 10 ≠ 0 then (s, refusal eHifMsgInvalid)
    else if !s.ownEntry (s.chan m.ch) i then (s, refusal eHifRoleDenied)
    else ({ s with coll := { s.coll with staging := s.coll.staging ++ [(i, off, (b.drop 16).take n)] } }, some (0, []))))

/-- The staging copy, the newest bank with the staged writes, goes into the older bank. -/
def State.writeBank (s : State) : State :=
  let nb := fwGran + 2 ^ 25 * s.gtNewest
  let ob := fwGran + 2 ^ 25 * (1 - s.gtNewest)
  let cells := if s.gtSeq s.gtNewest = 0 then [] else s.mem.filter (fun c => decide (nb ≤ c.1 ∧ c.1 < nb + 2 ^ 25))
  let s1 := s.zeroFill ob (2 ^ 25)
  let s2 := cells.foldl (fun s c => s.writeMem (c.1 - nb + ob) [c.2]) s1
  s.coll.staging.foldl (fun s x => s.writeMem (ob + 8192 * x.1 + x.2.1) x.2.2) s2

/-- GROUP_COMMIT: the four steps of R464, answered when the validation ends. -/
def execGroupCommit (m : Msg) (s : State) : Host.Outcome State Fault Refusal :=
  .next (s.serve m 0x0123 0 (hasRole [.operator, .tenant]) (fun s _ =>
    if !s.coll.staging.all (fun x => s.ownEntry (s.chan m.ch) x.1) then (s, refusal eHifRoleDenied)
    else if s.coll.committer.isSome || s.rdB rCollCtl 29 || s.liveOld ≠ 0 then (s, refusal eHifPartBusy)
    else
      let s := (s.wrB rCollCtl 30 true).writeBank
      (({ s with coll := { s.coll with committer := some (m.ch, m.tag) } } : State).gtCommit, none)))

/-! ### Counters (R504, R505) -/

/-- COLL_STAT. Commands of MCP rings are not in the model, so no operation runs on the engine. -/
def State.collStat (s : State) : W32 :=
  bfSet (bfSet (s.rd rCollStat) 31 24 s.coll.landings.length) 23 16 (min 255 (s.cmds.filter Cmd.collLive).length)
def execCollStatRead (s : State) : Host.Outcome State Fault Refusal :=
  .next ((s.wrF rCollStat 7 0 0).answer (leBytes 4 s.collStat.toNat))
def execCollDropRead (s : State) : Host.Outcome State Fault Refusal :=
  .next ((s.wr rCollDrop 0).answer (leBytes 4 (s.rd rCollDrop).toNat))

/-! ### The end of a fault takeover (R192) -/

/-- TAKEOVER_COMMIT: the map is committed, the fenced core's contexts empty, and every live collective of the partition starts again on
the replacement (R499). The items of its claim slots were given to reissue at the fence. -/
def State.takeoverCommit (s : State) (lc : Nat) : State :=
  match s.handovers.find? (fun h => h.logical = lc && h.fault) with
  | none => s
  | some h =>
    let s := { s with handovers := s.handovers.filter (fun x => !(x.logical = lc && x.fault)) }
    let s := s.commitMap lc h.old h.new
    let s := (List.range 32).foldl (fun s t => s.setThr h.old t (s.thr h.old t).free) s
    let s := s.setCore h.old { s.core h.old with exc := [], dropped := 0, msgs := [] }
    let s := (s.ungate h.new).releaseHeld h.old h.new
    let s := ((s.spareUsed uCore h.old).testFreed h.old).countSpares (wingOf h.old)
    s.coll.ops.foldl (fun s o =>
      match s.collOp o.group o.opseq, s.cmd o.ring o.dcount with
      | some o, some k => if s.partOfCore lc = some k.part then s.restartOp k o else s
      | _, _ => s) s
def execTakeoverCommit (logical : Nat) (s : State) : Host.Outcome State Fault Refusal := .next (s.takeoverCommit logical)

end Sys2Proof.Machine
end

