-- ==== Sys2Proof/Machine/Power.lean ====
section
/-! DEFINITION. Power, boot and configuration (R590 to R622): the input supply, the governor, temperature, the profile in force, stops,
boot, shutdown, images, calibration and standby takeovers. The scheduling of profiles is in Machine/Policy.lean. -/

namespace Sys2Proof.Machine

/-! ### The profile in force (R39, R597, R601) -/

/-- Core clock in MHz, cap and transient allowance in W. -/
def profClk (p : Nat) : Nat := [1600, 1400, 1200, 950].getD p 950
def profCap (p : Nat) : Nat := [1100, 900, 750, 600].getD p 600
def profTransient (p : Nat) : Nat := [1350, 1100, 920, 740].getD p 740
def State.profile (s : State) : Nat := s.rdF rPwrStat 31 30
def State.clk (s : State) : Nat := s.rdF rPwrStat 15 0
/-- Set the clock; GOV shows a clock below the profile's (R623). -/
def State.setClk (s : State) (f : Nat) : State :=
  let c := profClk s.profile
  let s := (s.wrF rPwrStat 15 0 (min f c)).wrB rPwrStat 25 (f < c)
  if f < c then s else { s with pwr := { s.pwr with thermHold := false } }

/-- A profile comes into force (R601, R603, R622): a derate goes on below the new ceiling. -/
def State.applyProfile (s : State) (code : Nat) : State :=
  let old := s.profile
  let p := code % 4
  let derated := s.rdB rPwrStat 25
  let f := if derated then s.clk else profClk p
  let s := if old < p then
      { s with pwr := { s.pwr with oldCap := some (old, s.now + BitVec.ofNat 64 (s.nsBeats 10000000)) } } else s
  ((s.wrF rPwrStat 31 30 p).setClk f).traceModule 0x11 uPower 0 (old + 4 * p)

/-! ### The governor (R595 to R597) -/

/-- Whether ns nanoseconds have passed since a beat. -/
def State.since (s : State) (b : Option W64) (ns : Nat) : Bool := b.all (fun b => decide (ns ≤ s.nsSince b))

/-- Lower the clock by a step, down to 0.50 GHz, and log the derate at most once per second (R595, R596). -/
def State.stepDown (s : State) : State :=
  let began := !s.rdB rPwrStat 25
  let s := s.setClk (max 500 (s.clk - 25))
  let s := if began then s.incF rPwrErr 31 24 1 else s
  if s.since s.pwr.logged 1000000000 then
    ({ s with pwr := { s.pwr with logged := some s.now } } : State).event uPower 0 0 ePwrGov
  else s

/-- The cap of R42, after a downward change that of the earlier profile for 10 ms (R603). -/
def State.cap (s : State) : Nat :=
  match s.pwr.oldCap with
  | some (p, b) => if s.now < b then profCap p else profCap s.profile
  | none => profCap s.profile

/-- The current limit of R591 applies: below 40 V at P1100. -/
def State.uvActs (s : State) (mv : Nat) : Bool := mv < 40000 && s.profile = 0

/-- Record a blade voltage. -/
def State.setMv (s : State) (mv : Nat) : State := ({ s with pwr := { s.pwr with mv } } : State).wrF rPwrMeas 31 16 (mv / 10)

/-- GOVERNOR_TICK: a measurement; a step down when a limit is reached, at most every 100 µs; a step up, at most every 1 ms. -/
def execGovernorTick (powerW avgW mv : Nat) (below97ms : Bool) (s : State) : Host.Outcome State Fault Refusal :=
  if !s.pwr.main then .next (s.setMv mv)
  else
    let s := (s.setMv mv).wrF rPwrMeas 15 0 avgW
    let s := if mv ≤ 60000 then { s with pwr := { s.pwr with ovWarned := false } } else s
    let s := s.wrB rPwrStat 27 (s.rdB rPwrStat 27 && s.uvActs mv)
    let hit := s.cap ≤ avgW || profTransient s.profile ≤ powerW || (s.uvActs mv && 275 * mv / 10000 ≤ avgW)
    if hit then
      .next (if s.since s.pwr.stepped 100000 then
          ({ s with pwr := { s.pwr with stepped := some s.now } } : State).stepDown else s)
    else if below97ms && s.rdB rPwrStat 25 && !s.rdB rPwrStat 26 && s.since s.pwr.raised 1000000
        && (!s.pwr.thermHold || signed 16 (s.rdF rPwrTemp 31 16) ≤ 760) then
      .next (({ s with pwr := { s.pwr with raised := some s.now } } : State).setClk (s.clk + 25))
    else .next s

/-! ### Losing power -/

/-- The cartridges' states: SMBus shows them from the standby side (R656). -/
def cartReg (o : Nat) : Bool := optReg 0 ≤ o && o < optReg 0x100
/-- Registers that keep their values while the wings are unpowered: the beat unit, power and configuration windows are on the standby
side; MEM_CHAN and ARR_REMAP follow the attic's records (R592, R606). -/
def keptDark (o : Nat) : Bool :=
  cartReg o || (beatReg 0 ≤ o && o < fabReg 0) || (pwrReg 0 ≤ o && o < cntReg 0) || (cfgReg 0 ≤ o) || o = rHifStat
  || (rMemChan 0 ≤ o && o < rMemChan 160) || (arrReg 0 0 ≤ o && o < arrReg 576 0 && o % 16 = 8)

/-- What stays of a core: its place in the attic's records. -/
def Core.dark (k : Core) : Core :=
  { retired := k.retired, passed := k.passed, lastPass := k.lastPass, dissents := k.dissents, testNext := k.testNext }

/-- The wings, stacks, engines and the host interface lose power (R592): contents, contexts, commands, rings and links go. -/
def State.dark (s : State) : State :=
  let s := (List.range 32).foldl (fun s c => s.closeChan c) s
  { s with
    regs := s.regs.filter (fun r => keptDark r.1)
    mem := [], ecc := [], threads := [], latches := [], epochs := [], handovers := [], heldAcc := [], releases := []
    resetAcks := [], arrays := [], dma := [], rings := [], cmds := [], cnt := {}, coll := {}
    cores := s.cores.map (fun k => (k.1, k.2.dark))
    parts := s.parts.map (fun p => (p.1, { p.2 with preempts := [], held := [], stopped := false }))
    host := { s.host with chans := s.host.chans.filter (fun c => 32 ≤ c.1), bar2 := [], msix := false, err := {}, window := none
                          cfgReady := false }
    beat := { s.beat with snaps := [], issued := [] }
    fab := { startBeat := s.fab.startBeat, hallUsed := s.fab.hallUsed }
    memx := { s.memx with burst := [], armed := none }
    test := { s.test with deferred := [], running := [] }
    bays := s.bays.map (fun b => (b.1, { b.2 with warming := false }))
    pwr := { s.pwr with main := false, shutting := false } }

/-- PWR_TEMP (R624). TIN is a measurement that no command carries: a free value while the standby side runs (notes/assumptions/9.md). -/
def State.pwrTemp (s : State) : W32 :=
  if s.pwr.standby then bfSet (s.rd rPwrTemp) 15 0 ((s.free 0).toNat % 65536) else s.rd rPwrTemp

/-- The stop record (R592). -/
def State.stopRecord (s : State) (cause : Nat) : StopRecord :=
  { cause, beat := s.now, mv := s.pwr.mv, temps := s.pwrTemp, mapSeq := (s.image 4).live }

/-- A stop in order (R592): `cause` is STOP_CAUSE, 0 for none of its codes; `wait` is what a restart waits for. -/
def State.stopInOrder (s : State) (cause wait : Nat) (err : Option W16) : State :=
  if !s.pwr.main then s
  else
    let s := match err with
      | some e => s.event uPower 4 0 e
      | none => s
    let s := { s with pwr := { s.pwr with stopped := wait, stopRecords := s.pwr.stopRecords ++ [s.stopRecord cause]
                                          alert := s.pwr.alert ||| 2 } }
    let s := if cause = 0 then s else s.wrF rPwrErr 7 6 cause
    s.bump.dark.wrF rHifStat 31 29 4

/-- Everything loses power (R590): what is in flash, fuses and the attic's records stays. -/
def State.blackout (s : State) : State :=
  let s := s.dark
  { s with
    regs := s.regs.filter (fun r => keptDark r.1 && (r.1 < beatReg 0 || cartReg r.1) && r.1 ≠ rHifStat)
    spareMap := [], retiredMap := [], parts := [], reports := [], rseq := 0, rsent := 0, resend := [], beat := {}
    host := { keys := s.host.keys, irqs := s.host.irqs, mem := s.host.mem }
    test := { lc := s.test.lc, patterns := s.test.patterns, swaps := s.test.swaps }
    pwr := { flashPolicy := s.pwr.flashPolicy, flashParts := s.pwr.flashParts, flashRegs := s.pwr.flashRegs, cal := s.pwr.cal
             images := s.pwr.images.map (fun i => (i.1, { i.2 with live := i.2.seq, dirty := false })), record := s.pwr.record
             stopRecords := s.pwr.stopRecords, mv := s.pwr.mv, wcStandby := s.pwr.wcStandby } }

/-! ### Boot (R606 to R610) -/

/-- Keys of `flashRegs` that hold the starting value of the beat counter. -/
def startKey : Nat := 0x2000000

/-- User limit of a calibration item by its class, bits [31:24] of the item number (R617; notes/assumptions/16.md): temperature sensor, rail
trim, voltage sense, laser bias, equaliser, port latency. -/
def calLimit (item : Nat) : Int := ([16, 15, 20, 50, 4, 200] : List Int).getD (item / 2 ^ 24) 0
def State.userCal (s : State) (item : Nat) : Int := ((s.pwr.cal.find? (fun c => c.1 = item)).map (·.2)).getD 0
/-- Factory plus user, clamped to factory ± the limit. -/
def calSum (item : Nat) (user : Int) : Int := Config.factoryCal item + max (-calLimit item) (min (calLimit item) user)
/-- The effective value: the sum, clamped to the item's range, which is the module's (notes/assumptions/6.md). -/
def State.effCal (s : State) (item : Nat) : Int :=
  max (Config.calRange item).1 (min (Config.calRange item).2 (calSum item (s.userCal item)))
/-- Either clamp acts on a delta. -/
def calClamps (item : Nat) (user : Int) : Bool :=
  calLimit item < user.natAbs || calSum item user < (Config.calRange item).1 || (Config.calRange item).2 < calSum item user
/-- Sums are formed when a set of deltas comes into use; a clamp sets PWR_ERR.CAL and is logged (R617). -/
def State.noteClamps (s : State) : State :=
  if s.pwr.cal.any (fun c => calClamps c.1 c.2) then (s.wrB rPwrErr 0 true).event uMcp 0 0 ePwrCalClamped else s

/-- The row entries of the spare map come back from its flash copy, with what they leave free (R329, R336, R346, R573). -/
def State.loadRows (s : State) (rows : List (Nat × Nat × Nat × Nat)) : State :=
  let n (st c : Nat) : Nat := (rows.filter (fun r => r.1 = st && r.2.1 = c)).length
  let s := (s.memx.rowMap ++ rows).foldl (fun s r =>
    if r.1 < 8 then s.wrF (rMemChan (20 * r.1 + r.2.1)) 9 0 (512 - n r.1 r.2.1) else s) s
  let red := rows.foldl (fun t r => if 8 ≤ r.1 then tput (fun _ => 0) t (r.1 - 8) (tget (fun _ => 0) t (r.1 - 8) + 1) else t) []
  { s with memx := { s.memx with rowMap := rows, redundancy := red } }

/-- Step 3: calibration, settings and runtime tables from flash (R606, R614, R616). A configuration image that is missing holds no SERVICE
flag (R610). -/
def State.loadTables (s : State) : State :=
  let ok (k : Nat) : Bool := (s.image k).inUse.isSome
  let s := (List.range 12).foldl (fun s k => s.wr (rCfgImg k) (s.image k).word) s
  let s := { s with
    parts := if ok 3 then s.pwr.flashParts else []
    spareMap := if ok 4 then s.flashMap else []
    retiredMap := []
    test := { s.test with lc := if s.test.lc = 3 && !ok 1 then 2 else s.test.lc }
    pwr := { s.pwr with policy := if ok 5 then s.pwr.flashPolicy else {}, cal := if ok 2 then s.pwr.cal else [] } }
  let s := (s.loadRows (if ok 4 then s.memx.flashRows else [])).noteClamps
  let s : State := if ok 1 then s.pwr.flashRegs.foldl (fun s r =>
    if r.1 = rBeatCtl then s.wr r.1 ((s.rd r.1 &&& ~~~0xCF0FF000#32) ||| (r.2 &&& 0xCF0FF000#32))
    else if r.1 < startKey then s.wr r.1 r.2 else s) s else s
  let word (k : Nat) : Nat := (tget (fun _ => (0 : W32)) s.pwr.flashRegs k).toNat
  let s : State := { s with fab := { s.fab with startBeat := BitVec.ofNat 64 (word startKey + 2 ^ 32 * word (startKey + 4)) } }
  if s.rdF rBeatCtl 31 30 = 1 then (s.countFrom s.fab.startBeat).master else s

/-- Give the partitions' memory back (R542, R606 step 8). -/
def State.restoreParts (s : State) : State :=
  s.parts.foldl (fun s p =>
    let s := p.2.grans.foldl (fun s g => (s.wrF (rMemGran g) 11 8 p.1).wrF (rMemGran g) 5 4 (p.2.mode g)) s
    p.2.lpages.foldl (fun s j => s.wrF (rMemLpage j) 3 0 p.1) s) s

/-- Versions that a shutdown record holds: the pattern sets' (R565). -/
def State.setVersions (s : State) : List Nat := (List.range 6).map (fun k => (s.image (6 + k)).seq)
/-- The record lets a start skip the self test (R566). -/
def State.recordGood (s : State) : Bool :=
  match s.pwr.record with
  | some r => r.outcome ≤ 1 && !r.used && r.fw = (s.image 0).ver && r.versions = s.setVersions && r.mapSeq = (s.image 4).seq
  | none => false

/-- The core tests of the long path (R566, R607). Which cores are overdue, and what their tests answer, is not in the state: two free bits
per core (notes/assumptions/9.md): 2 passed, 3 failed, else not tested. A core that fails is RETIRED; its identity goes to a spare. -/
def State.bootTests (s : State) : State :=
  let c := s.freeCtr
  let s := s.bump
  (List.range 144).foldl (fun s i =>
    let v := bf (Config.freeWord c i) 1 0
    if (s.core i).retired || v < 2 then s
    else if v = 2 then s.setCore i { s.core i with passed := true, lastPass := s.now, testNext := false }
    else
      let s := s.setCore i { s.core i with passed := false, retired := true, testNext := false }
      let s := s.blastReport i eBstFail
      match s.logical i with
      | none => s
      | some lc =>
        match s.spareFor (wingOf i) with
        | some new => (s.commitMap lc i new).spareUsed uCore i
        | none => (({ s with spareMap := tput (fun _ => none) s.spareMap lc none } : State).commitTable 4).noSpare uCore i) s

/-- Step 6: the fill. TIME is a free value of at most 32 ms; the fill only writes, so it erases no channel (notes/assumptions/41.md). -/
def State.fillMemory (s : State) : State :=
  let s : State := { s with pwr := { s.pwr with main := true }, mem := [], ecc := [] }
  ((s.wrB rMemInit 31 true).wrF rMemInit 15 0 ((s.free 2).toNat % 33)).bump

/-- Step 7: the shutdown record is used once; without a good one the overdue cores are tested (R566, R607). -/
def State.bootRecord (s : State) : State :=
  if s.recordGood then { s with pwr := { s.pwr with record := s.pwr.record.map (fun r => { r with used := true }) } } else s.bootTests

/-- The profile at start: the most restrictive of NORMAL, SITE while asserted, and the operator cap (R604). -/
def State.startProfile (s : State) : State :=
  let pol := s.pwr.policy
  (s.wrF rPwrStat 27 25 0).applyProfile (max (max pol.normal (if s.rdB rPwrStat 28 then pol.site else 0)) (pol.opcap.getD 0))

/-- A kind with one valid slot is logged (R614). -/
def State.noteSlots (s : State) : State :=
  (List.range 12).foldl (fun s k => if (s.image k).aOk ≠ (s.image k).bOk then s.event uMcp 0 k eCfgSlotFallback else s) s

/-- Steps 2 to 8. No valid firmware: recovery (R608). -/
def State.start (s : State) : State :=
  let s := { s with pwr := { s.pwr with stopped := 0, standby := true, recovery := false } }
  match (s.image 0).inUse with
  | none => (({ s with pwr := { s.pwr with recovery := true } } : State).wrF rHifStat 31 29 4)
  | some _ =>
    let s := (((s.wr (hifReg 0x0C) (s.image 0).ver).noteSlots.loadTables.fillMemory).bootRecord).restoreParts
    let s := ((s.countSpares 0).countSpares 1).startProfile
    ({ s with host := { s.host with cfgReady := true } } : State).wrF rHifStat 31 29 2

/-- The main converters run (R590). -/
def mainRange (mv : Nat) : Bool := 36000 ≤ mv && mv ≤ 61000

/-- BOOT: blade power arrives at the given voltage, after it was away. -/
def execBoot (mv : Nat) (s : State) : Host.Outcome State Fault Refusal :=
  let site := s.rdB rPwrStat 28
  let s := (s.blackout.setMv mv).wrB rPwrStat 28 site
  .next (if mv < 20000 then s
    else if mainRange mv then s.start
    else { s with pwr := { s.pwr with standby := true } })

/-- VOLTAGE_RECOVERY (R594): after a stop for voltage. Sessions, rings and BAR2 mappings do not survive the start (R606). -/
def execVoltageRecovery (mv : Nat) (s : State) : Host.Outcome State Fault Refusal :=
  let s := s.setMv mv
  .next (if s.pwr.stopped = 1 && !s.pwr.main && 40000 ≤ mv && mv ≤ 60000 then
      ((List.range 36).foldl (fun s c => s.closeChan c) s).start
    else s)

/-! ### The supply (R590 to R592, R651) -/

def execBladeUndervoltage (mv : Nat) (s : State) : Host.Outcome State Fault Refusal :=
  .next ((s.setMv mv).stopInOrder 1 1 (some ePwrUvStop))
def execBladeOvervoltage (mv : Nat) (s : State) : Host.Outcome State Fault Refusal :=
  .next ((s.setMv mv).stopInOrder 2 1 (some ePwrOvStop))
def execBladeEnNHigh (s : State) : Host.Outcome State Fault Refusal := .next (s.stopInOrder 0 2 none)

/-- PWR_OV_WARN: once per crossing. -/
def execPwrOvWarn (mv : Nat) (s : State) : Host.Outcome State Fault Refusal :=
  let s := s.setMv mv
  .next (if s.pwr.ovWarned then s
    else ({ s with pwr := { s.pwr with ovWarned := true } } : State).event uPower 0 0 ePwrOvWarn)

/-- PWR_UV_LIMIT: once each time the limit begins to act. -/
def execPwrUvLimit (mv : Nat) (s : State) : Host.Outcome State Fault Refusal :=
  let s := s.setMv mv
  .next (if s.uvActs mv && s.pwr.main && !s.rdB rPwrStat 27 then
      ((s.wrB rPwrStat 27 true).wrB rPwrErr 2 true).event uPower 0 0 ePwrUvLimit
    else s)

/-- STANDBY_LOSS: below 20 V. -/
def execStandbyLoss (mv : Nat) (s : State) : Host.Outcome State Fault Refusal := .next (s.blackout.setMv mv)

/-! ### Temperature (R605) -/

def State.setTj (s : State) (tj8 : Int) : State := s.wrF rPwrTemp 31 16 (wrap 16 tj8)

/-- PWR_THERM_WARN: once per crossing of 95 °C. -/
def execPwrThermWarn (tj8 : Int) (s : State) : Host.Outcome State Fault Refusal :=
  let s := s.setTj tj8
  .next (if tj8 < 760 then { s with pwr := { s.pwr with thermWarned := false } }
    else if s.pwr.thermWarned then s
    else ({ s with pwr := { s.pwr with thermWarned := true, alert := s.pwr.alert ||| 1 } } : State).event uPower 0 0 ePwrThermWarn)

/-- THERMAL_THROTTLE, once per ms: from 100 °C the clock falls by a step until Tj ≤ 98 °C. -/
def execThermalThrottle (tj8 : Int) (s : State) : Host.Outcome State Fault Refusal :=
  let s := s.setTj tj8
  let s := if tj8 < 760 then { s with pwr := { s.pwr with thermWarned := false } } else s
  .next (if s.pwr.main && (800 ≤ tj8 || (s.rdB rPwrStat 26 && 784 < tj8)) then
      let s := ((s.wrB rPwrStat 26 true).wrB rPwrErr 3 true).stepDown
      { s with pwr := { s.pwr with thermHold := true } }
    else s.wrB rPwrStat 26 false)

/-- PWR_THERM_STOP: 105 °C for 1 ms. -/
def execPwrThermStop (tj8 : Int) (s : State) : Host.Outcome State Fault Refusal :=
  let s := s.setTj tj8
  .next (if 840 ≤ tj8 then s.stopInOrder 3 2 (some ePwrThermStop) else s)

/-- THERMAL_TRIP: the comparator removes main power without order. -/
def execThermalTrip (s : State) : Host.Outcome State Fault Refusal :=
  let s := ({ s with pwr := { s.pwr with stopped := 2, trip := true } } : State).wrB rPwrErr 4 true
  .next (s.dark.wrF rHifStat 31 29 4)

/-- A read of PWR_ERR clears GOV_CNT (R625). -/
def execPwrErrRead (s : State) : Host.Outcome State Fault Refusal :=
  .next ((s.wrF rPwrErr 31 24 0).answer (leBytes 4 (s.rd rPwrErr).toNat))

/-! ### Orderly shutdown (R564, R565, R611) -/

/-- No partition has a live command. -/
def State.allIdle (s : State) : Bool := (List.range 8).all (fun p => s.partIdle p)

/-- A core test in progress is abandoned, and the core counts as untested (R584). -/
def State.abandonTest (s : State) (w : Nat) : State :=
  let i := s.testCore w
  if s.testState w = 3 || s.testState w = 5 then (s.endTest w i).setCore i { s.core i with passed := false, withdrawn := false } else s

/-- Steps 2 to 6 once every partition is idle. The outcome of the self test is a free value (notes/assumptions/9.md). -/
def State.finishShutdown (s : State) : State :=
  let s := [0, 1].foldl State.abandonTest s
  let s := [3, 4, 5].foldl State.flashTable s
  let outcome := (s.free 0).toNat % 3
  let s := s.bump
  let r : ShutRecord := { outcome, fw := (s.image 0).ver, versions := s.setVersions, mapSeq := (s.image 4).seq }
  let s := { s with pwr := { s.pwr with record := some r } }
  let s := if outcome = 2 then s.event uMcp 3 0 eShutdownFail else s
  let s := s.dark.wrF rHifStat 31 29 3
  ({ s with pwr := { s.pwr with stopped := 2 } } : State).event uPower 0 0 ePwrOffReady

/-- SHUTDOWN: PREEMPT with DRAIN for every partition, answered when it is accepted (notes/assumptions/33.md). -/
def execShutdown (m : Msg) (s : State) : Host.Outcome State Fault Refusal :=
  let t := s.serve m 0x0132 0 (hasRole [.operator, .service]) (fun s _ =>
    let s := { s with pwr := { s.pwr with shutting := true } }
    ((List.range 8).foldl (fun s p =>
      if (s.part p).st = .ready && !s.partIdle p then s.preempt p false { ch := 255, tag := 0 } else s.haltPart p) s, some (0, [])))
  .next (if t.pwr.shutting && t.allIdle then t.finishShutdown else t)

/-- PREEMPT_DONE (R546, R547, R611): no command of the partition is live. -/
def execPreemptDone (part : Nat) (s : State) : Host.Outcome State Fault Refusal :=
  let t := s.answerPreempts part
  .next (if t.pwr.shutting && t.allIdle then t.finishShutdown else t)

/-- DRAIN_S_EXPIRY: partitions still live receive PREEMPT with ABORT. -/
def execDrainSExpiry (s : State) : Host.Outcome State Fault Refusal :=
  .next (if s.pwr.shutting then
      (List.range 8).foldl (fun s p => if s.partIdle p then s else s.preempt p true { ch := 255, tag := 0 }) s
    else s)

/-! ### Images and calibration (R612 to R618) -/

/-- The header of an image other than a pattern set (R613): kind, sequence, length, CRC and, for a signed kind, the signature. -/
def imageOk (kind seq : Nat) (sig : Bool) (b : List Byte) : Bool :=
  let n := b.length
  (if sig then 160 else 64) ≤ n && b.take 4 = [0x50, 0x48, 0x49, 0x4D] && leAt b 4 1 = kind
  && (if sig then leAt b 5 1 ≤ 3 else leAt b 5 1 = 0) && leAt b 6 2 = 0 && leAt b 8 4 = seq && seq ≤ 0xFFFFFFFE
  && leAt b 12 4 = n - 64 && (sig || leAt b 16 4 = 0) && leAt b 24 40 = 0
  && leAt b 20 4 = crc32c (b.take 20 ++ b.drop 64)
  && (!sig || Config.signatureOk (leAt b 5 1) (b.take (n - 96)) (b.drop (n - 96)))

/-- IMAGE_WRITE: a firmware image whose sequence is the valid one plus one; in force at the next start. -/
def execImageWrite (m : Msg) (image : List (BitVec 8)) (s : State) : Host.Outcome State Fault Refusal :=
  .next (s.serve m 0x0133 1008 (hasRole [.operator, .service]) (fun s _ =>
    let i := s.image 0
    if !imageOk 0 (i.seq + 1) true image then (s, refusal eCfgImageInvalid)
    else (s.setImage 0 { i.put (i.seq + 1) (BitVec.ofNat 32 (leAt image 16 4)) with live := i.seq + 1 }, some (0, []))))

/-- CAL_SET: the image's deltas, 8 bytes each: item in bytes 0–3, signed delta in bytes 4–5 (notes/assumptions/16.md). -/
def execCalSet (m : Msg) (image : List (BitVec 8)) (s : State) : Host.Outcome State Fault Refusal :=
  .next (s.serve m 0x0134 1008 (hasRole [.service, .factory]) (fun s _ =>
    let i := s.image 2
    if !imageOk 2 (i.seq + 1) false image || (image.length - 64) % 8 ≠ 0 then (s, refusal eCfgImageInvalid)
    else
      let cal := (List.range ((image.length - 64) / 8)).map (fun k => (leAt image (64 + 8 * k) 4, signed 16 (leAt image (68 + 8 * k) 2)))
      let s := ({ s with pwr := { s.pwr with cal } } : State).setImage 2 { i.put (i.seq + 1) with live := i.seq + 1 }
      (s.noteClamps, some (0, []))))

/-- CAL_READ: an item in bytes 0–3; its factory, user and effective values (notes/assumptions/16.md). -/
def execCalRead (m : Msg) (s : State) : Host.Outcome State Fault Refusal :=
  .next (s.serve m 0x0135 4 (hasRole [.operator, .service]) (fun s b =>
    let item := leAt b 0 4
    if 6 ≤ item / 2 ^ 24 then (s, refusal eHifMsgInvalid)
    else (s, some (0, leBytes 4 (wrap 32 (Config.factoryCal item)) ++ leBytes 4 (wrap 32 (s.userCal item))
      ++ leBytes 4 (wrap 32 (s.effCal item))))))

/-! ### Standby takeovers (R608, R619, R620) -/

/-- The standby MCP takes over; with none left a fault stops the module in order. -/
def State.mcpTakeover (s : State) : State :=
  if s.pwr.standbyMcp then
    let s := { s with pwr := { s.pwr with standbyMcp := false, replaced := true } }
    (s.wrB rHifStat 28 (!s.rdB rHifStat 28)).event uMcp 2 0 ePwrTakeover
  else s.stopInOrder 0 2 none

def execMcpHeartbeatMiss (s : State) : Host.Outcome State Fault Refusal := .next s.mcpTakeover
def execLockstepMiscompare (s : State) : Host.Outcome State Fault Refusal := .next s.mcpTakeover

/-- No standby remains (R619, R620, R656). -/
def State.standbyLost (s : State) (unit inst : Nat) : State :=
  ({ s with pwr := { s.pwr with alert := s.pwr.alert ||| 8 } } : State).event unit 3 inst ePwrStandbyLost

/-- MCP_A_TEST_RESULT: the replaced MCP becomes the standby, or none remains. -/
def execMcpATestResult (pass : Bool) (s : State) : Host.Outcome State Fault Refusal :=
  .next (if !s.pwr.replaced then s
    else if pass then { s with pwr := { s.pwr with replaced := false, standbyMcp := true } }
    else ({ s with pwr := { s.pwr with replaced := false } } : State).standbyLost uMcp 0)

/-- MCP_B_BOOT_TAKEOVER (R608): during a start MCP-B becomes active and restarts from step 2. -/
def execMcpBBootTakeover (s : State) : Host.Outcome State Fault Refusal :=
  .next (if s.pwr.main || !s.pwr.standbyMcp then s
    else
      let s := { s with pwr := { s.pwr with standbyMcp := false, replaced := true } }
      let s := (s.wrB rHifStat 28 true).event uMcp 2 0 ePwrTakeover
      if mainRange s.pwr.mv && s.pwr.stopped = 0 then s.start else s)

/-- A wing controller's standby takes over; all command state stands in the larder and goes on (R620). A second fault ends the live
commands of partitions with cores on the wing. Their code is not given: a free value among the error codes of R25
(notes/assumptions/9.md). -/
def State.wcTakeover (s : State) (w : Nat) : State :=
  if tget (fun _ => true) s.pwr.wcStandby w then
    let s := { s with pwr := { s.pwr with wcStandby := tput (fun _ => true) s.pwr.wcStandby w false } }
    (s.event uWc 2 w ePwrTakeover).standbyLost uWc w
  else
    let f := (s.free 0).toNat
    let code := BitVec.ofNat 16 (2 ^ 8 * (1 + f / 2 ^ 8 % 8) + 1 + f % 255)
    (s.cmds.filter (fun k => !(s.coresOfWing k.part w).isEmpty)).foldl (fun s k => s.failCmd k.ring k.dcount code 0) s.bump

def execWcStandbyTakeover (wing : Nat) (s : State) : Host.Outcome State Fault Refusal := .next (s.wcTakeover wing)
def execWcPrimaryMiscompare (wing : Nat) (s : State) : Host.Outcome State Fault Refusal := .next (s.wcTakeover wing)

/-- TAKEOVER: byte 0 names the MCP (0) or the east or west wing controller (1, 2) (notes/assumptions/16.md). With no standby it is refused. -/
def execTakeover (m : Msg) (s : State) : Host.Outcome State Fault Refusal :=
  .next (s.serve m 0x0136 1 (hasRole [.service]) (fun s b =>
    let u := leAt b 0 1
    if 2 < u then (s, refusal eHifMsgInvalid)
    else if u = 0 then if s.pwr.standbyMcp then (s.mcpTakeover, some (0, [])) else (s, refusal eBstBusy)
    else if tget (fun _ => true) s.pwr.wcStandby (u - 1) then (s.wcTakeover (u - 1), some (0, []))
    else (s, refusal eBstBusy)))

end Sys2Proof.Machine
end

