-- ==== Sys2Proof/Machine/Events.lean ====
section
/-! DEFINITION. Global events (R361 to R374): issue, arrival, the rows of events that are due, snapshots and channel state, STOP and
RESUME, and the requests of R372. -/

namespace Sys2Proof.Machine

/-! ### Snapshots (R368, R369, R373, R374) -/

def logWin : Nat := 64
/-- Place of a snapshot record in granule 383 (notes/assumptions/32.md). -/
def snapAddr (p slot : Nat) : Nat := fwGran + 0x4000000 + 0x800000 * p + 0x200000 * slot

/-- The record's bytes, its CRC over the record with the CRC field zero. -/
def Snap.bytes (n : Snap) : List Byte :=
  let len := 64 + n.sections.length + n.hdrs.length
  let fl := (if n.incomplete then 1 else 0) + (if n.late then 2 else 0) + (if n.logfull then 4 else 0)
  let head (crc : Nat) : List Byte :=
    leBytes 4 n.id.toNat ++ leBytes 1 n.part ++ leBytes 1 fl ++ zeros 2 ++ leBytes 8 n.beat.toNat
      ++ (List.range 5).flatMap (fun i => leBytes 2 (n.counts.getD i 0)) ++ zeros 2 ++ leBytes 4 n.nhdr ++ leBytes 4 len ++ leBytes 4 crc
      ++ zeros 24
  let body := n.sections ++ n.hdrs
  head (crc32c (head 0 ++ body)) ++ body

/-- The five sections of partition p and their counts. -/
def State.snapSections (s : State) (p : Nat) : List Nat × List Byte :=
  let lats := (s.coresOf p).flatMap (fun lc =>
    match s.phys lc with
    | some i => (List.range 48).map (fun j => leBytes 2 lc ++ leBytes 1 j ++ zeros 13 ++ leBytes 16 (s.latchView i j).toNat)
    | none => [])
  let rings := ((span (8 * p) 8).filter (fun n => (s.ring n).st ≠ .none)).map (fun n =>
    let r := s.ring n
    leBytes 1 n ++ zeros 3 ++ leBytes 4 r.head.toNat ++ leBytes 4 r.tail.toNat ++ leBytes 4 r.chead.toNat)
  let live := s.cmds.filter (fun k => k.part = p)
  let cmds := live.map (fun k => leBytes 1 k.ring ++ zeros 3 ++ leBytes 4 k.seq.toNat)
  let ctrs := (live.flatMap (fun k => (k.counterE :: k.counterW :: k.recs).filter (· ≠ 0))).map (fun a =>
    leBytes 2 (leNat (s.seen (a + 30) 2)) ++ leBytes 1 (if a < larderBase 1 then 0 else 1) ++ zeros 5 ++ s.seen a 8)
  let rels := (s.releases.filter (fun e => s.partOfCore e.core = some p)).map (fun e =>
    let a := counterAddr e.ccore e.clatch
    leBytes 8 (if e.cmod = s.maddr then a else 2 ^ 63 + 2 ^ 48 * e.cmod + a) ++ leBytes 8 e.round.toNat ++ leBytes 2 e.core
      ++ leBytes 1 e.latch ++ zeros 13)
  ([lats.length, rings.length, cmds.length, ctrs.length, rels.length],
   lats.flatten ++ rings.flatten ++ cmds.flatten ++ ctrs.flatten ++ rels.flatten)

/-- Store a snapshot and write its record; of a partition's snapshots the four newest stay. -/
def State.putSnap (s : State) (n : Snap) : State :=
  let rest := s.beat.snaps.filter (fun x => !(x.part = n.part && x.slot = n.slot))
  ({ s with beat := { s.beat with snaps := rest ++ [n] } } : State).writeMem (snapAddr n.part n.slot) n.bytes
/-- The place of a new snapshot: a free one, or the oldest's. -/
def State.snapSlot (s : State) (p : Nat) : Nat :=
  let mine := (s.beat.snaps.filter (fun x => x.part = p)).map (·.slot)
  ((List.range 4).find? (fun i => !mine.contains i)).getD (mine.headD 0)
/-- Keep the order of age when a snapshot is stored again. -/
def State.editSnap (s : State) (n : Snap) : State :=
  ({ s with beat := { s.beat with snaps := s.beat.snaps.map (fun x => if x.part = n.part && x.slot = n.slot then n else x) } } : State).writeMem
    (snapAddr n.part n.slot) n.bytes

/-- A snapshot at its beat, or the header of one that came late. -/
def State.takeSnapshot (s : State) (p : Nat) (id : W32) (beat : W64) (late : Bool) : State :=
  if 7 < p then s
  else
    let sec := if late then ([], []) else s.snapSections p
    s.putSnap { slot := s.snapSlot p, part := p, id, beat, counts := sec.1, sections := sec.2, late, complete := late }

/-- SNAPSHOT_COMPLETE. -/
def State.completeSnap (s : State) (p id : Nat) : State :=
  match s.beat.snaps.find? (fun n => n.part = p && n.id.toNat = id && !n.complete) with
  | some n => if n.beat.toNat + logWin ≤ s.now.toNat then s.editSnap { n with complete := true } else s
  | none => s
def execSnapshotComplete (part snapid : Nat) (s : State) : Host.Outcome State Fault Refusal := .next (s.completeSnap part snapid)

/-- An arriving packet meets the snapshots of its partition (R368, R369). -/
def State.logChannel (s : State) (port : Nat) (p : Pkt) : State :=
  match s.groupPart p with
  | none => s
  | some q =>
    (s.beat.snaps.filter (fun n => n.part = q && !n.late && p.sendBeat < n.beat)).foldl (fun s n =>
      if n.complete || n.beat.toNat + logWin ≤ s.now.toNat then s.editSnap { n with incomplete := true }
      else
        let c := tget (fun _ => 0) n.perPort port
        if 512 ≤ c then s.editSnap { n with incomplete := true, logfull := true }
        else
          let h := leBytes 8 p.sendBeat.toNat ++ leBytes 2 p.src.toNat ++ leBytes 1 p.vc.toNat ++ leBytes 1 port
            ++ leBytes 8 p.daddr.toNat ++ leBytes 4 p.data.length ++ zeros 8
          s.editSnap { n with hdrs := n.hdrs ++ h, nhdr := n.nhdr + 1, perPort := tput (fun _ => 0) n.perPort port (c + 1) }) s

/-! ### STOP and RESUME (R370) -/

/-- The partitions an event names: 0xFF is every one. -/
def partsOf (p : Nat) : List Nat := if p = 0xFF then List.range 8 else if p < 8 then [p] else []

/-- Hold the partition's threads, and remember them. -/
def State.stopPart (s : State) (p : Nat) : State :=
  (s.coresOf p).foldl (fun s lc =>
    match s.phys lc with
    | none => s
    | some i =>
      (List.range 32).foldl (fun s t =>
        let x := s.thr i t
        if (x.st = .ready || x.st = .parked) && x.part = p then
          let q := s.part p
          (s.setThr i t { x with st := .held, under := x.st }).setPart p { q with held := q.held ++ [32 * lc + t] }
        else s) s) (s.setPart p { s.part p with stopped := true })
/-- Release what a STOP held; HOLD_ALL keeps a core's threads. -/
def State.resumePart (s : State) (p : Nat) : State :=
  let held := (s.part p).held
  let s := s.setPart p { s.part p with stopped := false, held := [] }
  held.foldl (fun s h =>
    match s.phys (h / 32) with
    | none => s
    | some i =>
      s.letGo i (h % 32)) s

/-! ### What an event does -/

/-- A COLL_DEADLINE for a started operation that takes its deadline from it (R485). -/
def State.setDeadline (s : State) (g : Nat) (opseq : W32) (n : W64) : State :=
  match s.collOp g opseq.toNat with
  | some o => if o.ref.isNone then s.updOp o (fun o => { o with ref := some n }) else s
  | none => s

/-- What an event does when it takes effect at receipt (R364). -/
def State.lateEvent (s : State) (e : Ev) : State :=
  match e.kind with
  | 1 => s.takeSnapshot e.part e.ident e.beat true
  | 2 => (partsOf e.part).foldl State.stopPart s
  | 3 => (partsOf e.part).foldl State.resumePart s
  | 4 => (s.applyProfile (e.ident.toNat % 256)).wrB rPwrErr 1 true
  | 5 => s.setPeriod (clampPeriod (e.ident.toNat % 65536))
  | 6 => s.lateWindow (e.ident.toNat % 16) e.part e.beat
  | 9 => s.setDeadline e.group e.ident e.beat
  | _ => s

/-! ### Arrival (R363, R364) -/

/-- The event of an EVENT packet (R371). -/
def evOf (p : Pkt) : Ev :=
  { beat := pktWord p, kind := pktByte p 0, part := pktByte p 1
    ident := BitVec.ofNat 32 (p.body.toNat / 2 ^ 80 % 2 ^ 32), group := p.group.toNat, src := p.src.toNat }

/-- EVENT: scheduled, refused or carried out late; refusals and lateness are reported to the issuer in a STATUS. -/
def State.eventRow (s : State) (src : Option Nat) : State :=
  match s.takePkt src (fun p => p.kind = 4) with
  | none => s
  | some (p, s) =>
    let e := evOf p
    if BitVec.ofNat 32 (pktCrc p) ≠ p.ecrc then s.refuseSource src p eFabEcrc
    else if e.kind = 0 || 9 < e.kind then s.refuseSource src p eFabMalformed
    else if !s.disciplined then (if e.kind = 2 then s.lateEvent e else s.sendStatus p eSyncUnlocked)
    else if e.beat ≤ s.now then
      let s := ((s.incF rBeatErr 31 24 1).wrB rBeatErr 0 true).event uBeat 0 e.kind eSyncLate
      (s.lateEvent e).sendStatus p eSyncLate
    else
      let r := s.addEvent e
      if r.2 then (if e.kind = 9 then r.1.setDeadline e.group e.ident e.beat else r.1)
      else
        let s := s.wrB rBeatErr 2 true
        if e.kind = 2 then s.lateEvent e else s.sendStatus p eSyncEvtFull
def execEvent (src : Option Nat) (s : State) : Host.Outcome State Fault Refusal := .next (s.eventRow src)

/-! ### Events that are due -/

/-- An event that stays in the table past its beat: a deadline whose command has not started (R485). -/
def State.waiting (s : State) (e : Ev) : Bool :=
  e.kind = 9 && (s.collOp e.group e.ident.toNat).isNone && !s.coll.doneOps.contains (e.group, e.ident.toNat)
/-- The first event due, when it is of a kind; it leaves the table. The order of R365 holds: an event of another kind goes first. -/
def State.due (s : State) (kind : Nat) (f : State → Ev → State) : State :=
  match s.beat.events.find? (fun e => decide (e.beat ≤ s.now) && !s.waiting e) with
  | some e => if e.kind = kind then f (s.setEvents (s.beat.events.erase e)) e else s
  | none => s

def execSnapshot (s : State) : Host.Outcome State Fault Refusal := .next (s.due 1 (fun s e => s.takeSnapshot e.part e.ident e.beat false))
def execStop (s : State) : Host.Outcome State Fault Refusal := .next (s.due 2 (fun s e => (partsOf e.part).foldl State.stopPart s))
def execResume (s : State) : Host.Outcome State Fault Refusal :=
  .next (s.due 3 (fun s e => ((partsOf e.part).foldl State.resumePart s).releaseGated))
def execProfile (s : State) : Host.Outcome State Fault Refusal := .next (s.due 4 (fun s e => s.applyProfile (e.ident.toNat % 256)))
def execPeriod (s : State) : Host.Outcome State Fault Refusal := .next (s.due 5 (fun s e => s.setPeriod (clampPeriod (e.ident.toNat % 65536))))
def execCounterWindow (s : State) : Host.Outcome State Fault Refusal :=
  .next (s.due 6 (fun s e => s.openWindow (e.ident.toNat % 16) e.part e.beat))
/-- TEST_SLICE: an own event is for its wing, another module's for the tests of both. -/
def execTestSlice (s : State) : Host.Outcome State Fault Refusal :=
  .next (s.due 7 (fun s e =>
    if e.group = localGroup 0 then s.runSlice 0 else if e.group = localGroup 1 then s.runSlice 1 else (s.runSlice 0).runSlice 1))
def execCollDeadline (s : State) : Host.Outcome State Fault Refusal := .next (s.due 9 (fun s e => s.setDeadline e.group e.ident e.beat))

/-! ### Issue (R362, R371) -/

/-- A packet of an MCP, with its own count in DSEQ; the token that a STATUS names it by. -/
def State.mcpPkt (s : State) (kind dst group body : Nat) (data : List Byte) : State × Nat :=
  let q := tget (fun _ => 0) s.fab.dseq 2001
  let s := { s with fab := { s.fab with dseq := tput (fun _ => 0) s.fab.dseq 2001 ((q + 1) % 2 ^ 16) } }
  (s.sendPkt (s.mkPkt kind 3 0 dst 0 group tagMcp q body data), q)

/-- Send an event to members, each with the partition of its word, or 0xFF; what was sent is remembered for its STATUS. -/
def State.issueEvent (s : State) (ms : List (Nat × Nat)) (wide : Bool) (kind group : Nat) (n : W64) (ident : W32)
    (req : Option (Nat × W32) := none) : State :=
  let own := (ms.find? (fun m => m.1 = s.maddr)).map (·.2)
  ms.foldl (fun s m =>
    let part := if wide then 0xFF else m.2
    let r := s.mcpPkt 4 m.1 group (n.toNat + 2 ^ 64 * kind + 2 ^ 72 * part + 2 ^ 80 * ident.toNat) []
    let l := r.1.beat.issued ++ [{ token := r.2, kind, part := own, ident, beat := n, req }]
    { r.1 with beat := { r.1.beat with issued := l.drop (l.length - 256) } }) s

/-- The lead rule (R362): N, or the refusal. -/
def State.leadOk (s : State) (n : W64) : Bool := s.now.toNat + s.lead ≤ n.toNat
/-- Refuse for short lead. -/
def State.leadRefuse (s : State) : State := (s.wrB rBeatErr 1 true).event uBeat 0 0 eSyncLead

/-- Members of an entry in the newest bank; none for an empty one. -/
def State.entryMembers (s : State) (g : Nat) : List (Nat × Nat) :=
  if s.gtSeq s.gtNewest = 0 || 0xFFF < g then [] else s.gtMembers s.gtNewest g
/-- An entry that lists every module of the system. -/
def State.listsAll (s : State) (ms : List (Nat × Nat)) : Bool :=
  ms.length = s.dimSize 0 * s.dimSize 1 * s.dimSize 2 * s.dimSize 3 && ms.all (fun m => s.inArrangement m.1)

/-- Beats that an EVENT_REQ waits for the refusals of its members, in leads (notes/assumptions/32.md). -/
def askedLeads : Nat := 2

/-- Answer an EVENT_REQ: its beat N, and the first refusal of a member, if any (R372). -/
def State.answerEvent (s : State) (a : Asked) (code : W16) : State :=
  ({ s with beat := { s.beat with asked := s.beat.asked.erase a } } : State).respond a.req.1 0x0124 a.req.2 code (leBytes 8 a.beat.toNat)

/-- EVENT_REQ (R372): the answer waits for the members' refusals. -/
def execEventReq (m : Msg) (s : State) : Host.Outcome State Fault Refusal :=
  .next (s.serve m 0x0124 20 (hasRole [.operator, .tenant]) (fun s b =>
    let x := s.chan m.ch
    let kind := leAt b 0 1
    let part := leAt b 1 1
    let g := leAt b 2 2
    let ms := s.entryMembers g
    let n : W64 := if leAt b 8 8 = 0 then s.now + BitVec.ofNat 64 s.lead else BitVec.ofNat 64 (leAt b 8 8)
    if !([1, 2, 3, 5, 9] : List Nat).contains kind || leAt b 4 4 ≠ 0 || 0xFFE < g || ms.isEmpty || (if kind = 5 then part ≠ 0xFF else 7 < part)
        || (kind = 5 && !s.listsAll ms) then (s, refusal eHifMsgInvalid)
    else if x.role = .tenant && (kind = 5 || x.part ≠ part || !s.ownEntry x g) then (s, refusal eHifRoleDenied)
    else if !s.leadOk n then (s.leadRefuse, some (eSyncLead, leBytes 8 n.toNat))
    else
      let s := s.issueEvent ms (kind = 5) kind g n (BitVec.ofNat 32 (leAt b 16 4)) (some (m.ch, m.tag))
      let a : Asked := { req := (m.ch, m.tag), beat := n, until_ := s.now + BitVec.ofNat 64 (askedLeads * s.lead) }
      ({ s with beat := { s.beat with asked := s.beat.asked ++ [a] } }, none)))

/-- SNAPSHOT_READ (R374). -/
def execSnapshotRead (m : Msg) (s : State) : Host.Outcome State Fault Refusal :=
  .next (s.serve m 0x0126 12 (hasRole [.operator, .service, .tenant]) (fun s b =>
    let p := leAt b 0 1
    if !ownPart (s.chan m.ch) p then (s, refusal eHifRoleDenied)
    else match (s.beat.snaps.filter (fun n => n.part = p && n.id.toNat = leAt b 4 4)).getLast? with
    | none => (s, refusal eHifMsgInvalid)
    | some n =>
      if !n.complete then (s, refusal eHifNotReady)
      else
        let d := (n.bytes.drop (leAt b 8 4)).take 992
        (s, some (0, leBytes 4 d.length ++ zeros 12 ++ d))))

/-! ### Messages between MCPs (R372, R417) -/

/-- Layouts of the model (notes/assumptions/32.md): type in byte 0. 1: a reset asked for (partition or 0xFF, address, round); 2: its
result (token and code); 3: a SITE_POWER_N report; 4: the length and place of a counter window. -/
def mgmtReset (part a r0 : Nat) : List Byte := leBytes 1 1 ++ leBytes 1 part ++ zeros 6 ++ leBytes 8 a ++ leBytes 2 r0
def mgmtResult (token : Nat) (code : W16) : List Byte := leBytes 1 2 ++ zeros 1 ++ leBytes 2 token ++ leBytes 2 code.toNat
def mgmtSite (asserted : Bool) : List Byte := leBytes 1 3 ++ leBytes 1 (if asserted then 1 else 0)
def mgmtWindow (slot len dest : Nat) : List Byte := leBytes 1 4 ++ leBytes 1 slot ++ zeros 2 ++ leBytes 4 len ++ leBytes 8 dest

/-- Answer a BARRIER_RESET that waited for another module. -/
def State.answerReset (s : State) (token : Nat) (code : W16) : State :=
  match s.fab.resets.find? (fun r => r.1 = token) with
  | some r => ({ s with fab := { s.fab with resets := s.fab.resets.erase r } } : State).respond r.2.1 0x0125 r.2.2 code []
  | none => s

/-- BARRIER_RESET (R372): at a counter here, or by a message to the MCP of the module that holds it. -/
def execBarrierReset (m : Msg) (s : State) : Host.Outcome State Fault Refusal :=
  .next (s.serve m 0x0125 10 (hasRole [.operator, .tenant]) (fun s b =>
    let x := s.chan m.ch
    let a := leAt b 0 8
    let r0 := leAt b 8 2
    let part := if x.role = .tenant then some x.part else none
    if isRemote a && remoteMod a ≠ s.maddr then
      match part.bind (fun p => if (s.gtFor p (remoteMod a)).isNone then some p else none) with
      | some _ => (s, refusal eHifMsgInvalid)
      | none =>
        let dst := remoteMod a
        -- the partition of the session at the other module, by the lowest entry that lists both
        let there := match part with
          | some p => ((s.gtFor p dst).bind (fun g => (s.entryMembers g).find? (fun (y : Nat × Nat) => y.1 = dst))).map (fun (y : Nat × Nat) => y.2)
          | none => some 0xFF
        if s.route dst 0 = .none then (s, refusal eFabUnreachable)
        else
          let r := s.mcpPkt 5 dst 0xFFF 0 (mgmtReset (there.getD 0xFF) (remoteLocal a) r0)
          ({ r.1 with fab := { r.1.fab with resets := r.1.fab.resets ++ [(r.2, m.ch, m.tag)] } }, none)
    else match s.startReset (if isRemote a then remoteLocal a else a) r0 part with
    | some t => (t, some (0, []))
    | none => (s, refusal eHifMsgInvalid)))

/-- CNT_WINDOW (R645): slot, PART, GROUP in bytes 0 to 3, LEN in 4 to 7, the beat in 8 to 15, DEST in 16 to 23
(notes/assumptions/36.md). The other members learn LEN and DEST from a message of their own. -/
def execCntWindow (m : Msg) (s : State) : Host.Outcome State Fault Refusal :=
  .next (s.serve m 0x0141 24 (hasRole [.operator, .tenant]) (fun s b =>
    let x := s.chan m.ch
    let slot := leAt b 0 1
    let part := leAt b 1 1
    let g := leAt b 2 2
    let len := leAt b 4 4
    let dest := leAt b 16 8
    let ms := s.entryMembers g
    let n : W64 := if leAt b 8 8 = 0 then s.now + BitVec.ofNat 64 s.lead else BitVec.ofNat 64 (leAt b 8 8)
    let own := decide ((s.part part).gtBase ≤ g ∧ g < (s.part part).gtBase + (s.part part).gtCount)
    if 15 < slot || (7 < part && part ≠ 0xFF) || 0xFFE < g || ms.isEmpty || len = 0 || (part < 8 && (!own || dest % 8 ≠ 0
        || (s.partRange part dest 256).isNone)) then (s, refusal eHifMsgInvalid)
    else if x.role = .tenant && part ≠ x.part then (s, refusal eHifRoleDenied)
    else if !s.leadOk n then (s.leadRefuse, some (eSyncLead, leBytes 8 n.toNat))
    else
      let s := s.setWin slot { s.win slot with len, dest := BitVec.ofNat 64 dest }
      let s := ms.foldl (fun s y => if y.1 = s.maddr then s else (s.mcpPkt 5 y.1 0xFFF 0 (mgmtWindow slot len dest)).1) s
      (s.issueEvent ms (part = 0xFF) 6 g n (BitVec.ofNat 32 slot), some (0, leBytes 8 n.toNat))))

end Sys2Proof.Machine
end

