-- ==== Sys2Proof/Machine/Link.lean ====
section
/-! DEFINITION. Port and link states (R431, R443, R444, R450), frames sent (R415, R422 to R426) and frames received (R427, R449, R673). -/

namespace Sys2Proof.Machine

/-! ### States -/

/-- A port's new state, traced (R643). -/
def State.setPortState (s : State) (p st : Nat) : State :=
  (s.wrF (rFabPort p) 31 29 st).traceModule 0x12 uPort p (p + 2 ^ 8 * st)

/-- Every frame not covered by an ACK is to be resent. -/
def Port.resendAll (x : Port) : Port := { x with resend := x.replay.length }

/-- PKT flits of a frame. -/
def framePkts (f : Frame) : List Pkt := f.flits.filterMap (fun x =>
  match x with
  | .pkt p => some p
  | _ => none)
/-- A frame holds data flits of a packet that an earlier frame began. -/
def frameTail (f : Frame) : Bool :=
  (f.flits.foldl (fun (a : Bool × Bool) x =>
    match x with
    | .pkt _ => (true, a.2)
    | .data _ => (a.1, a.2 || !a.1)
    | _ => a) (false, false)).2

/-- The packets in a port's replay buffer and egress queue (R443). -/
def Port.discards (x : Port) : List Pkt :=
  let head := if x.replay.head?.any frameTail || (x.txOpen.isSome && (x.replay.flatMap framePkts).isEmpty) then x.acked.toList else []
  head ++ x.replay.flatMap framePkts ++ x.egress.map (·.2)

/-- A link stops carrying packets (R443, R444, R450): each packet it holds is discarded with FAB_LINK_DOWN, and what depends on its routes
follows. -/
def State.linkLost (s : State) (p : Nat) : State :=
  let x := s.port p
  let s := s.setPort p { x with linkUp := false, replay := [], resend := 0, egress := [], openP := none, txOpen := none, acked := none
                                offer := none }
  let s := x.discards.foldl (fun s k => (s.rememberDrop k).sendStatus k eFabLinkDown) s
  s.routesChanged.upstreamLost p

/-- A link goes DOWN. -/
def State.linkDown (s : State) (p : Nat) : State := (s.setPortState p 0).linkLost p

def State.cartState (s : State) (c : Nat) : Nat := s.rdF (rOptCart c) 31 30
/-- The cartridge that feeds a half. -/
def State.activeCart (s : State) (h : Nat) : Option Nat :=
  [1, 2, 3].find? (fun c => decide (s.cartState c = 0) && decide (s.rdF (rOptCart c) 29 28 = h))
/-- A port whose half a cartridge feeds: the others are down until one is replaced (R35). -/
def State.fed (s : State) (p : Nat) : Bool := (s.activeCart (wingOfPort p)).isSome
/-- The state of a port that is to train: TRAIN, or DOWN without light (R35, R432). -/
def State.trainOr0 (s : State) (p : Nat) : Nat := if s.fed p then 1 else 0

/-- A retrain (R428, R453). -/
def State.retrain (s : State) (p : Nat) : State :=
  let s := s.incF (rFabPcnt p) 15 8 1
  (s.setPort p { s.port p with nakRun := 0 }).setPortState p (s.trainOr0 p)

/-- A link violation (R450). -/
def State.viol (s : State) (p : Nat) : State :=
  let s := s.incF (rFabPort p) 22 18 1
  if max 1 (s.rdF rFabCfg 31 27) ≤ s.rdF (rFabPort p) 22 18 && s.portState p = 2 then
    let s := (s.setPortState p 4).linkLost p
    (s.setPort p { s.port p with lcmd := 2, wcmd := none }).event uPort 0 p eFabQuarantine
  else s

/-! ### Sending (R415, R422 to R426) -/

/-- Credits of each pool (R421): VC0, VC1, VC2, VC3, DT. -/
def poolCap : List Nat := [2048, 1536, 192, 128, 192]
/-- The credits that a pool still holds (R422). -/
def Port.credits (x : Port) (i : Nat) : Nat :=
  poolCap.getD i 0 - (x.sent.getD i 0 + 65536 - x.freed.getD i 0 % 65536) % 65536
def pktCost (p : Pkt) : Nat := p.len.toNat + 1
/-- A packet of a stopped partition of this module (R370). -/
def State.heldBack (s : State) (e : Bool × Pkt) : Bool := e.1 && e.2.kind.toNat ≤ 2 && (s.part e.2.spart.toNat).stopped

/-- The packet at the head of a VC, when it has its credits: its place in the egress queue and its cost. -/
def State.headOf (s : State) (x : Port) (vc : Nat) : Option (Nat × Nat) :=
  match x.egress.findIdx? (fun e => e.2.vc.toNat = vc && !s.heldBack e) with
  | none => none
  | some i =>
    match x.egress[i]? with
    | none => none
    | some e => if pktCost e.2 ≤ x.credits (pktPool e.2) then some (i, pktCost e.2) else none
/-- A VC's head waits for credits. -/
def State.starved (s : State) (x : Port) : Bool :=
  [0, 1, 2, 3].any (fun vc => x.egress.any (fun e => e.2.vc.toNat = vc && !s.heldBack e) && (s.headOf x vc).isNone)

/-- Deficit round robin of VC0 and VC1 with a quantum of 65 flits: whose turn, the deficits, and the packet (R423; the quantum is the
model's, notes/assumptions/35.md). -/
def drrPick (c0 c1 : Option (Nat × Nat)) (d : Nat × Nat × Nat) : Option (Nat × (Nat × Nat × Nat)) :=
  let head (t : Nat) : Option (Nat × Nat) := if t = 0 then c0 else c1
  let have_ (t : Nat) : Nat := if t = 0 then d.2.1 else d.2.2
  let put (t a b : Nat) : Nat × Nat × Nat := if t = 0 then (0, a, b) else (1, b, a)
  let t := d.1
  let u := 1 - t
  match head t, head u with
  | some x, y =>
    if x.2 ≤ have_ t then some (x.1, put t (have_ t - x.2) (have_ u))
    else match y with
    | some z => some (z.1, put u (have_ u + 65 - z.2) (have_ t))
    | none => some (x.1, put t (have_ t + 65 - x.2) 0)
  | none, some z => some (z.1, put u (have_ u + 65 - z.2) 0)
  | none, none => none

/-- The next packet to send and the round robin after it: VC3, VC2, then VC0 and VC1. -/
def State.pickPkt (s : State) (x : Port) : Option (Nat × (Nat × Nat × Nat)) :=
  if !s.rdB rFabId 31 then none
  else match s.headOf x 3 with
  | some h => some (h.1, x.drr)
  | none =>
    match s.headOf x 2 with
    | some h => some (h.1, x.drr)
    | none => drrPick (s.headOf x 0) (s.headOf x 1) x.drr

/-- One slot: a data flit of the open packet, a PKT flit stamped with the beat (R366), or IDLE. `pkts` and `bytes` collect what leaves. -/
def State.nextFlit (s : State) (x : Port) : Port × Flit × Option Pkt :=
  match x.txOpen with
  | some (p, n) =>
    let i := p.len.toNat - n
    ({ x with txOpen := if n ≤ 1 then none else some (p, n - 1) }, .data ((p.data.drop (64 * i)).take 64), none)
  | none =>
    match s.pickPkt x with
    | none => (x, .idle, none)
    | some (i, drr) =>
      match x.egress[i]? with
      | none => (x, .idle, none)
      | some (own, p) =>
        let p := if own then pktSeal { p with sendBeat := s.now } else p
        ({ x with egress := x.egress.eraseIdx i, drr, sent := x.sent.set (pktPool p) ((x.sent.getD (pktPool p) 0 + pktCost p) % 65536)
                  txOpen := if p.len = 0 then none else some (p, p.len.toNat) }, .pkt p, some p)
/-- n slots. -/
def State.fillSlots (s : State) : Nat → Port → Port × List Flit × List Pkt
  | 0, x => (x, [], [])
  | n + 1, x =>
    let a := s.nextFlit x
    let b := s.fillSlots n a.1
    (b.1, a.2.1 :: b.2.1, a.2.2.toList ++ b.2.2)

/-- The CTRL flit of a port (R425). -/
def Port.ctrl (x : Port) : Ctrl :=
  { nak := x.nak, ackv := true, ack := BitVec.ofNat 12 (x.rxSeq + 4095), nakseq := if x.nak then BitVec.ofNat 12 x.rxSeq else 0
    cred := x.myFreed.map (BitVec.ofNat 16), wcmd := BitVec.ofNat 4 ((x.wcmd.map (·.1)).getD 0)
    wold := BitVec.ofNat 3 ((x.wcmd.map (·.2.1)).getD 0), wnew := BitVec.ofNat 3 ((x.wcmd.map (·.2.2)).getD 0)
    lcmd := BitVec.ofNat 8 x.lcmd }
/-- After its CTRL flit: WCMD 2 follows WCMD 1 at the end that detected the fault (R440). -/
def Port.ctrlSent (x : Port) : Port :=
  let w := match x.wcmd with
    | some (1, o, n) => some (2, o, n)
    | _ => none
  { x with wcmd := w, lcmd := 0, sinceCtrl := 0 }

/-- A timing flit leaves; a MARKER carries the counter at that instant (R430). -/
def State.stampTiming (s : State) (f : Nat × W64 × W64) : Nat × W64 × W64 :=
  if f.1 % 256 = 2 then (f.1, s.now, s.beat.phase.setWidth 64) else f

/-- FRAME_SEND: the next frame of a port, resent or new. A quarantined port sends CTRL and IDENT flits only (R450). -/
def State.frameSend (s : State) (p : Nat) : State :=
  let st := s.portState p
  if st ≠ 2 && st ≠ 4 then s
  else
    let x := s.port p
    let x := if x.resend = 0 && 128 ≤ x.replay.length then x.resendAll else x
    match (if x.resend = 0 then none else x.replay[x.replay.length - x.resend]?) with
    | some f =>
      let f := { f with rpl := true }
      let s := s.setPort p { x with resend := x.resend - 1, line := some (f, none) }
      (s.incF (rFabPcnt p) 31 16 1).countBlock (0x10000 + 64 * p + 40) 1
    | none =>
      let tim := if st = 2 then x.timingOut.head?.map s.stampTiming else none
      let x := if tim.isSome then { x with timingOut := x.timingOut.tail } else x
      let ctl := 3 ≤ x.sinceCtrl || x.nak || x.wcmd.isSome || x.lcmd ≠ 0
      let first := (if tim.isSome then [Flit.timing] else []) ++ (if ctl then [Flit.ctrl x.ctrl] else [])
      let x := if ctl then x.ctrlSent else { x with sinceCtrl := x.sinceCtrl + 1 }
      let starved := st = 2 && s.starved x
      let r := if st = 2 then s.fillSlots (40 - first.length) x else (x, List.replicate (40 - first.length) Flit.idle, [])
      let f : Frame := { fseq := BitVec.ofNat 12 x.txSeq, rpl := false, flits := first ++ r.2.1 }
      let s := s.setPort p { r.1 with txSeq := (x.txSeq + 1) % 4096, replay := r.1.replay ++ [f], line := some (f, tim) }
      let s := (s.countBlock (0x10000 + 64 * p) ((r.2.2.map pktBytes).foldl (· + ·) 0)).countBlock (0x10000 + 64 * p + 16) r.2.2.length
      -- cycles for which a packet waited for credits: at most the frame's 41 (notes/assumptions/19.md)
      if starved then (s.countBlock (0x10000 + 64 * p + 48) ((s.free 0).toNat % 42)).bump else s

def execFrameSend (port : Nat) (s : State) : Host.Outcome State Fault Refusal := .next (s.frameSend port)

/-! ### Receiving: CTRL flits -/

/-- An ACK covers frames (R426): the last packet whose PKT flit it covers is remembered. -/
def Port.ackFrames (x : Port) (n : Nat) : Port :=
  if n = 0 then x
  else
    let gone := (x.replay.take n).flatMap framePkts
    { x with replay := x.replay.drop n, resend := min x.resend (x.replay.length - n), nakRun := 0
             acked := match gone.getLast? with
               | some p => some p
               | none => x.acked }

/-- Mark a wavelength failed, with no idle one left (R440). -/
def State.badWave (s : State) (p wave : Nat) : State := (s.wrB (rOptWave p) (24 + wave) true).wrF (rOptWave p) 31 29 7

/-- A CTRL flit. -/
def State.ctrlFlit (s : State) (p : Nat) (c : Ctrl) : State :=
  let x := s.port p
  let n := x.replay.length
  -- frames sent after the one that ACK names; frames from the one that NAKSEQ names
  let a := (x.txSeq + 8191 - c.ack.toNat) % 4096
  let covered := if c.ackv then n - a else 0
  let e := (x.txSeq + 4096 - c.nakseq.toNat) % 4096
  if 2 < c.wcmd.toNat || 2 < c.lcmd.toNat then s.viol p
  else if (c.ackv && 2048 ≤ a) || (c.nak && (e = 0 || n - covered < e)) then
    let s := s.viol p
    if s.portState p = 2 then s.retrain p else s
  else
    let x := x.ackFrames covered
    let x := { x with freed := c.cred.map (·.toNat) }
    let x := if c.nak then
        { x with resend := e, nakSeq := c.nakseq.toNat, nakRun := if x.nakRun ≠ 0 && x.nakSeq = c.nakseq.toNat then x.nakRun + 1 else 1 }
      else x
    let x := if c.wcmd.toNat = 2 then x.resendAll else x
    let s := s.setPort p x
    let s := if c.wcmd.toNat = 1 then s.badWave p c.wold.toNat
      else if c.wcmd.toNat = 2 then s.event uPort 0 p eFabTakeover else s
    if s.portState p = 2 && (8 ≤ x.nakRun || c.lcmd.toNat = 1) then s.retrain p else s

/-! ### Receiving: packets -/

/-- A reserved KIND, field or value, or a LEN or VC that its KIND does not have (R416, R417, R449). -/
def pktMalformed (p : Pkt) : Bool :=
  let k := p.kind.toNat
  let b := p.body.toNat
  let vcOk := if k ≤ 1 then p.vc.toNat ≤ 1 else if k = 2 then p.vc.toNat = 2 else p.vc.toNat = 3
  let lenOk := if k = 0 || k = 5 then 1 ≤ p.len.toNat && p.len.toNat ≤ 64 else p.len.toNat = 0
  let op := b / 2 ^ 64 % 256
  let bodyOk := if k = 0 || k = 5 then b = 0 else if k = 1 then b < 2 ^ 64
    else if k = 2 then op ≤ 4 && b % 2 ^ 64 < 2 ^ 16 && b < 2 ^ 80 && (op = 4 || b / 2 ^ 72 = 0)
    else if k = 3 then b / 2 ^ 48 % 2 ^ 16 = 0
    else 1 ≤ op && op ≤ 9 && b < 2 ^ 112
  p.rsvSet || 5 < k || p.dtr.toNat = 3 || 63 < p.lastb.toNat || 2 ^ 48 ≤ p.daddr.toNat || !vcOk || !lenOk || !bodyOk

/-- A packet breaks the order of dimensions on its arrival link, or has taken too many hops (R446, R449). -/
def State.misrouted (s : State) (port : Nat) (p : Pkt) : Bool :=
  let dst := p.dst.toNat
  let off := match s.portLink port with
    | some l =>
      let d := s.rdF (rFabLink l) 15 14
      s.rdF (rFabLink l) 31 30 = 1
        && ((List.range d).any (fun e => coord dst e ≠ coord s.maddr e) || (coord dst d ≠ coord s.maddr d && p.dtr.toNat ≠ 1))
    | none => false
  off || 5 < p.hopc.toNat

/-- The flits of a packet that takes no room are freed at once. -/
def State.freeAtOnce (s : State) (port : Nat) (p : Pkt) : State :=
  let x := s.port port
  s.setPort port { x with myFreed := x.myFreed.set (pktPool p) ((x.myFreed.getD (pktPool p) 0 + pktCost p) % 65536) }

/-- A dropped packet that counts toward quarantine. -/
def State.dropLink (s : State) (port : Nat) (p : Pkt) (code : W16) : State :=
  (((s.freeAtOnce port p).refusePkt (some port) p code)).viol port

/-- Forward a packet; what it drops is remembered, and a LATCH_ADD does not pass data that was dropped (R448). -/
def State.passOn (s : State) (port : Nat) (p : Pkt) : State :=
  if p.kind = 1 && s.isStale p then s.staleAdd (some port) p
  else
    let t := (s.crossOut { part := none, wing := wingOfPort port } p).forwardPkt p
    if s.route p.dst.toNat p.dtr.toNat = .none then t.rememberDrop p else t

/-- A whole packet has arrived: the checks of every receiving module (R673, step 1), then ingress or the next hop. -/
def State.arrivePkt (s : State) (port : Nat) (p : Pkt) : State :=
  if s.portState port = 4 || !s.rdB rFabId 31 then
    ((s.freeAtOnce port p).rememberDrop p).countDrop (some port)
  else if pktMalformed p then s.dropLink port p eFabMalformed
  else
    let x := s.port port
    if poolCap.getD (pktPool p) 0 < x.held.getD (pktPool p) 0 + pktCost p then
      let t := s.dropLink port p eFabCredit
      t.setPort port { t.port port with sinceCtrl := 3 }
    else if s.misrouted port p then s.dropLink port p eFabMisroute
    else if !s.inArrangement p.dst.toNat then (s.freeAtOnce port p).refuseSource (some port) p eFabUnreachable
    else
      let n := pktBytes p
      let s := (s.countBlock (0x10000 + 64 * port + 8) n).countBlock (0x10000 + 64 * port + 24) 1
      if s.route p.dst.toNat p.dtr.toNat = .here then
        let x := s.port port
        (s.setPort port { x with ingress := x.ingress ++ [p], held := addAt x.held (pktPool p) (pktCost p) }).logChannel port p
      else (((s.freeAtOnce port p).countBlock (0x10000 + 64 * port + 32) n)).passOn port p

/-! ### Receiving: frames -/

/-- A data flit with no open packet, or a PKT flit inside one (R449); `n` data flits of the open packet are still to come. -/
def disordered : Nat → List Flit → Bool
  | _, [] => false
  | n, .pkt p :: l => n ≠ 0 || disordered p.len.toNat l
  | n, .data _ :: l => n = 0 || disordered (n - 1) l
  | n, _ :: l => disordered n l

/-- Drop a port's open packet for a fault in the flit stream (R449). -/
def State.dropOpen (s : State) (port : Nat) : State :=
  let x := s.port port
  match x.openP with
  | some (q, _) => ((s.setPort port { x with openP := none }).freeAtOnce port q).refusePkt (some port) q eFabMalformed
  | none => s

/-- One flit of an accepted frame, in slot i. A PKT flit inside a packet, and a data flit outside one, come from a resend that repeats the
fault: the open packet is dropped, and flits up to the next PKT flit. So is the packet in which a reserved flit stands. -/
def State.flit (s : State) (port i : Nat) (f : Flit) : State :=
  let x := s.port port
  match f with
  | .idle => s
  | .ident => s
  | .ctrl c => s.ctrlFlit port c
  | .timing => if i = 0 then s else s.viol port
  | .reserved => (s.dropOpen port).viol port
  | .pkt p =>
    let s := s.dropOpen port
    if p.len = 0 then s.arrivePkt port { p with data := [] }
    else s.setPort port { s.port port with openP := some ({ p with data := [] }, p.len.toNat) }
  | .data b =>
    match x.openP with
    | none => s
    | some (p, n) =>
      let last := if p.lastb = 0 then 64 else p.lastb.toNat
      let p := { p with data := p.data ++ b.take (if n ≤ 1 then last else 64) }
      if n ≤ 1 then (s.setPort port { x with openP := none }).arrivePkt port p
      else s.setPort port { x with openP := some (p, n - 1) }

/-- FRAME_RECEIVE (R427). The symbols that the FEC corrected are not among the operands: a free count, at most 15 in each of four codewords
(R410, R458). -/
def State.frameReceive (s : State) (port : Nat) (f : Frame) (ok : Bool) : State :=
  let st := s.portState port
  if st ≠ 2 && st ≠ 4 then s
  else
    let s := if ok then (s.incF (rOptWave port) 15 0 ((s.free 0).toNat % 61)).bump else s
    let x := s.port port
    let back := (x.rxSeq + 4096 - f.fseq.toNat) % 4096
    if ok && 1 ≤ back && back ≤ 128 then s
    else if !ok || back ≠ 0 then s.setPort port { x with nak := true }
    else
      let bad := disordered ((x.openP.map (·.2)).getD 0) f.flits
      if bad && !x.faulted then (s.setPort port { x with nak := true, faulted := true }).viol port
      else
        let s := s.setPort port { x with rxSeq := (x.rxSeq + 1) % 4096, nak := false, faulted := false }
        let s := if bad then s.viol port else s
        (f.flits.zipIdx).foldl (fun s (y : Flit × Nat) => s.flit port y.2 y.1) s

def execFrameReceive (port : Nat) (f : Frame) (ok : Bool) (s : State) : Host.Outcome State Fault Refusal :=
  .next (s.frameReceive port f ok)

/-- PACKET_AGED (R445): the n-th packet of the port's ingress and then its egress. -/
def State.packetAged (s : State) (port n : Nat) : State :=
  let x := s.port port
  match x.ingress[n]? with
  | some p => ((s.setPort port { x with ingress := x.ingress.eraseIdx n }).freeFlits port p).refusePkt (some port) p eFabAged
  | none =>
    match x.egress[n - x.ingress.length]? with
    | some (_, p) =>
      ((s.setPort port { x with egress := x.egress.eraseIdx (n - x.ingress.length) }).rememberDrop p).sendStatus p eFabAged
    | none => s
def execPacketAged (port n : Nat) (s : State) : Host.Outcome State Fault Refusal := .next (s.packetAged port n)

/-- VIOL_LEAK (R450). -/
def execViolLeak (port : Nat) (s : State) : Host.Outcome State Fault Refusal :=
  .next (s.wrF (rFabPort port) 22 18 (s.rdF (rFabPort port) 22 18 - 1))

/-- A read of FAB_PCNT_p clears it (R453). -/
def execFabPcntRead (port : Nat) (s : State) : Host.Outcome State Fault Refusal :=
  .next ((s.wr (rFabPcnt port) 0).answer (leBytes 4 (s.rd (rFabPcnt port)).toNat))
/-- A read of OPT_WAVE_p clears SYMERR (R458). -/
def execOptWaveRead (port : Nat) (s : State) : Host.Outcome State Fault Refusal :=
  .next ((s.wrF (rOptWave port) 15 0 0).answer (leBytes 4 (s.rd (rOptWave port)).toNat))

end Sys2Proof.Machine
end

