-- ==== Sys2Proof/Machine/Fabric.lean ====
section
/-! DEFINITION. Training and retraining (R428, R432, R433), spare takeovers (R440 to R442), laser cartridges (R405 to R409, R457), planned
swaps (R573, R574), margin scans (R435), STATUS packets (R447) and the fabric settings (R446, R456). -/

namespace Sys2Proof.Machine

/-! ### Training -/

/-- ACK_TIMEOUT (R428): frames are outstanding. -/
def execAckTimeout (port : Nat) (s : State) : Host.Outcome State Fault Refusal :=
  .next (if s.portState port = 2 && !(s.port port).replay.isEmpty then s.retrain port else s)

/-- LANE_LOCK_LOSS (R407). A quarantined port stays so (R450). -/
def execLaneLockLoss (port : Nat) (s : State) : Host.Outcome State Fault Refusal :=
  .next (if s.portState port = 2 then s.setPortState port 3 else s)
/-- LOCK_REGAINED (R407). -/
def execLockRegained (port : Nat) (s : State) : Host.Outcome State Fault Refusal :=
  .next (if s.portState port = 3 then (s.setPort port (s.port port).resendAll).setPortState port 2 else s)
/-- RELOCK_EXPIRY (R407). -/
def execRelockExpiry (port : Nat) (s : State) : Host.Outcome State Fault Refusal :=
  .next (if s.portState port = 3 then s.linkDown port else s)
/-- LIGHT_STOP (R660). -/
def execLightStop (port : Nat) (s : State) : Host.Outcome State Fault Refusal :=
  .next (if s.portState port = 0 then s.setPort port { s.port port with light := false } else s)
/-- RETRAIN_TIMEOUT (R428). -/
def execRetrainTimeout (port : Nat) (s : State) : Host.Outcome State Fault Refusal :=
  .next (if s.portState port = 1 then s.setPortState port 5 else s)

/-- LINK_TRAIN (R432): a port that serves a link in use, and has none, and that a cartridge feeds (R35). -/
def execLinkTrain (port : Nat) (s : State) : Host.Outcome State Fault Refusal :=
  let used := (s.portLink port).any (fun l => decide (s.rdF (rFabLink l) 31 30 ≠ 0))
  .next (if used && s.fed port && (s.portState port = 0 || s.portState port = 6) then
      (s.setPort port { s.port port with light := true }).setPortState port 1
    else s)

/-- A link that starts anew: sequences and credit pools (R421, R432). What still waits in the ingress counts as not yet freed. -/
def Port.fresh (x : Port) : Port :=
  { x with txSeq := 0, rxSeq := 0, replay := [], resend := 0, nak := false, nakRun := 0, sinceCtrl := 0, faulted := false
           sent := [0, 0, 0, 0, 0], freed := [0, 0, 0, 0, 0], myFreed := x.held.map (fun n => (65536 - n) % 65536) }

/-- TRAINING_COMPLETE (R428, R432, R433). -/
def State.trainingComplete (s : State) (p peer role dim idle : Nat) : State :=
  match s.portLink p with
  | none => s
  | some l =>
    if s.portState p ≠ 1 || !s.fed p then s
    else
      let r := rFabLink l
      let x := s.port p
      if s.rdF r 29 16 ≠ peer || s.rdF r 31 30 ≠ role || (role = 1 && s.rdF r 15 14 ≠ dim) then
        let t := s.setPortState p 6
        (if x.linkUp then t.linkLost p else t).event uPort 0 p eFabMiswire
      else
        let s := if s.maddr < peer && idle ≠ s.rdF (rOptWave p) 31 29 then s.wrF (rOptWave p) 31 29 idle else s
        let x := if x.linkUp then x.resendAll else x.fresh
        ((s.setPort p { x with linkUp := true, stored := true, light := true, measured := none }).setPortState p 2).routesChanged

def execTrainingComplete (port : Nat) (peer : BitVec 14) (role dim : BitVec 2) (idle : BitVec 3) (_pport : BitVec 8) (s : State) :
    Host.Outcome State Fault Refusal :=
  .next (s.trainingComplete port peer.toNat role.toNat dim.toNat idle.toNat)

/-- RETRAIN: a write of FAB_PORT_p.RETRAIN. A port without a link, and a quarantined one, do not retrain. -/
def execRetrain (port : Nat) (s : State) : Host.Outcome State Fault Refusal :=
  let st := s.portState port
  .next (if (s.portLink port).isSome && st ≠ 4 && st ≠ 5 && st ≠ 7 then s.retrain port else s)
/-- UNQ: a write of FAB_PORT_p.UNQ (R450). -/
def execUnq (port : Nat) (s : State) : Host.Outcome State Fault Refusal :=
  .next (if s.portState port = 4 then s.retrain port else s)

/-! ### Port takeover (R441, R442) -/

/-- The port fails; its link moves to the engine's spare port with its replay buffer and sequences, and trains there. With the spare in use the
link goes DOWN. -/
def State.portTakeover (s : State) (p : Nat) : State :=
  let s := if s.portState p = 5 then s else s.setPortState p 5
  match s.portLink p with
  | none => s
  | some l =>
    let sp := 13 * (p / 13) + 12
    if sp ≠ p && s.portState sp = 7 then
      let x := s.port p
      let s := (s.setPort sp { x with offer := none, dreq := none, nakRun := 0 }).setPort p {}
      let s := (s.wrF (rFabLink l) 5 0 sp).wrF (rFabPort p) 28 23 0x3F
      let s := (s.wrF (rFabPort sp) 28 23 l).wrF (rOptWave sp) 31 24 (s.rdF (rOptWave p) 31 24)
      let s := (s.setPortState sp (s.trainOr0 p)).upstreamLost p
      (s.spareUsed uPort p).event uPort 0 sp eFabTakeover
    else
      let s := (s.event uPort 3 p eFabSpareExhausted).noSpare uPort p
      if (s.port p).linkUp then s.linkLost p else s

def execPortTakeover (port : Nat) (s : State) : Host.Outcome State Fault Refusal := .next (s.portTakeover port)
/-- FAB_PORT_FAIL: a write of FAB_PORT_p.FAIL (R453). -/
def execFabPortFail (port : Nat) (s : State) : Host.Outcome State Fault Refusal := .next (s.portTakeover port)

/-! ### Wavelengths (R403, R440) -/

def State.idleWave (s : State) (p : Nat) : Nat := s.rdF (rOptWave p) 31 29
/-- The carried wavelengths of a port: lanes 0 to 3 in ascending order. -/
def State.carried (s : State) (p : Nat) : List Nat :=
  (List.range 5).filter (fun k => decide (k ≠ s.idleWave p) && !s.rdB (rOptWave p) (24 + k))

/-- The link moves from a wavelength to its idle one: WCMD 1 and then WCMD 2 go to the partner. -/
def State.moveWave (s : State) (p wave : Nat) : State :=
  let x := s.port p
  let s := (s.setPort p { x with wcmd := some (1, wave, s.idleWave p) }).badWave p wave
  (s.spareUsed uPort p).event uPort 0 p eFabTakeover
/-- WAVELENGTH_TAKEOVER (R440): with no idle wavelength left, as a port failure. -/
def execWavelengthTakeover (port lane : Nat) (s : State) : Host.Outcome State Fault Refusal :=
  .next (if s.portState port ≠ 2 && s.portState port ≠ 3 then s
    else match (s.carried port)[lane]? with
    | none => s
    | some w => if s.idleWave port = 7 then s.portTakeover port else s.moveWave port w)

/-! ### Laser cartridges (R405 to R409) -/

/-- A cartridge's state, the half it serves (2 for none) and its lamp (R457, R661). -/
def State.setCart (s : State) (c st half lamp : Nat) : State :=
  ((s.wrF (rOptCart c) 31 30 st).wrF (rOptCart c) 29 28 half).setBay c { s.bay c with lamp }
/-- A cartridge that can take a half over: cartridge 3, or the half's own. -/
def State.standbyCart (s : State) (h : Nat) : Option Nat := [3, h + 1].find? (fun c => decide (s.cartState c = 1))
def halfPorts (h : Nat) : List Nat := span (26 * h) 26

/-- Switch a half to a cartridge (R406): its ports resend from the oldest unacknowledged frame. -/
def State.switchCart (s : State) (c h : Nat) : State :=
  let s := s.setCart c 0 h 0
  let s := (halfPorts h).foldl (fun s p => if s.portState p = 2 then s.setPort p (s.port p).resendAll else s) s
  let s := s.event uCart 0 c eFabTakeover
  if c = 3 then s.spareUsed uCart c else s
/-- The links of a half go DOWN (R409). -/
def State.halfDown (s : State) (h : Nat) : State :=
  (halfPorts h).foldl (fun s p =>
    if (s.portLink p).isSome && (s.portState p = 1 || s.portState p = 2 || s.portState p = 3) then s.linkDown p else s) s

/-- A half that a cartridge no longer feeds: a standby takes it, or its links go DOWN. -/
def State.feedHalf (s : State) (c h : Nat) : State :=
  match s.standbyCart h with
  | some n => s.switchCart n h
  | none => (s.noSpare uCart c).halfDown h

/-- CARTRIDGE_FAULT (R406, R409, R656). -/
def State.cartFault (s : State) (c : Nat) : State :=
  let st := s.cartState c
  let h := s.rdF (rOptCart c) 29 28
  if 2 ≤ st then s
  else
    let s := s.setCart c 2 2 3
    let s := { s with pwr := { s.pwr with alert := s.pwr.alert ||| 4 } }
    if st = 0 then s.feedHalf c h else s
def execCartridgeFault (c : Nat) (s : State) : Host.Outcome State Fault Refusal := .next (s.cartFault c)

/-- A planned switch: the half's cartridge becomes STANDBY and the other one feeds the half. `lamp` is the lamp of the first. -/
def State.exchange (s : State) (frm c h lamp : Nat) : State := (s.setCart frm 1 2 lamp).switchCart c h

/-- OPT_CART_SWAP: a write of OPT_CART_c.SWAP (R457). -/
def execOptCartSwap (c : Nat) (s : State) : Host.Outcome State Fault Refusal :=
  .next (if c ≠ 3 && s.cartState c = 0 && s.cartState 3 = 1 then s.exchange c 3 (s.rdF (rOptCart c) 29 28) 1 else s)

/-! ### Planned swaps (R573, R574) -/

/-- Modules that a planned action tells: this one and the partners of the ports. -/
def State.swapMembers (s : State) (ports : List Nat) : List (Nat × Nat) :=
  let peers := ports.filterMap (fun p => (s.portLink p).bind (fun l =>
    if s.rdF (rFabLink l) 31 30 ≠ 0 && s.rdF (rFabLink l) 29 16 ≠ s.maddr then some (s.rdF (rFabLink l) 29 16) else none))
  (s.maddr :: peers.eraseDups).map (fun a => (a, 0xFF))
/-- Ports that an action interrupts. -/
def swapPorts (kind unit : Nat) : List Nat := if kind = 3 then [unit / 8] else halfPorts unit
/-- Send the SPARE_SWAP event of a planned action. -/
def State.scheduleSwap (s : State) (id : W32) (kind unit : Nat) : State :=
  s.issueEvent (s.swapMembers (swapPorts kind unit)) true 8 0xFFF (s.now + BitVec.ofNat 64 s.lead) id
/-- Plan an action once. Kinds: 1 switch the half `unit` to cartridge 3; 2 return it to its own cartridge; 3 move port unit / 8 off wavelength
unit % 8; 4 as 1, then the lamp flashes (R663). -/
def State.planSwap (s : State) (kind unit : Nat) : State :=
  if s.test.planned.any (fun (x : W32 × Nat × Nat) => x.2 = (kind, unit)) then s
  else
    let id := BitVec.ofNat 32 (s.test.swaps + 1)
    ({ s with test := { s.test with swaps := s.test.swaps + 1, planned := s.test.planned ++ [(id, kind, unit)] } } : State).scheduleSwap
      id kind unit

/-- Carry a planned action out; one whose unit has changed meanwhile finds nothing to do. -/
def State.doSwap (s : State) (kind unit : Nat) : State :=
  if kind = 3 then
    let p := unit / 8
    if s.portState p = 2 && (s.carried p).contains (unit % 8) && s.idleWave p ≠ 7 then s.moveWave p (unit % 8) else s
  else if kind = 2 then
    if s.activeCart unit = some 3 && s.cartState (unit + 1) = 1 then s.exchange 3 (unit + 1) unit 1 else s
  else match s.activeCart unit with
  | some c => if c ≠ 3 && s.cartState 3 = 1 then s.exchange c 3 unit (if kind = 4 then 2 else 1) else s
  | none => s
/-- SPARE_SWAP: this module's own action is carried out; a partner's interruption needs nothing here. -/
def execSpareSwap (s : State) : Host.Outcome State Fault Refusal :=
  .next (s.due 8 (fun s e =>
    match s.test.planned.find? (fun (x : W32 × Nat × Nat) => x.1 = e.ident) with
    | some x =>
      if e.src = s.maddr then ({ s with test := { s.test with planned := s.test.planned.erase x } } : State).doSwap x.2.1 x.2.2 else s
    | none => s))

/-- A planned switch of a half to cartridge 3, or ATTIC_EXHAUSTED when that is not STANDBY (R575). -/
def State.planCart (s : State) (h : Nat) : State :=
  if s.activeCart h = some 3 then s else if s.cartState 3 = 1 then s.planSwap 1 h else s.noSpare uCart (h + 1)

/-- LASER_FAIL (R408): every port of the half that carries the wavelength leaves it; a link with no idle one goes DOWN (R442). -/
def State.laserFail (s : State) (c k : Nat) : State :=
  let h := s.rdF (rOptCart c) 29 28
  let active := s.cartState c = 0
  let s := s.wrB (rOptCart c) (23 + k) false
  if !active then s
  else
    let s := (halfPorts h).foldl (fun s p =>
      if (s.portLink p).isNone || !(s.carried p).contains k then s
      else if s.idleWave p ≠ 7 then s.moveWave p k
      else if s.portState p = 1 || s.portState p = 2 || s.portState p = 3 then
        ((s.event uPort 3 p eFabSpareExhausted).noSpare uPort p).linkDown p
      else s) s
    s.planCart h
def execLaserFail (c k : Nat) (s : State) : Host.Outcome State Fault Refusal := .next (s.laserFail c k)

/-- MARGIN_SCAN (R435, R573): margins of the five wavelengths and laser bias currents in %. -/
def State.marginScan (s : State) (p : Nat) (margins bias : List Byte) : State :=
  if s.rdF rFabCfg 15 8 = 0 then s
  else
    let x := s.port p
    let worst := margins.foldl (fun (m : Nat) b => min m b.toNat) 0xFF
    let low := (List.range 5).filter (fun k => decide ((margins.getD k 0xFF).toNat < 40))
    let s := (s.setPort p { x with lowScan := low }).wrF (rOptWave p) 23 16 worst
    let s := (low.filter (fun k => x.lowScan.contains k && (s.carried p).contains k)).foldl (fun s k =>
      if s.idleWave p = 7 then s.noSpare uPort p else s.planSwap 3 (8 * p + k)) s
    let top := bias.foldl (fun (m : Nat) b => max m b.toNat) 0
    match s.activeCart (wingOfPort p) with
    | none => s
    | some c =>
      let s := s.wrF (rOptCart c) 15 8 top
      if 90 ≤ top then s.planCart (wingOfPort p) else s
def execMarginScan (port : Nat) (margins bias : List (BitVec 8)) (s : State) : Host.Outcome State Fault Refusal :=
  .next (s.marginScan port margins bias)

/-! ### STATUS packets (R447) -/

/-- A STATUS for a descriptor that has completed. -/
def State.remoteLate (s : State) (src tag code : Nat) : State :=
  s.report { unit := uPort, sev := 0, inst := 0, err := eFabRemoteLate, beat := 0, rseq := 0, detail := src + 2 ^ 16 * tag + 2 ^ 32 * code }

/-- A member refuses an event: the EVENT_REQ that asked for it is answered with the first such refusal (R363, R372). -/
def State.memberRefused (s : State) (code : W16) (x : Sent) : State :=
  match s.beat.asked.find? (fun a => x.req = some a.req) with
  | some a => if code = eSyncUnlocked || code = eSyncEvtFull then s.answerEvent a code else s
  | none => s

/-- A STATUS for an event of this module's MCP (R363, R364, R369, R574): a snapshot that a member took too late is INCOMPLETE here, where
this module has recorded it. -/
def State.eventStatus (s : State) (code : W16) (x : Sent) : State :=
  let s := ({ s with beat := { s.beat with issued := s.beat.issued.erase x } } : State).memberRefused code x
  if x.kind = 1 && code = eSyncLate then
    match s.beat.snaps.find? (fun n => some n.part = x.part && n.id = x.ident && n.beat = x.beat) with
    | some n => s.editSnap { n with incomplete := true }
    | none => s
  else if x.kind = 8 then
    match s.test.planned.find? (fun (y : W32 × Nat × Nat) => y.1 = x.ident) with
    | some y => s.scheduleSwap y.1 y.2.1 y.2.2
    | none => s
  else s.event uMcp 0 x.kind code

/-- STATUS: delivered to the engine that TAG names. A collective operation ends under R491 (R499). -/
def State.statusRow (s : State) (src : Option Nat) : State :=
  match s.takePkt src (fun p => p.kind = 3) with
  | none => s
  | some (p, s) =>
    if BitVec.ofNat 32 (pktCrc p) ≠ p.ecrc then s.refuseSource src p eFabEcrc
    else
      let b := p.body.toNat
      let code := BitVec.ofNat 16 b
      let tag := b / 2 ^ 16 % 2 ^ 16
      let dseq := b / 2 ^ 32 % 2 ^ 16
      let late := s.remoteLate p.src.toNat tag code.toNat
      if tag < 0x8000 then
        match s.phys (tag / 256) with
        | some i => let r := s.failJob (dmaIdx i (tag / 64 % 4)) dseq code; if r.2 then r.1 else late
        | none => late
      else if 0xC000 ≤ tag then s
      else if tag = tagLatch && (code = eFabUnreachable || code = eFabLinkDown) then
        -- an address in a physical window names its latch only (notes/assumptions/31.md)
        let a := b / 2 ^ 64
        s.breakUnreachable (fun e => e.cmod = dseq && (counterAddr e.ccore e.clatch = a
          || (decide (a < 0x010200100000) && decide (e.clatch = a % 0x400 / 16))))
      else if tag = tagMcp then
        let s := s.answerReset dseq code
        match s.beat.issued.find? (fun x => x.token = dseq) with
        | some x => s.eventStatus code x
        | none => late
      else late
def execStatus (src : Option Nat) (s : State) : Host.Outcome State Fault Refusal := .next (s.statusRow src)

/-! ### Settings (R446, R456) -/

/-- DETOUR_WRITE: an MCP writes a route; DETOUR = 1 is accepted once the link has been DOWN for 2 × AGE. -/
def execDetourWrite (x : Nat) (val : BitVec 32) (down2Age : Bool) (s : State) : Host.Outcome State Fault Refusal :=
  let old := s.rd (rFabRoute x)
  let ok := bitAt val 31 && (bitAt old 31 || (down2Age && !s.linkUp (bf val 5 0)))
  .next ((s.wr (rFabRoute x) (bitSet (plainWrite (regDesc (rFabRoute x)) old val) 31 ok)).routesChanged)

/-- The settings in force, laid out as in FABRIC_SET. -/
def State.fabricBody (s : State) : List Byte :=
  leBytes 4 (s.rd rFabId).toNat ++ leBytes 4 (s.rd rFabCfg).toNat ++ leBytes 4 (s.rd rBeatCtl &&& 0xCF0FF000#32).toNat ++ zeros 4
  ++ leBytes 8 s.fab.startBeat.toNat
  ++ (List.range 48).flatMap (fun l => leBytes 4 (s.rd (rFabLink l)).toNat)
  ++ (List.range 64).flatMap (fun x => leBytes 4 (s.rd (rFabRoute x)).toNat) ++ zeros 8

/-- ROLE, LEAD and MASTER_TO (R394): the beat master starts from the starting value (R354); a module that stops being master follows again. -/
def State.setBeatRole (s : State) (w : W32) (start : W64) : State :=
  let old := s.rdF rBeatCtl 31 30
  let s := s.wr rBeatCtl ((s.rd rBeatCtl &&& ~~~0xCF0FF000#32) ||| w)
  let s := { s with fab := { s.fab with startBeat := start } }
  let role := bf w 31 30
  if role = 1 && old ≠ 1 then (s.countFrom start).master
  else if role ≠ 1 && old = 1 && s.beatSt = 4 then ((s.setBeatSt 0).setUp none).wrF rBeatStat 28 26 7
  else s

/-- One link word: a change of ROLE, PEER, DIM or COORD retrains the link (R432). -/
def State.setLink (s : State) (l : Nat) (w : W32) : State :=
  let old := s.rd (rFabLink l)
  let new := plainWrite (regDesc (rFabLink l)) old w
  if new = old then s
  else
    let p := s.linkPort l
    let s := s.wr (rFabLink l) new
    let st := s.portState p
    let s := if (s.port p).linkUp then s.linkDown p else s
    if st = 5 || st = 7 then s else s.setPortState p (if bf new 31 30 = 0 then 0 else s.trainOr0 p)

/-- The registers that the configuration image holds. -/
def fabricKeys : List Nat := [rFabId, rFabCfg, rBeatCtl] ++ (List.range 48).map rFabLink ++ (List.range 64).map rFabRoute

/-- The settings as a new configuration copy (R615). PORT and UNREACH are not settings. -/
def State.saveFabric (s : State) : State :=
  let put (t : Tab W32) (k : Nat) (v : W32) : Tab W32 := tput (fun _ => (0 : W32)) t k v
  let t := fabricKeys.foldl (fun t k =>
    let v := s.rd k
    let keep := if rFabLink 0 ≤ k && k < rFabRoute 0 then (v &&& 0xFFFFFC00#32) ||| resetReg k
      else if rFabRoute 0 ≤ k && k < rFabRoute 64 then v &&& 0x3FF#32 else v
    put t k keep) ([] : Tab W32)
  let t := put (put t startKey (BitVec.ofNat 32 s.fab.startBeat.toNat)) (startKey + 4) (BitVec.ofNat 32 (s.fab.startBeat.toNat / 2 ^ 32))
  ({ s with pwr := { s.pwr with flashRegs := t } } : State).flashImage 1

/-- FABRIC_SET. -/
def execFabricSet (m : Msg) (s : State) : Host.Outcome State Fault Refusal :=
  .next (s.serve m 0x0120 480 (hasRole [.operator]) (fun s b =>
    let w (o : Nat) : W32 := BitVec.ofNat 32 (leAt b o 4)
    let links := (List.range 48).map (fun l => w (24 + 4 * l))
    let routes := (List.range 64).map (fun x => w (216 + 4 * x))
    if w 0 &&& 0x40000088#32 ≠ 0 || w 4 &&& 0x070000FF#32 ≠ 0 || w 8 &&& ~~~0xCF0FF000#32 ≠ 0 || w 12 ≠ 0 || leAt b 472 8 ≠ 0
        || links.any (fun v => decide (v &&& 0x3C0#32 ≠ 0)) || routes.any (fun v => decide (v &&& 0xBFFFFC00#32 ≠ 0)) then
      (s, refusal eHifMsgInvalid)
    else if (w 0 ^^^ s.rd rFabId) &&& 0x3FFFFF77#32 ≠ 0 && !s.cmds.isEmpty then (s, refusal eHifPartBusy)
    else
      let s := (s.wr rFabId (w 0)).wr rFabCfg (w 4)
      let s := s.setBeatRole (w 8) (BitVec.ofNat 64 (leAt b 16 8))
      let s := (links.zipIdx).foldl (fun s (y : W32 × Nat) => s.setLink y.2 y.1) s
      let s := (routes.zipIdx).foldl (fun s (y : W32 × Nat) => s.wr (rFabRoute y.2) (y.1 &&& 0x3FF#32)) s
      (s.routesChanged.saveFabric, some (0, []))))

/-- FABRIC_QUERY. -/
def execFabricQuery (m : Msg) (s : State) : Host.Outcome State Fault Refusal :=
  .next (s.serve m 0x0121 0 (hasRole [.operator, .service]) (fun s _ => (s, some (0, s.fabricBody))))

end Sys2Proof.Machine
end

