-- ==== Sys2Proof/Machine/Policy.lean ====
section
/-! DEFINITION. The power policy (R598 to R600, R604, R655) and MGMT packets (R372, R417, R599). -/

namespace Sys2Proof.Machine

/-- The most restrictive of NORMAL, SITE while asserted, and the operator cap (R599). -/
def State.wantProfile (s : State) (site : Bool) : Nat :=
  let p := s.pwr.policy
  max (max p.normal (if site then p.site else 0)) (p.opcap.getD 0)

/-- Modules of the power group; with no such entry, this module (notes/assumptions/38.md). -/
def State.powerGroup (s : State) : List (Nat × Nat) :=
  let ms := s.entryMembers s.pwr.policy.pgroup
  if ms.isEmpty then [(s.maddr, 0xFF)] else ms

/-- The master's decision (R600): a PROFILE event, unless the last one has not passed or asked for the same. -/
def State.decideProfile (s : State) : State :=
  let want := s.wantProfile (!s.pwr.asserted.isEmpty)
  if s.beatSt ≠ 4 || s.pwr.lastSched.any (fun l => decide (s.now < l.2)) || (s.pwr.lastSched.map (·.1)).getD s.profile = want then s
  else
    let n := s.now + BitVec.ofNat 64 (max s.pwr.policy.plead s.lead)
    ({ s with pwr := { s.pwr with lastSched := some (want, n) } } : State).issueEvent s.powerGroup true 4 s.pwr.policy.pgroup n
      (BitVec.ofNat 32 want)

/-- PROFILE_DECISION: a report reaches the master's MCP. -/
def State.siteReport (s : State) (src : Nat) (asserted : Bool) : State :=
  if s.beatSt ≠ 4 then s
  else
    let l := s.pwr.asserted.filter (· ≠ src)
    ({ s with pwr := { s.pwr with asserted := if asserted then l ++ [src] else l } } : State).decideProfile
def execProfileDecision (src : Nat) (asserted : Bool) (s : State) : Host.Outcome State Fault Refusal :=
  .next (s.siteReport src asserted)

/-- Send a message to the beat master's MCP; none goes out while the counter is not disciplined (R604). -/
def State.toMaster (s : State) (b : List Byte) : State :=
  if s.disciplined then (s.mcpPkt 5 (Config.masterOf (BitVec.ofNat 8 s.beatGen)).toNat 0xFFF 0 b).1 else s

/-- SITE_POWER_REPORT (R599): to the master, or to this module's own MCP when it is the master. -/
def State.sendSite (s : State) : State :=
  let on := s.rdB rPwrStat 28
  if s.beatSt = 4 then s.siteReport s.maddr on else s.toMaster (mgmtSite on)
def execSitePowerReport (s : State) : Host.Outcome State Fault Refusal := .next s.sendSite

/-- Without a disciplined beat the module's own requests act directly (R604). -/
def State.applyOwn (s : State) : State :=
  let p := s.wantProfile (s.rdB rPwrStat 28)
  if !s.disciplined && s.pwr.main && p ≠ s.profile then s.applyProfile p else s

/-- SITE_POWER_N (R599, R655): the pin has held a new level for DEBOUNCE. -/
def execSitePowerN (asserted : Bool) (s : State) : Host.Outcome State Fault Refusal :=
  .next ((s.wrB rPwrStat 28 asserted).sendSite.applyOwn)

/-- The operator cap, kept in the policy table (R599, R604). -/
def State.setCap (s : State) (c : Option Nat) : State :=
  ({ s with pwr := { s.pwr with policy := { s.pwr.policy with opcap := c } } } : State).commitTable 5

/-- PROFILE_REQ: the code in byte 0, 0xFF to clear (R621). A module that is not the master passes the cap on (notes/assumptions/38.md). -/
def execProfileReq (m : Msg) (s : State) : Host.Outcome State Fault Refusal :=
  .next (s.serve m 0x0130 1 (hasRole [.operator]) (fun s b =>
    let c := leAt b 0 1
    if 3 < c && c ≠ 0xFF then (s, refusal ePwrProfileInvalid)
    else
      let s := (s.setCap (if c = 0xFF then none else some c)).applyOwn
      (if s.beatSt = 4 then s.decideProfile else s.toMaster (leBytes 1 5 ++ leBytes 1 c), some (0, []))))

/-- POLICY_SET: NORMAL, SITE, and PGROUP, PLEAD, DEBOUNCE, DRAIN_S in 16 bits each (notes/assumptions/16.md). -/
def execPolicySet (m : Msg) (s : State) : Host.Outcome State Fault Refusal :=
  .next (s.serve m 0x0131 10 (hasRole [.operator]) (fun s b =>
    let p : Policy := { normal := leAt b 0 1, site := leAt b 1 1, pgroup := leAt b 2 2, plead := leAt b 4 2, debounce := leAt b 6 2
                        drainS := leAt b 8 2, opcap := s.pwr.policy.opcap }
    if 3 < p.normal || 3 < p.site || 0xFFF < p.pgroup then (s, refusal ePwrProfileInvalid)
    else (((({ s with pwr := { s.pwr with policy := p } } : State).commitTable 5).applyOwn).decideProfile, some (0, []))))

/-- MGMT (R417): a message between MCPs, by the layouts of Machine/Events.lean; 5 is an operator cap. Any other message is kept. -/
def State.mgmtRow (s : State) (src : Option Nat) : State :=
  match s.takePkt src (fun p => p.kind = 5) with
  | none => s
  | some (p, s) =>
    let d := p.data
    let t := leAt d 0 1
    let from_ := p.src.toNat
    if BitVec.ofNat 32 (pktCrc p) ≠ p.ecrc then s.refuseSource src p eFabEcrc
    else if t = 1 then
      let part := leAt d 1 1
      let r := s.startReset (leAt d 8 8) (leAt d 16 2) (if part = 0xFF then none else some part)
      ((r.getD s).mcpPkt 5 from_ 0xFFF 0 (mgmtResult p.dseq.toNat (if r.isSome then 0 else eHifMsgInvalid))).1
    else if t = 2 then s.answerReset (leAt d 2 2) (BitVec.ofNat 16 (leAt d 4 2))
    else if t = 3 then s.siteReport from_ (leAt d 1 1 = 1)
    else if t = 4 then
      let slot := leAt d 1 1 % 16
      s.setWin slot { s.win slot with len := leAt d 4 4, dest := BitVec.ofNat 64 (leAt d 8 8) }
    else if t = 5 && s.beatSt = 4 then
      (s.setCap (if leAt d 1 1 ≤ 3 then some (leAt d 1 1) else none)).decideProfile
    else { s with fab := { s.fab with inbox := s.fab.inbox ++ [(from_, d)] } }
def execMgmt (src : Option Nat) (s : State) : Host.Outcome State Fault Refusal := .next (s.mgmtRow src)

end Sys2Proof.Machine
end

