-- ==== Sys2Proof/Machine/Bays.lean ====
section
/-! DEFINITION. SMBus (R656) and the cartridge bays (R661 to R665). -/

namespace Sys2Proof.Machine

/-! ### SMBus -/

/-- Contents of a listed code; none for another one. -/
def State.smbus (s : State) (code : Nat) : Option (List Byte) :=
  if code = 0x00 then
    some (leBytes 1 (s.rdF rHifStat 31 29 + 16 * (s.test.lc % 8) + (if s.rdB rHifStat 28 then 128 else 0)))
  else if code = 0x01 then some (leBytes 2 (s.rdF rPwrMeas 31 16))
  else if code = 0x02 then some (leBytes 2 (s.rdF rPwrMeas 15 0))
  else if code = 0x03 then some (leBytes 2 (s.rdF rPwrTemp 31 16))
  else if code = 0x04 then some (leBytes 2 (bf s.pwrTemp 15 0))
  else if code = 0x05 then
    some (leBytes 1 (s.profile + (if s.rdB rPwrStat 28 then 4 else 0) + (if s.rdB rPwrStat 25 then 8 else 0)))
  else if code = 0x06 then some (leBytes 1 s.pwr.alert.toNat)
  else if code = 0x07 then some (leBytes 1 (s.cartState 1 + 4 * s.cartState 2 + 16 * s.cartState 3))
  else if code = 0x10 then some (leBytes 8 Config.serial.toNat)
  else if code = 0x11 then some (leBytes 2 s.maddr)
  else none

/-- SMBUS_READ: a read of ALERT clears it; an unlisted code is answered with NACK. -/
def execSmbusRead (code : Nat) (s : State) : Host.Outcome State Fault Refusal :=
  match s.smbus code with
  | none => .next (s.answer [])
  | some b =>
    let s := s.answer b
    .next (if code = 0x06 then { s with pwr := { s.pwr with alert := 0 } } else if code = 0x04 then s.bump else s)
/-- SMBUS_REFUSED: NACK, and nothing changes. -/
def execSmbusRefused (_code : Nat) (_write : Bool) (s : State) : Host.Outcome State Fault Refusal := .next (s.answer [])

/-! ### Bays -/

/-- CART_SERVICE (R663). -/
def execCartService (m : Msg) (s : State) : Host.Outcome State Fault Refusal :=
  .next (s.serve m 0x0150 1 (hasRole [.operator, .service]) (fun s b =>
    let c := leAt b 0 1
    if c = 0 || 3 < c then (s, some (0, [1]))
    else if c ≠ 3 && s.cartState c = 0 && s.cartState 3 = 1 then (s.planSwap 4 (c - 1), some (0, [0]))
    else if s.cartState c ≠ 0 && (c = 3 || s.activeCart (c - 1) ≠ some 3) then
      (s.setBay c { s.bay c with lamp := 2 }, some (0, [0]))
    else (s, some (0, [1]))))

/-- LEVER_OPEN (R664). -/
def execLeverOpen (c : Nat) (s : State) : Host.Outcome State Fault Refusal :=
  let s := s.setBay c { s.bay c with leverOpen := true }
  .next (if s.cartState c = 0 then s.cartFault c else s)

/-- CARTRIDGE_REMOVAL (R662): ABSENT, lamp off; the half of an ACTIVE one loses its light. -/
def execCartridgeRemoval (c : Nat) (s : State) : Host.Outcome State Fault Refusal :=
  let active := s.cartState c = 0
  let h := s.rdF (rOptCart c) 29 28
  let s := (s.setCart c 3 2 4).setBay c { lamp := 4, leverOpen := (s.bay c).leverOpen, fitted := false }
  .next (if active then s.feedHalf c h else s)

/-- CARTRIDGE_INSERT (R665): it warms up and stays ABSENT until it has locked (notes/assumptions/37.md). -/
def execCartridgeInsert (c : Nat) (s : State) : Host.Outcome State Fault Refusal :=
  .next (if (s.bay c).fitted then s else s.setBay c { s.bay c with fitted := true, warming := true, leverOpen := false })

/-- CARTRIDGE_LOCKED (R665): STANDBY, and then what the halves need of it; or FAILED. Cartridge 3 that locks while no half is fed feeds
the east one (DESIGN CHOICE, notes/assumptions/42.md: R35 does not say which half comes first). -/
def State.cartLocked (s : State) (c : Nat) (good : Bool) : State :=
  if !(s.bay c).warming then s
  else
    let s := s.setBay c { s.bay c with warming := false }
    if !good then
      let s := s.setCart c 2 2 3
      { s with pwr := { s.pwr with alert := s.pwr.alert ||| 4 } }
    else
      let s := ((s.setCart c 1 2 1).wrF (rOptCart c) 27 23 0x1F).wrF (rOptCart c) 15 8 0
      if c = 3 then
        match [0, 1].find? (fun h => (s.activeCart h).isNone) with
        | some h => s.switchCart 3 h
        | none => s
      else match s.activeCart (c - 1) with
      | none => s.switchCart c (c - 1)
      | some n => if n = 3 then s.planSwap 2 (c - 1) else s
def execCartridgeLocked (c : Nat) (good : Bool) (s : State) : Host.Outcome State Fault Refusal := .next (s.cartLocked c good)

end Sys2Proof.Machine
end

