-- ==== Sys2Proof/Machine/Complete.lean ====
section
/-! DEFINITION. The end of a command: the combination of a K split (R271), the re-execution of items (R552 to R557), and the completion
with its SIGNAL and record (R252, R289, R296). -/

namespace Sys2Proof.Machine

/-- Every item of a command is claimed: the counters of both wings stand at their limits (R282). -/
def State.allClaimed (s : State) (k : Cmd) : Bool :=
  k.tab ≠ 0 && [k.counterE, k.counterW].all (fun a => a = 0 || (let r := (s.readMem a 64).2.2; decide (leAt r 8 8 ≤ leAt r 0 8)))

/-! ### The combination of parts (R271) -/

/-- The groups of a MATMUL as destinations: enabled rows in storage and columns. -/
def State.groupDst (s : State) (k : Cmd) (val : Nat → Nat → Val) : List Dst :=
  (mGroups k.segments).map (fun g => s.matDst k (((List.range g.rows).filter g.on).map (g.drow + ·)) (List.range g.ncols) val)

/-- K_SPLIT_COMBINE: every part has committed; the totals that parts wrote are combined and written. Poison in SCRATCH or in an old value
of D, or a bad scale, ends the command. -/
def State.kSplitCombine (s : State) (ring dc : Nat) : State :=
  match s.cmd ring dc with
  | none => s
  | some k =>
    if k.opcode ≠ 1 || k.mParts = 1 || k.phase ≠ .running || !s.allClaimed k || !k.toReissue.isEmpty || s.frozenPart k.part
        || !s.threadsEnded ring dc || !s.opsEnded ring dc then s
    else
      let gs := mGroups k.segments
      let cells := gs.flatMap (fun g => ((List.range g.rows).filter g.on).flatMap (fun i => (List.range g.ncols).map (fun n => (g, i, n))))
      let req := s.reqCmd k
      let addrs := cells.flatMap (fun c => (List.range k.mParts).map (fun j => s.partAt k j (c.1.m0 + c.2.1) c.2.2))
      let rd := s.readRanges uWc (s.wingOfPart k.part) req (addrs.map (fun a => (a, 6)))
      let dr := rd.1.readRanges uWc (s.wingOfPart k.part) req (gs.flatMap (fun g =>
        rd.1.matDstReads k (((List.range g.rows).filter g.on).map (g.drow + ·)) (List.range g.ncols)))
      let s := dr.1
      match ((rd.2 ++ dr.2).filterMap (·.2)).head? with
      | some _ => s.failCmd ring dc eMemPoison 0
      | none =>
        let part (j m n : Nat) : Val :=
          wideVal 8 true ((((addrs.zip rd.2).find? (fun x => x.1 = s.partAt k j m n)).map (fun x => leNat x.2.1)).getD 0)
        let val (row n : Nat) : Val :=
          match gs.find? (fun g => g.drow ≤ row && row < g.drow + g.rows) with
          | some g => combineParts k.mTree ((List.range k.mParts).map (fun j => part j (g.m0 + (row - g.drow)) n))
          | none => .zero false
        let e := (s.groupDst k val).foldl (fun e d => e.join (d.encode s)) ({} : Enc)
        if e.bad then s.failCmd ring dc eScaleInvalid 0
        else
          let s := s.updCmd ring dc (fun c => { c with
            sat := cap32 (c.sat + e.sat), lost := cap32 (c.lost + e.lost), nz := cap32 (c.nz + e.nz) })
          (((s.count req 23 e.lost).count req 24 e.sat).matPut k req e.codes e.scales).doneCmd k

def execKSplitCombine (ring dcount : Nat) (s : State) : Host.Outcome State Fault Refusal := .next (s.kSplitCombine ring dcount)

/-! ### Re-execution (R555 to R557) -/

/-- A logical core of the command's partition that may run an item again: on `wing`, open, and not one of `ran` when there is another
(R555). -/
def State.mayRerun (s : State) (k : Cmd) (c : Nat) (ran : List Nat) : Option Nat :=
  match s.logical c with
  | none => none
  | some lc =>
    let w := (ran.headD 0) / 64
    let usable := (s.coresOfWing k.part w).filter (fun l => (s.phys l).any (fun i => s.coreOpen i))
    if !usable.contains lc then none
    else if ran.contains lc && usable.any (fun l => !ran.contains l) then none
    else some lc

/-- CHECK_REEXEC: a selected item, committed, ran again as CHECKRUN, and its signature is compared with that of the commit (R554 to R556);
a mismatch counts in BST_CHECK (R588). -/
def State.checkReexec (s : State) (ring dc item c : Nat) (sig : W64) : State :=
  match s.cmd ring dc with
  | none => s
  | some k =>
    match k.checks.find? (fun x => x.item = item && x.st = 2) with
    | none => s
    | some x =>
      if k.phase = .failed then s
      else match s.mayRerun k c [x.first] with
      | none => s
      | some lc =>
        let s := (s.ledgerStart c k.seq k.layer k.oper k.part k.level).count (s.reqCmd k) 17 1
        let s := if sig = x.sig then s else s.incF rBstCheck 31 16 1
        s.updCmd ring dc (fun k => { k with
          reexec := cap32 (k.reexec + 1)
          checks := k.checks.map (fun y => if y.item = item then { y with re := lc, reSig := sig, st := if sig = y.sig then 0 else 1 } else y) })

def execCheckReexec (ring dcount item core : Nat) (sig : W64) (s : State) : Host.Outcome State Fault Refusal :=
  .next (s.checkReexec ring dcount item core sig)

/-- A dissenter (R573): twice within 24 h starts the planned hand-over of its core and a test. -/
def State.dissent (s : State) (lc : Nat) : State :=
  match s.phys lc with
  | none => s
  | some i =>
    let h := s.now :: s.lastDay (s.core i).dissents
    let s := s.setCore i { s.core i with dissents := h }
    if 2 ≤ h.length then
      let s := s.setCore i { s.core i with testNext := true }
      (s.wrB (rCoreCtl i) 30 true).wrB (rCoreStat i) 5 (!s.fenced i)
    else s

/-- THIRD_EXECUTION (R556): `sig` is the signature of the third run. The destination already holds the bits the rules give; with no match
the command fails and the destination holds free values. -/
def State.thirdExecution (s : State) (ring dc item c : Nat) (sig : W64) : State :=
  match s.cmd ring dc with
  | none => s
  | some k =>
    match k.checks.find? (fun x => x.item = item && x.st = 1) with
    | none => s
    | some x =>
      if k.phase = .failed then s
      else match s.mayRerun k c [x.first, x.re] with
      | none => s
      | some _ =>
        let s := (s.ledgerStart c k.seq k.layer k.oper k.part k.level).count (s.reqCmd k) 17 1
        let s := s.updCmd ring dc (fun k => { k with reexec := cap32 (k.reexec + 1) })
        if sig ≠ x.sig && sig ≠ x.reSig then
          let s := s.incF rBstCheck 7 0 1
          (s.updCmd ring dc (fun k => { k with kept := [] })).failCmd ring dc eCheckMismatch item
        else
          let bad := if sig = x.sig then x.re else x.first
          let other := if sig = x.sig then x.first else x.re
          let s := s.incF rBstCheck 15 8 1
          let s := s.report { unit := uCore, sev := 1, inst := (s.phys bad).getD 0, err := eCheckResolved, beat := 0, rseq := 0, part := k.part,
                              layer := k.layer, oper := k.oper, seq := k.seq, detail := bad + 2 ^ 8 * other }
          let s := s.dissent bad
          s.updCmd ring dc (fun k => { k with checks := k.checks.map (fun y => if y.item = item then { y with st := 0 } else y) })

def execThirdExecution (ring dcount item core : Nat) (sig : W64) (s : State) : Host.Outcome State Fault Refusal :=
  .next (s.thirdExecution ring dcount item core sig)

/-! ### Completion -/

/-- A command may complete (R289, R557). -/
def State.mayComplete (s : State) (k : Cmd) : Bool :=
  (k.phase = .failed || (k.phase = .written || (k.opcode = 0x18 && k.phase = .running && s.allStarted k)
       || (k.opcode = 1 && k.mParts = 1 && k.phase = .running && s.allClaimed k))
     && k.toReissue.isEmpty && k.checks.all (fun c => c.st = 0))
  && !(k.resultEn && s.frozenPart k.part) && s.threadsEnded k.ring k.dcount && s.opsEnded k.ring k.dcount

/-- COMMAND_COMPLETE (R252, R289): completion block, SIGNAL, record; the command is no longer live. -/
def State.commandComplete (s : State) (ring dc : Nat) : State :=
  match s.cmd ring dc with
  | none => s
  | some k =>
    if !s.mayComplete k then s
    else
      let k := if k.phase = .running && k.opcode ≠ 1 then { k with beatEnd := s.now } else k
      let s := if k.opcode = 1 && k.phase = .failed && k.tab ≠ 0 then s.matScramble k (k.kept.filterMap (fun i => (s.itemAt k i).map (·.1))) else s
      let s := if k.phase = .written && k.adaptRec ≠ [] then
          (s.writeMem (s.physOf k.stateAt) k.adaptRec).countMem (s.reqCmd k) (s.physOf k.stateAt) 16 true else s
      let result := k.resultEn && !k.refused && s.inPart k.part k.result 64
      let s := if result then
          let pa := s.physOf k.result
          (s.writeMem pa k.block).countMem (s.reqCmd k) pa 64 true
        else s
      let w := s.wingOfPart k.part
      let g := s.entryFor k.part k.signal
      let lands := if isRemote k.signal then !remoteBad k.signal && g.isSome else
        match s.resolve k.signal with
        | .latch i _ _ => s.partOfPhys i = some k.part
        | _ => false
      let signalled := k.signalEn && k.err = 0 && lands
      let s := if signalled then s.postLatch (s.reqCmd k) k.signal 1 0 (tagWing w 0) 0 g else s
      let s := (s.putRecord k result signalled).count (s.reqCmd k) 22 1
      let s := s.trace k.part 0x02 uWc w (s.reqCmd k) (k.err.toNat + 2 ^ 16 * cap32 k.items)
      let p := s.part k.part
      let s := s.setPart k.part { p with preempts := p.preempts.map (fun x => { x with ended := x.ended + 1 }) }
      { s with cmds := s.cmds.filter (fun c => !(c.ring = ring && c.dcount = dc)) }

def execCommandComplete (ring dcount : Nat) (s : State) : Host.Outcome State Fault Refusal := .next (s.commandComplete ring dcount)

end Sys2Proof.Machine
end

