-- ==== Sys2Proof/Machine/RegRead.lean ====
section
/-! DEFINITION. What a read of a register word returns (R19): the stored word, with the fields that show other state put in (R197, R199 to
R201, R512 to R514, R520, R521), and the injection registers closed outside the life-cycle states that have them (R155, R337). A read with
an effect has a row of its own. -/

namespace Sys2Proof.Machine

/-- CORE_STAT_i.ISSUING (R197): a beat is longer than 16 core cycles, so a bundle issued in this beat or the one before may be among the
last 16 cycles: a free value (notes/assumptions/40.md); an older one is not. -/
def State.issuing (s : State) (i : Nat) : Bool :=
  match (s.core i).issued with
  | some b => decide (s.now.toNat ≤ b.toNat + 1) && bitAt (s.free 0) 0
  | none => false

/-- CORE_STAT_i (R197). A core none of whose threads holds a program does not report PARKED_ALL, as at reset. -/
def State.coreStat (s : State) (i : Nat) : W32 :=
  let live := (List.range 32).filter (fun t => (s.thr i t).st ≠ .free)
  let v := bfSet (bfSet (bfSet (s.rd (rCoreStat i)) 31 24 ((s.logical i).getD 0xFF)) 18 16 ((s.partOfPhys i).getD 0)) 15 8 (s.core i).exc.length
  let v := bitSet (bitSet v 7 (s.logical i).isNone) 2 (!live.isEmpty && live.all (fun t => (s.thr i t).st = .parked))
  bitSet v 1 (s.issuing i)

/-- A word of core i's register block (R197 to R201). -/
def State.coreWord (s : State) (i o : Nat) : W32 :=
  if o = 0x00 then s.coreStat i
  else if o = 0x08 then BitVec.ofNat 32 (s.threadBits i .ready)
  else if o = 0x0C then BitVec.ofNat 32 (s.threadBits i .parked)
  else if o = 0x10 then BitVec.ofNat 32 (s.threadBits i .faulted)
  else if o = 0x14 then BitVec.ofNat 32 (s.threadBits i .held)
  else if 0x20 ≤ o ∧ o < 0x30 then s.excRead i ((o - 0x20) / 4)
  else if o = 0x30 then bfSet (s.rd (rLedgerCtl i)) 10 0 (s.core i).ledger.length
  else s.rd (coreReg i o)

/-- MBX_STAT_c.BIND (R521). -/
def bindCode : Bind → Nat
  | .unbound => 0
  | .opening => 1
  | .bound => 2
  | .locked => 3

/-- MBX_STAT_c.LOCK_S (R521, R531): the whole seconds of lock that remain, rounded up. -/
def State.lockLeft (s : State) (x : Chan) : Nat := (10 ^ 9 * x.lockS - s.nsSince x.lockAt + 999999999) / 10 ^ 9

/-- A word of mailbox channel c (R520, R521). -/
def State.mbxWord (s : State) (c o : Nat) : W32 :=
  let x := s.chan c
  let b (i : Nat) (v : Bool) : Nat := if v then 2 ^ i else 0
  if o = 4 then
    BitVec.ofNat 32 (bindCode x.bind * 2 ^ 30 + roleCode x.role * 2 ^ 27 + x.part % 8 * 2 ^ 24 + s.lockLeft x % 2 ^ 16 * 2 ^ 8 + b 2 x.overrun
      + b 1 x.done + b 0 x.busy)
  else if o = 8 then x.sid
  else s.rd (mbxReg c o)

/-- The words of the beat unit, the latch units, the group table and the power unit that show other state (R396, R398, R502, R504,
R624). -/
def State.beatWord (s : State) (off : Nat) : W32 :=
  if off = beatReg 0x08 then s.now.setWidth 32
  else if off = beatReg 0x0C then s.beat.hi
  else if off = beatReg 0x10 then s.beat.phase.setWidth 32
  else if off = rLatStat then bfSet (s.rd off) 8 0 (min 256 s.releases.length)
  else if off = rCollCtl then bfSet (s.rd off) 11 0 s.liveOld
  else if off = rCollStat then s.collStat
  else if off = rPwrTemp then s.pwrTemp
  else s.rd off

/-- The word at an offset of the register space. -/
def State.readReg (s : State) (off : Nat) : W32 :=
  if injReg off && !s.injectable then 0
  else if off < 0x308 then BitVec.ofNat 32 (s.hifWord off)
  else if mbxReg 0 0 ≤ off ∧ off < mbxReg 32 0 then s.mbxWord ((off - mbxReg 0 0) / 0x40) (off % 0x40)
  else if rCoreStat 0 ≤ off ∧ off < rCoreStat 144 then s.coreWord ((off - rCoreStat 0) / 0x40) (off % 0x40)
  else s.beatWord off

end Sys2Proof.Machine
end

