-- ==== Sys2Proof/Machine/RegWrite.lean ====
section
/-! DEFINITION. REGISTER_WRITE (R19, R23): a write of a register word, or of a word of latch space (R377, R386), by an agent, for the fields that have no row of their own. A field that
has one (GO, ARM, SWAP, FENCE, DRAIN, HOLD_ALL, PERIOD, DETOUR, MODE, a remap, the bank WRITE and COMMIT bits, UNQ, RETRAIN and FAIL)
keeps its value here. -/

namespace Sys2Proof.Machine

/-- Registers that only the MCPs write: BEAT_CTL, the FAB_, OPT_, COLL_, BST_, PWR_, CNT_ and CFG_ windows, ARR_REMAP (R153),
MEM_GRAN, MEM_LPAGE, MEM_SPARE_CMD and ECC_BKT_CFG. -/
def mcpOnly (off : Nat) : Bool :=
  off = rBeatCtl || 0x1060000 ≤ off || (rArrStat 0 ≤ off && off < rArrStat 576 && off % 16 = 8) || (rMemGran 0 ≤ off && off < rMemLpage 176) || off = rMemSpareCmd
  || (rEccBktCfg 0 ≤ off && off < rEccBktCfg 320 && off % 8 = 0)

/-- The first address of latch space and the end of it (R298): an `off` there is a device address. -/
def latchSpace (off : Nat) : Bool := 0x010200000000 ≤ off && off < 0x010200100000 + 128 * 0x400

/-- Whether an agent may write a register, or a record of latch space (R19, R198, R301, R377, R512, R519). -/
def mayWrite (who : Agent) (off : Nat) : Bool :=
  match who with
  | .mcp => true
  | .wingCtl => 0x1000000 ≤ off && (latchSpace off || !mcpOnly off)
  | .host => off < 0x10000
  | .page c => mbxReg c 0 ≤ off && off < mbxReg (c + 1) 0

/-- The write itself. -/
def State.writeReg (s : State) (off : Nat) (val : W32) : State :=
  if latchSpace off then
    match s.resolve off with
    | .latch i j o => s.extLatch i j (.word (o / 4) val)
    | _ => s
  else if injReg off && !s.injectable then s
  else if 0x100 ≤ off && off < 0x300 && off % 8 = 0 then
    let n := (off - 0x100) / 8
    if bitAt val 25 then s.setRing n { s.ring n with dbErr := false } else s
  else if 0x10000 ≤ off && off < 0x10000 + 0x40 * 32 then
    let c := (off - 0x10000) / 0x40
    let x := s.chan c
    if off % 0x40 = 0 then s.plainReg off val
    else if off % 0x40 = 4 then s.setChan c { x with overrun := x.overrun && !bitAt val 2, done := x.done && !bitAt val 1 }
    else s
  else if off = rBeatCtl then (s.setBeatRole (val &&& 0xCF0FF000#32) s.fab.startBeat).wrB rBeatCtl 11 (bitAt val 11)
  else if rFabLink 0 ≤ off && off < rFabLink 48 then s.setLink ((off - rFabLink 0) / 4) val
  else if rFabRoute 0 ≤ off && off < rFabRoute 64 then (s.plainReg off val).routesChanged
  else if rMemGran 0 ≤ off && off < rMemGran 384 then s.granWrite ((off - rMemGran 0) / 4) (bfSet val 5 4 (bf (s.rd off) 5 4))
  else if rCoreStat 0 ≤ off && off < rCoreStat 144 then s.extCore ((off - rCoreStat 0) / 0x40) (.write (off % 0x40) val)
  else s.plainReg off val

/-- REGISTER_WRITE: a write without the right to it is ignored and recorded (R23), with no session on the page in the module log
(R534). -/
def execRegisterWrite (who : Agent) (off : Nat) (val : BitVec 32) (s : State) : Host.Outcome State Fault Refusal :=
  .next (if off % 4 ≠ 0 then s
    else if mayWrite who off then s.writeReg off val
    else s.logSession (match who with
      | .page c => if (s.chan c).bind = .bound then some c else none
      | _ => none) eHifRoleDenied off)

end Sys2Proof.Machine
end

