-- ==== Sys2Proof/Machine/Dispatch.lean ====
section
/-! DEFINITION. The meaning of each command, one arm per row of the opcode table. -/

namespace Sys2Proof.Machine

/-- The effect of a command on everything but the queue. -/
def exec (i : Instr) (s : State) : Host.Outcome State Fault Refusal :=
  match i with
  | .sNop x f => Sys2Proof.Machine.execSNop x f s
  | .sAdd x f => Sys2Proof.Machine.execSAdd x f s
  | .sSub x f => Sys2Proof.Machine.execSSub x f s
  | .sAddi x f => Sys2Proof.Machine.execSAddi x f s
  | .sMul x f => Sys2Proof.Machine.execSMul x f s
  | .sMulhu x f => Sys2Proof.Machine.execSMulhu x f s
  | .sMulhs x f => Sys2Proof.Machine.execSMulhs x f s
  | .sAnd x f => Sys2Proof.Machine.execSAnd x f s
  | .sOr x f => Sys2Proof.Machine.execSOr x f s
  | .sXor x f => Sys2Proof.Machine.execSXor x f s
  | .sAndi x f => Sys2Proof.Machine.execSAndi x f s
  | .sShl x f => Sys2Proof.Machine.execSShl x f s
  | .sShr x f => Sys2Proof.Machine.execSShr x f s
  | .sSar x f => Sys2Proof.Machine.execSSar x f s
  | .sShli x f => Sys2Proof.Machine.execSShli x f s
  | .sShri x f => Sys2Proof.Machine.execSShri x f s
  | .sSari x f => Sys2Proof.Machine.execSSari x f s
  | .sSlt x f => Sys2Proof.Machine.execSSlt x f s
  | .sSltu x f => Sys2Proof.Machine.execSSltu x f s
  | .sSeq x f => Sys2Proof.Machine.execSSeq x f s
  | .sMin x f => Sys2Proof.Machine.execSMin x f s
  | .sMax x f => Sys2Proof.Machine.execSMax x f s
  | .sMinu x f => Sys2Proof.Machine.execSMinu x f s
  | .sMaxu x f => Sys2Proof.Machine.execSMaxu x f s
  | .sLi x f => Sys2Proof.Machine.execSLi x f s
  | .sLui x f => Sys2Proof.Machine.execSLui x f s
  | .sPopc x f => Sys2Proof.Machine.execSPopc x f s
  | .sClz x f => Sys2Proof.Machine.execSClz x f s
  | .sBfx x f => Sys2Proof.Machine.execSBfx x f s
  | .sB x f => Sys2Proof.Machine.execSB x f s
  | .sBeq x f => Sys2Proof.Machine.execSBeq x f s
  | .sBne x f => Sys2Proof.Machine.execSBne x f s
  | .sBlt x f => Sys2Proof.Machine.execSBlt x f s
  | .sBge x f => Sys2Proof.Machine.execSBge x f s
  | .sBltu x f => Sys2Proof.Machine.execSBltu x f s
  | .sBgeu x f => Sys2Proof.Machine.execSBgeu x f s
  | .sCall x f => Sys2Proof.Machine.execSCall x f s
  | .sJr x f => Sys2Proof.Machine.execSJr x f s
  | .sCrd x f => Sys2Proof.Machine.execSCrd x f s
  | .sCwr x f => Sys2Proof.Machine.execSCwr x f s
  | .sPcnt x f => Sys2Proof.Machine.execSPcnt x f s
  | .sBrk x f => Sys2Proof.Machine.execSBrk x f s
  | .sEnd x f => Sys2Proof.Machine.execSEnd x f s
  | .vNop x f => Sys2Proof.Machine.execVNop x f s
  | .vAdd x f => Sys2Proof.Machine.execVAdd x f s
  | .vSub x f => Sys2Proof.Machine.execVSub x f s
  | .vMul x f => Sys2Proof.Machine.execVMul x f s
  | .vFma x f => Sys2Proof.Machine.execVFma x f s
  | .vFms x f => Sys2Proof.Machine.execVFms x f s
  | .vDiv x f => Sys2Proof.Machine.execVDiv x f s
  | .vSqrt x f => Sys2Proof.Machine.execVSqrt x f s
  | .vMax x f => Sys2Proof.Machine.execVMax x f s
  | .vMin x f => Sys2Proof.Machine.execVMin x f s
  | .vAbs x f => Sys2Proof.Machine.execVAbs x f s
  | .vNeg x f => Sys2Proof.Machine.execVNeg x f s
  | .vAdds x f => Sys2Proof.Machine.execVAdds x f s
  | .vSubs x f => Sys2Proof.Machine.execVSubs x f s
  | .vMulh x f => Sys2Proof.Machine.execVMulh x f s
  | .vAnd x f => Sys2Proof.Machine.execVAnd x f s
  | .vOr x f => Sys2Proof.Machine.execVOr x f s
  | .vXor x f => Sys2Proof.Machine.execVXor x f s
  | .vNot x f => Sys2Proof.Machine.execVNot x f s
  | .vShl x f => Sys2Proof.Machine.execVShl x f s
  | .vShr x f => Sys2Proof.Machine.execVShr x f s
  | .vSar x f => Sys2Proof.Machine.execVSar x f s
  | .vLdexp x f => Sys2Proof.Machine.execVLdexp x f s
  | .vExp2 x f => Sys2Proof.Machine.execVExp2 x f s
  | .vLog2 x f => Sys2Proof.Machine.execVLog2 x f s
  | .vCmp x f => Sys2Proof.Machine.execVCmp x f s
  | .vSel x f => Sys2Proof.Machine.execVSel x f s
  | .vPand x f => Sys2Proof.Machine.execVPand x f s
  | .vPor x f => Sys2Proof.Machine.execVPor x f s
  | .vPxor x f => Sys2Proof.Machine.execVPxor x f s
  | .vPnot x f => Sys2Proof.Machine.execVPnot x f s
  | .vBcast x f => Sys2Proof.Machine.execVBcast x f s
  | .vIdx x f => Sys2Proof.Machine.execVIdx x f s
  | .vGetl x f => Sys2Proof.Machine.execVGetl x f s
  | .vSetl x f => Sys2Proof.Machine.execVSetl x f s
  | .vPerm x f => Sys2Proof.Machine.execVPerm x f s
  | .vMov x f => Sys2Proof.Machine.execVMov x f s
  | .vRsum x f => Sys2Proof.Machine.execVRsum x f s
  | .vRssq x f => Sys2Proof.Machine.execVRssq x f s
  | .vRmax x f => Sys2Proof.Machine.execVRmax x f s
  | .vRmin x f => Sys2Proof.Machine.execVRmin x f s
  | .vMomAdd x f => Sys2Proof.Machine.execVMomAdd x f s
  | .vMomCmb x f => Sys2Proof.Machine.execVMomCmb x f s
  | .vMomRed x f => Sys2Proof.Machine.execVMomRed x f s
  | .vCvt x f => Sys2Proof.Machine.execVCvt x f s
  | .vQscl x f => Sys2Proof.Machine.execVQscl x f s
  | .vCvtq x f => Sys2Proof.Machine.execVCvtq x f s
  | .vCvtf x f => Sys2Proof.Machine.execVCvtf x f s
  | .vPack4 x f => Sys2Proof.Machine.execVPack4 x f s
  | .vUnpk4 x f => Sys2Proof.Machine.execVUnpk4 x f s
  | .vPack6 x f => Sys2Proof.Machine.execVPack6 x f s
  | .vUnpk6 x f => Sys2Proof.Machine.execVUnpk6 x f s
  | .mNop x => Sys2Proof.Machine.execMNop x s
  | .mTile x f => Sys2Proof.Machine.execMTile x f s
  | .mTset x f => Sys2Proof.Machine.execMTset x f s
  | .mTcpy x f => Sys2Proof.Machine.execMTcpy x f s
  | .mTadd x f => Sys2Proof.Machine.execMTadd x f s
  | .cNop x => Sys2Proof.Machine.execCNop x s
  | .cLdb x f => Sys2Proof.Machine.execCLdb x f s
  | .cLdh x f => Sys2Proof.Machine.execCLdh x f s
  | .cLdw x f => Sys2Proof.Machine.execCLdw x f s
  | .cLdd x f => Sys2Proof.Machine.execCLdd x f s
  | .cLdbs x f => Sys2Proof.Machine.execCLdbs x f s
  | .cLdhs x f => Sys2Proof.Machine.execCLdhs x f s
  | .cLdws x f => Sys2Proof.Machine.execCLdws x f s
  | .cStb x f => Sys2Proof.Machine.execCStb x f s
  | .cSth x f => Sys2Proof.Machine.execCSth x f s
  | .cStw x f => Sys2Proof.Machine.execCStw x f s
  | .cStd x f => Sys2Proof.Machine.execCStd x f s
  | .cGld x f => Sys2Proof.Machine.execCGld x f s
  | .cGst x f => Sys2Proof.Machine.execCGst x f s
  | .cVld x f => Sys2Proof.Machine.execCVld x f s
  | .cVst x f => Sys2Proof.Machine.execCVst x f s
  | .cVgth x f => Sys2Proof.Machine.execCVgth x f s
  | .cVsct x f => Sys2Proof.Machine.execCVsct x f s
  | .cPld x f => Sys2Proof.Machine.execCPld x f s
  | .cPst x f => Sys2Proof.Machine.execCPst x f s
  | .cTld x f => Sys2Proof.Machine.execCTld x f s
  | .cTst x f => Sys2Proof.Machine.execCTst x f s
  | .cFadd x f => Sys2Proof.Machine.execCFadd x f s
  | .cSwap x f => Sys2Proof.Machine.execCSwap x f s
  | .cCas x f => Sys2Proof.Machine.execCCas x f s
  | .cDma x f => Sys2Proof.Machine.execCDma x f s
  | .cLpost x f => Sys2Proof.Machine.execCLpost x f s
  | .cFence x => Sys2Proof.Machine.execCFence x s
  | .cLset x f => Sys2Proof.Machine.execCLset x f s
  | .cLadd x f => Sys2Proof.Machine.execCLadd x f s
  | .cLwait x f => Sys2Proof.Machine.execCLwait x f s
  | .cLrd x f => Sys2Proof.Machine.execCLrd x f s
  | .cLarr x f => Sys2Proof.Machine.execCLarr x f s
  | .loadReturn core thread n => Sys2Proof.Machine.execLoadReturn core thread n s
  | .wcException core thread => Sys2Proof.Machine.execWcException core thread s
  | .threadStart core thread ring dcount => Sys2Proof.Machine.execThreadStart core thread ring dcount s
  | .threadHold core thread => Sys2Proof.Machine.execThreadHold core thread s
  | .threadRelease core thread => Sys2Proof.Machine.execThreadRelease core thread s
  | .coreGate core => Sys2Proof.Machine.execCoreGate core s
  | .latchWaitTimeout core thread => Sys2Proof.Machine.execLatchWaitTimeout core thread s
  | .tileStart array half => Sys2Proof.Machine.execTileStart array half s
  | .runComplete array half fault => Sys2Proof.Machine.execRunComplete array half fault s
  | .tileEnd array half => Sys2Proof.Machine.execTileEnd array half s
  | .itemReissue ring dcount item core thread => Sys2Proof.Machine.execItemReissue ring dcount item core thread s
  | .arrayTest array badRows badCols => Sys2Proof.Machine.execArrayTest array badRows badCols s
  | .arrRemapWrite array val => Sys2Proof.Machine.execArrRemapWrite array val s
  | .arrInjArm array val => Sys2Proof.Machine.execArrInjArm array val s
  | .arrErrRead array => Sys2Proof.Machine.execArrErrRead array s
  | .coreFence core => Sys2Proof.Machine.execCoreFence core s
  | .faultTakeover core cause badLatches => Sys2Proof.Machine.execFaultTakeover core cause badLatches s
  | .takeoverCommit logical => Sys2Proof.Machine.execTakeoverCommit logical s
  | .coreDrain core on => Sys2Proof.Machine.execCoreDrain core on s
  | .handoverFreeze core => Sys2Proof.Machine.execHandoverFreeze core s
  | .handoverCommit core => Sys2Proof.Machine.execHandoverCommit core s
  | .coreHoldAll core on => Sys2Proof.Machine.execCoreHoldAll core on s
  | .coreExc3Read core => Sys2Proof.Machine.execCoreExc3Read core s
  | .coreExc0Read core => Sys2Proof.Machine.execCoreExc0Read core s
  | .ledgerClear core byMcp => Sys2Proof.Machine.execLedgerClear core byMcp s
  | .descriptorTake ring hostBytes => Sys2Proof.Machine.execDescriptorTake ring hostBytes s
  | .commandWaitTimeout ring dcount => Sys2Proof.Machine.execCommandWaitTimeout ring dcount s
  | .nop ring dcount => Sys2Proof.Machine.execNop ring dcount s
  | .matmul ring dcount => Sys2Proof.Machine.execMatmul ring dcount s
  | .quantize ring dcount => Sys2Proof.Machine.execQuantize ring dcount s
  | .convert ring dcount => Sys2Proof.Machine.execConvert ring dcount s
  | .copy ring dcount => Sys2Proof.Machine.execCopy ring dcount s
  | .fill ring dcount => Sys2Proof.Machine.execFill ring dcount s
  | .reduceSum ring dcount => Sys2Proof.Machine.execReduceSum ring dcount s
  | .reduceSsq ring dcount => Sys2Proof.Machine.execReduceSsq ring dcount s
  | .reduceMax ring dcount => Sys2Proof.Machine.execReduceMax ring dcount s
  | .reduceMin ring dcount => Sys2Proof.Machine.execReduceMin ring dcount s
  | .moments ring dcount => Sys2Proof.Machine.execMoments ring dcount s
  | .sort ring dcount => Sys2Proof.Machine.execSort ring dcount s
  | .gather ring dcount => Sys2Proof.Machine.execGather ring dcount s
  | .scatterAdd ring dcount => Sys2Proof.Machine.execScatterAdd ring dcount s
  | .kernel ring dcount => Sys2Proof.Machine.execKernel ring dcount s
  | .allReduce ring dcount => Sys2Proof.Machine.execAllReduce ring dcount s
  | .reduceScatter ring dcount => Sys2Proof.Machine.execReduceScatter ring dcount s
  | .allGather ring dcount => Sys2Proof.Machine.execAllGather ring dcount s
  | .broadcast ring dcount => Sys2Proof.Machine.execBroadcast ring dcount s
  | .lrReduce ring dcount => Sys2Proof.Machine.execLrReduce ring dcount s
  | .kSplitCombine ring dcount => Sys2Proof.Machine.execKSplitCombine ring dcount s
  | .commandComplete ring dcount => Sys2Proof.Machine.execCommandComplete ring dcount s
  | .checkReexec ring dcount item core sig => Sys2Proof.Machine.execCheckReexec ring dcount item core sig s
  | .thirdExecution ring dcount item core sig => Sys2Proof.Machine.execThirdExecution ring dcount item core sig s
  | .dmaStart engine queue => Sys2Proof.Machine.execDmaStart engine queue s
  | .dmaComplete engine queue => Sys2Proof.Machine.execDmaComplete engine queue s
  | .bar2Read off len => Sys2Proof.Machine.execBar2Read off len s
  | .bar2Write off bytes => Sys2Proof.Machine.execBar2Write off bytes s
  | .scrubRead addr => Sys2Proof.Machine.execScrubRead addr s
  | .bucketLeak k => Sys2Proof.Machine.execBucketLeak k s
  | .rebuildEnd stack => Sys2Proof.Machine.execRebuildEnd stack s
  | .spareEraseRebuild stack chan => Sys2Proof.Machine.execSpareEraseRebuild stack chan s
  | .spareEraseOnly stack chan => Sys2Proof.Machine.execSpareEraseOnly stack chan s
  | .spareStartRebuild stack chan => Sys2Proof.Machine.execSpareStartRebuild stack chan s
  | .rowRemap stack chan row => Sys2Proof.Machine.execRowRemap stack chan row s
  | .granModeChange g val => Sys2Proof.Machine.execGranModeChange g val s
  | .refillEnd g => Sys2Proof.Machine.execRefillEnd g s
  | .eccInjArm val => Sys2Proof.Machine.execEccInjArm val s
  | .rawRead val => Sys2Proof.Machine.execRawRead val s
  | .rawWrite val => Sys2Proof.Machine.execRawWrite val s
  | .memEpochDropRead => Sys2Proof.Machine.execMemEpochDropRead s
  | .eccBktRead k => Sys2Proof.Machine.execEccBktRead k s
  | .snapshot => Sys2Proof.Machine.execSnapshot s
  | .stop => Sys2Proof.Machine.execStop s
  | .resume => Sys2Proof.Machine.execResume s
  | .profile => Sys2Proof.Machine.execProfile s
  | .period => Sys2Proof.Machine.execPeriod s
  | .counterWindow => Sys2Proof.Machine.execCounterWindow s
  | .testSlice => Sys2Proof.Machine.execTestSlice s
  | .spareSwap => Sys2Proof.Machine.execSpareSwap s
  | .collDeadline => Sys2Proof.Machine.execCollDeadline s
  | .snapshotComplete part snapid => Sys2Proof.Machine.execSnapshotComplete part snapid s
  | .windowCloseCapture slot => Sys2Proof.Machine.execWindowCloseCapture slot s
  | .event src => Sys2Proof.Machine.execEvent src s
  | .marker port depth bstate gen beat phase fracPs => Sys2Proof.Machine.execMarker port depth bstate gen beat phase fracPs s
  | .markerSend => Sys2Proof.Machine.execMarkerSend s
  | .delayExchange t1 => Sys2Proof.Machine.execDelayExchange t1 s
  | .dreq port id t1 t2 t3 => Sys2Proof.Machine.execDreq port id t1 t2 t3 s
  | .dresp port id t2 t3 t4 => Sys2Proof.Machine.execDresp port id t2 t3 t4 s
  | .markerLoss => Sys2Proof.Machine.execMarkerLoss s
  | .holdoverExpiry => Sys2Proof.Machine.execHoldoverExpiry s
  | .backupMasterTakeover => Sys2Proof.Machine.execBackupMasterTakeover s
  | .beatPeriodWrite val => Sys2Proof.Machine.execBeatPeriodWrite val s
  | .beatCountCapture => Sys2Proof.Machine.execBeatCountCapture s
  | .beatErrRead => Sys2Proof.Machine.execBeatErrRead s
  | .latStatRead => Sys2Proof.Machine.execLatStatRead s
  | .barrierArrival src => Sys2Proof.Machine.execBarrierArrival src s
  | .barrierRelease src => Sys2Proof.Machine.execBarrierRelease src s
  | .barrierRefusal src => Sys2Proof.Machine.execBarrierRefusal src s
  | .groupReset src => Sys2Proof.Machine.execGroupReset src s
  | .resetAcknowledgement src => Sys2Proof.Machine.execResetAcknowledgement src s
  | .eventReq m => Sys2Proof.Machine.execEventReq m s
  | .barrierReset m => Sys2Proof.Machine.execBarrierReset m s
  | .snapshotRead m => Sys2Proof.Machine.execSnapshotRead m s
  | .frameReceive port f ok => Sys2Proof.Machine.execFrameReceive port f ok s
  | .frameSend port => Sys2Proof.Machine.execFrameSend port s
  | .write src => Sys2Proof.Machine.execWrite src s
  | .latchAdd src => Sys2Proof.Machine.execLatchAdd src s
  | .status src => Sys2Proof.Machine.execStatus src s
  | .mgmt src => Sys2Proof.Machine.execMgmt src s
  | .ackTimeout port => Sys2Proof.Machine.execAckTimeout port s
  | .laneLockLoss port => Sys2Proof.Machine.execLaneLockLoss port s
  | .relockExpiry port => Sys2Proof.Machine.execRelockExpiry port s
  | .retrainTimeout port => Sys2Proof.Machine.execRetrainTimeout port s
  | .linkTrain port => Sys2Proof.Machine.execLinkTrain port s
  | .trainingComplete port peer role dim idle pport => Sys2Proof.Machine.execTrainingComplete port peer role dim idle pport s
  | .wavelengthTakeover port lane => Sys2Proof.Machine.execWavelengthTakeover port lane s
  | .portTakeover port => Sys2Proof.Machine.execPortTakeover port s
  | .cartridgeFault c => Sys2Proof.Machine.execCartridgeFault c s
  | .laserFail c k => Sys2Proof.Machine.execLaserFail c k s
  | .marginScan port margins bias => Sys2Proof.Machine.execMarginScan port margins bias s
  | .packetAged port n => Sys2Proof.Machine.execPacketAged port n s
  | .violLeak port => Sys2Proof.Machine.execViolLeak port s
  | .unq port => Sys2Proof.Machine.execUnq port s
  | .retrain port => Sys2Proof.Machine.execRetrain port s
  | .fabPortFail port => Sys2Proof.Machine.execFabPortFail port s
  | .detourWrite x val down2Age => Sys2Proof.Machine.execDetourWrite x val down2Age s
  | .optCartSwap c => Sys2Proof.Machine.execOptCartSwap c s
  | .fabPcntRead port => Sys2Proof.Machine.execFabPcntRead port s
  | .optWaveRead port => Sys2Proof.Machine.execOptWaveRead port s
  | .fabricSet m => Sys2Proof.Machine.execFabricSet m s
  | .fabricQuery m => Sys2Proof.Machine.execFabricQuery m s
  | .ownerRound1 group opseq => Sys2Proof.Machine.execOwnerRound1 group opseq s
  | .round2 group opseq => Sys2Proof.Machine.execRound2 group opseq s
  | .agree group opseq => Sys2Proof.Machine.execAgree group opseq s
  | .hierLevel group opseq level => Sys2Proof.Machine.execHierLevel group opseq level s
  | .collTimeout group opseq => Sys2Proof.Machine.execCollTimeout group opseq s
  | .collGtWrite => Sys2Proof.Machine.execCollGtWrite s
  | .collGtCommit => Sys2Proof.Machine.execCollGtCommit s
  | .gtValidationEnd => Sys2Proof.Machine.execGtValidationEnd s
  | .collStatRead => Sys2Proof.Machine.execCollStatRead s
  | .collDropRead => Sys2Proof.Machine.execCollDropRead s
  | .groupWrite m => Sys2Proof.Machine.execGroupWrite m s
  | .groupCommit m => Sys2Proof.Machine.execGroupCommit m s
  | .hostReset => Sys2Proof.Machine.execHostReset s
  | .hifDbc ring tail => Sys2Proof.Machine.execHifDbc ring tail s
  | .hifDbh ring chead => Sys2Proof.Machine.execHifDbh ring chead s
  | .hifErrhd head => Sys2Proof.Machine.execHifErrhd head s
  | .hifBeatCapture => Sys2Proof.Machine.execHifBeatCapture s
  | .coalesceTimeout ring => Sys2Proof.Machine.execCoalesceTimeout ring s
  | .hello m => Sys2Proof.Machine.execHello m s
  | .identity m => Sys2Proof.Machine.execIdentity m s
  | .sessionOpen m => Sys2Proof.Machine.execSessionOpen m s
  | .sessionProof m late => Sys2Proof.Machine.execSessionProof m late s
  | .sessionClose m => Sys2Proof.Machine.execSessionClose m s
  | .keySet m => Sys2Proof.Machine.execKeySet m s
  | .errlogRead m => Sys2Proof.Machine.execErrlogRead m s
  | .partCreate m => Sys2Proof.Machine.execPartCreate m s
  | .partDestroy m => Sys2Proof.Machine.execPartDestroy m s
  | .partQuery m => Sys2Proof.Machine.execPartQuery m s
  | .preempt m => Sys2Proof.Machine.execPreempt m s
  | .preemptDone part => Sys2Proof.Machine.execPreemptDone part s
  | .bar2Map m => Sys2Proof.Machine.execBar2Map m s
  | .ringCreate m => Sys2Proof.Machine.execRingCreate m s
  | .ringDestroy m => Sys2Proof.Machine.execRingDestroy m s
  | .ringRestart m => Sys2Proof.Machine.execRingRestart m s
  | .ringQuery m => Sys2Proof.Machine.execRingQuery m s
  | .windowOpen m => Sys2Proof.Machine.execWindowOpen m s
  | .windowClose m => Sys2Proof.Machine.execWindowClose m s
  | .errRing m => Sys2Proof.Machine.execErrRing m s
  | .nonceExpiry ch => Sys2Proof.Machine.execNonceExpiry ch s
  | .lockExpiry ch => Sys2Proof.Machine.execLockExpiry ch s
  | .rollingTestDue wing core => Sys2Proof.Machine.execRollingTestDue wing core s
  | .testWithdraw wing => Sys2Proof.Machine.execTestWithdraw wing s
  | .coreTestResult core pass durationMs => Sys2Proof.Machine.execCoreTestResult core pass durationMs s
  | .hallwayLaneSpare dir lane => Sys2Proof.Machine.execHallwayLaneSpare dir lane s
  | .nativeReportSend => Sys2Proof.Machine.execNativeReportSend s
  | .bstCheckRead => Sys2Proof.Machine.execBstCheckRead s
  | .lcSet m => Sys2Proof.Machine.execLcSet m s
  | .patternLoad m image => Sys2Proof.Machine.execPatternLoad m image s
  | .testRun m pass => Sys2Proof.Machine.execTestRun m pass s
  | .ledgerRead m => Sys2Proof.Machine.execLedgerRead m s
  | .reportResend m => Sys2Proof.Machine.execReportResend m s
  | .bladeUndervoltage mv => Sys2Proof.Machine.execBladeUndervoltage mv s
  | .bladeOvervoltage mv => Sys2Proof.Machine.execBladeOvervoltage mv s
  | .pwrOvWarn mv => Sys2Proof.Machine.execPwrOvWarn mv s
  | .pwrUvLimit mv => Sys2Proof.Machine.execPwrUvLimit mv s
  | .standbyLoss mv => Sys2Proof.Machine.execStandbyLoss mv s
  | .voltageRecovery mv => Sys2Proof.Machine.execVoltageRecovery mv s
  | .bladeEnNHigh => Sys2Proof.Machine.execBladeEnNHigh s
  | .governorTick powerW avgW mv below97ms => Sys2Proof.Machine.execGovernorTick powerW avgW mv below97ms s
  | .pwrThermWarn tj8 => Sys2Proof.Machine.execPwrThermWarn tj8 s
  | .thermalThrottle tj8 => Sys2Proof.Machine.execThermalThrottle tj8 s
  | .pwrThermStop tj8 => Sys2Proof.Machine.execPwrThermStop tj8 s
  | .thermalTrip => Sys2Proof.Machine.execThermalTrip s
  | .sitePowerN asserted => Sys2Proof.Machine.execSitePowerN asserted s
  | .sitePowerReport => Sys2Proof.Machine.execSitePowerReport s
  | .profileDecision src asserted => Sys2Proof.Machine.execProfileDecision src asserted s
  | .boot mv => Sys2Proof.Machine.execBoot mv s
  | .mcpBBootTakeover => Sys2Proof.Machine.execMcpBBootTakeover s
  | .mcpHeartbeatMiss => Sys2Proof.Machine.execMcpHeartbeatMiss s
  | .wcStandbyTakeover wing => Sys2Proof.Machine.execWcStandbyTakeover wing s
  | .flashCopyWrite kind => Sys2Proof.Machine.execFlashCopyWrite kind s
  | .pwrErrRead => Sys2Proof.Machine.execPwrErrRead s
  | .profileReq m => Sys2Proof.Machine.execProfileReq m s
  | .policySet m => Sys2Proof.Machine.execPolicySet m s
  | .shutdown m => Sys2Proof.Machine.execShutdown m s
  | .imageWrite m image => Sys2Proof.Machine.execImageWrite m image s
  | .calSet m image => Sys2Proof.Machine.execCalSet m image s
  | .calRead m => Sys2Proof.Machine.execCalRead m s
  | .takeover m => Sys2Proof.Machine.execTakeover m s
  | .counterCapture path off => Sys2Proof.Machine.execCounterCapture path off s
  | .swap x => Sys2Proof.Machine.execSwap x s
  | .cntTrkRead x => Sys2Proof.Machine.execCntTrkRead x s
  | .cntTrcRead y => Sys2Proof.Machine.execCntTrcRead y s
  | .cntTrack m => Sys2Proof.Machine.execCntTrack m s
  | .cntWindow m => Sys2Proof.Machine.execCntWindow m s
  | .traceCfg m => Sys2Proof.Machine.execTraceCfg m s
  | .traceRead m => Sys2Proof.Machine.execTraceRead m s
  | .smbusRead code => Sys2Proof.Machine.execSmbusRead code s
  | .smbusRefused code write => Sys2Proof.Machine.execSmbusRefused code write s
  | .cartService m => Sys2Proof.Machine.execCartService m s
  | .leverOpen c => Sys2Proof.Machine.execLeverOpen c s
  | .cartridgeInsert c => Sys2Proof.Machine.execCartridgeInsert c s
  | .cartridgeLocked c good => Sys2Proof.Machine.execCartridgeLocked c good s
  | .registerWrite who off val => Sys2Proof.Machine.execRegisterWrite who off val s
  | .lockRegained port => Sys2Proof.Machine.execLockRegained port s
  | .lightStop port => Sys2Proof.Machine.execLightStop port s
  | .cartridgeRemoval c => Sys2Proof.Machine.execCartridgeRemoval c s
  | .configurationRequest off => Sys2Proof.Machine.execConfigurationRequest off s
  | .redundancyRowRemap larder inst bank row => Sys2Proof.Machine.execRedundancyRowRemap larder inst bank row s
  | .drainSExpiry => Sys2Proof.Machine.execDrainSExpiry s
  | .lockstepMiscompare => Sys2Proof.Machine.execLockstepMiscompare s
  | .wcPrimaryMiscompare wing => Sys2Proof.Machine.execWcPrimaryMiscompare wing s
  | .mcpATestResult pass => Sys2Proof.Machine.execMcpATestResult pass s

end Sys2Proof.Machine
end

