-- ==== Sys2Proof/Machine/Tick.lean ====
section
/-! DEFINITION. One beat edge (R351 to R353, R357): what happens when no command waits (notes/assumptions/1.md). -/

namespace Sys2Proof.Machine

/-- The counter takes its next value; after a backward offset it is held instead. A period written while UNLOCKED takes effect at the edge. -/
def State.edge (s : State) : State :=
  if s.beat.hold ≠ 0 then { s with beat := { s.beat with hold := s.beat.hold - 1 } }
  else
    let b := { s.beat with count := s.beat.count + 1, phase := 0, nextPeriod := none }
    match s.beat.nextPeriod with
    | some p => ({ s with beat := b } : State).setPeriod p
    | none => { s with beat := b }

/-- Answer the EVENT_REQs that no member has refused in time (R372). -/
def State.answerAsked (s : State) : State :=
  (s.beat.asked.filter (fun a => a.until_ ≤ s.now)).foldl (fun s a => s.answerEvent a 0) s

/-- A beat edge of the enabled unit, the answers due at it, and the gated contributions whose latch has reached its value (R472). -/
def State.tick (s : State) : State := ((if s.rdB rBeatCtl 11 then s.edge else s).answerAsked).releaseGated

end Sys2Proof.Machine
end

