-- ==== Sys2Proof/WellFormed.lean ====
section
/-! DEFINITION. Which commands name something the module has: cores, threads, arrays, ports and the like in range (R27, R158, R151,
R400), a cartridge 1 to 3 (R457), a frame of 40 slots (R410), a mailbox channel (R520, R658). Commands that violate this stand for
nothing the outside world can do; `exec` still answers them. -/

namespace Sys2Proof

/-- An issue names a thread of a core. -/
def Issue.ok (x : Issue) : Bool := x.core < 144 && x.thread < 32
/-- A request arrives on a mailbox channel (0 to 31) or a management channel (32 to 35). -/
def Msg.ok (m : Msg) : Bool := m.ch < 36
/-- A frame has 40 slots (R410). -/
def Frame.ok (f : Frame) : Bool := f.flits.length = 40
/-- A packet's port, or the module itself. -/
def srcOk : Option Nat → Bool
  | some p => p < 52
  | none => true

/-- The well-formedness of a command. -/
def Instr.wf : Instr → Bool
  | .sNop x _ => x.ok
  | .sAdd x _ => x.ok
  | .sSub x _ => x.ok
  | .sAddi x _ => x.ok
  | .sMul x _ => x.ok
  | .sMulhu x _ => x.ok
  | .sMulhs x _ => x.ok
  | .sAnd x _ => x.ok
  | .sOr x _ => x.ok
  | .sXor x _ => x.ok
  | .sAndi x _ => x.ok
  | .sShl x _ => x.ok
  | .sShr x _ => x.ok
  | .sSar x _ => x.ok
  | .sShli x _ => x.ok
  | .sShri x _ => x.ok
  | .sSari x _ => x.ok
  | .sSlt x _ => x.ok
  | .sSltu x _ => x.ok
  | .sSeq x _ => x.ok
  | .sMin x _ => x.ok
  | .sMax x _ => x.ok
  | .sMinu x _ => x.ok
  | .sMaxu x _ => x.ok
  | .sLi x _ => x.ok
  | .sLui x _ => x.ok
  | .sPopc x _ => x.ok
  | .sClz x _ => x.ok
  | .sBfx x _ => x.ok
  | .sB x _ => x.ok
  | .sBeq x _ => x.ok
  | .sBne x _ => x.ok
  | .sBlt x _ => x.ok
  | .sBge x _ => x.ok
  | .sBltu x _ => x.ok
  | .sBgeu x _ => x.ok
  | .sCall x _ => x.ok
  | .sJr x _ => x.ok
  | .sCrd x _ => x.ok
  | .sCwr x _ => x.ok
  | .sPcnt x _ => x.ok
  | .sBrk x _ => x.ok
  | .sEnd x _ => x.ok
  | .vNop x _ => x.ok
  | .vAdd x _ => x.ok
  | .vSub x _ => x.ok
  | .vMul x _ => x.ok
  | .vFma x _ => x.ok
  | .vFms x _ => x.ok
  | .vDiv x _ => x.ok
  | .vSqrt x _ => x.ok
  | .vMax x _ => x.ok
  | .vMin x _ => x.ok
  | .vAbs x _ => x.ok
  | .vNeg x _ => x.ok
  | .vAdds x _ => x.ok
  | .vSubs x _ => x.ok
  | .vMulh x _ => x.ok
  | .vAnd x _ => x.ok
  | .vOr x _ => x.ok
  | .vXor x _ => x.ok
  | .vNot x _ => x.ok
  | .vShl x _ => x.ok
  | .vShr x _ => x.ok
  | .vSar x _ => x.ok
  | .vLdexp x _ => x.ok
  | .vExp2 x _ => x.ok
  | .vLog2 x _ => x.ok
  | .vCmp x _ => x.ok
  | .vSel x _ => x.ok
  | .vPand x _ => x.ok
  | .vPor x _ => x.ok
  | .vPxor x _ => x.ok
  | .vPnot x _ => x.ok
  | .vBcast x _ => x.ok
  | .vIdx x _ => x.ok
  | .vGetl x _ => x.ok
  | .vSetl x _ => x.ok
  | .vPerm x _ => x.ok
  | .vMov x _ => x.ok
  | .vRsum x _ => x.ok
  | .vRssq x _ => x.ok
  | .vRmax x _ => x.ok
  | .vRmin x _ => x.ok
  | .vMomAdd x _ => x.ok
  | .vMomCmb x _ => x.ok
  | .vMomRed x _ => x.ok
  | .vCvt x _ => x.ok
  | .vQscl x _ => x.ok
  | .vCvtq x _ => x.ok
  | .vCvtf x _ => x.ok
  | .vPack4 x _ => x.ok
  | .vUnpk4 x _ => x.ok
  | .vPack6 x _ => x.ok
  | .vUnpk6 x _ => x.ok
  | .mNop x => x.ok
  | .mTile x _ => x.ok
  | .mTset x _ => x.ok
  | .mTcpy x _ => x.ok
  | .mTadd x _ => x.ok
  | .cNop x => x.ok
  | .cLdb x _ => x.ok
  | .cLdh x _ => x.ok
  | .cLdw x _ => x.ok
  | .cLdd x _ => x.ok
  | .cLdbs x _ => x.ok
  | .cLdhs x _ => x.ok
  | .cLdws x _ => x.ok
  | .cStb x _ => x.ok
  | .cSth x _ => x.ok
  | .cStw x _ => x.ok
  | .cStd x _ => x.ok
  | .cGld x _ => x.ok
  | .cGst x _ => x.ok
  | .cVld x _ => x.ok
  | .cVst x _ => x.ok
  | .cVgth x _ => x.ok
  | .cVsct x _ => x.ok
  | .cPld x _ => x.ok
  | .cPst x _ => x.ok
  | .cTld x _ => x.ok
  | .cTst x _ => x.ok
  | .cFadd x _ => x.ok
  | .cSwap x _ => x.ok
  | .cCas x _ => x.ok
  | .cDma x _ => x.ok
  | .cLpost x _ => x.ok
  | .cFence x => x.ok
  | .cLset x _ => x.ok
  | .cLadd x _ => x.ok
  | .cLwait x _ => x.ok
  | .cLrd x _ => x.ok
  | .cLarr x _ => x.ok
  | .loadReturn core thread _ => core < 144 && thread < 32
  | .wcException core thread => core < 144 && thread < 32
  | .threadStart core thread ring dcount => core < 144 && thread < 32 && ring < 64 && dcount < 0x100000000
  | .threadHold core thread => core < 144 && thread < 32
  | .threadRelease core thread => core < 144 && thread < 32
  | .coreGate core => core < 144
  | .latchWaitTimeout core thread => core < 144 && thread < 32
  | .tileStart array half => array < 576 && half < 3
  | .runComplete array half fault => array < 576 && half < 3 && fault < 3
  | .tileEnd array half => array < 576 && half.half < 3
  | .itemReissue ring dcount item core thread => ring < 64 && dcount < 0x100000000 && item < 0x100000000 && core < 144 && thread < 32
  | .arrayTest array _ _ => array < 576
  | .arrRemapWrite array _ => array < 576
  | .arrInjArm array _ => array < 576
  | .arrErrRead array => array < 576
  | .coreFence core => core < 144
  | .faultTakeover core cause _ => core < 144 && cause.thread.all (· < 32)
  | .takeoverCommit logical => logical < 128
  | .coreDrain core _ => core < 144
  | .handoverFreeze core => core < 144
  | .handoverCommit core => core < 144
  | .coreHoldAll core _ => core < 144
  | .coreExc3Read core => core < 144
  | .coreExc0Read core => core < 144
  | .ledgerClear core _ => core < 144
  | .descriptorTake ring _ => ring < 64
  | .commandWaitTimeout ring dcount => ring < 64 && dcount < 0x100000000
  | .nop ring dcount => ring < 64 && dcount < 0x100000000
  | .matmul ring dcount => ring < 64 && dcount < 0x100000000
  | .quantize ring dcount => ring < 64 && dcount < 0x100000000
  | .convert ring dcount => ring < 64 && dcount < 0x100000000
  | .copy ring dcount => ring < 64 && dcount < 0x100000000
  | .fill ring dcount => ring < 64 && dcount < 0x100000000
  | .reduceSum ring dcount => ring < 64 && dcount < 0x100000000
  | .reduceSsq ring dcount => ring < 64 && dcount < 0x100000000
  | .reduceMax ring dcount => ring < 64 && dcount < 0x100000000
  | .reduceMin ring dcount => ring < 64 && dcount < 0x100000000
  | .moments ring dcount => ring < 64 && dcount < 0x100000000
  | .sort ring dcount => ring < 64 && dcount < 0x100000000
  | .gather ring dcount => ring < 64 && dcount < 0x100000000
  | .scatterAdd ring dcount => ring < 64 && dcount < 0x100000000
  | .kernel ring dcount => ring < 64 && dcount < 0x100000000
  | .allReduce ring dcount => ring < 64 && dcount < 0x100000000
  | .reduceScatter ring dcount => ring < 64 && dcount < 0x100000000
  | .allGather ring dcount => ring < 64 && dcount < 0x100000000
  | .broadcast ring dcount => ring < 64 && dcount < 0x100000000
  | .lrReduce ring dcount => ring < 64 && dcount < 0x100000000
  | .kSplitCombine ring dcount => ring < 64 && dcount < 0x100000000
  | .commandComplete ring dcount => ring < 64 && dcount < 0x100000000
  | .checkReexec ring dcount item core _ => ring < 64 && dcount < 0x100000000 && item < 0x100000000 && core < 144
  | .thirdExecution ring dcount item core _ => ring < 64 && dcount < 0x100000000 && item < 0x100000000 && core < 144
  | .dmaStart engine queue => engine < 160 && queue < 4
  | .dmaComplete engine queue => engine < 160 && queue < 4
  | .bar2Read off _ => off < 0x10000000000
  | .bar2Write off bytes => off < 0x10000000000 && bytes.length ≤ 64
  | .scrubRead addr => addr < 0x1000000000000
  | .bucketLeak k => k < 320
  | .rebuildEnd stack => stack < 8
  | .spareEraseRebuild stack chan => stack < 8 && chan < 20
  | .spareEraseOnly stack chan => stack < 8 && chan < 20
  | .spareStartRebuild stack chan => stack < 8 && chan < 20
  | .rowRemap stack chan row => stack < 8 && chan < 20 && row < 65536
  | .granModeChange g _ => g < 384
  | .refillEnd g => g < 384
  | .eccInjArm _ => true
  | .rawRead _ => true
  | .rawWrite _ => true
  | .memEpochDropRead => true
  | .eccBktRead k => k < 320
  | .snapshot => true
  | .stop => true
  | .resume => true
  | .profile => true
  | .period => true
  | .counterWindow => true
  | .testSlice => true
  | .spareSwap => true
  | .collDeadline => true
  | .snapshotComplete part snapid => part < 8 && snapid < 0x100000000
  | .windowCloseCapture slot => slot < 16
  | .event src => srcOk src
  | .marker port _ _ _ _ _ _ => port < 52
  | .markerSend => true
  | .delayExchange _ => true
  | .dreq port _ _ _ _ => port < 52
  | .dresp port _ _ _ _ => port < 52
  | .markerLoss => true
  | .holdoverExpiry => true
  | .backupMasterTakeover => true
  | .beatPeriodWrite _ => true
  | .beatCountCapture => true
  | .beatErrRead => true
  | .latStatRead => true
  | .barrierArrival src => srcOk src
  | .barrierRelease src => srcOk src
  | .barrierRefusal src => srcOk src
  | .groupReset src => srcOk src
  | .resetAcknowledgement src => srcOk src
  | .eventReq m => m.ok
  | .barrierReset m => m.ok
  | .snapshotRead m => m.ok
  | .frameReceive port f _ => port < 52 && f.ok
  | .frameSend port => port < 52
  | .write src => srcOk src
  | .latchAdd src => srcOk src
  | .status src => srcOk src
  | .mgmt src => srcOk src
  | .ackTimeout port => port < 52
  | .laneLockLoss port => port < 52
  | .relockExpiry port => port < 52
  | .retrainTimeout port => port < 52
  | .linkTrain port => port < 52
  | .trainingComplete port _ _ _ _ _ => port < 52
  | .wavelengthTakeover port lane => port < 52 && lane < 4
  | .portTakeover port => port < 52
  | .cartridgeFault c => 1 ≤ c && c ≤ 3
  | .laserFail c k => 1 ≤ c && c ≤ 3 && k < 5
  | .marginScan port _ _ => port < 52
  | .packetAged port _ => port < 52
  | .violLeak port => port < 52
  | .unq port => port < 52
  | .retrain port => port < 52
  | .fabPortFail port => port < 52
  | .detourWrite x _ _ => x < 64
  | .optCartSwap c => 1 ≤ c && c ≤ 3
  | .fabPcntRead port => port < 52
  | .optWaveRead port => port < 52
  | .fabricSet m => m.ok
  | .fabricQuery m => m.ok
  | .ownerRound1 group opseq => group < 4096 && opseq < 0x100000000
  | .round2 group opseq => group < 4096 && opseq < 0x100000000
  | .agree group opseq => group < 4096 && opseq < 0x100000000
  | .hierLevel group opseq level => group < 4096 && opseq < 0x100000000 && level < 4
  | .collTimeout group opseq => group < 4096 && opseq < 0x100000000
  | .collGtWrite => true
  | .collGtCommit => true
  | .gtValidationEnd => true
  | .collStatRead => true
  | .collDropRead => true
  | .groupWrite m => m.ok
  | .groupCommit m => m.ok
  | .hostReset => true
  | .hifDbc ring _ => ring < 64
  | .hifDbh ring _ => ring < 64
  | .hifErrhd _ => true
  | .hifBeatCapture => true
  | .coalesceTimeout ring => ring < 64
  | .hello m => m.ok
  | .identity m => m.ok
  | .sessionOpen m => m.ok
  | .sessionProof m _ => m.ok
  | .sessionClose m => m.ok
  | .keySet m => m.ok
  | .errlogRead m => m.ok
  | .partCreate m => m.ok
  | .partDestroy m => m.ok
  | .partQuery m => m.ok
  | .preempt m => m.ok
  | .preemptDone part => part < 8
  | .bar2Map m => m.ok
  | .ringCreate m => m.ok
  | .ringDestroy m => m.ok
  | .ringRestart m => m.ok
  | .ringQuery m => m.ok
  | .windowOpen m => m.ok
  | .windowClose m => m.ok
  | .errRing m => m.ok
  | .nonceExpiry ch => ch < 32
  | .lockExpiry ch => ch < 32
  | .rollingTestDue wing core => wing < 2 && core < 144
  | .testWithdraw wing => wing < 2
  | .coreTestResult core _ _ => core < 144
  | .hallwayLaneSpare dir _ => dir < 2
  | .nativeReportSend => true
  | .bstCheckRead => true
  | .lcSet m => m.ok
  | .patternLoad m _ => m.ok
  | .testRun m _ => m.ok
  | .ledgerRead m => m.ok
  | .reportResend m => m.ok
  | .bladeUndervoltage _ => true
  | .bladeOvervoltage _ => true
  | .pwrOvWarn _ => true
  | .pwrUvLimit _ => true
  | .standbyLoss _ => true
  | .voltageRecovery _ => true
  | .bladeEnNHigh => true
  | .governorTick _ _ _ _ => true
  | .pwrThermWarn _ => true
  | .thermalThrottle _ => true
  | .pwrThermStop _ => true
  | .thermalTrip => true
  | .sitePowerN _ => true
  | .sitePowerReport => true
  | .profileDecision src _ => src < 0x4000
  | .boot _ => true
  | .mcpBBootTakeover => true
  | .mcpHeartbeatMiss => true
  | .wcStandbyTakeover wing => wing < 2
  | .flashCopyWrite kind => kind < 8
  | .pwrErrRead => true
  | .profileReq m => m.ok
  | .policySet m => m.ok
  | .shutdown m => m.ok
  | .imageWrite m _ => m.ok
  | .calSet m _ => m.ok
  | .calRead m => m.ok
  | .takeover m => m.ok
  | .counterCapture _ off => off < 0x80000
  | .swap x => x < 24
  | .cntTrkRead x => x < 24
  | .cntTrcRead y => y < 9
  | .cntTrack m => m.ok
  | .cntWindow m => m.ok
  | .traceCfg m => m.ok
  | .traceRead m => m.ok
  | .smbusRead code => code < 256
  | .smbusRefused code _ => code < 256
  | .cartService m => m.ok
  | .leverOpen c => 1 ≤ c && c ≤ 3
  | .cartridgeInsert c => 1 ≤ c && c ≤ 3
  | .cartridgeLocked c _ => 1 ≤ c && c ≤ 3
  | .registerWrite _ off _ => off < 0x2000000 || (0x010200000000 ≤ off && off < 0x010200120000)
  | .lockRegained port => port < 52
  | .lightStop port => port < 52
  | .cartridgeRemoval c => 1 ≤ c && c ≤ 3
  | .configurationRequest off => off < 4096
  | .redundancyRowRemap _ inst bank row => inst < 144 && bank < 64 && row < 65536
  | .drainSExpiry => true
  | .lockstepMiscompare => true
  | .wcPrimaryMiscompare wing => wing < 2
  | .mcpATestResult _ => true

end Sys2Proof
end

