-- ==== Sys2Proof/Safety.lean ====
section
/-! DEFINITION. What a safe run is, and the conditions and frames that statements use: the canonical form of memory and of the register
file, a queue of well-formed commands, a bundle of one slot that may issue, and what such a bundle leaves. -/

namespace Sys2Proof.Machine

/-- Memory is in its canonical form: addresses strictly rising, no listed byte equal to what an unlisted address reads as. -/
abbrev Memory.wf (m : List Host.Cell) : Prop := Tab.wf (fun _ => (0 : Byte)) m

/-- The register file is in its canonical form. -/
abbrev Regs.wf (r : Tab W32) : Prop := Tab.wf resetReg r

/-- A state whose memory and registers are in canonical form. -/
def State.canonical (s : State) : Prop := Memory.wf s.mem ∧ Regs.wf s.regs

/-- Every waiting command names something the module has. -/
abbrev State.queueOk (s : State) : Prop := ∀ c ∈ s.pending, c.wf = true

/-- A step ends neither in a fault nor in a refusal. -/
def Outcome.runs {σ φ ρ : Type} : Host.Outcome σ φ ρ → Prop
  | .next _ => True
  | .fault _ => False
  | .refused _ => False

/-! ### Bundles of one slot -/

/-- A slot command that fills its bundle alone and that its thread may issue now (R160, R161, R163): the thread is READY with no slot
waiting, its core issues, and no register of `regs` waits for a return. -/
def State.mayIssue (s : State) (x : Issue) (regs : List RegRef) : Prop :=
  x.more = false ∧ (s.thr x.core x.thread).st = .ready ∧ (s.thr x.core x.thread).bundle = [] ∧ s.issues x.core = true
    ∧ ∀ r ∈ regs, r ∉ (s.thr x.core x.thread).pendingRegs

/-- A core remembers the beat of its last bundle (R197, ISSUING). -/
def State.marked (s : State) (c : Nat) : State := s.setCore c { s.core c with issued := some s.now }

/-- The slot issued: its thread's context is `y`, its core shows the issue, and nothing else changed but the counters and the model's own
free-value counter. -/
def Ran (i : Instr) (s : State) (x : Issue) (y : Thread) : Prop :=
  ∃ t, exec i s = .next t ∧ t = { (s.marked x.core).setThr x.core x.thread y with cnt := t.cnt, freeCtr := t.freeCtr }

/-- A thread after a bundle that writes one scalar register. -/
def Thread.afterS (y : Thread) (d : BitVec 5) (v : W64) : Thread :=
  { y with s := tput (fun _ => 0) y.s d.toNat v, pc := y.pc + 32 }

/-- A thread after a bundle that only moves the pc. -/
def Thread.goto (y : Thread) (pc : W64) : Thread := { y with pc }

/-- A thread after a bundle that writes one predicate register and raises flags. -/
def Thread.afterP (y : Thread) (d : Nat) (v : Pred) (flags : Nat) : Thread :=
  { y with p := tput (fun _ => 0) y.p d v, pc := y.pc + 32, flags := y.flags ||| BitVec.ofNat 5 flags }

/-- A thread after a bundle that writes one vector register and raises flags. -/
def Thread.afterV (y : Thread) (d : Nat) (v : Vec) (flags : Nat) : Thread :=
  { y with v := tput (fun _ => 0) y.v d v, pc := y.pc + 32, flags := y.flags ||| BitVec.ofNat 5 flags }

/-- The flags of all enabled lanes together. -/
def VC.allFlags (c : VC) (g : Nat → Nat) : Nat := (List.range c.L).foldl (fun a k => a ||| (if c.en k then g k else 0)) 0

/-- A lane-wise V slot ran (R215): enabled lanes of vd hold `g`, disabled lanes keep their element, the enabled lanes' flags are ORed
into the thread's. -/
def LanesRan (i : Instr) (s : State) (x : Issue) (c : VC) (g : Nat → Nat × Nat) : Prop :=
  ∃ X : Vec, (∀ k < c.L, lane X c.w k = if c.en k then (g k).1 % 2 ^ c.w else c.old k)
    ∧ Ran i s x ((s.thr x.core x.thread).afterV c.vd X (c.allFlags (fun k => (g k).2)))

/-- A V slot that writes every lane of vd ran. -/
def AllLanesRan (i : Instr) (s : State) (x : Issue) (c : VC) (w L : Nat) (flags : Nat) (g : Nat → Nat) : Prop :=
  ∃ X : Vec, (∀ k < L, lane X w k = g k % 2 ^ w) ∧ Ran i s x ((s.thr x.core x.thread).afterV c.vd X flags)

/-- The V slot's fields with the thread that issues it. -/
def State.vc (s : State) (x : Issue) (f : VF) : VC := mkVC f (s.thr x.core x.thread) ((s.free 0).getLsbD 0)

/-- Registers of a V slot with two sources. -/
def VC.regs2 (c : VC) : List RegRef := .v c.vd :: c.srcAB ++ c.psrc
/-- Registers of a V slot with one source. -/
def VC.regs1 (c : VC) : List RegRef := .v c.vd :: c.srcA ++ c.psrc

/-! ### Accesses -/

/-- n bytes at a physical address whose granules hold valid check bits and clear tags. -/
def State.cleanAt (s : State) (pa n : Nat) : Prop := ∀ g ∈ granules pa n, s.delta g = 0

/-- No fence holds back the C slot of the thread (R241, R246). -/
def State.fenceClear (s : State) (x : Issue) : Prop :=
  (s.thr x.core x.thread).fence = false
    ∨ ∀ o ∈ (s.thr x.core x.thread).outs, o.kind ≠ .globalStore ∧ o.kind ≠ .atomic

/-- Room for one more global access of the thread and of the core (R165). -/
def State.room (s : State) (c t : Nat) : Prop :=
  ((s.thr c t).outs.filter (fun o => o.kind ≠ .localLoad)).length < 8 ∧ s.coreOuts c < 128

/-- A thread with one more access outstanding, its results due at the return (R163, R248). -/
def Thread.issued (y : Thread) (kind : AccKind) (writes : List RegWrite) (addrs : List Nat := []) : Thread :=
  { y with pc := y.pc + 32, outs := y.outs ++ [⟨kind, false, writes, y.pc, addrs⟩] }

/-- Bytes b stand at physical address pa of t, and every other byte is as in s. -/
def State.storedAt (s t : State) (pa : Nat) (b : List Byte) : Prop :=
  ∀ a, t.byte a = if pa ≤ a ∧ a < pa + b.length then b.getD (a - pa) 0 else s.byte a

/-- A store ran: the thread's context is `y`, the bytes b stand at pa, every other byte of memory is as before, and nothing else changed
but the check bits and the counters. -/
def StoreRan (i : Instr) (s : State) (x : Issue) (y : Thread) (pa : Nat) (b : List Byte) : Prop :=
  ∃ t, exec i s = .next t ∧ t = { (s.marked x.core).setThr x.core x.thread y with mem := t.mem, ecc := t.ecc, cnt := t.cnt }
    ∧ s.storedAt t pa b

/-! ### Commands -/

/-- Memory holds no error: every granule's check bits are valid and no flip is armed. -/
def State.noErrors (s : State) : Prop := s.ecc = [] ∧ s.memx.armed = none

/-- The partition's trace ring and the module's are off. -/
def State.noTrace (s : State) (p : Nat) : Prop := s.rdB (rCntTrc p) 31 = false ∧ s.rdB (rCntTrc 8) 31 = false

/-- A command of an opcode that may start now (R251). -/
def State.startable (s : State) (ring dc op : Nat) (k : Cmd) : Prop :=
  s.cmd ring dc = some k ∧ k.ring = ring ∧ k.dcount = dc ∧ k.opcode = op ∧ s.gate k = .go

/-- The state in which a command's own effect starts: its record RUNNING, and the start in the ledgers of the cores it runs on (R194). -/
def State.begun (s : State) (k : Cmd) : State := (s.beginCmd k).recordStarts k

/-- A command ran to the end of its destination: the state in which it began with the memory `m`, and its own record WRITTEN; threads,
latches, arrays, rings, partitions and the host are as they were then. -/
def CmdRan (i : Instr) (s : State) (k : Cmd) (m : State → List Host.Cell) : Prop :=
  ∃ t k', exec i s = .next t ∧ t.mem = m (s.begun k) ∧ t.cmd k.ring k.dcount = some k' ∧ k'.phase = .written ∧ k'.err = k.err
    ∧ k'.beatStart = s.now ∧ k'.beatEnd = s.now
    ∧ t = { s.begun k with mem := t.mem, ecc := t.ecc, cnt := t.cnt, cmds := t.cmds, freeCtr := t.freeCtr }

/-- An address inside the rows of a tensor or its scales. -/
def State.inTensor (s : State) (t : Tensor) (rows cols : Nat) (a : Nat) : Prop :=
  (∃ i < rows, s.physOf t.base + i * t.pitch cols ≤ a ∧ a < s.physOf t.base + i * t.pitch cols + rowBytes t.fmt cols)
    ∨ (t.scaled = true ∧ s.physOf t.sbase ≤ a ∧ a < s.physOf t.sbase + t.scSize rows cols)

/-- A physical range that lies in DRAM, or outside it. -/
def oneMemory (a n : Nat) : Prop := a + n ≤ dramEnd ∨ dramEnd ≤ a

/-! ### Messages -/

/-- A message command: its request, its message code, the bytes of its body, and the channels that may send it (R525). -/
structure Request where
  m : Msg
  code : Nat
  size : Nat
  who : Chan → Bool

/-- The request that a message command carries. -/
def requestOf : Instr → Option Request
  | .hello m => some ⟨m, 0x0001, 4, anyChan⟩
  | .identity m => some ⟨m, 0x0002, 0, anyChan⟩
  | .sessionOpen m => some ⟨m, 0x0010, 32, fun x => x.bind = .unbound⟩
  | .sessionProof m _ => some ⟨m, 0x0011, 32, fun x => x.bind = .opening⟩
  | .sessionClose m => some ⟨m, 0x0012, 0, isBound⟩
  | .keySet m => some ⟨m, 0x0013, 48, hasRole [.factory, .operator]⟩
  | .errlogRead m => some ⟨m, 0x0014, 16, isBound⟩
  | .partCreate m => some ⟨m, 0x0020, 192, hasRole [.operator]⟩
  | .partDestroy m => some ⟨m, 0x0021, 1, hasRole [.operator]⟩
  | .partQuery m => some ⟨m, 0x0022, 1, hasRole [.operator, .service, .tenant]⟩
  | .preempt m => some ⟨m, 0x0023, 2, hasRole [.operator, .tenant]⟩
  | .bar2Map m => some ⟨m, 0x0024, 1008, hasRole [.operator, .tenant]⟩
  | .ringCreate m => some ⟨m, 0x0030, 24, hasRole [.operator, .tenant]⟩
  | .ringDestroy m => some ⟨m, 0x0031, 1, hasRole [.operator, .tenant]⟩
  | .ringRestart m => some ⟨m, 0x0032, 1, hasRole [.operator, .tenant]⟩
  | .ringQuery m => some ⟨m, 0x0033, 1, hasRole [.operator, .service, .tenant]⟩
  | .windowOpen m => some ⟨m, 0x0040, 0, hasRole [.operator, .service]⟩
  | .windowClose m => some ⟨m, 0x0041, 0, isBound⟩
  | .errRing m => some ⟨m, 0x0050, 10, hasRole [.operator, .service]⟩
  | .lcSet m => some ⟨m, 0x0110, 1, isBound⟩
  | .patternLoad m _ => some ⟨m, 0x0111, 1008, hasRole [.operator, .service]⟩
  | .testRun m _ => some ⟨m, 0x0112, 4, hasRole [.service]⟩
  | .ledgerRead m => some ⟨m, 0x0113, 8, hasRole [.operator, .service]⟩
  | .reportResend m => some ⟨m, 0x0114, 8, hasRole [.operator, .service]⟩
  | .fabricSet m => some ⟨m, 0x0120, 480, hasRole [.operator]⟩
  | .fabricQuery m => some ⟨m, 0x0121, 0, hasRole [.operator, .service]⟩
  | .groupWrite m => some ⟨m, 0x0122, 1008, hasRole [.operator, .tenant]⟩
  | .groupCommit m => some ⟨m, 0x0123, 0, hasRole [.operator, .tenant]⟩
  | .eventReq m => some ⟨m, 0x0124, 20, hasRole [.operator, .tenant]⟩
  | .barrierReset m => some ⟨m, 0x0125, 10, hasRole [.operator, .tenant]⟩
  | .snapshotRead m => some ⟨m, 0x0126, 12, hasRole [.operator, .service, .tenant]⟩
  | .profileReq m => some ⟨m, 0x0130, 1, hasRole [.operator]⟩
  | .policySet m => some ⟨m, 0x0131, 10, hasRole [.operator]⟩
  | .shutdown m => some ⟨m, 0x0132, 0, hasRole [.operator, .service]⟩
  | .imageWrite m _ => some ⟨m, 0x0133, 1008, hasRole [.operator, .service]⟩
  | .calSet m _ => some ⟨m, 0x0134, 1008, hasRole [.service, .factory]⟩
  | .calRead m => some ⟨m, 0x0135, 4, hasRole [.operator, .service]⟩
  | .takeover m => some ⟨m, 0x0136, 1, hasRole [.service]⟩
  | .cntTrack m => some ⟨m, 0x0140, 16, hasRole [.operator, .tenant]⟩
  | .cntWindow m => some ⟨m, 0x0141, 24, hasRole [.operator, .tenant]⟩
  | .traceCfg m => some ⟨m, 0x0142, 16, hasRole [.operator, .tenant]⟩
  | .traceRead m => some ⟨m, 0x0143, 4, hasRole [.operator, .service]⟩
  | .cartService m => some ⟨m, 0x0150, 1, hasRole [.operator, .service]⟩
  | _ => none

/-- A request on a channel that is there and idle, and on a management channel with a new TAG. -/
def State.fresh (s : State) (r : Request) : Prop :=
  r.m.ch < 36 ∧ (s.chan r.m.ch).busy = false ∧ (32 ≤ r.m.ch → (s.chan r.m.ch).lastTag.any (fun l => l.1 = r.m.tag) = false)

/-- The session identifier that a channel expects (R524). -/
def Chan.want (x : Chan) : W32 := if x.bind = .bound || x.bind = .opening then x.sid else 0

/-- A request whose LEN and SID its channel and message permit (R522, R524). -/
def State.wellFormed (s : State) (r : Request) : Prop :=
  r.m.len.toNat ≤ 1008 ∧ r.m.len.toNat ≤ r.size ∧ r.m.sid = (s.chan r.m.ch).want

/-- A request of a version that its channel speaks (R527). -/
def State.speaks (s : State) (r : Request) : Prop :=
  r.code = 1 ∨ r.code = 2 ∨ ((s.chan r.m.ch).noVersion = false ∧ r.m.version = (s.chan r.m.ch).version)

/-- A request that meets no general refusal: its message's own effect follows. -/
def State.accepts (s : State) (r : Request) : Prop :=
  s.fresh r ∧ (s.chan r.m.ch).bind ≠ .locked ∧ s.wellFormed r ∧ s.speaks r ∧ s.mayServe r.code (s.chan r.m.ch) = true
    ∧ r.who (s.chan r.m.ch) = true

/-- The body that a message's meaning reads: bytes beyond LEN are zero. -/
def Request.text (r : Request) : List Byte := padTo r.size (r.m.body.take r.m.len.toNat)

/-- A message command served: the response of a status and a body stands in its channel, and `P` holds of the state it leaves. -/
def Served (i : Instr) (s : State) (r : Request) (st : W16) (b : List Byte) (P : State → Prop) : Prop :=
  ∃ t, exec i s = .next t ∧ t.resp.drop 16 = b ∧ leAt t.resp 0 2 = r.code ∧ leAt t.resp 4 4 = r.m.tag.toNat ∧ leAt t.resp 8 2 = st.toNat
    ∧ (t.chan r.m.ch).done = true ∧ (t.chan r.m.ch).busy = false ∧ (t.chan r.m.ch).resp = t.resp ∧ P t

/-- What a response touches: the channels, the interrupts and the answer. The rest of t is as in u. -/
def Aside (u t : State) : Prop :=
  t = { u with resp := t.resp, host := { u.host with chans := t.host.chans, irqs := t.host.irqs } }

/-! ### Events -/

/-- The first event that is due is `e`, of a kind (R365). -/
def State.nextDue (s : State) (kind : Nat) (e : Ev) : Prop :=
  s.beat.events.find? (fun e => decide (e.beat ≤ s.now) && !s.waiting e) = some e ∧ e.kind = kind

end Sys2Proof.Machine
end

