-- ==== Sys2Proof/Certificates/Slice0/Obligations.lean ====
section
/-! DEFINITION. The statements for the provers. -/

open Sys2Proof Sys2Proof.Machine

/-! ### The block -/

/-- A step with a command at the front of the queue is exec of that command on the state with the rest of the queue. -/
def Obligations.StepRunsFront : Prop :=
  ∀ (c : Instr) (rest : List Instr) (s : State), s.pending = c :: rest → step s = exec c { s with pending := rest }

/-! ### The S slot -/

/-- R210: a scalar slot with two sources writes sd, and the bundle changes nothing else but the pc; for every operand value. -/
def Obligations.ScalarTwoSources : Prop :=
  ∀ (s : State) (x : Issue) (f : SF), f.rsv = 0 → s.mayIssue x [.s f.sd.toNat, .s f.sa.toNat, .s f.sb.toNat] →
    let y := s.thr x.core x.thread
    let a := y.sreg f.sa.toNat
    let b := y.sreg f.sb.toNat
    Ran (.sAdd x f) s x (y.afterS f.sd (a + b))
    ∧ Ran (.sSub x f) s x (y.afterS f.sd (a - b))
    ∧ Ran (.sMul x f) s x (y.afterS f.sd (a * b))
    ∧ Ran (.sMulhu x f) s x (y.afterS f.sd (BitVec.ofNat 64 (a.toNat * b.toNat / 2 ^ 64)))
    ∧ Ran (.sMulhs x f) s x (y.afterS f.sd (BitVec.ofInt 64 (a.toInt * b.toInt / 2 ^ 64)))
    ∧ Ran (.sAnd x f) s x (y.afterS f.sd (a &&& b))
    ∧ Ran (.sOr x f) s x (y.afterS f.sd (a ||| b))
    ∧ Ran (.sXor x f) s x (y.afterS f.sd (a ^^^ b))
    ∧ Ran (.sShl x f) s x (y.afterS f.sd (a <<< (b.toNat % 64)))
    ∧ Ran (.sShr x f) s x (y.afterS f.sd (a >>> (b.toNat % 64)))
    ∧ Ran (.sSar x f) s x (y.afterS f.sd (a.sshiftRight (b.toNat % 64)))
    ∧ Ran (.sSlt x f) s x (y.afterS f.sd (if a.toInt < b.toInt then 1 else 0))
    ∧ Ran (.sSltu x f) s x (y.afterS f.sd (if a.toNat < b.toNat then 1 else 0))
    ∧ Ran (.sSeq x f) s x (y.afterS f.sd (if a = b then 1 else 0))
    ∧ Ran (.sMin x f) s x (y.afterS f.sd (if a.toInt < b.toInt then a else b))
    ∧ Ran (.sMax x f) s x (y.afterS f.sd (if a.toInt < b.toInt then b else a))
    ∧ Ran (.sMinu x f) s x (y.afterS f.sd (if a.toNat < b.toNat then a else b))
    ∧ Ran (.sMaxu x f) s x (y.afterS f.sd (if a.toNat < b.toNat then b else a))

/-- R210: scalar slots with one source, an immediate or a predicate register; bits of IMM that a shift or a field does not name are
ignored. -/
def Obligations.ScalarOneSource : Prop :=
  ∀ (s : State) (x : Issue) (f : SF), f.rsv = 0 →
    let y := s.thr x.core x.thread
    let a := y.sreg f.sa.toNat
    let imm := f.imm.signExtend 64
    (s.mayIssue x [.s f.sd.toNat, .s f.sa.toNat] →
      Ran (.sAddi x f) s x (y.afterS f.sd (a + imm))
      ∧ Ran (.sAndi x f) s x (y.afterS f.sd (a &&& imm))
      ∧ Ran (.sShli x f) s x (y.afterS f.sd (a <<< (f.imm.toNat % 64)))
      ∧ Ran (.sShri x f) s x (y.afterS f.sd (a >>> (f.imm.toNat % 64)))
      ∧ Ran (.sSari x f) s x (y.afterS f.sd (a.sshiftRight (f.imm.toNat % 64)))
      ∧ Ran (.sLui x f) s x (y.afterS f.sd (BitVec.ofNat 64 (f.imm.toNat * 2 ^ 32 + a.toNat % 2 ^ 32)))
      ∧ Ran (.sPopc x f) s x (y.afterS f.sd (BitVec.ofNat 64 ((List.range 64).filter (fun k => a.getLsbD k)).length))
      ∧ (∃ n : Nat, n ≤ 64 ∧ Ran (.sClz x f) s x (y.afterS f.sd (BitVec.ofNat 64 n))
          ∧ (∀ k < 64, 64 - n ≤ k → a.getLsbD k = false) ∧ (n < 64 → a.getLsbD (63 - n) = true))
      ∧ Ran (.sBfx x f) s x (y.afterS f.sd
          (BitVec.ofNat 64 (a.toNat / 2 ^ (f.imm.toNat % 64) % 2 ^ (f.imm.toNat / 64 % 64 + 1)))))
    ∧ (s.mayIssue x [.s f.sd.toNat] → Ran (.sLi x f) s x (y.afterS f.sd imm))
    ∧ (s.mayIssue x [.s f.sd.toNat, .p (f.imm.toNat % 8)] →
      Ran (.sPcnt x f) s x (y.afterS f.sd
        (BitVec.ofNat 64 ((List.range 512).filter (fun k => (y.preg (f.imm.toNat % 8)).getLsbD k)).length)))

/-- R210, R211: branches, calls and jumps move the pc; a taken branch goes to the bundle's address plus 32 IMM. A target inside the core
store is taken; one at or above it raises BOUNDS, a jump to an address off a bundle raises ALIGN.
R94, R207, R210, R212: the scalar slots that act on control registers and on the thread itself: no operation, reads of every control
register (CYCLE's value is free: notes/assumptions/15.md), writes of FPST and of the conversion counts, the breakpoint, and the end of a
thread. A control register that is not there, or a write of one that is read only, raises BUNDLE_INVALID. -/
def Obligations.ScalarControlFlow : Prop :=
  (∀ (s : State) (x : Issue) (f : SF), f.rsv = 0 →
     let y := s.thr x.core x.thread
     let a := y.sreg f.sa.toNat
     let b := y.sreg f.sb.toNat
     let target := y.pc + 32 * f.imm.signExtend 64
     let go (taken : Bool) : W64 := if taken then target else y.pc + 32
     (target.toNat < 0x200000 →
       (s.mayIssue x [] → Ran (.sB x f) s x (y.goto target))
       ∧ (s.mayIssue x [.s f.sd.toNat] →
           Ran (.sCall x f) s x { (y.afterS f.sd (y.pc + 32)) with pc := target })
       ∧ (s.mayIssue x [.s f.sa.toNat, .s f.sb.toNat] →
         Ran (.sBeq x f) s x (y.goto (go (a = b))) ∧ Ran (.sBne x f) s x (y.goto (go (a ≠ b)))
         ∧ Ran (.sBlt x f) s x (y.goto (go (a.toInt < b.toInt))) ∧ Ran (.sBge x f) s x (y.goto (go (b.toInt ≤ a.toInt)))
         ∧ Ran (.sBltu x f) s x (y.goto (go (a.toNat < b.toNat))) ∧ Ran (.sBgeu x f) s x (y.goto (go (b.toNat ≤ a.toNat)))))
     ∧ (0x200000 ≤ target.toNat →
         ∀ i ∈ [Instr.sB x f, .sBeq x f, .sBne x f, .sBlt x f, .sBge x f, .sBltu x f, .sBgeu x f, .sCall x f],
           (slotOut i s x.core x.thread).bind (·.cause) = some cBounds)
     ∧ (s.mayIssue x [.s f.sa.toNat] → a.toNat < 0x200000 → a.toNat % 32 = 0 → Ran (.sJr x f) s x (y.goto a))
     ∧ (0x200000 ≤ a.toNat → (slotOut (.sJr x f) s x.core x.thread).bind (·.cause) = some cBounds)
     ∧ (a.toNat < 0x200000 → a.toNat % 32 ≠ 0 → (slotOut (.sJr x f) s x.core x.thread).bind (·.cause) = some cAlign))
  ∧ (∀ (s : State) (x : Issue) (f : SF), f.rsv = 0 →
       let y := s.thr x.core x.thread
       let a := y.sreg f.sa.toNat
       let i := f.imm.toNat % 256
       (s.mayIssue x [] →
         Ran (.sNop x f) s x (y.goto (y.pc + 32))
         ∧ (s.test.lc ≠ 3 ∨ (s.core x.core).bkpt = false → Ran (.sBrk x f) s x (y.goto (y.pc + 32)))
         ∧ Ran (.sEnd x f) s x (y.goto (y.pc + 32)).free)
       ∧ (s.test.lc = 3 → (s.core x.core).bkpt = true → (slotOut (.sBrk x f) s x.core x.thread).bind (·.cause) = some cBreak)
       ∧ (s.mayIssue x [.s f.sd.toNat] → i ≤ 10 →
         ∃ v : W64, Ran (.sCrd x f) s x (y.afterS f.sd v)
           ∧ (i = 0 → v.toNat = y.rm.toNat * 32 + y.flags.toNat)
           ∧ (i = 1 → v = BitVec.ofNat 64 (y.qlost * 2 ^ 32 + y.qsat))
           ∧ (i = 2 → v = y.wstat.setWidth 64)
           ∧ (i = 3 → v = BitVec.ofNat 64 x.thread)
           ∧ (i = 4 → v = BitVec.ofNat 64 ((s.logical x.core).getD 0xFF))
           ∧ (i = 5 → v = BitVec.ofNat 64 y.part)
           ∧ (i = 6 → v = y.seq.setWidth 64)
           ∧ (i = 7 → v = BitVec.ofNat 64 y.epoch)
           ∧ (i = 8 → v = s.beat.count)
           ∧ (i = 10 → v.toNat = y.layer.toNat * 2 ^ 16 + y.oper.toNat))
       ∧ (s.mayIssue x [.s f.sa.toNat] →
         (i = 0 → Ran (.sCwr x f) s x { (y.goto (y.pc + 32)) with
           rm := if a.toNat / 32 % 8 < 5 then BitVec.ofNat 3 (a.toNat / 32 % 8) else 0, flags := a.setWidth 5 })
         ∧ (i = 1 → Ran (.sCwr x f) s x { (y.goto (y.pc + 32)) with qsat := a.toNat % 2 ^ 32, qlost := a.toNat / 2 ^ 32 }))
       ∧ (10 < i → (slotOut (.sCrd x f) s x.core x.thread).bind (·.cause) = some cBundle)
       ∧ (1 < i → (slotOut (.sCwr x f) s x.core x.thread).bind (·.cause) = some cBundle))

/-! ### The V slot -/

/-- R178, R180, R213 to R217: integer lanes. Sums, products and shifts wrap, the saturating forms hold at the type's limits, MULH keeps the
high half, and the second source is vb or the low bits of the scalar SS repeated. -/
def Obligations.VectorInteger : Prop :=
  ∀ (s : State) (x : Issue) (f : VF), f.rsv = 0 → f.type.toNat ≤ 7 →
    let c := s.vc x f
    let lo : Int := if f.type.toNat % 2 = 0 then -(2 ^ (c.w - 1) : Int) else 0
    let hi : Int := if f.type.toNat % 2 = 0 then (2 ^ (c.w - 1) : Int) - 1 else (2 ^ c.w : Int) - 1
    let clamp (v : Int) : Int := if v < lo then lo else if hi < v then hi else v
    (f.imm.toNat < 2 → s.mayIssue x c.regs2 →
      LanesRan (.vAdd x f) s x c (fun k => (wrap c.w (c.int (c.a k) + c.int (c.b k)), 0))
      ∧ LanesRan (.vSub x f) s x c (fun k => (wrap c.w (c.int (c.a k) - c.int (c.b k)), 0))
      ∧ LanesRan (.vMul x f) s x c (fun k => (wrap c.w (c.int (c.a k) * c.int (c.b k)), 0))
      ∧ LanesRan (.vMulh x f) s x c (fun k => (wrap c.w (c.int (c.a k) * c.int (c.b k) / (2 ^ c.w : Int)), 0))
      ∧ LanesRan (.vAdds x f) s x c (fun k => (wrap c.w (clamp (c.int (c.a k) + c.int (c.b k))), 0))
      ∧ LanesRan (.vSubs x f) s x c (fun k => (wrap c.w (clamp (c.int (c.a k) - c.int (c.b k))), 0))
      ∧ LanesRan (.vMax x f) s x c (fun k => (wrap c.w (if c.int (c.a k) < c.int (c.b k) then c.int (c.b k) else c.int (c.a k)), 0))
      ∧ LanesRan (.vMin x f) s x c (fun k => (wrap c.w (if c.int (c.a k) < c.int (c.b k) then c.int (c.a k) else c.int (c.b k)), 0))
      ∧ LanesRan (.vShl x f) s x c (fun k => (c.a k * 2 ^ (c.b k % c.w), 0))
      ∧ LanesRan (.vShr x f) s x c (fun k => (c.a k / 2 ^ (c.b k % c.w), 0))
      ∧ LanesRan (.vSar x f) s x c (fun k => (wrap c.w (signed c.w (c.a k) / (2 ^ (c.b k % c.w) : Int)), 0)))
    ∧ (f.imm.toNat < 2 → s.mayIssue x (.v c.vc :: c.regs2) →
      LanesRan (.vFma x f) s x c (fun k => (wrap c.w (c.int (c.a k) * c.int (c.b k) + c.int (c.c k)), 0))
      ∧ LanesRan (.vFms x f) s x c (fun k => (wrap c.w (c.int (c.a k) * c.int (c.b k) - c.int (c.c k)), 0)))
    ∧ (f.imm = 0 → s.mayIssue x c.regs1 →
      LanesRan (.vAbs x f) s x c (fun k => (wrap c.w (c.int (c.a k)).natAbs, 0))
      ∧ LanesRan (.vNeg x f) s x c (fun k => (wrap c.w (-(c.int (c.a k))), 0)))

/-- R89 to R97, R101, R217, R225 to R229: float lanes. Each result is the exact result of the operands' values, rounded once to the element
format in the mode of the slot: FPST.RM in strict mode (W64, and W32 with STRICT), to nearest even with flushed subnormals in fast mode. -/
def Obligations.VectorFloat : Prop :=
  ∀ (s : State) (x : Issue) (f : VF), f.rsv = 0 → (f.type.toNat = 8 ∨ f.type.toNat = 9 ∨ f.type.toNat = 10 ∧ f.strict = true) →
    let c := s.vc x f
    let a (k : Nat) : Val := c.val (c.a k)
    let b (k : Nat) : Val := c.val (c.b k)
    let d (k : Nat) : Val := c.val (c.c k)
    let round (v : Val) : Nat := (encWide c.fmt c.strict c.rm v).1
    (f.imm.toNat < 2 → s.mayIssue x c.regs2 →
      LanesRan (.vAdd x f) s x c (fun k => (round (Val.add c.rm (a k) (b k)), (c.fadd (c.a k) (c.b k)).2))
      ∧ LanesRan (.vSub x f) s x c (fun k => (round (Val.add c.rm (a k) (b k).neg), (c.fsub (c.a k) (c.b k)).2))
      ∧ LanesRan (.vMul x f) s x c (fun k => (round (Val.mul (a k) (b k)), (c.fmul (c.a k) (c.b k)).2))
      ∧ LanesRan (.vDiv x f) s x c (fun k => (round (Val.div (a k) (b k)), (c.fdiv (c.a k) (c.b k)).2))
      ∧ LanesRan (.vMax x f) s x c (fun k => (round (Val.max (a k) (b k)), (c.fmax (c.a k) (c.b k)).2))
      ∧ LanesRan (.vMin x f) s x c (fun k => (round (Val.min (a k) (b k)), (c.fmin (c.a k) (c.b k)).2))
      ∧ LanesRan (.vLdexp x f) s x c (fun k =>
          (round ((a k).scale (max (-100000) (min 100000 (signed c.w (c.b k))))), (c.enc ((a k).scale (max (-100000) (min 100000 (signed c.w (c.b k))))) (c.sn [c.a k])).2)))
    ∧ (f.imm.toNat < 2 → s.mayIssue x (.v c.vc :: c.regs2) →
      LanesRan (.vFma x f) s x c (fun k => (round (Val.add c.rm (Val.mul (a k) (b k)) (d k)), (c.ffma false (c.a k) (c.b k) (c.c k)).2))
      ∧ LanesRan (.vFms x f) s x c (fun k => (round (Val.add c.rm (Val.mul (a k) (b k)) (d k).neg), (c.ffma true (c.a k) (c.b k) (c.c k)).2)))
    ∧ (f.imm = 0 → s.mayIssue x c.regs1 →
      LanesRan (.vSqrt x f) s x c (fun k => (round (Val.sqrt (a k)), (c.fsqrt (c.a k)).2))
      ∧ LanesRan (.vAbs x f) s x c (fun k =>
        if f.type.toNat = 10 then (round (a k).abs, (c.enc (a k).abs (c.sn [c.a k])).2) else (encFast c.fmt (wideVal c.fmt true (c.a k)).abs, 0))
      ∧ LanesRan (.vNeg x f) s x c (fun k =>
        if f.type.toNat = 10 then (round (a k).neg, (c.enc (a k).neg (c.sn [c.a k])).2) else (encFast c.fmt (wideVal c.fmt true (c.a k)).neg, 0))
      ∧ (f.type.toNat ≠ 10 → f.strict = false →
        LanesRan (.vExp2 x f) s x c (fun k => (encFast c.fmt (a k).exp2, 0))
        ∧ LanesRan (.vLog2 x f) s x c (fun k => (encFast c.fmt (a k).log2, 0))))

/-- R213 to R217: bitwise slots and moves of every element type; V.SEL and V.GETL write every lane or a scalar, V.PERM takes its lane
numbers modulo the type's lanes. -/
def Obligations.VectorMoves : Prop :=
  ∀ (s : State) (x : Issue) (f : VF), f.rsv = 0 → f.type.toNat < 12 → (f.type.toNat = 10 → f.strict = true) →
    let c := s.vc x f
    let y := s.thr x.core x.thread
    (f.imm.toNat < 2 → s.mayIssue x c.regs2 →
      LanesRan (.vAnd x f) s x c (fun k => (c.a k &&& c.b k, 0))
      ∧ LanesRan (.vOr x f) s x c (fun k => (c.a k ||| c.b k, 0))
      ∧ LanesRan (.vXor x f) s x c (fun k => (c.a k ^^^ c.b k, 0)))
    ∧ (f.imm = 0 → s.mayIssue x c.regs1 →
      LanesRan (.vNot x f) s x c (fun k => (2 ^ c.w - 1 - c.a k, 0))
      ∧ LanesRan (.vMov x f) s x c (fun k => (c.a k, 0)))
    ∧ (f.imm = 0 → s.mayIssue x (.v c.vb :: c.regs1) →
      LanesRan (.vPerm x f) s x c (fun k => (c.a (lane (y.vreg c.vb) c.w k % c.L), 0))
      ∧ (f.pen = true → AllLanesRan (.vSel x f) s x c c.w c.L 0 (fun k => if c.en k then c.a k else lane (y.vreg c.vb) c.w k)))
    ∧ (s.mayIssue x (.v c.vd :: .s c.ss :: c.psrc) →
      (f.imm = 0 → LanesRan (.vBcast x f) s x c (fun _ => ((y.sreg c.ss).toNat, 0)))
      ∧ (f.imm.toNat < 512 → LanesRan (.vSetl x f) s x c (fun k => (if k = f.imm.toNat then (y.sreg c.ss).toNat else c.old k, 0)))
      ∧ (f.imm = 0 → f.type.toNat ≤ 7 → LanesRan (.vIdx x f) s x c (fun k => (k, 0))))
    ∧ (f.imm.toNat < 512 → s.mayIssue x [.v c.va, .s c.ss] →
      ∃ v : W64, Ran (.vGetl x f) s x (y.afterS f.ss v) ∧ (f.imm.toNat < c.L → v.toNat = c.a f.imm.toNat))
    ∧ (f.imm = 0 → s.mayIssue x [] → Ran (.vNop x f) s x (y.goto (y.pc + 32)))

/-- R105, R215, R217, R218: comparisons write predicate VD, a disabled lane keeping its bit and the bits above the lanes zero; predicate logic
works on all 512 bits. -/
def Obligations.VectorPredicates : Prop :=
  ∀ (s : State) (x : Issue) (f : VF), f.rsv = 0 → f.vd.toNat < 8 → f.va.toNat < 8 → f.vb.toNat < 8 →
    let c := s.vc x f
    let y := s.thr x.core x.thread
    let e (k : Nat) : Nat := lane (y.vreg c.vb) c.w k
    (f.imm.toNat < 6 → s.mayIssue x (.p c.vd :: .v c.va :: .v c.vb :: c.psrc) →
      (f.type.toNat ≤ 7 → ∃ X : Pred,
        (∀ k < c.L, X.getLsbD k = if c.en k then
            (if f.imm.toNat = 0 then decide (c.a k = e k) else if f.imm.toNat = 1 then decide (c.a k ≠ e k)
             else if f.imm.toNat = 2 then decide (c.int (c.a k) < c.int (e k)) else if f.imm.toNat = 3 then decide (c.int (c.a k) ≤ c.int (e k))
             else if f.imm.toNat = 4 then decide (c.int (e k) < c.int (c.a k)) else decide (c.int (e k) ≤ c.int (c.a k)))
          else (y.preg c.vd).getLsbD k)
        ∧ (∀ k, c.L ≤ k → X.getLsbD k = false) ∧ Ran (.vCmp x f) s x (y.afterP c.vd X 0))
      ∧ ((f.type.toNat = 8 ∨ f.type.toNat = 9 ∨ f.type.toNat = 10 ∧ f.strict = true) → ∃ X : Pred,
        (∀ k < c.L, X.getLsbD k = if c.en k then Val.cmp f.imm.toNat (c.val (c.a k)) (c.val (e k)) else (y.preg c.vd).getLsbD k)
        ∧ (∀ k, c.L ≤ k → X.getLsbD k = false) ∧ Ran (.vCmp x f) s x (y.afterP c.vd X (c.allFlags (fun k => (c.fcmp f.imm.toNat (c.a k) (e k)).2)))))
    ∧ (f.imm = 0 → f.type.toNat < 12 → (f.type.toNat = 10 → f.strict = true) →
      (s.mayIssue x [.p c.vd, .p c.va, .p c.vb] →
        Ran (.vPand x f) s x (y.afterP c.vd (y.preg c.va &&& y.preg c.vb) 0)
        ∧ Ran (.vPor x f) s x (y.afterP c.vd (y.preg c.va ||| y.preg c.vb) 0)
        ∧ Ran (.vPxor x f) s x (y.afterP c.vd (y.preg c.va ^^^ y.preg c.vb) 0))
      ∧ (s.mayIssue x [.p c.vd, .p c.va] → Ran (.vPnot x f) s x (y.afterP c.vd (~~~(y.preg c.va)) 0)))

/-- R221: a reduction leaves its result in lane 0 and zero in the others. Over integers the result is the sum, the sum of squares, the
largest or the smallest of the enabled lanes, wrapped to the width; with no lane enabled, the operation's neutral element. Over floats it is
the result of the fixed tree, lane i with lane i + half, each step rounded as its vector instruction, a disabled lane entering as the neutral
element.
R104, R222, R223: moment triples. An enabled lane adds one value, or combines two triples; a lane that is not enabled keeps its triple; the
fixed tree combines all lanes into lane 0; the count of a combined triple is the sum of the counts, held at 2^32 − 1, an empty triple
leaves the other as it is, and a NaN element makes the triple of its own NaN in mean and M2. -/
def Obligations.VectorReductions : Prop :=
  (∀ (s : State) (x : Issue) (f : VF), f.rsv = 0 → f.imm = 0 →
     let c := s.vc x f
     let real (i : Instr) (pre : Nat → Nat × Nat) (off : Nat) (op : Nat → Nat → Nat × Nat) : Prop :=
       let r := tree op 0 (Nat.log2 c.L) ((List.range c.L).map (fun k => if c.en k then (pre (c.a k)).1 else off))
       AllLanesRan i s x c c.w c.L (c.allFlags (fun k => (pre (c.a k)).2) ||| r.2) (fun k => if k = 0 then r.1 else 0)
     let on := (List.range c.L).filter c.en
     let v (k : Nat) : Int := c.int (c.a k)
     let lo : Int := if f.type.toNat % 2 = 0 then -(2 ^ (c.w - 1) : Int) else 0
     let hi : Int := if f.type.toNat % 2 = 0 then (2 ^ (c.w - 1) : Int) - 1 else (2 ^ c.w : Int) - 1
     let first (r : Int) (k : Nat) : Nat := if k = 0 then wrap c.w r else 0
     (f.type.toNat = 8 ∨ f.type.toNat = 9 ∨ f.type.toNat = 10 ∧ f.strict = true → s.mayIssue x c.regs1 →
       real (.vRsum x f) (fun a => (a, 0)) 0 c.fadd ∧ real (.vRssq x f) (fun a => c.fmul a a) 0 c.fadd
       ∧ real (.vRmax x f) (fun a => (a, 0)) (wideInf c.fmt true) c.fmax ∧ real (.vRmin x f) (fun a => (a, 0)) (wideInf c.fmt false) c.fmin)
     ∧ (f.type.toNat ≤ 7 → s.mayIssue x c.regs1 →
       AllLanesRan (.vRsum x f) s x c c.w c.L 0 (first ((on.map v).foldl (· + ·) 0))
       ∧ AllLanesRan (.vRssq x f) s x c c.w c.L 0 (first ((on.map (fun k => v k * v k)).foldl (· + ·) 0))
       ∧ AllLanesRan (.vRmax x f) s x c c.w c.L 0 (first ((on.map v).foldl max lo))
       ∧ AllLanesRan (.vRmin x f) s x c c.w c.L 0 (first ((on.map v).foldl min hi))))
  ∧ (∀ (s : State) (x : Issue) (f : VF), f.rsv = 0 → f.imm = 0 → f.type.toNat = 9 → f.vd.toNat ≤ 29 → f.va.toNat ≤ 29 →
       let c := s.vc x f
       let y := s.thr x.core x.thread
       let ran (i : Instr) (fl : Nat) (g : Nat → Nat × Nat × Nat) : Prop :=
         ∃ X Y Z : Vec, (∀ k < 128, (lane X 32 k, lane Y 32 k, lane Z 32 k) = ((g k).1 % 2 ^ 32, (g k).2.1 % 2 ^ 32, (g k).2.2 % 2 ^ 32))
           ∧ Ran i s x { (((y.afterV c.vd X fl).afterV (c.vd + 1) Y 0).afterV (c.vd + 2) Z 0) with pc := y.pc + 32 }
       let old (k : Nat) : Nat × Nat × Nat := triple y c.vd k
       (s.mayIssue x (tripleRefs c.vd ++ [.v c.va] ++ c.psrc) →
         ran (.vMomAdd x f) (c.allFlags (fun k => (momCombine c (old k) (momOne (c.norm (c.a k)).1)).2 ||| (c.norm (c.a k)).2))
           (fun k => if c.en k then (momCombine c (old k) (momOne (c.norm (c.a k)).1)).1 else old k))
       ∧ ((c.vd + 3 ≤ c.va ∨ c.va + 3 ≤ c.vd) → s.mayIssue x (tripleRefs c.vd ++ tripleRefs c.va ++ c.psrc) →
         ran (.vMomCmb x f) (c.allFlags (fun k => (momCombine c (old k) (triple y c.va k)).2))
           (fun k => if c.en k then (momCombine c (old k) (triple y c.va k)).1 else old k)
         ∧ (let r := tree (momCombine c) (0, 0, 0) 7 ((List.range 128).map (fun k => if c.en k then triple y c.va k else (0, 0, 0)))
            ran (.vMomRed x f) r.2 (fun k => if k = 0 then r.1 else (0, 0, 0))))
       ∧ (∀ e : Nat, momOne e = (1, e, if 0x7F800000 < e % 2 ^ 31 then e else 0))
       ∧ (∀ p q : Nat × Nat × Nat, q.1 = 0 → (momCombine c p q).1 = p)
       ∧ (∀ p q : Nat × Nat × Nat, q.1 ≠ 0 → p.1 = 0 → (momCombine c p q).1 = q)
       ∧ (∀ p q : Nat × Nat × Nat, q.1 ≠ 0 → p.1 ≠ 0 → (momCombine c p q).1.1 = min 0xFFFFFFFF (p.1 + q.1)))

/-- R219: V.CVT. Equal widths convert lane by lane; a wider result takes the lower or, with UP, the upper half of the source lanes; a
narrower one fills the lower or the upper half of the destination and keeps the other.
R224: conversions to and from the Q formats and their packing. V.CVTQ counts the saturated and lost elements of the enabled lanes in
the thread's conversion counts, held at 2^32 − 1. -/
def Obligations.VectorConversions : Prop :=
  (∀ (s : State) (x : Issue) (f : VF), f.rsv = 0 → f.imm.toNat < 32 →
     let c := s.vc x f
     let y := s.thr x.core x.thread
     let t := f.imm.toNat % 16
     let up : Bool := 16 ≤ f.imm.toNat
     let Ls := 4096 / tyW t
     let okType (ty : Nat) : Prop := ty ≤ 9 ∨ ty = 10 ∧ f.strict = true
     okType f.type.toNat → okType t → s.mayIssue x c.regs1 →
       LanesRan (.vCvt x f) s x c (fun k =>
         if tyW t = c.w then cvtElem c t (lane (y.vreg c.va) (tyW t) k)
         else if tyW t < c.w then cvtElem c t (lane (y.vreg c.va) (tyW t) (if up then k + Ls / 2 else k))
         else if up then (if c.L / 2 ≤ k ∧ k < c.L / 2 + Ls then cvtElem c t (lane (y.vreg c.va) (tyW t) (k - c.L / 2)) else (c.old k, 0))
         else (if k < Ls then cvtElem c t (lane (y.vreg c.va) (tyW t) k) else (c.old k, 0))))
  ∧ (∀ (s : State) (x : Issue) (f : VF), f.rsv = 0 →
       let c := s.vc x f
       let y := s.thr x.core x.thread
       let q (k : Nat) : QCode := encQ c.qfmt (lane (y.vreg c.vb) 8 (k / c.qb)) c.qzp (wideVal c.fmt true (c.a k))
       let on := (List.range c.L).filter c.en
       let lo := c.qpos * c.L
       ((f.type.toNat = 8 ∨ f.type.toNat = 9) → c.qcheck = none →
         (s.mayIssue x c.regs1 →
           AllLanesRan (.vQscl x f) s x c 8 512 0 (fun j => if j < c.L / c.qb then
             selectScale c.qfmt (((span (j * c.qb) c.qb).filter c.en).map (fun k => wideVal c.fmt true (c.a k))) else 0))
         ∧ (s.mayIssue x (.v c.vb :: c.regs1) →
           LanesRan (.vCvtf x f) s x c (fun k =>
             (encFast c.fmt (qVal c.qfmt (lane (y.vreg c.vb) 8 (k / c.qb)) c.qzp (lane (y.vreg c.va) 8 (lo + k))), 0))
           ∧ ∃ X : Vec, (∀ k < 512, lane X 8 k = if lo ≤ k ∧ k < lo + c.L ∧ c.en (k - lo) then (q (k - lo)).code % 2 ^ 8 else lane (y.vreg c.vd) 8 k)
             ∧ Ran (.vCvtq x f) s x { (y.afterV c.vd X 0) with
                 qsat := min (2 ^ 32 - 1) (y.qsat + (on.filter (fun k => (q k).sat)).length)
                 qlost := min (2 ^ 32 - 1) (y.qlost + (on.filter (fun k => (q k).lost)).length) }))
       ∧ (f.type.toNat = 11 → s.mayIssue x c.regs1 →
         (f.imm = 0 ∨ f.imm = 16 →
           AllLanesRan (.vPack4 x f) s x c 4 1024 0 (fun k =>
             if k / 512 = f.imm.toNat / 16 ∧ c.en (k % 512) then c.a (k % 512) else lane (y.vreg c.vd) 4 k)
           ∧ AllLanesRan (.vUnpk4 x f) s x c 8 512 0 (fun k => if c.en k then lane (y.vreg c.va) 4 (512 * (f.imm.toNat / 16) + k) else c.old k))
         ∧ (f.imm = 0 →
           (∃ X : Vec, (∀ k < 512, lane X 6 k = if c.en k then c.a k % 64 else lane (y.vreg c.vd) 6 k)
             ∧ (∀ j, 384 ≤ j → j < 512 → lane X 8 j = 0)
             ∧ Ran (.vPack6 x f) s x (y.afterV c.vd X 0))
           ∧ AllLanesRan (.vUnpk6 x f) s x c 8 512 0 (fun k => if c.en k then lane (y.vreg c.va) 6 k else c.old k))))

/-! ### The M slot -/

/-- R230, R234, R235: tile-descriptor writes change the one field and keep every other bit; a copy copies; M.TILE puts the descriptor as it
stands at issue at the end of the queue of four of the array it names, or, for an item that runs again, of another array of the core where
that one is SUSPECT (R287). -/
def Obligations.MatrixSlots : Prop :=
  ∀ (s : State) (x : Issue),
    let y := s.thr x.core x.thread
    let withT (d : BitVec 4) (v : TDesc) : Thread := { (y.goto (y.pc + 32)) with t := tput (fun _ => 0) y.t d.toNat v }
    (s.mayIssue x [] → Ran (.mNop x) s x (y.goto (y.pc + 32)))
    ∧ (∀ f : MSetF, f.rsv = 0 → s.mayIssue x [.t f.td.toNat, .s f.sa.toNat] →
      ∀ hi lo : Nat, tfield f.field.toNat = some (hi, lo) →
        ∃ v w : TDesc, Ran (.mTset x f) s x (withT f.td v)
          ∧ bf v hi lo = (y.sreg f.sa.toNat).toNat % 2 ^ (hi + 1 - lo)
          ∧ (∀ k, k < lo ∨ hi < k → v.getLsbD k = (y.treg f.td.toNat).getLsbD k)
          ∧ (f.field.toNat ≤ 11 → Ran (.mTadd x f) s x (withT f.td w)
            ∧ bf w hi lo = (bf (y.treg f.td.toNat) hi lo + (y.sreg f.sa.toNat).toNat) % 2 ^ (hi + 1 - lo)
            ∧ (∀ k, k < lo ∨ hi < k → w.getLsbD k = (y.treg f.td.toNat).getLsbD k)))
    ∧ (∀ f : MCpyF, f.rsv = 0 → s.mayIssue x [.t f.td.toNat, .t f.ts.toNat] → Ran (.mTcpy x f) s x (withT f.td (y.treg f.ts.toNat)))
    ∧ (∀ f : MTileF, f.rsv = 0 → f.half.toNat ≠ 3 →
      s.mayIssue x [.t f.td.toNat, .s f.smask.toNat, .s f.spad.toNat, .s f.sout.toNat] →
      let a := s.tileArray x.core f.arr.toNat y.reissue
      let q := s.tileReq f x.core x.thread
      tileCause (s.arr a) q = none → (s.arr a).queue.length < 4 → s.rdB (rCoreStat x.core) 5 = false →
        (y.reissue = false → a = 4 * x.core + f.arr.toNat) ∧ ∃ t, exec (.mTile x f) s = .next t ∧ (t.arr a).queue = (s.arr a).queue ++ [q]
          ∧ q.desc = y.treg f.td.toNat ∧ t.thr x.core x.thread = y.goto (y.pc + 32)
          ∧ t = { s.marked x.core with threads := t.threads, arrays := t.arrays, cnt := t.cnt })

/-! ### The C slot -/

/-- R240, R241, R243, R248: a scalar load of the core store. The access goes out with its result, zero- or sign-extended from the bytes at
the sum of base and signed offset; the register is written at the return. Nothing else changes.
R174, R241, R243: a scalar store of the low bytes of A, little-endian, at the sum of base and signed offset. Every other byte of memory
stays as it was. -/
def Obligations.LocalAccesses : Prop :=
  (∀ (s : State) (x : Issue) (f : CA), s.mayIssue x [.s f.a.toNat, .s f.b.toNat] → s.fenceClear x →
     let y := s.thr x.core x.thread
     let a := (y.sreg f.b.toNat + f.off.signExtend 64).toNat
     let pa := storeBase x.core + a
     let zx (n : Nat) : RegWrite := .s f.a.toNat (BitVec.ofNat 64 (leNat (s.bytes pa n)))
     let sx (n : Nat) : RegWrite := .s f.a.toNat (BitVec.ofInt 64 (signed (8 * n) (leNat (s.bytes pa n))))
     let ok (n : Nat) : Prop := a % n = 0 ∧ a < 0x200000 ∧ x.core < 144 ∧ s.cleanAt pa n
     (ok 1 → Ran (.cLdb x f) s x (y.issued .localLoad [zx 1]) ∧ Ran (.cLdbs x f) s x (y.issued .localLoad [sx 1]))
     ∧ (ok 2 → Ran (.cLdh x f) s x (y.issued .localLoad [zx 2]) ∧ Ran (.cLdhs x f) s x (y.issued .localLoad [sx 2]))
     ∧ (ok 4 → Ran (.cLdw x f) s x (y.issued .localLoad [zx 4]) ∧ Ran (.cLdws x f) s x (y.issued .localLoad [sx 4]))
     ∧ (ok 8 → Ran (.cLdd x f) s x (y.issued .localLoad [zx 8])))
  ∧ (∀ (s : State) (x : Issue) (f : CA), s.mayIssue x [.s f.a.toNat, .s f.b.toNat] → s.fenceClear x → s.memx.armed = none →
       let y := s.thr x.core x.thread
       let a := (y.sreg f.b.toNat + f.off.signExtend 64).toNat
       let pa := storeBase x.core + a
       let ok (n : Nat) : Prop := a % n = 0 ∧ a < 0x200000 ∧ x.core < 144 ∧ s.cleanAt pa n
       let ran (i : Instr) (n : Nat) : Prop := StoreRan i s x (y.goto (y.pc + 32)) pa (leBytes n (y.sreg f.a.toNat).toNat)
       (ok 1 → ran (.cStb x f) 1) ∧ (ok 2 → ran (.cSth x f) 2) ∧ (ok 4 → ran (.cStw x f) 4) ∧ (ok 8 → ran (.cStd x f) 8))

/-- R240 to R243: loads and stores of whole vector, predicate and tile-descriptor registers, with the offset in 32-byte units. Under PEN a
vector store writes the 8-byte words that the predicate enables.
R242: gather and scatter. Enabled lane k moves the element at base + offset + width times its unsigned index lane; a gather keeps the
disabled lanes, and of two scatter lanes at one address the higher one stays. -/
def Obligations.WideAccesses : Prop :=
  (∀ (s : State) (x : Issue) (f : CV), f.width = 0 → f.vc = 0 → s.fenceClear x → x.core < 144 → s.memx.armed = none →
     let y := s.thr x.core x.thread
     let a := (y.sreg f.b.toNat + 32 * f.off.signExtend 64).toNat
     let pa := storeBase x.core + a
     let d := f.a.toNat
     (a % 64 = 0 → s.cleanAt pa 512 → a + 512 ≤ 0x200000 →
       (s.mayIssue x [.v d, .s f.b.toNat] →
         Ran (.cVld x f) s x (y.issued .localLoad [.v d (BitVec.ofNat 4096 (leNat (s.bytes pa 512)))])
         ∧ (f.pen = false → StoreRan (.cVst x f) s x (y.goto (y.pc + 32)) pa (leBytes 512 (y.vreg d).toNat)))
       ∧ (s.mayIssue x [.v d, .s f.b.toNat, .p f.pred.toNat] → f.pen = true →
         ∃ t, exec (.cVst x f) s = .next t
           ∧ t = { (s.marked x.core).setThr x.core x.thread (y.goto (y.pc + 32)) with mem := t.mem, ecc := t.ecc, cnt := t.cnt }
           ∧ ∀ q, t.byte q = if pa ≤ q ∧ q < pa + 512 ∧ (y.preg f.pred.toNat).getLsbD ((q - pa) / 8)
                            then (leBytes 512 (y.vreg d).toNat).getD (q - pa) 0 else s.byte q))
     ∧ (a % 64 = 0 → a < 0x200000 → s.cleanAt pa 64 → s.mayIssue x [.p (d % 8), .s f.b.toNat] →
       Ran (.cPld x f) s x (y.issued .localLoad [.p (d % 8) (BitVec.ofNat 512 (leNat (s.bytes pa 64)))])
       ∧ StoreRan (.cPst x f) s x (y.goto (y.pc + 32)) pa (leBytes 64 (y.preg (d % 8)).toNat))
     ∧ (a % 32 = 0 → a < 0x200000 → s.cleanAt pa 32 → s.mayIssue x [.t (d % 16), .s f.b.toNat] →
       Ran (.cTld x f) s x (y.issued .localLoad [.t (d % 16) (BitVec.ofNat 256 (leNat (s.bytes pa 32)))])
       ∧ StoreRan (.cTst x f) s x (y.goto (y.pc + 32)) pa (leBytes 32 (y.treg (d % 16)).toNat)))
  ∧ (∀ (s : State) (x : Issue) (f : CV), f.width.toNat ≠ 3 → s.fenceClear x → x.core < 144 → s.memx.armed = none →
       let y := s.thr x.core x.thread
       let w := 2 * 2 ^ f.width.toNat
       let on (k : Nat) : Bool := !f.pen || (y.preg f.pred.toNat).getLsbD k
       let at_ (k : Nat) : Nat := (y.sreg f.b.toNat + 32 * f.off.signExtend 64 + BitVec.ofNat 64 (w * lane (y.vreg f.vc.toNat) (8 * w) k)).toNat
       s.mayIssue x ([.s f.b.toNat, .v f.vc.toNat, .v f.a.toNat] ++ (if f.pen then [.p f.pred.toNat] else [])) →
       (∀ k < 512 / w, on k = true → at_ k % w = 0 ∧ at_ k < 0x200000 ∧ s.cleanAt (storeBase x.core + at_ k) w) →
         (∃ X : Vec, Ran (.cVgth x f) s x (y.issued .localLoad [.v f.a.toNat X])
           ∧ ∀ k < 512 / w, lane X (8 * w) k =
               if on k then leNat (s.bytes (storeBase x.core + at_ k) w) else lane (y.vreg f.a.toNat) (8 * w) k)
         ∧ ∃ t, exec (.cVsct x f) s = .next t
           ∧ t = { (s.marked x.core).setThr x.core x.thread (y.goto (y.pc + 32)) with mem := t.mem, ecc := t.ecc, cnt := t.cnt }
           ∧ (∀ k < 512 / w, on k = true → (∀ j < 512 / w, on j = true → at_ j = at_ k → j ≤ k) →
               t.bytes (storeBase x.core + at_ k) w = leBytes w (lane (y.vreg f.a.toNat) (8 * w) k))
           ∧ (∀ a, (∀ k < 512 / w, on k = true → ¬(storeBase x.core + at_ k ≤ a ∧ a < storeBase x.core + at_ k + w)) → t.byte a = s.byte a))

/-- R190, R193, R244, R302, R304, R377: global loads and stores of 8 bytes. A load reads memory that the thread's partition owns, or a latch
of one of its cores; a load from the store of a frozen core waits (log 28); a store under the current epoch lands, one under an older epoch is dropped and counted.
R244, R311, R312: atomics on a larder word return the old word at the return, and leave the sum, the operand, or the operand when the
old word equals the register. -/
def Obligations.GlobalAccesses : Prop :=
  (∀ (s : State) (x : Issue) (f : CA), s.fenceClear x → s.room x.core x.thread → s.memx.armed = none →
     s.mayIssue x [.s f.a.toNat, .s f.b.toNat] →
     let y := s.thr x.core x.thread
     let a := (y.sreg f.b.toNat + f.off.signExtend 64).toNat
     let b := leBytes 8 (y.sreg f.a.toNat).toNat
     a % 8 = 0 →
     (∀ pa, (s.gTarget y.part a = some (.mem pa) ∨ s.gTarget y.part a = some (.work pa)) → s.cleanAt pa 8 → pa % 8 = 0 →
       (s.frozenStore pa = false → Ran (.cGld x f) s x (y.issued .globalLoad [.s f.a.toNat (BitVec.ofNat 64 (leNat (s.bytes pa 8)))]))
       ∧ (s.frozenStore pa = true → ∃ t, exec (.cGld x f) s = .next t ∧ t.thr x.core x.thread = y ∧ t.mem = s.mem))
     ∧ (∀ pa, s.gTarget y.part a = some (.mem pa) → s.cleanAt pa 8 → pa % 8 = 0 →
       (y.checkrun = false → s.writeOk x.core x.thread = true → (∀ i, storeOf pa = some i → s.rdB (rCoreStat i) 4 = false) →
           StoreRan (.cGst x f) s x (y.issued .globalStore []) pa b)
       ∧ (y.checkrun = false → s.writeOk x.core x.thread = false →
           ∃ t, exec (.cGst x f) s = .next t ∧ (∀ q, t.byte q = s.byte q) ∧ t.thr x.core x.thread = y.issued .globalStore []
             ∧ (t.rd rMemEpochDrop).toNat = min (2 ^ 32 - 1) ((s.rd rMemEpochDrop).toNat + 1)))
     ∧ (∀ i j o, s.gTarget y.part a = some (.latch i j o) → s.rdB (rCoreStat i) 4 = false →
       Ran (.cGld x f) s x (y.issued .globalLoad [.s f.a.toNat ((s.latchView i j >>> (8 * o)).setWidth 64)])))
  ∧ (∀ (s : State) (x : Issue) (f : CX), f.rsv = 0 → s.fenceClear x → s.room x.core x.thread → s.memx.armed = none →
       s.mayIssue x [.s f.a.toNat, .s f.b.toNat, .s f.val.toNat] →
       let y := s.thr x.core x.thread
       let a := (y.sreg f.b.toNat).toNat
       let v := y.sreg f.val.toNat
       a % 8 = 0 → ∀ pa, s.gTarget y.part a = some (.mem pa) → (larderOf pa).isSome = true → pa % 8 = 0 → s.cleanAt pa 8 →
         y.checkrun = false → s.writeOk x.core x.thread = true →
         let old : W64 := BitVec.ofNat 64 (leNat (s.bytes pa 8))
         let y' := y.issued .atomic [.s f.a.toNat old]
         StoreRan (.cSwap x f) s x y' pa (leBytes 8 v.toNat)
         ∧ StoreRan (.cFadd x f) s x y' pa (leBytes 8 (old + v).toNat)
         ∧ StoreRan (.cCas x f) s x y' pa (leBytes 8 (if old = y.sreg f.a.toNat then v else old).toNat))

/-- R241, R246, R314: submission to a DMA queue of 16, a posted latch write, a fence, and no operation. The descriptor is read at issue. -/
def Obligations.Submissions : Prop :=
  ∀ (s : State) (x : Issue), s.fenceClear x → x.core < 144 →
    let y := s.thr x.core x.thread
    let y' := y.goto (y.pc + 32)
    (s.mayIssue x [] →
      Ran (.cNop x) s x y'
      ∧ Ran (.cFence x) s x { y' with fence := y.outs.any (fun o => o.kind = .globalStore || o.kind = .atomic) })
    ∧ (∀ f : CD, f.rsv = 0 →
      let k := 4 * x.core + f.q.toNat
      let a := (y.sreg f.a.toNat).toNat
      (s.dmaq k).length < 16 →
      (s.mayIssue x [.s f.a.toNat] → a % 64 = 0 → a < 0x200000 → s.cleanAt (storeBase x.core + a) 64 →
        ∃ t, exec (.cDma x f) s = .next t ∧ t.thr x.core x.thread = y'
          ∧ t = { s.marked x.core with threads := t.threads, dma := t.dma, cnt := t.cnt }
          ∧ t.dmaq k = s.dmaq k ++ [s.jobOf x.core x.thread (s.bytes (storeBase x.core + a) 64) none])
      ∧ (s.mayIssue x [.s f.a.toNat, .s f.b.toNat] → s.latchAddrCause y.part a = none →
        ∃ t, exec (.cLpost x f) s = .next t ∧ t.thr x.core x.thread = y'
          ∧ t = { s.marked x.core with threads := t.threads, dma := t.dma, cnt := t.cnt }
          ∧ t.dmaq k = s.dmaq k ++ [s.jobOf x.core x.thread [] (some (y.sreg f.a.toNat, y.sreg f.b.toNat))]))

/-- R375, R376, R378, R379, R383, R387: the latch slots. On a PLAIN latch C.LSET sets value, owner and OWNED and rearms it, and C.LADD adds
modulo 2^64, or is dropped and counted on a broken one; on a BARRIER or LINK latch both are ignored and counted. C.LRD reads the value, and
C.LWAIT goes on at once when its condition holds or the latch is broken, or parks the thread with the wait armed. C.LARR records a
pending release. With no thread parked on the latch, the thread and the latch are all that changes. -/
def Obligations.LatchSlots : Prop :=
  ∀ (s : State) (x : Issue) (f : CL), s.fenceClear x → f.latch.toNat < 48 → s.waiters x.core f.latch.toNat = [] →
    let j := f.latch.toNat
    let y := s.thr x.core x.thread
    let y' := y.goto (y.pc + 32)
    let r := s.latch x.core j
    let v := if f.immv then f.imm.signExtend 64 else y.sreg f.a.toNat
    let regs : List RegRef := [.s f.a.toNat, .s f.b.toNat]
    let latched (i : Instr) (p : W128 → Prop) : Prop :=
      ∃ t, exec i s = .next t ∧ t = { (s.marked x.core).setThr x.core x.thread y' with latches := t.latches, cnt := t.cnt } ∧ p (t.latch x.core j)
    let counted (i : Instr) (hi lo : Nat) : Prop :=
      ∃ t, exec i s = .next t ∧ t = { (s.marked x.core).setThr x.core x.thread y' with regs := t.regs, cnt := t.cnt }
        ∧ t.rdF rLatStat hi lo = min 255 (s.rdF rLatStat hi lo + 1)
    s.mayIssue x regs →
      (lKind r = 0 → latched (.cLset x f) (fun q => lValue q = v ∧ lOwned q = true ∧ lOwner q = y.seq.toNat ∧ lBroken q = false ∧ lEstat q = 0
        ∧ lKind q = 0))
      ∧ (lKind r = 0 → lBroken r = false → latched (.cLadd x f) (fun q => lValue q = lValue r + v ∧ lOwner q = lOwner r))
      ∧ (lKind r = 0 → lBroken r = true → counted (.cLadd x f) 23 16)
      ∧ (lKind r ≠ 0 → counted (.cLset x f) 31 24 ∧ counted (.cLadd x f) 31 24)
      ∧ Ran (.cLrd x f) s x (y.afterS f.a (lValue r))
      ∧ (f.cond.toNat ≤ 6 →
          Ran (.cLwait x f) s x (if condMet f.cond.toNat (lValue r) v (lValue r) then { y' with wstat := 0 }
            else if lBroken r then { y' with wstat := BitVec.ofNat 16 (0x0500 ||| lEstat r) }
            else { y' with st := .parked, wait := some { latch := j, cond := f.cond.toNat, cmp := v, old := lValue r, issued := s.now,
                                                         timeout := (y.sreg f.b.toNat).toNat % 2 ^ 32 } }))
      ∧ (6 < f.cond.toNat → (slotOut (.cLwait x f) s x.core x.thread).bind (·.cause) = some cBundle)
      ∧ (s.latchAddrCause y.part (y.sreg f.a.toNat).toNat = none → s.releases.length < 256 →
          ∃ t e, exec (.cLarr x f) s = .next t ∧ t.releases = s.releases ++ [e] ∧ e.round = y.sreg f.b.toNat ∧ e.latch = j
            ∧ e.core = (s.logical x.core).getD 255 ∧ e.child = false ∧ t.thr x.core x.thread = y')

/-! ### Bundles -/

/-- R161, R163, R183, R185, R204, R206: a bundle whose slot raises no cause writes its registers, moves the pc to the branch target or the
next bundle, and acts; a bundle with a cause writes no register and stores nothing: the thread becomes FAULTED with its pc where it was,
and the core's exception queue of 8 takes a record, or DROPPED counts when it is full. Here the bundle has one slot.
The model's assembly of a bundle (notes/assumptions/2.md): a slot with more to come waits in its thread and changes nothing else; a thread
that is not READY takes no slot. -/
def Obligations.BundleStops : Prop :=
  (∀ (s : State) (x : Issue) (i : Instr) (o : SlotOut), exec i s = slotStep s x i → (∀ z, i ≠ .cFence z) → s.fenceClear x →
     slotOut i s x.core x.thread = some o → o.ready = true → o.load = none → s.mayIssue x (o.srcs ++ o.dsts) →
     let y := s.thr x.core x.thread
     (o.cause = none →
       let next := { o.writes.foldl Thread.put y with pc := o.target.getD (y.pc + 32) }
       ∃ t u, exec i s = .next t ∧ u = { (s.marked x.core).setThr x.core x.thread next with cnt := u.cnt }
         ∧ (o.ends = false → t = { o.act u with cnt := t.cnt })
         ∧ (o.ends = true → t = { (o.act u).setThr x.core x.thread ((o.act u).thr x.core x.thread).free with cnt := t.cnt }))
     ∧ (∀ k, o.cause = some k → o.consumed = [] →
       ∃ t, exec i s = .next t
         ∧ t = { s with threads := t.threads, cores := t.cores, cnt := t.cnt }
         ∧ t.thr x.core x.thread = { y with st := .faulted, under := .free, outs := [], fence := false, wait := none, bundle := [] }
         ∧ (t.core x.core).msgs = (s.core x.core).msgs ++ [⟨x.thread, k, y.part, y.ring, y.dcount⟩]
         ∧ ((s.core x.core).exc.length < 8 → ∃ e, (t.core x.core).exc = (s.core x.core).exc ++ [e] ∧ e.cause = k ∧ e.slot = o.kind
             ∧ e.thread = x.thread ∧ e.part = y.part ∧ e.bundle = y.pc ∧ e.seq = y.seq ∧ (t.core x.core).dropped = (s.core x.core).dropped)
         ∧ (8 ≤ (s.core x.core).exc.length → (t.core x.core).exc = (s.core x.core).exc
             ∧ (t.core x.core).dropped = min 255 ((s.core x.core).dropped + 1))))
  ∧ (∀ (s : State) (x : Issue) (i : Instr), exec i s = slotStep s x i →
       let y := s.thr x.core x.thread
       (y.st ≠ .ready → exec i s = .next s)
       ∧ (x.more = true → y.st = .ready → s.issues x.core = true → y.bundle = [] →
           exec i s = .next (s.setThr x.core x.thread { y with bundle := [i] })))

/-! ### Threads and cores -/

/-- R160, R163, R176, R183, R190, R198, R241, R248, R261, R282, R284, R370, R378, R379: a return writes the withheld results, or faults the
thread on poison; hold and release move a thread to HELD and back, unless HOLD_ALL, a hand-over or a stopped partition keeps it; a wait
whose beats have passed wakes its thread with SYNC_TIMEOUT; an idle core may gate its clock; a FREE thread of a running KERNEL starts with
the registers of R261, and one of a running MATMUL claims the next item and queues its tile.
R182, R183, R186, R187, R192: what the wing controller does with the first message of a thread. BREAK holds it, a hardware cause fences
its core, and any other cause ends the command that the message names with the code of R182 and frees the thread. -/
def Obligations.ThreadLifecycle : Prop :=
  (∀ (s : State) (c t : Nat),
     let y := s.thr c t
     let kept := s.handovers.any (fun h => h.old = c && h.held.contains t)
     (∀ n o, y.outs[n]? = some o → o.poison = false →
       exec (.loadReturn c t n) s = .next (s.setThr c t (o.writes.foldl Thread.put { y with
         outs := y.outs.eraseIdx n, fence := y.fence && (y.outs.eraseIdx n).any (fun o => o.kind = .globalStore || o.kind = .atomic) })))
     ∧ (∀ n o, y.outs[n]? = some o → o.poison = true →
       ∃ u, exec (.loadReturn c t n) s = .next u ∧ (u.thr c t).st = .faulted ∧ (u.thr c t).s = y.s ∧ (u.thr c t).v = y.v
         ∧ (u.thr c t).p = y.p ∧ (u.thr c t).t = y.t ∧ (u.core c).msgs = (s.core c).msgs ++ [⟨t, cPoison, y.part, y.ring, y.dcount⟩] ∧ u.mem = s.mem)
     ∧ ((y.st = .ready ∨ y.st = .parked) → exec (.threadHold c t) s = .next (s.setThr c t { y with st := .held, under := y.st }))
     ∧ (y.st = .held → s.rdB (rCoreCtl c) 29 = false → kept = false → (s.part y.part).stopped = false →
         (y.under ≠ .ready → exec (.threadRelease c t) s = .next (s.setThr c t { y with st := y.under }))
         ∧ (y.under = .ready → exec (.threadRelease c t) s = .next ((s.setThr c t { y with st := .ready }).wrB (rCoreStat c) 0 false)))
     ∧ (y.st = .held → s.rdB (rCoreCtl c) 29 = true ∨ kept = true → exec (.threadRelease c t) s = .next s)
     ∧ (y.st = .held → s.rdB (rCoreCtl c) 29 = false → kept = false → (s.part y.part).stopped = true →
         ∃ u, exec (.threadRelease c t) s = .next u ∧ u = { s with parts := u.parts } ∧ 32 * (s.logical c).getD 128 + t ∈ (u.part y.part).held)
     ∧ (y.st = .faulted → exec (.threadRelease c t) s = .next (s.setThr c t y.free))
     ∧ (∀ w, y.wait = some w → y.st = .parked → w.timeout ≠ 0 → w.issued.toNat + w.timeout ≤ s.now.toNat →
       ∃ u, exec (.latchWaitTimeout c t) s = .next u ∧ u.thr c t = { y with st := .ready, wait := none, wstat := eSyncTimeout }
         ∧ u = { s with threads := u.threads, regs := u.regs } ∧ (∀ o, o ≠ rCoreStat c → u.rd o = s.rd o))
     ∧ (s.rdB (rCoreCtl c) 0 = true → (∀ t < 32, (s.thr c t).st ≠ .ready ∧ (s.thr c t).outs = []) →
         (∀ a < 4, s.rdB (rArrStat (4 * c + a)) 0 = true ∧ (s.arr (4 * c + a)).queue = []) →
         exec (.coreGate c) s = .next (s.wrB (rCoreStat c) 0 true))
     ∧ (∀ r dc k lc, s.cmd r dc = some k → k.phase = .running → (s.counterFor k (wingOf c)).1 ≠ 0 →
         s.logical c = some lc → y.st = .free → s.coreOpen c = true → s.partOfCore lc = some k.part → (s.part k.part).stopped = false →
         s.rdB (rCoreCtl c) 29 = false → t < 32 → s.noErrors →
         (∀ pa, k.opcode = 0x18 → t < k.kThreads → k.loaded.contains c = true → s.range k.kArgs 64 = some pa →
           ∃ u, exec (.threadStart c t r dc) s = .next u ∧ (u.thr c t).st = .ready ∧ (u.thr c t).pc = BitVec.ofNat 64 k.kLoadAt
             ∧ (u.thr c t).sreg 1 = BitVec.ofNat 64 (s.counterFor k (wingOf c)).1 ∧ (u.thr c t).sreg 2 = BitVec.ofNat 64 (s.counterFor k (wingOf c)).2
             ∧ (∀ j < 8, (u.thr c t).sreg (24 + j) = BitVec.ofNat 64 (leNat (s.bytes (pa + 8 * j) 8)))
             ∧ (∀ j < 24, j ≠ 1 → j ≠ 2 → (u.thr c t).sreg j = 0) ∧ (u.thr c t).part = k.part ∧ (u.thr c t).epoch = s.epoch lc
             ∧ (u.thr c t).flags = 0 ∧ (u.thr c t).rm = 0 ∧ (u.thr c t).v = y.v ∧ u.mem = s.mem)
         ∧ (∀ id n x, k.opcode = 1 → (s.core c).ledger.length < 1024 → (s.counterFor k (wingOf c)).1 = recordAddr (wingOf c) id → id < 65536 →
           leNat (s.bytes (recordAddr (wingOf c) id) 8) = n → n < leNat (s.bytes (recordAddr (wingOf c) id + 8) 8) →
           k.tab + 32 * n + 32 ≤ dramEnd → s.itemAt k n = some (x, 0) →
           (∀ a < 4, (s.arr (4 * c + a)).queue = [] ∧ (s.arr (4 * c + a)).idle = true ∧ (s.arr (4 * c + a)).bad = false) →
           ∃ u q, exec (.threadStart c t r dc) s = .next u ∧ (u.thr c t).st = .parked ∧ (u.arr (4 * c)).queue = [q] ∧ q.item = some n ∧ q.core = c
             ∧ q.thread = t ∧ q.part = k.part ∧ leNat (u.bytes (recordAddr (wingOf c) id) 8) = n + 1)))
  ∧ (∀ (s : State) (c t : Nat) (m : ExcMsg) (rest : List ExcMsg), (s.core c).msgs = m :: rest → m.thread = t → (s.thr c t).st = .faulted →
       (s.thr c t).ring = m.ring → (s.thr c t).dcount = m.dcount →
       let y := s.thr c t
       (m.cause = cBreak → exec (.wcException c t) s =
         .next ((s.setCore c { s.core c with msgs := rest }).setThr c t { y with st := .held, under := .ready }))
       ∧ (0x10 ≤ m.cause → s.noErrors → s.handovers = [] → ∃ u, exec (.wcException c t) s = .next u ∧ u.rdB (rCoreStat c) 6 = true
           ∧ (u.core c).msgs = rest ∧ u.mem = s.mem ∧ u.threads = s.threads)
       ∧ (m.cause < 0x10 → m.cause ≠ cBreak → t < 32 → ∃ u, exec (.wcException c t) s = .next u ∧ (u.thr c t).st = .free
           ∧ (u.core c).msgs = rest
           ∧ (∀ k, s.cmd m.ring m.dcount = some k → k.phase ≠ .failed →
               ∃ k', u.cmd m.ring m.dcount = some k' ∧ k'.phase = .failed ∧ k'.err = causeCode m.cause)))

/-- R189 to R193, R198, R200, R201: fences, draining, HOLD_ALL, the exception registers and the ledger. A fence stops a core's issue and
abandons its tiles; reading CORE_EXC3 removes the oldest record and reading CORE_EXC0 clears DROPPED; the ledger is cleared for an MCP
only. An access to the register block of a core that is frozen for a hand-over is held for its replacement. -/
def Obligations.CoreControl : Prop :=
  ∀ (s : State) (i : Nat),
    (s.fenced i = false → s.noErrors → (∀ h ∈ s.handovers, h.old ≠ i) → ∃ u, exec (.coreFence i) s = .next u ∧ u.fenced i = true ∧ u.issues i = false
      ∧ (∀ a < 4, (u.arr (4 * i + a)).queue = [] ∧ (u.arr (4 * i + a)).idle = true)
      ∧ (∀ lc, s.logical i = some lc → u.epoch lc = s.epoch lc + 1) ∧ u.mem = s.mem ∧ u.threads = s.threads)
    ∧ (s.fenced i = true → exec (.coreFence i) s = .next s)
    ∧ (s.frozen i = false →
      (s.fenced i = false → ∀ on : Bool, ∃ u, exec (.coreDrain i on) s = .next u ∧ u.rdB (rCoreCtl i) 30 = on ∧ u.rdB (rCoreStat i) 5 = on
        ∧ u = { s with regs := u.regs })
      ∧ (∀ on : Bool, ∃ u, exec (.coreHoldAll i on) s = .next u ∧ u.rdB (rCoreCtl i) 29 = on ∧ u = { s with regs := u.regs, threads := u.threads }
        ∧ (on = true → u.issues i = false ∧ ∀ t < 32, (u.thr i t).st ≠ .ready ∧ (u.thr i t).st ≠ .parked) ∧ (on = false → u.threads = s.threads))
      ∧ (∀ e l, (s.core i).exc = e :: l →
        exec (.coreExc3Read i) s = .next ((s.setCore i { s.core i with exc := l }).answer (leBytes 4 e.beat.toNat)))
      ∧ (∃ u, exec (.coreExc0Read i) s = .next u ∧ u.resp = leBytes 4 (s.excRead i 0).toNat ∧ (u.core i).dropped = 0
        ∧ (u.core i).exc = (s.core i).exc ∧ u = { s with cores := u.cores, resp := u.resp })
      ∧ (∃ u, exec (.ledgerClear i true) s = .next u ∧ (u.core i).ledger = [] ∧ (u.core i).spilled = 0 ∧ u.rdB (rLedgerCtl i) 31 = false
        ∧ u = { s with cores := u.cores, regs := u.regs }))
    ∧ (s.frozen i = true → ∀ p ∈ ([(.coreDrain i true, .drain true), (.coreDrain i false, .drain false), (.coreHoldAll i true, .holdAll true),
        (.coreHoldAll i false, .holdAll false), (.coreExc3Read i, .excRead 3), (.coreExc0Read i, .excRead 0), (.ledgerClear i true, .clearLedger)]
          : List (Instr × CoreOp)), exec p.1 s = .next { s with heldAcc := s.heldAcc ++ [(i, .core p.2)] })
    ∧ (∃ u e, exec (.ledgerClear i false) s = .next u ∧ u = { s with host := { s.host with log := s.host.log ++ [e] } } ∧ e.code = eHifRoleDenied)

/-- R182 to R184, R189 to R193, R575: the hand-over and the takeover of a core. A draining core whose arrays are idle and whose loads have returned
freezes, with the lowest passed attic core of its wing as its replacement; the commit maps the logical core to the replacement and
frees the old core; a fault takeover names the same spare, a hardware cause being raised by its thread, and its commit ends the pending
takeover. With no spare the map loses the core. -/
def Obligations.HandOver : Prop :=
  ∀ (s : State) (i lc : Nat), s.logical i = some lc → i < 144 →
    (∀ n, s.rdB (rCoreStat i) 5 = true → s.fenced i = false → s.arraysIdle i = true → s.handovers = [] → s.spareFor (wingOf i) = some n →
      (∀ t < 32, (s.thr i t).outs = []) →
      ∃ u h, exec (.handoverFreeze i) s = .next u ∧ u.handovers = [h] ∧ h.logical = lc ∧ h.old = i ∧ h.new = n ∧ h.frozen = true ∧ h.fault = false
        ∧ u.rdB (rCoreStat i) 4 = true ∧ (∀ t < 32, (u.thr n t).st ≠ .ready ∧ (u.thr n t).st ≠ .parked))
    ∧ (∀ h, s.handovers = [h] → h.logical = lc → h.old = i → h.new ≠ i → h.frozen = true → h.fault = false → s.heldAcc = [] →
      ∃ u, exec (.handoverCommit i) s = .next u ∧ u.phys lc = some h.new ∧ u.handovers = [] ∧ u.rdB (rCoreStat i) 4 = false)
    ∧ (∀ n cause thread bad, cause < 0x10 → s.handovers = [] → s.spareFor (wingOf i) = some n → i ≠ n →
      ∃ u h, exec (.faultTakeover i ⟨cause, thread⟩ bad) s = .next u ∧ u.fenced i = true ∧ u.handovers = [h] ∧ h.logical = lc ∧ h.old = i ∧ h.new = n
        ∧ h.fault = true)
    ∧ (∀ t cause bad, 0x10 ≤ cause → t < 32 → (s.thr i t).st = .ready → s.fenced i = true → (s.core i).exc.length < 8 →
      s.handovers.any (fun h => h.old = i) = true →
      ∃ u e, exec (.faultTakeover i ⟨cause, some t⟩ bad) s = .next u ∧ (u.thr i t).st = .faulted ∧ (u.core i).exc = (s.core i).exc ++ [e]
        ∧ e.cause = cause ∧ e.thread = t ∧ e.bundle = (s.thr i t).pc ∧ (u.core i).testNext = true
        ∧ (u.core i).msgs = (s.core i).msgs ++ [⟨t, cause, (s.thr i t).part, (s.thr i t).ring, (s.thr i t).dcount⟩])
    ∧ (∀ cause thread bad, cause < 0x10 → s.handovers = [] → s.spareFor (wingOf i) = none →
      ∃ u, exec (.faultTakeover i ⟨cause, thread⟩ bad) s = .next u ∧ u.phys lc = none)
    ∧ (∀ h, s.handovers = [h] → h.logical = lc → h.old = i → h.new ≠ i → h.fault = true → s.heldAcc = [] →
      ∃ u, exec (.takeoverCommit lc) s = .next u ∧ u.phys lc = some h.new ∧ u.handovers = [])

/-! ### Arrays -/

/-- R119, R121, R132, R137 to R140, R148, R150, R152, R155, R235, R237, R238: an array takes the tile at the head of its queue and stages its
operands; a run that passes its checks promotes or replays, one that fails them ends the tile; at its end the tile is written or not and the
latch rises by 1. A poisoned tile, and one that failed a check, is not written; the second marks the array SUSPECT. A remap takes effect at
the tile boundary, an injection is armed in the FACTORY and SERVICE states only, a read of ARR_ERR clears its counts, and a test returns a
SUSPECT array to service, a failing row replaced by a spare. -/
def Obligations.ArrayTiles : Prop :=
  ∀ (s : State) (a : Nat), a < 576 →
    let r := s.arr a
    (∀ q l, r.queue = q :: l → q.half = 0 → q.item = none → r.idle = true → r.bad = false → s.idleArray a = false →
      (s.part q.part).stopped = false → (s.core (a / 4)).ledger.length < 1024 → s.noErrors →
      ∃ u w, exec (.tileStart a 0) s = .next u ∧ (u.arr a).queue = l ∧ (u.arr a).lo = some w ∧ w.req = q ∧ w.mb = 0 ∧ w.run = 0
        ∧ w.poisoned = false ∧ w.done = false ∧ w.kLen = (tileP q.desc).K ∧ u.mem = s.mem ∧ u.threads = s.threads)
    ∧ (∀ w fault, r.lo = some w → w.done = false →
      let f := w.check (if fault ≠ 0 then min 2 fault else if w.injected then 1 + bf (s.rd (rArrInj a)) 0 0 else 0)
      ∃ u v, exec (.runComplete a 0 fault) s = .next u ∧ (u.arr a).lo = some v ∧ u.mem = s.mem ∧ u.threads = s.threads
        ∧ (f = 0 → v = w.runOnce) ∧ (f ≠ 0 → v.done = true ∧ v.failed = f ∧ v.req = w.req) ∧ (2 ≤ fault → v.failed ≠ 0))
    ∧ (∀ w, r.lo = some w → w.done = true → w.req.half = 0 → w.req.item = none → w.req.oen = false → w.req.latch < 48 → r.drain = none →
      lKind (s.latch w.req.core w.req.latch) = 0 → lBroken (s.latch w.req.core w.req.latch) = false → s.waiters w.req.core w.req.latch = [] →
      s.cmd w.req.ring w.req.dcount = none → s.noErrors → s.noTrace w.req.part →
      let ended (u : State) : Prop := (u.arr a).lo = none ∧ lValue (u.latch w.req.core w.req.latch) = lValue (s.latch w.req.core w.req.latch) + 1
      (w.poisoned = true → w.failed = 0 → ∃ u, exec (.tileEnd a ⟨0, false⟩) s = .next u ∧ ended u ∧ u.mem = s.mem ∧ bitAt (u.rd (rArrErr a)) 3 = true)
      ∧ (w.poisoned = false → (w.failed = 1 ∨ w.failed = 2) → ∃ u, exec (.tileEnd a ⟨0, false⟩) s = .next u ∧ ended u ∧ u.mem = s.mem
          ∧ bitAt (u.rd (rArrErr a)) (w.failed - 1) = true ∧ (w.injected = false → (u.arr a).suspect = true))
      ∧ (w.clean = true → (w.dst.encode s).bad = false →
          (s.tileWrite w).1.claimSlot ((s.logical w.req.core).getD 255) w.req.thread % 2 = 0 →
          ∃ u, exec (.tileEnd a ⟨0, false⟩) s = .next u ∧ ended u ∧ u.mem = (s.tileWrite w).1.mem ∧ u.threads = s.threads))
    ∧ (∀ w f, r.lo = some w → r.drain = none → w.done = false → exec (.tileEnd a ⟨0, f⟩) s = .next s)
    ∧ (∀ v, ∃ u, exec (.arrRemapWrite a v) s = .next u ∧ u.rd (rArrRemap a) = v &&& 0xFFFFFFCF ∧ u = { s with regs := u.regs, arrays := u.arrays }
        ∧ (r.idle = true → (u.arr a).remap = v &&& 0xFFFFFFCF) ∧ (r.idle = false → (u.arr a).remap = r.remap))
    ∧ (∀ v, (s.test.lc = 1 ∨ s.test.lc = 3) → exec (.arrInjArm a v) s =
        .next (s.wr (rArrInj a) ((v &&& 0x83FFFF01) ||| (s.rd (rArrInj a) &&& 0x80000000))))
    ∧ (∀ v, s.test.lc ≠ 1 → s.test.lc ≠ 3 → exec (.arrInjArm a v) s = .next s)
    ∧ (∃ u, exec (.arrErrRead a) s = .next u ∧ u.resp = leBytes 4 (s.rd (rArrErr a)).toNat ∧ bf (u.rd (rArrErr a)) 31 16 = 0
        ∧ bf (u.rd (rArrErr a)) 15 0 = bf (s.rd (rArrErr a)) 15 0 ∧ u = { s with regs := u.regs, resp := u.resp })
    ∧ (r.bad = true → r.idle = true → ∃ u, exec (.arrayTest a [] []) s = .next u ∧ (u.arr a).suspect = false
        ∧ u = { s with regs := u.regs, arrays := u.arrays })
    ∧ (∀ m, r.bad = true → r.idle = true → r.remap = 0 → m < 64 →
        ∃ u, exec (.arrayTest a [m] []) s = .next u ∧ bf (u.rd (rArrRemap a)) 3 0 = 1 ∧ bf (u.rd (rArrRemap a)) 11 6 = m
          ∧ (u.arr a).bad = false ∧ (u.arr a).remap = u.rd (rArrRemap a))

/-! ### Commands of the rings -/

/-- R249, R250, R297, R537: a RUNNING ring with a waiting descriptor and room for its record gives it up: HEAD rises by one and the command
joins the live commands with the 64 bytes of the descriptor, checked or refused; a ring that is not RUNNING, is empty, is full of
unconsumed records, or belongs to a partition that is stopped or has a frozen core (log 28), gives none. -/
def Obligations.DescriptorTake : Prop :=
  ∀ (s : State) (n : Nat) (host : List Byte),
    let r := s.ring n
    let a := r.cbase.toNat + 64 * (r.head.toNat % 2 ^ r.log2e)
    (r.st = .running → r.head ≠ r.tail → (r.head - r.chead).toNat < 2 ^ r.log2e → (s.part (n / 8)).stopped = false →
      s.frozenPart (n / 8) = false → s.cmd n r.head.toNat = none → r.cmdDev = false →
      ∃ t k, exec (.descriptorTake n host) s = .next t ∧ (t.ring n).head = r.head + 1 ∧ t.cmd n r.head.toNat = some k
        ∧ k.desc = padTo 64 host ∧ k.part = n / 8 ∧ k.takenAt = s.now
        ∧ (descBad k = true → k.phase = .failed ∧ k.err = eDescInvalid ∧ k.detail = 1 ∧ k.refused = true)
        ∧ (descBad k = false → acvBad k = true → k.phase = .failed ∧ k.err = eContractVersion ∧ k.detail = 2 ∧ k.refused = true))
    ∧ (r.st = .running → r.head ≠ r.tail → (r.head - r.chead).toNat < 2 ^ r.log2e → (s.part (n / 8)).stopped = false →
      s.frozenPart (n / 8) = false → s.cmd n r.head.toNat = none → r.cmdDev = true → s.noErrors →
      ∃ t k, exec (.descriptorTake n host) s = .next t ∧ (t.ring n).head = r.head + 1 ∧ t.cmd n r.head.toNat = some k
        ∧ k.desc = (s.readMem (s.physOf a) 64).2.2)
    ∧ ((r.st ≠ .running ∨ r.head = r.tail ∨ 2 ^ r.log2e ≤ (r.head - r.chead).toNat ∨ (s.part (n / 8)).stopped = true
        ∨ s.frozenPart (n / 8) = true) →
      exec (.descriptorTake n host) s = .next s)

/-- R250, R251, R253, R541: the start rule. A command whose turn has not come changes nothing; one whose wait latch is broken or outside
the partition fails with that code, and its ring halts.
R251: a command whose latch wait has lasted WAIT_TIMEOUT beats since it was taken fails with SYNC_TIMEOUT; before that nothing
happens. -/
def Obligations.StartRule : Prop :=
  (∀ (s : State) (ring dc : Nat) (k : Cmd), s.cmd ring dc = some k → k.ring = ring → k.dcount = dc →
     ∀ i op, (i, op) ∈ [(Instr.nop ring dc, 0), (.matmul ring dc, 1), (.quantize ring dc, 2), (.convert ring dc, 3), (.copy ring dc, 4),
         (.fill ring dc, 5), (.reduceSum ring dc, 8), (.reduceSsq ring dc, 9), (.reduceMax ring dc, 0xA), (.reduceMin ring dc, 0xB),
         (.moments ring dc, 0xC), (.sort ring dc, 0x10), (.gather ring dc, 0x11), (.scatterAdd ring dc, 0x12), (.kernel ring dc, 0x18)] →
       (k.opcode ≠ op → exec i s = .next s)
       ∧ (s.gate k = .wait → exec i s = .next s)
       ∧ (∀ c, k.opcode = op → s.gate k = .fail c → ∃ t k', exec i s = .next t ∧ t.cmd ring dc = some k' ∧ k'.phase = .failed ∧ k'.err = c
           ∧ ((s.ring ring).st = .running → (t.ring ring).st = .halted ∧ (t.ring ring).lasterr = c)))
  ∧ (∀ (s : State) (ring dc : Nat) (k : Cmd), s.cmd ring dc = some k → k.phase = .taken → k.waitEn = true → s.waitGate k = .wait →
       (k.waitTimeout ≠ 0 → k.takenAt.toNat + k.waitTimeout ≤ s.now.toNat →
         ∃ t k', exec (.commandWaitTimeout ring dc) s = .next t ∧ t.cmd ring dc = some k' ∧ k'.phase = .failed ∧ k'.err = eSyncTimeout)
       ∧ (k.waitTimeout = 0 ∨ s.now.toNat < k.takenAt.toNat + k.waitTimeout → exec (.commandWaitTimeout ring dc) s = .next s))

/-- R257, R328, R672: NOP, FILL and COPY. FILL writes its code to every element; a local COPY of one row moves the row's bytes, and one of
any rows completes; a remote COPY leaves as packets, or fails with FAB_GROUP_DENIED where no group entry reaches the module.
R72 to R88, R257, R258, R291 to R294, R670: conversions and reductions write the encoding of the stated values: the source's values, the
totals of the fixed tree, the extremes with NaN left out, and the W32 moments. An adaptive QUANTIZE encodes at the record's block size
and halves it for the next one when the lost elements pass the threshold. A poisoned source ends each of them with MEM_POISON. -/
def Obligations.ElementCommands : Prop :=
  (∀ (s : State) (ring dc : Nat) (k : Cmd), s.noErrors →
     let u := s.begun k
     (s.startable ring dc 0 k → CmdRan (.nop ring dc) s k (fun u => u.mem))
     ∧ (s.startable ring dc 5 k → CmdRan (.fill ring dc) s k (fun u => (u.putTensor (u.reqCmd k) (k.ten 0) k.rows k.cols
         ((List.range k.rows).flatMap (fun i => (List.range k.cols).map (fun j => (i, j, fillCode (k.ten 0))))) []).mem))
     ∧ (s.startable ring dc 4 k → (s.entryFor k.part (k.ten 1).base).isSome = true →
       ∃ t k', exec (.copy ring dc) s = .next t ∧ t.cmd ring dc = some k' ∧ k'.phase = .written)
     ∧ (s.startable ring dc 4 k → s.entryFor k.part (k.ten 1).base = none →
       ∃ t k', exec (.copy ring dc) s = .next t ∧ t.cmd ring dc = some k' ∧ k'.phase = .failed ∧ k'.err = eFabGroupDenied ∧ t.mem = u.mem)
     ∧ (s.startable ring dc 4 k → isRemote (k.ten 1).base = false → k.rows = 1 → 0 < k.cols →
       let n := rowBytes (k.ten 0).fmt k.cols
       let src := s.physOf (k.ten 0).base
       let dst := s.physOf (k.ten 1).base
       oneMemory src n → oneMemory dst n →
       ∃ t k', exec (.copy ring dc) s = .next t ∧ t.cmd ring dc = some k' ∧ k'.phase = .written
         ∧ ∀ a, t.byte a = if dst ≤ a ∧ a < dst + n then u.byte (src + (a - dst)) else u.byte a))
  ∧ (∀ (s : State) (ring dc : Nat) (k : Cmd),
       let put (u : State) (t : Tensor) (rows cols : Nat) (val : Nat → Nat → Val) : List Host.Cell :=
         ((u.readTensor (u.reqCmd k) (k.ten 0) k.rows k.cols).1.putDest k t rows cols val).1.mem
       let one : Tensor := { k.ten 1 with stride := 0 }
       (s.noErrors →
         (s.startable ring dc 3 k → CmdRan (.convert ring dc) s k (fun u => put u (k.ten 1) k.rows k.cols (u.srcVal k)))
         ∧ (s.startable ring dc 2 k → k.adapt = false →
             CmdRan (.quantize ring dc) s k (fun u => put u ((k.ten 1).withB ((k.ten 1).sc % 4)) k.rows k.cols (u.srcVal k)))
         ∧ (s.startable ring dc 2 k → k.adapt = true →
             let u := s.begun k
             let st := (u.readMem (u.physOf k.stateAt) 16).2.2
             let b := leAt st 0 1 % 4
             let e := (u.destOf ((k.ten 1).withB b) k.rows k.cols (u.srcVal k)).encode u
             let halve := decide (leAt k.param 12 2 * e.nz < e.lost * 65536) && decide (k.minB < b)
             u.badScales ((k.ten 1).withB b) k.rows k.cols = false →
             CmdRan (.quantize ring dc) s k (fun u => put u ((k.ten 1).withB b) k.rows k.cols (u.srcVal k))
             ∧ ∃ t k', exec (.quantize ring dc) s = .next t ∧ t.cmd ring dc = some k' ∧ k'.bsUsed = b ∧ k'.adapted = halve
               ∧ k'.bsNext = (if halve then b - 1 else b)
               ∧ k'.adaptRec = leBytes 1 (if halve then b - 1 else b)
                   ++ leBytes 1 (if halve then holdAdd 255 (leAt st 1 1) 1 else leAt st 1 1) ++ zeros 14)
         ∧ (s.startable ring dc 8 k → CmdRan (.reduceSum ring dc) s k (fun u => put u one 1 k.outs (fun _ i => sumTotal k.accf false (u.axisVals k i))))
         ∧ (s.startable ring dc 9 k → CmdRan (.reduceSsq ring dc) s k (fun u => put u one 1 k.outs (fun _ i => sumTotal k.accf true (u.axisVals k i))))
         ∧ (s.startable ring dc 0xA k → CmdRan (.reduceMax ring dc) s k (fun u => put u one 1 k.outs (fun _ i => extreme true (u.axisVals k i))))
         ∧ (s.startable ring dc 0xB k → CmdRan (.reduceMin ring dc) s k (fun u => put u one 1 k.outs (fun _ i => extreme false (u.axisVals k i))))
         ∧ (s.startable ring dc 0xC k → ∃ t k', exec (.moments ring dc) s = .next t ∧ t.cmd ring dc = some k' ∧ k'.phase = .written
             ∧ (oneMemory (s.physOf (k.ten 1).base) (12 * k.outs) → ∀ i < k.outs,
               let m := momTotal ((s.begun k).axisVals k i)
               t.bytes (s.physOf (k.ten 1).base + 12 * i) 12 = leBytes 4 m.1 ++ leBytes 4 m.2.1 ++ leBytes 4 m.2.2)))
       ∧ (∀ i op, (i, op) ∈ [(Instr.quantize ring dc, 2), (.convert ring dc, 3), (.reduceSum ring dc, 8), (.reduceSsq ring dc, 9),
             (.reduceMax ring dc, 0xA), (.reduceMin ring dc, 0xB), (.moments ring dc, 0xC), (.sort ring dc, 0x10), (.scatterAdd ring dc, 0x12)] →
           s.startable ring dc op k → ((s.begun k).readTensor ((s.begun k).reqCmd k) (k.ten 0) k.rows k.cols).2 = true →
           ∃ t k', exec i s = .next t ∧ t.cmd ring dc = some k' ∧ k'.phase = .failed ∧ k'.err = eMemPoison))

/-- R102, R106: what the extreme of a list and the order of a row are. The extreme of values that are not all NaN is one of them and none is
beyond it; with nothing but NaN it is NaN. A sorted row holds every position once, is in order with NaN last, and keeps the order of
equal values.
R106, R260 to R271, R278 to R283, R553: the commands with an index, a matrix product or a work counter start and end as stated. A
GATHER or SCATTER_ADD with an index out of range completes with INDEX_RANGE and their number; a started MATMUL has its items in the table
in memory, the selected ones marked for re-execution, and each wing's counter at its share; KERNEL opens the work counters of its wings. -/
def Obligations.OrderAndIndex : Prop :=
  ((∀ (mx : Bool) (l : List Val), (∀ v ∈ l, v.isNan = true) → (extreme mx l).isNan = true)
   ∧ (∀ (mx : Bool) (l : List Val), (∃ v ∈ l, v.isNan = false) → extreme mx l ∈ l ∧ (extreme mx l).isNan = false
       ∧ ∀ v ∈ l, v.isNan = false → (if mx then Val.ltz (extreme mx l) v else Val.ltz v (extreme mx l)) = false)
   ∧ (∀ (desc : Bool) (l : List (Nat × Val)), (sortRow desc l).Perm l ∧ (sortRow desc l).Pairwise (fun a b => sortLe desc a.2 b.2 = true))
   ∧ (∀ (desc : Bool) (l : List (Nat × Val)) (v : Val),
       (sortRow desc l).filter (fun y => sortLe desc v y.2 && sortLe desc y.2 v) = l.filter (fun y => sortLe desc v y.2 && sortLe desc y.2 v)))
  ∧ (∀ (s : State) (ring dc : Nat) (k : Cmd), s.noErrors → s.noTrace k.part → k.part < 8 →
       let ended (i : Instr) (p : State → Cmd → Prop) : Prop :=
         ∃ t k', exec i s = .next t ∧ t.cmd ring dc = some k' ∧ t.rings = s.rings ∧ p t k'
       let failed (i : Instr) (n : Nat) : Prop :=
         ∃ t k', exec i s = .next t ∧ t.cmd ring dc = some k' ∧ k'.phase = .failed ∧ k'.err = eIndexRange ∧ k'.detail = min 0xFFFFFFFF n
       let idx (n : Nat) : List Nat :=
         (List.range n).map (fun j => leAt (((s.begun k).readMem (s.physOf (k.ten 1).base) (4 * n)).2.2) (4 * j) 4)
       let e := s.activeCores k.part 0
       let w := s.activeCores k.part 1
       let counters (k' : Cmd) : Prop := (k'.counterE ≠ 0 ↔ s.coresOfWing k.part 0 ≠ []) ∧ (k'.counterW ≠ 0 ↔ s.coresOfWing k.part 1 ≠ [])
       let claims (t : State) (k' : Cmd) (share n : Nat) : Prop :=
         (k'.counterE + 64 ≤ k'.counterW ∨ k'.counterW = 0 → k'.counterE ≠ 0 →
           t.bytes k'.counterE 16 = leBytes 8 0 ++ leBytes 8 (if s.coresOfWing k.part 1 = [] then n else share))
         ∧ (k'.counterW ≠ 0 → t.bytes k'.counterW 16 = leBytes 8 (if s.coresOfWing k.part 0 = [] then 0 else share) ++ leBytes 8 n)
       (s.startable ring dc 0x10 k → ended (.sort ring dc) (fun _ k' => k'.phase = .written))
       ∧ (s.startable ring dc 0x11 k → (∀ e ∈ idx k.xrows, e < k.rows) → ended (.gather ring dc) (fun _ k' => k'.phase = .written))
       ∧ (s.startable ring dc 0x11 k → (∃ e ∈ idx k.xrows, k.rows ≤ e) →
           failed (.gather ring dc) ((idx k.xrows).filter (fun e => !decide (e < k.rows))).length)
       ∧ (s.startable ring dc 0x12 k → (∀ e ∈ idx k.rows, e < k.xrows) → ended (.scatterAdd ring dc) (fun _ k' => k'.phase = .written))
       ∧ (s.startable ring dc 0x12 k → (∃ e ∈ idx k.rows, k.xrows ≤ e) →
           failed (.scatterAdd ring dc) ((idx k.rows).filter (fun e => !decide (e < k.xrows))).length)
       ∧ (s.startable ring dc 1 k →
           let items := k.plan (s.activeCores k.part (s.wingOfPart k.part))
           ended (.matmul ring dc) (fun t k' => k'.phase = .running ∧ k'.tab = s.freeTable ∧ k'.items = items.length ∧ counters k'
             ∧ k'.checks.map (·.item) = (List.range items.length).filter (checkSelected k.seq k.level)
             ∧ (s.freeTable + 32 * items.length ≤ dramEnd → claims t k' (eastShare items e w) items.length
               ∧ ∀ j x, items[j]? = some x → t.bytes (s.freeTable + 32 * j) 32 = x.1.entry x.2)))
       ∧ (s.startable ring dc 0x18 k → ended (.kernel ring dc) (fun t k' => k'.phase = .running ∧ k'.items = k.kItems ∧ counters k'
             ∧ claims t k' (if w = 0 then k.kItems else k.kItems * e / (e + w)) k.kItems)))

/-- R252, R289, R292, R296, R538, R539: a command that may complete leaves the live commands. With RESULT_EN its completion block goes to
memory, an adaptive record to its place; its record goes to the next slot of the completion ring, with SEQ, ERROR, DETAIL and the phase
bit of the lap, and WRITTEN counts it. A command that may not complete stays. -/
def Obligations.CommandCompletes : Prop :=
  ∀ (s : State) (ring dc : Nat) (k : Cmd), s.cmd ring dc = some k → k.ring = ring → k.dcount = dc →
    let r := s.ring ring
    let result := k.resultEn && !k.refused && s.inPart k.part k.result 64
    let done (result : Bool) (P : State → Prop) : Prop :=
      ∃ t, exec (.commandComplete ring dc) s = .next t ∧ t.cmd ring dc = none ∧ (t.ring ring).written = r.written + 1
        ∧ (∀ j < 32, tget (fun _ => (0 : Byte)) t.host.mem (r.rbase.toNat + 32 * (r.written.toNat % 2 ^ r.log2e) + j)
            = (k.record result false s.now (decide (r.written.toNat / 2 ^ r.log2e % 2 = 0))).getD j 0)
        ∧ t.threads = s.threads ∧ t.latches = s.latches ∧ P t
    (s.mayComplete k = false → exec (.commandComplete ring dc) s = .next s)
    ∧ (s.mayComplete k = true → k.signalEn = false ∨ k.err ≠ 0 → k.discard = false → r.cplDev = false → s.noTrace k.part →
      (result = false → done false (fun t => (k.opcode ≠ 1 ∨ k.phase ≠ .failed ∨ k.tab = 0) → (k.adaptRec = [] ∨ k.phase ≠ .written) →
        t.mem = s.mem))
      ∧ (result = false → k.phase = .written → k.adaptRec.length = 16 → s.noErrors → oneMemory (s.physOf k.stateAt) 16 →
          done false (fun t => t.bytes (s.physOf k.stateAt) 16 = k.adaptRec))
      ∧ (result = true → s.noErrors → oneMemory (s.physOf k.result) 64 → done true (fun t =>
          t.bytes (s.physOf k.result) 64
            = ({ k with beatEnd := if k.phase = .running ∧ k.opcode ≠ 1 then s.now else k.beatEnd } : Cmd).block)))
    ∧ (s.mayComplete k = true → k.discard = true → ∃ t, exec (.commandComplete ring dc) s = .next t ∧ t.cmd ring dc = none
      ∧ (t.ring ring).written = r.written)

/-- R271, R553 to R557, R573: the K-split combination of a MATMUL whose items are claimed and ended writes the combined totals to the
destination, or fails on a bad scale; a selected item that runs again compares equal, or differs and waits for a third execution, which
resolves it against one side or ends the command with CHECK_MISMATCH.
R287, R288: an item due for reissue runs again from a one-item record, on another logical core of the partition, and the count of reissued
items rises. The record names the item, and the claim slot of the new thread carries the counted halves over. -/
def Obligations.CheckedItems : Prop :=
  (∀ (s : State) (ring dc : Nat) (k : Cmd), s.cmd ring dc = some k → k.ring = ring → k.dcount = dc →
     (let gs := mGroups k.segments
       let tot (row n : Nat) : Val := match gs.find? (fun g => g.drow ≤ row && row < g.drow + g.rows) with
         | some g => combineParts k.mTree ((List.range k.mParts).map (fun j =>
             wideVal 8 true (leNat (s.readMem (s.partAt k j (g.m0 + (row - g.drow)) n) 6).2.2)))
         | none => .zero false
       let e := (s.groupDst k tot).foldl (fun e d => e.join (d.encode s)) ({} : Enc)
       k.opcode = 1 → k.mParts ≠ 1 → k.phase = .running → s.allClaimed k = true → k.toReissue = [] → s.frozenPart k.part = false →
       s.threadsEnded ring dc = true → s.opsEnded ring dc = true → s.noErrors →
       gs.Pairwise (fun a b => a.drow + a.rows ≤ b.drow ∨ b.drow + b.rows ≤ a.drow) →
       (e.bad = false → ∃ t k', exec (.kSplitCombine ring dc) s = .next t ∧ t.cmd ring dc = some k' ∧ k'.phase = .written
         ∧ t.mem = (s.matPut k (s.reqCmd k) e.codes e.scales).mem)
       ∧ (e.bad = true → ∃ t k', exec (.kSplitCombine ring dc) s = .next t ∧ t.cmd ring dc = some k' ∧ k'.phase = .failed
         ∧ k'.err = eScaleInvalid ∧ t.mem = s.mem))
     ∧ (k.phase ≠ .failed → ∀ x c lc, k.checks.find? (fun y => y.item = x.item && y.st = 2) = some x → s.mayRerun k c [x.first] = some lc →
       (s.core c).ledger.length < 1024 →
       ∀ sig : W64, ∃ t k', exec (.checkReexec ring dc x.item c sig) s = .next t ∧ t.cmd ring dc = some k'
         ∧ k'.reexec = min 0xFFFFFFFF (k.reexec + 1) ∧ t.mem = s.mem
         ∧ (∀ y ∈ k'.checks, y.item = x.item → y.re = lc ∧ y.reSig = sig ∧ (y.st = 0 ↔ sig = y.sig)))
     ∧ (k.phase ≠ .failed → ∀ x c lc sig, k.checks.find? (fun y => y.item = x.item && y.st = 1) = some x →
       s.mayRerun k c [x.first, x.re] = some lc → (s.core c).ledger.length < 1024 →
       ((sig = x.sig ∨ sig = x.reSig) → ∃ t k', exec (.thirdExecution ring dc x.item c sig) s = .next t ∧ t.cmd ring dc = some k'
         ∧ k'.phase = k.phase ∧ (∀ y ∈ k'.checks, y.item = x.item → y.st = 0) ∧ t.mem = s.mem)
       ∧ (sig ≠ x.sig → sig ≠ x.reSig → ∃ t k', exec (.thirdExecution ring dc x.item c sig) s = .next t ∧ t.cmd ring dc = some k'
         ∧ k'.phase = .failed ∧ k'.err = eCheckMismatch ∧ k'.detail = x.item)))
  ∧ (∀ (s : State) (ring dc c t lc : Nat) (k : Cmd) (d : Due), s.cmd ring dc = some k → k.ring = ring → k.dcount = dc → s.logical c = some lc →
       k.phase ≠ .failed → k.toReissue = [d] → lc / 64 = d.core / 64 → lc ≠ d.core →
       (∃ a < 4, (s.arr (4 * c + a)).bad = false) → (s.thr c t).st = .free → s.coreOpen c = true → s.partOfCore lc = some k.part →
       (s.part k.part).stopped = false → s.rdB (rCoreCtl c) 29 = false → t < 32 → s.noErrors →
       ∃ u k', exec (.itemReissue ring dc d.item c t) s = .next u ∧ u.cmd ring dc = some k' ∧ k'.reissued = k.reissued + 1 ∧ k'.toReissue = []
         ∧ k'.recs = k.recs ++ [recordAddr (d.core / 64) (s.freeRecord (d.core / 64))]
         ∧ (k.opcode ≠ 1 → (u.thr c t).st = .ready ∧ (u.thr c t).seq = k.seq ∧ (u.thr c t).reissue = true
             ∧ (u.thr c t).sreg 1 = BitVec.ofNat 64 (recordAddr (d.core / 64) (s.freeRecord (d.core / 64)))
             ∧ (u.thr c t).sreg 2 = BitVec.ofNat 64 (d.item + 1)))

/-! ### DMA -/

/-- R304, R314 to R319, R328, R671, R672: a descriptor with an error moves nothing and completes with its code; one without error, no
source of which is frozen, starts; one local row moves byte by byte, converted under CONV, or stores zeros under ZERO; at completion the
status word is written, and an error ends the thread's command. A queued latch write starts and leaves its queue at completion. -/
def Obligations.DmaMoves : Prop :=
  ∀ (s : State) (c q : Nat) (j : DmaJob) (l : List DmaJob), s.dmaq (4 * c + q) = j :: l →
    let d := dmaD j.desc
    let starts (P : State → DmaJob → Prop) : Prop :=
      ∃ t j', exec (.dmaStart c q) s = .next t ∧ t.dmaq (4 * c + q) = j' :: l ∧ j'.started = true ∧ P t j'
    (∀ e, j.post = none → j.started = false → (s.part j.part).stopped = false → s.dmaError j.part d = some e →
      starts (fun t j' => j'.err = e ∧ t.mem = s.mem ∧ t.threads = s.threads))
    ∧ (j.post = none → j.started = false → (s.part j.part).stopped = false → s.dmaError j.part d = none → s.dmaHeld j.part d = false →
      starts (fun _ j' => j'.err = j.err ∧ j'.group = s.entryFor j.part d.dst ∧ j'.lgroup = s.entryFor j.part d.latch))
    ∧ (∀ pa, j.post = none → j.started = false → (s.part j.part).stopped = false → s.dmaError j.part d = none → s.jobStale j = false →
      j.checkrun = false → d.rows = 1 → isRemote d.dst = false → s.partRange j.part d.dst d.outLen = some pa → oneMemory pa d.outLen →
      s.noErrors → s.frozenStore pa = false →
      (d.zero = true → starts (fun t j' => j'.bytes = d.outLen ∧ s.storedAt t pa (zeros d.outLen)))
      ∧ (∀ sp, d.zero = false → s.dmaSrc j.part d.src d.rowlen = some (.mem sp) → s.frozenStore sp = false → oneMemory sp d.rowlen →
        starts (fun t j' => j'.bytes = d.outLen ∧ j'.poisoned = 0 ∧ s.storedAt t pa (convRow d (s.bytes sp d.rowlen) []).1
          ∧ t.threads = s.threads ∧ t.latches = s.latches)))
    ∧ (∀ x, j.post = some x → j.started = false → (s.part j.part).stopped = false →
      starts (fun t j' => j'.lgroup = s.entryFor j.part x.1.toNat ∧ t.mem = s.mem))
    ∧ (∀ x, j.post = some x → j.started = true → ∃ t, exec (.dmaComplete c q) s = .next t ∧ t.dmaq (4 * c + q) = l ∧ t.mem = s.mem)
    ∧ (j.post = none → j.started = true → j.err = 0 → d.stat = false → d.latch = 0 → s.noTrace j.part →
      ∃ t, exec (.dmaComplete c q) s = .next t ∧ t.dmaq (4 * c + q) = l ∧ t = { s with dma := t.dma, cnt := t.cnt })
    ∧ (j.post = none → j.started = true → j.err = 0 → d.stat = true → d.latch = 0 → s.noTrace j.part → s.noErrors → d.status + 8 ≤ 0x200000 →
      s.jobStale j = false → s.frozen c = false →
      ∃ t, exec (.dmaComplete c q) s = .next t ∧ t.dmaq (4 * c + q) = l ∧ s.storedAt t (storeBase c + d.status) (leBytes 8 (dmaStatus j)))
    ∧ (∀ k, j.post = none → j.started = true → j.err ≠ 0 → s.cmd j.ring j.dcount = some k → k.phase ≠ .failed →
      ∃ t k', exec (.dmaComplete c q) s = .next t ∧ t.dmaq (4 * c + q) = l ∧ t.cmd j.ring j.dcount = some k' ∧ k'.phase = .failed ∧ k'.err = j.err)

/-! ### Memory -/

/-- R518: host accesses of device memory through BAR2. An access that its slot's partition does not own, or that leaves its slot, answers
Unsupported Request and is logged; an owned one reads or writes the bytes of the granule.
R320, R321, R329 to R331: the scrubber on an SRAM word, after the power-on fill. A word whose check bits differ by the column of data bit i has that bit corrected
and reads clean afterwards; one with any other multi-bit difference is stored poisoned, its data unchanged; a clean word stays. -/
def Obligations.HostMemoryAndScrub : Prop :=
  (∀ (s : State) (off n : Nat) (b : List Byte),
     (s.bar2Target off n = none → ∃ t e, exec (.bar2Read off n) s = .next t ∧ t.resp = [] ∧ t.host.log = s.host.log ++ [e]
       ∧ e.code = eHifBar2Denied ∧ t.mem = s.mem)
     ∧ (s.bar2Target off b.length = none → ∃ t e, exec (.bar2Write off b) s = .next t ∧ t.resp = [] ∧ t.host.log = s.host.log ++ [e]
       ∧ e.code = eHifBar2Denied ∧ t.mem = s.mem)
     ∧ (∀ p pa, s.bar2Target off n = some (p, pa) → s.memReady pa = true → oneMemory pa n → s.noErrors →
       ∃ t, exec (.bar2Read off n) s = .next t ∧ t.resp = s.bytes pa n ∧ t = { s with cnt := t.cnt, resp := t.resp })
     ∧ (∀ p pa, s.bar2Target off b.length = some (p, pa) → s.memReady pa = true → oneMemory pa b.length → s.noErrors →
       ∃ t, exec (.bar2Write off b) s = .next t ∧ s.storedAt t pa b ∧ t = { s with mem := t.mem, ecc := t.ecc, cnt := t.cnt }))
  ∧ (∀ (s : State) (a pa : Nat), s.rdB rMemScrub 31 = true → s.rdB rMemInit 31 = true → s.memx.armed = none → s.resolve a = .mem pa →
       isDram pa = false →
       let g := pa / 8 * 8
       (s.delta g = 0 → exec (.scrubRead a) s = .next s)
       ∧ (∀ i, s.delta g < 256 → hsiaoCols.findIdx? (fun c => c = s.delta g) = some i → s.delta g ≠ 0 →
         ∃ t, exec (.scrubRead a) s = .next t ∧ t.delta g = 0 ∧ t.byte (g + i / 8) = s.byte (g + i / 8) ^^^ BitVec.ofNat 8 (2 ^ (i % 8))
           ∧ (∀ b, b ≠ g + i / 8 → t.byte b = s.byte b))
       ∧ (s.delta g < 256 → s.delta g ≠ 0 → hsiaoCols.findIdx? (fun c => c = s.delta g) = none → (∀ j < 8, 2 ^ j ≠ s.delta g) →
         ∃ t, exec (.scrubRead a) s = .next t ∧ t.delta g = 0x700 ∧ t.mem = s.mem))

/-- R332 to R336, R342 to R348, R573: the spares and their registers. An erased channel shows state 1 and, without OP 1, the first idle spare
starts its rebuild; the end of a rebuild makes the spare ACTIVE and retires the failed channel; a row remap takes one spare row; a
bucket leaks one count; reads of ECC_BKT and MEM_EPOCH_DROP clear their counts. -/
def Obligations.MemorySpares : Prop :=
  ∀ (s : State),
    (∀ st c, st < 8 → c < 20 → s.chanSt st c = 0 → ∃ t, exec (.spareEraseOnly st c) s = .next t ∧ t.chanSt st c = 1 ∧ t.mem = s.mem)
    ∧ (∀ st c, st < 8 → c < 20 → s.chanSt st c = 0 → s.erasedChan st = none → (∀ d < 20, s.chanSt st d ≠ 2) → (∃ d < 20, s.chanSt st d = 3) →
      ∃ t d, exec (.spareEraseRebuild st c) s = .next t ∧ t.chanSt st c = 1 ∧ d < 20 ∧ s.chanSt st d = 3 ∧ t.chanSt st d = 2 ∧ t.mem = s.mem)
    ∧ (∀ st c, st < 8 → c < 20 → s.chanSt st c = 1 → s.erasedChan st = some (c, true) → (∀ d < 20, s.chanSt st d ≠ 2) → (∃ d < 20, s.chanSt st d = 3) →
      ∃ t d, exec (.spareStartRebuild st c) s = .next t ∧ d < 20 ∧ s.chanSt st d = 3 ∧ t.chanSt st d = 2 ∧ t.mem = s.mem)
    ∧ (∀ st c d o, st < 8 → c < 20 → c ≠ d → s.erasedChan st = some (c, o) → (List.range 20).find? (fun e => s.chanSt st e = 2) = some d → s.noErrors →
      ∃ t, exec (.rebuildEnd st) s = .next t ∧ t.chanSt st d = 0 ∧ t.chanSt st c = 4)
    ∧ (∀ st c row, st < 8 → c < 20 → s.rdF (rMemChan (20 * st + c)) 9 0 ≠ 0 →
      ∃ t, exec (.rowRemap st c row) s = .next t ∧ t.rdF (rMemChan (20 * st + c)) 9 0 = s.rdF (rMemChan (20 * st + c)) 9 0 - 1
        ∧ t.memx.rowMap = s.memx.rowMap ++ [(st, c, row, 512 - s.rdF (rMemChan (20 * st + c)) 9 0)])
    ∧ (∀ st c row, st < 8 → c < 20 → s.rdF (rMemChan (20 * st + c)) 9 0 = 0 →
      ∃ t, exec (.rowRemap st c row) s = .next t ∧ t.regs = s.regs ∧ t.memx = s.memx ∧ t.mem = s.mem)
    ∧ (∀ inst bank row, inst < 2 → bank < 48 → tget (fun _ => 0) s.memx.redundancy (1024 * inst + bank) < 8 →
      ∃ t, exec (.redundancyRowRemap true inst bank row) s = .next t
        ∧ tget (fun _ => 0) t.memx.redundancy (1024 * inst + bank) = tget (fun _ => 0) s.memx.redundancy (1024 * inst + bank) + 1)
    ∧ (∀ inst bank row, inst < 144 → bank < 64 → tget (fun _ => 0) s.memx.redundancy (4096 + 1024 * inst + bank) < 4 →
      ∃ t, exec (.redundancyRowRemap false inst bank row) s = .next t
        ∧ tget (fun _ => 0) t.memx.redundancy (4096 + 1024 * inst + bank) = tget (fun _ => 0) s.memx.redundancy (4096 + 1024 * inst + bank) + 1)
    ∧ (∀ k < 320, ∃ t, exec (.bucketLeak k) s = .next t ∧ t.rdF (rEccBkt k) 23 16 = s.rdF (rEccBkt k) 23 16 - 1 ∧ t = { s with regs := t.regs }
      ∧ (∀ o, o ≠ rEccBkt k → t.rd o = s.rd o))
    ∧ (∀ k, ∃ t, exec (.eccBktRead k) s = .next t ∧ t.resp = leBytes 4 (s.rd (rEccBkt k)).toNat ∧ t.rdF (rEccBkt k) 31 24 = 0
      ∧ t.rdF (rEccBkt k) 23 0 = s.rdF (rEccBkt k) 23 0 ∧ t = { s with regs := t.regs, resp := t.resp })
    ∧ (∃ t, exec .memEpochDropRead s = .next t ∧ t.resp = leBytes 4 (s.rd rMemEpochDrop).toNat ∧ t.rd rMemEpochDrop = 0
      ∧ t = { s with regs := t.regs, resp := t.resp })

/-- R308, R309, R329, R337 to R339, R344: a granule changes its mode only while no partition owns it and the modes fit, which makes it BUSY;
an owned one takes the new OWNER alone; a BUSY one, and granule 383, hold; the refill leaves zero bytes and ends BUSY. Injection and raw accesses work in the FACTORY and SERVICE states only. -/
def Obligations.GranulesAndChecker : Prop :=
  ∀ (s : State),
    (∀ g v, g < 383 → granMode (bf v 5 4) ≠ granMode (s.modeOf g) → s.rdF (rMemGran g) 11 8 = 0xF → s.rdB (rMemGran g) 3 = false →
      modesFit (fun h => if h = g then bf v 5 4 else s.modeOf h) = true →
      ∃ t, exec (.granModeChange g v) s = .next t ∧ t.modeOf g = bf v 5 4 ∧ t.rdB (rMemGran g) 3 = true ∧ t = { s with regs := t.regs })
    ∧ (∀ g v, g < 383 → granMode (bf v 5 4) ≠ granMode (s.modeOf g) → s.rdF (rMemGran g) 11 8 ≠ 0xF → s.rdB (rMemGran g) 3 = false →
      modesFit (fun h => if h = g then bf v 5 4 else s.modeOf h) = true →
      ∃ t, exec (.granModeChange g v) s = .next t ∧ t.rdF (rMemGran g) 11 8 = bf v 11 8 ∧ t.modeOf g = s.modeOf g ∧ t = { s with regs := t.regs })
    ∧ (∀ g v, granMode (bf v 5 4) ≠ granMode (s.modeOf g) → modesFit (fun h => if h = g then bf v 5 4 else s.modeOf h) = false →
      exec (.granModeChange g v) s = .next s)
    ∧ (∀ g v, s.rdB (rMemGran g) 3 = true → exec (.granModeChange g v) s = .next s)
    ∧ (∀ g v, g < 383 → granMode (bf v 5 4) = granMode (s.modeOf g) → s.rdB (rMemGran g) 3 = false →
      ∃ t, exec (.granModeChange g v) s = .next t ∧ t.rdF (rMemGran g) 11 8 = bf v 11 8 ∧ t = { s with regs := t.regs })
    ∧ (∀ v, exec (.granModeChange 383 v) s = .next s)
    ∧ (∀ g < 384, s.memx.armed = none → s.rdB (rMemGran g) 3 = true → ∃ t, exec (.refillEnd g) s = .next t ∧ t.rdB (rMemGran g) 3 = false
      ∧ (∀ a, t.byte a = if g * 2 ^ 30 ≤ a ∧ a < g * 2 ^ 30 + 2 ^ 30 then 0 else s.byte a)
      ∧ t = { s with regs := t.regs, mem := t.mem, ecc := t.ecc })
    ∧ (∀ v, s.test.lc ≠ 1 → s.test.lc ≠ 3 → exec (.eccInjArm v) s = .next s ∧ exec (.rawRead v) s = .next s ∧ exec (.rawWrite v) s = .next s)
    ∧ ((s.test.lc = 1 ∨ s.test.lc = 3) →
      (∀ v pa, s.wordOf (s.rd64 rEccInjAddr) = some pa →
        ∃ t, exec (.eccInjArm v) s = .next t ∧ t.memx.armed = some pa ∧ t.rdB rEccInjCtl 31 = true ∧ t.mem = s.mem)
      ∧ (∀ v, s.wordOf (s.rd64 rEccInjAddr) = none →
        ∃ t, exec (.eccInjArm v) s = .next t ∧ t.memx.armed = none ∧ t.rdB rEccInjCtl 31 = false ∧ t.mem = s.mem)
      ∧ (s.rdB rMemInit 31 = false → ∀ v, exec (.rawRead v) s = .next s ∧ exec (.rawWrite v) s = .next s)
      ∧ (s.rdB rMemInit 31 = true → ∀ v pa, s.wordOf (s.rd64 rEccRawAddr) = some pa →
        let g := granOf pa
        let n := if isDram g then 8 else 1
        let b := (List.range n).flatMap (fun i => leBytes 8 (s.rd64 (rEccRawData i)))
        (∃ t, exec (.rawRead v) s = .next t ∧ (∀ i < n, t.rd64 (rEccRawData i) = leNat (s.bytes (g + 8 * i) 8)) ∧ t.rd64 rEccRawChk = s.rawChk g
          ∧ t = { s with regs := t.regs })
        ∧ (∃ t, exec (.rawWrite v) s = .next t ∧ s.storedAt t g b
          ∧ t.rawChk g = (if isDram g then s.rd64 rEccRawChk else s.rd64 rEccRawChk % 2048) ∧ t = { s with regs := t.regs, mem := t.mem, ecc := t.ecc })))

/-! ### The mailbox -/

/-- R522 to R527, R658: the general rules of every message command. A busy channel ignores a request and sets OVERRUN; a locked one refuses it;
a bad length or session identifier, another version, a module that is not ready and a sender without the role each have their code and change
nothing but the channel and, for the role, a log; a repeated TAG on a management channel is answered with the last response. -/
def Obligations.MessageRefusals : Prop :=
  ∀ (i : Instr) (s : State) (r : Request), requestOf i = some r → r.m.ch < 36 → s.pwr.shutting = false →
    let x := s.chan r.m.ch
    (32 ≤ r.m.ch → x.lastTag.any (fun l => l.1 = r.m.tag) = true → x.busy = false → exec i s = .next (s.answer x.resp))
    ∧ ((32 ≤ r.m.ch → x.lastTag.any (fun l => l.1 = r.m.tag) = false) → x.busy = true → exec i s = .next (s.setChan r.m.ch { x with overrun := true }))
    ∧ (s.fresh r → x.bind = .locked → Served i s r eHifLocked [] (Aside s))
    ∧ (s.fresh r → x.bind ≠ .locked → ¬ s.wellFormed r → Served i s r eHifMsgInvalid [] (Aside s))
    ∧ (s.fresh r → x.bind ≠ .locked → s.wellFormed r → ¬ s.speaks r → Served i s r eHifVersion [] (Aside s))
    ∧ (s.fresh r → x.bind ≠ .locked → s.wellFormed r → s.speaks r → s.mayServe r.code x = false → Served i s r eHifNotReady [] (Aside s))
    ∧ (s.fresh r → x.bind ≠ .locked → s.wellFormed r → s.speaks r → s.mayServe r.code x = true → r.who x = false →
        Served i s r eHifRoleDenied [] (fun t => Aside { s with host := { s.host with log := t.host.log } } t
          ∧ (x.bind ≠ .bound → t.host.log.map (·.code) = s.host.log.map (·.code) ++ [eHifRoleDenied])
          ∧ (x.bind = .bound → t.host.log = s.host.log ∧ ((t.chan r.m.ch).log.getLast?.map (·.code)) = some eHifRoleDenied)))

/-- R525, R527, R530 to R532, R534: versions, identity, the handshake, the end of a session and the error logs. A right proof binds the channel
with the role of its slot; a wrong or late one counts a failure, and the fourth locks the channel.
R535: KEY_SET stores a key slot: role, partition, and the wrapped key XORed with the mask of the session's own key. An OPERATOR session sets
TENANT slots and its own only. Clearing a slot closes the sessions that it opened. -/
def Obligations.Sessions : Prop :=
  (∀ (s : State) (m : Msg) (late : Bool),
     let x := s.chan m.ch
     (∀ r, requestOf (.hello m) = some r → s.accepts r →
       (leAt r.text 0 2 ≤ 0x0100 → 0x0100 ≤ leAt r.text 2 2 → Served (.hello m) s r 0 (leBytes 2 0x0100) (fun t => Aside s t
         ∧ (t.chan m.ch).ver = some 0x0100 ∧ (t.chan m.ch).noVersion = false))
       ∧ (¬ (leAt r.text 0 2 ≤ 0x0100 ∧ 0x0100 ≤ leAt r.text 2 2) → Served (.hello m) s r eHifVersion [] (fun t => Aside s t
         ∧ (t.chan m.ch).noVersion = true)))
     ∧ (∀ r, requestOf (.identity m) = some r → s.accepts r → Served (.identity m) s r 0
         ((List.range 10).flatMap (fun j => leBytes 4 (s.hifWord (4 * j)))
           ++ (List.range 8).flatMap (fun k => leBytes 1 (roleCode (s.key k).role) ++ leBytes 1 (s.key k).part)) (Aside s))
     ∧ (∀ r, requestOf (.sessionOpen m) = some r → s.accepts r →
       let slot := leAt r.text 0 1
       let part := leAt r.text 1 1
       slot ≤ 7 → leAt r.text 2 14 = 0 → roleOpens (s.key slot).role s.test.lc = true →
       ((s.key slot).role = .tenant → part = (s.key slot).part ∧ (s.part part).st = .ready) → ((s.key slot).role ≠ .tenant → part = 255) →
       ∃ mn sid, mn.length = 32 ∧ Served (.sessionOpen m) s r 0 (mn ++ leBytes 4 sid.toNat) (fun t => Aside { s with freeCtr := s.freeCtr + 1 } t
         ∧ (t.chan m.ch).bind = .opening ∧ (t.chan m.ch).sid = sid ∧ (t.chan m.ch).slot = slot ∧ (t.chan m.ch).opart = part
         ∧ (t.chan m.ch).mn = mn ∧ (t.chan m.ch).hn = (r.text.drop 16).take 16))
     ∧ (∀ r, requestOf (.sessionProof m late) = some r → s.accepts r →
       (late = false → (s.key x.slot).role ≠ .none → r.text = hmac256 (s.key x.slot).key (proofMessage m.ch x) →
         Served (.sessionProof m late) s r 0 (hmac256 (s.key x.slot).key (proofMessage m.ch x ++ [0x4D])) (fun t => Aside s t
           ∧ (t.chan m.ch).bind = .bound ∧ (t.chan m.ch).role = (s.key x.slot).role ∧ (t.chan m.ch).sid = x.sid ∧ (t.chan m.ch).fails = 0
           ∧ ((s.key x.slot).role = .tenant → (t.chan m.ch).part = x.opart)))
       ∧ (late = true ∨ r.text ≠ hmac256 (s.key x.slot).key (proofMessage m.ch x) →
         Served (.sessionProof m late) s r eHifAuthFail [] (fun t => (t.chan m.ch).fails = x.fails + 1 ∧ t.mem = s.mem ∧ t.parts = s.parts
           ∧ (x.fails < 3 → (t.chan m.ch).bind = .unbound)
           ∧ (3 ≤ x.fails → (t.chan m.ch).bind = .locked ∧ (t.chan m.ch).lockS = min 64 (2 ^ (x.fails - 3))))))
     ∧ (∀ r, requestOf (.sessionClose m) = some r → s.accepts r → Served (.sessionClose m) s r 0 [] (fun t =>
         (t.chan m.ch).bind = .unbound ∧ (t.chan m.ch).role = .none ∧ (t.chan m.ch).fails = x.fails ∧ (t.chan m.ch).log = []
         ∧ t.host.window ≠ some m.ch ∧ t.mem = s.mem ∧ t.rings = s.rings))
     ∧ (∀ r, requestOf (.errlogRead m) = some r → s.accepts r → leAt r.text 1 15 = 0 →
       (leAt r.text 0 1 = 0 → Served (.errlogRead m) s r 0 (leBytes 4 (min 60 x.log.length) ++ leBytes 4 x.logLost ++ zeros 8
           ++ (x.log.take 60).flatMap logBytes) (fun t => Aside s t ∧ (t.chan m.ch).log = x.log.drop 60))
       ∧ (leAt r.text 0 1 = 1 → x.role = .operator ∨ x.role = .service → Served (.errlogRead m) s r 0 (leBytes 4 (min 60 s.host.log.length)
           ++ leBytes 4 s.host.err.dropped ++ zeros 8 ++ (s.host.log.take 60).flatMap logBytes)
           (Aside { s with host := { s.host with log := s.host.log.drop 60 } })))
     ∧ (∀ c, (s.chan c).bind = .opening → ∃ t, exec (.nonceExpiry c) s = .next t ∧ (t.chan c).fails = (s.chan c).fails + 1
         ∧ ((s.chan c).fails < 3 → (t.chan c).bind = .unbound) ∧ (3 ≤ (s.chan c).fails → (t.chan c).bind = .locked)
         ∧ t.host.log.map (·.code) = s.host.log.map (·.code) ++ [eHifAuthFail])
     ∧ (∀ c, (s.chan c).bind = .locked → exec (.lockExpiry c) s = .next (s.setChan c { s.chan c with bind := .unbound, lockS := 0 })))
  ∧ (∀ (s : State) (m : Msg) (r : Request), requestOf (.keySet m) = some r → s.accepts r →
       let x := s.chan m.ch
       let slot := leAt r.text 0 1
       let role := roleOf (leAt r.text 1 1)
       let new : KeySlot := { role, part := leAt r.text 2 1, key := ((r.text.drop 16).zip (hmac256 (s.key x.slot).key
         ([0x50, 0x48, 0x57, 0x52, 0x41, 0x50, 0x31] ++ leBytes 4 x.sid.toNat ++ leBytes 1 slot))).map (fun y => y.1 ^^^ y.2) }
       slot ≤ 7 → leAt r.text 1 1 ≤ 4 → leAt r.text 2 1 ≤ 7 → leAt r.text 3 13 = 0 →
       (x.role = .operator → slot ≠ x.slot → (s.key slot).role ≠ .tenant → (s.key slot).role ≠ .none →
         Served (.keySet m) s r eHifRoleDenied [] (fun t => t.host.keys = s.host.keys))
       ∧ (x.role = .factory → role ≠ .none → s.operatorOpens = false → Served (.keySet m) s r 0 [] (fun t => t.key slot = new
           ∧ (∀ k, k ≠ slot → t.key k = s.key k) ∧ (t.image 1).seq = (s.image 1).seq + 1))
       ∧ (x.role = .factory → role = .none → s.operatorOpens = false → Served (.keySet m) s r 0 [] (fun t => t.key slot = noKey
           ∧ (∀ k, k ≠ slot → t.key k = s.key k) ∧ (∀ c < 36, c ≠ m.ch → (s.chan c).bind = .bound → (s.chan c).slot = slot → (t.chan c).bind = .unbound))))

/-- R510, R512, R516, R518, R539, R548, R550, R609: the host's own commands: doorbells move TAIL and CHEAD or are refused with DB_ERR, the error ring
and the window's session, BAR2 mappings, captures of the counter, coalescing, a host reset, which leaves a busy channel open until its response, and configuration requests. -/
def Obligations.HostCommands : Prop :=
  ∀ (s : State) (m : Msg),
    let dbRefused (n : Nat) (t : State) : Prop := t.ring n = { s.ring n with dbErr := true } ∧ t = { s with rings := t.rings, host := t.host }
      ∧ (∀ k, k ≠ n → t.ring k = s.ring k)
      ∧ ∀ c, (s.ring n).st ≠ .none → s.chanOf (s.ring n).owner = some c → (t.chan c).log.getLast?.map (·.code) = some eHifDbInvalid
    (∀ n (v : W32), (s.ring n).st ≠ .none → (v - (s.ring n).head).toNat ≤ 2 ^ (s.ring n).log2e →
      ((s.ring n).tail - (s.ring n).head).toNat ≤ (v - (s.ring n).head).toNat → exec (.hifDbc n v) s = .next (s.setRing n { s.ring n with tail := v }))
    ∧ (∀ n (v : W32), ((s.ring n).st = .none ∨ 2 ^ (s.ring n).log2e < (v - (s.ring n).head).toNat
          ∨ (v - (s.ring n).head).toNat < ((s.ring n).tail - (s.ring n).head).toNat) →
      ∃ t, exec (.hifDbc n v) s = .next t ∧ dbRefused n t)
    ∧ (∀ n (v : W32), (s.ring n).st ≠ .none → (v - (s.ring n).chead).toNat ≤ ((s.ring n).written - (s.ring n).chead).toNat →
      exec (.hifDbh n v) s = .next (s.setRing n { s.ring n with chead := v }))
    ∧ (∀ n (v : W32), (s.ring n).st = .none ∨ ((s.ring n).written - (s.ring n).chead).toNat < (v - (s.ring n).chead).toNat →
      ∃ t, exec (.hifDbh n v) s = .next t ∧ dbRefused n t)
    ∧ (∀ v, exec (.hifErrhd v) s = .next { s with host := { s.host with err := { s.host.err with consumed := v } } })
    ∧ (∃ t, exec .hifBeatCapture s = .next t ∧ t.resp = leBytes 4 (s.now.toNat % 2 ^ 32) ∧ t.hifWord 0x24 = s.now.toNat / 2 ^ 32
        ∧ t = { s with host := { s.host with beatHi := t.host.beatHi }, resp := t.resp })
    ∧ (∀ n, (s.ring n).unsig ≠ 0 → exec (.coalesceTimeout n) s = .next ((s.setRing n { s.ring n with unsig := 0 }).irq (s.ring n).vector))
    ∧ (∀ o, s.host.cfgReady = false → exec (.configurationRequest o) s = .next (s.answer [2]))
    ∧ (∀ o, s.host.cfgReady = true → exec (.configurationRequest o) s = .next (({ s with host := { s.host with msix := true } } : State).answer [0]))
    ∧ (∃ t, exec .hostReset s = .next t ∧ (∀ c < 32, (s.chan c).busy = false → (t.chan c).bind = .unbound)
        ∧ (∀ c < 32, (s.chan c).busy = true → t.chan c = { s.chan c with closing := true }) ∧ t.host.bar2 = [] ∧ t.host.msix = false ∧ t.mem = s.mem
        ∧ (∀ n < 64, (s.ring n).st = .running → ((s.ring n).cmdDev && (s.ring n).cplDev) = false →
            (t.ring n).st = .halted ∧ (t.ring n).cause = 3)
        ∧ (∀ n, (s.ring n).cmdDev = true → (s.ring n).cplDev = true → t.ring n = s.ring n) ∧ t.parts = s.parts
        ∧ (∀ k ∈ t.cmds, k.ring < 64 → (s.ring k.ring).st ≠ .none → ((s.ring k.ring).cmdDev && (s.ring k.ring).cplDev) = false →
            k.discard = true)
        ∧ (∀ k ∈ s.cmds, (s.ring k.ring).cmdDev = true → (s.ring k.ring).cplDev = true → k ∈ t.cmds))
    ∧ (∀ r, requestOf (.errRing m) = some r → s.accepts r → leAt r.text 0 8 % 32 = 0 → 4 ≤ leAt r.text 8 1 → leAt r.text 8 1 ≤ 12 →
        leAt r.text 9 1 ≤ 63 → Served (.errRing m) s r 0 [] (Aside { s with host := { s.host with err :=
          { on := true, base := BitVec.ofNat 64 (leAt r.text 0 8), log2e := leAt r.text 8 1, vector := leAt r.text 9 1 } } }))
    ∧ (∀ r, requestOf (.windowOpen m) = some r → s.accepts r → (s.host.window = none ∨ s.host.window = some m.ch) →
        Served (.windowOpen m) s r 0 [] (Aside { s with host := { s.host with window := some m.ch } }))
    ∧ (∀ r c, requestOf (.windowOpen m) = some r → s.accepts r → s.host.window = some c → c ≠ m.ch →
        Served (.windowOpen m) s r eHifRoleDenied [] (fun t => t.host.window = some c))
    ∧ (∀ r, requestOf (.windowClose m) = some r → s.accepts r → s.host.window = some m.ch →
        Served (.windowClose m) s r 0 [] (Aside { s with host := { s.host with window := none } }))
    ∧ (∀ r slot g, requestOf (.bar2Map m) = some r → s.accepts r → m.len.toNat = 4 → leAt r.text 0 2 = slot → leAt r.text 2 2 = g → slot ≤ 511 →
        g < 383 → s.rdF (rMemGran g) 11 8 ≤ 7 → ownPart (s.chan m.ch) (s.rdF (rMemGran g) 11 8) = true →
        Served (.bar2Map m) s r 0 [] (fun t => tget (fun _ => none) t.host.bar2 slot = some (s.rdF (rMemGran g) 11 8, g)
          ∧ ∀ k, k ≠ slot → tget (fun _ => none) t.host.bar2 k = tget (fun _ => none) s.host.bar2 k))

/-- R536, R541, R551: the rings. RING_CREATE makes a RUNNING ring with the body's sizes and bases; a HALTED ring restarts or, with no live
command, is destroyed; RING_QUERY shows its counts. -/
def Obligations.Rings : Prop :=
  ∀ (s : State) (m : Msg),
    (∀ r, requestOf (.ringCreate m) = some r → s.accepts r →
      let b := r.text
      let n := leAt b 0 1
      let e := leAt b 1 1
      let w := leAt b 2 1
      n ≤ 63 → ownPart (s.chan m.ch) (n / 8) = true → w ≤ 3 → (s.ring n).st = .none → 4 ≤ e → e ≤ 16 → leAt b 3 1 ≤ 63 → leAt b 4 2 ≤ 255 →
      leAt b 8 8 % 64 = 0 → leAt b 16 8 % 32 = 0 → (s.part (n / 8)).st = .ready → (w % 2 = 1 → s.ringAt (n / 8) (leAt b 8 8) (64 * 2 ^ e) = true) →
      (2 ≤ w → s.ringAt (n / 8) (leAt b 16 8) (32 * 2 ^ e) = true) →
      Served (.ringCreate m) s r 0 [] (fun t => Aside (s.setRing n (t.ring n)) t ∧ (t.ring n).st = .running ∧ (t.ring n).log2e = e
        ∧ (t.ring n).head = 0 ∧ (t.ring n).tail = 0 ∧ (t.ring n).written = 0 ∧ (t.ring n).chead = 0 ∧ (t.ring n).cbase.toNat = leAt b 8 8
        ∧ (t.ring n).rbase.toNat = leAt b 16 8 ∧ (t.ring n).owner = (s.chan m.ch).sid ∧ (t.ring n).cmdDev = decide (w % 2 = 1)
        ∧ (t.ring n).cplDev = decide (2 ≤ w)))
    ∧ (∀ r n, requestOf (.ringRestart m) = some r → s.accepts r → leAt r.text 0 1 = n → n ≤ 63 → ownPart (s.chan m.ch) (n / 8) = true →
      (s.ring n).st = .halted → Served (.ringRestart m) s r 0 [] (Aside (s.setRing n { s.ring n with st := .running, cause := 0 })))
    ∧ (∀ r n, requestOf (.ringRestart m) = some r → s.accepts r → leAt r.text 0 1 = n → n ≤ 63 → ownPart (s.chan m.ch) (n / 8) = true →
      (s.ring n).st ≠ .halted → Served (.ringRestart m) s r eHifRingInvalid [] (Aside s))
    ∧ (∀ r n, requestOf (.ringDestroy m) = some r → s.accepts r → leAt r.text 0 1 = n → n ≤ 63 → ownPart (s.chan m.ch) (n / 8) = true →
      (s.ring n).st = .halted → s.ringLive n = false → Served (.ringDestroy m) s r 0 [] (Aside (s.setRing n {})))
    ∧ (∀ r n, requestOf (.ringDestroy m) = some r → s.accepts r → leAt r.text 0 1 = n → n ≤ 63 → ownPart (s.chan m.ch) (n / 8) = true →
      s.ringLive n = true → Served (.ringDestroy m) s r eHifRingInvalid [] (Aside s))
    ∧ (∀ r n, requestOf (.ringQuery m) = some r → s.accepts r → leAt r.text 0 1 = n → n ≤ 63 → ownPart (s.chan m.ch) (n / 8) = true →
      Served (.ringQuery m) s r 0 (leBytes 4 (s.ringSt n) ++ leBytes 4 (s.ring n).head.toNat ++ leBytes 4 (s.ring n).tail.toNat
        ++ leBytes 4 (s.ring n).chead.toNat ++ leBytes 4 (s.ring n).written.toNat) (Aside s))

/-- R543 to R547: partitions. PART_CREATE gives its granules to the partition, filled with zeros, and clears the latches of its cores;
PART_DESTROY of an idle one gives everything back; PREEMPT halts the rings and is answered when no command is live. -/
def Obligations.Partitions : Prop :=
  ∀ (s : State) (m : Msg) (p : Nat),
    (∀ r, requestOf (.partCreate m) = some r → s.accepts r →
      let x := partOf r.text
      leAt r.text 0 1 = p → leAt r.text 1 1 ≤ 63 → leAt r.text 7 1 = 0 → leAt r.text 94 2 = 0 → s.partInvalid p x = false → s.coresBusy x = false →
      x.coreList.all (fun c => (s.partOfCore c).isNone) = true → s.memx.armed = none →
      Served (.partCreate m) s r 0 [] (fun t => t.part p = x ∧ (∀ q, q ≠ p → t.part q = s.part q)
        ∧ (∀ g < 384, x.gran.getLsbD g = true → t.rdF (rMemGran g) 11 8 = p ∧ ∀ a, g * 2 ^ 30 ≤ a → a < (g + 1) * 2 ^ 30 → t.byte a = 0)
        ∧ (∀ j < 176, x.lpage.getLsbD j = true → t.rdF (rMemLpage j) 3 0 = p)
        ∧ (∀ c k, c < 128 → x.cores.getLsbD c = true → s.phys c = some k → ∀ j < 48, t.latch k j = 0) ∧ t.threads = s.threads))
    ∧ (∀ r, requestOf (.partCreate m) = some r → s.accepts r → leAt r.text 0 1 = p → leAt r.text 1 1 ≤ 63 → leAt r.text 7 1 = 0 →
      leAt r.text 94 2 = 0 → s.partInvalid p (partOf r.text) = true → Served (.partCreate m) s r eHifPartInvalid [] (Aside s))
    ∧ (∀ r, requestOf (.partDestroy m) = some r → s.accepts r → leAt r.text 0 1 = p → p ≤ 7 → (s.part p).st = .ready → s.partIdle p = true →
      Served (.partDestroy m) s r 0 [] (fun t => t.part p = {} ∧ (∀ g < 384, (s.part p).gran.getLsbD g = true → t.rdF (rMemGran g) 11 8 = 0xF)
        ∧ (∀ j < 8, t.ring (8 * p + j) = {})))
    ∧ (∀ r, requestOf (.partQuery m) = some r → s.accepts r → leAt r.text 0 1 = p → p ≤ 7 → ownPart (s.chan m.ch) p = true →
      Served (.partQuery m) s r 0 ((s.part p).body p) (Aside s))
    ∧ (∀ r, requestOf (.preempt m) = some r → s.accepts r → leAt r.text 0 1 = p → leAt r.text 1 1 ≤ 1 → p ≤ 7 → ownPart (s.chan m.ch) p = true →
      (s.part p).st = .ready →
      (s.partIdle p = true → Served (.preempt m) s r 0 (leBytes 4 0) (fun t => t.part p = s.part p
        ∧ ∀ j < 8, (s.ring (8 * p + j)).st = .running → (t.ring (8 * p + j)).st = .halted ∧ (t.ring (8 * p + j)).cause = 2))
      ∧ (s.partIdle p = false → ∃ t, exec (.preempt m) s = .next t ∧ (t.chan m.ch).busy = true
        ∧ (t.part p).preempts = (s.part p).preempts ++ [{ ch := m.ch, tag := m.tag }]
        ∧ ∀ j < 8, (s.ring (8 * p + j)).st = .running → (t.ring (8 * p + j)).st = .halted ∧ (t.ring (8 * p + j)).cause = 2))
    ∧ (∀ w, (s.part p).preempts = [w] → w.destroy = false → w.ch < 36 → s.partIdle p = true → (s.chan w.ch).closing = false →
      s.pwr.shutting = false →
      ∃ t, exec (.preemptDone p) s = .next t ∧ t.part p = { s.part p with preempts := [] } ∧ t.resp.drop 16 = leBytes 4 w.ended
        ∧ leAt t.resp 4 4 = w.tag.toNat ∧ (t.chan w.ch).done = true ∧ Aside (s.setPart p { s.part p with preempts := [] }) t)

/-! ### Events and the beat -/

/-- R361, R365, R368, R370, R371, R485, R561, R574, R601, R639: what each kind of event does when it is due; it leaves the table. A snapshot
holds the partition's sections; a STOP holds its threads and a RESUME gives them back; a profile, a period, a window, a slice of a test,
a planned spare action and a deadline take effect. -/
def Obligations.EventsDue : Prop :=
  ∀ (s : State) (e : Ev),
    let u := s.setEvents (s.beat.events.erase e)
    (s.nextDue 1 e → e.part < 8 → ∃ t n, exec .snapshot s = .next t ∧ n ∈ t.beat.snaps ∧ n.part = e.part ∧ n.id = e.ident ∧ n.beat = e.beat
      ∧ n.late = false ∧ n.complete = false ∧ n.incomplete = false ∧ (n.counts, n.sections) = u.snapSections e.part
      ∧ t.beat.events = s.beat.events.erase e ∧ t.threads = s.threads ∧ t.latches = s.latches)
    ∧ (s.nextDue 2 e → e.part < 8 → ∃ t, exec .stop s = .next t ∧ (t.part e.part).stopped = true
      ∧ (∀ lc i th, lc < 128 → (s.part e.part).cores.getLsbD lc = true → s.phys lc = some i → th < 32 → (s.thr i th).part = e.part →
          (t.thr i th).st ≠ .ready ∧ (t.thr i th).st ≠ .parked ∧ ((s.thr i th).st = .ready → (t.thr i th).under = .ready))
      ∧ t.mem = s.mem ∧ t.latches = s.latches ∧ t.cmds = s.cmds)
    ∧ (s.nextDue 2 e → e.part = 0xFF → ∃ t, exec .stop s = .next t ∧ ∀ p < 8, (t.part p).stopped = true)
    ∧ (s.nextDue 3 e → e.part < 8 → s.coll.ops = [] → ∃ t, exec .resume s = .next t ∧ (t.part e.part).stopped = false
      ∧ (t.part e.part).held = [] ∧ (∀ h i, h ∈ (s.part e.part).held → s.phys (h / 32) = some i → (s.thr i (h % 32)).st = .held →
          (s.thr i (h % 32)).part = e.part → s.rdB (rCoreCtl i) 29 = false → (∀ x ∈ s.handovers, x.old ≠ i) → (t.thr i (h % 32)).st = (s.thr i (h % 32)).under) ∧ t.mem = s.mem)
    ∧ (s.nextDue 4 e → ∃ t, exec .profile s = .next t ∧ t.profile = e.ident.toNat % 4
      ∧ (s.rdB rPwrStat 25 = false → t.clk = profClk (e.ident.toNat % 4))
      ∧ (s.rdB rPwrStat 25 = true → t.clk = min s.clk (profClk (e.ident.toNat % 4))))
    ∧ (s.nextDue 5 e → ∃ t, exec .period s = .next t ∧ t.rdF rBeatCtl 10 0 = max 32 (min 2000 (e.ident.toNat % 65536))
      ∧ t = { u with regs := t.regs, beat := { u.beat with periods := (s.now, s.rdF rBeatCtl 10 0) :: s.beat.periods } })
    ∧ (s.nextDue 6 e → let w := s.win (e.ident.toNat % 16)
        (w.opened = none → w.len ≠ 0 → ∃ t, exec .counterWindow s = .next t ∧ t.win (e.ident.toNat % 16) =
          { w with opened := some e.beat, openLen := w.len, openDest := w.dest, part := e.part, base := s.winSet e.part, overrun := false })
        ∧ (w.opened ≠ none → ∃ t, exec .counterWindow s = .next t ∧ t.win (e.ident.toNat % 16) = { w with overrun := true }))
    ∧ (∀ w < 2, s.nextDue 7 e → e.group = localGroup w → s.testState w = 3 → ∃ t, exec .testSlice s = .next t
      ∧ t.rdF (rBstWing w) 20 14 = min 127 (s.rdF (rBstWing w) 20 14 + 1) ∧ t.rdB (rCoreStat (s.testCore w)) 3 = true ∧ t.threads = s.threads)
    ∧ (∀ id p k, s.nextDue 8 e → s.test.planned.find? (fun (x : W32 × Nat × Nat) => x.1 = e.ident) = some (id, 3, 8 * p + k) → e.src = s.maddr →
      p < 52 → s.portState p = 2 → (s.carried p).contains k = true → s.idleWave p ≠ 7 → ∃ t, exec .spareSwap s = .next t ∧ t.idleWave p = 7
        ∧ t.rdB (rOptWave p) (24 + k) = true ∧ (t.port p).wcmd = some (1, k, s.idleWave p))
    ∧ (s.nextDue 8 e → e.src ≠ s.maddr → exec .spareSwap s = .next u)
    ∧ (∀ o, s.nextDue 9 e → s.collOp e.group e.ident.toNat = some o → o.ref = none → ∃ t o', exec .collDeadline s = .next t
        ∧ t.collOp e.group e.ident.toNat = some o' ∧ o' = { o with ref := some e.beat })
    ∧ (s.beat.events = [] → ∀ i ∈ ([.snapshot, .stop, .resume, .profile, .period, .counterWindow, .testSlice, .spareSwap, .collDeadline] : List Instr),
        exec i s = .next s)

/-- R363, R364, R372 to R374, R392, R639, R640: an arriving event is scheduled, refused or late; a window's second capture and the completion of a
snapshot; and the requests for events, barrier resets and snapshot records. -/
def Obligations.EventRequests : Prop :=
  ∀ (s : State) (m : Msg),
    (∀ src p u, s.takePkt src (fun p => p.kind = 4) = some (p, u) → BitVec.ofNat 32 (pktCrc p) = p.ecrc → 1 ≤ (evOf p).kind → (evOf p).kind ≤ 8 →
      (u.disciplined = true → u.now < (evOf p).beat → u.beat.events.length < 32 → ∃ t, exec (.event src) s = .next t
        ∧ t.beat.events = insEv (evOf p) u.beat.events ∧ t = { u with beat := t.beat, regs := t.regs })
      ∧ (u.disciplined = true → (evOf p).beat ≤ u.now → (evOf p).kind = 7 → ∃ t, exec (.event src) s = .next t ∧ t.rdB rBeatErr 0 = true
        ∧ t.beat.events = u.beat.events)
      ∧ (u.disciplined = false → (evOf p).kind ≠ 2 → exec (.event src) s = .next (u.sendStatus p eSyncUnlocked)))
    ∧ (∀ src, s.takePkt src (fun p => p.kind = 4) = none → exec (.event src) s = .next s)
    ∧ (∀ p id n, s.beat.snaps.find? (fun n => n.part = p && n.id.toNat = id && !n.complete) = some n →
      (n.beat.toNat + 64 ≤ s.now.toNat → ∃ t, exec (.snapshotComplete p id) s = .next t ∧ { n with complete := true } ∈ t.beat.snaps
        ∧ t.threads = s.threads)
      ∧ (s.now.toNat < n.beat.toNat + 64 → exec (.snapshotComplete p id) s = .next s))
    ∧ (∀ slot n, (s.win slot).opened = some n →
      let w := s.win slot
      let words := [BitVec.ofNat 64 (winWord w.openLen slot w.part (if w.overrun then 2 else 0)), n]
        ++ (span 2 30).map (fun i => tget (fun _ => 0) (s.winSet w.part) i - tget (fun _ => 0) w.base i)
      (s.now.toNat < n.toNat + w.openLen → exec (.windowCloseCapture slot) s = .next s)
      ∧ (n.toNat + w.openLen ≤ s.now.toNat → 8 ≤ w.part → ∃ t, exec (.windowCloseCapture slot) s = .next t ∧ (t.win slot).opened = none
          ∧ (t.win slot).record = words)
      ∧ (∀ pa, n.toNat + w.openLen ≤ s.now.toNat → w.part < 8 → s.partRange w.part w.openDest.toNat 256 = some pa → oneMemory pa 256 → s.noErrors →
          s.noTrace w.part → ∃ t, exec (.windowCloseCapture slot) s = .next t ∧ (t.win slot).opened = none
            ∧ s.storedAt t pa (words.flatMap (fun (x : W64) => leBytes 8 x.toNat))))
    ∧ (∀ r, requestOf (.eventReq m) = some r → s.accepts r →
      let b := r.text
      let kind := leAt b 0 1
      let ms := s.entryMembers (leAt b 2 2)
      let n : W64 := if leAt b 8 8 = 0 then s.now + BitVec.ofNat 64 s.lead else BitVec.ofNat 64 (leAt b 8 8)
      ((s.chan m.ch).role = .operator ∨ ((s.chan m.ch).part = leAt b 1 1 ∧ s.ownEntry (s.chan m.ch) (leAt b 2 2) = true)) →
      ((kind ∈ [1, 2, 3, 9] ∧ leAt b 1 1 ≤ 7) ∨ (kind = 5 ∧ leAt b 1 1 = 0xFF ∧ s.listsAll ms = true ∧ (s.chan m.ch).role = .operator)) →
      leAt b 4 4 = 0 → leAt b 2 2 ≤ 0xFFE → ms ≠ [] →
      (s.now.toNat + s.lead ≤ n.toNat → ∃ t x, exec (.eventReq m) s = .next t ∧ (t.chan m.ch).busy = true
        ∧ t.beat.asked = s.beat.asked ++ [⟨(m.ch, m.tag), n, s.now + BitVec.ofNat 64 (2 * s.lead)⟩]
        ∧ t.beat.issued.getLast? = some x ∧ x.kind = kind ∧ x.ident = BitVec.ofNat 32 (leAt b 16 4) ∧ x.beat = n
        ∧ x.req = some (m.ch, m.tag) ∧ t.mem = s.mem)
      ∧ (n.toNat < s.now.toNat + s.lead → Served (.eventReq m) s r eSyncLead (leBytes 8 n.toNat) (fun t => t.rdB rBeatErr 1 = true
        ∧ t.fab = s.fab)))
    ∧ (∀ r, requestOf (.barrierReset m) = some r → s.accepts r → (s.chan m.ch).role = .operator → isRemote (leAt r.text 0 8) = false →
      (∀ i j c, s.resolve (leAt r.text 0 8) = .latch i j 0 → s.ctrAt i j = some c → Served (.barrierReset m) s r 0 [] (fun t =>
        ∃ c', t.ctrAt i j = some c' ∧ c'.round = leAt r.text 8 2 ∧ c'.cur = 0 ∧ c'.nxt = 0 ∧ c'.expect = c.expect ∧ t.mem = s.mem))
      ∧ ((∀ i j, s.resolve (leAt r.text 0 8) = .latch i j 0 → s.ctrAt i j = none) → Served (.barrierReset m) s r eHifMsgInvalid [] (Aside s)))
    ∧ (∀ r, requestOf (.barrierReset m) = some r → s.accepts r → (s.chan m.ch).role = .operator → isRemote (leAt r.text 0 8) = true →
      remoteMod (leAt r.text 0 8) ≠ s.maddr →
      (s.route (remoteMod (leAt r.text 0 8)) 0 = .none → Served (.barrierReset m) s r eFabUnreachable [] (Aside s))
      ∧ (s.route (remoteMod (leAt r.text 0 8)) 0 ≠ .none → ∃ t tok, exec (.barrierReset m) s = .next t ∧ (t.chan m.ch).busy = true
        ∧ t.fab.resets = s.fab.resets ++ [(tok, m.ch, m.tag)] ∧ t.mem = s.mem))
    ∧ (∀ r n, requestOf (.snapshotRead m) = some r → s.accepts r → ownPart (s.chan m.ch) (leAt r.text 0 1) = true →
      (s.beat.snaps.filter (fun n => n.part = leAt r.text 0 1 && n.id.toNat = leAt r.text 4 4)).getLast? = some n →
      (n.complete = true → Served (.snapshotRead m) s r 0 (leBytes 4 ((n.bytes.drop (leAt r.text 8 4)).take 992).length ++ zeros 12
        ++ (n.bytes.drop (leAt r.text 8 4)).take 992) (Aside s))
      ∧ (n.complete = false → Served (.snapshotRead m) s r eHifNotReady [] (Aside s)))

/-- R354 to R360, R394 to R398, R430: markers discipline the counter, a small offset leaves it LOCKED, a large one steps it or holds it and
returns to ACQUIRE, and a newer generation never steps it; markers go out every 16 beats and delay exchanges every 1,024; loss, holdover and the backup master; the registers that a
read captures or clears.
R351 to R353, R357, R372: a beat edge passes when no command waits: the enabled counter rises by one, or is held after a backward offset, a
period written while UNLOCKED takes effect, and an EVENT_REQ whose members have not refused in time is answered (log 32). (What a step does on an empty queue is the model's choice: notes/assumptions/1.md.) -/
def Obligations.BeatUnit : Prop :=
  (∀ (s : State) (port : Nat) (depth bst : BitVec 3) (gen : BitVec 8) (beat : W64) (phase : W16) (frac : Int),
     let off := s.markerOffset port beat phase frac
     let i : Instr := .marker port depth bst gen beat phase frac
     let ok := port < 52 ∧ s.rdB rBeatCtl 11 = true ∧ s.portUp port = true ∧ (bst = 2 ∨ bst = 4) ∧ s.upport = port ∧ s.beatSt = 2 ∧ gen.toNat = s.beatGen
     ((s.rdB rBeatCtl 11 = false ∨ s.portUp port = false) → exec i s = .next s)
     ∧ (ok → off.natAbs < 1000000 → ∃ t, exec i s = .next t ∧ t.beat.count = s.beat.count ∧ t.beatSt = 2 ∧ t.upport = port
       ∧ t.rdF rBeatStat 28 26 = min 7 (depth.toNat + 1) ∧ t.beat.lastMarker = s.now ∧ t.beat.offsetPs = off ∧ t.mem = s.mem)
     ∧ (ok → s.beat.slewing = false → 1000000 ≤ off → ∃ t, exec i s = .next t ∧ t.beatSt = 1 ∧ t.rdB rBeatErr 3 = true
       ∧ t.beat.count = s.beat.count + BitVec.ofNat 64 ((off.toNat + 625 * s.beat.phase.toNat) / s.periodPs))
     ∧ (ok → s.beat.slewing = false → off ≤ -1000000 → ∃ t, exec i s = .next t ∧ t.beatSt = 1 ∧ t.rdB rBeatErr 3 = true ∧ t.beat.count = s.beat.count
       ∧ t.beat.hold = cdiv off.natAbs s.periodPs)
     ∧ (s.beatSt ≠ 0 → newer gen.toNat s.beatGen = true → ∃ t, exec i s = .next t ∧ t.beat.count = s.beat.count ∧ t.beat.hold = s.beat.hold)
     ∧ (s.rdB rBeatCtl 11 = true → (s.beatSt = 2 ∨ s.beatSt = 4) → (∀ b, s.beat.markersAt = some b → b.toNat + 16 ≤ s.now.toNat) →
       ∃ t, exec .markerSend s = .next t ∧ (∀ p < 52, s.portUp p = true →
         (t.port p).timingOut = (s.port p).timingOut
           ++ [(2 + 2 ^ 8 * (s.rdF rBeatStat 28 26 + 8 * s.beatSt) + 2 ^ 16 * s.beatGen, s.now, s.beat.phase.setWidth 64)])
       ∧ t = { s with fab := t.fab, beat := { s.beat with markersAt := some s.now } })
     ∧ (∀ b, s.beat.markersAt = some b → s.now.toNat < b.toNat + 16 → exec .markerSend s = .next s)
     ∧ (s.beatSt ≠ 2 → s.beatSt ≠ 4 → exec .markerSend s = .next s)
     ∧ (∀ t1, ∃ t, exec (.delayExchange t1) s = .next t ∧ (∀ p < 52, s.portUp p = true →
         (∀ b, (s.port p).measured = some b → b.toNat + 1024 ≤ s.now.toNat) → ∃ id, (t.port p).dreq = some (id, t1)) ∧ t = { s with fab := t.fab })
     ∧ (∀ id t1 t2 t3, s.portUp port = true → exec (.dreq port id t1 t2 t3) s =
         .next (s.sendTiming port (4 + 2 ^ 8 * id.toNat, t2.setWidth 64, t3.setWidth 64)))
     ∧ (∀ (id : BitVec 8) t1 t2 t3 t4, (s.port port).dreq = some (id.toNat, t1) → exec (.dresp port id t2 t3 t4) s =
         .next (s.setPort port { s.port port with delay := ((t4 - t1) - (t3 - t2)).toNat / 2 }))
     ∧ (s.beatSt = 2 → s.beat.lastMarker.toNat + 64 ≤ s.now.toNat → ∃ t, exec .markerLoss s = .next t ∧ t.beatSt = 3
         ∧ (t.upport ≠ s.upport ∨ t.upport = 0x3F) ∧ t = { s with regs := t.regs })
     ∧ (s.beatSt = 3 → ∃ t, exec .holdoverExpiry s = .next t ∧ t.beatSt = 0 ∧ t.upport = 0x3F ∧ t.rdB rBeatErr 4 = true ∧ t.beat = s.beat)
     ∧ (s.beatSt ≠ 3 → exec .holdoverExpiry s = .next s)
     ∧ (s.rdF rBeatCtl 31 30 = 2 → s.rdB rBeatCtl 11 = true → s.beatSt ≠ 4 →
         s.beat.lastGen.toNat + max 1 (s.rdF rBeatCtl 19 12) ≤ s.now.toNat → ∃ t, exec .backupMasterTakeover s = .next t ∧ t.beatSt = 4 ∧ t.upport = 0x3F
         ∧ t.rdF rBeatStat 28 26 = 0 ∧ t.beatGen = (s.beatGen + 1) % 256 ∧ t.beat = s.beat)
     ∧ (s.rdF rBeatCtl 31 30 ≠ 2 → exec .backupMasterTakeover s = .next s)
     ∧ (∀ v, s.beatSt ≠ 0 → exec (.beatPeriodWrite v) s = .next s)
     ∧ (∀ v, s.beatSt = 0 → exec (.beatPeriodWrite v) s = .next { s with beat := { s.beat with nextPeriod := some (max 32 (min 2000 (bf v 10 0))) } })
     ∧ (∃ t, exec .beatCountCapture s = .next t ∧ t.resp = leBytes 4 (s.now.toNat % 2 ^ 32) ∧ t.beat.hi.toNat = s.now.toNat / 2 ^ 32
         ∧ t = { s with beat := { s.beat with hi := t.beat.hi }, resp := t.resp })
     ∧ (∃ t, exec .beatErrRead s = .next t ∧ t.resp = leBytes 4 (s.rd rBeatErr).toNat ∧ t.rdF rBeatErr 31 24 = 0
         ∧ t.rdF rBeatErr 23 0 = s.rdF rBeatErr 23 0 ∧ t = { s with regs := t.regs, resp := t.resp })
     ∧ (∃ t, exec .latStatRead s = .next t ∧ leAt t.resp 2 2 = s.rdF rLatStat 31 16 ∧ leAt t.resp 0 2 % 512 = min 256 s.releases.length
         ∧ t.rdF rLatStat 31 16 = 0 ∧ t = { s with regs := t.regs, resp := t.resp }))
  ∧ (∀ s : State, s.pending = [] → s.coll.ops = [] →
       (∀ a, s.beat.asked = [a] → a.req.1 < 36 → a.until_ ≤ (if s.rdB rBeatCtl 11 then s.edge else s).now → ∃ t, step s = .next t
         ∧ t.beat.asked = [] ∧ (t.chan a.req.1).done = true ∧ (t.chan a.req.1).busy = false ∧ leAt (t.chan a.req.1).resp 8 2 = 0
         ∧ (t.chan a.req.1).resp.drop 16 = leBytes 8 a.beat.toNat) ∧
       (s.beat.asked = [] →
       (s.rdB rBeatCtl 11 = false → step s = .next s)
       ∧ (s.rdB rBeatCtl 11 = true → s.beat.hold ≠ 0 → step s = .next { s with beat := { s.beat with hold := s.beat.hold - 1 } })
       ∧ (s.rdB rBeatCtl 11 = true → s.beat.hold = 0 → ∃ t, step s = .next t ∧ t.beat.count = s.beat.count + 1 ∧ t.beat.phase = 0
         ∧ t.beat.nextPeriod = none ∧ t = { s with beat := t.beat, regs := t.regs }
         ∧ (s.beat.nextPeriod = none → t.regs = s.regs) ∧ (∀ p, s.beat.nextPeriod = some p → p < 2048 → t.rdF rBeatCtl 10 0 = p))))

/-! ### Barriers -/

/-- R386 to R392: an arrival counts in the current or the next round, or is refused; the last one completes the round; a release raises its latch,
a refusal and a reset break it; reset acknowledgements are counted. An arrival at a frozen core waits (R190). -/
def Obligations.Barriers : Prop :=
  ∀ (s : State) (src : Option Nat) (p : Pkt) (u : State),
    (∀ i j q c, s.takePkt src (fun p => p.kind = 2 && barrierOp p = 0) = some (p, u) → u.checkTarget src p = .inr (.latch i j 0, q) →
      (s.frozen i = true → exec (.barrierArrival src) s = .next s) ∧ (s.frozen i = false →
      (u.ctrAt i j = none → exec (.barrierArrival src) s = .next (u.refuseArrival p 0x09))
      ∧ (u.ctrAt i j = some c →
        ((pktWord p).toNat % 2 ^ 16 = c.round → (c.cur + 1) % 2 ^ 16 ≠ c.expect →
          exec (.barrierArrival src) s = .next (u.putCtr c c.round ((c.cur + 1) % 2 ^ 16) c.nxt))
        ∧ ((pktWord p).toNat % 2 ^ 16 = (c.round + 1) % 2 ^ 16 →
          exec (.barrierArrival src) s = .next (u.putCtr c c.round c.cur ((c.nxt + 1) % 2 ^ 16)))
        ∧ ((pktWord p).toNat % 2 ^ 16 ≠ c.round → (pktWord p).toNat % 2 ^ 16 ≠ (c.round + 1) % 2 ^ 16 →
          exec (.barrierArrival src) s = .next (u.refuseArrival p 0x01))
        ∧ ((pktWord p).toNat % 2 ^ 16 = c.round → (c.cur + 1) % 2 ^ 16 = c.expect → c.parent = 0 → c.nxt ≠ c.expect →
          ∃ t c', exec (.barrierArrival src) s = .next t ∧ t.ctrAt i j = some c' ∧ c'.round = (c.round + 1) % 2 ^ 16 ∧ c'.cur = c.nxt
            ∧ c'.nxt = 0 ∧ c'.expect = c.expect ∧ t.mem = u.mem)
        ∧ ((pktWord p).toNat % 2 ^ 16 = c.round → (c.cur + 1) % 2 ^ 16 = c.expect → c.parent ≠ 0 →
          ∃ t c', exec (.barrierArrival src) s = .next t ∧ t.ctrAt i j = some c' ∧ c'.round = c.round ∧ c'.cur = c.expect ∧ c'.nxt = c.nxt))))
    ∧ (∀ q e i, s.takePkt src (fun p => p.kind = 2 && barrierOp p = 1) = some (p, u) → u.checkBroadcast src p = .inr q →
      let mine (e : Release) : Bool := (e.names (u.senderCtr p) && e.inRound (pktWord p).toNat) && u.partOfCore e.core = some q
      u.releases.filter mine = [e] → e.child = false → u.phys e.core = some i → u.frozen i = false → s.childFrozen q (u.senderCtr p) = false → lBroken (u.latch i e.latch) = false →
      ∃ t, exec (.barrierRelease src) s = .next t ∧ t.releases = u.releases.filter (fun e => !mine e)
        ∧ lValue (t.latch i e.latch) = (if (lValue (u.latch i e.latch)).toNat < (e.round + 1).toNat then e.round + 1 else lValue (u.latch i e.latch)))
    ∧ (∀ q e i, s.takePkt src (fun p => p.kind = 2 && barrierOp p = 4) = some (p, u) → u.checkBroadcast src p = .inr q → p.tag.toNat ≠ tagBroadcast →
      u.releases.find? (fun e => (e.names (u.senderCtr p) && e.inRound (pktWord p).toNat) && u.partOfCore e.core = some q) = some e →
      e.child = false → u.phys e.core = some i → u.frozen i = false → s.childFrozen q (u.senderCtr p) = false →
      ∃ t, exec (.barrierRefusal src) s = .next t ∧ t.releases = u.releases.erase e ∧ lBroken (t.latch i e.latch) = true
        ∧ lEstat (t.latch i e.latch) = pktByte p 1)
    ∧ (∀ q, s.takePkt src (fun p => p.kind = 2 && barrierOp p = 2) = some (p, u) → u.checkBroadcast src p = .inr q →
      let mine (e : Release) : Bool := e.names (u.senderCtr p) && u.partOfCore e.core = some q
      s.childFrozen q (u.senderCtr p) = false → ∃ t, exec (.groupReset src) s = .next t ∧ t.releases = u.releases.filter (fun e => !mine e)
        ∧ ∀ e i, e ∈ u.releases → mine e = true → e.child = false → u.phys e.core = some i → u.frozen i = false → lBroken (t.latch i e.latch) = true
          ∧ lEstat (t.latch i e.latch) = 2)
    ∧ (∀ i j o q c, s.takePkt src (fun p => p.kind = 2 && barrierOp p = 3) = some (p, u) → u.checkTarget src p = .inr (.latch i j o, q) →
      u.ctrAt i j = some c → c.parent = 0 → exec (.resetAcknowledgement src) s = .next { u with
        resetAcks := tput (fun _ => 0) u.resetAcks (48 * c.core + c.latch) (tget (fun _ => 0) u.resetAcks (48 * c.core + c.latch) + 1) })
    ∧ (∀ k ∈ [0, 1, 2, 3, 4], s.takePkt src (fun p => p.kind = 2 && barrierOp p = k) = none →
      exec (if k = 0 then .barrierArrival src else if k = 1 then .barrierRelease src else if k = 2 then .groupReset src
        else if k = 3 then .resetAcknowledgement src else .barrierRefusal src) s = .next s)

/-! ### Ports, links and cartridges -/

/-- R35, R407, R428, R431 to R433, R443, R450, R453, R660: the states of a port. A lost lock waits to be regained or takes the link DOWN, which empties
its replay and egress buffers; a timeout, RETRAIN and UNQ retrain; a training that agrees with FAB_LINK makes the link run, and one that does
not is MISWIRED; a port that no cartridge feeds does not train. -/
def Obligations.PortStates : Prop :=
  ∀ (s : State) (p : Nat), p < 52 →
    let x := s.port p
    let again : Nat := if s.fed p then 1 else 0
    (s.portState p = 2 → x.replay ≠ [] → ∃ t, exec (.ackTimeout p) s = .next t ∧ t.portState p = again ∧ t.port p = { x with nakRun := 0 }
      ∧ t.rdF (rFabPcnt p) 15 8 = min 255 (s.rdF (rFabPcnt p) 15 8 + 1))
    ∧ (x.replay = [] → exec (.ackTimeout p) s = .next s)
    ∧ (s.portState p = 2 → ∃ t, exec (.laneLockLoss p) s = .next t ∧ t.portState p = 3 ∧ t.fab = s.fab)
    ∧ (s.portState p ≠ 2 → exec (.laneLockLoss p) s = .next s)
    ∧ (s.portState p = 3 → ∃ t, exec (.lockRegained p) s = .next t ∧ t.portState p = 2 ∧ t.port p = { x with resend := x.replay.length })
    ∧ (s.portState p = 3 → ∃ t, exec (.relockExpiry p) s = .next t ∧ t.portState p = 0 ∧ (t.port p).linkUp = false ∧ (t.port p).replay = []
      ∧ (t.port p).egress = [])
    ∧ (s.portState p ≠ 3 → exec (.relockExpiry p) s = .next s ∧ exec (.lockRegained p) s = .next s)
    ∧ (s.portState p = 0 → exec (.lightStop p) s = .next (s.setPort p { x with light := false }))
    ∧ (s.portState p ≠ 0 → exec (.lightStop p) s = .next s)
    ∧ (s.portState p = 1 → ∃ t, exec (.retrainTimeout p) s = .next t ∧ t.portState p = 5 ∧ t.fab = s.fab)
    ∧ (∀ l, s.portLink p = some l → s.rdF (rFabLink l) 31 30 ≠ 0 → s.fed p = true → (s.portState p = 0 ∨ s.portState p = 6) →
      ∃ t, exec (.linkTrain p) s = .next t ∧ t.portState p = 1 ∧ (t.port p).light = true)
    ∧ (s.fed p = false ∨ (s.portState p ≠ 0 ∧ s.portState p ≠ 6) → exec (.linkTrain p) s = .next s)
    ∧ (∀ peer role dim idle pport, s.fed p = false ∨ s.portState p ≠ 1 → exec (.trainingComplete p peer role dim idle pport) s = .next s)
    ∧ (∀ l peer role dim idle pport, s.portLink p = some l → s.portState p = 1 → s.fed p = true →
      (s.rdF (rFabLink l) 29 16 = BitVec.toNat peer → s.rdF (rFabLink l) 31 30 = BitVec.toNat role → (BitVec.toNat role = 1 →
          s.rdF (rFabLink l) 15 14 = BitVec.toNat dim) →
        ∃ t, exec (.trainingComplete p peer role dim idle pport) s = .next t ∧ t.portState p = 2 ∧ (t.port p).linkUp = true
          ∧ (x.linkUp = false → (t.port p).txSeq = 0 ∧ (t.port p).rxSeq = 0 ∧ (t.port p).replay = [])
          ∧ (x.linkUp = true → (t.port p).replay = x.replay ∧ (t.port p).resend = x.replay.length))
      ∧ (s.rdF (rFabLink l) 29 16 ≠ BitVec.toNat peer ∨ s.rdF (rFabLink l) 31 30 ≠ BitVec.toNat role
          ∨ (BitVec.toNat role = 1 ∧ s.rdF (rFabLink l) 15 14 ≠ BitVec.toNat dim) →
        ∃ t, exec (.trainingComplete p peer role dim idle pport) s = .next t ∧ t.portState p = 6 ∧ (x.linkUp = true → (t.port p).linkUp = false)))
    ∧ (s.portLink p ≠ none → s.portState p ≠ 4 → s.portState p ≠ 5 → s.portState p ≠ 7 →
      ∃ t, exec (.retrain p) s = .next t ∧ t.portState p = again ∧ t.rdF (rFabPcnt p) 15 8 = min 255 (s.rdF (rFabPcnt p) 15 8 + 1))
    ∧ (s.portLink p = none → exec (.retrain p) s = .next s)
    ∧ (s.portState p = 4 → ∃ t, exec (.unq p) s = .next t ∧ t.portState p = again)
    ∧ (s.portState p ≠ 4 → exec (.unq p) s = .next s)
    ∧ (∃ t, exec (.violLeak p) s = .next t ∧ t.rdF (rFabPort p) 22 18 = s.rdF (rFabPort p) 22 18 - 1 ∧ t.portState p = s.portState p
        ∧ t = { s with regs := t.regs })
    ∧ (∃ t, exec (.fabPcntRead p) s = .next t ∧ t.resp = leBytes 4 (s.rd (rFabPcnt p)).toNat ∧ t.rd (rFabPcnt p) = 0
        ∧ t = { s with regs := t.regs, resp := t.resp })
    ∧ (∃ t, exec (.optWaveRead p) s = .next t ∧ t.resp = leBytes 4 (s.rd (rOptWave p)).toNat ∧ t.rdF (rOptWave p) 15 0 = 0
        ∧ t.rdF (rOptWave p) 31 16 = s.rdF (rOptWave p) 31 16 ∧ t = { s with regs := t.regs, resp := t.resp })

/-- R403, R405 to R409, R435, R440 to R442, R446, R457: spares of the fabric. A failed port's link moves to the engine's spare port with its replay
buffer and sequences; a failed wavelength's lane to the idle one; a failed cartridge's half to cartridge 3. -/
def Obligations.FabricSpares : Prop :=
  ∀ (s : State) (p : Nat), p < 52 →
    let sp := 13 * (p / 13) + 12
    let moved (t : State) (l : Nat) : Prop := t.linkPort l = sp ∧ t.portState sp = (if s.fed p then 1 else 0) ∧ t.portState p = 5 ∧ t.portLink p = none
      ∧ t.portLink sp = some l ∧ (t.port sp).replay = (s.port p).replay ∧ (t.port sp).txSeq = (s.port p).txSeq
      ∧ (t.port sp).rxSeq = (s.port p).rxSeq
    let left (t : State) (w : Nat) : Prop := t.idleWave p = 7 ∧ t.rdB (rOptWave p) (24 + w) = true ∧ (t.port p).wcmd = some (1, w, s.idleWave p)
    (∀ l, s.portLink p = some l → sp ≠ p → s.portState sp = 7 → (∃ t, exec (.portTakeover p) s = .next t ∧ moved t l)
      ∧ ∃ t, exec (.fabPortFail p) s = .next t ∧ moved t l)
    ∧ (∀ l, s.portLink p = some l → s.portState sp ≠ 7 → sp ≠ p → ∃ t, exec (.portTakeover p) s = .next t ∧ t.portState p = 5
      ∧ (t.port p).linkUp = false)
    ∧ (∀ lane w, (s.portState p = 2 ∨ s.portState p = 3) → (s.carried p)[lane]? = some w → s.idleWave p ≠ 7 →
      ∃ t, exec (.wavelengthTakeover p lane) s = .next t ∧ left t w)
    ∧ (∀ lane w, (s.portState p = 2 ∨ s.portState p = 3) → (s.carried p)[lane]? = some w → s.idleWave p = 7 →
      exec (.wavelengthTakeover p lane) s = exec (.portTakeover p) s)
    ∧ (∀ lane, s.portState p ≠ 2 → s.portState p ≠ 3 → exec (.wavelengthTakeover p lane) s = .next s)
    ∧ (∀ m b, s.rdF rFabCfg 15 8 ≠ 0 → ∃ t, exec (.marginScan p m b) s = .next t
      ∧ t.rdF (rOptWave p) 23 16 = m.foldl (fun (a : Nat) b => min a b.toNat) 0xFF)
    ∧ (∀ m b, s.rdF rFabCfg 15 8 = 0 → exec (.marginScan p m b) s = .next s)
    ∧ (∀ c, (c = 1 ∨ c = 2) → s.cartState c = 0 → s.cartState 3 = 1 →
      (∃ t, exec (.cartridgeFault c) s = .next t ∧ t.cartState c = 2 ∧ t.cartState 3 = 0 ∧ t.rdF (rOptCart 3) 29 28 = s.rdF (rOptCart c) 29 28
        ∧ (t.bay c).lamp = 3)
      ∧ ∃ t, exec (.optCartSwap c) s = .next t ∧ t.cartState c = 1 ∧ t.cartState 3 = 0 ∧ t.rdF (rOptCart 3) 29 28 = s.rdF (rOptCart c) 29 28)
    ∧ (∀ c, s.cartState 3 ≠ 1 → exec (.optCartSwap c) s = .next s)
    ∧ (∀ c h, (c = 1 ∨ c = 2 ∨ c = 3) → s.cartState c = 0 → s.rdF (rOptCart c) 29 28 = h → h = p / 26 → s.standbyCart h = none →
      ∃ t, exec (.cartridgeFault c) s = .next t ∧ t.cartState c = 2 ∧ ((s.portState p = 1 ∨ s.portState p = 2 ∨ s.portState p = 3) →
        s.portLink p ≠ none → t.portState p = 0 ∧ (t.port p).linkUp = false))
    ∧ (∀ c k, (c = 1 ∨ c = 2 ∨ c = 3) → k < 5 → (∃ t, exec (.laserFail c k) s = .next t ∧ t.rdB (rOptCart c) (23 + k) = false
      ∧ (s.cartState c = 0 → s.rdF (rOptCart c) 29 28 = p / 26 → s.portLink p ≠ none → (s.carried p).contains k = true → s.idleWave p ≠ 7 →
          t.idleWave p = 7 ∧ t.rdB (rOptWave p) (24 + k) = true))
      ∧ (s.cartState c ≠ 0 → exec (.laserFail c k) s = .next (s.wrB (rOptCart c) (23 + k) false)))
    ∧ (∀ x v d, x < 64 → ∃ t, exec (.detourWrite x v d) s = .next t ∧ t.rdB (rFabRoute x) 31
        = (bitAt v 31 && (s.rdB (rFabRoute x) 31 || (d && !s.linkUp (bf v 5 0)))))

/-- R415, R426, R427, R445, R449: frames. A frame with a bad check, or out of order, sets NAK and is not taken; the next frame in order is, and its
whole packets reach the ingress; a new frame joins the replay buffer until an ACK covers it; resent frames carry RPL; an aged packet
leaves its queue. -/
def Obligations.Frames : Prop :=
  ∀ (s : State) (p : Nat) (f : Frame), p < 52 →
    let x := s.port p
    (s.portState p ≠ 2 → s.portState p ≠ 4 → ∀ ok, exec (.frameReceive p f ok) s = .next s ∧ exec (.frameSend p) s = .next s)
    ∧ ((s.portState p = 2 ∨ s.portState p = 4) → exec (.frameReceive p f false) s = .next (s.setPort p { x with nak := true }))
    ∧ (s.portState p = 2 → f.fseq.toNat = x.rxSeq → x.rxSeq < 4096 → (∀ y ∈ f.flits, y = .idle) → ∃ t, exec (.frameReceive p f true) s = .next t
      ∧ t.port p = { x with rxSeq := (x.rxSeq + 1) % 4096, nak := false, faulted := false } ∧ t.mem = s.mem)
    ∧ (s.portState p = 2 → x.rxSeq < 4096 → 1 ≤ (x.rxSeq + 4096 - f.fseq.toNat) % 4096 → (x.rxSeq + 4096 - f.fseq.toNat) % 4096 ≤ 128 →
      ∃ t, exec (.frameReceive p f true) s = .next t ∧ t.port p = x)
    ∧ (∀ k, s.portState p = 2 → f.fseq.toNat = x.rxSeq → x.rxSeq < 4096 → f.flits = [.pkt k] → k.len = 0 → k.data = [] → x.openP = none →
      s.rdB rFabId 31 = true → pktMalformed k = false → x.held.getD (pktPool k) 0 + pktCost k ≤ poolCap.getD (pktPool k) 0 →
      s.misrouted p k = false → s.inArrangement k.dst.toNat = true → s.route k.dst.toNat k.dtr.toNat = .here →
      ∃ t, exec (.frameReceive p f true) s = .next t ∧ (t.port p).ingress = x.ingress ++ [k] ∧ (t.port p).rxSeq = (x.rxSeq + 1) % 4096)
    ∧ (s.portState p = 2 → x.resend = 0 → x.replay.length < 128 → x.egress = [] → x.txOpen = none → x.timingOut = [] → x.sinceCtrl < 3 →
      x.nak = false → x.wcmd = none → x.lcmd = 0 →
      ∃ t g, exec (.frameSend p) s = .next t ∧ g.fseq = BitVec.ofNat 12 x.txSeq ∧ g.rpl = false ∧ g.flits = List.replicate 40 .idle
        ∧ (t.port p).replay = x.replay ++ [g] ∧ (t.port p).txSeq = (x.txSeq + 1) % 4096 ∧ (t.port p).line = some (g, none))
    ∧ (∀ g, s.portState p = 2 → x.resend ≠ 0 → x.replay[x.replay.length - x.resend]? = some g → ∃ t, exec (.frameSend p) s = .next t
      ∧ t.port p = { x with resend := x.resend - 1, line := some ({ g with rpl := true }, none) })
    ∧ (∀ n k, x.ingress[n]? = some k → ∃ t, exec (.packetAged p n) s = .next t ∧ (t.port p).ingress = x.ingress.eraseIdx n)
    ∧ (∀ n e, x.ingress.length ≤ n → x.egress[n - x.ingress.length]? = some e → ∃ t l, exec (.packetAged p n) s = .next t
      ∧ (t.port p).egress = x.egress.eraseIdx (n - x.ingress.length) ++ l)

/-- R363, R372, R377, R384, R417, R447, R448, R456, R673: packets at their destination. A checked WRITE stores its data, a LATCH_ADD adds, unless a WRITE of its
descriptor was dropped; a refused packet stores nothing; a STATUS breaks the pending entries of an unreachable module, and answers the EVENT_REQ whose member refused; MGMT reaches the MCP; and
the fabric's settings. -/
def Obligations.Packets : Prop :=
  ∀ (s : State) (src : Option Nat) (p : Pkt) (u : State) (m : Msg),
    (∀ pa q, s.takePkt src (fun p => p.kind = 0) = some (p, u) → p.tag.toNat < 0xC000 → u.checkTarget src p = .inr (.mem pa, q) → p.poismap = 0 →
      u.noErrors → oneMemory pa p.data.length → (∀ i, storeOf pa = some i → u.rdB (rCoreStat i) 4 = false) →
      ∃ t, exec (.write src) s = .next t ∧ u.storedAt t pa p.data ∧ t = { u with mem := t.mem, ecc := t.ecc, cnt := t.cnt })
    ∧ (∀ e, s.takePkt src (fun p => p.kind = 0) = some (p, u) → p.tag.toNat < 0xC000 → u.checkTarget src p = .inl e →
      ∃ t, exec (.write src) s = .next t ∧ t.mem = s.mem ∧ t.latches = s.latches ∧ t.threads = s.threads)
    ∧ (∀ i j o q, s.takePkt src (fun p => p.kind = 1) = some (p, u) → u.checkTarget src p = .inr (.latch i j o, q) →
      (u.fab.dropped.contains (p.src.toNat, p.tag.toNat, p.dseq.toNat) = false → exec (.latchAdd src) s = .next (u.extLatch i j (.add (pktWord p))))
      ∧ (u.fab.dropped.contains (p.src.toNat, p.tag.toNat, p.dseq.toNat) = true → ∃ t, exec (.latchAdd src) s = .next t ∧ t.latches = s.latches))
    ∧ (∀ e, s.takePkt src (fun p => p.kind = 1) = some (p, u) → u.checkTarget src p = .inl e → ∃ t, exec (.latchAdd src) s = .next t
      ∧ t.latches = s.latches ∧ t.mem = s.mem)
    ∧ (s.takePkt src (fun p => p.kind = 3) = some (p, u) → BitVec.ofNat 32 (pktCrc p) = p.ecrc →
      (0xC000 ≤ p.body.toNat / 2 ^ 16 % 2 ^ 16 → exec (.status src) s = .next u)
      ∧ (p.body.toNat / 2 ^ 16 % 2 ^ 16 = tagLatch → BitVec.ofNat 16 p.body.toNat = eFabUnreachable → ∃ t, exec (.status src) s = .next t
        ∧ ∀ e ∈ t.releases, e ∈ u.releases ∧ ¬ (e.cmod = p.body.toNat / 2 ^ 32 % 2 ^ 16 ∧ counterAddr e.ccore e.clatch = p.body.toNat / 2 ^ 64))
      ∧ (∀ x a, p.body.toNat / 2 ^ 16 % 2 ^ 16 = tagMcp → (∀ y ∈ u.fab.resets, y.1 ≠ p.body.toNat / 2 ^ 32 % 2 ^ 16) →
          (BitVec.ofNat 16 p.body.toNat = eSyncUnlocked ∨ BitVec.ofNat 16 p.body.toNat = eSyncEvtFull) →
          u.beat.issued.find? (fun x => x.token = p.body.toNat / 2 ^ 32 % 2 ^ 16) = some x →
          u.beat.asked.find? (fun a => x.req = some a.req) = some a → a.req.1 < 36 →
          ∃ t, exec (.status src) s = .next t ∧ t.beat.asked = u.beat.asked.erase a ∧ (t.chan a.req.1).done = true
            ∧ leAt (t.chan a.req.1).resp 8 2 = p.body.toNat % 2 ^ 16 ∧ (t.chan a.req.1).resp.drop 16 = leBytes 8 a.beat.toNat))
    ∧ (s.takePkt src (fun p => p.kind = 5) = some (p, u) → BitVec.ofNat 32 (pktCrc p) = p.ecrc → 5 < leAt p.data 0 1 →
      exec (.mgmt src) s = .next { u with fab := { u.fab with inbox := u.fab.inbox ++ [(p.src.toNat, p.data)] } })
    ∧ (s.takePkt src (fun p => p.kind = 5) = some (p, u) → BitVec.ofNat 32 (pktCrc p) = p.ecrc → leAt p.data 0 1 = 4 →
      exec (.mgmt src) s = .next (u.setWin (leAt p.data 1 1 % 16)
        { u.win (leAt p.data 1 1 % 16) with len := leAt p.data 4 4, dest := BitVec.ofNat 64 (leAt p.data 8 8) }))
    ∧ (∀ i ∈ ([.write src, .latchAdd src, .status src, .mgmt src] : List Instr), (∀ f : Pkt → Bool, s.takePkt src f = none) → exec i s = .next s)
    ∧ (∀ r, requestOf (.fabricQuery m) = some r → s.accepts r → Served (.fabricQuery m) s r 0 s.fabricBody (Aside s))
    ∧ (∀ r, requestOf (.fabricSet m) = some r → s.accepts r →
      let w (o : Nat) : W32 := BitVec.ofNat 32 (leAt r.text o 4)
      w 0 &&& 0x40000088#32 = 0 → w 4 &&& 0x070000FF#32 = 0 → w 8 &&& ~~~0xCF0FF000#32 = 0 → w 12 = 0 → leAt r.text 472 8 = 0 →
      (∀ l < 48, w (24 + 4 * l) &&& 0x3C0#32 = 0) → (∀ x < 64, w (216 + 4 * x) &&& 0xBFFFFC00#32 = 0) →
      (s.cmds ≠ [] → (w 0 ^^^ s.rd rFabId) &&& 0x3FFFFF77#32 ≠ 0 → Served (.fabricSet m) s r eHifPartBusy [] (Aside s))
      ∧ (s.cmds = [] ∨ (w 0 ^^^ s.rd rFabId) &&& 0x3FFFFF77#32 = 0 → Served (.fabricSet m) s r 0 [] (fun t => t.rd rFabId = w 0 ∧ t.rd rFabCfg = w 4 ∧ (∀ x < 64, bf (t.rd (rFabRoute x)) 9 0 = bf (w (216 + 4 * x)) 9 0)
        ∧ (t.image 1).seq = (s.image 1).seq + 1)))

/-! ### Collectives -/

/-- R468, R470, R472, R480, R491: a COLLECTIVE command that starts becomes an operation with its rank and members and a landing record, and waits for
its gate; with its gate open, a reduction's contribution is released; one whose GSEQ no bank holds, or whose gate is outside the
partition, fails. An ungated ALL_GATHER of a group of one copies its
source to its destination and is done. -/
def Obligations.CollectiveStart : Prop :=
  ∀ (s : State) (ring dc cop : Nat) (i : Instr) (k : Cmd), s.startable ring dc 0x20 k → k.cCop = cop → s.noTrace k.part → s.coll.ops = [] →
    s.noErrors → (i, cop) ∈ [(Instr.allReduce ring dc, 1), (.reduceScatter ring dc, 2), (.allGather ring dc, 3), (.broadcast ring dc, 4),
      (.lrReduce ring dc, 5)] →
    let u := s.begun k
    (s.collBank k = none → ∃ t k', exec i s = .next t ∧ t.cmd ring dc = some k' ∧ k'.phase = .failed ∧ k'.err = eCollGseq ∧ t.coll = s.coll)
    ∧ (∀ b, s.collBank k = some b → k.cGated = true → s.partOfCore (k.cSlatch / 64 % 128) ≠ some k.part →
      ∃ t k', exec i s = .next t ∧ t.cmd ring dc = some k' ∧ k'.phase = .failed ∧ k'.err = eSyncLatchBounds ∧ t.coll = s.coll)
    ∧ (∀ b, s.collBank k = some b → s.gateOpen k = false → s.partOfCore (k.cSlatch / 64 % 128) = some k.part →
      (∀ o : CollOp, o.opseq = k.cOpseq → o.members = s.gtMembers b k.cGroup → u.maskMismatch k o = false) →
      ∃ t o k', exec i s = .next t ∧ t.coll.ops = [o] ∧ o.group = k.cGroup ∧ o.opseq = k.cOpseq ∧ o.members = s.gtMembers b k.cGroup
        ∧ o.start = s.now ∧ o.released = none ∧ o.ring = ring ∧ o.dcount = dc ∧ (∀ r, (o.members[r]?).map (·.1) = some s.maddr → o.rank ≤ r)
        ∧ t.landing k.cGroup k.cOpseq ≠ none ∧ t.cmd ring dc = some k' ∧ k'.phase = .running ∧ t.mem = u.mem)
    ∧ (∀ b, s.collBank k = some b → s.gateOpen k = true → (k.cGated = true → s.partOfCore (k.cSlatch / 64 % 128) = some k.part) →
      (cop = 1 ∨ cop = 2 ∨ (cop = 5 ∧ (u.lrP k).isSome = true)) →
      (∀ o : CollOp, o.opseq = k.cOpseq → o.members = s.gtMembers b k.cGroup → u.maskMismatch k o = false) →
      ∃ t o k', exec i s = .next t ∧ t.coll.ops = [o] ∧ o.group = k.cGroup ∧ o.opseq = k.cOpseq ∧ o.released = some s.now ∧ o.agreed = none
        ∧ t.landing k.cGroup k.cOpseq ≠ none ∧ t.cmd ring dc = some k' ∧ k'.phase = .running ∧ t.mem = u.mem)
    ∧ (∀ b q, s.collBank k = some b → cop = 3 → k.cGated = false → s.gtMembers b k.cGroup = [(s.maddr, q)] → s.gtLevn b k.cGroup = [1] →
      (∀ o : CollOp, o.opseq = k.cOpseq → o.members = s.gtMembers b k.cGroup → u.maskMismatch k o = false) →
      let n := rowBytes k.cDst.fmt k.cCount
      oneMemory (s.physOf k.cSrc.base) n → oneMemory (s.physOf k.cDst.base) n → oneMemory (s.physOf k.scratch) 8192 →
      (s.physOf k.cDst.base + n ≤ s.physOf k.scratch ∨ s.physOf k.scratch + 8192 ≤ s.physOf k.cDst.base) →
      ∃ t k', exec i s = .next t ∧ t.cmd ring dc = some k' ∧ k'.phase = .written ∧ t.coll.ops = [] ∧ (k.cGroup, k.cOpseq) ∈ t.coll.doneOps
        ∧ ∀ a < n, t.byte (s.physOf k.cDst.base + a) = u.byte (s.physOf k.cSrc.base + a))

/-- R478, R485, R487, R488, R491: the steps of a started operation. At or after its reference beat an owner sends its round-1 mask; without
TOLERANT, or below QUORUM, it sends the round-2 mask when every part has landed; all masks of a round make the agreed mask, or send a
tolerant operation below QUORUM to round 2; each level of a hierarchy goes on when its parts are in; a timeout ends the operation with
COLL_TIMEOUT. -/
def Obligations.CollectiveSteps : Prop :=
  ∀ (s : State) (g n : Nat) (o : CollOp) (k : Cmd), s.collOp g n = some o → s.cmd o.ring o.dcount = some k → (s.part k.part).stopped = false →
    s.frozenPart k.part = false →
    (∀ d, o.ref = some d → k.reduces = true → k.cTolerant = true → o.q = false → o.sent.any (fun m => m.1 = 0) = false →
      (d ≤ s.now → ∃ t o' b, exec (.ownerRound1 g n) s = .next t ∧ t.collOp g n = some o' ∧ (0, b) ∈ o'.sent ∧ o'.agreed = o.agreed)
      ∧ (s.now < d → exec (.ownerRound1 g n) s = .next s))
    ∧ (o.ref = none → exec (.ownerRound1 g n) s = .next s)
    ∧ (k.reduces = true → o.agreed = none → o.q = false → (k.cTolerant = false ∨ o.need2 = true) → o.sent.any (fun m => m.1 = 1) = false →
      o.released ≠ none → s.partsIn k o 0 (fun _ => true) = true →
      ∃ t o' b, exec (.round2 g n) s = .next t ∧ t.collOp g n = some o' ∧ (1, b) ∈ o'.sent ∧ o'.agreed = none)
    ∧ (o.released = none → exec (.round2 g n) s = .next s)
    ∧ (s.maskMismatch k o = false → k.reduces = true → o.agreed = none → o.q = false → k.cTolerant = true → o.need2 = false → o.down = false →
      ∀ a nans, s.masks k o 0 = some (a, nans) → k.cNanq = false → popNat o.size a < max 1 k.cQr →
      ∃ t o', exec (.agree g n) s = .next t ∧ t.collOp g n = some o' ∧ o' = { o with need2 := true })
    ∧ (s.maskMismatch k o = false → k.reduces = true → o.agreed = none → o.q = false → k.cTolerant = false → o.down = false → k.cCop = 1 →
      o.levn.length = 1 → ∀ a nans, s.masks k o 1 = some (a, nans) → k.cNanq = false →
      ∃ t, exec (.agree g n) s = .next t ∧ ((g, n) ∈ t.coll.doneOps ∨ ∃ o', t.collOp g n = some o' ∧ o'.agreed = some (a, 2) ∧ o'.down = true))
    ∧ (s.maskMismatch k o = true → ∃ t k', exec (.agree g n) s = .next t ∧ t.collOp g n = none ∧ t.cmd o.ring o.dcount = some k'
      ∧ k'.phase = .failed ∧ (k.phase ≠ .failed → k'.err = eCollGroupMismatch))
    ∧ (∀ l, 1 ≤ l → o.down = true → o.level = l → s.resultsIn k o l = true → ∃ t, exec (.hierLevel g n l) s = .next t ∧
      ((g, n) ∈ t.coll.doneOps ∨ ∃ o', t.collOp g n = some o' ∧ o'.level = l - 1))
    ∧ (∀ l, o.down = false → o.level ≠ l → exec (.hierLevel g n l) s = .next s)
    ∧ ((o.ref.getD o.start).toNat + k.cTimeout ≤ s.now.toNat → ∃ t k', exec (.collTimeout g n) s = .next t ∧ t.collOp g n = none
      ∧ t.landing g n = none ∧ t.cmd o.ring o.dcount = some k' ∧ k'.phase = .failed ∧ (k.phase ≠ .failed → k'.err = eCollTimeout)
      ∧ t.rdF rCollStat 7 0 = min 255 (s.rdF rCollStat 7 0 + 1))
    ∧ (s.now.toNat < (o.ref.getD o.start).toNat + k.cTimeout → exec (.collTimeout g n) s = .next s)

/-- R463 to R466, R502, R504, R505: the group table. WRITE opens the older bank when no live operation names it; COMMIT starts its validation; a valid
bank becomes the newest with the next sequence, and an invalid one leaves FAIL with the entry's number; GROUP_WRITE stages bytes and
GROUP_COMMIT is answered when the validation ends. -/
def Obligations.GroupTable : Prop :=
  ∀ (s : State) (m : Msg),
    let b := 1 - s.gtNewest
    (s.liveOld = 0 → exec .collGtWrite s = .next (s.wrB rCollCtl 30 true))
    ∧ (s.liveOld ≠ 0 → exec .collGtWrite s = .next s)
    ∧ (s.rdB rCollCtl 30 = true → ∃ t, exec .collGtCommit s = .next t ∧ t.rdB rCollCtl 31 = true ∧ t.rdB rCollCtl 29 = true ∧ t = { s with regs := t.regs })
    ∧ (s.rdB rCollCtl 30 = false → exec .collGtCommit s = .next s)
    ∧ (s.rdB rCollCtl 29 = true → s.firstInvalid b = none → ∃ t, exec .gtValidationEnd s = .next t ∧ t.rdB rCollCtl 29 = false
      ∧ t.rdB rCollCtl 30 = false ∧ t.rdF rCollCtl 28 28 = b ∧ t.gtSeq (1 - b) = s.gtSeq (1 - b)
      ∧ t.gtSeq b = (if (s.gtSeq (1 - b) + 1) % 2 ^ 32 = 0 then 1 else (s.gtSeq (1 - b) + 1) % 2 ^ 32) ∧ t.mem = s.mem)
    ∧ (∀ i, s.rdB rCollCtl 29 = true → s.firstInvalid b = some i → ∃ t, exec .gtValidationEnd s = .next t ∧ t.rdB rCollCtl 27 = true
      ∧ t.rdF rCollCtl 23 12 = i ∧ t.gtSeq 0 = s.gtSeq 0 ∧ t.gtSeq 1 = s.gtSeq 1 ∧ t.mem = s.mem)
    ∧ (∀ r, requestOf (.groupWrite m) = some r → s.accepts r → (s.chan m.ch).role = .operator →
      leAt r.text 0 2 ≤ 0xFFE → 0 < leAt r.text 4 2 → leAt r.text 4 2 ≤ 992 → leAt r.text 2 2 + leAt r.text 4 2 ≤ 4160 → leAt r.text 6 10 = 0 →
      Served (.groupWrite m) s r 0 [] (Aside { s with coll := { s.coll with
        staging := s.coll.staging ++ [(leAt r.text 0 2, leAt r.text 2 2, (r.text.drop 16).take (leAt r.text 4 2))] } }))
    ∧ (∀ r, requestOf (.groupCommit m) = some r → s.accepts r → (s.chan m.ch).role = .operator → s.coll.committer = none →
      s.rdB rCollCtl 29 = false → s.liveOld = 0 → ∃ t, exec (.groupCommit m) s = .next t ∧ (t.chan m.ch).busy = true
        ∧ t.coll.committer = some (m.ch, m.tag) ∧ t.rdB rCollCtl 29 = true ∧ t.rdB rCollCtl 31 = true ∧ t.threads = s.threads)
    ∧ (∃ t, exec .collStatRead s = .next t ∧ t.resp = leBytes 4 s.collStat.toNat ∧ t.rdF rCollStat 7 0 = 0 ∧ t = { s with regs := t.regs, resp := t.resp })
    ∧ (∃ t, exec .collDropRead s = .next t ∧ t.resp = leBytes 4 (s.rd rCollDrop).toNat ∧ t.rd rCollDrop = 0
      ∧ t = { s with regs := t.regs, resp := t.resp })

/-! ### Reliability -/

/-- R33, R559 to R563, R567 to R573, R578 to R580, R583, R588: a core's rolling test starts in the attic, asks for a hand-over, or is deferred or
withdrawn; a wing's cores fall due in ascending order, each once its share of ROT_H has passed; its result clears the core for work or retires it; spare hallway lanes; life-cycle states; pattern sets; diagnostics; reports and
the ledger. -/
def Obligations.Reliability : Prop :=
  ∀ (s : State) (i w : Nat), i < 144 → w = wingOf i →
    (s.rdB rBstRot 31 = true → i = s.dueCore w → s.dueTime w = true → s.engineAllowed = true → (s.core i).retired = false → s.testState w = 0 →
      (∀ h ∈ s.handovers, h.old ≠ i) →
      (s.logical i = none → ∃ t, exec (.rollingTestDue w i) s = .next t ∧ t.testState w = 3 ∧ t.testCore w = i ∧ t.rdB (rCoreStat i) 3 = true)
      ∧ (s.logical i ≠ none → s.spareFor w ≠ none → ∃ t, exec (.rollingTestDue w i) s = .next t ∧ t.testState w = 2 ∧ t.testCore w = i
          ∧ t.rdB (rCoreCtl i) 30 = true ∧ t.rdB (rCoreStat i) 5 = !s.fenced i)
      ∧ (s.logical i ≠ none → s.spareFor w = none → s.rdF rBstRot 15 0 ≠ 0 → ∃ t, exec (.rollingTestDue w i) s = .next t ∧ t.testState w = 4
          ∧ tget (fun _ => none) t.test.deferred w = some s.now)
      ∧ (s.logical i ≠ none → s.spareFor w = none → s.rdF rBstRot 15 0 = 0 → ∃ t, exec (.rollingTestDue w i) s = .next t ∧ t.testState w = 5
          ∧ (t.core i).withdrawn = true))
    ∧ ((s.rdB rBstRot 31 = false ∨ i ≠ s.dueCore w ∨ s.dueTime w = false) → exec (.rollingTestDue w i) s = .next s)
    ∧ (s.rdB rBstRot 31 = true → i = s.dueCore w → s.dueTime w = true → ∃ t, exec (.rollingTestDue w i) s = .next t
      ∧ t.dueCore w = 72 * w + (i + 1 - 72 * w) % 72 ∧ tget (fun _ => none) t.test.dueAt w = some s.now)
    ∧ (∀ b, tget (fun _ => none) s.test.deferred w = some b → s.testState w = 4 → s.testCore w = i →
      b.toNat + 65536 * s.rdF rBstRot 15 0 ≤ s.now.toNat → ∃ t, exec (.testWithdraw w) s = .next t ∧ t.testState w = 5
        ∧ (t.core i).withdrawn = true ∧ tget (fun _ => none) t.test.deferred w = none)
    ∧ (tget (fun _ => none) s.test.deferred w = none → exec (.testWithdraw w) s = .next s)
    ∧ (∀ ms, s.testCore w = i → (s.testState w = 3 ∨ s.testState w = 5) → ∃ t, exec (.coreTestResult i true ms) s = .next t
      ∧ (t.core i).passed = true ∧ (t.core i).lastPass = s.now ∧ (t.core i).ledger = [] ∧ t.fenced i = false
      ∧ t.rd (rBstResult w) = BitVec.ofNat 32 (i * 2 ^ 24 + 2 ^ 23 + min 0xFFFF ms))
    ∧ (∀ ms, s.testCore w = i → (s.testState w = 3 ∨ s.testState w = 5) → s.logical i = none → ∃ t, exec (.coreTestResult i false ms) s = .next t
      ∧ (t.core i).passed = false ∧ (t.core i).retired = true ∧ t.rd (rBstResult w) = BitVec.ofNat 32 (i * 2 ^ 24 + min 0xFFFF ms))
    ∧ (∀ p ms, s.testCore w ≠ i → exec (.coreTestResult i p ms) s = .next s)
    ∧ (∀ d l, tget (fun _ => 0) s.fab.hallUsed d < 16 → ∃ t, exec (.hallwayLaneSpare d l) s = .next t
      ∧ tget (fun _ => 0) t.fab.hallUsed d = tget (fun _ => 0) s.fab.hallUsed d + 1)
    ∧ (∀ d l, 16 ≤ tget (fun _ => 0) s.fab.hallUsed d → ∃ t, exec (.hallwayLaneSpare d l) s = .next t ∧ t.fab = s.fab ∧ t.mem = s.mem)
    ∧ (s.resend = [] → ∀ r, ((s.dueSummaries.reports.filter (fun r => decide ((r.rseq - s.rsent).toNat < 2 ^ 31))).take 16).getLast? = some r →
      exec .nativeReportSend s = .next (({ s.dueSummaries with rsent := r.rseq + 1 } : State).answer
        (s.datagram ((s.dueSummaries.reports.filter (fun r => decide ((r.rseq - s.rsent).toNat < 2 ^ 31))).take 16))))
    ∧ (s.resend = [] → (∀ r ∈ s.dueSummaries.reports, 2 ^ 31 ≤ (r.rseq - s.rsent).toNat) → exec .nativeReportSend s = .next s.dueSummaries)
    ∧ (s.resend ≠ [] → exec .nativeReportSend s = .next (({ s.dueSummaries with resend := s.resend.drop 16 } : State).answer
        (s.datagram (s.dueSummaries.reports.filter (fun r => (s.resend.take 16).contains r.rseq)))))
    ∧ (∃ t, exec .bstCheckRead s = .next t ∧ t.resp = leBytes 4 (s.rd rBstCheck).toNat ∧ t.rd rBstCheck = 0
      ∧ t = { s with regs := t.regs, resp := t.resp })

/-- R567 to R572, R580, R583: the messages of reliability. A life-cycle change needs its role; a valid, newer pattern set comes into force; a unit
that no partition uses is tested in SERVICE; ledger entries and reports are read. -/
def Obligations.ReliabilityMessages : Prop :=
  ∀ (s : State) (m : Msg) (image : List Byte) (pass : Bool),
    (∀ r, requestOf (.lcSet m) = some r → s.accepts r →
      (lcChange (s.chan m.ch).role s.test.lc (leAt r.text 0 1) = none → Served (.lcSet m) s r eLcDenied [] (Aside s))
      ∧ (lcChange (s.chan m.ch).role s.test.lc (leAt r.text 0 1) = some true → leAt r.text 0 1 ≠ 4 → Served (.lcSet m) s r 0 [] (fun t =>
          t.test = { s.test with lc := leAt r.text 0 1 } ∧ t.parts = s.parts ∧ t.host.keys = s.host.keys))
      ∧ (lcChange (s.chan m.ch).role s.test.lc (leAt r.text 0 1) = some true → leAt r.text 0 1 = 4 → Served (.lcSet m) s r 0 [] (fun t =>
          t.test.lc = 4 ∧ ∀ k < 8, (t.key k).role ≠ .operator ∧ (t.key k).role ≠ .tenant)))
    ∧ (∀ r, requestOf (.patternLoad m image) = some r → s.accepts r →
      (patternOk image = false → Served (.patternLoad m image) s r ePatternInvalid [] (Aside s))
      ∧ (patternOk image = true → leAt image 8 4 < (s.patternSet (leAt image 4 2)).version → Served (.patternLoad m image) s r ePatternRollback [] (Aside s))
      ∧ (patternOk image = true → (s.patternSet (leAt image 4 2)).version ≤ leAt image 8 4 → Served (.patternLoad m image) s r 0 [] (fun t =>
          t.patternSet (leAt image 4 2) = { version := leAt image 8 4, sa := leAt image 16 2, tr := leAt image 18 2, slices := leAt image 20 2 }
          ∧ t.test.running = s.test.running ∧ t.mem = s.mem)))
    ∧ (∀ r, requestOf (.testRun m pass) = some r → s.accepts r →
      let unit := leAt r.text 0 1
      let inst := leAt r.text 2 2
      (s.test.lc ≠ 3 → Served (.testRun m pass) s r eHifRoleDenied [] (fun t => t.cores = s.cores))
      ∧ (s.test.lc = 3 → 2 ≤ unit → unit ≤ 12 → leAt r.text 1 1 = 0 → inst ≤ 575 → s.unitUsed unit inst = true →
          Served (.testRun m pass) s r eBstBusy [] (Aside s))
      ∧ (s.test.lc = 3 → 2 ≤ unit → unit ≤ 12 → leAt r.text 1 1 = 0 → inst ≤ 575 → s.unitUsed unit inst = false →
          Served (.testRun m pass) s r 0 [if pass then 1 else 0] (fun t => t.mem = s.mem ∧ t.cores = s.cores))
      ∧ (s.test.lc = 3 → unit = 1 → leAt r.text 1 1 = 0 → inst < 144 → s.testState (wingOf inst) ≠ 0 → s.testState (wingOf inst) ≠ 4 →
          Served (.testRun m pass) s r 0 [] (fun t => (t.core inst).testNext = true ∧ t.mem = s.mem))
      ∧ (s.test.lc = 3 → unit = 1 → leAt r.text 1 1 = 0 → inst < 144 → s.testState (wingOf inst) = 0 → (s.core inst).retired = false →
          s.logical inst = none → (∀ h ∈ s.handovers, h.old ≠ inst) → (∀ k < 144, (s.core k).testNext = false) →
          Served (.testRun m pass) s r 0 [] (fun t => t.testState (wingOf inst) = 3 ∧ t.testCore (wingOf inst) = inst)))
    ∧ (∀ r, requestOf (.ledgerRead m) = some r → s.accepts r → leAt r.text 0 2 < 144 → leAt r.text 2 2 = 0 →
      Served (.ledgerRead m) s r 0 (leBytes 4 (s.ledgerAll (leAt r.text 0 2)).length
        ++ leBytes 4 (if s.rdB (rLedgerCtl (leAt r.text 0 2)) 31 then 1 else 0)
        ++ (((s.ledgerAll (leAt r.text 0 2)).drop (leAt r.text 4 4)).take 62).flatMap (fun e => leBytes 16 e.toNat)) (Aside s))
    ∧ (∀ r, requestOf (.reportResend m) = some r → s.accepts r → Served (.reportResend m) s r 0 [] (Aside { s with
        resend := s.resend ++ (s.reports.filter (fun x => decide ((x.rseq - BitVec.ofNat 32 (leAt r.text 0 4)).toNat < leAt r.text 4 4))).map (·.rseq) }))

/-! ### Power, boot and configuration -/

/-- R590 to R592, R594, R605 to R608, R651: the supply and the stops. A stop in order records its cause, beat, voltage, temperatures and spare-map sequence, empties everything that loses power and shows
HIF_STAT.STATE 4; a start with valid firmware ends with the module running. (The record's TIN is a free value while the standby side runs:
notes/assumptions/9.md.) -/
def Obligations.PowerStops : Prop :=
  ∀ (s : State) (mv : Nat) (tj : Int),
    let stopped (t : State) (cause wait v : Nat) (temps : W32) : Prop := t.pwr.main = false ∧ t.hifState = 4 ∧ t.pwr.stopped = wait ∧ t.mem = [] ∧ t.threads = []
      ∧ t.cmds = [] ∧ t.rings = [] ∧ t.pwr.stopRecords = s.pwr.stopRecords ++ [{ cause, beat := s.now, mv := v, temps, mapSeq := (s.image 4).live }] ∧ t.spareMap = s.spareMap
    (s.pwr.main = true →
      (∃ t, exec (.bladeUndervoltage mv) s = .next t ∧ stopped t 1 1 mv s.pwrTemp ∧ t.rdF rPwrErr 7 6 = 1)
      ∧ (∃ t, exec (.bladeOvervoltage mv) s = .next t ∧ stopped t 2 1 mv s.pwrTemp ∧ t.rdF rPwrErr 7 6 = 2)
      ∧ (∃ t, exec .bladeEnNHigh s = .next t ∧ stopped t 0 2 s.pwr.mv s.pwrTemp)
      ∧ (840 ≤ tj → ∃ t, exec (.pwrThermStop tj) s = .next t ∧ stopped t 3 2 s.pwr.mv (s.setTj tj).pwrTemp ∧ t.rdF rPwrErr 7 6 = 3))
    ∧ (s.pwr.main = false → exec (.bladeUndervoltage mv) s = .next (s.setMv mv) ∧ exec (.bladeOvervoltage mv) s = .next (s.setMv mv)
      ∧ exec .bladeEnNHigh s = .next s)
    ∧ (tj < 840 → exec (.pwrThermStop tj) s = .next (s.setTj tj))
    ∧ (∃ t, exec .thermalTrip s = .next t ∧ t.pwr.main = false ∧ t.pwr.trip = true ∧ t.rdB rPwrErr 4 = true ∧ t.hifState = 4 ∧ t.mem = [])
    ∧ (∃ t, exec (.standbyLoss mv) s = .next t ∧ t.mem = [] ∧ t.threads = [] ∧ t.pwr.standby = false ∧ t.pwr.main = false ∧ t.beat = {}
      ∧ t.flashMap = s.flashMap ∧ t.pwr.flashParts = s.pwr.flashParts ∧ t.pwr.flashPolicy = s.pwr.flashPolicy ∧ t.pwr.mv = mv)
    ∧ (s.pwr.stopped = 1 → s.pwr.main = false → 40000 ≤ mv → mv ≤ 60000 → (s.image 0).inUse ≠ none →
      ∃ t, exec (.voltageRecovery mv) s = .next t ∧ t.pwr.main = true ∧ t.hifState = 2 ∧ t.host.cfgReady = true ∧ t.pwr.stopped = 0)
    ∧ (s.pwr.main = true → exec (.voltageRecovery mv) s = .next (s.setMv mv))
    ∧ (36000 ≤ mv → mv ≤ 61000 → (s.image 0).inUse ≠ none → ∃ t, exec (.boot mv) s = .next t ∧ t.pwr.main = true ∧ t.hifState = 2
      ∧ t.host.cfgReady = true ∧ t.cmds = [] ∧ t.threads = [])
    ∧ (mv < 20000 → ∃ t, exec (.boot mv) s = .next t ∧ t.pwr.main = false ∧ t.pwr.standby = false ∧ t.mem = [])
    ∧ (20000 ≤ mv → mv < 36000 → ∃ t, exec (.boot mv) s = .next t ∧ t.pwr.main = false ∧ t.pwr.standby = true ∧ t.mem = [])

/-- R590, R591, R595 to R597, R605, R625: warnings, the governor and the thermal throttle. A limit that is reached lowers the clock by 25 MHz, not
below 500 MHz; with room it rises by 25 MHz, not above the profile's clock. A warning is the last report unless its code's 1,000 of the second
are spent (R580). -/
def Obligations.Governor : Prop :=
  ∀ (s : State) (mv powerW avgW : Nat) (b : Bool) (tj : Int),
    let low := min (max 500 (s.clk - 25)) (profClk s.profile)
    (s.pwr.ovWarned = false → ∃ t, exec (.pwrOvWarn mv) s = .next t ∧ t.pwr.ovWarned = true
      ∧ ((s.rate ePwrOvWarn.toNat).sent < 1000 → t.reports.getLast?.map (·.err) = some ePwrOvWarn))
    ∧ (s.pwr.ovWarned = true → exec (.pwrOvWarn mv) s = .next (s.setMv mv))
    ∧ (mv < 40000 → s.profile = 0 → s.pwr.main = true → s.rdB rPwrStat 27 = false → ∃ t, exec (.pwrUvLimit mv) s = .next t
      ∧ t.rdB rPwrStat 27 = true ∧ t.rdB rPwrErr 2 = true ∧ t.pwr.mv = mv)
    ∧ (40000 ≤ mv → exec (.pwrUvLimit mv) s = .next (s.setMv mv))
    ∧ (s.pwr.main = false → exec (.governorTick powerW avgW mv b) s = .next (s.setMv mv))
    ∧ (s.pwr.main = true → (s.cap ≤ avgW ∨ profTransient s.profile ≤ powerW) → s.pwr.stepped = none →
      ∃ t, exec (.governorTick powerW avgW mv b) s = .next t ∧ t.clk = low ∧ t.rdF rPwrMeas 15 0 = avgW % 65536 ∧ t.pwr.stepped = some s.now)
    ∧ (s.pwr.main = true → avgW < s.cap → powerW < profTransient s.profile → 40000 ≤ mv → s.rdB rPwrStat 25 = true → s.rdB rPwrStat 26 = false →
      s.pwr.raised = none → s.pwr.thermHold = false → ∃ t, exec (.governorTick powerW avgW mv true) s = .next t
        ∧ t.clk = min (s.clk + 25) (profClk s.profile) ∧ t.pwr.raised = some s.now)
    ∧ (s.pwr.main = true → avgW < s.cap → powerW < profTransient s.profile → 40000 ≤ mv → ∃ t, exec (.governorTick powerW avgW mv false) s = .next t
        ∧ t.clk = s.clk)
    ∧ (760 ≤ tj → s.pwr.thermWarned = false → ∃ t, exec (.pwrThermWarn tj) s = .next t ∧ t.pwr.thermWarned = true ∧ t.pwr.alert = s.pwr.alert ||| 1
      ∧ ((s.rate ePwrThermWarn.toNat).sent < 1000 → t.reports.getLast?.map (·.err) = some ePwrThermWarn))
    ∧ (tj < 760 → ∃ t, exec (.pwrThermWarn tj) s = .next t ∧ t.pwr = { s.pwr with thermWarned := false } ∧ t.reports = s.reports)
    ∧ (s.pwr.main = true → 800 ≤ tj → ∃ t, exec (.thermalThrottle tj) s = .next t ∧ t.clk = low ∧ t.rdB rPwrStat 26 = true ∧ t.rdB rPwrErr 3 = true
      ∧ t.pwr.thermHold = true)
    ∧ (tj ≤ 784 → ∃ t, exec (.thermalThrottle tj) s = .next t ∧ t.rdB rPwrStat 26 = false ∧ t.clk = s.clk)
    ∧ (∃ t, exec .pwrErrRead s = .next t ∧ t.resp = leBytes 4 (s.rd rPwrErr).toNat ∧ t.rdF rPwrErr 31 24 = 0
      ∧ t.rdF rPwrErr 23 0 = s.rdF rPwrErr 23 0 ∧ t = { s with regs := t.regs, resp := t.resp })

/-- R598 to R600, R604, R608, R611, R616, R619, R620, R655: requests for profiles, standby takeovers, flash copies and the orderly shutdown. -/
def Obligations.PowerRequests : Prop :=
  ∀ (s : State) (on : Bool) (src w : Nat),
    let want := s.pwr.asserted.filter (· ≠ src) ++ (if on then [src] else [])
    (∃ t, exec (.sitePowerN on) s = .next t ∧ t.rdB rPwrStat 28 = on ∧ t.threads = s.threads)
    ∧ (s.disciplined = false → exec .sitePowerReport s = .next s)
    ∧ (s.beatSt = 4 → ∃ t, exec .sitePowerReport s = .next t
        ∧ t.pwr.asserted = s.pwr.asserted.filter (· ≠ s.maddr) ++ (if s.rdB rPwrStat 28 then [s.maddr] else []))
    ∧ (s.beatSt ≠ 4 → exec (.profileDecision src on) s = .next s)
    ∧ (s.beatSt = 4 → ∃ t, exec (.profileDecision src on) s = .next t ∧ t.pwr.asserted = want
        ∧ (s.pwr.lastSched = none → s.wantProfile (!want.isEmpty) ≠ s.profile →
            ∃ n, t.pwr.lastSched = some (s.wantProfile (!want.isEmpty), n) ∧ s.now + BitVec.ofNat 64 (max s.pwr.policy.plead s.lead) = n))
    ∧ (s.pwr.standbyMcp = true → ∀ i ∈ ([.mcpHeartbeatMiss, .lockstepMiscompare] : List Instr), ∃ t, exec i s = .next t ∧ t.pwr.standbyMcp = false
        ∧ t.pwr.replaced = true ∧ t.rdB rHifStat 28 = (!s.rdB rHifStat 28) ∧ t.cmds = s.cmds ∧ t.mem = s.mem)
    ∧ (s.pwr.replaced = true → exec (.mcpATestResult true) s = .next { s with pwr := { s.pwr with replaced := false, standbyMcp := true } })
    ∧ (s.pwr.replaced = true → ∃ t, exec (.mcpATestResult false) s = .next t ∧ t.pwr.replaced = false ∧ t.pwr.standbyMcp = s.pwr.standbyMcp
        ∧ t.pwr.alert = s.pwr.alert ||| 8)
    ∧ (s.pwr.replaced = false → exec (.mcpATestResult on) s = .next s)
    ∧ ((s.pwr.main = true ∨ s.pwr.standbyMcp = false) → exec .mcpBBootTakeover s = .next s)
    ∧ (s.pwr.main = false → s.pwr.standbyMcp = true → s.pwr.stopped ≠ 0 → ∃ t, exec .mcpBBootTakeover s = .next t ∧ t.pwr.standbyMcp = false
        ∧ t.pwr.replaced = true ∧ t.rdB rHifStat 28 = true)
    ∧ (tget (fun _ => true) s.pwr.wcStandby w = true → ∀ i ∈ ([.wcStandbyTakeover w, .wcPrimaryMiscompare w] : List Instr), ∃ t, exec i s = .next t
        ∧ tget (fun _ => true) t.pwr.wcStandby w = false ∧ t.cmds = s.cmds ∧ t.threads = s.threads ∧ t.mem = s.mem)
    ∧ (∀ k, tget (fun _ => true) s.pwr.wcStandby w = false → s.cmds = [k] → k.phase ≠ .failed → s.coresOfWing k.part w ≠ [] →
        ∀ i ∈ ([.wcStandbyTakeover w, .wcPrimaryMiscompare w] : List Instr), ∃ t k', exec i s = .next t ∧ t.cmds = [k'] ∧ k'.phase = .failed
          ∧ 1 ≤ k'.err.toNat / 256 ∧ k'.err.toNat / 256 ≤ 8 ∧ k'.err.toNat % 256 ≠ 0)
    ∧ ((s.image 5).dirty = true → ∃ t, exec (.flashCopyWrite 5) s = .next t ∧ t.pwr.flashPolicy = s.pwr.policy ∧ (t.image 5).dirty = false)
    ∧ ((s.image 4).dirty = true → ∃ t, exec (.flashCopyWrite 4) s = .next t ∧ t.flashMap = s.spareMap ∧ t.memx.flashRows = s.memx.rowMap
      ∧ (t.image 4).dirty = false)
    ∧ (∀ k, (s.image k).dirty = false → exec (.flashCopyWrite k) s = .next s)
    ∧ (s.pwr.shutting = false → exec .drainSExpiry s = .next s)
    ∧ (s.pwr.shutting = true → ∃ t, exec .drainSExpiry s = .next t ∧ ∀ p < 8, s.partIdle p = false → ∀ j < 8, (s.ring (8 * p + j)).st = .running →
        (t.ring (8 * p + j)).st = .halted)

/-- R598, R599, R604, R611 to R619, R621: the messages of power and configuration. -/
def Obligations.PowerMessages : Prop :=
  ∀ (s : State) (m : Msg) (image : List Byte),
    (∀ r, requestOf (.profileReq m) = some r → s.accepts r →
      (3 < leAt r.text 0 1 → leAt r.text 0 1 ≠ 0xFF → Served (.profileReq m) s r ePwrProfileInvalid [] (Aside s))
      ∧ (leAt r.text 0 1 ≤ 3 → Served (.profileReq m) s r 0 [] (fun t => t.pwr.policy = { s.pwr.policy with opcap := some (leAt r.text 0 1) }))
      ∧ (leAt r.text 0 1 = 0xFF → Served (.profileReq m) s r 0 [] (fun t => t.pwr.policy = { s.pwr.policy with opcap := none })))
    ∧ (∀ r, requestOf (.policySet m) = some r → s.accepts r → leAt r.text 0 1 ≤ 3 → leAt r.text 1 1 ≤ 3 → leAt r.text 2 2 ≤ 0xFFF →
      Served (.policySet m) s r 0 [] (fun t => t.pwr.policy = ⟨leAt r.text 0 1, leAt r.text 1 1, leAt r.text 2 2,
        leAt r.text 4 2, leAt r.text 6 2, leAt r.text 8 2, s.pwr.policy.opcap⟩))
    ∧ (∀ r, requestOf (.shutdown m) = some r → s.accepts r →
      (s.allIdle = true → ∃ t, exec (.shutdown m) s = .next t ∧ t.hifState = 3 ∧ t.pwr.main = false ∧ t.pwr.record ≠ none ∧ t.mem = [] ∧ t.threads = []
        ∧ leAt t.resp 8 2 = 0 ∧ ((s.rate ePwrOffReady.toNat).sent < 1000 → t.reports.getLast?.map (·.err) = some ePwrOffReady))
      ∧ (s.allIdle = false → Served (.shutdown m) s r 0 [] (fun t => t.pwr.shutting = true ∧ t.pwr.main = s.pwr.main ∧ t.mem = s.mem)))
    ∧ (∀ r, requestOf (.imageWrite m image) = some r → s.accepts r →
      (imageOk 0 ((s.image 0).seq + 1) true image = false → Served (.imageWrite m image) s r eCfgImageInvalid [] (Aside s))
      ∧ (imageOk 0 ((s.image 0).seq + 1) true image = true → Served (.imageWrite m image) s r 0 [] (fun t => (t.image 0).seq = (s.image 0).seq + 1
          ∧ (t.image 0).ver = BitVec.ofNat 32 (leAt image 16 4) ∧ (∀ k, k ≠ 0 → t.image k = s.image k))))
    ∧ (∀ r, requestOf (.calSet m image) = some r → s.accepts r →
      (imageOk 2 ((s.image 2).seq + 1) false image = false → Served (.calSet m image) s r eCfgImageInvalid [] (Aside s))
      ∧ (imageOk 2 ((s.image 2).seq + 1) false image = true → (image.length - 64) % 8 = 0 → Served (.calSet m image) s r 0 [] (fun t =>
          t.pwr.cal = (List.range ((image.length - 64) / 8)).map (fun k => (leAt image (64 + 8 * k) 4, signed 16 (leAt image (68 + 8 * k) 2))))))
    ∧ (∀ r, requestOf (.calRead m) = some r → s.accepts r → leAt r.text 0 4 / 2 ^ 24 < 6 → Served (.calRead m) s r 0
        (leBytes 4 (wrap 32 (Config.factoryCal (leAt r.text 0 4))) ++ leBytes 4 (wrap 32 (s.userCal (leAt r.text 0 4)))
          ++ leBytes 4 (wrap 32 (s.effCal (leAt r.text 0 4)))) (Aside s))
    ∧ (∀ r, requestOf (.takeover m) = some r → s.accepts r →
      (leAt r.text 0 1 = 0 → s.pwr.standbyMcp = true → Served (.takeover m) s r 0 [] (fun t => t.pwr.standbyMcp = false ∧ t.pwr.replaced = true
        ∧ t.rdB rHifStat 28 = (!s.rdB rHifStat 28)))
      ∧ (leAt r.text 0 1 = 0 → s.pwr.standbyMcp = false → Served (.takeover m) s r eBstBusy [] (Aside s))
      ∧ (∀ w < 2, leAt r.text 0 1 = w + 1 → tget (fun _ => true) s.pwr.wcStandby w = true → Served (.takeover m) s r 0 [] (fun t =>
          tget (fun _ => true) t.pwr.wcStandby w = false ∧ t.cmds = s.cmds)))

/-! ### Counters and traces -/

/-- R631, R632, R635, R638, R641, R645 to R647: captures of the counter window, tracker swaps, and the messages that set trackers, windows and
traces. A swap makes the LIVE bank LAST and an empty bank LIVE. -/
def Obligations.CountersAndTraces : Prop :=
  ∀ (s : State) (m : Msg),
    (∀ off, s.host.window = none → ∃ t, exec (.counterCapture 0 off) s = .next t ∧ t.resp = zeros 8
      ∧ t.host.log.map (·.code) = s.host.log.map (·.code) ++ [eHifRoleDenied] ∧ t.cnt = s.cnt)
    ∧ (∀ off words, s.host.window ≠ none → s.viewAt off = some (off, words) → ∃ t, exec (.counterCapture 0 off) s = .next t
      ∧ t.resp = leBytes 8 (words.getD 0 0).toNat ∧ (0, off, words) ∈ t.cnt.shadows ∧ t.cnt.total = s.cnt.total ∧ t.cnt.tracks = s.cnt.tracks)
    ∧ (∀ off base words old, s.host.window ≠ none → s.viewAt off = some (base, words) → off ≠ base →
      s.cnt.shadows.find? (fun (x : Nat × Nat × List W64) => x.1 = 0 && x.2.1 = base) = some old →
      exec (.counterCapture 0 off) s = .next (s.answer (leBytes 8 (old.2.2.getD ((off - base) / 8) 0).toNat)))
    ∧ (∀ x, (s.rdF (rCntTrk x) 31 30 = 1 ∨ s.rdF (rCntTrk x) 31 30 = 2) → ∃ t, exec (.swap x) s = .next t
      ∧ t.rdB (rCntTrk x) 28 = (!s.rdB (rCntTrk x) 28)
      ∧ (s.rdB (rCntTrk x) 28 = true → t.track x = { s.track x with x := { beat := s.now } })
      ∧ (s.rdB (rCntTrk x) 28 = false → t.track x = { s.track x with y := { beat := s.now } }))
    ∧ (∀ x, s.rdF (rCntTrk x) 31 30 = 0 → exec (.swap x) s = .next s)
    ∧ (∀ x, ∃ t, exec (.cntTrkRead x) s = .next t ∧ t.resp = leBytes 4 (s.rd (rCntTrk x)).toNat ∧ t.rdF (rCntTrk x) 27 20 = 0
      ∧ t.rdF (rCntTrk x) 31 28 = s.rdF (rCntTrk x) 31 28 ∧ t = { s with regs := t.regs, resp := t.resp })
    ∧ (∀ y, ∃ t, exec (.cntTrcRead y) s = .next t ∧ t.resp = leBytes 4 (bfSet (s.rd (rCntTrc y)) 15 0 (tget (fun _ => (0, 0)) s.cnt.traceLost y).1).toNat
      ∧ (tget (fun _ => (0, 0)) t.cnt.traceLost y).1 = 0 ∧ (∀ z, z ≠ y → tget (fun _ => (0, 0)) t.cnt.traceLost z = tget (fun _ => (0, 0)) s.cnt.traceLost z)
      ∧ t.rdF (rCntTrc y) 31 16 = s.rdF (rCntTrc y) 31 16
      ∧ t = { s with regs := t.regs, resp := t.resp, cnt := { s.cnt with traceLost := t.cnt.traceLost } })
    ∧ (∀ r, requestOf (.cntTrack m) = some r → s.accepts r →
      let b := r.text
      let x := 3 * leAt b 0 1 + leAt b 1 1
      leAt b 0 1 ≤ 7 → leAt b 1 1 ≤ 2 → leAt b 2 1 ≤ 2 → leAt b 4 4 = 0 → ownPart (s.chan m.ch) (leAt b 0 1) = true →
      (leAt b 3 1 = 0 → Served (.cntTrack m) s r 0 [] (fun t => t.rdF (rCntTrk x) 31 30 = leAt b 2 1 ∧ t.rd64 (rCntTrkf x) = leAt b 8 8
        ∧ Aside { s with regs := t.regs } t))
      ∧ (leAt b 3 1 = 1 → s.rdF (rCntTrk x) 31 30 = 1 → Served (.cntTrack m) s r 0 [] (fun t =>
          t.rdB (rCntTrk x) 28 = !s.rdB (rCntTrk x) 28)))
    ∧ (∀ r, requestOf (.cntWindow m) = some r → s.accepts r →
      let b := r.text
      let ms := s.entryMembers (leAt b 2 2)
      let n : W64 := if leAt b 8 8 = 0 then s.now + BitVec.ofNat 64 s.lead else BitVec.ofNat 64 (leAt b 8 8)
      let part := leAt b 1 1
      ((s.chan m.ch).role = .tenant → part = (s.chan m.ch).part) → leAt b 0 1 ≤ 15 → leAt b 2 2 ≤ 0xFFE → ms ≠ [] → 0 < leAt b 4 4 →
      (part = 0xFF ∨ (part ≤ 7 ∧ (s.part part).gtBase ≤ leAt b 2 2 ∧ leAt b 2 2 < (s.part part).gtBase + (s.part part).gtCount
        ∧ leAt b 16 8 % 8 = 0 ∧ s.partRange part (leAt b 16 8) 256 ≠ none)) →
      (s.now.toNat + s.lead ≤ n.toNat → Served (.cntWindow m) s r 0 (leBytes 8 n.toNat) (fun t =>
        (t.win (leAt b 0 1)).len = leAt b 4 4 ∧ (t.win (leAt b 0 1)).dest.toNat = leAt b 16 8
        ∧ ∃ x, t.beat.issued.getLast? = some x ∧ x.kind = 6 ∧ x.ident = BitVec.ofNat 32 (leAt b 0 1) ∧ x.beat = n))
      ∧ (n.toNat < s.now.toNat + s.lead → Served (.cntWindow m) s r eSyncLead (leBytes 8 n.toNat) (fun t => t.cnt = s.cnt)))
    ∧ (∀ r pa, requestOf (.traceCfg m) = some r → s.accepts r →
      let b := r.text
      let y := leAt b 0 1
      y ≤ 7 → 10 ≤ leAt b 1 1 → leAt b 1 1 ≤ 20 → leAt b 2 1 ≤ 31 → leAt b 3 1 ≤ 1 → leAt b 4 4 = 0 → ownPart (s.chan m.ch) y = true →
      leAt b 8 8 % 4096 = 0 → s.memx.armed = none → s.partRange y (leAt b 8 8) (32 * 2 ^ leAt b 1 1) = some pa → isDram pa = true →
      Served (.traceCfg m) s r 0 [] (fun t => t.rdB (rCntTrc y) 31 = decide (leAt b 3 1 = 1) ∧ t.rdF (rCntTrc y) 30 26 = leAt b 1 1
        ∧ t.rdF (rCntTrc y) 25 21 = leAt b 2 1 ∧ (leAt b 3 1 = 1 → ∀ a, pa ≤ a → a < pa + 32 * 2 ^ leAt b 1 1 → t.byte a = 0)
        ∧ (leAt b 3 1 = 0 → t.mem = s.mem)))
    ∧ (∀ r, requestOf (.traceRead m) = some r → s.accepts r →
      let n := 2 ^ max 10 (min 20 (s.rdF (rCntTrc 8) 30 26))
      let k := leAt r.text 0 4
      (k < n → Served (.traceRead m) s r 0 (leBytes 4 (min 31 (n - k)) ++ zeros 12
        ++ s.seen (s.rd64 (rCntTrcb 8) + 32 * k) (32 * min 31 (n - k))) (Aside s))
      ∧ (n ≤ k → Served (.traceRead m) s r eHifMsgInvalid [] (Aside s)))

/-! ### Bays, SMBus and registers -/

/-- R656, R661 to R665: the SMBus and the cartridge bays. (That cartridge 3 feeds the east half first when no half is fed is the model's choice,
notes/assumptions/42.md; TIN, code 0x04, is a free value, notes/assumptions/9.md.) -/
def Obligations.BaysAndSmbus : Prop :=
  ∀ (s : State) (m : Msg) (c : Nat), (c = 1 ∨ c = 2 ∨ c = 3) →
    (∀ code, s.smbus code = none → exec (.smbusRead code) s = .next (s.answer []))
    ∧ (∀ code w, exec (.smbusRefused code w) s = .next (s.answer []))
    ∧ (exec (.smbusRead 0x01) s = .next (s.answer (leBytes 2 (s.rdF rPwrMeas 31 16))))
    ∧ (exec (.smbusRead 0x04) s = .next (s.answer (leBytes 2 (bf s.pwrTemp 15 0))).bump)
    ∧ (∀ code b, s.smbus code = some b → code ≠ 0x04 → code ≠ 0x06 → exec (.smbusRead code) s = .next (s.answer b))
    ∧ (exec (.smbusRead 0x06) s = .next ({ s with pwr := { s.pwr with alert := 0 } }.answer (leBytes 1 s.pwr.alert.toNat)))
    ∧ (∃ t, exec (.leverOpen c) s = .next t ∧ (t.bay c).leverOpen = true ∧ (s.cartState c = 0 → t.cartState c = 2 ∧ (t.bay c).lamp = 3))
    ∧ (∃ t, exec (.cartridgeRemoval c) s = .next t ∧ t.cartState c = 3 ∧ (t.bay c).lamp = 4 ∧ (t.bay c).fitted = false)
    ∧ ((s.bay c).fitted = false → exec (.cartridgeInsert c) s = .next (s.setBay c { s.bay c with fitted := true, warming := true, leverOpen := false }))
    ∧ ((s.bay c).fitted = true → exec (.cartridgeInsert c) s = .next s)
    ∧ ((s.bay c).warming = false → ∀ good, exec (.cartridgeLocked c good) s = .next s)
    ∧ ((s.bay c).warming = true → ∃ t, exec (.cartridgeLocked c false) s = .next t ∧ t.cartState c = 2 ∧ (t.bay c).lamp = 3 ∧ (t.bay c).warming = false
      ∧ t.pwr.alert = s.pwr.alert ||| 4)
    ∧ ((s.bay c).warming = true → s.activeCart 0 ≠ none → s.activeCart 1 ≠ none → s.activeCart 0 ≠ some c → s.activeCart 1 ≠ some c →
      ∃ t, exec (.cartridgeLocked c true) s = .next t ∧ t.cartState c = 1 ∧ (t.bay c).lamp = 1 ∧ (t.bay c).warming = false)
    ∧ ((s.bay c).warming = true → c ≠ 3 → s.activeCart (c - 1) = none → ∃ t, exec (.cartridgeLocked c true) s = .next t ∧ t.cartState c = 0
      ∧ t.rdF (rOptCart c) 29 28 = c - 1 ∧ (t.bay c).lamp = 0 ∧ (t.bay c).warming = false)
    ∧ ((s.bay 3).warming = true → s.activeCart 0 = none → ∃ t, exec (.cartridgeLocked 3 true) s = .next t ∧ t.cartState 3 = 0
      ∧ t.rdF (rOptCart 3) 29 28 = 0)
    ∧ ((s.bay 3).warming = true → s.activeCart 0 ≠ none → s.activeCart 0 ≠ some 3 → s.activeCart 1 = none →
      ∃ t, exec (.cartridgeLocked 3 true) s = .next t ∧ t.cartState 3 = 0 ∧ t.rdF (rOptCart 3) 29 28 = 1)
    ∧ (∀ r, requestOf (.cartService m) = some r → s.accepts r → leAt r.text 0 1 = c →
      (s.cartState c ≠ 0 → (c = 3 ∨ s.activeCart (c - 1) ≠ some 3) → Served (.cartService m) s r 0 [0] (Aside (s.setBay c { s.bay c with lamp := 2 })))
      ∧ (s.cartState c = 0 → c ≠ 3 → s.cartState 3 = 1 → Served (.cartService m) s r 0 [0] (fun t => (4, c - 1) ∈ t.test.planned.map (·.2)))
      ∧ (s.cartState c = 0 → (c = 3 ∨ s.cartState 3 ≠ 1) → Served (.cartService m) s r 0 [1] (Aside s)))
    ∧ (∀ r, requestOf (.cartService m) = some r → s.accepts r → (leAt r.text 0 1 = 0 ∨ 3 < leAt r.text 0 1) → Served (.cartService m) s r 0 [1] (Aside s))

/-- R19, R23, R155, R301, R337, R340, R512, R519: register writes. A writer without the right changes nothing but a log, a page with no session
the module log; an injection register takes no write outside FACTORY and SERVICE; a permitted write sets the RW bits and
clears the W1C bits that it names. -/
def Obligations.RegisterWrites : Prop :=
  ∀ (s : State) (off : Nat) (v : W32),
    (∀ who, off % 4 ≠ 0 → exec (.registerWrite who off v) s = .next s)
    ∧ (∀ who, off % 4 = 0 → mayWrite who off = false → ∃ t, exec (.registerWrite who off v) s = .next t ∧ t = { s with host := t.host })
    ∧ (∀ c, off % 4 = 0 → mayWrite (.page c) off = false → (s.chan c).bind ≠ .bound →
        exec (.registerWrite (.page c) off v) s = .next (s.logSession none eHifRoleDenied off))
    ∧ (∀ who, off % 4 = 0 → mayWrite who off = true → injReg off = true → s.injectable = false → exec (.registerWrite who off v) s = .next s)
    ∧ (∀ who, (who = .mcp ∨ who = .wingCtl) → ∃ t, exec (.registerWrite who rMemScrub v) s = .next t
        ∧ t.rd rMemScrub = (s.rd rMemScrub &&& 0x7F0000FF#32) ||| (v &&& 0x80FFFF00#32) ∧ t = { s with regs := t.regs }
        ∧ ∀ o, o ≠ rMemScrub → t.rd o = s.rd o)
    ∧ (∃ t, exec (.registerWrite .mcp rPwrErr v) s = .next t ∧ t.rd rPwrErr = s.rd rPwrErr &&& ~~~(v &&& 0x1F#32) ∧ t = { s with regs := t.regs })
    ∧ (∀ n < 64, ∃ t, exec (.registerWrite .host (0x100 + 8 * n) v) s = .next t
        ∧ t.ring n = (if bitAt v 25 then { s.ring n with dbErr := false } else s.ring n) ∧ t.regs = s.regs)
    ∧ (∀ c < 32, ∃ t, exec (.registerWrite (.page c) (mbxReg c 4) v) s = .next t
        ∧ (t.chan c).done = ((s.chan c).done && !bitAt v 1) ∧ (t.chan c).overrun = ((s.chan c).overrun && !bitAt v 2) ∧ t.regs = s.regs)
    ∧ (exec (.registerWrite .host rBeatCtl v) s = .next (s.logSession none eHifRoleDenied rBeatCtl))

/-! ### Reset -/

/-- R18, R353, R394, R395, R452, R453, R542: the registers and states that the manual gives at reset.
Memory and registers at reset are in canonical form. (The form is the model's.) -/
def Obligations.ResetState : Prop :=
  (State.reset.rd rBeatCtl = 0x08040880 ∧ State.reset.rd rBeatStat = 0x1FF00000 ∧ State.reset.rd rFabCfg = 0x80320600
   ∧ State.reset.rd rPwrStat = 0x640 ∧ State.reset.rd rMemScrub = 0x80180100 ∧ State.reset.now = 0
   ∧ (∀ g < 383, State.reset.rdF (rMemGran g) 11 8 = 0xF) ∧ State.reset.rdF (rMemGran 383) 11 8 = 0xE
   ∧ (∀ p < 8, (State.reset.part p).st = .free) ∧ (∀ n < 64, (State.reset.ring n).st = .none) ∧ (∀ c < 36, (State.reset.chan c).bind = .unbound)
   ∧ (∀ i t, (State.reset.thr i t).st = .free) ∧ (∀ i j, State.reset.latch i j = 0) ∧ State.reset.pending = [])
  ∧ (State.reset.canonical)

/-! ### The whole module -/

/-- Every command answers a next state, whatever the state, and leaves the queue behind it as it is: the commands that wait are taken in the
order in which they came. (Derived: each rule of the manual that turns a command away leaves a state.) -/
def Obligations.EveryCommandRuns : Prop := ∀ (c : Instr) (s : State), ∃ t, exec c s = .next t ∧ t.pending = s.pending

/-- Every step keeps memory and the register file in canonical form: addresses strictly rising, and nothing listed that reads as it would
unlisted. -/
def Obligations.StepKeepsCanonical : Prop := ∀ s t : State, s.canonical → step s = .next t → t.canonical

/-! ### The words of a bundle -/

/-- R202, R203, R206, R209, R210, R213, R217, R234, R240, R241: the words of bundles. Every slot command has one word, at every value of its fields,
and that word decodes to it; every word that decodes is that of its command. The four slots stand where R202 puts them, and the bytes of a
bundle are little-endian. The opcodes that decode are those of the tables; an all-zero bundle is four NOPs. The slots of a bundle word are those
of its four commands, and one with no command raises BUNDLE_INVALID. -/
def Obligations.BundleWords : Prop :=
  (∀ (i : Instr) (x : Issue), i.issue = some x → ∃ v, i.slotWord = some v ∧ v.decode x = some i)
  ∧ (∀ (i : Instr) (x : Issue) (v : SlotWord), v.decode x = some i → i.slotWord = some v ∧ i.issue = some x)
  ∧ (∀ (s : BitVec 64) (v : BitVec 80) (m : BitVec 64) (c : BitVec 48), bundleSlots (bundleWord s v m c) = [.s s, .v v, .m m, .c c])
  ∧ (∀ w : BitVec 256, bundleOfBytes (bundleBytes w) = w ∧ (bundleBytes w).length = 32)
  ∧ (∀ (x : Issue) (w : BitVec 64), decodeS x w ≠ none ↔
      (w.extractLsb' 56 8).toNat ∈ ([0x00, 0x01, 0x02, 0x03, 0x04, 0x05, 0x06, 0x08, 0x09, 0x0A, 0x0B, 0x0C, 0x0D, 0x0E, 0x0F, 0x10, 0x11, 0x12, 0x13, 0x14,
        0x15, 0x16, 0x17, 0x18, 0x19, 0x1A, 0x1B, 0x1C, 0x1D, 0x20, 0x21, 0x22, 0x23, 0x24, 0x25, 0x26, 0x27, 0x28, 0x29, 0x2A, 0x2B, 0x2E, 0x2F] : List Nat))
  ∧ (∀ (x : Issue) (w : BitVec 80), decodeV x w ≠ none ↔
      (w.extractLsb' 70 10).toNat ∈ ([0x000, 0x001, 0x002, 0x003, 0x004, 0x005, 0x006, 0x007, 0x008, 0x009, 0x00A, 0x00B, 0x00C, 0x00D, 0x00E, 0x010, 0x011,
        0x012, 0x013, 0x014, 0x015, 0x016, 0x018, 0x019, 0x01A, 0x020, 0x021, 0x022, 0x023, 0x024, 0x025, 0x028, 0x029, 0x02A, 0x02B, 0x02C, 0x02D, 0x030,
        0x031, 0x032, 0x033, 0x038, 0x039, 0x03A, 0x040, 0x041, 0x042, 0x043, 0x044, 0x045, 0x046, 0x047] : List Nat))
  ∧ (∀ (x : Issue) (w : BitVec 64), decodeM x w ≠ none ↔ w = 0 ∨ (1 ≤ (w.extractLsb' 56 8).toNat ∧ (w.extractLsb' 56 8).toNat ≤ 4))
  ∧ (∀ (x : Issue) (w : BitVec 48), decodeC x w ≠ none ↔ w = 0 ∨ w = 0x440000000000 ∨
      (w.extractLsb' 41 7).toNat ∈ ([0x01, 0x02, 0x03, 0x04, 0x05, 0x06, 0x07, 0x08, 0x09, 0x0A, 0x0B, 0x0C, 0x0D, 0x10, 0x11, 0x12, 0x13, 0x14, 0x15, 0x16,
        0x17, 0x18, 0x19, 0x1A, 0x20, 0x21, 0x28, 0x29, 0x2A, 0x2B, 0x2C] : List Nat))
  ∧ (∀ c t : Nat, decodeBundle c t 0 = [some (.sNop ⟨c, t, true⟩ ⟨0, 0, 0, 0, 0⟩),
      some (.vNop ⟨c, t, true⟩ ⟨0, false, false, 0, false, 0, 0, 0, 0, 0, 0, 0⟩), some (.mNop ⟨c, t, true⟩), some (.cNop ⟨c, t, false⟩)])
  ∧ (∀ (w : BitVec 256) (s : State) (c t : Nat) (l : List Instr), decodeBundle c t w = l.map some → wordOuts w s c t = bundleOuts l s c t)
  ∧ (∀ (w : BitVec 256) (s : State) (c t : Nat) (v : SlotWord), v ∈ bundleSlots w → v.decode ⟨c, t, decide (v.kind < 3)⟩ = none →
      (v.kind, cBundle) ∈ bundleCauses (wordOuts w s c t))
end

