-- ==== Sys2Proof/Laws/Exec.lean ====
section
/-! SUPPORT. The dispatcher, one equation per command: `exec` of a constructor is its meaning. -/

namespace Sys2Proof.Machine

set_option linter.unusedVariables false

@[simp] theorem exec_sNop (x : Issue) (f : SF) (s : State) : exec (.sNop x f) s = execSNop x f s := rfl
@[simp] theorem exec_sAdd (x : Issue) (f : SF) (s : State) : exec (.sAdd x f) s = execSAdd x f s := rfl
@[simp] theorem exec_sSub (x : Issue) (f : SF) (s : State) : exec (.sSub x f) s = execSSub x f s := rfl
@[simp] theorem exec_sAddi (x : Issue) (f : SF) (s : State) : exec (.sAddi x f) s = execSAddi x f s := rfl
@[simp] theorem exec_sMul (x : Issue) (f : SF) (s : State) : exec (.sMul x f) s = execSMul x f s := rfl
@[simp] theorem exec_sMulhu (x : Issue) (f : SF) (s : State) : exec (.sMulhu x f) s = execSMulhu x f s := rfl
@[simp] theorem exec_sMulhs (x : Issue) (f : SF) (s : State) : exec (.sMulhs x f) s = execSMulhs x f s := rfl
@[simp] theorem exec_sAnd (x : Issue) (f : SF) (s : State) : exec (.sAnd x f) s = execSAnd x f s := rfl
@[simp] theorem exec_sOr (x : Issue) (f : SF) (s : State) : exec (.sOr x f) s = execSOr x f s := rfl
@[simp] theorem exec_sXor (x : Issue) (f : SF) (s : State) : exec (.sXor x f) s = execSXor x f s := rfl
@[simp] theorem exec_sAndi (x : Issue) (f : SF) (s : State) : exec (.sAndi x f) s = execSAndi x f s := rfl
@[simp] theorem exec_sShl (x : Issue) (f : SF) (s : State) : exec (.sShl x f) s = execSShl x f s := rfl
@[simp] theorem exec_sShr (x : Issue) (f : SF) (s : State) : exec (.sShr x f) s = execSShr x f s := rfl
@[simp] theorem exec_sSar (x : Issue) (f : SF) (s : State) : exec (.sSar x f) s = execSSar x f s := rfl
@[simp] theorem exec_sShli (x : Issue) (f : SF) (s : State) : exec (.sShli x f) s = execSShli x f s := rfl
@[simp] theorem exec_sShri (x : Issue) (f : SF) (s : State) : exec (.sShri x f) s = execSShri x f s := rfl
@[simp] theorem exec_sSari (x : Issue) (f : SF) (s : State) : exec (.sSari x f) s = execSSari x f s := rfl
@[simp] theorem exec_sSlt (x : Issue) (f : SF) (s : State) : exec (.sSlt x f) s = execSSlt x f s := rfl
@[simp] theorem exec_sSltu (x : Issue) (f : SF) (s : State) : exec (.sSltu x f) s = execSSltu x f s := rfl
@[simp] theorem exec_sSeq (x : Issue) (f : SF) (s : State) : exec (.sSeq x f) s = execSSeq x f s := rfl
@[simp] theorem exec_sMin (x : Issue) (f : SF) (s : State) : exec (.sMin x f) s = execSMin x f s := rfl
@[simp] theorem exec_sMax (x : Issue) (f : SF) (s : State) : exec (.sMax x f) s = execSMax x f s := rfl
@[simp] theorem exec_sMinu (x : Issue) (f : SF) (s : State) : exec (.sMinu x f) s = execSMinu x f s := rfl
@[simp] theorem exec_sMaxu (x : Issue) (f : SF) (s : State) : exec (.sMaxu x f) s = execSMaxu x f s := rfl
@[simp] theorem exec_sLi (x : Issue) (f : SF) (s : State) : exec (.sLi x f) s = execSLi x f s := rfl
@[simp] theorem exec_sLui (x : Issue) (f : SF) (s : State) : exec (.sLui x f) s = execSLui x f s := rfl
@[simp] theorem exec_sPopc (x : Issue) (f : SF) (s : State) : exec (.sPopc x f) s = execSPopc x f s := rfl
@[simp] theorem exec_sClz (x : Issue) (f : SF) (s : State) : exec (.sClz x f) s = execSClz x f s := rfl
@[simp] theorem exec_sBfx (x : Issue) (f : SF) (s : State) : exec (.sBfx x f) s = execSBfx x f s := rfl
@[simp] theorem exec_sB (x : Issue) (f : SF) (s : State) : exec (.sB x f) s = execSB x f s := rfl
@[simp] theorem exec_sBeq (x : Issue) (f : SF) (s : State) : exec (.sBeq x f) s = execSBeq x f s := rfl
@[simp] theorem exec_sBne (x : Issue) (f : SF) (s : State) : exec (.sBne x f) s = execSBne x f s := rfl
@[simp] theorem exec_sBlt (x : Issue) (f : SF) (s : State) : exec (.sBlt x f) s = execSBlt x f s := rfl
@[simp] theorem exec_sBge (x : Issue) (f : SF) (s : State) : exec (.sBge x f) s = execSBge x f s := rfl
@[simp] theorem exec_sBltu (x : Issue) (f : SF) (s : State) : exec (.sBltu x f) s = execSBltu x f s := rfl
@[simp] theorem exec_sBgeu (x : Issue) (f : SF) (s : State) : exec (.sBgeu x f) s = execSBgeu x f s := rfl
@[simp] theorem exec_sCall (x : Issue) (f : SF) (s : State) : exec (.sCall x f) s = execSCall x f s := rfl
@[simp] theorem exec_sJr (x : Issue) (f : SF) (s : State) : exec (.sJr x f) s = execSJr x f s := rfl
@[simp] theorem exec_sCrd (x : Issue) (f : SF) (s : State) : exec (.sCrd x f) s = execSCrd x f s := rfl
@[simp] theorem exec_sCwr (x : Issue) (f : SF) (s : State) : exec (.sCwr x f) s = execSCwr x f s := rfl
@[simp] theorem exec_sPcnt (x : Issue) (f : SF) (s : State) : exec (.sPcnt x f) s = execSPcnt x f s := rfl
@[simp] theorem exec_sBrk (x : Issue) (f : SF) (s : State) : exec (.sBrk x f) s = execSBrk x f s := rfl
@[simp] theorem exec_sEnd (x : Issue) (f : SF) (s : State) : exec (.sEnd x f) s = execSEnd x f s := rfl
@[simp] theorem exec_vNop (x : Issue) (f : VF) (s : State) : exec (.vNop x f) s = execVNop x f s := rfl
@[simp] theorem exec_vAdd (x : Issue) (f : VF) (s : State) : exec (.vAdd x f) s = execVAdd x f s := rfl
@[simp] theorem exec_vSub (x : Issue) (f : VF) (s : State) : exec (.vSub x f) s = execVSub x f s := rfl
@[simp] theorem exec_vMul (x : Issue) (f : VF) (s : State) : exec (.vMul x f) s = execVMul x f s := rfl
@[simp] theorem exec_vFma (x : Issue) (f : VF) (s : State) : exec (.vFma x f) s = execVFma x f s := rfl
@[simp] theorem exec_vFms (x : Issue) (f : VF) (s : State) : exec (.vFms x f) s = execVFms x f s := rfl
@[simp] theorem exec_vDiv (x : Issue) (f : VF) (s : State) : exec (.vDiv x f) s = execVDiv x f s := rfl
@[simp] theorem exec_vSqrt (x : Issue) (f : VF) (s : State) : exec (.vSqrt x f) s = execVSqrt x f s := rfl
@[simp] theorem exec_vMax (x : Issue) (f : VF) (s : State) : exec (.vMax x f) s = execVMax x f s := rfl
@[simp] theorem exec_vMin (x : Issue) (f : VF) (s : State) : exec (.vMin x f) s = execVMin x f s := rfl
@[simp] theorem exec_vAbs (x : Issue) (f : VF) (s : State) : exec (.vAbs x f) s = execVAbs x f s := rfl
@[simp] theorem exec_vNeg (x : Issue) (f : VF) (s : State) : exec (.vNeg x f) s = execVNeg x f s := rfl
@[simp] theorem exec_vAdds (x : Issue) (f : VF) (s : State) : exec (.vAdds x f) s = execVAdds x f s := rfl
@[simp] theorem exec_vSubs (x : Issue) (f : VF) (s : State) : exec (.vSubs x f) s = execVSubs x f s := rfl
@[simp] theorem exec_vMulh (x : Issue) (f : VF) (s : State) : exec (.vMulh x f) s = execVMulh x f s := rfl
@[simp] theorem exec_vAnd (x : Issue) (f : VF) (s : State) : exec (.vAnd x f) s = execVAnd x f s := rfl
@[simp] theorem exec_vOr (x : Issue) (f : VF) (s : State) : exec (.vOr x f) s = execVOr x f s := rfl
@[simp] theorem exec_vXor (x : Issue) (f : VF) (s : State) : exec (.vXor x f) s = execVXor x f s := rfl
@[simp] theorem exec_vNot (x : Issue) (f : VF) (s : State) : exec (.vNot x f) s = execVNot x f s := rfl
@[simp] theorem exec_vShl (x : Issue) (f : VF) (s : State) : exec (.vShl x f) s = execVShl x f s := rfl
@[simp] theorem exec_vShr (x : Issue) (f : VF) (s : State) : exec (.vShr x f) s = execVShr x f s := rfl
@[simp] theorem exec_vSar (x : Issue) (f : VF) (s : State) : exec (.vSar x f) s = execVSar x f s := rfl
@[simp] theorem exec_vLdexp (x : Issue) (f : VF) (s : State) : exec (.vLdexp x f) s = execVLdexp x f s := rfl
@[simp] theorem exec_vExp2 (x : Issue) (f : VF) (s : State) : exec (.vExp2 x f) s = execVExp2 x f s := rfl
@[simp] theorem exec_vLog2 (x : Issue) (f : VF) (s : State) : exec (.vLog2 x f) s = execVLog2 x f s := rfl
@[simp] theorem exec_vCmp (x : Issue) (f : VF) (s : State) : exec (.vCmp x f) s = execVCmp x f s := rfl
@[simp] theorem exec_vSel (x : Issue) (f : VF) (s : State) : exec (.vSel x f) s = execVSel x f s := rfl
@[simp] theorem exec_vPand (x : Issue) (f : VF) (s : State) : exec (.vPand x f) s = execVPand x f s := rfl
@[simp] theorem exec_vPor (x : Issue) (f : VF) (s : State) : exec (.vPor x f) s = execVPor x f s := rfl
@[simp] theorem exec_vPxor (x : Issue) (f : VF) (s : State) : exec (.vPxor x f) s = execVPxor x f s := rfl
@[simp] theorem exec_vPnot (x : Issue) (f : VF) (s : State) : exec (.vPnot x f) s = execVPnot x f s := rfl
@[simp] theorem exec_vBcast (x : Issue) (f : VF) (s : State) : exec (.vBcast x f) s = execVBcast x f s := rfl
@[simp] theorem exec_vIdx (x : Issue) (f : VF) (s : State) : exec (.vIdx x f) s = execVIdx x f s := rfl
@[simp] theorem exec_vGetl (x : Issue) (f : VF) (s : State) : exec (.vGetl x f) s = execVGetl x f s := rfl
@[simp] theorem exec_vSetl (x : Issue) (f : VF) (s : State) : exec (.vSetl x f) s = execVSetl x f s := rfl
@[simp] theorem exec_vPerm (x : Issue) (f : VF) (s : State) : exec (.vPerm x f) s = execVPerm x f s := rfl
@[simp] theorem exec_vMov (x : Issue) (f : VF) (s : State) : exec (.vMov x f) s = execVMov x f s := rfl
@[simp] theorem exec_vRsum (x : Issue) (f : VF) (s : State) : exec (.vRsum x f) s = execVRsum x f s := rfl
@[simp] theorem exec_vRssq (x : Issue) (f : VF) (s : State) : exec (.vRssq x f) s = execVRssq x f s := rfl
@[simp] theorem exec_vRmax (x : Issue) (f : VF) (s : State) : exec (.vRmax x f) s = execVRmax x f s := rfl
@[simp] theorem exec_vRmin (x : Issue) (f : VF) (s : State) : exec (.vRmin x f) s = execVRmin x f s := rfl
@[simp] theorem exec_vMomAdd (x : Issue) (f : VF) (s : State) : exec (.vMomAdd x f) s = execVMomAdd x f s := rfl
@[simp] theorem exec_vMomCmb (x : Issue) (f : VF) (s : State) : exec (.vMomCmb x f) s = execVMomCmb x f s := rfl
@[simp] theorem exec_vMomRed (x : Issue) (f : VF) (s : State) : exec (.vMomRed x f) s = execVMomRed x f s := rfl
@[simp] theorem exec_vCvt (x : Issue) (f : VF) (s : State) : exec (.vCvt x f) s = execVCvt x f s := rfl
@[simp] theorem exec_vQscl (x : Issue) (f : VF) (s : State) : exec (.vQscl x f) s = execVQscl x f s := rfl
@[simp] theorem exec_vCvtq (x : Issue) (f : VF) (s : State) : exec (.vCvtq x f) s = execVCvtq x f s := rfl
@[simp] theorem exec_vCvtf (x : Issue) (f : VF) (s : State) : exec (.vCvtf x f) s = execVCvtf x f s := rfl
@[simp] theorem exec_vPack4 (x : Issue) (f : VF) (s : State) : exec (.vPack4 x f) s = execVPack4 x f s := rfl
@[simp] theorem exec_vUnpk4 (x : Issue) (f : VF) (s : State) : exec (.vUnpk4 x f) s = execVUnpk4 x f s := rfl
@[simp] theorem exec_vPack6 (x : Issue) (f : VF) (s : State) : exec (.vPack6 x f) s = execVPack6 x f s := rfl
@[simp] theorem exec_vUnpk6 (x : Issue) (f : VF) (s : State) : exec (.vUnpk6 x f) s = execVUnpk6 x f s := rfl
@[simp] theorem exec_mNop (x : Issue) (s : State) : exec (.mNop x) s = execMNop x s := rfl
@[simp] theorem exec_mTile (x : Issue) (f : MTileF) (s : State) : exec (.mTile x f) s = execMTile x f s := rfl
@[simp] theorem exec_mTset (x : Issue) (f : MSetF) (s : State) : exec (.mTset x f) s = execMTset x f s := rfl
@[simp] theorem exec_mTcpy (x : Issue) (f : MCpyF) (s : State) : exec (.mTcpy x f) s = execMTcpy x f s := rfl
@[simp] theorem exec_mTadd (x : Issue) (f : MSetF) (s : State) : exec (.mTadd x f) s = execMTadd x f s := rfl
@[simp] theorem exec_cNop (x : Issue) (s : State) : exec (.cNop x) s = execCNop x s := rfl
@[simp] theorem exec_cLdb (x : Issue) (f : CA) (s : State) : exec (.cLdb x f) s = execCLdb x f s := rfl
@[simp] theorem exec_cLdh (x : Issue) (f : CA) (s : State) : exec (.cLdh x f) s = execCLdh x f s := rfl
@[simp] theorem exec_cLdw (x : Issue) (f : CA) (s : State) : exec (.cLdw x f) s = execCLdw x f s := rfl
@[simp] theorem exec_cLdd (x : Issue) (f : CA) (s : State) : exec (.cLdd x f) s = execCLdd x f s := rfl
@[simp] theorem exec_cLdbs (x : Issue) (f : CA) (s : State) : exec (.cLdbs x f) s = execCLdbs x f s := rfl
@[simp] theorem exec_cLdhs (x : Issue) (f : CA) (s : State) : exec (.cLdhs x f) s = execCLdhs x f s := rfl
@[simp] theorem exec_cLdws (x : Issue) (f : CA) (s : State) : exec (.cLdws x f) s = execCLdws x f s := rfl
@[simp] theorem exec_cStb (x : Issue) (f : CA) (s : State) : exec (.cStb x f) s = execCStb x f s := rfl
@[simp] theorem exec_cSth (x : Issue) (f : CA) (s : State) : exec (.cSth x f) s = execCSth x f s := rfl
@[simp] theorem exec_cStw (x : Issue) (f : CA) (s : State) : exec (.cStw x f) s = execCStw x f s := rfl
@[simp] theorem exec_cStd (x : Issue) (f : CA) (s : State) : exec (.cStd x f) s = execCStd x f s := rfl
@[simp] theorem exec_cGld (x : Issue) (f : CA) (s : State) : exec (.cGld x f) s = execCGld x f s := rfl
@[simp] theorem exec_cGst (x : Issue) (f : CA) (s : State) : exec (.cGst x f) s = execCGst x f s := rfl
@[simp] theorem exec_cVld (x : Issue) (f : CV) (s : State) : exec (.cVld x f) s = execCVld x f s := rfl
@[simp] theorem exec_cVst (x : Issue) (f : CV) (s : State) : exec (.cVst x f) s = execCVst x f s := rfl
@[simp] theorem exec_cVgth (x : Issue) (f : CV) (s : State) : exec (.cVgth x f) s = execCVgth x f s := rfl
@[simp] theorem exec_cVsct (x : Issue) (f : CV) (s : State) : exec (.cVsct x f) s = execCVsct x f s := rfl
@[simp] theorem exec_cPld (x : Issue) (f : CV) (s : State) : exec (.cPld x f) s = execCPld x f s := rfl
@[simp] theorem exec_cPst (x : Issue) (f : CV) (s : State) : exec (.cPst x f) s = execCPst x f s := rfl
@[simp] theorem exec_cTld (x : Issue) (f : CV) (s : State) : exec (.cTld x f) s = execCTld x f s := rfl
@[simp] theorem exec_cTst (x : Issue) (f : CV) (s : State) : exec (.cTst x f) s = execCTst x f s := rfl
@[simp] theorem exec_cFadd (x : Issue) (f : CX) (s : State) : exec (.cFadd x f) s = execCFadd x f s := rfl
@[simp] theorem exec_cSwap (x : Issue) (f : CX) (s : State) : exec (.cSwap x f) s = execCSwap x f s := rfl
@[simp] theorem exec_cCas (x : Issue) (f : CX) (s : State) : exec (.cCas x f) s = execCCas x f s := rfl
@[simp] theorem exec_cDma (x : Issue) (f : CD) (s : State) : exec (.cDma x f) s = execCDma x f s := rfl
@[simp] theorem exec_cLpost (x : Issue) (f : CD) (s : State) : exec (.cLpost x f) s = execCLpost x f s := rfl
@[simp] theorem exec_cFence (x : Issue) (s : State) : exec (.cFence x) s = execCFence x s := rfl
@[simp] theorem exec_cLset (x : Issue) (f : CL) (s : State) : exec (.cLset x f) s = execCLset x f s := rfl
@[simp] theorem exec_cLadd (x : Issue) (f : CL) (s : State) : exec (.cLadd x f) s = execCLadd x f s := rfl
@[simp] theorem exec_cLwait (x : Issue) (f : CL) (s : State) : exec (.cLwait x f) s = execCLwait x f s := rfl
@[simp] theorem exec_cLrd (x : Issue) (f : CL) (s : State) : exec (.cLrd x f) s = execCLrd x f s := rfl
@[simp] theorem exec_cLarr (x : Issue) (f : CL) (s : State) : exec (.cLarr x f) s = execCLarr x f s := rfl
@[simp] theorem exec_loadReturn (core : Nat) (thread : Nat) (n : Nat) (s : State) : exec (.loadReturn core thread n) s = execLoadReturn core thread n s := rfl
@[simp] theorem exec_wcException (core : Nat) (thread : Nat) (s : State) : exec (.wcException core thread) s = execWcException core thread s := rfl
@[simp] theorem exec_threadStart (core : Nat) (thread : Nat) (ring : Nat) (dcount : Nat) (s : State) : exec (.threadStart core thread ring dcount) s = execThreadStart core thread ring dcount s := rfl
@[simp] theorem exec_threadHold (core : Nat) (thread : Nat) (s : State) : exec (.threadHold core thread) s = execThreadHold core thread s := rfl
@[simp] theorem exec_threadRelease (core : Nat) (thread : Nat) (s : State) : exec (.threadRelease core thread) s = execThreadRelease core thread s := rfl
@[simp] theorem exec_coreGate (core : Nat) (s : State) : exec (.coreGate core) s = execCoreGate core s := rfl
@[simp] theorem exec_latchWaitTimeout (core : Nat) (thread : Nat) (s : State) : exec (.latchWaitTimeout core thread) s = execLatchWaitTimeout core thread s := rfl
@[simp] theorem exec_tileStart (array : Nat) (half : Nat) (s : State) : exec (.tileStart array half) s = execTileStart array half s := rfl
@[simp] theorem exec_runComplete (array : Nat) (half : Nat) (fault : Nat) (s : State) : exec (.runComplete array half fault) s = execRunComplete array half fault s := rfl
@[simp] theorem exec_tileEnd (array : Nat) (half : HalfEnd) (s : State) : exec (.tileEnd array half) s = execTileEnd array half s := rfl
@[simp] theorem exec_itemReissue (ring : Nat) (dcount : Nat) (item : Nat) (core : Nat) (thread : Nat) (s : State) : exec (.itemReissue ring dcount item core thread) s = execItemReissue ring dcount item core thread s := rfl
@[simp] theorem exec_arrayTest (array : Nat) (badRows : List Nat) (badCols : List Nat) (s : State) : exec (.arrayTest array badRows badCols) s = execArrayTest array badRows badCols s := rfl
@[simp] theorem exec_arrRemapWrite (array : Nat) (val : BitVec 32) (s : State) : exec (.arrRemapWrite array val) s = execArrRemapWrite array val s := rfl
@[simp] theorem exec_arrInjArm (array : Nat) (val : BitVec 32) (s : State) : exec (.arrInjArm array val) s = execArrInjArm array val s := rfl
@[simp] theorem exec_arrErrRead (array : Nat) (s : State) : exec (.arrErrRead array) s = execArrErrRead array s := rfl
@[simp] theorem exec_coreFence (core : Nat) (s : State) : exec (.coreFence core) s = execCoreFence core s := rfl
@[simp] theorem exec_faultTakeover (core : Nat) (cause : HwCause) (badLatches : List Nat) (s : State) : exec (.faultTakeover core cause badLatches) s = execFaultTakeover core cause badLatches s := rfl
@[simp] theorem exec_takeoverCommit (logical : Nat) (s : State) : exec (.takeoverCommit logical) s = execTakeoverCommit logical s := rfl
@[simp] theorem exec_coreDrain (core : Nat) (on : Bool) (s : State) : exec (.coreDrain core on) s = execCoreDrain core on s := rfl
@[simp] theorem exec_handoverFreeze (core : Nat) (s : State) : exec (.handoverFreeze core) s = execHandoverFreeze core s := rfl
@[simp] theorem exec_handoverCommit (core : Nat) (s : State) : exec (.handoverCommit core) s = execHandoverCommit core s := rfl
@[simp] theorem exec_coreHoldAll (core : Nat) (on : Bool) (s : State) : exec (.coreHoldAll core on) s = execCoreHoldAll core on s := rfl
@[simp] theorem exec_coreExc3Read (core : Nat) (s : State) : exec (.coreExc3Read core) s = execCoreExc3Read core s := rfl
@[simp] theorem exec_coreExc0Read (core : Nat) (s : State) : exec (.coreExc0Read core) s = execCoreExc0Read core s := rfl
@[simp] theorem exec_ledgerClear (core : Nat) (byMcp : Bool) (s : State) : exec (.ledgerClear core byMcp) s = execLedgerClear core byMcp s := rfl
@[simp] theorem exec_descriptorTake (ring : Nat) (hostBytes : List (BitVec 8)) (s : State) : exec (.descriptorTake ring hostBytes) s = execDescriptorTake ring hostBytes s := rfl
@[simp] theorem exec_commandWaitTimeout (ring : Nat) (dcount : Nat) (s : State) : exec (.commandWaitTimeout ring dcount) s = execCommandWaitTimeout ring dcount s := rfl
@[simp] theorem exec_nop (ring : Nat) (dcount : Nat) (s : State) : exec (.nop ring dcount) s = execNop ring dcount s := rfl
@[simp] theorem exec_matmul (ring : Nat) (dcount : Nat) (s : State) : exec (.matmul ring dcount) s = execMatmul ring dcount s := rfl
@[simp] theorem exec_quantize (ring : Nat) (dcount : Nat) (s : State) : exec (.quantize ring dcount) s = execQuantize ring dcount s := rfl
@[simp] theorem exec_convert (ring : Nat) (dcount : Nat) (s : State) : exec (.convert ring dcount) s = execConvert ring dcount s := rfl
@[simp] theorem exec_copy (ring : Nat) (dcount : Nat) (s : State) : exec (.copy ring dcount) s = execCopy ring dcount s := rfl
@[simp] theorem exec_fill (ring : Nat) (dcount : Nat) (s : State) : exec (.fill ring dcount) s = execFill ring dcount s := rfl
@[simp] theorem exec_reduceSum (ring : Nat) (dcount : Nat) (s : State) : exec (.reduceSum ring dcount) s = execReduceSum ring dcount s := rfl
@[simp] theorem exec_reduceSsq (ring : Nat) (dcount : Nat) (s : State) : exec (.reduceSsq ring dcount) s = execReduceSsq ring dcount s := rfl
@[simp] theorem exec_reduceMax (ring : Nat) (dcount : Nat) (s : State) : exec (.reduceMax ring dcount) s = execReduceMax ring dcount s := rfl
@[simp] theorem exec_reduceMin (ring : Nat) (dcount : Nat) (s : State) : exec (.reduceMin ring dcount) s = execReduceMin ring dcount s := rfl
@[simp] theorem exec_moments (ring : Nat) (dcount : Nat) (s : State) : exec (.moments ring dcount) s = execMoments ring dcount s := rfl
@[simp] theorem exec_sort (ring : Nat) (dcount : Nat) (s : State) : exec (.sort ring dcount) s = execSort ring dcount s := rfl
@[simp] theorem exec_gather (ring : Nat) (dcount : Nat) (s : State) : exec (.gather ring dcount) s = execGather ring dcount s := rfl
@[simp] theorem exec_scatterAdd (ring : Nat) (dcount : Nat) (s : State) : exec (.scatterAdd ring dcount) s = execScatterAdd ring dcount s := rfl
@[simp] theorem exec_kernel (ring : Nat) (dcount : Nat) (s : State) : exec (.kernel ring dcount) s = execKernel ring dcount s := rfl
@[simp] theorem exec_allReduce (ring : Nat) (dcount : Nat) (s : State) : exec (.allReduce ring dcount) s = execAllReduce ring dcount s := rfl
@[simp] theorem exec_reduceScatter (ring : Nat) (dcount : Nat) (s : State) : exec (.reduceScatter ring dcount) s = execReduceScatter ring dcount s := rfl
@[simp] theorem exec_allGather (ring : Nat) (dcount : Nat) (s : State) : exec (.allGather ring dcount) s = execAllGather ring dcount s := rfl
@[simp] theorem exec_broadcast (ring : Nat) (dcount : Nat) (s : State) : exec (.broadcast ring dcount) s = execBroadcast ring dcount s := rfl
@[simp] theorem exec_lrReduce (ring : Nat) (dcount : Nat) (s : State) : exec (.lrReduce ring dcount) s = execLrReduce ring dcount s := rfl
@[simp] theorem exec_kSplitCombine (ring : Nat) (dcount : Nat) (s : State) : exec (.kSplitCombine ring dcount) s = execKSplitCombine ring dcount s := rfl
@[simp] theorem exec_commandComplete (ring : Nat) (dcount : Nat) (s : State) : exec (.commandComplete ring dcount) s = execCommandComplete ring dcount s := rfl
@[simp] theorem exec_checkReexec (ring : Nat) (dcount : Nat) (item : Nat) (core : Nat) (sig : W64) (s : State) : exec (.checkReexec ring dcount item core sig) s = execCheckReexec ring dcount item core sig s := rfl
@[simp] theorem exec_thirdExecution (ring : Nat) (dcount : Nat) (item : Nat) (core : Nat) (sig : W64) (s : State) : exec (.thirdExecution ring dcount item core sig) s = execThirdExecution ring dcount item core sig s := rfl
@[simp] theorem exec_dmaStart (engine : Nat) (queue : Nat) (s : State) : exec (.dmaStart engine queue) s = execDmaStart engine queue s := rfl
@[simp] theorem exec_dmaComplete (engine : Nat) (queue : Nat) (s : State) : exec (.dmaComplete engine queue) s = execDmaComplete engine queue s := rfl
@[simp] theorem exec_bar2Read (off : Nat) (len : Nat) (s : State) : exec (.bar2Read off len) s = execBar2Read off len s := rfl
@[simp] theorem exec_bar2Write (off : Nat) (bytes : List (BitVec 8)) (s : State) : exec (.bar2Write off bytes) s = execBar2Write off bytes s := rfl
@[simp] theorem exec_scrubRead (addr : Nat) (s : State) : exec (.scrubRead addr) s = execScrubRead addr s := rfl
@[simp] theorem exec_bucketLeak (k : Nat) (s : State) : exec (.bucketLeak k) s = execBucketLeak k s := rfl
@[simp] theorem exec_rebuildEnd (stack : Nat) (s : State) : exec (.rebuildEnd stack) s = execRebuildEnd stack s := rfl
@[simp] theorem exec_spareEraseRebuild (stack : Nat) (chan : Nat) (s : State) : exec (.spareEraseRebuild stack chan) s = execSpareEraseRebuild stack chan s := rfl
@[simp] theorem exec_spareEraseOnly (stack : Nat) (chan : Nat) (s : State) : exec (.spareEraseOnly stack chan) s = execSpareEraseOnly stack chan s := rfl
@[simp] theorem exec_spareStartRebuild (stack : Nat) (chan : Nat) (s : State) : exec (.spareStartRebuild stack chan) s = execSpareStartRebuild stack chan s := rfl
@[simp] theorem exec_rowRemap (stack : Nat) (chan : Nat) (row : Nat) (s : State) : exec (.rowRemap stack chan row) s = execRowRemap stack chan row s := rfl
@[simp] theorem exec_granModeChange (g : Nat) (val : BitVec 32) (s : State) : exec (.granModeChange g val) s = execGranModeChange g val s := rfl
@[simp] theorem exec_refillEnd (g : Nat) (s : State) : exec (.refillEnd g) s = execRefillEnd g s := rfl
@[simp] theorem exec_eccInjArm (val : BitVec 32) (s : State) : exec (.eccInjArm val) s = execEccInjArm val s := rfl
@[simp] theorem exec_rawRead (val : BitVec 32) (s : State) : exec (.rawRead val) s = execRawRead val s := rfl
@[simp] theorem exec_rawWrite (val : BitVec 32) (s : State) : exec (.rawWrite val) s = execRawWrite val s := rfl
@[simp] theorem exec_memEpochDropRead (s : State) : exec (.memEpochDropRead) s = execMemEpochDropRead s := rfl
@[simp] theorem exec_eccBktRead (k : Nat) (s : State) : exec (.eccBktRead k) s = execEccBktRead k s := rfl
@[simp] theorem exec_snapshot (s : State) : exec (.snapshot) s = execSnapshot s := rfl
@[simp] theorem exec_stop (s : State) : exec (.stop) s = execStop s := rfl
@[simp] theorem exec_resume (s : State) : exec (.resume) s = execResume s := rfl
@[simp] theorem exec_profile (s : State) : exec (.profile) s = execProfile s := rfl
@[simp] theorem exec_period (s : State) : exec (.period) s = execPeriod s := rfl
@[simp] theorem exec_counterWindow (s : State) : exec (.counterWindow) s = execCounterWindow s := rfl
@[simp] theorem exec_testSlice (s : State) : exec (.testSlice) s = execTestSlice s := rfl
@[simp] theorem exec_spareSwap (s : State) : exec (.spareSwap) s = execSpareSwap s := rfl
@[simp] theorem exec_collDeadline (s : State) : exec (.collDeadline) s = execCollDeadline s := rfl
@[simp] theorem exec_snapshotComplete (part : Nat) (snapid : Nat) (s : State) : exec (.snapshotComplete part snapid) s = execSnapshotComplete part snapid s := rfl
@[simp] theorem exec_windowCloseCapture (slot : Nat) (s : State) : exec (.windowCloseCapture slot) s = execWindowCloseCapture slot s := rfl
@[simp] theorem exec_event (src : Option Nat) (s : State) : exec (.event src) s = execEvent src s := rfl
@[simp] theorem exec_marker (port : Nat) (depth : BitVec 3) (bstate : BitVec 3) (gen : BitVec 8) (beat : BitVec 64) (phase : BitVec 16) (fracPs : Int) (s : State) : exec (.marker port depth bstate gen beat phase fracPs) s = execMarker port depth bstate gen beat phase fracPs s := rfl
@[simp] theorem exec_markerSend (s : State) : exec (.markerSend) s = execMarkerSend s := rfl
@[simp] theorem exec_delayExchange (t1 : BitVec 48) (s : State) : exec (.delayExchange t1) s = execDelayExchange t1 s := rfl
@[simp] theorem exec_dreq (port : Nat) (id : BitVec 8) (t1 : BitVec 48) (t2 : BitVec 48) (t3 : BitVec 48) (s : State) : exec (.dreq port id t1 t2 t3) s = execDreq port id t1 t2 t3 s := rfl
@[simp] theorem exec_dresp (port : Nat) (id : BitVec 8) (t2 : BitVec 48) (t3 : BitVec 48) (t4 : BitVec 48) (s : State) : exec (.dresp port id t2 t3 t4) s = execDresp port id t2 t3 t4 s := rfl
@[simp] theorem exec_markerLoss (s : State) : exec (.markerLoss) s = execMarkerLoss s := rfl
@[simp] theorem exec_holdoverExpiry (s : State) : exec (.holdoverExpiry) s = execHoldoverExpiry s := rfl
@[simp] theorem exec_backupMasterTakeover (s : State) : exec (.backupMasterTakeover) s = execBackupMasterTakeover s := rfl
@[simp] theorem exec_beatPeriodWrite (val : BitVec 32) (s : State) : exec (.beatPeriodWrite val) s = execBeatPeriodWrite val s := rfl
@[simp] theorem exec_beatCountCapture (s : State) : exec (.beatCountCapture) s = execBeatCountCapture s := rfl
@[simp] theorem exec_beatErrRead (s : State) : exec (.beatErrRead) s = execBeatErrRead s := rfl
@[simp] theorem exec_latStatRead (s : State) : exec (.latStatRead) s = execLatStatRead s := rfl
@[simp] theorem exec_barrierArrival (src : Option Nat) (s : State) : exec (.barrierArrival src) s = execBarrierArrival src s := rfl
@[simp] theorem exec_barrierRelease (src : Option Nat) (s : State) : exec (.barrierRelease src) s = execBarrierRelease src s := rfl
@[simp] theorem exec_barrierRefusal (src : Option Nat) (s : State) : exec (.barrierRefusal src) s = execBarrierRefusal src s := rfl
@[simp] theorem exec_groupReset (src : Option Nat) (s : State) : exec (.groupReset src) s = execGroupReset src s := rfl
@[simp] theorem exec_resetAcknowledgement (src : Option Nat) (s : State) : exec (.resetAcknowledgement src) s = execResetAcknowledgement src s := rfl
@[simp] theorem exec_eventReq (m : Msg) (s : State) : exec (.eventReq m) s = execEventReq m s := rfl
@[simp] theorem exec_barrierReset (m : Msg) (s : State) : exec (.barrierReset m) s = execBarrierReset m s := rfl
@[simp] theorem exec_snapshotRead (m : Msg) (s : State) : exec (.snapshotRead m) s = execSnapshotRead m s := rfl
@[simp] theorem exec_frameReceive (port : Nat) (f : Frame) (ok : Bool) (s : State) : exec (.frameReceive port f ok) s = execFrameReceive port f ok s := rfl
@[simp] theorem exec_frameSend (port : Nat) (s : State) : exec (.frameSend port) s = execFrameSend port s := rfl
@[simp] theorem exec_write (src : Option Nat) (s : State) : exec (.write src) s = execWrite src s := rfl
@[simp] theorem exec_latchAdd (src : Option Nat) (s : State) : exec (.latchAdd src) s = execLatchAdd src s := rfl
@[simp] theorem exec_status (src : Option Nat) (s : State) : exec (.status src) s = execStatus src s := rfl
@[simp] theorem exec_mgmt (src : Option Nat) (s : State) : exec (.mgmt src) s = execMgmt src s := rfl
@[simp] theorem exec_ackTimeout (port : Nat) (s : State) : exec (.ackTimeout port) s = execAckTimeout port s := rfl
@[simp] theorem exec_laneLockLoss (port : Nat) (s : State) : exec (.laneLockLoss port) s = execLaneLockLoss port s := rfl
@[simp] theorem exec_relockExpiry (port : Nat) (s : State) : exec (.relockExpiry port) s = execRelockExpiry port s := rfl
@[simp] theorem exec_retrainTimeout (port : Nat) (s : State) : exec (.retrainTimeout port) s = execRetrainTimeout port s := rfl
@[simp] theorem exec_linkTrain (port : Nat) (s : State) : exec (.linkTrain port) s = execLinkTrain port s := rfl
@[simp] theorem exec_trainingComplete (port : Nat) (peer : BitVec 14) (role : BitVec 2) (dim : BitVec 2) (idle : BitVec 3) (pport : BitVec 8) (s : State) : exec (.trainingComplete port peer role dim idle pport) s = execTrainingComplete port peer role dim idle pport s := rfl
@[simp] theorem exec_wavelengthTakeover (port : Nat) (lane : Nat) (s : State) : exec (.wavelengthTakeover port lane) s = execWavelengthTakeover port lane s := rfl
@[simp] theorem exec_portTakeover (port : Nat) (s : State) : exec (.portTakeover port) s = execPortTakeover port s := rfl
@[simp] theorem exec_cartridgeFault (c : Nat) (s : State) : exec (.cartridgeFault c) s = execCartridgeFault c s := rfl
@[simp] theorem exec_laserFail (c : Nat) (k : Nat) (s : State) : exec (.laserFail c k) s = execLaserFail c k s := rfl
@[simp] theorem exec_marginScan (port : Nat) (margins : List (BitVec 8)) (bias : List (BitVec 8)) (s : State) : exec (.marginScan port margins bias) s = execMarginScan port margins bias s := rfl
@[simp] theorem exec_packetAged (port : Nat) (n : Nat) (s : State) : exec (.packetAged port n) s = execPacketAged port n s := rfl
@[simp] theorem exec_violLeak (port : Nat) (s : State) : exec (.violLeak port) s = execViolLeak port s := rfl
@[simp] theorem exec_unq (port : Nat) (s : State) : exec (.unq port) s = execUnq port s := rfl
@[simp] theorem exec_retrain (port : Nat) (s : State) : exec (.retrain port) s = execRetrain port s := rfl
@[simp] theorem exec_fabPortFail (port : Nat) (s : State) : exec (.fabPortFail port) s = execFabPortFail port s := rfl
@[simp] theorem exec_detourWrite (x : Nat) (val : BitVec 32) (down2Age : Bool) (s : State) : exec (.detourWrite x val down2Age) s = execDetourWrite x val down2Age s := rfl
@[simp] theorem exec_optCartSwap (c : Nat) (s : State) : exec (.optCartSwap c) s = execOptCartSwap c s := rfl
@[simp] theorem exec_fabPcntRead (port : Nat) (s : State) : exec (.fabPcntRead port) s = execFabPcntRead port s := rfl
@[simp] theorem exec_optWaveRead (port : Nat) (s : State) : exec (.optWaveRead port) s = execOptWaveRead port s := rfl
@[simp] theorem exec_fabricSet (m : Msg) (s : State) : exec (.fabricSet m) s = execFabricSet m s := rfl
@[simp] theorem exec_fabricQuery (m : Msg) (s : State) : exec (.fabricQuery m) s = execFabricQuery m s := rfl
@[simp] theorem exec_ownerRound1 (group : Nat) (opseq : Nat) (s : State) : exec (.ownerRound1 group opseq) s = execOwnerRound1 group opseq s := rfl
@[simp] theorem exec_round2 (group : Nat) (opseq : Nat) (s : State) : exec (.round2 group opseq) s = execRound2 group opseq s := rfl
@[simp] theorem exec_agree (group : Nat) (opseq : Nat) (s : State) : exec (.agree group opseq) s = execAgree group opseq s := rfl
@[simp] theorem exec_hierLevel (group : Nat) (opseq : Nat) (level : Nat) (s : State) : exec (.hierLevel group opseq level) s = execHierLevel group opseq level s := rfl
@[simp] theorem exec_collTimeout (group : Nat) (opseq : Nat) (s : State) : exec (.collTimeout group opseq) s = execCollTimeout group opseq s := rfl
@[simp] theorem exec_collGtWrite (s : State) : exec (.collGtWrite) s = execCollGtWrite s := rfl
@[simp] theorem exec_collGtCommit (s : State) : exec (.collGtCommit) s = execCollGtCommit s := rfl
@[simp] theorem exec_gtValidationEnd (s : State) : exec (.gtValidationEnd) s = execGtValidationEnd s := rfl
@[simp] theorem exec_collStatRead (s : State) : exec (.collStatRead) s = execCollStatRead s := rfl
@[simp] theorem exec_collDropRead (s : State) : exec (.collDropRead) s = execCollDropRead s := rfl
@[simp] theorem exec_groupWrite (m : Msg) (s : State) : exec (.groupWrite m) s = execGroupWrite m s := rfl
@[simp] theorem exec_groupCommit (m : Msg) (s : State) : exec (.groupCommit m) s = execGroupCommit m s := rfl
@[simp] theorem exec_hostReset (s : State) : exec (.hostReset) s = execHostReset s := rfl
@[simp] theorem exec_hifDbc (ring : Nat) (tail : BitVec 32) (s : State) : exec (.hifDbc ring tail) s = execHifDbc ring tail s := rfl
@[simp] theorem exec_hifDbh (ring : Nat) (chead : BitVec 32) (s : State) : exec (.hifDbh ring chead) s = execHifDbh ring chead s := rfl
@[simp] theorem exec_hifErrhd (head : BitVec 32) (s : State) : exec (.hifErrhd head) s = execHifErrhd head s := rfl
@[simp] theorem exec_hifBeatCapture (s : State) : exec (.hifBeatCapture) s = execHifBeatCapture s := rfl
@[simp] theorem exec_coalesceTimeout (ring : Nat) (s : State) : exec (.coalesceTimeout ring) s = execCoalesceTimeout ring s := rfl
@[simp] theorem exec_hello (m : Msg) (s : State) : exec (.hello m) s = execHello m s := rfl
@[simp] theorem exec_identity (m : Msg) (s : State) : exec (.identity m) s = execIdentity m s := rfl
@[simp] theorem exec_sessionOpen (m : Msg) (s : State) : exec (.sessionOpen m) s = execSessionOpen m s := rfl
@[simp] theorem exec_sessionProof (m : Msg) (late : Bool) (s : State) : exec (.sessionProof m late) s = execSessionProof m late s := rfl
@[simp] theorem exec_sessionClose (m : Msg) (s : State) : exec (.sessionClose m) s = execSessionClose m s := rfl
@[simp] theorem exec_keySet (m : Msg) (s : State) : exec (.keySet m) s = execKeySet m s := rfl
@[simp] theorem exec_errlogRead (m : Msg) (s : State) : exec (.errlogRead m) s = execErrlogRead m s := rfl
@[simp] theorem exec_partCreate (m : Msg) (s : State) : exec (.partCreate m) s = execPartCreate m s := rfl
@[simp] theorem exec_partDestroy (m : Msg) (s : State) : exec (.partDestroy m) s = execPartDestroy m s := rfl
@[simp] theorem exec_partQuery (m : Msg) (s : State) : exec (.partQuery m) s = execPartQuery m s := rfl
@[simp] theorem exec_preempt (m : Msg) (s : State) : exec (.preempt m) s = execPreempt m s := rfl
@[simp] theorem exec_preemptDone (part : Nat) (s : State) : exec (.preemptDone part) s = execPreemptDone part s := rfl
@[simp] theorem exec_bar2Map (m : Msg) (s : State) : exec (.bar2Map m) s = execBar2Map m s := rfl
@[simp] theorem exec_ringCreate (m : Msg) (s : State) : exec (.ringCreate m) s = execRingCreate m s := rfl
@[simp] theorem exec_ringDestroy (m : Msg) (s : State) : exec (.ringDestroy m) s = execRingDestroy m s := rfl
@[simp] theorem exec_ringRestart (m : Msg) (s : State) : exec (.ringRestart m) s = execRingRestart m s := rfl
@[simp] theorem exec_ringQuery (m : Msg) (s : State) : exec (.ringQuery m) s = execRingQuery m s := rfl
@[simp] theorem exec_windowOpen (m : Msg) (s : State) : exec (.windowOpen m) s = execWindowOpen m s := rfl
@[simp] theorem exec_windowClose (m : Msg) (s : State) : exec (.windowClose m) s = execWindowClose m s := rfl
@[simp] theorem exec_errRing (m : Msg) (s : State) : exec (.errRing m) s = execErrRing m s := rfl
@[simp] theorem exec_nonceExpiry (ch : Nat) (s : State) : exec (.nonceExpiry ch) s = execNonceExpiry ch s := rfl
@[simp] theorem exec_lockExpiry (ch : Nat) (s : State) : exec (.lockExpiry ch) s = execLockExpiry ch s := rfl
@[simp] theorem exec_rollingTestDue (wing : Nat) (core : Nat) (s : State) : exec (.rollingTestDue wing core) s = execRollingTestDue wing core s := rfl
@[simp] theorem exec_testWithdraw (wing : Nat) (s : State) : exec (.testWithdraw wing) s = execTestWithdraw wing s := rfl
@[simp] theorem exec_coreTestResult (core : Nat) (pass : Bool) (durationMs : Nat) (s : State) : exec (.coreTestResult core pass durationMs) s = execCoreTestResult core pass durationMs s := rfl
@[simp] theorem exec_hallwayLaneSpare (dir : Nat) (lane : Nat) (s : State) : exec (.hallwayLaneSpare dir lane) s = execHallwayLaneSpare dir lane s := rfl
@[simp] theorem exec_nativeReportSend (s : State) : exec (.nativeReportSend) s = execNativeReportSend s := rfl
@[simp] theorem exec_bstCheckRead (s : State) : exec (.bstCheckRead) s = execBstCheckRead s := rfl
@[simp] theorem exec_lcSet (m : Msg) (s : State) : exec (.lcSet m) s = execLcSet m s := rfl
@[simp] theorem exec_patternLoad (m : Msg) (image : List (BitVec 8)) (s : State) : exec (.patternLoad m image) s = execPatternLoad m image s := rfl
@[simp] theorem exec_testRun (m : Msg) (pass : Bool) (s : State) : exec (.testRun m pass) s = execTestRun m pass s := rfl
@[simp] theorem exec_ledgerRead (m : Msg) (s : State) : exec (.ledgerRead m) s = execLedgerRead m s := rfl
@[simp] theorem exec_reportResend (m : Msg) (s : State) : exec (.reportResend m) s = execReportResend m s := rfl
@[simp] theorem exec_bladeUndervoltage (mv : Nat) (s : State) : exec (.bladeUndervoltage mv) s = execBladeUndervoltage mv s := rfl
@[simp] theorem exec_bladeOvervoltage (mv : Nat) (s : State) : exec (.bladeOvervoltage mv) s = execBladeOvervoltage mv s := rfl
@[simp] theorem exec_pwrOvWarn (mv : Nat) (s : State) : exec (.pwrOvWarn mv) s = execPwrOvWarn mv s := rfl
@[simp] theorem exec_pwrUvLimit (mv : Nat) (s : State) : exec (.pwrUvLimit mv) s = execPwrUvLimit mv s := rfl
@[simp] theorem exec_standbyLoss (mv : Nat) (s : State) : exec (.standbyLoss mv) s = execStandbyLoss mv s := rfl
@[simp] theorem exec_voltageRecovery (mv : Nat) (s : State) : exec (.voltageRecovery mv) s = execVoltageRecovery mv s := rfl
@[simp] theorem exec_bladeEnNHigh (s : State) : exec (.bladeEnNHigh) s = execBladeEnNHigh s := rfl
@[simp] theorem exec_governorTick (powerW : Nat) (avgW : Nat) (mv : Nat) (below97ms : Bool) (s : State) : exec (.governorTick powerW avgW mv below97ms) s = execGovernorTick powerW avgW mv below97ms s := rfl
@[simp] theorem exec_pwrThermWarn (tj8 : Int) (s : State) : exec (.pwrThermWarn tj8) s = execPwrThermWarn tj8 s := rfl
@[simp] theorem exec_thermalThrottle (tj8 : Int) (s : State) : exec (.thermalThrottle tj8) s = execThermalThrottle tj8 s := rfl
@[simp] theorem exec_pwrThermStop (tj8 : Int) (s : State) : exec (.pwrThermStop tj8) s = execPwrThermStop tj8 s := rfl
@[simp] theorem exec_thermalTrip (s : State) : exec (.thermalTrip) s = execThermalTrip s := rfl
@[simp] theorem exec_sitePowerN (asserted : Bool) (s : State) : exec (.sitePowerN asserted) s = execSitePowerN asserted s := rfl
@[simp] theorem exec_sitePowerReport (s : State) : exec (.sitePowerReport) s = execSitePowerReport s := rfl
@[simp] theorem exec_profileDecision (src : Nat) (asserted : Bool) (s : State) : exec (.profileDecision src asserted) s = execProfileDecision src asserted s := rfl
@[simp] theorem exec_boot (mv : Nat) (s : State) : exec (.boot mv) s = execBoot mv s := rfl
@[simp] theorem exec_mcpBBootTakeover (s : State) : exec (.mcpBBootTakeover) s = execMcpBBootTakeover s := rfl
@[simp] theorem exec_mcpHeartbeatMiss (s : State) : exec (.mcpHeartbeatMiss) s = execMcpHeartbeatMiss s := rfl
@[simp] theorem exec_wcStandbyTakeover (wing : Nat) (s : State) : exec (.wcStandbyTakeover wing) s = execWcStandbyTakeover wing s := rfl
@[simp] theorem exec_flashCopyWrite (kind : Nat) (s : State) : exec (.flashCopyWrite kind) s = execFlashCopyWrite kind s := rfl
@[simp] theorem exec_pwrErrRead (s : State) : exec (.pwrErrRead) s = execPwrErrRead s := rfl
@[simp] theorem exec_profileReq (m : Msg) (s : State) : exec (.profileReq m) s = execProfileReq m s := rfl
@[simp] theorem exec_policySet (m : Msg) (s : State) : exec (.policySet m) s = execPolicySet m s := rfl
@[simp] theorem exec_shutdown (m : Msg) (s : State) : exec (.shutdown m) s = execShutdown m s := rfl
@[simp] theorem exec_imageWrite (m : Msg) (image : List (BitVec 8)) (s : State) : exec (.imageWrite m image) s = execImageWrite m image s := rfl
@[simp] theorem exec_calSet (m : Msg) (image : List (BitVec 8)) (s : State) : exec (.calSet m image) s = execCalSet m image s := rfl
@[simp] theorem exec_calRead (m : Msg) (s : State) : exec (.calRead m) s = execCalRead m s := rfl
@[simp] theorem exec_takeover (m : Msg) (s : State) : exec (.takeover m) s = execTakeover m s := rfl
@[simp] theorem exec_counterCapture (path : Nat) (off : Nat) (s : State) : exec (.counterCapture path off) s = execCounterCapture path off s := rfl
@[simp] theorem exec_swap (x : Nat) (s : State) : exec (.swap x) s = execSwap x s := rfl
@[simp] theorem exec_cntTrkRead (x : Nat) (s : State) : exec (.cntTrkRead x) s = execCntTrkRead x s := rfl
@[simp] theorem exec_cntTrcRead (y : Nat) (s : State) : exec (.cntTrcRead y) s = execCntTrcRead y s := rfl
@[simp] theorem exec_cntTrack (m : Msg) (s : State) : exec (.cntTrack m) s = execCntTrack m s := rfl
@[simp] theorem exec_cntWindow (m : Msg) (s : State) : exec (.cntWindow m) s = execCntWindow m s := rfl
@[simp] theorem exec_traceCfg (m : Msg) (s : State) : exec (.traceCfg m) s = execTraceCfg m s := rfl
@[simp] theorem exec_traceRead (m : Msg) (s : State) : exec (.traceRead m) s = execTraceRead m s := rfl
@[simp] theorem exec_smbusRead (code : Nat) (s : State) : exec (.smbusRead code) s = execSmbusRead code s := rfl
@[simp] theorem exec_smbusRefused (code : Nat) (write : Bool) (s : State) : exec (.smbusRefused code write) s = execSmbusRefused code write s := rfl
@[simp] theorem exec_cartService (m : Msg) (s : State) : exec (.cartService m) s = execCartService m s := rfl
@[simp] theorem exec_leverOpen (c : Nat) (s : State) : exec (.leverOpen c) s = execLeverOpen c s := rfl
@[simp] theorem exec_cartridgeInsert (c : Nat) (s : State) : exec (.cartridgeInsert c) s = execCartridgeInsert c s := rfl
@[simp] theorem exec_cartridgeLocked (c : Nat) (good : Bool) (s : State) : exec (.cartridgeLocked c good) s = execCartridgeLocked c good s := rfl
@[simp] theorem exec_registerWrite (who : Agent) (off : Nat) (val : BitVec 32) (s : State) : exec (.registerWrite who off val) s = execRegisterWrite who off val s := rfl
@[simp] theorem exec_lockRegained (port : Nat) (s : State) : exec (.lockRegained port) s = execLockRegained port s := rfl
@[simp] theorem exec_lightStop (port : Nat) (s : State) : exec (.lightStop port) s = execLightStop port s := rfl
@[simp] theorem exec_cartridgeRemoval (c : Nat) (s : State) : exec (.cartridgeRemoval c) s = execCartridgeRemoval c s := rfl
@[simp] theorem exec_configurationRequest (off : Nat) (s : State) : exec (.configurationRequest off) s = execConfigurationRequest off s := rfl
@[simp] theorem exec_redundancyRowRemap (larder : Bool) (inst : Nat) (bank : Nat) (row : Nat) (s : State) : exec (.redundancyRowRemap larder inst bank row) s = execRedundancyRowRemap larder inst bank row s := rfl
@[simp] theorem exec_drainSExpiry (s : State) : exec (.drainSExpiry) s = execDrainSExpiry s := rfl
@[simp] theorem exec_lockstepMiscompare (s : State) : exec (.lockstepMiscompare) s = execLockstepMiscompare s := rfl
@[simp] theorem exec_wcPrimaryMiscompare (wing : Nat) (s : State) : exec (.wcPrimaryMiscompare wing) s = execWcPrimaryMiscompare wing s := rfl
@[simp] theorem exec_mcpATestResult (pass : Bool) (s : State) : exec (.mcpATestResult pass) s = execMcpATestResult pass s := rfl

end Sys2Proof.Machine
end

