-- ==== Sys2Proof/Laws/State.lean ====
section
/-! SUPPORT. One lemma per field and update of the state: an update leaves every other field as it was. -/

namespace Sys2Proof.Machine

variable (s : State)

@[simp] theorem State.wr_pending (o : Nat) (v : W32) : (s.wr o v).pending = s.pending := rfl
@[simp] theorem State.wr_freeCtr (o : Nat) (v : W32) : (s.wr o v).freeCtr = s.freeCtr := rfl
@[simp] theorem State.wr_resp (o : Nat) (v : W32) : (s.wr o v).resp = s.resp := rfl
@[simp] theorem State.wr_mem (o : Nat) (v : W32) : (s.wr o v).mem = s.mem := rfl
@[simp] theorem State.wr_ecc (o : Nat) (v : W32) : (s.wr o v).ecc = s.ecc := rfl
@[simp] theorem State.wr_threads (o : Nat) (v : W32) : (s.wr o v).threads = s.threads := rfl
@[simp] theorem State.wr_latches (o : Nat) (v : W32) : (s.wr o v).latches = s.latches := rfl
@[simp] theorem State.wr_cores (o : Nat) (v : W32) : (s.wr o v).cores = s.cores := rfl
@[simp] theorem State.wr_spareMap (o : Nat) (v : W32) : (s.wr o v).spareMap = s.spareMap := rfl
@[simp] theorem State.wr_flashMap (o : Nat) (v : W32) : (s.wr o v).flashMap = s.flashMap := rfl
@[simp] theorem State.wr_retiredMap (o : Nat) (v : W32) : (s.wr o v).retiredMap = s.retiredMap := rfl
@[simp] theorem State.wr_epochs (o : Nat) (v : W32) : (s.wr o v).epochs = s.epochs := rfl
@[simp] theorem State.wr_handovers (o : Nat) (v : W32) : (s.wr o v).handovers = s.handovers := rfl
@[simp] theorem State.wr_heldAcc (o : Nat) (v : W32) : (s.wr o v).heldAcc = s.heldAcc := rfl
@[simp] theorem State.wr_releases (o : Nat) (v : W32) : (s.wr o v).releases = s.releases := rfl
@[simp] theorem State.wr_resetAcks (o : Nat) (v : W32) : (s.wr o v).resetAcks = s.resetAcks := rfl
@[simp] theorem State.wr_arrays (o : Nat) (v : W32) : (s.wr o v).arrays = s.arrays := rfl
@[simp] theorem State.wr_dma (o : Nat) (v : W32) : (s.wr o v).dma = s.dma := rfl
@[simp] theorem State.wr_rings (o : Nat) (v : W32) : (s.wr o v).rings = s.rings := rfl
@[simp] theorem State.wr_cmds (o : Nat) (v : W32) : (s.wr o v).cmds = s.cmds := rfl
@[simp] theorem State.wr_parts (o : Nat) (v : W32) : (s.wr o v).parts = s.parts := rfl
@[simp] theorem State.wr_host (o : Nat) (v : W32) : (s.wr o v).host = s.host := rfl
@[simp] theorem State.wr_beat (o : Nat) (v : W32) : (s.wr o v).beat = s.beat := rfl
@[simp] theorem State.wr_fab (o : Nat) (v : W32) : (s.wr o v).fab = s.fab := rfl
@[simp] theorem State.wr_coll (o : Nat) (v : W32) : (s.wr o v).coll = s.coll := rfl
@[simp] theorem State.wr_memx (o : Nat) (v : W32) : (s.wr o v).memx = s.memx := rfl
@[simp] theorem State.wr_test (o : Nat) (v : W32) : (s.wr o v).test = s.test := rfl
@[simp] theorem State.wr_pwr (o : Nat) (v : W32) : (s.wr o v).pwr = s.pwr := rfl
@[simp] theorem State.wr_cnt (o : Nat) (v : W32) : (s.wr o v).cnt = s.cnt := rfl
@[simp] theorem State.wr_bays (o : Nat) (v : W32) : (s.wr o v).bays = s.bays := rfl
@[simp] theorem State.wr_reports (o : Nat) (v : W32) : (s.wr o v).reports = s.reports := rfl
@[simp] theorem State.wr_rseq (o : Nat) (v : W32) : (s.wr o v).rseq = s.rseq := rfl
@[simp] theorem State.wr_rsent (o : Nat) (v : W32) : (s.wr o v).rsent = s.rsent := rfl
@[simp] theorem State.wr_resend (o : Nat) (v : W32) : (s.wr o v).resend = s.resend := rfl
@[simp] theorem State.setThr_pending (c t : Nat) (x : Thread) : (s.setThr c t x).pending = s.pending := rfl
@[simp] theorem State.setThr_freeCtr (c t : Nat) (x : Thread) : (s.setThr c t x).freeCtr = s.freeCtr := rfl
@[simp] theorem State.setThr_resp (c t : Nat) (x : Thread) : (s.setThr c t x).resp = s.resp := rfl
@[simp] theorem State.setThr_regs (c t : Nat) (x : Thread) : (s.setThr c t x).regs = s.regs := rfl
@[simp] theorem State.setThr_mem (c t : Nat) (x : Thread) : (s.setThr c t x).mem = s.mem := rfl
@[simp] theorem State.setThr_ecc (c t : Nat) (x : Thread) : (s.setThr c t x).ecc = s.ecc := rfl
@[simp] theorem State.setThr_latches (c t : Nat) (x : Thread) : (s.setThr c t x).latches = s.latches := rfl
@[simp] theorem State.setThr_cores (c t : Nat) (x : Thread) : (s.setThr c t x).cores = s.cores := rfl
@[simp] theorem State.setThr_spareMap (c t : Nat) (x : Thread) : (s.setThr c t x).spareMap = s.spareMap := rfl
@[simp] theorem State.setThr_flashMap (c t : Nat) (x : Thread) : (s.setThr c t x).flashMap = s.flashMap := rfl
@[simp] theorem State.setThr_retiredMap (c t : Nat) (x : Thread) : (s.setThr c t x).retiredMap = s.retiredMap := rfl
@[simp] theorem State.setThr_epochs (c t : Nat) (x : Thread) : (s.setThr c t x).epochs = s.epochs := rfl
@[simp] theorem State.setThr_handovers (c t : Nat) (x : Thread) : (s.setThr c t x).handovers = s.handovers := rfl
@[simp] theorem State.setThr_heldAcc (c t : Nat) (x : Thread) : (s.setThr c t x).heldAcc = s.heldAcc := rfl
@[simp] theorem State.setThr_releases (c t : Nat) (x : Thread) : (s.setThr c t x).releases = s.releases := rfl
@[simp] theorem State.setThr_resetAcks (c t : Nat) (x : Thread) : (s.setThr c t x).resetAcks = s.resetAcks := rfl
@[simp] theorem State.setThr_arrays (c t : Nat) (x : Thread) : (s.setThr c t x).arrays = s.arrays := rfl
@[simp] theorem State.setThr_dma (c t : Nat) (x : Thread) : (s.setThr c t x).dma = s.dma := rfl
@[simp] theorem State.setThr_rings (c t : Nat) (x : Thread) : (s.setThr c t x).rings = s.rings := rfl
@[simp] theorem State.setThr_cmds (c t : Nat) (x : Thread) : (s.setThr c t x).cmds = s.cmds := rfl
@[simp] theorem State.setThr_parts (c t : Nat) (x : Thread) : (s.setThr c t x).parts = s.parts := rfl
@[simp] theorem State.setThr_host (c t : Nat) (x : Thread) : (s.setThr c t x).host = s.host := rfl
@[simp] theorem State.setThr_beat (c t : Nat) (x : Thread) : (s.setThr c t x).beat = s.beat := rfl
@[simp] theorem State.setThr_fab (c t : Nat) (x : Thread) : (s.setThr c t x).fab = s.fab := rfl
@[simp] theorem State.setThr_coll (c t : Nat) (x : Thread) : (s.setThr c t x).coll = s.coll := rfl
@[simp] theorem State.setThr_memx (c t : Nat) (x : Thread) : (s.setThr c t x).memx = s.memx := rfl
@[simp] theorem State.setThr_test (c t : Nat) (x : Thread) : (s.setThr c t x).test = s.test := rfl
@[simp] theorem State.setThr_pwr (c t : Nat) (x : Thread) : (s.setThr c t x).pwr = s.pwr := rfl
@[simp] theorem State.setThr_cnt (c t : Nat) (x : Thread) : (s.setThr c t x).cnt = s.cnt := rfl
@[simp] theorem State.setThr_bays (c t : Nat) (x : Thread) : (s.setThr c t x).bays = s.bays := rfl
@[simp] theorem State.setThr_reports (c t : Nat) (x : Thread) : (s.setThr c t x).reports = s.reports := rfl
@[simp] theorem State.setThr_rseq (c t : Nat) (x : Thread) : (s.setThr c t x).rseq = s.rseq := rfl
@[simp] theorem State.setThr_rsent (c t : Nat) (x : Thread) : (s.setThr c t x).rsent = s.rsent := rfl
@[simp] theorem State.setThr_resend (c t : Nat) (x : Thread) : (s.setThr c t x).resend = s.resend := rfl
@[simp] theorem State.setCore_pending (c : Nat) (x : Core) : (s.setCore c x).pending = s.pending := rfl
@[simp] theorem State.setCore_freeCtr (c : Nat) (x : Core) : (s.setCore c x).freeCtr = s.freeCtr := rfl
@[simp] theorem State.setCore_resp (c : Nat) (x : Core) : (s.setCore c x).resp = s.resp := rfl
@[simp] theorem State.setCore_regs (c : Nat) (x : Core) : (s.setCore c x).regs = s.regs := rfl
@[simp] theorem State.setCore_mem (c : Nat) (x : Core) : (s.setCore c x).mem = s.mem := rfl
@[simp] theorem State.setCore_ecc (c : Nat) (x : Core) : (s.setCore c x).ecc = s.ecc := rfl
@[simp] theorem State.setCore_threads (c : Nat) (x : Core) : (s.setCore c x).threads = s.threads := rfl
@[simp] theorem State.setCore_latches (c : Nat) (x : Core) : (s.setCore c x).latches = s.latches := rfl
@[simp] theorem State.setCore_spareMap (c : Nat) (x : Core) : (s.setCore c x).spareMap = s.spareMap := rfl
@[simp] theorem State.setCore_flashMap (c : Nat) (x : Core) : (s.setCore c x).flashMap = s.flashMap := rfl
@[simp] theorem State.setCore_retiredMap (c : Nat) (x : Core) : (s.setCore c x).retiredMap = s.retiredMap := rfl
@[simp] theorem State.setCore_epochs (c : Nat) (x : Core) : (s.setCore c x).epochs = s.epochs := rfl
@[simp] theorem State.setCore_handovers (c : Nat) (x : Core) : (s.setCore c x).handovers = s.handovers := rfl
@[simp] theorem State.setCore_heldAcc (c : Nat) (x : Core) : (s.setCore c x).heldAcc = s.heldAcc := rfl
@[simp] theorem State.setCore_releases (c : Nat) (x : Core) : (s.setCore c x).releases = s.releases := rfl
@[simp] theorem State.setCore_resetAcks (c : Nat) (x : Core) : (s.setCore c x).resetAcks = s.resetAcks := rfl
@[simp] theorem State.setCore_arrays (c : Nat) (x : Core) : (s.setCore c x).arrays = s.arrays := rfl
@[simp] theorem State.setCore_dma (c : Nat) (x : Core) : (s.setCore c x).dma = s.dma := rfl
@[simp] theorem State.setCore_rings (c : Nat) (x : Core) : (s.setCore c x).rings = s.rings := rfl
@[simp] theorem State.setCore_cmds (c : Nat) (x : Core) : (s.setCore c x).cmds = s.cmds := rfl
@[simp] theorem State.setCore_parts (c : Nat) (x : Core) : (s.setCore c x).parts = s.parts := rfl
@[simp] theorem State.setCore_host (c : Nat) (x : Core) : (s.setCore c x).host = s.host := rfl
@[simp] theorem State.setCore_beat (c : Nat) (x : Core) : (s.setCore c x).beat = s.beat := rfl
@[simp] theorem State.setCore_fab (c : Nat) (x : Core) : (s.setCore c x).fab = s.fab := rfl
@[simp] theorem State.setCore_coll (c : Nat) (x : Core) : (s.setCore c x).coll = s.coll := rfl
@[simp] theorem State.setCore_memx (c : Nat) (x : Core) : (s.setCore c x).memx = s.memx := rfl
@[simp] theorem State.setCore_test (c : Nat) (x : Core) : (s.setCore c x).test = s.test := rfl
@[simp] theorem State.setCore_pwr (c : Nat) (x : Core) : (s.setCore c x).pwr = s.pwr := rfl
@[simp] theorem State.setCore_cnt (c : Nat) (x : Core) : (s.setCore c x).cnt = s.cnt := rfl
@[simp] theorem State.setCore_bays (c : Nat) (x : Core) : (s.setCore c x).bays = s.bays := rfl
@[simp] theorem State.setCore_reports (c : Nat) (x : Core) : (s.setCore c x).reports = s.reports := rfl
@[simp] theorem State.setCore_rseq (c : Nat) (x : Core) : (s.setCore c x).rseq = s.rseq := rfl
@[simp] theorem State.setCore_rsent (c : Nat) (x : Core) : (s.setCore c x).rsent = s.rsent := rfl
@[simp] theorem State.setCore_resend (c : Nat) (x : Core) : (s.setCore c x).resend = s.resend := rfl
@[simp] theorem State.setArr_pending (c : Nat) (x : Arr) : (s.setArr c x).pending = s.pending := rfl
@[simp] theorem State.setArr_freeCtr (c : Nat) (x : Arr) : (s.setArr c x).freeCtr = s.freeCtr := rfl
@[simp] theorem State.setArr_resp (c : Nat) (x : Arr) : (s.setArr c x).resp = s.resp := rfl
@[simp] theorem State.setArr_regs (c : Nat) (x : Arr) : (s.setArr c x).regs = s.regs := rfl
@[simp] theorem State.setArr_mem (c : Nat) (x : Arr) : (s.setArr c x).mem = s.mem := rfl
@[simp] theorem State.setArr_ecc (c : Nat) (x : Arr) : (s.setArr c x).ecc = s.ecc := rfl
@[simp] theorem State.setArr_threads (c : Nat) (x : Arr) : (s.setArr c x).threads = s.threads := rfl
@[simp] theorem State.setArr_latches (c : Nat) (x : Arr) : (s.setArr c x).latches = s.latches := rfl
@[simp] theorem State.setArr_cores (c : Nat) (x : Arr) : (s.setArr c x).cores = s.cores := rfl
@[simp] theorem State.setArr_spareMap (c : Nat) (x : Arr) : (s.setArr c x).spareMap = s.spareMap := rfl
@[simp] theorem State.setArr_flashMap (c : Nat) (x : Arr) : (s.setArr c x).flashMap = s.flashMap := rfl
@[simp] theorem State.setArr_retiredMap (c : Nat) (x : Arr) : (s.setArr c x).retiredMap = s.retiredMap := rfl
@[simp] theorem State.setArr_epochs (c : Nat) (x : Arr) : (s.setArr c x).epochs = s.epochs := rfl
@[simp] theorem State.setArr_handovers (c : Nat) (x : Arr) : (s.setArr c x).handovers = s.handovers := rfl
@[simp] theorem State.setArr_heldAcc (c : Nat) (x : Arr) : (s.setArr c x).heldAcc = s.heldAcc := rfl
@[simp] theorem State.setArr_releases (c : Nat) (x : Arr) : (s.setArr c x).releases = s.releases := rfl
@[simp] theorem State.setArr_resetAcks (c : Nat) (x : Arr) : (s.setArr c x).resetAcks = s.resetAcks := rfl
@[simp] theorem State.setArr_dma (c : Nat) (x : Arr) : (s.setArr c x).dma = s.dma := rfl
@[simp] theorem State.setArr_rings (c : Nat) (x : Arr) : (s.setArr c x).rings = s.rings := rfl
@[simp] theorem State.setArr_cmds (c : Nat) (x : Arr) : (s.setArr c x).cmds = s.cmds := rfl
@[simp] theorem State.setArr_parts (c : Nat) (x : Arr) : (s.setArr c x).parts = s.parts := rfl
@[simp] theorem State.setArr_host (c : Nat) (x : Arr) : (s.setArr c x).host = s.host := rfl
@[simp] theorem State.setArr_beat (c : Nat) (x : Arr) : (s.setArr c x).beat = s.beat := rfl
@[simp] theorem State.setArr_fab (c : Nat) (x : Arr) : (s.setArr c x).fab = s.fab := rfl
@[simp] theorem State.setArr_coll (c : Nat) (x : Arr) : (s.setArr c x).coll = s.coll := rfl
@[simp] theorem State.setArr_memx (c : Nat) (x : Arr) : (s.setArr c x).memx = s.memx := rfl
@[simp] theorem State.setArr_test (c : Nat) (x : Arr) : (s.setArr c x).test = s.test := rfl
@[simp] theorem State.setArr_pwr (c : Nat) (x : Arr) : (s.setArr c x).pwr = s.pwr := rfl
@[simp] theorem State.setArr_cnt (c : Nat) (x : Arr) : (s.setArr c x).cnt = s.cnt := rfl
@[simp] theorem State.setArr_bays (c : Nat) (x : Arr) : (s.setArr c x).bays = s.bays := rfl
@[simp] theorem State.setArr_reports (c : Nat) (x : Arr) : (s.setArr c x).reports = s.reports := rfl
@[simp] theorem State.setArr_rseq (c : Nat) (x : Arr) : (s.setArr c x).rseq = s.rseq := rfl
@[simp] theorem State.setArr_rsent (c : Nat) (x : Arr) : (s.setArr c x).rsent = s.rsent := rfl
@[simp] theorem State.setArr_resend (c : Nat) (x : Arr) : (s.setArr c x).resend = s.resend := rfl
@[simp] theorem State.setRing_pending (c : Nat) (x : Ring) : (s.setRing c x).pending = s.pending := rfl
@[simp] theorem State.setRing_freeCtr (c : Nat) (x : Ring) : (s.setRing c x).freeCtr = s.freeCtr := rfl
@[simp] theorem State.setRing_resp (c : Nat) (x : Ring) : (s.setRing c x).resp = s.resp := rfl
@[simp] theorem State.setRing_regs (c : Nat) (x : Ring) : (s.setRing c x).regs = s.regs := rfl
@[simp] theorem State.setRing_mem (c : Nat) (x : Ring) : (s.setRing c x).mem = s.mem := rfl
@[simp] theorem State.setRing_ecc (c : Nat) (x : Ring) : (s.setRing c x).ecc = s.ecc := rfl
@[simp] theorem State.setRing_threads (c : Nat) (x : Ring) : (s.setRing c x).threads = s.threads := rfl
@[simp] theorem State.setRing_latches (c : Nat) (x : Ring) : (s.setRing c x).latches = s.latches := rfl
@[simp] theorem State.setRing_cores (c : Nat) (x : Ring) : (s.setRing c x).cores = s.cores := rfl
@[simp] theorem State.setRing_spareMap (c : Nat) (x : Ring) : (s.setRing c x).spareMap = s.spareMap := rfl
@[simp] theorem State.setRing_flashMap (c : Nat) (x : Ring) : (s.setRing c x).flashMap = s.flashMap := rfl
@[simp] theorem State.setRing_retiredMap (c : Nat) (x : Ring) : (s.setRing c x).retiredMap = s.retiredMap := rfl
@[simp] theorem State.setRing_epochs (c : Nat) (x : Ring) : (s.setRing c x).epochs = s.epochs := rfl
@[simp] theorem State.setRing_handovers (c : Nat) (x : Ring) : (s.setRing c x).handovers = s.handovers := rfl
@[simp] theorem State.setRing_heldAcc (c : Nat) (x : Ring) : (s.setRing c x).heldAcc = s.heldAcc := rfl
@[simp] theorem State.setRing_releases (c : Nat) (x : Ring) : (s.setRing c x).releases = s.releases := rfl
@[simp] theorem State.setRing_resetAcks (c : Nat) (x : Ring) : (s.setRing c x).resetAcks = s.resetAcks := rfl
@[simp] theorem State.setRing_arrays (c : Nat) (x : Ring) : (s.setRing c x).arrays = s.arrays := rfl
@[simp] theorem State.setRing_dma (c : Nat) (x : Ring) : (s.setRing c x).dma = s.dma := rfl
@[simp] theorem State.setRing_cmds (c : Nat) (x : Ring) : (s.setRing c x).cmds = s.cmds := rfl
@[simp] theorem State.setRing_parts (c : Nat) (x : Ring) : (s.setRing c x).parts = s.parts := rfl
@[simp] theorem State.setRing_host (c : Nat) (x : Ring) : (s.setRing c x).host = s.host := rfl
@[simp] theorem State.setRing_beat (c : Nat) (x : Ring) : (s.setRing c x).beat = s.beat := rfl
@[simp] theorem State.setRing_fab (c : Nat) (x : Ring) : (s.setRing c x).fab = s.fab := rfl
@[simp] theorem State.setRing_coll (c : Nat) (x : Ring) : (s.setRing c x).coll = s.coll := rfl
@[simp] theorem State.setRing_memx (c : Nat) (x : Ring) : (s.setRing c x).memx = s.memx := rfl
@[simp] theorem State.setRing_test (c : Nat) (x : Ring) : (s.setRing c x).test = s.test := rfl
@[simp] theorem State.setRing_pwr (c : Nat) (x : Ring) : (s.setRing c x).pwr = s.pwr := rfl
@[simp] theorem State.setRing_cnt (c : Nat) (x : Ring) : (s.setRing c x).cnt = s.cnt := rfl
@[simp] theorem State.setRing_bays (c : Nat) (x : Ring) : (s.setRing c x).bays = s.bays := rfl
@[simp] theorem State.setRing_reports (c : Nat) (x : Ring) : (s.setRing c x).reports = s.reports := rfl
@[simp] theorem State.setRing_rseq (c : Nat) (x : Ring) : (s.setRing c x).rseq = s.rseq := rfl
@[simp] theorem State.setRing_rsent (c : Nat) (x : Ring) : (s.setRing c x).rsent = s.rsent := rfl
@[simp] theorem State.setRing_resend (c : Nat) (x : Ring) : (s.setRing c x).resend = s.resend := rfl
@[simp] theorem State.setPart_pending (c : Nat) (x : Part) : (s.setPart c x).pending = s.pending := rfl
@[simp] theorem State.setPart_freeCtr (c : Nat) (x : Part) : (s.setPart c x).freeCtr = s.freeCtr := rfl
@[simp] theorem State.setPart_resp (c : Nat) (x : Part) : (s.setPart c x).resp = s.resp := rfl
@[simp] theorem State.setPart_regs (c : Nat) (x : Part) : (s.setPart c x).regs = s.regs := rfl
@[simp] theorem State.setPart_mem (c : Nat) (x : Part) : (s.setPart c x).mem = s.mem := rfl
@[simp] theorem State.setPart_ecc (c : Nat) (x : Part) : (s.setPart c x).ecc = s.ecc := rfl
@[simp] theorem State.setPart_threads (c : Nat) (x : Part) : (s.setPart c x).threads = s.threads := rfl
@[simp] theorem State.setPart_latches (c : Nat) (x : Part) : (s.setPart c x).latches = s.latches := rfl
@[simp] theorem State.setPart_cores (c : Nat) (x : Part) : (s.setPart c x).cores = s.cores := rfl
@[simp] theorem State.setPart_spareMap (c : Nat) (x : Part) : (s.setPart c x).spareMap = s.spareMap := rfl
@[simp] theorem State.setPart_flashMap (c : Nat) (x : Part) : (s.setPart c x).flashMap = s.flashMap := rfl
@[simp] theorem State.setPart_retiredMap (c : Nat) (x : Part) : (s.setPart c x).retiredMap = s.retiredMap := rfl
@[simp] theorem State.setPart_epochs (c : Nat) (x : Part) : (s.setPart c x).epochs = s.epochs := rfl
@[simp] theorem State.setPart_handovers (c : Nat) (x : Part) : (s.setPart c x).handovers = s.handovers := rfl
@[simp] theorem State.setPart_heldAcc (c : Nat) (x : Part) : (s.setPart c x).heldAcc = s.heldAcc := rfl
@[simp] theorem State.setPart_releases (c : Nat) (x : Part) : (s.setPart c x).releases = s.releases := rfl
@[simp] theorem State.setPart_resetAcks (c : Nat) (x : Part) : (s.setPart c x).resetAcks = s.resetAcks := rfl
@[simp] theorem State.setPart_arrays (c : Nat) (x : Part) : (s.setPart c x).arrays = s.arrays := rfl
@[simp] theorem State.setPart_dma (c : Nat) (x : Part) : (s.setPart c x).dma = s.dma := rfl
@[simp] theorem State.setPart_rings (c : Nat) (x : Part) : (s.setPart c x).rings = s.rings := rfl
@[simp] theorem State.setPart_cmds (c : Nat) (x : Part) : (s.setPart c x).cmds = s.cmds := rfl
@[simp] theorem State.setPart_host (c : Nat) (x : Part) : (s.setPart c x).host = s.host := rfl
@[simp] theorem State.setPart_beat (c : Nat) (x : Part) : (s.setPart c x).beat = s.beat := rfl
@[simp] theorem State.setPart_fab (c : Nat) (x : Part) : (s.setPart c x).fab = s.fab := rfl
@[simp] theorem State.setPart_coll (c : Nat) (x : Part) : (s.setPart c x).coll = s.coll := rfl
@[simp] theorem State.setPart_memx (c : Nat) (x : Part) : (s.setPart c x).memx = s.memx := rfl
@[simp] theorem State.setPart_test (c : Nat) (x : Part) : (s.setPart c x).test = s.test := rfl
@[simp] theorem State.setPart_pwr (c : Nat) (x : Part) : (s.setPart c x).pwr = s.pwr := rfl
@[simp] theorem State.setPart_cnt (c : Nat) (x : Part) : (s.setPart c x).cnt = s.cnt := rfl
@[simp] theorem State.setPart_bays (c : Nat) (x : Part) : (s.setPart c x).bays = s.bays := rfl
@[simp] theorem State.setPart_reports (c : Nat) (x : Part) : (s.setPart c x).reports = s.reports := rfl
@[simp] theorem State.setPart_rseq (c : Nat) (x : Part) : (s.setPart c x).rseq = s.rseq := rfl
@[simp] theorem State.setPart_rsent (c : Nat) (x : Part) : (s.setPart c x).rsent = s.rsent := rfl
@[simp] theorem State.setPart_resend (c : Nat) (x : Part) : (s.setPart c x).resend = s.resend := rfl
@[simp] theorem State.setChan_pending (c : Nat) (x : Chan) : (s.setChan c x).pending = s.pending := rfl
@[simp] theorem State.setChan_freeCtr (c : Nat) (x : Chan) : (s.setChan c x).freeCtr = s.freeCtr := rfl
@[simp] theorem State.setChan_resp (c : Nat) (x : Chan) : (s.setChan c x).resp = s.resp := rfl
@[simp] theorem State.setChan_regs (c : Nat) (x : Chan) : (s.setChan c x).regs = s.regs := rfl
@[simp] theorem State.setChan_mem (c : Nat) (x : Chan) : (s.setChan c x).mem = s.mem := rfl
@[simp] theorem State.setChan_ecc (c : Nat) (x : Chan) : (s.setChan c x).ecc = s.ecc := rfl
@[simp] theorem State.setChan_threads (c : Nat) (x : Chan) : (s.setChan c x).threads = s.threads := rfl
@[simp] theorem State.setChan_latches (c : Nat) (x : Chan) : (s.setChan c x).latches = s.latches := rfl
@[simp] theorem State.setChan_cores (c : Nat) (x : Chan) : (s.setChan c x).cores = s.cores := rfl
@[simp] theorem State.setChan_spareMap (c : Nat) (x : Chan) : (s.setChan c x).spareMap = s.spareMap := rfl
@[simp] theorem State.setChan_flashMap (c : Nat) (x : Chan) : (s.setChan c x).flashMap = s.flashMap := rfl
@[simp] theorem State.setChan_retiredMap (c : Nat) (x : Chan) : (s.setChan c x).retiredMap = s.retiredMap := rfl
@[simp] theorem State.setChan_epochs (c : Nat) (x : Chan) : (s.setChan c x).epochs = s.epochs := rfl
@[simp] theorem State.setChan_handovers (c : Nat) (x : Chan) : (s.setChan c x).handovers = s.handovers := rfl
@[simp] theorem State.setChan_heldAcc (c : Nat) (x : Chan) : (s.setChan c x).heldAcc = s.heldAcc := rfl
@[simp] theorem State.setChan_releases (c : Nat) (x : Chan) : (s.setChan c x).releases = s.releases := rfl
@[simp] theorem State.setChan_resetAcks (c : Nat) (x : Chan) : (s.setChan c x).resetAcks = s.resetAcks := rfl
@[simp] theorem State.setChan_arrays (c : Nat) (x : Chan) : (s.setChan c x).arrays = s.arrays := rfl
@[simp] theorem State.setChan_dma (c : Nat) (x : Chan) : (s.setChan c x).dma = s.dma := rfl
@[simp] theorem State.setChan_rings (c : Nat) (x : Chan) : (s.setChan c x).rings = s.rings := rfl
@[simp] theorem State.setChan_cmds (c : Nat) (x : Chan) : (s.setChan c x).cmds = s.cmds := rfl
@[simp] theorem State.setChan_parts (c : Nat) (x : Chan) : (s.setChan c x).parts = s.parts := rfl
@[simp] theorem State.setChan_beat (c : Nat) (x : Chan) : (s.setChan c x).beat = s.beat := rfl
@[simp] theorem State.setChan_fab (c : Nat) (x : Chan) : (s.setChan c x).fab = s.fab := rfl
@[simp] theorem State.setChan_coll (c : Nat) (x : Chan) : (s.setChan c x).coll = s.coll := rfl
@[simp] theorem State.setChan_memx (c : Nat) (x : Chan) : (s.setChan c x).memx = s.memx := rfl
@[simp] theorem State.setChan_test (c : Nat) (x : Chan) : (s.setChan c x).test = s.test := rfl
@[simp] theorem State.setChan_pwr (c : Nat) (x : Chan) : (s.setChan c x).pwr = s.pwr := rfl
@[simp] theorem State.setChan_cnt (c : Nat) (x : Chan) : (s.setChan c x).cnt = s.cnt := rfl
@[simp] theorem State.setChan_bays (c : Nat) (x : Chan) : (s.setChan c x).bays = s.bays := rfl
@[simp] theorem State.setChan_reports (c : Nat) (x : Chan) : (s.setChan c x).reports = s.reports := rfl
@[simp] theorem State.setChan_rseq (c : Nat) (x : Chan) : (s.setChan c x).rseq = s.rseq := rfl
@[simp] theorem State.setChan_rsent (c : Nat) (x : Chan) : (s.setChan c x).rsent = s.rsent := rfl
@[simp] theorem State.setChan_resend (c : Nat) (x : Chan) : (s.setChan c x).resend = s.resend := rfl
@[simp] theorem State.setPort_pending (c : Nat) (x : Port) : (s.setPort c x).pending = s.pending := rfl
@[simp] theorem State.setPort_freeCtr (c : Nat) (x : Port) : (s.setPort c x).freeCtr = s.freeCtr := rfl
@[simp] theorem State.setPort_resp (c : Nat) (x : Port) : (s.setPort c x).resp = s.resp := rfl
@[simp] theorem State.setPort_regs (c : Nat) (x : Port) : (s.setPort c x).regs = s.regs := rfl
@[simp] theorem State.setPort_mem (c : Nat) (x : Port) : (s.setPort c x).mem = s.mem := rfl
@[simp] theorem State.setPort_ecc (c : Nat) (x : Port) : (s.setPort c x).ecc = s.ecc := rfl
@[simp] theorem State.setPort_threads (c : Nat) (x : Port) : (s.setPort c x).threads = s.threads := rfl
@[simp] theorem State.setPort_latches (c : Nat) (x : Port) : (s.setPort c x).latches = s.latches := rfl
@[simp] theorem State.setPort_cores (c : Nat) (x : Port) : (s.setPort c x).cores = s.cores := rfl
@[simp] theorem State.setPort_spareMap (c : Nat) (x : Port) : (s.setPort c x).spareMap = s.spareMap := rfl
@[simp] theorem State.setPort_flashMap (c : Nat) (x : Port) : (s.setPort c x).flashMap = s.flashMap := rfl
@[simp] theorem State.setPort_retiredMap (c : Nat) (x : Port) : (s.setPort c x).retiredMap = s.retiredMap := rfl
@[simp] theorem State.setPort_epochs (c : Nat) (x : Port) : (s.setPort c x).epochs = s.epochs := rfl
@[simp] theorem State.setPort_handovers (c : Nat) (x : Port) : (s.setPort c x).handovers = s.handovers := rfl
@[simp] theorem State.setPort_heldAcc (c : Nat) (x : Port) : (s.setPort c x).heldAcc = s.heldAcc := rfl
@[simp] theorem State.setPort_releases (c : Nat) (x : Port) : (s.setPort c x).releases = s.releases := rfl
@[simp] theorem State.setPort_resetAcks (c : Nat) (x : Port) : (s.setPort c x).resetAcks = s.resetAcks := rfl
@[simp] theorem State.setPort_arrays (c : Nat) (x : Port) : (s.setPort c x).arrays = s.arrays := rfl
@[simp] theorem State.setPort_dma (c : Nat) (x : Port) : (s.setPort c x).dma = s.dma := rfl
@[simp] theorem State.setPort_rings (c : Nat) (x : Port) : (s.setPort c x).rings = s.rings := rfl
@[simp] theorem State.setPort_cmds (c : Nat) (x : Port) : (s.setPort c x).cmds = s.cmds := rfl
@[simp] theorem State.setPort_parts (c : Nat) (x : Port) : (s.setPort c x).parts = s.parts := rfl
@[simp] theorem State.setPort_host (c : Nat) (x : Port) : (s.setPort c x).host = s.host := rfl
@[simp] theorem State.setPort_beat (c : Nat) (x : Port) : (s.setPort c x).beat = s.beat := rfl
@[simp] theorem State.setPort_coll (c : Nat) (x : Port) : (s.setPort c x).coll = s.coll := rfl
@[simp] theorem State.setPort_memx (c : Nat) (x : Port) : (s.setPort c x).memx = s.memx := rfl
@[simp] theorem State.setPort_test (c : Nat) (x : Port) : (s.setPort c x).test = s.test := rfl
@[simp] theorem State.setPort_pwr (c : Nat) (x : Port) : (s.setPort c x).pwr = s.pwr := rfl
@[simp] theorem State.setPort_cnt (c : Nat) (x : Port) : (s.setPort c x).cnt = s.cnt := rfl
@[simp] theorem State.setPort_bays (c : Nat) (x : Port) : (s.setPort c x).bays = s.bays := rfl
@[simp] theorem State.setPort_reports (c : Nat) (x : Port) : (s.setPort c x).reports = s.reports := rfl
@[simp] theorem State.setPort_rseq (c : Nat) (x : Port) : (s.setPort c x).rseq = s.rseq := rfl
@[simp] theorem State.setPort_rsent (c : Nat) (x : Port) : (s.setPort c x).rsent = s.rsent := rfl
@[simp] theorem State.setPort_resend (c : Nat) (x : Port) : (s.setPort c x).resend = s.resend := rfl
@[simp] theorem State.setDmaq_pending (c : Nat) (x : List DmaJob) : (s.setDmaq c x).pending = s.pending := rfl
@[simp] theorem State.setDmaq_freeCtr (c : Nat) (x : List DmaJob) : (s.setDmaq c x).freeCtr = s.freeCtr := rfl
@[simp] theorem State.setDmaq_resp (c : Nat) (x : List DmaJob) : (s.setDmaq c x).resp = s.resp := rfl
@[simp] theorem State.setDmaq_regs (c : Nat) (x : List DmaJob) : (s.setDmaq c x).regs = s.regs := rfl
@[simp] theorem State.setDmaq_mem (c : Nat) (x : List DmaJob) : (s.setDmaq c x).mem = s.mem := rfl
@[simp] theorem State.setDmaq_ecc (c : Nat) (x : List DmaJob) : (s.setDmaq c x).ecc = s.ecc := rfl
@[simp] theorem State.setDmaq_threads (c : Nat) (x : List DmaJob) : (s.setDmaq c x).threads = s.threads := rfl
@[simp] theorem State.setDmaq_latches (c : Nat) (x : List DmaJob) : (s.setDmaq c x).latches = s.latches := rfl
@[simp] theorem State.setDmaq_cores (c : Nat) (x : List DmaJob) : (s.setDmaq c x).cores = s.cores := rfl
@[simp] theorem State.setDmaq_spareMap (c : Nat) (x : List DmaJob) : (s.setDmaq c x).spareMap = s.spareMap := rfl
@[simp] theorem State.setDmaq_flashMap (c : Nat) (x : List DmaJob) : (s.setDmaq c x).flashMap = s.flashMap := rfl
@[simp] theorem State.setDmaq_retiredMap (c : Nat) (x : List DmaJob) : (s.setDmaq c x).retiredMap = s.retiredMap := rfl
@[simp] theorem State.setDmaq_epochs (c : Nat) (x : List DmaJob) : (s.setDmaq c x).epochs = s.epochs := rfl
@[simp] theorem State.setDmaq_handovers (c : Nat) (x : List DmaJob) : (s.setDmaq c x).handovers = s.handovers := rfl
@[simp] theorem State.setDmaq_heldAcc (c : Nat) (x : List DmaJob) : (s.setDmaq c x).heldAcc = s.heldAcc := rfl
@[simp] theorem State.setDmaq_releases (c : Nat) (x : List DmaJob) : (s.setDmaq c x).releases = s.releases := rfl
@[simp] theorem State.setDmaq_resetAcks (c : Nat) (x : List DmaJob) : (s.setDmaq c x).resetAcks = s.resetAcks := rfl
@[simp] theorem State.setDmaq_arrays (c : Nat) (x : List DmaJob) : (s.setDmaq c x).arrays = s.arrays := rfl
@[simp] theorem State.setDmaq_rings (c : Nat) (x : List DmaJob) : (s.setDmaq c x).rings = s.rings := rfl
@[simp] theorem State.setDmaq_cmds (c : Nat) (x : List DmaJob) : (s.setDmaq c x).cmds = s.cmds := rfl
@[simp] theorem State.setDmaq_parts (c : Nat) (x : List DmaJob) : (s.setDmaq c x).parts = s.parts := rfl
@[simp] theorem State.setDmaq_host (c : Nat) (x : List DmaJob) : (s.setDmaq c x).host = s.host := rfl
@[simp] theorem State.setDmaq_beat (c : Nat) (x : List DmaJob) : (s.setDmaq c x).beat = s.beat := rfl
@[simp] theorem State.setDmaq_fab (c : Nat) (x : List DmaJob) : (s.setDmaq c x).fab = s.fab := rfl
@[simp] theorem State.setDmaq_coll (c : Nat) (x : List DmaJob) : (s.setDmaq c x).coll = s.coll := rfl
@[simp] theorem State.setDmaq_memx (c : Nat) (x : List DmaJob) : (s.setDmaq c x).memx = s.memx := rfl
@[simp] theorem State.setDmaq_test (c : Nat) (x : List DmaJob) : (s.setDmaq c x).test = s.test := rfl
@[simp] theorem State.setDmaq_pwr (c : Nat) (x : List DmaJob) : (s.setDmaq c x).pwr = s.pwr := rfl
@[simp] theorem State.setDmaq_cnt (c : Nat) (x : List DmaJob) : (s.setDmaq c x).cnt = s.cnt := rfl
@[simp] theorem State.setDmaq_bays (c : Nat) (x : List DmaJob) : (s.setDmaq c x).bays = s.bays := rfl
@[simp] theorem State.setDmaq_reports (c : Nat) (x : List DmaJob) : (s.setDmaq c x).reports = s.reports := rfl
@[simp] theorem State.setDmaq_rseq (c : Nat) (x : List DmaJob) : (s.setDmaq c x).rseq = s.rseq := rfl
@[simp] theorem State.setDmaq_rsent (c : Nat) (x : List DmaJob) : (s.setDmaq c x).rsent = s.rsent := rfl
@[simp] theorem State.setDmaq_resend (c : Nat) (x : List DmaJob) : (s.setDmaq c x).resend = s.resend := rfl
@[simp] theorem State.setBay_pending (c : Nat) (x : Bay) : (s.setBay c x).pending = s.pending := rfl
@[simp] theorem State.setBay_freeCtr (c : Nat) (x : Bay) : (s.setBay c x).freeCtr = s.freeCtr := rfl
@[simp] theorem State.setBay_resp (c : Nat) (x : Bay) : (s.setBay c x).resp = s.resp := rfl
@[simp] theorem State.setBay_regs (c : Nat) (x : Bay) : (s.setBay c x).regs = s.regs := rfl
@[simp] theorem State.setBay_mem (c : Nat) (x : Bay) : (s.setBay c x).mem = s.mem := rfl
@[simp] theorem State.setBay_ecc (c : Nat) (x : Bay) : (s.setBay c x).ecc = s.ecc := rfl
@[simp] theorem State.setBay_threads (c : Nat) (x : Bay) : (s.setBay c x).threads = s.threads := rfl
@[simp] theorem State.setBay_latches (c : Nat) (x : Bay) : (s.setBay c x).latches = s.latches := rfl
@[simp] theorem State.setBay_cores (c : Nat) (x : Bay) : (s.setBay c x).cores = s.cores := rfl
@[simp] theorem State.setBay_spareMap (c : Nat) (x : Bay) : (s.setBay c x).spareMap = s.spareMap := rfl
@[simp] theorem State.setBay_flashMap (c : Nat) (x : Bay) : (s.setBay c x).flashMap = s.flashMap := rfl
@[simp] theorem State.setBay_retiredMap (c : Nat) (x : Bay) : (s.setBay c x).retiredMap = s.retiredMap := rfl
@[simp] theorem State.setBay_epochs (c : Nat) (x : Bay) : (s.setBay c x).epochs = s.epochs := rfl
@[simp] theorem State.setBay_handovers (c : Nat) (x : Bay) : (s.setBay c x).handovers = s.handovers := rfl
@[simp] theorem State.setBay_heldAcc (c : Nat) (x : Bay) : (s.setBay c x).heldAcc = s.heldAcc := rfl
@[simp] theorem State.setBay_releases (c : Nat) (x : Bay) : (s.setBay c x).releases = s.releases := rfl
@[simp] theorem State.setBay_resetAcks (c : Nat) (x : Bay) : (s.setBay c x).resetAcks = s.resetAcks := rfl
@[simp] theorem State.setBay_arrays (c : Nat) (x : Bay) : (s.setBay c x).arrays = s.arrays := rfl
@[simp] theorem State.setBay_dma (c : Nat) (x : Bay) : (s.setBay c x).dma = s.dma := rfl
@[simp] theorem State.setBay_rings (c : Nat) (x : Bay) : (s.setBay c x).rings = s.rings := rfl
@[simp] theorem State.setBay_cmds (c : Nat) (x : Bay) : (s.setBay c x).cmds = s.cmds := rfl
@[simp] theorem State.setBay_parts (c : Nat) (x : Bay) : (s.setBay c x).parts = s.parts := rfl
@[simp] theorem State.setBay_host (c : Nat) (x : Bay) : (s.setBay c x).host = s.host := rfl
@[simp] theorem State.setBay_beat (c : Nat) (x : Bay) : (s.setBay c x).beat = s.beat := rfl
@[simp] theorem State.setBay_fab (c : Nat) (x : Bay) : (s.setBay c x).fab = s.fab := rfl
@[simp] theorem State.setBay_coll (c : Nat) (x : Bay) : (s.setBay c x).coll = s.coll := rfl
@[simp] theorem State.setBay_memx (c : Nat) (x : Bay) : (s.setBay c x).memx = s.memx := rfl
@[simp] theorem State.setBay_test (c : Nat) (x : Bay) : (s.setBay c x).test = s.test := rfl
@[simp] theorem State.setBay_pwr (c : Nat) (x : Bay) : (s.setBay c x).pwr = s.pwr := rfl
@[simp] theorem State.setBay_cnt (c : Nat) (x : Bay) : (s.setBay c x).cnt = s.cnt := rfl
@[simp] theorem State.setBay_reports (c : Nat) (x : Bay) : (s.setBay c x).reports = s.reports := rfl
@[simp] theorem State.setBay_rseq (c : Nat) (x : Bay) : (s.setBay c x).rseq = s.rseq := rfl
@[simp] theorem State.setBay_rsent (c : Nat) (x : Bay) : (s.setBay c x).rsent = s.rsent := rfl
@[simp] theorem State.setBay_resend (c : Nat) (x : Bay) : (s.setBay c x).resend = s.resend := rfl
@[simp] theorem State.setLatch_pending (c j : Nat) (x : W128) : (s.setLatch c j x).pending = s.pending := rfl
@[simp] theorem State.setLatch_freeCtr (c j : Nat) (x : W128) : (s.setLatch c j x).freeCtr = s.freeCtr := rfl
@[simp] theorem State.setLatch_resp (c j : Nat) (x : W128) : (s.setLatch c j x).resp = s.resp := rfl
@[simp] theorem State.setLatch_regs (c j : Nat) (x : W128) : (s.setLatch c j x).regs = s.regs := rfl
@[simp] theorem State.setLatch_mem (c j : Nat) (x : W128) : (s.setLatch c j x).mem = s.mem := rfl
@[simp] theorem State.setLatch_ecc (c j : Nat) (x : W128) : (s.setLatch c j x).ecc = s.ecc := rfl
@[simp] theorem State.setLatch_threads (c j : Nat) (x : W128) : (s.setLatch c j x).threads = s.threads := rfl
@[simp] theorem State.setLatch_cores (c j : Nat) (x : W128) : (s.setLatch c j x).cores = s.cores := rfl
@[simp] theorem State.setLatch_spareMap (c j : Nat) (x : W128) : (s.setLatch c j x).spareMap = s.spareMap := rfl
@[simp] theorem State.setLatch_flashMap (c j : Nat) (x : W128) : (s.setLatch c j x).flashMap = s.flashMap := rfl
@[simp] theorem State.setLatch_retiredMap (c j : Nat) (x : W128) : (s.setLatch c j x).retiredMap = s.retiredMap := rfl
@[simp] theorem State.setLatch_epochs (c j : Nat) (x : W128) : (s.setLatch c j x).epochs = s.epochs := rfl
@[simp] theorem State.setLatch_handovers (c j : Nat) (x : W128) : (s.setLatch c j x).handovers = s.handovers := rfl
@[simp] theorem State.setLatch_heldAcc (c j : Nat) (x : W128) : (s.setLatch c j x).heldAcc = s.heldAcc := rfl
@[simp] theorem State.setLatch_releases (c j : Nat) (x : W128) : (s.setLatch c j x).releases = s.releases := rfl
@[simp] theorem State.setLatch_resetAcks (c j : Nat) (x : W128) : (s.setLatch c j x).resetAcks = s.resetAcks := rfl
@[simp] theorem State.setLatch_arrays (c j : Nat) (x : W128) : (s.setLatch c j x).arrays = s.arrays := rfl
@[simp] theorem State.setLatch_dma (c j : Nat) (x : W128) : (s.setLatch c j x).dma = s.dma := rfl
@[simp] theorem State.setLatch_rings (c j : Nat) (x : W128) : (s.setLatch c j x).rings = s.rings := rfl
@[simp] theorem State.setLatch_cmds (c j : Nat) (x : W128) : (s.setLatch c j x).cmds = s.cmds := rfl
@[simp] theorem State.setLatch_parts (c j : Nat) (x : W128) : (s.setLatch c j x).parts = s.parts := rfl
@[simp] theorem State.setLatch_host (c j : Nat) (x : W128) : (s.setLatch c j x).host = s.host := rfl
@[simp] theorem State.setLatch_beat (c j : Nat) (x : W128) : (s.setLatch c j x).beat = s.beat := rfl
@[simp] theorem State.setLatch_fab (c j : Nat) (x : W128) : (s.setLatch c j x).fab = s.fab := rfl
@[simp] theorem State.setLatch_coll (c j : Nat) (x : W128) : (s.setLatch c j x).coll = s.coll := rfl
@[simp] theorem State.setLatch_memx (c j : Nat) (x : W128) : (s.setLatch c j x).memx = s.memx := rfl
@[simp] theorem State.setLatch_test (c j : Nat) (x : W128) : (s.setLatch c j x).test = s.test := rfl
@[simp] theorem State.setLatch_pwr (c j : Nat) (x : W128) : (s.setLatch c j x).pwr = s.pwr := rfl
@[simp] theorem State.setLatch_cnt (c j : Nat) (x : W128) : (s.setLatch c j x).cnt = s.cnt := rfl
@[simp] theorem State.setLatch_bays (c j : Nat) (x : W128) : (s.setLatch c j x).bays = s.bays := rfl
@[simp] theorem State.setLatch_reports (c j : Nat) (x : W128) : (s.setLatch c j x).reports = s.reports := rfl
@[simp] theorem State.setLatch_rseq (c j : Nat) (x : W128) : (s.setLatch c j x).rseq = s.rseq := rfl
@[simp] theorem State.setLatch_rsent (c j : Nat) (x : W128) : (s.setLatch c j x).rsent = s.rsent := rfl
@[simp] theorem State.setLatch_resend (c j : Nat) (x : W128) : (s.setLatch c j x).resend = s.resend := rfl
@[simp] theorem State.setDelta_pending (g d : Nat) : (s.setDelta g d).pending = s.pending := rfl
@[simp] theorem State.setDelta_freeCtr (g d : Nat) : (s.setDelta g d).freeCtr = s.freeCtr := rfl
@[simp] theorem State.setDelta_resp (g d : Nat) : (s.setDelta g d).resp = s.resp := rfl
@[simp] theorem State.setDelta_regs (g d : Nat) : (s.setDelta g d).regs = s.regs := rfl
@[simp] theorem State.setDelta_mem (g d : Nat) : (s.setDelta g d).mem = s.mem := rfl
@[simp] theorem State.setDelta_threads (g d : Nat) : (s.setDelta g d).threads = s.threads := rfl
@[simp] theorem State.setDelta_latches (g d : Nat) : (s.setDelta g d).latches = s.latches := rfl
@[simp] theorem State.setDelta_cores (g d : Nat) : (s.setDelta g d).cores = s.cores := rfl
@[simp] theorem State.setDelta_spareMap (g d : Nat) : (s.setDelta g d).spareMap = s.spareMap := rfl
@[simp] theorem State.setDelta_flashMap (g d : Nat) : (s.setDelta g d).flashMap = s.flashMap := rfl
@[simp] theorem State.setDelta_retiredMap (g d : Nat) : (s.setDelta g d).retiredMap = s.retiredMap := rfl
@[simp] theorem State.setDelta_epochs (g d : Nat) : (s.setDelta g d).epochs = s.epochs := rfl
@[simp] theorem State.setDelta_handovers (g d : Nat) : (s.setDelta g d).handovers = s.handovers := rfl
@[simp] theorem State.setDelta_heldAcc (g d : Nat) : (s.setDelta g d).heldAcc = s.heldAcc := rfl
@[simp] theorem State.setDelta_releases (g d : Nat) : (s.setDelta g d).releases = s.releases := rfl
@[simp] theorem State.setDelta_resetAcks (g d : Nat) : (s.setDelta g d).resetAcks = s.resetAcks := rfl
@[simp] theorem State.setDelta_arrays (g d : Nat) : (s.setDelta g d).arrays = s.arrays := rfl
@[simp] theorem State.setDelta_dma (g d : Nat) : (s.setDelta g d).dma = s.dma := rfl
@[simp] theorem State.setDelta_rings (g d : Nat) : (s.setDelta g d).rings = s.rings := rfl
@[simp] theorem State.setDelta_cmds (g d : Nat) : (s.setDelta g d).cmds = s.cmds := rfl
@[simp] theorem State.setDelta_parts (g d : Nat) : (s.setDelta g d).parts = s.parts := rfl
@[simp] theorem State.setDelta_host (g d : Nat) : (s.setDelta g d).host = s.host := rfl
@[simp] theorem State.setDelta_beat (g d : Nat) : (s.setDelta g d).beat = s.beat := rfl
@[simp] theorem State.setDelta_fab (g d : Nat) : (s.setDelta g d).fab = s.fab := rfl
@[simp] theorem State.setDelta_coll (g d : Nat) : (s.setDelta g d).coll = s.coll := rfl
@[simp] theorem State.setDelta_memx (g d : Nat) : (s.setDelta g d).memx = s.memx := rfl
@[simp] theorem State.setDelta_test (g d : Nat) : (s.setDelta g d).test = s.test := rfl
@[simp] theorem State.setDelta_pwr (g d : Nat) : (s.setDelta g d).pwr = s.pwr := rfl
@[simp] theorem State.setDelta_cnt (g d : Nat) : (s.setDelta g d).cnt = s.cnt := rfl
@[simp] theorem State.setDelta_bays (g d : Nat) : (s.setDelta g d).bays = s.bays := rfl
@[simp] theorem State.setDelta_reports (g d : Nat) : (s.setDelta g d).reports = s.reports := rfl
@[simp] theorem State.setDelta_rseq (g d : Nat) : (s.setDelta g d).rseq = s.rseq := rfl
@[simp] theorem State.setDelta_rsent (g d : Nat) : (s.setDelta g d).rsent = s.rsent := rfl
@[simp] theorem State.setDelta_resend (g d : Nat) : (s.setDelta g d).resend = s.resend := rfl
@[simp] theorem State.answer_pending (b : List Byte) : (s.answer b).pending = s.pending := rfl
@[simp] theorem State.answer_freeCtr (b : List Byte) : (s.answer b).freeCtr = s.freeCtr := rfl
@[simp] theorem State.answer_regs (b : List Byte) : (s.answer b).regs = s.regs := rfl
@[simp] theorem State.answer_mem (b : List Byte) : (s.answer b).mem = s.mem := rfl
@[simp] theorem State.answer_ecc (b : List Byte) : (s.answer b).ecc = s.ecc := rfl
@[simp] theorem State.answer_threads (b : List Byte) : (s.answer b).threads = s.threads := rfl
@[simp] theorem State.answer_latches (b : List Byte) : (s.answer b).latches = s.latches := rfl
@[simp] theorem State.answer_cores (b : List Byte) : (s.answer b).cores = s.cores := rfl
@[simp] theorem State.answer_spareMap (b : List Byte) : (s.answer b).spareMap = s.spareMap := rfl
@[simp] theorem State.answer_flashMap (b : List Byte) : (s.answer b).flashMap = s.flashMap := rfl
@[simp] theorem State.answer_retiredMap (b : List Byte) : (s.answer b).retiredMap = s.retiredMap := rfl
@[simp] theorem State.answer_epochs (b : List Byte) : (s.answer b).epochs = s.epochs := rfl
@[simp] theorem State.answer_handovers (b : List Byte) : (s.answer b).handovers = s.handovers := rfl
@[simp] theorem State.answer_heldAcc (b : List Byte) : (s.answer b).heldAcc = s.heldAcc := rfl
@[simp] theorem State.answer_releases (b : List Byte) : (s.answer b).releases = s.releases := rfl
@[simp] theorem State.answer_resetAcks (b : List Byte) : (s.answer b).resetAcks = s.resetAcks := rfl
@[simp] theorem State.answer_arrays (b : List Byte) : (s.answer b).arrays = s.arrays := rfl
@[simp] theorem State.answer_dma (b : List Byte) : (s.answer b).dma = s.dma := rfl
@[simp] theorem State.answer_rings (b : List Byte) : (s.answer b).rings = s.rings := rfl
@[simp] theorem State.answer_cmds (b : List Byte) : (s.answer b).cmds = s.cmds := rfl
@[simp] theorem State.answer_parts (b : List Byte) : (s.answer b).parts = s.parts := rfl
@[simp] theorem State.answer_host (b : List Byte) : (s.answer b).host = s.host := rfl
@[simp] theorem State.answer_beat (b : List Byte) : (s.answer b).beat = s.beat := rfl
@[simp] theorem State.answer_fab (b : List Byte) : (s.answer b).fab = s.fab := rfl
@[simp] theorem State.answer_coll (b : List Byte) : (s.answer b).coll = s.coll := rfl
@[simp] theorem State.answer_memx (b : List Byte) : (s.answer b).memx = s.memx := rfl
@[simp] theorem State.answer_test (b : List Byte) : (s.answer b).test = s.test := rfl
@[simp] theorem State.answer_pwr (b : List Byte) : (s.answer b).pwr = s.pwr := rfl
@[simp] theorem State.answer_cnt (b : List Byte) : (s.answer b).cnt = s.cnt := rfl
@[simp] theorem State.answer_bays (b : List Byte) : (s.answer b).bays = s.bays := rfl
@[simp] theorem State.answer_reports (b : List Byte) : (s.answer b).reports = s.reports := rfl
@[simp] theorem State.answer_rseq (b : List Byte) : (s.answer b).rseq = s.rseq := rfl
@[simp] theorem State.answer_rsent (b : List Byte) : (s.answer b).rsent = s.rsent := rfl
@[simp] theorem State.answer_resend (b : List Byte) : (s.answer b).resend = s.resend := rfl
@[simp] theorem State.bump_pending : (s.bump).pending = s.pending := rfl
@[simp] theorem State.bump_resp : (s.bump).resp = s.resp := rfl
@[simp] theorem State.bump_regs : (s.bump).regs = s.regs := rfl
@[simp] theorem State.bump_mem : (s.bump).mem = s.mem := rfl
@[simp] theorem State.bump_ecc : (s.bump).ecc = s.ecc := rfl
@[simp] theorem State.bump_threads : (s.bump).threads = s.threads := rfl
@[simp] theorem State.bump_latches : (s.bump).latches = s.latches := rfl
@[simp] theorem State.bump_cores : (s.bump).cores = s.cores := rfl
@[simp] theorem State.bump_spareMap : (s.bump).spareMap = s.spareMap := rfl
@[simp] theorem State.bump_flashMap : (s.bump).flashMap = s.flashMap := rfl
@[simp] theorem State.bump_retiredMap : (s.bump).retiredMap = s.retiredMap := rfl
@[simp] theorem State.bump_epochs : (s.bump).epochs = s.epochs := rfl
@[simp] theorem State.bump_handovers : (s.bump).handovers = s.handovers := rfl
@[simp] theorem State.bump_heldAcc : (s.bump).heldAcc = s.heldAcc := rfl
@[simp] theorem State.bump_releases : (s.bump).releases = s.releases := rfl
@[simp] theorem State.bump_resetAcks : (s.bump).resetAcks = s.resetAcks := rfl
@[simp] theorem State.bump_arrays : (s.bump).arrays = s.arrays := rfl
@[simp] theorem State.bump_dma : (s.bump).dma = s.dma := rfl
@[simp] theorem State.bump_rings : (s.bump).rings = s.rings := rfl
@[simp] theorem State.bump_cmds : (s.bump).cmds = s.cmds := rfl
@[simp] theorem State.bump_parts : (s.bump).parts = s.parts := rfl
@[simp] theorem State.bump_host : (s.bump).host = s.host := rfl
@[simp] theorem State.bump_beat : (s.bump).beat = s.beat := rfl
@[simp] theorem State.bump_fab : (s.bump).fab = s.fab := rfl
@[simp] theorem State.bump_coll : (s.bump).coll = s.coll := rfl
@[simp] theorem State.bump_memx : (s.bump).memx = s.memx := rfl
@[simp] theorem State.bump_test : (s.bump).test = s.test := rfl
@[simp] theorem State.bump_pwr : (s.bump).pwr = s.pwr := rfl
@[simp] theorem State.bump_cnt : (s.bump).cnt = s.cnt := rfl
@[simp] theorem State.bump_bays : (s.bump).bays = s.bays := rfl
@[simp] theorem State.bump_reports : (s.bump).reports = s.reports := rfl
@[simp] theorem State.bump_rseq : (s.bump).rseq = s.rseq := rfl
@[simp] theorem State.bump_rsent : (s.bump).rsent = s.rsent := rfl
@[simp] theorem State.bump_resend : (s.bump).resend = s.resend := rfl
@[simp] theorem State.countBlock_pending (o n : Nat) : (s.countBlock o n).pending = s.pending := rfl
@[simp] theorem State.countBlock_freeCtr (o n : Nat) : (s.countBlock o n).freeCtr = s.freeCtr := rfl
@[simp] theorem State.countBlock_resp (o n : Nat) : (s.countBlock o n).resp = s.resp := rfl
@[simp] theorem State.countBlock_regs (o n : Nat) : (s.countBlock o n).regs = s.regs := rfl
@[simp] theorem State.countBlock_mem (o n : Nat) : (s.countBlock o n).mem = s.mem := rfl
@[simp] theorem State.countBlock_ecc (o n : Nat) : (s.countBlock o n).ecc = s.ecc := rfl
@[simp] theorem State.countBlock_threads (o n : Nat) : (s.countBlock o n).threads = s.threads := rfl
@[simp] theorem State.countBlock_latches (o n : Nat) : (s.countBlock o n).latches = s.latches := rfl
@[simp] theorem State.countBlock_cores (o n : Nat) : (s.countBlock o n).cores = s.cores := rfl
@[simp] theorem State.countBlock_spareMap (o n : Nat) : (s.countBlock o n).spareMap = s.spareMap := rfl
@[simp] theorem State.countBlock_flashMap (o n : Nat) : (s.countBlock o n).flashMap = s.flashMap := rfl
@[simp] theorem State.countBlock_retiredMap (o n : Nat) : (s.countBlock o n).retiredMap = s.retiredMap := rfl
@[simp] theorem State.countBlock_epochs (o n : Nat) : (s.countBlock o n).epochs = s.epochs := rfl
@[simp] theorem State.countBlock_handovers (o n : Nat) : (s.countBlock o n).handovers = s.handovers := rfl
@[simp] theorem State.countBlock_heldAcc (o n : Nat) : (s.countBlock o n).heldAcc = s.heldAcc := rfl
@[simp] theorem State.countBlock_releases (o n : Nat) : (s.countBlock o n).releases = s.releases := rfl
@[simp] theorem State.countBlock_resetAcks (o n : Nat) : (s.countBlock o n).resetAcks = s.resetAcks := rfl
@[simp] theorem State.countBlock_arrays (o n : Nat) : (s.countBlock o n).arrays = s.arrays := rfl
@[simp] theorem State.countBlock_dma (o n : Nat) : (s.countBlock o n).dma = s.dma := rfl
@[simp] theorem State.countBlock_rings (o n : Nat) : (s.countBlock o n).rings = s.rings := rfl
@[simp] theorem State.countBlock_cmds (o n : Nat) : (s.countBlock o n).cmds = s.cmds := rfl
@[simp] theorem State.countBlock_parts (o n : Nat) : (s.countBlock o n).parts = s.parts := rfl
@[simp] theorem State.countBlock_host (o n : Nat) : (s.countBlock o n).host = s.host := rfl
@[simp] theorem State.countBlock_beat (o n : Nat) : (s.countBlock o n).beat = s.beat := rfl
@[simp] theorem State.countBlock_fab (o n : Nat) : (s.countBlock o n).fab = s.fab := rfl
@[simp] theorem State.countBlock_coll (o n : Nat) : (s.countBlock o n).coll = s.coll := rfl
@[simp] theorem State.countBlock_memx (o n : Nat) : (s.countBlock o n).memx = s.memx := rfl
@[simp] theorem State.countBlock_test (o n : Nat) : (s.countBlock o n).test = s.test := rfl
@[simp] theorem State.countBlock_pwr (o n : Nat) : (s.countBlock o n).pwr = s.pwr := rfl
@[simp] theorem State.countBlock_bays (o n : Nat) : (s.countBlock o n).bays = s.bays := rfl
@[simp] theorem State.countBlock_reports (o n : Nat) : (s.countBlock o n).reports = s.reports := rfl
@[simp] theorem State.countBlock_rseq (o n : Nat) : (s.countBlock o n).rseq = s.rseq := rfl
@[simp] theorem State.countBlock_rsent (o n : Nat) : (s.countBlock o n).rsent = s.rsent := rfl
@[simp] theorem State.countBlock_resend (o n : Nat) : (s.countBlock o n).resend = s.resend := rfl

end Sys2Proof.Machine
end

