-- ==== Sys2Proof/Laws/Tab.lean ====
section
/-! SUPPORT. The laws of sparse tables: read after write, writes elsewhere, the canonical form is kept. -/

namespace Sys2Proof.Machine

variable {α : Type}

theorem tget_tins_self (d : Nat → α) (t : Tab α) (k : Nat) (v : α) : tget d (tins t k v) k = v := by
  induction t with
  | nil => simp [tins, tget]
  | cons p t ih =>
    simp only [tins]
    split
    · simp [tget]
    · split
      · simp [tget]
      · rename_i h _
        simp [tget, h, ih]

theorem tget_tins_ne (d : Nat → α) (t : Tab α) (k j : Nat) (v : α) (hj : j ≠ k) :
    tget d (tins t k v) j = tget d t j := by
  induction t with
  | nil => simp [tins, tget, hj.symm]
  | cons p t ih =>
    simp only [tins]
    split
    · rename_i h
      simp [tget, h, hj.symm]
    · split
      · simp [tget, hj.symm]
      · simp [tget, ih]

theorem tget_tdel_self (d : Nat → α) (t : Tab α) (k : Nat) : tget d (tdel t k) k = d k := by
  induction t with
  | nil => rfl
  | cons p t ih =>
    by_cases h : p.1 = k
    · simpa [tdel, h] using ih
    · simpa [tdel, h, tget] using ih

theorem tget_tdel_ne (d : Nat → α) (t : Tab α) (k j : Nat) (hj : j ≠ k) : tget d (tdel t k) j = tget d t j := by
  induction t with
  | nil => rfl
  | cons p t ih =>
    by_cases h : p.1 = k
    · have hp : p.1 ≠ j := fun e => hj (e.symm.trans h)
      have : tdel (p :: t) k = tdel t k := by simp [tdel, h]
      rw [this, ih]
      simp [tget, hp]
    · have : tdel (p :: t) k = p :: tdel t k := by simp [tdel, h]
      rw [this]
      simp [tget, ih]

/-- Reading what was written. -/
theorem tget_tput_self [DecidableEq α] (d : Nat → α) (t : Tab α) (k : Nat) (v : α) :
    tget d (tput d t k v) k = v := by
  unfold tput
  split
  · rename_i h
    rw [tget_tdel_self, h]
  · exact tget_tins_self d t k v

/-- A write leaves every other key alone. -/
theorem tget_tput_ne [DecidableEq α] (d : Nat → α) (t : Tab α) (k j : Nat) (v : α) (hj : j ≠ k) :
    tget d (tput d t k v) j = tget d t j := by
  unfold tput
  split
  · exact tget_tdel_ne d t k j hj
  · exact tget_tins_ne d t k j v hj

/-- A write at `k`, read at `j`. -/
theorem tget_tput [DecidableEq α] (d : Nat → α) (t : Tab α) (k j : Nat) (v : α) :
    tget d (tput d t k v) j = if j = k then v else tget d t j := by
  split
  · rename_i h
    rw [h, tget_tput_self]
  · rename_i h
    exact tget_tput_ne d t k j v h

theorem mem_tins (t : Tab α) (k : Nat) (v : α) (p : Nat × α) : p ∈ tins t k v → p = (k, v) ∨ p ∈ t := by
  induction t with
  | nil => simp [tins]
  | cons q t ih =>
    simp only [tins]
    split
    · intro h
      rcases List.mem_cons.mp h with h | h
      · exact .inl h
      · exact .inr (List.mem_cons_of_mem _ h)
    · split
      · intro h
        rcases List.mem_cons.mp h with h | h
        · exact .inl h
        · exact .inr h
      · intro h
        rcases List.mem_cons.mp h with h | h
        · exact .inr (h ▸ List.mem_cons_self)
        · rcases ih h with h | h
          · exact .inl h
          · exact .inr (List.mem_cons_of_mem _ h)

theorem tins_sorted (t : Tab α) (k : Nat) (v : α) (hw : t.Pairwise (fun p q => p.1 < q.1)) :
    (tins t k v).Pairwise (fun p q => p.1 < q.1) := by
  induction t with
  | nil => simp [tins]
  | cons q t ih =>
    have hw' := List.pairwise_cons.mp hw
    simp only [tins]
    split
    · rename_i h
      exact List.pairwise_cons.mpr ⟨fun p hp => by simpa [← h] using hw'.1 p hp, hw'.2⟩
    · split
      · rename_i h
        refine List.pairwise_cons.mpr ⟨fun p hp => ?_, hw⟩
        rcases List.mem_cons.mp hp with hp | hp
        · simpa [hp] using h
        · exact Nat.lt_trans h (hw'.1 p hp)
      · rename_i h1 h2
        refine List.pairwise_cons.mpr ⟨fun p hp => ?_, ih hw'.2⟩
        rcases mem_tins t k v p hp with hp | hp
        · simp only [hp]; omega
        · exact hw'.1 p hp

/-- A write keeps the canonical form. -/
theorem tput_wf [DecidableEq α] (d : Nat → α) (t : Tab α) (k : Nat) (v : α) (hw : Tab.wf d t) : Tab.wf d (tput d t k v) := by
  unfold tput
  split
  · exact ⟨hw.1.filter _, fun p hp => hw.2 p (List.mem_filter.mp hp).1⟩
  · rename_i h
    refine ⟨tins_sorted t k v hw.1, fun p hp => ?_⟩
    rcases mem_tins t k v p hp with hp | hp
    · simpa [hp] using h
    · exact hw.2 p hp

/-- Clearing a range keeps the canonical form. -/
theorem tclear_wf (d : Nat → α) (t : Tab α) (a n : Nat) (hw : Tab.wf d t) : Tab.wf d (tclear t a n) :=
  ⟨hw.1.filter _, fun p hp => hw.2 p (List.mem_filter.mp hp).1⟩

end Sys2Proof.Machine
end

