-- ==== Sys2Proof/Laws/Ops.lean ====
section
/-! SUPPORT. What the shared operations do, said once: reads after writes of the state's tables, and the fields that counting, logging and
interrupts touch. -/

namespace Sys2Proof.Machine

/-! ### Tables -/

theorem tdel_tins {α : Type} (t : Tab α) (k : Nat) (v : α) : tdel (tins t k v) k = tdel t k := by
  induction t with
  | nil => simp [tins, tdel]
  | cons p t ih =>
    simp only [tins]
    split
    · rename_i h; simp [tdel, h]
    · split
      · simp [tdel]
      · rename_i h _
        simp only [tdel] at ih ⊢
        rw [List.filter_cons, List.filter_cons, ih]

theorem tins_tins {α : Type} (t : Tab α) (k : Nat) (v w : α) : tins (tins t k v) k w = tins t k w := by
  induction t with
  | nil => simp [tins]
  | cons p t ih =>
    simp only [tins]
    split
    · simp [tins]
    · rename_i h
      split
      · simp [tins]
      · rename_i h2; simp [tins, h, h2, ih]

/-- Two writes of one key, the first of a listed value. -/
theorem tput_tput {α : Type} [DecidableEq α] (d : Nat → α) (t : Tab α) (k : Nat) (v w : α) (hv : v ≠ d k) :
    tput d (tput d t k v) k w = tput d t k w := by
  simp only [tput, if_neg hv]
  split
  · exact tdel_tins t k v
  · exact tins_tins t k v w

@[simp] theorem State.thr_setThr_self (s : State) (c t : Nat) (x : Thread) : (s.setThr c t x).thr c t = x := tget_tput_self _ _ _ _
theorem State.thr_setThr_ne (s : State) (c t c' t' : Nat) (x : Thread) (ht : t < 32) (ht' : t' < 32) (h : (c', t') ≠ (c, t)) :
    (s.setThr c t x).thr c' t' = s.thr c' t' := by
  refine tget_tput_ne _ _ _ _ _ (fun e => h ?_)
  have h1 : c' = c := by omega
  have h2 : t' = t := by omega
  rw [h1, h2]
@[simp] theorem State.core_setCore_self (s : State) (c : Nat) (x : Core) : (s.setCore c x).core c = x := tget_tput_self _ _ _ _
@[simp] theorem State.arr_setArr_self (s : State) (c : Nat) (x : Arr) : (s.setArr c x).arr c = x := tget_tput_self _ _ _ _
@[simp] theorem State.ring_setRing_self (s : State) (c : Nat) (x : Ring) : (s.setRing c x).ring c = x := tget_tput_self _ _ _ _
@[simp] theorem State.part_setPart_self (s : State) (c : Nat) (x : Part) : (s.setPart c x).part c = x := tget_tput_self _ _ _ _
@[simp] theorem State.chan_setChan_self (s : State) (c : Nat) (x : Chan) : (s.setChan c x).chan c = x := tget_tput_self _ _ _ _
@[simp] theorem State.port_setPort_self (s : State) (c : Nat) (x : Port) : (s.setPort c x).port c = x := tget_tput_self _ _ _ _
@[simp] theorem State.dmaq_setDmaq_self (s : State) (c : Nat) (x : List DmaJob) : (s.setDmaq c x).dmaq c = x := tget_tput_self _ _ _ _
@[simp] theorem State.bay_setBay_self (s : State) (c : Nat) (x : Bay) : (s.setBay c x).bay c = x := tget_tput_self _ _ _ _
@[simp] theorem State.latch_setLatch_self (s : State) (i j : Nat) (x : W128) : (s.setLatch i j x).latch i j = x := tget_tput_self _ _ _ _
@[simp] theorem State.rd_wr_self (s : State) (o : Nat) (v : W32) : (s.wr o v).rd o = v := tget_tput_self _ _ _ _
theorem State.rd_wr_ne (s : State) (o o' : Nat) (v : W32) (h : o' ≠ o) : (s.wr o v).rd o' = s.rd o' := tget_tput_ne _ _ _ _ _ h

/-- Two writes of one thread's context, the first of a thread that is not as at reset. -/
theorem State.setThr_setThr (s : State) (c t : Nat) (x y : Thread) (hx : x ≠ {}) : (s.setThr c t x).setThr c t y = s.setThr c t y := by
  simp only [State.setThr, tput_tput (fun _ => ({} : Thread)) s.threads (32 * c + t) x y hx]

/-! ### Counting touches the counters only -/

theorem State.countTrack_only (s : State) (x w n : Nat) (r : Req) : s.countTrack x w n r = { s with cnt := (s.countTrack x w n r).cnt } := by
  unfold State.countTrack
  split <;> rfl

theorem State.count_only (s : State) (r : Req) (w n : Nat) : s.count r w n = { s with cnt := (s.count r w n).cnt } := by
  unfold State.count
  split
  · rfl
  · cases r.part with
    | none => rfl
    | some p =>
      simp only [List.foldl]
      rw [State.countTrack_only]
      rw [State.countTrack_only (State.countTrack _ _ _ _ _)]
      rw [State.countTrack_only { s with cnt := _ }]

end Sys2Proof.Machine
end

