-- ==== Sys2Proof/Laws/Bundle.lean ====
section
/-! SUPPORT. What a bundle of one slot does (R161, R163, R204): cited in place of the issue logic. -/

namespace Sys2Proof.Machine

/-- The thread's context when a bundle of the one slot o issues. -/
def SlotOut.thread (o : SlotOut) (y : Thread) : Thread :=
  let x1 := { y with bundle := [], pc := o.target.getD (y.pc + 32) }
  match o.load with
  | some (.globalStore, _, a) => o.writes.foldl Thread.put { x1 with outs := x1.outs ++ [⟨.globalStore, false, [], y.pc, a⟩] }
  | some (k, po, a) => { x1 with outs := x1.outs ++ [⟨k, po, o.writes, y.pc, a⟩] }
  | none => o.writes.foldl Thread.put x1

/-- The slots of a bundle of one slot: C.FENCE aside, and with no fence in the way. -/
theorem bundleOuts_one (i : Instr) (s : State) (c t : Nat) (o : SlotOut) (ho : slotOut i s c t = some o)
    (hf : (s.thr c t).fence = false ∨ (∀ q ∈ (s.thr c t).outs, q.kind ≠ .globalStore ∧ q.kind ≠ .atomic) ∨ o.kind ≠ 3) (hi : ∀ x, i ≠ .cFence x) : bundleOuts [i] s c t = [o] := by
  unfold bundleOuts
  simp only [List.filterMap_cons, List.filterMap_nil, ho, Option.map_some]
  split
  · rfl
  · exact absurd rfl (hi _)
  · split
    · rename_i hw
      simp only [Bool.and_eq_true, decide_eq_true_eq, List.any_eq_true, Bool.or_eq_true] at hw
      obtain ⟨⟨h1, q, hq, h2⟩, h3⟩ := hw
      rcases hf with hf | hf | hf
      · simp [hf] at h1
      · rcases h2 with h2 | h2
        · exact absurd h2 (hf q hq).1
        · exact absurd h2 (hf q hq).2
      · exact absurd h3 hf
    · rfl

theorem sharesReg_false {a b : List RegRef} : sharesReg a b = false ↔ ∀ r ∈ a, r ∉ b := by
  simp [sharesReg]

/-- A slot alone in its bundle, with no cause and nothing in its way, issues: the thread's context, then the slot's own action, then the
end of the thread under S.END; the rest is counting. -/
theorem issueSlot_alone (i : Instr) (s : State) (x : Issue) (o : SlotOut) (hm : x.more = false)
    (hst : (s.thr x.core x.thread).st = .ready) (hb : (s.thr x.core x.thread).bundle = []) (hi : s.issues x.core = true)
    (ho : slotOut i s x.core x.thread = some o) (houts : bundleOuts [i] s x.core x.thread = [o])
    (hc : o.cause = none) (hr : o.ready = true) (hs : ∀ r ∈ o.srcs ++ o.dsts, r ∉ (s.thr x.core x.thread).pendingRegs)
    (hl : ∀ k p a, o.load = some (k, p, a) → k = .localLoad ∨ s.room x.core x.thread) :
    ∃ r b k1 k2, s.issueSlot x i =
      ((let s2 := o.act ((((s.marked x.core).setThr x.core x.thread (o.thread (s.thr x.core x.thread))).count r 18 1).countBlock k1 1)
        if o.ends then s2.setThr x.core x.thread (s2.thr x.core x.thread).free else s2).count r 19 b).countBlock k2 b := by
  refine ⟨s.reqThr x.core x.thread, (vecCycles i), 0x20000 + 256 * x.core + 128, 0x20000 + 256 * x.core + 136, ?_⟩
  have hcause : bundleCauses [o] = [] := by simp [bundleCauses, conflictKind, hc]
  have hel : s.eligible x.core x.thread [o] = true := by
    unfold State.eligible
    have h1 : sharesReg o.srcs (s.thr x.core x.thread).pendingRegs = false :=
      sharesReg_false.mpr (fun r hr => hs r (List.mem_append_left _ hr))
    have h2 : sharesReg o.dsts (s.thr x.core x.thread).pendingRegs = false :=
      sharesReg_false.mpr (fun r hr => hs r (List.mem_append_right _ hr))
    simp only [List.all_cons, List.all_nil, hr, h1, h2, List.any_cons, List.any_nil, Bool.not_false, Bool.and_true, Bool.true_and, Bool.or_false]
    cases hload : o.load with
    | none => simp
    | some q =>
      obtain ⟨k, p, a⟩ := q
      rcases hl k p a hload with h | h
      · simp [h]
      · have h1 := h.1
        simp only [ne_eq, decide_not] at h1
        simp [h1, h.2]
  have hasc : ascending ([i].filterMap (fun i => slotKind i s x.core x.thread)) = true := by
    simp [slotKind, ho, ascending]
  unfold State.issueSlot State.issueOuts
  simp only [hst, hi, hb, hm, List.nil_append, hasc, ne_eq, not_true_eq_false, decide_false, Bool.not_true, Bool.or_self, Bool.false_eq_true, if_false]
  rw [houts]
  simp only [hel, hcause, List.isEmpty_nil, Bool.and_self, if_true, List.map_cons, List.map_nil, List.foldl_cons, List.foldl_nil, Nat.zero_add]
  unfold State.runBundle
  simp only [hel, hcause, Bool.not_true, Bool.false_eq_true, if_false, List.flatMap_cons, List.flatMap_nil, List.append_nil,
    List.any_cons, List.any_nil, Bool.or_false, List.findSome?_cons, List.findSome?_nil]
  have hlive : (if (o.load.any (fun l => l.2.1)) = true then [o].filter (fun o => o.load.isSome) else [o]) = [o] := by
    cases h : o.load with
    | none => simp
    | some q => simp [h]
  rw [hlive]
  simp only [List.foldl_cons, List.foldl_nil, List.any_cons, List.any_nil, Bool.or_false]
  unfold SlotOut.thread
  cases o.target with
  | none =>
    cases o.load with
    | none => rfl
    | some q => obtain ⟨k, p, a⟩ := q; cases k <;> rfl
  | some w =>
    cases o.load with
    | none => rfl
    | some q => obtain ⟨k, p, a⟩ := q; cases k <;> rfl

/-- A slot whose own action leaves the state alone but for the counters: its bundle only changes the thread. -/
theorem ran_of_slot (i : Instr) (s : State) (x : Issue) (o : SlotOut) (regs : List RegRef) (y : Thread) (he : exec i s = slotStep s x i)
    (hi : s.mayIssue x regs) (ho : slotOut i s x.core x.thread = some o) (hf : ∀ z, i ≠ .cFence z)
    (hfence : s.fenceClear x ∨ o.kind ≠ 3)
    (hc : o.cause = none) (hr : o.ready = true) (hsub : ∀ r ∈ o.srcs ++ o.dsts, r ∈ regs)
    (hl : ∀ k p a, o.load = some (k, p, a) → k = .localLoad ∨ s.room x.core x.thread) (hend : o.ends = false)
    (hy : ∀ u : State, u.thr x.core x.thread = o.thread (s.thr x.core x.thread) →
      u = { (s.marked x.core).setThr x.core x.thread (o.thread (s.thr x.core x.thread)) with cnt := u.cnt } →
      o.act u = { (s.marked x.core).setThr x.core x.thread y with cnt := (o.act u).cnt, freeCtr := (o.act u).freeCtr }) :
    Ran i s x y := by
  obtain ⟨hm, hst, hb, his, hp⟩ := hi
  obtain ⟨r, b, k1, k2, h⟩ := issueSlot_alone i s x o hm hst hb his ho
    (bundleOuts_one i s _ _ o ho (by rcases hfence with (h | h) | h; exacts [.inl h, .inr (.inl h), .inr (.inr h)]) hf) hc hr (fun r hr => hp r (hsub r hr)) hl
  refine ⟨_, he, ?_⟩
  rw [h]
  simp only [hend, Bool.false_eq_true, if_false]
  rw [State.count_only]
  generalize hu : (((s.marked x.core).setThr x.core x.thread (o.thread (s.thr x.core x.thread))).count r 18 1).countBlock k1 1 = u
  have e := State.count_only ((s.marked x.core).setThr x.core x.thread (o.thread (s.thr x.core x.thread))) r 18 1
  have h1 : u = { (s.marked x.core).setThr x.core x.thread (o.thread (s.thr x.core x.thread)) with cnt := u.cnt } := by
    rw [← hu, e]; rfl
  have h2 : u.thr x.core x.thread = o.thread (s.thr x.core x.thread) := by
    rw [h1]; exact State.thr_setThr_self (s.marked x.core) _ _ _
  rw [hy u h2 h1]
  rfl

/-- A slot with no action of its own. -/
theorem ran_pure (i : Instr) (s : State) (x : Issue) (o : SlotOut) (regs : List RegRef) (y : Thread) (he : exec i s = slotStep s x i)
    (hi : s.mayIssue x regs) (ho : slotOut i s x.core x.thread = some o) (hf : ∀ z, i ≠ .cFence z) (hk : o.kind ≠ 3)
    (hc : o.cause = none) (hr : o.ready = true) (hsub : ∀ r ∈ o.srcs ++ o.dsts, r ∈ regs) (hl : o.load = none) (hend : o.ends = false)
    (hact : o.act = fun s => s) (hy : o.thread (s.thr x.core x.thread) = y) : Ran i s x y := by
  refine ran_of_slot i s x o regs y he hi ho hf (Or.inr hk) hc hr hsub (by simp [hl]) hend ?_
  intro u h1 h2
  have hu : u.freeCtr = s.freeCtr := by rw [h2]; rfl
  subst hy
  rw [hact]
  show u = _
  rw [hu]
  exact h2

end Sys2Proof.Machine
end

