-- ==== Sys2Proof/Laws/Keeps.lean ====
section
/-! SUPPORT. What every operation keeps: the canonical form of memory and registers, and the queue of waiting commands. -/

namespace Sys2Proof.Machine

/-- t keeps what s had: if memory and registers of s are in canonical form so are those of t, and the same commands wait. -/
def Keeps (s t : State) : Prop := (s.canonical → t.canonical) ∧ t.pending = s.pending

theorem Keeps.refl (s : State) : Keeps s s := ⟨fun h => h, rfl⟩
theorem Keeps.trans {s t u : State} (h : Keeps s t) (k : Keeps t u) : Keeps s u := ⟨fun c => k.1 (h.1 c), k.2.trans h.2⟩

/-- An update of other fields. -/
theorem Keeps.same {u s t : State} (k : Keeps u s) (hm : t.mem = s.mem) (hr : t.regs = s.regs) (hp : t.pending = s.pending) :
    Keeps u t :=
  ⟨fun c => ⟨hm ▸ (k.1 c).1, hr ▸ (k.1 c).2⟩, hp.trans k.2⟩

/-- An update of memory. -/
theorem Keeps.memory {u s t : State} (k : Keeps u s) (hm : Memory.wf s.mem → Memory.wf t.mem) (hr : t.regs = s.regs)
    (hp : t.pending = s.pending) : Keeps u t :=
  ⟨fun c => ⟨hm (k.1 c).1, hr ▸ (k.1 c).2⟩, hp.trans k.2⟩

/-- An update of the register file and of memory. -/
theorem Keeps.both {u s t : State} (k : Keeps u s) (hm : Memory.wf s.mem → Memory.wf t.mem) (hr : Regs.wf s.regs → Regs.wf t.regs)
    (hp : t.pending = s.pending) : Keeps u t :=
  ⟨fun c => ⟨hm (k.1 c).1, hr (k.1 c).2⟩, hp.trans k.2⟩

theorem Keeps.foldl {α : Type} {u s : State} {f : State → α → State} {l : List α} (k : Keeps u s)
    (h : ∀ t x, Keeps u t → Keeps u (f t x)) : Keeps u (l.foldl f s) := by
  induction l generalizing s with
  | nil => exact k
  | cons x l ih => exact ih (h s x k)

/-- A record update that leaves memory, registers and the queue as they are in s. -/
theorem Keeps.update {u s : State} (k : Keeps u s) {a_freeCtr} {a_resp} {a_ecc} {a_threads} {a_latches} {a_cores} {a_spareMap}
    {a_flashMap} {a_retiredMap} {a_epochs} {a_handovers} {a_heldAcc} {a_releases} {a_resetAcks} {a_arrays} {a_dma} {a_rings} {a_cmds}
    {a_parts} {a_host} {a_beat} {a_fab} {a_coll} {a_memx} {a_test} {a_pwr} {a_cnt} {a_bays} {a_reports} {a_rseq} {a_rsent} {a_resend}
    :
Keeps u (State.mk s.pending a_freeCtr a_resp s.regs s.mem a_ecc a_threads a_latches a_cores a_spareMap a_flashMap a_retiredMap
    a_epochs a_handovers a_heldAcc a_releases a_resetAcks a_arrays a_dma a_rings a_cmds a_parts a_host a_beat a_fab a_coll a_memx
    a_test a_pwr a_cnt a_bays a_reports a_rseq a_rsent a_resend) := k.same rfl rfl rfl

/-- A record update that empties memory. -/
theorem Keeps.emptied {u s : State} (k : Keeps u s) {a_freeCtr} {a_resp} {a_ecc} {a_threads} {a_latches} {a_cores} {a_spareMap}
    {a_flashMap} {a_retiredMap} {a_epochs} {a_handovers} {a_heldAcc} {a_releases} {a_resetAcks} {a_arrays} {a_dma} {a_rings} {a_cmds}
    {a_parts} {a_host} {a_beat} {a_fab} {a_coll} {a_memx} {a_test} {a_pwr} {a_cnt} {a_bays} {a_reports} {a_rseq} {a_rsent} {a_resend}
    :
Keeps u (State.mk s.pending a_freeCtr a_resp s.regs ([] : List Host.Cell) a_ecc a_threads a_latches a_cores a_spareMap a_flashMap a_retiredMap
    a_epochs a_handovers a_heldAcc a_releases a_resetAcks a_arrays a_dma a_rings a_cmds a_parts a_host a_beat a_fab a_coll a_memx
    a_test a_pwr a_cnt a_bays a_reports a_rseq a_rsent a_resend) := k.both (fun _ => ⟨List.Pairwise.nil, by simp⟩) id rfl

theorem Keeps.foldl_fst {α β : Type} {u : State} {f : State × β → α → State × β} {l : List α} {a : State × β} (k : Keeps u a.1)
    (h : ∀ a x, Keeps u a.1 → Keeps u (f a x).1) : Keeps u (l.foldl f a).1 := by
  induction l generalizing a with
  | nil => exact k
  | cons x l ih => exact ih (h a x k)

theorem Keeps.foldl_mem {α : Type} {u s : State} {f : State → α → State} {l : List α} (k : Keeps u s)
    (h : ∀ t, ∀ x ∈ l, Keeps u t → Keeps u (f t x)) : Keeps u (l.foldl f s) := by
  induction l generalizing s with
  | nil => exact k
  | cons x l ih => exact ih (h s x List.mem_cons_self k) (fun t y hy => h t y (List.mem_cons_of_mem _ hy))

theorem Keeps.getD {u s : State} {r : Option State} (k : Keeps u s) (h : ∀ t, r = some t → Keeps u t) : Keeps u (r.getD s) := by
  cases r with
  | none => exact k
  | some t => exact h t rfl

/-- Say of an intermediate state that it keeps what u had, and go on with that. -/
theorem Keeps.cut {u v : State} {P : Prop} (h : Keeps u v) (k : Keeps u v → P) : P := k h

theorem filter_wf {α : Type} (d : Nat → α) (t : Tab α) (f : Nat × α → Bool) (h : Tab.wf d t) : Tab.wf d (t.filter f) :=
  ⟨h.1.filter _, fun p hp => h.2 p (List.mem_filter.mp hp).1⟩

/-- Memory stays in canonical form under a write of bytes. -/
theorem putBytes_wf (m : List Host.Cell) (a : Nat) (b : List Byte) (h : Memory.wf m) : Memory.wf (putBytes m a b) := by
  induction b generalizing m a with
  | nil => exact h
  | cons x b ih => exact ih _ _ (tput_wf _ m a x h)

theorem State.wr_keeps {u s : State} (k : Keeps u s) (off : Nat) (v : W32) : Keeps u (s.wr off v) :=
  k.both id (tput_wf _ _ _ _) rfl
theorem State.flipByte_keeps {u s : State} (k : Keeps u s) (a e : Nat) : Keeps u (s.flipByte a e) := k.memory (tput_wf _ _ _ _) rfl rfl
theorem State.setDelta_keeps {u s : State} (k : Keeps u s) (g d : Nat) : Keeps u (s.setDelta g d) := k.same rfl rfl rfl

/-- The action of a slot keeps what the state had. -/
def SlotOut.keeps (o : SlotOut) : Prop := ∀ u t, Keeps u t → Keeps u (o.act t)

theorem SlotOut.keeps_mk {kind : Nat} {cause : Option Nat} {ready : Bool} {srcs dsts : List RegRef} {writes : List RegWrite}
    {target : Option W64} {load : Option (AccKind × Bool × List Nat)} {consumed : List Nat} {act : State → State} {ends : Bool}
    (h : ∀ u t, Keeps u t → Keeps u (act t)) : (SlotOut.mk kind cause ready srcs dsts writes target load consumed act ends).keeps := h

end Sys2Proof.Machine
end

