-- ==== Sys2Proof/Laws/KeepsOps.lean ====
section
/-! SUPPORT. Each operation of the state keeps the canonical form of memory and registers and the queue: one lemma per operation, in the
order of the files under Machine. A lemma takes what the state before the operation has kept, so that lemmas chain. -/

namespace Sys2Proof.Machine

set_option linter.all false

theorem State.wrF_keeps {u s : State} (k : Keeps u s) (off hi lo v : Nat) : Keeps u (State.wrF s off hi lo v) := by
  unfold State.wrF
  repeat' first
    | with_reducible assumption | with_reducible apply State.wr_keeps

theorem State.wrB_keeps {u s : State} (k : Keeps u s) (off i : Nat) (b : Bool) : Keeps u (State.wrB s off i b) := by
  unfold State.wrB
  repeat' first
    | with_reducible assumption | with_reducible apply State.wr_keeps

theorem State.incF_keeps {u s : State} (k : Keeps u s) (off hi lo n : Nat) : Keeps u (State.incF s off hi lo n) := by
  unfold State.incF
  repeat' first
    | with_reducible assumption | with_reducible apply State.wrF_keeps

theorem State.wr64_keeps {u s : State} (k : Keeps u s) (off v : Nat) : Keeps u (State.wr64 s off v) := by
  unfold State.wr64
  repeat' first
    | with_reducible assumption | with_reducible apply State.wr_keeps

theorem State.closeInj_keeps {u s : State} (k : Keeps u s) : Keeps u (State.closeInj s) := by
  unfold State.closeInj
  split
  · exact k
  · exact Keeps.both k id (filter_wf _ _ _) rfl

theorem State.plainReg_keeps {u s : State} (k : Keeps u s) (off : Nat) (val : W32) : Keeps u (State.plainReg s off val) := by
  unfold State.plainReg
  repeat' first
    | with_reducible assumption | with_reducible apply State.wr_keeps
    | (intro v; refine Keeps.cut (u := u) (v := v) ?_ ?_; on_goal 1 => dsimp -zeta only [v]) | intro _ | lift_lets -underBinder | split
    | fail_if_no_progress with_reducible apply Keeps.update

theorem State.setThr_keeps {u s : State} (k : Keeps u s) (c t : Nat) (x : Thread) : Keeps u (State.setThr s c t x) := by
  unfold State.setThr
  repeat' first
    | with_reducible assumption | (intro v; refine Keeps.cut (u := u) (v := v) ?_ ?_; on_goal 1 => dsimp -zeta only [v]) | intro _
    | lift_lets -underBinder | fail_if_no_progress with_reducible apply Keeps.update | dsimp -zeta only

theorem State.setCore_keeps {u s : State} (k : Keeps u s) (c : Nat) (x : Core) : Keeps u (State.setCore s c x) := by
  unfold State.setCore
  repeat' first
    | with_reducible assumption | (intro v; refine Keeps.cut (u := u) (v := v) ?_ ?_; on_goal 1 => dsimp -zeta only [v]) | intro _
    | lift_lets -underBinder | fail_if_no_progress with_reducible apply Keeps.update | dsimp -zeta only

theorem State.setArr_keeps {u s : State} (k : Keeps u s) (a : Nat) (x : Arr) : Keeps u (State.setArr s a x) := by
  unfold State.setArr
  repeat' first
    | with_reducible assumption | (intro v; refine Keeps.cut (u := u) (v := v) ?_ ?_; on_goal 1 => dsimp -zeta only [v]) | intro _
    | lift_lets -underBinder | fail_if_no_progress with_reducible apply Keeps.update | dsimp -zeta only

theorem State.setRing_keeps {u s : State} (k : Keeps u s) (n : Nat) (x : Ring) : Keeps u (State.setRing s n x) := by
  unfold State.setRing
  repeat' first
    | with_reducible assumption | (intro v; refine Keeps.cut (u := u) (v := v) ?_ ?_; on_goal 1 => dsimp -zeta only [v]) | intro _
    | lift_lets -underBinder | fail_if_no_progress with_reducible apply Keeps.update | dsimp -zeta only

theorem State.setPart_keeps {u s : State} (k : Keeps u s) (p : Nat) (x : Part) : Keeps u (State.setPart s p x) := by
  unfold State.setPart
  repeat' first
    | with_reducible assumption | (intro v; refine Keeps.cut (u := u) (v := v) ?_ ?_; on_goal 1 => dsimp -zeta only [v]) | intro _
    | lift_lets -underBinder | fail_if_no_progress with_reducible apply Keeps.update | dsimp -zeta only

theorem State.setChan_keeps {u s : State} (k : Keeps u s) (c : Nat) (x : Chan) : Keeps u (State.setChan s c x) := by
  unfold State.setChan
  repeat' first
    | with_reducible assumption | (intro v; refine Keeps.cut (u := u) (v := v) ?_ ?_; on_goal 1 => dsimp -zeta only [v]) | intro _
    | lift_lets -underBinder | fail_if_no_progress with_reducible apply Keeps.update | dsimp -zeta only

theorem State.setPort_keeps {u s : State} (k : Keeps u s) (p : Nat) (x : Port) : Keeps u (State.setPort s p x) := by
  unfold State.setPort
  repeat' first
    | with_reducible assumption | (intro v; refine Keeps.cut (u := u) (v := v) ?_ ?_; on_goal 1 => dsimp -zeta only [v]) | intro _
    | lift_lets -underBinder | fail_if_no_progress with_reducible apply Keeps.update | dsimp -zeta only

theorem State.setDmaq_keeps {u s : State} (k : Keeps u s) (k_ : Nat) (x : List DmaJob) : Keeps u (State.setDmaq s k_ x) := by
  unfold State.setDmaq
  repeat' first
    | with_reducible assumption | (intro v; refine Keeps.cut (u := u) (v := v) ?_ ?_; on_goal 1 => dsimp -zeta only [v]) | intro _
    | lift_lets -underBinder | fail_if_no_progress with_reducible apply Keeps.update | dsimp -zeta only

theorem State.setBay_keeps {u s : State} (k : Keeps u s) (c : Nat) (x : Bay) : Keeps u (State.setBay s c x) := by
  unfold State.setBay
  repeat' first
    | with_reducible assumption | (intro v; refine Keeps.cut (u := u) (v := v) ?_ ?_; on_goal 1 => dsimp -zeta only [v]) | intro _
    | lift_lets -underBinder | fail_if_no_progress with_reducible apply Keeps.update

theorem State.bump_keeps {u s : State} (k : Keeps u s) : Keeps u (State.bump s) := by
  unfold State.bump
  repeat' first
    | with_reducible assumption | (intro v; refine Keeps.cut (u := u) (v := v) ?_ ?_; on_goal 1 => dsimp -zeta only [v]) | intro _
    | lift_lets -underBinder | fail_if_no_progress with_reducible apply Keeps.update

theorem State.answer_keeps {u s : State} (k : Keeps u s) (b : List Byte) : Keeps u (State.answer s b) := by
  unfold State.answer
  repeat' first
    | with_reducible assumption | (intro v; refine Keeps.cut (u := u) (v := v) ?_ ?_; on_goal 1 => dsimp -zeta only [v]) | intro _
    | lift_lets -underBinder | fail_if_no_progress with_reducible apply Keeps.update

theorem State.hostWrite_keeps {u s : State} (k : Keeps u s) (a : Nat) (b : List Byte) : Keeps u (State.hostWrite s a b) := by
  unfold State.hostWrite
  repeat' first
    | with_reducible assumption | with_reducible apply Keeps.foldl | with_reducible apply Keeps.foldl_fst
    | (intro v; refine Keeps.cut (u := u) (v := v) ?_ ?_; on_goal 1 => dsimp -zeta only [v])
    | (intro v; refine Keeps.cut (u := u) (v := v.1) ?_ ?_; on_goal 1 => dsimp -zeta only [v]) | intro _ | lift_lets -underBinder
    | fail_if_no_progress with_reducible apply Keeps.update | dsimp -zeta only

theorem State.irq_keeps {u s : State} (k : Keeps u s) (v : Nat) : Keeps u (State.irq s v) := by
  unfold State.irq
  repeat' first
    | with_reducible assumption | (intro v; refine Keeps.cut (u := u) (v := v) ?_ ?_; on_goal 1 => dsimp -zeta only [v]) | intro _
    | lift_lets -underBinder | split | fail_if_no_progress with_reducible apply Keeps.update | dsimp -zeta only

theorem State.errRecord_keeps {u s : State} (k : Keeps u s) (r : Report) : Keeps u (State.errRecord s r) := by
  unfold State.errRecord
  repeat' first
    | with_reducible assumption | with_reducible apply State.hostWrite_keeps | with_reducible apply State.irq_keeps
    | with_reducible apply State.summary_keeps | (intro v; refine Keeps.cut (u := u) (v := v) ?_ ?_; on_goal 1 => dsimp -zeta only [v])
    | intro _ | lift_lets -underBinder | split | fail_if_no_progress with_reducible apply Keeps.update | dsimp -zeta only

theorem State.putReport_keeps {u s : State} (k : Keeps u s) (r : Report) : Keeps u (State.putReport s r) := by
  unfold State.putReport
  repeat' first
    | with_reducible assumption | with_reducible apply State.errRecord_keeps
    | (intro v; refine Keeps.cut (u := u) (v := v) ?_ ?_; on_goal 1 => dsimp -zeta only [v]) | intro _ | lift_lets -underBinder | split
    | fail_if_no_progress with_reducible apply Keeps.update

theorem State.setRate_keeps {u s : State} (k : Keeps u s) (code : Nat) (x : Rate) : Keeps u (State.setRate s code x) := by
  unfold State.setRate
  repeat' first
    | with_reducible assumption | (intro v; refine Keeps.cut (u := u) (v := v) ?_ ?_; on_goal 1 => dsimp -zeta only [v]) | intro _
    | lift_lets -underBinder | fail_if_no_progress with_reducible apply Keeps.update | dsimp -zeta only

theorem State.summary_keeps {u s : State} (k : Keeps u s) (code : Nat) : Keeps u (State.summary s code) := by
  unfold State.summary
  repeat' first
    | with_reducible assumption | with_reducible apply State.putReport_keeps | with_reducible apply State.setRate_keeps
    | (intro v; refine Keeps.cut (u := u) (v := v) ?_ ?_; on_goal 1 => dsimp -zeta only [v]) | intro _ | lift_lets -underBinder | split
    | fail_if_no_progress with_reducible apply Keeps.update | dsimp -zeta only

theorem State.dueSummaries_keeps {u s : State} (k : Keeps u s) : Keeps u (State.dueSummaries s) := by
  unfold State.dueSummaries
  repeat' first
    | with_reducible assumption | with_reducible apply State.summary_keeps | with_reducible apply Keeps.foldl
    | with_reducible apply Keeps.foldl_fst | intro _ | split | dsimp -zeta only

theorem State.report_keeps {u s : State} (k : Keeps u s) (r : Report) : Keeps u (State.report s r) := by
  unfold State.report
  repeat' first
    | with_reducible assumption | with_reducible apply State.putReport_keeps | with_reducible apply State.setRate_keeps
    | with_reducible apply State.summary_keeps | (intro v; refine Keeps.cut (u := u) (v := v) ?_ ?_; on_goal 1 => dsimp -zeta only [v])
    | intro _ | lift_lets -underBinder | split | fail_if_no_progress with_reducible apply Keeps.update | dsimp -zeta only

theorem State.event_keeps {u s : State} (k : Keeps u s) (unit sev inst : Nat) (err : W16) : Keeps u (State.event s unit sev inst err) := by
  unfold State.event
  repeat' first
    | with_reducible assumption | with_reducible apply State.report_keeps

theorem State.logSession_keeps {u s : State} (k : Keeps u s) (c : Option Nat) (code : W16) (off : Nat) : Keeps u (State.logSession s c code
    off) := by
  unfold State.logSession
  repeat' first
    | with_reducible assumption | with_reducible apply State.setChan_keeps
    | (intro v; refine Keeps.cut (u := u) (v := v) ?_ ?_; on_goal 1 => dsimp -zeta only [v]) | intro _ | lift_lets -underBinder | split
    | fail_if_no_progress with_reducible apply Keeps.update | dsimp -zeta only

theorem State.countTrack_keeps {u s : State} (k : Keeps u s) (x w n : Nat) (r : Req) : Keeps u (State.countTrack s x w n r) := by
  unfold State.countTrack
  repeat' first
    | with_reducible assumption | with_reducible apply State.overlap_keeps
    | (intro v; refine Keeps.cut (u := u) (v := v) ?_ ?_; on_goal 1 => dsimp -zeta only [v]) | intro _ | lift_lets -underBinder | split
    | fail_if_no_progress with_reducible apply Keeps.update | dsimp -zeta only

theorem State.count_keeps {u s : State} (k : Keeps u s) (r : Req) (w n : Nat) : Keeps u (State.count s r w n) := by
  unfold State.count
  repeat' first
    | with_reducible assumption | with_reducible apply State.countTrack_keeps | with_reducible apply Keeps.foldl
    | with_reducible apply Keeps.foldl_fst | (intro v; refine Keeps.cut (u := u) (v := v) ?_ ?_; on_goal 1 => dsimp -zeta only [v])
    | intro _ | lift_lets -underBinder | split | fail_if_no_progress with_reducible apply Keeps.update | dsimp -zeta only

theorem State.countBlock_keeps {u s : State} (k : Keeps u s) (off n : Nat) : Keeps u (State.countBlock s off n) := by
  unfold State.countBlock
  repeat' first
    | with_reducible assumption | (intro v; refine Keeps.cut (u := u) (v := v) ?_ ?_; on_goal 1 => dsimp -zeta only [v]) | intro _
    | lift_lets -underBinder | fail_if_no_progress with_reducible apply Keeps.update | dsimp -zeta only

theorem State.setChanSt_keeps {u s : State} (k : Keeps u s) (st c v pos : Nat) : Keeps u (State.setChanSt s st c v pos) := by
  unfold State.setChanSt
  repeat' first
    | with_reducible assumption | with_reducible apply State.wrF_keeps

theorem State.startRebuild_keeps {u s : State} (k : Keeps u s) (st : Nat) : Keeps u (State.startRebuild s st) := by
  unfold State.startRebuild
  repeat' first
    | with_reducible assumption | with_reducible apply State.wrF_keeps | with_reducible apply State.setChanSt_keeps
    | (intro v; refine Keeps.cut (u := u) (v := v) ?_ ?_; on_goal 1 => dsimp -zeta only [v]) | intro _ | lift_lets -underBinder | split
    | fail_if_no_progress with_reducible apply Keeps.update | dsimp -zeta only

theorem State.eraseChan_keeps {u s : State} (k : Keeps u s) (st c : Nat) (only : Bool) : Keeps u (State.eraseChan s st c only) := by
  unfold State.eraseChan
  repeat' first
    | with_reducible assumption | with_reducible apply State.wrF_keeps | with_reducible apply State.report_keeps
    | with_reducible apply State.event_keeps | with_reducible apply State.startRebuild_keeps
    | (intro v; refine Keeps.cut (u := u) (v := v) ?_ ?_; on_goal 1 => dsimp -zeta only [v]) | intro _ | lift_lets -underBinder | split
    | fail_if_no_progress with_reducible apply Keeps.update | dsimp -zeta only

theorem State.setPeriod_keeps {u s : State} (k : Keeps u s) (p : Nat) : Keeps u (State.setPeriod s p) := by
  unfold State.setPeriod
  repeat' first
    | with_reducible assumption | with_reducible apply State.wrF_keeps
    | (intro v; refine Keeps.cut (u := u) (v := v) ?_ ?_; on_goal 1 => dsimp -zeta only [v]) | intro _ | lift_lets -underBinder
    | fail_if_no_progress with_reducible apply Keeps.update

theorem State.bucket_keeps {u s : State} (k : Keeps u s) (k_ : Nat) : Keeps u (State.bucket s k_) := by
  unfold State.bucket
  repeat' first
    | with_reducible assumption | with_reducible apply State.wrF_keeps | with_reducible apply State.wrB_keeps
    | with_reducible apply State.incF_keeps | with_reducible apply State.setCore_keeps | with_reducible apply State.event_keeps
    | with_reducible apply State.eraseChan_keeps | (intro v; refine Keeps.cut (u := u) (v := v) ?_ ?_; on_goal 1 => dsimp -zeta only [v])
    | intro _ | lift_lets -underBinder | split | fail_if_no_progress with_reducible apply Keeps.update | dsimp -zeta only

theorem State.dramCorrected_keeps {u s : State} (k : Keeps u s) (g pos : Nat) : Keeps u (State.dramCorrected s g pos) := by
  unfold State.dramCorrected
  repeat' first
    | with_reducible assumption | with_reducible apply State.countBlock_keeps | with_reducible apply State.eraseChan_keeps
    | with_reducible apply State.bucket_keeps | (intro v; refine Keeps.cut (u := u) (v := v) ?_ ?_; on_goal 1 => dsimp -zeta only [v])
    | (intro v; refine Keeps.cut (u := u) (v := v.1) ?_ ?_; on_goal 1 => dsimp -zeta only [v]) | intro _ | lift_lets -underBinder | split
    | fail_if_no_progress with_reducible apply Keeps.update | dsimp -zeta only

theorem State.ue_keeps {u s : State} (k : Keeps u s) (g : Nat) : Keeps u (State.ue s g) := by
  unfold State.ue
  repeat' first
    | with_reducible assumption | with_reducible apply State.report_keeps | with_reducible apply State.countBlock_keeps
    | with_reducible apply State.setDelta_keeps | (intro v; refine Keeps.cut (u := u) (v := v) ?_ ?_; on_goal 1 => dsimp -zeta only [v])
    | intro _ | lift_lets -underBinder | split | dsimp -zeta only

theorem State.fixPos_keeps {u s : State} (k : Keeps u s) (g d i : Nat) : Keeps u (State.fixPos s g d i) := by
  unfold State.fixPos
  repeat' first
    | with_reducible assumption | with_reducible apply State.flipByte_keeps | with_reducible apply Keeps.foldl
    | with_reducible apply Keeps.foldl_fst | intro _ | split | dsimp -zeta only

theorem State.flipMask_keeps {u s : State} (k : Keeps u s) (g : Nat) : Keeps u (State.flipMask s g) := by
  unfold State.flipMask
  repeat' first
    | with_reducible assumption | with_reducible apply State.wrB_keeps | with_reducible apply State.setDelta_keeps
    | with_reducible apply State.flipByte_keeps | with_reducible apply Keeps.foldl | with_reducible apply Keeps.foldl_fst
    | (intro v; refine Keeps.cut (u := u) (v := v) ?_ ?_; on_goal 1 => dsimp -zeta only [v])
    | (intro v; refine Keeps.cut (u := u) (v := v.1) ?_ ?_; on_goal 1 => dsimp -zeta only [v]) | intro _ | lift_lets -underBinder | split
    | fail_if_no_progress with_reducible apply Keeps.update | dsimp -zeta only

theorem State.tagFix_keeps {u s : State} (k : Keeps u s) (g tag : Nat) : Keeps u (State.tagFix s g tag) := by
  unfold State.tagFix
  repeat' first
    | with_reducible assumption | with_reducible apply State.bucket_keeps | split | dsimp -zeta only

theorem State.correctPos_keeps {u s : State} (k : Keeps u s) (g d i : Nat) (po erased : Bool) : Keeps u (State.correctPos s g d i po
    erased).1 := by
  unfold State.correctPos
  repeat' first
    | with_reducible assumption | with_reducible apply State.setDelta_keeps | with_reducible apply State.dramCorrected_keeps
    | with_reducible apply State.fixPos_keeps | (intro v; refine Keeps.cut (u := u) (v := v) ?_ ?_; on_goal 1 => dsimp -zeta only [v])
    | intro _ | lift_lets -underBinder | split | fail_if_no_progress with_reducible apply Keeps.update | dsimp -zeta only

theorem State.decodeGran_keeps {u s : State} (k : Keeps u s) (g : Nat) : Keeps u (State.decodeGran s g).1 := by
  unfold State.decodeGran
  repeat' first
    | with_reducible assumption | with_reducible apply State.setDelta_keeps | with_reducible apply State.bucket_keeps
    | with_reducible apply State.ue_keeps | with_reducible apply State.flipByte_keeps | with_reducible apply State.tagFix_keeps
    | with_reducible apply State.correctPos_keeps | (intro v; refine Keeps.cut (u := u) (v := v) ?_ ?_; on_goal 1 => dsimp -zeta only [v])
    | intro _ | lift_lets -underBinder | split | fail_if_no_progress with_reducible apply Keeps.update | dsimp -zeta only

theorem State.readGran_keeps {u s : State} (k : Keeps u s) (g : Nat) : Keeps u (State.readGran s g).1 := by
  unfold State.readGran
  repeat' first
    | with_reducible assumption | with_reducible apply State.flipMask_keeps | with_reducible apply State.decodeGran_keeps
    | (intro v; refine Keeps.cut (u := u) (v := v) ?_ ?_; on_goal 1 => dsimp -zeta only [v])
    | (intro v; refine Keeps.cut (u := u) (v := v.1) ?_ ?_; on_goal 1 => dsimp -zeta only [v]) | intro _ | lift_lets -underBinder | split
    | fail_if_no_progress with_reducible apply Keeps.update | dsimp -zeta only

theorem State.readMem_keeps {u s : State} (k : Keeps u s) (pa n : Nat) : Keeps u (State.readMem s pa n).1 := by
  unfold State.readMem
  repeat' first
    | with_reducible assumption | with_reducible apply State.readGran_keeps | with_reducible apply Keeps.foldl
    | with_reducible apply Keeps.foldl_fst | (intro v; refine Keeps.cut (u := u) (v := v) ?_ ?_; on_goal 1 => dsimp -zeta only [v])
    | (intro v; refine Keeps.cut (u := u) (v := v.1) ?_ ?_; on_goal 1 => dsimp -zeta only [v]) | intro _ | lift_lets -underBinder | split
    | fail_if_no_progress with_reducible apply Keeps.update | dsimp -zeta only

theorem State.writeGran_keeps {u s : State} (k : Keeps u s) (g off : Nat) (b : List Byte) (poison : Bool) :
    Keeps u (s.writeGran g off b poison) := by
  unfold State.writeGran
  extract_lets full r m
  have ht : Keeps u r.1 := by
    dsimp only [r]
    split
    · exact k
    · exact State.decodeGran_keeps k g
  have hm : Keeps u ({ r.1 with mem := m } : State) :=
    Keeps.memory ht (fun w => putBytes_wf _ _ _ (putBytes_wf _ _ _ w)) rfl rfl
  exact State.flipMask_keeps (State.setDelta_keeps hm _ _) _

theorem State.writeMem_keeps {u s : State} (k : Keeps u s) (pa : Nat) (b : List Byte) (pois : List Nat) : Keeps u (State.writeMem s pa b
    pois) := by
  unfold State.writeMem
  repeat' first
    | with_reducible assumption | with_reducible apply State.writeGran_keeps | with_reducible apply Keeps.foldl
    | with_reducible apply Keeps.foldl_fst | (intro v; refine Keeps.cut (u := u) (v := v) ?_ ?_; on_goal 1 => dsimp -zeta only [v])
    | intro _ | lift_lets -underBinder | split | dsimp -zeta only

theorem State.zeroFill_keeps {u s : State} (k : Keeps u s) (pa n : Nat) : Keeps u (s.zeroFill pa n) := by
  unfold State.zeroFill
  extract_lets t
  have ht : Keeps u t := Keeps.memory k (tclear_wf _ _ _ _) rfl rfl
  split
  · split
    · exact State.flipMask_keeps ht _
    · exact ht
  · exact ht

theorem State.ctlWrite_keeps {u s : State} (k : Keeps u s) (pa : Nat) (b : List Byte) : Keeps u (State.ctlWrite s pa b) := by
  unfold State.ctlWrite
  repeat' first
    | with_reducible assumption | with_reducible apply State.event_keeps | with_reducible apply State.writeMem_keeps | split
    | dsimp -zeta only

theorem State.cross_keeps {u s : State} (k : Keeps u s) (r : Req) (home n : Nat) (wr : Bool) : Keeps u (State.cross s r home n wr) := by
  unfold State.cross
  repeat' first
    | with_reducible assumption | with_reducible apply State.count_keeps | with_reducible apply State.countBlock_keeps | split
    | dsimp -zeta only

theorem State.countMem_keeps {u s : State} (k : Keeps u s) (r : Req) (pa n : Nat) (wr : Bool) : Keeps u (State.countMem s r pa n wr) := by
  unfold State.countMem
  repeat' first
    | with_reducible assumption | with_reducible apply State.count_keeps | with_reducible apply State.countBlock_keeps
    | with_reducible apply State.cross_keeps | with_reducible apply Keeps.foldl | with_reducible apply Keeps.foldl_fst
    | (intro v; refine Keeps.cut (u := u) (v := v) ?_ ?_; on_goal 1 => dsimp -zeta only [v]) | intro _ | lift_lets -underBinder | split
    | fail_if_no_progress with_reducible apply Keeps.update | dsimp -zeta only

theorem State.logPoison_keeps {u s : State} (k : Keeps u s) (unit inst a : Nat) (r : Req) : Keeps u (State.logPoison s unit inst a r) := by
  unfold State.logPoison
  repeat' first
    | with_reducible assumption | with_reducible apply State.report_keeps | intro _

theorem State.epochDrop_keeps {u s : State} (k : Keeps u s) (c : Nat) : Keeps u (State.epochDrop s c) := by
  unfold State.epochDrop
  repeat' first
    | with_reducible assumption | with_reducible apply State.wr_keeps | with_reducible apply State.event_keeps

theorem State.putTrace_keeps {u s : State} (k : Keeps u s) (y : Nat) (r : TraceRec) : Keeps u (State.putTrace s y r) := by
  unfold State.putTrace
  repeat' first
    | with_reducible assumption | with_reducible apply State.ctlWrite_keeps
    | (intro v; refine Keeps.cut (u := u) (v := v) ?_ ?_; on_goal 1 => dsimp -zeta only [v]) | intro _ | lift_lets -underBinder | split
    | fail_if_no_progress with_reducible apply Keeps.update | dsimp -zeta only

theorem State.traceTo_keeps {u s : State} (k : Keeps u s) (y : Nat) (w : Option Nat) (r : TraceRec) : Keeps u (State.traceTo s y w r) := by
  unfold State.traceTo
  repeat' first
    | with_reducible assumption | with_reducible apply State.putTrace_keeps
    | (intro v; refine Keeps.cut (u := u) (v := v) ?_ ?_; on_goal 1 => dsimp -zeta only [v])
    | (intro v; refine Keeps.cut (u := u) (v := v.1) ?_ ?_; on_goal 1 => dsimp -zeta only [v]) | intro _ | lift_lets -underBinder | split
    | fail_if_no_progress with_reducible apply Keeps.update | dsimp -zeta only

theorem State.trace_keeps {u s : State} (k : Keeps u s) (p type unit inst : Nat) (r : Req) (data : Nat) : Keeps u (State.trace s p type unit
    inst r data) := by
  unfold State.trace
  repeat' first
    | with_reducible assumption | with_reducible apply State.traceTo_keeps
    | (intro v; refine Keeps.cut (u := u) (v := v) ?_ ?_; on_goal 1 => dsimp -zeta only [v]) | intro _ | lift_lets -underBinder | split
    | dsimp -zeta only

theorem State.traceModule_keeps {u s : State} (k : Keeps u s) (type unit inst data : Nat) : Keeps u (State.traceModule s type unit inst
    data) := by
  unfold State.traceModule
  repeat' first
    | with_reducible assumption | with_reducible apply State.traceTo_keeps

theorem State.spareUsed_keeps {u s : State} (k : Keeps u s) (unit inst : Nat) : Keeps u (State.spareUsed s unit inst) := by
  unfold State.spareUsed
  repeat' first
    | with_reducible assumption | with_reducible apply State.event_keeps | with_reducible apply State.traceModule_keeps

theorem State.noSpare_keeps {u s : State} (k : Keeps u s) (unit inst : Nat) : Keeps u (State.noSpare s unit inst) := by
  unfold State.noSpare
  repeat' first
    | with_reducible assumption | with_reducible apply State.event_keeps

theorem State.ungate_keeps {u s : State} (k : Keeps u s) (c : Nat) : Keeps u (State.ungate s c) := by
  unfold State.ungate
  repeat' first
    | with_reducible assumption | with_reducible apply State.wrB_keeps

theorem State.letGo_keeps {u s : State} (k : Keeps u s) (c t : Nat) : Keeps u (State.letGo s c t) := by
  unfold State.letGo
  repeat' first
    | with_reducible assumption | with_reducible apply State.setThr_keeps | with_reducible apply State.setPart_keeps
    | with_reducible apply State.ungate_keeps | (intro v; refine Keeps.cut (u := u) (v := v) ?_ ?_; on_goal 1 => dsimp -zeta only [v])
    | intro _ | lift_lets -underBinder | split | fail_if_no_progress with_reducible apply Keeps.update | dsimp -zeta only

theorem State.raise_keeps {u s : State} (k : Keeps u s) (c t cause slot : Nat) (second : Bool) (pc : W64) : Keeps u (State.raise s c t cause
    slot second pc) := by
  unfold State.raise
  repeat' first
    | with_reducible assumption | with_reducible apply State.setThr_keeps | with_reducible apply State.setCore_keeps
    | (intro v; refine Keeps.cut (u := u) (v := v) ?_ ?_; on_goal 1 => dsimp -zeta only [v]) | intro _ | lift_lets -underBinder | split
    | fail_if_no_progress with_reducible apply Keeps.update | dsimp -zeta only

theorem State.setLatch_keeps {u s : State} (k : Keeps u s) (i j : Nat) (v : W128) : Keeps u (State.setLatch s i j v) := by
  unfold State.setLatch
  repeat' first
    | with_reducible assumption | (intro v; refine Keeps.cut (u := u) (v := v) ?_ ?_; on_goal 1 => dsimp -zeta only [v]) | intro _
    | lift_lets -underBinder | fail_if_no_progress with_reducible apply Keeps.update | dsimp -zeta only

theorem State.wake_keeps {u s : State} (k : Keeps u s) (i t : Nat) (wstat : W16) : Keeps u (State.wake s i t wstat) := by
  unfold State.wake
  repeat' first
    | with_reducible assumption | with_reducible apply State.setThr_keeps | with_reducible apply State.ungate_keeps
    | (intro v; refine Keeps.cut (u := u) (v := v) ?_ ?_; on_goal 1 => dsimp -zeta only [v]) | intro _ | lift_lets -underBinder | split
    | fail_if_no_progress with_reducible apply Keeps.update

theorem State.latchTest_keeps {u s : State} (k : Keeps u s) (i j : Nat) : Keeps u (State.latchTest s i j) := by
  unfold State.latchTest
  repeat' first
    | with_reducible assumption | with_reducible apply State.wake_keeps | with_reducible apply Keeps.foldl
    | with_reducible apply Keeps.foldl_fst | (intro v; refine Keeps.cut (u := u) (v := v) ?_ ?_; on_goal 1 => dsimp -zeta only [v])
    | intro _ | lift_lets -underBinder | split | fail_if_no_progress with_reducible apply Keeps.update | dsimp -zeta only

theorem State.latchAdd_keeps {u s : State} (k : Keeps u s) (i j : Nat) (v : W64) : Keeps u (State.latchAdd s i j v) := by
  unfold State.latchAdd
  repeat' first
    | with_reducible assumption | with_reducible apply State.incF_keeps | with_reducible apply State.setLatch_keeps
    | with_reducible apply State.latchTest_keeps | (intro v; refine Keeps.cut (u := u) (v := v) ?_ ?_; on_goal 1 => dsimp -zeta only [v])
    | intro _ | lift_lets -underBinder | split | dsimp -zeta only

theorem State.latchRaise_keeps {u s : State} (k : Keeps u s) (i j : Nat) (v : W64) : Keeps u (State.latchRaise s i j v) := by
  unfold State.latchRaise
  repeat' first
    | with_reducible assumption | with_reducible apply State.incF_keeps | with_reducible apply State.setLatch_keeps
    | with_reducible apply State.latchTest_keeps | (intro v; refine Keeps.cut (u := u) (v := v) ?_ ?_; on_goal 1 => dsimp -zeta only [v])
    | intro _ | lift_lets -underBinder | split | dsimp -zeta only

theorem State.latchSet_keeps {u s : State} (k : Keeps u s) (i j : Nat) (v : W64) (seq : W32) : Keeps u (State.latchSet s i j v seq) := by
  unfold State.latchSet
  repeat' first
    | with_reducible assumption | with_reducible apply State.incF_keeps | with_reducible apply State.setLatch_keeps
    | with_reducible apply State.latchTest_keeps | (intro v; refine Keeps.cut (u := u) (v := v) ?_ ?_; on_goal 1 => dsimp -zeta only [v])
    | intro _ | lift_lets -underBinder | split | dsimp -zeta only

theorem State.latchBreak_keeps {u s : State} (k : Keeps u s) (i j estat : Nat) : Keeps u (State.latchBreak s i j estat) := by
  unfold State.latchBreak
  repeat' first
    | with_reducible assumption | with_reducible apply State.trace_keeps | with_reducible apply State.setLatch_keeps
    | with_reducible apply State.wake_keeps | with_reducible apply Keeps.foldl | with_reducible apply Keeps.foldl_fst
    | (intro v; refine Keeps.cut (u := u) (v := v) ?_ ?_; on_goal 1 => dsimp -zeta only [v]) | intro _ | lift_lets -underBinder | split
    | fail_if_no_progress with_reducible apply Keeps.update | dsimp -zeta only

theorem State.latchWord_keeps {u s : State} (k : Keeps u s) (i j k_ : Nat) (v : W32) : Keeps u (State.latchWord s i j k_ v) := by
  unfold State.latchWord
  repeat' first
    | with_reducible assumption | with_reducible apply State.setLatch_keeps | with_reducible apply State.latchTest_keeps
    | with_reducible apply State.latchBreak_keeps | (intro v; refine Keeps.cut (u := u) (v := v) ?_ ?_; on_goal 1 => dsimp -zeta only [v])
    | intro _ | lift_lets -underBinder | split | dsimp -zeta only

theorem State.latchOp_keeps {u s : State} (k : Keeps u s) (i j : Nat) (o : LatchOp) : Keeps u (s.latchOp i j o) := by
  cases o with
  | add v => exact State.latchAdd_keeps k _ _ _
  | raise v => exact State.latchRaise_keeps k _ _ _
  | brk e => exact State.latchBreak_keeps k _ _ _
  | word a v => exact State.latchWord_keeps k _ _ _ _

theorem State.hold_keeps {u s : State} (k : Keeps u s) (i : Nat) (h : HeldAccess) : Keeps u (State.hold s i h) := by
  unfold State.hold
  repeat' first
    | with_reducible assumption | (intro v; refine Keeps.cut (u := u) (v := v) ?_ ?_; on_goal 1 => dsimp -zeta only [v]) | intro _
    | lift_lets -underBinder | fail_if_no_progress with_reducible apply Keeps.update

theorem State.extLatch_keeps {u s : State} (k : Keeps u s) (i j : Nat) (op : LatchOp) : Keeps u (State.extLatch s i j op) := by
  unfold State.extLatch
  repeat' first
    | with_reducible assumption | with_reducible apply State.hold_keeps | with_reducible apply State.latchOp_keeps | split
    | dsimp -zeta only

theorem State.breakOwned_keeps {u s : State} (k : Keeps u s) (p : Nat) (seq : W32) : Keeps u (State.breakOwned s p seq) := by
  unfold State.breakOwned
  repeat' first
    | with_reducible assumption | with_reducible apply State.extLatch_keeps | with_reducible apply Keeps.foldl
    | with_reducible apply Keeps.foldl_fst | (intro v; refine Keeps.cut (u := u) (v := v) ?_ ?_; on_goal 1 => dsimp -zeta only [v])
    | intro _ | lift_lets -underBinder | split | fail_if_no_progress with_reducible apply Keeps.update | dsimp -zeta only

theorem State.runBundle_keeps {u s : State} (k : Keeps u s) (c t : Nat) (outs : List SlotOut)
    (ho : ∀ o ∈ outs, ∀ t, Keeps u t → Keeps u (o.act t)) : Keeps u (s.runBundle c t outs) := by
  unfold State.runBundle
  extract_lets x ws next x1 x2 r src s0 s1 live s2
  have h2 : Keeps u s2 := by
    refine Keeps.foldl_mem (State.countBlock_keeps (State.count_keeps (State.setThr_keeps (State.setCore_keeps k _ _) _ _ _) _ _ _) _ _)
      (fun t o hm h => ho o ?_ t h)
    dsimp only [live] at hm
    split at hm
    · exact (List.mem_filter.mp hm).1
    · exact hm
  clear_value s2
  split
  · exact State.setThr_keeps k _ _ _
  · split
    · exact Keeps.foldl (State.raise_keeps k _ _ _ _ _ _) (fun v x h => State.logPoison_keeps h _ _ _ _)
    · split
      · exact State.setThr_keeps h2 _ _ _
      · exact h2

theorem State.copyMem_keeps {u s : State} (k : Keeps u s) (src dst n : Nat) : Keeps u (State.copyMem s src dst n).1 := by
  unfold State.copyMem
  repeat' first
    | with_reducible assumption | with_reducible apply State.readMem_keeps | with_reducible apply State.writeMem_keeps
    | (intro v; refine Keeps.cut (u := u) (v := v) ?_ ?_; on_goal 1 => dsimp -zeta only [v])
    | (intro v; refine Keeps.cut (u := u) (v := v.1) ?_ ?_; on_goal 1 => dsimp -zeta only [v]) | intro _ | lift_lets -underBinder | split
    | fail_if_no_progress with_reducible apply Keeps.update | dsimp -zeta only

theorem State.updCmd_keeps {u s : State} (k : Keeps u s) (ring dc : Nat) (f : Cmd → Cmd) : Keeps u (State.updCmd s ring dc f) := by
  unfold State.updCmd
  repeat' first
    | with_reducible assumption | (intro v; refine Keeps.cut (u := u) (v := v) ?_ ?_; on_goal 1 => dsimp -zeta only [v]) | intro _
    | lift_lets -underBinder | split | fail_if_no_progress with_reducible apply Keeps.update | dsimp -zeta only

theorem State.endThreads_keeps {u s : State} (k : Keeps u s) (ring dc : Nat) : Keeps u (State.endThreads s ring dc) := by
  unfold State.endThreads
  repeat' first
    | with_reducible assumption | with_reducible apply Keeps.foldl | with_reducible apply Keeps.foldl_fst
    | (intro v; refine Keeps.cut (u := u) (v := v) ?_ ?_; on_goal 1 => dsimp -zeta only [v])
    | (intro v; refine Keeps.cut (u := u) (v := v.1) ?_ ?_; on_goal 1 => dsimp -zeta only [v]) | intro _ | lift_lets -underBinder | split
    | fail_if_no_progress with_reducible apply Keeps.update | dsimp -zeta only

theorem State.haltRing_keeps {u s : State} (k : Keeps u s) (n cause : Nat) (err : W16) : Keeps u (State.haltRing s n cause err) := by
  unfold State.haltRing
  repeat' first
    | with_reducible assumption | with_reducible apply State.setRing_keeps
    | (intro v; refine Keeps.cut (u := u) (v := v) ?_ ?_; on_goal 1 => dsimp -zeta only [v]) | intro _ | lift_lets -underBinder | split
    | fail_if_no_progress with_reducible apply Keeps.update | dsimp -zeta only

theorem State.failCmd_keeps {u s : State} (k : Keeps u s) (ring dc : Nat) (code : W16) (detail : Nat) : Keeps u (State.failCmd s ring dc
    code detail) := by
  unfold State.failCmd
  repeat' first
    | with_reducible assumption | with_reducible apply State.report_keeps | with_reducible apply State.breakOwned_keeps
    | with_reducible apply State.updCmd_keeps | with_reducible apply State.endThreads_keeps | with_reducible apply State.haltRing_keeps
    | (intro v; refine Keeps.cut (u := u) (v := v) ?_ ?_; on_goal 1 => dsimp -zeta only [v]) | intro _ | lift_lets -underBinder | split
    | fail_if_no_progress with_reducible apply Keeps.update | dsimp -zeta only

theorem State.recordLost_keeps {u s : State} (k : Keeps u s) (p : Nat) (bad : Bool) : Keeps u (State.recordLost s p bad) := by
  unfold State.recordLost
  repeat' first
    | with_reducible assumption | with_reducible apply State.failCmd_keeps | with_reducible apply Keeps.foldl
    | with_reducible apply Keeps.foldl_fst | intro _ | split | dsimp -zeta only

theorem State.ledgerStart_keeps {u s : State} (k : Keeps u s) (i : Nat) (seq : W32) (layer oper : W16) (part check : Nat) : Keeps u
    (State.ledgerStart s i seq layer oper part check) := by
  unfold State.ledgerStart
  repeat' first
    | with_reducible assumption | with_reducible apply State.wrB_keeps | with_reducible apply State.setCore_keeps
    | with_reducible apply State.ctlWrite_keeps | (intro v; refine Keeps.cut (u := u) (v := v) ?_ ?_; on_goal 1 => dsimp -zeta only [v])
    | intro _ | lift_lets -underBinder | split | fail_if_no_progress with_reducible apply Keeps.update | dsimp -zeta only

theorem State.blastReport_keeps {u s : State} (k : Keeps u s) (i : Nat) (err : W16) : Keeps u (State.blastReport s i err) := by
  unfold State.blastReport
  repeat' first
    | with_reducible assumption | with_reducible apply State.report_keeps | with_reducible apply Keeps.foldl
    | with_reducible apply Keeps.foldl_fst | (intro v; refine Keeps.cut (u := u) (v := v) ?_ ?_; on_goal 1 => dsimp -zeta only [v])
    | (intro v; refine Keeps.cut (u := u) (v := v.1) ?_ ?_; on_goal 1 => dsimp -zeta only [v]) | intro _ | lift_lets -underBinder | split
    | dsimp -zeta only

theorem State.countSpares_keeps {u s : State} (k : Keeps u s) (w : Nat) : Keeps u (State.countSpares s w) := by
  unfold State.countSpares
  repeat' first
    | with_reducible assumption | with_reducible apply State.wrF_keeps

theorem State.addDue_keeps {u s : State} (k : Keeps u s) (ring dc : Nat) (d : Due) : Keeps u (State.addDue s ring dc d) := by
  unfold State.addDue
  repeat' first
    | with_reducible assumption | with_reducible apply State.updCmd_keeps
    | (intro v; refine Keeps.cut (u := u) (v := v) ?_ ?_; on_goal 1 => dsimp -zeta only [v]) | intro _ | lift_lets -underBinder | split
    | fail_if_no_progress with_reducible apply Keeps.update | dsimp -zeta only

theorem State.readRanges_keeps {u s : State} (k : Keeps u s) (unit inst : Nat) (r : Req) (l : List (Nat × Nat)) : Keeps u (State.readRanges
    s unit inst r l).1 := by
  unfold State.readRanges
  repeat' first
    | with_reducible assumption | with_reducible apply State.readMem_keeps | with_reducible apply State.countMem_keeps
    | with_reducible apply State.logPoison_keeps | with_reducible apply Keeps.foldl | with_reducible apply Keeps.foldl_fst
    | (intro v; refine Keeps.cut (u := u) (v := v) ?_ ?_; on_goal 1 => dsimp -zeta only [v])
    | (intro v; refine Keeps.cut (u := u) (v := v.1) ?_ ?_; on_goal 1 => dsimp -zeta only [v]) | intro _ | lift_lets -underBinder | split
    | fail_if_no_progress with_reducible apply Keeps.update | dsimp -zeta only

theorem State.feed_keeps {u s : State} (k : Keeps u s) (inst : Nat) (r : Req) (f : Feed) : Keeps u (State.feed s inst r f).1 := by
  unfold State.feed
  repeat' first
    | with_reducible assumption | with_reducible apply State.readRanges_keeps | with_reducible apply Keeps.foldl
    | with_reducible apply Keeps.foldl_fst | (intro v; refine Keeps.cut (u := u) (v := v) ?_ ?_; on_goal 1 => dsimp -zeta only [v])
    | (intro v; refine Keeps.cut (u := u) (v := v.1) ?_ ?_; on_goal 1 => dsimp -zeta only [v]) | intro _ | lift_lets -underBinder | split
    | fail_if_no_progress with_reducible apply Keeps.update | dsimp -zeta only

theorem State.zeroTail_keeps {u s : State} (k : Keeps u s) (f pa n : Nat) : Keeps u (State.zeroTail s f pa n) := by
  unfold State.zeroTail
  repeat' first
    | with_reducible assumption | with_reducible apply State.writeMem_keeps
    | (intro v; refine Keeps.cut (u := u) (v := v) ?_ ?_; on_goal 1 => dsimp -zeta only [v]) | intro _ | lift_lets -underBinder | split

theorem State.overlap_keeps {u s new : State} (k : Keeps u new) (seen : List (Nat × Nat)) (o pa n : Nat) :
    Keeps u (s.overlap new seen o pa n) := by
  unfold State.overlap
  split
  · exact Keeps.foldl k (fun v x h => State.writeMem_keeps h _ _ _)
  · exact k

theorem State.bumpOverlap_keeps {u s : State} (k : Keeps u s) (l : List (Nat × Nat)) : Keeps u (s.bumpOverlap l) := by
  induction l with
  | nil => exact k
  | cons r l ih =>
    unfold State.bumpOverlap
    split
    · exact State.bump_keeps k
    · exact ih

theorem State.putCodes_keeps {u s : State} (k : Keeps u s) (f n : Nat) (rowMajor : Bool) (base : Nat → Nat) (codes : List (Nat × Nat × Nat))
    : Keeps u (State.putCodes s f n rowMajor base codes) := by
  unfold State.putCodes
  repeat' first
    | with_reducible assumption | with_reducible apply State.writeMem_keeps | with_reducible apply State.overlap_keeps
    | with_reducible apply State.bumpOverlap_keeps | with_reducible apply Keeps.foldl | with_reducible apply Keeps.foldl_fst
    | (intro v; refine Keeps.cut (u := u) (v := v) ?_ ?_; on_goal 1 => dsimp -zeta only [v])
    | (intro v; refine Keeps.cut (u := u) (v := v.1) ?_ ?_; on_goal 1 => dsimp -zeta only [v]) | intro _ | lift_lets -underBinder | split
    | dsimp -zeta only

theorem State.putScales_keeps {u s : State} (k : Keeps u s) (l : List (Nat × Byte)) : Keeps u (State.putScales s l) := by
  unfold State.putScales
  repeat' first
    | with_reducible assumption | with_reducible apply State.writeMem_keeps | with_reducible apply State.overlap_keeps
    | with_reducible apply State.bumpOverlap_keeps | with_reducible apply Keeps.foldl | with_reducible apply Keeps.foldl_fst
    | (intro v; refine Keeps.cut (u := u) (v := v) ?_ ?_; on_goal 1 => dsimp -zeta only [v])
    | (intro v; refine Keeps.cut (u := u) (v := v.1) ?_ ?_; on_goal 1 => dsimp -zeta only [v]) | intro _ | lift_lets -underBinder | split
    | dsimp -zeta only

theorem State.reroute_keeps {u s : State} (k : Keeps u s) : Keeps u (State.reroute s) := by
  unfold State.reroute
  repeat' first
    | with_reducible assumption | with_reducible apply State.wrB_keeps | with_reducible apply Keeps.foldl
    | with_reducible apply Keeps.foldl_fst | (intro v; refine Keeps.cut (u := u) (v := v) ?_ ?_; on_goal 1 => dsimp -zeta only [v])
    | intro _ | lift_lets -underBinder | split | dsimp -zeta only

theorem State.launch_keeps {u s t : State} (k : Keeps u s) {own : Bool} {p : Pkt} (h : s.launch own p = some t) : Keeps u t := by
  simp only [State.launch] at h
  split at h
  · injection h with h; exact h ▸ k.same rfl rfl rfl
  · injection h with h; exact h ▸ State.setPort_keeps k _ _
  · cases h

theorem State.sendStatus_keeps {u s : State} (k : Keeps u s) (p : Pkt) (code : W16) : Keeps u (State.sendStatus s p code) := by
  unfold State.sendStatus
  repeat' first
    | with_reducible assumption | with_reducible refine State.launch_keeps ?_ (by assumption)
    | (intro v; refine Keeps.cut (u := u) (v := v) ?_ ?_; on_goal 1 => dsimp -zeta only [v]) | intro _ | lift_lets -underBinder | split
    | fail_if_no_progress with_reducible apply Keeps.update | dsimp -zeta only

theorem State.sendPkt_keeps {u s : State} (k : Keeps u s) (p : Pkt) : Keeps u (State.sendPkt s p) := by
  unfold State.sendPkt
  repeat' first
    | with_reducible assumption | with_reducible apply State.sendStatus_keeps | with_reducible refine State.launch_keeps ?_ (by assumption)
    | (intro v; refine Keeps.cut (u := u) (v := v) ?_ ?_; on_goal 1 => dsimp -zeta only [v]) | intro _ | lift_lets -underBinder | split
    | fail_if_no_progress with_reducible apply Keeps.update | dsimp -zeta only

theorem State.crossOut_keeps {u s : State} (k : Keeps u s) (r : Req) (p : Pkt) : Keeps u (State.crossOut s r p) := by
  unfold State.crossOut
  repeat' first
    | with_reducible assumption | with_reducible apply State.cross_keeps
    | (intro v; refine Keeps.cut (u := u) (v := v) ?_ ?_; on_goal 1 => dsimp -zeta only [v]) | intro _ | lift_lets -underBinder | split
    | fail_if_no_progress with_reducible apply Keeps.update | dsimp -zeta only

theorem State.forwardPkt_keeps {u s : State} (k : Keeps u s) (p : Pkt) : Keeps u (State.forwardPkt s p) := by
  unfold State.forwardPkt
  repeat' first
    | with_reducible assumption | with_reducible apply State.sendStatus_keeps | with_reducible refine State.launch_keeps ?_ (by assumption)
    | (intro v; refine Keeps.cut (u := u) (v := v) ?_ ?_; on_goal 1 => dsimp -zeta only [v]) | intro _ | lift_lets -underBinder | split
    | fail_if_no_progress with_reducible apply Keeps.update | dsimp -zeta only

theorem State.sendBarrier_keeps {u s : State} (k : Keeps u s) (p dst daddr group : Nat) (round : W64) (op estat tag : Nat) : Keeps u
    (State.sendBarrier s p dst daddr group round op estat tag) := by
  unfold State.sendBarrier
  repeat' first
    | with_reducible assumption | with_reducible apply State.sendPkt_keeps

theorem State.sendArrival_keeps {u s : State} (k : Keeps u s) (p addr : Nat) (round : W64) (core latch : Nat) (child : Bool) : Keeps u
    (State.sendArrival s p addr round core latch child) := by
  unfold State.sendArrival
  repeat' first
    | with_reducible assumption | with_reducible apply State.bump_keeps | with_reducible apply State.sendBarrier_keeps
    | (intro v; refine Keeps.cut (u := u) (v := v) ?_ ?_; on_goal 1 => dsimp -zeta only [v])
    | (intro v; refine Keeps.cut (u := u) (v := v.1) ?_ ?_; on_goal 1 => dsimp -zeta only [v]) | intro _ | lift_lets -underBinder | split
    | fail_if_no_progress with_reducible apply Keeps.update | dsimp -zeta only

theorem State.readTensor_keeps {u s : State} (k : Keeps u s) (r : Req) (t : Tensor) (rows cols : Nat) : Keeps u (State.readTensor s r t rows
    cols).1 := by
  unfold State.readTensor
  repeat' first
    | with_reducible assumption | with_reducible apply State.readRanges_keeps
    | (intro v; refine Keeps.cut (u := u) (v := v) ?_ ?_; on_goal 1 => dsimp -zeta only [v])
    | (intro v; refine Keeps.cut (u := u) (v := v.1) ?_ ?_; on_goal 1 => dsimp -zeta only [v]) | intro _ | lift_lets -underBinder | split
    | fail_if_no_progress with_reducible apply Keeps.update | dsimp -zeta only

theorem State.landWrite_keeps {u s : State} (k : Keeps u s) (c t pa : Nat) (b : List Byte) : Keeps u (State.landWrite s c t pa b) := by
  unfold State.landWrite
  repeat' first
    | with_reducible assumption | with_reducible apply State.writeMem_keeps | with_reducible apply State.countMem_keeps
    | with_reducible apply State.hold_keeps | (intro v; refine Keeps.cut (u := u) (v := v) ?_ ?_; on_goal 1 => dsimp -zeta only [v])
    | intro _ | lift_lets -underBinder | split | fail_if_no_progress with_reducible apply Keeps.update | dsimp -zeta only

theorem State.globalWrite_keeps {u s : State} (k : Keeps u s) (c t pa : Nat) (b : List Byte) (work : Bool) : Keeps u (State.globalWrite s c
    t pa b work) := by
  unfold State.globalWrite
  repeat' first
    | with_reducible assumption | with_reducible apply State.epochDrop_keeps | with_reducible apply State.landWrite_keeps | intro _ | split
    | dsimp -zeta only

theorem State.claim_keeps {u s : State} (k : Keeps u s) (c t rec_ item : Nat) : Keeps u (State.claim s c t rec_ item) := by
  unfold State.claim
  repeat' first
    | with_reducible assumption | with_reducible apply State.readMem_keeps | with_reducible apply State.writeMem_keeps
    | with_reducible apply State.recordLost_keeps | (intro v; refine Keeps.cut (u := u) (v := v) ?_ ?_; on_goal 1 => dsimp -zeta only [v])
    | (intro v; refine Keeps.cut (u := u) (v := v.1) ?_ ?_; on_goal 1 => dsimp -zeta only [v]) | intro _ | lift_lets -underBinder | split
    | dsimp -zeta only

theorem State.sendWrites_keeps {u s : State} (k : Keeps u s) (r : Req) (vc dst daddr group tag dseq : Nat) (b : List Byte) (bad : List (Nat
    × Nat)) : Keeps u (State.sendWrites s r vc dst daddr group tag dseq b bad).1 := by
  unfold State.sendWrites
  repeat' first
    | with_reducible assumption | with_reducible apply State.count_keeps | with_reducible apply State.sendPkt_keeps
    | with_reducible apply State.crossOut_keeps | with_reducible apply Keeps.foldl | with_reducible apply Keeps.foldl_fst
    | (intro v; refine Keeps.cut (u := u) (v := v) ?_ ?_; on_goal 1 => dsimp -zeta only [v])
    | (intro v; refine Keeps.cut (u := u) (v := v.1) ?_ ?_; on_goal 1 => dsimp -zeta only [v]) | intro _ | lift_lets -underBinder | split
    | fail_if_no_progress with_reducible apply Keeps.update | dsimp -zeta only

theorem State.postLatch_keeps {u s : State} (k : Keeps u s) (r : Req) (a : Nat) (v : W64) (vc tag dseq : Nat) (g : Option Nat) : Keeps u
    (State.postLatch s r a v vc tag dseq g) := by
  unfold State.postLatch
  repeat' first
    | with_reducible assumption | with_reducible apply State.cross_keeps | with_reducible apply State.extLatch_keeps
    | with_reducible apply State.sendPkt_keeps | (intro v; refine Keeps.cut (u := u) (v := v) ?_ ?_; on_goal 1 => dsimp -zeta only [v])
    | intro _ | lift_lets -underBinder | split | fail_if_no_progress with_reducible apply Keeps.update | dsimp -zeta only

theorem State.dmaRead_keeps {u s : State} (k : Keeps u s) (r : Req) (src : DmaSrc) (n : Nat) : Keeps u (State.dmaRead s r src n).1 := by
  unfold State.dmaRead
  repeat' first
    | with_reducible assumption | with_reducible apply State.readMem_keeps | with_reducible apply State.countMem_keeps
    | (intro v; refine Keeps.cut (u := u) (v := v) ?_ ?_; on_goal 1 => dsimp -zeta only [v])
    | (intro v; refine Keeps.cut (u := u) (v := v.1) ?_ ?_; on_goal 1 => dsimp -zeta only [v]) | intro _ | lift_lets -underBinder | split
    | fail_if_no_progress with_reducible apply Keeps.update | dsimp -zeta only

theorem State.dmaMove_keeps {u s : State} (k : Keeps u s) (j : DmaJob) (q : Nat) (d : DmaD) : Keeps u (State.dmaMove s j q d).1 := by
  unfold State.dmaMove
  repeat' first
    | with_reducible assumption | with_reducible apply State.writeMem_keeps | with_reducible apply State.countMem_keeps
    | with_reducible apply State.hold_keeps | with_reducible apply State.overlap_keeps | with_reducible apply State.sendWrites_keeps
    | with_reducible apply State.dmaRead_keeps | with_reducible apply State.bumpOverlap_keeps | with_reducible apply Keeps.foldl
    | with_reducible apply Keeps.foldl_fst | (intro v; refine Keeps.cut (u := u) (v := v) ?_ ?_; on_goal 1 => dsimp -zeta only [v])
    | (intro v; refine Keeps.cut (u := u) (v := v.1) ?_ ?_; on_goal 1 => dsimp -zeta only [v]) | intro _ | lift_lets -underBinder | split
    | fail_if_no_progress with_reducible apply Keeps.update | dsimp -zeta only

theorem State.dmaStart_keeps {u s : State} (k : Keeps u s) (c q : Nat) : Keeps u (State.dmaStart s c q) := by
  unfold State.dmaStart
  repeat' first
    | with_reducible assumption | with_reducible apply State.setDmaq_keeps | with_reducible apply State.epochDrop_keeps
    | with_reducible apply State.dmaMove_keeps | (intro v; refine Keeps.cut (u := u) (v := v) ?_ ?_; on_goal 1 => dsimp -zeta only [v])
    | (intro v; refine Keeps.cut (u := u) (v := v.1) ?_ ?_; on_goal 1 => dsimp -zeta only [v]) | intro _ | lift_lets -underBinder | split
    | fail_if_no_progress with_reducible apply Keeps.update | dsimp -zeta only

theorem State.dmaComplete_keeps {u s : State} (k : Keeps u s) (c q : Nat) : Keeps u (State.dmaComplete s c q) := by
  unfold State.dmaComplete
  repeat' first
    | with_reducible assumption | with_reducible apply State.setDmaq_keeps | with_reducible apply State.count_keeps
    | with_reducible apply State.writeMem_keeps | with_reducible apply State.epochDrop_keeps | with_reducible apply State.trace_keeps
    | with_reducible apply State.hold_keeps | with_reducible apply State.failCmd_keeps | with_reducible apply State.postLatch_keeps
    | (intro v; refine Keeps.cut (u := u) (v := v) ?_ ?_; on_goal 1 => dsimp -zeta only [v]) | intro _ | lift_lets -underBinder | split
    | fail_if_no_progress with_reducible apply Keeps.update | dsimp -zeta only

theorem State.failJob_keeps {u s : State} (k : Keeps u s) (k_ dseq : Nat) (code : W16) : Keeps u (State.failJob s k_ dseq code).1 := by
  unfold State.failJob
  repeat' first
    | with_reducible assumption | with_reducible apply State.setDmaq_keeps
    | (intro v; refine Keeps.cut (u := u) (v := v) ?_ ?_; on_goal 1 => dsimp -zeta only [v]) | intro _ | lift_lets -underBinder | split
    | fail_if_no_progress with_reducible apply Keeps.update | dsimp -zeta only

theorem State.swapTracker_keeps {u s : State} (k : Keeps u s) (x : Nat) (seq : W32) (layer oper : W16) : Keeps u (State.swapTracker s x seq
    layer oper) := by
  unfold State.swapTracker
  repeat' first
    | with_reducible assumption | with_reducible apply State.wrB_keeps
    | (intro v; refine Keeps.cut (u := u) (v := v) ?_ ?_; on_goal 1 => dsimp -zeta only [v]) | intro _ | lift_lets -underBinder | split
    | fail_if_no_progress with_reducible apply Keeps.update | dsimp -zeta only

theorem State.followTrackers_keeps {u s : State} (k : Keeps u s) (k_ : Cmd) : Keeps u (State.followTrackers s k_) := by
  unfold State.followTrackers
  repeat' first
    | with_reducible assumption | with_reducible apply State.swapTracker_keeps | with_reducible apply Keeps.foldl
    | with_reducible apply Keeps.foldl_fst | (intro v; refine Keeps.cut (u := u) (v := v) ?_ ?_; on_goal 1 => dsimp -zeta only [v])
    | intro _ | lift_lets -underBinder | split | dsimp -zeta only

theorem State.refuse_keeps {u s : State} (k : Keeps u s) (k_ : Cmd) (code : W16) (order : Nat) : Keeps u (State.refuse s k_ code order) :=
    by
  unfold State.refuse
  repeat' first
    | with_reducible assumption | with_reducible apply State.updCmd_keeps | with_reducible apply State.failCmd_keeps
    | (intro v; refine Keeps.cut (u := u) (v := v) ?_ ?_; on_goal 1 => dsimp -zeta only [v]) | intro _ | lift_lets -underBinder
    | fail_if_no_progress with_reducible apply Keeps.update | dsimp -zeta only

theorem State.wcPoison_keeps {u s : State} (k : Keeps u s) (k_ : Cmd) (a : Nat) : Keeps u (State.wcPoison s k_ a) := by
  unfold State.wcPoison
  repeat' first
    | with_reducible assumption | with_reducible apply State.logPoison_keeps

theorem State.wcRead_keeps {u s : State} (k : Keeps u s) (k_ : Cmd) (a n : Nat) : Keeps u (State.wcRead s k_ a n).1 := by
  unfold State.wcRead
  repeat' first
    | with_reducible assumption | with_reducible apply State.readMem_keeps | with_reducible apply State.countMem_keeps
    | with_reducible apply State.wcPoison_keeps | with_reducible apply Keeps.foldl | with_reducible apply Keeps.foldl_fst
    | (intro v; refine Keeps.cut (u := u) (v := v) ?_ ?_; on_goal 1 => dsimp -zeta only [v])
    | (intro v; refine Keeps.cut (u := u) (v := v.1) ?_ ?_; on_goal 1 => dsimp -zeta only [v]) | intro _ | lift_lets -underBinder | split
    | fail_if_no_progress with_reducible apply Keeps.update | dsimp -zeta only

theorem State.checkCmd_keeps {u s : State} (k : Keeps u s) (k_ : Cmd) : Keeps u (State.checkCmd s k_) := by
  unfold State.checkCmd
  repeat' first
    | with_reducible assumption | with_reducible apply State.updCmd_keeps | with_reducible apply State.refuse_keeps
    | with_reducible apply State.wcRead_keeps | (intro v; refine Keeps.cut (u := u) (v := v) ?_ ?_; on_goal 1 => dsimp -zeta only [v])
    | (intro v; refine Keeps.cut (u := u) (v := v.1) ?_ ?_; on_goal 1 => dsimp -zeta only [v]) | intro _ | lift_lets -underBinder | split
    | fail_if_no_progress with_reducible apply Keeps.update | dsimp -zeta only

theorem State.descriptorTake_keeps {u s : State} (k : Keeps u s) (n : Nat) (hostBytes : List Byte) : Keeps u (State.descriptorTake s n
    hostBytes) := by
  unfold State.descriptorTake
  repeat' first
    | with_reducible assumption | with_reducible apply State.setRing_keeps | with_reducible apply State.count_keeps
    | with_reducible apply State.readMem_keeps | with_reducible apply State.countMem_keeps | with_reducible apply State.refuse_keeps
    | with_reducible apply State.wcPoison_keeps | with_reducible apply State.checkCmd_keeps | with_reducible apply Keeps.foldl
    | with_reducible apply Keeps.foldl_fst | (intro v; refine Keeps.cut (u := u) (v := v) ?_ ?_; on_goal 1 => dsimp -zeta only [v])
    | (intro v; refine Keeps.cut (u := u) (v := v.1) ?_ ?_; on_goal 1 => dsimp -zeta only [v]) | intro _ | lift_lets -underBinder | split
    | fail_if_no_progress with_reducible apply Keeps.update | dsimp -zeta only

theorem State.beginCmd_keeps {u s : State} (k : Keeps u s) (k_ : Cmd) : Keeps u (State.beginCmd s k_) := by
  unfold State.beginCmd
  repeat' first
    | with_reducible assumption | with_reducible apply State.trace_keeps | with_reducible apply State.updCmd_keeps
    | with_reducible apply State.followTrackers_keeps
    | (intro v; refine Keeps.cut (u := u) (v := v) ?_ ?_; on_goal 1 => dsimp -zeta only [v]) | intro _ | lift_lets -underBinder | split
    | fail_if_no_progress with_reducible apply Keeps.update | dsimp -zeta only

theorem State.doneCmd_keeps {u s : State} (k : Keeps u s) (k_ : Cmd) : Keeps u (State.doneCmd s k_) := by
  unfold State.doneCmd
  repeat' first
    | with_reducible assumption | with_reducible apply State.updCmd_keeps
    | (intro v; refine Keeps.cut (u := u) (v := v) ?_ ?_; on_goal 1 => dsimp -zeta only [v]) | intro _ | lift_lets -underBinder
    | fail_if_no_progress with_reducible apply Keeps.update | dsimp -zeta only

theorem State.recordStarts_keeps {u s : State} (k : Keeps u s) (k_ : Cmd) : Keeps u (State.recordStarts s k_) := by
  unfold State.recordStarts
  repeat' first
    | with_reducible assumption | with_reducible apply State.ledgerStart_keeps | with_reducible apply Keeps.foldl
    | with_reducible apply Keeps.foldl_fst | (intro v; refine Keeps.cut (u := u) (v := v) ?_ ?_; on_goal 1 => dsimp -zeta only [v])
    | intro _ | lift_lets -underBinder | split | fail_if_no_progress with_reducible apply Keeps.update | dsimp -zeta only

theorem State.runCmd_keeps {u s : State} (k : Keeps u s) (ring dc op : Nat) (body : State → Cmd → State) (hbody : ∀ (a0 : State) (a1 : Cmd),
    Keeps u a0 → Keeps u (body a0 a1)) : Keeps u (State.runCmd s ring dc op body) := by
  unfold State.runCmd
  repeat' first
    | with_reducible assumption | with_reducible apply hbody | with_reducible apply State.failCmd_keeps
    | with_reducible apply State.beginCmd_keeps | with_reducible apply State.recordStarts_keeps
    | (intro v; refine Keeps.cut (u := u) (v := v) ?_ ?_; on_goal 1 => dsimp -zeta only [v]) | intro _ | lift_lets -underBinder | split
    | fail_if_no_progress with_reducible apply Keeps.update | dsimp -zeta only

theorem State.waitTimeout_keeps {u s : State} (k : Keeps u s) (ring dc : Nat) : Keeps u (State.waitTimeout s ring dc) := by
  unfold State.waitTimeout
  repeat' first
    | with_reducible assumption | with_reducible apply State.failCmd_keeps
    | (intro v; refine Keeps.cut (u := u) (v := v) ?_ ?_; on_goal 1 => dsimp -zeta only [v]) | intro _ | lift_lets -underBinder | split
    | fail_if_no_progress with_reducible apply Keeps.update | dsimp -zeta only

theorem State.putRecord_keeps {u s : State} (k : Keeps u s) (k_ : Cmd) (result signalled : Bool) : Keeps u (State.putRecord s k_ result
    signalled) := by
  unfold State.putRecord
  repeat' first
    | with_reducible assumption | with_reducible apply State.setRing_keeps | with_reducible apply State.hostWrite_keeps
    | with_reducible apply State.irq_keeps | with_reducible apply State.count_keeps | with_reducible apply State.writeMem_keeps
    | with_reducible apply State.countMem_keeps | (intro v; refine Keeps.cut (u := u) (v := v) ?_ ?_; on_goal 1 => dsimp -zeta only [v])
    | intro _ | lift_lets -underBinder | split | fail_if_no_progress with_reducible apply Keeps.update | dsimp -zeta only

theorem State.putTensor_keeps {u s : State} (k : Keeps u s) (r : Req) (t : Tensor) (rows cols : Nat) (codes : List (Nat × Nat × Nat))
    (scales : List (Nat × Byte)) : Keeps u (State.putTensor s r t rows cols codes scales) := by
  unfold State.putTensor
  repeat' first
    | with_reducible assumption | with_reducible apply State.countMem_keeps | with_reducible apply State.putCodes_keeps
    | with_reducible apply State.putScales_keeps | with_reducible apply Keeps.foldl | with_reducible apply Keeps.foldl_fst
    | (intro v; refine Keeps.cut (u := u) (v := v) ?_ ?_; on_goal 1 => dsimp -zeta only [v]) | intro _ | lift_lets -underBinder | split
    | dsimp -zeta only

theorem State.scramble_keeps {u s : State} (k : Keeps u s) (r : Req) (t : Tensor) (rows cols : Nat) : Keeps u (State.scramble s r t rows
    cols) := by
  unfold State.scramble
  repeat' first
    | with_reducible assumption | with_reducible apply State.bump_keeps | with_reducible apply State.putTensor_keeps
    | (intro v; refine Keeps.cut (u := u) (v := v) ?_ ?_; on_goal 1 => dsimp -zeta only [v]) | intro _ | lift_lets -underBinder | split
    | dsimp -zeta only

theorem State.addCounts_keeps {u s : State} (k : Keeps u s) (k_ : Cmd) (e : Enc) : Keeps u (State.addCounts s k_ e) := by
  unfold State.addCounts
  repeat' first
    | with_reducible assumption | with_reducible apply State.count_keeps | with_reducible apply State.updCmd_keeps
    | (intro v; refine Keeps.cut (u := u) (v := v) ?_ ?_; on_goal 1 => dsimp -zeta only [v]) | intro _ | lift_lets -underBinder | split
    | fail_if_no_progress with_reducible apply Keeps.update | dsimp -zeta only

theorem State.poisonEnd_keeps {u s : State} (k : Keeps u s) (k_ : Cmd) : Keeps u (State.poisonEnd s k_) := by
  unfold State.poisonEnd
  repeat' first
    | with_reducible assumption | with_reducible apply State.failCmd_keeps | with_reducible apply State.scramble_keeps
    | (intro v; refine Keeps.cut (u := u) (v := v) ?_ ?_; on_goal 1 => dsimp -zeta only [v])
    | (intro v; refine Keeps.cut (u := u) (v := v.1) ?_ ?_; on_goal 1 => dsimp -zeta only [v]) | intro _ | lift_lets -underBinder | split
    | dsimp -zeta only

theorem State.withSource_keeps {u s : State} (k : Keeps u s) (k_ : Cmd) (go : State → State) (hgo : ∀ (a0 : State), Keeps u a0 → Keeps u (go
    a0)) : Keeps u (State.withSource s k_ go) := by
  unfold State.withSource
  repeat' first
    | with_reducible assumption | with_reducible apply hgo | with_reducible apply State.readTensor_keeps
    | with_reducible apply State.poisonEnd_keeps | (intro v; refine Keeps.cut (u := u) (v := v) ?_ ?_; on_goal 1 => dsimp -zeta only [v])
    | (intro v; refine Keeps.cut (u := u) (v := v.1) ?_ ?_; on_goal 1 => dsimp -zeta only [v]) | intro _ | lift_lets -underBinder | split
    | dsimp -zeta only

theorem State.putDest_keeps {u s : State} (k : Keeps u s) (k_ : Cmd) (t : Tensor) (rows cols : Nat) (val : Nat → Nat → Val) : Keeps u
    (State.putDest s k_ t rows cols val).1 := by
  unfold State.putDest
  repeat' first
    | with_reducible assumption | with_reducible apply State.putTensor_keeps | with_reducible apply State.addCounts_keeps
    | (intro v; refine Keeps.cut (u := u) (v := v) ?_ ?_; on_goal 1 => dsimp -zeta only [v]) | intro _ | lift_lets -underBinder | split
    | fail_if_no_progress with_reducible apply Keeps.update | dsimp -zeta only

theorem State.convertCmd_keeps {u s : State} (k : Keeps u s) (k_ : Cmd) : Keeps u (State.convertCmd s k_) := by
  unfold State.convertCmd
  repeat' first
    | with_reducible assumption | with_reducible apply State.doneCmd_keeps | with_reducible apply State.withSource_keeps
    | with_reducible apply State.putDest_keeps | (intro v; refine Keeps.cut (u := u) (v := v) ?_ ?_; on_goal 1 => dsimp -zeta only [v])
    | (intro v; refine Keeps.cut (u := u) (v := v.1) ?_ ?_; on_goal 1 => dsimp -zeta only [v]) | intro _ | lift_lets -underBinder
    | fail_if_no_progress with_reducible apply Keeps.update | dsimp -zeta only

theorem State.fillCmd_keeps {u s : State} (k : Keeps u s) (k_ : Cmd) : Keeps u (State.fillCmd s k_) := by
  unfold State.fillCmd
  repeat' first
    | with_reducible assumption | with_reducible apply State.doneCmd_keeps | with_reducible apply State.putTensor_keeps
    | (intro v; refine Keeps.cut (u := u) (v := v) ?_ ?_; on_goal 1 => dsimp -zeta only [v]) | intro _ | lift_lets -underBinder | split
    | dsimp -zeta only

theorem State.copyCmd_keeps {u s : State} (k : Keeps u s) (k_ : Cmd) : Keeps u (State.copyCmd s k_) := by
  unfold State.copyCmd
  repeat' first
    | with_reducible assumption | with_reducible apply State.countMem_keeps | with_reducible apply State.copyMem_keeps
    | with_reducible apply State.failCmd_keeps | with_reducible apply State.overlap_keeps | with_reducible apply State.sendWrites_keeps
    | with_reducible apply State.dmaRead_keeps | with_reducible apply State.doneCmd_keeps | with_reducible apply State.bumpOverlap_keeps
    | with_reducible apply Keeps.foldl | with_reducible apply Keeps.foldl_fst
    | (intro v; refine Keeps.cut (u := u) (v := v) ?_ ?_; on_goal 1 => dsimp -zeta only [v])
    | (intro v; refine Keeps.cut (u := u) (v := v.1) ?_ ?_; on_goal 1 => dsimp -zeta only [v]) | intro _ | lift_lets -underBinder | split
    | dsimp -zeta only

theorem State.quantizeCmd_keeps {u s : State} (k : Keeps u s) (k_ : Cmd) : Keeps u (State.quantizeCmd s k_) := by
  unfold State.quantizeCmd
  repeat' first
    | with_reducible assumption | with_reducible apply State.updCmd_keeps | with_reducible apply State.refuse_keeps
    | with_reducible apply State.wcRead_keeps | with_reducible apply State.doneCmd_keeps | with_reducible apply State.poisonEnd_keeps
    | with_reducible apply State.withSource_keeps | with_reducible apply State.putDest_keeps
    | (intro v; refine Keeps.cut (u := u) (v := v) ?_ ?_; on_goal 1 => dsimp -zeta only [v])
    | (intro v; refine Keeps.cut (u := u) (v := v.1) ?_ ?_; on_goal 1 => dsimp -zeta only [v]) | intro _ | lift_lets -underBinder | split
    | fail_if_no_progress with_reducible apply Keeps.update | dsimp -zeta only

theorem State.sumCmd_keeps {u s : State} (k : Keeps u s) (sq : Bool) (k_ : Cmd) : Keeps u (State.sumCmd sq s k_) := by
  unfold State.sumCmd
  repeat' first
    | with_reducible assumption | with_reducible apply State.doneCmd_keeps | with_reducible apply State.withSource_keeps
    | with_reducible apply State.putDest_keeps | (intro v; refine Keeps.cut (u := u) (v := v) ?_ ?_; on_goal 1 => dsimp -zeta only [v])
    | (intro v; refine Keeps.cut (u := u) (v := v.1) ?_ ?_; on_goal 1 => dsimp -zeta only [v]) | intro _ | lift_lets -underBinder
    | fail_if_no_progress with_reducible apply Keeps.update | dsimp -zeta only

theorem State.extremeCmd_keeps {u s : State} (k : Keeps u s) (mx : Bool) (k_ : Cmd) : Keeps u (State.extremeCmd mx s k_) := by
  unfold State.extremeCmd
  repeat' first
    | with_reducible assumption | with_reducible apply State.updCmd_keeps | with_reducible apply State.doneCmd_keeps
    | with_reducible apply State.withSource_keeps | with_reducible apply State.putDest_keeps | with_reducible apply Keeps.foldl
    | with_reducible apply Keeps.foldl_fst | (intro v; refine Keeps.cut (u := u) (v := v) ?_ ?_; on_goal 1 => dsimp -zeta only [v])
    | (intro v; refine Keeps.cut (u := u) (v := v.1) ?_ ?_; on_goal 1 => dsimp -zeta only [v]) | intro _ | lift_lets -underBinder | split
    | fail_if_no_progress with_reducible apply Keeps.update | dsimp -zeta only

theorem State.momentsCmd_keeps {u s : State} (k : Keeps u s) (k_ : Cmd) : Keeps u (State.momentsCmd s k_) := by
  unfold State.momentsCmd
  repeat' first
    | with_reducible assumption | with_reducible apply State.writeMem_keeps | with_reducible apply State.countMem_keeps
    | with_reducible apply State.doneCmd_keeps | with_reducible apply State.withSource_keeps | with_reducible apply Keeps.foldl
    | with_reducible apply Keeps.foldl_fst | (intro v; refine Keeps.cut (u := u) (v := v) ?_ ?_; on_goal 1 => dsimp -zeta only [v])
    | (intro v; refine Keeps.cut (u := u) (v := v.1) ?_ ?_; on_goal 1 => dsimp -zeta only [v]) | intro _ | lift_lets -underBinder | split
    | fail_if_no_progress with_reducible apply Keeps.update | dsimp -zeta only

theorem State.sortCmd_keeps {u s : State} (k : Keeps u s) (k_ : Cmd) : Keeps u (State.sortCmd s k_) := by
  unfold State.sortCmd
  repeat' first
    | with_reducible assumption | with_reducible apply State.writeMem_keeps | with_reducible apply State.countMem_keeps
    | with_reducible apply State.doneCmd_keeps | with_reducible apply State.withSource_keeps | with_reducible apply State.putDest_keeps
    | (intro v; refine Keeps.cut (u := u) (v := v) ?_ ?_; on_goal 1 => dsimp -zeta only [v])
    | (intro v; refine Keeps.cut (u := u) (v := v.1) ?_ ?_; on_goal 1 => dsimp -zeta only [v]) | intro _ | lift_lets -underBinder | split
    | fail_if_no_progress with_reducible apply Keeps.update | dsimp -zeta only

theorem State.readIndex_keeps {u s : State} (k : Keeps u s) (k_ : Cmd) (n : Nat) : Keeps u (State.readIndex s k_ n).1 := by
  unfold State.readIndex
  repeat' first
    | with_reducible assumption | with_reducible apply State.wcRead_keeps
    | (intro v; refine Keeps.cut (u := u) (v := v) ?_ ?_; on_goal 1 => dsimp -zeta only [v])
    | (intro v; refine Keeps.cut (u := u) (v := v.1) ?_ ?_; on_goal 1 => dsimp -zeta only [v]) | intro _ | lift_lets -underBinder | split
    | fail_if_no_progress with_reducible apply Keeps.update | dsimp -zeta only

theorem State.indexEnd_keeps {u s : State} (k : Keeps u s) (k_ : Cmd) (bad : Nat) : Keeps u (State.indexEnd s k_ bad) := by
  unfold State.indexEnd
  repeat' first
    | with_reducible assumption | with_reducible apply State.failCmd_keeps | with_reducible apply State.doneCmd_keeps | split
    | dsimp -zeta only

theorem State.gatherCmd_keeps {u s : State} (k : Keeps u s) (k_ : Cmd) : Keeps u (State.gatherCmd s k_) := by
  unfold State.gatherCmd
  repeat' first
    | with_reducible assumption | with_reducible apply State.writeMem_keeps | with_reducible apply State.countMem_keeps
    | with_reducible apply State.copyMem_keeps | with_reducible apply State.poisonEnd_keeps | with_reducible apply State.readIndex_keeps
    | with_reducible apply State.indexEnd_keeps | with_reducible apply Keeps.foldl | with_reducible apply Keeps.foldl_fst
    | (intro v; refine Keeps.cut (u := u) (v := v) ?_ ?_; on_goal 1 => dsimp -zeta only [v])
    | (intro v; refine Keeps.cut (u := u) (v := v.1) ?_ ?_; on_goal 1 => dsimp -zeta only [v]) | intro _ | lift_lets -underBinder | split
    | fail_if_no_progress with_reducible apply Keeps.update | dsimp -zeta only

theorem State.scatterAddCmd_keeps {u s : State} (k : Keeps u s) (k_ : Cmd) : Keeps u (State.scatterAddCmd s k_) := by
  unfold State.scatterAddCmd
  repeat' first
    | with_reducible assumption | with_reducible apply State.writeMem_keeps | with_reducible apply State.countMem_keeps
    | with_reducible apply State.readRanges_keeps | with_reducible apply State.poisonEnd_keeps | with_reducible apply State.withSource_keeps
    | with_reducible apply State.readIndex_keeps | with_reducible apply State.indexEnd_keeps | with_reducible apply Keeps.foldl
    | with_reducible apply Keeps.foldl_fst | (intro v; refine Keeps.cut (u := u) (v := v) ?_ ?_; on_goal 1 => dsimp -zeta only [v])
    | (intro v; refine Keeps.cut (u := u) (v := v.1) ?_ ?_; on_goal 1 => dsimp -zeta only [v]) | intro _ | lift_lets -underBinder | split
    | fail_if_no_progress with_reducible apply Keeps.update | dsimp -zeta only

theorem State.putCounters_keeps {u s : State} (k : Keeps u s) (k_ : Cmd) (share n tab : Nat) : Keeps u (State.putCounters s k_ share n tab)
    := by
  unfold State.putCounters
  repeat' first
    | with_reducible assumption | with_reducible apply State.writeMem_keeps | with_reducible apply State.updCmd_keeps
    | (intro v; refine Keeps.cut (u := u) (v := v) ?_ ?_; on_goal 1 => dsimp -zeta only [v])
    | (intro v; refine Keeps.cut (u := u) (v := v.1) ?_ ?_; on_goal 1 => dsimp -zeta only [v]) | intro _ | lift_lets -underBinder | split
    | fail_if_no_progress with_reducible apply Keeps.update | dsimp -zeta only

theorem State.kernelCmd_keeps {u s : State} (k : Keeps u s) (k_ : Cmd) : Keeps u (State.kernelCmd s k_) := by
  unfold State.kernelCmd
  repeat' first
    | with_reducible assumption | with_reducible apply State.bump_keeps | with_reducible apply State.updCmd_keeps
    | with_reducible apply State.putCounters_keeps | (intro v; refine Keeps.cut (u := u) (v := v) ?_ ?_; on_goal 1 => dsimp -zeta only [v])
    | intro _ | lift_lets -underBinder | split | fail_if_no_progress with_reducible apply Keeps.update | dsimp -zeta only

theorem State.matmulCmd_keeps {u s : State} (k : Keeps u s) (k_ : Cmd) : Keeps u (State.matmulCmd s k_) := by
  unfold State.matmulCmd
  repeat' first
    | with_reducible assumption | with_reducible apply State.writeMem_keeps | with_reducible apply State.updCmd_keeps
    | with_reducible apply State.putCounters_keeps | with_reducible apply Keeps.foldl | with_reducible apply Keeps.foldl_fst
    | (intro v; refine Keeps.cut (u := u) (v := v) ?_ ?_; on_goal 1 => dsimp -zeta only [v])
    | (intro v; refine Keeps.cut (u := u) (v := v.1) ?_ ?_; on_goal 1 => dsimp -zeta only [v]) | intro _ | lift_lets -underBinder | split
    | fail_if_no_progress with_reducible apply Keeps.update | dsimp -zeta only

theorem State.matPut_keeps {u s : State} (k : Keeps u s) (k_ : Cmd) (r : Req) (codes : List (Nat × Nat × Nat)) (scales : List (Nat × Byte))
    : Keeps u (State.matPut s k_ r codes scales) := by
  unfold State.matPut
  repeat' first
    | with_reducible assumption | with_reducible apply State.countMem_keeps | with_reducible apply State.zeroTail_keeps
    | with_reducible apply State.putCodes_keeps | with_reducible apply State.putScales_keeps | with_reducible apply Keeps.foldl
    | with_reducible apply Keeps.foldl_fst | (intro v; refine Keeps.cut (u := u) (v := v) ?_ ?_; on_goal 1 => dsimp -zeta only [v])
    | (intro v; refine Keeps.cut (u := u) (v := v.1) ?_ ?_; on_goal 1 => dsimp -zeta only [v]) | intro _ | lift_lets -underBinder | split
    | dsimp -zeta only

theorem State.matScramble_keeps {u s : State} (k : Keeps u s) (k_ : Cmd) (keep : List MItem) : Keeps u (State.matScramble s k_ keep) := by
  unfold State.matScramble
  repeat' first
    | with_reducible assumption | with_reducible apply State.bump_keeps | with_reducible apply State.matPut_keeps
    | (intro v; refine Keeps.cut (u := u) (v := v) ?_ ?_; on_goal 1 => dsimp -zeta only [v])
    | (intro v; refine Keeps.cut (u := u) (v := v.1) ?_ ?_; on_goal 1 => dsimp -zeta only [v]) | intro _ | lift_lets -underBinder | split
    | dsimp -zeta only

theorem State.setImage_keeps {u s : State} (k : Keeps u s) (k_ : Nat) (i : Image) : Keeps u (State.setImage s k_ i) := by
  unfold State.setImage
  repeat' first
    | with_reducible assumption | with_reducible apply State.wr_keeps
    | (intro v; refine Keeps.cut (u := u) (v := v) ?_ ?_; on_goal 1 => dsimp -zeta only [v]) | intro _ | lift_lets -underBinder
    | fail_if_no_progress with_reducible apply Keeps.update

theorem State.flashImage_keeps {u s : State} (k : Keeps u s) (k_ : Nat) : Keeps u (State.flashImage s k_) := by
  unfold State.flashImage
  repeat' first
    | with_reducible assumption | with_reducible apply State.setImage_keeps
    | (intro v; refine Keeps.cut (u := u) (v := v) ?_ ?_; on_goal 1 => dsimp -zeta only [v]) | intro _ | lift_lets -underBinder | split
    | fail_if_no_progress with_reducible apply Keeps.update

theorem State.commitTable_keeps {u s : State} (k : Keeps u s) (k_ : Nat) : Keeps u (State.commitTable s k_) := by
  unfold State.commitTable
  repeat' first
    | with_reducible assumption | (intro v; refine Keeps.cut (u := u) (v := v) ?_ ?_; on_goal 1 => dsimp -zeta only [v]) | intro _
    | lift_lets -underBinder | split | fail_if_no_progress with_reducible apply Keeps.update

theorem State.flashTable_keeps {u s : State} (k : Keeps u s) (k_ : Nat) : Keeps u (State.flashTable s k_) := by
  unfold State.flashTable
  repeat' first
    | with_reducible assumption | with_reducible apply State.setImage_keeps
    | (intro v; refine Keeps.cut (u := u) (v := v) ?_ ?_; on_goal 1 => dsimp -zeta only [v])
    | (intro v; refine Keeps.cut (u := u) (v := v.1) ?_ ?_; on_goal 1 => dsimp -zeta only [v]) | intro _ | lift_lets -underBinder | split
    | fail_if_no_progress with_reducible apply Keeps.update | dsimp -zeta only

/-- A bundle keeps what the state had if the actions of its slots do. -/
theorem State.issueOuts_keeps {u s : State} (k : Keeps u s) (c t : Nat) (outs : List SlotOut) (n : Nat) (ho : ∀ o ∈ outs, o.keeps) :
    Keeps u (s.issueOuts c t outs n) :=
  State.countBlock_keeps (State.count_keeps (State.runBundle_keeps k _ _ _ (fun o hm t h => ho o hm u t h)) _ _ _) _ _

/-- A slot keeps what the state had if the actions of all slots of its bundle do. -/
theorem State.issueSlot_keeps {u s : State} (k : Keeps u s) (x : Issue) (i : Instr)
    (ho : ∀ l, ∀ o ∈ bundleOuts l s x.core x.thread, o.keeps) : Keeps u (s.issueSlot x i) := by
  unfold State.issueSlot
  extract_lets c t y l
  split
  · exact k
  · split
    · exact State.setThr_keeps k _ _ _
    · exact State.issueOuts_keeps k _ _ _ _ (ho _)

theorem State.loadReturn_keeps {u s : State} (k : Keeps u s) (c t n : Nat) : Keeps u (State.loadReturn s c t n) := by
  unfold State.loadReturn
  repeat' first
    | with_reducible assumption | with_reducible apply State.setThr_keeps | with_reducible apply State.logPoison_keeps
    | with_reducible apply State.raise_keeps | with_reducible apply Keeps.foldl | with_reducible apply Keeps.foldl_fst
    | (intro v; refine Keeps.cut (u := u) (v := v) ?_ ?_; on_goal 1 => dsimp -zeta only [v]) | intro _ | lift_lets -underBinder | split
    | fail_if_no_progress with_reducible apply Keeps.update | dsimp -zeta only

theorem State.putArr_keeps {u s : State} (k : Keeps u s) (i : Nat) (a : Arr) : Keeps u (State.putArr s i a) := by
  unfold State.putArr
  repeat' first
    | with_reducible assumption | with_reducible apply State.wr_keeps | with_reducible apply State.setArr_keeps
    | (intro v; refine Keeps.cut (u := u) (v := v) ?_ ?_; on_goal 1 => dsimp -zeta only [v]) | intro _ | lift_lets -underBinder | split
    | fail_if_no_progress with_reducible apply Keeps.update | dsimp -zeta only

theorem State.dropCopy_keeps {u s : State} (k : Keeps u s) (new : Nat) : Keeps u (State.dropCopy s new) := by
  unfold State.dropCopy
  repeat' first
    | with_reducible assumption | with_reducible apply State.wrF_keeps | with_reducible apply State.setThr_keeps
    | with_reducible apply State.setCore_keeps | with_reducible apply State.zeroFill_keeps | with_reducible apply State.setLatch_keeps
    | with_reducible apply Keeps.foldl | with_reducible apply Keeps.foldl_fst
    | (intro v; refine Keeps.cut (u := u) (v := v) ?_ ?_; on_goal 1 => dsimp -zeta only [v]) | intro _ | lift_lets -underBinder | split
    | fail_if_no_progress with_reducible apply Keeps.update | dsimp -zeta only

theorem State.dropTiles_keeps {u s : State} (k : Keeps u s) (i : Nat) : Keeps u (State.dropTiles s i) := by
  unfold State.dropTiles
  repeat' first
    | with_reducible assumption | with_reducible apply State.putArr_keeps | with_reducible apply Keeps.foldl
    | with_reducible apply Keeps.foldl_fst | (intro v; refine Keeps.cut (u := u) (v := v) ?_ ?_; on_goal 1 => dsimp -zeta only [v])
    | intro _ | lift_lets -underBinder | fail_if_no_progress with_reducible apply Keeps.update | dsimp -zeta only

theorem State.dropHandover_keeps {u s : State} (k : Keeps u s) (i : Nat) : Keeps u (State.dropHandover s i) := by
  unfold State.dropHandover
  repeat' first
    | with_reducible assumption | with_reducible apply State.dropCopy_keeps | with_reducible apply Keeps.foldl
    | with_reducible apply Keeps.foldl_fst | (intro v; refine Keeps.cut (u := u) (v := v) ?_ ?_; on_goal 1 => dsimp -zeta only [v])
    | intro _ | lift_lets -underBinder | split | fail_if_no_progress with_reducible apply Keeps.update | dsimp -zeta only

theorem State.slotsLost_keeps {u s : State} (k : Keeps u s) (lc : Nat) : Keeps u (State.slotsLost s lc) := by
  unfold State.slotsLost
  repeat' first
    | with_reducible assumption | with_reducible apply State.recordLost_keeps
    | (intro v; refine Keeps.cut (u := u) (v := v) ?_ ?_; on_goal 1 => dsimp -zeta only [v]) | intro _ | lift_lets -underBinder | split
    | fail_if_no_progress with_reducible apply Keeps.update | dsimp -zeta only

theorem State.epochUp_keeps {u s : State} (k : Keeps u s) (lc : Nat) : Keeps u (State.epochUp s lc) := by
  unfold State.epochUp
  repeat' first
    | with_reducible assumption | (intro v; refine Keeps.cut (u := u) (v := v) ?_ ?_; on_goal 1 => dsimp -zeta only [v]) | intro _
    | lift_lets -underBinder | fail_if_no_progress with_reducible apply Keeps.update | dsimp -zeta only

theorem State.claimsDue_keeps {u s : State} (k : Keeps u s) (lc : Nat) : Keeps u (State.claimsDue s lc) := by
  unfold State.claimsDue
  repeat' first
    | with_reducible assumption | with_reducible apply State.addDue_keeps | with_reducible apply State.slotsLost_keeps
    | with_reducible apply State.epochUp_keeps | with_reducible apply Keeps.foldl | with_reducible apply Keeps.foldl_fst | intro _
    | dsimp -zeta only

theorem State.fenceCore_keeps {u s : State} (k : Keeps u s) (i : Nat) : Keeps u (State.fenceCore s i) := by
  unfold State.fenceCore
  repeat' first
    | with_reducible assumption | with_reducible apply State.wrB_keeps | with_reducible apply State.dropTiles_keeps
    | with_reducible apply State.dropHandover_keeps | with_reducible apply State.claimsDue_keeps
    | (intro v; refine Keeps.cut (u := u) (v := v) ?_ ?_; on_goal 1 => dsimp -zeta only [v]) | intro _ | lift_lets -underBinder | split
    | fail_if_no_progress with_reducible apply Keeps.update | dsimp -zeta only

theorem State.copyLatches_keeps {u s : State} (k : Keeps u s) (old new : Nat) : Keeps u (State.copyLatches s old new) := by
  unfold State.copyLatches
  repeat' first
    | with_reducible assumption | with_reducible apply State.setLatch_keeps | with_reducible apply Keeps.foldl
    | with_reducible apply Keeps.foldl_fst | intro _ | dsimp -zeta only

theorem State.copyContexts_keeps {u s : State} (k : Keeps u s) (old new : Nat) : Keeps u (State.copyContexts s old new) := by
  unfold State.copyContexts
  repeat' first
    | with_reducible assumption | with_reducible apply State.setThr_keeps | with_reducible apply State.setCore_keeps
    | with_reducible apply Keeps.foldl | with_reducible apply Keeps.foldl_fst
    | (intro v; refine Keeps.cut (u := u) (v := v) ?_ ?_; on_goal 1 => dsimp -zeta only [v]) | intro _ | lift_lets -underBinder | split
    | fail_if_no_progress with_reducible apply Keeps.update | dsimp -zeta only

theorem State.copyIdentity_keeps {u s : State} (k : Keeps u s) (old new : Nat) : Keeps u (State.copyIdentity s old new) := by
  unfold State.copyIdentity
  repeat' first
    | with_reducible assumption | with_reducible apply State.wrF_keeps | with_reducible apply State.zeroFill_keeps
    | with_reducible apply State.copyMem_keeps | with_reducible apply State.copyLatches_keeps
    | (intro v; refine Keeps.cut (u := u) (v := v) ?_ ?_; on_goal 1 => dsimp -zeta only [v])
    | (intro v; refine Keeps.cut (u := u) (v := v.1) ?_ ?_; on_goal 1 => dsimp -zeta only [v]) | intro _ | lift_lets -underBinder | split
    | dsimp -zeta only

theorem State.commitMap_keeps {u s : State} (k : Keeps u s) (lc old new : Nat) : Keeps u (State.commitMap s lc old new) := by
  unfold State.commitMap
  repeat' first
    | with_reducible assumption | with_reducible apply State.commitTable_keeps
    | (intro v; refine Keeps.cut (u := u) (v := v) ?_ ?_; on_goal 1 => dsimp -zeta only [v])
    | (intro v; refine Keeps.cut (u := u) (v := v.1) ?_ ?_; on_goal 1 => dsimp -zeta only [v]) | intro _ | lift_lets -underBinder
    | fail_if_no_progress with_reducible apply Keeps.update | dsimp -zeta only

theorem State.clearLedger_keeps {u s : State} (k : Keeps u s) (i : Nat) : Keeps u (State.clearLedger s i) := by
  unfold State.clearLedger
  repeat' first
    | with_reducible assumption | with_reducible apply State.wrB_keeps | with_reducible apply State.setCore_keeps
    | (intro v; refine Keeps.cut (u := u) (v := v) ?_ ?_; on_goal 1 => dsimp -zeta only [v]) | intro _ | lift_lets -underBinder
    | fail_if_no_progress with_reducible apply Keeps.update

theorem State.holdAll_keeps {u s : State} (k : Keeps u s) (i : Nat) : Keeps u (State.holdAll s i).1 := by
  unfold State.holdAll
  repeat' first
    | with_reducible assumption | with_reducible apply State.setThr_keeps | with_reducible apply Keeps.foldl
    | with_reducible apply Keeps.foldl_fst | (intro v; refine Keeps.cut (u := u) (v := v) ?_ ?_; on_goal 1 => dsimp -zeta only [v])
    | intro _ | lift_lets -underBinder | split | fail_if_no_progress with_reducible apply Keeps.update | dsimp -zeta only

theorem State.coreOp_keeps {u s : State} (k : Keeps u s) (i : Nat) (o : CoreOp) : Keeps u (s.coreOp i o) := by
  cases o with
  | write off val => exact State.plainReg_keeps k _ _
  | drain on => exact State.wrB_keeps (State.wrB_keeps k _ _ _) _ _ _
  | holdAll on =>
    simp only [State.coreOp]
    split
    · exact State.holdAll_keeps (State.wrB_keeps k _ _ _) _
    · exact State.wrB_keeps k _ _ _
  | clearLedger => exact State.clearLedger_keeps k _
  | excRead w => exact State.answer_keeps (State.setCore_keeps k _ _) _

theorem State.extCore_keeps {u s : State} (k : Keeps u s) (i : Nat) (op : CoreOp) : Keeps u (State.extCore s i op) := by
  unfold State.extCore
  repeat' first
    | with_reducible assumption | with_reducible apply State.hold_keeps | with_reducible apply State.coreOp_keeps | split | dsimp -zeta only

theorem State.releaseHeld_keeps {u s : State} (k : Keeps u s) (old new : Nat) : Keeps u (State.releaseHeld s old new) := by
  unfold State.releaseHeld
  repeat' first
    | with_reducible assumption | with_reducible apply State.writeMem_keeps | with_reducible apply State.latchOp_keeps
    | with_reducible apply State.coreOp_keeps | with_reducible apply Keeps.foldl | with_reducible apply Keeps.foldl_fst
    | (intro v; refine Keeps.cut (u := u) (v := v) ?_ ?_; on_goal 1 => dsimp -zeta only [v])
    | (intro v; refine Keeps.cut (u := u) (v := v.1) ?_ ?_; on_goal 1 => dsimp -zeta only [v]) | intro _ | lift_lets -underBinder | split
    | fail_if_no_progress with_reducible apply Keeps.update | dsimp -zeta only

theorem State.setEvents_keeps {u s : State} (k : Keeps u s) (l : List Ev) : Keeps u (State.setEvents s l) := by
  unfold State.setEvents
  repeat' first
    | with_reducible assumption | with_reducible apply State.wrF_keeps | with_reducible apply State.wrB_keeps
    | (intro v; refine Keeps.cut (u := u) (v := v) ?_ ?_; on_goal 1 => dsimp -zeta only [v]) | intro _ | lift_lets -underBinder
    | fail_if_no_progress with_reducible apply Keeps.update | dsimp -zeta only

theorem State.addEvent_keeps {u s : State} (k : Keeps u s) (e : Ev) : Keeps u (State.addEvent s e).1 := by
  unfold State.addEvent
  repeat' first
    | with_reducible assumption | with_reducible apply State.setEvents_keeps | split | fail_if_no_progress with_reducible apply Keeps.update
    | dsimp -zeta only

theorem State.setTest_keeps {u s : State} (k : Keeps u s) (w core st : Nat) : Keeps u (State.setTest s w core st) := by
  unfold State.setTest
  repeat' first
    | with_reducible assumption | with_reducible apply State.wrF_keeps

theorem State.nextSlice_keeps {u s : State} (k : Keeps u s) (w n : Nat) (beat : W64) : Keeps u (State.nextSlice s w n beat) := by
  unfold State.nextSlice
  repeat' first
    | with_reducible assumption | with_reducible apply State.addEvent_keeps | dsimp -zeta only

theorem State.beginTest_keeps {u s : State} (k : Keeps u s) (i : Nat) : Keeps u (State.beginTest s i) := by
  unfold State.beginTest
  repeat' first
    | with_reducible assumption | with_reducible apply State.wrF_keeps | with_reducible apply State.wrB_keeps
    | with_reducible apply State.setCore_keeps | with_reducible apply State.setTest_keeps | with_reducible apply State.nextSlice_keeps
    | (intro v; refine Keeps.cut (u := u) (v := v) ?_ ?_; on_goal 1 => dsimp -zeta only [v]) | intro _ | lift_lets -underBinder | split
    | fail_if_no_progress with_reducible apply Keeps.update | dsimp -zeta only

theorem State.testFreed_keeps {u s : State} (k : Keeps u s) (i : Nat) : Keeps u (State.testFreed s i) := by
  unfold State.testFreed
  repeat' first
    | with_reducible assumption | with_reducible apply State.setTest_keeps | with_reducible apply State.beginTest_keeps
    | (intro v; refine Keeps.cut (u := u) (v := v) ?_ ?_; on_goal 1 => dsimp -zeta only [v]) | intro _ | lift_lets -underBinder | split
    | dsimp -zeta only

theorem State.deferTest_keeps {u s : State} (k : Keeps u s) (i : Nat) : Keeps u (State.deferTest s i) := by
  unfold State.deferTest
  repeat' first
    | with_reducible assumption | with_reducible apply State.event_keeps | with_reducible apply State.setTest_keeps
    | (intro v; refine Keeps.cut (u := u) (v := v) ?_ ?_; on_goal 1 => dsimp -zeta only [v]) | intro _ | lift_lets -underBinder | split
    | fail_if_no_progress with_reducible apply Keeps.update | dsimp -zeta only

theorem State.cancelHandover_keeps {u s : State} (k : Keeps u s) (i : Nat) (held : List Nat) : Keeps u (State.cancelHandover s i held) := by
  unfold State.cancelHandover
  repeat' first
    | with_reducible assumption | with_reducible apply State.wrB_keeps | with_reducible apply State.letGo_keeps
    | with_reducible apply Keeps.foldl | with_reducible apply Keeps.foldl_fst
    | (intro v; refine Keeps.cut (u := u) (v := v) ?_ ?_; on_goal 1 => dsimp -zeta only [v]) | intro _ | lift_lets -underBinder | split
    | fail_if_no_progress with_reducible apply Keeps.update | dsimp -zeta only

theorem State.handoverFreeze_keeps {u s : State} (k : Keeps u s) (i : Nat) : Keeps u (State.handoverFreeze s i) := by
  unfold State.handoverFreeze
  repeat' first
    | with_reducible assumption | with_reducible apply State.wrB_keeps | with_reducible apply State.noSpare_keeps
    | with_reducible apply State.copyContexts_keeps | with_reducible apply State.copyIdentity_keeps
    | with_reducible apply State.holdAll_keeps | with_reducible apply State.deferTest_keeps
    | with_reducible apply State.cancelHandover_keeps
    | (intro v; refine Keeps.cut (u := u) (v := v) ?_ ?_; on_goal 1 => dsimp -zeta only [v])
    | (intro v; refine Keeps.cut (u := u) (v := v.1) ?_ ?_; on_goal 1 => dsimp -zeta only [v]) | intro _ | lift_lets -underBinder | split
    | fail_if_no_progress with_reducible apply Keeps.update | dsimp -zeta only

theorem State.moveDma_keeps {u s : State} (k : Keeps u s) (old new : Nat) : Keeps u (State.moveDma s old new) := by
  unfold State.moveDma
  repeat' first
    | with_reducible assumption | with_reducible apply State.setDmaq_keeps | with_reducible apply Keeps.foldl
    | with_reducible apply Keeps.foldl_fst | (intro v; refine Keeps.cut (u := u) (v := v) ?_ ?_; on_goal 1 => dsimp -zeta only [v])
    | intro _ | lift_lets -underBinder | split | fail_if_no_progress with_reducible apply Keeps.update | dsimp -zeta only

theorem State.handoverCommit_keeps {u s : State} (k : Keeps u s) (i : Nat) : Keeps u (State.handoverCommit s i) := by
  unfold State.handoverCommit
  repeat' first
    | with_reducible assumption | with_reducible apply State.wrB_keeps | with_reducible apply State.setThr_keeps
    | with_reducible apply State.setCore_keeps | with_reducible apply State.spareUsed_keeps | with_reducible apply State.ungate_keeps
    | with_reducible apply State.letGo_keeps | with_reducible apply State.countSpares_keeps | with_reducible apply State.copyLatches_keeps
    | with_reducible apply State.copyContexts_keeps | with_reducible apply State.commitMap_keeps
    | with_reducible apply State.releaseHeld_keeps | with_reducible apply State.testFreed_keeps | with_reducible apply State.moveDma_keeps
    | with_reducible apply Keeps.foldl | with_reducible apply Keeps.foldl_fst
    | (intro v; refine Keeps.cut (u := u) (v := v) ?_ ?_; on_goal 1 => dsimp -zeta only [v]) | intro _ | lift_lets -underBinder | split
    | fail_if_no_progress with_reducible apply Keeps.update | dsimp -zeta only

theorem State.hardwareCause_keeps {u s : State} (k : Keeps u s) (c t cause : Nat) : Keeps u (State.hardwareCause s c t cause) := by
  unfold State.hardwareCause
  repeat' first
    | with_reducible assumption | with_reducible apply State.bump_keeps | with_reducible apply State.raise_keeps
    | (intro v; refine Keeps.cut (u := u) (v := v) ?_ ?_; on_goal 1 => dsimp -zeta only [v]) | intro _ | lift_lets -underBinder | split
    | dsimp -zeta only

theorem State.faultTakeover_keeps {u s : State} (k : Keeps u s) (i : Nat) (cause : HwCause) (bad : List Nat) : Keeps u
    (State.faultTakeover s i cause bad) := by
  unfold State.faultTakeover
  repeat' first
    | with_reducible assumption | with_reducible apply State.setCore_keeps | with_reducible apply State.noSpare_keeps
    | with_reducible apply State.setLatch_keeps | with_reducible apply State.latchBreak_keeps | with_reducible apply State.blastReport_keeps
    | with_reducible apply State.commitTable_keeps | with_reducible apply State.fenceCore_keeps
    | with_reducible apply State.copyIdentity_keeps | with_reducible apply State.hardwareCause_keeps | with_reducible apply Keeps.foldl
    | with_reducible apply Keeps.foldl_fst | (intro v; refine Keeps.cut (u := u) (v := v) ?_ ?_; on_goal 1 => dsimp -zeta only [v])
    | (intro v; refine Keeps.cut (u := u) (v := v.1) ?_ ?_; on_goal 1 => dsimp -zeta only [v]) | intro _ | lift_lets -underBinder | split
    | fail_if_no_progress with_reducible apply Keeps.update | dsimp -zeta only

theorem State.takeMsg_keeps {u s t : State} (k : Keeps u s) {c j : Nat} {m : ExcMsg} (h : s.takeMsg c j = some (m, t)) : Keeps u t := by
  simp only [State.takeMsg, Option.map_eq_some_iff] at h
  obtain ⟨_, _, h⟩ := h
  injection h with _ h
  exact h ▸ State.setCore_keeps k _ _

theorem State.wcException_keeps {u s : State} (k : Keeps u s) (c t : Nat) : Keeps u (State.wcException s c t) := by
  unfold State.wcException
  repeat' first
    | with_reducible assumption | with_reducible apply State.setThr_keeps | with_reducible apply State.failCmd_keeps
    | with_reducible apply State.fenceCore_keeps | with_reducible refine State.takeMsg_keeps ?_ (by assumption)
    | (intro v; refine Keeps.cut (u := u) (v := v) ?_ ?_; on_goal 1 => dsimp -zeta only [v]) | intro _ | lift_lets -underBinder | split
    | fail_if_no_progress with_reducible apply Keeps.update | dsimp -zeta only

theorem State.loadProgram_keeps {u s : State} (k : Keeps u s) (c : Nat) (k_ : Cmd) : Keeps u (State.loadProgram s c k_) := by
  unfold State.loadProgram
  repeat' first
    | with_reducible assumption | with_reducible apply State.copyMem_keeps | with_reducible apply State.updCmd_keeps
    | (intro v; refine Keeps.cut (u := u) (v := v) ?_ ?_; on_goal 1 => dsimp -zeta only [v])
    | (intro v; refine Keeps.cut (u := u) (v := v.1) ?_ ?_; on_goal 1 => dsimp -zeta only [v]) | intro _ | lift_lets -underBinder | split
    | fail_if_no_progress with_reducible apply Keeps.update | dsimp -zeta only

theorem State.startThread_keeps {u s : State} (k : Keeps u s) (c t : Nat) (k_ : Cmd) (rec_ limit : Nat) (checkrun : Bool) : Keeps u
    (State.startThread s c t k_ rec_ limit checkrun) := by
  unfold State.startThread
  repeat' first
    | with_reducible assumption | with_reducible apply State.setThr_keeps | with_reducible apply State.readMem_keeps
    | with_reducible apply State.logPoison_keeps | with_reducible apply State.ungate_keeps | with_reducible apply State.updCmd_keeps
    | with_reducible apply State.failCmd_keeps | with_reducible apply State.loadProgram_keeps | with_reducible apply Keeps.foldl
    | with_reducible apply Keeps.foldl_fst | (intro v; refine Keeps.cut (u := u) (v := v) ?_ ?_; on_goal 1 => dsimp -zeta only [v])
    | (intro v; refine Keeps.cut (u := u) (v := v.1) ?_ ?_; on_goal 1 => dsimp -zeta only [v]) | intro _ | lift_lets -underBinder | split
    | fail_if_no_progress with_reducible apply Keeps.update | dsimp -zeta only

theorem State.tileStart_keeps {u s : State} (k : Keeps u s) (i half : Nat) : Keeps u (State.tileStart s i half) := by
  unfold State.tileStart
  repeat' first
    | with_reducible assumption | with_reducible apply State.wrB_keeps | with_reducible apply State.ledgerStart_keeps
    | with_reducible apply State.feed_keeps | with_reducible apply State.putArr_keeps
    | (intro v; refine Keeps.cut (u := u) (v := v) ?_ ?_; on_goal 1 => dsimp -zeta only [v])
    | (intro v; refine Keeps.cut (u := u) (v := v.1) ?_ ?_; on_goal 1 => dsimp -zeta only [v]) | intro _ | lift_lets -underBinder | split
    | fail_if_no_progress with_reducible apply Keeps.update | dsimp -zeta only

theorem State.runComplete_keeps {u s : State} (k : Keeps u s) (i half fault : Nat) : Keeps u (State.runComplete s i half fault) := by
  unfold State.runComplete
  repeat' first
    | with_reducible assumption | with_reducible apply State.putArr_keeps
    | (intro v; refine Keeps.cut (u := u) (v := v) ?_ ?_; on_goal 1 => dsimp -zeta only [v]) | intro _ | lift_lets -underBinder | split
    | fail_if_no_progress with_reducible apply Keeps.update | dsimp -zeta only

theorem State.claimNext_keeps {u s : State} (k : Keeps u s) (c t rec_ : Nat) : Keeps u (State.claimNext s c t rec_).1 := by
  unfold State.claimNext
  repeat' first
    | with_reducible assumption | with_reducible apply State.readMem_keeps | with_reducible apply State.writeMem_keeps
    | with_reducible apply State.countMem_keeps | with_reducible apply State.claim_keeps
    | (intro v; refine Keeps.cut (u := u) (v := v) ?_ ?_; on_goal 1 => dsimp -zeta only [v])
    | (intro v; refine Keeps.cut (u := u) (v := v.1) ?_ ?_; on_goal 1 => dsimp -zeta only [v]) | intro _ | lift_lets -underBinder | split
    | fail_if_no_progress with_reducible apply Keeps.update | dsimp -zeta only

theorem State.libClaim_keeps {u s : State} (k : Keeps u s) (c t : Nat) (x : Cmd) (n : Nat) : Keeps u (s.libClaim c t x n) := by
  induction n generalizing s with
  | zero => exact k
  | succ n ih =>
    unfold State.libClaim
    extract_lets y stop any
    have hs : ∀ v, Keeps u v → Keeps u (stop v) := fun v h => State.setThr_keeps h _ _ _
    split
    · exact hs s k
    · rename_i i _
      have hc := State.claimNext_keeps k c t (y.sreg 1).toNat
      dsimp only
      split
      · exact hs _ hc
      · split
        · exact hs _ hc
        · split
          · exact ih hc
          · exact State.putArr_keeps hc _ _

theorem State.startLib_keeps {u s : State} (k : Keeps u s) (c t : Nat) (k_ : Cmd) (rec_ limit : Nat) (reissue : Bool) : Keeps u
    (State.startLib s c t k_ rec_ limit reissue) := by
  unfold State.startLib
  repeat' first
    | with_reducible assumption | with_reducible apply State.setThr_keeps | with_reducible apply State.ungate_keeps
    | with_reducible apply State.ledgerStart_keeps | with_reducible apply State.libClaim_keeps
    | (intro v; refine Keeps.cut (u := u) (v := v) ?_ ?_; on_goal 1 => dsimp -zeta only [v]) | intro _ | lift_lets -underBinder | split
    | fail_if_no_progress with_reducible apply Keeps.update | dsimp -zeta only

theorem State.libNext_keeps {u s : State} (k : Keeps u s) (c t : Nat) (k_ : Cmd) : Keeps u (State.libNext s c t k_) := by
  unfold State.libNext
  repeat' first
    | with_reducible assumption | with_reducible apply State.setThr_keeps | with_reducible apply State.libClaim_keeps
    | (intro v; refine Keeps.cut (u := u) (v := v) ?_ ?_; on_goal 1 => dsimp -zeta only [v]) | intro _ | lift_lets -underBinder | split
    | dsimp -zeta only

theorem State.tileCounts_keeps {u s : State} (k : Keeps u s) (q : TileReq) (e : Enc) (replays : Nat) : Keeps u (State.tileCounts s q e
    replays) := by
  unfold State.tileCounts
  repeat' first
    | with_reducible assumption | with_reducible apply State.count_keeps | with_reducible apply State.writeMem_keeps
    | with_reducible apply State.updCmd_keeps | with_reducible apply State.recordLost_keeps
    | (intro v; refine Keeps.cut (u := u) (v := v) ?_ ?_; on_goal 1 => dsimp -zeta only [v])
    | (intro v; refine Keeps.cut (u := u) (v := v.1) ?_ ?_; on_goal 1 => dsimp -zeta only [v]) | intro _ | lift_lets -underBinder | split
    | fail_if_no_progress with_reducible apply Keeps.update | dsimp -zeta only

theorem State.traceTile_keeps {u s : State} (k : Keeps u s) (q : TileReq) (i outcome : Nat) : Keeps u (State.traceTile s q i outcome) := by
  unfold State.traceTile
  repeat' first
    | with_reducible assumption | with_reducible apply State.trace_keeps
    | (intro v; refine Keeps.cut (u := u) (v := v) ?_ ?_; on_goal 1 => dsimp -zeta only [v]) | intro _ | lift_lets -underBinder | split
    | fail_if_no_progress with_reducible apply Keeps.update | dsimp -zeta only

theorem State.arrayFailed_keeps {u s : State} (k : Keeps u s) (i : Nat) (r : Running) : Keeps u (State.arrayFailed s i r) := by
  unfold State.arrayFailed
  repeat' first
    | with_reducible assumption | with_reducible apply State.wrB_keeps | with_reducible apply State.incF_keeps
    | with_reducible apply State.event_keeps | with_reducible apply State.putArr_keeps
    | (intro v; refine Keeps.cut (u := u) (v := v) ?_ ?_; on_goal 1 => dsimp -zeta only [v]) | intro _ | lift_lets -underBinder | split
    | fail_if_no_progress with_reducible apply Keeps.update | dsimp -zeta only

theorem State.slotDue_keeps {u s : State} (k : Keeps u s) (q : TileReq) (lc v : Nat) : Keeps u (State.slotDue s q lc v) := by
  unfold State.slotDue
  repeat' first
    | with_reducible assumption | with_reducible apply State.addDue_keeps | split | dsimp -zeta only

theorem State.tileFailed_keeps {u s : State} (k : Keeps u s) (i : Nat) (r : Running) : Keeps u (State.tileFailed s i r) := by
  unfold State.tileFailed
  repeat' first
    | with_reducible assumption | with_reducible apply State.updCmd_keeps | with_reducible apply State.failCmd_keeps
    | with_reducible apply State.recordLost_keeps | with_reducible apply State.arrayFailed_keeps | with_reducible apply State.slotDue_keeps
    | (intro v; refine Keeps.cut (u := u) (v := v) ?_ ?_; on_goal 1 => dsimp -zeta only [v])
    | (intro v; refine Keeps.cut (u := u) (v := v.1) ?_ ?_; on_goal 1 => dsimp -zeta only [v]) | intro _ | lift_lets -underBinder | split
    | fail_if_no_progress with_reducible apply Keeps.update | dsimp -zeta only

theorem State.tileWrite_keeps {u s : State} (k : Keeps u s) (r : Running) : Keeps u (State.tileWrite s r).1 := by
  unfold State.tileWrite
  repeat' first
    | with_reducible assumption | with_reducible apply State.count_keeps | with_reducible apply State.putCodes_keeps
    | with_reducible apply State.putScales_keeps | (intro v; refine Keeps.cut (u := u) (v := v) ?_ ?_; on_goal 1 => dsimp -zeta only [v])
    | intro _ | lift_lets -underBinder | split | fail_if_no_progress with_reducible apply Keeps.update | dsimp -zeta only

theorem State.itemDone_keeps {u s : State} (k : Keeps u s) (k_ : Cmd) (i lc sig : Nat) : Keeps u (State.itemDone s k_ i lc sig) := by
  unfold State.itemDone
  repeat' first
    | with_reducible assumption | with_reducible apply State.updCmd_keeps
    | (intro v; refine Keeps.cut (u := u) (v := v) ?_ ?_; on_goal 1 => dsimp -zeta only [v]) | intro _ | lift_lets -underBinder | split
    | fail_if_no_progress with_reducible apply Keeps.update | dsimp -zeta only

theorem State.itemOut_keeps {u s : State} (k : Keeps u s) (k_ : Cmd) (r : Running) (i : Nat) (x : MItem) : Keeps u (State.itemOut s k_ r i
    x).1 := by
  unfold State.itemOut
  repeat' first
    | with_reducible assumption | with_reducible apply State.writeMem_keeps | with_reducible apply State.countMem_keeps
    | with_reducible apply State.updCmd_keeps | with_reducible apply State.readRanges_keeps | with_reducible apply State.matPut_keeps
    | with_reducible apply State.itemDone_keeps | with_reducible apply Keeps.foldl | with_reducible apply Keeps.foldl_fst
    | (intro v; refine Keeps.cut (u := u) (v := v) ?_ ?_; on_goal 1 => dsimp -zeta only [v])
    | (intro v; refine Keeps.cut (u := u) (v := v.1) ?_ ?_; on_goal 1 => dsimp -zeta only [v]) | intro _ | lift_lets -underBinder | split
    | fail_if_no_progress with_reducible apply Keeps.update | dsimp -zeta only

theorem State.tileOut_keeps {u s : State} (k : Keeps u s) (r : Running) : Keeps u (State.tileOut s r).1 := by
  unfold State.tileOut
  repeat' first
    | with_reducible assumption | with_reducible apply State.tileWrite_keeps | with_reducible apply State.itemOut_keeps
    | (intro v; refine Keeps.cut (u := u) (v := v) ?_ ?_; on_goal 1 => dsimp -zeta only [v])
    | (intro v; refine Keeps.cut (u := u) (v := v.1) ?_ ?_; on_goal 1 => dsimp -zeta only [v]) | intro _ | lift_lets -underBinder | split
    | fail_if_no_progress with_reducible apply Keeps.update | dsimp -zeta only

theorem State.tileCycled_keeps {u s : State} (k : Keeps u s) (i : Nat) (r : Running) (other : Option Running) : Keeps u (State.tileCycled s
    i r other) := by
  unfold State.tileCycled
  repeat' first
    | with_reducible assumption | with_reducible apply State.count_keeps | with_reducible apply State.countBlock_keeps
    | (intro v; refine Keeps.cut (u := u) (v := v) ?_ ?_; on_goal 1 => dsimp -zeta only [v]) | intro _ | lift_lets -underBinder | split
    | dsimp -zeta only

theorem State.tileResult_keeps {u s : State} (k : Keeps u s) (i : Nat) (r : Running) (oc : Option Nat) : Keeps u (State.tileResult s i r oc)
    := by
  unfold State.tileResult
  repeat' first
    | with_reducible assumption | with_reducible apply State.wrB_keeps | with_reducible apply State.failCmd_keeps
    | with_reducible apply State.tileFailed_keeps | (intro v; refine Keeps.cut (u := u) (v := v) ?_ ?_; on_goal 1 => dsimp -zeta only [v])
    | intro _ | lift_lets -underBinder | split | dsimp -zeta only

theorem State.putOutcome_keeps {u s : State} (k : Keeps u s) (q : TileReq) (oc : Option Nat) (e : Enc) (replays : Nat) : Keeps u
    (State.putOutcome s q oc e replays) := by
  unfold State.putOutcome
  repeat' first
    | with_reducible assumption | with_reducible apply State.writeMem_keeps
    | (intro v; refine Keeps.cut (u := u) (v := v) ?_ ?_; on_goal 1 => dsimp -zeta only [v]) | intro _ | lift_lets -underBinder | split
    | fail_if_no_progress with_reducible apply Keeps.update | dsimp -zeta only

theorem State.tileEnd_keeps {u s : State} (k : Keeps u s) (i half : Nat) (fault : Bool) : Keeps u (State.tileEnd s i half fault) := by
  unfold State.tileEnd
  repeat' first
    | with_reducible assumption | with_reducible apply State.latchAdd_keeps | with_reducible apply State.updCmd_keeps
    | with_reducible apply State.putArr_keeps | with_reducible apply State.libNext_keeps | with_reducible apply State.tileCounts_keeps
    | with_reducible apply State.traceTile_keeps | with_reducible apply State.tileOut_keeps | with_reducible apply State.tileCycled_keeps
    | with_reducible apply State.tileResult_keeps | with_reducible apply State.putOutcome_keeps
    | (intro v; refine Keeps.cut (u := u) (v := v) ?_ ?_; on_goal 1 => dsimp -zeta only [v])
    | (intro v; refine Keeps.cut (u := u) (v := v.1) ?_ ?_; on_goal 1 => dsimp -zeta only [v]) | intro _ | lift_lets -underBinder | split
    | fail_if_no_progress with_reducible apply Keeps.update | dsimp -zeta only

theorem State.arrayTest_keeps {u s : State} (k : Keeps u s) (i : Nat) (rows cols : List Nat) : Keeps u (State.arrayTest s i rows cols) := by
  unfold State.arrayTest
  repeat' first
    | with_reducible assumption | with_reducible apply State.wr_keeps | with_reducible apply State.wrB_keeps
    | with_reducible apply State.setCore_keeps | with_reducible apply State.spareUsed_keeps | with_reducible apply State.noSpare_keeps
    | with_reducible apply State.putArr_keeps | (intro v; refine Keeps.cut (u := u) (v := v) ?_ ?_; on_goal 1 => dsimp -zeta only [v])
    | intro _ | lift_lets -underBinder | split | fail_if_no_progress with_reducible apply Keeps.update | dsimp -zeta only

theorem State.itemReissue_keeps {u s : State} (k : Keeps u s) (ring dc item c t : Nat) : Keeps u (State.itemReissue s ring dc item c t) :=
    by
  unfold State.itemReissue
  repeat' first
    | with_reducible assumption | with_reducible apply State.setThr_keeps | with_reducible apply State.count_keeps
    | with_reducible apply State.readMem_keeps | with_reducible apply State.writeMem_keeps | with_reducible apply State.updCmd_keeps
    | with_reducible apply State.startThread_keeps | with_reducible apply State.startLib_keeps
    | (intro v; refine Keeps.cut (u := u) (v := v) ?_ ?_; on_goal 1 => dsimp -zeta only [v])
    | (intro v; refine Keeps.cut (u := u) (v := v.1) ?_ ?_; on_goal 1 => dsimp -zeta only [v]) | intro _ | lift_lets -underBinder | split
    | fail_if_no_progress with_reducible apply Keeps.update | dsimp -zeta only

theorem State.freeFlits_keeps {u s : State} (k : Keeps u s) (port : Nat) (p : Pkt) : Keeps u (State.freeFlits s port p) := by
  unfold State.freeFlits
  repeat' first
    | with_reducible assumption | with_reducible apply State.setPort_keeps
    | (intro v; refine Keeps.cut (u := u) (v := v) ?_ ?_; on_goal 1 => dsimp -zeta only [v]) | intro _ | lift_lets -underBinder | split
    | fail_if_no_progress with_reducible apply Keeps.update

theorem State.takePkt_keeps {u s t : State} (k : Keeps u s) {src : Option Nat} {f : Pkt → Bool} {p : Pkt}
    (h : s.takePkt src f = some (p, t)) : Keeps u t := by
  simp only [State.takePkt] at h
  repeat' split at h
  all_goals first
    | cases h; done
    | (injection h with h; injection h with _ h; exact h ▸ State.freeFlits_keeps (State.setPort_keeps k _ _) _ _)
    | (injection h with h; injection h with _ h; exact h ▸ k.same rfl rfl rfl)

theorem State.rememberDrop_keeps {u s : State} (k : Keeps u s) (p : Pkt) : Keeps u (State.rememberDrop s p) := by
  unfold State.rememberDrop
  repeat' first
    | with_reducible assumption | (intro v; refine Keeps.cut (u := u) (v := v) ?_ ?_; on_goal 1 => dsimp -zeta only [v]) | intro _
    | lift_lets -underBinder | split | fail_if_no_progress with_reducible apply Keeps.update | dsimp -zeta only

theorem State.countDrop_keeps {u s : State} (k : Keeps u s) (src : Option Nat) : Keeps u (State.countDrop s src) := by
  unfold State.countDrop
  repeat' first
    | with_reducible assumption | with_reducible apply State.incF_keeps | with_reducible apply State.countBlock_keeps
    | (intro v; refine Keeps.cut (u := u) (v := v) ?_ ?_; on_goal 1 => dsimp -zeta only [v]) | intro _ | lift_lets -underBinder | split
    | fail_if_no_progress with_reducible apply Keeps.update | dsimp -zeta only

theorem State.refusePkt_keeps {u s : State} (k : Keeps u s) (src : Option Nat) (p : Pkt) (code : W16) : Keeps u (State.refusePkt s src p
    code) := by
  unfold State.refusePkt
  repeat' first
    | with_reducible assumption | with_reducible apply State.sendStatus_keeps | with_reducible apply State.rememberDrop_keeps
    | with_reducible apply State.countDrop_keeps

theorem State.staleAdd_keeps {u s : State} (k : Keeps u s) (src : Option Nat) (p : Pkt) : Keeps u (State.staleAdd s src p) := by
  unfold State.staleAdd
  repeat' first
    | with_reducible assumption | with_reducible apply State.report_keeps | with_reducible apply State.countDrop_keeps | intro _

theorem State.refuseSource_keeps {u s : State} (k : Keeps u s) (src : Option Nat) (p : Pkt) (code : W16) : Keeps u (State.refuseSource s src
    p code) := by
  unfold State.refuseSource
  repeat' first
    | with_reducible assumption | with_reducible apply State.report_keeps | with_reducible apply State.refusePkt_keeps | intro _

theorem State.landPkt_keeps {u s : State} (k : Keeps u s) (src : Option Nat) (p : Pkt) (pa part : Nat) : Keeps u (State.landPkt s src p pa
    part) := by
  unfold State.landPkt
  repeat' first
    | with_reducible assumption | with_reducible apply State.count_keeps | with_reducible apply State.writeMem_keeps
    | with_reducible apply State.countMem_keeps | with_reducible apply State.hold_keeps
    | (intro v; refine Keeps.cut (u := u) (v := v) ?_ ?_; on_goal 1 => dsimp -zeta only [v]) | intro _ | lift_lets -underBinder | split
    | fail_if_no_progress with_reducible apply Keeps.update | dsimp -zeta only

theorem State.latchAddRow_keeps {u s : State} (k : Keeps u s) (src : Option Nat) : Keeps u (State.latchAddRow s src) := by
  unfold State.latchAddRow
  repeat' first
    | with_reducible assumption | with_reducible apply State.extLatch_keeps | with_reducible apply State.staleAdd_keeps
    | with_reducible apply State.refuseSource_keeps | with_reducible refine State.takePkt_keeps ?_ (by assumption)
    | (intro v; refine Keeps.cut (u := u) (v := v) ?_ ?_; on_goal 1 => dsimp -zeta only [v]) | intro _ | lift_lets -underBinder | split
    | fail_if_no_progress with_reducible apply Keeps.update | dsimp -zeta only

theorem State.putCtr_keeps {u s : State} (k : Keeps u s) (c : Ctr) (round cur next : Nat) : Keeps u (State.putCtr s c round cur next) := by
  unfold State.putCtr
  repeat' first
    | with_reducible assumption | with_reducible apply State.setLatch_keeps | with_reducible apply State.latchTest_keeps
    | (intro v; refine Keeps.cut (u := u) (v := v) ?_ ?_; on_goal 1 => dsimp -zeta only [v]) | intro _ | lift_lets -underBinder | split

theorem State.toGroup_keeps {u s : State} (k : Keeps u s) (c : Ctr) (round op estat : Nat) : Keeps u (State.toGroup s c round op estat) :=
    by
  unfold State.toGroup
  repeat' first
    | with_reducible assumption | with_reducible apply State.sendBarrier_keeps | with_reducible apply Keeps.foldl
    | with_reducible apply Keeps.foldl_fst | (intro v; refine Keeps.cut (u := u) (v := v) ?_ ?_; on_goal 1 => dsimp -zeta only [v])
    | (intro v; refine Keeps.cut (u := u) (v := v.1) ?_ ?_; on_goal 1 => dsimp -zeta only [v]) | intro _ | lift_lets -underBinder | split
    | dsimp -zeta only

theorem State.advance_keeps {u s : State} (k : Keeps u s) (c : Ctr) : Keeps u (State.advance s c) := by
  unfold State.advance
  repeat' first
    | with_reducible assumption | with_reducible apply State.sendArrival_keeps | with_reducible apply State.putCtr_keeps
    | with_reducible apply State.toGroup_keeps | (intro v; refine Keeps.cut (u := u) (v := v) ?_ ?_; on_goal 1 => dsimp -zeta only [v])
    | intro _ | lift_lets -underBinder | split | fail_if_no_progress with_reducible apply Keeps.update | dsimp -zeta only

theorem State.complete_keeps {u s : State} (k : Keeps u s) (c : Ctr) : Keeps u (State.complete s c) := by
  unfold State.complete
  repeat' first
    | with_reducible assumption | with_reducible apply State.sendArrival_keeps | with_reducible apply State.toGroup_keeps
    | with_reducible apply State.advance_keeps | split | dsimp -zeta only

theorem State.refuseArrival_keeps {u s : State} (k : Keeps u s) (p : Pkt) (estat : Nat) : Keeps u (State.refuseArrival s p estat) := by
  unfold State.refuseArrival
  repeat' first
    | with_reducible assumption | with_reducible apply State.sendBarrier_keeps

theorem State.arrive_keeps {u s : State} (k : Keeps u s) (c : Ctr) (p : Pkt) : Keeps u (State.arrive s c p) := by
  unfold State.arrive
  repeat' first
    | with_reducible assumption | with_reducible apply State.putCtr_keeps | with_reducible apply State.complete_keeps
    | with_reducible apply State.refuseArrival_keeps
    | (intro v; refine Keeps.cut (u := u) (v := v) ?_ ?_; on_goal 1 => dsimp -zeta only [v]) | intro _ | lift_lets -underBinder | split
    | fail_if_no_progress with_reducible apply Keeps.update | dsimp -zeta only

theorem State.arrivalRow_keeps {u s : State} (k : Keeps u s) (src : Option Nat) : Keeps u (State.arrivalRow s src) := by
  unfold State.arrivalRow
  repeat' first
    | with_reducible assumption | with_reducible apply State.refuseSource_keeps | with_reducible apply State.refuseArrival_keeps
    | with_reducible apply State.arrive_keeps | with_reducible refine State.takePkt_keeps ?_ (by assumption)
    | (intro v; refine Keeps.cut (u := u) (v := v) ?_ ?_; on_goal 1 => dsimp -zeta only [v]) | intro _ | lift_lets -underBinder | split
    | fail_if_no_progress with_reducible apply Keeps.update | dsimp -zeta only

theorem State.takeReleases_keeps {u s : State} (k : Keeps u s) (q : Nat) (f : Release → Bool) : Keeps u (State.takeReleases s q f).2 := by
  unfold State.takeReleases
  repeat' first
    | with_reducible assumption | (intro v; refine Keeps.cut (u := u) (v := v) ?_ ?_; on_goal 1 => dsimp -zeta only [v]) | intro _
    | lift_lets -underBinder | split | fail_if_no_progress with_reducible apply Keeps.update | dsimp -zeta only

theorem State.releaseEntry_keeps {u s : State} (k : Keeps u s) (e : Release) : Keeps u (State.releaseEntry s e) := by
  unfold State.releaseEntry
  repeat' first
    | with_reducible assumption | with_reducible apply State.raise_keeps | with_reducible apply State.extLatch_keeps
    | with_reducible apply State.toGroup_keeps | with_reducible apply State.advance_keeps
    | (intro v; refine Keeps.cut (u := u) (v := v) ?_ ?_; on_goal 1 => dsimp -zeta only [v]) | intro _ | lift_lets -underBinder | split
    | fail_if_no_progress with_reducible apply Keeps.update | dsimp -zeta only

theorem State.releaseRow_keeps {u s : State} (k : Keeps u s) (src : Option Nat) : Keeps u (State.releaseRow s src) := by
  unfold State.releaseRow
  repeat' first
    | with_reducible assumption | with_reducible apply State.refuseSource_keeps | with_reducible apply State.takeReleases_keeps
    | with_reducible apply State.releaseEntry_keeps | with_reducible refine State.takePkt_keeps ?_ (by assumption)
    | with_reducible apply Keeps.foldl | with_reducible apply Keeps.foldl_fst
    | (intro v; refine Keeps.cut (u := u) (v := v) ?_ ?_; on_goal 1 => dsimp -zeta only [v])
    | (intro v; refine Keeps.cut (u := u) (v := v.1) ?_ ?_; on_goal 1 => dsimp -zeta only [v]) | intro _ | lift_lets -underBinder | split
    | fail_if_no_progress with_reducible apply Keeps.update | dsimp -zeta only

theorem State.refuseEntry_keeps {u s : State} (k : Keeps u s) (estat : Nat) (e : Release) : Keeps u (State.refuseEntry s estat e) := by
  unfold State.refuseEntry
  repeat' first
    | with_reducible assumption | with_reducible apply State.event_keeps | with_reducible apply State.extLatch_keeps
    | with_reducible apply State.toGroup_keeps | with_reducible apply State.advance_keeps
    | (intro v; refine Keeps.cut (u := u) (v := v) ?_ ?_; on_goal 1 => dsimp -zeta only [v]) | intro _ | lift_lets -underBinder | split
    | fail_if_no_progress with_reducible apply Keeps.update | dsimp -zeta only

theorem State.refusalRow_keeps {u s : State} (k : Keeps u s) (src : Option Nat) : Keeps u (State.refusalRow s src) := by
  unfold State.refusalRow
  repeat' first
    | with_reducible assumption | with_reducible apply State.refuseSource_keeps | with_reducible apply State.takeReleases_keeps
    | with_reducible apply State.refuseEntry_keeps | with_reducible refine State.takePkt_keeps ?_ (by assumption)
    | with_reducible apply Keeps.foldl | with_reducible apply Keeps.foldl_fst
    | (intro v; refine Keeps.cut (u := u) (v := v) ?_ ?_; on_goal 1 => dsimp -zeta only [v])
    | (intro v; refine Keeps.cut (u := u) (v := v.1) ?_ ?_; on_goal 1 => dsimp -zeta only [v]) | intro _ | lift_lets -underBinder | split
    | fail_if_no_progress with_reducible apply Keeps.update | dsimp -zeta only

theorem State.resetCtr_keeps {u s : State} (k : Keeps u s) (c : Ctr) (r0 : Nat) : Keeps u (State.resetCtr s c r0) := by
  unfold State.resetCtr
  repeat' first
    | with_reducible assumption | with_reducible apply State.sendBarrier_keeps | with_reducible apply State.putCtr_keeps
    | with_reducible apply State.toGroup_keeps | (intro v; refine Keeps.cut (u := u) (v := v) ?_ ?_; on_goal 1 => dsimp -zeta only [v])
    | intro _ | lift_lets -underBinder | split | dsimp -zeta only

theorem State.breakEntry_keeps {u s : State} (k : Keeps u s) (e : Release) : Keeps u (State.breakEntry s e) := by
  unfold State.breakEntry
  repeat' first
    | with_reducible assumption | with_reducible apply State.extLatch_keeps
    | (intro v; refine Keeps.cut (u := u) (v := v) ?_ ?_; on_goal 1 => dsimp -zeta only [v]) | intro _ | lift_lets -underBinder | split
    | fail_if_no_progress with_reducible apply Keeps.update | dsimp -zeta only

theorem State.resetRow_keeps {u s : State} (k : Keeps u s) (src : Option Nat) : Keeps u (State.resetRow s src) := by
  unfold State.resetRow
  repeat' first
    | with_reducible assumption | with_reducible apply State.refuseSource_keeps | with_reducible apply State.takeReleases_keeps
    | with_reducible apply State.resetCtr_keeps | with_reducible apply State.breakEntry_keeps
    | with_reducible refine State.takePkt_keeps ?_ (by assumption) | with_reducible apply Keeps.foldl | with_reducible apply Keeps.foldl_fst
    | (intro v; refine Keeps.cut (u := u) (v := v) ?_ ?_; on_goal 1 => dsimp -zeta only [v])
    | (intro v; refine Keeps.cut (u := u) (v := v.1) ?_ ?_; on_goal 1 => dsimp -zeta only [v]) | intro _ | lift_lets -underBinder | split
    | fail_if_no_progress with_reducible apply Keeps.update | dsimp -zeta only

theorem State.ackRow_keeps {u s : State} (k : Keeps u s) (src : Option Nat) : Keeps u (State.ackRow s src) := by
  unfold State.ackRow
  repeat' first
    | with_reducible assumption | with_reducible apply State.sendBarrier_keeps | with_reducible apply State.refuseSource_keeps
    | with_reducible refine State.takePkt_keeps ?_ (by assumption)
    | (intro v; refine Keeps.cut (u := u) (v := v) ?_ ?_; on_goal 1 => dsimp -zeta only [v]) | intro _ | lift_lets -underBinder | split
    | fail_if_no_progress with_reducible apply Keeps.update | dsimp -zeta only

theorem State.startReset_keeps {u s t : State} (k : Keeps u s) {a r0 : Nat} {part : Option Nat} (h : s.startReset a r0 part = some t) :
    Keeps u t := by
  unfold State.startReset at h
  split at h
  · split at h
    · split at h
      · rw [← Option.some.inj h]
        exact State.resetCtr_keeps (Keeps.update k) _ _
      · exact absurd h (by simp)
    · exact absurd h (by simp)
  · exact absurd h (by simp)

theorem State.breakUnreachable_keeps {u s : State} (k : Keeps u s) (f : Release → Bool) : Keeps u (State.breakUnreachable s f) := by
  unfold State.breakUnreachable
  repeat' first
    | with_reducible assumption | with_reducible apply State.breakEntry_keeps | with_reducible apply Keeps.foldl
    | with_reducible apply Keeps.foldl_fst | (intro v; refine Keeps.cut (u := u) (v := v) ?_ ?_; on_goal 1 => dsimp -zeta only [v])
    | intro _ | lift_lets -underBinder | split | fail_if_no_progress with_reducible apply Keeps.update | dsimp -zeta only

theorem State.routesChanged_keeps {u s : State} (k : Keeps u s) : Keeps u (State.routesChanged s) := by
  unfold State.routesChanged
  repeat' first
    | with_reducible assumption | with_reducible apply State.reroute_keeps | with_reducible apply State.breakUnreachable_keeps
    | (intro v; refine Keeps.cut (u := u) (v := v) ?_ ?_; on_goal 1 => dsimp -zeta only [v]) | intro _ | lift_lets -underBinder | split
    | dsimp -zeta only

theorem State.unsupported_keeps {u s : State} (k : Keeps u s) : Keeps u (State.unsupported s) := by
  unfold State.unsupported
  repeat' first
    | with_reducible assumption | with_reducible apply State.answer_keeps

theorem State.bar2Read_keeps {u s : State} (k : Keeps u s) (off n : Nat) : Keeps u (State.bar2Read s off n) := by
  unfold State.bar2Read
  repeat' first
    | with_reducible assumption | with_reducible apply State.answer_keeps | with_reducible apply State.logSession_keeps
    | with_reducible apply State.count_keeps | with_reducible apply State.readMem_keeps | with_reducible apply State.countMem_keeps
    | with_reducible apply State.logPoison_keeps | with_reducible apply State.unsupported_keeps | with_reducible apply Keeps.foldl
    | with_reducible apply Keeps.foldl_fst | (intro v; refine Keeps.cut (u := u) (v := v) ?_ ?_; on_goal 1 => dsimp -zeta only [v])
    | (intro v; refine Keeps.cut (u := u) (v := v.1) ?_ ?_; on_goal 1 => dsimp -zeta only [v]) | intro _ | lift_lets -underBinder | split
    | fail_if_no_progress with_reducible apply Keeps.update | dsimp -zeta only

theorem State.bar2Write_keeps {u s : State} (k : Keeps u s) (off : Nat) (b : List Byte) : Keeps u (State.bar2Write s off b) := by
  unfold State.bar2Write
  repeat' first
    | with_reducible assumption | with_reducible apply State.logSession_keeps | with_reducible apply State.count_keeps
    | with_reducible apply State.writeMem_keeps | with_reducible apply State.countMem_keeps | with_reducible apply State.unsupported_keeps
    | (intro v; refine Keeps.cut (u := u) (v := v) ?_ ?_; on_goal 1 => dsimp -zeta only [v]) | intro _ | lift_lets -underBinder | split
    | fail_if_no_progress with_reducible apply Keeps.update | dsimp -zeta only

theorem State.scrubRead_keeps {u s : State} (k : Keeps u s) (a : Nat) : Keeps u (State.scrubRead s a) := by
  unfold State.scrubRead
  repeat' first
    | with_reducible assumption | with_reducible apply State.wrF_keeps | with_reducible apply State.countBlock_keeps
    | with_reducible apply State.readGran_keeps | (intro v; refine Keeps.cut (u := u) (v := v) ?_ ?_; on_goal 1 => dsimp -zeta only [v])
    | (intro v; refine Keeps.cut (u := u) (v := v.1) ?_ ?_; on_goal 1 => dsimp -zeta only [v]) | intro _ | lift_lets -underBinder | split
    | fail_if_no_progress with_reducible apply Keeps.update | dsimp -zeta only

theorem State.rebuildLine_keeps {u s : State} (k : Keeps u s) (g pos : Nat) : Keeps u (State.rebuildLine s g pos) := by
  unfold State.rebuildLine
  repeat' first
    | with_reducible assumption | with_reducible apply State.setDelta_keeps | with_reducible apply State.ue_keeps
    | with_reducible apply State.fixPos_keeps | (intro v; refine Keeps.cut (u := u) (v := v) ?_ ?_; on_goal 1 => dsimp -zeta only [v])
    | intro _ | lift_lets -underBinder | split | fail_if_no_progress with_reducible apply Keeps.update | dsimp -zeta only

theorem State.rebuildEnd_keeps {u s : State} (k : Keeps u s) (st : Nat) : Keeps u (State.rebuildEnd s st) := by
  unfold State.rebuildEnd
  repeat' first
    | with_reducible assumption | with_reducible apply State.wrF_keeps | with_reducible apply State.countBlock_keeps
    | with_reducible apply State.setChanSt_keeps | with_reducible apply State.startRebuild_keeps
    | with_reducible apply State.spareUsed_keeps | with_reducible apply State.rebuildLine_keeps | with_reducible apply Keeps.foldl
    | with_reducible apply Keeps.foldl_fst | (intro v; refine Keeps.cut (u := u) (v := v) ?_ ?_; on_goal 1 => dsimp -zeta only [v])
    | (intro v; refine Keeps.cut (u := u) (v := v.1) ?_ ?_; on_goal 1 => dsimp -zeta only [v]) | intro _ | lift_lets -underBinder | split
    | fail_if_no_progress with_reducible apply Keeps.update | dsimp -zeta only

theorem State.spareCmd_keeps {u s : State} (k : Keeps u s) (st c op : Nat) : Keeps u (State.spareCmd s st c op) := by
  unfold State.spareCmd
  repeat' first
    | with_reducible assumption | with_reducible apply State.wr_keeps

theorem State.spareStart_keeps {u s : State} (k : Keeps u s) (st c : Nat) : Keeps u (State.spareStart s st c) := by
  unfold State.spareStart
  repeat' first
    | with_reducible assumption | with_reducible apply State.startRebuild_keeps
    | (intro v; refine Keeps.cut (u := u) (v := v) ?_ ?_; on_goal 1 => dsimp -zeta only [v])
    | (intro v; refine Keeps.cut (u := u) (v := v.1) ?_ ?_; on_goal 1 => dsimp -zeta only [v]) | intro _ | lift_lets -underBinder | split
    | fail_if_no_progress with_reducible apply Keeps.update | dsimp -zeta only

theorem State.refill_keeps {u s : State} (k : Keeps u s) (g : Nat) : Keeps u (State.refill s g) := by
  unfold State.refill
  repeat' first
    | with_reducible assumption | with_reducible apply State.zeroFill_keeps

theorem State.granWrite_keeps {u s : State} (k : Keeps u s) (g : Nat) (v : W32) : Keeps u (State.granWrite s g v) := by
  unfold State.granWrite
  repeat' first
    | with_reducible assumption | with_reducible apply State.wrF_keeps | with_reducible apply State.wrB_keeps
    | (intro v; refine Keeps.cut (u := u) (v := v) ?_ ?_; on_goal 1 => dsimp -zeta only [v]) | intro _ | lift_lets -underBinder | split
    | dsimp -zeta only

theorem State.dbRefuse_keeps {u s : State} (k : Keeps u s) (n : Nat) : Keeps u (State.dbRefuse s n) := by
  unfold State.dbRefuse
  repeat' first
    | with_reducible assumption | with_reducible apply State.setRing_keeps | with_reducible apply State.logSession_keeps
    | (intro v; refine Keeps.cut (u := u) (v := v) ?_ ?_; on_goal 1 => dsimp -zeta only [v]) | intro _ | lift_lets -underBinder | split
    | fail_if_no_progress with_reducible apply Keeps.update | dsimp -zeta only

theorem State.closeChan_keeps {u s : State} (k : Keeps u s) (c : Nat) : Keeps u (State.closeChan s c) := by
  unfold State.closeChan
  repeat' first
    | with_reducible assumption | with_reducible apply State.setChan_keeps
    | (intro v; refine Keeps.cut (u := u) (v := v) ?_ ?_; on_goal 1 => dsimp -zeta only [v]) | intro _ | lift_lets -underBinder | split
    | fail_if_no_progress with_reducible apply Keeps.update | dsimp -zeta only

theorem State.respond_keeps {u s : State} (k : Keeps u s) (c code : Nat) (tag : W32) (status : W16) (body : List Byte) : Keeps u
    (State.respond s c code tag status body) := by
  unfold State.respond
  repeat' first
    | with_reducible assumption | with_reducible apply State.setChan_keeps | with_reducible apply State.answer_keeps
    | with_reducible apply State.irq_keeps | with_reducible apply State.closeChan_keeps
    | (intro v; refine Keeps.cut (u := u) (v := v) ?_ ?_; on_goal 1 => dsimp -zeta only [v]) | intro _ | lift_lets -underBinder | split
    | fail_if_no_progress with_reducible apply Keeps.update | dsimp -zeta only

/-- Serving a request keeps what its own effect keeps. -/
theorem State.serve_keeps {u s : State} (k : Keeps u s) (m : Msg) (code size : Nat) (who : Chan → Bool)
    (f : State → List Byte → State × Answer) (hf : ∀ t b, Keeps u t → Keeps u (f t b).1) : Keeps u (s.serve m code size who f) := by
  unfold State.serve
  extract_lets c x out want t r
  have ho : ∀ v a, Keeps u v → Keeps u (out v a) := by
    intro v a hv
    dsimp only [out]
    split
    · refine State.respond_keeps ?_ _ _ _ _ _
      split
      · exact State.logSession_keeps hv _ _ _
      · exact hv
    · exact State.setChan_keeps hv _ _
  have ht : Keeps u t := State.setChan_keeps k _ _
  have hr : Keeps u r.1 := hf t _ ht
  clear_value out t r
  split
  · exact k
  · split
    · split
      · exact k
      · exact State.answer_keeps k _
    · split
      · exact State.setChan_keeps k _ _
      · repeat' split
        all_goals first
          | exact ho _ _ ht
          | exact ho _ _ hr

theorem State.setKey_keeps {u s : State} (k : Keeps u s) (k_ : Nat) (x : KeySlot) : Keeps u (State.setKey s k_ x) := by
  unfold State.setKey
  repeat' first
    | with_reducible assumption | (intro v; refine Keeps.cut (u := u) (v := v) ?_ ?_; on_goal 1 => dsimp -zeta only [v]) | intro _
    | lift_lets -underBinder | fail_if_no_progress with_reducible apply Keeps.update | dsimp -zeta only

theorem State.authFail_keeps {u s : State} (k : Keeps u s) (c : Nat) : Keeps u (State.authFail s c) := by
  unfold State.authFail
  repeat' first
    | with_reducible assumption | with_reducible apply State.setChan_keeps | with_reducible apply State.closeChan_keeps
    | (intro v; refine Keeps.cut (u := u) (v := v) ?_ ?_; on_goal 1 => dsimp -zeta only [v]) | intro _ | lift_lets -underBinder | split
    | fail_if_no_progress with_reducible apply Keeps.update | dsimp -zeta only

theorem State.closeSlot_keeps {u s : State} (k : Keeps u s) (k_ : Nat) : Keeps u (State.closeSlot s k_) := by
  unfold State.closeSlot
  repeat' first
    | with_reducible assumption | with_reducible apply State.closeChan_keeps | with_reducible apply Keeps.foldl
    | with_reducible apply Keeps.foldl_fst | intro _ | split | dsimp -zeta only

theorem State.ringMsg_keeps {u s : State} (k : Keeps u s) (ch : Nat) (b : List Byte) (f : Nat → State × Answer) (hf : ∀ (a0 : Nat), Keeps u
    (f a0).1) : Keeps u (State.ringMsg s ch b f).1 := by
  unfold State.ringMsg
  repeat' first
    | with_reducible assumption | with_reducible apply hf
    | (intro v; refine Keeps.cut (u := u) (v := v) ?_ ?_; on_goal 1 => dsimp -zeta only [v]) | intro _ | lift_lets -underBinder | split
    | fail_if_no_progress with_reducible apply Keeps.update | dsimp -zeta only

theorem State.resetChan_keeps {u s : State} (k : Keeps u s) (c : Nat) : Keeps u (State.resetChan s c) := by
  unfold State.resetChan
  repeat' first
    | with_reducible assumption | with_reducible apply State.setChan_keeps | with_reducible apply State.closeChan_keeps
    | (intro v; refine Keeps.cut (u := u) (v := v) ?_ ?_; on_goal 1 => dsimp -zeta only [v]) | intro _ | lift_lets -underBinder | split
    | fail_if_no_progress with_reducible apply Keeps.update | dsimp -zeta only

theorem State.resetRing_keeps {u s : State} (k : Keeps u s) (n : Nat) : Keeps u (State.resetRing s n) := by
  unfold State.resetRing
  repeat' first
    | with_reducible assumption | with_reducible apply State.setRing_keeps
    | (intro v; refine Keeps.cut (u := u) (v := v) ?_ ?_; on_goal 1 => dsimp -zeta only [v]) | intro _ | lift_lets -underBinder | split
    | fail_if_no_progress with_reducible apply Keeps.update | dsimp -zeta only

theorem State.setWin_keeps {u s : State} (k : Keeps u s) (slot : Nat) (w : Win) : Keeps u (State.setWin s slot w) := by
  unfold State.setWin
  repeat' first
    | with_reducible assumption | (intro v; refine Keeps.cut (u := u) (v := v) ?_ ?_; on_goal 1 => dsimp -zeta only [v]) | intro _
    | lift_lets -underBinder | fail_if_no_progress with_reducible apply Keeps.update | dsimp -zeta only

theorem State.putWindow_keeps {u s : State} (k : Keeps u s) (slot part : Nat) (dest : W64) (words : List W64) (flags : Nat) : Keeps u
    (State.putWindow s slot part dest words flags) := by
  unfold State.putWindow
  repeat' first
    | with_reducible assumption | with_reducible apply State.writeMem_keeps | with_reducible apply State.countMem_keeps
    | with_reducible apply State.trace_keeps | with_reducible apply State.traceModule_keeps | with_reducible apply State.setWin_keeps
    | (intro v; refine Keeps.cut (u := u) (v := v) ?_ ?_; on_goal 1 => dsimp -zeta only [v]) | intro _ | lift_lets -underBinder | split
    | fail_if_no_progress with_reducible apply Keeps.update | dsimp -zeta only

theorem State.openWindow_keeps {u s : State} (k : Keeps u s) (slot part : Nat) (n : W64) : Keeps u (State.openWindow s slot part n) := by
  unfold State.openWindow
  repeat' first
    | with_reducible assumption | with_reducible apply State.setWin_keeps
    | (intro v; refine Keeps.cut (u := u) (v := v) ?_ ?_; on_goal 1 => dsimp -zeta only [v]) | intro _ | lift_lets -underBinder | split
    | fail_if_no_progress with_reducible apply Keeps.update | dsimp -zeta only

theorem State.closeWindow_keeps {u s : State} (k : Keeps u s) (slot : Nat) : Keeps u (State.closeWindow s slot) := by
  unfold State.closeWindow
  repeat' first
    | with_reducible assumption | with_reducible apply State.setWin_keeps | with_reducible apply State.putWindow_keeps
    | (intro v; refine Keeps.cut (u := u) (v := v) ?_ ?_; on_goal 1 => dsimp -zeta only [v]) | intro _ | lift_lets -underBinder | split
    | fail_if_no_progress with_reducible apply Keeps.update | dsimp -zeta only

theorem State.lateWindow_keeps {u s : State} (k : Keeps u s) (slot part : Nat) (n : W64) : Keeps u (State.lateWindow s slot part n) := by
  unfold State.lateWindow
  repeat' first
    | with_reducible assumption | with_reducible apply State.putWindow_keeps

theorem State.swapRow_keeps {u s : State} (k : Keeps u s) (x : Nat) : Keeps u (State.swapRow s x) := by
  unfold State.swapRow
  repeat' first
    | with_reducible assumption | with_reducible apply State.swapTracker_keeps
    | (intro v; refine Keeps.cut (u := u) (v := v) ?_ ?_; on_goal 1 => dsimp -zeta only [v]) | intro _ | lift_lets -underBinder | split
    | dsimp -zeta only

theorem State.updOp_keeps {u s : State} (k : Keeps u s) (o : CollOp) (f : CollOp → CollOp) : Keeps u (State.updOp s o f) := by
  unfold State.updOp
  repeat' first
    | with_reducible assumption | (intro v; refine Keeps.cut (u := u) (v := v) ?_ ?_; on_goal 1 => dsimp -zeta only [v]) | intro _
    | lift_lets -underBinder | split | fail_if_no_progress with_reducible apply Keeps.update | dsimp -zeta only

theorem State.updLanding_keeps {u s : State} (k : Keeps u s) (g opseq : Nat) (f : Landing → Landing) : Keeps u (State.updLanding s g opseq
    f) := by
  unfold State.updLanding
  repeat' first
    | with_reducible assumption | (intro v; refine Keeps.cut (u := u) (v := v) ?_ ?_; on_goal 1 => dsimp -zeta only [v]) | intro _
    | lift_lets -underBinder | split | fail_if_no_progress with_reducible apply Keeps.update | dsimp -zeta only

theorem State.openLanding_keeps {u s : State} (k : Keeps u s) (g opseq : Nat) : Keeps u (State.openLanding s g opseq) := by
  unfold State.openLanding
  repeat' first
    | with_reducible assumption | (intro v; refine Keeps.cut (u := u) (v := v) ?_ ?_; on_goal 1 => dsimp -zeta only [v]) | intro _
    | lift_lets -underBinder | split | fail_if_no_progress with_reducible apply Keeps.update | dsimp -zeta only

theorem State.collSend_keeps {u s : State} (k : Keeps u s) (k_ : Cmd) (o : CollOp) (dst phase addr : Nat) (b : List Byte) (bad : List (Nat ×
    Nat)) : Keeps u (State.collSend s k_ o dst phase addr b bad) := by
  unfold State.collSend
  repeat' first
    | with_reducible assumption | with_reducible apply State.count_keeps | with_reducible apply State.trace_keeps
    | with_reducible apply State.sendWrites_keeps | (intro v; refine Keeps.cut (u := u) (v := v) ?_ ?_; on_goal 1 => dsimp -zeta only [v])
    | (intro v; refine Keeps.cut (u := u) (v := v.1) ?_ ?_; on_goal 1 => dsimp -zeta only [v]) | intro _ | lift_lets -underBinder | split
    | fail_if_no_progress with_reducible apply Keeps.update | dsimp -zeta only

theorem State.sendContribution_keeps {u s : State} (k : Keeps u s) (k_ : Cmd) (o : CollOp) : Keeps u (State.sendContribution s k_ o) := by
  unfold State.sendContribution
  repeat' first
    | with_reducible assumption | with_reducible apply State.collSend_keeps | with_reducible apply Keeps.foldl
    | with_reducible apply Keeps.foldl_fst | (intro v; refine Keeps.cut (u := u) (v := v) ?_ ?_; on_goal 1 => dsimp -zeta only [v])
    | intro _ | lift_lets -underBinder | split | dsimp -zeta only

theorem State.sendPartials_keeps {u s : State} (k : Keeps u s) (k_ : Cmd) (o : CollOp) (l : Nat) : Keeps u (State.sendPartials s k_ o l) :=
    by
  unfold State.sendPartials
  repeat' first
    | with_reducible assumption | with_reducible apply State.collSend_keeps | with_reducible apply Keeps.foldl
    | with_reducible apply Keeps.foldl_fst | (intro v; refine Keeps.cut (u := u) (v := v) ?_ ?_; on_goal 1 => dsimp -zeta only [v])
    | (intro v; refine Keeps.cut (u := u) (v := v.1) ?_ ?_; on_goal 1 => dsimp -zeta only [v]) | intro _ | lift_lets -underBinder | split
    | dsimp -zeta only

theorem State.keepResult_keeps {u s : State} (k : Keeps u s) (k_ : Cmd) (o : CollOp) (x : Nat) (b : List Byte) : Keeps u (State.keepResult s
    k_ o x b) := by
  unfold State.keepResult
  repeat' first
    | with_reducible assumption | with_reducible apply State.writeMem_keeps | with_reducible apply State.countMem_keeps
    | with_reducible apply State.updOp_keeps | with_reducible apply Keeps.foldl | with_reducible apply Keeps.foldl_fst
    | (intro v; refine Keeps.cut (u := u) (v := v) ?_ ?_; on_goal 1 => dsimp -zeta only [v])
    | (intro v; refine Keeps.cut (u := u) (v := v.1) ?_ ?_; on_goal 1 => dsimp -zeta only [v]) | intro _ | lift_lets -underBinder | split
    | fail_if_no_progress with_reducible apply Keeps.update | dsimp -zeta only

theorem State.sendResults_keeps {u s : State} (k : Keeps u s) (k_ : Cmd) (o : CollOp) (l : Nat) : Keeps u (State.sendResults s k_ o l) := by
  unfold State.sendResults
  repeat' first
    | with_reducible assumption | with_reducible apply State.collSend_keeps | with_reducible apply Keeps.foldl
    | with_reducible apply Keeps.foldl_fst | intro _ | dsimp -zeta only

theorem State.sendMask_keeps {u s : State} (k : Keeps u s) (k_ : Cmd) (o : CollOp) (idx : Nat) (b : List Byte) : Keeps u (State.sendMask s
    k_ o idx b) := by
  unfold State.sendMask
  repeat' first
    | with_reducible assumption | with_reducible apply State.writeMem_keeps | with_reducible apply State.collSend_keeps
    | with_reducible apply Keeps.foldl | with_reducible apply Keeps.foldl_fst
    | (intro v; refine Keeps.cut (u := u) (v := v) ?_ ?_; on_goal 1 => dsimp -zeta only [v]) | intro _ | lift_lets -underBinder | split
    | dsimp -zeta only

theorem State.scanAndSend_keeps {u s : State} (k : Keeps u s) (k_ : Cmd) (o : CollOp) (idx : Nat) (arr : Nat → Bool) : Keeps u
    (State.scanAndSend s k_ o idx arr) := by
  unfold State.scanAndSend
  repeat' first
    | with_reducible assumption | with_reducible apply State.updOp_keeps | with_reducible apply State.sendMask_keeps
    | with_reducible apply Keeps.foldl | with_reducible apply Keeps.foldl_fst
    | (intro v; refine Keeps.cut (u := u) (v := v) ?_ ?_; on_goal 1 => dsimp -zeta only [v])
    | (intro v; refine Keeps.cut (u := u) (v := v.1) ?_ ?_; on_goal 1 => dsimp -zeta only [v]) | intro _ | lift_lets -underBinder | split
    | fail_if_no_progress with_reducible apply Keeps.update | dsimp -zeta only

theorem State.collReport_keeps {u s : State} (k : Keeps u s) (k_ : Cmd) (o : CollOp) (status : W16) : Keeps u (State.collReport s k_ o
    status) := by
  unfold State.collReport
  repeat' first
    | with_reducible assumption | with_reducible apply State.writeMem_keeps
    | (intro v; refine Keeps.cut (u := u) (v := v) ?_ ?_; on_goal 1 => dsimp -zeta only [v])
    | (intro v; refine Keeps.cut (u := u) (v := v.1) ?_ ?_; on_goal 1 => dsimp -zeta only [v]) | intro _ | lift_lets -underBinder | split
    | dsimp -zeta only

theorem State.dropOp_keeps {u s : State} (k : Keeps u s) (o : CollOp) : Keeps u (State.dropOp s o) := by
  unfold State.dropOp
  repeat' first
    | with_reducible assumption | (intro v; refine Keeps.cut (u := u) (v := v) ?_ ?_; on_goal 1 => dsimp -zeta only [v]) | intro _
    | lift_lets -underBinder | fail_if_no_progress with_reducible apply Keeps.update | dsimp -zeta only

theorem State.finishOp_keeps {u s : State} (k : Keeps u s) (k_ : Cmd) (o : CollOp) : Keeps u (State.finishOp s k_ o) := by
  unfold State.finishOp
  repeat' first
    | with_reducible assumption | with_reducible apply State.report_keeps | with_reducible apply State.doneCmd_keeps
    | with_reducible apply State.collReport_keeps | with_reducible apply State.dropOp_keeps
    | (intro v; refine Keeps.cut (u := u) (v := v) ?_ ?_; on_goal 1 => dsimp -zeta only [v]) | intro _ | lift_lets -underBinder | split
    | dsimp -zeta only

theorem State.scrambleBytes_keeps {u s : State} (k : Keeps u s) (a n : Nat) : Keeps u (State.scrambleBytes s a n) := by
  unfold State.scrambleBytes
  repeat' first
    | with_reducible assumption | with_reducible apply State.bump_keeps | with_reducible apply State.writeMem_keeps

theorem State.endOp_keeps {u s : State} (k : Keeps u s) (k_ : Cmd) (o : CollOp) (code : W16) : Keeps u (State.endOp s k_ o code) := by
  unfold State.endOp
  repeat' first
    | with_reducible assumption | with_reducible apply State.incF_keeps | with_reducible apply State.failCmd_keeps
    | with_reducible apply State.collReport_keeps | with_reducible apply State.dropOp_keeps | with_reducible apply State.scrambleBytes_keeps
    | (intro v; refine Keeps.cut (u := u) (v := v) ?_ ?_; on_goal 1 => dsimp -zeta only [v])
    | (intro v; refine Keeps.cut (u := u) (v := v.1) ?_ ?_; on_goal 1 => dsimp -zeta only [v]) | intro _ | lift_lets -underBinder | split
    | fail_if_no_progress with_reducible apply Keeps.update | dsimp -zeta only

theorem State.sendNotices_keeps {u s : State} (k : Keeps u s) (k_ : Cmd) (o : CollOp) : Keeps u (State.sendNotices s k_ o) := by
  unfold State.sendNotices
  repeat' first
    | with_reducible assumption | with_reducible apply State.collSend_keeps | with_reducible apply Keeps.foldl
    | with_reducible apply Keeps.foldl_fst | intro _ | dsimp -zeta only

theorem State.timeoutOp_keeps {u s : State} (k : Keeps u s) (k_ : Cmd) (o : CollOp) : Keeps u (State.timeoutOp s k_ o) := by
  unfold State.timeoutOp
  repeat' first
    | with_reducible assumption | with_reducible apply State.endOp_keeps | with_reducible apply State.sendNotices_keeps

theorem State.lrPut_keeps {u s : State} (k : Keeps u s) (k_ : Cmd) (t : Tensor) (rows cols : Nat) (code : Nat → Nat → Nat) : Keeps u
    (State.lrPut s k_ t rows cols code) := by
  unfold State.lrPut
  repeat' first
    | with_reducible assumption | with_reducible apply State.putTensor_keeps | intro _ | dsimp -zeta only

theorem State.lrEnd_keeps {u s : State} (k : Keeps u s) (k_ : Cmd) (o : CollOp) : Keeps u (State.lrEnd s k_ o) := by
  unfold State.lrEnd
  repeat' first
    | with_reducible assumption | with_reducible apply State.putTensor_keeps | with_reducible apply State.finishOp_keeps
    | with_reducible apply State.endOp_keeps | with_reducible apply State.lrPut_keeps
    | (intro v; refine Keeps.cut (u := u) (v := v) ?_ ?_; on_goal 1 => dsimp -zeta only [v])
    | (intro v; refine Keeps.cut (u := u) (v := v.1) ?_ ?_; on_goal 1 => dsimp -zeta only [v]) | intro _ | lift_lets -underBinder | split
    | fail_if_no_progress with_reducible apply Keeps.update | dsimp -zeta only

theorem State.lrSecond_keeps {u s : State} (k : Keeps u s) (k_ : Cmd) (o : CollOp) : Keeps u (State.lrSecond s k_ o) := by
  unfold State.lrSecond
  repeat' first
    | with_reducible assumption | with_reducible apply State.updOp_keeps | with_reducible apply State.updLanding_keeps
    | with_reducible apply State.sendContribution_keeps | with_reducible apply State.endOp_keeps
    | (intro v; refine Keeps.cut (u := u) (v := v) ?_ ?_; on_goal 1 => dsimp -zeta only [v])
    | (intro v; refine Keeps.cut (u := u) (v := v.1) ?_ ?_; on_goal 1 => dsimp -zeta only [v]) | (intro v; clear_value v) | intro _
    | lift_lets -underBinder | split | fail_if_no_progress with_reducible apply Keeps.update | dsimp -zeta only

theorem State.startDown_keeps {u s : State} (k : Keeps u s) (k_ : Cmd) (o : CollOp) : Keeps u (State.startDown s k_ o) := by
  unfold State.startDown
  repeat' first
    | with_reducible assumption | with_reducible apply State.updOp_keeps | with_reducible apply State.sendResults_keeps
    | (intro v; refine Keeps.cut (u := u) (v := v) ?_ ?_; on_goal 1 => dsimp -zeta only [v]) | intro _ | lift_lets -underBinder | split
    | fail_if_no_progress with_reducible apply Keeps.update | dsimp -zeta only

theorem State.collAdvance_keeps {u s : State} (k : Keeps u s) (g opseq : Nat) : Keeps u (State.collAdvance s g opseq) := by
  unfold State.collAdvance
  repeat' first
    | with_reducible assumption | with_reducible apply State.finishOp_keeps | with_reducible apply State.lrEnd_keeps
    | with_reducible apply State.lrSecond_keeps | (intro v; refine Keeps.cut (u := u) (v := v) ?_ ?_; on_goal 1 => dsimp -zeta only [v])
    | intro _ | lift_lets -underBinder | split | fail_if_no_progress with_reducible apply Keeps.update | dsimp -zeta only

theorem State.folded_keeps {u s : State} (k : Keeps u s) (k_ : Cmd) (o : CollOp) (mask l : Nat) : Keeps u (State.folded s k_ o mask l) := by
  unfold State.folded
  repeat' first
    | with_reducible assumption | with_reducible apply State.updOp_keeps | with_reducible apply State.sendPartials_keeps
    | with_reducible apply State.keepResult_keeps | with_reducible apply State.finishOp_keeps | with_reducible apply State.startDown_keeps
    | (intro v; refine Keeps.cut (u := u) (v := v) ?_ ?_; on_goal 1 => dsimp -zeta only [v])
    | (intro v; refine Keeps.cut (u := u) (v := v.1) ?_ ?_; on_goal 1 => dsimp -zeta only [v]) | intro _ | lift_lets -underBinder | split
    | fail_if_no_progress with_reducible apply Keeps.update | dsimp -zeta only

theorem State.releaseOp_keeps {u s : State} (k : Keeps u s) (k_ : Cmd) (o : CollOp) : Keeps u (State.releaseOp s k_ o) := by
  unfold State.releaseOp
  repeat' first
    | with_reducible assumption | with_reducible apply State.readMem_keeps | with_reducible apply State.countMem_keeps
    | with_reducible apply State.updOp_keeps | with_reducible apply State.sendContribution_keeps
    | with_reducible apply State.keepResult_keeps | with_reducible apply State.endOp_keeps | with_reducible apply State.startDown_keeps
    | (intro v; refine Keeps.cut (u := u) (v := v) ?_ ?_; on_goal 1 => dsimp -zeta only [v])
    | (intro v; refine Keeps.cut (u := u) (v := v.1) ?_ ?_; on_goal 1 => dsimp -zeta only [v]) | (intro v; clear_value v) | intro _
    | lift_lets -underBinder | split | fail_if_no_progress with_reducible apply Keeps.update | dsimp -zeta only

theorem State.releaseGated_keeps {u s : State} (k : Keeps u s) : Keeps u (State.releaseGated s) := by
  unfold State.releaseGated
  repeat' first
    | with_reducible assumption | with_reducible apply State.collAdvance_keeps | with_reducible apply State.releaseOp_keeps
    | with_reducible apply Keeps.foldl | with_reducible apply Keeps.foldl_fst
    | (intro v; refine Keeps.cut (u := u) (v := v) ?_ ?_; on_goal 1 => dsimp -zeta only [v]) | intro _ | lift_lets -underBinder | split
    | fail_if_no_progress with_reducible apply Keeps.update | dsimp -zeta only

theorem State.startColl_keeps {u s : State} (k : Keeps u s) (k_ : Cmd) : Keeps u (State.startColl s k_) := by
  unfold State.startColl
  repeat' first
    | with_reducible assumption | with_reducible apply State.failCmd_keeps | with_reducible apply State.openLanding_keeps
    | with_reducible apply State.endOp_keeps | with_reducible apply State.releaseGated_keeps
    | (intro v; refine Keeps.cut (u := u) (v := v) ?_ ?_; on_goal 1 => dsimp -zeta only [v])
    | (intro v; refine Keeps.cut (u := u) (v := v.1) ?_ ?_; on_goal 1 => dsimp -zeta only [v]) | intro _ | lift_lets -underBinder | split
    | fail_if_no_progress with_reducible apply Keeps.update | dsimp -zeta only

theorem State.runColl_keeps {u s : State} (k : Keeps u s) (ring dc cop : Nat) : Keeps u (State.runColl s ring dc cop) := by
  unfold State.runColl
  repeat' first
    | with_reducible assumption | with_reducible apply State.runCmd_keeps | with_reducible apply State.startColl_keeps
    | (intro v; refine Keeps.cut (u := u) (v := v) ?_ ?_; on_goal 1 => dsimp -zeta only [v]) | intro _ | lift_lets -underBinder | split
    | fail_if_no_progress with_reducible apply Keeps.update | dsimp -zeta only

theorem State.withOp_keeps {u s : State} (k : Keeps u s) (g opseq : Nat) (f : State → Cmd → CollOp → State) (hf : ∀ (a0 : State) (a1 : Cmd)
    (a2 : CollOp), Keeps u a0 → Keeps u (f a0 a1 a2)) : Keeps u (State.withOp s g opseq f) := by
  unfold State.withOp
  repeat' first
    | with_reducible assumption | with_reducible apply hf
    | (intro v; refine Keeps.cut (u := u) (v := v) ?_ ?_; on_goal 1 => dsimp -zeta only [v]) | intro _ | lift_lets -underBinder | split
    | fail_if_no_progress with_reducible apply Keeps.update | dsimp -zeta only

theorem State.ownerRound1_keeps {u s : State} (k : Keeps u s) (g opseq : Nat) : Keeps u (State.ownerRound1 s g opseq) := by
  unfold State.ownerRound1
  repeat' first
    | with_reducible assumption | with_reducible apply State.scanAndSend_keeps | with_reducible apply State.withOp_keeps
    | (intro v; refine Keeps.cut (u := u) (v := v) ?_ ?_; on_goal 1 => dsimp -zeta only [v])
    | (intro v; refine Keeps.cut (u := u) (v := v.1) ?_ ?_; on_goal 1 => dsimp -zeta only [v]) | intro _ | lift_lets -underBinder | split
    | fail_if_no_progress with_reducible apply Keeps.update | dsimp -zeta only

theorem State.round2_keeps {u s : State} (k : Keeps u s) (g opseq : Nat) : Keeps u (State.round2 s g opseq) := by
  unfold State.round2
  repeat' first
    | with_reducible assumption | with_reducible apply State.updOp_keeps | with_reducible apply State.sendMask_keeps
    | with_reducible apply State.scanAndSend_keeps | with_reducible apply State.withOp_keeps | with_reducible apply Keeps.foldl
    | with_reducible apply Keeps.foldl_fst | (intro v; refine Keeps.cut (u := u) (v := v) ?_ ?_; on_goal 1 => dsimp -zeta only [v])
    | (intro v; refine Keeps.cut (u := u) (v := v.1) ?_ ?_; on_goal 1 => dsimp -zeta only [v]) | intro _ | lift_lets -underBinder | split
    | fail_if_no_progress with_reducible apply Keeps.update | dsimp -zeta only

theorem State.agreedOn_keeps {u s : State} (k : Keeps u s) (k_ : Cmd) (o : CollOp) (mask round nanset : Nat) : Keeps u (State.agreedOn s k_
    o mask round nanset) := by
  unfold State.agreedOn
  repeat' first
    | with_reducible assumption | with_reducible apply State.updOp_keeps | with_reducible apply State.updLanding_keeps
    | with_reducible apply State.folded_keeps | (intro v; refine Keeps.cut (u := u) (v := v) ?_ ?_; on_goal 1 => dsimp -zeta only [v])
    | intro _ | lift_lets -underBinder | split | fail_if_no_progress with_reducible apply Keeps.update | dsimp -zeta only

theorem State.agree_keeps {u s : State} (k : Keeps u s) (g opseq : Nat) : Keeps u (State.agree s g opseq) := by
  unfold State.agree
  repeat' first
    | with_reducible assumption | with_reducible apply State.updOp_keeps | with_reducible apply State.endOp_keeps
    | with_reducible apply State.collAdvance_keeps | with_reducible apply State.withOp_keeps | with_reducible apply State.agreedOn_keeps
    | (intro v; refine Keeps.cut (u := u) (v := v) ?_ ?_; on_goal 1 => dsimp -zeta only [v])
    | (intro v; refine Keeps.cut (u := u) (v := v.1) ?_ ?_; on_goal 1 => dsimp -zeta only [v]) | intro _ | lift_lets -underBinder | split
    | fail_if_no_progress with_reducible apply Keeps.update | dsimp -zeta only

theorem State.hierLevel_keeps {u s : State} (k : Keeps u s) (g opseq l : Nat) : Keeps u (State.hierLevel s g opseq l) := by
  unfold State.hierLevel
  repeat' first
    | with_reducible assumption | with_reducible apply State.updOp_keeps | with_reducible apply State.sendResults_keeps
    | with_reducible apply State.collAdvance_keeps | with_reducible apply State.folded_keeps | with_reducible apply State.withOp_keeps
    | (intro v; refine Keeps.cut (u := u) (v := v) ?_ ?_; on_goal 1 => dsimp -zeta only [v]) | intro _ | lift_lets -underBinder | split
    | fail_if_no_progress with_reducible apply Keeps.update | dsimp -zeta only

theorem State.collTimeout_keeps {u s : State} (k : Keeps u s) (g opseq : Nat) : Keeps u (State.collTimeout s g opseq) := by
  unfold State.collTimeout
  repeat' first
    | with_reducible assumption | with_reducible apply State.timeoutOp_keeps | with_reducible apply State.start_keeps
    | (intro v; refine Keeps.cut (u := u) (v := v) ?_ ?_; on_goal 1 => dsimp -zeta only [v]) | intro _ | lift_lets -underBinder | split
    | fail_if_no_progress with_reducible apply Keeps.update | dsimp -zeta only

theorem State.stale_keeps {u s : State} (k : Keeps u s) : Keeps u (State.stale s) := by
  unfold State.stale
  repeat' first
    | with_reducible assumption | with_reducible apply State.incF_keeps

theorem State.countLand_keeps {u s : State} (k : Keeps u s) (g n r ph at_ bytes : Nat) : Keeps u (State.countLand s g n r ph at_ bytes) :=
    by
  unfold State.countLand
  repeat' first
    | with_reducible assumption | with_reducible apply State.updLanding_keeps
    | (intro v; refine Keeps.cut (u := u) (v := v) ?_ ?_; on_goal 1 => dsimp -zeta only [v]) | intro _ | lift_lets -underBinder | split
    | fail_if_no_progress with_reducible apply Keeps.update | dsimp -zeta only

theorem State.landColl_keeps {u s : State} (k : Keeps u s) (src : Option Nat) (o : Option CollOp) (p : Pkt) (ph pa q : Nat) : Keeps u
    (State.landColl s src o p ph pa q) := by
  unfold State.landColl
  repeat' first
    | with_reducible assumption | with_reducible apply State.landPkt_keeps | with_reducible apply State.updOp_keeps
    | with_reducible apply Keeps.foldl | with_reducible apply Keeps.foldl_fst
    | (intro v; refine Keeps.cut (u := u) (v := v) ?_ ?_; on_goal 1 => dsimp -zeta only [v])
    | (intro v; refine Keeps.cut (u := u) (v := v.1) ?_ ?_; on_goal 1 => dsimp -zeta only [v]) | intro _ | lift_lets -underBinder | split
    | fail_if_no_progress with_reducible apply Keeps.update | dsimp -zeta only

theorem State.notice_keeps {u s : State} (k : Keeps u s) (g n : Nat) : Keeps u (State.notice s g n) := by
  unfold State.notice
  repeat' first
    | with_reducible assumption | with_reducible apply State.incF_keeps | with_reducible apply State.failCmd_keeps
    | with_reducible apply State.endOp_keeps | (intro v; refine Keeps.cut (u := u) (v := v) ?_ ?_; on_goal 1 => dsimp -zeta only [v])
    | intro _ | lift_lets -underBinder | split | fail_if_no_progress with_reducible apply Keeps.update | dsimp -zeta only

theorem State.collPacket_keeps {u s : State} (k : Keeps u s) (src : Option Nat) (p : Pkt) : Keeps u (State.collPacket s src p) := by
  unfold State.collPacket
  repeat' first
    | with_reducible assumption | with_reducible apply State.incF_keeps | with_reducible apply State.refuseSource_keeps
    | with_reducible apply State.openLanding_keeps | with_reducible apply State.endOp_keeps | with_reducible apply State.collAdvance_keeps
    | with_reducible apply State.stale_keeps | with_reducible apply State.countLand_keeps | with_reducible apply State.landColl_keeps
    | with_reducible apply State.notice_keeps | (intro v; refine Keeps.cut (u := u) (v := v) ?_ ?_; on_goal 1 => dsimp -zeta only [v])
    | intro _ | lift_lets -underBinder | split | fail_if_no_progress with_reducible apply Keeps.update | dsimp -zeta only

theorem State.writeRow_keeps {u s : State} (k : Keeps u s) (src : Option Nat) : Keeps u (State.writeRow s src) := by
  unfold State.writeRow
  repeat' first
    | with_reducible assumption | with_reducible apply State.refuseSource_keeps | with_reducible apply State.landPkt_keeps
    | with_reducible apply State.collPacket_keeps | with_reducible refine State.takePkt_keeps ?_ (by assumption)
    | (intro v; refine Keeps.cut (u := u) (v := v) ?_ ?_; on_goal 1 => dsimp -zeta only [v]) | intro _ | lift_lets -underBinder | split
    | fail_if_no_progress with_reducible apply Keeps.update | dsimp -zeta only

theorem State.restartOp_keeps {u s : State} (k : Keeps u s) (k_ : Cmd) (o : CollOp) : Keeps u (State.restartOp s k_ o) := by
  unfold State.restartOp
  repeat' first
    | with_reducible assumption | with_reducible apply State.updOp_keeps | with_reducible apply State.collSend_keeps
    | with_reducible apply State.sendContribution_keeps | with_reducible apply State.sendPartials_keeps
    | with_reducible apply State.sendResults_keeps | with_reducible apply State.timeoutOp_keeps | with_reducible apply Keeps.foldl
    | with_reducible apply Keeps.foldl_fst | (intro v; refine Keeps.cut (u := u) (v := v) ?_ ?_; on_goal 1 => dsimp -zeta only [v])
    | (intro v; refine Keeps.cut (u := u) (v := v.1) ?_ ?_; on_goal 1 => dsimp -zeta only [v]) | intro _ | lift_lets -underBinder | split
    | fail_if_no_progress with_reducible apply Keeps.update | dsimp -zeta only

theorem State.haltPart_keeps {u s : State} (k : Keeps u s) (p : Nat) : Keeps u (State.haltPart s p) := by
  unfold State.haltPart
  repeat' first
    | with_reducible assumption | with_reducible apply State.setRing_keeps | with_reducible apply Keeps.foldl
    | with_reducible apply Keeps.foldl_fst | (intro v; refine Keeps.cut (u := u) (v := v) ?_ ?_; on_goal 1 => dsimp -zeta only [v])
    | intro _ | lift_lets -underBinder | split | fail_if_no_progress with_reducible apply Keeps.update | dsimp -zeta only

theorem State.abortPart_keeps {u s : State} (k : Keeps u s) (p : Nat) : Keeps u (State.abortPart s p) := by
  unfold State.abortPart
  repeat' first
    | with_reducible assumption | with_reducible apply State.updCmd_keeps | with_reducible apply State.failCmd_keeps
    | with_reducible apply Keeps.foldl | with_reducible apply Keeps.foldl_fst
    | (intro v; refine Keeps.cut (u := u) (v := v) ?_ ?_; on_goal 1 => dsimp -zeta only [v]) | intro _ | lift_lets -underBinder
    | fail_if_no_progress with_reducible apply Keeps.update | dsimp -zeta only

theorem State.preempt_keeps {u s : State} (k : Keeps u s) (p : Nat) (abort : Bool) (w : Preempt) : Keeps u (State.preempt s p abort w) := by
  unfold State.preempt
  repeat' first
    | with_reducible assumption | with_reducible apply State.setPart_keeps | with_reducible apply State.haltPart_keeps
    | with_reducible apply State.abortPart_keeps | (intro v; refine Keeps.cut (u := u) (v := v) ?_ ?_; on_goal 1 => dsimp -zeta only [v])
    | intro _ | lift_lets -underBinder | split | fail_if_no_progress with_reducible apply Keeps.update | dsimp -zeta only

theorem State.makePart_keeps {u s : State} (k : Keeps u s) (p : Nat) (x : Part) : Keeps u (State.makePart s p x) := by
  unfold State.makePart
  repeat' first
    | with_reducible assumption | with_reducible apply State.wrF_keeps | with_reducible apply State.wrB_keeps
    | with_reducible apply State.setPart_keeps | with_reducible apply State.zeroFill_keeps | with_reducible apply State.setLatch_keeps
    | with_reducible apply State.commitTable_keeps | with_reducible apply State.refill_keeps | with_reducible apply Keeps.foldl
    | with_reducible apply Keeps.foldl_fst | (intro v; refine Keeps.cut (u := u) (v := v) ?_ ?_; on_goal 1 => dsimp -zeta only [v])
    | intro _ | lift_lets -underBinder | split | fail_if_no_progress with_reducible apply Keeps.update | dsimp -zeta only

theorem State.dropPart_keeps {u s : State} (k : Keeps u s) (p : Nat) : Keeps u (State.dropPart s p) := by
  unfold State.dropPart
  repeat' first
    | with_reducible assumption | with_reducible apply State.wrF_keeps | with_reducible apply State.setRing_keeps
    | with_reducible apply State.setPart_keeps | with_reducible apply State.zeroFill_keeps | with_reducible apply State.extLatch_keeps
    | with_reducible apply State.commitTable_keeps | with_reducible apply State.refill_keeps | with_reducible apply State.closeChan_keeps
    | with_reducible apply Keeps.foldl | with_reducible apply Keeps.foldl_fst
    | (intro v; refine Keeps.cut (u := u) (v := v) ?_ ?_; on_goal 1 => dsimp -zeta only [v])
    | (intro v; refine Keeps.cut (u := u) (v := v.1) ?_ ?_; on_goal 1 => dsimp -zeta only [v]) | intro _ | lift_lets -underBinder | split
    | fail_if_no_progress with_reducible apply Keeps.update | dsimp -zeta only

theorem State.answerPreempts_keeps {u s : State} (k : Keeps u s) (p : Nat) : Keeps u (State.answerPreempts s p) := by
  unfold State.answerPreempts
  repeat' first
    | with_reducible assumption | with_reducible apply State.setPart_keeps | with_reducible apply State.respond_keeps
    | with_reducible apply State.dropPart_keeps | with_reducible apply Keeps.foldl | with_reducible apply Keeps.foldl_fst
    | (intro v; refine Keeps.cut (u := u) (v := v) ?_ ?_; on_goal 1 => dsimp -zeta only [v]) | intro _ | lift_lets -underBinder | split
    | fail_if_no_progress with_reducible apply Keeps.update | dsimp -zeta only

theorem State.withdraw_keeps {u s : State} (k : Keeps u s) (i : Nat) : Keeps u (State.withdraw s i) := by
  unfold State.withdraw
  repeat' first
    | with_reducible assumption | with_reducible apply State.wrF_keeps | with_reducible apply State.setCore_keeps
    | with_reducible apply State.event_keeps | with_reducible apply State.setTest_keeps | with_reducible apply State.nextSlice_keeps
    | (intro v; refine Keeps.cut (u := u) (v := v) ?_ ?_; on_goal 1 => dsimp -zeta only [v]) | intro _ | lift_lets -underBinder | split
    | fail_if_no_progress with_reducible apply Keeps.update | dsimp -zeta only

theorem State.testDue_keeps {u s : State} (k : Keeps u s) (i : Nat) : Keeps u (State.testDue s i) := by
  unfold State.testDue
  repeat' first
    | with_reducible assumption | with_reducible apply State.wrB_keeps | with_reducible apply State.setCore_keeps
    | with_reducible apply State.setTest_keeps | with_reducible apply State.beginTest_keeps | with_reducible apply State.deferTest_keeps
    | with_reducible apply State.withdraw_keeps | (intro v; refine Keeps.cut (u := u) (v := v) ?_ ?_; on_goal 1 => dsimp -zeta only [v])
    | intro _ | lift_lets -underBinder | split | fail_if_no_progress with_reducible apply Keeps.update | dsimp -zeta only

theorem State.nextTest_keeps {u s : State} (k : Keeps u s) (w : Nat) : Keeps u (State.nextTest s w) := by
  unfold State.nextTest
  repeat' first
    | with_reducible assumption | with_reducible apply State.testDue_keeps
    | (intro v; refine Keeps.cut (u := u) (v := v) ?_ ?_; on_goal 1 => dsimp -zeta only [v]) | intro _ | lift_lets -underBinder | split
    | fail_if_no_progress with_reducible apply Keeps.update | dsimp -zeta only

theorem State.runSlice_keeps {u s : State} (k : Keeps u s) (w : Nat) : Keeps u (State.runSlice s w) := by
  unfold State.runSlice
  repeat' first
    | with_reducible assumption | with_reducible apply State.wrB_keeps | with_reducible apply State.incF_keeps
    | with_reducible apply State.setTest_keeps | with_reducible apply State.nextSlice_keeps
    | (intro v; refine Keeps.cut (u := u) (v := v) ?_ ?_; on_goal 1 => dsimp -zeta only [v]) | intro _ | lift_lets -underBinder | split
    | dsimp -zeta only

theorem State.endTest_keeps {u s : State} (k : Keeps u s) (w i : Nat) : Keeps u (State.endTest s w i) := by
  unfold State.endTest
  repeat' first
    | with_reducible assumption | with_reducible apply State.wrF_keeps | with_reducible apply State.wrB_keeps
    | with_reducible apply State.setEvents_keeps | with_reducible apply State.setTest_keeps
    | (intro v; refine Keeps.cut (u := u) (v := v) ?_ ?_; on_goal 1 => dsimp -zeta only [v]) | intro _ | lift_lets -underBinder | split
    | dsimp -zeta only

theorem State.testPassed_keeps {u s : State} (k : Keeps u s) (i : Nat) : Keeps u (State.testPassed s i) := by
  unfold State.testPassed
  repeat' first
    | with_reducible assumption | with_reducible apply State.wrB_keeps | with_reducible apply State.setCore_keeps
    | with_reducible apply State.zeroFill_keeps | with_reducible apply State.clearLedger_keeps
    | (intro v; refine Keeps.cut (u := u) (v := v) ?_ ?_; on_goal 1 => dsimp -zeta only [v]) | intro _ | lift_lets -underBinder | split
    | fail_if_no_progress with_reducible apply Keeps.update | dsimp -zeta only

theorem State.testFailed_keeps {u s : State} (k : Keeps u s) (i : Nat) : Keeps u (State.testFailed s i) := by
  unfold State.testFailed
  repeat' first
    | with_reducible assumption | with_reducible apply State.setCore_keeps | with_reducible apply State.blastReport_keeps
    | with_reducible apply State.faultTakeover_keeps
    | (intro v; refine Keeps.cut (u := u) (v := v) ?_ ?_; on_goal 1 => dsimp -zeta only [v]) | intro _ | lift_lets -underBinder | split
    | fail_if_no_progress with_reducible apply Keeps.update | dsimp -zeta only

theorem State.testResult_keeps {u s : State} (k : Keeps u s) (i : Nat) (pass : Bool) (ms : Nat) : Keeps u (State.testResult s i pass ms) :=
    by
  unfold State.testResult
  repeat' first
    | with_reducible assumption | with_reducible apply State.wr_keeps | with_reducible apply State.report_keeps
    | with_reducible apply State.countSpares_keeps | with_reducible apply State.nextTest_keeps | with_reducible apply State.endTest_keeps
    | with_reducible apply State.testPassed_keeps | with_reducible apply State.testFailed_keeps
    | (intro v; refine Keeps.cut (u := u) (v := v) ?_ ?_; on_goal 1 => dsimp -zeta only [v]) | intro _ | lift_lets -underBinder | split
    | dsimp -zeta only

theorem State.retireModule_keeps {u s : State} (k : Keeps u s) : Keeps u (State.retireModule s) := by
  unfold State.retireModule
  repeat' first
    | with_reducible assumption | with_reducible apply State.setPart_keeps | with_reducible apply State.setKey_keeps
    | with_reducible apply State.closeSlot_keeps | with_reducible apply State.preempt_keeps
    | with_reducible apply State.answerPreempts_keeps | with_reducible apply Keeps.foldl | with_reducible apply Keeps.foldl_fst
    | (intro v; refine Keeps.cut (u := u) (v := v) ?_ ?_; on_goal 1 => dsimp -zeta only [v]) | intro _ | lift_lets -underBinder | split
    | fail_if_no_progress with_reducible apply Keeps.update | dsimp -zeta only

theorem State.setBeatSt_keeps {u s : State} (k : Keeps u s) (v : Nat) : Keeps u (State.setBeatSt s v) := by
  unfold State.setBeatSt
  repeat' first
    | with_reducible assumption | with_reducible apply State.wrF_keeps

theorem State.setUp_keeps {u s : State} (k : Keeps u s) (p : Option Nat) : Keeps u (State.setUp s p) := by
  unfold State.setUp
  repeat' first
    | with_reducible assumption | with_reducible apply State.wrF_keeps | intro _

theorem State.stepped_keeps {u s : State} (k : Keeps u s) : Keeps u (State.stepped s) := by
  unfold State.stepped
  repeat' first
    | with_reducible assumption | with_reducible apply State.wrB_keeps | with_reducible apply State.event_keeps
    | with_reducible apply State.setBeatSt_keeps | (intro v; refine Keeps.cut (u := u) (v := v) ?_ ?_; on_goal 1 => dsimp -zeta only [v])
    | intro _ | lift_lets -underBinder | split | fail_if_no_progress with_reducible apply Keeps.update

theorem State.slew_keeps {u s : State} (k : Keeps u s) (off : Int) : Keeps u (State.slew s off) := by
  unfold State.slew
  repeat' first
    | with_reducible assumption | with_reducible apply State.setBeatSt_keeps
    | (intro v; refine Keeps.cut (u := u) (v := v) ?_ ?_; on_goal 1 => dsimp -zeta only [v]) | intro _ | lift_lets -underBinder | split
    | fail_if_no_progress with_reducible apply Keeps.update | dsimp -zeta only

theorem State.discipline_keeps {u s : State} (k : Keeps u s) (off : Int) : Keeps u (State.discipline s off) := by
  unfold State.discipline
  repeat' first
    | with_reducible assumption | with_reducible apply State.wr_keeps | with_reducible apply State.count_keeps
    | with_reducible apply State.stepped_keeps | with_reducible apply State.slew_keeps
    | (intro v; refine Keeps.cut (u := u) (v := v) ?_ ?_; on_goal 1 => dsimp -zeta only [v]) | intro _ | lift_lets -underBinder | split
    | fail_if_no_progress with_reducible apply Keeps.update | dsimp -zeta only

theorem State.marker_keeps {u s : State} (k : Keeps u s) (port depth bst gen : Nat) (beat : W64) (phase : W16) (frac : Int) : Keeps u
    (State.marker s port depth bst gen beat phase frac) := by
  unfold State.marker
  repeat' first
    | with_reducible assumption | with_reducible apply State.wrF_keeps | with_reducible apply State.setPort_keeps
    | with_reducible apply State.setUp_keeps | with_reducible apply State.discipline_keeps
    | (intro v; refine Keeps.cut (u := u) (v := v) ?_ ?_; on_goal 1 => dsimp -zeta only [v]) | intro _ | lift_lets -underBinder | split
    | fail_if_no_progress with_reducible apply Keeps.update | dsimp -zeta only

theorem State.sendTiming_keeps {u s : State} (k : Keeps u s) (p : Nat) (f : Nat × W64 × W64) : Keeps u (State.sendTiming s p f) := by
  unfold State.sendTiming
  repeat' first
    | with_reducible assumption | with_reducible apply State.setPort_keeps
    | (intro v; refine Keeps.cut (u := u) (v := v) ?_ ?_; on_goal 1 => dsimp -zeta only [v]) | intro _ | lift_lets -underBinder
    | fail_if_no_progress with_reducible apply Keeps.update

theorem State.toHoldover_keeps {u s : State} (k : Keeps u s) : Keeps u (State.toHoldover s) := by
  unfold State.toHoldover
  repeat' first
    | with_reducible assumption | with_reducible apply State.setBeatSt_keeps | with_reducible apply State.setUp_keeps
    | (intro v; refine Keeps.cut (u := u) (v := v) ?_ ?_; on_goal 1 => dsimp -zeta only [v]) | intro _ | lift_lets -underBinder | split
    | dsimp -zeta only

theorem State.upstreamLost_keeps {u s : State} (k : Keeps u s) (port : Nat) : Keeps u (State.upstreamLost s port) := by
  unfold State.upstreamLost
  repeat' first
    | with_reducible assumption | with_reducible apply State.setUp_keeps | with_reducible apply State.toHoldover_keeps | intro _ | split
    | dsimp -zeta only

theorem State.countFrom_keeps {u s : State} (k : Keeps u s) (start : W64) : Keeps u (State.countFrom s start) := by
  unfold State.countFrom
  repeat' first
    | with_reducible assumption | with_reducible apply State.count_keeps
    | (intro v; refine Keeps.cut (u := u) (v := v) ?_ ?_; on_goal 1 => dsimp -zeta only [v]) | intro _ | lift_lets -underBinder | split
    | fail_if_no_progress with_reducible apply Keeps.update | dsimp -zeta only

theorem State.master_keeps {u s : State} (k : Keeps u s) : Keeps u (State.master s) := by
  unfold State.master
  repeat' first
    | with_reducible assumption | with_reducible apply State.wrF_keeps | with_reducible apply State.setBeatSt_keeps
    | with_reducible apply State.setUp_keeps

theorem State.periodWrite_keeps {u s : State} (k : Keeps u s) (val : W32) : Keeps u (State.periodWrite s val) := by
  unfold State.periodWrite
  repeat' first
    | with_reducible assumption | (intro v; refine Keeps.cut (u := u) (v := v) ?_ ?_; on_goal 1 => dsimp -zeta only [v]) | intro _
    | lift_lets -underBinder | split | fail_if_no_progress with_reducible apply Keeps.update | dsimp -zeta only

theorem State.gtCommit_keeps {u s : State} (k : Keeps u s) : Keeps u (State.gtCommit s) := by
  unfold State.gtCommit
  repeat' first
    | with_reducible assumption | with_reducible apply State.wrB_keeps | split | dsimp -zeta only

theorem State.answerCommit_keeps {u s : State} (k : Keeps u s) (st : W16) (b : List Byte) : Keeps u (State.answerCommit s st b) := by
  unfold State.answerCommit
  repeat' first
    | with_reducible assumption | with_reducible apply State.respond_keeps
    | (intro v; refine Keeps.cut (u := u) (v := v) ?_ ?_; on_goal 1 => dsimp -zeta only [v]) | intro _ | lift_lets -underBinder | split
    | fail_if_no_progress with_reducible apply Keeps.update | dsimp -zeta only

theorem State.validated_keeps {u s : State} (k : Keeps u s) : Keeps u (State.validated s) := by
  unfold State.validated
  repeat' first
    | with_reducible assumption | with_reducible apply State.wr_keeps | with_reducible apply State.wrF_keeps
    | with_reducible apply State.wrB_keeps | with_reducible apply State.event_keeps | with_reducible apply State.answerCommit_keeps
    | (intro v; refine Keeps.cut (u := u) (v := v) ?_ ?_; on_goal 1 => dsimp -zeta only [v]) | intro _ | lift_lets -underBinder | split
    | fail_if_no_progress with_reducible apply Keeps.update | dsimp -zeta only

theorem State.writeBank_keeps {u s : State} (k : Keeps u s) : Keeps u (State.writeBank s) := by
  unfold State.writeBank
  repeat' first
    | with_reducible assumption | with_reducible apply State.writeMem_keeps | with_reducible apply State.zeroFill_keeps
    | with_reducible apply Keeps.foldl | with_reducible apply Keeps.foldl_fst
    | (intro v; refine Keeps.cut (u := u) (v := v) ?_ ?_; on_goal 1 => dsimp -zeta only [v])
    | (intro v; refine Keeps.cut (u := u) (v := v.1) ?_ ?_; on_goal 1 => dsimp -zeta only [v]) | intro _ | lift_lets -underBinder | split
    | dsimp -zeta only

theorem State.takeoverCommit_keeps {u s : State} (k : Keeps u s) (lc : Nat) : Keeps u (State.takeoverCommit s lc) := by
  unfold State.takeoverCommit
  repeat' first
    | with_reducible assumption | with_reducible apply State.setThr_keeps | with_reducible apply State.setCore_keeps
    | with_reducible apply State.spareUsed_keeps | with_reducible apply State.ungate_keeps | with_reducible apply State.countSpares_keeps
    | with_reducible apply State.commitMap_keeps | with_reducible apply State.releaseHeld_keeps | with_reducible apply State.testFreed_keeps
    | with_reducible apply State.restartOp_keeps | with_reducible apply Keeps.foldl | with_reducible apply Keeps.foldl_fst
    | (intro v; refine Keeps.cut (u := u) (v := v) ?_ ?_; on_goal 1 => dsimp -zeta only [v]) | intro _ | lift_lets -underBinder | split
    | fail_if_no_progress with_reducible apply Keeps.update | dsimp -zeta only

theorem State.setClk_keeps {u s : State} (k : Keeps u s) (f : Nat) : Keeps u (State.setClk s f) := by
  unfold State.setClk
  repeat' first
    | with_reducible assumption | with_reducible apply State.wrF_keeps | with_reducible apply State.wrB_keeps
    | (intro v; refine Keeps.cut (u := u) (v := v) ?_ ?_; on_goal 1 => dsimp -zeta only [v]) | intro _ | lift_lets -underBinder | split
    | fail_if_no_progress with_reducible apply Keeps.update | dsimp -zeta only

theorem State.applyProfile_keeps {u s : State} (k : Keeps u s) (code : Nat) : Keeps u (State.applyProfile s code) := by
  unfold State.applyProfile
  repeat' first
    | with_reducible assumption | with_reducible apply State.wrF_keeps | with_reducible apply State.traceModule_keeps
    | with_reducible apply State.setClk_keeps | (intro v; refine Keeps.cut (u := u) (v := v) ?_ ?_; on_goal 1 => dsimp -zeta only [v])
    | intro _ | lift_lets -underBinder | split | fail_if_no_progress with_reducible apply Keeps.update | dsimp -zeta only

theorem State.stepDown_keeps {u s : State} (k : Keeps u s) : Keeps u (State.stepDown s) := by
  unfold State.stepDown
  repeat' first
    | with_reducible assumption | with_reducible apply State.incF_keeps | with_reducible apply State.event_keeps
    | with_reducible apply State.setClk_keeps | (intro v; refine Keeps.cut (u := u) (v := v) ?_ ?_; on_goal 1 => dsimp -zeta only [v])
    | intro _ | lift_lets -underBinder | split | fail_if_no_progress with_reducible apply Keeps.update | dsimp -zeta only

theorem State.setMv_keeps {u s : State} (k : Keeps u s) (mv : Nat) : Keeps u (State.setMv s mv) := by
  unfold State.setMv
  repeat' first
    | with_reducible assumption | with_reducible apply State.wrF_keeps
    | (intro v; refine Keeps.cut (u := u) (v := v) ?_ ?_; on_goal 1 => dsimp -zeta only [v]) | intro _ | lift_lets -underBinder
    | fail_if_no_progress with_reducible apply Keeps.update

theorem State.dark_keeps {u s : State} (k : Keeps u s) : Keeps u s.dark := by
  unfold State.dark
  refine Keeps.both (s := (List.range 32).foldl (fun s c => s.closeChan c) s) ?_ (fun _ => ⟨List.Pairwise.nil, by simp⟩)
    (filter_wf _ _ _) rfl
  exact Keeps.foldl k (fun t x h => State.closeChan_keeps h x)

theorem State.stopInOrder_keeps {u s : State} (k : Keeps u s) (cause wait : Nat) (err : Option W16) : Keeps u (State.stopInOrder s cause
    wait err) := by
  unfold State.stopInOrder
  repeat' first
    | with_reducible assumption | with_reducible apply State.wrF_keeps | with_reducible apply State.bump_keeps
    | with_reducible apply State.event_keeps | with_reducible apply State.dark_keeps
    | (intro v; refine Keeps.cut (u := u) (v := v) ?_ ?_; on_goal 1 => dsimp -zeta only [v]) | intro _ | lift_lets -underBinder | split
    | fail_if_no_progress with_reducible apply Keeps.update | dsimp -zeta only

theorem State.blackout_keeps {u s : State} (k : Keeps u s) : Keeps u s.blackout := by
  unfold State.blackout
  exact Keeps.both (State.dark_keeps k) id (filter_wf _ _ _) rfl

theorem State.noteClamps_keeps {u s : State} (k : Keeps u s) : Keeps u (State.noteClamps s) := by
  unfold State.noteClamps
  repeat' first
    | with_reducible assumption | with_reducible apply State.wrB_keeps | with_reducible apply State.event_keeps | intro _ | split
    | dsimp -zeta only

theorem State.loadRows_keeps {u s : State} (k : Keeps u s) (rows : List (Nat × Nat × Nat × Nat)) : Keeps u (State.loadRows s rows) := by
  unfold State.loadRows
  repeat' first
    | with_reducible assumption | with_reducible apply State.wrF_keeps | with_reducible apply Keeps.foldl
    | with_reducible apply Keeps.foldl_fst | (intro v; refine Keeps.cut (u := u) (v := v) ?_ ?_; on_goal 1 => dsimp -zeta only [v])
    | (intro v; refine Keeps.cut (u := u) (v := v.1) ?_ ?_; on_goal 1 => dsimp -zeta only [v]) | intro _ | lift_lets -underBinder | split
    | fail_if_no_progress with_reducible apply Keeps.update | dsimp -zeta only

theorem State.loadTables_keeps {u s : State} (k : Keeps u s) : Keeps u (State.loadTables s) := by
  unfold State.loadTables
  repeat' first
    | with_reducible assumption | with_reducible apply State.wr_keeps | with_reducible apply State.countFrom_keeps
    | with_reducible apply State.master_keeps | with_reducible apply State.noteClamps_keeps | with_reducible apply State.loadRows_keeps
    | with_reducible apply Keeps.foldl | with_reducible apply Keeps.foldl_fst
    | (intro v; refine Keeps.cut (u := u) (v := v) ?_ ?_; on_goal 1 => dsimp -zeta only [v])
    | (intro v; refine Keeps.cut (u := u) (v := v.1) ?_ ?_; on_goal 1 => dsimp -zeta only [v]) | intro _ | lift_lets -underBinder | split
    | fail_if_no_progress with_reducible apply Keeps.update | dsimp -zeta only

theorem State.restoreParts_keeps {u s : State} (k : Keeps u s) : Keeps u (State.restoreParts s) := by
  unfold State.restoreParts
  repeat' first
    | with_reducible assumption | with_reducible apply State.wrF_keeps | with_reducible apply Keeps.foldl
    | with_reducible apply Keeps.foldl_fst | (intro v; refine Keeps.cut (u := u) (v := v) ?_ ?_; on_goal 1 => dsimp -zeta only [v])
    | (intro v; refine Keeps.cut (u := u) (v := v.1) ?_ ?_; on_goal 1 => dsimp -zeta only [v]) | intro _ | lift_lets -underBinder | split
    | dsimp -zeta only

theorem State.bootTests_keeps {u s : State} (k : Keeps u s) : Keeps u (State.bootTests s) := by
  unfold State.bootTests
  repeat' first
    | with_reducible assumption | with_reducible apply State.setCore_keeps | with_reducible apply State.bump_keeps
    | with_reducible apply State.spareUsed_keeps | with_reducible apply State.noSpare_keeps | with_reducible apply State.blastReport_keeps
    | with_reducible apply State.commitTable_keeps | with_reducible apply State.commitMap_keeps | with_reducible apply Keeps.foldl
    | with_reducible apply Keeps.foldl_fst | (intro v; refine Keeps.cut (u := u) (v := v) ?_ ?_; on_goal 1 => dsimp -zeta only [v])
    | intro _ | lift_lets -underBinder | split | fail_if_no_progress with_reducible apply Keeps.update | dsimp -zeta only

theorem State.fillMemory_keeps {u s : State} (k : Keeps u s) : Keeps u (State.fillMemory s) := by
  unfold State.fillMemory
  repeat' first
    | with_reducible assumption | with_reducible apply State.wrF_keeps | with_reducible apply State.wrB_keeps
    | with_reducible apply State.bump_keeps | (intro v; refine Keeps.cut (u := u) (v := v) ?_ ?_; on_goal 1 => dsimp -zeta only [v])
    | intro _ | lift_lets -underBinder | split | fail_if_no_progress with_reducible apply Keeps.emptied
    | fail_if_no_progress with_reducible apply Keeps.update

theorem State.bootRecord_keeps {u s : State} (k : Keeps u s) : Keeps u (State.bootRecord s) := by
  unfold State.bootRecord
  repeat' first
    | with_reducible assumption | with_reducible apply State.bootTests_keeps
    | (intro v; refine Keeps.cut (u := u) (v := v) ?_ ?_; on_goal 1 => dsimp -zeta only [v]) | intro _ | lift_lets -underBinder | split
    | fail_if_no_progress with_reducible apply Keeps.update | dsimp -zeta only

theorem State.startProfile_keeps {u s : State} (k : Keeps u s) : Keeps u (State.startProfile s) := by
  unfold State.startProfile
  repeat' first
    | with_reducible assumption | with_reducible apply State.wrF_keeps | with_reducible apply State.applyProfile_keeps
    | (intro v; refine Keeps.cut (u := u) (v := v) ?_ ?_; on_goal 1 => dsimp -zeta only [v]) | intro _ | lift_lets -underBinder | split
    | dsimp -zeta only

theorem State.noteSlots_keeps {u s : State} (k : Keeps u s) : Keeps u (State.noteSlots s) := by
  unfold State.noteSlots
  repeat' first
    | with_reducible assumption | with_reducible apply State.event_keeps | with_reducible apply Keeps.foldl
    | with_reducible apply Keeps.foldl_fst | intro _ | split | dsimp -zeta only

theorem State.start_keeps {u s : State} (k : Keeps u s) : Keeps u (State.start s) := by
  unfold State.start
  repeat' first
    | with_reducible assumption | with_reducible apply State.wr_keeps | with_reducible apply State.wrF_keeps
    | with_reducible apply State.countSpares_keeps | with_reducible apply State.loadTables_keeps
    | with_reducible apply State.restoreParts_keeps | with_reducible apply State.fillMemory_keeps
    | with_reducible apply State.bootRecord_keeps | with_reducible apply State.startProfile_keeps
    | with_reducible apply State.noteSlots_keeps | (intro v; refine Keeps.cut (u := u) (v := v) ?_ ?_; on_goal 1 => dsimp -zeta only [v])
    | intro _ | lift_lets -underBinder | split | fail_if_no_progress with_reducible apply Keeps.update | dsimp -zeta only

theorem State.setTj_keeps {u s : State} (k : Keeps u s) (tj8 : Int) : Keeps u (State.setTj s tj8) := by
  unfold State.setTj
  repeat' first
    | with_reducible assumption | with_reducible apply State.wrF_keeps

theorem State.abandonTest_keeps {u s : State} (k : Keeps u s) (w : Nat) : Keeps u (State.abandonTest s w) := by
  unfold State.abandonTest
  repeat' first
    | with_reducible assumption | with_reducible apply State.setCore_keeps | with_reducible apply State.endTest_keeps
    | (intro v; refine Keeps.cut (u := u) (v := v) ?_ ?_; on_goal 1 => dsimp -zeta only [v]) | intro _ | lift_lets -underBinder | split
    | fail_if_no_progress with_reducible apply Keeps.update | dsimp -zeta only

theorem State.finishShutdown_keeps {u s : State} (k : Keeps u s) : Keeps u (State.finishShutdown s) := by
  unfold State.finishShutdown
  repeat' first
    | with_reducible assumption | with_reducible apply State.wrF_keeps | with_reducible apply State.bump_keeps
    | with_reducible apply State.event_keeps | with_reducible apply State.flashTable_keeps | with_reducible apply State.dark_keeps
    | with_reducible apply State.abandonTest_keeps | with_reducible apply Keeps.foldl | with_reducible apply Keeps.foldl_fst
    | (intro v; refine Keeps.cut (u := u) (v := v) ?_ ?_; on_goal 1 => dsimp -zeta only [v]) | intro _ | lift_lets -underBinder | split
    | fail_if_no_progress with_reducible apply Keeps.update | dsimp -zeta only

theorem State.mcpTakeover_keeps {u s : State} (k : Keeps u s) : Keeps u (State.mcpTakeover s) := by
  unfold State.mcpTakeover
  repeat' first
    | with_reducible assumption | with_reducible apply State.wrB_keeps | with_reducible apply State.event_keeps
    | with_reducible apply State.stopInOrder_keeps | (intro v; refine Keeps.cut (u := u) (v := v) ?_ ?_; on_goal 1 => dsimp -zeta only [v])
    | intro _ | lift_lets -underBinder | split | fail_if_no_progress with_reducible apply Keeps.update | dsimp -zeta only

theorem State.standbyLost_keeps {u s : State} (k : Keeps u s) (unit inst : Nat) : Keeps u (State.standbyLost s unit inst) := by
  unfold State.standbyLost
  repeat' first
    | with_reducible assumption | with_reducible apply State.event_keeps
    | (intro v; refine Keeps.cut (u := u) (v := v) ?_ ?_; on_goal 1 => dsimp -zeta only [v]) | intro _ | lift_lets -underBinder
    | fail_if_no_progress with_reducible apply Keeps.update

theorem State.wcTakeover_keeps {u s : State} (k : Keeps u s) (w : Nat) : Keeps u (State.wcTakeover s w) := by
  unfold State.wcTakeover
  repeat' first
    | with_reducible assumption | with_reducible apply State.bump_keeps | with_reducible apply State.event_keeps
    | with_reducible apply State.failCmd_keeps | with_reducible apply State.standbyLost_keeps | with_reducible apply Keeps.foldl
    | with_reducible apply Keeps.foldl_fst | (intro v; refine Keeps.cut (u := u) (v := v) ?_ ?_; on_goal 1 => dsimp -zeta only [v])
    | intro _ | lift_lets -underBinder | split | fail_if_no_progress with_reducible apply Keeps.update | dsimp -zeta only

theorem State.putSnap_keeps {u s : State} (k : Keeps u s) (n : Snap) : Keeps u (State.putSnap s n) := by
  unfold State.putSnap
  repeat' first
    | with_reducible assumption | with_reducible apply State.writeMem_keeps
    | (intro v; refine Keeps.cut (u := u) (v := v) ?_ ?_; on_goal 1 => dsimp -zeta only [v]) | intro _ | lift_lets -underBinder | split
    | fail_if_no_progress with_reducible apply Keeps.update | dsimp -zeta only

theorem State.editSnap_keeps {u s : State} (k : Keeps u s) (n : Snap) : Keeps u (State.editSnap s n) := by
  unfold State.editSnap
  repeat' first
    | with_reducible assumption | with_reducible apply State.writeMem_keeps
    | (intro v; refine Keeps.cut (u := u) (v := v) ?_ ?_; on_goal 1 => dsimp -zeta only [v]) | intro _ | lift_lets -underBinder | split
    | fail_if_no_progress with_reducible apply Keeps.update | dsimp -zeta only

theorem State.takeSnapshot_keeps {u s : State} (k : Keeps u s) (p : Nat) (id : W32) (beat : W64) (late : Bool) : Keeps u (State.takeSnapshot
    s p id beat late) := by
  unfold State.takeSnapshot
  repeat' first
    | with_reducible assumption | with_reducible apply State.putSnap_keeps
    | (intro v; refine Keeps.cut (u := u) (v := v) ?_ ?_; on_goal 1 => dsimp -zeta only [v])
    | (intro v; refine Keeps.cut (u := u) (v := v.1) ?_ ?_; on_goal 1 => dsimp -zeta only [v]) | intro _ | lift_lets -underBinder | split
    | dsimp -zeta only

theorem State.completeSnap_keeps {u s : State} (k : Keeps u s) (p id : Nat) : Keeps u (State.completeSnap s p id) := by
  unfold State.completeSnap
  repeat' first
    | with_reducible assumption | with_reducible apply State.complete_keeps | with_reducible apply State.editSnap_keeps
    | (intro v; refine Keeps.cut (u := u) (v := v) ?_ ?_; on_goal 1 => dsimp -zeta only [v]) | intro _ | lift_lets -underBinder | split
    | fail_if_no_progress with_reducible apply Keeps.update | dsimp -zeta only

theorem State.logChannel_keeps {u s : State} (k : Keeps u s) (port : Nat) (p : Pkt) : Keeps u (State.logChannel s port p) := by
  unfold State.logChannel
  repeat' first
    | with_reducible assumption | with_reducible apply State.complete_keeps | with_reducible apply State.editSnap_keeps
    | with_reducible apply Keeps.foldl | with_reducible apply Keeps.foldl_fst
    | (intro v; refine Keeps.cut (u := u) (v := v) ?_ ?_; on_goal 1 => dsimp -zeta only [v]) | intro _ | lift_lets -underBinder | split
    | fail_if_no_progress with_reducible apply Keeps.update | dsimp -zeta only

theorem State.stopPart_keeps {u s : State} (k : Keeps u s) (p : Nat) : Keeps u (State.stopPart s p) := by
  unfold State.stopPart
  repeat' first
    | with_reducible assumption | with_reducible apply State.setThr_keeps | with_reducible apply State.setPart_keeps
    | with_reducible apply Keeps.foldl | with_reducible apply Keeps.foldl_fst
    | (intro v; refine Keeps.cut (u := u) (v := v) ?_ ?_; on_goal 1 => dsimp -zeta only [v]) | intro _ | lift_lets -underBinder | split
    | fail_if_no_progress with_reducible apply Keeps.update | dsimp -zeta only

theorem State.resumePart_keeps {u s : State} (k : Keeps u s) (p : Nat) : Keeps u (State.resumePart s p) := by
  unfold State.resumePart
  repeat' first
    | with_reducible assumption | with_reducible apply State.setPart_keeps | with_reducible apply State.letGo_keeps
    | with_reducible apply Keeps.foldl | with_reducible apply Keeps.foldl_fst
    | (intro v; refine Keeps.cut (u := u) (v := v) ?_ ?_; on_goal 1 => dsimp -zeta only [v]) | intro _ | lift_lets -underBinder | split
    | fail_if_no_progress with_reducible apply Keeps.update | dsimp -zeta only

theorem State.setDeadline_keeps {u s : State} (k : Keeps u s) (g : Nat) (opseq : W32) (n : W64) : Keeps u (State.setDeadline s g opseq n) :=
    by
  unfold State.setDeadline
  repeat' first
    | with_reducible assumption | with_reducible apply State.updOp_keeps
    | (intro v; refine Keeps.cut (u := u) (v := v) ?_ ?_; on_goal 1 => dsimp -zeta only [v]) | intro _ | lift_lets -underBinder | split
    | fail_if_no_progress with_reducible apply Keeps.update | dsimp -zeta only

theorem State.lateEvent_keeps {u s : State} (k : Keeps u s) (e : Ev) : Keeps u (State.lateEvent s e) := by
  unfold State.lateEvent
  repeat' first
    | with_reducible assumption | with_reducible apply State.wrB_keeps | with_reducible apply State.setPeriod_keeps
    | with_reducible apply State.lateWindow_keeps | with_reducible apply State.applyProfile_keeps
    | with_reducible apply State.takeSnapshot_keeps | with_reducible apply State.stopPart_keeps
    | with_reducible apply State.resumePart_keeps | with_reducible apply State.setDeadline_keeps | with_reducible apply Keeps.foldl
    | with_reducible apply Keeps.foldl_fst | (intro v; refine Keeps.cut (u := u) (v := v) ?_ ?_; on_goal 1 => dsimp -zeta only [v])
    | intro _ | lift_lets -underBinder | split | fail_if_no_progress with_reducible apply Keeps.update | dsimp -zeta only

theorem State.eventRow_keeps {u s : State} (k : Keeps u s) (src : Option Nat) : Keeps u (State.eventRow s src) := by
  unfold State.eventRow
  repeat' first
    | with_reducible assumption | with_reducible apply State.wrB_keeps | with_reducible apply State.incF_keeps
    | with_reducible apply State.event_keeps | with_reducible apply State.sendStatus_keeps | with_reducible apply State.addEvent_keeps
    | with_reducible apply State.refuseSource_keeps | with_reducible apply State.setDeadline_keeps
    | with_reducible apply State.lateEvent_keeps | with_reducible refine State.takePkt_keeps ?_ (by assumption)
    | (intro v; refine Keeps.cut (u := u) (v := v) ?_ ?_; on_goal 1 => dsimp -zeta only [v])
    | (intro v; refine Keeps.cut (u := u) (v := v.1) ?_ ?_; on_goal 1 => dsimp -zeta only [v]) | intro _ | lift_lets -underBinder | split
    | fail_if_no_progress with_reducible apply Keeps.update | dsimp -zeta only

theorem State.due_keeps {u s : State} (k : Keeps u s) (kind : Nat) (f : State → Ev → State) (hf : ∀ (a0 : State) (a1 : Ev), Keeps u a0 →
    Keeps u (f a0 a1)) : Keeps u (State.due s kind f) := by
  unfold State.due
  repeat' first
    | with_reducible assumption | with_reducible apply hf | with_reducible apply State.setEvents_keeps
    | (intro v; refine Keeps.cut (u := u) (v := v) ?_ ?_; on_goal 1 => dsimp -zeta only [v]) | intro _ | lift_lets -underBinder | split
    | fail_if_no_progress with_reducible apply Keeps.update | dsimp -zeta only

theorem State.mcpPkt_keeps {u s : State} (k : Keeps u s) (kind dst group body : Nat) (data : List Byte) : Keeps u (State.mcpPkt s kind dst
    group body data).1 := by
  unfold State.mcpPkt
  repeat' first
    | with_reducible assumption | with_reducible apply State.sendPkt_keeps
    | (intro v; refine Keeps.cut (u := u) (v := v) ?_ ?_; on_goal 1 => dsimp -zeta only [v]) | intro _ | lift_lets -underBinder | split
    | fail_if_no_progress with_reducible apply Keeps.update | dsimp -zeta only

theorem State.issueEvent_keeps {u s : State} (k : Keeps u s) (ms : List (Nat × Nat)) (wide : Bool) (kind group : Nat) (n : W64) (ident :
    W32) (req : Option (Nat × W32)) : Keeps u (State.issueEvent s ms wide kind group n ident req) := by
  unfold State.issueEvent
  repeat' first
    | with_reducible assumption | with_reducible apply State.mcpPkt_keeps | with_reducible apply Keeps.foldl
    | with_reducible apply Keeps.foldl_fst | (intro v; refine Keeps.cut (u := u) (v := v) ?_ ?_; on_goal 1 => dsimp -zeta only [v])
    | (intro v; refine Keeps.cut (u := u) (v := v.1) ?_ ?_; on_goal 1 => dsimp -zeta only [v]) | intro _ | lift_lets -underBinder | split
    | fail_if_no_progress with_reducible apply Keeps.update | dsimp -zeta only

theorem State.leadRefuse_keeps {u s : State} (k : Keeps u s) : Keeps u (State.leadRefuse s) := by
  unfold State.leadRefuse
  repeat' first
    | with_reducible assumption | with_reducible apply State.wrB_keeps | with_reducible apply State.event_keeps

theorem State.answerEvent_keeps {u s : State} (k : Keeps u s) (a : Asked) (code : W16) : Keeps u (State.answerEvent s a code) := by
  unfold State.answerEvent
  repeat' first
    | with_reducible assumption | with_reducible apply State.respond_keeps
    | (intro v; refine Keeps.cut (u := u) (v := v) ?_ ?_; on_goal 1 => dsimp -zeta only [v])
    | (intro v; refine Keeps.cut (u := u) (v := v.1) ?_ ?_; on_goal 1 => dsimp -zeta only [v]) | intro _ | lift_lets -underBinder
    | fail_if_no_progress with_reducible apply Keeps.update | dsimp -zeta only

theorem State.answerReset_keeps {u s : State} (k : Keeps u s) (token : Nat) (code : W16) : Keeps u (State.answerReset s token code) := by
  unfold State.answerReset
  repeat' first
    | with_reducible assumption | with_reducible apply State.respond_keeps
    | (intro v; refine Keeps.cut (u := u) (v := v) ?_ ?_; on_goal 1 => dsimp -zeta only [v])
    | (intro v; refine Keeps.cut (u := u) (v := v.1) ?_ ?_; on_goal 1 => dsimp -zeta only [v]) | intro _ | lift_lets -underBinder | split
    | fail_if_no_progress with_reducible apply Keeps.update | dsimp -zeta only

theorem State.setPortState_keeps {u s : State} (k : Keeps u s) (p st : Nat) : Keeps u (State.setPortState s p st) := by
  unfold State.setPortState
  repeat' first
    | with_reducible assumption | with_reducible apply State.wrF_keeps | with_reducible apply State.traceModule_keeps

theorem State.linkLost_keeps {u s : State} (k : Keeps u s) (p : Nat) : Keeps u (State.linkLost s p) := by
  unfold State.linkLost
  repeat' first
    | with_reducible assumption | with_reducible apply State.setPort_keeps | with_reducible apply State.sendStatus_keeps
    | with_reducible apply State.rememberDrop_keeps | with_reducible apply State.routesChanged_keeps
    | with_reducible apply State.upstreamLost_keeps | with_reducible apply Keeps.foldl | with_reducible apply Keeps.foldl_fst
    | (intro v; refine Keeps.cut (u := u) (v := v) ?_ ?_; on_goal 1 => dsimp -zeta only [v]) | intro _ | lift_lets -underBinder | split
    | fail_if_no_progress with_reducible apply Keeps.update | dsimp -zeta only

theorem State.linkDown_keeps {u s : State} (k : Keeps u s) (p : Nat) : Keeps u (State.linkDown s p) := by
  unfold State.linkDown
  repeat' first
    | with_reducible assumption | with_reducible apply State.setPortState_keeps | with_reducible apply State.linkLost_keeps

theorem State.retrain_keeps {u s : State} (k : Keeps u s) (p : Nat) : Keeps u (State.retrain s p) := by
  unfold State.retrain
  repeat' first
    | with_reducible assumption | with_reducible apply State.incF_keeps | with_reducible apply State.setPort_keeps
    | with_reducible apply State.setPortState_keeps | (intro v; refine Keeps.cut (u := u) (v := v) ?_ ?_; on_goal 1 => dsimp -zeta only [v])
    | intro _ | lift_lets -underBinder | split | fail_if_no_progress with_reducible apply Keeps.update

theorem State.viol_keeps {u s : State} (k : Keeps u s) (p : Nat) : Keeps u (State.viol s p) := by
  unfold State.viol
  repeat' first
    | with_reducible assumption | with_reducible apply State.incF_keeps | with_reducible apply State.setPort_keeps
    | with_reducible apply State.event_keeps | with_reducible apply State.setPortState_keeps | with_reducible apply State.linkLost_keeps
    | (intro v; refine Keeps.cut (u := u) (v := v) ?_ ?_; on_goal 1 => dsimp -zeta only [v]) | intro _ | lift_lets -underBinder | split
    | fail_if_no_progress with_reducible apply Keeps.update | dsimp -zeta only

theorem State.frameSend_keeps {u s : State} (k : Keeps u s) (p : Nat) : Keeps u (State.frameSend s p) := by
  unfold State.frameSend
  repeat' first
    | with_reducible assumption | with_reducible apply State.incF_keeps | with_reducible apply State.setPort_keeps
    | with_reducible apply State.bump_keeps | with_reducible apply State.countBlock_keeps | with_reducible apply Keeps.foldl
    | with_reducible apply Keeps.foldl_fst | (intro v; refine Keeps.cut (u := u) (v := v) ?_ ?_; on_goal 1 => dsimp -zeta only [v])
    | (intro v; refine Keeps.cut (u := u) (v := v.1) ?_ ?_; on_goal 1 => dsimp -zeta only [v]) | intro _ | lift_lets -underBinder | split
    | fail_if_no_progress with_reducible apply Keeps.update | dsimp -zeta only

theorem State.badWave_keeps {u s : State} (k : Keeps u s) (p wave : Nat) : Keeps u (State.badWave s p wave) := by
  unfold State.badWave
  repeat' first
    | with_reducible assumption | with_reducible apply State.wrF_keeps | with_reducible apply State.wrB_keeps

theorem State.ctrlFlit_keeps {u s : State} (k : Keeps u s) (p : Nat) (c : Ctrl) : Keeps u (State.ctrlFlit s p c) := by
  unfold State.ctrlFlit
  repeat' first
    | with_reducible assumption | with_reducible apply State.setPort_keeps | with_reducible apply State.event_keeps
    | with_reducible apply State.retrain_keeps | with_reducible apply State.viol_keeps | with_reducible apply State.badWave_keeps
    | (intro v; refine Keeps.cut (u := u) (v := v) ?_ ?_; on_goal 1 => dsimp -zeta only [v]) | intro _ | lift_lets -underBinder | split
    | fail_if_no_progress with_reducible apply Keeps.update | dsimp -zeta only

theorem State.freeAtOnce_keeps {u s : State} (k : Keeps u s) (port : Nat) (p : Pkt) : Keeps u (State.freeAtOnce s port p) := by
  unfold State.freeAtOnce
  repeat' first
    | with_reducible assumption | with_reducible apply State.setPort_keeps
    | (intro v; refine Keeps.cut (u := u) (v := v) ?_ ?_; on_goal 1 => dsimp -zeta only [v]) | intro _ | lift_lets -underBinder | split
    | fail_if_no_progress with_reducible apply Keeps.update

theorem State.dropLink_keeps {u s : State} (k : Keeps u s) (port : Nat) (p : Pkt) (code : W16) : Keeps u (State.dropLink s port p code) :=
    by
  unfold State.dropLink
  repeat' first
    | with_reducible assumption | with_reducible apply State.refusePkt_keeps | with_reducible apply State.viol_keeps
    | with_reducible apply State.freeAtOnce_keeps

theorem State.passOn_keeps {u s : State} (k : Keeps u s) (port : Nat) (p : Pkt) : Keeps u (State.passOn s port p) := by
  unfold State.passOn
  repeat' first
    | with_reducible assumption | with_reducible apply State.crossOut_keeps | with_reducible apply State.forwardPkt_keeps
    | with_reducible apply State.rememberDrop_keeps | with_reducible apply State.staleAdd_keeps
    | (intro v; refine Keeps.cut (u := u) (v := v) ?_ ?_; on_goal 1 => dsimp -zeta only [v]) | intro _ | lift_lets -underBinder | split
    | dsimp -zeta only

theorem State.arrivePkt_keeps {u s : State} (k : Keeps u s) (port : Nat) (p : Pkt) : Keeps u (State.arrivePkt s port p) := by
  unfold State.arrivePkt
  repeat' first
    | with_reducible assumption | with_reducible apply State.setPort_keeps | with_reducible apply State.countBlock_keeps
    | with_reducible apply State.rememberDrop_keeps | with_reducible apply State.countDrop_keeps
    | with_reducible apply State.refuseSource_keeps | with_reducible apply State.logChannel_keeps
    | with_reducible apply State.freeAtOnce_keeps | with_reducible apply State.dropLink_keeps | with_reducible apply State.passOn_keeps
    | (intro v; refine Keeps.cut (u := u) (v := v) ?_ ?_; on_goal 1 => dsimp -zeta only [v]) | intro _ | lift_lets -underBinder | split
    | fail_if_no_progress with_reducible apply Keeps.update | dsimp -zeta only

theorem State.dropOpen_keeps {u s : State} (k : Keeps u s) (port : Nat) : Keeps u (State.dropOpen s port) := by
  unfold State.dropOpen
  repeat' first
    | with_reducible assumption | with_reducible apply State.setPort_keeps | with_reducible apply State.refusePkt_keeps
    | with_reducible apply State.freeAtOnce_keeps | (intro v; refine Keeps.cut (u := u) (v := v) ?_ ?_; on_goal 1 => dsimp -zeta only [v])
    | intro _ | lift_lets -underBinder | split | fail_if_no_progress with_reducible apply Keeps.update | dsimp -zeta only

theorem State.flit_keeps {u s : State} (k : Keeps u s) (port i : Nat) (f : Flit) : Keeps u (State.flit s port i f) := by
  unfold State.flit
  repeat' first
    | with_reducible assumption | with_reducible apply State.setPort_keeps | with_reducible apply State.viol_keeps
    | with_reducible apply State.ctrlFlit_keeps | with_reducible apply State.arrivePkt_keeps | with_reducible apply State.dropOpen_keeps
    | (intro v; refine Keeps.cut (u := u) (v := v) ?_ ?_; on_goal 1 => dsimp -zeta only [v]) | intro _ | lift_lets -underBinder | split
    | fail_if_no_progress with_reducible apply Keeps.update | dsimp -zeta only

theorem State.frameReceive_keeps {u s : State} (k : Keeps u s) (port : Nat) (f : Frame) (ok : Bool) : Keeps u (State.frameReceive s port f
    ok) := by
  unfold State.frameReceive
  repeat' first
    | with_reducible assumption | with_reducible apply State.incF_keeps | with_reducible apply State.setPort_keeps
    | with_reducible apply State.bump_keeps | with_reducible apply State.viol_keeps | with_reducible apply State.flit_keeps
    | with_reducible apply Keeps.foldl | with_reducible apply Keeps.foldl_fst
    | (intro v; refine Keeps.cut (u := u) (v := v) ?_ ?_; on_goal 1 => dsimp -zeta only [v])
    | (intro v; refine Keeps.cut (u := u) (v := v.1) ?_ ?_; on_goal 1 => dsimp -zeta only [v]) | intro _ | lift_lets -underBinder | split
    | fail_if_no_progress with_reducible apply Keeps.update | dsimp -zeta only

theorem State.packetAged_keeps {u s : State} (k : Keeps u s) (port n : Nat) : Keeps u (State.packetAged s port n) := by
  unfold State.packetAged
  repeat' first
    | with_reducible assumption | with_reducible apply State.setPort_keeps | with_reducible apply State.sendStatus_keeps
    | with_reducible apply State.freeFlits_keeps | with_reducible apply State.rememberDrop_keeps
    | with_reducible apply State.refusePkt_keeps | (intro v; refine Keeps.cut (u := u) (v := v) ?_ ?_; on_goal 1 => dsimp -zeta only [v])
    | intro _ | lift_lets -underBinder | split | fail_if_no_progress with_reducible apply Keeps.update | dsimp -zeta only

theorem State.trainingComplete_keeps {u s : State} (k : Keeps u s) (p peer role dim idle : Nat) : Keeps u (State.trainingComplete s p peer
    role dim idle) := by
  unfold State.trainingComplete
  repeat' first
    | with_reducible assumption | with_reducible apply State.wrF_keeps | with_reducible apply State.setPort_keeps
    | with_reducible apply State.event_keeps | with_reducible apply State.routesChanged_keeps
    | with_reducible apply State.setPortState_keeps | with_reducible apply State.linkLost_keeps
    | (intro v; refine Keeps.cut (u := u) (v := v) ?_ ?_; on_goal 1 => dsimp -zeta only [v]) | intro _ | lift_lets -underBinder | split
    | fail_if_no_progress with_reducible apply Keeps.update | dsimp -zeta only

theorem State.portTakeover_keeps {u s : State} (k : Keeps u s) (p : Nat) : Keeps u (State.portTakeover s p) := by
  unfold State.portTakeover
  repeat' first
    | with_reducible assumption | with_reducible apply State.wrF_keeps | with_reducible apply State.setPort_keeps
    | with_reducible apply State.event_keeps | with_reducible apply State.spareUsed_keeps | with_reducible apply State.noSpare_keeps
    | with_reducible apply State.upstreamLost_keeps | with_reducible apply State.setPortState_keeps
    | with_reducible apply State.linkLost_keeps | (intro v; refine Keeps.cut (u := u) (v := v) ?_ ?_; on_goal 1 => dsimp -zeta only [v])
    | intro _ | lift_lets -underBinder | split | fail_if_no_progress with_reducible apply Keeps.update | dsimp -zeta only

theorem State.moveWave_keeps {u s : State} (k : Keeps u s) (p wave : Nat) : Keeps u (State.moveWave s p wave) := by
  unfold State.moveWave
  repeat' first
    | with_reducible assumption | with_reducible apply State.setPort_keeps | with_reducible apply State.event_keeps
    | with_reducible apply State.spareUsed_keeps | with_reducible apply State.badWave_keeps
    | (intro v; refine Keeps.cut (u := u) (v := v) ?_ ?_; on_goal 1 => dsimp -zeta only [v]) | intro _ | lift_lets -underBinder | split
    | fail_if_no_progress with_reducible apply Keeps.update

theorem State.setCart_keeps {u s : State} (k : Keeps u s) (c st half lamp : Nat) : Keeps u (State.setCart s c st half lamp) := by
  unfold State.setCart
  repeat' first
    | with_reducible assumption | with_reducible apply State.wrF_keeps | with_reducible apply State.setBay_keeps
    | (intro v; refine Keeps.cut (u := u) (v := v) ?_ ?_; on_goal 1 => dsimp -zeta only [v]) | intro _ | lift_lets -underBinder
    | fail_if_no_progress with_reducible apply Keeps.update

theorem State.switchCart_keeps {u s : State} (k : Keeps u s) (c h : Nat) : Keeps u (State.switchCart s c h) := by
  unfold State.switchCart
  repeat' first
    | with_reducible assumption | with_reducible apply State.setPort_keeps | with_reducible apply State.event_keeps
    | with_reducible apply State.spareUsed_keeps | with_reducible apply State.setCart_keeps | with_reducible apply Keeps.foldl
    | with_reducible apply Keeps.foldl_fst | (intro v; refine Keeps.cut (u := u) (v := v) ?_ ?_; on_goal 1 => dsimp -zeta only [v])
    | intro _ | lift_lets -underBinder | split | dsimp -zeta only

theorem State.halfDown_keeps {u s : State} (k : Keeps u s) (h : Nat) : Keeps u (State.halfDown s h) := by
  unfold State.halfDown
  repeat' first
    | with_reducible assumption | with_reducible apply State.linkDown_keeps | with_reducible apply Keeps.foldl
    | with_reducible apply Keeps.foldl_fst | intro _ | split | dsimp -zeta only

theorem State.feedHalf_keeps {u s : State} (k : Keeps u s) (c h : Nat) : Keeps u (State.feedHalf s c h) := by
  unfold State.feedHalf
  repeat' first
    | with_reducible assumption | with_reducible apply State.noSpare_keeps | with_reducible apply State.switchCart_keeps
    | with_reducible apply State.halfDown_keeps | (intro v; refine Keeps.cut (u := u) (v := v) ?_ ?_; on_goal 1 => dsimp -zeta only [v])
    | intro _ | lift_lets -underBinder | split | fail_if_no_progress with_reducible apply Keeps.update | dsimp -zeta only

theorem State.cartFault_keeps {u s : State} (k : Keeps u s) (c : Nat) : Keeps u (State.cartFault s c) := by
  unfold State.cartFault
  repeat' first
    | with_reducible assumption | with_reducible apply State.setCart_keeps | with_reducible apply State.feedHalf_keeps
    | (intro v; refine Keeps.cut (u := u) (v := v) ?_ ?_; on_goal 1 => dsimp -zeta only [v]) | intro _ | lift_lets -underBinder | split
    | fail_if_no_progress with_reducible apply Keeps.update | dsimp -zeta only

theorem State.exchange_keeps {u s : State} (k : Keeps u s) (frm c h lamp : Nat) : Keeps u (State.exchange s frm c h lamp) := by
  unfold State.exchange
  repeat' first
    | with_reducible assumption | with_reducible apply State.setCart_keeps | with_reducible apply State.switchCart_keeps

theorem State.scheduleSwap_keeps {u s : State} (k : Keeps u s) (id : W32) (kind unit : Nat) : Keeps u (State.scheduleSwap s id kind unit) :=
    by
  unfold State.scheduleSwap
  repeat' first
    | with_reducible assumption | with_reducible apply State.issueEvent_keeps

theorem State.planSwap_keeps {u s : State} (k : Keeps u s) (kind unit : Nat) : Keeps u (State.planSwap s kind unit) := by
  unfold State.planSwap
  repeat' first
    | with_reducible assumption | with_reducible apply State.scheduleSwap_keeps
    | (intro v; refine Keeps.cut (u := u) (v := v) ?_ ?_; on_goal 1 => dsimp -zeta only [v])
    | (intro v; refine Keeps.cut (u := u) (v := v.1) ?_ ?_; on_goal 1 => dsimp -zeta only [v]) | intro _ | lift_lets -underBinder | split
    | fail_if_no_progress with_reducible apply Keeps.update | dsimp -zeta only

theorem State.doSwap_keeps {u s : State} (k : Keeps u s) (kind unit : Nat) : Keeps u (State.doSwap s kind unit) := by
  unfold State.doSwap
  repeat' first
    | with_reducible assumption | with_reducible apply State.moveWave_keeps | with_reducible apply State.exchange_keeps
    | (intro v; refine Keeps.cut (u := u) (v := v) ?_ ?_; on_goal 1 => dsimp -zeta only [v]) | intro _ | lift_lets -underBinder | split
    | fail_if_no_progress with_reducible apply Keeps.update | dsimp -zeta only

theorem State.planCart_keeps {u s : State} (k : Keeps u s) (h : Nat) : Keeps u (State.planCart s h) := by
  unfold State.planCart
  repeat' first
    | with_reducible assumption | with_reducible apply State.noSpare_keeps | with_reducible apply State.planSwap_keeps | split
    | dsimp -zeta only

theorem State.laserFail_keeps {u s : State} (k : Keeps u s) (c k_ : Nat) : Keeps u (State.laserFail s c k_) := by
  unfold State.laserFail
  repeat' first
    | with_reducible assumption | with_reducible apply State.wrB_keeps | with_reducible apply State.event_keeps
    | with_reducible apply State.noSpare_keeps | with_reducible apply State.linkDown_keeps | with_reducible apply State.moveWave_keeps
    | with_reducible apply State.planCart_keeps | with_reducible apply Keeps.foldl | with_reducible apply Keeps.foldl_fst
    | (intro v; refine Keeps.cut (u := u) (v := v) ?_ ?_; on_goal 1 => dsimp -zeta only [v]) | intro _ | lift_lets -underBinder | split
    | dsimp -zeta only

theorem State.marginScan_keeps {u s : State} (k : Keeps u s) (p : Nat) (margins bias : List Byte) : Keeps u (State.marginScan s p margins
    bias) := by
  unfold State.marginScan
  repeat' first
    | with_reducible assumption | with_reducible apply State.wrF_keeps | with_reducible apply State.setPort_keeps
    | with_reducible apply State.noSpare_keeps | with_reducible apply State.planSwap_keeps | with_reducible apply State.planCart_keeps
    | with_reducible apply Keeps.foldl | with_reducible apply Keeps.foldl_fst
    | (intro v; refine Keeps.cut (u := u) (v := v) ?_ ?_; on_goal 1 => dsimp -zeta only [v]) | intro _ | lift_lets -underBinder | split
    | fail_if_no_progress with_reducible apply Keeps.update | dsimp -zeta only

theorem State.remoteLate_keeps {u s : State} (k : Keeps u s) (src tag code : Nat) : Keeps u (State.remoteLate s src tag code) := by
  unfold State.remoteLate
  repeat' first
    | with_reducible assumption | with_reducible apply State.report_keeps

theorem State.memberRefused_keeps {u s : State} (k : Keeps u s) (code : W16) (x : Sent) : Keeps u (State.memberRefused s code x) := by
  unfold State.memberRefused
  repeat' first
    | with_reducible assumption | with_reducible apply State.answerEvent_keeps
    | (intro v; refine Keeps.cut (u := u) (v := v) ?_ ?_; on_goal 1 => dsimp -zeta only [v]) | intro _ | lift_lets -underBinder | split
    | fail_if_no_progress with_reducible apply Keeps.update | dsimp -zeta only

theorem State.eventStatus_keeps {u s : State} (k : Keeps u s) (code : W16) (x : Sent) : Keeps u (State.eventStatus s code x) := by
  unfold State.eventStatus
  repeat' first
    | with_reducible assumption | with_reducible apply State.event_keeps | with_reducible apply State.editSnap_keeps
    | with_reducible apply State.scheduleSwap_keeps | with_reducible apply State.memberRefused_keeps
    | (intro v; refine Keeps.cut (u := u) (v := v) ?_ ?_; on_goal 1 => dsimp -zeta only [v])
    | (intro v; refine Keeps.cut (u := u) (v := v.1) ?_ ?_; on_goal 1 => dsimp -zeta only [v]) | intro _ | lift_lets -underBinder | split
    | fail_if_no_progress with_reducible apply Keeps.update | dsimp -zeta only

theorem State.statusRow_keeps {u s : State} (k : Keeps u s) (src : Option Nat) : Keeps u (State.statusRow s src) := by
  unfold State.statusRow
  repeat' first
    | with_reducible assumption | with_reducible apply State.failJob_keeps | with_reducible apply State.refuseSource_keeps
    | with_reducible apply State.breakUnreachable_keeps | with_reducible apply State.answerReset_keeps
    | with_reducible apply State.remoteLate_keeps | with_reducible apply State.eventStatus_keeps
    | with_reducible refine State.takePkt_keeps ?_ (by assumption)
    | (intro v; refine Keeps.cut (u := u) (v := v) ?_ ?_; on_goal 1 => dsimp -zeta only [v])
    | (intro v; refine Keeps.cut (u := u) (v := v.1) ?_ ?_; on_goal 1 => dsimp -zeta only [v]) | intro _ | lift_lets -underBinder | split
    | fail_if_no_progress with_reducible apply Keeps.update | dsimp -zeta only

theorem State.setBeatRole_keeps {u s : State} (k : Keeps u s) (w : W32) (start : W64) : Keeps u (State.setBeatRole s w start) := by
  unfold State.setBeatRole
  repeat' first
    | with_reducible assumption | with_reducible apply State.wr_keeps | with_reducible apply State.wrF_keeps
    | with_reducible apply State.setBeatSt_keeps | with_reducible apply State.setUp_keeps | with_reducible apply State.countFrom_keeps
    | with_reducible apply State.master_keeps | (intro v; refine Keeps.cut (u := u) (v := v) ?_ ?_; on_goal 1 => dsimp -zeta only [v])
    | intro _ | lift_lets -underBinder | split | fail_if_no_progress with_reducible apply Keeps.update | dsimp -zeta only

theorem State.setLink_keeps {u s : State} (k : Keeps u s) (l : Nat) (w : W32) : Keeps u (State.setLink s l w) := by
  unfold State.setLink
  repeat' first
    | with_reducible assumption | with_reducible apply State.wr_keeps | with_reducible apply State.setPortState_keeps
    | with_reducible apply State.linkDown_keeps | (intro v; refine Keeps.cut (u := u) (v := v) ?_ ?_; on_goal 1 => dsimp -zeta only [v])
    | intro _ | lift_lets -underBinder | split | dsimp -zeta only

theorem State.saveFabric_keeps {u s : State} (k : Keeps u s) : Keeps u (State.saveFabric s) := by
  unfold State.saveFabric
  repeat' first
    | with_reducible assumption | with_reducible apply State.flashImage_keeps | with_reducible apply Keeps.foldl
    | with_reducible apply Keeps.foldl_fst | (intro v; refine Keeps.cut (u := u) (v := v) ?_ ?_; on_goal 1 => dsimp -zeta only [v])
    | intro _ | lift_lets -underBinder | split | fail_if_no_progress with_reducible apply Keeps.update | dsimp -zeta only

theorem State.decideProfile_keeps {u s : State} (k : Keeps u s) : Keeps u (State.decideProfile s) := by
  unfold State.decideProfile
  repeat' first
    | with_reducible assumption | with_reducible apply State.issueEvent_keeps
    | (intro v; refine Keeps.cut (u := u) (v := v) ?_ ?_; on_goal 1 => dsimp -zeta only [v])
    | (intro v; refine Keeps.cut (u := u) (v := v.1) ?_ ?_; on_goal 1 => dsimp -zeta only [v]) | intro _ | lift_lets -underBinder | split
    | fail_if_no_progress with_reducible apply Keeps.update | dsimp -zeta only

theorem State.siteReport_keeps {u s : State} (k : Keeps u s) (src : Nat) (asserted : Bool) : Keeps u (State.siteReport s src asserted) := by
  unfold State.siteReport
  repeat' first
    | with_reducible assumption | with_reducible apply State.decideProfile_keeps
    | (intro v; refine Keeps.cut (u := u) (v := v) ?_ ?_; on_goal 1 => dsimp -zeta only [v]) | intro _ | lift_lets -underBinder | split
    | fail_if_no_progress with_reducible apply Keeps.update | dsimp -zeta only

theorem State.toMaster_keeps {u s : State} (k : Keeps u s) (b : List Byte) : Keeps u (State.toMaster s b) := by
  unfold State.toMaster
  repeat' first
    | with_reducible assumption | with_reducible apply State.mcpPkt_keeps | split | dsimp -zeta only

theorem State.sendSite_keeps {u s : State} (k : Keeps u s) : Keeps u (State.sendSite s) := by
  unfold State.sendSite
  repeat' first
    | with_reducible assumption | with_reducible apply State.siteReport_keeps | with_reducible apply State.toMaster_keeps
    | (intro v; refine Keeps.cut (u := u) (v := v) ?_ ?_; on_goal 1 => dsimp -zeta only [v]) | intro _ | lift_lets -underBinder | split
    | dsimp -zeta only

theorem State.applyOwn_keeps {u s : State} (k : Keeps u s) : Keeps u (State.applyOwn s) := by
  unfold State.applyOwn
  repeat' first
    | with_reducible assumption | with_reducible apply State.applyProfile_keeps
    | (intro v; refine Keeps.cut (u := u) (v := v) ?_ ?_; on_goal 1 => dsimp -zeta only [v]) | intro _ | lift_lets -underBinder | split
    | dsimp -zeta only

theorem State.setCap_keeps {u s : State} (k : Keeps u s) (c : Option Nat) : Keeps u (State.setCap s c) := by
  unfold State.setCap
  repeat' first
    | with_reducible assumption | with_reducible apply State.commitTable_keeps
    | (intro v; refine Keeps.cut (u := u) (v := v) ?_ ?_; on_goal 1 => dsimp -zeta only [v]) | intro _ | lift_lets -underBinder
    | fail_if_no_progress with_reducible apply Keeps.update

theorem State.mgmtRow_keeps {u s : State} (k : Keeps u s) (src : Option Nat) : Keeps u (State.mgmtRow s src) := by
  unfold State.mgmtRow
  repeat' first
    | with_reducible assumption | with_reducible apply State.refuseSource_keeps | with_reducible apply State.setWin_keeps
    | with_reducible apply State.mcpPkt_keeps | with_reducible apply State.answerReset_keeps
    | with_reducible apply State.decideProfile_keeps | with_reducible apply State.siteReport_keeps | with_reducible apply State.setCap_keeps
    | with_reducible refine State.takePkt_keeps ?_ (by assumption) | with_reducible apply Keeps.getD
    | with_reducible refine State.startReset_keeps (s := ?_) ?_ (by assumption)
    | (intro v; refine Keeps.cut (u := u) (v := v) ?_ ?_; on_goal 1 => dsimp -zeta only [v])
    | (intro v; refine Keeps.cut (u := u) (v := v.1) ?_ ?_; on_goal 1 => dsimp -zeta only [v]) | intro _ | lift_lets -underBinder | split
    | fail_if_no_progress with_reducible apply Keeps.update | dsimp -zeta only

theorem State.cartLocked_keeps {u s : State} (k : Keeps u s) (c : Nat) (good : Bool) : Keeps u (s.cartLocked c good) := by
  unfold State.cartLocked
  split
  · exact k
  · have ht : Keeps u (s.setBay c { s.bay c with warming := false }) := State.setBay_keeps k _ _
    generalize s.setBay c { s.bay c with warming := false } = t at ht ⊢
    dsimp only
    split
    · have hx : Keeps u (t.setCart c 2 2 3) := State.setCart_keeps ht _ _ _ _
      generalize t.setCart c 2 2 3 = x at hx ⊢
      exact Keeps.update hx
    · have hy : Keeps u (((t.setCart c 1 2 1).wrF (rOptCart c) 27 23 0x1F).wrF (rOptCart c) 15 8 0) :=
        State.wrF_keeps (State.wrF_keeps (State.setCart_keeps ht _ _ _ _) _ _ _ _) _ _ _ _
      generalize ((t.setCart c 1 2 1).wrF (rOptCart c) 27 23 0x1F).wrF (rOptCart c) 15 8 0 = y at hy ⊢
      split
      · generalize [0, 1].find? (fun h => (y.activeCart h).isNone) = o
        cases o with
        | none => exact hy
        | some h => exact State.switchCart_keeps hy _ _
      · generalize y.activeCart (c - 1) = o
        cases o with
        | none => exact State.switchCart_keeps hy _ _
        | some n =>
          dsimp only
          split
          · exact State.planSwap_keeps hy _ _
          · exact hy

theorem State.kSplitCombine_keeps {u s : State} (k : Keeps u s) (ring dc : Nat) : Keeps u (State.kSplitCombine s ring dc) := by
  unfold State.kSplitCombine
  repeat' first
    | with_reducible assumption | with_reducible apply State.count_keeps | with_reducible apply State.updCmd_keeps
    | with_reducible apply State.failCmd_keeps | with_reducible apply State.readRanges_keeps | with_reducible apply State.doneCmd_keeps
    | with_reducible apply State.matPut_keeps | with_reducible apply Keeps.foldl | with_reducible apply Keeps.foldl_fst
    | (intro v; refine Keeps.cut (u := u) (v := v) ?_ ?_; on_goal 1 => dsimp -zeta only [v])
    | (intro v; refine Keeps.cut (u := u) (v := v.1) ?_ ?_; on_goal 1 => dsimp -zeta only [v]) | intro _ | lift_lets -underBinder | split
    | fail_if_no_progress with_reducible apply Keeps.update | dsimp -zeta only

theorem State.checkReexec_keeps {u s : State} (k : Keeps u s) (ring dc item c : Nat) (sig : W64) : Keeps u (State.checkReexec s ring dc item
    c sig) := by
  unfold State.checkReexec
  repeat' first
    | with_reducible assumption | with_reducible apply State.incF_keeps | with_reducible apply State.count_keeps
    | with_reducible apply State.updCmd_keeps | with_reducible apply State.ledgerStart_keeps
    | (intro v; refine Keeps.cut (u := u) (v := v) ?_ ?_; on_goal 1 => dsimp -zeta only [v]) | intro _ | lift_lets -underBinder | split
    | fail_if_no_progress with_reducible apply Keeps.update | dsimp -zeta only

theorem State.dissent_keeps {u s : State} (k : Keeps u s) (lc : Nat) : Keeps u (State.dissent s lc) := by
  unfold State.dissent
  repeat' first
    | with_reducible assumption | with_reducible apply State.wrB_keeps | with_reducible apply State.setCore_keeps
    | (intro v; refine Keeps.cut (u := u) (v := v) ?_ ?_; on_goal 1 => dsimp -zeta only [v]) | intro _ | lift_lets -underBinder | split
    | fail_if_no_progress with_reducible apply Keeps.update | dsimp -zeta only

theorem State.thirdExecution_keeps {u s : State} (k : Keeps u s) (ring dc item c : Nat) (sig : W64) : Keeps u (State.thirdExecution s ring
    dc item c sig) := by
  unfold State.thirdExecution
  repeat' first
    | with_reducible assumption | with_reducible apply State.incF_keeps | with_reducible apply State.report_keeps
    | with_reducible apply State.count_keeps | with_reducible apply State.updCmd_keeps | with_reducible apply State.failCmd_keeps
    | with_reducible apply State.ledgerStart_keeps | with_reducible apply State.dissent_keeps
    | (intro v; refine Keeps.cut (u := u) (v := v) ?_ ?_; on_goal 1 => dsimp -zeta only [v]) | intro _ | lift_lets -underBinder | split
    | fail_if_no_progress with_reducible apply Keeps.update | dsimp -zeta only

theorem State.commandComplete_keeps {u s : State} (k : Keeps u s) (ring dc : Nat) : Keeps u (State.commandComplete s ring dc) := by
  unfold State.commandComplete
  repeat' first
    | with_reducible assumption | with_reducible apply State.setPart_keeps | with_reducible apply State.count_keeps
    | with_reducible apply State.writeMem_keeps | with_reducible apply State.countMem_keeps | with_reducible apply State.trace_keeps
    | with_reducible apply State.postLatch_keeps | with_reducible apply State.putRecord_keeps | with_reducible apply State.matScramble_keeps
    | (intro v; refine Keeps.cut (u := u) (v := v) ?_ ?_; on_goal 1 => dsimp -zeta only [v])
    | (intro v; refine Keeps.cut (u := u) (v := v.1) ?_ ?_; on_goal 1 => dsimp -zeta only [v]) | intro _ | lift_lets -underBinder | split
    | fail_if_no_progress with_reducible apply Keeps.update | dsimp -zeta only

theorem State.writeReg_keeps {u s : State} (k : Keeps u s) (off : Nat) (val : W32) : Keeps u (State.writeReg s off val) := by
  unfold State.writeReg
  repeat' first
    | with_reducible assumption | with_reducible apply State.wrB_keeps | with_reducible apply State.plainReg_keeps
    | with_reducible apply State.setRing_keeps | with_reducible apply State.setChan_keeps | with_reducible apply State.extLatch_keeps
    | with_reducible apply State.extCore_keeps | with_reducible apply State.routesChanged_keeps | with_reducible apply State.granWrite_keeps
    | with_reducible apply State.setBeatRole_keeps | with_reducible apply State.setLink_keeps
    | (intro v; refine Keeps.cut (u := u) (v := v) ?_ ?_; on_goal 1 => dsimp -zeta only [v]) | intro _ | lift_lets -underBinder | split
    | fail_if_no_progress with_reducible apply Keeps.update | dsimp -zeta only

theorem State.edge_keeps {u s : State} (k : Keeps u s) : Keeps u (State.edge s) := by
  unfold State.edge
  repeat' first
    | with_reducible assumption | with_reducible apply State.count_keeps | with_reducible apply State.setPeriod_keeps
    | with_reducible apply State.hold_keeps | (intro v; refine Keeps.cut (u := u) (v := v) ?_ ?_; on_goal 1 => dsimp -zeta only [v])
    | intro _ | lift_lets -underBinder | split | fail_if_no_progress with_reducible apply Keeps.update | dsimp -zeta only

theorem State.answerAsked_keeps {u s : State} (k : Keeps u s) : Keeps u (State.answerAsked s) := by
  unfold State.answerAsked
  repeat' first
    | with_reducible assumption | with_reducible apply State.answerEvent_keeps | with_reducible apply Keeps.foldl
    | with_reducible apply Keeps.foldl_fst | intro _ | dsimp -zeta only

theorem State.tick_keeps {u s : State} (k : Keeps u s) : Keeps u (State.tick s) := by
  unfold State.tick
  repeat' first
    | with_reducible assumption | with_reducible apply State.releaseGated_keeps | with_reducible apply State.edge_keeps
    | with_reducible apply State.answerAsked_keeps | split | dsimp -zeta only


end Sys2Proof.Machine
end

