-- ==== Sys2Proof/Laws/KeepsSlots.lean ====
section
/-! SUPPORT. The actions of the slots of a bundle keep what the state had, and so does a slot command. -/

namespace Sys2Proof.Machine

set_option linter.all false

theorem SlotOut.raises_keeps (p1 p2 : Nat) (p3 p4 : List RegRef) : (SlotOut.raises p1 p2 p3 p4).keeps := by
  unfold SlotOut.raises
  repeat' first
    | with_reducible assumption | fail_if_no_progress with_reducible apply SlotOut.keeps_mk | intro _

theorem vOut_keeps (p1 : VC) (p2 : Nat × Nat) (p3 : List RegRef) (p4 : Vec) (p5 : Nat) : (vOut p1 p2 p3 p4 p5).keeps := by
  unfold vOut
  repeat' first
    | with_reducible assumption | with_reducible apply State.setThr_keeps | split
    | fail_if_no_progress with_reducible apply SlotOut.keeps_mk | intro _ | fail_if_no_progress with_reducible apply Keeps.update
    | dsimp -zeta only

theorem vMap_keeps (p1 : VC) (p2 : Nat × Nat) (p3 : Option Nat) (p4 : List RegRef) (p5 : Nat → Nat × Nat) : (vMap p1 p2 p3 p4 p5).keeps :=
    by
  unfold vMap
  repeat' first
    | with_reducible assumption | with_reducible apply SlotOut.raises_keeps | with_reducible apply vOut_keeps
    | fail_if_no_progress (lift_lets -underBinder; intros) | split | fail_if_no_progress with_reducible apply SlotOut.keeps_mk | intro _

theorem vBin_keeps (p1 : VF) (p2 : Thread) (p3 : Nat × Nat) (p4 : VC → Int → Int → Int) (p5 : VC → Nat → Nat → Nat × Nat) : (vBin p1 p2 p3
    p4 p5).keeps := by
  unfold vBin
  repeat' first
    | with_reducible assumption | with_reducible apply vMap_keeps | fail_if_no_progress (lift_lets -underBinder; intros) | split
    | fail_if_no_progress with_reducible apply SlotOut.keeps_mk | intro _

theorem slotVNop_keeps (p1 : VF) (p2 : Thread) : (slotVNop p1 p2).keeps := by
  unfold slotVNop
  repeat' first
    | with_reducible assumption | with_reducible apply SlotOut.raises_keeps | fail_if_no_progress (lift_lets -underBinder; intros) | split
    | fail_if_no_progress with_reducible apply SlotOut.keeps_mk | intro _

theorem slotVAdd_keeps (p1 : VF) (p2 : Thread) (p3 : Nat × Nat) : (slotVAdd p1 p2 p3).keeps := by
  unfold slotVAdd
  repeat' first
    | with_reducible assumption | with_reducible apply vBin_keeps | fail_if_no_progress with_reducible apply SlotOut.keeps_mk | intro _

theorem slotVSub_keeps (p1 : VF) (p2 : Thread) (p3 : Nat × Nat) : (slotVSub p1 p2 p3).keeps := by
  unfold slotVSub
  repeat' first
    | with_reducible assumption | with_reducible apply vBin_keeps | fail_if_no_progress with_reducible apply SlotOut.keeps_mk | intro _

theorem slotVMul_keeps (p1 : VF) (p2 : Thread) (p3 : Nat × Nat) : (slotVMul p1 p2 p3).keeps := by
  unfold slotVMul
  repeat' first
    | with_reducible assumption | with_reducible apply vBin_keeps | fail_if_no_progress with_reducible apply SlotOut.keeps_mk | intro _

theorem vFused_keeps (p1 : VF) (p2 : State) (p3 : Thread) (p4 : Nat × Nat) (p5 : Bool) : (vFused p1 p2 p3 p4 p5).keeps := by
  unfold vFused
  lift_lets -underBinder
  intro c o
  have ho : o.keeps := vMap_keeps _ _ _ _ _
  split
  · exact fun u t k => State.bump_keeps (ho u t k)
  · exact ho

theorem slotVFma_keeps (p1 : VF) (p2 : State) (p3 : Thread) (p4 : Nat × Nat) : (slotVFma p1 p2 p3 p4).keeps := by
  unfold slotVFma
  repeat' first
    | with_reducible assumption | with_reducible apply vFused_keeps | fail_if_no_progress with_reducible apply SlotOut.keeps_mk | intro _

theorem slotVFms_keeps (p1 : VF) (p2 : State) (p3 : Thread) (p4 : Nat × Nat) : (slotVFms p1 p2 p3 p4).keeps := by
  unfold slotVFms
  repeat' first
    | with_reducible assumption | with_reducible apply vFused_keeps | fail_if_no_progress with_reducible apply SlotOut.keeps_mk | intro _

theorem slotVDiv_keeps (p1 : VF) (p2 : Thread) (p3 : Nat × Nat) : (slotVDiv p1 p2 p3).keeps := by
  unfold slotVDiv
  repeat' first
    | with_reducible assumption | with_reducible apply vMap_keeps | fail_if_no_progress (lift_lets -underBinder; intros)
    | fail_if_no_progress with_reducible apply SlotOut.keeps_mk | intro _

theorem slotVSqrt_keeps (p1 : VF) (p2 : Thread) (p3 : Nat × Nat) : (slotVSqrt p1 p2 p3).keeps := by
  unfold slotVSqrt
  repeat' first
    | with_reducible assumption | with_reducible apply vMap_keeps | fail_if_no_progress (lift_lets -underBinder; intros)
    | fail_if_no_progress with_reducible apply SlotOut.keeps_mk | intro _

theorem slotVMax_keeps (p1 : VF) (p2 : Thread) (p3 : Nat × Nat) : (slotVMax p1 p2 p3).keeps := by
  unfold slotVMax
  repeat' first
    | with_reducible assumption | with_reducible apply vBin_keeps | split | fail_if_no_progress with_reducible apply SlotOut.keeps_mk
    | intro _

theorem slotVMin_keeps (p1 : VF) (p2 : Thread) (p3 : Nat × Nat) : (slotVMin p1 p2 p3).keeps := by
  unfold slotVMin
  repeat' first
    | with_reducible assumption | with_reducible apply vBin_keeps | split | fail_if_no_progress with_reducible apply SlotOut.keeps_mk
    | intro _

theorem vUn_keeps (p1 : VF) (p2 : Thread) (p3 : Nat × Nat) (p4 : Int → Int) (p5 : Val → Val) : (vUn p1 p2 p3 p4 p5).keeps := by
  unfold vUn
  repeat' first
    | with_reducible assumption | with_reducible apply vMap_keeps | fail_if_no_progress (lift_lets -underBinder; intros) | split
    | fail_if_no_progress with_reducible apply SlotOut.keeps_mk | intro _

theorem slotVAbs_keeps (p1 : VF) (p2 : Thread) (p3 : Nat × Nat) : (slotVAbs p1 p2 p3).keeps := by
  unfold slotVAbs
  repeat' first
    | with_reducible assumption | with_reducible apply vUn_keeps | fail_if_no_progress with_reducible apply SlotOut.keeps_mk | intro _

theorem slotVNeg_keeps (p1 : VF) (p2 : Thread) (p3 : Nat × Nat) : (slotVNeg p1 p2 p3).keeps := by
  unfold slotVNeg
  repeat' first
    | with_reducible assumption | with_reducible apply vUn_keeps | fail_if_no_progress with_reducible apply SlotOut.keeps_mk | intro _

theorem vInt_keeps (p1 : VF) (p2 : Thread) (p3 : Nat × Nat) (p4 : VC → Nat → Nat → Nat) : (vInt p1 p2 p3 p4).keeps := by
  unfold vInt
  repeat' first
    | with_reducible assumption | with_reducible apply vMap_keeps | fail_if_no_progress (lift_lets -underBinder; intros)
    | fail_if_no_progress with_reducible apply SlotOut.keeps_mk | intro _

theorem slotVAdds_keeps (p1 : VF) (p2 : Thread) (p3 : Nat × Nat) : (slotVAdds p1 p2 p3).keeps := by
  unfold slotVAdds
  repeat' first
    | with_reducible assumption | with_reducible apply vInt_keeps | fail_if_no_progress with_reducible apply SlotOut.keeps_mk | intro _

theorem slotVSubs_keeps (p1 : VF) (p2 : Thread) (p3 : Nat × Nat) : (slotVSubs p1 p2 p3).keeps := by
  unfold slotVSubs
  repeat' first
    | with_reducible assumption | with_reducible apply vInt_keeps | fail_if_no_progress with_reducible apply SlotOut.keeps_mk | intro _

theorem slotVMulh_keeps (p1 : VF) (p2 : Thread) (p3 : Nat × Nat) : (slotVMulh p1 p2 p3).keeps := by
  unfold slotVMulh
  repeat' first
    | with_reducible assumption | with_reducible apply vInt_keeps | fail_if_no_progress with_reducible apply SlotOut.keeps_mk | intro _

theorem slotVShl_keeps (p1 : VF) (p2 : Thread) (p3 : Nat × Nat) : (slotVShl p1 p2 p3).keeps := by
  unfold slotVShl
  repeat' first
    | with_reducible assumption | with_reducible apply vInt_keeps | fail_if_no_progress with_reducible apply SlotOut.keeps_mk | intro _

theorem slotVShr_keeps (p1 : VF) (p2 : Thread) (p3 : Nat × Nat) : (slotVShr p1 p2 p3).keeps := by
  unfold slotVShr
  repeat' first
    | with_reducible assumption | with_reducible apply vInt_keeps | fail_if_no_progress with_reducible apply SlotOut.keeps_mk | intro _

theorem slotVSar_keeps (p1 : VF) (p2 : Thread) (p3 : Nat × Nat) : (slotVSar p1 p2 p3).keeps := by
  unfold slotVSar
  repeat' first
    | with_reducible assumption | with_reducible apply vInt_keeps | fail_if_no_progress with_reducible apply SlotOut.keeps_mk | intro _

theorem vBits_keeps (p1 : VF) (p2 : Thread) (p3 : Nat × Nat) (p4 : Nat → Nat → Nat) : (vBits p1 p2 p3 p4).keeps := by
  unfold vBits
  repeat' first
    | with_reducible assumption | with_reducible apply vMap_keeps | fail_if_no_progress (lift_lets -underBinder; intros)
    | fail_if_no_progress with_reducible apply SlotOut.keeps_mk | intro _

theorem slotVAnd_keeps (p1 : VF) (p2 : Thread) (p3 : Nat × Nat) : (slotVAnd p1 p2 p3).keeps := by
  unfold slotVAnd
  repeat' first
    | with_reducible assumption | with_reducible apply vBits_keeps | fail_if_no_progress with_reducible apply SlotOut.keeps_mk | intro _

theorem slotVOr_keeps (p1 : VF) (p2 : Thread) (p3 : Nat × Nat) : (slotVOr p1 p2 p3).keeps := by
  unfold slotVOr
  repeat' first
    | with_reducible assumption | with_reducible apply vBits_keeps | fail_if_no_progress with_reducible apply SlotOut.keeps_mk | intro _

theorem slotVXor_keeps (p1 : VF) (p2 : Thread) (p3 : Nat × Nat) : (slotVXor p1 p2 p3).keeps := by
  unfold slotVXor
  repeat' first
    | with_reducible assumption | with_reducible apply vBits_keeps | fail_if_no_progress with_reducible apply SlotOut.keeps_mk | intro _

theorem slotVNot_keeps (p1 : VF) (p2 : Thread) (p3 : Nat × Nat) : (slotVNot p1 p2 p3).keeps := by
  unfold slotVNot
  repeat' first
    | with_reducible assumption | with_reducible apply vMap_keeps | fail_if_no_progress (lift_lets -underBinder; intros)
    | fail_if_no_progress with_reducible apply SlotOut.keeps_mk | intro _

theorem slotVLdexp_keeps (p1 : VF) (p2 : Thread) (p3 : Nat × Nat) : (slotVLdexp p1 p2 p3).keeps := by
  unfold slotVLdexp
  repeat' first
    | with_reducible assumption | with_reducible apply vMap_keeps | fail_if_no_progress (lift_lets -underBinder; intros) | split
    | fail_if_no_progress with_reducible apply SlotOut.keeps_mk | intro _

theorem slotVExp2_keeps (p1 : VF) (p2 : Thread) (p3 : Nat × Nat) : (slotVExp2 p1 p2 p3).keeps := by
  unfold slotVExp2
  repeat' first
    | with_reducible assumption | with_reducible apply vMap_keeps | fail_if_no_progress (lift_lets -underBinder; intros)
    | fail_if_no_progress with_reducible apply SlotOut.keeps_mk | intro _

theorem slotVLog2_keeps (p1 : VF) (p2 : Thread) (p3 : Nat × Nat) : (slotVLog2 p1 p2 p3).keeps := by
  unfold slotVLog2
  repeat' first
    | with_reducible assumption | with_reducible apply vMap_keeps | fail_if_no_progress (lift_lets -underBinder; intros)
    | fail_if_no_progress with_reducible apply SlotOut.keeps_mk | intro _

theorem pOut_keeps (p1 : Nat × Nat) (p2 : Nat) (p3 : List RegRef) (p4 : Pred) (p5 : Nat) : (pOut p1 p2 p3 p4 p5).keeps := by
  unfold pOut
  repeat' first
    | with_reducible assumption | with_reducible apply State.setThr_keeps | split
    | fail_if_no_progress with_reducible apply SlotOut.keeps_mk | intro _ | fail_if_no_progress with_reducible apply Keeps.update
    | dsimp -zeta only

theorem slotVCmp_keeps (p1 : VF) (p2 : Thread) (p3 : Nat × Nat) : (slotVCmp p1 p2 p3).keeps := by
  unfold slotVCmp
  repeat' first
    | with_reducible assumption | with_reducible apply SlotOut.raises_keeps | with_reducible apply pOut_keeps
    | fail_if_no_progress (lift_lets -underBinder; intros) | split | fail_if_no_progress with_reducible apply SlotOut.keeps_mk | intro _

theorem vPred_keeps (p1 : VF) (p2 : Thread) (p3 : Nat × Nat) (p4 : Bool) (p5 : Pred → Pred → Pred) : (vPred p1 p2 p3 p4 p5).keeps := by
  unfold vPred
  repeat' first
    | with_reducible assumption | with_reducible apply SlotOut.raises_keeps | with_reducible apply pOut_keeps
    | fail_if_no_progress (lift_lets -underBinder; intros) | split | fail_if_no_progress with_reducible apply SlotOut.keeps_mk | intro _

theorem slotVPand_keeps (p1 : VF) (p2 : Thread) (p3 : Nat × Nat) : (slotVPand p1 p2 p3).keeps := by
  unfold slotVPand
  repeat' first
    | with_reducible assumption | with_reducible apply vPred_keeps | fail_if_no_progress with_reducible apply SlotOut.keeps_mk | intro _

theorem slotVPor_keeps (p1 : VF) (p2 : Thread) (p3 : Nat × Nat) : (slotVPor p1 p2 p3).keeps := by
  unfold slotVPor
  repeat' first
    | with_reducible assumption | with_reducible apply vPred_keeps | fail_if_no_progress with_reducible apply SlotOut.keeps_mk | intro _

theorem slotVPxor_keeps (p1 : VF) (p2 : Thread) (p3 : Nat × Nat) : (slotVPxor p1 p2 p3).keeps := by
  unfold slotVPxor
  repeat' first
    | with_reducible assumption | with_reducible apply vPred_keeps | fail_if_no_progress with_reducible apply SlotOut.keeps_mk | intro _

theorem slotVPnot_keeps (p1 : VF) (p2 : Thread) (p3 : Nat × Nat) : (slotVPnot p1 p2 p3).keeps := by
  unfold slotVPnot
  repeat' first
    | with_reducible assumption | with_reducible apply vPred_keeps | fail_if_no_progress with_reducible apply SlotOut.keeps_mk | intro _

theorem slotVSel_keeps (p1 : VF) (p2 : Thread) (p3 : Nat × Nat) : (slotVSel p1 p2 p3).keeps := by
  unfold slotVSel
  repeat' first
    | with_reducible assumption | with_reducible apply SlotOut.raises_keeps | with_reducible apply vOut_keeps
    | fail_if_no_progress (lift_lets -underBinder; intros) | split | fail_if_no_progress with_reducible apply SlotOut.keeps_mk | intro _

theorem slotVBcast_keeps (p1 : VF) (p2 : Thread) (p3 : Nat × Nat) : (slotVBcast p1 p2 p3).keeps := by
  unfold slotVBcast
  repeat' first
    | with_reducible assumption | with_reducible apply vMap_keeps | fail_if_no_progress (lift_lets -underBinder; intros)
    | fail_if_no_progress with_reducible apply SlotOut.keeps_mk | intro _

theorem slotVIdx_keeps (p1 : VF) (p2 : Thread) (p3 : Nat × Nat) : (slotVIdx p1 p2 p3).keeps := by
  unfold slotVIdx
  repeat' first
    | with_reducible assumption | with_reducible apply vMap_keeps | fail_if_no_progress (lift_lets -underBinder; intros)
    | fail_if_no_progress with_reducible apply SlotOut.keeps_mk | intro _

theorem slotVGetl_keeps (p1 : VF) (p2 : State) (p3 : Thread) : (slotVGetl p1 p2 p3).keeps := by
  unfold slotVGetl
  repeat' first
    | with_reducible assumption | with_reducible apply SlotOut.raises_keeps | with_reducible apply State.bump_keeps
    | fail_if_no_progress (lift_lets -underBinder; intros) | split | fail_if_no_progress with_reducible apply SlotOut.keeps_mk | intro _
    | fail_if_no_progress with_reducible apply Keeps.update | dsimp -zeta only

theorem slotVSetl_keeps (p1 : VF) (p2 : Thread) (p3 : Nat × Nat) : (slotVSetl p1 p2 p3).keeps := by
  unfold slotVSetl
  repeat' first
    | with_reducible assumption | with_reducible apply vMap_keeps | fail_if_no_progress (lift_lets -underBinder; intros) | split
    | fail_if_no_progress with_reducible apply SlotOut.keeps_mk | intro _

theorem slotVPerm_keeps (p1 : VF) (p2 : Thread) (p3 : Nat × Nat) : (slotVPerm p1 p2 p3).keeps := by
  unfold slotVPerm
  repeat' first
    | with_reducible assumption | with_reducible apply vMap_keeps | fail_if_no_progress (lift_lets -underBinder; intros)
    | fail_if_no_progress with_reducible apply SlotOut.keeps_mk | intro _

theorem slotVMov_keeps (p1 : VF) (p2 : Thread) (p3 : Nat × Nat) : (slotVMov p1 p2 p3).keeps := by
  unfold slotVMov
  repeat' first
    | with_reducible assumption | with_reducible apply vMap_keeps | fail_if_no_progress (lift_lets -underBinder; intros)
    | fail_if_no_progress with_reducible apply SlotOut.keeps_mk | intro _

theorem vReduce_keeps (p1 : VF) (p2 : Thread) (p3 : Nat × Nat) (p4 : VC → Nat → Nat × Nat) (p5 : VC → Nat) (p6 : VC → Nat → Nat → Nat × Nat)
    : (vReduce p1 p2 p3 p4 p5 p6).keeps := by
  unfold vReduce
  repeat' first
    | with_reducible assumption | with_reducible apply SlotOut.raises_keeps | with_reducible apply vOut_keeps
    | fail_if_no_progress (lift_lets -underBinder; intros) | split | fail_if_no_progress with_reducible apply SlotOut.keeps_mk | intro _

theorem slotVRsum_keeps (p1 : VF) (p2 : Thread) (p3 : Nat × Nat) : (slotVRsum p1 p2 p3).keeps := by
  unfold slotVRsum
  repeat' first
    | with_reducible assumption | with_reducible apply vReduce_keeps | fail_if_no_progress with_reducible apply SlotOut.keeps_mk | intro _

theorem slotVRssq_keeps (p1 : VF) (p2 : Thread) (p3 : Nat × Nat) : (slotVRssq p1 p2 p3).keeps := by
  unfold slotVRssq
  repeat' first
    | with_reducible assumption | with_reducible apply vReduce_keeps | split | fail_if_no_progress with_reducible apply SlotOut.keeps_mk
    | intro _

theorem slotVRmax_keeps (p1 : VF) (p2 : Thread) (p3 : Nat × Nat) : (slotVRmax p1 p2 p3).keeps := by
  unfold slotVRmax
  repeat' first
    | with_reducible assumption | with_reducible apply vReduce_keeps | split | fail_if_no_progress with_reducible apply SlotOut.keeps_mk
    | intro _

theorem slotVRmin_keeps (p1 : VF) (p2 : Thread) (p3 : Nat × Nat) : (slotVRmin p1 p2 p3).keeps := by
  unfold slotVRmin
  repeat' first
    | with_reducible assumption | with_reducible apply vReduce_keeps | split | fail_if_no_progress with_reducible apply SlotOut.keeps_mk
    | intro _

theorem vMom_keeps (p1 : VF) (p2 : State) (p3 : Thread) (p4 : Nat × Nat) (p5 : Bool) (p6 : VC → List ((Nat × Nat × Nat) × Nat)) :
    (vMom p1 p2 p3 p4 p5 p6).keeps := by
  unfold vMom
  lift_lets -underBinder
  intro c bad
  split
  · exact SlotOut.raises_keeps _ _ _ _
  · refine SlotOut.keeps_mk (fun u t k => ?_)
    have h := vOut_keeps c p4 [] 0 ((p6 c).foldl (fun a y => a ||| y.2) 0) u t k
    dsimp only
    split
    · exact State.bump_keeps h
    · exact h

theorem slotVMomAdd_keeps (p1 : VF) (p2 : State) (p3 : Thread) (p4 : Nat × Nat) : (slotVMomAdd p1 p2 p3 p4).keeps := by
  unfold slotVMomAdd
  repeat' first
    | with_reducible assumption | with_reducible apply vMom_keeps | fail_if_no_progress (lift_lets -underBinder; intros) | split
    | fail_if_no_progress with_reducible apply SlotOut.keeps_mk | intro _

theorem slotVMomCmb_keeps (p1 : VF) (p2 : State) (p3 : Thread) (p4 : Nat × Nat) : (slotVMomCmb p1 p2 p3 p4).keeps := by
  unfold slotVMomCmb
  repeat' first
    | with_reducible assumption | with_reducible apply vMom_keeps | split | fail_if_no_progress with_reducible apply SlotOut.keeps_mk
    | intro _

theorem slotVMomRed_keeps (p1 : VF) (p2 : State) (p3 : Thread) (p4 : Nat × Nat) : (slotVMomRed p1 p2 p3 p4).keeps := by
  unfold slotVMomRed
  repeat' first
    | with_reducible assumption | with_reducible apply vMom_keeps | fail_if_no_progress (lift_lets -underBinder; intros) | split
    | fail_if_no_progress with_reducible apply SlotOut.keeps_mk | intro _

theorem slotVCvt_keeps (p1 : VF) (p2 : Thread) (p3 : Nat × Nat) : (slotVCvt p1 p2 p3).keeps := by
  unfold slotVCvt
  extract_lets c t up chk
  clear_value chk
  cases chk with
  | some k => exact SlotOut.raises_keeps _ _ _ _
  | none => exact vOut_keeps _ _ _ _ _

theorem slotVQscl_keeps (p1 : VF) (p2 : Thread) (p3 : Nat × Nat) : (slotVQscl p1 p2 p3).keeps := by
  unfold slotVQscl
  repeat' first
    | with_reducible assumption | with_reducible apply SlotOut.raises_keeps | with_reducible apply vOut_keeps
    | fail_if_no_progress (lift_lets -underBinder; intros) | split | fail_if_no_progress with_reducible apply SlotOut.keeps_mk | intro _

theorem slotVCvtq_keeps (p1 : VF) (p2 : Thread) (p3 : Nat × Nat) : (slotVCvtq p1 p2 p3).keeps := by
  unfold slotVCvtq
  repeat' first
    | with_reducible assumption | with_reducible apply SlotOut.raises_keeps | with_reducible apply State.setThr_keeps
    | fail_if_no_progress (lift_lets -underBinder; intros) | split | fail_if_no_progress with_reducible apply SlotOut.keeps_mk | intro _
    | fail_if_no_progress with_reducible apply Keeps.update | dsimp -zeta only

theorem slotVCvtf_keeps (p1 : VF) (p2 : Thread) (p3 : Nat × Nat) : (slotVCvtf p1 p2 p3).keeps := by
  unfold slotVCvtf
  repeat' first
    | with_reducible assumption | with_reducible apply vMap_keeps | fail_if_no_progress (lift_lets -underBinder; intros)
    | fail_if_no_progress with_reducible apply SlotOut.keeps_mk | intro _

theorem vPack_keeps (p1 : VF) (p2 : Thread) (p3 : Nat × Nat) (p4 : Nat) (p5 : VC → Vec) : (vPack p1 p2 p3 p4 p5).keeps := by
  unfold vPack
  repeat' first
    | with_reducible assumption | with_reducible apply SlotOut.raises_keeps | with_reducible apply vOut_keeps
    | fail_if_no_progress (lift_lets -underBinder; intros) | split | fail_if_no_progress with_reducible apply SlotOut.keeps_mk | intro _

theorem slotVPack4_keeps (p1 : VF) (p2 : Thread) (p3 : Nat × Nat) : (slotVPack4 p1 p2 p3).keeps := by
  unfold slotVPack4
  repeat' first
    | with_reducible assumption | with_reducible apply vPack_keeps | fail_if_no_progress (lift_lets -underBinder; intros) | split
    | fail_if_no_progress with_reducible apply SlotOut.keeps_mk | intro _

theorem slotVUnpk4_keeps (p1 : VF) (p2 : Thread) (p3 : Nat × Nat) : (slotVUnpk4 p1 p2 p3).keeps := by
  unfold slotVUnpk4
  repeat' first
    | with_reducible assumption | with_reducible apply vPack_keeps | split | fail_if_no_progress with_reducible apply SlotOut.keeps_mk
    | intro _

theorem slotVPack6_keeps (p1 : VF) (p2 : Thread) (p3 : Nat × Nat) : (slotVPack6 p1 p2 p3).keeps := by
  unfold slotVPack6
  repeat' first
    | with_reducible assumption | with_reducible apply vPack_keeps | split | fail_if_no_progress with_reducible apply SlotOut.keeps_mk
    | intro _

theorem slotVUnpk6_keeps (p1 : VF) (p2 : Thread) (p3 : Nat × Nat) : (slotVUnpk6 p1 p2 p3).keeps := by
  unfold slotVUnpk6
  repeat' first
    | with_reducible assumption | with_reducible apply vPack_keeps | split | fail_if_no_progress with_reducible apply SlotOut.keeps_mk
    | intro _

theorem slotMNop_keeps  : (slotMNop ).keeps := by
  unfold slotMNop
  repeat' first
    | with_reducible assumption | fail_if_no_progress with_reducible apply SlotOut.keeps_mk | intro _

theorem mField_keeps (p1 : MSetF) (p2 : Thread) (p3 : Nat) (p4 : Nat → Nat → Nat) : (mField p1 p2 p3 p4).keeps := by
  unfold mField
  repeat' first
    | with_reducible assumption | with_reducible apply SlotOut.raises_keeps | fail_if_no_progress (lift_lets -underBinder; intros) | split
    | fail_if_no_progress with_reducible apply SlotOut.keeps_mk | intro _

theorem slotMTset_keeps (p1 : MSetF) (p2 : Thread) : (slotMTset p1 p2).keeps := by
  unfold slotMTset
  repeat' first
    | with_reducible assumption | with_reducible apply mField_keeps | fail_if_no_progress with_reducible apply SlotOut.keeps_mk | intro _

theorem slotMTadd_keeps (p1 : MSetF) (p2 : Thread) : (slotMTadd p1 p2).keeps := by
  unfold slotMTadd
  repeat' first
    | with_reducible assumption | with_reducible apply mField_keeps | fail_if_no_progress with_reducible apply SlotOut.keeps_mk | intro _

theorem slotMTcpy_keeps (p1 : MCpyF) (p2 : Thread) : (slotMTcpy p1 p2).keeps := by
  unfold slotMTcpy
  repeat' first
    | with_reducible assumption | with_reducible apply SlotOut.raises_keeps | split
    | fail_if_no_progress with_reducible apply SlotOut.keeps_mk | intro _

theorem slotMTile_keeps (p1 : MTileF) (p2 : State) (p3 p4 : Nat) : (slotMTile p1 p2 p3 p4).keeps := by
  unfold slotMTile
  repeat' first
    | with_reducible assumption | with_reducible apply SlotOut.raises_keeps | with_reducible apply State.setArr_keeps
    | fail_if_no_progress (lift_lets -underBinder; intros) | split | fail_if_no_progress with_reducible apply SlotOut.keeps_mk | intro _
    | fail_if_no_progress with_reducible apply Keeps.update | dsimp -zeta only

theorem cLoad_keeps (p1 : State) (p2 p3 : Nat) (p4 : W64) (p5 p6 : Nat) (p7 : List RegRef) (p8 : List Byte → RegWrite) : (cLoad p1 p2 p3 p4
    p5 p6 p7 p8).keeps := by
  unfold cLoad
  repeat' first
    | with_reducible assumption | with_reducible apply SlotOut.raises_keeps | with_reducible apply State.readMem_keeps
    | with_reducible apply State.countMem_keeps | fail_if_no_progress (lift_lets -underBinder; intros) | split
    | fail_if_no_progress with_reducible apply SlotOut.keeps_mk | intro _ | dsimp -zeta only

theorem cStore_keeps (p1 p2 : Nat) (p3 : W64) (p4 : Nat) (p5 : List RegRef) (p6 : List Byte) : (cStore p1 p2 p3 p4 p5 p6).keeps := by
  unfold cStore
  repeat' first
    | with_reducible assumption | with_reducible apply SlotOut.raises_keeps | with_reducible apply State.writeMem_keeps
    | with_reducible apply State.countMem_keeps | fail_if_no_progress (lift_lets -underBinder; intros) | split
    | fail_if_no_progress with_reducible apply SlotOut.keeps_mk | intro _ | dsimp -zeta only

theorem cLd_keeps (p1 : CA) (p2 : State) (p3 p4 p5 : Nat) (p6 : Bool) : (cLd p1 p2 p3 p4 p5 p6).keeps := by
  unfold cLd
  repeat' first
    | with_reducible assumption | with_reducible apply cLoad_keeps | split | fail_if_no_progress with_reducible apply SlotOut.keeps_mk
    | intro _

theorem cSt_keeps (p1 : CA) (p2 : State) (p3 p4 p5 : Nat) : (cSt p1 p2 p3 p4 p5).keeps := by
  unfold cSt
  repeat' first
    | with_reducible assumption | with_reducible apply cStore_keeps | fail_if_no_progress (lift_lets -underBinder; intros)
    | fail_if_no_progress with_reducible apply SlotOut.keeps_mk | intro _

theorem slotCNop_keeps  : (slotCNop ).keeps := by
  unfold slotCNop
  repeat' first
    | with_reducible assumption | fail_if_no_progress with_reducible apply SlotOut.keeps_mk | intro _

theorem slotCLdb_keeps (p1 : CA) (p2 : State) (p3 p4 : Nat) : (slotCLdb p1 p2 p3 p4).keeps := by
  unfold slotCLdb
  repeat' first
    | with_reducible assumption | with_reducible apply cLd_keeps | fail_if_no_progress with_reducible apply SlotOut.keeps_mk | intro _

theorem slotCLdh_keeps (p1 : CA) (p2 : State) (p3 p4 : Nat) : (slotCLdh p1 p2 p3 p4).keeps := by
  unfold slotCLdh
  repeat' first
    | with_reducible assumption | with_reducible apply cLd_keeps | fail_if_no_progress with_reducible apply SlotOut.keeps_mk | intro _

theorem slotCLdw_keeps (p1 : CA) (p2 : State) (p3 p4 : Nat) : (slotCLdw p1 p2 p3 p4).keeps := by
  unfold slotCLdw
  repeat' first
    | with_reducible assumption | with_reducible apply cLd_keeps | fail_if_no_progress with_reducible apply SlotOut.keeps_mk | intro _

theorem slotCLdd_keeps (p1 : CA) (p2 : State) (p3 p4 : Nat) : (slotCLdd p1 p2 p3 p4).keeps := by
  unfold slotCLdd
  repeat' first
    | with_reducible assumption | with_reducible apply cLd_keeps | fail_if_no_progress with_reducible apply SlotOut.keeps_mk | intro _

theorem slotCLdbs_keeps (p1 : CA) (p2 : State) (p3 p4 : Nat) : (slotCLdbs p1 p2 p3 p4).keeps := by
  unfold slotCLdbs
  repeat' first
    | with_reducible assumption | with_reducible apply cLd_keeps | fail_if_no_progress with_reducible apply SlotOut.keeps_mk | intro _

theorem slotCLdhs_keeps (p1 : CA) (p2 : State) (p3 p4 : Nat) : (slotCLdhs p1 p2 p3 p4).keeps := by
  unfold slotCLdhs
  repeat' first
    | with_reducible assumption | with_reducible apply cLd_keeps | fail_if_no_progress with_reducible apply SlotOut.keeps_mk | intro _

theorem slotCLdws_keeps (p1 : CA) (p2 : State) (p3 p4 : Nat) : (slotCLdws p1 p2 p3 p4).keeps := by
  unfold slotCLdws
  repeat' first
    | with_reducible assumption | with_reducible apply cLd_keeps | fail_if_no_progress with_reducible apply SlotOut.keeps_mk | intro _

theorem slotCStb_keeps (p1 : CA) (p2 : State) (p3 p4 : Nat) : (slotCStb p1 p2 p3 p4).keeps := by
  unfold slotCStb
  repeat' first
    | with_reducible assumption | with_reducible apply cSt_keeps | fail_if_no_progress with_reducible apply SlotOut.keeps_mk | intro _

theorem slotCSth_keeps (p1 : CA) (p2 : State) (p3 p4 : Nat) : (slotCSth p1 p2 p3 p4).keeps := by
  unfold slotCSth
  repeat' first
    | with_reducible assumption | with_reducible apply cSt_keeps | fail_if_no_progress with_reducible apply SlotOut.keeps_mk | intro _

theorem slotCStw_keeps (p1 : CA) (p2 : State) (p3 p4 : Nat) : (slotCStw p1 p2 p3 p4).keeps := by
  unfold slotCStw
  repeat' first
    | with_reducible assumption | with_reducible apply cSt_keeps | fail_if_no_progress with_reducible apply SlotOut.keeps_mk | intro _

theorem slotCStd_keeps (p1 : CA) (p2 : State) (p3 p4 : Nat) : (slotCStd p1 p2 p3 p4).keeps := by
  unfold slotCStd
  repeat' first
    | with_reducible assumption | with_reducible apply cSt_keeps | fail_if_no_progress with_reducible apply SlotOut.keeps_mk | intro _

theorem cvLoad_keeps (p1 : CV) (p2 : State) (p3 p4 p5 p6 : Nat) (p7 : List Byte → RegWrite) : (cvLoad p1 p2 p3 p4 p5 p6 p7).keeps := by
  unfold cvLoad
  repeat' first
    | with_reducible assumption | with_reducible apply SlotOut.raises_keeps | with_reducible apply cLoad_keeps | split
    | fail_if_no_progress with_reducible apply SlotOut.keeps_mk | intro _

theorem cvStore_keeps (p1 : CV) (p2 : State) (p3 p4 p5 : Nat) (p6 : RegRef) (p7 : List Byte) : (cvStore p1 p2 p3 p4 p5 p6 p7).keeps := by
  unfold cvStore
  repeat' first
    | with_reducible assumption | with_reducible apply SlotOut.raises_keeps | with_reducible apply cStore_keeps | split
    | fail_if_no_progress with_reducible apply SlotOut.keeps_mk | intro _

theorem slotCVld_keeps (p1 : CV) (p2 : State) (p3 p4 : Nat) : (slotCVld p1 p2 p3 p4).keeps := by
  unfold slotCVld
  repeat' first
    | with_reducible assumption | with_reducible apply cvLoad_keeps | fail_if_no_progress with_reducible apply SlotOut.keeps_mk | intro _

theorem slotCPld_keeps (p1 : CV) (p2 : State) (p3 p4 : Nat) : (slotCPld p1 p2 p3 p4).keeps := by
  unfold slotCPld
  repeat' first
    | with_reducible assumption | with_reducible apply cvLoad_keeps | fail_if_no_progress with_reducible apply SlotOut.keeps_mk | intro _

theorem slotCTld_keeps (p1 : CV) (p2 : State) (p3 p4 : Nat) : (slotCTld p1 p2 p3 p4).keeps := by
  unfold slotCTld
  repeat' first
    | with_reducible assumption | with_reducible apply cvLoad_keeps | fail_if_no_progress with_reducible apply SlotOut.keeps_mk | intro _

theorem slotCPst_keeps (p1 : CV) (p2 : State) (p3 p4 : Nat) : (slotCPst p1 p2 p3 p4).keeps := by
  unfold slotCPst
  repeat' first
    | with_reducible assumption | with_reducible apply cvStore_keeps | fail_if_no_progress with_reducible apply SlotOut.keeps_mk | intro _

theorem slotCTst_keeps (p1 : CV) (p2 : State) (p3 p4 : Nat) : (slotCTst p1 p2 p3 p4).keeps := by
  unfold slotCTst
  repeat' first
    | with_reducible assumption | with_reducible apply cvStore_keeps | fail_if_no_progress with_reducible apply SlotOut.keeps_mk | intro _

theorem slotCVst_keeps (p1 : CV) (p2 : State) (p3 p4 : Nat) : (slotCVst p1 p2 p3 p4).keeps := by
  unfold slotCVst
  repeat' first
    | with_reducible assumption | with_reducible apply SlotOut.raises_keeps | with_reducible apply cStore_keeps
    | with_reducible apply State.writeMem_keeps | with_reducible apply State.countMem_keeps | with_reducible apply Keeps.foldl
    | fail_if_no_progress (lift_lets -underBinder; intros) | split | fail_if_no_progress with_reducible apply SlotOut.keeps_mk | intro _
    | dsimp -zeta only

theorem slotCVgth_keeps (p1 : CV) (p2 : State) (p3 p4 : Nat) : (slotCVgth p1 p2 p3 p4).keeps := by
  unfold slotCVgth
  repeat' first
    | with_reducible assumption | with_reducible apply SlotOut.raises_keeps | with_reducible apply State.readMem_keeps
    | with_reducible apply State.countMem_keeps | with_reducible apply Keeps.foldl | fail_if_no_progress (lift_lets -underBinder; intros)
    | split | fail_if_no_progress with_reducible apply SlotOut.keeps_mk | intro _ | fail_if_no_progress with_reducible apply Keeps.update
    | dsimp -zeta only

theorem slotCVsct_keeps (p1 : CV) (p2 : State) (p3 p4 : Nat) : (slotCVsct p1 p2 p3 p4).keeps := by
  unfold slotCVsct
  repeat' first
    | with_reducible assumption | with_reducible apply SlotOut.raises_keeps | with_reducible apply State.writeMem_keeps
    | with_reducible apply State.countMem_keeps | with_reducible apply Keeps.foldl | fail_if_no_progress (lift_lets -underBinder; intros)
    | split | fail_if_no_progress with_reducible apply SlotOut.keeps_mk | intro _ | fail_if_no_progress with_reducible apply Keeps.update
    | dsimp -zeta only

theorem slotCGld_keeps (p1 : CA) (p2 : State) (p3 p4 : Nat) : (slotCGld p1 p2 p3 p4).keeps := by
  unfold slotCGld
  repeat' first
    | with_reducible assumption | with_reducible apply SlotOut.raises_keeps | with_reducible apply State.readMem_keeps
    | with_reducible apply State.countMem_keeps | fail_if_no_progress (lift_lets -underBinder; intros) | split
    | fail_if_no_progress with_reducible apply SlotOut.keeps_mk | intro _ | fail_if_no_progress with_reducible apply Keeps.update
    | dsimp -zeta only

theorem slotCGst_keeps (p1 : CA) (p2 : State) (p3 p4 : Nat) : (slotCGst p1 p2 p3 p4).keeps := by
  unfold slotCGst
  repeat' first
    | with_reducible assumption | with_reducible apply SlotOut.raises_keeps | with_reducible apply State.globalWrite_keeps
    | fail_if_no_progress (lift_lets -underBinder; intros) | split | fail_if_no_progress with_reducible apply SlotOut.keeps_mk | intro _
    | fail_if_no_progress with_reducible apply Keeps.update | dsimp -zeta only

theorem cAtomic_keeps (p1 : CX) (p2 : State) (p3 p4 : Nat) (p5 : Bool) (p6 : List RegRef) (p7 : W64 → Option W64) :
    (cAtomic p1 p2 p3 p4 p5 p6 p7).keeps := by
  unfold cAtomic
  extract_lets x a d run
  have hr : ∀ pa w, (run pa w).keeps := by
    intro pa w u t k
    have h1 : Keeps u (((t.readMem pa 8).1).countMem (t.reqThr p3 p4) pa 8 false) := State.countMem_keeps (State.readMem_keeps k _ _) _ _ _ _
    dsimp only [run]
    generalize ((t.readMem pa 8).1).countMem (t.reqThr p3 p4) pa 8 false = s1 at h1 ⊢
    split
    · exact State.recordLost_keeps h1 _ _
    · cases p7 _ with
      | some v =>
        have h2 := State.globalWrite_keeps h1 p3 p4 pa (leBytes 8 v.toNat) w
        dsimp only
        split
        · exact State.claim_keeps h2 _ _ _ _
        · exact h2
      | none =>
        dsimp only
        split
        · exact State.claim_keeps h1 _ _ _ _
        · exact h1
  clear_value run
  repeat' split
  all_goals first
    | exact hr _ _
    | exact SlotOut.raises_keeps _ _ _ _

theorem slotCFadd_keeps (p1 : CX) (p2 : State) (p3 p4 : Nat) : (slotCFadd p1 p2 p3 p4).keeps := by
  unfold slotCFadd
  repeat' first
    | with_reducible assumption | with_reducible apply cAtomic_keeps | fail_if_no_progress (lift_lets -underBinder; intros)
    | fail_if_no_progress with_reducible apply SlotOut.keeps_mk | intro _

theorem slotCSwap_keeps (p1 : CX) (p2 : State) (p3 p4 : Nat) : (slotCSwap p1 p2 p3 p4).keeps := by
  unfold slotCSwap
  repeat' first
    | with_reducible assumption | with_reducible apply cAtomic_keeps | fail_if_no_progress (lift_lets -underBinder; intros)
    | fail_if_no_progress with_reducible apply SlotOut.keeps_mk | intro _

theorem slotCCas_keeps (p1 : CX) (p2 : State) (p3 p4 : Nat) : (slotCCas p1 p2 p3 p4).keeps := by
  unfold slotCCas
  repeat' first
    | with_reducible assumption | with_reducible apply cAtomic_keeps | fail_if_no_progress (lift_lets -underBinder; intros) | split
    | fail_if_no_progress with_reducible apply SlotOut.keeps_mk | intro _

theorem slotCDma_keeps (p1 : CD) (p2 : State) (p3 p4 : Nat) : (slotCDma p1 p2 p3 p4).keeps := by
  unfold slotCDma
  repeat' first
    | with_reducible assumption | with_reducible apply SlotOut.raises_keeps | with_reducible apply State.setDmaq_keeps
    | with_reducible apply State.readMem_keeps | fail_if_no_progress (lift_lets -underBinder; intros) | split
    | fail_if_no_progress with_reducible apply SlotOut.keeps_mk | intro _ | dsimp -zeta only

theorem slotCLpost_keeps (p1 : CD) (p2 : State) (p3 p4 : Nat) : (slotCLpost p1 p2 p3 p4).keeps := by
  unfold slotCLpost
  repeat' first
    | with_reducible assumption | with_reducible apply SlotOut.raises_keeps | with_reducible apply State.setDmaq_keeps
    | fail_if_no_progress (lift_lets -underBinder; intros) | split | fail_if_no_progress with_reducible apply SlotOut.keeps_mk | intro _
    | fail_if_no_progress with_reducible apply Keeps.update | dsimp -zeta only

theorem slotCFence_keeps  : (slotCFence ).keeps := by
  unfold slotCFence
  repeat' first
    | with_reducible assumption | fail_if_no_progress with_reducible apply SlotOut.keeps_mk | intro _

theorem slotCLset_keeps (p1 : CL) (p2 : State) (p3 p4 : Nat) : (slotCLset p1 p2 p3 p4).keeps := by
  unfold slotCLset
  repeat' first
    | with_reducible assumption | with_reducible apply SlotOut.raises_keeps | with_reducible apply State.latchSet_keeps
    | fail_if_no_progress (lift_lets -underBinder; intros) | split | fail_if_no_progress with_reducible apply SlotOut.keeps_mk | intro _
    | dsimp -zeta only

theorem slotCLadd_keeps (p1 : CL) (p2 : State) (p3 p4 : Nat) : (slotCLadd p1 p2 p3 p4).keeps := by
  unfold slotCLadd
  repeat' first
    | with_reducible assumption | with_reducible apply SlotOut.raises_keeps | with_reducible apply State.latchAdd_keeps
    | fail_if_no_progress (lift_lets -underBinder; intros) | split | fail_if_no_progress with_reducible apply SlotOut.keeps_mk | intro _
    | dsimp -zeta only

theorem slotCLrd_keeps (p1 : CL) (p2 : State) (p3 : Nat) : (slotCLrd p1 p2 p3).keeps := by
  unfold slotCLrd
  repeat' first
    | with_reducible assumption | with_reducible apply SlotOut.raises_keeps | fail_if_no_progress (lift_lets -underBinder; intros) | split
    | fail_if_no_progress with_reducible apply SlotOut.keeps_mk | intro _

theorem slotCLwait_keeps (p1 : CL) (p2 : State) (p3 p4 : Nat) : (slotCLwait p1 p2 p3 p4).keeps := by
  unfold slotCLwait
  repeat' first
    | with_reducible assumption | with_reducible apply SlotOut.raises_keeps | with_reducible apply State.setThr_keeps
    | fail_if_no_progress (lift_lets -underBinder; intros) | split | fail_if_no_progress with_reducible apply SlotOut.keeps_mk | intro _
    | fail_if_no_progress with_reducible apply Keeps.update | dsimp -zeta only

theorem slotCLarr_keeps (p1 : CL) (p2 : State) (p3 p4 : Nat) : (slotCLarr p1 p2 p3 p4).keeps := by
  unfold slotCLarr
  repeat' first
    | with_reducible assumption | with_reducible apply SlotOut.raises_keeps | with_reducible apply State.sendArrival_keeps
    | fail_if_no_progress (lift_lets -underBinder; intros) | split | fail_if_no_progress with_reducible apply SlotOut.keeps_mk | intro _
    | fail_if_no_progress with_reducible apply Keeps.update | dsimp -zeta only

theorem sWrite_keeps (p1 : SF) (p2 : List RegRef) (p3 : W64) : (sWrite p1 p2 p3).keeps := by
  unfold sWrite
  repeat' first
    | with_reducible assumption | with_reducible apply SlotOut.raises_keeps | split
    | fail_if_no_progress with_reducible apply SlotOut.keeps_mk | intro _

theorem sOne_keeps (p1 : SF) (p2 : Thread) (p3 : W64 → W64) : (sOne p1 p2 p3).keeps := by
  unfold sOne
  repeat' first
    | with_reducible assumption | with_reducible apply sWrite_keeps | fail_if_no_progress with_reducible apply SlotOut.keeps_mk | intro _

theorem sTwo_keeps (p1 : SF) (p2 : Thread) (p3 : W64 → W64 → W64) : (sTwo p1 p2 p3).keeps := by
  unfold sTwo
  repeat' first
    | with_reducible assumption | with_reducible apply sWrite_keeps | fail_if_no_progress with_reducible apply SlotOut.keeps_mk | intro _

theorem sBranch_keeps (p1 : SF) (p2 : Thread) (p3 : List RegRef) (p4 : Bool) (p5 : List RegWrite) : (sBranch p1 p2 p3 p4 p5).keeps := by
  unfold sBranch
  repeat' first
    | with_reducible assumption | with_reducible apply SlotOut.raises_keeps | fail_if_no_progress (lift_lets -underBinder; intros) | split
    | fail_if_no_progress with_reducible apply SlotOut.keeps_mk | intro _

theorem sCond_keeps (p1 : SF) (p2 : Thread) (p3 : W64 → W64 → Bool) : (sCond p1 p2 p3).keeps := by
  unfold sCond
  repeat' first
    | with_reducible assumption | with_reducible apply sBranch_keeps | fail_if_no_progress with_reducible apply SlotOut.keeps_mk | intro _

theorem slotSNop_keeps (p1 : SF) : (slotSNop p1).keeps := by
  unfold slotSNop
  repeat' first
    | with_reducible assumption | with_reducible apply SlotOut.raises_keeps | split
    | fail_if_no_progress with_reducible apply SlotOut.keeps_mk | intro _

theorem slotSAdd_keeps (p1 : SF) (p2 : Thread) : (slotSAdd p1 p2).keeps := by
  unfold slotSAdd
  repeat' first
    | with_reducible assumption | with_reducible apply sTwo_keeps | fail_if_no_progress with_reducible apply SlotOut.keeps_mk | intro _

theorem slotSSub_keeps (p1 : SF) (p2 : Thread) : (slotSSub p1 p2).keeps := by
  unfold slotSSub
  repeat' first
    | with_reducible assumption | with_reducible apply sTwo_keeps | fail_if_no_progress with_reducible apply SlotOut.keeps_mk | intro _

theorem slotSAddi_keeps (p1 : SF) (p2 : Thread) : (slotSAddi p1 p2).keeps := by
  unfold slotSAddi
  repeat' first
    | with_reducible assumption | with_reducible apply sOne_keeps | fail_if_no_progress with_reducible apply SlotOut.keeps_mk | intro _

theorem slotSMul_keeps (p1 : SF) (p2 : Thread) : (slotSMul p1 p2).keeps := by
  unfold slotSMul
  repeat' first
    | with_reducible assumption | with_reducible apply sTwo_keeps | fail_if_no_progress with_reducible apply SlotOut.keeps_mk | intro _

theorem slotSMulhu_keeps (p1 : SF) (p2 : Thread) : (slotSMulhu p1 p2).keeps := by
  unfold slotSMulhu
  repeat' first
    | with_reducible assumption | with_reducible apply sTwo_keeps | fail_if_no_progress with_reducible apply SlotOut.keeps_mk | intro _

theorem slotSMulhs_keeps (p1 : SF) (p2 : Thread) : (slotSMulhs p1 p2).keeps := by
  unfold slotSMulhs
  repeat' first
    | with_reducible assumption | with_reducible apply sTwo_keeps | fail_if_no_progress with_reducible apply SlotOut.keeps_mk | intro _

theorem slotSAnd_keeps (p1 : SF) (p2 : Thread) : (slotSAnd p1 p2).keeps := by
  unfold slotSAnd
  repeat' first
    | with_reducible assumption | with_reducible apply sTwo_keeps | fail_if_no_progress with_reducible apply SlotOut.keeps_mk | intro _

theorem slotSOr_keeps (p1 : SF) (p2 : Thread) : (slotSOr p1 p2).keeps := by
  unfold slotSOr
  repeat' first
    | with_reducible assumption | with_reducible apply sTwo_keeps | fail_if_no_progress with_reducible apply SlotOut.keeps_mk | intro _

theorem slotSXor_keeps (p1 : SF) (p2 : Thread) : (slotSXor p1 p2).keeps := by
  unfold slotSXor
  repeat' first
    | with_reducible assumption | with_reducible apply sTwo_keeps | fail_if_no_progress with_reducible apply SlotOut.keeps_mk | intro _

theorem slotSAndi_keeps (p1 : SF) (p2 : Thread) : (slotSAndi p1 p2).keeps := by
  unfold slotSAndi
  repeat' first
    | with_reducible assumption | with_reducible apply sOne_keeps | fail_if_no_progress with_reducible apply SlotOut.keeps_mk | intro _

theorem slotSShl_keeps (p1 : SF) (p2 : Thread) : (slotSShl p1 p2).keeps := by
  unfold slotSShl
  repeat' first
    | with_reducible assumption | with_reducible apply sTwo_keeps | fail_if_no_progress with_reducible apply SlotOut.keeps_mk | intro _

theorem slotSShr_keeps (p1 : SF) (p2 : Thread) : (slotSShr p1 p2).keeps := by
  unfold slotSShr
  repeat' first
    | with_reducible assumption | with_reducible apply sTwo_keeps | fail_if_no_progress with_reducible apply SlotOut.keeps_mk | intro _

theorem slotSSar_keeps (p1 : SF) (p2 : Thread) : (slotSSar p1 p2).keeps := by
  unfold slotSSar
  repeat' first
    | with_reducible assumption | with_reducible apply sTwo_keeps | fail_if_no_progress with_reducible apply SlotOut.keeps_mk | intro _

theorem slotSShli_keeps (p1 : SF) (p2 : Thread) : (slotSShli p1 p2).keeps := by
  unfold slotSShli
  repeat' first
    | with_reducible assumption | with_reducible apply sOne_keeps | fail_if_no_progress with_reducible apply SlotOut.keeps_mk | intro _

theorem slotSShri_keeps (p1 : SF) (p2 : Thread) : (slotSShri p1 p2).keeps := by
  unfold slotSShri
  repeat' first
    | with_reducible assumption | with_reducible apply sOne_keeps | fail_if_no_progress with_reducible apply SlotOut.keeps_mk | intro _

theorem slotSSari_keeps (p1 : SF) (p2 : Thread) : (slotSSari p1 p2).keeps := by
  unfold slotSSari
  repeat' first
    | with_reducible assumption | with_reducible apply sOne_keeps | fail_if_no_progress with_reducible apply SlotOut.keeps_mk | intro _

theorem slotSSlt_keeps (p1 : SF) (p2 : Thread) : (slotSSlt p1 p2).keeps := by
  unfold slotSSlt
  repeat' first
    | with_reducible assumption | with_reducible apply sTwo_keeps | fail_if_no_progress with_reducible apply SlotOut.keeps_mk | intro _

theorem slotSSltu_keeps (p1 : SF) (p2 : Thread) : (slotSSltu p1 p2).keeps := by
  unfold slotSSltu
  repeat' first
    | with_reducible assumption | with_reducible apply sTwo_keeps | fail_if_no_progress with_reducible apply SlotOut.keeps_mk | intro _

theorem slotSSeq_keeps (p1 : SF) (p2 : Thread) : (slotSSeq p1 p2).keeps := by
  unfold slotSSeq
  repeat' first
    | with_reducible assumption | with_reducible apply sTwo_keeps | fail_if_no_progress with_reducible apply SlotOut.keeps_mk | intro _

theorem slotSMin_keeps (p1 : SF) (p2 : Thread) : (slotSMin p1 p2).keeps := by
  unfold slotSMin
  repeat' first
    | with_reducible assumption | with_reducible apply sTwo_keeps | split | fail_if_no_progress with_reducible apply SlotOut.keeps_mk
    | intro _

theorem slotSMax_keeps (p1 : SF) (p2 : Thread) : (slotSMax p1 p2).keeps := by
  unfold slotSMax
  repeat' first
    | with_reducible assumption | with_reducible apply sTwo_keeps | split | fail_if_no_progress with_reducible apply SlotOut.keeps_mk
    | intro _

theorem slotSMinu_keeps (p1 : SF) (p2 : Thread) : (slotSMinu p1 p2).keeps := by
  unfold slotSMinu
  repeat' first
    | with_reducible assumption | with_reducible apply sTwo_keeps | split | fail_if_no_progress with_reducible apply SlotOut.keeps_mk
    | intro _

theorem slotSMaxu_keeps (p1 : SF) (p2 : Thread) : (slotSMaxu p1 p2).keeps := by
  unfold slotSMaxu
  repeat' first
    | with_reducible assumption | with_reducible apply sTwo_keeps | split | fail_if_no_progress with_reducible apply SlotOut.keeps_mk
    | intro _

theorem slotSLi_keeps (p1 : SF) : (slotSLi p1).keeps := by
  unfold slotSLi
  repeat' first
    | with_reducible assumption | with_reducible apply sWrite_keeps | fail_if_no_progress with_reducible apply SlotOut.keeps_mk | intro _

theorem slotSLui_keeps (p1 : SF) (p2 : Thread) : (slotSLui p1 p2).keeps := by
  unfold slotSLui
  repeat' first
    | with_reducible assumption | with_reducible apply sOne_keeps | fail_if_no_progress with_reducible apply SlotOut.keeps_mk | intro _

theorem slotSPopc_keeps (p1 : SF) (p2 : Thread) : (slotSPopc p1 p2).keeps := by
  unfold slotSPopc
  repeat' first
    | with_reducible assumption | with_reducible apply sOne_keeps | fail_if_no_progress with_reducible apply SlotOut.keeps_mk | intro _

theorem slotSClz_keeps (p1 : SF) (p2 : Thread) : (slotSClz p1 p2).keeps := by
  unfold slotSClz
  repeat' first
    | with_reducible assumption | with_reducible apply sOne_keeps | split | fail_if_no_progress with_reducible apply SlotOut.keeps_mk
    | intro _

theorem slotSBfx_keeps (p1 : SF) (p2 : Thread) : (slotSBfx p1 p2).keeps := by
  unfold slotSBfx
  repeat' first
    | with_reducible assumption | with_reducible apply sOne_keeps | fail_if_no_progress with_reducible apply SlotOut.keeps_mk | intro _

theorem slotSB_keeps (p1 : SF) (p2 : Thread) : (slotSB p1 p2).keeps := by
  unfold slotSB
  repeat' first
    | with_reducible assumption | with_reducible apply sBranch_keeps | fail_if_no_progress with_reducible apply SlotOut.keeps_mk | intro _

theorem slotSBeq_keeps (p1 : SF) (p2 : Thread) : (slotSBeq p1 p2).keeps := by
  unfold slotSBeq
  repeat' first
    | with_reducible assumption | with_reducible apply sCond_keeps | fail_if_no_progress with_reducible apply SlotOut.keeps_mk | intro _

theorem slotSBne_keeps (p1 : SF) (p2 : Thread) : (slotSBne p1 p2).keeps := by
  unfold slotSBne
  repeat' first
    | with_reducible assumption | with_reducible apply sCond_keeps | fail_if_no_progress with_reducible apply SlotOut.keeps_mk | intro _

theorem slotSBlt_keeps (p1 : SF) (p2 : Thread) : (slotSBlt p1 p2).keeps := by
  unfold slotSBlt
  repeat' first
    | with_reducible assumption | with_reducible apply sCond_keeps | fail_if_no_progress with_reducible apply SlotOut.keeps_mk | intro _

theorem slotSBge_keeps (p1 : SF) (p2 : Thread) : (slotSBge p1 p2).keeps := by
  unfold slotSBge
  repeat' first
    | with_reducible assumption | with_reducible apply sCond_keeps | fail_if_no_progress with_reducible apply SlotOut.keeps_mk | intro _

theorem slotSBltu_keeps (p1 : SF) (p2 : Thread) : (slotSBltu p1 p2).keeps := by
  unfold slotSBltu
  repeat' first
    | with_reducible assumption | with_reducible apply sCond_keeps | fail_if_no_progress with_reducible apply SlotOut.keeps_mk | intro _

theorem slotSBgeu_keeps (p1 : SF) (p2 : Thread) : (slotSBgeu p1 p2).keeps := by
  unfold slotSBgeu
  repeat' first
    | with_reducible assumption | with_reducible apply sCond_keeps | fail_if_no_progress with_reducible apply SlotOut.keeps_mk | intro _

theorem slotSCall_keeps (p1 : SF) (p2 : Thread) : (slotSCall p1 p2).keeps := by
  unfold slotSCall
  repeat' first
    | with_reducible assumption | with_reducible apply sBranch_keeps | fail_if_no_progress with_reducible apply SlotOut.keeps_mk | intro _

theorem slotSJr_keeps (p1 : SF) (p2 : Thread) : (slotSJr p1 p2).keeps := by
  unfold slotSJr
  repeat' first
    | with_reducible assumption | with_reducible apply SlotOut.raises_keeps | fail_if_no_progress (lift_lets -underBinder; intros) | split
    | fail_if_no_progress with_reducible apply SlotOut.keeps_mk | intro _

theorem slotSCrd_keeps (p1 : SF) (p2 : State) (p3 p4 : Nat) : (slotSCrd p1 p2 p3 p4).keeps := by
  unfold slotSCrd
  repeat' first
    | with_reducible assumption | with_reducible apply SlotOut.raises_keeps | with_reducible apply sWrite_keeps
    | with_reducible apply State.bump_keeps | fail_if_no_progress (lift_lets -underBinder; intros) | split
    | fail_if_no_progress with_reducible apply SlotOut.keeps_mk | intro _ | fail_if_no_progress with_reducible apply Keeps.update
    | dsimp -zeta only

theorem slotSCwr_keeps (p1 : SF) (p2 : Thread) (p3 p4 : Nat) : (slotSCwr p1 p2 p3 p4).keeps := by
  unfold slotSCwr
  repeat' first
    | with_reducible assumption | with_reducible apply SlotOut.raises_keeps | with_reducible apply State.setThr_keeps
    | fail_if_no_progress (lift_lets -underBinder; intros) | split | fail_if_no_progress with_reducible apply SlotOut.keeps_mk | intro _
    | fail_if_no_progress with_reducible apply Keeps.update | dsimp -zeta only

theorem slotSPcnt_keeps (p1 : SF) (p2 : Thread) : (slotSPcnt p1 p2).keeps := by
  unfold slotSPcnt
  repeat' first
    | with_reducible assumption | with_reducible apply sWrite_keeps | fail_if_no_progress with_reducible apply SlotOut.keeps_mk | intro _

theorem slotSBrk_keeps (p1 : SF) (p2 : State) (p3 : Nat) : (slotSBrk p1 p2 p3).keeps := by
  unfold slotSBrk
  repeat' first
    | with_reducible assumption | with_reducible apply SlotOut.raises_keeps | split
    | fail_if_no_progress with_reducible apply SlotOut.keeps_mk | intro _

theorem slotSEnd_keeps (p1 : SF) : (slotSEnd p1).keeps := by
  unfold slotSEnd
  repeat' first
    | with_reducible assumption | with_reducible apply SlotOut.raises_keeps | split
    | fail_if_no_progress with_reducible apply SlotOut.keeps_mk | intro _

/-- Every slot's action keeps what the state had. -/
theorem slotOut_keeps (i : Instr) (s : State) (c t : Nat) (o : SlotOut) (h : slotOut i s c t = some o) : o.keeps := by
  cases i with
  | sNop => exact Option.some.inj h ▸ slotSNop_keeps _
  | sAdd => exact Option.some.inj h ▸ slotSAdd_keeps _ _
  | sSub => exact Option.some.inj h ▸ slotSSub_keeps _ _
  | sAddi => exact Option.some.inj h ▸ slotSAddi_keeps _ _
  | sMul => exact Option.some.inj h ▸ slotSMul_keeps _ _
  | sMulhu => exact Option.some.inj h ▸ slotSMulhu_keeps _ _
  | sMulhs => exact Option.some.inj h ▸ slotSMulhs_keeps _ _
  | sAnd => exact Option.some.inj h ▸ slotSAnd_keeps _ _
  | sOr => exact Option.some.inj h ▸ slotSOr_keeps _ _
  | sXor => exact Option.some.inj h ▸ slotSXor_keeps _ _
  | sAndi => exact Option.some.inj h ▸ slotSAndi_keeps _ _
  | sShl => exact Option.some.inj h ▸ slotSShl_keeps _ _
  | sShr => exact Option.some.inj h ▸ slotSShr_keeps _ _
  | sSar => exact Option.some.inj h ▸ slotSSar_keeps _ _
  | sShli => exact Option.some.inj h ▸ slotSShli_keeps _ _
  | sShri => exact Option.some.inj h ▸ slotSShri_keeps _ _
  | sSari => exact Option.some.inj h ▸ slotSSari_keeps _ _
  | sSlt => exact Option.some.inj h ▸ slotSSlt_keeps _ _
  | sSltu => exact Option.some.inj h ▸ slotSSltu_keeps _ _
  | sSeq => exact Option.some.inj h ▸ slotSSeq_keeps _ _
  | sMin => exact Option.some.inj h ▸ slotSMin_keeps _ _
  | sMax => exact Option.some.inj h ▸ slotSMax_keeps _ _
  | sMinu => exact Option.some.inj h ▸ slotSMinu_keeps _ _
  | sMaxu => exact Option.some.inj h ▸ slotSMaxu_keeps _ _
  | sLi => exact Option.some.inj h ▸ slotSLi_keeps _
  | sLui => exact Option.some.inj h ▸ slotSLui_keeps _ _
  | sPopc => exact Option.some.inj h ▸ slotSPopc_keeps _ _
  | sClz => exact Option.some.inj h ▸ slotSClz_keeps _ _
  | sBfx => exact Option.some.inj h ▸ slotSBfx_keeps _ _
  | sB => exact Option.some.inj h ▸ slotSB_keeps _ _
  | sBeq => exact Option.some.inj h ▸ slotSBeq_keeps _ _
  | sBne => exact Option.some.inj h ▸ slotSBne_keeps _ _
  | sBlt => exact Option.some.inj h ▸ slotSBlt_keeps _ _
  | sBge => exact Option.some.inj h ▸ slotSBge_keeps _ _
  | sBltu => exact Option.some.inj h ▸ slotSBltu_keeps _ _
  | sBgeu => exact Option.some.inj h ▸ slotSBgeu_keeps _ _
  | sCall => exact Option.some.inj h ▸ slotSCall_keeps _ _
  | sJr => exact Option.some.inj h ▸ slotSJr_keeps _ _
  | sCrd => exact Option.some.inj h ▸ slotSCrd_keeps _ _ _ _
  | sCwr => exact Option.some.inj h ▸ slotSCwr_keeps _ _ _ _
  | sPcnt => exact Option.some.inj h ▸ slotSPcnt_keeps _ _
  | sBrk => exact Option.some.inj h ▸ slotSBrk_keeps _ _ _
  | sEnd => exact Option.some.inj h ▸ slotSEnd_keeps _
  | vNop => exact Option.some.inj h ▸ slotVNop_keeps _ _
  | vAdd => exact Option.some.inj h ▸ slotVAdd_keeps _ _ _
  | vSub => exact Option.some.inj h ▸ slotVSub_keeps _ _ _
  | vMul => exact Option.some.inj h ▸ slotVMul_keeps _ _ _
  | vFma => exact Option.some.inj h ▸ slotVFma_keeps _ _ _ _
  | vFms => exact Option.some.inj h ▸ slotVFms_keeps _ _ _ _
  | vDiv => exact Option.some.inj h ▸ slotVDiv_keeps _ _ _
  | vSqrt => exact Option.some.inj h ▸ slotVSqrt_keeps _ _ _
  | vMax => exact Option.some.inj h ▸ slotVMax_keeps _ _ _
  | vMin => exact Option.some.inj h ▸ slotVMin_keeps _ _ _
  | vAbs => exact Option.some.inj h ▸ slotVAbs_keeps _ _ _
  | vNeg => exact Option.some.inj h ▸ slotVNeg_keeps _ _ _
  | vAdds => exact Option.some.inj h ▸ slotVAdds_keeps _ _ _
  | vSubs => exact Option.some.inj h ▸ slotVSubs_keeps _ _ _
  | vMulh => exact Option.some.inj h ▸ slotVMulh_keeps _ _ _
  | vAnd => exact Option.some.inj h ▸ slotVAnd_keeps _ _ _
  | vOr => exact Option.some.inj h ▸ slotVOr_keeps _ _ _
  | vXor => exact Option.some.inj h ▸ slotVXor_keeps _ _ _
  | vNot => exact Option.some.inj h ▸ slotVNot_keeps _ _ _
  | vShl => exact Option.some.inj h ▸ slotVShl_keeps _ _ _
  | vShr => exact Option.some.inj h ▸ slotVShr_keeps _ _ _
  | vSar => exact Option.some.inj h ▸ slotVSar_keeps _ _ _
  | vLdexp => exact Option.some.inj h ▸ slotVLdexp_keeps _ _ _
  | vExp2 => exact Option.some.inj h ▸ slotVExp2_keeps _ _ _
  | vLog2 => exact Option.some.inj h ▸ slotVLog2_keeps _ _ _
  | vCmp => exact Option.some.inj h ▸ slotVCmp_keeps _ _ _
  | vSel => exact Option.some.inj h ▸ slotVSel_keeps _ _ _
  | vPand => exact Option.some.inj h ▸ slotVPand_keeps _ _ _
  | vPor => exact Option.some.inj h ▸ slotVPor_keeps _ _ _
  | vPxor => exact Option.some.inj h ▸ slotVPxor_keeps _ _ _
  | vPnot => exact Option.some.inj h ▸ slotVPnot_keeps _ _ _
  | vBcast => exact Option.some.inj h ▸ slotVBcast_keeps _ _ _
  | vIdx => exact Option.some.inj h ▸ slotVIdx_keeps _ _ _
  | vGetl => exact Option.some.inj h ▸ slotVGetl_keeps _ _ _
  | vSetl => exact Option.some.inj h ▸ slotVSetl_keeps _ _ _
  | vPerm => exact Option.some.inj h ▸ slotVPerm_keeps _ _ _
  | vMov => exact Option.some.inj h ▸ slotVMov_keeps _ _ _
  | vRsum => exact Option.some.inj h ▸ slotVRsum_keeps _ _ _
  | vRssq => exact Option.some.inj h ▸ slotVRssq_keeps _ _ _
  | vRmax => exact Option.some.inj h ▸ slotVRmax_keeps _ _ _
  | vRmin => exact Option.some.inj h ▸ slotVRmin_keeps _ _ _
  | vMomAdd => exact Option.some.inj h ▸ slotVMomAdd_keeps _ _ _ _
  | vMomCmb => exact Option.some.inj h ▸ slotVMomCmb_keeps _ _ _ _
  | vMomRed => exact Option.some.inj h ▸ slotVMomRed_keeps _ _ _ _
  | vCvt => exact Option.some.inj h ▸ slotVCvt_keeps _ _ _
  | vQscl => exact Option.some.inj h ▸ slotVQscl_keeps _ _ _
  | vCvtq => exact Option.some.inj h ▸ slotVCvtq_keeps _ _ _
  | vCvtf => exact Option.some.inj h ▸ slotVCvtf_keeps _ _ _
  | vPack4 => exact Option.some.inj h ▸ slotVPack4_keeps _ _ _
  | vUnpk4 => exact Option.some.inj h ▸ slotVUnpk4_keeps _ _ _
  | vPack6 => exact Option.some.inj h ▸ slotVPack6_keeps _ _ _
  | vUnpk6 => exact Option.some.inj h ▸ slotVUnpk6_keeps _ _ _
  | mNop => exact Option.some.inj h ▸ slotMNop_keeps
  | mTile => exact Option.some.inj h ▸ slotMTile_keeps _ _ _ _
  | mTset => exact Option.some.inj h ▸ slotMTset_keeps _ _
  | mTcpy => exact Option.some.inj h ▸ slotMTcpy_keeps _ _
  | mTadd => exact Option.some.inj h ▸ slotMTadd_keeps _ _
  | cNop => exact Option.some.inj h ▸ slotCNop_keeps
  | cLdb => exact Option.some.inj h ▸ slotCLdb_keeps _ _ _ _
  | cLdh => exact Option.some.inj h ▸ slotCLdh_keeps _ _ _ _
  | cLdw => exact Option.some.inj h ▸ slotCLdw_keeps _ _ _ _
  | cLdd => exact Option.some.inj h ▸ slotCLdd_keeps _ _ _ _
  | cLdbs => exact Option.some.inj h ▸ slotCLdbs_keeps _ _ _ _
  | cLdhs => exact Option.some.inj h ▸ slotCLdhs_keeps _ _ _ _
  | cLdws => exact Option.some.inj h ▸ slotCLdws_keeps _ _ _ _
  | cStb => exact Option.some.inj h ▸ slotCStb_keeps _ _ _ _
  | cSth => exact Option.some.inj h ▸ slotCSth_keeps _ _ _ _
  | cStw => exact Option.some.inj h ▸ slotCStw_keeps _ _ _ _
  | cStd => exact Option.some.inj h ▸ slotCStd_keeps _ _ _ _
  | cGld => exact Option.some.inj h ▸ slotCGld_keeps _ _ _ _
  | cGst => exact Option.some.inj h ▸ slotCGst_keeps _ _ _ _
  | cVld => exact Option.some.inj h ▸ slotCVld_keeps _ _ _ _
  | cVst => exact Option.some.inj h ▸ slotCVst_keeps _ _ _ _
  | cVgth => exact Option.some.inj h ▸ slotCVgth_keeps _ _ _ _
  | cVsct => exact Option.some.inj h ▸ slotCVsct_keeps _ _ _ _
  | cPld => exact Option.some.inj h ▸ slotCPld_keeps _ _ _ _
  | cPst => exact Option.some.inj h ▸ slotCPst_keeps _ _ _ _
  | cTld => exact Option.some.inj h ▸ slotCTld_keeps _ _ _ _
  | cTst => exact Option.some.inj h ▸ slotCTst_keeps _ _ _ _
  | cFadd => exact Option.some.inj h ▸ slotCFadd_keeps _ _ _ _
  | cSwap => exact Option.some.inj h ▸ slotCSwap_keeps _ _ _ _
  | cCas => exact Option.some.inj h ▸ slotCCas_keeps _ _ _ _
  | cDma => exact Option.some.inj h ▸ slotCDma_keeps _ _ _ _
  | cLpost => exact Option.some.inj h ▸ slotCLpost_keeps _ _ _ _
  | cFence => exact Option.some.inj h ▸ slotCFence_keeps
  | cLset => exact Option.some.inj h ▸ slotCLset_keeps _ _ _ _
  | cLadd => exact Option.some.inj h ▸ slotCLadd_keeps _ _ _ _
  | cLwait => exact Option.some.inj h ▸ slotCLwait_keeps _ _ _ _
  | cLrd => exact Option.some.inj h ▸ slotCLrd_keeps _ _ _
  | cLarr => exact Option.some.inj h ▸ slotCLarr_keeps _ _ _ _
  | _ => exact nomatch h

theorem bundleOuts_keeps (l : List Instr) (s : State) (c t : Nat) : ∀ o ∈ bundleOuts l s c t, o.keeps := by
  intro o ho
  simp only [bundleOuts, List.mem_filterMap] at ho
  obtain ⟨i, -, hi⟩ := ho
  cases hs : slotOut i s c t with
  | none => rw [hs] at hi; exact nomatch hi
  | some p =>
    have hp := slotOut_keeps i s c t p hs
    rw [hs] at hi
    have e := Option.some.inj hi
    rw [← e]
    beta_reduce
    split
    · exact hp
    · exact fun u v k => State.setThr_keeps k _ _ _
    · split
      · exact hp
      · exact hp

/-- A slot command keeps what the state had. -/
theorem State.slot_keeps {u s : State} (k : Keeps u s) (x : Issue) (i : Instr) : Keeps u (s.issueSlot x i) :=
  State.issueSlot_keeps k x i (fun l => bundleOuts_keeps l s _ _)

theorem wordOuts_keeps (w : BitVec 256) (s : State) (c t : Nat) : ∀ o ∈ wordOuts w s c t, o.keeps := by
  intro o ho
  simp only [wordOuts, List.mem_flatMap] at ho
  obtain ⟨⟨a, b⟩, -, hb⟩ := ho
  cases b with
  | some i => exact bundleOuts_keeps [i] s c t o hb
  | none =>
    have e := List.mem_singleton.mp hb
    exact e ▸ SlotOut.raises_keeps _ _ _ _

/-- A bundle word keeps what the state had. -/
theorem State.issueWord_keeps {u s : State} (k : Keeps u s) (c t : Nat) : Keeps u (s.issueWord c t) := by
  unfold State.issueWord
  extract_lets y w
  split
  · exact k
  · exact State.issueOuts_keeps k _ _ _ _ (wordOuts_keeps w s c t)

end Sys2Proof.Machine
end

