-- ==== Sys2Proof/Tests/Slice0.lean ====
section
/-! SUPPORT. Tests of the model: ill-formed commands are refused, single steps on small states with results taken from the manual's rules or
by hand from them, and for the statements of Certificates/Slice0 states that meet their hypotheses (`wit_…`). -/

namespace Sys2Proof.Tests
set_option Elab.async false
open Sys2Proof Sys2Proof.Machine

/-! ### Helpers -/

/-- The outcome is a next state of which p holds. -/
def after (o : Host.Outcome State Fault Refusal) (p : State → Bool) : Bool :=
  match o with
  | .next t => p t
  | _ => false

/-- Thread 0 of core 0, alone in its bundle. -/
def x0 : Issue := ⟨0, 0, false⟩

/-- Core 0 is not gated: at reset every core is (R197). -/
def open0 (s : State) : State := s.wrB (rCoreStat 0) 0 false
/-- A state in which thread 0 of core 0 is READY with the context y. -/
def one (y : Thread) : State := open0 { threads := [(0, { y with st := .ready })] }

/-- Scalars s1 and s2 hold a and b. -/
def ab (a b : W64) : State := one { s := [(1, a), (2, b)], pc := 64 }

/-- The S slot s3 = s1 op s2 with an immediate. -/
def sf (imm : BitVec 32) : SF := ⟨3, 1, 2, 0, imm⟩

/-- After the slot, s3 holds v and the thread stands at the next bundle. -/
def s3 (o : Host.Outcome State Fault Refusal) (v : W64) : Bool :=
  after o (fun t => (t.thr 0 0).sreg 3 = v && (t.thr 0 0).pc = 96 && (t.thr 0 0).st = .ready)

/-- After the slot, the thread stands at pc. -/
def atPc (o : Host.Outcome State Fault Refusal) (pc : W64) : Bool :=
  after o (fun t => (t.thr 0 0).pc = pc && (t.thr 0 0).st = .ready)

/-- After the slot, the thread is FAULTED where it was, with one exception record of the cause. -/
def raises (o : Host.Outcome State Fault Refusal) (cause : Nat) : Bool :=
  after o (fun t => (t.thr 0 0).st = .faulted && ((t.core 0).exc.map (·.cause)) = [cause])

/-! ### Ill-formed commands (one for each check) -/

theorem test_wf_core : (Instr.sAdd ⟨144, 0, false⟩ (sf 0)).wf = false := by decide
theorem test_wf_thread : (Instr.sAdd ⟨0, 32, false⟩ (sf 0)).wf = false := by decide
theorem test_wf_thread_event : (Instr.loadReturn 0 32 0).wf = false ∧ (Instr.coreGate 144).wf = false := by decide
theorem test_wf_start : (Instr.threadStart 0 0 64 0).wf = false ∧ (Instr.threadStart 0 0 0 0x100000000).wf = false := by decide
theorem test_wf_array : (Instr.tileStart 576 0).wf = false ∧ (Instr.tileStart 0 3).wf = false ∧ (Instr.runComplete 0 0 3).wf = false := by decide
theorem test_wf_tile_end : (Instr.tileEnd 0 ⟨3, false⟩).wf = false ∧ (Instr.faultTakeover 0 ⟨0x10, some 32⟩ []).wf = false := by decide
theorem test_wf_logical : (Instr.takeoverCommit 128).wf = false := by decide
theorem test_wf_ring : (Instr.nop 64 0).wf = false ∧ (Instr.descriptorTake 64 []).wf = false := by decide
theorem test_wf_item : (Instr.itemReissue 0 0 0x100000000 0 0).wf = false ∧ (Instr.thirdExecution 0 0 0x100000000 0 0).wf = false
    ∧ (Instr.checkReexec 0 0 0 144 0).wf = false := by decide
theorem test_wf_engine : (Instr.dmaStart 160 0).wf = false ∧ (Instr.dmaComplete 0 4).wf = false := by decide
theorem test_wf_bar2 : (Instr.bar2Read 0x10000000000 8).wf = false ∧ (Instr.bar2Write 0 (List.replicate 65 0)).wf = false := by decide
theorem test_wf_memory : (Instr.scrubRead 0x1000000000000).wf = false ∧ (Instr.bucketLeak 320).wf = false ∧ (Instr.rebuildEnd 8).wf = false
    ∧ (Instr.spareEraseOnly 0 20).wf = false ∧ (Instr.rowRemap 0 0 65536).wf = false ∧ (Instr.refillEnd 384).wf = false := by decide
theorem test_wf_redundancy : (Instr.redundancyRowRemap true 144 0 0).wf = false ∧ (Instr.redundancyRowRemap true 0 64 0).wf = false := by decide
theorem test_wf_snapshot : (Instr.snapshotComplete 8 0).wf = false ∧ (Instr.windowCloseCapture 16).wf = false := by decide
theorem test_wf_port : (Instr.write (some 52)).wf = false ∧ (Instr.frameSend 52).wf = false ∧ (Instr.wavelengthTakeover 0 4).wf = false := by decide
theorem test_wf_frame : (Instr.frameReceive 0 ⟨0, false, List.replicate 39 .idle⟩ true).wf = false := by decide
theorem test_wf_cartridge : (Instr.cartridgeFault 0).wf = false ∧ (Instr.cartridgeFault 4).wf = false ∧ (Instr.laserFail 1 5).wf = false := by decide
theorem test_wf_group : (Instr.agree 4096 0).wf = false ∧ (Instr.hierLevel 0 0 4).wf = false ∧ (Instr.detourWrite 64 0 false).wf = false := by decide
theorem test_wf_message : (Instr.hello ⟨36, 0, 0, 0, 0, []⟩).wf = false ∧ (Instr.nonceExpiry 32).wf = false ∧ (Instr.preemptDone 8).wf = false := by decide
theorem test_wf_wing : (Instr.testWithdraw 2).wf = false ∧ (Instr.hallwayLaneSpare 2 0).wf = false ∧ (Instr.flashCopyWrite 8).wf = false := by decide
theorem test_wf_counter : (Instr.counterCapture 0 0x80000).wf = false ∧ (Instr.swap 24).wf = false ∧ (Instr.cntTrcRead 9).wf = false := by decide
theorem test_wf_outside : (Instr.smbusRead 256).wf = false ∧ (Instr.registerWrite .host 0x2000000 0).wf = false
    ∧ (Instr.configurationRequest 4096).wf = false ∧ (Instr.profileDecision 0x4000 true).wf = false := by decide

/-! ### The S slot (R209 to R212) -/

theorem test_s_add_wraps : s3 (exec (.sAdd x0 (sf 0)) (ab 0xFFFFFFFFFFFFFFFF 2)) 1 = true := by decide +kernel
theorem test_s_sub : s3 (exec (.sSub x0 (sf 0)) (ab 1 2)) 0xFFFFFFFFFFFFFFFF = true := by decide +kernel
theorem test_s_mul : s3 (exec (.sMul x0 (sf 0)) (ab 0x100000001 0x100000001)) 0x200000001 = true := by decide +kernel
theorem test_s_mulhu : s3 (exec (.sMulhu x0 (sf 0)) (ab 0xFFFFFFFFFFFFFFFF 2)) 1 = true := by decide +kernel
theorem test_s_mulhs : s3 (exec (.sMulhs x0 (sf 0)) (ab 0xFFFFFFFFFFFFFFFF 2)) 0xFFFFFFFFFFFFFFFF = true := by decide +kernel
theorem test_s_addi_negative : s3 (exec (.sAddi x0 (sf 0xFFFFFFFF)) (ab 5 0)) 4 = true := by decide +kernel
theorem test_s_shl_modulo : s3 (exec (.sShl x0 (sf 0)) (ab 1 65)) 2 = true := by decide +kernel
theorem test_s_sari : s3 (exec (.sSari x0 (sf 4)) (ab 0x8000000000000000 0)) 0xF800000000000000 = true := by decide +kernel
theorem test_s_lui : s3 (exec (.sLui x0 (sf 0x12345678)) (ab 0xAAAAAAAA9ABCDEF0 0)) 0x123456789ABCDEF0 = true := by decide +kernel
theorem test_s_slt_signed : s3 (exec (.sSlt x0 (sf 0)) (ab 0xFFFFFFFFFFFFFFFF 0)) 1 = true := by decide +kernel
theorem test_s_sltu_unsigned : s3 (exec (.sSltu x0 (sf 0)) (ab 0xFFFFFFFFFFFFFFFF 0)) 0 = true := by decide +kernel
theorem test_s_popc : s3 (exec (.sPopc x0 (sf 0)) (ab 0xF0F 0)) 8 = true := by decide +kernel
theorem test_s_clz_zero : s3 (exec (.sClz x0 (sf 0)) (ab 0 0)) 64 = true := by decide +kernel
theorem test_s_clz_one : s3 (exec (.sClz x0 (sf 0)) (ab 1 0)) 63 = true := by decide +kernel
theorem test_s_bfx : s3 (exec (.sBfx x0 (sf (8 + 64 * 7))) (ab 0xABCD 0)) 0xAB = true := by decide +kernel
theorem test_s_beq_back : atPc (exec (.sBeq x0 (sf 0xFFFFFFFF)) (ab 7 7)) 32 = true := by decide +kernel
theorem test_s_beq_not : atPc (exec (.sBeq x0 (sf 0xFFFFFFFF)) (ab 7 8)) 96 = true := by decide +kernel
theorem test_s_bge_equal : atPc (exec (.sBge x0 (sf 2)) (ab 7 7)) 128 = true := by decide +kernel
theorem test_s_b_out : raises (exec (.sB x0 (sf 0xFFFFFFFD)) (ab 0 0)) 0x07 = true := by decide +kernel
theorem test_s_jr_align : raises (exec (.sJr x0 (sf 0)) (ab 33 0)) 0x06 = true := by decide +kernel
theorem test_s_call : after (exec (.sCall x0 (sf 1)) (ab 0 0)) (fun t => (t.thr 0 0).sreg 3 = 96 && (t.thr 0 0).pc = 96) = true := by decide +kernel
theorem test_s_reserved : raises (exec (.sAdd x0 ⟨3, 1, 2, 1, 0⟩) (ab 0 0)) 0x01 = true := by decide +kernel
theorem test_s_end : after (exec (.sEnd x0 (sf 0)) (ab 1 2)) (fun t => (t.thr 0 0).st = .free) = true := by decide +kernel

/-! ### The V slot (R213 to R229) -/

/-- Vector registers v1, v2, v3 and predicate p1. -/
def vv (a b c : Nat) (p : Nat := 0) : State :=
  one { v := [(1, BitVec.ofNat 4096 a), (2, BitVec.ofNat 4096 b), (3, BitVec.ofNat 4096 c)], p := [(1, BitVec.ofNat 512 p)] }

/-- The V slot v4 = v1 op v2 of a type; with PEN it is governed by p1. -/
def vf (ty : BitVec 4) (imm : BitVec 32 := 0) (strict pen : Bool := false) : VF := ⟨ty, strict, false, 1, pen, 4, 1, 2, 3, 5, 0, imm⟩

/-- After the slot, lane i of v4 (width w) holds v. -/
def v4 (o : Host.Outcome State Fault Refusal) (w i v : Nat) : Bool := after o (fun t => lane ((t.thr 0 0).vreg 4) w i = v)

/-- The flags after the slot. -/
def flags (o : Host.Outcome State Fault Refusal) (f : BitVec 5) : Bool := after o (fun t => (t.thr 0 0).flags = f)

theorem test_v_add_wraps : v4 (exec (.vAdd x0 (vf 0)) (vv 0x7F01 0x0102 0)) 8 0 3 = true ∧
    v4 (exec (.vAdd x0 (vf 0)) (vv 0x7F01 0x0102 0)) 8 1 0x80 = true := by decide +kernel
theorem test_v_adds_signed : v4 (exec (.vAdds x0 (vf 0)) (vv 0x7F 0x01 0)) 8 0 0x7F = true := by decide +kernel
theorem test_v_subs_unsigned : v4 (exec (.vSubs x0 (vf 1)) (vv 0x01 0x02 0)) 8 0 0 = true := by decide +kernel
theorem test_v_mulh_signed : v4 (exec (.vMulh x0 (vf 0)) (vv 0xFF 0x02 0)) 8 0 0xFF = true := by decide +kernel
theorem test_v_mulh_unsigned : v4 (exec (.vMulh x0 (vf 1)) (vv 0xFF 0x02 0)) 8 0 0x01 = true := by decide +kernel
theorem test_v_add_disabled_lane : v4 (exec (.vAdd x0 (vf 0 0 false true)) (vv 0x0202 0x0303 0 1)) 8 1 0 = true ∧
    v4 (exec (.vAdd x0 (vf 0 0 false true)) (vv 0x0202 0x0303 0 1)) 8 0 5 = true := by decide +kernel
theorem test_v_abs_minimum : v4 (exec (.vAbs x0 (vf 0)) (vv 0x80 0 0)) 8 0 0x80 = true := by decide +kernel
theorem test_v_shl_modulo : v4 (exec (.vShl x0 (vf 1)) (vv 3 9 0)) 8 0 6 = true := by decide +kernel
theorem test_v_sar : v4 (exec (.vSar x0 (vf 0)) (vv 0x80 1 0)) 8 0 0xC0 = true := by decide +kernel
theorem test_v_w32_add : v4 (exec (.vAdd x0 (vf 9)) (vv 0x3F800000 0x40000000 0)) 32 0 0x40400000 = true := by decide +kernel
theorem test_v_w32_fma : v4 (exec (.vFma x0 (vf 9)) (vv 0x40000000 0x40400000 0x3F800000)) 32 0 0x40E00000 = true := by decide +kernel
theorem test_v_div_zero : v4 (exec (.vDiv x0 (vf 9)) (vv 0xBF800000 0 0)) 32 0 0xFF800000 = true := by decide +kernel
theorem test_v_div_strict_flag : flags (exec (.vDiv x0 (vf 9 0 true)) (one { v := [(1, BitVec.ofNat 4096 0x3F800000)] })) 0b11000 = true := by
  decide +kernel
theorem test_v_sqrt_negative_zero : v4 (exec (.vSqrt x0 (vf 9)) (vv 0x80000000 0 0)) 32 0 0x80000000 = true := by decide +kernel
theorem test_v_max_zero : v4 (exec (.vMax x0 (vf 9)) (vv 0 0x80000000 0)) 32 0 0 = true := by decide +kernel
theorem test_v_min_zero : v4 (exec (.vMin x0 (vf 9)) (vv 0 0x80000000 0)) 32 0 0x80000000 = true := by decide +kernel
theorem test_v_w64_needs_strict : raises (exec (.vAdd x0 (vf 10)) (vv 0 0 0)) 0x02 = true := by decide +kernel
theorem test_v_exp2_strict_mode : raises (exec (.vExp2 x0 (vf 9 0 true)) (vv 0 0 0)) 0x04 = true := by decide +kernel
theorem test_v_exp2 : v4 (exec (.vExp2 x0 (vf 9)) (vv 0x40400000 0 0)) 32 0 0x41000000 = true := by decide +kernel
theorem test_v_log2_zero : v4 (exec (.vLog2 x0 (vf 9)) (vv 0 0 0)) 32 0 0xFF800000 = true := by decide +kernel
theorem test_v_cmp_nan_ne : after (exec (.vCmp x0 (vf 9 1)) (vv 0x7FC00000 0x7FC00000 0)) (fun t => ((t.thr 0 0).preg 4).getLsbD 0) = true := by
  decide +kernel
theorem test_v_cmp_zero_eq : after (exec (.vCmp x0 (vf 9 0)) (vv 0x80000000 0 0)) (fun t => ((t.thr 0 0).preg 4).getLsbD 0) = true := by decide +kernel
theorem test_v_cmp_reserved : raises (exec (.vCmp x0 (vf 9 6)) (vv 0 0 0)) 0x01 = true := by decide +kernel
theorem test_v_sel : v4 (exec (.vSel x0 (vf 0 0 false true)) (vv 0x1111 0x2222 0 1)) 16 0 0x2211 = true := by decide +kernel
theorem test_v_perm : v4 (exec (.vPerm x0 (vf 1)) (vv 0x0A0B 0x01 0)) 8 0 0x0A = true := by decide +kernel
theorem test_v_bcast : v4 (exec (.vBcast x0 (vf 3)) (one { s := [(5, 0xABCDE)] })) 16 255 0xBCDE = true := by decide +kernel
theorem test_v_rsum : v4 (exec (.vRsum x0 (vf 5)) (vv 0x300000002 0 0)) 32 0 5 = true := by decide +kernel
/-- The worked example of R223: elements 2, 4 and 6 end as (3, 4, 8). -/
theorem test_v_mom_add_third : after (exec (.vMomAdd x0 ⟨9, false, false, 0, false, 4, 1, 0, 0, 0, 0, 0⟩)
      (one { v := [(1, 0x40C00000), (4, 2), (5, 0x40400000), (6, 0x40000000)] }))
    (fun t => lane ((t.thr 0 0).vreg 4) 32 0 = 3 && lane ((t.thr 0 0).vreg 5) 32 0 = 0x40800000
      && lane ((t.thr 0 0).vreg 6) 32 0 = 0x41000000) = true := by decide +kernel
theorem test_v_mom_overlap : raises (exec (.vMomCmb x0 ⟨9, false, false, 0, false, 4, 6, 0, 0, 0, 0, 0⟩) (vv 0 0 0)) 0x01 = true := by decide +kernel
theorem test_v_cvt_nan_int : v4 (exec (.vCvt x0 (vf 4 9)) (vv 0x7FC00000 0 0)) 32 0 0 = true := by decide +kernel
theorem test_v_cvt_saturates : v4 (exec (.vCvt x0 (vf 4 9)) (vv 0x7F800000 0 0)) 32 0 0x7FFFFFFF = true := by decide +kernel
theorem test_v_cvt_ties : v4 (exec (.vCvt x0 (vf 4 9)) (vv 0x40200000 0 0)) 32 0 2 = true := by decide +kernel
theorem test_v_pack4 : v4 (exec (.vPack4 x0 (vf 11)) (vv 0x0F02 0 0)) 8 0 0xF2 = true := by decide +kernel
theorem test_v_unpk4 : v4 (exec (.vUnpk4 x0 (vf 11)) (vv 0xF2 0 0)) 16 0 0x0F02 = true := by decide +kernel
theorem test_v_unpk6 : v4 (exec (.vUnpk6 x0 (vf 11)) (vv 0xFC1 0 0)) 16 0 0x3F01 = true := by decide +kernel
/-- R224: scale byte 0 writes code 0 and counts a finite non-zero element as lost. -/
theorem test_v_cvtq_zero_scale : after (exec (.vCvtq x0 (vf 9)) (vv 0x3F800000 0 0)) (fun t => lane ((t.thr 0 0).vreg 4) 8 0 = 0
    && (t.thr 0 0).qlost = 1 && (t.thr 0 0).qsat = 0) = true := by decide +kernel

/-! ### The M slot (R230 to R239) -/

def td : State := one { s := [(1, 0x1FFFF)], t := [(2, 0xFFFF)] }

theorem test_m_tset_truncates : after (exec (.mTset x0 ⟨2, 1, 0, 0⟩) td) (fun t => (t.thr 0 0).treg 2 = 0xFFFF) = true ∧
    after (exec (.mTset x0 ⟨2, 1, 9, 0⟩) td) (fun t => (t.thr 0 0).treg 2 = 0xFFFF ||| (0xFF <<< 132)) = true := by decide +kernel
theorem test_m_tadd_wraps : after (exec (.mTadd x0 ⟨2, 1, 0, 0⟩) td) (fun t => (t.thr 0 0).treg 2 = 0xFFFE) = true := by decide +kernel
theorem test_m_tadd_invalid : raises (exec (.mTadd x0 ⟨2, 1, 0x0C, 0⟩) td) 0x01 = true := by decide +kernel
theorem test_m_tset_no_field : raises (exec (.mTset x0 ⟨2, 1, 0x19, 0⟩) td) 0x01 = true := by decide +kernel
theorem test_m_tcpy : after (exec (.mTcpy x0 ⟨3, 2, 0⟩) td) (fun t => (t.thr 0 0).treg 3 = 0xFFFF) = true := by decide +kernel

/-- A tile of W32 by W32 to W32, one element each, at core-local addresses 0, 64 and 128: XFMT, WFMT and DFMT code 7. -/
def tile : TDesc := 1 <<< 15 ||| 2 <<< 30 ||| 7 <<< 169 ||| 7 <<< 173 ||| 7 <<< 177
def tileF (half : BitVec 2) (latch : BitVec 6) : MTileF := ⟨1, half, 2, 3, 4, 13, latch, false, false, true, 0⟩

theorem test_m_tile_format : raises (exec (.mTile x0 (tileF 0 5)) (one { t := [(2, 0xF <<< 169)] })) 0x02 = true := by decide +kernel
theorem test_m_tile_half : raises (exec (.mTile x0 (tileF 3 5)) (one { t := [(2, tile)] })) 0x01 = true := by decide +kernel

/-! ### The C slot (R240 to R247) -/

/-- Core store bytes of core 0 at 64: F0 DE BC 9A 78 56 34 92; s1 is the data, s2 = 72 the base, offset −8. -/
def mem8 : State :=
  { one { s := [(1, 0x1122334455667788), (2, 72)], pc := 64 } with
    mem := [(0x010100000040, 0xF0), (0x010100000041, 0xDE), (0x010100000042, 0xBC), (0x010100000043, 0x9A), (0x010100000044, 0x78),
            (0x010100000045, 0x56), (0x010100000046, 0x34), (0x010100000047, 0x92)] }
def ca : CA := ⟨1, 2, 0x7FFFFFF8⟩
def loaded (o : Host.Outcome State Fault Refusal) (v : W64) : Bool :=
  after o (fun t => ((t.thr 0 0).outs.map (·.writes)) = [[.s 1 v]] && (t.thr 0 0).pc = 96)

theorem test_c_ldb : loaded (exec (.cLdb x0 ca) mem8) 0xF0 = true := by decide +kernel
theorem test_c_ldhs : loaded (exec (.cLdhs x0 ca) mem8) 0xFFFFFFFFFFFFDEF0 = true := by decide +kernel
theorem test_c_ldw : loaded (exec (.cLdw x0 ca) mem8) 0x9ABCDEF0 = true := by decide +kernel
theorem test_c_ldd : loaded (exec (.cLdd x0 ca) mem8) 0x923456789ABCDEF0 = true := by decide +kernel
theorem test_c_sth : after (exec (.cSth x0 ca) mem8) (fun t => t.bytes 0x010100000040 4 = [0x88, 0x77, 0xBC, 0x9A]) = true := by decide +kernel
theorem test_c_ldd_misaligned : raises (exec (.cLdd x0 ⟨1, 2, 1⟩) mem8) 0x06 = true := by decide +kernel
theorem test_c_ldb_bounds : raises (exec (.cLdb x0 ⟨1, 2, 0x200000⟩) mem8) 0x07 = true := by decide +kernel
theorem test_c_gld_remote_bounds : raises (exec (.cGld x0 ⟨1, 2, 0⟩) (one { s := [(2, 0x8000000000000000)] })) 0x07 = true := by decide +kernel
theorem test_c_vld_reserved : raises (exec (.cVld x0 ⟨1, 2, false, 0, 0, 1, 0⟩) mem8) 0x01 = true := by decide +kernel
theorem test_c_lset_bad_latch : raises (exec (.cLset x0 ⟨1, 2, 48, 0, true, 1⟩) mem8) 0x09 = true := by decide +kernel
theorem test_c_lset : after (exec (.cLset x0 ⟨1, 2, 4, 0, true, 0xFFFFF⟩) mem8) (fun t => lValue (t.latch 0 4) = 0xFFFFFFFFFFFFFFFF
    && lOwned (t.latch 0 4)) = true := by decide +kernel
theorem test_c_ladd : after (exec (.cLadd x0 ⟨1, 2, 4, 0, true, 3⟩) { mem8 with latches := [(4, 5)] }) (fun t => lValue (t.latch 0 4) = 8) = true := by
  decide +kernel
theorem test_c_lwait_parks : after (exec (.cLwait x0 ⟨1, 2, 4, 1, false, 0⟩) mem8) (fun t => (t.thr 0 0).st = .parked) = true := by decide +kernel
theorem test_c_fence : after (exec (.cFence x0) mem8) (fun t => (t.thr 0 0).fence = false && (t.thr 0 0).pc = 96) = true := by decide +kernel

/-! ### States that meet the hypotheses of the statements: slots

Each `wit_` theorem shows a concrete state and operands that meet all hypotheses of one statement (or of its clauses) together; where
it also runs the command, it checks what the statement says of the outcome. -/

/-- A step takes the front command. -/
theorem wit_StepRunsFront : ({ one {} with pending := [.sNop x0 (sf 0), .markerSend] } : State).pending = .sNop x0 (sf 0) :: [.markerSend]
    ∧ after (step { one {} with pending := [.sNop x0 (sf 0), .markerSend] }) (fun t => t.pending = [.markerSend] && (t.thr 0 0).pc = 32)
      = true := by decide +kernel

theorem wit_ScalarTwoSources : (sf 0).rsv = 0 ∧ (ab 0x8000000000000000 0xFFFFFFFFFFFFFFFF).mayIssue x0 [.s 3, .s 1, .s 2] := by
  unfold State.mayIssue; decide +kernel
theorem wit_ScalarOneSource : (sf 5).rsv = 0 ∧ (ab 1 2).mayIssue x0 [.s 3, .s 1] ∧ (ab 1 2).mayIssue x0 [.s 3]
    ∧ (ab 1 2).mayIssue x0 [.s 3, .p 5] := by unfold State.mayIssue; decide +kernel
/-- The last bundle of the core store is a target; the address after it is not. -/
theorem wit_ScalarBranches : (((ab 1 1).thr 0 0).pc + 32 * (0xFFFD : BitVec 32).signExtend 64).toNat = 0x1FFFE0
    ∧ (ab 1 1).mayIssue x0 [] ∧ (ab 1 1).mayIssue x0 [.s 3] ∧ (ab 0x1FFFE0 1).mayIssue x0 [.s 1, .s 2]
    ∧ (0x1FFFE0 : W64).toNat < 0x200000 ∧ (0x1FFFE0 : W64).toNat % 32 = 0
    ∧ raises (exec (.sB x0 (sf 0xFFFE)) (ab 1 1)) 0x07 = true := by unfold State.mayIssue; decide +kernel
theorem wit_ScalarControl : (ab 0 0).mayIssue x0 [] ∧ (ab 0 0).test.lc ≠ 3 ∧ (ab 0 0).mayIssue x0 [.s 3] ∧ (sf 10).imm.toNat % 256 ≤ 10
    ∧ (ab 0xFF 0).mayIssue x0 [.s 1] ∧ (sf 1).imm.toNat % 256 = 1 := by unfold State.mayIssue; decide +kernel
/-- A write of RM 7 stores 0 (R94); BREAK is raised in SERVICE with a breakpoint. -/
theorem test_s_cwr_rm : after (exec (.sCwr x0 (sf 0)) (ab 0xFF 0)) (fun t => (t.thr 0 0).rm = 0 && (t.thr 0 0).flags = 0x1F) = true := by
  decide +kernel
theorem test_s_crd_reserved : raises (exec (.sCrd x0 (sf 0x0B)) (ab 0 0)) 0x01 = true := by decide +kernel

theorem wit_VectorInteger : (vf 7).type.toNat ≤ 7 ∧ (vf 0 1).imm.toNat < 2 ∧ (vv 1 2 3).mayIssue x0 ((vv 1 2 3).vc x0 (vf 7 1)).regs2
    ∧ (vv 1 2 3).mayIssue x0 (.v 3 :: ((vv 1 2 3).vc x0 (vf 7 1 false true)).regs2) ∧ (vv 1 2 3).mayIssue x0 ((vv 1 2 3).vc x0 (vf 7)).regs1 := by
  unfold State.mayIssue; decide +kernel
theorem wit_VectorFloat : (vf 10 0 true).type.toNat = 10 ∧ (vf 10 0 true).strict = true ∧ (vv 1 2 3).mayIssue x0 ((vv 1 2 3).vc x0 (vf 10 1 true)).regs2
    ∧ (vv 1 2 3).mayIssue x0 (.v 3 :: ((vv 1 2 3).vc x0 (vf 8 0)).regs2) ∧ (vv 1 2 3).mayIssue x0 ((vv 1 2 3).vc x0 (vf 9)).regs1
    ∧ (vf 9).type.toNat = 9 ∧ (vf 9).strict = false := by
  unfold State.mayIssue; decide +kernel
theorem wit_VectorMoves : (vf 11).type.toNat < 12 ∧ (vv 1 2 3).mayIssue x0 ((vv 1 2 3).vc x0 (vf 11 1)).regs2
    ∧ (vv 1 2 3).mayIssue x0 (.v 2 :: ((vv 1 2 3).vc x0 (vf 11 0 false true)).regs1)
    ∧ (vv 1 2 3).mayIssue x0 (.v 4 :: .s 5 :: ((vv 1 2 3).vc x0 (vf 11 511)).psrc) ∧ (vf 11 511).imm.toNat < 512
    ∧ (vv 1 2 3).mayIssue x0 [.v 1, .s 5] ∧ (vv 1 2 3).mayIssue x0 [] := by unfold State.mayIssue; decide +kernel
theorem wit_VectorPredicates : (vf 9 5).imm.toNat < 6 ∧ (vf 9 5).vd.toNat < 8 ∧ (vf 9 5).va.toNat < 8 ∧ (vf 9 5).vb.toNat < 8
    ∧ (vv 1 2 3).mayIssue x0 (.p 4 :: .v 1 :: .v 2 :: ((vv 1 2 3).vc x0 (vf 9 5)).psrc) ∧ (vv 1 2 3).mayIssue x0 [.p 4, .p 1, .p 2] := by
  unfold State.mayIssue; decide +kernel
theorem wit_VectorReductions : (vf 6).type.toNat ≤ 7 ∧ (vv 1 2 3).mayIssue x0 ((vv 1 2 3).vc x0 (vf 6)).regs1 := by
  unfold State.mayIssue; decide +kernel
/-- The highest triple starts at v29. -/
theorem wit_VectorMoments : (29 : BitVec 5).toNat ≤ 29 ∧ 4 + 3 ≤ (29 : Nat)
    ∧ (vv 1 2 3).mayIssue x0 (tripleRefs 4 ++ [.v 29] ++ ((vv 1 2 3).vc x0 ⟨9, false, false, 0, false, 4, 29, 0, 0, 0, 0, 0⟩).psrc)
    ∧ (vv 1 2 3).mayIssue x0 (tripleRefs 4 ++ tripleRefs 29) := by unfold State.mayIssue; decide +kernel
theorem wit_VectorConvert : (vf 8 0x17).imm.toNat < 32 ∧ (vf 8 0x17).type.toNat ≤ 9 ∧ (vf 8 0x17).imm.toNat % 16 ≤ 9
    ∧ (vv 1 2 3).mayIssue x0 ((vv 1 2 3).vc x0 (vf 8 0x17)).regs1 := by unfold State.mayIssue; decide +kernel
/-- QPOS 3 is the last part of W32. -/
theorem wit_VectorQuantize : ((vv 1 2 3).vc x0 (vf 9 0x30030)).qcheck = none ∧ (vv 1 2 3).mayIssue x0 ((vv 1 2 3).vc x0 (vf 9 0x30030)).regs1
    ∧ (vv 1 2 3).mayIssue x0 (.v 2 :: ((vv 1 2 3).vc x0 (vf 9 0x30030)).regs1) ∧ (vf 11 16).type.toNat = 11
    ∧ (vv 1 2 3).mayIssue x0 ((vv 1 2 3).vc x0 (vf 11 16)).regs1 := by unfold State.mayIssue; decide +kernel

def tiles : State := one { s := [(13, 0x1FFFF8)], t := [(2, tile)] }
theorem wit_MatrixSlots : td.mayIssue x0 [] ∧ td.mayIssue x0 [.t 2, .s 1] ∧ tfield (11 : BitVec 6).toNat = some (168, 149)
    ∧ tfield (24 : BitVec 6).toNat = some (244, 244) ∧ td.mayIssue x0 [.t 3, .t 2]
    ∧ tiles.mayIssue x0 [.t 2, .s 3, .s 4, .s 13] ∧ tileCause (tiles.arr 1) (tiles.tileReq (tileF 0 47) 0 0) = none
    ∧ (tiles.arr 1).queue.length < 4 ∧ tiles.rdB (rCoreStat 0) 5 = false
    ∧ after (exec (.mTile x0 (tileF 0 47)) tiles) (fun t => ((t.arr 1).queue.map (·.desc)) = [tile]) = true := by
  unfold State.mayIssue; decide +kernel

theorem wit_LocalLoads : mem8.mayIssue x0 [.s 1, .s 2] ∧ mem8.fenceClear x0 ∧ (72 + (0x1FFFB0 : BitVec 31).signExtend 64 : W64).toNat = 0x1FFFF8
    ∧ 0x1FFFF8 % 8 = 0 ∧ mem8.cleanAt (storeBase 0 + 0x1FFFF8) 8
    ∧ loaded (exec (.cLdd x0 ⟨1, 2, 0x1FFFB0⟩) mem8) 0 = true := by unfold State.mayIssue State.fenceClear State.cleanAt; decide +kernel
theorem wit_LocalStores : mem8.mayIssue x0 [.s 1, .s 2] ∧ mem8.fenceClear x0 ∧ mem8.memx.armed = none ∧ mem8.cleanAt (storeBase 0 + 64) 8 := by
  unfold State.mayIssue State.fenceClear State.cleanAt; decide +kernel

/-- s2 = 0x1FFE00: the last 512 bytes of the core store. -/
def wide : State := one { s := [(2, 0x1FFE00)], v := [(1, 5)], p := [(1, 1)], t := [(1, 9)] }
def cvf (a : BitVec 5) (pen : Bool) : CV := ⟨a, 2, pen, 1, 0, 0, 0⟩
theorem wit_WideAccesses : wide.fenceClear x0 ∧ wide.memx.armed = none ∧ 0x1FFE00 % 64 = 0 ∧ 0x1FFE00 + 512 ≤ 0x200000
    ∧ wide.cleanAt (storeBase 0 + 0x1FFE00) 512 ∧ wide.mayIssue x0 [.v 1, .s 2] ∧ wide.mayIssue x0 [.v 1, .s 2, .p 1]
    ∧ wide.mayIssue x0 [.p 1, .s 2] ∧ wide.mayIssue x0 [.t 1, .s 2] := by
  unfold State.mayIssue State.fenceClear State.cleanAt; decide +kernel
theorem test_c_vst_predicate : after (exec (.cVst x0 (cvf 1 true)) wide) (fun t => t.bytes (storeBase 0 + 0x1FFE00) 2 = [5, 0]) = true := by
  decide +kernel
/-- Lane 0 of the indices names the last element of the core store; the other lanes are off. -/
def gs : State := one { s := [(2, 0x1FFE00)], p := [(1, 1)], v := [(3, 63)] }
theorem wit_GatherScatter : (2 : BitVec 2).toNat ≠ 3 ∧ gs.fenceClear x0 ∧ gs.mayIssue x0 ([.s 2, .v 3, .v 1] ++ [.p 1])
    ∧ (∀ k < 64, ((gs.thr 0 0).preg 1).getLsbD k = true →
        ((gs.thr 0 0).sreg 2 + 32 * (0 : BitVec 20).signExtend 64 + BitVec.ofNat 64 (8 * lane ((gs.thr 0 0).vreg 3) 64 k)).toNat = 0x1FFFF8)
    ∧ gs.cleanAt (storeBase 0 + 0x1FFFF8) 8
    ∧ after (exec (.cVgth x0 ⟨1, 2, true, 1, 3, 2, 0⟩) gs) (fun t => (t.thr 0 0).outs.length = 1) = true := by
  unfold State.mayIssue State.fenceClear State.cleanAt; decide +kernel

/-- Partition 0 owns granule 0, larder page 0 and the logical cores 0 and 1 (physical cores 0 and 1); thread 0 of core 0 is its own. -/
def owned (y : Thread) : State :=
  (({ one y with spareMap := [(0, some 0), (1, some 1)]
                 parts := [(0, { st := .ready, cores := 3, gran := 1, lpage := 1 })] } : State).wrF (rMemGran 0) 11 8 0).wrF (rMemLpage 0) 3 0 0
theorem wit_GlobalAccesses : (owned { s := [(2, 8)] }).fenceClear x0 ∧ (owned { s := [(2, 8)] }).room 0 0
    ∧ (owned { s := [(2, 8)] }).mayIssue x0 [.s 1, .s 2] ∧ (owned { s := [(2, 8)] }).gTarget 0 8 = some (.mem 8)
    ∧ (owned { s := [(2, 8)] }).cleanAt 8 8 ∧ (owned { s := [(2, 8)] }).writeOk 0 0 = true
    ∧ (owned { s := [(2, 8)], epoch := 1 }).writeOk 0 0 = false ∧ (owned {}).gTarget 0 0x0102000003F0 = none
    ∧ (owned {}).gTarget 0 0x0102000002F8 = some (.latch 0 47 8) := by
  unfold State.mayIssue State.fenceClear State.cleanAt State.room; decide +kernel
/-- Core 1 is frozen: a load of its store waits, with nothing changed. -/
def frozenOne : State := (owned { s := [(2, 0x010100400008)] }).wrB (rCoreStat 1) 4 true
theorem wit_GlobalAccesses_frozen : frozenOne.gTarget 0 0x010100400008 = some (.mem 0x010100400008) ∧ frozenOne.frozenStore 0x010100400008 = true
    ∧ after (exec (.cGld x0 ⟨1, 2, 0⟩) frozenOne) (fun t => (t.thr 0 0).pc = 0 && (t.thr 0 0).outs = [] && (t.thr 0 0).st = .ready) = true := by
  decide +kernel
theorem test_c_gst_old_epoch : after (exec (.cGst x0 ⟨1, 2, 0⟩) (owned { s := [(1, 7), (2, 8)], epoch := 1 }))
    (fun t => t.bytes 8 8 = List.replicate 8 0 && t.rd rMemEpochDrop = 1) = true := by decide +kernel
theorem wit_LarderAtomics : (owned { s := [(2, 0x010000000008), (5, 7)] }).gTarget 0 0x010000000008 = some (.mem 0x010000000008)
    ∧ (larderOf 0x010000000008).isSome = true ∧ (owned { s := [(2, 0x010000000008), (5, 7)] }).cleanAt 0x010000000008 8
    ∧ (owned { s := [(2, 0x010000000008), (5, 7)] }).mayIssue x0 [.s 1, .s 2, .s 5] ∧ (owned { s := [(2, 0x010000000008), (5, 7)] }).room 0 0
    ∧ after (exec (.cFadd x0 ⟨1, 2, 5, 0⟩) (owned { s := [(2, 0x010000000008), (5, 7)] })) (fun t => t.bytes 0x010000000008 1 = [7]) = true := by
  unfold State.mayIssue State.cleanAt State.room; decide +kernel
theorem wit_Submissions : (owned { s := [(1, 0x1FFFC0)] }).fenceClear x0 ∧ (owned { s := [(1, 0x1FFFC0)] }).mayIssue x0 [.s 1]
    ∧ ((owned { s := [(1, 0x1FFFC0)] }).dmaq 3).length < 16 ∧ (owned { s := [(1, 0x1FFFC0)] }).cleanAt (storeBase 0 + 0x1FFFC0) 64
    ∧ (owned { s := [(1, 0x1FFFC0)] }).mayIssue x0 [.s 1, .s 2] ∧ (owned {}).latchAddrCause 0 0x0102000002F0 = none
    ∧ after (exec (.cDma x0 ⟨1, 2, 3, 0⟩) (owned { s := [(1, 0x1FFFC0)] })) (fun t => (t.dmaq 3).length = 1) = true := by
  unfold State.mayIssue State.fenceClear State.cleanAt; decide +kernel
theorem wit_LatchSlots : (owned { s := [(1, 0x010200000000)] }).waiters 0 47 = [] ∧ (owned {}).mayIssue x0 [.s 1, .s 2]
    ∧ lKind ((owned {}).latch 0 47) = 0 ∧ lBroken ((owned {}).latch 0 47) = false ∧ (6 : BitVec 4).toNat ≤ 6
    ∧ (owned {}).latchAddrCause 0 0x010200000000 = none ∧ (owned {}).releases.length < 256
    ∧ after (exec (.cLarr x0 ⟨1, 2, 47, 0, false, 0⟩) (owned { s := [(1, 0x010200000000)] })) (fun t => t.releases.length = 1) = true := by
  unfold State.mayIssue; decide +kernel

/-! ### Bundles, threads, cores -/

theorem wit_CauseStopsThread : (slotOut (.sJr x0 (sf 0)) (ab 33 0) 0 0).map (fun o => (o.cause, o.ready, o.load.isNone)) = some (some 6, true, true)
    ∧ (ab 33 0).mayIssue x0 [.s 1] ∧ (ab 33 0).fenceClear x0 ∧ ((ab 33 0).core 0).exc.length < 8 := by
  unfold State.mayIssue State.fenceClear; decide +kernel
/-- With eight records in the queue the ninth is dropped and counted. -/
theorem test_exception_queue_full :
    after (exec (.sJr x0 (sf 0)) { ab 33 0 with cores := [(0, { exc := List.replicate 8 ⟨6, 0, false, 1, 0, 0, 0, 0⟩ })] })
      (fun t => (t.core 0).exc.length = 8 && (t.core 0).dropped = 1 && (t.core 0).msgs = [⟨0, 6, 0, 0, 0⟩]) = true := by decide +kernel
theorem wit_BundleWaits : ((one {}).thr 0 1).st ≠ .ready ∧ ((one {}).thr 0 0).st = .ready ∧ (one {}).issues 0 = true
    ∧ after (exec (.sNop ⟨0, 0, true⟩ (sf 0)) (one {})) (fun t => (t.thr 0 0).bundle.length = 1) = true := by decide +kernel

def held (o : Outst) : State := one { outs := [o], s := [(1, 5)] }
theorem wit_ThreadLifecycle_returns : ((held { kind := .localLoad, poison := false, writes := [.s 1 9], pc := 0 }).thr 0 0).outs[0]?.isSome = true
    ∧ after (exec (.loadReturn 0 0 0) (held { kind := .localLoad, poison := false, writes := [.s 1 9], pc := 0 })) (fun t => (t.thr 0 0).sreg 1 = 9 && (t.thr 0 0).outs = []) = true
    ∧ after (exec (.loadReturn 0 0 0) (held { kind := .localLoad, poison := true, writes := [.s 1 9], pc := 0 })) (fun t => (t.thr 0 0).sreg 1 = 5 && (t.thr 0 0).st = .faulted)
      = true := by decide +kernel
theorem wit_ThreadLifecycle_hold : after (exec (.threadHold 0 0) (one {})) (fun t => (t.thr 0 0).st = .held && (t.thr 0 0).under = .ready) = true
    ∧ after (exec (.threadRelease 0 0) { threads := [(0, { st := .held, under := .parked })] }) (fun t => (t.thr 0 0).st = .parked) = true
    ∧ after (exec (.threadRelease 0 0) { threads := [(0, { st := .faulted, pc := 32 })] }) (fun t => (t.thr 0 0).st = .free) = true := by
  decide +kernel
/-- At exactly TIMEOUT beats the wait ends; one beat earlier it does not. -/
theorem wit_ThreadLifecycle_timeout :
    after (exec (.latchWaitTimeout 0 0) { threads := [(0, { st := .parked, wait := some ⟨3, 1, 1, 0, 2, 5⟩ })], beat := { count := 7 } })
      (fun t => (t.thr 0 0).st = .ready && (t.thr 0 0).wstat = 0x0503) = true
    ∧ after (exec (.latchWaitTimeout 0 0) { threads := [(0, { st := .parked, wait := some ⟨3, 1, 1, 0, 2, 5⟩ })], beat := { count := 6 } })
      (fun t => (t.thr 0 0).st = .parked) = true := by decide +kernel
theorem wit_ThreadLifecycle_gate : (State.reset.wrB (rCoreCtl 0) 0 true).rdB (rCoreCtl 0) 0 = true
    ∧ after (exec (.coreGate 0) ((List.range 4).foldl (fun s a => s.wrB (rArrStat a) 0 true) (State.reset.wrB (rCoreCtl 0) 0 true)))
      (fun t => t.rdB (rCoreStat 0) 0) = true := by decide +kernel
theorem wit_ExceptionAnswer : after (exec (.wcException 0 0) { threads := [(0, { st := .faulted })], cores := [(0, { msgs := [⟨0, 0x0A, 0, 0, 0⟩] })] })
      (fun t => (t.thr 0 0).st = .held && (t.thr 0 0).under = .ready) = true
    ∧ after (exec (.wcException 0 0) { threads := [(0, { st := .faulted })], cores := [(0, { msgs := [⟨0, 0x10, 0, 0, 0⟩] })] })
      (fun t => t.rdB (rCoreStat 0) 6) = true
    ∧ after (exec (.wcException 0 0) { threads := [(0, { st := .faulted })], cores := [(0, { msgs := [⟨0, 0x06, 0, 0, 0⟩] })] })
      (fun t => (t.thr 0 0).st = .free && (t.core 0).msgs = []) = true := by decide +kernel
theorem wit_CoreControl : (one {}).fenced 0 = false ∧ after (exec (.coreFence 0) (owned {})) (fun t => t.fenced 0 && t.epoch 0 = 1) = true
    ∧ after (exec (.coreHoldAll 0 true) (one {})) (fun t => (t.thr 0 0).st = .held) = true
    ∧ after (exec (.coreExc3Read 0) { cores := [(0, { exc := [⟨6, 0, false, 1, 0, 0, 0, 0x1234⟩] })] })
      (fun t => t.resp = [0x34, 0x12, 0, 0] && (t.core 0).exc = []) = true := by decide +kernel

/-- Logical core 0 on core 0, core 64 idle in the attic, core 0 draining. -/
def drained : State := ((List.range 4).foldl (fun s a => s.wrB (rArrStat a) 0 true)
  ({ spareMap := [(0, some 0)], regs := [] } : State)).wrB (rCoreStat 0) 5 true
theorem wit_HandOver_freeze : drained.logical 0 = some 0 ∧ drained.rdB (rCoreStat 0) 5 = true ∧ drained.fenced 0 = false
    ∧ drained.arraysIdle 0 = true ∧ (drained.spareFor 0).isSome = true ∧ (∀ t < 32, (drained.thr 0 t).outs = [])
    ∧ after (exec (.handoverFreeze 0) drained) (fun t => t.handovers.length = 1 && t.rdB (rCoreStat 0) 4) = true := by decide +kernel
theorem wit_HandOver_commit : after (exec (.handoverCommit 0) { drained with handovers := [⟨0, 0, 64, false, true, []⟩] })
      (fun t => t.phys 0 = some 64 && t.handovers = []) = true
    ∧ after (exec (.takeoverCommit 0) { drained with handovers := [⟨0, 0, 64, true, true, []⟩] }) (fun t => t.phys 0 = some 64) = true := by
  decide +kernel
theorem wit_HandOver_fault : after (exec (.faultTakeover 0 ⟨1, none⟩ []) drained) (fun t => t.fenced 0 && t.handovers.length = 1) = true
    ∧ ({ drained with cores := (span 1 71).map (fun k => (k, ({ retired := true } : Core))) } : State).spareFor 0 = none
    ∧ after (exec (.faultTakeover 0 ⟨1, none⟩ []) { drained with cores := (span 1 71).map (fun k => (k, ({ retired := true } : Core))) })
      (fun t => t.phys 0 = none) = true := by decide +kernel

/-! ### Arrays -/

def req : TileReq := (tiles.tileReq (tileF 0 47) 0 0)
def run0 : Running := { req, rows := [0], kLen := 1 }
/-- Its only output element is poisoned. -/
def run1 : Running := { run0 with done := true, poisM := [0] }
theorem wit_ArrayTiles_start : ({ arrays := [(1, { queue := [req] })] } : State).idleArray 1 = false
    ∧ req.half = 0 ∧ req.item = none ∧ (({} : State).arr 1).idle = true ∧ ({} : State).noErrors
    ∧ after (exec (.tileStart 1 0) { arrays := [(1, { queue := [req] })] }) (fun t => (t.arr 1).queue = [] && (t.arr 1).lo.isSome) = true := by
  unfold State.noErrors; decide +kernel
theorem wit_ArrayTiles_run : after (exec (.runComplete 1 0 0) { arrays := [(1, { lo := some run0 })] })
      (fun t => ((t.arr 1).lo.map (·.done)) = some true) = true
    ∧ after (exec (.runComplete 1 0 2) { arrays := [(1, { lo := some run0 })] }) (fun t => ((t.arr 1).lo.map (·.failed)) = some 2) = true := by
  decide +kernel
/-- A poisoned tile is not written, and its latch rises by one. -/
theorem wit_ArrayTiles_poison : after (exec (.tileEnd 1 ⟨0, false⟩) { arrays := [(1, { lo := some { run1 with req := { req with oen := false } } })] })
      (fun t => t.mem = [] && bitAt (t.rd (rArrErr 1)) 3 && lValue (t.latch 0 47) = 1) = true := by decide +kernel
/-- OUTCOME 0x02 of a poisoned tile is written at SOUT (R238). -/
theorem test_tile_outcome_poison : after (exec (.tileEnd 1 ⟨0, false⟩) { arrays := [(1, { lo := some run1 })] })
      (fun t => t.bytes 0x0101001FFFF8 8 = [2, 0, 0, 0, 0, 0, 0, 0]) = true := by decide +kernel
/-- 2 × 3 = 6 in W32, and the outcome word is zero. -/
theorem test_tile_product : after (exec (.tileStart 1 0) { arrays := [(1, { queue := [req] })], mem := [(0x010100000003, 0x40), (0x010100000042, 0x40), (0x010100000043, 0x40)] })
    (fun t => after (exec (.runComplete 1 0 0) t) (fun t => after (exec (.tileEnd 1 ⟨0, false⟩) t)
      (fun t => t.bytes 0x010100000080 4 = [0, 0, 0xC0, 0x40] && t.bytes 0x0101001FFFF8 8 = zeros 8))) = true := by decide +kernel
/-- A failed check marked array 1. -/
def suspect1 : State := { arrays := [(1, { suspect := true })] }
theorem wit_ArrayTiles_registers : after (exec (.arrRemapWrite 1 0x81) { arrays := [(1, { lo := some run0 })] })
      (fun t => (t.arr 1).remap = 0 && t.rd (rArrRemap 1) = 0x81) = true
    ∧ after (exec (.arrRemapWrite 1 0x81) {}) (fun t => t.rd (rArrRemap 1) = 0x81) = true
    ∧ ({ test := { lc := 3 } } : State).test.lc = 3 ∧ after (exec (.arrInjArm 1 0xFFFFFFFF) {}) (fun t => t.regs = []) = true
    ∧ (suspect1.arr 1).bad = true ∧ (suspect1.arr 1).idle = true ∧ (suspect1.arr 1).remap = 0
    ∧ after (exec (.arrayTest 1 [63] []) suspect1) (fun t => bf (t.rd (rArrRemap 1)) 11 6 = 63 && !(t.arr 1).bad) = true
    ∧ after (exec (.arrInjArm 1 0xFFFFFFFF) { test := { lc := 3 } }) (fun t => t.rd (rArrInj 1) = 0x83FFFF01) = true := by
  decide +kernel

/-! ### Commands -/

def tensor (base fmt : Nat) : List Byte := leBytes 8 base ++ zeros 12 ++ leBytes 1 fmt ++ zeros 11
/-- The operation block of R259. -/
def opblock (rows cols axis accf desc xrows : Nat) : List Byte :=
  leBytes 4 rows ++ leBytes 4 cols ++ leBytes 1 axis ++ leBytes 1 accf ++ zeros 1 ++ leBytes 1 desc ++ zeros 12 ++ leBytes 4 xrows ++ zeros 4
def cmdOf (op : Nat) (param : List Byte) : Cmd := { ring := 0, dcount := 0, part := 0, desc := leBytes 1 op ++ zeros 63, param }
/-- One taken command of partition 0; memory holds the words l from address 0. -/
def live (k : Cmd) (l : List Nat) : State :=
  { owned {} with
    cmds := [k]
    threads := []
    rings := [(0, { st := .running, log2e := 4, tail := 1, head := 1 })]
    mem := ((l.flatMap (fun v => leBytes 4 v)).zipIdx.map (fun x => (x.2, x.1))).filter (fun x => x.2 ≠ 0) }
/-- The command has written its destination, which holds the words l at address a. -/
def wrote (o : Host.Outcome State Fault Refusal) (a : Nat) (l : List Nat) : Bool :=
  after o (fun t => ((t.cmd 0 0).map (·.phase)) = some .written && t.bytes a (4 * l.length) = l.flatMap (fun v => leBytes 4 v))

def two : List Nat := [0x3F800000, 0x40000000]
def src2 (op accf : Nat) (dst : Nat := 7) : Cmd := cmdOf op (opblock 1 2 0 accf 0 0 ++ tensor 0 7 ++ tensor 64 dst)

theorem wit_StartRule : (live (src2 3 7) two).cmd 0 0 = some (src2 3 7) ∧ (src2 3 7).opcode ≠ 4 ∧ (src2 3 7).opcode = 3
    ∧ ({ live (src2 3 7) two with parts := [(0, { st := .ready, stopped := true })] } : State).gate (src2 3 7) = .wait
    ∧ (live { src2 3 7 with desc := [3, 2] ++ zeros 10 ++ [0x80] ++ zeros 51 } two).gate { src2 3 7 with desc := [3, 2] ++ zeros 10 ++ [0x80] ++ zeros 51 }
        = .fail eSyncLatchBounds := by decide +kernel
theorem test_wait_latch_outside : after (exec (.convert 0 0) (live { src2 3 7 with desc := [3, 2] ++ zeros 10 ++ [0x80] ++ zeros 51 } two))
    (fun t => ((t.cmd 0 0).map (·.phase)) = some .failed && (t.ring 0).st = .halted) = true := by decide +kernel
theorem wit_MovingCommands : (live (src2 4 0) two).noErrors ∧ (live (src2 4 0) two).noTrace 0 ∧ (live (cmdOf 0 (zeros 32)) two).startable 0 0 0 (cmdOf 0 (zeros 32))
    ∧ (live (src2 4 0) two).startable 0 0 4 (src2 4 0) ∧ (src2 4 0).remoteD = false ∧ oneMemory 0 8 ∧ oneMemory 64 8 := by
  unfold State.noErrors State.noTrace State.startable oneMemory; decide +kernel
theorem test_copy : wrote (exec (.copy 0 0) (live (src2 4 0) two)) 64 two = true := by decide +kernel
theorem test_nop : wrote (exec (.nop 0 0) (live (cmdOf 0 (zeros 32)) two)) 0 two = true := by decide +kernel
theorem test_fill : wrote (exec (.fill 0 0) (live (cmdOf 5 (opblock 1 2 0 0 0 0 ++ leBytes 8 64 ++ zeros 12 ++ [7, 0, 0, 1] ++ leBytes 4 0x12345678 ++ zeros 4)) []))
    64 [0x12345678, 0x12345678] = true := by decide +kernel
theorem wit_ValueCommands : (live (src2 8 7) two).startable 0 0 8 (src2 8 7) ∧ (live (src2 3 7) two).startable 0 0 3 (src2 3 7)
    ∧ (live (src2 2 7) two).startable 0 0 2 (src2 2 7) ∧ (src2 2 7).adapt = false ∧ (live (src2 0xC 7) two).startable 0 0 0xC (src2 0xC 7)
    ∧ (src2 0xC 7).outs = 1 ∧ oneMemory 64 12 := by unfold State.startable oneMemory; decide +kernel
theorem test_convert_h16 : wrote (exec (.convert 0 0) (live (src2 3 7 6) two)) 64 [0x40003F00] = true := by decide +kernel
theorem test_reduce_sum : wrote (exec (.reduceSum 0 0) (live (src2 8 7) two)) 64 [0x40400000] = true := by decide +kernel
theorem test_reduce_ssq : wrote (exec (.reduceSsq 0 0) (live (src2 9 7) two)) 64 [0x40A00000] = true := by decide +kernel
theorem test_reduce_max_nan : wrote (exec (.reduceMax 0 0) (live (src2 0xA 7) [0x7FC00000, 0xBF800000])) 64 [0xBF800000] = true := by decide +kernel
theorem test_reduce_min_zero : wrote (exec (.reduceMin 0 0) (live (src2 0xB 7) [0, 0x80000000])) 64 [0x80000000] = true := by decide +kernel
/-- The elements 2 and 4 of R223's example: count 2, mean 3, M2 2. -/
theorem test_moments : wrote (exec (.moments 0 0) (live (src2 0xC 7) [0x40000000, 0x40800000])) 64 [2, 0x40400000, 0x40000000] = true := by
  decide +kernel
def sort2 (desc : Nat) : Cmd := cmdOf 0x10 (opblock 1 2 0 0 desc 0 ++ tensor 0 7 ++ tensor 64 7 ++ tensor 128 0)
theorem test_sort : wrote (exec (.sort 0 0) (live (sort2 0) [0x40000000, 0x3F800000])) 64 two = true
    ∧ wrote (exec (.sort 0 0) (live (sort2 0) [0x40000000, 0x3F800000])) 128 [1, 0] = true := by decide +kernel
theorem test_sort_nan_last : wrote (exec (.sort 0 0) (live (sort2 1) [0x7FC00000, 0x3F800000])) 64 [0x3F800000, 0x7FC00000] = true := by decide +kernel
def gather2 : Cmd := cmdOf 0x11 (opblock 2 1 0 0 0 2 ++ tensor 0 7 ++ tensor 32 0 ++ tensor 64 7)
def idx2 (a b : Nat) : List Nat := two ++ [0, 0, 0, 0, 0, 0, a, b]
theorem test_gather : wrote (exec (.gather 0 0) (live gather2 (idx2 1 0))) 64 [0x40000000, 0x3F800000] = true := by decide +kernel
theorem test_gather_range : after (exec (.gather 0 0) (live gather2 (idx2 1 2))) (fun t => t.bytes 64 8 = leBytes 4 0x40000000 ++ zeros 4
    && ((t.cmd 0 0).map (fun k => (k.err, k.detail))) = some (0x010D, 1)) = true := by decide +kernel
def scatter2 : Cmd := cmdOf 0x12 (opblock 2 1 0 0 0 1 ++ tensor 0 7 ++ tensor 32 0 ++ tensor 64 7)
theorem test_scatter_add : wrote (exec (.scatterAdd 0 0) (live scatter2 (idx2 0 0))) 64 [0x40400000] = true := by decide +kernel

/-- X = (2), W = (3), D = (6) in W32. -/
def mm (parts : Nat) : Cmd :=
  cmdOf 1 (leBytes 4 1 ++ leBytes 4 1 ++ leBytes 4 1 ++ leBytes 3 0 ++ leBytes 1 parts ++ zeros 16 ++ tensor 0 7 ++ tensor 4 7 ++ tensor 64 7)
def kern : Cmd := cmdOf 0x18 (leBytes 8 1024 ++ leBytes 4 1 ++ leBytes 4 2 ++ leBytes 4 5 ++ leBytes 4 64 ++ leBytes 8 2048)
theorem wit_IndexedCommands : (live (sort2 0) two).startable 0 0 0x10 (sort2 0) ∧ (live gather2 (idx2 1 0)).startable 0 0 0x11 gather2
    ∧ (live scatter2 (idx2 0 0)).startable 0 0 0x12 scatter2 ∧ (mm 1).mParts = 1 ∧ 2 ≤ (mm 2).mParts ∧ (live (mm 1) [0x40000000, 0x40400000]).startable 0 0 1 (mm 1)
    ∧ (live kern []).startable 0 0 0x18 kern ∧ (live kern []).freeTable + 32 ≤ dramEnd := by unfold State.startable; decide +kernel
/-- One item with MROWS 1 and NCOLS 1, SMASK bit 0; its counter NEXT 0, LIMIT 1 (R282, R283). -/
theorem test_matmul_opens : after (exec (.matmul 0 0) (live (mm 1) [0x40000000, 0x40400000])) (fun t => match t.cmd 0 0 with
    | some k => k.phase = .running && t.bytes k.tab 32 = zeros 4 ++ [1, 0, 1] ++ zeros 9 ++ [1] ++ zeros 15
        && t.bytes k.counterE 16 = zeros 8 ++ [1] ++ zeros 7 && t.bytes (k.counterE + 16) 8 = leBytes 8 k.tab
    | none => false) = true := by decide +kernel
/-- The MATMUL with its table in memory and one of two items claimed: a thread of core 0 takes the other one. -/
def mmRun : State := { live { mm 2 with phase := .running, tab := 4096, items := 2, counterE := 0x010005800000 } [] with
  mem := [(4100, 1), (4102, 1), (4112, 1), (4132, 1), (4134, 1), (4142, 1), (4144, 1), (0x010005800000, 1), (0x010005800008, 2)] }
theorem test_thread_claims : after (exec (.threadStart 0 1 0 0) mmRun) (fun t => (t.thr 0 1).st = .parked
    && ((t.arr 0).queue.map (fun q => (q.item, q.core, q.thread, q.half))) = [(some 1, 0, 1, 0)] && t.bytes 0x010005800000 8 = leBytes 8 2) = true := by
  decide +kernel

theorem test_kernel_opens : after (exec (.kernel 0 0) (live kern [])) (fun t => ((t.cmd 0 0).map (fun k => (k.items, decide (k.counterE = 0), k.counterW))) = some (5, false, 0)) = true := by decide +kernel
/-- A running KERNEL whose program is on core 0: the thread starts at LOADAT with its counter's address in s1 and the limit in s2 (R261). -/
def kernRun : State := { live { kern with phase := .running, counterE := 0x010005F80000, loaded := [0] } [] with
  threads := [], mem := [(0x010005F80008, 5)] }
theorem wit_ThreadLifecycle_start : after (exec (.threadStart 0 1 0 0) kernRun)
    (fun t => (t.thr 0 1).st = .ready && (t.thr 0 1).pc = 64 && (t.thr 0 1).sreg 1 = 0x010005F80000 && (t.thr 0 1).sreg 2 = 5) = true
    ∧ after (exec (.threadStart 0 2 0 0) kernRun) (fun t => (t.thr 0 2).st = .free) = true := by decide +kernel
theorem wit_WaitTimeout : after (exec (.commandWaitTimeout 0 0) { live { src2 3 7 with desc := [3, 2] ++ zeros 14 ++ [1] ++ zeros 3 ++ [5] ++ zeros 43 } two with
        beat := { count := 5 } }) (fun t => ((t.cmd 0 0).map (·.err)) = some 0x0503) = true
    ∧ after (exec (.commandWaitTimeout 0 0) { live { src2 3 7 with desc := [3, 2] ++ zeros 14 ++ [1] ++ zeros 3 ++ [5] ++ zeros 43 } two with
        beat := { count := 4 } }) (fun t => ((t.cmd 0 0).map (·.phase)) = some .taken) = true := by decide +kernel
/-- Host bytes of a NOP: the command waits, or is refused for a reserved FLAGS value. -/
theorem wit_DescriptorTake : after (exec (.descriptorTake 0 (zeros 24 ++ leBytes 8 4096 ++ zeros 24 ++ [1])) { owned {} with rings := [(0, { st := .running, log2e := 4, tail := 1 })] })
      (fun t => (t.ring 0).head = 1 && ((t.cmd 0 0).map (fun k => (k.phase, k.part))) = some (.taken, 0)) = true
    ∧ after (exec (.descriptorTake 0 [0, 0xA0]) { owned {} with rings := [(0, { st := .running, log2e := 4, tail := 1 })] })
      (fun t => ((t.cmd 0 0).map (fun k => (k.phase, k.err, k.detail, k.refused))) = some (.failed, eDescInvalid, 1, true)) = true
    ∧ after (exec (.descriptorTake 0 []) { owned {} with rings := [(0, { st := .running, log2e := 4 })] }) (fun t => t.cmds = []) = true := by
  decide +kernel
def doneNop : Cmd := { cmdOf 0 (zeros 32) with phase := .written, desc := zeros 4 ++ [0x78, 0x56, 0x34, 0x12] ++ zeros 56 }
theorem wit_CommandCompletes : (live doneNop []).mayComplete doneNop = true ∧ (live (cmdOf 0 []) []).mayComplete (cmdOf 0 []) = false
    ∧ after (exec (.commandComplete 0 0) (live doneNop [])) (fun t => t.cmds = [] && (t.ring 0).written = 1
      && (tget (fun _ => 0) t.host.mem 0 = 0x78 || tget (fun _ => 0) t.host.mem 4 = 0x78 || tget (fun _ => 0) t.host.mem 8 = 0x78)) = true := by decide +kernel
/-- Item 0 of a finished command ran on logical core 0; core 1 runs it again. -/
def chk (st re : Nat) (reSig : W64) : Cmd := { doneNop with checks := [{ item := 0, first := 0, re, sig := 5, reSig, st }] }
def checked (st re : Nat) (reSig : W64) : State := live (chk st re reSig) []
theorem wit_CheckedItems : (checked 2 0 0).mayRerun (chk 2 0 0) 1 [0] = some 1 ∧ (checked 1 1 6).mayRerun (chk 1 1 6) 1 [0, 1] = some 1
    ∧ after (exec (.checkReexec 0 0 0 1 5) (checked 2 0 0)) (fun t => ((t.cmd 0 0).map (fun k => (k.reexec, k.checks.map (·.st)))) = some (1, [0])) = true
    ∧ after (exec (.checkReexec 0 0 0 1 6) (checked 2 0 0)) (fun t => ((t.cmd 0 0).map (fun k => k.checks.map (fun y => (y.st, y.reSig)))) = some [(1, 6)]) = true
    ∧ after (exec (.thirdExecution 0 0 0 1 6) (checked 1 1 6)) (fun t => ((t.cmd 0 0).map (fun k => k.checks.map (·.st))) = some [0]) = true
    ∧ after (exec (.thirdExecution 0 0 0 1 7) (checked 1 1 6)) (fun t => ((t.cmd 0 0).map (fun k => (k.phase, k.err))) = some (.failed, eCheckMismatch)) = true := by
  decide +kernel
/-- Two parts, 2 and 3 in W48 at SCRATCH 0, every item claimed: D becomes 5 (R271). -/
def split : Cmd := { mm 2 with phase := .running, tab := 4096 }
def splitS : State := live split [0, 0x4000, 0x40080000]
theorem wit_CheckedItems_split : splitS.allClaimed split = true ∧ splitS.frozenPart 0 = false ∧ splitS.threadsEnded 0 0 = true
    ∧ splitS.opsEnded 0 0 = true ∧ (mGroups split.segments).length = 1 ∧ wrote (exec (.kSplitCombine 0 0) splitS) 64 [0x40A00000] = true := by decide +kernel
/-- Item 3 of a KERNEL ran on logical core 0; core 1 runs it from a one-item record. -/
def again : State := { live { kern with phase := .running, toReissue := [⟨3, 0, 0, 0⟩] } [] with threads := [] }
theorem wit_ItemReissue : again.logical 1 = some 1 ∧ again.coreOpen 1 = true ∧ (again.arr 4).bad = false
    ∧ after (exec (.itemReissue 0 0 3 1 0) again)
    (fun t => ((t.cmd 0 0).map (fun k => (k.reissued, k.toReissue, k.recs.length))) = some (1, [], 1) && (t.thr 1 0).st = .ready) = true := by decide +kernel

/-! ### DMA (R314 to R319) -/

/-- 8 bytes from address 0 to address 256. -/
def dd (flags : Nat) (dst : Nat := 256) : List Byte := leBytes 8 0 ++ leBytes 8 dst ++ leBytes 4 8 ++ leBytes 4 1 ++ zeros 9 ++ leBytes 1 flags ++ zeros 30
def job (b : List Byte) : DmaJob := { desc := b, post := none, part := 0, core := 0, lcore := 0, thread := 0, ring := 0, dcount := 0, epoch := 0, checkrun := false }
def dmaS (j : DmaJob) : State := { live doneNop two with dma := [(1, [j])] }
theorem wit_DmaMoves : (dmaS (job (dd 0))).dmaError 0 (dmaD (dd 0)) = none ∧ (dmaS (job (dd 0))).jobStale (job (dd 0)) = false
    ∧ (dmaS (job (dd 0))).partRange 0 256 8 = some 256 ∧ (dmaS (job (dd 0))).dmaSrc 0 0 8 = some (.mem 0)
    ∧ (dmaS (job (dd 0))).dmaError 0 (dmaD (dd 0 (2 ^ 30))) = some eMemBounds := by decide +kernel
theorem test_dma_start : after (exec (.dmaStart 0 1) (dmaS (job (dd 0)))) (fun t => t.bytes 256 8 = two.flatMap (fun v => leBytes 4 v)) = true
    ∧ after (exec (.dmaStart 0 1) (dmaS (job (dd 0 (2 ^ 30))))) (fun t => ((t.dmaq 1).map (·.err)) = [eMemBounds]) = true := by decide +kernel
theorem test_dma_complete : after (exec (.dmaComplete 0 1) (dmaS { job (dd 4) with started := true, bytes := 8 }))
    (fun t => t.dmaq 1 = [] && t.bytes (storeBase 0) 8 = [0, 0, 0, 0, 8, 0, 0, 0]) = true
    ∧ after (exec (.dmaComplete 0 1) { dmaS { job (dd 0) with started := true, err := eMemBounds } with cmds := [{ doneNop with phase := .running }] })
    (fun t => ((t.cmd 0 0).map (·.err)) = some eMemBounds) = true := by decide +kernel

/-! ### Worked examples of the manual -/

/-- The block of eight W32 values into Q8e, MODE 2, b = 8 (chapter Number Formats): scale 0x81 and eight codes; one element lost. -/
def q8 : Cmd := cmdOf 2 (opblock 1 8 0 0 0 0 ++ tensor 0 7 ++ (leBytes 8 64 ++ leBytes 8 96 ++ zeros 4 ++ [3, 0x10] ++ zeros 10))
theorem test_example_q8e_block : after (exec (.quantize 0 0)
      (live q8 [0x42880000, 0xBF400000, 0x42C90000, 0x3C100000, 0, 0xC49C4000, 0x40EA0000, 0x39D00000]))
    (fun t => t.bytes 96 1 = [0x81] && t.bytes 64 8 = [0x58, 0xA4, 0x5D, 0x01, 0x00, 0xFA, 0x3F, 0x00]
      && t.cmds.map (fun (k : Cmd) => (k.lost, k.sat)) = [(1, 0)]) = true := by decide +kernel
/-- The single conversions to H16: a tie, a flush, and tininess after rounding. -/
theorem test_example_h16 : (encFast 6 (wideVal 7 true 0x3F80C000) = 0x3F02 ∧ encFast 6 (wideVal 7 true 0x1C400000) = 0)
    ∧ encFast 6 (wideVal 7 true 0x207FC000) = 0x0100 := by decide +kernel
/-- Q8r code 0xC5 in a block of scale 0x7A is −0.15625, in W32 0xBE200000. -/
theorem test_example_q8r : encFast 7 (fmtVal 4 true 0x7A 0 0xC5) = 0xBE200000 := by decide +kernel
/-- W32 1.3125 to Q4i, scale 0x7E, z = −2: code 1. -/
theorem test_example_q4i : (encQ 0 0x7E (-2) (wideVal 7 true 0x3FA80000)).code = 1 := by decide +kernel

/-- One element, two segments (chapter Matrix Arrays): X in Q8e with scales along k, b = 8; W in Q8i, b = 16; D in W32. -/
def seg2 (df : Nat) : Cmd :=
  cmdOf 1 (leBytes 4 1 ++ leBytes 4 1 ++ leBytes 4 16 ++ zeros 20 ++ (leBytes 8 0 ++ leBytes 8 32 ++ zeros 4 ++ [3, 8] ++ zeros 10)
    ++ (leBytes 8 16 ++ leBytes 8 40 ++ zeros 4 ++ [5, 9] ++ zeros 10) ++ tensor 64 df)
/-- X at 0, W at 16, the scales of X at 32 and of W at 40. -/
def segMem : List Nat := [0x0000A83C, 0, 0x38, 0, 0x0364, 0, 0x01, 0, 0xA082, 0, 0x75]
/-- The command's one tile stands in the queue of array 0, its table entry at 4096. -/
def queued (k : Cmd) (l : List Nat) : State :=
  let k := { k with phase := .running, tab := 4096, items := 1 }
  let s := live k l
  { s with mem := s.mem ++ [(4100, 1), (4102, 1), (4112, 1)]
           arrays := [(0, { queue := (k.plan 1).map (fun x => s.itemReq 0 0 k 0 0 x.1) })] }
/-- The tile is staged, runs n times and ends. -/
def tiled (n : Nat) (s : State) (p : State → Bool) : Bool :=
  after (exec (.tileStart 0 0) s) (fun s =>
    after ((List.range n).foldl (fun o _ => match o with
        | .next s => exec (.runComplete 0 0 0) s
        | o => o) (.next s)) (fun s => after (exec (.tileEnd 0 ⟨0, false⟩) s) p))
theorem test_example_two_segments : tiled 1 (queued (seg2 7) segMem) (fun t => t.bytes 64 4 = leBytes 4 0x4B000001) = true := by decide +kernel
theorem test_example_two_segments_h16 : tiled 1 (queued (seg2 6) segMem) (fun t => t.bytes 64 2 = leBytes 2 0x5600) = true := by decide +kernel
/-- 2 × 3 = 6. -/
theorem test_matmul : tiled 1 (queued (mm 1) [0x40000000, 0x40400000]) (fun t => t.bytes 64 4 = leBytes 4 0x40C00000) = true := by decide +kernel
/-- A run total beyond W32 is replayed: W48 0x47F400000000, one element-run counted; in W32 it is infinity. -/
def replayMm (df : Nat) : Cmd :=
  cmdOf 1 (leBytes 4 1 ++ leBytes 4 1 ++ leBytes 4 16 ++ zeros 20 ++ (leBytes 8 0 ++ leBytes 8 32 ++ zeros 4 ++ [3, 8] ++ zeros 10)
    ++ tensor 16 3 ++ tensor 64 df)
def replayMem : List Nat := [0x3C, 0, 0x38, 0, 0x38, 0, 0x38, 0, 0xFEFE]
theorem test_example_replay : tiled 2 (queued (replayMm 8) replayMem) (fun t => t.bytes 64 6 = leBytes 6 0x47F400000000
    && t.cmds.map (fun (k : Cmd) => k.replays) = [1]) = true := by decide +kernel
theorem test_example_replay_w32 : tiled 2 (queued (replayMm 7) replayMem) (fun t => t.bytes 64 4 = leBytes 4 0x7F800000) = true := by decide +kernel
/-- A failed checksum test: nothing is written, the array is SUSPECT and the command holds the failure (R140, R141). -/
theorem test_tile_check_fails : after (exec (.tileStart 0 0) (queued (mm 1) [0x40000000, 0x40400000])) (fun s =>
    after (exec (.runComplete 0 0 1) s) (fun s => after (exec (.tileEnd 0 ⟨0, false⟩) s) (fun t => t.bytes 64 4 = zeros 4 && (t.arr 0).suspect
      && t.cmds.map (fun (k : Cmd) => k.tileFails.length) = [1]))) = true := by decide +kernel
/-- The tree is part of the result: 2^40, 1, −2^40 and 1 give 1 in sequence and 0 in pairs. -/
def treeS (tree : Nat) : State :=
  { live { cmdOf 1 (leBytes 4 1 ++ leBytes 4 1 ++ leBytes 4 256 ++ zeros 3 ++ leBytes 1 4 ++ leBytes 1 tree ++ zeros 15 ++ tensor 512 6 ++ tensor 1024 6
             ++ tensor 64 7) with phase := .running, tab := 4096 } [] with
    mem := ((leBytes 6 0x427000000000 ++ leBytes 6 0x3FF000000000 ++ leBytes 6 0xC27000000000 ++ leBytes 6 0x3FF000000000).zipIdx.map
      (fun x => (x.2, x.1))).filter (fun x => x.2 ≠ 0) }
theorem test_example_tree : wrote (exec (.kSplitCombine 0 0) (treeS 0)) 64 [0x3F800000] = true
    ∧ wrote (exec (.kSplitCombine 0 0) (treeS 1)) 64 [0] = true := by decide +kernel
/-- The worked decode: address 0x0012_3456_7A40 lies in stack 0 of a spread granule. -/
theorem test_example_decode : State.reset.stackOf 0x001234567A40 = 0 := by decide +kernel

/-! ### Memory -/

theorem wit_HostMemory : (owned {}).bar2Target 0 8 = none
    ∧ ({ owned {} with host := { bar2 := [(511, some (0, 0))] } } : State).bar2Target (512 * 2 ^ 30 - 8) 8 = some (0, 2 ^ 30 - 8)
    ∧ ({ owned {} with host := { bar2 := [(511, some (0, 0))] } } : State).bar2Target (512 * 2 ^ 30 - 7) 8 = none
    ∧ ((owned {}).wrB rMemInit 31 true).memReady (2 ^ 30 - 8) = true ∧ oneMemory (2 ^ 30 - 8) 8 ∧ (owned {}).noErrors := by
  unfold State.noErrors oneMemory; decide +kernel
theorem test_bar2_write : after (exec (.bar2Write 0 [1, 2]) { (owned {}).wrB rMemInit 31 true with host := { bar2 := [(0, some (0, 0))] } })
      (fun t => t.bytes 0 3 = [1, 2, 0]) = true
    ∧ after (exec (.bar2Write 0 [1, 2]) { owned {} with host := { bar2 := [(0, some (1, 0))] } }) (fun t => t.mem = [] && t.host.log.length = 1) = true := by
  decide +kernel
/-- Column 0x07 is data bit 0, column 0x0B data bit 1 (R320): a difference of 0x0B is corrected in bit 1. -/
theorem wit_ScrubCorrects : State.reset.rdB rMemScrub 31 = true ∧ State.reset.resolve 0x0101001FFFF8 = .mem 0x0101001FFFF8
    ∧ State.reset.resolve 0x010000000000 = .mem 0x010000000000 ∧ hsiaoCols.findIdx? (fun c => c = 0x0B) = some 1
    ∧ hsiaoCols.findIdx? (fun c => c = 0x03) = none ∧ (∀ j < 8, 2 ^ j ≠ 0x03) := by decide +kernel
/-- After the power-on fill (R329). -/
def filled (s : State) : State := s.wrB rMemInit 31 true
theorem test_scrub_corrects : after (exec (.scrubRead 0x010000000000) (filled { ecc := [(0x010000000000, 0x0B)], mem := [(0x010000000000, 7)] }))
      (fun t => t.ecc = [] && t.byte 0x010000000000 = 5) = true
    ∧ after (exec (.scrubRead 0x010000000000) (filled { ecc := [(0x010000000000, 0x03)], mem := [(0x010000000000, 7)] }))
      (fun t => t.delta 0x010000000000 = 0x700 && t.byte 0x010000000000 = 7) = true := by decide +kernel
theorem wit_MemorySpares_erase : State.reset.chanSt 7 15 = 0 ∧ State.reset.erasedChan 7 = none ∧ (∀ d < 20, State.reset.chanSt 7 d ≠ 2)
    ∧ (∃ d < 20, State.reset.chanSt 7 d = 3)
    ∧ after (exec (.spareEraseRebuild 7 15) {}) (fun t => t.chanSt 7 15 = 1 && (List.range 20).any (fun d => t.chanSt 7 d = 2)) = true := by decide +kernel
theorem wit_MemorySpares_rebuild : after (exec (.spareEraseOnly 7 15) {}) (fun s => s.chanSt 7 15 = 1 && s.erasedChan 7 = some (15, true)
      && after (exec (.spareStartRebuild 7 15) s) (fun t => (List.range 20).any (fun d => t.chanSt 7 d = 2)
        && after (exec (.rebuildEnd 7) t) (fun u => u.chanSt 7 15 = 4))) = true := by decide +kernel
theorem wit_MemorySpares_rows : State.reset.rdF (rMemChan 159) 9 0 ≠ 0 ∧ tget (fun _ => 0) State.reset.memx.redundancy (1024 * 1 + 47) < 8
    ∧ tget (fun _ => 0) State.reset.memx.redundancy (4096 + 1024 * 143 + 63) < 4
    ∧ after (exec (.rowRemap 7 19 65535) {}) (fun t => t.rdF (rMemChan 159) 9 0 + 1 = State.reset.rdF (rMemChan 159) 9 0) = true
    ∧ after (exec (.bucketLeak 319) (State.reset.wrF (rEccBkt 319) 23 16 3)) (fun t => t.rdF (rEccBkt 319) 23 16 = 2) = true
    ∧ after (exec .memEpochDropRead (State.reset.wr rMemEpochDrop 7)) (fun t => t.resp = [7, 0, 0, 0] && t.rd rMemEpochDrop = 0) = true := by decide +kernel
/-- Granule 382 is the last one a partition may own. With 384 granules R308 leaves each wing exactly full, so a single write fits only where
one granule is out of balance. -/
def near1 : State := State.reset.wrF (rMemGran 382) 5 4 1
theorem wit_GranulesAndChecker : granMode (bf (0xF00 : W32) 5 4) ≠ granMode (near1.modeOf 382) ∧ near1.rdF (rMemGran 382) 11 8 = 0xF
    ∧ near1.rdB (rMemGran 382) 3 = false ∧ modesFit (fun h => if h = 382 then 0 else near1.modeOf h) = true
    ∧ after (exec (.granModeChange 382 0xF00) near1) (fun t => t.modeOf 382 = 0 && t.rdB (rMemGran 382) 3) = true
    ∧ after (exec (.granModeChange 382 0x710) {}) (fun t => t.modeOf 382 = 0) = true
    ∧ after (exec (.granModeChange 0 0x10) (owned {})) (fun t => t.modeOf 0 = 0) = true
    ∧ after (exec (.granModeChange 382 0x700) {}) (fun t => t.rdF (rMemGran 382) 11 8 = 7) = true := by decide +kernel
theorem test_refill_end : after (exec (.refillEnd 1) { State.reset.wrB (rMemGran 1) 3 true with mem := [(2 ^ 30 - 1, 1), (2 ^ 30, 1), (2 ^ 31, 1)] })
    (fun t => t.mem.map (·.1) = [2 ^ 30 - 1, 2 ^ 31] && !t.rdB (rMemGran 1) 3) = true := by decide +kernel
def svc : State := filled { test := { lc := 3 } }
theorem test_raw_write : after (exec (.rawWrite 0) ((svc.wr rEccRawAddr 0).wr (rEccRawAddr + 4) 0x0100)) (fun t => t.rawChk 0x010000000000 = 0) = true := by
  decide +kernel
theorem wit_GranulesAndChecker_raw : ((svc.wr rEccRawAddr 0).wr (rEccRawAddr + 4) 0x0100).wordOf (((svc.wr rEccRawAddr 0).wr (rEccRawAddr + 4) 0x0100).rd64 rEccRawAddr)
    = some 0x010000000000 ∧ isDram 0x010000000000 = false ∧ State.reset.test.lc ≠ 1 ∧ State.reset.test.lc ≠ 3
    ∧ svc.rdB rMemInit 31 = true ∧ ({ test := { lc := 3 } } : State).rdB rMemInit 31 = false
    ∧ after (exec (.eccInjArm 0x80000000) svc) (fun t => t.memx.armed = some 0) = true := by decide +kernel

/-! ### Messages -/

/-- Channel 0 carries a session of a role; the module is ready. -/
def sess (r : Role) : State := { State.reset.wrF rHifStat 31 29 2 with host := { chans := [(0, { bind := .bound, role := r, sid := 7 })] } }
def msg (b : List Byte) : Msg := ⟨0, BitVec.ofNat 16 b.length, 9, 0x0100, 7, b⟩
/-- The response's status and body. -/
def answers (o : Host.Outcome State Fault Refusal) (st : W16) (b : List Byte) : Bool :=
  after o (fun t => leAt t.resp 8 2 = st.toNat && t.resp.drop 16 = b)
def status (o : Host.Outcome State Fault Refusal) (st : W16) : Bool := after o (fun t => leAt t.resp 8 2 = st.toNat)

theorem wit_accepts_operator : ∃ r, requestOf (.ringQuery (msg [63])) = some r ∧ (sess .operator).accepts r :=
  ⟨_, rfl, by unfold State.accepts State.fresh State.wellFormed State.speaks; decide +kernel⟩
theorem wit_accepts_service : ∃ r, requestOf (.takeover (msg [0])) = some r ∧ (sess .service).accepts r :=
  ⟨_, rfl, by unfold State.accepts State.fresh State.wellFormed State.speaks; decide +kernel⟩
theorem wit_accepts_factory : ∃ r, requestOf (.keySet (msg [7])) = some r ∧ (sess .factory).accepts r :=
  ⟨_, rfl, by unfold State.accepts State.fresh State.wellFormed State.speaks; decide +kernel⟩
theorem wit_accepts_unbound : ∃ r, requestOf (.hello ⟨31, 4, 9, 0, 0, [0, 1, 0, 1]⟩) = some r ∧ State.reset.accepts r :=
  ⟨_, rfl, by unfold State.accepts State.fresh State.wellFormed State.speaks; decide +kernel⟩

def chan0 (x : Chan) : State := { sess .operator with host := { chans := [(0, x)] } }
theorem wit_MessageRefusals_locked : ∃ r, requestOf (.identity (msg [])) = some r ∧ (chan0 { bind := .locked }).fresh r :=
  ⟨_, rfl, by unfold State.fresh; decide +kernel⟩
theorem wit_MessageRefusals_length : ∃ r, requestOf (.identity (msg [1])) = some r ∧ (sess .operator).fresh r ∧ ¬ (sess .operator).wellFormed r :=
  ⟨_, rfl, by unfold State.fresh State.wellFormed; decide +kernel⟩
theorem wit_MessageRefusals_version : ∃ r, requestOf (.fabricQuery { msg [] with version := 2 }) = some r ∧ (sess .operator).wellFormed r
    ∧ ¬ (sess .operator).speaks r := ⟨_, rfl, by unfold State.wellFormed State.speaks; decide +kernel⟩
theorem test_message_refusals :
    status (exec (.identity (msg [])) (chan0 { bind := .locked })) eHifLocked = true
    ∧ status (exec (.identity (msg [1])) (sess .operator)) eHifMsgInvalid = true
    ∧ status (exec (.fabricQuery { msg [] with sid := 8 }) (sess .operator)) eHifMsgInvalid = true
    ∧ status (exec (.fabricQuery { msg [] with version := 2 }) (sess .operator)) eHifVersion = true
    ∧ status (exec (.fabricQuery (msg [])) ((sess .operator).wrF rHifStat 31 29 1)) eHifNotReady = true
    ∧ status (exec (.takeover (msg [0])) (sess .operator)) eHifRoleDenied = true
    ∧ after (exec (.identity (msg [])) (chan0 { busy := true })) (fun t => (t.chan 0).overrun) = true := by decide +kernel
/-- A management channel answers a repeated TAG with its last response. -/
theorem wit_MessageRefusals_repeat : after (exec (.identity ⟨35, 0, 9, 0, 0, []⟩)
    { sess .operator with host := { chans := [(35, { lastTag := some (9, 2), resp := [5, 6] })] } }) (fun t => t.resp = [5, 6]) = true := by decide +kernel

theorem wit_Sessions_hello : answers (exec (.hello (msg [0, 1, 0, 1])) (sess .operator)) 0 [0, 1] = true
    ∧ answers (exec (.hello (msg [1, 1, 0, 2])) (sess .operator)) eHifVersion [] = true := by decide +kernel
def keyed : State := { sess .operator with host := { chans := [(1, { bind := .opening, sid := 7, slot := 7, fails := 3, hn := zeros 16, mn := zeros 32 })]
                                                     keys := [(7, { role := .operator, key := zeros 32 })] } }
def proof (b : List Byte) : Msg := ⟨1, 32, 9, 0x0100, 7, b⟩
theorem wit_Sessions_open : status (exec (.sessionOpen { msg ([7, 255] ++ zeros 30) with sid := 0 }) { keyed with test := { lc := 2 } }) 0 = true := by
  decide +kernel
theorem wit_Sessions_proof : after (exec (.sessionProof (proof (hmac256 (zeros 32) (proofMessage 1 (keyed.chan 1)))) false) keyed)
    (fun t => (t.chan 1).bind = .bound && (t.chan 1).role = .operator && (t.chan 1).fails = 0) = true := by decide +kernel
/-- The fourth failure locks the channel for one second. -/
theorem wit_Sessions_fail : after (exec (.sessionProof (proof (zeros 32)) false) keyed)
    (fun t => (t.chan 1).bind = .locked && (t.chan 1).lockS = 1 && (t.chan 1).fails = 4) = true
    ∧ after (exec (.nonceExpiry 1) { keyed with host := { chans := [(1, { bind := .opening, fails := 2 })] } })
      (fun t => (t.chan 1).bind = .unbound && (t.chan 1).fails = 3) = true
    ∧ after (exec (.lockExpiry 1) { keyed with host := { chans := [(1, { bind := .locked, lockS := 64 })] } }) (fun t => (t.chan 1).bind = .unbound) = true := by
  decide +kernel
theorem wit_Sessions_close : after (exec (.sessionClose (msg [])) (sess .tenant)) (fun t => (t.chan 0).bind = .unbound) = true
    ∧ answers (exec (.errlogRead (msg [])) (sess .tenant)) 0 (zeros 16) = true := by decide +kernel
theorem wit_KeySlots : status (exec (.keySet (msg ([1, 2] ++ zeros 46))) (chan0 { bind := .bound, role := .operator, sid := 7 })) 0 = true
    ∧ after (exec (.keySet (msg ([7, 1] ++ zeros 46))) (sess .factory)) (fun t => (t.key 7).role = .operator) = true
    ∧ status (exec (.keySet (msg ([1, 2] ++ zeros 46))) { sess .operator with host := { (sess .operator).host with keys := [(1, { role := .service })] } })
      eHifRoleDenied = true := by decide +kernel

/-- TAIL may stand at most E descriptors ahead of HEAD. -/
def ring4 : State := { State.reset with rings := [(63, { st := .running, log2e := 4, head := 0xFFFFFFFF, tail := 0xFFFFFFFF, written := 3 })] }
theorem wit_HostCommands_doorbells : after (exec (.hifDbc 63 15) ring4) (fun t => (t.ring 63).tail = 15) = true
    ∧ after (exec (.hifDbc 63 16) ring4) (fun t => (t.ring 63).tail = 0xFFFFFFFF && (t.ring 63).dbErr) = true
    ∧ after (exec (.hifDbh 63 3) ring4) (fun t => (t.ring 63).chead = 3) = true
    ∧ after (exec (.hifDbh 63 4) ring4) (fun t => (t.ring 63).chead = 0 && (t.ring 63).dbErr) = true := by decide +kernel
theorem wit_HostCommands_reset : after (exec .hostReset ring4) (fun t => (t.ring 63).st = .halted && (t.ring 63).cause = 3) = true
    ∧ ({ host := { cfgReady := true } } : State).host.cfgReady = true
    ∧ after (exec (.coalesceTimeout 0) { rings := [(0, { unsig := 2, vector := 63 })], host := { msix := true } }) (fun t => t.host.irqs = [63]) = true := by
  decide +kernel
theorem wit_HostCommands_messages : status (exec (.errRing (msg (leBytes 8 32 ++ [12, 63]))) (sess .operator)) 0 = true
    ∧ status (exec (.windowOpen (msg [])) (sess .service)) 0 = true
    ∧ status (exec (.windowOpen (msg [])) { sess .service with host := { (sess .service).host with window := some 3 } }) eHifRoleDenied = true
    ∧ status (exec (.windowClose (msg [])) { sess .service with host := { (sess .service).host with window := some 0 } }) 0 = true
    ∧ after (exec (.bar2Map (msg [0xFF, 1, 0x7E, 1])) ((sess .operator).wrF (rMemGran 382) 11 8 7))
      (fun t => tget (fun _ => none) t.host.bar2 511 = some (7, 382)) = true := by decide +kernel
/-- The largest ring: 2^16 descriptors, both sides in host memory. -/
theorem wit_Rings : status (exec (.ringCreate (msg ([63, 16, 0, 63, 255, 0, 0, 0] ++ leBytes 8 64 ++ leBytes 8 32)))
      { sess .operator with parts := [(7, { st := .ready })] }) 0 = true
    ∧ status (exec (.ringRestart (msg [63])) { sess .operator with rings := [(63, { st := .halted })] }) 0 = true
    ∧ status (exec (.ringRestart (msg [63])) { sess .operator with rings := [(63, { st := .running })] }) eHifRingInvalid = true
    ∧ status (exec (.ringDestroy (msg [63])) { sess .operator with rings := [(63, { st := .halted })] }) 0 = true
    ∧ answers (exec (.ringQuery (msg [63])) (sess .operator)) 0 (zeros 20) = true := by decide +kernel
def partBody (p : Nat) (cores gran : Nat) : List Byte :=
  [BitVec.ofNat 8 p, 1] ++ zeros 4 ++ [255, 0] ++ leBytes 16 cores ++ leBytes 48 gran ++ zeros 120
theorem wit_Partitions_create : after (exec (.partCreate (msg (partBody 7 0 2))) (sess .operator))
      (fun t => (t.part 7).st = .ready && t.rdF (rMemGran 1) 11 8 = 7) = true
    ∧ status (exec (.partCreate (msg (partBody 7 0 (2 ^ 383)))) (sess .operator)) eHifPartInvalid = true := by decide +kernel
theorem wit_Partitions_destroy : status (exec (.partDestroy (msg [7])) { sess .operator with parts := [(7, { st := .ready })] }) 0 = true
    ∧ (({ parts := [(7, { st := .ready })] } : State)).partIdle 7 = true := by decide +kernel

/-! ### Events and the beat -/

/-- One event of a kind is due at beat 9. -/
def due (kind part ident : Nat) (s : State := owned {}) (group : Nat := 0) : State :=
  { s with beat := { count := 9, events := [⟨9, kind, part, BitVec.ofNat 32 ident, group, 0⟩] } }
theorem wit_EventsDue_snapshot : (due 1 0 7).nextDue 1 ⟨9, 1, 0, 7, 0, 0⟩
    ∧ after (exec .snapshot (due 1 0 7)) (fun t => t.beat.events = [] && t.beat.snaps.map (fun n => (n.id, n.beat, n.late)) = [(7, 9, false)]) = true := by
  unfold State.nextDue; decide +kernel
theorem wit_EventsDue_stop : after (exec .stop (due 2 0 0)) (fun t => (t.thr 0 0).st = .held && (t.part 0).stopped) = true
    ∧ after (exec .stop (due 2 0xFF 0)) (fun t => (List.range 8).all (fun p => (t.part p).stopped)) = true
    ∧ after (exec .stop (due 2 0 0)) (fun t => after (exec .resume { t with beat := (due 3 0 0).beat })
        (fun u => (u.thr 0 0).st = .ready && !(u.part 0).stopped)) = true := by decide +kernel
theorem wit_EventsDue_settings : after (exec .profile (due 4 0xFF 2)) (fun t => t.profile = 2) = true
    ∧ after (exec .period (due 5 0xFF 2001)) (fun t => t.rdF rBeatCtl 10 0 = 2000) = true
    ∧ after (exec .counterWindow (due 6 0 15 { owned {} with cnt := { wins := [(15, { len := 1 })] } })) (fun t => (t.win 15).opened = some 9) = true
    ∧ after (exec .counterWindow (due 6 0 15 { owned {} with cnt := { wins := [(15, { len := 1, opened := some 8 })] } })) (fun t => (t.win 15).overrun)
      = true := by decide +kernel
def op0 : CollOp := { ring := 0, dcount := 0, group := 2, opseq := 5, rank := 0, members := [], levn := [], start := 0, ref := none }
theorem wit_EventsDue_test : after (exec .testSlice (due 7 0xFF 0 ((owned {}).wrF (rBstWing 1) 23 21 3) 0x1001)) (fun t => t.rdF (rBstWing 1) 20 14 = 1) = true
    ∧ after (exec .spareSwap { due 8 0xFF 0 with beat := { count := 9, events := [⟨9, 8, 0xFF, 0, 0, 1⟩] } }) (fun t => t.beat.events = []) = true
    ∧ after (exec .collDeadline (due 9 0 5 { owned {} with coll := { ops := [op0] } } 2)) (fun t => t.coll.ops.map (·.ref) = [some 9]) = true := by decide +kernel
/-- An event packet of this module: kind, partition, beat. -/
def evPkt (kind : Nat) (beat : Nat) : Pkt := pktSeal (State.reset.mkPkt 4 0 0 0 0 0xFFF 0 0 (beat + 2 ^ 64 * kind) [])
def inLocal (p : Pkt) (s : State := owned {}) : State := { s with fab := { s.fab with localQ := [p] } }
theorem wit_EventRequests_arrival :
    after (exec (.event none) (inLocal (evPkt 1 10) { (owned {}).wrF rBeatStat 31 29 2 with beat := { count := 9 } })) (fun t => t.beat.events.length = 1) = true
    ∧ after (exec (.event none) (inLocal (evPkt 7 9) { (owned {}).wrF rBeatStat 31 29 2 with beat := { count := 9 } }))
      (fun t => t.rdB rBeatErr 0 && t.beat.events = []) = true
    ∧ after (exec (.event none) (inLocal (evPkt 1 10))) (fun t => t.beat.events = [] && t.fab.localQ.length = 1) = true := by decide +kernel
def snap0 : Snap := { slot := 0, part := 0, id := 5, beat := 9, counts := [], sections := [] }
theorem wit_EventRequests_snapshot : after (exec (.snapshotComplete 0 5) { owned {} with beat := { count := 73, snaps := [snap0] } })
      (fun t => t.beat.snaps.map (·.complete) = [true]) = true
    ∧ after (exec (.snapshotComplete 0 5) { owned {} with beat := { count := 72, snaps := [snap0] } }) (fun t => t.beat.snaps = [snap0]) = true
    ∧ status (exec (.snapshotRead (msg ([0, 0, 0, 0, 5] ++ zeros 7))) { sess .operator with beat := { snaps := [snap0] } }) eHifNotReady = true
    ∧ status (exec (.snapshotRead (msg ([0, 0, 0, 0, 5] ++ zeros 7))) { sess .operator with beat := { snaps := [{ snap0 with complete := true }] } }) 0 = true := by
  decide +kernel
theorem wit_EventRequests_window :
    after (exec (.windowCloseCapture 15) { owned {} with beat := { count := 13 }, cnt := { wins := [(15, { part := 255, opened := some 9, openLen := 4 })] } })
      (fun t => (t.win 15).opened = none && (t.win 15).record.length = 32) = true
    ∧ after (exec (.windowCloseCapture 15) { owned {} with beat := { count := 12 }, cnt := { wins := [(15, { part := 255, opened := some 9, openLen := 4 })] } })
      (fun t => (t.win 15).opened = some 9) = true
    ∧ after (exec (.windowCloseCapture 15) { owned {} with beat := { count := 13 }, cnt := { wins := [(15, { part := 0, opened := some 9, openLen := 4, openDest := 256 })] } })
      (fun t => t.bytes 264 1 = [9]) = true := by decide +kernel
/-- BARRIER_RESET of the counter at latch 4 of core 0. -/
def counter (value link : Nat) : State := { owned {} with latches := [(4, BitVec.ofNat 128 (2 ^ 90 + value)), (5, BitVec.ofNat 128 (2 * 2 ^ 90 + link))] }
theorem wit_EventRequests_reset : (counter 3 0).resolve 0x010200000040 = .latch 0 4 0 ∧ ((counter 3 0).ctrAt 0 4).isSome = true
    ∧ after (exec (.barrierReset (msg (leBytes 8 0x010200000040 ++ [8, 0]))) { counter (7 * 2 ^ 48 + 2 * 2 ^ 32 + 3) 0 with
        host := (sess .operator).host, regs := (sess .operator).regs }) (fun t => lValue (t.latch 0 4) = 0x0008000000000003) = true
    ∧ status (exec (.barrierReset (msg (leBytes 8 0x010200000000 ++ [8, 0]))) { counter 3 0 with host := (sess .operator).host, regs := (sess .operator).regs })
        eHifMsgInvalid = true := by decide +kernel

theorem wit_BeatEdge : (State.reset.wrB rBeatCtl 11 true).rdB rBeatCtl 11 = true ∧ State.reset.coll.ops = [] ∧ State.reset.pending = []
    ∧ after (step (State.reset.wrB rBeatCtl 11 true)) (fun t => t.now = 1) = true
    ∧ after (step { State.reset.wrB rBeatCtl 11 true with beat := { count := 5, hold := 2 } }) (fun t => t.now = 5 && t.beat.hold = 1) = true
    ∧ after (step { State.reset.wrB rBeatCtl 11 true with beat := { nextPeriod := some 2000 } }) (fun t => t.rdF rBeatCtl 10 0 = 2000) = true
    ∧ after (step (State.reset.wrB rBeatCtl 11 false)) (fun t => t.now = 0) = true := by decide +kernel
/-- Port 51 is the upstream port of a LOCKED module of generation 3. -/
def up (p : Nat) (s : State := {}) : State := (s.setPort p { s.port p with linkUp := true }).wrF (rFabPort p) 31 29 2
def locked51 : State := ((((up 51).wrB rBeatCtl 11 true).wrF rBeatStat 31 29 2).wrF rBeatStat 25 20 51).wrF rBeatStat 19 12 3
theorem wit_BeatUnit_marker : locked51.rdB rBeatCtl 11 = true ∧ locked51.portUp 51 = true ∧ locked51.beatSt = 2 ∧ locked51.upport = 51
    ∧ locked51.beatGen = 3 ∧ (locked51.markerOffset 51 0 0 999999).natAbs < 1000000 ∧ 1000000 ≤ locked51.markerOffset 51 0 0 1000000
    ∧ after (exec (.marker 51 7 2 3 0 0 999999) locked51) (fun t => t.beatSt = 2 && t.rdF rBeatStat 28 26 = 7) = true
    ∧ after (exec (.marker 51 7 2 3 1 0 0) locked51) (fun t => t.beatSt = 1 && t.now = 1) = true
    ∧ after (exec (.marker 51 7 2 3 0 0 (-1000000)) locked51) (fun t => t.beatSt = 1 && t.now = 0 && t.beat.hold = 1) = true
    ∧ after (exec .markerSend locked51) (fun t => (t.port 51).timingOut.length = 1) = true
    ∧ after (exec .backupMasterTakeover { (locked51.wrF rBeatCtl 31 30 2) with beat := { count := 200 } }) (fun t => t.beatSt = 4 && t.beatGen = 4) = true := by
  decide +kernel
theorem wit_BeatUnit_rest : after (exec (.dreq 51 7 0 5 9) locked51) (fun t => (t.port 51).timingOut = [(4 + 2 ^ 8 * 7, 5, 9)]) = true
    ∧ after (exec (.dresp 51 7 10 20 50) (locked51.setPort 51 { (locked51.port 51) with dreq := some (7, 10) })) (fun t => (t.port 51).delay = 15) = true
    ∧ after (exec .markerLoss { locked51 with beat := { count := 64 } }) (fun t => t.beatSt = 3) = true
    ∧ after (exec .markerLoss { locked51 with beat := { count := 63 } }) (fun t => t.beatSt = 2) = true
    ∧ after (exec .holdoverExpiry (locked51.wrF rBeatStat 31 29 3)) (fun t => t.beatSt = 0 && t.upport = 0x3F) = true
    ∧ after (exec (.beatPeriodWrite 0) {}) (fun t => t.beat.nextPeriod = some 32) = true
    ∧ after (exec .beatCountCapture { beat := { count := 0x1_00000002 } }) (fun t => t.resp = [2, 0, 0, 0] && t.beat.hi = 1) = true := by decide +kernel

/-! ### Barriers (the worked example of R392: EXPECT 3, ROUND 7) -/

/-- A barrier packet of this module: operation, ESTAT, the counter's address, the round. -/
def bar (op : Nat) (addr round : Nat) (estat : Nat := 0) : Pkt := pktSeal (State.reset.mkPkt 2 2 0 0 addr 0 tagAnswer 0 (round + 2 ^ 64 * op + 2 ^ 72 * estat) [])
def value (round cur next expect : Nat) : Nat := 2 ^ 48 * round + 2 ^ 32 * cur + 2 ^ 16 * next + expect
def arrives (round : Nat) (v : Nat) : Host.Outcome State Fault Refusal := exec (.barrierArrival none) (inLocal (bar 0 0x010200000040 round) (counter v 0))
/-- The address that a counter's own packets carry for latch 4 of logical core 0. -/
theorem wit_Barriers_arrival : after (arrives 7 (value 7 0 0 3)) (fun t => lValue (t.latch 0 4) = BitVec.ofNat 64 (value 7 1 0 3)) = true
    ∧ after (arrives 8 (value 7 2 0 3)) (fun t => lValue (t.latch 0 4) = BitVec.ofNat 64 (value 7 2 1 3)) = true
    ∧ after (arrives 9 (value 7 2 1 3)) (fun t => lValue (t.latch 0 4) = BitVec.ofNat 64 (value 7 2 1 3) && t.fab.localQ.map barrierOp = [4]) = true
    ∧ after (arrives 7 (value 7 2 1 3)) (fun t => lValue (t.latch 0 4) = BitVec.ofNat 64 (value 8 1 0 3) && t.fab.localQ.map barrierOp = [1]) = true
    ∧ after (exec (.barrierArrival none) (inLocal (bar 0 0x010200000000 7) (counter 3 0))) (fun t => t.fab.localQ.map (fun p => (barrierOp p, pktByte p 1)) = [(4, 9)])
      = true := by decide +kernel
def entry : Release := { cmod := 0, ccore := 0, clatch := 4, round := 7, core := 1, latch := 47, child := false }
def waitsFor (op estat : Nat) : State := inLocal (bar op (counterAddr 0 4) 7 estat) { owned {} with releases := [entry] }
theorem wit_Barriers_release : after (exec (.barrierRelease none) (waitsFor 1 0)) (fun t => t.releases = [] && lValue (t.latch 1 47) = 8) = true
    ∧ after (exec (.barrierRefusal none) (waitsFor 4 1)) (fun t => t.releases = [] && lBroken (t.latch 1 47) && lEstat (t.latch 1 47) = 1) = true
    ∧ after (exec (.groupReset none) (waitsFor 2 0)) (fun t => t.releases = [] && lBroken (t.latch 1 47) && lEstat (t.latch 1 47) = 2) = true
    ∧ after (exec (.resetAcknowledgement none) (inLocal (bar 3 0x010200000040 7) (counter 3 0))) (fun t => t.resetAcks = [(4, 1)]) = true := by decide +kernel

/-! ### Ports -/

def frame0 (q : Nat) (l : List Flit := List.replicate 40 .idle) : Frame := ⟨BitVec.ofNat 12 q, false, l⟩
def pst (st : Nat) (x : Port := {}) : State := ({ fab := { ports := [(51, x)] } } : State).wrF (rFabPort 51) 31 29 st
def portIs (o : Host.Outcome State Fault Refusal) (st : Nat) : Bool := after o (fun t => t.portState 51 = st)
theorem wit_PortStates : portIs (exec (.ackTimeout 51) (pst 2 { replay := [frame0 0] })) 1 = true
    ∧ portIs (exec (.ackTimeout 51) (pst 2)) 2 = true ∧ portIs (exec (.laneLockLoss 51) (pst 2)) 3 = true ∧ portIs (exec (.lockRegained 51) (pst 3)) 2 = true
    ∧ after (exec (.relockExpiry 51) (pst 3 { linkUp := true, replay := [frame0 0] })) (fun t => t.portState 51 = 0 && (t.port 51).replay = []
      && !(t.port 51).linkUp) = true
    ∧ after (exec (.lightStop 51) (pst 0)) (fun t => !(t.port 51).light) = true ∧ portIs (exec (.retrainTimeout 51) (pst 1)) 5 = true
    ∧ portIs (exec (.unq 51) (pst 4)) 1 = true ∧ portIs (exec (.unq 51) (pst 2)) 2 = true
    ∧ after (exec (.violLeak 51) ((pst 2).wrF (rFabPort 51) 22 18 3)) (fun t => t.rdF (rFabPort 51) 22 18 = 2) = true := by decide +kernel
/-- Port 50 serves link 47, a ring link of dimension 3 to module 5. -/
def trained (st : Nat) (x : Port := {}) : State :=
  ((((({ fab := { ports := [(50, x)] } } : State).wrF (rFabPort 50) 31 29 st).wrF (rFabPort 50) 28 23 47).wrF (rFabLink 47) 31 30 1).wrF (rFabLink 47) 29 16 5).wrF
    (rFabLink 47) 15 14 3
theorem wit_PortStates_training : (trained 1).portLink 50 = some 47 ∧ (trained 1).portState 50 = 1
    ∧ after (exec (.trainingComplete 50 5 1 3 4 50) (trained 1 { txSeq := 9 })) (fun t => t.portState 50 = 2 && (t.port 50).linkUp && (t.port 50).txSeq = 0) = true
    ∧ after (exec (.trainingComplete 50 5 1 3 4 50) (trained 1 { linkUp := true, replay := [frame0 0] })) (fun t => t.portState 50 = 2 && (t.port 50).resend = 1) = true
    ∧ after (exec (.trainingComplete 50 6 1 3 4 50) (trained 1)) (fun t => t.portState 50 = 6) = true
    ∧ after (exec (.linkTrain 50) (trained 0)) (fun t => t.portState 50 = 1) = true
    ∧ after (exec (.retrain 50) (trained 2)) (fun t => t.portState 50 = 1 && t.rdF (rFabPcnt 50) 15 8 = 1) = true := by decide +kernel

/-- Port 50's engine has its spare port 51 idle. -/
theorem wit_FabricSpares_port : after (exec (.portTakeover 50) ((trained 2 { txSeq := 9 }).wrF (rFabPort 51) 31 29 7))
      (fun t => t.linkPort 47 = 51 && t.portState 51 = 1 && t.portState 50 = 5 && t.portLink 51 = some 47 && (t.port 51).txSeq = 9) = true
    ∧ after (exec (.fabPortFail 50) ((trained 2).wrF (rFabPort 51) 31 29 7)) (fun t => t.portState 50 = 5 && t.linkPort 47 = 51) = true
    ∧ after (exec (.portTakeover 50) ((trained 2).wrF (rFabPort 51) 31 29 2)) (fun t => t.portState 50 = 5) = true := by decide +kernel
theorem wit_FabricSpares_wave : ((trained 2).carried 50)[3]?.isSome = true ∧ (trained 2).idleWave 50 ≠ 7
    ∧ after (exec (.wavelengthTakeover 50 3) (trained 2)) (fun t => t.idleWave 50 = 7 && (t.port 50).wcmd.isSome) = true
    ∧ after (exec (.marginScan 50 [9, 3, 200] []) ((trained 2).wrF rFabCfg 15 8 1)) (fun t => t.rdF (rOptWave 50) 23 16 = 3) = true := by decide +kernel
def carts : State := ((({} : State).wrF (rOptCart 1) 31 30 0).wrF (rOptCart 1) 29 28 1).wrF (rOptCart 3) 31 30 1
theorem wit_FabricSpares_cartridge : carts.cartState 1 = 0 ∧ carts.cartState 3 = 1
    ∧ after (exec (.cartridgeFault 1) carts) (fun t => t.cartState 1 = 2 && t.cartState 3 = 0 && t.rdF (rOptCart 3) 29 28 = 1 && (t.bay 1).lamp = 3) = true
    ∧ after (exec (.optCartSwap 1) carts) (fun t => t.cartState 1 = 1 && t.cartState 3 = 0) = true
    ∧ after (exec (.laserFail 3 4) (carts.wrB (rOptCart 3) 27 true)) (fun t => !t.rdB (rOptCart 3) 27) = true
    ∧ after (exec (.detourWrite 63 0x80000000 true) {}) (fun t => t.rdB (rFabRoute 63) 31) = true := by decide +kernel

/-! ### Frames and packets -/

theorem wit_Frames_receive :
    after (exec (.frameReceive 51 (frame0 4095) true) (pst 2 { rxSeq := 4095 })) (fun t => (t.port 51).rxSeq = 0 && !(t.port 51).nak) = true
    ∧ after (exec (.frameReceive 51 (frame0 4095) false) (pst 2 { rxSeq := 4095 })) (fun t => (t.port 51).rxSeq = 4095 && (t.port 51).nak) = true
    ∧ after (exec (.frameReceive 51 (frame0 3968) true) (pst 2)) (fun t => (t.port 51).rxSeq = 0 && !(t.port 51).nak) = true
    ∧ after (exec (.frameReceive 51 (frame0 0) true) (pst 5)) (fun t => (t.port 51).rxSeq = 0) = true := by decide +kernel
/-- A LATCH_ADD for this module arrives in its own flit. -/
def ladd : Pkt := pktSeal (({} : State).mkPkt 1 1 0 0 0x010200000000 0 1 0 3 [])
def fab1 : State := ((pst 2 { linkUp := true, rxSeq := 1 }).wr rFabId 0x80000000)
theorem wit_Frames_packet : pktMalformed ladd = false ∧ fab1.misrouted 51 ladd = false ∧ fab1.inArrangement ladd.dst.toNat = true
    ∧ fab1.route ladd.dst.toNat ladd.dtr.toNat = .here ∧ fab1.rdB rFabId 31 = true ∧ ladd.len = 0 ∧ ladd.data = []
    ∧ (frame0 1 [.pkt ladd]).fseq.toNat = (fab1.port 51).rxSeq ∧ pktCost ladd ≤ poolCap.getD (pktPool ladd) 0 := by decide +kernel
theorem wit_Frames_send : after (exec (.frameSend 51) (pst 2 { txSeq := 4095 }))
      (fun t => (t.port 51).txSeq = 0 && (t.port 51).replay.map (·.fseq) = [0xFFF]) = true
    ∧ after (exec (.frameSend 51) (pst 2 { replay := [frame0 7], resend := 1 })) (fun t => (t.port 51).resend = 0
      && (t.port 51).line = some (⟨7, true, List.replicate 40 .idle⟩, none)) = true
    ∧ after (exec (.packetAged 51 0) (pst 2 { ingress := [ladd] })) (fun t => (t.port 51).ingress = []) = true
    ∧ after (exec (.packetAged 51 0) (pst 2 { egress := [(false, ladd)] })) (fun t => (t.port 51).egress = []) = true := by decide +kernel
def wpkt (a : Nat) (b : List Byte) : Pkt := pktSeal (State.reset.mkPkt 0 1 0 0 a 0 1 0 0 b)
theorem wit_Packets : after (exec (.write none) (inLocal (wpkt 256 [1, 2, 3]))) (fun t => t.bytes 256 4 = [1, 2, 3, 0]) = true
    ∧ after (exec (.write none) (inLocal (wpkt (2 ^ 30) [1, 2, 3]))) (fun t => t.mem = []) = true
    ∧ after (exec (.latchAdd none) (inLocal (pktSeal (State.reset.mkPkt 1 1 0 0 0x010200000000 0 1 0 3 [])))) (fun t => lValue (t.latch 0 0) = 3) = true
    ∧ after (exec (.latchAdd none) (inLocal { ladd with ecrc := 0 })) (fun t => t.latches = []) = true
    ∧ after (exec (.mgmt none) (inLocal (pktSeal (State.reset.mkPkt 5 3 0 0 0 0xFFF 0 0 0 [6, 7])))) (fun t => t.fab.inbox.map (·.2) = [[6, 7]]) = true
    ∧ after (exec (.mgmt none) (inLocal (pktSeal (State.reset.mkPkt 5 3 0 0 0 0xFFF 0 0 0 ([4, 15, 0, 0, 9, 0, 0, 0, 0, 1] ++ zeros 6)))))
      (fun t => (t.win 15).len = 9 && (t.win 15).dest = 256) = true := by decide +kernel
/-- A STATUS with FAB_UNREACHABLE for a latch tag breaks the entries of the module and counter it names. -/
theorem wit_Packets_status : after (exec (.status none) (inLocal (pktSeal (State.reset.mkPkt 3 3 0 0 0 0xFFF 0 0
      (eFabUnreachable.toNat + 2 ^ 16 * tagLatch + 2 ^ 64 * counterAddr 0 4) [])) { owned {} with releases := [entry] })) (fun t => t.releases = []) = true := by
  decide +kernel
theorem wit_Packets_messages : status (exec (.fabricQuery (msg [])) (sess .operator)) 0 = true
    ∧ status (exec (.fabricSet (msg (zeros 480))) (sess .operator)) 0 = true := by decide +kernel

/-! ### Collectives -/

/-- ALL_GATHER of two W32 elements in group 0, ungated; the table of bank 0 holds one entry: this module with partition 0. -/
def cparam (cop flags opseq : Nat) : List Byte :=
  [BitVec.ofNat 8 cop, BitVec.ofNat 8 flags, 0, 0] ++ leBytes 4 1 ++ leBytes 4 opseq ++ leBytes 4 2 ++ zeros 8 ++ leBytes 4 100 ++ zeros 4 ++ zeros 32
def ccmd (cop flags : Nat) (dst : Nat := 64) : Cmd :=
  { cmdOf 0x20 (cparam cop flags 5 ++ tensor 0 7 ++ tensor dst 7) with
    desc := [0x20] ++ zeros 39 ++ leBytes 8 8192 ++ zeros 16 }
theorem wit_CollectiveStart_bank : (live (ccmd 3 0) two).collBank (ccmd 3 0) = none ∧ (live (ccmd 3 0) two).startable 0 0 0x20 (ccmd 3 0)
    ∧ (ccmd 3 0).cCop = 3 ∧ (ccmd 3 0).cGated = false ∧ (ccmd 3 16).cGated = true ∧ (live (ccmd 3 0) two).coll.ops = []
    ∧ after (exec (.allGather 0 0) (live (ccmd 3 0) two)) (fun t => t.cmds.map (fun (k : Cmd) => (k.err, k.phase)) = [(eCollGseq, .failed)]) = true := by
  unfold State.startable; decide +kernel
/-- The same with a table: count 1, one level of one member, this module with partition 0. -/
def coll1 (k : Cmd) : State :=
  { (live k two).wr (rCollSeq 0) 1 with mem := (live k two).mem ++ [(gtAddr 0 0, 1), (gtAddr 0 0 + 3, 1), (gtAddr 0 0 + 4, 1)] }
theorem wit_CollectiveStart_one : (coll1 (ccmd 3 0)).collBank (ccmd 3 0) = some 0 ∧ (coll1 (ccmd 3 0)).gtMembers 0 0 = [((coll1 (ccmd 3 0)).maddr, 0)]
    ∧ (coll1 (ccmd 3 0)).gtLevn 0 0 = [1] ∧ oneMemory 0 8 ∧ oneMemory 64 8 ∧ oneMemory 8192 8192 ∧ (coll1 (ccmd 3 0)).physOf (ccmd 3 0).scratch = 8192
    ∧ (coll1 (ccmd 3 0)).maskMismatch (ccmd 3 0) { op0 with opseq := 5, members := [(0, 0)] } = false := by unfold oneMemory; decide +kernel
/-- A gated operation whose gate is closed stays, and waits. -/
theorem wit_CollectiveStart_gate : (coll1 (ccmd 3 16)).partOfCore ((ccmd 3 16).cSlatch / 64 % 128) = some 0
    ∧ after (exec (.allGather 0 0) { coll1 (ccmd 3 16) with latches := [(0, 2 ^ 92)] }) (fun t => t.coll.ops.map (fun o => (o.group, o.opseq, o.released)) = [(0, 5, none)]
      && t.cmds.map (fun (k : Cmd) => k.phase) = [.running]) = true := by decide +kernel

/-- A running ALL_REDUCE of one member whose parts are in. -/
def arCmd (flags : Nat) : Cmd := { ccmd 1 flags with phase := .running }
def arOp : CollOp := { op0 with group := 0, opseq := 5, members := [(0, 0)], levn := [1], released := some 0, ref := some 9 }
def arS (flags : Nat) (o : CollOp) (beat : W64) : State := { coll1 (arCmd flags) with coll := { ops := [o], landings := [{ group := 0, opseq := 5 }] }, beat := { count := beat } }
theorem wit_CollectiveSteps_rounds : (arCmd 0).reduces = true ∧ (arCmd 1).cTolerant = true
    ∧ after (exec (.ownerRound1 0 5) (arS 1 arOp 9)) (fun t => t.coll.ops.map (fun o => o.sent.map (·.1)) = [[0]]) = true
    ∧ after (exec (.ownerRound1 0 5) (arS 1 arOp 8)) (fun t => t.coll.ops = [arOp]) = true
    ∧ (arS 0 arOp 9).maskMismatch (arCmd 0) arOp = false := by decide +kernel
theorem wit_CollectiveSteps_timeout : after (exec (.collTimeout 0 5) (arS 0 arOp 109)) (fun t => t.coll.ops = []
      && t.cmds.map (fun (k : Cmd) => (k.phase, k.err)) = [(.failed, eCollTimeout)] && t.rdF rCollStat 7 0 = 1) = true
    ∧ after (exec (.collTimeout 0 5) (arS 0 arOp 108)) (fun t => t.coll.ops = [arOp]) = true := by decide +kernel
theorem wit_CollectiveSteps_level : after (exec (.hierLevel 0 5 3) (arS 0 arOp 9)) (fun t => t.coll.ops = [arOp]) = true := by decide +kernel

/-- The older bank is written, committed and validated: an empty bank is valid and becomes the newest with sequence 1. -/
theorem wit_GroupTable : State.reset.liveOld = 0 ∧ after (exec .collGtWrite {}) (fun s => s.rdB rCollCtl 30 && after (exec .collGtCommit s) (fun t => t.rdB rCollCtl 29 && after (exec .gtValidationEnd t) (fun u => u.gtSeq (1 - t.gtNewest) = 1 && !u.rdB rCollCtl 29))) = true
    ∧ after (exec .collGtCommit {}) (fun t => t.regs = []) = true := by decide +kernel
theorem wit_GroupTable_messages : status (exec (.groupWrite (msg ([0xFE, 0x0F, 0, 0, 1, 0] ++ zeros 10 ++ [7]))) (sess .operator)) 0 = true
    ∧ after (exec (.groupCommit (msg [])) (sess .operator)) (fun t => (t.chan 0).busy && t.coll.committer = some (0, 9)) = true := by decide +kernel

/-! ### Reliability -/

/-- The rolling test is on; the module is in FIELD and ready. -/
def rot : State := (({ flashMap := [] } : State).wrB rBstRot 31 true).wrF rHifStat 31 29 2
/-- The last core of the west wing is the next one. -/
def rotLast : State := { rot with test := { rot.test with nextCore := [(1, 71)] } }
theorem wit_Reliability_due : rot.rdB rBstRot 31 = true ∧ rot.engineAllowed = true ∧ rot.testState 1 = 0 ∧ rot.logical 143 = none ∧ wingOf 143 = 1
    ∧ rotLast.dueCore 1 = 143 ∧ rotLast.dueTime 1 = true ∧ rot.dueCore 0 = 0
    ∧ ({ rot with test := { dueAt := [(0, some 0)] } } : State).dueTime 0 = false
    ∧ after (exec (.rollingTestDue 1 143) rotLast) (fun t => t.testState 1 = 3 && t.testCore 1 = 143 && t.dueCore 1 = 72) = true
    ∧ after (exec (.rollingTestDue 1 143) rot) (fun t => t.testState 1 = 0) = true
    ∧ after (exec (.rollingTestDue 0 0) { rot with spareMap := [(0, some 0)] }) (fun t => t.testState 0 = 2 && t.rdB (rCoreCtl 0) 30) = true := by decide +kernel
def noSpare : State := { rot with spareMap := [(0, some 0)], cores := (span 1 71).map (fun k => (k, ({ retired := true } : Core))) }
theorem wit_Reliability_defer : noSpare.spareFor 0 = none ∧ (noSpare.wrF rBstRot 15 0 5).rdF rBstRot 15 0 ≠ 0
    ∧ after (exec (.rollingTestDue 0 0) (noSpare.wrF rBstRot 15 0 5)) (fun t => t.testState 0 = 4) = true
    ∧ after (exec (.rollingTestDue 0 0) (noSpare.wrF rBstRot 15 0 0)) (fun t => t.testState 0 = 5 && (t.core 0).withdrawn) = true := by decide +kernel
def testing (st core : Nat) (s : State := rot) : State := (s.wrF (rBstWing 0) 23 21 st).wrF (rBstWing 0) 31 24 core
theorem wit_Reliability_withdraw : after (exec (.testWithdraw 0) { (testing 4 0).wrF rBstRot 15 0 1 with test := { deferred := [(0, some 1)] }, beat := { count := 65537 } })
      (fun t => t.testState 0 = 5 && (t.core 0).withdrawn) = true
    ∧ after (exec (.testWithdraw 0) { (testing 4 0).wrF rBstRot 15 0 1 with test := { deferred := [(0, some 1)] }, beat := { count := 65536 } })
      (fun t => t.testState 0 = 4) = true := by decide +kernel
/-- A fault that is not the tested core's leaves the state alone; the hypotheses of a result hold of this wing. -/
theorem wit_Reliability_result : (testing 3 5).testCore 0 = 5 ∧ (testing 3 5).testState 0 = 3 ∧ (testing 5 5).testState 0 = 5 ∧ wingOf 5 = 0
    ∧ ({ testing 3 5 with spareMap := [(5, none)] } : State).logical 5 = none
    ∧ after (exec (.hallwayLaneSpare 1 0) { fab := { hallUsed := [(1, 15)] } }) (fun t => t.fab.hallUsed = [(1, 16)]) = true
    ∧ after (exec (.hallwayLaneSpare 1 0) { fab := { hallUsed := [(1, 16)] } }) (fun t => t.fab.hallUsed = [(1, 16)]) = true := by decide +kernel
def report0 (n : W32) : Report := { unit := 1, sev := 3, inst := 0, err := 0, beat := 0, rseq := n }
theorem wit_Reliability_reports : after (exec .nativeReportSend { reports := [report0 4, report0 5], rsent := 5 }) (fun t => t.rsent = 6 && !t.resp.isEmpty) = true
    ∧ after (exec .nativeReportSend { reports := [report0 4, report0 5], rsent := 6, resend := [4] }) (fun t => t.rsent = 6 && t.resend = []) = true := by decide +kernel
theorem wit_ReliabilityMessages : status (exec (.lcSet (msg [3])) (sess .operator)) eHifRoleDenied = true
    ∧ status (exec (.lcSet (msg [1])) (sess .tenant)) eLcDenied = true
    ∧ status (exec (.patternLoad (msg (zeros 8)) []) (sess .operator)) ePatternInvalid = true
    ∧ status (exec (.testRun (msg [2, 0, 0, 0]) true) (sess .service)) eHifRoleDenied = true
    ∧ answers (exec (.testRun (msg [12, 0, 0x3F, 2]) true) { sess .service with test := { lc := 3 } }) 0 [1] = true
    ∧ status (exec (.ledgerRead (msg [143, 0, 0, 0])) (sess .operator)) 0 = true
    ∧ after (exec (.reportResend (msg (leBytes 4 0xFFFFFFFF ++ leBytes 4 2))) { sess .operator with reports := [report0 0xFFFFFFFF, report0 0, report0 1] })
      (fun t => t.resend = [0xFFFFFFFF, 0]) = true := by decide +kernel
/-- Retirement erases the key slots of OPERATOR and TENANT (R572). -/
theorem test_lc_retired : after (exec (.lcSet (msg [4])) { sess .operator with host := { (sess .operator).host with
    keys := [(0, { role := .operator }), (1, { role := .tenant })] } }) (fun t => t.test.lc = 4 && t.host.keys.all (fun k => k.2.role ≠ .operator && k.2.role ≠ .tenant))
      = true := by decide +kernel

/-! ### Power -/

def powered : State := { rot with pwr := { main := true, standby := true, mv := 48000 } }
theorem wit_PowerStops : after (exec (.bladeUndervoltage 35999) powered) (fun t => !t.pwr.main && t.hifState = 4 && t.pwr.stopRecords.map (fun r => (r.cause, r.mv)) = [(1, 35999)]) = true
    ∧ after (exec (.bladeOvervoltage 61001) powered) (fun t => t.rdF rPwrErr 7 6 = 2) = true
    ∧ after (exec (.pwrThermStop 840) powered) (fun t => !t.pwr.main) = true ∧ after (exec (.pwrThermStop 839) powered) (fun t => t.pwr.main) = true
    ∧ after (exec .thermalTrip powered) (fun t => t.pwr.trip && !t.pwr.main) = true
    ∧ after (exec (.standbyLoss 0) powered) (fun t => !t.pwr.standby) = true
    ∧ after (exec (.boot 19999) {}) (fun t => !t.pwr.standby) = true ∧ after (exec (.boot 20000) {}) (fun t => t.pwr.standby && !t.pwr.main) = true
    ∧ after (exec (.boot 35999) {}) (fun t => !t.pwr.main) = true ∧ (State.reset.image 0).inUse ≠ none := by decide +kernel
theorem wit_PowerStops_recovery : (({ pwr := { stopped := 1 } } : State).image 0).inUse ≠ none
    ∧ after (exec (.voltageRecovery 39999) { pwr := { stopped := 1, standby := true } }) (fun t => !t.pwr.main) = true := by decide +kernel
theorem wit_Governor : powered.cap ≤ 65535 ∧ powered.pwr.stepped = none
    ∧ after (exec (.governorTick 0 65535 48000 true) powered) (fun t => t.clk = min (max 500 (powered.clk - 25)) (profClk powered.profile) && t.pwr.stepped.isSome) = true
    ∧ after (exec (.governorTick 0 0 48000 false) powered) (fun t => t.clk = powered.clk) = true
    ∧ after (exec (.pwrOvWarn 60001) powered) (fun t => t.pwr.ovWarned) = true ∧ after (exec (.pwrUvLimit 39999) powered) (fun t => t.rdB rPwrStat 27) = true
    ∧ after (exec (.pwrUvLimit 40000) powered) (fun t => !t.rdB rPwrStat 27) = true ∧ after (exec (.pwrThermWarn 760) powered) (fun t => t.pwr.thermWarned) = true
    ∧ after (exec (.pwrThermWarn 759) powered) (fun t => !t.pwr.thermWarned) = true ∧ after (exec (.thermalThrottle 800) powered) (fun t => t.rdB rPwrStat 26) = true
    ∧ after (exec (.thermalThrottle 784) (powered.wrB rPwrStat 26 true)) (fun t => !t.rdB rPwrStat 26) = true := by decide +kernel
/-- With room the clock rises by 25 MHz, to the profile's clock at most. -/
theorem wit_Governor_rise : 0 < powered.cap ∧ 0 < profTransient powered.profile
    ∧ after (exec (.governorTick 0 0 40000 true) ((powered.wrB rPwrStat 25 true).wrF rPwrStat 11 0 1000)) (fun t => t.pwr.raised.isSome) = true := by decide +kernel
def master : State := powered.wrF rBeatStat 31 29 4
theorem wit_PowerRequests : after (exec (.sitePowerN true) powered) (fun t => t.rdB rPwrStat 28) = true
    ∧ after (exec (.profileDecision 5 true) master) (fun t => t.pwr.asserted = [5]) = true
    ∧ after (exec .sitePowerReport (master.wrB rPwrStat 28 true)) (fun t => t.pwr.asserted = [0]) = true
    ∧ after (exec .mcpHeartbeatMiss powered) (fun t => !t.pwr.standbyMcp && t.pwr.replaced) = true
    ∧ after (exec (.mcpATestResult true) { powered with pwr := { replaced := true, standbyMcp := false } }) (fun t => t.pwr.standbyMcp && !t.pwr.replaced) = true
    ∧ after (exec .mcpBBootTakeover { pwr := { stopped := 1 } }) (fun t => t.pwr.replaced) = true := by decide +kernel
theorem wit_PowerRequests_wings : tget (fun _ => true) powered.pwr.wcStandby 1 = true
    ∧ after (exec (.wcStandbyTakeover 1) powered) (fun t => tget (fun _ => true) t.pwr.wcStandby 1 = false) = true
    ∧ after (exec (.wcPrimaryMiscompare 1) powered) (fun t => tget (fun _ => true) t.pwr.wcStandby 1 = false) = true
    ∧ after (exec (.flashCopyWrite 5) { powered with pwr := { images := [(5, { dirty := true })], policy := { site := 1 } } }) (fun t => t.pwr.flashPolicy.site = 1)
      = true
    ∧ after (exec .drainSExpiry { live doneNop [] with pwr := { shutting := true } }) (fun t => (t.ring 0).st = .halted) = true := by decide +kernel
theorem wit_PowerMessages : status (exec (.profileReq (msg [4])) (sess .operator)) ePwrProfileInvalid = true
    ∧ after (exec (.profileReq (msg [3])) (sess .operator)) (fun t => t.pwr.policy.opcap = some 3) = true
    ∧ after (exec (.policySet (msg [3, 3, 0xFF, 0x0F, 0, 0, 0, 0, 0, 0])) (sess .operator)) (fun t => t.pwr.policy.normal = 3) = true
    ∧ (sess .operator).allIdle = true
    ∧ status (exec (.imageWrite (msg []) []) (sess .operator)) eCfgImageInvalid = true ∧ status (exec (.calSet (msg []) []) (sess .service)) eCfgImageInvalid = true
    ∧ after (exec (.takeover (msg [2])) (sess .service)) (fun t => leAt t.resp 8 2 = 0 && tget (fun _ => true) t.pwr.wcStandby 1 = false) = true
    ∧ status (exec (.takeover (msg [0])) { sess .service with pwr := { standbyMcp := false } }) eBstBusy = true := by decide +kernel
/-- The highest item class that CAL_READ knows is 5. -/
theorem wit_PowerMessages_calibration : leAt (leBytes 4 0x5FFFFFF) 0 4 / 2 ^ 24 < 6
    ∧ ∃ r, requestOf (.calRead (msg (leBytes 4 0x5FFFFFF))) = some r ∧ (sess .operator).accepts r :=
  ⟨by decide, _, rfl, by unfold State.accepts State.fresh State.wellFormed State.speaks; decide +kernel⟩

/-! ### Counters, bays, registers, reset -/

def window : State := { sess .service with host := { (sess .service).host with window := some 0 } }
theorem wit_CountersAndTraces : after (exec (.counterCapture 0 0) {}) (fun t => t.resp = zeros 8 && t.host.log.length = 1) = true
    ∧ (window.viewAt 0).isSome = true ∧ after (exec (.counterCapture 0 0) window) (fun t => t.resp.length = 8 && t.cnt.shadows.length = 1) = true
    ∧ after (exec (.swap 23) (State.reset.wrF (rCntTrk 23) 31 30 1)) (fun t => t.rdB (rCntTrk 23) 28) = true
    ∧ after (exec (.swap 23) {}) (fun t => t.regs = []) = true
    ∧ after (exec (.cntTrcRead 8) { cnt := { traceLost := [(8, (5, 7))] } }) (fun t => t.resp.take 2 = [5, 0] && t.cnt.traceLost = [(8, (0, 7))]) = true
    ∧ status (exec (.cntTrack (msg ([7, 2, 2, 0] ++ zeros 12))) (sess .operator)) 0 = true := by decide +kernel
def ownSess : State := { (owned {}).wrF rHifStat 31 29 2 with host := (sess .operator).host }
theorem wit_CountersAndTraces_trace : ownSess.partRange 0 4096 (32 * 2 ^ 20) = some 4096 ∧ isDram 4096 = true
    ∧ status (exec (.traceCfg (msg ([0, 20, 31, 1] ++ zeros 4 ++ leBytes 8 4096))) ownSess) 0 = true := by decide +kernel
theorem wit_BaysAndSmbus : State.reset.smbus 0xFF = none ∧ after (exec (.smbusRead 0x06) { pwr := { alert := 5 } }) (fun t => t.resp = [5] && t.pwr.alert = 0) = true
    ∧ after (exec (.leverOpen 3) {}) (fun t => (t.bay 3).leverOpen) = true ∧ after (exec (.cartridgeRemoval 1) {}) (fun t => t.cartState 1 = 3 && (t.bay 1).lamp = 4) = true
    ∧ after (exec (.cartridgeInsert 1) { bays := [(1, { fitted := false })] }) (fun t => (t.bay 1).warming) = true
    ∧ after (exec (.cartridgeLocked 1 false) { bays := [(1, { warming := true })] }) (fun t => t.cartState 1 = 2 && (t.bay 1).lamp = 3) = true
    ∧ status (exec (.cartService (msg [3])) (sess .operator)) 0 = true := by decide +kernel
theorem wit_RegisterWrites : mayWrite .host rBeatCtl = false ∧ rBeatCtl % 4 = 0
    ∧ after (exec (.registerWrite .mcp rMemScrub 0xFFFFFFFF) {}) (fun t => t.rd rMemScrub = 0x80FFFF00) = true
    ∧ after (exec (.registerWrite .mcp rPwrErr 0x11) (State.reset.wr rPwrErr 0x1F)) (fun t => t.rd rPwrErr = 0x0E) = true
    ∧ after (exec (.registerWrite .host (0x100 + 8 * 63) 0x02000000) { rings := [(63, { dbErr := true, st := .running })] }) (fun t => !(t.ring 63).dbErr) = true := by
  decide +kernel
theorem wit_ResetCanonical : Memory.wf State.reset.mem ∧ Regs.wf State.reset.regs := by decide +kernel
/-- A canonical state, its step, and the canonical state after it. -/
theorem wit_StepKeepsCanonical : Memory.wf (inLocal (wpkt 256 [1, 2, 3])).mem
    ∧ after (step { inLocal (wpkt 256 [1, 0, 3]) with pending := [.write none] }) (fun t => decide (Memory.wf t.mem) && t.mem = [(256, 1), (258, 3)]) = true := by
  decide +kernel
theorem test_decode_none : decodeTableWord 32 0 = none ∧ (State.reset.withFetchWord 32 0).pending = [] := by decide +kernel

/-! ### Further clauses of the statements above -/

/-- SERVICE, with a breakpoint set on core 0. -/
def brk : State := { ab 0 0 with test := { lc := 3 }, cores := [(0, { bkpt := true })] }
theorem wit_ScalarControlFlow : brk.test.lc = 3 ∧ (brk.core 0).bkpt = true ∧ raises (exec (.sBrk x0 (sf 0)) brk) 0x0A = true
    ∧ raises (exec (.sCwr x0 (sf 2)) (ab 0 0)) 0x01 = true := by decide +kernel
/-- An outstanding store stands before a fence. -/
def fenced0 : State := one { outs := [{ kind := .globalStore, poison := false, writes := [], pc := 0 }] }
theorem wit_Submissions_fence : fenced0.fenceClear x0 ∧ fenced0.mayIssue x0 []
    ∧ after (exec (.cFence x0) fenced0) (fun t => (t.thr 0 0).fence && (t.thr 0 0).pc = 32) = true := by
  unfold State.mayIssue State.fenceClear; decide +kernel
/-- Array 0 is SUSPECT, and the thread runs an item again: its tile goes to array 1. -/
def tilesAgain : State := (one { s := [(13, 0x1FFFF8)], t := [(2, tile)], reissue := true }).putArr 1 { suspect := true }
theorem wit_MatrixSlots_reissue : tilesAgain.tileArray 0 1 true = 0 ∧ (tilesAgain.arr 1).bad = true
    ∧ after (exec (.mTile x0 (tileF 0 47)) tilesAgain) (fun t => (t.arr 0).queue.length = 1 && (t.arr 1).queue = []) = true := by decide +kernel
def latchB : State := one { s := [(1, 7)] }
/-- Latch 4 is broken. -/
def brokenLatch : State := latchB.extLatch 0 4 (.brk 9)
theorem wit_LatchSlots_broken : lBroken (brokenLatch.latch 0 4) = true ∧ lKind (brokenLatch.latch 0 4) = 0 ∧ brokenLatch.waiters 0 4 = []
    ∧ after (exec (.cLadd x0 ⟨1, 2, 4, 0, false, 0⟩) brokenLatch) (fun t => t.rdF rLatStat 23 16 = 1 && t.latch 0 4 = brokenLatch.latch 0 4) = true
    ∧ raises (exec (.cLwait x0 ⟨1, 2, 4, 7, false, 0⟩) latchB) 0x01 = true := by decide +kernel
theorem wit_LatchSlots_barrier : lKind (({ latchB with latches := [(6, 2 ^ 90)] } : State).latch 0 6) = 1
    ∧ after (exec (.cLset x0 ⟨1, 2, 6, 0, false, 0⟩) { latchB with latches := [(6, 2 ^ 90)] }) (fun t => t.rdF rLatStat 31 24 = 1) = true := by decide +kernel
theorem wit_BundleStops : (slotOut (.sAdd x0 (sf 0)) (ab 1 2) 0 0).map (fun o => (o.cause, o.ready, o.load.isNone, o.ends)) = some (none, true, true, false)
    ∧ (slotOut (.sEnd x0 (sf 0)) (ab 1 2) 0 0).map (fun o => (o.cause, o.ends)) = some (none, true)
    ∧ (ab 1 2).mayIssue x0 [.s 1, .s 2, .s 3] := by unfold State.mayIssue; decide +kernel

/-- HOLD_ALL on core 0, its thread 0 HELD. -/
def heldAll : State := ({ threads := [(0, { st := .held, under := .ready })] } : State).wrB (rCoreCtl 0) 29 true
theorem wit_ThreadLifecycle_kept : heldAll.rdB (rCoreCtl 0) 29 = true ∧ after (exec (.threadRelease 0 0) heldAll) (fun t => (t.thr 0 0).st = .held) = true
    ∧ ({ heldAll with handovers := [⟨0, 0, 64, false, true, [0]⟩] } : State).handovers.any (fun h => h.old = 0 && h.held.contains 0) = true := by decide +kernel
/-- The partition of a HELD thread is stopped: the release waits for RESUME (R370). -/
def stopHeld : State := { owned {} with threads := [(0, { st := .held, under := .ready })], parts := [(0, { st := .ready, cores := 3, gran := 1, lpage := 1, stopped := true })] }
theorem wit_ThreadLifecycle_stopped : after (exec (.threadRelease 0 0) stopHeld) (fun t => (t.thr 0 0).st = .held && (t.part 0).held.contains 0) = true := by
  decide +kernel
theorem wit_ThreadLifecycle_matmul : (mmRun.cmd 0 0).isSome = true ∧ (mmRun.counterFor ((mmRun.cmds).headD doneNop) 0).1 = recordAddr 0 0
    ∧ (mmRun.cmds.map (fun k => (mmRun.itemAt k 1).map (·.2))) = [some 0] ∧ mmRun.coreOpen 0 = true ∧ mmRun.partOfCore 0 = some 0 := by decide +kernel
/-- Core 0 is frozen: accesses to its register block wait for the replacement (R190). -/
def frozenCore : State := { (one {}).wrB (rCoreStat 0) 4 true with handovers := [⟨0, 0, 64, false, true, []⟩] }
theorem wit_CoreControl_frozen : frozenCore.frozen 0 = true
    ∧ after (exec (.coreHoldAll 0 true) frozenCore) (fun t => t.heldAcc = [(0, .core (.holdAll true))] && (t.thr 0 0).st = .ready) = true
    ∧ after (exec (.ledgerClear 0 false) (one {})) (fun t => t.host.log.length = 1) = true := by decide +kernel
/-- A fenced core whose takeover is under way: its thread raises a hardware cause. -/
def hwFault : State := { (one { pc := 32 }).wrB (rCoreStat 0) 6 true with spareMap := [(0, some 0)], handovers := [⟨0, 0, 64, true, false, []⟩] }
theorem wit_HandOver_hardware : hwFault.fenced 0 = true ∧ hwFault.logical 0 = some 0 ∧ hwFault.handovers.any (fun h => h.old = 0) = true
    ∧ after (exec (.faultTakeover 0 ⟨0x10, some 0⟩ []) hwFault) (fun t => (t.thr 0 0).st = .faulted && ((t.core 0).exc.map (·.cause)) = [0x10]) = true := by
  decide +kernel
/-- A staged tile whose run is complete: it is clean, and its latch and place are free. -/
def runClean : Running := { run0 with done := true, req := { req with oen := false } }
def cleanTile : State := { arrays := [(1, { lo := some runClean })] }
theorem wit_ArrayTiles_clean : runClean.clean = true ∧ (runClean.dst.encode cleanTile).bad = false ∧ cleanTile.waiters 0 47 = []
    ∧ (cleanTile.tileWrite runClean).1.claimSlot ((cleanTile.logical 0).getD 255) 0 % 2 = 0
    ∧ after (exec (.tileEnd 1 ⟨0, false⟩) cleanTile) (fun t => (t.arr 1).lo = none && lValue (t.latch 0 47) = 1) = true
    ∧ after (exec (.tileEnd 1 ⟨0, false⟩) { arrays := [(1, { lo := some { runClean with failed := 2, done := true } })] })
        (fun t => bitAt (t.rd (rArrErr 1)) 1 && (t.arr 1).suspect && t.mem = []) = true
    ∧ after (exec (.tileEnd 1 ⟨0, false⟩) { arrays := [(1, { lo := some run0 })] }) (fun t => (t.arr 1).lo.isSome) = true := by decide +kernel

/-- A command ring in device memory: its descriptor at address 0. -/
def devRing : State := { owned {} with rings := [(0, { st := .running, log2e := 4, tail := 1, cmdDev := true })], mem := [(4, 7)] }
theorem wit_DescriptorTake_device : devRing.noErrors ∧ (devRing.ring 0).cmdDev = true ∧ devRing.frozenPart 0 = false
    ∧ after (exec (.descriptorTake 0 []) devRing) (fun t => (t.cmd 0 0).map (fun k => leAt k.desc 4 1) = some 7) = true := by
  unfold State.noErrors; decide +kernel
def nopDesc (v : Nat) : List Byte := zeros 2 ++ leBytes 2 v ++ zeros 20 ++ leBytes 8 4096 ++ zeros 24 ++ [1] ++ zeros 7
theorem wit_DescriptorTake_version : ∃ v, descBad { cmdOf 0 [] with desc := nopDesc v } = false ∧ acvBad { cmdOf 0 [] with desc := nopDesc v } = true := by
  by_cases h : Config.acv.toNat = 1
  · exact ⟨2, by decide +kernel, by simp [acvBad, h, show leAt (nopDesc 2) 2 2 = 2 by decide +kernel]⟩
  · refine ⟨1, by decide +kernel, ?_⟩
    have f : ({ cmdOf 0 [] with desc := nopDesc 1 } : Cmd).flag 4 = false := by decide +kernel
    simp [acvBad, f, show leAt (nopDesc 1) 2 2 = 1 by decide +kernel, Ne.symm h]
theorem wit_DescriptorTake_stopped : after (exec (.descriptorTake 0 []) { owned {} with rings := [(0, { st := .running, log2e := 4, tail := 1 })], parts := [(0, { st := .ready, stopped := true })] })
      (fun t => t.cmds = []) = true := by decide +kernel
def away : Cmd := cmdOf 4 (opblock 1 2 0 0 0 0 ++ tensor 0 7 ++ tensor (2 ^ 63 + 2 ^ 48 * 9) 0)
theorem wit_MovingCommands_away : (live away two).startable 0 0 4 away ∧ (live away two).entryFor away.part (away.ten 1).base = none
    ∧ after (exec (.copy 0 0) (live away two)) (fun t => (t.cmd 0 0).map (·.err) = some eFabGroupDenied) = true := by
  unfold State.startable; decide +kernel
/-- An adaptive QUANTIZE into Q8e blocks: the record at 1024 asks for size code 1; every element is kept, so the size stays. -/
def adapt8 : Cmd := cmdOf 2 (leBytes 4 1 ++ leBytes 4 8 ++ [0, 0, 1, 0] ++ leBytes 4 0xFFFF ++ leBytes 8 1024 ++ zeros 8 ++ tensor 0 7
  ++ (leBytes 8 64 ++ leBytes 8 96 ++ zeros 4 ++ [3, 0x10] ++ zeros 10))
def adaptS : State := { live adapt8 [] with mem := (live q8 two).mem ++ [(1024, 1)] }
theorem wit_ValueCommands_adapt : adapt8.adapt = true ∧ adaptS.startable 0 0 2 adapt8
    ∧ after (exec (.quantize 0 0) adaptS) (fun t => (t.cmd 0 0).map (fun k => (k.bsUsed, k.adapted, k.adaptRec)) = some (1, false, 1 :: zeros 15)) = true := by
  unfold State.startable; decide +kernel
/-- The line at address 0 is poisoned. -/
def spoiled (k : Cmd) : State := { live k two with ecc := [(0, 2 ^ 64 - 1)] }
theorem wit_ValueCommands_poison : (spoiled (src2 3 7)).startable 0 0 3 (src2 3 7)
    ∧ (((spoiled (src2 3 7)).begun (src2 3 7)).readTensor (((spoiled (src2 3 7)).begun (src2 3 7)).reqCmd (src2 3 7)) ((src2 3 7).ten 0) 1 2).2 = true
    ∧ after (exec (.convert 0 0) (spoiled (src2 3 7))) (fun t => (t.cmd 0 0).map (·.err) = some eMemPoison) = true := by
  unfold State.startable; decide +kernel
theorem wit_IndexedCommands_range : (live scatter2 (idx2 0 1)).startable 0 0 0x12 scatter2
    ∧ after (exec (.scatterAdd 0 0) (live scatter2 (idx2 0 1))) (fun t => (t.cmd 0 0).map (fun k => (k.err, k.detail)) = some (0x010D, 1)) = true := by
  unfold State.startable; decide +kernel
def resultNop : Cmd := { doneNop with desc := [0, 8] ++ zeros 30 ++ leBytes 8 4096 ++ zeros 24 }
theorem wit_CommandCompletes_result : (resultNop.resultEn && !resultNop.refused && (live resultNop []).inPart 0 resultNop.result 64) = true
    ∧ oneMemory ((live resultNop []).physOf resultNop.result) 64
    ∧ after (exec (.commandComplete 0 0) (live resultNop [])) (fun t => t.cmds = [] && (t.ring 0).written = 1) = true := by
  unfold oneMemory; decide +kernel
def adaptDone : Cmd := { adapt8 with phase := .written, adaptRec := 1 :: zeros 15 }
theorem wit_CommandCompletes_record : (live adaptDone []).mayComplete adaptDone = true ∧ oneMemory ((live adaptDone []).physOf adaptDone.stateAt) 16
    ∧ after (exec (.commandComplete 0 0) (live adaptDone [])) (fun t => t.bytes 1024 16 = 1 :: zeros 15) = true
    ∧ after (exec (.commandComplete 0 0) (live { doneNop with discard := true } [])) (fun t => t.cmds = [] && (t.ring 0).written = 0) = true := by
  unfold oneMemory; decide +kernel
/-- D in Q8i under MODE 1 with the scale code 0xFF. -/
def splitBad : Cmd := { mm 2 with phase := .running, tab := 4096, param := (mm 2).param.take 96 ++ (leBytes 8 64 ++ leBytes 8 96 ++ zeros 4 ++ [3, 8] ++ zeros 10) }
theorem wit_CheckedItems_scale : after (exec (.kSplitCombine 0 0) { splitS with cmds := [splitBad], mem := splitS.mem ++ [(96, 255)] })
    (fun t => (t.cmd 0 0).map (fun k => (k.phase, k.err)) = some (.failed, eScaleInvalid)) = true := by decide +kernel

/-- ZERO stores zeros; CONV turns two W32 elements into H16; a job whose source core is frozen waits. -/
theorem wit_DmaMoves_forms : (dmaS (job (dd 8))).dmaHeld 0 (dmaD (dd 8)) = false
    ∧ after (exec (.dmaStart 0 1) { dmaS (job (dd 8)) with mem := [(256, 1)] }) (fun t => t.mem = [] && (t.dmaq 1).map (·.bytes) = [8]) = true
    ∧ after (exec (.dmaStart 0 1) (dmaS (job (leBytes 8 0 ++ leBytes 8 256 ++ leBytes 4 8 ++ leBytes 4 1 ++ zeros 8 ++ [0x67, 1] ++ zeros 30))))
      (fun t => t.bytes 256 4 = [0x80, 0x3F, 0, 0x40] || t.bytes 256 4 = [0x00, 0x3F, 0x00, 0x40]) = true
    ∧ after (exec (.dmaStart 0 1) (dmaS { job [] with post := some (0x010200000000, 5) })) (fun t => (t.dmaq 1).map (·.started) = [true] && t.mem = (dmaS (job [])).mem) = true := by
  decide +kernel
theorem wit_GranulesAndChecker_owner : (near1.wrF (rMemGran 382) 11 8 3).rdF (rMemGran 382) 11 8 = 3
    ∧ after (exec (.granModeChange 382 0x500) (near1.wrF (rMemGran 382) 11 8 3)) (fun t => t.modeOf 382 = 1 && t.rdF (rMemGran 382) 11 8 = 5) = true
    ∧ after (exec (.rowRemap 7 19 5) {}) (fun t => t.memx.rowMap.map (fun x => (x.1, x.2.1, x.2.2.1)) = [(7, 19, 5)]) = true
    ∧ after (exec (.eccBktRead 319) (State.reset.wrF (rEccBkt 319) 31 24 3)) (fun t => t.resp = [0, 0, 0, 3] && t.rdF (rEccBkt 319) 31 24 = 0) = true := by
  decide +kernel
theorem wit_GranulesAndChecker_dram : isDram 0 = true ∧ (svc.wr rEccRawAddr 0).wordOf ((svc.wr rEccRawAddr 0).rd64 rEccRawAddr) = some 0
    ∧ after (exec (.rawWrite 0) ((svc.wr rEccRawAddr 0).wr (rEccRawData 7) 0x01020304)) (fun t => t.bytes 56 4 = [4, 3, 2, 1]) = true := by decide +kernel

/-- Channel 0 is busy, so the reset leaves it open for its response; a live command of a host ring is discarded. -/
def hostBusy : State := { live (cmdOf 0 []) [] with host := { chans := [(0, { bind := .bound, busy := true }), (1, { bind := .bound })] } }
theorem wit_HostCommands_closing : (hostBusy.chan 0).busy = true ∧ (hostBusy.chan 1).busy = false
    ∧ ((hostBusy.ring 0).cmdDev && (hostBusy.ring 0).cplDev) = false
    ∧ after (exec .hostReset hostBusy) (fun t => (t.chan 0).closing && (t.chan 0).bind = .bound && (t.chan 1).bind = .unbound
        && t.cmds.all (·.discard) && t.cmds.length = 1) = true
    ∧ after (exec .hostReset { hostBusy with rings := [(0, { st := .running, cmdDev := true, cplDev := true })] }) (fun t => (t.ring 0).st = .running
        && t.cmds.all (fun k => !k.discard)) = true := by decide +kernel
theorem wit_HostCommands_config : after (exec (.configurationRequest 0) {}) (fun t => t.resp = [2] && !t.host.msix) = true
    ∧ after (exec (.configurationRequest 0) { host := { cfgReady := true } }) (fun t => t.resp = [0] && t.host.msix) = true
    ∧ status (exec (.bar2Map (msg [0xFF, 1, 0x7E, 1])) (sess .operator)) 0 = false := by decide +kernel
/-- A ring with a live command is not destroyed. -/
def liveRing : State := { sess .operator with rings := [(0, { st := .halted, log2e := 4, tail := 1, head := 1 })], cmds := [cmdOf 0 []] }
theorem wit_Rings_live : liveRing.ringLive 0 = true ∧ status (exec (.ringDestroy (msg [0])) liveRing) eHifRingInvalid = true := by decide +kernel
def part7 : State := { sess .operator with parts := [(7, { st := .ready })] }
theorem wit_Partitions_query : answers (exec (.partQuery (msg [7])) part7) 0 ((part7.part 7).body 7) = true
    ∧ part7.partIdle 7 = true ∧ status (exec (.preempt (msg [7, 0])) part7) 0 = true := by decide +kernel
/-- A live command of partition 0: the answer waits for its end. -/
def partBusy : State := { liveRing with rings := [(0, { st := .running, log2e := 4, tail := 1, head := 1 })], parts := [(0, { st := .ready })] }
theorem wit_Partitions_preempt : partBusy.partIdle 0 = false
    ∧ after (exec (.preempt (msg [0, 0])) partBusy) (fun t => (t.chan 0).busy && (t.part 0).preempts = [{ ch := 0, tag := 9 }] && (t.ring 0).cause = 2) = true
    ∧ after (exec (.preemptDone 7) { part7 with parts := [(7, { st := .ready, preempts := [{ ch := 0, tag := 9, ended := 3 }] })] })
      (fun t => (t.chan 0).done && (t.part 7).preempts = [] && t.resp.drop 16 = leBytes 4 3) = true := by decide +kernel

theorem wit_EventsDue_period : (due 5 0xFF 2001).nextDue 5 ⟨9, 5, 0xFF, 2001, 0, 0⟩
    ∧ after (exec .period (due 5 0xFF 2001)) (fun t => t.beat.periods.length = 1 && t.beat.events = []) = true
    ∧ after (exec .profile ((due 4 0xFF 0).wrB rPwrStat 25 true)) (fun t => t.profile = 0 && t.clk = min (due 4 0xFF 0).clk (profClk 0)) = true := by
  unfold State.nextDue; decide +kernel
/-- This module is member 0 of entry 0; a RESUME is asked for beat 100, and the answer waits. -/
def asker : State := { (sess .operator).wrF rBeatStat 31 29 2 with mem := [(gtAddr 0 0, 1), (gtAddr 0 0 + 3, 1), (gtAddr 0 0 + 4, 1)] }
def askBody (n : Nat) : List Byte := [3, 0, 0, 0, 0, 0, 0, 0] ++ leBytes 8 n ++ zeros 4
theorem wit_EventRequests_ask : ((asker.wr (rCollSeq 0) 1).entryMembers 0).length = 1
    ∧ after (exec (.eventReq (msg (askBody 0xFFFF))) (asker.wr (rCollSeq 0) 1)) (fun t => (t.chan 0).busy && t.beat.asked.map (·.beat) = [0xFFFF] && t.beat.issued.length = 1) = true
    ∧ status (exec (.eventReq (msg (askBody 1))) (asker.wr (rCollSeq 0) 1)) eSyncLead = true := by decide +kernel
theorem wit_EventRequests_resetAway : isRemote (2 ^ 63 + 2 ^ 48 * 9) = true ∧ remoteMod (2 ^ 63 + 2 ^ 48 * 9) ≠ asker.maddr ∧ asker.route 9 0 = .none
    ∧ status (exec (.barrierReset (msg (leBytes 8 (2 ^ 63 + 2 ^ 48 * 9) ++ [8, 0]))) (sess .operator)) eFabUnreachable = true := by decide +kernel
/-- An answer that is due is given at the edge. -/
def askDue : State := { State.reset with beat := { asked := [⟨(0, 9), 5, 0⟩] } }
theorem wit_BeatEdge_answer : after (step askDue) (fun t => t.beat.asked = [] && (t.chan 0).done && (t.chan 0).resp.drop 16 = leBytes 8 5) = true := by decide +kernel
theorem wit_BeatUnit_markers : after (exec .markerSend { locked51 with beat := { count := 15, markersAt := some 0 } }) (fun t => (t.port 51).timingOut = []) = true
    ∧ after (exec .markerSend { locked51 with beat := { count := 16, markersAt := some 0 } }) (fun t => (t.port 51).timingOut.length = 1 && t.beat.markersAt = some 16) = true
    ∧ newer 4 locked51.beatGen = true
    ∧ (locked51.port 51).measured = none := by decide +kernel
/-- Core 0 is frozen: an arrival there waits. -/
theorem wit_Barriers_frozen : frozenCore.frozen 0 = true
    ∧ after (exec (.barrierArrival none) (inLocal (bar 0 0x010200000040 7) { (counter 3 0).wrB (rCoreStat 0) 4 true with handovers := frozenCore.handovers }))
      (fun t => t.fab.localQ.length = 1) = true := by decide +kernel
/-- Port 50 belongs to the west half; no cartridge feeds it once its cartridge has failed. -/
def unlit : State := { (trained 0).wrF (rOptCart 2) 31 30 2 with bays := [] }
theorem wit_PortStates_unfed : unlit.fed 50 = false ∧ (trained 0).fed 50 = true ∧ after (exec (.linkTrain 50) unlit) (fun t => t.portState 50 = 0) = true
    ∧ after (exec (.retrain 50) (unlit.wrF (rFabPort 50) 31 29 2)) (fun t => t.portState 50 = 0) = true := by decide +kernel
def noStandby : State := (trained 2).wrF (rOptCart 3) 31 30 3
theorem wit_FabricSpares_unlit : noStandby.standbyCart 1 = none ∧ noStandby.cartState 2 = 0 ∧ noStandby.rdF (rOptCart 2) 29 28 = 1
    ∧ after (exec (.cartridgeFault 2) noStandby) (fun t => t.portState 50 = 0 && t.cartState 2 = 2) = true := by decide +kernel
/-- A WRITE of the same descriptor was dropped, so its LATCH_ADD is too (R456). -/
theorem wit_Packets_dropped : after (exec (.latchAdd none) { inLocal (pktSeal (State.reset.mkPkt 1 1 0 0 0x010200000000 0 1 0 3 [])) with
      fab := { (inLocal (pktSeal (State.reset.mkPkt 1 1 0 0 0x010200000000 0 1 0 3 []))).fab with dropped := [(0, 1, 0)] } }) (fun t => t.latches = []) = true := by
  decide +kernel
/-- A member's refusal reaches the EVENT_REQ that waits for it. -/
def refused : State := { inLocal (pktSeal (State.reset.mkPkt 3 3 0 0 0 0xFFF 0 0 (eSyncEvtFull.toNat + 2 ^ 16 * tagMcp + 2 ^ 32 * 6) [])) with
  beat := { asked := [⟨(0, 9), 5, 100⟩], issued := [{ token := 6, kind := 3, part := some 0, beat := 5, ident := 0, req := some (0, 9) }] } }
theorem wit_Packets_refused : after (exec (.status none) refused) (fun t => t.beat.asked = [] && leAt (t.chan 0).resp 8 2 = eSyncEvtFull.toNat) = true := by decide +kernel

theorem wit_Reliability_native : after (exec .nativeReportSend { reports := [report0 4], rsent := 5 }) (fun t => t.rsent = 5 && t.resp = []) = true
    ∧ after (exec .bstCheckRead (State.reset.wr rBstCheck 7)) (fun t => t.resp = [7, 0, 0, 0] && t.rd rBstCheck = 0) = true := by decide +kernel
def service : State := { sess .service with test := { lc := 3 }, flashMap := [] }
theorem wit_ReliabilityMessages_core : service.testState 0 = 0 ∧ service.logical 7 = none ∧ (∀ k < 144, (service.core k).testNext = false)
    ∧ after (exec (.testRun (msg [1, 0, 7, 0]) true) service) (fun t => t.testState 0 = 3 && t.testCore 0 = 7) = true
    ∧ after (exec (.testRun (msg [1, 0, 7, 0]) true) (testing 3 5 service)) (fun t => (t.core 7).testNext && leAt t.resp 8 2 = 0) = true
    ∧ service.unitUsed 2 575 = false := by decide +kernel
theorem wit_Governor_warned : (powered.rate ePwrOvWarn.toNat).sent < 1000 ∧ (powered.rate ePwrThermWarn.toNat).sent < 1000
    ∧ after (exec (.pwrOvWarn 60001) powered) (fun t => t.reports.map (·.err) = [ePwrOvWarn]) = true
    ∧ after (exec (.pwrThermWarn 760) powered) (fun t => t.reports.map (·.err) = [ePwrThermWarn] && t.pwr.alert = 1) = true := by decide +kernel
/-- With no standby unit left, a miscompare ends the wing's commands. -/
def lastUnit : State := { live (src2 3 7) two with pwr := { wcStandby := [(0, false)] } }
theorem wit_PowerRequests_command : lastUnit.coresOfWing 0 0 ≠ [] ∧ (src2 3 7).phase ≠ .failed ∧ tget (fun _ => true) lastUnit.pwr.wcStandby 0 = false
    ∧ after (exec (.wcPrimaryMiscompare 0) lastUnit) (fun t => t.cmds.map (fun (k : Cmd) => k.phase) = [.failed]) = true
    ∧ after (exec (.flashCopyWrite 4) { powered with pwr := { images := [(4, { dirty := true })] }, memx := { rowMap := [(7, 19, 5, 0)] } })
        (fun t => t.memx.flashRows = [(7, 19, 5, 0)] && !(t.image 4).dirty) = true := by decide +kernel
theorem wit_PowerMessages_shutdown : (sess .operator).allIdle = true ∧ partBusy.allIdle = false
    ∧ after (exec (.shutdown (msg [])) partBusy) (fun t => t.pwr.shutting) = true := by decide +kernel

def oneMember : State := { sess .operator with mem := asker.mem }.wr (rCollSeq 0) 1
def winBody (n : Nat) : List Byte := [15, 0xFF, 0, 0] ++ leBytes 4 4 ++ leBytes 8 n ++ zeros 8
theorem wit_CountersAndTraces_window : oneMember.entryMembers 0 ≠ []
    ∧ after (exec (.cntWindow (msg (winBody 0xFFFF))) oneMember) (fun t => (t.win 15).len = 4 && t.beat.issued.map (·.kind) = [6]) = true
    ∧ status (exec (.cntWindow (msg (winBody 1))) oneMember) eSyncLead = true
    ∧ answers (exec (.traceRead (msg [0xFF, 0xFF, 0xFF, 0xFF])) (sess .operator)) eHifMsgInvalid [] = true := by decide +kernel
/-- Bay c holds a cartridge that warms; the other bays are empty. -/
def warm (c : Nat) (a b : Nat) : State :=
  { ((State.reset.wrF (rOptCart 1) 31 30 3).wrF (rOptCart 2) 31 30 3).wrF (rOptCart 3) 31 30 3 with bays := [(c, { warming := true })] }
    |> fun s => if a = 0 then s else (s.wrF (rOptCart a) 31 30 0).wrF (rOptCart a) 29 28 b
theorem wit_BaysAndSmbus_feeding : (warm 3 0 0).activeCart 0 = none ∧ (warm 3 1 0).activeCart 0 = some 1 ∧ (warm 3 1 0).activeCart 1 = none
    ∧ after (exec (.cartridgeLocked 3 true) (warm 3 0 0)) (fun t => t.cartState 3 = 0 && t.rdF (rOptCart 3) 29 28 = 0) = true
    ∧ after (exec (.cartridgeLocked 3 true) (warm 3 1 0)) (fun t => t.cartState 3 = 0 && t.rdF (rOptCart 3) 29 28 = 1) = true
    ∧ after (exec (.cartridgeLocked 2 true) (warm 2 1 0)) (fun t => t.cartState 2 = 0 && t.rdF (rOptCart 2) 29 28 = 1 && (t.bay 2).lamp = 0) = true
    ∧ after (exec (.cartridgeLocked 3 true) { State.reset with bays := [(3, { warming := true })] }) (fun t => t.cartState 3 = 1 && (t.bay 3).lamp = 1) = true := by
  decide +kernel
theorem wit_BaysAndSmbus_service : (sess .operator).cartState 1 = 0 ∧ (sess .operator).cartState 3 = 1
    ∧ after (exec (.cartService (msg [1])) (sess .operator)) (fun t => t.test.planned.map (·.2) = [(4, 0)] && t.resp.drop 16 = [0]) = true
    ∧ answers (exec (.cartService (msg [1])) ((sess .operator).wrF (rOptCart 3) 31 30 2)) 0 [1] = true
    ∧ after (exec (.smbusRead 0x01) (State.reset.wrF rPwrMeas 31 16 0x1234)) (fun t => t.resp = [0x34, 0x12]) = true := by decide +kernel
theorem wit_RegisterWrites_injection : injReg (rArrInj 0) = true ∧ State.reset.injectable = false ∧ mayWrite .mcp (rArrInj 0) = true
    ∧ after (exec (.registerWrite .mcp (rArrInj 0) 0xFFFFFFFF) {}) (fun t => t.regs = []) = true
    ∧ mayWrite (.page 0) rBeatCtl = false ∧ (State.reset.chan 0).bind ≠ .bound
    ∧ after (exec (.registerWrite (.page 0) rBeatCtl 0) {}) (fun t => t.host.log.map (·.code) = [eHifRoleDenied]) = true := by decide +kernel

/-! ### The words of a bundle (chapter Instruction Set) -/

/-- S.ADDI s3, s1, 7: OP 0x03, SD 3, SA 1, SB 2, IMM 7. S.END: OP 0x2F. A word with a reserved opcode spells nothing. -/
theorem test_word_s : decodeS x0 (0x03#8 ++ 3#5 ++ 1#5 ++ 2#5 ++ 0#9 ++ 7#32) = some (.sAddi x0 ⟨3, 1, 2, 0, 7⟩)
    ∧ decodeS x0 0x2F00000000000000 = some (.sEnd x0 ⟨0, 0, 0, 0, 0⟩) ∧ decodeS x0 0x0700000000000000 = none := by decide +kernel
/-- V.FMA, type 5, PN, p1, PEN, v4, v1, v2, v3; V.UNPK6 is OP 0x047. -/
theorem test_word_v : decodeV x0 (0x004#10 ++ 5#4 ++ 0#1 ++ 1#1 ++ 1#3 ++ 1#1 ++ 4#5 ++ 1#5 ++ 2#5 ++ 3#5 ++ 6#5 ++ 0#3 ++ 9#32)
      = some (.vFma x0 ⟨5, false, true, 1, true, 4, 1, 2, 3, 6, 0, 9⟩)
    ∧ decodeV x0 (0x047#10 ++ 0#70) = some (.vUnpk6 x0 ⟨0, false, false, 0, false, 0, 0, 0, 0, 0, 0, 0⟩) ∧ decodeV x0 (0x00F#10 ++ 0#70) = none := by
  decide +kernel
/-- M.TILE on array 1, half 2, descriptor 3, with LATCH 47 and OEN; M.TSET of field 5. -/
theorem test_word_m : decodeM x0 (0x01#8 ++ 1#2 ++ 2#2 ++ 3#4 ++ 4#5 ++ 5#5 ++ 6#5 ++ 47#6 ++ 0#1 ++ 0#1 ++ 1#1 ++ 0#24)
      = some (.mTile x0 ⟨1, 2, 3, 4, 5, 6, 47, false, false, true, 0⟩)
    ∧ decodeM x0 (0x02#8 ++ 0#4 ++ 3#4 ++ 9#5 ++ 0#5 ++ 5#6 ++ 0#32) = some (.mTset x0 ⟨3, 9, 5, 0⟩)
    ∧ decodeM x0 (0x03#8 ++ 0#4 ++ 3#4 ++ 9#4 ++ 0#44) = some (.mTcpy x0 ⟨3, 9, 0⟩) := by decide +kernel
/-- One word of each format of the C slot. -/
theorem test_word_c : decodeC x0 (0x04#7 ++ 1#5 ++ 2#5 ++ 0x7FFFFFF8#31) = some (.cLdd x0 ⟨1, 2, 0x7FFFFFF8⟩)
    ∧ decodeC x0 (0x12#7 ++ 1#5 ++ 2#5 ++ 1#1 ++ 3#3 ++ 4#5 ++ 2#2 ++ 9#20) = some (.cVgth x0 ⟨1, 2, true, 3, 4, 2, 9⟩)
    ∧ decodeC x0 (0x1A#7 ++ 1#5 ++ 2#5 ++ 3#5 ++ 0#26) = some (.cCas x0 ⟨1, 2, 3, 0⟩)
    ∧ decodeC x0 (0x2A#7 ++ 1#5 ++ 2#5 ++ 47#6 ++ 7#4 ++ 1#1 ++ 5#20) = some (.cLwait x0 ⟨1, 2, 47, 7, true, 5⟩)
    ∧ decodeC x0 (0x21#7 ++ 1#5 ++ 2#5 ++ 3#2 ++ 0#29) = some (.cLpost x0 ⟨1, 2, 3, 0⟩) ∧ decodeC x0 0x440000000000 = some (.cFence x0) := by decide +kernel
/-- The bundle's slots, lowest first, and its bytes: S.END alone is byte 7. A word with opcode 0x07 in the S slot raises BUNDLE_INVALID. -/
theorem wit_BundleWords : bundleBytes (bundleWord 0x2F00000000000000 0 0 0) = zeros 7 ++ [0x2F] ++ zeros 24
    ∧ bundleSlots (bundleWord 1 2 3 4) = [.s 1, .v 2, .m 3, .c 4] ∧ (Instr.sEnd x0 ⟨0, 0, 0, 0, 0⟩).issue = some x0
    ∧ SlotWord.decode ⟨0, 0, true⟩ (.s 0x0700000000000000) = none
    ∧ (0, cBundle) ∈ bundleCauses (wordOuts (bundleWord 0x0700000000000000 0 0 0) (one {}) 0 0) := by decide +kernel

end Sys2Proof.Tests
end

section
/-! PROOFS. Bundles of one slot (R161, R163, R183, R185, R204, R206): the bundle that issues, the bundle that raises a cause, and the slot
that is turned away or waits for the rest of its bundle. -/

namespace Sys2Proof.Machine

/-! ### Counting -/

/-- An event counted and then counted in its unit's block touches the counters only. -/
theorem State.count_countBlock_only (s : State) (r : Req) (w n off m : Nat) :
    (s.count r w n).countBlock off m = { s with cnt := ((s.count r w n).countBlock off m).cnt } :=
  congrArg (fun q : State => { q with cnt := ((s.count r w n).countBlock off m).cnt }) (State.count_only s r w n)

@[simp] theorem State.count_zero (s : State) (r : Req) (w : Nat) : s.count r w 0 = s := by simp [State.count]

/-! ### Raising a cause (R182 to R185) -/

section Raise
variable (s : State) (c t cause slot : Nat) (second : Bool) (pc : W64)

/-- The thread that raises a cause is FAULTED, its pc and its registers as they were. -/
@[simp] theorem State.thr_raise : (s.raise c t cause slot second pc).thr c t =
    { s.thr c t with st := .faulted, under := .free, outs := [], fence := false, wait := none, bundle := [] } :=
  State.thr_setThr_self _ _ _ _

/-- The record of a cause (R183). -/
def State.excRec : ExcRec :=
  { cause, slot, second, thread := t, part := (s.thr c t).part, bundle := pc, seq := (s.thr c t).seq, beat := s.now.setWidth 32 }

/-- The core after a raise: the record or its DROPPED count, and the message to the wing controller. -/
theorem State.core_raise : (s.raise c t cause slot second pc).core c =
    { (if (s.core c).exc.length < 8 then { s.core c with exc := (s.core c).exc ++ [s.excRec c t cause slot second pc] }
        else { s.core c with dropped := holdAdd 255 (s.core c).dropped 1 } : Core) with
      msgs := (s.core c).msgs ++ [⟨t, cause, (s.thr c t).part, (s.thr c t).ring, (s.thr c t).dcount⟩] } := by
  refine (State.core_setCore_self s c _).trans ?_
  split <;> rfl

/-- Every cause is told to the wing controller, whether or not the queue had room. -/
theorem State.raise_msgs : ((s.raise c t cause slot second pc).core c).msgs =
    (s.core c).msgs ++ [⟨t, cause, (s.thr c t).part, (s.thr c t).ring, (s.thr c t).dcount⟩] := by
  rw [State.core_raise]

theorem State.raise_exc_room (h : (s.core c).exc.length < 8) :
    ((s.raise c t cause slot second pc).core c).exc = (s.core c).exc ++ [s.excRec c t cause slot second pc]
      ∧ ((s.raise c t cause slot second pc).core c).dropped = (s.core c).dropped := by
  rw [State.core_raise, if_pos h]
  exact ⟨rfl, rfl⟩

theorem State.raise_exc_full (h : 8 ≤ (s.core c).exc.length) :
    ((s.raise c t cause slot second pc).core c).exc = (s.core c).exc
      ∧ ((s.raise c t cause slot second pc).core c).dropped = min 255 ((s.core c).dropped + 1) := by
  rw [State.core_raise, if_neg (Nat.not_lt.mpr h)]
  exact ⟨rfl, rfl⟩

end Raise

/-! ### The thread's context -/

theorem Thread.put_pc (y : Thread) (p : W64) (w : RegWrite) : Thread.put { y with pc := p } w = { y.put w with pc := p } := by
  cases w <;> rfl

/-- Register writes neither read nor move the pc. -/
theorem Thread.foldl_put_pc (ws : List RegWrite) (y : Thread) (p : W64) :
    ws.foldl Thread.put { y with pc := p } = { ws.foldl Thread.put y with pc := p } := by
  induction ws generalizing y with
  | nil => rfl
  | cons w ws ih => rw [List.foldl_cons, Thread.put_pc, ih, List.foldl_cons]

/-- With no access to wait for, the bundle's registers are written at its issue. -/
theorem SlotOut.thread_of_load_none {o : SlotOut} {y : Thread} (hl : o.load = none) (hb : y.bundle = []) :
    o.thread y = { o.writes.foldl Thread.put y with pc := o.target.getD (y.pc + 32) } := by
  rw [← Thread.foldl_put_pc]
  simp only [SlotOut.thread, hl, hb]

/-! ### One slot offered -/

/-- The causes of a bundle of one slot are that slot's own: it conflicts with no other. -/
theorem bundleCauses_one (o : SlotOut) : bundleCauses [o] = (o.cause.map (fun k => (o.kind, k))).toList := by
  cases h : o.cause <;> simp [bundleCauses, conflictKind, h]

/-- A slot alone, its unit free, its registers waiting for no return, and no access of its own: eligible. -/
theorem State.eligible_one {s : State} {c t : Nat} {o : SlotOut} (hr : o.ready = true) (hl : o.load = none)
    (hs : ∀ r ∈ o.srcs ++ o.dsts, r ∉ (s.thr c t).pendingRegs) : s.eligible c t [o] = true := by
  have hsrcs := sharesReg_false.mpr (fun r h => hs r (List.mem_append_left o.dsts h))
  have hdsts := sharesReg_false.mpr (fun r h => hs r (List.mem_append_right o.srcs h))
  simp [State.eligible, hr, hl, hsrcs, hdsts]

theorem ascending_slotKind_one (i : Instr) (s : State) (c t : Nat) : ascending ([i].filterMap (fun i => slotKind i s c t)) = true := by
  cases h : slotKind i s c t <;> simp [h, ascending]

variable {s : State} {x : Issue} {i : Instr}

/-- A thread that is not READY takes no slot. -/
theorem State.issueSlot_of_not_ready (h : (s.thr x.core x.thread).st ≠ .ready) : s.issueSlot x i = s := by
  simp [State.issueSlot, h]

/-- The first slot of a bundle with more to come waits in its thread. -/
theorem State.issueSlot_more (hm : x.more = true) (hst : (s.thr x.core x.thread).st = .ready) (hi : s.issues x.core = true)
    (hb : (s.thr x.core x.thread).bundle = []) :
    s.issueSlot x i = s.setThr x.core x.thread { s.thr x.core x.thread with bundle := [i] } := by
  simp only [State.issueSlot, hst, hi, hb, hm, List.nil_append, ascending_slotKind_one]
  rfl

/-- A slot alone in its bundle issues it. -/
theorem State.issueSlot_one (hm : x.more = false) (hst : (s.thr x.core x.thread).st = .ready) (hi : s.issues x.core = true)
    (hb : (s.thr x.core x.thread).bundle = []) :
    s.issueSlot x i = s.issueOuts x.core x.thread (bundleOuts [i] s x.core x.thread) (vecCycles i) := by
  simp only [State.issueSlot, hst, hi, hb, hm, List.nil_append, ascending_slotKind_one, List.map_cons, List.map_nil, List.foldl_cons,
    List.foldl_nil, Nat.zero_add]
  rfl

/-- A bundle whose one slot raises a cause and consumes no poison is the raise and no more: no register, no store, no cycle of the
vector unit. -/
theorem State.issueOuts_of_cause {c t k : Nat} {o : SlotOut} (n : Nat) (hel : s.eligible c t [o] = true) (hk : o.cause = some k)
    (hcon : o.consumed = []) :
    s.issueOuts c t [o] n = (s.raise c t k o.kind false (s.thr c t).pc).countBlock (0x20000 + 256 * c + 136) 0 := by
  have hcauses : bundleCauses [o] = [(o.kind, k)] := by rw [bundleCauses_one, hk]; rfl
  simp [State.issueOuts, State.runBundle, hel, hcauses, hcon]

/-- With no fence in its way, a slot stands in its bundle as it is. -/
theorem bundleOuts_of_fenceClear {o : SlotOut} (hfence : ∀ z, i ≠ .cFence z) (hclear : s.fenceClear x)
    (ho : slotOut i s x.core x.thread = some o) : bundleOuts [i] s x.core x.thread = [o] :=
  bundleOuts_one i s _ _ o ho (hclear.imp_right .inl) hfence

section Single
variable {o : SlotOut} (he : exec i s = slotStep s x i) (hfence : ∀ z, i ≠ .cFence z) (hclear : s.fenceClear x)
  (ho : slotOut i s x.core x.thread = some o) (hr : o.ready = true) (hl : o.load = none) (hmay : s.mayIssue x (o.srcs ++ o.dsts))
include he hfence hclear ho hr hl hmay

/-- A bundle whose slot raises no cause writes its registers, moves the pc and acts; under S.END the thread is then free. -/
theorem exec_of_no_cause (hc : o.cause = none) :
    let y := s.thr x.core x.thread
    let next := { o.writes.foldl Thread.put y with pc := o.target.getD (y.pc + 32) }
    ∃ t u, exec i s = .next t ∧ u = { (s.marked x.core).setThr x.core x.thread next with cnt := u.cnt }
      ∧ (o.ends = false → t = { o.act u with cnt := t.cnt })
      ∧ (o.ends = true → t = { (o.act u).setThr x.core x.thread ((o.act u).thr x.core x.thread).free with cnt := t.cnt }) := by
  obtain ⟨hm, hst, hb, hi, hp⟩ := hmay
  obtain ⟨r, b, k1, k2, hrun⟩ :=
    issueSlot_alone i s x o hm hst hb hi ho (bundleOuts_of_fenceClear hfence hclear ho) hc hr hp (by simp [hl])
  rw [SlotOut.thread_of_load_none hl hb] at hrun
  refine ⟨_, _, he, State.count_countBlock_only _ r 18 1 k1 1, fun hend => ?_, fun hend => ?_⟩ <;>
    (rw [hrun, hend]; exact State.count_countBlock_only _ r 19 b k2 b)

/-- A bundle with a cause raises it. -/
theorem exec_of_cause {k : Nat} (hk : o.cause = some k) (hcon : o.consumed = []) :
    exec i s = .next ((s.raise x.core x.thread k o.kind false (s.thr x.core x.thread).pc).countBlock (0x20000 + 256 * x.core + 136) 0) := by
  obtain ⟨hm, hst, hb, hi, hp⟩ := hmay
  rw [he, slotStep, State.issueSlot_one hm hst hi hb, bundleOuts_of_fenceClear hfence hclear ho,
    State.issueOuts_of_cause _ (State.eligible_one hr hl hp) hk hcon]

end Single

/-- Settles O17, by cases on the one slot's cause: `exec_of_no_cause` and `exec_of_cause`. -/
theorem bundleStops : Obligations.BundleStops := by
  refine ⟨fun s x i o he hfence hclear ho hr hl hmay => ⟨exec_of_no_cause he hfence hclear ho hr hl hmay, fun k hk hcon => ?_⟩,
    fun s x i he => ⟨fun hst => ?_, fun hm hst hi hb => ?_⟩⟩
  · refine ⟨_, exec_of_cause he hfence hclear ho hr hl hmay hk hcon, rfl, State.thr_raise .., State.raise_msgs .., fun hroom => ?_,
      fun hfull => State.raise_exc_full s _ _ _ _ _ _ hfull⟩
    obtain ⟨hexc, hdropped⟩ := State.raise_exc_room s x.core x.thread k o.kind false (s.thr x.core x.thread).pc hroom
    exact ⟨_, hexc, rfl, rfl, rfl, rfl, rfl, rfl, hdropped⟩
  · rw [he, slotStep, State.issueSlot_of_not_ready hst]
  · rw [he, slotStep, State.issueSlot_more hm hst hi hb]

end Sys2Proof.Machine
end

section
/-! PROOFS. Scalar slots that move the pc or act on control registers and on the thread itself (R94, R207, R210 to R212). -/

namespace Sys2Proof.Machine

/-! ### Bit fields -/

theorem bf_eq_div_mod {n : Nat} (w : BitVec n) (hi lo : Nat) : bf w hi lo = w.toNat / 2 ^ lo % 2 ^ (hi + 1 - lo) := by
  rw [bf, Nat.shiftRight_eq_div_pow]

/-- Two fields side by side, read in a wider word. -/
theorem toNat_setWidth_append {m n w : Nat} (a : BitVec m) (b : BitVec n) (h : m + n ≤ w) :
    ((a ++ b).setWidth w).toNat = a.toNat * 2 ^ n + b.toNat := by
  rw [BitVec.toNat_setWidth_of_le h, BitVec.toNat_append, ← Nat.shiftLeft_add_eq_or_of_lt b.isLt, Nat.shiftLeft_eq]

/-! ### The thread after a slot -/

/-- A thread after a slot with no access: its registers written, its pc at the target or at the next bundle. -/
def Thread.afterSlot (y : Thread) (writes : List RegWrite) (target : Option W64) : Thread :=
  { writes.foldl Thread.put y with pc := target.getD (y.pc + 32) }

/-- A jump that may not be taken only moves the pc. -/
theorem Thread.afterSlot_of_jump (y : Thread) (taken : Bool) (p : W64) :
    y.afterSlot [] (if taken then some p else none) = y.goto (if taken then p else y.pc + 32) := by
  cases taken <;> rfl

theorem Thread.put_st (y : Thread) (w : RegWrite) : (y.put w).st = y.st := by
  cases w <;> rfl

/-- Register writes leave the thread in its state. -/
theorem Thread.foldl_put_st (ws : List RegWrite) (y : Thread) : (ws.foldl Thread.put y).st = y.st := by
  induction ws generalizing y with
  | nil => rfl
  | cons w ws ih => rw [List.foldl_cons, ih, Thread.put_st]

/-- A thread that was READY is, after a slot, not as at reset. -/
theorem Thread.afterSlot_ne_reset {y : Thread} (h : y.st = .ready) (ws : List RegWrite) (target : Option W64) :
    y.afterSlot ws target ≠ {} := by
  intro e
  have hst : (y.afterSlot ws target).st = .ready := (Thread.foldl_put_st ws y).trans h
  rw [e] at hst
  cases hst

/-- With no access to wait for, the slot's thread is at once as after the slot. -/
theorem SlotOut.thread_eq_afterSlot {o : SlotOut} {y : Thread} (hl : o.load = none) (hb : y.bundle = []) :
    o.thread y = y.afterSlot o.writes o.target :=
  o.thread_of_load_none hl hb

/-- A thread updated once more after its slot, in a state that else differs in the counters only. -/
theorem State.setThr_afterSlot {s u : State} {c t : Nat} {y : Thread} (hst : y.st = .ready) {ws : List RegWrite} {target : Option W64}
    (hu : u = { s.setThr c t (y.afterSlot ws target) with cnt := u.cnt }) (g : Thread → Thread) :
    u.setThr c t (g (u.thr c t)) = { s.setThr c t (g (y.afterSlot ws target)) with cnt := u.cnt } := by
  have hthr : u.thr c t = y.afterSlot ws target := (congrArg (·.thr c t) hu).trans (s.thr_setThr_self c t _)
  rw [hthr, ← State.setThr_setThr s c t _ (g (y.afterSlot ws target)) (Thread.afterSlot_ne_reset hst ws target)]
  exact congrArg (·.setThr c t (g (y.afterSlot ws target))) hu

/-- A state that is `v` but for the counters is `v` but for the counters and the free-value counter. -/
theorem State.eq_of_only_cnt {t v : State} {k : Counters} (h : t = { v with cnt := k }) :
    t = { v with cnt := t.cnt, freeCtr := t.freeCtr } := by
  rw [h]

/-- Counting on from such a state. -/
theorem State.count_countBlock_of_only_cnt {u v : State} {k : Counters} (h : u = { v with cnt := k }) (r : Req) (w n off m : Nat) :
    (u.count r w n).countBlock off m = { v with cnt := ((u.count r w n).countBlock off m).cnt } := by
  rw [h]
  exact State.count_countBlock_only ..

/-! ### What a scalar slot alone in its bundle does -/

/-- Only the C slot has a fence. -/
theorem ne_cFence_of_kind {i : Instr} {s : State} {c t : Nat} {o : SlotOut} (ho : slotOut i s c t = some o) (hk : o.kind ≠ 3) (z : Issue) :
    i ≠ .cFence z := by
  rintro rfl
  cases ho
  exact hk rfl

section Scalar
variable {i : Instr} {s : State} {x : Issue} {srcs dsts : List RegRef} {writes : List RegWrite} {target : Option W64}

/-- A slot with no action of its own writes its registers and moves the pc. -/
theorem ran_scalar (ho : slotOut i s x.core x.thread = some { kind := 0, srcs, dsts, writes, target })
    (he : exec i s = slotStep s x i) (hmay : s.mayIssue x (srcs ++ dsts)) :
    Ran i s x ((s.thr x.core x.thread).afterSlot writes target) := by
  have ⟨_, _, hbundle, _, _⟩ := hmay
  exact ran_pure i s x _ _ _ he hmay ho (ne_cFence_of_kind ho nofun) nofun rfl rfl (fun _ h => h) rfl rfl rfl
    (SlotOut.thread_eq_afterSlot rfl hbundle)

/-- A slot that also draws a free value (notes/assumptions/15.md). -/
theorem ran_scalar_bump (ho : slotOut i s x.core x.thread = some { kind := 0, srcs, dsts, writes, target, act := State.bump })
    (he : exec i s = slotStep s x i) (hmay : s.mayIssue x (srcs ++ dsts)) :
    Ran i s x ((s.thr x.core x.thread).afterSlot writes target) := by
  have ⟨_, _, hbundle, _, _⟩ := hmay
  refine ran_of_slot i s x _ _ _ he hmay ho (ne_cFence_of_kind ho nofun) (.inr nofun) rfl rfl (fun _ h => h) nofun rfl fun u _ hu => ?_
  rw [SlotOut.thread_eq_afterSlot rfl hbundle] at hu
  exact congrArg (fun q => { q with freeCtr := u.freeCtr + 1 }) hu

/-- A slot whose action is an update `g` of its own thread. -/
theorem ran_scalar_thread {g : Thread → Thread}
    (ho : slotOut i s x.core x.thread = some { kind := 0, srcs, dsts, writes, target,
                                               act := fun u => u.setThr x.core x.thread (g (u.thr x.core x.thread)) })
    (he : exec i s = slotStep s x i) (hmay : s.mayIssue x (srcs ++ dsts)) :
    Ran i s x (g ((s.thr x.core x.thread).afterSlot writes target)) := by
  have ⟨_, hst, hbundle, _, _⟩ := hmay
  refine ran_of_slot i s x _ _ _ he hmay ho (ne_cFence_of_kind ho nofun) (.inr nofun) rfl rfl (fun _ h => h) nofun rfl fun u _ hu => ?_
  rw [SlotOut.thread_eq_afterSlot rfl hbundle] at hu
  exact State.eq_of_only_cnt (State.setThr_afterSlot hst hu g)

/-- A slot that ends its thread (S.END). -/
theorem ran_scalar_end (ho : slotOut i s x.core x.thread = some { kind := 0, srcs, dsts, writes, target, ends := true })
    (he : exec i s = slotStep s x i) (hmay : s.mayIssue x (srcs ++ dsts)) :
    Ran i s x ((s.thr x.core x.thread).afterSlot writes target).free := by
  obtain ⟨hmore, hst, hbundle, hissues, hpend⟩ := hmay
  obtain ⟨r, b, k1, k2, hrun⟩ := issueSlot_alone i s x _ hmore hst hbundle hissues ho
    (bundleOuts_one i s _ _ _ ho (.inr (.inr nofun)) (ne_cFence_of_kind ho nofun)) rfl rfl hpend nofun
  rw [SlotOut.thread_eq_afterSlot rfl hbundle] at hrun
  have hset := State.setThr_afterSlot hst (State.count_countBlock_only
    ((s.marked x.core).setThr x.core x.thread ((s.thr x.core x.thread).afterSlot writes target)) r 18 1 k1 1) Thread.free
  exact ⟨_, he, State.eq_of_only_cnt (hrun.trans (State.count_countBlock_of_only_cnt hset r 19 b k2 b))⟩

end Scalar

/-! ### Branches and jumps (R210, R211) -/

section Branch
variable {f : SF} (hrsv : f.rsv = 0)
include hrsv

/-- A branch inside the core store. -/
theorem sBranch_of_lt {y : Thread} (ht : (y.pc + 32 * sImm f).toNat < 0x200000) (srcs : List RegRef) (taken : Bool) (link : List RegWrite) :
    sBranch f y srcs taken link = { kind := 0, srcs, dsts := link.map RegWrite.ref, writes := link,
                                    target := if taken then some (y.pc + 32 * sImm f) else none } :=
  (if_neg (not_not_intro hrsv)).trans (if_neg (Nat.not_le.mpr ht))

/-- The target is checked whether the branch is taken or not (notes/assumptions/22.md). -/
theorem sBranch_of_ge {y : Thread} (ht : 0x200000 ≤ (y.pc + 32 * sImm f).toNat) (srcs : List RegRef) (taken : Bool) (link : List RegWrite) :
    sBranch f y srcs taken link = .raises 0 cBounds (link.map RegWrite.ref) srcs :=
  (if_neg (not_not_intro hrsv)).trans (if_pos ht)

theorem slotSJr_of_lt {y : Thread} (hlt : (sA f y).toNat < 0x200000) (hal : (sA f y).toNat % 32 = 0) :
    slotSJr f y = { kind := 0, srcs := [.s f.sa.toNat], target := some (sA f y) } := by
  simp [slotSJr, hrsv, Nat.not_le.mpr hlt, hal]

theorem slotSJr_of_ge {y : Thread} (hge : 0x200000 ≤ (sA f y).toNat) : slotSJr f y = .raises 0 cBounds [] [.s f.sa.toNat] := by
  simp [slotSJr, hrsv, hge]

theorem slotSJr_of_unaligned {y : Thread} (hlt : (sA f y).toNat < 0x200000) (hal : (sA f y).toNat % 32 ≠ 0) :
    slotSJr f y = .raises 0 cAlign [] [.s f.sa.toNat] := by
  simp [slotSJr, hrsv, Nat.not_le.mpr hlt, hal]

variable {s : State} {x : Issue} (ht : ((s.thr x.core x.thread).pc + 32 * sImm f).toNat < 0x200000) (i : Instr)
include ht

/-- A branch inside the core store writes its link and goes to its target when it is taken. -/
theorem ran_branch {srcs : List RegRef} {taken : Bool} {link : List RegWrite}
    (ho : slotOut i s x.core x.thread = some (sBranch f (s.thr x.core x.thread) srcs taken link))
    (he : exec i s = slotStep s x i) (hmay : s.mayIssue x (srcs ++ link.map RegWrite.ref)) :
    Ran i s x ((s.thr x.core x.thread).afterSlot link (if taken then some ((s.thr x.core x.thread).pc + 32 * sImm f) else none)) := by
  rw [sBranch_of_lt hrsv ht] at ho
  exact ran_scalar ho he hmay

/-- A conditional branch only moves the pc. -/
theorem ran_cond {g : W64 → W64 → Bool} {taken : Bool} (ho : slotOut i s x.core x.thread = some (sCond f (s.thr x.core x.thread) g))
    (he : exec i s = slotStep s x i) (htaken : g (sA f (s.thr x.core x.thread)) (sB f (s.thr x.core x.thread)) = taken)
    (hmay : s.mayIssue x [.s f.sa.toNat, .s f.sb.toNat]) :
    let y := s.thr x.core x.thread
    Ran i s x (y.goto (if taken then y.pc + 32 * sImm f else y.pc + 32)) := by
  intro y
  rw [← Thread.afterSlot_of_jump, ← htaken]
  exact ran_branch hrsv ht i ho he hmay

end Branch

/-! ### Control registers (R207) -/

/-- The index of a control register is the low byte of IMM. -/
theorem ctlIndex_eq (f : SF) : bf f.imm 7 0 = f.imm.toNat % 256 := by
  simp [bf_eq_div_mod]

/-- There is no control register beyond 10. -/
theorem State.crd_of_gt {i : Nat} (h : 10 < i) (s : State) (c t : Nat) : s.crd c t i = none := by
  unfold State.crd
  iterate 11 rw [if_neg (by omega)]

/-- Control registers 0 to 10 can be read. -/
theorem State.crd_of_le {i : Nat} (h : i ≤ 10) (s : State) (c t : Nat) : ∃ v, s.crd c t i = some v := by
  interval_cases i <;> exact ⟨_, rfl⟩

theorem Thread.fpst_toNat (y : Thread) : y.fpst.toNat = y.rm.toNat * 32 + y.flags.toNat :=
  toNat_setWidth_append y.rm y.flags (by decide)

theorem slotSCrd_of_gt {f : SF} (h : 10 < f.imm.toNat % 256) (s : State) (c t : Nat) :
    slotSCrd f s c t = .raises 0 cBundle [.s f.sd.toNat] := by
  simp only [slotSCrd, ctlIndex_eq, State.crd_of_gt h, sD]

/-- A read of a control register writes its value to sd; a read of CYCLE draws it. -/
theorem ran_sCrd {s : State} {x : Issue} {f : SF} {v : W64} (hrsv : f.rsv = 0) (hmay : s.mayIssue x [.s f.sd.toNat])
    (hv : s.crd x.core x.thread (f.imm.toNat % 256) = some v) :
    Ran (.sCrd x f) s x ((s.thr x.core x.thread).afterS f.sd v) := by
  have ho : slotOut (.sCrd x f) s x.core x.thread = some { kind := 0, dsts := [.s f.sd.toNat], writes := [.s f.sd.toNat v],
                                                           act := if f.imm.toNat % 256 = 9 then State.bump else fun s => s } := by
    show some (slotSCrd f s x.core x.thread) = _
    simp only [slotSCrd, ctlIndex_eq, hv, sWrite, hrsv, sD]
    split <;> rfl
  by_cases h9 : f.imm.toNat % 256 = 9
  · rw [if_pos h9] at ho
    exact ran_scalar_bump ho rfl hmay
  · rw [if_neg h9] at ho
    exact ran_scalar ho rfl hmay

theorem slotSCwr_of_gt {f : SF} (hrsv : f.rsv = 0) (h : 1 < f.imm.toNat % 256) (y : Thread) (c t : Nat) :
    slotSCwr f y c t = .raises 0 cBundle := by
  have h0 : f.imm.toNat % 256 ≠ 0 := by omega
  have h1 : f.imm.toNat % 256 ≠ 1 := by omega
  simp [slotSCwr, ctlIndex_eq, hrsv, h0, h1]

/-- A thread with FPST written from a word; RM 5 to 7 is stored as 0 (R94). -/
def Thread.setFpst (v : W64) (y : Thread) : Thread :=
  { y with rm := if v.toNat / 32 % 8 < 5 then BitVec.ofNat 3 (v.toNat / 32 % 8) else 0, flags := v.setWidth 5 }

/-- A thread with its conversion counts written from a word. -/
def Thread.setQcounts (v : W64) (y : Thread) : Thread :=
  { y with qsat := v.toNat % 2 ^ 32, qlost := v.toNat / 2 ^ 32 }

theorem slotSCwr_zero {f : SF} (hrsv : f.rsv = 0) (h : f.imm.toNat % 256 = 0) (y : Thread) (c t : Nat) :
    slotSCwr f y c t = { kind := 0, srcs := [.s f.sa.toNat], act := fun u => u.setThr c t ((u.thr c t).setFpst (sA f y)) } := by
  simp [slotSCwr, hrsv, h, Thread.setFpst, rmStored, bf_eq_div_mod]

theorem slotSCwr_one {f : SF} (hrsv : f.rsv = 0) (h : f.imm.toNat % 256 = 1) (y : Thread) (c t : Nat) :
    slotSCwr f y c t = { kind := 0, srcs := [.s f.sa.toNat], act := fun u => u.setThr c t ((u.thr c t).setQcounts (sA f y)) } := by
  have hlo : bf (sA f y) 31 0 = (sA f y).toNat % 2 ^ 32 := by rw [bf_eq_div_mod, Nat.pow_zero, Nat.div_one]
  have hhi : bf (sA f y) 63 32 = (sA f y).toNat / 2 ^ 32 := by rw [bf_eq_div_mod, Nat.mod_eq_of_lt (by omega)]
  simp [slotSCwr, ctlIndex_eq, hrsv, h, Thread.setQcounts, hlo, hhi]

/-! ### The thread itself (R182, R210, R212) -/

theorem slotSBrk_of_off {f : SF} (hrsv : f.rsv = 0) {s : State} {c : Nat} (h : s.test.lc ≠ 3 ∨ (s.core c).bkpt = false) :
    slotSBrk f s c = { kind := 0 } := by
  rcases h with h | h <;> simp [slotSBrk, hrsv, h]

theorem slotSBrk_of_on {f : SF} (hrsv : f.rsv = 0) {s : State} {c : Nat} (hlc : s.test.lc = 3) (hon : (s.core c).bkpt = true) :
    slotSBrk f s c = .raises 0 cBreak := by
  simp [slotSBrk, hrsv, hlc, hon]

/-! ### The statement -/

/-- Settles O4, slot by slot: each slot's own equation says what it asks for, and the `ran_` lemma of its kind what its bundle leaves. -/
theorem scalarControlFlow : Obligations.ScalarControlFlow := by
  refine ⟨fun s x f hrsv => ?_, fun s x f hrsv => ?_⟩
  · intro y a b target go
    refine ⟨fun hlt => ⟨fun hmay => ?_, fun hmay => ?_, fun hmay => ?_⟩, fun hge i hi => ?_,
      fun hmay hlt hal => ?_, fun hge => ?_, fun hlt hal => ?_⟩
    · exact ran_branch hrsv hlt (.sB x f) rfl rfl hmay
    · exact ran_branch hrsv hlt (.sCall x f) rfl rfl hmay
    · have hbge : (!a.slt b) = decide (b.toInt ≤ a.toInt) := BitVec.sle_eq_not_slt.symm
      have hbgeu : (!a.ult b) = decide (b.toNat ≤ a.toNat) := (BitVec.ule_eq_not_ult b a).symm
      exact ⟨ran_cond hrsv hlt (.sBeq x f) rfl rfl rfl hmay, ran_cond hrsv hlt (.sBne x f) rfl rfl rfl hmay,
        ran_cond hrsv hlt (.sBlt x f) rfl rfl rfl hmay, ran_cond hrsv hlt (.sBge x f) rfl rfl hbge hmay,
        ran_cond hrsv hlt (.sBltu x f) rfl rfl rfl hmay, ran_cond hrsv hlt (.sBgeu x f) rfl rfl hbgeu hmay⟩
    · have hbounds (srcs taken link) := congrArg SlotOut.cause (sBranch_of_ge hrsv hge srcs taken link)
      simp only [List.mem_cons, List.not_mem_nil, or_false] at hi
      rcases hi with rfl | rfl | rfl | rfl | rfl | rfl | rfl | rfl <;> exact hbounds ..
    · exact ran_scalar (i := .sJr x f) (congrArg some (slotSJr_of_lt hrsv hlt hal)) rfl hmay
    · exact congrArg SlotOut.cause (slotSJr_of_ge hrsv hge)
    · exact congrArg SlotOut.cause (slotSJr_of_unaligned hrsv hlt hal)
  · intro y a i
    refine ⟨fun hmay => ⟨?_, fun hoff => ?_, ?_⟩, fun hlc hon => ?_, fun hmay hle => ?_,
      fun hmay => ⟨fun h0 => ?_, fun h1 => ?_⟩, fun hgt => ?_, fun hgt => ?_⟩
    · exact ran_scalar (i := .sNop x f) (congrArg some (if_neg (not_not_intro hrsv))) rfl hmay
    · exact ran_scalar (i := .sBrk x f) (congrArg some (slotSBrk_of_off hrsv hoff)) rfl hmay
    · exact ran_scalar_end (i := .sEnd x f) (congrArg some (if_neg (not_not_intro hrsv))) rfl hmay
    · exact congrArg SlotOut.cause (slotSBrk_of_on hrsv hlc hon)
    · obtain ⟨v, hv⟩ := State.crd_of_le hle s x.core x.thread
      have read {k : Nat} {w : W64} (hw : s.crd x.core x.thread k = some w) (hk : i = k) : v = w :=
        Option.some.inj (hv.symm.trans (hk ▸ hw))
      exact ⟨v, ran_sCrd hrsv hmay hv, fun h => (congrArg BitVec.toNat (read rfl h)).trans y.fpst_toNat,
        read rfl, read rfl, read rfl, read rfl, read rfl, read rfl, read rfl, read rfl,
        fun h => (congrArg BitVec.toNat (read rfl h)).trans (toNat_setWidth_append y.layer y.oper (by decide))⟩
    · exact ran_scalar_thread (i := .sCwr x f) (congrArg some (slotSCwr_zero hrsv h0 y x.core x.thread)) rfl hmay
    · exact ran_scalar_thread (i := .sCwr x f) (congrArg some (slotSCwr_one hrsv h1 y x.core x.thread)) rfl hmay
    · exact congrArg SlotOut.cause (slotSCrd_of_gt hgt s x.core x.thread)
    · exact congrArg SlotOut.cause (slotSCwr_of_gt hrsv hgt y x.core x.thread)

end Sys2Proof.Machine
end

section
/-! PROOFS. The host interface: bytes of a response, answers to requests (R522 to R527), logs and reports, doorbells (R516), the error ring,
the window's session, BAR2 mappings (R518), and a host reset (R510, R550). -/

namespace Sys2Proof.Machine

/-! ### Byte strings -/

theorem length_leBytes (n v : Nat) : (leBytes n v).length = n := by
  induction n generalizing v with
  | zero => rfl
  | succ n ih => rw [leBytes, List.length_cons, ih]

theorem leNat_leBytes (n v : Nat) : leNat (leBytes n v) = v % 256 ^ n := by
  induction n generalizing v with
  | zero => exact (Nat.mod_one v).symm
  | succ n ih => rw [leBytes, leNat, ih, pow_succ', Nat.mod_mul, BitVec.toNat_ofNat]

/-- A number that fits its field is read back from the bytes around it. -/
theorem leAt_leBytes {a b : List Byte} {off n v : Nat} (ha : a.length = off) (hv : v < 256 ^ n) :
    leAt (a ++ (leBytes n v ++ b)) off n = v := by
  rw [leAt, List.drop_left' ha, List.take_left' (length_leBytes n v), leNat_leBytes, Nat.mod_eq_of_lt hv]

/-! ### Reads after writes of channels and rings -/

theorem State.chan_setChan (s : State) (c k : Nat) (x : Chan) : (s.setChan c x).chan k = if k = c then x else s.chan k :=
  tget_tput _ _ _ _ _

/-- A channel written with BUSY as it was. -/
theorem State.busy_setChan {s : State} {c : Nat} {x : Chan} (hx : x.busy = (s.chan c).busy) (k : Nat) :
    ((s.setChan c x).chan k).busy = (s.chan k).busy := by
  rw [State.chan_setChan]
  split
  case isTrue hk => rw [hk, hx]
  case isFalse => rfl

theorem State.ring_setRing (s : State) (n k : Nat) (x : Ring) : (s.setRing n x).ring k = if k = n then x else s.ring k :=
  tget_tput _ _ _ _ _

/-- A table of the state whose entry `c` alone is moved by `f` at `c`: after `f` at 0 to n - 1 the first n entries are moved. -/
theorem foldl_range_entry {σ α : Type} {get : σ → Nat → α} {f : σ → Nat → σ} {g : α → α}
    (h : ∀ s c k, get (f s c) k = if k = c then g (get s k) else get s k) (n : Nat) (s : σ) (k : Nat) :
    get ((List.range n).foldl f s) k = if k < n then g (get s k) else get s k := by
  induction n with
  | zero => rfl
  | succ n ih =>
    rw [List.range_succ, List.foldl_append, List.foldl_cons, List.foldl_nil, h, ih]
    grind

/-! ### Logs, interrupts and reports touch the host interface and the kept reports only -/

theorem State.irq_only (s : State) (v : Nat) : ∃ irqs, s.irq v = { s with host := { s.host with irqs } } := by
  unfold State.irq
  split <;> exact ⟨_, rfl⟩

theorem State.logSession_only (s : State) (c : Option Nat) (code : W16) (off : Nat) :
    ∃ log chans, s.logSession c code off = { s with host := { s.host with log, chans } } := by
  cases c with
  | none => exact ⟨_, _, rfl⟩
  | some c =>
    simp only [State.logSession]
    split <;> exact ⟨_, _, rfl⟩

/-- The newest entry of a channel's log is the one just added (R534). -/
theorem State.logSession_last (s : State) (c : Nat) (code : W16) (off : Nat) :
    ((s.logSession (some c) code off).chan c).log.getLast?.map (·.code) = some code := by
  simp only [State.logSession]
  split <;> simp

theorem State.logSession_busy (s : State) (c : Option Nat) (code : W16) (off k : Nat) :
    ((s.logSession c code off).chan k).busy = (s.chan k).busy := by
  cases c with
  | none => rfl
  | some c =>
    simp only [State.logSession]
    split <;> exact State.busy_setChan (by rfl) k

/-- t is s after reports: the error ring, its interrupts and host memory, the rates of the codes and the kept reports (R548, R578 to R580). -/
def Reported (s t : State) : Prop :=
  ∃ err irqs rates mem reports rseq, t = { s with host := { s.host with err, irqs, rates, mem }, reports, rseq }

theorem Reported.refl (s : State) : Reported s s := ⟨_, _, _, _, _, _, rfl⟩

theorem Reported.trans {s t u : State} : Reported s t → Reported t u → Reported s u := by
  rintro ⟨_, _, _, _, _, _, rfl⟩ ⟨_, _, _, _, _, _, rfl⟩
  exact ⟨_, _, _, _, _, _, rfl⟩

theorem State.irq_reported (s : State) (v : Nat) : Reported s (s.irq v) := by
  obtain ⟨irqs, h⟩ := s.irq_only v
  exact ⟨_, irqs, _, _, _, _, h⟩

theorem State.errRecord_reported (s : State) (r : Report) : Reported s (s.errRecord r) := by
  unfold State.errRecord
  dsimp only
  split
  · exact .refl s
  · split
    · exact ⟨_, _, _, _, _, _, rfl⟩
    · exact .trans ⟨_, _, _, _, _, _, rfl⟩ (State.irq_reported _ _)

theorem State.putReport_reported (s : State) (r : Report) : Reported s (s.putReport r) :=
  .trans ⟨_, _, _, _, _, _, rfl⟩ (State.errRecord_reported _ _)

theorem State.setRate_reported (s : State) (code : Nat) (x : Rate) : Reported s (s.setRate code x) := ⟨_, _, _, _, _, _, rfl⟩

theorem State.summary_reported (s : State) (code : Nat) : Reported s (s.summary code) := by
  unfold State.summary
  dsimp only
  split
  · exact .refl s
  · exact (s.setRate_reported _ _).trans (State.putReport_reported _ _)

theorem State.report_reported (s : State) (r : Report) : Reported s (s.report r) := by
  unfold State.report
  dsimp only
  split
  · exact s.putReport_reported r
  · split
    · exact ((s.summary_reported _).trans (State.setRate_reported _ _ _)).trans (State.putReport_reported _ _)
    · split
      · exact (s.setRate_reported _ _).trans (State.putReport_reported _ _)
      · exact s.setRate_reported _ _

/-! ### The response of a request (R522 to R527) -/

/-- The bytes of a response: header and body (R523). -/
def Chan.reply (x : Chan) (code : Nat) (tag : W32) (status : W16) (body : List Byte) : List Byte :=
  leBytes 2 code ++ leBytes 2 body.length ++ leBytes 4 tag.toNat ++ leBytes 2 status.toNat ++ leBytes 2 x.version.toNat
    ++ leBytes 4 (if x.bind = .bound then x.sid.toNat else 0) ++ body

section Reply
variable (x : Chan) (code : Nat) (tag : W32) (status : W16) (body : List Byte)

theorem Chan.reply_body : (x.reply code tag status body).drop 16 = body :=
  List.drop_left' (by simp only [List.length_append, length_leBytes])

theorem Chan.reply_code (h : code < 256 ^ 2) : leAt (x.reply code tag status body) 0 2 = code := by
  simp only [Chan.reply, List.append_assoc]
  exact leAt_leBytes (a := []) rfl h

theorem Chan.reply_tag : leAt (x.reply code tag status body) 4 4 = tag.toNat := by
  simp only [Chan.reply, List.append_assoc]
  rw [← List.append_assoc]
  exact leAt_leBytes rfl tag.isLt

theorem Chan.reply_status : leAt (x.reply code tag status body) 8 2 = status.toNat := by
  simp only [Chan.reply, List.append_assoc]
  rw [← List.append_assoc, ← List.append_assoc]
  exact leAt_leBytes rfl status.isLt

end Reply

/-- The channel after the response of a request: BUSY clear, DONE set (R522). -/
def Chan.replied (x : Chan) (code : Nat) (tag : W32) (status : W16) (body : List Byte) : Chan :=
  { x with resp := x.reply code tag status body, busy := false, done := true, lastTag := some (tag, code) }

/-- The response written, its interrupt not yet raised. -/
def State.withReply (s : State) (c code : Nat) (tag : W32) (status : W16) (body : List Byte) : State :=
  (s.setChan c ((s.chan c).replied code tag status body)).answer ((s.chan c).reply code tag status body)

/-- A response to a request just taken only writes its channel, and may raise the channel's interrupt. -/
theorem State.respond_of_idle {s : State} {c : Nat} (hc : c < 36) (hidle : (s.chan c).busy = false) (code : Nat) (tag : W32) (status : W16)
    (body : List Byte) :
    ∃ irqs, s.respond c code tag status body = { s with
      resp := (s.chan c).reply code tag status body
      host := { (s.setChan c ((s.chan c).replied code tag status body)).host with irqs } } := by
  have hrun : s.respond c code tag status body = if c < 32 && s.rdB (rMbxCtl c) 0 then
        (s.withReply c code tag status body).irq (s.rdF (rMbxCtl c) 13 8)
      else s.withReply c code tag status body :=
    (if_neg (Nat.not_le.mpr hc)).trans (if_neg (by simp [hidle]))
  rw [hrun]
  split
  · exact State.irq_only ..
  · exact ⟨_, rfl⟩

section Answer
variable {i : Instr} {s : State} {r : Request} {st : W16} {b : List Byte}

/-- A command that ends in the response to its request, on a channel that waits for no other, is served. -/
theorem served_of_respond {u : State} {P : State → Prop} (he : exec i s = .next (u.respond r.m.ch r.code r.m.tag st b)) (hc : r.m.ch < 36)
    (hcode : r.code < 256 ^ 2) (hidle : (u.chan r.m.ch).busy = false) (hP : ∀ t, Aside u t → P t) : Served i s r st b P := by
  obtain ⟨irqs, h⟩ := State.respond_of_idle hc hidle r.code r.m.tag st b
  have hchan := State.chan_setChan_self u r.m.ch ((u.chan r.m.ch).replied r.code r.m.tag st b)
  exact ⟨_, he.trans (congrArg _ h), Chan.reply_body .., Chan.reply_code _ _ _ _ _ hcode, Chan.reply_tag .., Chan.reply_status ..,
    congrArg Chan.done hchan, congrArg Chan.busy hchan, congrArg Chan.resp hchan, hP _ rfl⟩

/-- The state in which a request's own effect starts: DONE of its channel is clear (R522). -/
def State.taking (s : State) (r : Request) : State := s.setChan r.m.ch { s.chan r.m.ch with done := false }

/-- Taking a request touches neither the role nor the partition of its session, nor BUSY. -/
theorem State.chan_taking (s : State) (r : Request) : (s.taking r).chan r.m.ch = { s.chan r.m.ch with done := false } :=
  State.chan_setChan_self ..

variable (h : s.accepts r) {f : State → List Byte → State × Answer} {u : State}
include h

/-- A request that meets no general refusal is answered by its message's own effect `f`; a refusal of its role is logged first. -/
theorem State.serve_of_accepts (hf : f (s.taking r) r.text = (u, some (st, b))) :
    s.serve r.m r.code r.size r.who f = (if st = eHifRoleDenied then
        u.logSession (if (s.chan r.m.ch).bind = .bound && (u.chan r.m.ch).bind = .bound then some r.m.ch else none) st r.code
      else u).respond r.m.ch r.code r.m.tag st b := by
  obtain ⟨⟨hch, hbusy, htag⟩, hlock, ⟨hlen, hsize, hsid⟩, hver, hmay, hwho⟩ := h
  have hrepeat : ¬ ((32 ≤ r.m.ch && (s.chan r.m.ch).lastTag.any (fun l => l.1 = r.m.tag)) = true) := by
    simpa only [Bool.and_eq_true, decide_eq_true_eq, not_and, Bool.not_eq_true] using htag
  have hform : ¬ ((1008 < r.m.len.toNat || r.size < r.m.len.toNat || r.m.sid ≠ (s.chan r.m.ch).want) = true) := by
    simp [hsid, Nat.not_lt.mpr hlen, Nat.not_lt.mpr hsize]
  have hspeaks : ¬ ((r.code ≠ 1 && r.code ≠ 2 && ((s.chan r.m.ch).noVersion || r.m.version ≠ (s.chan r.m.ch).version)) = true) := by
    rcases hver with h1 | h2 | ⟨hno, hv⟩
    · simp [h1]
    · simp [h2]
    · simp [hno, hv]
  have hserve : s.serve r.m r.code r.size r.who f = _ :=
    (if_neg (Nat.not_le.mpr hch)).trans <| (if_neg hrepeat).trans <| (if_neg (ne_true_of_eq_false hbusy)).trans <| (if_neg hlock).trans <|
      (if_neg hform).trans <| (if_neg hspeaks).trans <| (if_neg (ne_true_of_eq_false (congrArg not hmay))).trans <|
      if_neg (ne_true_of_eq_false (congrArg not hwho))
  rw [State.taking, Request.text] at hf
  rw [hserve, hf]

/-- A request answered with anything but a refusal of its role. -/
theorem served_of_answer {P : State → Prop} (he : exec i s = .next (s.serve r.m r.code r.size r.who f))
    (hf : f (s.taking r) r.text = (u, some (st, b))) (hst : st ≠ eHifRoleDenied) (hcode : r.code < 256 ^ 2)
    (hidle : (u.chan r.m.ch).busy = false) (hP : ∀ t, Aside u t → P t) : Served i s r st b P := by
  have ⟨⟨hch, _⟩, _⟩ := h
  rw [State.serve_of_accepts h hf, if_neg hst] at he
  exact served_of_respond he hch hcode hidle hP

/-- A request refused for its session's role: the refusal stands in a log, and else only the channel and its interrupt are touched. -/
theorem served_of_roleDenied {P : State → Prop} (he : exec i s = .next (s.serve r.m r.code r.size r.who f))
    (hf : f (s.taking r) r.text = (u, refusal eHifRoleDenied)) (hcode : r.code < 256 ^ 2) (hidle : (u.chan r.m.ch).busy = false)
    (hP : ∀ c t, Aside (u.logSession c eHifRoleDenied r.code) t → P t) : Served i s r eHifRoleDenied [] P := by
  have ⟨⟨hch, _⟩, _⟩ := h
  rw [State.serve_of_accepts h hf, if_pos rfl] at he
  exact served_of_respond he hch hcode ((State.logSession_busy ..).trans hidle) (hP _)

end Answer

/-! ### Doorbells (R515, R516) -/

/-- t is s after a refused doorbell of ring n: DB_ERR, and HIF_DB_INVALID in the log of the ring's session. -/
def State.DbRefused (s : State) (n : Nat) (t : State) : Prop :=
  t.ring n = { s.ring n with dbErr := true } ∧ t = { s with rings := t.rings, host := t.host } ∧ (∀ k, k ≠ n → t.ring k = s.ring k)
    ∧ ∀ c, (s.ring n).st ≠ .none → s.chanOf (s.ring n).owner = some c → (t.chan c).log.getLast?.map (·.code) = some eHifDbInvalid

theorem State.dbRefuse_refused (s : State) (n : Nat) : s.DbRefused n (s.dbRefuse n) := by
  obtain ⟨log, chans, h⟩ := (s.setRing n { s.ring n with dbErr := true }).logSession_only
    (if (s.ring n).st = .none then none else s.chanOf (s.ring n).owner) eHifDbInvalid (0x100 + 8 * n)
  have hrefuse : s.dbRefuse n = _ := h
  refine ⟨?_, ?_, fun k hk => ?_, fun c hst hc => ?_⟩
  · rw [hrefuse]
    exact State.ring_setRing_self ..
  · rw [hrefuse]
    rfl
  · rw [hrefuse]
    exact (State.ring_setRing ..).trans (if_neg hk)
  · rw [State.dbRefuse, if_neg hst, hc]
    exact State.logSession_last ..

section Doorbell
variable {s : State} {n : Nat} {v : W32}

theorem hifDbc_moves (hst : (s.ring n).st ≠ .none) (hroom : (v - (s.ring n).head).toNat ≤ 2 ^ (s.ring n).log2e)
    (hfwd : ((s.ring n).tail - (s.ring n).head).toNat ≤ (v - (s.ring n).head).toNat) :
    exec (.hifDbc n v) s = .next (s.setRing n { s.ring n with tail := v }) :=
  congrArg _ (if_neg (by simp [-BitVec.toNat_sub, hst, hroom, hfwd]))

theorem hifDbc_refused (h : (s.ring n).st = .none ∨ 2 ^ (s.ring n).log2e < (v - (s.ring n).head).toNat
      ∨ (v - (s.ring n).head).toNat < ((s.ring n).tail - (s.ring n).head).toNat) :
    exec (.hifDbc n v) s = .next (s.dbRefuse n) :=
  congrArg _ (if_pos (by simpa [or_assoc] using h))

theorem hifDbh_moves (hst : (s.ring n).st ≠ .none)
    (hwritten : (v - (s.ring n).chead).toNat ≤ ((s.ring n).written - (s.ring n).chead).toNat) :
    exec (.hifDbh n v) s = .next (s.setRing n { s.ring n with chead := v }) :=
  congrArg _ (if_neg (by simp [-BitVec.toNat_sub, hst, hwritten]))

theorem hifDbh_refused
    (h : (s.ring n).st = .none ∨ ((s.ring n).written - (s.ring n).chead).toNat < (v - (s.ring n).chead).toNat) :
    exec (.hifDbh n v) s = .next (s.dbRefuse n) :=
  congrArg _ (if_pos (by simpa using h))

end Doorbell

/-! ### The counter's capture (R512) -/

/-- HIF_BEAT_HI holds the whole high half of the captured count. -/
theorem hifBeatCapture_captures (s : State) : ∃ t, exec .hifBeatCapture s = .next t ∧ t.resp = leBytes 4 (s.now.toNat % 2 ^ 32)
    ∧ t.hifWord 0x24 = s.now.toNat / 2 ^ 32
    ∧ t = { s with host := { s.host with beatHi := t.host.beatHi }, resp := t.resp } := by
  refine ⟨_, rfl, rfl, ?_, rfl⟩
  exact (BitVec.toNat_ofNat ..).trans (Nat.mod_eq_of_lt (Nat.div_lt_of_lt_mul s.now.isLt))

/-! ### A host reset (R510, R550) -/

/-- A channel that returns to UNBOUND: of its session only the count of failures stays (R531, R532). -/
def Chan.closed (x : Chan) : Chan :=
  { x with bind := .unbound, role := .none, part := 0, sid := 0, slot := 0, opart := 255, hn := [], mn := [], ver := none
           noVersion := false, log := [], logLost := 0, lockS := 0, closing := false }

theorem State.closeChan_only (s : State) (c : Nat) :
    ∃ window, s.closeChan c = { s.setChan c (s.chan c).closed with host := { (s.setChan c (s.chan c).closed).host with window } } := by
  unfold State.closeChan
  dsimp only
  split <;> exact ⟨_, rfl⟩

/-- A mailbox channel after a host reset: a request being served keeps its session until its response. -/
def Chan.afterReset (x : Chan) : Chan := if x.busy then { x with closing := true } else x.closed

theorem State.resetChan_only (s : State) (c : Nat) : ∃ window, s.resetChan c = { s.setChan c (s.chan c).afterReset with
    host := { (s.setChan c (s.chan c).afterReset).host with window } } := by
  by_cases h : (s.chan c).busy = true
  · exact ⟨_, by rw [Chan.afterReset, if_pos h]; exact if_pos h⟩
  · obtain ⟨window, hclose⟩ := s.closeChan_only c
    exact ⟨window, by rw [Chan.afterReset, if_neg h]; exact (if_neg h).trans hclose⟩

theorem State.chan_resetChan (s : State) (c k : Nat) :
    (s.resetChan c).chan k = if k = c then (s.chan k).afterReset else s.chan k := by
  obtain ⟨window, h⟩ := s.resetChan_only c
  rw [h]
  refine (State.chan_setChan s c k (s.chan c).afterReset).trans ?_
  split
  case isTrue hk => rw [hk]
  case isFalse => rfl

theorem foldl_resetChan_only (l : List Nat) (s : State) : ∃ host, l.foldl State.resetChan s = { s with host } := by
  induction l generalizing s with
  | nil => exact ⟨_, rfl⟩
  | cons c l ih =>
    obtain ⟨window, h⟩ := s.resetChan_only c
    obtain ⟨host, hl⟩ := ih (s.resetChan c)
    exact ⟨host, hl.trans (by rw [h]; rfl)⟩

/-- A ring one of whose two rings lies in host memory. -/
def Ring.inHost (r : Ring) : Bool := !(r.st = .none || (r.cmdDev && r.cplDev))

/-- A ring after a host reset. -/
def Ring.afterReset (r : Ring) : Ring := if r.inHost && r.st = .running then { r with st := .halted, cause := 3 } else r

/-- A command after a reset of rings 0 to n - 1: the record of one taken from a ring in host memory is discarded. -/
def Cmd.afterReset (s : State) (n : Nat) (k : Cmd) : Cmd := if k.ring < n && (s.ring k.ring).inHost then { k with discard := true } else k

/-- A ring in device memory, or one that is not there, is left alone. -/
theorem State.resetRing_of_device {s : State} {n : Nat} (h : (s.ring n).inHost = false) : s.resetRing n = s :=
  if_pos (by simpa only [Ring.inHost, Bool.not_eq_false'] using h)

/-- The records of a ring's taken commands are discarded. -/
def State.discardRing (s : State) (n : Nat) : State :=
  { s with cmds := s.cmds.map (fun k => if k.ring = n then { k with discard := true } else k) }

theorem State.haltRing_only (s : State) (n cause : Nat) (err : W16) : ∃ rings, s.haltRing n cause err = { s with rings } := by
  unfold State.haltRing
  dsimp only
  split <;> exact ⟨_, rfl⟩

/-- A ring in host memory is HALTED with the cause of a host reset, its last error as it was (R514). -/
theorem State.resetRing_of_host {s : State} {n : Nat} (h : (s.ring n).inHost = true) :
    s.resetRing n = (s.haltRing n 3 (s.ring n).lasterr).discardRing n :=
  if_neg (by simpa only [Ring.inHost, Bool.not_eq_true', Bool.not_eq_true] using h)

theorem State.ring_haltRing {s : State} {n : Nat} (h : (s.ring n).inHost = true) (k : Nat) :
    (s.haltRing n 3 (s.ring n).lasterr).ring k = if k = n then (s.ring k).afterReset else s.ring k := by
  by_cases hst : (s.ring n).st = .running
  · rw [State.haltRing, if_pos hst, State.ring_setRing]
    refine ite_congr rfl (fun hk => ?_) fun _ => rfl
    rw [hk, Ring.afterReset, h, hst]
    rfl
  · rw [State.haltRing, if_neg hst]
    split
    case isTrue hk => simp [hk, Ring.afterReset, hst]
    case isFalse => rfl

theorem State.resetRing_only (s : State) (n : Nat) : ∃ rings cmds, s.resetRing n = { s with rings, cmds } := by
  cases h : (s.ring n).inHost with
  | false => exact ⟨_, _, State.resetRing_of_device h⟩
  | true =>
    obtain ⟨rings, hr⟩ := s.haltRing_only n 3 (s.ring n).lasterr
    rw [State.resetRing_of_host h, hr]
    exact ⟨_, _, rfl⟩

theorem State.ring_resetRing (s : State) (n k : Nat) :
    (s.resetRing n).ring k = if k = n then (s.ring k).afterReset else s.ring k := by
  cases h : (s.ring n).inHost with
  | false =>
    rw [State.resetRing_of_device h]
    split
    case isTrue hk => rw [hk, Ring.afterReset, h]; rfl
    case isFalse => rfl
  | true =>
    rw [State.resetRing_of_host h]
    exact State.ring_haltRing h k

theorem State.cmds_resetRing (s : State) (n : Nat) : (s.resetRing n).cmds =
    s.cmds.map (fun k => if k.ring = n && (s.ring n).inHost then { k with discard := true } else k) := by
  cases h : (s.ring n).inHost with
  | false => simp [State.resetRing_of_device h]
  | true =>
    obtain ⟨rings, hr⟩ := s.haltRing_only n 3 (s.ring n).lasterr
    simp [State.resetRing_of_host h, hr, State.discardRing]

theorem foldl_resetRing_only (l : List Nat) (s : State) : ∃ rings cmds, l.foldl State.resetRing s = { s with rings, cmds } := by
  induction l generalizing s with
  | nil => exact ⟨_, _, rfl⟩
  | cons n l ih =>
    obtain ⟨rings, cmds, h⟩ := s.resetRing_only n
    obtain ⟨rings', cmds', hl⟩ := ih (s.resetRing n)
    exact ⟨rings', cmds', hl.trans (by rw [h])⟩

theorem cmds_foldl_resetRing (s : State) (n : Nat) :
    ((List.range n).foldl State.resetRing s).cmds = s.cmds.map (Cmd.afterReset s n) := by
  induction n with
  | zero => exact (List.map_id _).symm
  | succ n ih =>
    rw [List.range_succ, List.foldl_append, List.foldl_cons, List.foldl_nil, State.cmds_resetRing, ih, List.map_map,
      foldl_range_entry (get := State.ring) State.ring_resetRing, if_neg (Nat.lt_irrefl n)]
    refine List.map_congr_left fun k _ => ?_
    simp only [Function.comp_apply, Cmd.afterReset]
    grind

/-- No BAR2 mapping, and MSI-X disabled. -/
def State.unmapped (s : State) : State := { s with host := { s.host with bar2 := [], msix := false } }

theorem State.chan_unmapped (s : State) (c : Nat) : s.unmapped.chan c = s.chan c := rfl

/-- The state when a host reset has closed the sessions and cleared the mappings; its rings still run. -/
def State.hostCut (s : State) : State := ((List.range 32).foldl State.resetChan s).unmapped

theorem State.chan_hostCut (s : State) {c : Nat} (hc : c < 32) : s.hostCut.chan c = (s.chan c).afterReset := by
  rw [State.hostCut, State.chan_unmapped, foldl_range_entry (get := State.chan) State.chan_resetChan, if_pos hc]

theorem State.hostCut_only (s : State) :
    ∃ host, s.hostCut = { s with host } ∧ host.bar2 = [] ∧ host.msix = false := by
  obtain ⟨host, h⟩ := foldl_resetChan_only (List.range 32) s
  exact ⟨{ host with bar2 := [], msix := false }, by rw [State.hostCut, h]; rfl, rfl, rfl⟩

/-- A host reset: the sessions and mappings, then the rings, then its report. -/
theorem hostReset_eq (s : State) :
    exec .hostReset s = .next (((List.range 64).foldl State.resetRing s.hostCut).event uHost 0 0 eHifHostReset) := rfl

/-- What a host reset does to channels, rings and commands, each by itself, and what it leaves. -/
theorem hostReset_next (s : State) : ∃ t, exec .hostReset s = .next t ∧ (∀ c < 32, t.chan c = (s.chan c).afterReset)
    ∧ t.host.bar2 = [] ∧ t.host.msix = false ∧ t.mem = s.mem ∧ t.parts = s.parts
    ∧ (∀ n, t.ring n = if n < 64 then (s.ring n).afterReset else s.ring n) ∧ t.cmds = s.cmds.map (Cmd.afterReset s 64) := by
  have hring := foldl_range_entry (get := State.ring) State.ring_resetRing 64 s.hostCut
  have hcmds := cmds_foldl_resetRing s.hostCut 64
  have hchan := fun c (hc : c < 32) => s.chan_hostCut hc
  rw [hostReset_eq]
  obtain ⟨rings, cmds, hw⟩ := foldl_resetRing_only (List.range 64) s.hostCut
  obtain ⟨host, hcut, hbar2, hmsix⟩ := s.hostCut_only
  rw [hw] at hring hcmds ⊢
  rw [hcut] at hring hcmds hchan ⊢
  obtain ⟨err, irqs, rates, mem, reports, rseq, ht⟩ := State.report_reported { s with host, rings, cmds }
    { unit := uHost, sev := 0, inst := 0, err := eHifHostReset, beat := 0, rseq := 0 }
  exact ⟨_, congrArg _ ht, hchan, hbar2, hmsix, rfl, rfl, hring, hcmds⟩

theorem Chan.afterReset_of_idle {x : Chan} (h : x.busy = false) : x.afterReset = x.closed := if_neg (ne_true_of_eq_false h)

theorem Chan.afterReset_of_busy {x : Chan} (h : x.busy = true) : x.afterReset = { x with closing := true } := if_pos h

theorem Ring.inHost_iff {r : Ring} : r.inHost = true ↔ r.st ≠ .none ∧ (r.cmdDev && r.cplDev) = false := by
  simp only [Ring.inHost, Bool.not_eq_true', Bool.or_eq_false_iff, decide_eq_false_iff_not]

theorem Ring.inHost_of_device {r : Ring} (hc : r.cmdDev = true) (hr : r.cplDev = true) : r.inHost = false := by
  simp [Ring.inHost, hc, hr]

theorem Ring.afterReset_of_running {r : Ring} (hst : r.st = .running) (hdev : (r.cmdDev && r.cplDev) = false) :
    r.afterReset = { r with st := .halted, cause := 3 } := by
  have hhost : r.inHost = true := Ring.inHost_iff.mpr ⟨by simp [hst], hdev⟩
  rw [Ring.afterReset, hhost, hst]
  rfl

theorem Ring.afterReset_of_device {r : Ring} (h : r.inHost = false) : r.afterReset = r := by
  rw [Ring.afterReset, h]
  rfl

theorem Cmd.afterReset_ring (s : State) (n : Nat) (k : Cmd) : (k.afterReset s n).ring = k.ring := by
  unfold Cmd.afterReset
  split <;> rfl

theorem Cmd.afterReset_discard {s : State} {n : Nat} {k : Cmd} (hk : k.ring < n) (h : (s.ring k.ring).inHost = true) :
    (k.afterReset s n).discard = true := by
  rw [Cmd.afterReset, if_pos (by simp [hk, h])]

theorem Cmd.afterReset_of_device {s : State} {n : Nat} {k : Cmd} (h : (s.ring k.ring).inHost = false) : k.afterReset s n = k :=
  if_neg (by simp [h])

/-- A host reset, by whether a channel is busy and where a ring lies. -/
theorem hostReset_resets (s : State) : ∃ t, exec .hostReset s = .next t
    ∧ (∀ c < 32, (s.chan c).busy = false → (t.chan c).bind = .unbound)
    ∧ (∀ c < 32, (s.chan c).busy = true → t.chan c = { s.chan c with closing := true })
    ∧ t.host.bar2 = [] ∧ t.host.msix = false ∧ t.mem = s.mem
    ∧ (∀ n < 64, (s.ring n).st = .running → ((s.ring n).cmdDev && (s.ring n).cplDev) = false →
        (t.ring n).st = .halted ∧ (t.ring n).cause = 3)
    ∧ (∀ n, (s.ring n).cmdDev = true → (s.ring n).cplDev = true → t.ring n = s.ring n) ∧ t.parts = s.parts
    ∧ (∀ k ∈ t.cmds, k.ring < 64 → (s.ring k.ring).st ≠ .none → ((s.ring k.ring).cmdDev && (s.ring k.ring).cplDev) = false →
        k.discard = true)
    ∧ (∀ k ∈ s.cmds, (s.ring k.ring).cmdDev = true → (s.ring k.ring).cplDev = true → k ∈ t.cmds) := by
  obtain ⟨t, hexec, hchan, hbar2, hmsix, hmem, hparts, hring, hcmds⟩ := hostReset_next s
  refine ⟨t, hexec, fun c hc hidle => ?_, fun c hc hbusy => ?_, hbar2, hmsix, hmem, fun n hn hst hdev => ?_, fun n hcmd hcpl => ?_,
    hparts, fun k hk hlt hst hdev => ?_, fun k hk hcmd hcpl => ?_⟩
  · rw [hchan c hc, Chan.afterReset_of_idle hidle]
    rfl
  · rw [hchan c hc, Chan.afterReset_of_busy hbusy]
  · rw [hring, if_pos hn, Ring.afterReset_of_running hst hdev]
    exact ⟨rfl, rfl⟩
  · rw [hring, Ring.afterReset_of_device (Ring.inHost_of_device hcmd hcpl), ite_self]
  · rw [hcmds] at hk
    obtain ⟨k₀, -, rfl⟩ := List.mem_map.mp hk
    rw [Cmd.afterReset_ring] at hlt hst hdev
    exact Cmd.afterReset_discard hlt (Ring.inHost_iff.mpr ⟨hst, hdev⟩)
  · rw [hcmds]
    exact List.mem_map.mpr ⟨k, hk, Cmd.afterReset_of_device (Ring.inHost_of_device hcmd hcpl)⟩

/-! ### The host's requests: error ring, window, BAR2 mappings (R518, R548, R638) -/

theorem Aside.bar2 {u t : State} (h : Aside u t) : t.host.bar2 = u.host.bar2 := by
  rw [h]

theorem Aside.window {u t : State} (h : Aside u t) : t.host.window = u.host.window := by
  rw [h]

section Messages
variable {s : State} {m : Msg} {r : Request}

/-- Taking a request leaves its channel as idle as it was. -/
theorem State.taking_idle (h : s.accepts r) : ((s.taking r).chan r.m.ch).busy = false := by
  have ⟨⟨_, hidle, _⟩, _⟩ := h
  rw [State.chan_taking]
  exact hidle

theorem errRing_served (hr : requestOf (.errRing m) = some r) (h : s.accepts r) (halign : leAt r.text 0 8 % 32 = 0)
    (hmin : 4 ≤ leAt r.text 8 1) (hmax : leAt r.text 8 1 ≤ 12) (hvec : leAt r.text 9 1 ≤ 63) :
    Served (.errRing m) s r 0 [] (Aside { s with host := { s.host with err :=
      { on := true, base := BitVec.ofNat 64 (leAt r.text 0 8), log2e := leAt r.text 8 1, vector := leAt r.text 9 1 } } }) := by
  obtain rfl := Option.some.inj hr
  exact served_of_answer h rfl (if_neg (by simp [halign, hmin, hmax, hvec])) (by decide) (by norm_num) (State.taking_idle h) fun _ => id

theorem windowOpen_served (hr : requestOf (.windowOpen m) = some r) (h : s.accepts r)
    (hfree : s.host.window = none ∨ s.host.window = some m.ch) :
    Served (.windowOpen m) s r 0 [] (Aside { s with host := { s.host with window := some m.ch } }) := by
  obtain rfl := Option.some.inj hr
  have hmine : ¬ (s.host.window.any (fun c => c ≠ m.ch) = true) := by
    rcases hfree with hw | hw <;> simp [hw]
  exact served_of_answer h rfl (if_neg hmine) (by decide) (by norm_num) (State.taking_idle h) fun _ => id

theorem windowOpen_refused {c : Nat} (hr : requestOf (.windowOpen m) = some r) (h : s.accepts r) (hc : s.host.window = some c)
    (hne : c ≠ m.ch) : Served (.windowOpen m) s r eHifRoleDenied [] (fun t => t.host.window = some c) := by
  obtain rfl := Option.some.inj hr
  have htaken : s.host.window.any (fun c => c ≠ m.ch) = true := by simp [hc, hne]
  refine served_of_roleDenied h rfl (if_pos htaken) (by norm_num) (State.taking_idle h) fun o t ht => ?_
  obtain ⟨log, chans, hlog⟩ := (s.taking _).logSession_only o eHifRoleDenied 0x0040
  rw [ht.window, hlog]
  exact hc

theorem windowClose_served (hr : requestOf (.windowClose m) = some r) (h : s.accepts r) (hmine : s.host.window = some m.ch) :
    Served (.windowClose m) s r 0 [] (Aside { s with host := { s.host with window := none } }) := by
  obtain rfl := Option.some.inj hr
  exact served_of_answer h rfl (if_pos hmine) (by decide) (by norm_num) (State.taking_idle h) fun _ => id

/-- The owner of a DRAM granule is that of its MEM_GRAN register (R302). -/
theorem State.owner_granule (s : State) {g : Nat} (hg : g < 384) : s.owner (g * 2 ^ 30) = s.rdF (rMemGran g) 11 8 := by
  have hdram : isDram (g * 2 ^ 30) = true := decide_eq_true (by simp only [dramEnd]; omega)
  rw [State.owner, if_pos hdram, Nat.mul_div_cancel g (by decide)]

/-- A mapping of a granule that the session may name is good (R518). -/
theorem State.mapEntry_none {x : Chan} {slot g : Nat} (hslot : slot ≤ 511) (hg : g < 383)
    (hpart : s.rdF (rMemGran g) 11 8 ≤ 7) (hown : ownPart x (s.rdF (rMemGran g) 11 8) = true) : s.mapEntry x (slot, g) = none := by
  have hnot : g ≠ 0xFFFF := by omega
  simp only [State.mapEntry, if_neg hnot, s.owner_granule (show g < 384 by omega), hown]
  simp [hslot, hg, hpart]

/-- A mapping records the granule with its owner (R518). -/
theorem State.mapTarget_granule (s : State) {g : Nat} (hg : g < 383) :
    (if g = 0xFFFF then none else some (s.owner (g * 2 ^ 30), g)) = some (s.rdF (rMemGran g) 11 8, g) := by
  rw [if_neg (by omega), s.owner_granule (by omega)]

theorem State.mapEntry_taking_none {slot g : Nat} (hslot : slot ≤ 511) (hg : g < 383) (hpart : s.rdF (rMemGran g) 11 8 ≤ 7)
    (hown : ownPart (s.chan r.m.ch) (s.rdF (rMemGran g) 11 8) = true) :
    (s.taking r).mapEntry ((s.taking r).chan r.m.ch) (slot, g) = none := by
  rw [State.chan_taking]
  exact State.mapEntry_none hslot hg hpart hown

/-- A BAR2 slot mapped to a partition's granule, or unmapped. -/
def State.mapped (s : State) (slot : Nat) (x : Option (Nat × Nat)) : State :=
  { s with host := { s.host with bar2 := tput (fun _ => none) s.host.bar2 slot x } }

theorem State.bar2_mapped (s : State) (slot k : Nat) (x : Option (Nat × Nat)) : tget (fun _ => none) (s.mapped slot x).host.bar2 k =
    if k = slot then x else tget (fun _ => none) s.host.bar2 k := by
  rw [State.mapped, tget_tput]

/-- A body of four bytes holds one entry. -/
theorem bar2Entries_of_four {n slot g : Nat} {b : List Byte} (hn : n = 4) (hs : leAt b 0 2 = slot) (hg : leAt b 2 2 = g) :
    (List.range (n / 4)).map (fun i => (leAt b (4 * i) 2, leAt b (4 * i + 2) 2)) = [(slot, g)] := by
  rw [hn, ← hs, ← hg]
  rfl

theorem bar2Map_served {slot g : Nat} (hr : requestOf (.bar2Map m) = some r) (h : s.accepts r) (hlen : m.len.toNat = 4)
    (hs : leAt r.text 0 2 = slot) (hgr : leAt r.text 2 2 = g) (hslot : slot ≤ 511) (hg : g < 383)
    (hpart : s.rdF (rMemGran g) 11 8 ≤ 7) (hown : ownPart (s.chan m.ch) (s.rdF (rMemGran g) 11 8) = true) :
    Served (.bar2Map m) s r 0 [] (fun t => tget (fun _ => none) t.host.bar2 slot = some (s.rdF (rMemGran g) 11 8, g)
      ∧ ∀ k, k ≠ slot → tget (fun _ => none) t.host.bar2 k = tget (fun _ => none) s.host.bar2 k) := by
  obtain rfl := Option.some.inj hr
  refine served_of_answer (u := (s.taking _).mapped slot (some (s.rdF (rMemGran g) 11 8, g))) h
    rfl ?_ (by decide) (by norm_num) (State.taking_idle h) fun t ht => ?_
  · refine (if_neg (by simp [hlen])).trans ?_
    rw [bar2Entries_of_four hlen hs hgr, List.findSome?_cons, State.mapEntry_taking_none hslot hg hpart hown]
    exact congrArg (fun x => ((s.taking _).mapped slot x, some (0, []))) (State.mapTarget_granule (s.taking _) hg)
  · rw [ht.bar2]
    exact ⟨(State.bar2_mapped ..).trans (if_pos rfl), fun k hk => (State.bar2_mapped ..).trans (if_neg hk)⟩

end Messages

/-- Settles O34: each clause by the lemma of its command above. -/
theorem hostCommands : Obligations.HostCommands := by
  intro s m
  refine ⟨fun n v => hifDbc_moves, fun n v h => ⟨_, hifDbc_refused h, s.dbRefuse_refused n⟩, fun n v => hifDbh_moves,
    fun n v h => ⟨_, hifDbh_refused h, s.dbRefuse_refused n⟩, fun v => rfl, hifBeatCapture_captures s, fun n h => congrArg _ (if_neg h),
    fun o h => if_neg (ne_true_of_eq_false h), fun o h => if_pos h, hostReset_resets s, fun r => errRing_served, fun r => windowOpen_served,
    fun r c => windowOpen_refused, fun r => windowClose_served, fun r slot g => bar2Map_served⟩

end Sys2Proof.Machine
end

section
/-! PROOFS. Every command answers a next state, keeps the canonical form of memory and registers, and leaves the queue as it is (R18): one
lemma per command whose meaning is more than one operation of the state, then the commands together. -/

namespace Sys2Proof.Machine

set_option linter.all false

/-- A meaning answers a next state, which keeps what s had. -/
def Goes (s : State) (o : Host.Outcome State Fault Refusal) : Prop := ∃ t, o = .next t ∧ Keeps s t

theorem Keeps.goes {s t : State} (k : Keeps s t) : Goes s (.next t) := ⟨t, rfl, k⟩

/-! ### Commands with a meaning of several operations -/

theorem execThreadStart_keeps (core thread ring dcount : Nat) (s : State) : Goes s (execThreadStart core thread ring dcount s) := by
  unfold execThreadStart
  repeat' first
    | with_reducible exact Keeps.refl _ | with_reducible apply Keeps.goes | with_reducible apply State.startThread_keeps
    | with_reducible apply State.startLib_keeps | intro _ | lift_lets -underBinder | split

theorem execThreadHold_keeps (core thread : Nat) (s : State) : Goes s (execThreadHold core thread s) := by
  unfold execThreadHold
  repeat' first
    | with_reducible exact Keeps.refl _ | with_reducible apply Keeps.goes | with_reducible apply State.setThr_keeps | intro _
    | lift_lets -underBinder | split

theorem execThreadRelease_keeps (core thread : Nat) (s : State) : Goes s (execThreadRelease core thread s) := by
  unfold execThreadRelease
  repeat' first
    | with_reducible exact Keeps.refl _ | with_reducible apply Keeps.goes | with_reducible apply State.letGo_keeps
    | with_reducible apply State.setThr_keeps | intro _ | lift_lets -underBinder | split

theorem execCoreGate_keeps (core : Nat) (s : State) : Goes s (execCoreGate core s) := by
  unfold execCoreGate
  repeat' first
    | with_reducible exact Keeps.refl _ | with_reducible apply Keeps.goes | with_reducible apply State.wrB_keeps | intro _
    | lift_lets -underBinder | split

theorem execLatchWaitTimeout_keeps (core thread : Nat) (s : State) : Goes s (execLatchWaitTimeout core thread s) := by
  unfold execLatchWaitTimeout
  repeat' first
    | with_reducible exact Keeps.refl _ | with_reducible apply Keeps.goes | with_reducible apply State.wake_keeps | intro _
    | lift_lets -underBinder | split

theorem execArrRemapWrite_keeps (array : Nat) (val : W32) (s : State) : Goes s (execArrRemapWrite array val s) := by
  unfold execArrRemapWrite
  repeat' first
    | with_reducible exact Keeps.refl _ | with_reducible apply Keeps.goes | with_reducible apply State.wr_keeps
    | with_reducible apply State.putArr_keeps

theorem execArrInjArm_keeps (array : Nat) (val : W32) (s : State) : Goes s (execArrInjArm array val s) := by
  unfold execArrInjArm
  repeat' first
    | with_reducible exact Keeps.refl _ | with_reducible apply Keeps.goes | with_reducible apply State.wr_keeps | split

theorem execArrErrRead_keeps (array : Nat) (s : State) : Goes s (execArrErrRead array s) := by
  unfold execArrErrRead
  repeat' first
    | with_reducible exact Keeps.refl _ | with_reducible apply Keeps.goes | with_reducible apply State.wrF_keeps
    | with_reducible apply State.answer_keeps

theorem execLedgerClear_keeps (core : Nat) (byMcp : Bool) (s : State) : Goes s (execLedgerClear core byMcp s) := by
  unfold execLedgerClear
  repeat' first
    | with_reducible exact Keeps.refl _ | with_reducible apply Keeps.goes | with_reducible apply State.extCore_keeps
    | with_reducible apply State.logSession_keeps | split

theorem execMatmul_keeps (ring dcount : Nat) (s : State) : Goes s (execMatmul ring dcount s) := by
  unfold execMatmul
  repeat' first
    | with_reducible assumption | with_reducible exact Keeps.refl _ | with_reducible apply Keeps.goes
    | with_reducible apply State.runCmd_keeps | with_reducible apply State.matmulCmd_keeps | intro _

theorem execQuantize_keeps (ring dcount : Nat) (s : State) : Goes s (execQuantize ring dcount s) := by
  unfold execQuantize
  repeat' first
    | with_reducible assumption | with_reducible exact Keeps.refl _ | with_reducible apply Keeps.goes
    | with_reducible apply State.runCmd_keeps | with_reducible apply State.quantizeCmd_keeps | intro _

theorem execConvert_keeps (ring dcount : Nat) (s : State) : Goes s (execConvert ring dcount s) := by
  unfold execConvert
  repeat' first
    | with_reducible assumption | with_reducible exact Keeps.refl _ | with_reducible apply Keeps.goes
    | with_reducible apply State.runCmd_keeps | with_reducible apply State.convertCmd_keeps | intro _

theorem execCopy_keeps (ring dcount : Nat) (s : State) : Goes s (execCopy ring dcount s) := by
  unfold execCopy
  repeat' first
    | with_reducible assumption | with_reducible exact Keeps.refl _ | with_reducible apply Keeps.goes
    | with_reducible apply State.runCmd_keeps | with_reducible apply State.copyCmd_keeps | intro _

theorem execFill_keeps (ring dcount : Nat) (s : State) : Goes s (execFill ring dcount s) := by
  unfold execFill
  repeat' first
    | with_reducible assumption | with_reducible exact Keeps.refl _ | with_reducible apply Keeps.goes
    | with_reducible apply State.runCmd_keeps | with_reducible apply State.fillCmd_keeps | intro _

theorem execReduceSum_keeps (ring dcount : Nat) (s : State) : Goes s (execReduceSum ring dcount s) := by
  unfold execReduceSum
  repeat' first
    | with_reducible assumption | with_reducible exact Keeps.refl _ | with_reducible apply Keeps.goes
    | with_reducible apply State.runCmd_keeps | with_reducible apply State.sumCmd_keeps | intro _

theorem execReduceSsq_keeps (ring dcount : Nat) (s : State) : Goes s (execReduceSsq ring dcount s) := by
  unfold execReduceSsq
  repeat' first
    | with_reducible assumption | with_reducible exact Keeps.refl _ | with_reducible apply Keeps.goes
    | with_reducible apply State.runCmd_keeps | with_reducible apply State.sumCmd_keeps | intro _

theorem execReduceMax_keeps (ring dcount : Nat) (s : State) : Goes s (execReduceMax ring dcount s) := by
  unfold execReduceMax
  repeat' first
    | with_reducible assumption | with_reducible exact Keeps.refl _ | with_reducible apply Keeps.goes
    | with_reducible apply State.runCmd_keeps | with_reducible apply State.extremeCmd_keeps | intro _

theorem execReduceMin_keeps (ring dcount : Nat) (s : State) : Goes s (execReduceMin ring dcount s) := by
  unfold execReduceMin
  repeat' first
    | with_reducible assumption | with_reducible exact Keeps.refl _ | with_reducible apply Keeps.goes
    | with_reducible apply State.runCmd_keeps | with_reducible apply State.extremeCmd_keeps | intro _

theorem execMoments_keeps (ring dcount : Nat) (s : State) : Goes s (execMoments ring dcount s) := by
  unfold execMoments
  repeat' first
    | with_reducible assumption | with_reducible exact Keeps.refl _ | with_reducible apply Keeps.goes
    | with_reducible apply State.runCmd_keeps | with_reducible apply State.momentsCmd_keeps | intro _

theorem execSort_keeps (ring dcount : Nat) (s : State) : Goes s (execSort ring dcount s) := by
  unfold execSort
  repeat' first
    | with_reducible assumption | with_reducible exact Keeps.refl _ | with_reducible apply Keeps.goes
    | with_reducible apply State.runCmd_keeps | with_reducible apply State.sortCmd_keeps | intro _

theorem execGather_keeps (ring dcount : Nat) (s : State) : Goes s (execGather ring dcount s) := by
  unfold execGather
  repeat' first
    | with_reducible assumption | with_reducible exact Keeps.refl _ | with_reducible apply Keeps.goes
    | with_reducible apply State.runCmd_keeps | with_reducible apply State.gatherCmd_keeps | intro _

theorem execScatterAdd_keeps (ring dcount : Nat) (s : State) : Goes s (execScatterAdd ring dcount s) := by
  unfold execScatterAdd
  repeat' first
    | with_reducible assumption | with_reducible exact Keeps.refl _ | with_reducible apply Keeps.goes
    | with_reducible apply State.runCmd_keeps | with_reducible apply State.scatterAddCmd_keeps | intro _

theorem execKernel_keeps (ring dcount : Nat) (s : State) : Goes s (execKernel ring dcount s) := by
  unfold execKernel
  repeat' first
    | with_reducible assumption | with_reducible exact Keeps.refl _ | with_reducible apply Keeps.goes
    | with_reducible apply State.runCmd_keeps | with_reducible apply State.kernelCmd_keeps | intro _

theorem execBucketLeak_keeps (k : Nat) (s : State) : Goes s (execBucketLeak k s) := by
  unfold execBucketLeak
  repeat' first
    | with_reducible exact Keeps.refl _ | with_reducible apply Keeps.goes | with_reducible apply State.wrF_keeps | split

theorem execSpareEraseRebuild_keeps (stack chan : Nat) (s : State) : Goes s (execSpareEraseRebuild stack chan s) := by
  unfold execSpareEraseRebuild
  repeat' first
    | with_reducible exact Keeps.refl _ | with_reducible apply Keeps.goes | with_reducible apply State.spareCmd_keeps
    | with_reducible apply State.eraseChan_keeps | split

theorem execSpareEraseOnly_keeps (stack chan : Nat) (s : State) : Goes s (execSpareEraseOnly stack chan s) := by
  unfold execSpareEraseOnly
  repeat' first
    | with_reducible exact Keeps.refl _ | with_reducible apply Keeps.goes | with_reducible apply State.spareCmd_keeps
    | with_reducible apply State.eraseChan_keeps | split

theorem execSpareStartRebuild_keeps (stack chan : Nat) (s : State) : Goes s (execSpareStartRebuild stack chan s) := by
  unfold execSpareStartRebuild
  repeat' first
    | with_reducible exact Keeps.refl _ | with_reducible apply Keeps.goes | with_reducible apply State.spareCmd_keeps
    | with_reducible apply State.spareStart_keeps | split

theorem execRowRemap_keeps (stack chan row : Nat) (s : State) : Goes s (execRowRemap stack chan row s) := by
  unfold execRowRemap
  repeat' first
    | with_reducible exact Keeps.refl _ | with_reducible apply Keeps.goes | with_reducible apply State.noSpare_keeps
    | with_reducible apply State.wrF_keeps | with_reducible apply State.commitTable_keeps | with_reducible apply State.spareUsed_keeps
    | intro _ | lift_lets -underBinder | split | fail_if_no_progress with_reducible apply Keeps.update

theorem execRefillEnd_keeps (g : Nat) (s : State) : Goes s (execRefillEnd g s) := by
  unfold execRefillEnd
  repeat' first
    | with_reducible exact Keeps.refl _ | with_reducible apply Keeps.goes | with_reducible apply State.refill_keeps
    | with_reducible apply State.wrB_keeps | split

theorem execEccInjArm_keeps (val : BitVec 32) (s : State) : Goes s (execEccInjArm val s) := by
  unfold execEccInjArm
  repeat' first
    | with_reducible exact Keeps.refl _ | with_reducible apply Keeps.goes | with_reducible apply State.wr_keeps
    | with_reducible apply State.wrB_keeps | intro _ | lift_lets -underBinder | split
    | fail_if_no_progress with_reducible apply Keeps.update

theorem execRawRead_keeps (val : BitVec 32) (s : State) : Goes s (execRawRead val s) := by
  unfold execRawRead
  repeat' first
    | with_reducible assumption | with_reducible exact Keeps.refl _ | with_reducible apply Keeps.goes
    | with_reducible apply State.wr_keeps | with_reducible apply State.wr64_keeps | with_reducible apply Keeps.foldl | intro _
    | lift_lets -underBinder | split

theorem execRawWrite_keeps (val : BitVec 32) (s : State) : Goes s (execRawWrite val s) := by
  unfold execRawWrite
  extract_lets w
  have hw : Keeps s w := State.wr_keeps (Keeps.refl s) _ _
  clear_value w
  split
  · exact (Keeps.refl s).goes
  · split
    · exact hw.goes
    · refine Keeps.goes (State.setDelta_keeps ?_ _ _)
      exact hw.memory (putBytes_wf _ _ _) rfl rfl

theorem execMemEpochDropRead_keeps (s : State) : Goes s (execMemEpochDropRead s) := by
  unfold execMemEpochDropRead
  repeat' first
    | with_reducible exact Keeps.refl _ | with_reducible apply Keeps.goes | with_reducible apply State.wr_keeps
    | with_reducible apply State.answer_keeps

theorem execEccBktRead_keeps (k : Nat) (s : State) : Goes s (execEccBktRead k s) := by
  unfold execEccBktRead
  repeat' first
    | with_reducible exact Keeps.refl _ | with_reducible apply Keeps.goes | with_reducible apply State.wrF_keeps
    | with_reducible apply State.answer_keeps

theorem execStop_keeps (s : State) : Goes s (execStop s) := by
  unfold execStop
  repeat' first
    | with_reducible assumption | with_reducible exact Keeps.refl _ | with_reducible apply Keeps.goes
    | with_reducible apply State.due_keeps | with_reducible apply State.stopPart_keeps | with_reducible apply Keeps.foldl | intro _

theorem execResume_keeps (s : State) : Goes s (execResume s) := by
  unfold execResume
  repeat' first
    | with_reducible assumption | with_reducible exact Keeps.refl _ | with_reducible apply Keeps.goes
    | with_reducible apply State.due_keeps | with_reducible apply State.resumePart_keeps | with_reducible apply State.releaseGated_keeps
    | with_reducible apply Keeps.foldl | intro _

theorem execProfile_keeps (s : State) : Goes s (execProfile s) := by
  unfold execProfile
  repeat' first
    | with_reducible assumption | with_reducible exact Keeps.refl _ | with_reducible apply Keeps.goes
    | with_reducible apply State.due_keeps | with_reducible apply State.applyProfile_keeps | intro _

theorem execPeriod_keeps (s : State) : Goes s (execPeriod s) := by
  unfold execPeriod
  repeat' first
    | with_reducible assumption | with_reducible exact Keeps.refl _ | with_reducible apply Keeps.goes
    | with_reducible apply State.due_keeps | with_reducible apply State.setPeriod_keeps | intro _

theorem execCounterWindow_keeps (s : State) : Goes s (execCounterWindow s) := by
  unfold execCounterWindow
  repeat' first
    | with_reducible assumption | with_reducible exact Keeps.refl _ | with_reducible apply Keeps.goes
    | with_reducible apply State.due_keeps | with_reducible apply State.openWindow_keeps | intro _

theorem execTestSlice_keeps (s : State) : Goes s (execTestSlice s) := by
  unfold execTestSlice
  repeat' first
    | with_reducible assumption | with_reducible exact Keeps.refl _ | with_reducible apply Keeps.goes
    | with_reducible apply State.due_keeps | with_reducible apply State.runSlice_keeps | intro _ | split

theorem execSpareSwap_keeps (s : State) : Goes s (execSpareSwap s) := by
  unfold execSpareSwap
  repeat' first
    | with_reducible assumption | with_reducible exact Keeps.refl _ | with_reducible apply Keeps.goes
    | with_reducible apply State.due_keeps | with_reducible apply State.doSwap_keeps | intro _ | split
    | fail_if_no_progress with_reducible apply Keeps.update

theorem execMarkerSend_keeps (s : State) : Goes s (execMarkerSend s) := by
  unfold execMarkerSend
  repeat' first
    | with_reducible assumption | with_reducible exact Keeps.refl _ | with_reducible apply Keeps.goes
    | with_reducible apply State.sendTiming_keeps | with_reducible apply Keeps.foldl | intro _ | split
    | fail_if_no_progress with_reducible apply Keeps.update

theorem execDelayExchange_keeps (t1 : BitVec 48) (s : State) : Goes s (execDelayExchange t1 s) := by
  unfold execDelayExchange
  repeat' first
    | with_reducible assumption | with_reducible exact Keeps.refl _ | with_reducible apply Keeps.goes
    | with_reducible apply State.setPort_keeps | with_reducible apply State.sendTiming_keeps | with_reducible apply Keeps.foldl | intro _

theorem execDreq_keeps (port : Nat) (id : BitVec 8) (_t1 t2 t3 : BitVec 48) (s : State) : Goes s (execDreq port id _t1 t2 t3 s) := by
  unfold execDreq
  repeat' first
    | with_reducible exact Keeps.refl _ | with_reducible apply Keeps.goes | with_reducible apply State.sendTiming_keeps | split

theorem execDresp_keeps (port : Nat) (id : BitVec 8) (t2 t3 t4 : BitVec 48) (s : State) : Goes s (execDresp port id t2 t3 t4 s) := by
  unfold execDresp
  repeat' first
    | with_reducible exact Keeps.refl _ | with_reducible apply Keeps.goes | with_reducible apply State.setPort_keeps | intro _
    | lift_lets -underBinder | split

theorem execMarkerLoss_keeps (s : State) : Goes s (execMarkerLoss s) := by
  unfold execMarkerLoss
  repeat' first
    | with_reducible exact Keeps.refl _ | with_reducible apply Keeps.goes | with_reducible apply State.toHoldover_keeps | split

theorem execHoldoverExpiry_keeps (s : State) : Goes s (execHoldoverExpiry s) := by
  unfold execHoldoverExpiry
  repeat' first
    | with_reducible exact Keeps.refl _ | with_reducible apply Keeps.goes | with_reducible apply State.setBeatSt_keeps
    | with_reducible apply State.setUp_keeps | with_reducible apply State.wrF_keeps | with_reducible apply State.wrB_keeps
    | with_reducible apply State.event_keeps | split

theorem execBackupMasterTakeover_keeps (s : State) : Goes s (execBackupMasterTakeover s) := by
  unfold execBackupMasterTakeover
  repeat' first
    | with_reducible exact Keeps.refl _ | with_reducible apply Keeps.goes | with_reducible apply State.master_keeps
    | with_reducible apply State.wrF_keeps | split | fail_if_no_progress with_reducible apply Keeps.update

theorem execBeatCountCapture_keeps (s : State) : Goes s (execBeatCountCapture s) := by
  unfold execBeatCountCapture
  repeat' first
    | with_reducible exact Keeps.refl _ | with_reducible apply Keeps.goes | with_reducible apply State.answer_keeps
    | fail_if_no_progress with_reducible apply Keeps.update

theorem execBeatErrRead_keeps (s : State) : Goes s (execBeatErrRead s) := by
  unfold execBeatErrRead
  repeat' first
    | with_reducible exact Keeps.refl _ | with_reducible apply Keeps.goes | with_reducible apply State.wrF_keeps
    | with_reducible apply State.answer_keeps

theorem execLatStatRead_keeps (s : State) : Goes s (execLatStatRead s) := by
  unfold execLatStatRead
  repeat' first
    | with_reducible exact Keeps.refl _ | with_reducible apply Keeps.goes | with_reducible apply State.wrF_keeps
    | with_reducible apply State.answer_keeps

theorem execEventReq_keeps (m : Msg) (s : State) : Goes s (execEventReq m s) := by
  unfold execEventReq
  repeat' first
    | with_reducible assumption | with_reducible exact Keeps.refl _ | with_reducible apply Keeps.goes
    | with_reducible apply State.serve_keeps | with_reducible apply State.leadRefuse_keeps | with_reducible apply State.issueEvent_keeps
    | intro _ | lift_lets -underBinder | split | fail_if_no_progress with_reducible apply Keeps.update

theorem execBarrierReset_keeps (m : Msg) (s : State) : Goes s (execBarrierReset m s) := by
  refine Keeps.goes (State.serve_keeps (Keeps.refl s) _ _ _ _ _ fun t b k => ?_)
  extract_lets x a r0 part
  split
  · split
    · exact k
    · split
      · exact k
      · exact Keeps.update (State.mcpPkt_keeps k _ _ _ _ _)
  · split
    · exact State.startReset_keeps k ‹_›
    · exact k

theorem execSnapshotRead_keeps (m : Msg) (s : State) : Goes s (execSnapshotRead m s) := by
  unfold execSnapshotRead
  repeat' first
    | with_reducible assumption | with_reducible exact Keeps.refl _ | with_reducible apply Keeps.goes
    | with_reducible apply State.serve_keeps | intro _ | lift_lets -underBinder | split

theorem execAckTimeout_keeps (port : Nat) (s : State) : Goes s (execAckTimeout port s) := by
  unfold execAckTimeout
  repeat' first
    | with_reducible exact Keeps.refl _ | with_reducible apply Keeps.goes | with_reducible apply State.retrain_keeps | split

theorem execLaneLockLoss_keeps (port : Nat) (s : State) : Goes s (execLaneLockLoss port s) := by
  unfold execLaneLockLoss
  repeat' first
    | with_reducible exact Keeps.refl _ | with_reducible apply Keeps.goes | with_reducible apply State.setPortState_keeps | split

theorem execRelockExpiry_keeps (port : Nat) (s : State) : Goes s (execRelockExpiry port s) := by
  unfold execRelockExpiry
  repeat' first
    | with_reducible exact Keeps.refl _ | with_reducible apply Keeps.goes | with_reducible apply State.linkDown_keeps | split

theorem execRetrainTimeout_keeps (port : Nat) (s : State) : Goes s (execRetrainTimeout port s) := by
  unfold execRetrainTimeout
  repeat' first
    | with_reducible exact Keeps.refl _ | with_reducible apply Keeps.goes | with_reducible apply State.setPortState_keeps | split

theorem execLinkTrain_keeps (port : Nat) (s : State) : Goes s (execLinkTrain port s) := by
  unfold execLinkTrain
  repeat' first
    | with_reducible exact Keeps.refl _ | with_reducible apply Keeps.goes | with_reducible apply State.setPort_keeps
    | with_reducible apply State.setPortState_keeps | split

theorem execWavelengthTakeover_keeps (port lane : Nat) (s : State) : Goes s (execWavelengthTakeover port lane s) := by
  unfold execWavelengthTakeover
  repeat' first
    | with_reducible exact Keeps.refl _ | with_reducible apply Keeps.goes | with_reducible apply State.portTakeover_keeps
    | with_reducible apply State.moveWave_keeps | split

theorem execViolLeak_keeps (port : Nat) (s : State) : Goes s (execViolLeak port s) := by
  unfold execViolLeak
  repeat' first
    | with_reducible exact Keeps.refl _ | with_reducible apply Keeps.goes | with_reducible apply State.wrF_keeps

theorem execUnq_keeps (port : Nat) (s : State) : Goes s (execUnq port s) := by
  unfold execUnq
  repeat' first
    | with_reducible exact Keeps.refl _ | with_reducible apply Keeps.goes | with_reducible apply State.retrain_keeps | split

theorem execRetrain_keeps (port : Nat) (s : State) : Goes s (execRetrain port s) := by
  unfold execRetrain
  repeat' first
    | with_reducible exact Keeps.refl _ | with_reducible apply Keeps.goes | with_reducible apply State.retrain_keeps | split

theorem execDetourWrite_keeps (x : Nat) (val : BitVec 32) (down2Age : Bool) (s : State) : Goes s (execDetourWrite x val down2Age s) := by
  unfold execDetourWrite
  repeat' first
    | with_reducible exact Keeps.refl _ | with_reducible apply Keeps.goes | with_reducible apply State.wr_keeps
    | with_reducible apply State.routesChanged_keeps

theorem execOptCartSwap_keeps (c : Nat) (s : State) : Goes s (execOptCartSwap c s) := by
  unfold execOptCartSwap
  repeat' first
    | with_reducible exact Keeps.refl _ | with_reducible apply Keeps.goes | with_reducible apply State.exchange_keeps | split

theorem execFabPcntRead_keeps (port : Nat) (s : State) : Goes s (execFabPcntRead port s) := by
  unfold execFabPcntRead
  repeat' first
    | with_reducible exact Keeps.refl _ | with_reducible apply Keeps.goes | with_reducible apply State.wr_keeps
    | with_reducible apply State.answer_keeps

theorem execOptWaveRead_keeps (port : Nat) (s : State) : Goes s (execOptWaveRead port s) := by
  unfold execOptWaveRead
  repeat' first
    | with_reducible exact Keeps.refl _ | with_reducible apply Keeps.goes | with_reducible apply State.wrF_keeps
    | with_reducible apply State.answer_keeps

theorem execFabricSet_keeps (m : Msg) (s : State) : Goes s (execFabricSet m s) := by
  unfold execFabricSet
  repeat' first
    | with_reducible assumption | with_reducible exact Keeps.refl _ | with_reducible apply Keeps.goes
    | with_reducible apply State.serve_keeps | with_reducible apply State.wr_keeps | with_reducible apply State.setBeatRole_keeps
    | with_reducible apply State.setLink_keeps | with_reducible apply State.routesChanged_keeps
    | with_reducible apply State.saveFabric_keeps | with_reducible apply Keeps.foldl | intro _ | lift_lets -underBinder | split

theorem execFabricQuery_keeps (m : Msg) (s : State) : Goes s (execFabricQuery m s) := by
  unfold execFabricQuery
  repeat' first
    | with_reducible assumption | with_reducible exact Keeps.refl _ | with_reducible apply Keeps.goes
    | with_reducible apply State.serve_keeps | intro _

theorem execCollGtWrite_keeps (s : State) : Goes s (execCollGtWrite s) := by
  unfold execCollGtWrite
  repeat' first
    | with_reducible exact Keeps.refl _ | with_reducible apply Keeps.goes | with_reducible apply State.wrB_keeps | split

theorem execCollStatRead_keeps (s : State) : Goes s (execCollStatRead s) := by
  unfold execCollStatRead
  repeat' first
    | with_reducible exact Keeps.refl _ | with_reducible apply Keeps.goes | with_reducible apply State.wrF_keeps
    | with_reducible apply State.answer_keeps

theorem execCollDropRead_keeps (s : State) : Goes s (execCollDropRead s) := by
  unfold execCollDropRead
  repeat' first
    | with_reducible exact Keeps.refl _ | with_reducible apply Keeps.goes | with_reducible apply State.wr_keeps
    | with_reducible apply State.answer_keeps

theorem execGroupWrite_keeps (m : Msg) (s : State) : Goes s (execGroupWrite m s) := by
  unfold execGroupWrite
  repeat' first
    | with_reducible assumption | with_reducible exact Keeps.refl _ | with_reducible apply Keeps.goes
    | with_reducible apply State.serve_keeps | intro _ | lift_lets -underBinder | split
    | fail_if_no_progress with_reducible apply Keeps.update

theorem execGroupCommit_keeps (m : Msg) (s : State) : Goes s (execGroupCommit m s) := by
  unfold execGroupCommit
  repeat' first
    | with_reducible assumption | with_reducible exact Keeps.refl _ | with_reducible apply Keeps.goes
    | with_reducible apply State.serve_keeps | with_reducible apply State.wrB_keeps | with_reducible apply State.writeBank_keeps
    | with_reducible apply State.gtCommit_keeps | intro _ | split | fail_if_no_progress with_reducible apply Keeps.update

theorem execHostReset_keeps (s : State) : Goes s (execHostReset s) := by
  unfold execHostReset
  repeat' first
    | with_reducible assumption | with_reducible exact Keeps.refl _ | with_reducible apply Keeps.goes
    | with_reducible apply State.resetChan_keeps | with_reducible apply State.resetRing_keeps | with_reducible apply State.event_keeps
    | with_reducible apply Keeps.foldl | intro _ | fail_if_no_progress with_reducible apply Keeps.update

theorem execHifDbc_keeps (ring : Nat) (tail : BitVec 32) (s : State) : Goes s (execHifDbc ring tail s) := by
  unfold execHifDbc
  repeat' first
    | with_reducible exact Keeps.refl _ | with_reducible apply Keeps.goes | with_reducible apply State.dbRefuse_keeps
    | with_reducible apply State.setRing_keeps | split

theorem execHifDbh_keeps (ring : Nat) (chead : BitVec 32) (s : State) : Goes s (execHifDbh ring chead s) := by
  unfold execHifDbh
  repeat' first
    | with_reducible exact Keeps.refl _ | with_reducible apply Keeps.goes | with_reducible apply State.dbRefuse_keeps
    | with_reducible apply State.setRing_keeps | split

theorem execHifErrhd_keeps (head : BitVec 32) (s : State) : Goes s (execHifErrhd head s) := by
  unfold execHifErrhd
  repeat' first
    | with_reducible exact Keeps.refl _ | with_reducible apply Keeps.goes | fail_if_no_progress with_reducible apply Keeps.update

theorem execHifBeatCapture_keeps (s : State) : Goes s (execHifBeatCapture s) := by
  unfold execHifBeatCapture
  repeat' first
    | with_reducible exact Keeps.refl _ | with_reducible apply Keeps.goes | with_reducible apply State.answer_keeps
    | fail_if_no_progress with_reducible apply Keeps.update

theorem execCoalesceTimeout_keeps (ring : Nat) (s : State) : Goes s (execCoalesceTimeout ring s) := by
  unfold execCoalesceTimeout
  repeat' first
    | with_reducible exact Keeps.refl _ | with_reducible apply Keeps.goes | with_reducible apply State.setRing_keeps
    | with_reducible apply State.irq_keeps | split

theorem execHello_keeps (m : Msg) (s : State) : Goes s (execHello m s) := by
  unfold execHello
  repeat' first
    | with_reducible assumption | with_reducible exact Keeps.refl _ | with_reducible apply Keeps.goes
    | with_reducible apply State.serve_keeps | with_reducible apply State.setChan_keeps | intro _ | split

theorem execIdentity_keeps (m : Msg) (s : State) : Goes s (execIdentity m s) := by
  unfold execIdentity
  repeat' first
    | with_reducible assumption | with_reducible exact Keeps.refl _ | with_reducible apply Keeps.goes
    | with_reducible apply State.serve_keeps | intro _

theorem execSessionOpen_keeps (m : Msg) (s : State) : Goes s (execSessionOpen m s) := by
  unfold execSessionOpen
  repeat' first
    | with_reducible assumption | with_reducible exact Keeps.refl _ | with_reducible apply Keeps.goes
    | with_reducible apply State.serve_keeps | with_reducible apply State.setChan_keeps | with_reducible apply State.bump_keeps | intro _
    | lift_lets -underBinder | split

theorem execSessionProof_keeps (m : Msg) (late : Bool) (s : State) : Goes s (execSessionProof m late s) := by
  unfold execSessionProof
  repeat' first
    | with_reducible assumption | with_reducible exact Keeps.refl _ | with_reducible apply Keeps.goes
    | with_reducible apply State.serve_keeps | with_reducible apply State.setChan_keeps | with_reducible apply State.authFail_keeps
    | intro _ | lift_lets -underBinder | split

theorem execSessionClose_keeps (m : Msg) (s : State) : Goes s (execSessionClose m s) := by
  unfold execSessionClose
  repeat' first
    | with_reducible assumption | with_reducible exact Keeps.refl _ | with_reducible apply Keeps.goes
    | with_reducible apply State.serve_keeps | with_reducible apply State.closeChan_keeps | intro _

theorem execKeySet_keeps (m : Msg) (s : State) : Goes s (execKeySet m s) := by
  unfold execKeySet
  repeat' first
    | with_reducible assumption | with_reducible exact Keeps.refl _ | with_reducible apply Keeps.goes
    | with_reducible apply State.serve_keeps | with_reducible apply State.setKey_keeps | with_reducible apply State.closeSlot_keeps
    | with_reducible apply State.flashImage_keeps | intro _ | lift_lets -underBinder | split

theorem execErrlogRead_keeps (m : Msg) (s : State) : Goes s (execErrlogRead m s) := by
  unfold execErrlogRead
  repeat' first
    | with_reducible assumption | with_reducible exact Keeps.refl _ | with_reducible apply Keeps.goes
    | with_reducible apply State.serve_keeps | with_reducible apply State.setChan_keeps | intro _ | lift_lets -underBinder | split
    | fail_if_no_progress with_reducible apply Keeps.update

theorem execPartCreate_keeps (m : Msg) (s : State) : Goes s (execPartCreate m s) := by
  unfold execPartCreate
  repeat' first
    | with_reducible assumption | with_reducible exact Keeps.refl _ | with_reducible apply Keeps.goes
    | with_reducible apply State.serve_keeps | with_reducible apply State.makePart_keeps | intro _ | lift_lets -underBinder | split

theorem execPartDestroy_keeps (m : Msg) (s : State) : Goes s (execPartDestroy m s) := by
  unfold execPartDestroy
  repeat' first
    | with_reducible assumption | with_reducible exact Keeps.refl _ | with_reducible apply Keeps.goes
    | with_reducible apply State.serve_keeps | with_reducible apply State.setPart_keeps | with_reducible apply State.preempt_keeps
    | with_reducible apply State.answerPreempts_keeps | with_reducible apply State.dropPart_keeps | intro _ | lift_lets -underBinder
    | split

theorem execPartQuery_keeps (m : Msg) (s : State) : Goes s (execPartQuery m s) := by
  unfold execPartQuery
  repeat' first
    | with_reducible assumption | with_reducible exact Keeps.refl _ | with_reducible apply Keeps.goes
    | with_reducible apply State.serve_keeps | intro _ | lift_lets -underBinder | split

theorem execPreempt_keeps (m : Msg) (s : State) : Goes s (execPreempt m s) := by
  unfold execPreempt
  repeat' first
    | with_reducible assumption | with_reducible exact Keeps.refl _ | with_reducible apply Keeps.goes
    | with_reducible apply State.serve_keeps | with_reducible apply State.preempt_keeps | with_reducible apply State.setPart_keeps
    | intro _ | lift_lets -underBinder | split

theorem execPreemptDone_keeps (part : Nat) (s : State) : Goes s (execPreemptDone part s) := by
  unfold execPreemptDone
  repeat' first
    | with_reducible exact Keeps.refl _ | with_reducible apply Keeps.goes | with_reducible apply State.answerPreempts_keeps
    | with_reducible apply State.finishShutdown_keeps | split

theorem execBar2Map_keeps (m : Msg) (s : State) : Goes s (execBar2Map m s) := by
  unfold execBar2Map
  repeat' first
    | with_reducible assumption | with_reducible exact Keeps.refl _ | with_reducible apply Keeps.goes
    | with_reducible apply State.serve_keeps | with_reducible apply Keeps.foldl | intro _ | lift_lets -underBinder | split
    | fail_if_no_progress with_reducible apply Keeps.update

theorem execRingCreate_keeps (m : Msg) (s : State) : Goes s (execRingCreate m s) := by
  unfold execRingCreate
  repeat' first
    | with_reducible assumption | with_reducible exact Keeps.refl _ | with_reducible apply Keeps.goes
    | with_reducible apply State.serve_keeps | with_reducible apply State.setRing_keeps | intro _ | lift_lets -underBinder | split

theorem execRingDestroy_keeps (m : Msg) (s : State) : Goes s (execRingDestroy m s) := by
  unfold execRingDestroy
  repeat' first
    | with_reducible assumption | with_reducible exact Keeps.refl _ | with_reducible apply Keeps.goes
    | with_reducible apply State.serve_keeps | with_reducible apply State.ringMsg_keeps | with_reducible apply State.setRing_keeps
    | intro _ | split

theorem execRingRestart_keeps (m : Msg) (s : State) : Goes s (execRingRestart m s) := by
  unfold execRingRestart
  repeat' first
    | with_reducible assumption | with_reducible exact Keeps.refl _ | with_reducible apply Keeps.goes
    | with_reducible apply State.serve_keeps | with_reducible apply State.ringMsg_keeps | with_reducible apply State.setRing_keeps
    | intro _ | lift_lets -underBinder | split

theorem execRingQuery_keeps (m : Msg) (s : State) : Goes s (execRingQuery m s) := by
  unfold execRingQuery
  repeat' first
    | with_reducible assumption | with_reducible exact Keeps.refl _ | with_reducible apply Keeps.goes
    | with_reducible apply State.serve_keeps | with_reducible apply State.ringMsg_keeps | intro _

theorem execWindowOpen_keeps (m : Msg) (s : State) : Goes s (execWindowOpen m s) := by
  unfold execWindowOpen
  repeat' first
    | with_reducible assumption | with_reducible exact Keeps.refl _ | with_reducible apply Keeps.goes
    | with_reducible apply State.serve_keeps | intro _ | split | fail_if_no_progress with_reducible apply Keeps.update

theorem execWindowClose_keeps (m : Msg) (s : State) : Goes s (execWindowClose m s) := by
  unfold execWindowClose
  repeat' first
    | with_reducible assumption | with_reducible exact Keeps.refl _ | with_reducible apply Keeps.goes
    | with_reducible apply State.serve_keeps | intro _ | split | fail_if_no_progress with_reducible apply Keeps.update

theorem execErrRing_keeps (m : Msg) (s : State) : Goes s (execErrRing m s) := by
  unfold execErrRing
  repeat' first
    | with_reducible assumption | with_reducible exact Keeps.refl _ | with_reducible apply Keeps.goes
    | with_reducible apply State.serve_keeps | intro _ | lift_lets -underBinder | split
    | fail_if_no_progress with_reducible apply Keeps.update

theorem execNonceExpiry_keeps (ch : Nat) (s : State) : Goes s (execNonceExpiry ch s) := by
  unfold execNonceExpiry
  repeat' first
    | with_reducible exact Keeps.refl _ | with_reducible apply Keeps.goes | with_reducible apply State.authFail_keeps
    | with_reducible apply State.logSession_keeps | split

theorem execLockExpiry_keeps (ch : Nat) (s : State) : Goes s (execLockExpiry ch s) := by
  unfold execLockExpiry
  repeat' first
    | with_reducible exact Keeps.refl _ | with_reducible apply Keeps.goes | with_reducible apply State.setChan_keeps | split

theorem execRollingTestDue_keeps (wing core : Nat) (s : State) : Goes s (execRollingTestDue wing core s) := by
  unfold execRollingTestDue
  repeat' first
    | with_reducible exact Keeps.refl _ | with_reducible apply Keeps.goes | with_reducible apply State.testDue_keeps | split
    | fail_if_no_progress with_reducible apply Keeps.update

theorem execTestWithdraw_keeps (wing : Nat) (s : State) : Goes s (execTestWithdraw wing s) := by
  unfold execTestWithdraw
  repeat' first
    | with_reducible exact Keeps.refl _ | with_reducible apply Keeps.goes | with_reducible apply State.withdraw_keeps | split

theorem execHallwayLaneSpare_keeps (dir lane : Nat) (s : State) : Goes s (execHallwayLaneSpare dir lane s) := by
  unfold execHallwayLaneSpare
  repeat' first
    | with_reducible exact Keeps.refl _ | with_reducible apply Keeps.goes | with_reducible apply State.spareUsed_keeps
    | with_reducible apply State.noSpare_keeps | split | fail_if_no_progress with_reducible apply Keeps.update

theorem execNativeReportSend_keeps (s : State) : Goes s (execNativeReportSend s) := by
  unfold execNativeReportSend
  repeat' first
    | with_reducible exact Keeps.refl _ | with_reducible apply Keeps.goes | with_reducible apply State.dueSummaries_keeps
    | with_reducible apply State.answer_keeps | intro _ | lift_lets -underBinder | split
    | fail_if_no_progress with_reducible apply Keeps.update

theorem execBstCheckRead_keeps (s : State) : Goes s (execBstCheckRead s) := by
  unfold execBstCheckRead
  repeat' first
    | with_reducible exact Keeps.refl _ | with_reducible apply Keeps.goes | with_reducible apply State.wr_keeps
    | with_reducible apply State.answer_keeps

theorem execLcSet_keeps (m : Msg) (s : State) : Goes s (execLcSet m s) := by
  unfold execLcSet
  repeat' first
    | with_reducible assumption | with_reducible exact Keeps.refl _ | with_reducible apply Keeps.goes
    | with_reducible apply State.serve_keeps | with_reducible apply State.closeInj_keeps | with_reducible apply State.flashImage_keeps
    | with_reducible apply State.retireModule_keeps
    | (intro v; refine Keeps.cut (u := s) (v := v) ?_ ?_; on_goal 1 => dsimp -zeta only [v]) | intro _ | lift_lets -underBinder | split
    | fail_if_no_progress with_reducible apply Keeps.update

theorem execPatternLoad_keeps (m : Msg) (image : List (BitVec 8)) (s : State) : Goes s (execPatternLoad m image s) := by
  unfold execPatternLoad
  repeat' first
    | with_reducible assumption | with_reducible exact Keeps.refl _ | with_reducible apply Keeps.goes
    | with_reducible apply State.serve_keeps | with_reducible apply State.setImage_keeps | intro _ | lift_lets -underBinder | split
    | fail_if_no_progress with_reducible apply Keeps.update

theorem execTestRun_keeps (m : Msg) (pass : Bool) (s : State) : Goes s (execTestRun m pass s) := by
  unfold execTestRun
  repeat' first
    | with_reducible assumption | with_reducible exact Keeps.refl _ | with_reducible apply Keeps.goes
    | with_reducible apply State.serve_keeps | with_reducible apply State.setCore_keeps | with_reducible apply State.nextTest_keeps
    | with_reducible apply State.event_keeps | intro _ | lift_lets -underBinder | split

theorem execLedgerRead_keeps (m : Msg) (s : State) : Goes s (execLedgerRead m s) := by
  unfold execLedgerRead
  repeat' first
    | with_reducible assumption | with_reducible exact Keeps.refl _ | with_reducible apply Keeps.goes
    | with_reducible apply State.serve_keeps | intro _ | lift_lets -underBinder | split

theorem execReportResend_keeps (m : Msg) (s : State) : Goes s (execReportResend m s) := by
  unfold execReportResend
  repeat' first
    | with_reducible assumption | with_reducible exact Keeps.refl _ | with_reducible apply Keeps.goes
    | with_reducible apply State.serve_keeps | intro _ | fail_if_no_progress with_reducible apply Keeps.update

theorem execBladeUndervoltage_keeps (mv : Nat) (s : State) : Goes s (execBladeUndervoltage mv s) := by
  unfold execBladeUndervoltage
  repeat' first
    | with_reducible exact Keeps.refl _ | with_reducible apply Keeps.goes | with_reducible apply State.setMv_keeps
    | with_reducible apply State.stopInOrder_keeps

theorem execBladeOvervoltage_keeps (mv : Nat) (s : State) : Goes s (execBladeOvervoltage mv s) := by
  unfold execBladeOvervoltage
  repeat' first
    | with_reducible exact Keeps.refl _ | with_reducible apply Keeps.goes | with_reducible apply State.setMv_keeps
    | with_reducible apply State.stopInOrder_keeps

theorem execPwrOvWarn_keeps (mv : Nat) (s : State) : Goes s (execPwrOvWarn mv s) := by
  unfold execPwrOvWarn
  repeat' first
    | with_reducible exact Keeps.refl _ | with_reducible apply Keeps.goes | with_reducible apply State.setMv_keeps
    | with_reducible apply State.event_keeps | split | fail_if_no_progress with_reducible apply Keeps.update

theorem execPwrUvLimit_keeps (mv : Nat) (s : State) : Goes s (execPwrUvLimit mv s) := by
  unfold execPwrUvLimit
  repeat' first
    | with_reducible exact Keeps.refl _ | with_reducible apply Keeps.goes | with_reducible apply State.setMv_keeps
    | with_reducible apply State.wrB_keeps | with_reducible apply State.event_keeps | split

theorem execStandbyLoss_keeps (mv : Nat) (s : State) : Goes s (execStandbyLoss mv s) := by
  unfold execStandbyLoss
  repeat' first
    | with_reducible exact Keeps.refl _ | with_reducible apply Keeps.goes | with_reducible apply State.blackout_keeps
    | with_reducible apply State.setMv_keeps

theorem execVoltageRecovery_keeps (mv : Nat) (s : State) : Goes s (execVoltageRecovery mv s) := by
  unfold execVoltageRecovery
  repeat' first
    | with_reducible assumption | with_reducible exact Keeps.refl _ | with_reducible apply Keeps.goes
    | with_reducible apply State.setMv_keeps | with_reducible apply State.closeChan_keeps | with_reducible apply State.start_keeps
    | with_reducible apply Keeps.foldl | intro _ | split

theorem execGovernorTick_keeps (powerW avgW mv : Nat) (below97ms : Bool) (s : State) : Goes s (execGovernorTick powerW avgW mv below97ms s) := by
  unfold execGovernorTick
  repeat' first
    | with_reducible assumption | with_reducible exact Keeps.refl _ | with_reducible apply Keeps.goes
    | with_reducible apply State.setMv_keeps | with_reducible apply State.wrF_keeps | with_reducible apply State.wrB_keeps
    | with_reducible apply State.stepDown_keeps | with_reducible apply State.setClk_keeps
    | (intro v; refine Keeps.cut (u := s) (v := v) ?_ ?_; on_goal 1 => dsimp -zeta only [v]) | intro _ | lift_lets -underBinder | split
    | fail_if_no_progress with_reducible apply Keeps.update

theorem execPwrThermWarn_keeps (tj8 : Int) (s : State) : Goes s (execPwrThermWarn tj8 s) := by
  unfold execPwrThermWarn
  repeat' first
    | with_reducible exact Keeps.refl _ | with_reducible apply Keeps.goes | with_reducible apply State.setTj_keeps
    | with_reducible apply State.event_keeps | split | fail_if_no_progress with_reducible apply Keeps.update

theorem execThermalThrottle_keeps (tj8 : Int) (s : State) : Goes s (execThermalThrottle tj8 s) := by
  unfold execThermalThrottle
  repeat' first
    | with_reducible exact Keeps.refl _ | with_reducible apply Keeps.goes | with_reducible apply State.setTj_keeps
    | with_reducible apply State.wrB_keeps | with_reducible apply State.stepDown_keeps | intro _ | split
    | fail_if_no_progress with_reducible apply Keeps.update

theorem execPwrThermStop_keeps (tj8 : Int) (s : State) : Goes s (execPwrThermStop tj8 s) := by
  unfold execPwrThermStop
  repeat' first
    | with_reducible exact Keeps.refl _ | with_reducible apply Keeps.goes | with_reducible apply State.setTj_keeps
    | with_reducible apply State.stopInOrder_keeps | split

theorem execThermalTrip_keeps (s : State) : Goes s (execThermalTrip s) := by
  unfold execThermalTrip
  repeat' first
    | with_reducible exact Keeps.refl _ | with_reducible apply Keeps.goes | with_reducible apply State.wrB_keeps
    | with_reducible apply State.dark_keeps | with_reducible apply State.wrF_keeps | fail_if_no_progress with_reducible apply Keeps.update

theorem execSitePowerN_keeps (asserted : Bool) (s : State) : Goes s (execSitePowerN asserted s) := by
  unfold execSitePowerN
  repeat' first
    | with_reducible exact Keeps.refl _ | with_reducible apply Keeps.goes | with_reducible apply State.wrB_keeps
    | with_reducible apply State.sendSite_keeps | with_reducible apply State.applyOwn_keeps

theorem execBoot_keeps (mv : Nat) (s : State) : Goes s (execBoot mv s) := by
  unfold execBoot
  repeat' first
    | with_reducible exact Keeps.refl _ | with_reducible apply Keeps.goes | with_reducible apply State.blackout_keeps
    | with_reducible apply State.setMv_keeps | with_reducible apply State.wrB_keeps | with_reducible apply State.start_keeps | split
    | fail_if_no_progress with_reducible apply Keeps.update

theorem execMcpBBootTakeover_keeps (s : State) : Goes s (execMcpBBootTakeover s) := by
  unfold execMcpBBootTakeover
  repeat' first
    | with_reducible exact Keeps.refl _ | with_reducible apply Keeps.goes | with_reducible apply State.wrB_keeps
    | with_reducible apply State.event_keeps | with_reducible apply State.start_keeps | intro _ | lift_lets -underBinder | split
    | fail_if_no_progress with_reducible apply Keeps.update

theorem execFlashCopyWrite_keeps (kind : Nat) (s : State) : Goes s (execFlashCopyWrite kind s) := by
  unfold execFlashCopyWrite
  repeat' first
    | with_reducible exact Keeps.refl _ | with_reducible apply Keeps.goes | with_reducible apply State.flashTable_keeps | split

theorem execPwrErrRead_keeps (s : State) : Goes s (execPwrErrRead s) := by
  unfold execPwrErrRead
  repeat' first
    | with_reducible exact Keeps.refl _ | with_reducible apply Keeps.goes | with_reducible apply State.wrF_keeps
    | with_reducible apply State.answer_keeps

theorem execProfileReq_keeps (m : Msg) (s : State) : Goes s (execProfileReq m s) := by
  unfold execProfileReq
  repeat' first
    | with_reducible assumption | with_reducible exact Keeps.refl _ | with_reducible apply Keeps.goes
    | with_reducible apply State.serve_keeps | with_reducible apply State.setCap_keeps | with_reducible apply State.applyOwn_keeps
    | with_reducible apply State.decideProfile_keeps | with_reducible apply State.toMaster_keeps | intro _ | lift_lets -underBinder
    | split

theorem execPolicySet_keeps (m : Msg) (s : State) : Goes s (execPolicySet m s) := by
  unfold execPolicySet
  repeat' first
    | with_reducible assumption | with_reducible exact Keeps.refl _ | with_reducible apply Keeps.goes
    | with_reducible apply State.serve_keeps | with_reducible apply State.commitTable_keeps | with_reducible apply State.applyOwn_keeps
    | with_reducible apply State.decideProfile_keeps | intro _ | lift_lets -underBinder | split
    | fail_if_no_progress with_reducible apply Keeps.update

theorem execShutdown_keeps (m : Msg) (s : State) : Goes s (execShutdown m s) := by
  unfold execShutdown
  repeat' first
    | with_reducible assumption | with_reducible exact Keeps.refl _ | with_reducible apply Keeps.goes
    | with_reducible apply State.serve_keeps | with_reducible apply State.preempt_keeps | with_reducible apply State.haltPart_keeps
    | with_reducible apply State.finishShutdown_keeps | with_reducible apply Keeps.foldl | intro _ | split
    | fail_if_no_progress with_reducible apply Keeps.update

theorem execImageWrite_keeps (m : Msg) (image : List (BitVec 8)) (s : State) : Goes s (execImageWrite m image s) := by
  unfold execImageWrite
  repeat' first
    | with_reducible assumption | with_reducible exact Keeps.refl _ | with_reducible apply Keeps.goes
    | with_reducible apply State.serve_keeps | with_reducible apply State.setImage_keeps | intro _ | lift_lets -underBinder | split

theorem execCalSet_keeps (m : Msg) (image : List (BitVec 8)) (s : State) : Goes s (execCalSet m image s) := by
  unfold execCalSet
  repeat' first
    | with_reducible assumption | with_reducible exact Keeps.refl _ | with_reducible apply Keeps.goes
    | with_reducible apply State.serve_keeps | with_reducible apply State.setImage_keeps | with_reducible apply State.noteClamps_keeps
    | intro _ | lift_lets -underBinder | split | fail_if_no_progress with_reducible apply Keeps.update

theorem execCalRead_keeps (m : Msg) (s : State) : Goes s (execCalRead m s) := by
  unfold execCalRead
  repeat' first
    | with_reducible assumption | with_reducible exact Keeps.refl _ | with_reducible apply Keeps.goes
    | with_reducible apply State.serve_keeps | intro _ | lift_lets -underBinder | split

theorem execTakeover_keeps (m : Msg) (s : State) : Goes s (execTakeover m s) := by
  unfold execTakeover
  repeat' first
    | with_reducible assumption | with_reducible exact Keeps.refl _ | with_reducible apply Keeps.goes
    | with_reducible apply State.serve_keeps | with_reducible apply State.mcpTakeover_keeps | with_reducible apply State.wcTakeover_keeps
    | intro _ | lift_lets -underBinder | split

theorem execCounterCapture_keeps (path off : Nat) (s : State) : Goes s (execCounterCapture path off s) := by
  unfold execCounterCapture
  repeat' first
    | with_reducible exact Keeps.refl _ | with_reducible apply Keeps.goes | with_reducible apply State.logSession_keeps
    | with_reducible apply State.answer_keeps | split | fail_if_no_progress with_reducible apply Keeps.update

theorem execCntTrkRead_keeps (x : Nat) (s : State) : Goes s (execCntTrkRead x s) := by
  unfold execCntTrkRead
  repeat' first
    | with_reducible exact Keeps.refl _ | with_reducible apply Keeps.goes | with_reducible apply State.wrF_keeps
    | with_reducible apply State.answer_keeps

theorem execCntTrcRead_keeps (y : Nat) (s : State) : Goes s (execCntTrcRead y s) := by
  unfold execCntTrcRead
  repeat' first
    | with_reducible exact Keeps.refl _ | with_reducible apply Keeps.goes | with_reducible apply State.wrF_keeps
    | with_reducible apply State.answer_keeps | fail_if_no_progress with_reducible apply Keeps.update

theorem execCntTrack_keeps (m : Msg) (s : State) : Goes s (execCntTrack m s) := by
  unfold execCntTrack
  repeat' first
    | with_reducible assumption | with_reducible exact Keeps.refl _ | with_reducible apply Keeps.goes
    | with_reducible apply State.serve_keeps | with_reducible apply State.swapRow_keeps | with_reducible apply State.wrF_keeps
    | with_reducible apply State.wr64_keeps | intro _ | lift_lets -underBinder | split

theorem execCntWindow_keeps (m : Msg) (s : State) : Goes s (execCntWindow m s) := by
  unfold execCntWindow
  repeat' first
    | with_reducible assumption | with_reducible exact Keeps.refl _ | with_reducible apply Keeps.goes
    | with_reducible apply State.serve_keeps | with_reducible apply State.leadRefuse_keeps | with_reducible apply State.setWin_keeps
    | with_reducible apply State.mcpPkt_keeps | with_reducible apply State.issueEvent_keeps | with_reducible apply Keeps.foldl | intro _
    | lift_lets -underBinder | split

theorem execTraceCfg_keeps (m : Msg) (s : State) : Goes s (execTraceCfg m s) := by
  unfold execTraceCfg
  repeat' first
    | with_reducible assumption | with_reducible exact Keeps.refl _ | with_reducible apply Keeps.goes
    | with_reducible apply State.serve_keeps | with_reducible apply State.wrF_keeps | with_reducible apply State.wr64_keeps
    | with_reducible apply State.zeroFill_keeps | (intro v; refine Keeps.cut (u := s) (v := v) ?_ ?_; on_goal 1 => dsimp -zeta only [v])
    | intro _ | lift_lets -underBinder | split | fail_if_no_progress with_reducible apply Keeps.update

theorem execTraceRead_keeps (m : Msg) (s : State) : Goes s (execTraceRead m s) := by
  unfold execTraceRead
  repeat' first
    | with_reducible assumption | with_reducible exact Keeps.refl _ | with_reducible apply Keeps.goes
    | with_reducible apply State.serve_keeps | intro _ | lift_lets -underBinder | split

theorem execSmbusRead_keeps (code : Nat) (s : State) : Goes s (execSmbusRead code s) := by
  unfold execSmbusRead
  repeat' first
    | with_reducible exact Keeps.refl _ | with_reducible apply Keeps.goes | with_reducible apply State.answer_keeps
    | with_reducible apply State.bump_keeps | split | fail_if_no_progress with_reducible apply Keeps.update

theorem execCartService_keeps (m : Msg) (s : State) : Goes s (execCartService m s) := by
  unfold execCartService
  repeat' first
    | with_reducible assumption | with_reducible exact Keeps.refl _ | with_reducible apply Keeps.goes
    | with_reducible apply State.serve_keeps | with_reducible apply State.planSwap_keeps | with_reducible apply State.setBay_keeps
    | intro _ | lift_lets -underBinder | split

theorem execLeverOpen_keeps (c : Nat) (s : State) : Goes s (execLeverOpen c s) := by
  unfold execLeverOpen
  repeat' first
    | with_reducible exact Keeps.refl _ | with_reducible apply Keeps.goes | with_reducible apply State.setBay_keeps
    | with_reducible apply State.cartFault_keeps | intro _ | split

theorem execCartridgeInsert_keeps (c : Nat) (s : State) : Goes s (execCartridgeInsert c s) := by
  unfold execCartridgeInsert
  repeat' first
    | with_reducible exact Keeps.refl _ | with_reducible apply Keeps.goes | with_reducible apply State.setBay_keeps | split

theorem execRegisterWrite_keeps (who : Agent) (off : Nat) (val : BitVec 32) (s : State) : Goes s (execRegisterWrite who off val s) := by
  unfold execRegisterWrite
  repeat' first
    | with_reducible exact Keeps.refl _ | with_reducible apply Keeps.goes | with_reducible apply State.writeReg_keeps
    | with_reducible apply State.logSession_keeps | split

theorem execLockRegained_keeps (port : Nat) (s : State) : Goes s (execLockRegained port s) := by
  unfold execLockRegained
  repeat' first
    | with_reducible exact Keeps.refl _ | with_reducible apply Keeps.goes | with_reducible apply State.setPort_keeps
    | with_reducible apply State.setPortState_keeps | split

theorem execLightStop_keeps (port : Nat) (s : State) : Goes s (execLightStop port s) := by
  unfold execLightStop
  repeat' first
    | with_reducible exact Keeps.refl _ | with_reducible apply Keeps.goes | with_reducible apply State.setPort_keeps | split

theorem execCartridgeRemoval_keeps (c : Nat) (s : State) : Goes s (execCartridgeRemoval c s) := by
  unfold execCartridgeRemoval
  repeat' first
    | with_reducible exact Keeps.refl _ | with_reducible apply Keeps.goes | with_reducible apply State.setCart_keeps
    | with_reducible apply State.setBay_keeps | with_reducible apply State.feedHalf_keeps | split

theorem execConfigurationRequest_keeps (_off : Nat) (s : State) : Goes s (execConfigurationRequest _off s) := by
  unfold execConfigurationRequest
  repeat' first
    | with_reducible exact Keeps.refl _ | with_reducible apply Keeps.goes | with_reducible apply State.answer_keeps | split
    | fail_if_no_progress with_reducible apply Keeps.update

theorem execRedundancyRowRemap_keeps (larder : Bool) (inst bank row : Nat) (s : State) : Goes s (execRedundancyRowRemap larder inst bank row s) := by
  unfold execRedundancyRowRemap
  repeat' first
    | with_reducible exact Keeps.refl _ | with_reducible apply Keeps.goes | with_reducible apply State.noSpare_keeps
    | with_reducible apply State.commitTable_keeps | with_reducible apply State.spareUsed_keeps | intro _ | lift_lets -underBinder | split
    | fail_if_no_progress with_reducible apply Keeps.update

theorem execDrainSExpiry_keeps (s : State) : Goes s (execDrainSExpiry s) := by
  unfold execDrainSExpiry
  repeat' first
    | with_reducible assumption | with_reducible exact Keeps.refl _ | with_reducible apply Keeps.goes
    | with_reducible apply State.preempt_keeps | with_reducible apply Keeps.foldl | intro _ | split

theorem execMcpATestResult_keeps (pass : Bool) (s : State) : Goes s (execMcpATestResult pass s) := by
  unfold execMcpATestResult
  repeat' first
    | with_reducible exact Keeps.refl _ | with_reducible apply Keeps.goes | with_reducible apply State.standbyLost_keeps | split
    | fail_if_no_progress with_reducible apply Keeps.update

/-! ### All commands -/

/-- A slot command is issued to its thread. -/
theorem exec_of_issue {i : Instr} {x : Issue} (h : i.issue = some x) (s : State) : exec i s = slotStep s x i := by
  cases i <;> cases h <;> rfl

/-- Every command answers a next state, which keeps what the state had. -/
theorem exec_keeps (i : Instr) (s : State) : Goes s (exec i s) := by
  cases h : i.issue with
  | some x => exact exec_of_issue h s ▸ (State.slot_keeps (Keeps.refl s) x i).goes
  | none =>
  cases i with
  | loadReturn => exact (State.loadReturn_keeps (Keeps.refl s) _ _ _).goes
  | wcException => exact (State.wcException_keeps (Keeps.refl s) _ _).goes
  | threadStart => exact execThreadStart_keeps _ _ _ _ _
  | threadHold => exact execThreadHold_keeps _ _ _
  | threadRelease => exact execThreadRelease_keeps _ _ _
  | coreGate => exact execCoreGate_keeps _ _
  | latchWaitTimeout => exact execLatchWaitTimeout_keeps _ _ _
  | tileStart => exact (State.tileStart_keeps (Keeps.refl s) _ _).goes
  | runComplete => exact (State.runComplete_keeps (Keeps.refl s) _ _ _).goes
  | tileEnd => exact (State.tileEnd_keeps (Keeps.refl s) _ _ _).goes
  | itemReissue => exact (State.itemReissue_keeps (Keeps.refl s) _ _ _ _ _).goes
  | arrayTest => exact (State.arrayTest_keeps (Keeps.refl s) _ _ _).goes
  | arrRemapWrite => exact execArrRemapWrite_keeps _ _ _
  | arrInjArm => exact execArrInjArm_keeps _ _ _
  | arrErrRead => exact execArrErrRead_keeps _ _
  | coreFence => exact (State.fenceCore_keeps (Keeps.refl s) _).goes
  | faultTakeover => exact (State.faultTakeover_keeps (Keeps.refl s) _ _ _).goes
  | takeoverCommit => exact (State.takeoverCommit_keeps (Keeps.refl s) _).goes
  | coreDrain => exact (State.extCore_keeps (Keeps.refl s) _ _).goes
  | handoverFreeze => exact (State.handoverFreeze_keeps (Keeps.refl s) _).goes
  | handoverCommit => exact (State.handoverCommit_keeps (Keeps.refl s) _).goes
  | coreHoldAll => exact (State.extCore_keeps (Keeps.refl s) _ _).goes
  | coreExc3Read => exact (State.extCore_keeps (Keeps.refl s) _ _).goes
  | coreExc0Read => exact (State.extCore_keeps (Keeps.refl s) _ _).goes
  | ledgerClear => exact execLedgerClear_keeps _ _ _
  | descriptorTake => exact (State.descriptorTake_keeps (Keeps.refl s) _ _).goes
  | commandWaitTimeout => exact (State.waitTimeout_keeps (Keeps.refl s) _ _).goes
  | nop => exact (State.runCmd_keeps (Keeps.refl s) _ _ _ _ fun _ _ k => State.doneCmd_keeps k _).goes
  | matmul => exact execMatmul_keeps _ _ _
  | quantize => exact execQuantize_keeps _ _ _
  | convert => exact execConvert_keeps _ _ _
  | copy => exact execCopy_keeps _ _ _
  | fill => exact execFill_keeps _ _ _
  | reduceSum => exact execReduceSum_keeps _ _ _
  | reduceSsq => exact execReduceSsq_keeps _ _ _
  | reduceMax => exact execReduceMax_keeps _ _ _
  | reduceMin => exact execReduceMin_keeps _ _ _
  | moments => exact execMoments_keeps _ _ _
  | sort => exact execSort_keeps _ _ _
  | gather => exact execGather_keeps _ _ _
  | scatterAdd => exact execScatterAdd_keeps _ _ _
  | kernel => exact execKernel_keeps _ _ _
  | allReduce => exact (State.runColl_keeps (Keeps.refl s) _ _ _).goes
  | reduceScatter => exact (State.runColl_keeps (Keeps.refl s) _ _ _).goes
  | allGather => exact (State.runColl_keeps (Keeps.refl s) _ _ _).goes
  | broadcast => exact (State.runColl_keeps (Keeps.refl s) _ _ _).goes
  | lrReduce => exact (State.runColl_keeps (Keeps.refl s) _ _ _).goes
  | kSplitCombine => exact (State.kSplitCombine_keeps (Keeps.refl s) _ _).goes
  | commandComplete => exact (State.commandComplete_keeps (Keeps.refl s) _ _).goes
  | checkReexec => exact (State.checkReexec_keeps (Keeps.refl s) _ _ _ _ _).goes
  | thirdExecution => exact (State.thirdExecution_keeps (Keeps.refl s) _ _ _ _ _).goes
  | dmaStart => exact (State.dmaStart_keeps (Keeps.refl s) _ _).goes
  | dmaComplete => exact (State.dmaComplete_keeps (Keeps.refl s) _ _).goes
  | bar2Read => exact (State.bar2Read_keeps (Keeps.refl s) _ _).goes
  | bar2Write => exact (State.bar2Write_keeps (Keeps.refl s) _ _).goes
  | scrubRead => exact (State.scrubRead_keeps (Keeps.refl s) _).goes
  | bucketLeak => exact execBucketLeak_keeps _ _
  | rebuildEnd => exact (State.rebuildEnd_keeps (Keeps.refl s) _).goes
  | spareEraseRebuild => exact execSpareEraseRebuild_keeps _ _ _
  | spareEraseOnly => exact execSpareEraseOnly_keeps _ _ _
  | spareStartRebuild => exact execSpareStartRebuild_keeps _ _ _
  | rowRemap => exact execRowRemap_keeps _ _ _ _
  | granModeChange => exact (State.granWrite_keeps (Keeps.refl s) _ _).goes
  | refillEnd => exact execRefillEnd_keeps _ _
  | eccInjArm => exact execEccInjArm_keeps _ _
  | rawRead => exact execRawRead_keeps _ _
  | rawWrite => exact execRawWrite_keeps _ _
  | memEpochDropRead => exact execMemEpochDropRead_keeps _
  | eccBktRead => exact execEccBktRead_keeps _ _
  | snapshot => exact (State.due_keeps (Keeps.refl s) _ _ fun _ _ k => State.takeSnapshot_keeps k _ _ _ _).goes
  | stop => exact execStop_keeps _
  | resume => exact execResume_keeps _
  | profile => exact execProfile_keeps _
  | period => exact execPeriod_keeps _
  | counterWindow => exact execCounterWindow_keeps _
  | testSlice => exact execTestSlice_keeps _
  | spareSwap => exact execSpareSwap_keeps _
  | collDeadline => exact (State.due_keeps (Keeps.refl s) _ _ fun _ _ k => State.setDeadline_keeps k _ _ _).goes
  | snapshotComplete => exact (State.completeSnap_keeps (Keeps.refl s) _ _).goes
  | windowCloseCapture => exact (State.closeWindow_keeps (Keeps.refl s) _).goes
  | event => exact (State.eventRow_keeps (Keeps.refl s) _).goes
  | marker => exact (State.marker_keeps (Keeps.refl s) _ _ _ _ _ _ _).goes
  | markerSend => exact execMarkerSend_keeps _
  | delayExchange => exact execDelayExchange_keeps _ _
  | dreq port id t1 t2 t3 => exact execDreq_keeps port id t1 t2 t3 s
  | dresp => exact execDresp_keeps _ _ _ _ _ _
  | markerLoss => exact execMarkerLoss_keeps _
  | holdoverExpiry => exact execHoldoverExpiry_keeps _
  | backupMasterTakeover => exact execBackupMasterTakeover_keeps _
  | beatPeriodWrite => exact (State.periodWrite_keeps (Keeps.refl s) _).goes
  | beatCountCapture => exact execBeatCountCapture_keeps _
  | beatErrRead => exact execBeatErrRead_keeps _
  | latStatRead => exact execLatStatRead_keeps _
  | barrierArrival => exact (State.arrivalRow_keeps (Keeps.refl s) _).goes
  | barrierRelease => exact (State.releaseRow_keeps (Keeps.refl s) _).goes
  | barrierRefusal => exact (State.refusalRow_keeps (Keeps.refl s) _).goes
  | groupReset => exact (State.resetRow_keeps (Keeps.refl s) _).goes
  | resetAcknowledgement => exact (State.ackRow_keeps (Keeps.refl s) _).goes
  | eventReq => exact execEventReq_keeps _ _
  | barrierReset => exact execBarrierReset_keeps _ _
  | snapshotRead => exact execSnapshotRead_keeps _ _
  | frameReceive => exact (State.frameReceive_keeps (Keeps.refl s) _ _ _).goes
  | frameSend => exact (State.frameSend_keeps (Keeps.refl s) _).goes
  | write => exact (State.writeRow_keeps (Keeps.refl s) _).goes
  | latchAdd => exact (State.latchAddRow_keeps (Keeps.refl s) _).goes
  | status => exact (State.statusRow_keeps (Keeps.refl s) _).goes
  | mgmt => exact (State.mgmtRow_keeps (Keeps.refl s) _).goes
  | ackTimeout => exact execAckTimeout_keeps _ _
  | laneLockLoss => exact execLaneLockLoss_keeps _ _
  | relockExpiry => exact execRelockExpiry_keeps _ _
  | retrainTimeout => exact execRetrainTimeout_keeps _ _
  | linkTrain => exact execLinkTrain_keeps _ _
  | trainingComplete => exact (State.trainingComplete_keeps (Keeps.refl s) _ _ _ _ _).goes
  | wavelengthTakeover => exact execWavelengthTakeover_keeps _ _ _
  | portTakeover => exact (State.portTakeover_keeps (Keeps.refl s) _).goes
  | cartridgeFault => exact (State.cartFault_keeps (Keeps.refl s) _).goes
  | laserFail => exact (State.laserFail_keeps (Keeps.refl s) _ _).goes
  | marginScan => exact (State.marginScan_keeps (Keeps.refl s) _ _ _).goes
  | packetAged => exact (State.packetAged_keeps (Keeps.refl s) _ _).goes
  | violLeak => exact execViolLeak_keeps _ _
  | unq => exact execUnq_keeps _ _
  | retrain => exact execRetrain_keeps _ _
  | fabPortFail => exact (State.portTakeover_keeps (Keeps.refl s) _).goes
  | detourWrite => exact execDetourWrite_keeps _ _ _ _
  | optCartSwap => exact execOptCartSwap_keeps _ _
  | fabPcntRead => exact execFabPcntRead_keeps _ _
  | optWaveRead => exact execOptWaveRead_keeps _ _
  | fabricSet => exact execFabricSet_keeps _ _
  | fabricQuery => exact execFabricQuery_keeps _ _
  | ownerRound1 => exact (State.ownerRound1_keeps (Keeps.refl s) _ _).goes
  | round2 => exact (State.round2_keeps (Keeps.refl s) _ _).goes
  | agree => exact (State.agree_keeps (Keeps.refl s) _ _).goes
  | hierLevel => exact (State.hierLevel_keeps (Keeps.refl s) _ _ _).goes
  | collTimeout => exact (State.collTimeout_keeps (Keeps.refl s) _ _).goes
  | collGtWrite => exact execCollGtWrite_keeps _
  | collGtCommit => exact (State.gtCommit_keeps (Keeps.refl s)).goes
  | gtValidationEnd => exact (State.validated_keeps (Keeps.refl s)).goes
  | collStatRead => exact execCollStatRead_keeps _
  | collDropRead => exact execCollDropRead_keeps _
  | groupWrite => exact execGroupWrite_keeps _ _
  | groupCommit => exact execGroupCommit_keeps _ _
  | hostReset => exact execHostReset_keeps _
  | hifDbc => exact execHifDbc_keeps _ _ _
  | hifDbh => exact execHifDbh_keeps _ _ _
  | hifErrhd => exact execHifErrhd_keeps _ _
  | hifBeatCapture => exact execHifBeatCapture_keeps _
  | coalesceTimeout => exact execCoalesceTimeout_keeps _ _
  | hello => exact execHello_keeps _ _
  | identity => exact execIdentity_keeps _ _
  | sessionOpen => exact execSessionOpen_keeps _ _
  | sessionProof => exact execSessionProof_keeps _ _ _
  | sessionClose => exact execSessionClose_keeps _ _
  | keySet => exact execKeySet_keeps _ _
  | errlogRead => exact execErrlogRead_keeps _ _
  | partCreate => exact execPartCreate_keeps _ _
  | partDestroy => exact execPartDestroy_keeps _ _
  | partQuery => exact execPartQuery_keeps _ _
  | preempt => exact execPreempt_keeps _ _
  | preemptDone => exact execPreemptDone_keeps _ _
  | bar2Map => exact execBar2Map_keeps _ _
  | ringCreate => exact execRingCreate_keeps _ _
  | ringDestroy => exact execRingDestroy_keeps _ _
  | ringRestart => exact execRingRestart_keeps _ _
  | ringQuery => exact execRingQuery_keeps _ _
  | windowOpen => exact execWindowOpen_keeps _ _
  | windowClose => exact execWindowClose_keeps _ _
  | errRing => exact execErrRing_keeps _ _
  | nonceExpiry => exact execNonceExpiry_keeps _ _
  | lockExpiry => exact execLockExpiry_keeps _ _
  | rollingTestDue => exact execRollingTestDue_keeps _ _ _
  | testWithdraw => exact execTestWithdraw_keeps _ _
  | coreTestResult => exact (State.testResult_keeps (Keeps.refl s) _ _ _).goes
  | hallwayLaneSpare => exact execHallwayLaneSpare_keeps _ _ _
  | nativeReportSend => exact execNativeReportSend_keeps _
  | bstCheckRead => exact execBstCheckRead_keeps _
  | lcSet => exact execLcSet_keeps _ _
  | patternLoad => exact execPatternLoad_keeps _ _ _
  | testRun => exact execTestRun_keeps _ _ _
  | ledgerRead => exact execLedgerRead_keeps _ _
  | reportResend => exact execReportResend_keeps _ _
  | bladeUndervoltage => exact execBladeUndervoltage_keeps _ _
  | bladeOvervoltage => exact execBladeOvervoltage_keeps _ _
  | pwrOvWarn => exact execPwrOvWarn_keeps _ _
  | pwrUvLimit => exact execPwrUvLimit_keeps _ _
  | standbyLoss => exact execStandbyLoss_keeps _ _
  | voltageRecovery => exact execVoltageRecovery_keeps _ _
  | bladeEnNHigh => exact (State.stopInOrder_keeps (Keeps.refl s) _ _ _).goes
  | governorTick => exact execGovernorTick_keeps _ _ _ _ _
  | pwrThermWarn => exact execPwrThermWarn_keeps _ _
  | thermalThrottle => exact execThermalThrottle_keeps _ _
  | pwrThermStop => exact execPwrThermStop_keeps _ _
  | thermalTrip => exact execThermalTrip_keeps _
  | sitePowerN => exact execSitePowerN_keeps _ _
  | sitePowerReport => exact (State.sendSite_keeps (Keeps.refl s)).goes
  | profileDecision => exact (State.siteReport_keeps (Keeps.refl s) _ _).goes
  | boot => exact execBoot_keeps _ _
  | mcpBBootTakeover => exact execMcpBBootTakeover_keeps _
  | mcpHeartbeatMiss => exact (State.mcpTakeover_keeps (Keeps.refl s)).goes
  | wcStandbyTakeover => exact (State.wcTakeover_keeps (Keeps.refl s) _).goes
  | flashCopyWrite => exact execFlashCopyWrite_keeps _ _
  | pwrErrRead => exact execPwrErrRead_keeps _
  | profileReq => exact execProfileReq_keeps _ _
  | policySet => exact execPolicySet_keeps _ _
  | shutdown => exact execShutdown_keeps _ _
  | imageWrite => exact execImageWrite_keeps _ _ _
  | calSet => exact execCalSet_keeps _ _ _
  | calRead => exact execCalRead_keeps _ _
  | takeover => exact execTakeover_keeps _ _
  | counterCapture => exact execCounterCapture_keeps _ _ _
  | swap => exact (State.swapRow_keeps (Keeps.refl s) _).goes
  | cntTrkRead => exact execCntTrkRead_keeps _ _
  | cntTrcRead => exact execCntTrcRead_keeps _ _
  | cntTrack => exact execCntTrack_keeps _ _
  | cntWindow => exact execCntWindow_keeps _ _
  | traceCfg => exact execTraceCfg_keeps _ _
  | traceRead => exact execTraceRead_keeps _ _
  | smbusRead => exact execSmbusRead_keeps _ _
  | smbusRefused => exact (State.answer_keeps (Keeps.refl s) _).goes
  | cartService => exact execCartService_keeps _ _
  | leverOpen => exact execLeverOpen_keeps _ _
  | cartridgeInsert => exact execCartridgeInsert_keeps _ _
  | cartridgeLocked => exact (State.cartLocked_keeps (Keeps.refl s) _ _).goes
  | registerWrite => exact execRegisterWrite_keeps _ _ _ _
  | lockRegained => exact execLockRegained_keeps _ _
  | lightStop => exact execLightStop_keeps _ _
  | cartridgeRemoval => exact execCartridgeRemoval_keeps _ _
  | configurationRequest off => exact execConfigurationRequest_keeps off s
  | redundancyRowRemap => exact execRedundancyRowRemap_keeps _ _ _ _ _
  | drainSExpiry => exact execDrainSExpiry_keeps _
  | lockstepMiscompare => exact (State.mcpTakeover_keeps (Keeps.refl s)).goes
  | wcPrimaryMiscompare => exact (State.wcTakeover_keeps (Keeps.refl s) _).goes
  | mcpATestResult => exact execMcpATestResult_keeps _ _
  | _ => exact nomatch h

/-! ### The step -/

/-- Settles O1. -/
theorem stepRunsFront : Obligations.StepRunsFront := by
  intro c rest s h
  rw [step, h]

/-- Settles O58, from `exec_keeps`. -/
theorem everyCommandRuns : Obligations.EveryCommandRuns := by
  intro c s
  obtain ⟨t, ht, hk⟩ := exec_keeps c s
  exact ⟨t, ht, hk.2⟩

/-- Settles O59: a step with a command waiting is that command's meaning (`exec_keeps`), and one with none is a beat edge
(`State.tick_keeps`). -/
theorem stepKeepsCanonical : Obligations.StepKeepsCanonical := by
  intro s t hs h
  cases hp : s.pending with
  | nil =>
    have e : step s = .next s.tick := by rw [step, hp]
    cases e.symm.trans h
    exact (State.tick_keeps (Keeps.refl s)).1 hs
  | cons c rest =>
    obtain ⟨u, hu, hk⟩ := exec_keeps c { s with pending := rest }
    cases (hu.symm.trans (stepRunsFront c rest s hp).symm).trans h
    exact hk.1 hs

/-! ### Reset -/

/-- The state at reset holds nothing in its tables, and an empty table is in canonical form. -/
theorem State.reset_canonical : State.reset.canonical :=
  ⟨⟨List.Pairwise.nil, fun _ h => nomatch h⟩, List.Pairwise.nil, fun _ h => nomatch h⟩

/-- At reset every granule but the last is unowned: its OWNER field is that of `regDesc`. -/
theorem State.reset_owner : ∀ g < 383, State.reset.rdF (rMemGran g) 11 8 = 0xF := by
  intro g hg
  have h : ∀ g : Fin 383, bf (resetReg (rMemGran g.val)) 11 8 = 0xF := by decide +kernel
  exact h ⟨g, hg⟩

/-- Settles O57: the register words are those of `regDesc`, and a read of an empty table gives its reset value. -/
theorem resetState : Obligations.ResetState := by
  refine ⟨⟨?_, ?_, ?_, ?_, ?_, rfl, State.reset_owner, ?_, fun _ _ => rfl, fun _ _ => rfl, fun _ _ => rfl, fun _ _ => rfl, fun _ _ => rfl, rfl⟩,
    State.reset_canonical⟩
  all_goals decide +kernel

end Sys2Proof.Machine
end

section
/-! PROOFS. Scalar slots that write one scalar register (R210): sums, products, logic, shifts, comparisons, bit counts and fields. -/

namespace Sys2Proof.Machine

/-! ### Bits of a word -/

/-- `popNat` counts the set bits. -/
theorem popNat_eq_length_filter (n v : Nat) : popNat n v = ((List.range n).filter (fun k => v.testBit k)).length := by
  induction n generalizing v with
  | zero => rfl
  | succ n ih =>
    have hrest : (fun k => v.testBit k) ∘ Nat.succ = fun k => (v / 2).testBit k := by
      funext k; exact Nat.testBit_succ v k
    rw [popNat, ih, List.range_succ_eq_map, List.filter_cons, List.filter_map, hrest, Nat.testBit_zero]
    rcases Nat.mod_two_eq_zero_or_one v with h | h <;> simp [h, Nat.add_comm]

/-- The number of leading zeros of a word that is not zero names its highest set bit. -/
theorem testBit_log2_self {v : Nat} (hv : v ≠ 0) : v.testBit v.log2 = true := by
  have hlt : v.log2 < v.log2 + 1 := Nat.lt_succ_self _
  rw [Nat.testBit, Nat.shiftRight_eq_div_pow]
  have h1 : v / 2 ^ v.log2 = 1 := by
    refine Nat.div_eq_of_lt_le (by simpa using Nat.log2_self_le hv) ?_
    simpa [Nat.pow_succ, Nat.mul_comm] using Nat.lt_log2_self (n := v)
  simp [h1]

theorem testBit_of_log2_lt {v k : Nat} (h : v.log2 < k) : v.testBit k = false :=
  Nat.testBit_lt_two_pow (Nat.lt_of_lt_of_le Nat.lt_log2_self (Nat.pow_le_pow_right (by decide) h))

/-! ### A slot that writes one scalar register -/

theorem State.mayIssue.of_subset {s : State} {x : Issue} {regs regs' : List RegRef} (h : s.mayIssue x regs) (hsub : regs' ⊆ regs) :
    s.mayIssue x regs' := by
  obtain ⟨hm, hst, hb, hi, hp⟩ := h
  exact ⟨hm, hst, hb, hi, fun r hr => hp r (hsub hr)⟩

section Write
variable {i : Instr} {s : State} {x : Issue} {f : SF} (hrsv : f.rsv = 0) {v w : W64}
include hrsv

/-- With no reserved bit set, an S slot that writes sd asks for its sources and for sd. -/
theorem sWrite_of_clear (srcs : List RegRef) :
    sWrite f srcs v = { kind := 0, srcs, dsts := [.s f.sd.toNat], writes := [.s f.sd.toNat v] } :=
  if_neg (not_not_intro hrsv)

/-- Such a slot writes sd, and its bundle changes nothing else but the pc. -/
theorem ran_sWrite {srcs : List RegRef} (hmay : s.mayIssue x (.s f.sd.toNat :: srcs)) (he : exec i s = slotStep s x i)
    (ho : slotOut i s x.core x.thread = some (sWrite f srcs v)) (hv : v = w) :
    Ran i s x ((s.thr x.core x.thread).afterS f.sd w) := by
  rw [sWrite_of_clear hrsv] at ho
  exact hv ▸ ran_scalar ho he (hmay.of_subset (by simp))

theorem ran_sTwo {g : W64 → W64 → W64} (hmay : s.mayIssue x [.s f.sd.toNat, .s f.sa.toNat, .s f.sb.toNat])
    (he : exec i s = slotStep s x i) (ho : slotOut i s x.core x.thread = some (sTwo f (s.thr x.core x.thread) g))
    (hv : g ((s.thr x.core x.thread).sreg f.sa.toNat) ((s.thr x.core x.thread).sreg f.sb.toNat) = w) :
    Ran i s x ((s.thr x.core x.thread).afterS f.sd w) :=
  ran_sWrite hrsv hmay he ho hv

theorem ran_sOne {g : W64 → W64} (hmay : s.mayIssue x [.s f.sd.toNat, .s f.sa.toNat])
    (he : exec i s = slotStep s x i) (ho : slotOut i s x.core x.thread = some (sOne f (s.thr x.core x.thread) g))
    (hv : g ((s.thr x.core x.thread).sreg f.sa.toNat) = w) :
    Ran i s x ((s.thr x.core x.thread).afterS f.sd w) :=
  ran_sWrite hrsv hmay he ho hv

end Write

/-! ### The values written -/

theorem bit01_eq_ite (p : Prop) [Decidable p] : bit01 (decide p) = if p then 1 else 0 := by
  by_cases h : p <;> simp [bit01, h]

/-- The shift count of an immediate shift is the low six bits of IMM. -/
theorem shiftCount_eq (f : SF) : bf f.imm 5 0 = f.imm.toNat % 64 := by
  simp [bf_eq_div_mod]

/-- The value of S.LUI: IMM in the high half, the low half of the source below. -/
theorem lui_eq (m : BitVec 32) (a : W64) :
    (m.setWidth 64 <<< 32) ||| (a.setWidth 32).setWidth 64 = BitVec.ofNat 64 (m.toNat * 2 ^ 32 + a.toNat % 2 ^ 32) := by
  apply BitVec.eq_of_toNat_eq
  have hm := m.isLt
  have hlow : a.toNat % 2 ^ 32 < 2 ^ 32 := Nat.mod_lt _ (by decide)
  have hor : m.toNat <<< 32 ||| a.toNat % 2 ^ 32 = m.toNat * 2 ^ 32 + a.toNat % 2 ^ 32 := by
    rw [← Nat.shiftLeft_add_eq_or_of_lt hlow, Nat.shiftLeft_eq]
  have hmod : (m.toNat <<< 32) % 2 ^ 64 = m.toNat <<< 32 := by
    rw [Nat.shiftLeft_eq]; exact Nat.mod_eq_of_lt (by omega)
  have hm64 : m.toNat % 2 ^ 64 = m.toNat := Nat.mod_eq_of_lt (by omega)
  have ha64 : a.toNat % 2 ^ 32 % 2 ^ 64 = a.toNat % 2 ^ 32 := Nat.mod_eq_of_lt (by omega)
  rw [BitVec.toNat_or, BitVec.toNat_shiftLeft, BitVec.toNat_setWidth, BitVec.toNat_setWidth, BitVec.toNat_setWidth, hm64, ha64, hmod, hor,
    BitVec.toNat_ofNat]
  exact (Nat.mod_eq_of_lt (by omega)).symm

/-- S.CLZ counts the zeros above the highest set bit. -/
theorem clz_counts (a : W64) : ∃ n : Nat, n ≤ 64 ∧ (if a = 0 then 64 else BitVec.ofNat 64 (63 - Nat.log2 a.toNat)) = BitVec.ofNat 64 n
    ∧ (∀ k < 64, 64 - n ≤ k → a.getLsbD k = false) ∧ (n < 64 → a.getLsbD (63 - n) = true) := by
  by_cases ha : a = 0
  · exact ⟨64, by simp [ha]⟩
  · have hne : a.toNat ≠ 0 := fun h => ha (BitVec.eq_of_toNat_eq h)
    have hlog : a.toNat.log2 < 64 := (Nat.log2_lt hne).mpr a.isLt
    refine ⟨63 - a.toNat.log2, by omega, if_neg ha, fun k _ hk => ?_, fun _ => ?_⟩
    · exact testBit_of_log2_lt (by omega)
    · have hk : 63 - (63 - a.toNat.log2) = a.toNat.log2 := by omega
      rw [hk]
      exact testBit_log2_self hne

/-! ### The statements -/

/-- Settles O2: every slot is `ran_sTwo` of its own function of the two sources. -/
theorem scalarTwoSources : Obligations.ScalarTwoSources := by
  intro s x f hrsv hmay y a b
  have hslt : a.slt b = decide (a.toInt < b.toInt) := rfl
  have hult : a.ult b = decide (a.toNat < b.toNat) := rfl
  refine ⟨ran_sTwo hrsv hmay rfl rfl rfl, ran_sTwo hrsv hmay rfl rfl rfl, ran_sTwo hrsv hmay rfl rfl rfl, ran_sTwo hrsv hmay rfl rfl rfl,
    ran_sTwo hrsv hmay rfl rfl rfl, ran_sTwo hrsv hmay rfl rfl rfl, ran_sTwo hrsv hmay rfl rfl rfl, ran_sTwo hrsv hmay rfl rfl rfl,
    ran_sTwo hrsv hmay rfl rfl rfl, ran_sTwo hrsv hmay rfl rfl rfl, ran_sTwo hrsv hmay rfl rfl rfl,
    ran_sTwo hrsv hmay rfl rfl (bit01_eq_ite (a.toInt < b.toInt)), ran_sTwo hrsv hmay rfl rfl (bit01_eq_ite (a.toNat < b.toNat)),
    ran_sTwo hrsv hmay rfl rfl (bit01_eq_ite (a = b)), ran_sTwo hrsv hmay rfl rfl ?_, ran_sTwo hrsv hmay rfl rfl ?_,
    ran_sTwo hrsv hmay rfl rfl ?_, ran_sTwo hrsv hmay rfl rfl ?_⟩
  · show (if a.slt b then a else b) = _
    simp only [hslt, decide_eq_true_eq]
  · show (if a.slt b then b else a) = _
    simp only [hslt, decide_eq_true_eq]
  · show (if a.ult b then a else b) = _
    simp only [hult, decide_eq_true_eq]
  · show (if a.ult b then b else a) = _
    simp only [hult, decide_eq_true_eq]

/-- Settles O3: `ran_sOne` with the value that each slot names. -/
theorem scalarOneSource : Obligations.ScalarOneSource := by
  intro s x f hrsv y a imm
  refine ⟨fun hmay => ⟨ran_sOne hrsv hmay rfl rfl rfl, ran_sOne hrsv hmay rfl rfl rfl, ran_sOne hrsv hmay rfl rfl ?_,
    ran_sOne hrsv hmay rfl rfl ?_, ran_sOne hrsv hmay rfl rfl ?_, ran_sOne hrsv hmay rfl rfl (lui_eq f.imm a),
    ran_sOne hrsv hmay rfl rfl ?_, ?_, ran_sOne hrsv hmay rfl rfl ?_⟩, fun hmay => ran_sWrite hrsv hmay rfl rfl rfl, fun hmay => ?_⟩
  · exact congrArg (a <<< ·) (shiftCount_eq f)
  · exact congrArg (a >>> ·) (shiftCount_eq f)
  · exact congrArg a.sshiftRight (shiftCount_eq f)
  · exact congrArg (BitVec.ofNat 64) (popNat_eq_length_filter 64 a.toNat)
  · obtain ⟨n, hn, hv, hzero, hone⟩ := clz_counts a
    exact ⟨n, hn, ran_sOne hrsv hmay rfl rfl hv, hzero, hone⟩
  · have hwidth : bf f.imm 11 6 = f.imm.toNat / 64 % 64 := by simp [bf_eq_div_mod]
    show BitVec.ofNat 64 ((a.toNat >>> bf f.imm 5 0) % 2 ^ (bf f.imm 11 6 + 1)) = _
    rw [shiftCount_eq, hwidth, Nat.shiftRight_eq_div_pow]
  · have hreg : bf f.imm 2 0 = f.imm.toNat % 8 := by simp [bf_eq_div_mod]
    refine ran_sWrite hrsv (srcs := [.p (f.imm.toNat % 8)]) hmay rfl (congrArg some ?_) rfl
    show sWrite f [.p (bf f.imm 2 0)] (BitVec.ofNat 64 (popNat 512 (y.preg (bf f.imm 2 0)).toNat)) = _
    rw [hreg, popNat_eq_length_filter]
    rfl

end Sys2Proof.Machine
end

section
/-! PROOFS. Vector slots (R178 to R180, R213 to R218): the lanes of a register, what a slot that updates its own thread leaves, and the
lane-wise slots over integers, floats, bits and predicates. -/

namespace Sys2Proof.Machine

/-! ### Lanes (R178) -/

theorem packLanes_lt (w : Nat) (l : List Nat) : packLanes w l < 2 ^ (w * l.length) := by
  induction l with
  | nil => simp [packLanes]
  | cons a l ih =>
    have ha : a % 2 ^ w < 2 ^ w := Nat.mod_lt _ (Nat.two_pow_pos w)
    have hmul : 2 ^ w * (packLanes w l + 1) ≤ 2 ^ w * 2 ^ (w * l.length) := Nat.mul_le_mul_left _ ih
    rw [packLanes, List.length_cons, Nat.mul_succ, Nat.add_comm (w * _), Nat.pow_add]
    rw [Nat.mul_add] at hmul
    omega

/-- A lane of packed lanes; beyond the list every lane is zero. -/
theorem packLanes_div_mod (w : Nat) (l : List Nat) (k : Nat) : packLanes w l / 2 ^ (w * k) % 2 ^ w = l.getD k 0 % 2 ^ w := by
  induction l generalizing k with
  | nil => simp [packLanes]
  | cons a l ih =>
    cases k with
    | zero => simp [packLanes]
    | succ k =>
      have hdiv : packLanes w (a :: l) / 2 ^ w = packLanes w l := by
        rw [packLanes, Nat.add_mul_div_left _ _ (Nat.two_pow_pos w), Nat.div_eq_of_lt (Nat.mod_lt _ (Nat.two_pow_pos w)), Nat.zero_add]
      rw [Nat.mul_succ, Nat.add_comm (w * k), Nat.pow_add, ← Nat.div_div_eq_div_mul, hdiv, ih, List.getD_cons_succ]

theorem lane_packLanes {w : Nat} {l : List Nat} (h : w * l.length ≤ 4096) (k : Nat) :
    lane (BitVec.ofNat 4096 (packLanes w l)) w k = l.getD k 0 % 2 ^ w := by
  have hlt := Nat.lt_of_lt_of_le (packLanes_lt w l) (Nat.pow_le_pow_right Nat.two_pos h)
  rw [lane, BitVec.toNat_ofNat, Nat.mod_eq_of_lt hlt, packLanes_div_mod]

theorem getD_map_range (L k : Nat) (g : Nat → Nat) : ((List.range L).map g).getD k 0 = if k < L then g k else 0 := by
  by_cases h : k < L <;> simp [List.getD, h]

theorem lane_vecOf {w L : Nat} (h : w * L ≤ 4096) (g : Nat → Nat) (k : Nat) :
    lane (vecOf w L g) w k = if k < L then g k % 2 ^ w else 0 := by
  rw [vecOf, lane_packLanes (by simpa using h), getD_map_range]
  split
  · rfl
  · exact Nat.zero_mod _

theorem lane_lt (v : Vec) (w k : Nat) : lane v w k < 2 ^ w := Nat.mod_lt _ (Nat.two_pow_pos w)

@[simp] theorem lane_mod (v : Vec) (w k : Nat) : lane v w k % 2 ^ w = lane v w k := Nat.mod_eq_of_lt (lane_lt v w k)

/-- The lanes of an element type fill a register. -/
theorem tyW_mul_tyLanes (t : Nat) : tyW t * tyLanes t = 4096 := by
  have h : tyW t = 8 ∨ tyW t = 16 ∨ tyW t = 32 ∨ tyW t = 64 := by unfold tyW; split_ifs <;> simp
  rcases h with h | h | h | h <;> simp [tyLanes, h]

/-! ### A slot that updates its own thread -/

/-- The action of a slot updates its own thread by `g`, and may draw free values. -/
def ActsOn (act : State → State) (c t : Nat) (g : Thread → Thread) : Prop :=
  ∀ u, ∃ n, (act u = { u with freeCtr := n } ∧ g (u.thr c t) = u.thr c t) ∨ act u = { u.setThr c t (g (u.thr c t)) with freeCtr := n }

/-- No action. -/
theorem actsOn_id (c t : Nat) : ActsOn (fun u => u) c t id := fun u => ⟨u.freeCtr, .inl ⟨rfl, rfl⟩⟩

/-- Drawing a free value after the update. -/
theorem ActsOn.bump {act : State → State} {c t : Nat} {g : Thread → Thread} (h : ActsOn act c t g) :
    ActsOn (fun u => (act u).bump) c t g := by
  intro u
  obtain ⟨n, ⟨he, hg⟩ | he⟩ := h u
  · exact ⟨n + 1, .inl ⟨congrArg State.bump he, hg⟩⟩
  · exact ⟨n + 1, .inr (congrArg State.bump he)⟩

/-- A slot of the S, V or M unit with no cause writes its registers, moves the pc, and updates its thread as it acts. -/
theorem ran_of_acts {i : Instr} {s : State} {x : Issue} {o : SlotOut} {g : Thread → Thread} {regs : List RegRef} {y : Thread}
    (ho : slotOut i s x.core x.thread = some o) (he : exec i s = slotStep s x i) (hmay : s.mayIssue x regs) (hk : o.kind ≠ 3)
    (hc : o.cause = none) (hr : o.ready = true) (hl : o.load = none) (hend : o.ends = false) (hregs : o.srcs ++ o.dsts ⊆ regs)
    (hact : ActsOn o.act x.core x.thread g) (hy : g ((s.thr x.core x.thread).afterSlot o.writes o.target) = y) : Ran i s x y := by
  have ⟨_, hst, hbundle, _, _⟩ := hmay
  refine ran_of_slot i s x o regs y he hmay ho (ne_cFence_of_kind ho hk) (.inr hk) hc hr (fun r h => hregs h) (by simp [hl]) hend
    fun u hthr hu => ?_
  rw [SlotOut.thread_eq_afterSlot hl hbundle] at hu hthr
  obtain ⟨n, ⟨hn, hg⟩ | hn⟩ := hact u
  · have hu' : u = { (s.marked x.core).setThr x.core x.thread y with cnt := u.cnt } := by
      rw [← hy, ← hthr, hg, hthr]; exact hu
    rw [hn]
    exact congrArg (fun q : State => { q with freeCtr := n }) hu'
  · have hset := State.setThr_afterSlot hst hu g
    rw [hy] at hset
    rw [hn]
    exact congrArg (fun q : State => { q with freeCtr := n }) hset

/-! ### Checks (R206, R214, R226) -/

theorem or_eq_of_le_one {n : Nat} (h : n < 2) : n ||| 1 = 1 := by
  obtain rfl | rfl : n = 0 ∨ n = 1 := by omega
  all_goals rfl

/-- A value below 2^b has no bit outside the mask of its b low bits. -/
theorem or_mask_of_lt {n b : Nat} (h : n < 2 ^ b) : n ||| (2 ^ b - 1) = 2 ^ b - 1 := by
  apply Nat.eq_of_testBit_eq
  intro k
  rw [Nat.testBit_or, Nat.testBit_two_pow_sub_one]
  by_cases hk : k < b
  · simp [hk]
  · have : n.testBit k = false := Nat.testBit_lt_two_pow (Nat.lt_of_lt_of_le h (Nat.pow_le_pow_right (by decide) (Nat.le_of_not_lt hk)))
    simp [hk, this]

section Check
variable {f : VF} {y : Thread} {fr : Bool} {mask : Nat} {okType noStrict : Bool}

/-- The common check passes: no reserved bit, a type of the column, no IMM bit outside the mask, and strict mode where W64 needs it. -/
theorem VC.check_none (hrsv : f.rsv = 0) (ht : f.type.toNat < 12) (him : f.imm.toNat ||| mask = mask) (hok : okType = true)
    (hst : f.type.toNat = 10 → f.strict = true) (hns : noStrict = true → f.strict = false) :
    (mkVC f y fr).check mask okType noStrict = none := by
  have h1 : (decide (f.rsv ≠ 0) || decide (12 ≤ f.type.toNat) || decide (f.imm.toNat ||| mask ≠ mask)) = false := by
    simp [hrsv, him, Nat.not_le.mpr ht]
  have h2 : (!okType || (decide (f.type.toNat = 10) && !f.strict)) = false := by
    by_cases h : f.type.toNat = 10
    · simp [hok, hst h]
    · simp [hok, h]
  have h3 : (noStrict && f.strict) = false := by
    cases hn : noStrict with
    | false => rfl
    | true => exact hns hn
  show (if (decide (f.rsv ≠ 0) || decide (12 ≤ f.type.toNat) || decide (f.imm.toNat ||| mask ≠ mask)) = true then some cBundle
    else if (!okType || (decide (f.type.toNat = 10) && !f.strict)) = true then some cFormat
    else if (noStrict && f.strict) = true then some cMode else none) = none
  rw [h1, h2, h3]
  rfl

end Check

/-! ### Slots that write one vector register -/

/-- The flags of a vector slot go into its thread. -/
theorem actsOn_flags (x : Issue) (flags : Nat) :
    ActsOn (fun u => if flags = 0 then u else u.setThr x.core x.thread
        { u.thr x.core x.thread with flags := (u.thr x.core x.thread).flags ||| BitVec.ofNat 5 flags })
      x.core x.thread (fun y => { y with flags := y.flags ||| BitVec.ofNat 5 flags }) := by
  intro u
  refine ⟨u.freeCtr, ?_⟩
  by_cases h : flags = 0
  · subst h
    have hor : (u.thr x.core x.thread).flags ||| BitVec.ofNat 5 0 = (u.thr x.core x.thread).flags := BitVec.or_zero
    refine .inl ⟨if_pos rfl, ?_⟩
    show { u.thr x.core x.thread with flags := (u.thr x.core x.thread).flags ||| BitVec.ofNat 5 0 } = u.thr x.core x.thread
    rw [hor]
  · exact .inr (if_neg h)

section Vector
variable {i : Instr} {s : State} {x : Issue} {f : VF} {fr : Bool} {regs srcs : List RegRef}
  (he : exec i s = slotStep s x i) (hmay : s.mayIssue x regs)
include he hmay

/-- A slot that writes one vector register with flags, and may draw a free value. -/
theorem ran_vOut {c : VC} {v : Vec} {flags : Nat} {act : State → State}
    (ho : slotOut i s x.core x.thread = some { vOut c (x.core, x.thread) srcs v flags with act })
    (hregs : .v c.vd :: srcs ⊆ regs) (hact : act = (vOut c (x.core, x.thread) srcs v flags).act ∨
      act = fun u => ((vOut c (x.core, x.thread) srcs v flags).act u).bump) :
    Ran i s x ((s.thr x.core x.thread).afterV c.vd v flags) := by
  have hsub : srcs ++ [.v c.vd] ⊆ regs := fun r h => hregs (by simpa [or_comm] using h)
  have hacts : ActsOn act x.core x.thread (fun y => { y with flags := y.flags ||| BitVec.ofNat 5 flags }) := by
    rcases hact with rfl | rfl
    · exact actsOn_flags x flags
    · exact (actsOn_flags x flags).bump
  exact ran_of_acts ho he hmay (by decide : (1 : Nat) ≠ 3) rfl rfl rfl rfl hsub hacts rfl

omit he hmay in
/-- The flags of a lane-wise result are those of its enabled lanes. -/
theorem vLanes_flags (c : VC) (g : Nat → Nat × Nat) : (vLanes c g).2 = c.allFlags (fun k => (g k).2) := by
  refine List.foldl_map.trans ?_
  refine congrArg (fun h => List.foldl h 0 (List.range c.L)) ?_
  funext a k
  cases c.en k <;> rfl

omit he hmay in
theorem lane_vLanes (g : Nat → Nat × Nat) {k : Nat} (y : Thread) (hk : k < tyLanes f.type.toNat) :
    lane (vLanes (mkVC f y fr) g).1 (tyW f.type.toNat) k =
      if (mkVC f y fr).en k then (g k).1 % 2 ^ tyW f.type.toNat else (mkVC f y fr).old k := by
  have hlen : tyW f.type.toNat * ((List.range (tyLanes f.type.toNat)).map
      (fun i => if (mkVC f y fr).en i then g i else ((mkVC f y fr).old i, 0)) |>.map (·.1)).length ≤ 4096 := by
    simp [tyW_mul_tyLanes]
  refine (lane_packLanes hlen k).trans ?_
  rw [List.map_map, getD_map_range, if_pos hk]
  simp only [Function.comp]
  split
  · rfl
  · exact lane_mod _ _ _

omit he hmay in
theorem VC.allFlags_congr {c : VC} {g g' : Nat → Nat} (h : ∀ k < c.L, c.en k = true → g' k = g k) : c.allFlags g' = c.allFlags g := by
  unfold VC.allFlags
  refine List.foldl_ext _ _ _ fun a k hk => ?_
  cases he : c.en k with
  | false => rfl
  | true => simp [h k (List.mem_range.mp hk) he]

/-- A lane-wise slot whose check passes: its enabled lanes hold `g`, up to their width, and raise its flags. -/
theorem lanesRan_of_vMap {g g' : Nat → Nat × Nat} {act : State → State} {chk : Option Nat}
    (ho : slotOut i s x.core x.thread = some { vMap (mkVC f (s.thr x.core x.thread) fr) (x.core, x.thread) chk srcs g' with act })
    (hchk : chk = none) (hact : act = (vMap (mkVC f (s.thr x.core x.thread) fr) (x.core, x.thread) chk srcs g').act ∨
      act = fun u => ((vMap (mkVC f (s.thr x.core x.thread) fr) (x.core, x.thread) chk srcs g').act u).bump)
    (hregs : .v (s.vc x f).vd :: srcs ++ (s.vc x f).psrc ⊆ regs)
    (hg : ∀ k < (s.vc x f).L, (s.vc x f).en k = true →
      (g' k).1 % 2 ^ (s.vc x f).w = (g k).1 % 2 ^ (s.vc x f).w ∧ (g' k).2 = (g k).2) : LanesRan i s x (s.vc x f) g := by
  subst hchk
  refine ⟨(vLanes (mkVC f (s.thr x.core x.thread) fr) g').1, fun k hk => ?_, ?_⟩
  · refine (lane_vLanes g' _ hk).trans ?_
    cases hen : (mkVC f (s.thr x.core x.thread) fr).en k with
    | false => exact (if_neg (ne_true_of_eq_false hen)).symm ▸ rfl
    | true => exact (hg k hk hen).1.trans (if_pos hen).symm
  · have hfl : (vLanes (mkVC f (s.thr x.core x.thread) fr) g').2 = (s.vc x f).allFlags (fun k => (g k).2) :=
      (vLanes_flags _ g').trans (VC.allFlags_congr (c := s.vc x f) fun k hk hen => (hg k hk hen).2)
    rw [← hfl]
    exact ran_vOut he hmay ho (fun r hr => hregs (by simp only [List.mem_cons, List.cons_append] at hr ⊢; exact hr.elim .inl id)) hact

theorem lanesRan_vMap {g g' : Nat → Nat × Nat} {chk : Option Nat}
    (ho : slotOut i s x.core x.thread = some (vMap (mkVC f (s.thr x.core x.thread) fr) (x.core, x.thread) chk srcs g'))
    (hchk : chk = none) (hregs : .v (s.vc x f).vd :: srcs ++ (s.vc x f).psrc ⊆ regs)
    (hg : ∀ k < (s.vc x f).L, (s.vc x f).en k = true →
      (g' k).1 % 2 ^ (s.vc x f).w = (g k).1 % 2 ^ (s.vc x f).w ∧ (g' k).2 = (g k).2) : LanesRan i s x (s.vc x f) g :=
  lanesRan_of_vMap he hmay ho hchk (.inl rfl) hregs hg

end Vector

end Sys2Proof.Machine
end

section
/-! PROOFS. Lane-wise vector slots over integers, floats and bits, comparisons and predicate logic (R217, R218, R225 to R229). -/

namespace Sys2Proof.Machine

/-- Saturation holds at the type's limits (R217). -/
theorem VC.clamp_eq {f : VF} (hty : f.type.toNat ≤ 7) {fr : Bool} (y : Thread) (v : Int) :
    let c := mkVC f y fr
    let lo : Int := if f.type.toNat % 2 = 0 then -(2 ^ (c.w - 1) : Int) else 0
    let hi : Int := if f.type.toNat % 2 = 0 then (2 ^ (c.w - 1) : Int) - 1 else (2 ^ c.w : Int) - 1
    c.clamp v = wrap c.w (if v < lo then lo else if hi < v then hi else v) := by
  intro c lo hi
  have hsigned : tySigned c.ty = decide (f.type.toNat % 2 = 0) := by simp [c, mkVC, tySigned, hty]
  simp only [VC.clamp, hsigned, decide_eq_true_eq, Nat.cast_pow, Nat.cast_ofNat]
  rfl

section Lanewise
variable {i : Instr} {s : State} {x : Issue} {f : VF} (hrsv : f.rsv = 0) (he : exec i s = slotStep s x i)
include hrsv he

/-! ### Integers -/

section Integer
variable (hty : f.type.toNat ≤ 7)
include hty

/-- A two-operand slot over integers wraps its function of the two elements. -/
theorem lanesRan_vBin_int (him : f.imm.toNat < 2) (hmay : s.mayIssue x (s.vc x f).regs2) {gi : Int → Int → Int} {gf : VC → Nat → Nat → Nat × Nat}
    (ho : slotOut i s x.core x.thread = some (vBin f (s.thr x.core x.thread) (x.core, x.thread) (fun _ => gi) gf)) :
    let c := s.vc x f
    LanesRan i s x c (fun k => (wrap c.w (gi (c.int (c.a k)) (c.int (c.b k))), 0)) := by
  have hint : tyInt f.type.toNat = true := decide_eq_true hty
  refine lanesRan_vMap he hmay ho (VC.check_none hrsv (by omega) (or_eq_of_le_one him) (by simp [intOrFloat, mkVC, hint]) (by omega) nofun)
    (List.Subset.refl _) fun k _ _ => ?_
  have hg (p q : Nat × Nat) : (if tyInt (mkVC f (s.thr x.core x.thread)).ty then p else q) = p := if_pos hint
  exact hg .. ▸ ⟨rfl, rfl⟩

/-- An integer-only two-operand slot. -/
theorem lanesRan_vInt (him : f.imm.toNat < 2) (hmay : s.mayIssue x (s.vc x f).regs2) {g : VC → Nat → Nat → Nat} {g' : Nat → Nat × Nat}
    (ho : slotOut i s x.core x.thread = some (vInt f (s.thr x.core x.thread) (x.core, x.thread) g))
    (hg : ∀ k, let c := mkVC f (s.thr x.core x.thread)
      g c (c.a k) (c.b k) % 2 ^ c.w = (g' k).1 % 2 ^ c.w ∧ 0 = (g' k).2) : LanesRan i s x (s.vc x f) g' :=
  lanesRan_vMap he hmay ho (VC.check_none hrsv (by omega) (or_eq_of_le_one him) (decide_eq_true hty) (by omega) nofun)
    (List.Subset.refl _) fun k _ _ => hg k

/-- V.FMA and V.FMS over integers. -/
theorem lanesRan_vFused_int (him : f.imm.toNat < 2) (hmay : s.mayIssue x (.v (s.vc x f).vc :: (s.vc x f).regs2)) {sub : Bool}
    (ho : slotOut i s x.core x.thread = some (vFused f s (s.thr x.core x.thread) (x.core, x.thread) sub)) :
    let c := s.vc x f
    LanesRan i s x c (fun k => (wrap c.w (c.int (c.a k) * c.int (c.b k) + (if sub then -(c.int (c.c k)) else c.int (c.c k))), 0)) := by
  have hint : tyInt f.type.toNat = true := decide_eq_true hty
  have hfloat : tyFloat f.type.toNat = false := by
    simp only [tyFloat, Bool.or_eq_false_iff, decide_eq_false_iff_not]; omega
  have hout (p q : SlotOut) (b : Bool) : (if (tyFloat f.type.toNat && b) = true then p else q) = q := by simp [hfloat]
  refine lanesRan_vMap he hmay (ho.trans (congrArg some (hout _ _ _)))
    (VC.check_none hrsv (by omega) (or_eq_of_le_one him) (by simp [intOrFloat, mkVC, hint]) (by omega) nofun) ?_ fun k _ _ => ?_
  · exact (List.Perm.swap _ _ _).subset
  · have hg (p q : Nat × Nat) : (if tyInt (mkVC f (s.thr x.core x.thread) ((s.free 0).getLsbD 0)).ty then p else q) = p := if_pos hint
    exact hg .. ▸ ⟨rfl, rfl⟩

/-- V.ABS and V.NEG over integers. -/
theorem lanesRan_vUn_int (him : f.imm = 0) (hmay : s.mayIssue x (s.vc x f).regs1) {gi : Int → Int} {gf : Val → Val}
    (ho : slotOut i s x.core x.thread = some (vUn f (s.thr x.core x.thread) (x.core, x.thread) gi gf)) :
    let c := s.vc x f
    LanesRan i s x c (fun k => (wrap c.w (gi (c.int (c.a k))), 0)) := by
  have hint : tyInt f.type.toNat = true := decide_eq_true hty
  refine lanesRan_vMap he hmay ho (VC.check_none hrsv (by omega) (by simp [him]) (by simp [intOrFloat, mkVC, hint]) (by omega) nofun)
    (List.Subset.refl _) fun k _ _ => ?_
  have hg (p q : Nat × Nat) : (if tyInt (mkVC f (s.thr x.core x.thread)).ty then p else q) = p := if_pos hint
  exact hg .. ▸ ⟨rfl, rfl⟩

end Integer

end Lanewise

/-- Settles O5. -/
theorem vectorInteger : Obligations.VectorInteger := by
  intro s x f hrsv hty c lo hi clamp
  refine ⟨fun him hmay => ⟨?_, ?_, ?_, ?_, ?_, ?_, ?_, ?_, ?_, ?_, ?_⟩, fun him hmay => ⟨?_, ?_⟩, fun him hmay => ⟨?_, ?_⟩⟩
  · exact lanesRan_vBin_int (i := .vAdd x f) hrsv rfl hty him hmay rfl
  · exact lanesRan_vBin_int (i := .vSub x f) hrsv rfl hty him hmay rfl
  · exact lanesRan_vBin_int (i := .vMul x f) hrsv rfl hty him hmay rfl
  · refine lanesRan_vInt (i := .vMulh x f) hrsv rfl hty him hmay rfl fun k => ⟨?_, rfl⟩
    simp only [Nat.cast_pow, Nat.cast_ofNat]
    rfl
  · exact lanesRan_vInt (i := .vAdds x f) hrsv rfl hty him hmay rfl fun k => ⟨congrArg (· % 2 ^ c.w) (VC.clamp_eq hty _ _), rfl⟩
  · exact lanesRan_vInt (i := .vSubs x f) hrsv rfl hty him hmay rfl fun k => ⟨congrArg (· % 2 ^ c.w) (VC.clamp_eq hty _ _), rfl⟩
  · exact lanesRan_vBin_int (i := .vMax x f) hrsv rfl hty him hmay rfl
  · exact lanesRan_vBin_int (i := .vMin x f) hrsv rfl hty him hmay rfl
  · exact lanesRan_vInt (i := .vShl x f) hrsv rfl hty him hmay rfl fun k => ⟨Nat.mod_mod _ _, rfl⟩
  · exact lanesRan_vInt (i := .vShr x f) hrsv rfl hty him hmay rfl fun k => ⟨rfl, rfl⟩
  · refine lanesRan_vInt (i := .vSar x f) hrsv rfl hty him hmay rfl fun k => ⟨?_, rfl⟩
    simp only [Nat.cast_pow, Nat.cast_ofNat]
    rfl
  · exact lanesRan_vFused_int (i := .vFma x f) hrsv rfl hty him hmay rfl
  · exact lanesRan_vFused_int (i := .vFms x f) hrsv rfl hty him hmay rfl
  · exact lanesRan_vUn_int (i := .vAbs x f) hrsv rfl hty him hmay rfl
  · exact lanesRan_vUn_int (i := .vNeg x f) hrsv rfl hty him hmay rfl

/-! ### Floats -/

/-- A float type that the slot may name: W64 in strict mode only (R93). -/
def OkFloat (f : VF) : Prop := f.type.toNat = 8 ∨ f.type.toNat = 9 ∨ f.type.toNat = 10 ∧ f.strict = true

theorem OkFloat.tyFloat {f : VF} (h : OkFloat f) : tyFloat f.type.toNat = true := by
  rcases h with h | h | ⟨h, -⟩ <;> simp [Machine.tyFloat, h]

theorem OkFloat.tyInt {f : VF} (h : OkFloat f) : tyInt f.type.toNat = false := by
  rcases h with h | h | ⟨h, -⟩ <;> simp [Machine.tyInt, h]

theorem OkFloat.lt {f : VF} (h : OkFloat f) : f.type.toNat < 12 := by
  rcases h with h | h | ⟨h, -⟩ <;> omega

/-- W64 is named in strict mode only. -/
theorem OkFloat.strict {f : VF} (h : OkFloat f) (h10 : f.type.toNat = 10) : f.strict = true := by
  rcases h with h | h | ⟨-, h⟩
  · omega
  · omega
  · exact h

/-- The common check of a float slot passes. -/
theorem OkFloat.check {f : VF} (h : OkFloat f) (hrsv : f.rsv = 0) {mask : Nat} (him : f.imm.toNat ||| mask = mask) {y : Thread} {fr ok : Bool}
    (hok : Machine.tyFloat f.type.toNat = true → ok = true) : (mkVC f y fr).check mask ok = none := by
  exact VC.check_none hrsv h.lt him (hok h.tyFloat) h.strict nofun

section Float
variable {i : Instr} {s : State} {x : Issue} {f : VF} (hrsv : f.rsv = 0) (he : exec i s = slotStep s x i) (hty : OkFloat f)
  {g : Nat → Nat × Nat}
include hrsv he hty

/-- A float-only slot. -/
theorem lanesRan_vMap_float {fr : Bool} {mask : Nat} {regs srcs : List RegRef} {ok : Bool} {g' : Nat → Nat × Nat}
    (him : f.imm.toNat ||| mask = mask) (hmay : s.mayIssue x regs) (hok : tyFloat f.type.toNat = true → ok = true)
    (ho : slotOut i s x.core x.thread = some (vMap (mkVC f (s.thr x.core x.thread) fr) (x.core, x.thread)
      ((mkVC f (s.thr x.core x.thread) fr).check mask ok) srcs g'))
    (hregs : .v (s.vc x f).vd :: srcs ++ (s.vc x f).psrc ⊆ regs) (hg : ∀ k, g' k = g k) : LanesRan i s x (s.vc x f) g :=
  lanesRan_vMap he hmay ho (hty.check hrsv him hok) hregs fun k _ _ => by rw [hg k]; exact ⟨rfl, rfl⟩

/-- A two-operand slot over floats. -/
theorem lanesRan_vBin_float (him : f.imm.toNat < 2) (hmay : s.mayIssue x (s.vc x f).regs2) {gi : VC → Int → Int → Int}
    {gf : VC → Nat → Nat → Nat × Nat}
    (ho : slotOut i s x.core x.thread = some (vBin f (s.thr x.core x.thread) (x.core, x.thread) gi gf))
    (hg : ∀ k, let c := mkVC f (s.thr x.core x.thread); gf c (c.a k) (c.b k) = g k) : LanesRan i s x (s.vc x f) g :=
  lanesRan_vMap_float hrsv he hty (or_eq_of_le_one him) hmay (fun h => by simp [intOrFloat, mkVC, h]) ho (List.Subset.refl _)
    fun k => (if_neg (ne_true_of_eq_false hty.tyInt)).trans (hg k)

/-- V.FMA and V.FMS over floats; with the NV flag of a lane open, the slot also draws a free value (notes/assumptions/23.md). -/
theorem lanesRan_vFused_float (him : f.imm.toNat < 2) (hmay : s.mayIssue x (.v (s.vc x f).vc :: (s.vc x f).regs2)) {sub : Bool}
    (ho : slotOut i s x.core x.thread = some (vFused f s (s.thr x.core x.thread) (x.core, x.thread) sub)) :
    let c := s.vc x f
    LanesRan i s x c (fun k => c.ffma sub (c.a k) (c.b k) (c.c k)) := by
  have hchk : (s.vc x f).check 1 (intOrFloat f.type.toNat) = none :=
    hty.check hrsv (or_eq_of_le_one him) (fun h => by simp [intOrFloat, h])
  unfold vFused at ho
  extract_lets c o at ho
  have hg (p q : Nat × Nat) : (if tyInt c.ty = true then p else q) = q := if_neg (ne_true_of_eq_false hty.tyInt)
  split at ho
  · exact lanesRan_of_vMap he hmay ho hchk (.inr rfl) (List.Perm.swap _ _ _).subset fun k _ _ => by rw [hg]; exact ⟨rfl, rfl⟩
  · exact lanesRan_vMap he hmay ho hchk (List.Perm.swap _ _ _).subset fun k _ _ => by rw [hg]; exact ⟨rfl, rfl⟩

/-- V.ABS and V.NEG over floats: W64 is always strict, the others follow fast mode (notes/assumptions/22.md). -/
theorem lanesRan_vUn_float (him : f.imm = 0) (hmay : s.mayIssue x (s.vc x f).regs1) {gi : Int → Int} {gf : Val → Val}
    (ho : slotOut i s x.core x.thread = some (vUn f (s.thr x.core x.thread) (x.core, x.thread) gi gf)) :
    let c := s.vc x f
    LanesRan i s x c (fun k => if f.type.toNat = 10 then ((encWide c.fmt c.strict c.rm (gf (c.val (c.a k)))).1, (c.enc (gf (c.val (c.a k))) (c.sn [c.a k])).2)
      else (encFast c.fmt (gf (wideVal c.fmt true (c.a k))), 0)) :=
  lanesRan_vMap_float hrsv he hty (by simp [him]) hmay (fun h => by simp [intOrFloat, mkVC, h]) ho (List.Subset.refl _)
    fun k => if_neg (ne_true_of_eq_false hty.tyInt)

end Float

/-- Settles O6. -/
theorem vectorFloat : Obligations.VectorFloat := by
  intro s x f hrsv hty c a b d round
  refine ⟨fun him hmay => ⟨?_, ?_, ?_, ?_, ?_, ?_, ?_⟩, fun him hmay => ⟨?_, ?_⟩, fun him hmay => ⟨?_, ?_, ?_, fun h10 hst => ⟨?_, ?_⟩⟩⟩
  · exact lanesRan_vBin_float (i := .vAdd x f) hrsv rfl hty him hmay rfl fun k => rfl
  · exact lanesRan_vBin_float (i := .vSub x f) hrsv rfl hty him hmay rfl fun k => rfl
  · exact lanesRan_vBin_float (i := .vMul x f) hrsv rfl hty him hmay rfl fun k => rfl
  · exact lanesRan_vMap_float (i := .vDiv x f) hrsv rfl hty (or_eq_of_le_one him) hmay id rfl (List.Subset.refl _) fun k => rfl
  · exact lanesRan_vBin_float (i := .vMax x f) hrsv rfl hty him hmay rfl fun k => rfl
  · exact lanesRan_vBin_float (i := .vMin x f) hrsv rfl hty him hmay rfl fun k => rfl
  · refine lanesRan_vMap_float (i := .vLdexp x f) hrsv rfl hty (or_eq_of_le_one him) hmay id rfl (List.Subset.refl _) fun k => ?_
    have hcut (v : Int) : (if v < -100000 then -100000 else if 100000 < v then 100000 else v) = max (-100000) (min 100000 v) := by omega
    exact congrArg (fun v => c.enc ((a k).scale v) (c.sn [c.a k])) (hcut _)
  · exact lanesRan_vFused_float (i := .vFma x f) hrsv rfl hty him hmay rfl
  · exact lanesRan_vFused_float (i := .vFms x f) hrsv rfl hty him hmay rfl
  · exact lanesRan_vMap_float (i := .vSqrt x f) hrsv rfl hty (by simp [him]) hmay id rfl (List.Subset.refl _) fun k => rfl
  · exact lanesRan_vUn_float (i := .vAbs x f) hrsv rfl hty him hmay rfl
  · exact lanesRan_vUn_float (i := .vNeg x f) hrsv rfl hty him hmay rfl
  all_goals
    have h89 : f.type.toNat = 8 ∨ f.type.toNat = 9 := hty.imp_right fun h => h.resolve_right fun h => h10 h.1
    have hfast : c.strict = false := by simp [c, State.vc, mkVC, VC.strict, h10, hst]
    have hval (k : Nat) : wideVal c.fmt true (c.a k) = a k := by simp only [a, VC.val, hfast, Bool.not_false]
    have hchk : (mkVC f (s.thr x.core x.thread)).check 0 (decide (f.type.toNat = 8) || decide (f.type.toNat = 9)) true = none :=
      VC.check_none hrsv (by omega) (by simp [him]) (by simpa using h89) (fun h => absurd h h10) (fun _ => hst)
  · exact lanesRan_vMap (i := .vExp2 x f) rfl hmay rfl hchk (List.Subset.refl _)
      fun k _ _ => ⟨congrArg (fun v : Val => encFast c.fmt v.exp2 % 2 ^ c.w) (hval k), rfl⟩
  · exact lanesRan_vMap (i := .vLog2 x f) rfl hmay rfl hchk (List.Subset.refl _)
      fun k _ _ => ⟨congrArg (fun v : Val => encFast c.fmt v.log2 % 2 ^ c.w) (hval k), rfl⟩

end Sys2Proof.Machine
end

section
/-! PROOFS. Vector slots that move bits: logic, selects, broadcasts, lane reads and permutes, comparisons and predicate logic (R105, R213 to
R218). -/

namespace Sys2Proof.Machine

/-- A predicate that packs bits reads as they are; beyond them it is clear. -/
theorem getLsbD_packBits {l : List Bool} (h : l.length ≤ 512) (k : Nat) :
    (BitVec.ofNat 512 (packLanes 1 (l.map (fun b => if b then 1 else 0)))).getLsbD k = l.getD k false := by
  have hlt :=
    Nat.lt_of_lt_of_le (packLanes_lt 1 _) (Nat.pow_le_pow_right Nat.two_pos (by simpa using h : 1 * (l.map (fun b => if b then 1 else 0)).length ≤ 512))
  have hbit : (packLanes 1 (l.map (fun b => if b then 1 else 0))).testBit k = l.getD k false := by
    have hdm := packLanes_div_mod 1 (l.map (fun b => if b then 1 else 0)) k
    simp only [Nat.one_mul, Nat.pow_one] at hdm
    rw [Nat.testBit_eq_decide_div_mod_eq, hdm]
    simp only [List.getD_eq_getElem?_getD, List.getElem?_map]
    cases l[k]? with
    | none => rfl
    | some b => cases b <;> rfl
  rw [BitVec.getLsbD, BitVec.toNat_ofNat, Nat.mod_eq_of_lt hlt, hbit]

section Moves
variable {i : Instr} {s : State} {x : Issue} {f : VF} {regs : List RegRef} (hrsv : f.rsv = 0) (he : exec i s = slotStep s x i)
  (hty : f.type.toNat < 12) (h10 : f.type.toNat = 10 → f.strict = true) {g : Nat → Nat × Nat}
include hrsv he hty h10

/-- A lane-wise slot over any element type. -/
theorem lanesRan_vMap_any {mask : Nat} {srcs : List RegRef} {ok : Bool} {g' : Nat → Nat × Nat} (him : f.imm.toNat ||| mask = mask)
    (hmay : s.mayIssue x regs) (hok : ok = true)
    (ho : slotOut i s x.core x.thread = some (vMap (mkVC f (s.thr x.core x.thread)) (x.core, x.thread)
      ((mkVC f (s.thr x.core x.thread)).check mask ok) srcs g'))
    (hregs : .v (s.vc x f).vd :: srcs ++ (s.vc x f).psrc ⊆ regs)
    (hg : ∀ k, (g' k).1 % 2 ^ (s.vc x f).w = (g k).1 % 2 ^ (s.vc x f).w ∧ (g' k).2 = (g k).2) : LanesRan i s x (s.vc x f) g :=
  lanesRan_vMap he hmay ho (VC.check_none hrsv hty him hok h10 nofun) hregs fun k _ _ => hg k

/-- A bitwise slot with two operands. -/
theorem lanesRan_vBits (him : f.imm.toNat < 2) (hmay : s.mayIssue x (s.vc x f).regs2) {op : Nat → Nat → Nat}
    (ho : slotOut i s x.core x.thread = some (vBits f (s.thr x.core x.thread) (x.core, x.thread) op)) :
    LanesRan i s x (s.vc x f) (fun k => (op ((s.vc x f).a k) ((s.vc x f).b k), 0)) :=
  lanesRan_vMap_any hrsv he hty h10 (or_eq_of_le_one him) hmay (decide_eq_true hty) ho (List.Subset.refl _) fun _ => ⟨rfl, rfl⟩

end Moves

/-- A slot that writes every lane of vd, and no flag. -/
theorem allLanesRan_vecOf {i : Instr} {s : State} {x : Issue} {c c' : VC} {regs srcs : List RegRef} {w L M : Nat} {g g' : Nat → Nat}
    (he : exec i s = slotStep s x i) (hmay : s.mayIssue x regs) (hw : w * L ≤ 4096) (hc : c'.vd = c.vd)
    (ho : slotOut i s x.core x.thread = some (vOut c' (x.core, x.thread) srcs (vecOf w L g'))) (hregs : .v c'.vd :: srcs ⊆ regs)
    (hg : ∀ k < M, g k % 2 ^ w = if k < L then g' k % 2 ^ w else 0) : AllLanesRan i s x c w M 0 g :=
  ⟨_, fun k hk => (lane_vecOf hw g' k).trans (hg k hk).symm, hc ▸ ran_vOut he hmay ho hregs (.inl rfl)⟩

/-- Settles O7. -/
theorem vectorMoves : Obligations.VectorMoves := by
  intro s x f hrsv hty h10 c y
  have any : anyType f.type.toNat = true := decide_eq_true hty
  have zero (him : f.imm = 0) : f.imm.toNat ||| 0 = 0 := by simp [him]
  have index (him : f.imm.toNat < 512) : f.imm.toNat ||| 0x1FF = 0x1FF := or_mask_of_lt (b := 9) him
  refine ⟨fun him hmay => ⟨?_, ?_, ?_⟩, fun him hmay => ⟨?_, ?_⟩, fun him hmay => ⟨?_, fun hpen => ?_⟩, fun hmay => ⟨fun him => ?_, fun him => ?_,
    fun him hint => ?_⟩, fun him hmay => ?_, fun him hmay => ?_⟩
  · exact lanesRan_vBits (i := .vAnd x f) hrsv rfl hty h10 him hmay rfl
  · exact lanesRan_vBits (i := .vOr x f) hrsv rfl hty h10 him hmay rfl
  · exact lanesRan_vBits (i := .vXor x f) hrsv rfl hty h10 him hmay rfl
  · exact lanesRan_vMap_any (i := .vNot x f) hrsv rfl hty h10 (zero him) hmay any rfl (List.Subset.refl _) fun _ => ⟨rfl, rfl⟩
  · exact lanesRan_vMap_any (i := .vMov x f) hrsv rfl hty h10 (zero him) hmay any rfl (List.Subset.refl _) fun _ => ⟨rfl, rfl⟩
  · refine lanesRan_vMap_any (i := .vPerm x f) hrsv rfl hty h10 (zero him) hmay any rfl ?_ fun _ => ⟨rfl, rfl⟩
    intro r hr
    simp only [VC.regs1, VC.srcA, List.mem_cons, List.mem_append, List.not_mem_nil, or_false] at hr ⊢
    tauto
  · have hchk : (mkVC f y).check 0 (anyType f.type.toNat) = none := VC.check_none hrsv hty (zero him) any h10 nofun
    have ho : slotOut (.vSel x f) s x.core x.thread = some (vOut (mkVC f y) (x.core, x.thread) ([.v c.va, .v c.vb] ++ c.psrc)
        (vecOf c.w c.L (fun k => if c.en k then c.a k else lane (y.vreg c.vb) c.w k))) := by
      show some (slotVSel f y (x.core, x.thread)) = _
      have hpass : (if (!f.pen) = true then some cBundle else (mkVC f y).check 0 (anyType (mkVC f y).ty)) = none := by rw [hpen]; exact hchk
      simp only [slotVSel, hpass]
      rfl
    refine allLanesRan_vecOf rfl hmay (tyW_mul_tyLanes _).le rfl ho ?_ fun k hk => (if_pos hk).symm
    intro r hr
    simp only [VC.regs1, VC.srcA, List.mem_cons, List.mem_append, List.not_mem_nil, or_false] at hr ⊢
    tauto
  · exact lanesRan_vMap_any (i := .vBcast x f) hrsv rfl hty h10 (zero him) hmay any rfl (List.Subset.refl _) fun _ => ⟨Nat.mod_mod _ _, rfl⟩
  · refine lanesRan_vMap_any (i := .vSetl x f) hrsv rfl hty h10 (index him) hmay any rfl (List.Subset.refl _) fun k => ⟨?_, rfl⟩
    have himm : (mkVC f y).imm % 512 = f.imm.toNat := Nat.mod_eq_of_lt him
    show (if k = (mkVC f y).imm % 512 then (y.sreg c.ss).toNat % 2 ^ c.w else c.old k) % 2 ^ c.w =
      (if k = f.imm.toNat then (y.sreg c.ss).toNat else c.old k) % 2 ^ c.w
    rw [himm]
    split
    · exact Nat.mod_mod _ _
    · rfl
  · refine lanesRan_vMap_any (i := .vIdx x f) hrsv rfl hty h10 (zero him) hmay (decide_eq_true hint) rfl ?_ fun _ => ⟨Nat.mod_mod _ _, rfl⟩
    exact fun r hr => (List.mem_cons.mp hr).elim (fun h => h ▸ List.mem_cons_self) (fun h => List.mem_cons_of_mem _ (List.mem_cons_of_mem _ h))
  · have hchk : (mkVC f y).check 0x1FF (anyType f.type.toNat) = none := VC.check_none hrsv hty (index him) any h10 nofun
    have himm : (mkVC f y).imm % 512 = f.imm.toNat := Nat.mod_eq_of_lt him
    have hregs : ([.v c.va] ++ [.s c.ss] : List RegRef) ⊆ [.v c.va, .s c.ss] := List.Subset.refl _
    by_cases hin : f.imm.toNat < c.L
    · have ho : slotOut (.vGetl x f) s x.core x.thread = some
          { kind := 1, srcs := [.v c.va], dsts := [.s c.ss], writes := [.s c.ss (BitVec.ofNat 64 (c.a f.imm.toNat))] } := by
        show some (slotVGetl f s y) = _
        simp only [slotVGetl, show (mkVC f y).check 0x1FF (anyType (mkVC f y).ty) = none from hchk, himm]
        exact congrArg some (if_pos hin)
      refine ⟨_, ran_of_acts ho rfl hmay (by decide : (1 : Nat) ≠ 3) rfl rfl rfl rfl hregs (actsOn_id _ _) rfl, fun _ => ?_⟩
      have hlt : c.a f.imm.toNat < 2 ^ 64 := Nat.lt_of_lt_of_le (lane_lt _ _ _)
        (Nat.pow_le_pow_right Nat.two_pos (by show tyW f.type.toNat ≤ 64; unfold tyW; split_ifs <;> omega))
      exact (BitVec.toNat_ofNat _ _).trans (Nat.mod_eq_of_lt hlt)
    · have ho : slotOut (.vGetl x f) s x.core x.thread = some
          { kind := 1, srcs := [.v c.va], dsts := [.s c.ss], writes := [.s c.ss (s.free 1)], act := fun s => s.bump } := by
        show some (slotVGetl f s y) = _
        simp only [slotVGetl, show (mkVC f y).check 0x1FF (anyType (mkVC f y).ty) = none from hchk, himm]
        exact congrArg some (if_neg hin)
      exact ⟨_, ran_of_acts ho rfl hmay (by decide : (1 : Nat) ≠ 3) rfl rfl rfl rfl hregs (actsOn_id _ _).bump rfl, fun h => absurd h hin⟩
  · have hchk : (mkVC f y).check 0 (anyType f.type.toNat) = none := VC.check_none hrsv hty (zero him) any h10 nofun
    have ho : slotOut (.vNop x f) s x.core x.thread = some { kind := 1 } := by
      show some (slotVNop f y) = _
      simp only [slotVNop, show (mkVC f y).check 0 (anyType (mkVC f y).ty) = none from hchk]
    exact ran_of_acts ho rfl hmay (by decide : (1 : Nat) ≠ 3) rfl rfl rfl rfl (List.Subset.refl _) (actsOn_id _ _) rfl

/-! ### Predicates -/

/-- A slot that writes one predicate register with flags. -/
theorem ran_pOut {i : Instr} {s : State} {x : Issue} {regs srcs : List RegRef} {d flags : Nat} {v : Pred} (he : exec i s = slotStep s x i)
    (hmay : s.mayIssue x regs) (ho : slotOut i s x.core x.thread = some (pOut (x.core, x.thread) d srcs v flags))
    (hregs : .p d :: srcs ⊆ regs) : Ran i s x ((s.thr x.core x.thread).afterP d v flags) :=
  ran_of_acts ho he hmay (by decide : (1 : Nat) ≠ 3) rfl rfl rfl rfl (fun r h => hregs (List.mem_append.mp h |>.elim
    (List.mem_cons_of_mem _) (fun h => List.mem_singleton.mp h ▸ List.mem_cons_self))) (actsOn_flags x flags) rfl

/-- The lanes of a comparison: a disabled lane keeps its bit and raises no flag. -/
def VC.compare (c : VC) (o : Pred) (g : Nat → Bool × Nat) : Pred × Nat :=
  let r := (List.range c.L).map (fun k => if c.en k then g k else (o.getLsbD k, 0))
  (BitVec.ofNat 512 (packLanes 1 (r.map (fun y => if y.1 then 1 else 0))), r.foldl (fun a y => a ||| y.2) 0)

theorem tyLanes_le (t : Nat) : tyLanes t ≤ 512 := by
  have h : 8 ≤ tyW t := by unfold tyW; split_ifs <;> omega
  have hmul := tyW_mul_tyLanes t
  nlinarith

theorem VC.getLsbD_compare {c : VC} (hL : c.L ≤ 512) (o : Pred) (g : Nat → Bool × Nat) (k : Nat) :
    (c.compare o g).1.getLsbD k = if k < c.L then (if c.en k then (g k).1 else o.getLsbD k) else false := by
  have hbits : ((List.range c.L).map (fun k => if c.en k then g k else (o.getLsbD k, 0))).map (fun y => if y.1 then 1 else 0) =
      ((List.range c.L).map (fun k => if c.en k then (g k).1 else o.getLsbD k)).map (fun b => if b then 1 else 0) := by
    rw [List.map_map, List.map_map]
    refine List.map_congr_left fun j _ => ?_
    by_cases h : c.en j = true <;> simp [h]
  simp only [VC.compare, hbits]
  rw [getLsbD_packBits (by simpa using hL)]
  by_cases hk : k < c.L <;> simp [hk]

theorem VC.compare_flags (c : VC) (o : Pred) (g : Nat → Bool × Nat) : (c.compare o g).2 = c.allFlags (fun k => (g k).2) := by
  refine List.foldl_map.trans (congrArg (fun h => List.foldl h 0 (List.range c.L)) ?_)
  funext a k
  cases c.en k <;> rfl

theorem VC.allFlags_zero (c : VC) : c.allFlags (fun _ => 0) = 0 :=
  List.foldlRecOn (motive := fun a => a = 0) _ _ rfl fun a ha k _ => by simp [ha]

/-- Elements are equal as integers only when their codes are. -/
theorem VC.int_inj {c : VC} {a b : Nat} (ha : a < 2 ^ c.w) (hb : b < 2 ^ c.w) : c.int a = c.int b ↔ a = b := by
  refine ⟨fun h => ?_, fun h => h ▸ rfl⟩
  unfold VC.int at h
  split at h
  · unfold signed at h
    rw [Nat.mod_eq_of_lt ha, Nat.mod_eq_of_lt hb] at h
    have ha' : (a : Int) < (2 ^ c.w : Nat) := by exact_mod_cast ha
    have hb' : (b : Int) < (2 ^ c.w : Nat) := by exact_mod_cast hb
    split at h <;> split at h <;> omega
  · exact_mod_cast h

/-- V.CMP with its checks passed (R218). -/
theorem ran_vCmp {s : State} {x : Issue} {f : VF} (hrsv : f.rsv = 0) (hvd : f.vd.toNat < 8) (hva : f.va.toNat < 8) (hvb : f.vb.toNat < 8)
    (him : f.imm.toNat < 6) (hty : f.type.toNat < 12) (hok : intOrFloat f.type.toNat = true) (h10 : f.type.toNat = 10 → f.strict = true)
    (hmay : s.mayIssue x (.p (s.vc x f).vd :: .v (s.vc x f).va :: .v (s.vc x f).vb :: (s.vc x f).psrc))
    {g : Nat → Bool × Nat} (hg : ∀ k, let c := s.vc x f
      let e := lane ((s.thr x.core x.thread).vreg c.vb) c.w k
      (if tyInt c.ty then (intCmp f.imm.toNat (c.int (c.a k)) (c.int e), 0) else c.fcmp f.imm.toNat (c.a k) e) = g k)
    {flags : Nat} (hflags : (s.vc x f).allFlags (fun k => (g k).2) = flags) :
    let c := s.vc x f
    let y := s.thr x.core x.thread
    Ran (.vCmp x f) s x (y.afterP c.vd (c.compare (y.preg c.vd) g).1 flags) := by
  intro c y
  rw [← hflags, ← c.compare_flags (y.preg c.vd) g]
  obtain rfl : (fun k => if tyInt c.ty then (intCmp f.imm.toNat (c.int (c.a k)) (c.int (lane (y.vreg c.vb) c.w k)), 0)
    else c.fcmp f.imm.toNat (c.a k) (lane (y.vreg c.vb) c.w k)) = g := funext hg
  have hd : (mkVC f y).vd % 8 = c.vd := Nat.mod_eq_of_lt hvd
  have hop : (mkVC f y).imm % 8 = f.imm.toNat := Nat.mod_eq_of_lt (by show f.imm.toNat < 8; omega)
  have hbad : (decide (8 ≤ (mkVC f y).vd) || decide (8 ≤ (mkVC f y).va) || decide (8 ≤ (mkVC f y).vb) || decide (6 ≤ f.imm.toNat)) = false := by
    simp [mkVC, VC.vd, VC.va, VC.vb, Nat.not_le.mpr, hvd, hva, hvb, him]
  have hchk : (mkVC f y).check 7 (intOrFloat (mkVC f y).ty) = none :=
    VC.check_none hrsv hty (or_mask_of_lt (b := 3) (by omega)) hok h10 nofun
  refine ran_pOut rfl hmay (srcs := [.p c.vd, .v c.va, .v c.vb] ++ c.psrc) ?_
    (List.cons_subset.mpr ⟨List.mem_cons_self, List.Subset.refl _⟩)
  show some (slotVCmp f y (x.core, x.thread)) = _
  simp only [slotVCmp, hd, hop, hbad, hchk, Bool.false_eq_true, if_false]
  rfl

/-- Predicate logic with its checks passed (R218). -/
theorem ran_vPred {i : Instr} {s : State} {x : Issue} {f : VF} {two : Bool} {g : Pred → Pred → Pred} {regs : List RegRef} (hrsv : f.rsv = 0)
    (hvd : f.vd.toNat < 8) (hva : f.va.toNat < 8) (hvb : f.vb.toNat < 8) (him : f.imm = 0) (hty : f.type.toNat < 12)
    (h10 : f.type.toNat = 10 → f.strict = true) (he : exec i s = slotStep s x i) (hmay : s.mayIssue x regs)
    (ho : slotOut i s x.core x.thread = some (vPred f (s.thr x.core x.thread) (x.core, x.thread) two g))
    (hregs : .p f.vd.toNat :: .p f.va.toNat :: (if two then [.p f.vb.toNat] else []) ⊆ regs) :
    let y := s.thr x.core x.thread
    Ran i s x (y.afterP f.vd.toNat (g (y.preg f.va.toNat) (y.preg f.vb.toNat)) 0) := by
  intro y
  have hd : (mkVC f y).vd % 8 = f.vd.toNat := Nat.mod_eq_of_lt hvd
  have hbad : (decide (8 ≤ (mkVC f y).vd) || decide (8 ≤ (mkVC f y).va) || decide (8 ≤ (mkVC f y).vb)) = false := by
    simp [mkVC, VC.vd, VC.va, VC.vb, Nat.not_le.mpr, hvd, hva, hvb]
  have hchk : (mkVC f y).check 0 (anyType (mkVC f y).ty) = none :=
    VC.check_none hrsv hty (by simp [him]) (decide_eq_true hty) h10 nofun
  refine ran_pOut he hmay (srcs := [.p f.va.toNat] ++ if two then [.p f.vb.toNat] else []) (ho.trans ?_) hregs
  show some (vPred f y (x.core, x.thread) two g) = _
  simp only [vPred, hd, hbad, hchk, Bool.false_eq_true, if_false]
  rfl

/-- Settles O8. -/
theorem vectorPredicates : Obligations.VectorPredicates := by
  intro s x f hrsv hvd hva hvb c y e
  have hL : c.L ≤ 512 := tyLanes_le _
  refine ⟨fun him hmay => ⟨fun hint => ?_, fun hfloat => ?_⟩, fun him hty h10 => ⟨fun hmay => ⟨?_, ?_, ?_⟩, fun hmay => ?_⟩⟩
  · have hran := ran_vCmp hrsv hvd hva hvb him (by omega) (by simp [intOrFloat, tyInt, hint]) (by omega) hmay
      (g := fun k => (intCmp f.imm.toNat (c.int (c.a k)) (c.int (e k)), 0)) (fun k => if_pos (decide_eq_true hint))
      c.allFlags_zero
    refine ⟨_, fun k hk => ?_, fun k hk => ?_, hran⟩
    · rw [VC.getLsbD_compare hL, if_pos hk]
      refine if_congr Iff.rfl ?_ rfl
      have heq : c.int (c.a k) = c.int (e k) ↔ c.a k = e k := VC.int_inj (lane_lt _ _ _) (lane_lt _ _ _)
      simp only [intCmp, heq, ne_eq, decide_not]
    · rw [VC.getLsbD_compare hL, if_neg (Nat.not_lt.mpr hk)]
  · have hf : OkFloat f := hfloat
    have hran := ran_vCmp hrsv hvd hva hvb him hf.lt (by simp [intOrFloat, hf.tyFloat]) hf.strict hmay
      (g := fun k => c.fcmp f.imm.toNat (c.a k) (e k)) (fun k => if_neg (ne_true_of_eq_false hf.tyInt)) rfl
    refine ⟨_, fun k hk => ?_, fun k hk => ?_, hran⟩
    · exact (VC.getLsbD_compare hL _ _ k).trans ((if_pos hk).trans (if_congr Iff.rfl rfl rfl))
    · rw [VC.getLsbD_compare hL, if_neg (Nat.not_lt.mpr hk)]
  · exact ran_vPred (i := .vPand x f) hrsv hvd hva hvb him hty h10 rfl hmay rfl (List.Subset.refl _)
  · exact ran_vPred (i := .vPor x f) hrsv hvd hva hvb him hty h10 rfl hmay rfl (List.Subset.refl _)
  · exact ran_vPred (i := .vPxor x f) hrsv hvd hva hvb him hty h10 rfl hmay rfl (List.Subset.refl _)
  · exact ran_vPred (i := .vPnot x f) (two := false) (g := fun a _ => ~~~a) hrsv hvd hva hvb him hty h10 rfl hmay rfl (List.Subset.refl _)

end Sys2Proof.Machine
end

section
/-! PROOFS. Lane reductions and moment triples (R221 to R223): the fixed tree combines all lanes of a list. -/

namespace Sys2Proof.Machine

/-! ### The fixed tree -/

section Tree
variable {α β : Type} {op : α → α → α × Nat} (d : α)

theorem treeLevel_append {A B : List α} (h : A.length = B.length) :
    (treeLevel op (A ++ B)).1 = List.zipWith (fun a b => (op a b).1) A B := by
  have hh : (A ++ B).length / 2 = A.length := by rw [List.length_append, ← h]; omega
  simp only [treeLevel, hh, List.take_left, List.drop_left, List.map_zipWith]

/-- A list of 2^(k+1) elements is two halves. -/
theorem exists_halves {k : Nat} {l : List α} (h : l.length = 2 ^ (k + 1)) :
    ∃ A B : List α, l = A ++ B ∧ A.length = 2 ^ k ∧ B.length = 2 ^ k := by
  have hpow : 2 ^ (k + 1) = 2 ^ k + 2 ^ k := by rw [Nat.pow_succ]; omega
  exact ⟨l.take (2 ^ k), l.drop (2 ^ k), (List.take_append_drop _ _).symm, by rw [List.length_take]; omega, by rw [List.length_drop]; omega⟩

/-- Folding pairs is folding both lists. -/
theorem foldl_zipWith {mul : β → β → β} (hc : ∀ a b, mul a b = mul b a) (ha : ∀ a b c, mul (mul a b) c = mul a (mul b c)) (A B : List β)
    (h : A.length = B.length) (e : β) : (List.zipWith mul A B).foldl mul e = (A ++ B).foldl mul e := by
  have : RightCommutative mul := ⟨fun x y z => by rw [ha, hc y z, ← ha]⟩
  induction A generalizing B e with
  | nil => cases B with
    | nil => rfl
    | cons b B => exact nomatch h
  | cons a A ih => cases B with
    | nil => exact nomatch h
    | cons b B =>
      have hperm : (a :: A ++ b :: B).Perm (a :: b :: (A ++ B)) := List.Perm.cons a List.perm_middle
      rw [List.zipWith_cons_cons, List.foldl_cons, ih B (Nat.succ.inj h), hperm.foldl_eq, List.foldl_cons, List.foldl_cons, ha]

/-- Where `φ` turns the operation into a commutative and associative one, the tree combines all elements of its list. -/
theorem foldl_map_eq_tree {mul : β → β → β} (hc : ∀ a b, mul a b = mul b a) (ha : ∀ a b c, mul (mul a b) c = mul a (mul b c)) {φ : α → β}
    (hφ : ∀ a b, φ (op a b).1 = mul (φ a) (φ b)) (e : β) (k : Nat) (l : List α) (hl : l.length = 2 ^ k) :
    (l.map φ).foldl mul e = mul e (φ (tree op d k l).1) := by
  induction k generalizing l with
  | zero =>
    obtain ⟨a, rfl⟩ := List.length_eq_one_iff.mp hl
    rfl
  | succ k ih =>
    obtain ⟨A, B, rfl, hA, hB⟩ := exists_halves hl
    have hlevel : (treeLevel op (A ++ B)).1.map φ = List.zipWith mul (A.map φ) (B.map φ) := by
      rw [treeLevel_append (hA.trans hB.symm), List.map_zipWith, List.zipWith_map]
      simp only [hφ]
    have hlen : (treeLevel op (A ++ B)).1.length = 2 ^ k := by
      rw [treeLevel_append (hA.trans hB.symm), List.length_zipWith, hA, hB, Nat.min_self]
    rw [List.map_append, ← foldl_zipWith hc ha _ _ (by simp [hA, hB]), ← hlevel, ih _ hlen]
    rfl

/-- What holds of the elements and is kept by the operation holds of the tree's result. -/
theorem tree_keeps {P : α → Prop} (hop : ∀ a b, P a → P b → P (op a b).1) (k : Nat) (l : List α) (hl : l.length = 2 ^ k)
    (h : ∀ a ∈ l, P a) : P (tree op d k l).1 := by
  induction k generalizing l with
  | zero =>
    obtain ⟨a, rfl⟩ := List.length_eq_one_iff.mp hl
    exact h a List.mem_cons_self
  | succ k ih =>
    obtain ⟨A, B, rfl, hA, hB⟩ := exists_halves hl
    have hlevel := treeLevel_append (op := op) (hA.trans hB.symm)
    refine ih _ (by rw [hlevel, List.length_zipWith, hA, hB, Nat.min_self]) fun a ha => ?_
    rw [hlevel] at ha
    obtain ⟨n, hn, rfl⟩ := List.mem_iff_getElem.mp ha
    rw [List.getElem_zipWith]
    exact hop _ _ (h _ (List.mem_append_left _ (List.getElem_mem _))) (h _ (List.mem_append_right _ (List.getElem_mem _)))

/-- An operation without flags raises none in its tree. -/
theorem tree_flags_zero (hop : ∀ a b, (op a b).2 = 0) (k : Nat) (l : List α) : (tree op d k l).2 = 0 := by
  induction k generalizing l with
  | zero => rfl
  | succ k ih =>
    have hlevel : (treeLevel op l).2 = 0 := by
      refine List.foldlRecOn (motive := fun a => a = 0) _ _ rfl fun a ha x hx => ?_
      obtain ⟨n, hn, rfl⟩ := List.mem_iff_getElem.mp hx
      rw [List.getElem_zipWith, hop, ha]
      rfl
    show (treeLevel op l).2 ||| (tree op d k (treeLevel op l).1).2 = 0
    rw [hlevel, ih]
    rfl

/-- Elements that enter as `off`, which changes nothing, may be left out. -/
theorem foldl_map_ite {mul : β → β → β} {off : β} {Q : β → Prop} (hQ : ∀ x y, Q x → Q (mul x y)) (hoff : ∀ x, Q x → mul x off = x)
    (p : Nat → Bool) (g : Nat → β) (l : List Nat) (e : β) (he : Q e) :
    (l.map (fun k => if p k then g k else off)).foldl mul e = ((l.filter p).map g).foldl mul e := by
  induction l generalizing e with
  | nil => rfl
  | cons k l ih =>
    cases hk : p k with
    | true => simpa [hk] using ih _ (hQ _ _ he)
    | false => simpa [hk, hoff e he] using ih e he

end Tree

theorem tyLanes_pow (t : Nat) : 2 ^ Nat.log2 (tyLanes t) = tyLanes t := by
  have h : tyLanes t = 512 ∨ tyLanes t = 256 ∨ tyLanes t = 128 ∨ tyLanes t = 64 := by
    unfold tyLanes tyW; split_ifs <;> simp
  rcases h with h | h | h | h <;> rw [h] <;> decide

/-! ### Integers modulo a power of two -/

theorem wrap_natCast (w n : Nat) : wrap w (n : Int) = n % 2 ^ w := by
  rw [wrap, ← Int.natCast_emod]; rfl

theorem wrap_cast (w : Nat) (v : Int) : ((wrap w v : Nat) : ZMod (2 ^ w)) = (v : ZMod (2 ^ w)) := by
  have h : ((wrap w v : Nat) : Int) = v % ((2 ^ w : Nat) : Int) :=
    Int.toNat_of_nonneg (Int.emod_nonneg _ (by exact_mod_cast (Nat.two_pow_pos w).ne'))
  rw [← Int.cast_natCast, h, ZMod.intCast_mod]

theorem wrap_lt (w : Nat) (v : Int) : wrap w v < 2 ^ w := by
  have hpos : (0 : Int) < ((2 ^ w : Nat) : Int) := by exact_mod_cast Nat.two_pow_pos w
  have := Int.emod_lt_of_pos v hpos
  have := Int.emod_nonneg v hpos.ne'
  unfold wrap
  omega

/-- Numbers that agree modulo 2^w have the same low w bits. -/
theorem mod_eq_wrap_of_cast {w n : Nat} {v : Int} (h : (n : ZMod (2 ^ w)) = (v : ZMod (2 ^ w))) : n % 2 ^ w = wrap w v := by
  rw [← wrap_cast, ZMod.natCast_eq_natCast_iff'] at h
  rw [h, Nat.mod_eq_of_lt (wrap_lt w v)]

theorem signed_cast (w v : Nat) : ((signed w v : Int) : ZMod (2 ^ w)) = (v : ZMod (2 ^ w)) := by
  unfold signed
  split
  · rw [Int.cast_natCast, ZMod.natCast_mod]
  · rw [Int.cast_sub, Int.cast_natCast, ZMod.natCast_mod, Int.cast_natCast, ZMod.natCast_self, sub_zero]

theorem VC.int_cast (c : VC) (v : Nat) : ((c.int v : Int) : ZMod (2 ^ c.w)) = (v : ZMod (2 ^ c.w)) := by
  unfold VC.int
  split
  · exact signed_cast _ _
  · exact Int.cast_natCast v

/-- The low bits of an element are those of the integer that it stands for. -/
theorem VC.wrap_int (c : VC) (v : Nat) : wrap c.w (c.int v) = v % 2 ^ c.w :=
  (mod_eq_wrap_of_cast (c.int_cast v).symm).symm

/-! ### Reductions (R221) -/

/-- What a reduction combines: its enabled lanes as prepared, its disabled lanes as `off`. -/
def VC.entries (c : VC) (pre : Nat → Nat × Nat) (off : Nat) : List Nat :=
  (List.range c.L).map (fun k => if c.en k then (pre (c.a k)).1 else off)

section Reduce
variable {i : Instr} {s : State} {x : Issue} {f : VF} (hrsv : f.rsv = 0) (him : f.imm = 0) (he : exec i s = slotStep s x i)
  (hmay : s.mayIssue x (s.vc x f).regs1)
include hrsv him he hmay

/-- A reduction whose check passes: the tree's result in lane 0 and zero in the others. -/
theorem allLanesRan_vReduce {pre : VC → Nat → Nat × Nat} {off : VC → Nat} {op : VC → Nat → Nat → Nat × Nat} {pre' : Nat → Nat × Nat} {off' : Nat}
    {op' : Nat → Nat → Nat × Nat} (hty : f.type.toNat < 12) (hok : intOrFloat f.type.toNat = true) (h10 : f.type.toNat = 10 → f.strict = true)
    (ho : slotOut i s x.core x.thread = some (vReduce f (s.thr x.core x.thread) (x.core, x.thread) pre off op))
    (hpre : pre (mkVC f (s.thr x.core x.thread)) = pre') (hoff : off (mkVC f (s.thr x.core x.thread)) = off')
    (hop : op (mkVC f (s.thr x.core x.thread)) = op') :
    let c := s.vc x f
    let r := tree op' 0 (Nat.log2 c.L) (c.entries pre' off')
    AllLanesRan i s x c c.w c.L (c.allFlags (fun k => (pre' (c.a k)).2) ||| r.2) (fun k => if k = 0 then r.1 else 0) := by
  subst hpre hoff hop
  intro c r
  have hchk : (mkVC f (s.thr x.core x.thread)).check 0 (intOrFloat (mkVC f (s.thr x.core x.thread)).ty) = none :=
    VC.check_none hrsv hty (by simp [him]) hok h10 nofun
  have hlist : (((List.range c.L).map (fun k => if c.en k then pre (mkVC f (s.thr x.core x.thread)) (c.a k)
      else (off (mkVC f (s.thr x.core x.thread)), 0))).map (·.1)) = c.entries (pre (mkVC f (s.thr x.core x.thread))) (off (mkVC f (s.thr x.core x.thread))) := by
    rw [List.map_map]
    refine List.map_congr_left fun k _ => ?_
    by_cases hk : c.en k = true <;> simp [hk]
  have hflags : ((List.range c.L).map (fun k => if c.en k then pre (mkVC f (s.thr x.core x.thread)) (c.a k)
      else (off (mkVC f (s.thr x.core x.thread)), 0))).foldl (fun a y => a ||| y.2) 0 =
      c.allFlags (fun k => (pre (mkVC f (s.thr x.core x.thread)) (c.a k)).2) := by
    refine List.foldl_map.trans (congrArg (fun h => List.foldl h 0 (List.range c.L)) ?_)
    funext a k
    cases c.en k <;> rfl
  have hout : slotOut i s x.core x.thread = some (vOut (mkVC f (s.thr x.core x.thread)) (x.core, x.thread) (c.srcA ++ c.psrc)
      (BitVec.ofNat 4096 (r.1 % 2 ^ c.w)) (c.allFlags (fun k => (pre (mkVC f (s.thr x.core x.thread)) (c.a k)).2) ||| r.2)) := by
    rw [ho, ← hflags]
    simp only [vReduce, hchk, r, ← hlist]
    rfl
  have hlane : BitVec.ofNat 4096 (r.1 % 2 ^ c.w) = vecOf c.w 1 (fun _ => r.1) := by simp [vecOf, packLanes]
  have hw : c.w * 1 ≤ 4096 := by
    have hmul : c.w * c.L = 4096 := tyW_mul_tyLanes _
    have hpos : 1 ≤ c.L := by
      by_contra h
      rw [Nat.lt_one_iff.mp (Nat.not_le.mp h), Nat.mul_zero] at hmul
      exact absurd hmul (by decide)
    exact (Nat.mul_le_mul_left _ hpos).trans hmul.le
  refine ⟨_, fun k _ => ?_, ran_vOut he hmay hout (List.Subset.refl _) (.inl rfl)⟩
  rw [hlane, lane_vecOf hw]
  cases k with
  | zero => rfl
  | succ k => simp

/-- A reduction over floats, whose operation takes the float branch. -/
theorem allLanesRan_vReduce_float (hty : OkFloat f) {pre : VC → Nat → Nat × Nat} {off : VC → Nat} {op : VC → Nat → Nat → Nat × Nat}
    {pre' : Nat → Nat × Nat} {off' : Nat} {op' : Nat → Nat → Nat × Nat}
    (ho : slotOut i s x.core x.thread = some (vReduce f (s.thr x.core x.thread) (x.core, x.thread) pre off op))
    (hpre : pre (mkVC f (s.thr x.core x.thread)) = pre') (hoff : off (mkVC f (s.thr x.core x.thread)) = off')
    (hop : op (mkVC f (s.thr x.core x.thread)) = op') :
    let c := s.vc x f
    let r := tree op' 0 (Nat.log2 c.L) (c.entries pre' off')
    AllLanesRan i s x c c.w c.L (c.allFlags (fun k => (pre' (c.a k)).2) ||| r.2) (fun k => if k = 0 then r.1 else 0) :=
  allLanesRan_vReduce hrsv him he hmay hty.lt (by simp [intOrFloat, hty.tyFloat]) hty.strict ho hpre hoff hop

/-- A reduction over integers: it raises no flag, and its result has the low bits of an integer `v`. -/
theorem allLanesRan_vReduce_int (hty : f.type.toNat ≤ 7) {pre : VC → Nat → Nat × Nat} {off : VC → Nat} {op : VC → Nat → Nat → Nat × Nat}
    {pre' : Nat → Nat × Nat} {off' : Nat} {op' : Nat → Nat → Nat × Nat}
    (ho : slotOut i s x.core x.thread = some (vReduce f (s.thr x.core x.thread) (x.core, x.thread) pre off op))
    (hpre : pre (mkVC f (s.thr x.core x.thread)) = pre') (hoff : off (mkVC f (s.thr x.core x.thread)) = off')
    (hop : op (mkVC f (s.thr x.core x.thread)) = op') (hpre0 : ∀ a, (pre' a).2 = 0) (hop0 : ∀ a b, (op' a b).2 = 0) {v : Int}
    (hv : (tree op' 0 (Nat.log2 (s.vc x f).L) ((s.vc x f).entries pre' off')).1 % 2 ^ (s.vc x f).w = wrap (s.vc x f).w v) :
    AllLanesRan i s x (s.vc x f) (s.vc x f).w (s.vc x f).L 0 (fun k => if k = 0 then wrap (s.vc x f).w v else 0) := by
  obtain ⟨X, hX, hran⟩ := allLanesRan_vReduce hrsv him he hmay (by omega) (by simp [intOrFloat, tyInt, hty]) (by omega) ho hpre hoff hop
  have hfl : (s.vc x f).allFlags (fun k => (pre' ((s.vc x f).a k)).2) ||| (tree op' 0 (Nat.log2 (s.vc x f).L) ((s.vc x f).entries pre' off')).2 = 0 := by
    simp only [hpre0, VC.allFlags_zero, tree_flags_zero 0 hop0]
    rfl
  refine ⟨X, fun k hk => (hX k hk).trans ?_, hfl ▸ hran⟩
  cases k with
  | zero => exact hv.trans (Nat.mod_eq_of_lt (wrap_lt _ _)).symm
  | succ k => rfl

end Reduce

/-! ### What the trees over integers give -/

section Integer
variable {c : VC} (hL : 2 ^ Nat.log2 c.L = c.L)
include hL

theorem VC.length_entries (pre : Nat → Nat × Nat) (off : Nat) : (c.entries pre off).length = 2 ^ Nat.log2 c.L := by
  simp [VC.entries, hL]

/-- The tree of wrapped sums: the sum of the enabled lanes' integers. -/
theorem VC.tree_sum {pre : Nat → Nat × Nat} {v : Nat → Int} (hv : ∀ k, ((pre (c.a k)).1 : ZMod (2 ^ c.w)) = (v k : ZMod (2 ^ c.w))) :
    (tree (fun a b => (wrap c.w ((a : Int) + (b : Int)), 0)) 0 (Nat.log2 c.L) (c.entries pre 0)).1 % 2 ^ c.w =
      wrap c.w ((((List.range c.L).filter c.en).map v).foldl (· + ·) 0) := by
  apply mod_eq_wrap_of_cast
  have htree := foldl_map_eq_tree (op := fun a b => (wrap c.w ((a : Int) + (b : Int)), 0)) 0 (mul := (· + ·)) (φ := fun a => (a : ZMod (2 ^ c.w)))
    add_comm add_assoc (fun a b => by rw [wrap_cast]; push_cast; rfl) 0 _ _ (c.length_entries hL pre 0)
  rw [zero_add] at htree
  have hmap : (c.entries pre 0).map (fun a : Nat => (a : ZMod (2 ^ c.w))) =
      (List.range c.L).map (fun k => if c.en k then (v k : ZMod (2 ^ c.w)) else 0) := by
    rw [VC.entries, List.map_map]
    refine List.map_congr_left fun k _ => ?_
    by_cases hk : c.en k = true <;> simp [hk, hv]
  have hcast (l : List Nat) (e : Int) : (((l.map v).foldl (· + ·) e : Int) : ZMod (2 ^ c.w)) =
      (l.map (fun k => (v k : ZMod (2 ^ c.w)))).foldl (· + ·) (e : ZMod (2 ^ c.w)) := by
    induction l generalizing e with
    | nil => rfl
    | cons k l ih => rw [List.map_cons, List.foldl_cons, ih, List.map_cons, List.foldl_cons]; push_cast; rfl
  rw [← htree, hmap, foldl_map_ite (Q := fun _ => True) (fun _ _ _ => trivial) (fun x _ => add_zero x) c.en _ _ _ trivial, hcast, Int.cast_zero]

/-- The tree of an operation that chooses by a selection `sel` on integers: the selection over the enabled lanes, from the neutral
element. -/
theorem VC.tree_select {sel : Int → Int → Int} (hcomm : ∀ a b, sel a b = sel b a) (hassoc : ∀ a b c, sel (sel a b) c = sel a (sel b c))
    {op : Nat → Nat → Nat × Nat} (hint : ∀ a b, c.int (op a b).1 = sel (c.int a) (c.int b)) (hop : ∀ a b, (op a b).1 = a ∨ (op a b).1 = b)
    (hself : ∀ a : Int, sel a a = a)
    {off : Nat} {e : Int} (hoff : c.int off = e) (hofflt : off < 2 ^ c.w) (hneutral : ∀ a < 2 ^ c.w, sel e (c.int a) = c.int a) :
    (tree op 0 (Nat.log2 c.L) (c.entries (fun a => (a, 0)) off)).1 % 2 ^ c.w =
      wrap c.w ((((List.range c.L).filter c.en).map (fun k => c.int (c.a k))).foldl sel e) := by
  have hlt : (tree op 0 (Nat.log2 c.L) (c.entries (fun a => (a, 0)) off)).1 < 2 ^ c.w := by
    refine tree_keeps (P := fun a => a < 2 ^ c.w) 0 (fun a b ha hb => ?_) _ _ (c.length_entries hL _ _) fun a ha => ?_
    · rcases hop a b with h | h <;> rw [h]
      · exact ha
      · exact hb
    · obtain ⟨k, -, rfl⟩ := List.mem_map.mp ha
      split
      · exact lane_lt _ _ _
      · exact hofflt
  have hmap : (c.entries (fun a => (a, 0)) off).map c.int = (List.range c.L).map (fun k => if c.en k then c.int (c.a k) else e) := by
    rw [VC.entries, List.map_map]
    refine List.map_congr_left fun k _ => ?_
    by_cases hk : c.en k = true <;> simp [hk, hoff]
  have hQ (x y : Int) (hx : sel x e = x) : sel (sel x y) e = sel x y := by
    rw [hassoc, hcomm y e, ← hassoc, hx]
  rw [← foldl_map_ite (Q := fun x => sel x e = x) hQ (fun _ h => h) c.en _ _ e (hself e), ← hmap,
    foldl_map_eq_tree 0 hcomm hassoc hint e _ _ (c.length_entries hL _ _), hneutral _ hlt, VC.wrap_int]

end Integer

/-- The limits of an integer type, and the codes that stand for them. -/
theorem VC.int_limits {f : VF} {y : Thread} {fr : Bool} (hty : f.type.toNat ≤ 7) :
    let c := mkVC f y fr
    let lo : Int := if f.type.toNat % 2 = 0 then -(2 ^ (c.w - 1) : Int) else 0
    let hi : Int := if f.type.toNat % 2 = 0 then (2 ^ (c.w - 1) : Int) - 1 else (2 ^ c.w : Int) - 1
    (∀ a < 2 ^ c.w, lo ≤ c.int a ∧ c.int a ≤ hi)
    ∧ c.int (if tySigned c.ty then 2 ^ (c.w - 1) else 0) = lo ∧ (if tySigned c.ty then 2 ^ (c.w - 1) else 0) < 2 ^ c.w
    ∧ c.int (if tySigned c.ty then 2 ^ (c.w - 1) - 1 else 2 ^ c.w - 1) = hi ∧ (if tySigned c.ty then 2 ^ (c.w - 1) - 1 else 2 ^ c.w - 1) < 2 ^ c.w := by
  intro c lo hi
  have hsigned : tySigned c.ty = decide (f.type.toNat % 2 = 0) := by simp [c, mkVC, tySigned, hty]
  obtain ⟨m, hm⟩ : ∃ m, c.w = m + 1 := ⟨c.w - 1, by
    have : 8 ≤ tyW f.type.toNat := by unfold tyW; split_ifs <;> omega
    show tyW f.type.toNat = tyW f.type.toNat - 1 + 1
    omega⟩
  have hpow : 2 ^ c.w = 2 * 2 ^ m := by rw [hm, Nat.pow_succ]; omega
  have hpowZ : (2 : Int) ^ c.w = 2 * (2 ^ m : Nat) := by rw [hm, pow_succ]; push_cast; ring
  have hhalf : c.w - 1 = m := by omega
  have hhalfZ : (2 : Int) ^ m = (2 ^ m : Nat) := by push_cast; rfl
  have hpos := Nat.two_pow_pos m
  by_cases he : f.type.toNat % 2 = 0
  · have hs : tySigned c.ty = true := by rw [hsigned]; exact decide_eq_true he
    have hint (v : Nat) (hv : v < 2 ^ c.w) : c.int v = if v < 2 ^ m then (v : Int) else (v : Int) - (2 * 2 ^ m : Nat) := by
      rw [VC.int, if_pos hs, signed, Nat.mod_eq_of_lt hv, hhalf, hpow]
    simp only [lo, hi, he, hs, if_true, hhalf, hhalfZ]
    refine ⟨fun a ha => ?_, ?_, by omega, ?_, by omega⟩
    · rw [hint a ha]; split <;> constructor <;> omega
    · rw [hint _ (by omega), if_neg (Nat.lt_irrefl _)]; omega
    · rw [hint _ (by omega), if_pos (by omega)]; omega
  · have hs : tySigned c.ty = false := by rw [hsigned]; exact decide_eq_false he
    have hint (v : Nat) : c.int v = v := if_neg (ne_true_of_eq_false hs)
    simp only [lo, hi, he, hs, if_false, Bool.false_eq_true, hint, hpowZ]
    refine ⟨fun a ha => ?_, rfl, by omega, by omega, by omega⟩
    constructor <;> omega

/-! ### Moment triples (R222, R223) -/

/-- Three vector registers written with flags: the thread of a V.MOM slot. -/
def Thread.afterTriple (y : Thread) (d : Nat) (l : List (Nat × Nat × Nat)) (flags : Nat) : Thread :=
  { (((y.afterV d (BitVec.ofNat 4096 (packLanes 32 (l.map (·.1)))) flags).afterV (d + 1) (BitVec.ofNat 4096 (packLanes 32 (l.map (·.2.1)))) 0).afterV
      (d + 2) (BitVec.ofNat 4096 (packLanes 32 (l.map (·.2.2)))) 0) with pc := y.pc + 32 }

theorem Thread.afterTriple_eq (y : Thread) (d : Nat) (l : List (Nat × Nat × Nat)) (flags : Nat) :
    { y.afterSlot (tripleWrites d l) none with flags := y.flags ||| BitVec.ofNat 5 flags } = y.afterTriple d l flags := by
  have hor : y.flags ||| BitVec.ofNat 5 flags ||| BitVec.ofNat 5 0 ||| BitVec.ofNat 5 0 = y.flags ||| BitVec.ofNat 5 flags := by
    simp
  simp only [Thread.afterTriple, Thread.afterV, hor]
  rfl

/-- The lanes of the three registers. -/
theorem lane_triple {l : List (Nat × Nat × Nat)} (h : l.length = 128) {φ : Nat × Nat × Nat → Nat} {k : Nat} (hk : k < 128) :
    lane (BitVec.ofNat 4096 (packLanes 32 (l.map φ))) 32 k = φ (l[k]'(h ▸ hk)) % 2 ^ 32 := by
  rw [lane_packLanes (by simp [h])]
  simp [h, hk]

section Moments
variable {i : Instr} {s : State} {x : Issue} {f : VF} {regs : List RegRef} (hrsv : f.rsv = 0) (him : f.imm = 0) (hty : f.type.toNat = 9)
  (hvd : f.vd.toNat ≤ 29) (hva : f.va.toNat ≤ 29) (he : exec i s = slotStep s x i) (hmay : s.mayIssue x regs)
include hrsv him hty hvd hva he hmay

/-- A V.MOM slot whose checks pass writes the triples of its list, and its flags. -/
theorem ran_vMom {two : Bool} {g : VC → List ((Nat × Nat × Nat) × Nat)} (htwo : two = true → f.vd.toNat + 3 ≤ f.va.toNat ∨ f.va.toNat + 3 ≤ f.vd.toNat)
    (ho : slotOut i s x.core x.thread = some (vMom f s (s.thr x.core x.thread) (x.core, x.thread) two g))
    (hregs : tripleRefs f.vd.toNat ++ (if two then tripleRefs f.va.toNat else [.v f.va.toNat]) ++ (s.vc x f).psrc ⊆ regs)
    {G : Nat → Nat × Nat × Nat} (hlen : (g (s.vc x f)).length = 128) (hG : ∀ k (hk : k < 128), ((g (s.vc x f))[k]'(hlen ▸ hk)).1 = G k) {flags : Nat}
    (hfl : (g (s.vc x f)).foldl (fun a y => a ||| y.2) 0 = flags) :
    ∃ X Y Z : Vec, (∀ k < 128, (lane X 32 k, lane Y 32 k, lane Z 32 k) = ((G k).1 % 2 ^ 32, (G k).2.1 % 2 ^ 32, (G k).2.2 % 2 ^ 32))
      ∧ Ran i s x { ((((s.thr x.core x.thread).afterV f.vd.toNat X flags).afterV (f.vd.toNat + 1) Y 0).afterV (f.vd.toNat + 2) Z 0) with
          pc := (s.thr x.core x.thread).pc + 32 } := by
  subst hfl
  have hran : Ran i s x ((s.thr x.core x.thread).afterTriple f.vd.toNat ((g (s.vc x f)).map (·.1)) ((g (s.vc x f)).foldl (fun a y => a ||| y.2) 0)) := by
    have hchk : (s.vc x f).check 0 (decide ((s.vc x f).ty = 9)) = none :=
      VC.check_none hrsv (by omega) (by simp [him]) (decide_eq_true hty) (by omega) nofun
    have hbad : (decide (29 < (s.vc x f).vd) || decide (29 < (s.vc x f).va)
        || (two && decide ((s.vc x f).vd < (s.vc x f).va + 3) && decide ((s.vc x f).va < (s.vc x f).vd + 3))) = false := by
      have h1 : (s.vc x f).vd = f.vd.toNat := rfl
      have h2 : (s.vc x f).va = f.va.toNat := rfl
      rw [h1, h2]
      cases two with
      | false => simp [Nat.not_lt.mpr hvd, Nat.not_lt.mpr hva]
      | true => rcases htwo rfl with h | h <;> simp <;> omega
    have hout : vMom f s (s.thr x.core x.thread) (x.core, x.thread) two g =
        { kind := 1, srcs := tripleRefs f.vd.toNat ++ (if two then tripleRefs f.va.toNat else [.v f.va.toNat]) ++ (s.vc x f).psrc,
          dsts := tripleRefs f.vd.toNat, writes := tripleWrites f.vd.toNat ((g (s.vc x f)).map (·.1)),
          act := fun u => let u := (vOut (s.vc x f) (x.core, x.thread) [] 0 ((g (s.vc x f)).foldl (fun a y => a ||| y.2) 0)).act u
            if (s.vc x f).strict then u.bump else u } := by
      unfold State.vc at hbad hchk
      simp only [vMom, hbad, hchk]
      rfl
    rw [hout] at ho
    have hsub : (tripleRefs f.vd.toNat ++ (if two then tripleRefs f.va.toNat else [.v f.va.toNat]) ++ (s.vc x f).psrc) ++ tripleRefs f.vd.toNat ⊆ regs :=
      List.append_subset.mpr ⟨hregs, fun r h => hregs (List.mem_append_left _ (List.mem_append_left _ h))⟩
    have hflags := actsOn_flags x ((g (s.vc x f)).foldl (fun a y => a ||| y.2) 0)
    have hacts : ActsOn (fun u => let u := (vOut (s.vc x f) (x.core, x.thread) [] 0 ((g (s.vc x f)).foldl (fun a y => a ||| y.2) 0)).act u
        if (s.vc x f).strict then u.bump else u) x.core x.thread
        (fun y => { y with flags := y.flags ||| BitVec.ofNat 5 ((g (s.vc x f)).foldl (fun a y => a ||| y.2) 0) }) := by
      cases hst : (s.vc x f).strict with
      | false => exact hflags
      | true => exact hflags.bump
    exact ran_of_acts ho he hmay (by decide : (1 : Nat) ≠ 3) rfl rfl rfl rfl hsub hacts (Thread.afterTriple_eq _ _ _ _)
  have hl : ((g (s.vc x f)).map (·.1)).length = 128 := by simpa using hlen
  refine ⟨_, _, _, fun k hk => ?_, hran⟩
  rw [lane_triple hl (φ := (·.1)) hk, lane_triple hl (φ := (·.2.1)) hk, lane_triple hl (φ := (·.2.2)) hk]
  simp only [List.getElem_map, hG k hk]

end Moments

/-- The flags of a list over the lanes. -/
theorem VC.foldl_flags {α : Type} (c : VC) {g : Nat → α × Nat} {old : Nat → α} {fl : Nat → Nat} (h : ∀ k, c.en k = true → (g k).2 = fl k) :
    ((List.range c.L).map (fun k => if c.en k then g k else (old k, 0))).foldl (fun a y => a ||| y.2) 0 = c.allFlags fl := by
  refine List.foldl_map.trans (congrArg (fun h => List.foldl h 0 (List.range c.L)) ?_)
  funext a k
  by_cases hk : c.en k = true
  · simp [hk, h k hk]
  · simp [hk]

/-- Settles O9. -/
theorem vectorReductions : Obligations.VectorReductions := by
  refine ⟨fun s x f hrsv him => ?_, fun s x f hrsv him hty hvd hva => ?_⟩
  · intro c real on v lo hi first
    refine ⟨fun hfloat hmay => ?_, fun hint hmay => ?_⟩
    · have hi' : tyInt f.type.toNat = false := OkFloat.tyInt hfloat
      have hif {α : Type} (p q : α) : (if tyInt f.type.toNat = true then p else q) = q := if_neg (ne_true_of_eq_false hi')
      refine ⟨?_, ?_, ?_, ?_⟩
      · exact allLanesRan_vReduce_float (i := .vRsum x f) hrsv him rfl hmay hfloat rfl rfl rfl (funext fun a => funext fun b => hif _ _)
      · exact allLanesRan_vReduce_float (i := .vRssq x f) hrsv him rfl hmay hfloat rfl (funext fun a => hif _ _) rfl
          (funext fun a => funext fun b => hif _ _)
      · exact allLanesRan_vReduce_float (i := .vRmax x f) hrsv him rfl hmay hfloat rfl rfl (hif _ _) (funext fun a => funext fun b => hif _ _)
      · exact allLanesRan_vReduce_float (i := .vRmin x f) hrsv him rfl hmay hfloat rfl rfl (hif _ _) (funext fun a => funext fun b => hif _ _)
    · have hL : 2 ^ Nat.log2 c.L = c.L := tyLanes_pow _
      have hi' : tyInt f.type.toNat = true := decide_eq_true hint
      have hif {α : Type} (p q : α) : (if tyInt f.type.toNat = true then p else q) = p := if_pos hi'
      have hsum : VC.sumOp (mkVC f (s.thr x.core x.thread)) = fun (a b : Nat) => (wrap c.w ((a : Int) + (b : Int)), 0) :=
        funext fun a => funext fun b => hif _ _
      have hmax : VC.maxOp (mkVC f (s.thr x.core x.thread)) = fun a b => (if c.int a < c.int b then b else a, 0) :=
        funext fun a => funext fun b => hif _ _
      have hmin : VC.minOp (mkVC f (s.thr x.core x.thread)) = fun a b => (if c.int a < c.int b then a else b, 0) :=
        funext fun a => funext fun b => hif _ _
      obtain ⟨hbound, hlo, hlolt, hhi, hhilt⟩ := VC.int_limits (y := s.thr x.core x.thread) (fr := (s.free 0).getLsbD 0) hint
      refine ⟨?_, ?_, ?_, ?_⟩
      · exact allLanesRan_vReduce_int (i := .vRsum x f) hrsv him rfl hmay hint rfl rfl rfl hsum (fun _ => rfl) (fun _ _ => rfl)
          (VC.tree_sum hL fun k => (c.int_cast _).symm)
      · exact allLanesRan_vReduce_int (i := .vRssq x f) hrsv him rfl hmay hint rfl
          (pre' := fun a => (wrap c.w (c.int a * c.int a), 0)) (funext fun a => hif _ _) rfl hsum (fun _ => rfl) (fun _ _ => rfl)
          (VC.tree_sum hL fun k => wrap_cast _ _)
      · refine allLanesRan_vReduce_int (i := .vRmax x f) hrsv him rfl hmay hint rfl rfl (hif _ _) hmax (fun _ => rfl) (fun _ _ => rfl)
          (VC.tree_select hL max_comm max_assoc (fun a b => ?_) (fun a b => ?_) max_self hlo hlolt fun a ha => max_eq_right (hbound a ha).1)
        · show c.int (if c.int a < c.int b then b else a) = _
          split <;> omega
        · exact (ite_eq_or_eq _ _ _).symm
      · refine allLanesRan_vReduce_int (i := .vRmin x f) hrsv him rfl hmay hint rfl rfl (hif _ _) hmin (fun _ => rfl) (fun _ _ => rfl)
          (VC.tree_select hL min_comm min_assoc (fun a b => ?_) (fun a b => ?_) min_self hhi hhilt fun a ha => min_eq_right (hbound a ha).2)
        · show c.int (if c.int a < c.int b then a else b) = _
          split <;> omega
        · exact ite_eq_or_eq _ _ _
  · intro c y ran old
    have hL : c.L = 128 := by show tyLanes f.type.toNat = 128; rw [hty]; rfl
    refine ⟨fun hmay => ?_, fun hover hmay => ⟨?_, ?_⟩, fun e => rfl, fun p q hq => ?_, fun p q hq hp => ?_, fun p q hq hp => ?_⟩
    · refine ran_vMom (i := .vMomAdd x f) (two := false) hrsv him hty hvd hva rfl hmay nofun rfl (List.Subset.refl _) (by simp) (fun k hk => ?_) ?_
      · rw [List.getElem_map, List.getElem_range]
        exact apply_ite Prod.fst _ _ _
      · rw [← hL]
        exact c.foldl_flags fun k _ => rfl
    · refine ran_vMom (i := .vMomCmb x f) (two := true) hrsv him hty hvd hva rfl hmay (fun _ => hover) rfl (List.Subset.refl _) (by simp) (fun k hk => ?_) ?_
      · rw [List.getElem_map, List.getElem_range]
        exact apply_ite Prod.fst _ _ _
      · rw [← hL]
        exact c.foldl_flags fun k _ => rfl
    · refine ran_vMom (i := .vMomRed x f) (two := true) hrsv him hty hvd hva rfl hmay (fun _ => hover) rfl (List.Subset.refl _) (by simp) (fun k hk => ?_) ?_
      · cases k with
        | zero => rfl
        | succ k => rw [List.getElem_cons_succ, List.getElem_map]; rfl
      · have hz (n a : Nat) : ((List.range n).map (fun _ => (((0, 0, 0) : Nat × Nat × Nat), 0))).foldl (fun a y => a ||| y.2) a = a :=
          List.foldlRecOn (motive := fun b => b = a) _ _ rfl fun b hb y hy => by
            obtain ⟨_, _, rfl⟩ := List.mem_map.mp hy
            simp [hb]
        rw [List.foldl_cons, hz]
        exact Nat.zero_or _
    · simp [momCombine, hq]
    · simp [momCombine, hq, hp]
    · simp [momCombine, hq, hp]

end Sys2Proof.Machine
end

section
/-! PROOFS. Lane conversions between element types, to and from the Q formats, and the packing of Q codes (R219, R224). -/

namespace Sys2Proof.Machine

/-! ### Between element types (R219) -/

/-- The lane of a conversion's source that result lane k takes: of a wider result, from the lower or the upper half of the source; of a
narrower one, only the half of the result that is filled. -/
def cvtSource (ws w L : Nat) (up : Bool) (k : Nat) : Option Nat :=
  if ws = w then some k
  else if ws < w then some (k + (if up then 4096 / ws / 2 else 0))
  else
    let o := if up then L / 2 else 0
    if o ≤ k ∧ k < o + 4096 / ws then some (k - o) else none

/-- The element of a conversion. -/
def VC.cvtLane (c : VC) (t : Nat) (up : Bool) (k : Nat) : Nat × Nat :=
  match cvtSource (tyW t) c.w c.L up k with
  | some j => cvtElem c t (lane (c.x.vreg c.va) (tyW t) j)
  | none => (c.old k, 0)

/-- The types that V.CVT names. -/
def cvtType (f : VF) (t : Nat) : Prop := t ≤ 9 ∨ t = 10 ∧ f.strict = true

theorem cvtType.intOrFloat {f : VF} {t : Nat} (h : cvtType f t) : intOrFloat t = true := by
  unfold Machine.intOrFloat tyInt tyFloat
  rcases h with h | ⟨h, -⟩
  · rcases Nat.lt_or_ge t 8 with h' | h'
    · simp [Nat.lt_succ_iff.mp h']
    · obtain rfl | rfl : t = 8 ∨ t = 9 := by omega
      all_goals rfl
  · simp [h]

theorem cvtType.strict {f : VF} {t : Nat} (h : cvtType f t) (h10 : t = 10) : f.strict = true := by
  rcases h with h | ⟨-, h⟩
  · omega
  · exact h

/-- V.CVT is lane-wise over the lanes that it takes. -/
theorem lanesRan_vCvt {s : State} {x : Issue} {f : VF} (hrsv : f.rsv = 0) (him : f.imm.toNat < 32) (hty : cvtType f f.type.toNat)
    (ht : cvtType f (f.imm.toNat % 16)) (hmay : s.mayIssue x (s.vc x f).regs1) {up : Bool} (hup : up = decide (16 ≤ f.imm.toNat)) :
    LanesRan (.vCvt x f) s x (s.vc x f) ((s.vc x f).cvtLane (f.imm.toNat % 16) up) := by
  have hchk : (mkVC f (s.thr x.core x.thread)).check 0x1F (intOrFloat (mkVC f (s.thr x.core x.thread)).ty) = none :=
    VC.check_none hrsv (by rcases hty with h | ⟨h, -⟩ <;> omega) (or_mask_of_lt (b := 5) him) hty.intOrFloat hty.strict nofun
  have hsrc : (!intOrFloat ((mkVC f (s.thr x.core x.thread)).imm % 16) || (decide ((mkVC f (s.thr x.core x.thread)).imm % 16 = 10) && !f.strict)) = false := by
    show (!intOrFloat (f.imm.toNat % 16) || (decide (f.imm.toNat % 16 = 10) && !f.strict)) = false
    by_cases h : f.imm.toNat % 16 = 10
    · simp [ht.intOrFloat, ht.strict h]
    · simp [ht.intOrFloat, h]
  have hhalf : decide ((mkVC f (s.thr x.core x.thread)).imm / 16 % 2 = 1) = up := by
    rw [hup]
    show decide (f.imm.toNat / 16 % 2 = 1) = _
    exact decide_eq_decide.mpr (by omega)
  refine lanesRan_vMap (fr := false) (srcs := (s.vc x f).srcA) (chk := none) (g' := (mkVC f (s.thr x.core x.thread)).cvtLane (f.imm.toNat % 16) up)
    rfl hmay ?_ rfl (List.Subset.refl _) fun k _ _ => ⟨rfl, rfl⟩
  show some (slotVCvt f (s.thr x.core x.thread) (x.core, x.thread)) = _
  simp only [slotVCvt, hchk, hsrc, Bool.false_eq_true, if_false]
  have hiff : ((mkVC f (s.thr x.core x.thread)).imm / 16 % 2 = 1) ↔ up = true := by rw [← hhalf, decide_eq_true_eq]
  simp only [hiff]
  rfl

/-- Where each lane of V.CVT comes from, case by case. -/
theorem VC.cvtLane_eq (c : VC) (t : Nat) (up : Bool) (k : Nat) :
    c.cvtLane t up k =
      if tyW t = c.w then cvtElem c t (lane (c.x.vreg c.va) (tyW t) k)
      else if tyW t < c.w then cvtElem c t (lane (c.x.vreg c.va) (tyW t) (if up then k + 4096 / tyW t / 2 else k))
      else if up then (if c.L / 2 ≤ k ∧ k < c.L / 2 + 4096 / tyW t then cvtElem c t (lane (c.x.vreg c.va) (tyW t) (k - c.L / 2)) else (c.old k, 0))
      else (if k < 4096 / tyW t then cvtElem c t (lane (c.x.vreg c.va) (tyW t) k) else (c.old k, 0)) := by
  unfold VC.cvtLane cvtSource
  by_cases h1 : tyW t = c.w
  · simp only [h1, if_true]
  by_cases h2 : tyW t < c.w
  · cases up <;> simp only [h1, h2, if_true, if_false, Bool.false_eq_true, Nat.add_zero]
  cases up with
  | false => by_cases h3 : k < 4096 / tyW t <;>
      simp only [h1, h2, h3, if_true, if_false, Bool.false_eq_true, Nat.zero_le, true_and, Nat.zero_add, Nat.sub_zero]
  | true => by_cases h3 : c.L / 2 ≤ k ∧ k < c.L / 2 + 4096 / tyW t <;> simp only [h1, h2, h3, if_true, if_false, and_self]

/-! ### To and from the Q formats (R224) -/

/-- A vector slot that writes vd and then updates its thread by `g`. -/
theorem ran_vWrite {i : Instr} {s : State} {x : Issue} {regs srcs : List RegRef} {d : Nat} {v : Vec} {g : Thread → Thread}
    (he : exec i s = slotStep s x i) (hmay : s.mayIssue x regs)
    (ho : slotOut i s x.core x.thread = some { kind := 1, srcs, dsts := [.v d], writes := [.v d v],
                                               act := fun u => u.setThr x.core x.thread (g (u.thr x.core x.thread)) })
    (hregs : srcs ++ [.v d] ⊆ regs) :
    Ran i s x (g { (s.thr x.core x.thread) with v := tput (fun _ => 0) (s.thr x.core x.thread).v d v, pc := (s.thr x.core x.thread).pc + 32 }) :=
  ran_of_acts ho he hmay (by decide : (1 : Nat) ≠ 3) rfl rfl rfl rfl hregs (fun u => ⟨u.freeCtr, .inr rfl⟩) rfl

section Quantised
variable {s : State} {x : Issue} {f : VF} (hq : (s.vc x f).qcheck = none)
include hq

/-- The Q code of an element under its block's scale. -/
def VC.qcode (c : VC) (k : Nat) : QCode := encQ c.qfmt (lane (c.x.vreg c.vb) 8 (k / c.qb)) c.qzp (wideVal c.fmt true (c.a k))

/-- V.QSCL writes one scale for each block of enabled elements. -/
theorem allLanesRan_vQscl (hmay : s.mayIssue x (s.vc x f).regs1) :
    let c := s.vc x f
    AllLanesRan (.vQscl x f) s x c 8 512 0 (fun j => if j < c.L / c.qb then
      selectScale c.qfmt (((span (j * c.qb) c.qb).filter c.en).map (fun k => wideVal c.fmt true (c.a k))) else 0) := by
  intro c
  have hL : 8 * (c.L / c.qb) ≤ 4096 := by
    have h1 : c.L / c.qb ≤ c.L := Nat.div_le_self _ _
    have h2 : c.L ≤ 512 := tyLanes_le _
    omega
  have hchk : (mkVC f (s.thr x.core x.thread)).qcheck = none := hq
  refine allLanesRan_vecOf (c' := mkVC f (s.thr x.core x.thread)) (L := c.L / c.qb) (srcs := c.srcA ++ c.psrc) rfl hmay hL rfl ?_ (List.Subset.refl _)
    (g' := fun j => selectScale c.qfmt (((span (j * c.qb) c.qb).filter c.en).map (fun k => wideVal c.fmt true (c.a k)))) fun j _ => ?_
  · show some (slotVQscl f (s.thr x.core x.thread) (x.core, x.thread)) = _
    simp only [slotVQscl, hchk]
    rfl
  · split <;> rfl

/-- V.CVTQ stores the codes of the enabled elements at its part of vd and counts the saturated and the lost ones. -/
theorem ran_vCvtq (hmay : s.mayIssue x (.v (s.vc x f).vb :: (s.vc x f).regs1)) :
    let c := s.vc x f
    let y := s.thr x.core x.thread
    let on := (List.range c.L).filter c.en
    let lo := c.qpos * c.L
    ∃ X : Vec, (∀ k < 512, lane X 8 k = if lo ≤ k ∧ k < lo + c.L ∧ c.en (k - lo) then (c.qcode (k - lo)).code % 2 ^ 8 else lane (y.vreg c.vd) 8 k)
      ∧ Ran (.vCvtq x f) s x { (y.afterV c.vd X 0) with
          qsat := min (2 ^ 32 - 1) (y.qsat + (on.filter (fun k => (c.qcode k).sat)).length)
          qlost := min (2 ^ 32 - 1) (y.qlost + (on.filter (fun k => (c.qcode k).lost)).length) } := by
  intro c y on lo
  let r := (List.range c.L).map (fun k => if c.en k then some (c.qcode k) else none)
  let X := vecOf 8 512 (fun k => if lo ≤ k ∧ k < lo + c.L then
    match r.getD (k - lo) none with
    | some q => q.code
    | none => lane (y.vreg c.vd) 8 k
    else lane (y.vreg c.vd) 8 k)
  have hcount (p : QCode → Bool) : (r.filter (fun q => q.any p)).length = (on.filter (fun k => p (c.qcode k))).length := by
    simp only [r, on, List.filter_map, List.length_map, List.filter_filter]
    refine congrArg List.length (List.filter_congr fun k _ => ?_)
    by_cases h : c.en k = true <;> simp [h]
  have hchk : (mkVC f y).qcheck = none := hq
  refine ⟨X, fun k hk => ?_, ?_⟩
  · rw [lane_vecOf (by decide), if_pos hk]
    by_cases hin : lo ≤ k ∧ k < lo + c.L
    · have hget : r.getD (k - lo) none = if c.en (k - lo) then some (c.qcode (k - lo)) else none := by
        have hlt : k - lo < c.L := by omega
        simp [r, hlt]
      rw [if_pos hin, hget]
      by_cases hen : c.en (k - lo) = true
      · rw [if_pos hen, if_pos ⟨hin.1, hin.2, hen⟩]
      · rw [if_neg hen, if_neg (fun h => hen h.2.2)]
        exact lane_mod _ _ _
    · rw [if_neg hin, if_neg (fun h => hin ⟨h.1, h.2.1⟩)]
      exact lane_mod _ _ _
  · have ho : slotOut (.vCvtq x f) s x.core x.thread = some
        { kind := 1, srcs := [.v c.vd, .v c.va, .v c.vb] ++ c.psrc, dsts := [.v c.vd], writes := [.v c.vd X],
          act := fun u => u.setThr x.core x.thread { u.thr x.core x.thread with
            qsat := holdAdd (2 ^ 32 - 1) (u.thr x.core x.thread).qsat (r.filter (fun q => q.any (·.sat))).length
            qlost := holdAdd (2 ^ 32 - 1) (u.thr x.core x.thread).qlost (r.filter (fun q => q.any (·.lost))).length } } := by
      show some (slotVCvtq f y (x.core, x.thread)) = _
      simp only [slotVCvtq, hchk]
      rfl
    have hregs : ([.v c.vd, .v c.va, .v c.vb] ++ c.psrc) ++ [.v c.vd] ⊆ .v c.vb :: c.regs1 := by
      intro q hq
      simp only [VC.regs1, VC.srcA, List.mem_cons, List.mem_append, List.not_mem_nil, or_false] at hq ⊢
      tauto
    have hran := ran_vWrite rfl hmay ho hregs (g := fun z => { z with
      qsat := holdAdd (2 ^ 32 - 1) z.qsat (r.filter (fun q => q.any (·.sat))).length
      qlost := holdAdd (2 ^ 32 - 1) z.qlost (r.filter (fun q => q.any (·.lost))).length })
    rw [hcount, hcount] at hran
    have hfl : y.flags ||| BitVec.ofNat 5 0 = y.flags := BitVec.or_zero
    simp only [Thread.afterV, hfl]
    simp only [holdAdd] at hran
    exact hran

/-- V.CVTF gives each element the value of its code under its block's scale. -/
theorem lanesRan_vCvtf (hmay : s.mayIssue x (.v (s.vc x f).vb :: (s.vc x f).regs1)) :
    let c := s.vc x f
    LanesRan (.vCvtf x f) s x c (fun k =>
      (encFast c.fmt (qVal c.qfmt (lane ((s.thr x.core x.thread).vreg c.vb) 8 (k / c.qb)) c.qzp
        (lane ((s.thr x.core x.thread).vreg c.va) 8 (c.qpos * c.L + k))), 0)) := by
  refine lanesRan_vMap (i := .vCvtf x f) (chk := (mkVC f (s.thr x.core x.thread)).qcheck) rfl hmay rfl hq ?_ fun _ _ _ => ⟨rfl, rfl⟩
  intro q hq
  change q ∈ .v (s.vc x f).vd :: [.v (s.vc x f).va, .v (s.vc x f).vb] ++ (s.vc x f).psrc at hq
  simp only [VC.regs1, VC.srcA, List.mem_cons, List.mem_append, List.not_mem_nil, or_false] at hq ⊢
  tauto

end Quantised

/-! ### Packing (R217, R224) -/

/-- A packing slot whose check passes writes every lane of its result. -/
theorem ran_vPack {i : Instr} {s : State} {x : Issue} {f : VF} {mask w L : Nat} {g : VC → Vec} {g' : Nat → Nat} (hrsv : f.rsv = 0)
    (hty : f.type.toNat = 11) (him : f.imm.toNat ||| mask = mask) (he : exec i s = slotStep s x i) (hmay : s.mayIssue x (s.vc x f).regs1)
    (hw : w * L ≤ 4096) (ho : slotOut i s x.core x.thread = some (vPack f (s.thr x.core x.thread) (x.core, x.thread) mask g))
    (hg : g (mkVC f (s.thr x.core x.thread)) = vecOf w L g') :
    (∀ k < L, lane (vecOf w L g') w k = g' k % 2 ^ w)
      ∧ Ran i s x ((s.thr x.core x.thread).afterV (s.vc x f).vd (vecOf w L g') 0) := by
  have hchk : (mkVC f (s.thr x.core x.thread)).check mask (decide ((mkVC f (s.thr x.core x.thread)).ty = 11)) = none :=
    VC.check_none hrsv (by omega) him (decide_eq_true hty) (by omega) nofun
  have hout : vPack f (s.thr x.core x.thread) (x.core, x.thread) mask g =
      vOut (mkVC f (s.thr x.core x.thread)) (x.core, x.thread) (.v (s.vc x f).vd :: (s.vc x f).srcA ++ (s.vc x f).psrc) (vecOf w L g') := by
    simp only [vPack, hchk, hg]
    rfl
  refine ⟨fun k hk => (lane_vecOf hw g' k).trans (if_pos hk), ran_vOut he hmay (ho.trans (congrArg some hout)) ?_ (.inl rfl)⟩
  exact List.cons_subset.mpr ⟨List.mem_cons_self, List.Subset.refl _⟩

/-- IMM of V.PACK4 and V.UNPK4 names a half. -/
theorem packHalf {m : BitVec 32} (h : m = 0 ∨ m = 16) : m.toNat ||| 0x10 = 0x10 ∧ m.toNat / 16 % 2 = m.toNat / 16 := by
  rcases h with rfl | rfl <;> exact ⟨rfl, rfl⟩

/-- Past the packed lanes a register is zero. -/
theorem lane_byte_past {n : Nat} {g : Nat → Nat} (h : 6 * n ≤ 4096) {j : Nat} (hj : 6 * n ≤ 8 * j) : lane (vecOf 6 n g) 8 j = 0 := by
  have hlt : packLanes 6 ((List.range n).map g) < 2 ^ (6 * n) := by simpa using packLanes_lt 6 ((List.range n).map g)
  have hfit := Nat.lt_of_lt_of_le hlt (Nat.pow_le_pow_right Nat.two_pos h)
  rw [lane, vecOf, BitVec.toNat_ofNat, Nat.mod_eq_of_lt hfit, Nat.div_eq_of_lt (Nat.lt_of_lt_of_le hlt (Nat.pow_le_pow_right Nat.two_pos hj))]
  exact Nat.zero_mod _

/-- Settles O10. -/
theorem vectorConversions : Obligations.VectorConversions := by
  refine ⟨fun s x f hrsv him => ?_, fun s x f hrsv => ?_⟩
  · intro c y t up Ls okType hty ht hmay
    have hran := lanesRan_vCvt hrsv him hty ht hmay (up := up) rfl
    rwa [show c.cvtLane t up = _ from funext (c.cvtLane_eq t up)] at hran
  · intro c y q on lo
    refine ⟨fun hty hq => ⟨allLanesRan_vQscl hq, fun hmay => ⟨lanesRan_vCvtf hq hmay, ran_vCvtq hq hmay⟩⟩,
      fun hty hmay => ⟨fun him => ⟨?_, ?_⟩, fun him => ⟨?_, ?_⟩⟩⟩
    · obtain ⟨hmask, hhalf⟩ := packHalf him
      obtain ⟨hlane, hran⟩ := ran_vPack (i := .vPack4 x f) hrsv hty hmask rfl hmay (w := 4) (L := 1024) (by decide) rfl
        (g' := fun k => if decide (k / 512 = f.imm.toNat / 16 % 2) && c.en (k % 512) then c.a (k % 512) % 16 else lane (y.vreg c.vd) 4 k) rfl
      refine ⟨_, fun k hk => (hlane k hk).trans ?_, hran⟩
      simp only [hhalf, Bool.and_eq_true, decide_eq_true_eq]
      split
      · exact Nat.mod_mod _ _
      · rfl
    · obtain ⟨hmask, hhalf⟩ := packHalf him
      obtain ⟨hlane, hran⟩ := ran_vPack (i := .vUnpk4 x f) hrsv hty hmask rfl hmay (w := 8) (L := 512) (by decide) rfl
        (g' := fun k => if c.en k then lane (y.vreg c.va) 4 (512 * (f.imm.toNat / 16 % 2) + k) else c.old k) rfl
      refine ⟨_, fun k hk => (hlane k hk).trans ?_, hran⟩
      simp only [hhalf]
    · obtain ⟨hlane, hran⟩ := ran_vPack (i := .vPack6 x f) hrsv hty (by simp [him]) rfl hmay (w := 6) (L := 512) (by decide) rfl
        (g' := fun k => if c.en k then c.a k % 64 else lane (y.vreg c.vd) 6 k) rfl
      refine ⟨_, fun k hk => (hlane k hk).trans ?_, fun j hj hj' => lane_byte_past (by decide) (by omega), hran⟩
      by_cases hen : c.en k = true
      · simp only [hen, if_true]
        exact Nat.mod_mod _ _
      · simp only [hen, if_false, Bool.false_eq_true]
        exact lane_mod _ _ _
    · obtain ⟨hlane, hran⟩ := ran_vPack (i := .vUnpk6 x f) hrsv hty (by simp [him]) rfl hmay (w := 8) (L := 512) (by decide) rfl rfl
      exact ⟨_, hlane, hran⟩

end Sys2Proof.Machine
end

section
/-! PROOFS. Fields of words (R15): what a field reads after a write of the same or of another field, and of single bits. -/

namespace Sys2Proof.Machine

section Fields
variable {n : Nat} {w : BitVec n} {hi lo : Nat}

theorem testBit_bf (w : BitVec n) (hi lo k : Nat) : (bf w hi lo).testBit k = (decide (k < hi + 1 - lo) && w.getLsbD (lo + k)) := by
  rw [bf, Nat.testBit_mod_two_pow, Nat.testBit_shiftRight]
  rfl

theorem bf_lt (w : BitVec n) (hi lo : Nat) : bf w hi lo < 2 ^ (hi + 1 - lo) := Nat.mod_lt _ (Nat.two_pow_pos _)

/-- The bits of a word with one field replaced. -/
theorem getLsbD_bfSet (hlo : lo ≤ hi) (hhi : hi < n) (w : BitVec n) (v k : Nat) :
    (bfSet w hi lo v).getLsbD k = if lo ≤ k ∧ k ≤ hi then v.testBit (k - lo) else w.getLsbD k := by
  have hsum : (w.toNat >>> (hi + 1)) <<< (hi + 1) + (v % 2 ^ (hi + 1 - lo)) <<< lo + w.toNat % 2 ^ lo =
      2 ^ lo * (2 ^ (hi + 1 - lo) * (w.toNat >>> (hi + 1)) + v % 2 ^ (hi + 1 - lo)) + w.toNat % 2 ^ lo := by
    have hpow : 2 ^ (hi + 1) = 2 ^ lo * 2 ^ (hi + 1 - lo) := by rw [← Nat.pow_add]; congr 1; omega
    rw [Nat.shiftLeft_eq, Nat.shiftLeft_eq, hpow]
    ring
  have hbit : ((w.toNat >>> (hi + 1)) <<< (hi + 1) + (v % 2 ^ (hi + 1 - lo)) <<< lo + w.toNat % 2 ^ lo).testBit k =
      if lo ≤ k ∧ k ≤ hi then v.testBit (k - lo) else w.getLsbD k := by
    rw [hsum, Nat.testBit_two_pow_mul_add _ (Nat.mod_lt _ (Nat.two_pow_pos _))]
    by_cases h1 : k < lo
    · rw [if_pos h1, if_neg (by omega), Nat.testBit_mod_two_pow, decide_eq_true h1, Bool.true_and]
      rfl
    · rw [if_neg h1, Nat.testBit_two_pow_mul_add _ (Nat.mod_lt _ (Nat.two_pow_pos _))]
      by_cases h2 : k ≤ hi
      · rw [if_pos (by omega), if_pos (by omega), Nat.testBit_mod_two_pow, decide_eq_true (by omega), Bool.true_and]
      · rw [if_neg (by omega), if_neg (by omega), Nat.testBit_shiftRight]
        show w.toNat.testBit _ = w.toNat.testBit k
        congr 1
        omega
  rw [bfSet, BitVec.getLsbD, BitVec.toNat_ofNat, Nat.testBit_mod_two_pow, hbit]
  split
  · rw [decide_eq_true (by omega), Bool.true_and]
  · by_cases hk : k < n
    · rw [decide_eq_true hk, Bool.true_and]
    · rw [BitVec.getLsbD_of_ge _ _ (Nat.le_of_not_lt hk), Bool.and_false]

/-- A field reads what was written into it. -/
theorem bf_bfSet_same (hlo : lo ≤ hi) (hhi : hi < n) (w : BitVec n) (v : Nat) : bf (bfSet w hi lo v) hi lo = v % 2 ^ (hi + 1 - lo) := by
  apply Nat.eq_of_testBit_eq
  intro k
  rw [testBit_bf, getLsbD_bfSet hlo hhi, Nat.testBit_mod_two_pow]
  by_cases hk : k < hi + 1 - lo
  · rw [if_pos (by omega), Nat.add_sub_cancel_left]
  · rw [decide_eq_false hk, Bool.false_and, Bool.false_and]

/-- A field apart from the one written reads as before. -/
theorem bf_bfSet_apart (hlo : lo ≤ hi) (hhi : hi < n) (w : BitVec n) (v : Nat) {hi' lo' : Nat} (h : hi' < lo ∨ hi < lo') :
    bf (bfSet w hi lo v) hi' lo' = bf w hi' lo' := by
  apply Nat.eq_of_testBit_eq
  intro k
  rw [testBit_bf, testBit_bf]
  by_cases hk : k < hi' + 1 - lo'
  · rw [getLsbD_bfSet hlo hhi, if_neg (by omega)]
  · rw [decide_eq_false hk, Bool.false_and, Bool.false_and]

/-- A bit reads what was written to it, and any other bit as before. -/
theorem bitAt_bitSet {i j : Nat} (hi : i < n) (w : BitVec n) (b : Bool) : bitAt (bitSet w i b) j = if j = i then b else bitAt w j := by
  show (bfSet w i i (if b then 1 else 0)).getLsbD j = _
  rw [getLsbD_bfSet le_rfl hi]
  by_cases h : j = i
  · subst h
    cases b <;> simp
  · rw [if_neg (by omega), if_neg h]
    rfl

theorem bf_bitSet_apart {i : Nat} (hi : i < n) (w : BitVec n) (b : Bool) {hi' lo' : Nat} (h : hi' < i ∨ i < lo') :
    bf (bitSet w i b) hi' lo' = bf w hi' lo' := bf_bfSet_apart le_rfl hi w _ h

theorem bitAt_bfSet_apart {i : Nat} (hlo : lo ≤ hi) (hhi : hi < n) (w : BitVec n) (v : Nat) (h : i < lo ∨ hi < i) :
    bitAt (bfSet w hi lo v) i = bitAt w i := by
  show (bfSet w hi lo v).getLsbD i = w.getLsbD i
  rw [getLsbD_bfSet hlo hhi, if_neg (by omega)]

end Fields

/-! ### Fields of registers -/

section Registers
variable (s : State) (o : Nat)

theorem State.rd_wr (o' : Nat) (v : W32) : (s.wr o v).rd o' = if o' = o then v else s.rd o' := tget_tput _ _ _ _ _

theorem State.rdF_wrF_same {hi lo : Nat} (hlo : lo ≤ hi) (hhi : hi < 32) (v : Nat) : (s.wrF o hi lo v).rdF o hi lo = v % 2 ^ (hi + 1 - lo) := by
  rw [State.rdF, State.wrF, State.rd_wr_self, bf_bfSet_same hlo hhi]

theorem State.rdB_wrB_same {i : Nat} (hi : i < 32) (b : Bool) : (s.wrB o i b).rdB o i = b := by
  rw [State.rdB, State.wrB, State.rd_wr_self, bitAt_bitSet hi, if_pos rfl]

theorem State.rdB_wrB_ne {i j : Nat} (hi : i < 32) (h : j ≠ i) (b : Bool) : (s.wrB o i b).rdB o j = s.rdB o j := by
  rw [State.rdB, State.wrB, State.rd_wr_self, bitAt_bitSet hi, if_neg h]
  rfl

end Registers

end Sys2Proof.Machine
end

section
/-! PROOFS. The M slot (R230, R234, R235): descriptor fields, copies, and the queueing of a tile. -/

namespace Sys2Proof.Machine

/-- Every field of a tile descriptor lies inside it. -/
theorem tfield_bounds {id hi lo : Nat} (h : tfield id = some (hi, lo)) : lo ≤ hi ∧ hi < 256 ∧ id ≤ 0x18 := by
  have hall : ∀ id < 25, ∀ p, tfield id = some p → p.2 ≤ p.1 ∧ p.1 < 256 := by decide
  have hid : id < 25 := by
    obtain ⟨hid, -⟩ := List.getElem?_eq_some_iff.mp h
    exact hid
  obtain ⟨h1, h2⟩ := hall id hid _ h
  exact ⟨h1, h2, by omega⟩

/-- A slot alone in its bundle, with no cause: its thread goes on, and then it acts; the rest is counting. -/
theorem exec_alone {i : Instr} {s : State} {x : Issue} {o : SlotOut} {regs : List RegRef} (he : exec i s = slotStep s x i)
    (hmay : s.mayIssue x regs) (ho : slotOut i s x.core x.thread = some o) (hf : ∀ z, i ≠ .cFence z) (hclear : s.fenceClear x ∨ o.kind ≠ 3)
    (hc : o.cause = none) (hr : o.ready = true) (hregs : o.srcs ++ o.dsts ⊆ regs)
    (hl : ∀ k p a, o.load = some (k, p, a) → k = .localLoad ∨ s.room x.core x.thread) (hend : o.ends = false) :
    ∃ t u, exec i s = .next t ∧ t = { o.act u with cnt := t.cnt }
      ∧ u = { (s.marked x.core).setThr x.core x.thread (o.thread (s.thr x.core x.thread)) with cnt := u.cnt } := by
  obtain ⟨hm, hst, hb, hi, hp⟩ := hmay
  obtain ⟨r, b, k1, k2, hrun⟩ := issueSlot_alone i s x o hm hst hb hi ho
    (bundleOuts_one i s _ _ o ho (or_assoc.mp hclear) hf) hc hr (fun q hq => hp q (hregs hq)) hl
  simp only [hend, Bool.false_eq_true, if_false] at hrun
  refine ⟨_, _, he, ?_, State.count_countBlock_only _ r 18 1 k1 1⟩
  rw [hrun]
  exact State.count_countBlock_only _ r 19 b k2 b

section Matrix
variable {s : State} {x : Issue}

/-- A slot that writes one descriptor register. -/
theorem ran_tWrite {i : Instr} {regs srcs : List RegRef} {d : Nat} {v : TDesc} (he : exec i s = slotStep s x i) (hmay : s.mayIssue x regs)
    (ho : slotOut i s x.core x.thread = some { kind := 2, srcs, dsts := [.t d], writes := [.t d v] }) (hregs : srcs ++ [.t d] ⊆ regs) :
    let y := s.thr x.core x.thread
    Ran i s x { (y.goto (y.pc + 32)) with t := tput (fun _ => 0) y.t d v } :=
  ran_of_acts ho he hmay (by decide : (2 : Nat) ≠ 3) rfl rfl rfl rfl hregs (actsOn_id _ _) rfl

/-- M.TSET and M.TADD replace the one field. -/
theorem ran_mField {i : Instr} {f : MSetF} {last hi lo : Nat} {g : Nat → Nat → Nat} (hrsv : f.rsv = 0)
    (hmay : s.mayIssue x [.t f.td.toNat, .s f.sa.toNat]) (he : exec i s = slotStep s x i) (hfield : tfield f.field.toNat = some (hi, lo))
    (hlast : f.field.toNat ≤ last) (ho : slotOut i s x.core x.thread = some (mField f (s.thr x.core x.thread) last g)) :
    let y := s.thr x.core x.thread
    ∃ v : TDesc, Ran i s x { (y.goto (y.pc + 32)) with t := tput (fun _ => 0) y.t f.td.toNat v }
      ∧ bf v hi lo = g (bf (y.treg f.td.toNat) hi lo) (y.sreg f.sa.toNat).toNat % 2 ^ (hi + 1 - lo)
      ∧ (∀ k, k < lo ∨ hi < k → v.getLsbD k = (y.treg f.td.toNat).getLsbD k) := by
  intro y
  obtain ⟨hlo, hhi, -⟩ := tfield_bounds hfield
  have hbad : (decide (f.rsv ≠ 0) || decide (last < f.field.toNat)) = false := by simp [hrsv, Nat.not_lt.mpr hlast]
  simp only [mField, hfield, hbad, Bool.false_eq_true, if_false] at ho
  refine ⟨_, ran_tWrite he hmay ho (by simp), bf_bfSet_same hlo hhi _ _, fun k hk => ?_⟩
  rw [getLsbD_bfSet hlo hhi, if_neg (by omega)]

theorem State.marked_arr (s : State) (c a : Nat) : (s.marked c).arr a = s.arr a := rfl

/-- M.TILE with its checks passed and room in the queue puts its tile at the end of the queue. -/
theorem mTile_queues {f : MTileF} (hrsv : f.rsv = 0) (hhalf : f.half.toNat ≠ 3)
    (hmay : s.mayIssue x [.t f.td.toNat, .s f.smask.toNat, .s f.spad.toNat, .s f.sout.toNat]) :
    let y := s.thr x.core x.thread
    let a := s.tileArray x.core f.arr.toNat y.reissue
    let q := s.tileReq f x.core x.thread
    tileCause (s.arr a) q = none → (s.arr a).queue.length < 4 → s.rdB (rCoreStat x.core) 5 = false →
      ∃ t, exec (.mTile x f) s = .next t ∧ (t.arr a).queue = (s.arr a).queue ++ [q] ∧ t.thr x.core x.thread = y.goto (y.pc + 32)
        ∧ t = { s.marked x.core with threads := t.threads, arrays := t.arrays, cnt := t.cnt } := by
  intro y a q hcause hroom hdrain
  have ho : slotOut (.mTile x f) s x.core x.thread = some
      { kind := 2, ready := decide ((s.arr a).queue.length < 4) && !s.rdB (rCoreStat x.core) 5,
        srcs := [.t f.td.toNat] ++ (if f.men then [.s f.smask.toNat] else []) ++ (if f.pen then [.s f.spad.toNat] else [])
          ++ (if f.oen then [.s f.sout.toNat] else []),
        act := fun u => u.setArr a { u.arr a with queue := (u.arr a).queue ++ [q] } } := by
    have hbad : (decide (f.rsv ≠ 0) || decide (q.half = 3)) = false := by
      have : q.half ≠ 3 := hhalf
      simp [hrsv, this]
    show some (slotMTile f s x.core x.thread) = _
    simp only [slotMTile, show (decide (f.rsv ≠ 0) || decide ((s.tileReq f x.core x.thread).half = 3)) = false from hbad,
      show tileCause (s.arr (s.tileArray x.core f.arr.toNat (s.tileReq f x.core x.thread).reissue)) (s.tileReq f x.core x.thread) = none from hcause]
    rfl
  have hregs : ([.t f.td.toNat] ++ (if f.men then [.s f.smask.toNat] else []) ++ (if f.pen then [.s f.spad.toNat] else [])
      ++ (if f.oen then [.s f.sout.toNat] else [])) ++ [] ⊆ ([.t f.td.toNat, .s f.smask.toNat, .s f.spad.toNat, .s f.sout.toNat] : List RegRef) := by
    cases f.men <;> cases f.pen <;> cases f.oen <;> simp
  have hready : (decide ((s.arr a).queue.length < 4) && !s.rdB (rCoreStat x.core) 5) = true := by simp [hroom, hdrain]
  have ⟨_, _, hbundle, _, _⟩ := hmay
  obtain ⟨t, u, hexec, ht, hu⟩ := exec_alone (i := .mTile x f) rfl hmay ho (ne_cFence_of_kind ho (by decide : (2 : Nat) ≠ 3)) (.inr (by decide : (2 : Nat) ≠ 3))
    rfl hready hregs nofun rfl
  rw [SlotOut.thread_eq_afterSlot rfl hbundle] at hu
  have harr : u.arr a = s.arr a := by rw [hu]; rfl
  refine ⟨t, hexec, ?_, ?_, ?_⟩
  · rw [ht]
    exact (congrArg Arr.queue (State.arr_setArr_self u a _)).trans (by rw [harr])
  · rw [ht]
    show u.thr x.core x.thread = _
    rw [hu]
    exact State.thr_setThr_self (s.marked x.core) _ _ _
  · rw [ht, hu]
    rfl

end Matrix

/-- Settles O11. -/
theorem matrixSlots : Obligations.MatrixSlots := by
  intro s x y withT
  refine ⟨fun hmay => ?_, fun f hrsv hmay hi lo hfield => ?_, fun f hrsv hmay => ?_, fun f hrsv hhalf hmay => ?_⟩
  · exact ran_of_acts (i := .mNop x) rfl rfl hmay (by decide : (2 : Nat) ≠ 3) rfl rfl rfl rfl (List.Subset.refl _) (actsOn_id _ _) rfl
  · obtain ⟨-, -, hid⟩ := tfield_bounds hfield
    obtain ⟨v, hran, hv, hrest⟩ := ran_mField (i := .mTset x f) hrsv hmay rfl hfield hid rfl
    by_cases h11 : f.field.toNat ≤ 11
    · obtain ⟨w, hw⟩ := ran_mField (i := .mTadd x f) (last := 11) hrsv hmay rfl hfield h11 rfl
      exact ⟨v, w, hran, hv, hrest, fun _ => hw⟩
    · exact ⟨v, v, hran, hv, hrest, fun h => absurd h h11⟩
  · exact ran_tWrite (i := .mTcpy x f) rfl hmay (congrArg some (if_neg (not_not_intro hrsv))) (by simp)
  · intro a q hcause hroom hdrain
    refine ⟨fun h => ?_, ?_⟩
    · show s.tileArray x.core f.arr.toNat y.reissue = _
      rw [h]
      rfl
    obtain ⟨t, hexec, hqueue, hthr, ht⟩ := mTile_queues hrsv hhalf hmay hcause hroom hdrain
    exact ⟨t, hexec, hqueue, rfl, hthr, ht⟩

end Sys2Proof.Machine
end

section
/-! PROOFS. The memory (R298, R320 to R327): what a read of clean granules returns and leaves, and what a write of clean granules stores. -/

namespace Sys2Proof.Machine

/-! ### Ranges and granules -/

/-- A physical range that lies in DRAM, or outside it, has granules of one size. -/
theorem granSize_of_oneMemory {pa n g : Nat} (hone : oneMemory pa n) (hn : 0 < n) (hg : g ∈ granules pa n) : granSize g = granSize pa := by
  simp only [granules, span, List.map_map, List.mem_map, List.mem_range, Function.comp] at hg
  obtain ⟨k, hk, rfl⟩ := hg
  rcases hone with h | h
  · have hp : granSize pa = 64 := by simp [granSize, isDram, Nat.lt_of_lt_of_le (Nat.lt_add_of_pos_right hn) h]
    rw [hp] at hk ⊢
    have : (pa / 64 + k) * 64 < dramEnd := by unfold dramEnd at h ⊢; omega
    simp [granSize, isDram, this]
  · have hp : granSize pa = 8 := by simp [granSize, isDram, Nat.not_lt.mpr h]
    rw [hp] at hk ⊢
    have : ¬ (pa / 8 + k) * 8 < dramEnd := by unfold dramEnd at h ⊢; omega
    simp [granSize, isDram, this]

theorem granSize_pos (pa : Nat) : 0 < granSize pa := by
  unfold granSize
  split <;> decide

/-- The granule of each address of a range is one of the range's granules. -/
theorem granule_mem {pa n q : Nat} (hlo : pa ≤ q) (hhi : q < pa + n) : q / granSize pa * granSize pa ∈ granules pa n := by
  have h1 : pa / granSize pa ≤ q / granSize pa := Nat.div_le_div_right hlo
  have h2 : q / granSize pa ≤ (pa + n - 1) / granSize pa := Nat.div_le_div_right (by omega)
  simp only [granules, span, List.map_map, List.mem_map, List.mem_range, Function.comp]
  exact ⟨q / granSize pa - pa / granSize pa, by omega, by rw [Nat.add_sub_cancel' h1]⟩

theorem granule_multiple {pa n g : Nat} (hg : g ∈ granules pa n) : ∃ k, g = k * granSize pa := by
  simp only [granules, List.mem_map] at hg
  obtain ⟨k, -, rfl⟩ := hg
  exact ⟨k, rfl⟩

section Read
variable {s : State}

/-- A granule with valid check bits and a clear tag reads as it is stored. -/
theorem State.readGran_of_clean {g : Nat} (h : s.delta g = 0) : s.readGran g = (s, false, s.bytes g (granSize g)) := by
  have hd : s.decodeGran g = (s, false, s.bytes g (granSize g)) := by simp [State.decodeGran, h]
  simp [State.readGran, hd]

theorem State.foldl_readGran_of_clean {l : List Nat} (h : ∀ g ∈ l, s.delta g = 0) (b : List Byte) :
    l.foldl (fun (acc : State × List Nat × List Byte) g =>
      let x := acc.1.readGran g
      (x.1, if x.2.1 then acc.2.1 ++ [g] else acc.2.1, acc.2.2 ++ x.2.2)) (s, [], b)
      = (s, [], b ++ l.flatMap (fun g => s.bytes g (granSize g))) := by
  induction l generalizing b with
  | nil => simp
  | cons g l ih =>
    rw [List.foldl_cons, State.readGran_of_clean (h g List.mem_cons_self)]
    exact (ih (fun g' hg' => h g' (List.mem_cons_of_mem _ hg')) _).trans (by simp)

theorem State.length_bytes (s : State) (pa n : Nat) : (s.bytes pa n).length = n := by simp [State.bytes, span]

theorem State.getElem?_bytes (s : State) (pa n k : Nat) : (s.bytes pa n)[k]? = if k < n then some (s.byte (pa + k)) else none := by
  by_cases hk : k < n <;> simp [State.bytes, span, hk]

theorem State.bytes_append (s : State) (pa m n : Nat) : s.bytes pa m ++ s.bytes (pa + m) n = s.bytes pa (m + n) := by
  simp only [State.bytes, span, List.map_map, List.range_add, List.map_append, Function.comp_def, Nat.add_assoc]

/-- Granules side by side hold the bytes of their whole range. -/
theorem State.flatMap_bytes (s : State) (z a k : Nat) :
    ((List.range k).map (fun i => (a + i) * z)).flatMap (fun g => s.bytes g z) = s.bytes (a * z) (k * z) := by
  induction k with
  | zero => simp [State.bytes, span]
  | succ k ih =>
    rw [List.range_succ, List.map_append, List.flatMap_append, ih]
    simp only [List.map_cons, List.map_nil, List.flatMap_cons, List.flatMap_nil, List.append_nil]
    rw [Nat.add_mul, State.bytes_append, Nat.succ_mul]

theorem State.drop_take_bytes {pa n m k : Nat} (h : k + n ≤ m) : ((s.bytes pa m).drop k).take n = s.bytes (pa + k) n := by
  apply List.ext_getElem?
  intro i
  by_cases hi : i < n
  · rw [List.getElem?_take_of_lt hi, List.getElem?_drop, State.getElem?_bytes, State.getElem?_bytes, if_pos (by omega), if_pos hi, Nat.add_assoc]
  · rw [List.getElem?_take_eq_none (by omega), State.getElem?_bytes, if_neg hi]

/-- A read of granules with valid check bits returns the stored bytes, none of them poisoned, and leaves the state as it is. -/
theorem State.readMem_of_clean {pa n : Nat} (hone : oneMemory pa n) (h : s.cleanAt pa n) : s.readMem pa n = (s, [], s.bytes pa n) := by
  by_cases hn : n = 0
  · simp [State.readMem, hn, State.bytes, span]
  have hn0 : 0 < n := Nat.pos_of_ne_zero hn
  simp only [State.readMem, hn, if_false, State.foldl_readGran_of_clean h, List.nil_append, Prod.mk.injEq, true_and]
  have hsize : (granules pa n).flatMap (fun g => s.bytes g (granSize g)) = (granules pa n).flatMap (fun g => s.bytes g (granSize pa)) := by
    rw [List.flatMap, List.flatMap, List.map_congr_left fun g hg => by rw [granSize_of_oneMemory hone hn0 hg]]
  have hz := granSize_pos pa
  rw [hsize]
  simp only [granules, span, List.map_map, Function.comp_def]
  rw [State.flatMap_bytes, State.drop_take_bytes]
  · rw [granOf, Nat.add_sub_cancel' (Nat.div_mul_le_self pa _)]
  · have h1 : pa / granSize pa ≤ (pa + n - 1) / granSize pa := Nat.div_le_div_right (by omega)
    have h2 : pa + n - 1 < ((pa + n - 1) / granSize pa + 1) * granSize pa := Nat.lt_mul_of_div_lt (Nat.lt_succ_self _) hz
    have h3 := Nat.div_mul_le_self pa (granSize pa)
    rw [granOf, Nat.sub_mul]
    omega

theorem State.poisoned_readMem_of_clean {pa n : Nat} (hone : oneMemory pa n) (h : s.cleanAt pa n) : poisoned (s.readMem pa n) = false := by
  rw [State.readMem_of_clean hone h]
  rfl

end Read

/-! ### Counting bytes -/

/-- t is s but for the counters. -/
def Counted (s t : State) : Prop := t = { s with cnt := t.cnt }

theorem Counted.refl (s : State) : Counted s s := rfl

theorem Counted.trans {s t u : State} (h : Counted s t) (h' : Counted t u) : Counted s u := by
  unfold Counted at *
  rw [h'] ; rw [h]

theorem Counted.foldl {α : Type} {f : State → α → State} (h : ∀ s a, Counted s (f s a)) (l : List α) (s : State) : Counted s (l.foldl f s) := by
  induction l generalizing s with
  | nil => rfl
  | cons a l ih => exact (h s a).trans (ih _)

theorem State.count_counted (s : State) (r : Req) (w n : Nat) : Counted s (s.count r w n) := State.count_only s r w n

theorem State.countBlock_counted (s : State) (off n : Nat) : Counted s (s.countBlock off n) := rfl

theorem State.cross_counted (s : State) (r : Req) (home n : Nat) (wr : Bool) : Counted s (s.cross r home n wr) := by
  unfold State.cross
  split
  · rfl
  · exact (s.count_counted r 7 n).trans (State.countBlock_counted ..)

/-- Bytes counted in a memory's block and then as near or as far. -/
theorem State.countNear_counted (s : State) (r : Req) (off near far home k : Nat) (wr : Bool) :
    Counted s (if home = r.wing then (s.countBlock off k).count r near k else ((s.countBlock off k).count r far k).cross r home k wr) := by
  split
  · exact (s.countBlock_counted ..).trans (State.count_counted ..)
  · exact ((s.countBlock_counted ..).trans (State.count_counted ..)).trans (State.cross_counted ..)

/-- Counting the bytes that a request moved touches the counters only. -/
theorem State.countMem_counted (s : State) (r : Req) (pa n : Nat) (wr : Bool) : Counted s (s.countMem r pa n wr) := by
  unfold State.countMem
  split
  · rfl
  refine Counted.foldl (fun s u => ?_) _ s
  dsimp only
  split
  · exact ((s.count_counted ..).trans (State.countBlock_counted ..)).trans (State.cross_counted ..)
  · exact s.countNear_counted ..

/-! ### Stores -/

/-- The bytes of a range stored into a table. -/
theorem tget_putBytes (m : List Host.Cell) (a : Nat) (b : List Byte) (q : Nat) :
    tget (fun _ => (0 : Byte)) (putBytes m a b) q = if a ≤ q ∧ q < a + b.length then b.getD (q - a) 0 else tget (fun _ => 0) m q := by
  induction b generalizing m a with
  | nil => rw [if_neg (by simp)]; rfl
  | cons x b ih =>
    rw [putBytes, ih, tget_tput]
    rcases Nat.lt_trichotomy q a with h | rfl | h
    · rw [if_neg (by omega), if_neg (by omega), if_neg (by omega)]
    · rw [if_neg (by omega), if_pos rfl, if_pos (by simp)]
      simp
    · obtain ⟨k, rfl⟩ : ∃ k, q = a + 1 + k := ⟨q - (a + 1), by omega⟩
      have e1 : a + 1 + k - (a + 1) = k := by omega
      have e2 : a + 1 + k - a = k + 1 := by omega
      rw [e1, e2, List.getD_cons_succ, if_neg (by omega : ¬ a + 1 + k = a)]
      simp only [List.length_cons]
      by_cases hk : k < b.length
      · rw [if_pos (by omega), if_pos (by omega)]
      · rw [if_neg (by omega), if_neg (by omega)]

/-- A store of b at pa that keeps the check bits clean: nothing else changed. -/
structure Stored (s t : State) (pa : Nat) (b : List Byte) : Prop where
  only : t = { s with mem := t.mem, ecc := t.ecc }
  delta : ∀ g, t.delta g = s.delta g
  bytes : s.storedAt t pa b

section Write
variable {s : State} (harm : s.memx.armed = none)
include harm

theorem State.flipMask_of_unarmed (g : Nat) : s.flipMask g = s := by
  simp [State.flipMask, harm]

/-- A write inside a clean granule, whole or in part. -/
theorem State.writeGran_stored {g off : Nat} {b : List Byte} (hclean : s.delta g = 0) :
    Stored s (s.writeGran g off b false) (g + off) b := by
  have hdec : s.decodeGran g = (s, false, s.bytes g (granSize g)) := by simp [State.decodeGran, hclean]
  have hw : ∃ m, (∀ q, tget (fun _ => (0 : Byte)) m q = s.byte q) ∧
      s.writeGran g off b false = ({ s with mem := putBytes m (g + off) b } : State).setDelta g 0 := by
    unfold State.writeGran
    by_cases hf : (decide (off = 0) && decide (b.length = granSize g)) = true
    · refine ⟨s.mem, fun q => rfl, ?_⟩
      simp only [hf, if_true, putBytes]
      exact State.flipMask_of_unarmed (s := State.setDelta { s with mem := putBytes s.mem (g + off) b } g 0) harm g
    · refine ⟨putBytes s.mem g (s.bytes g (granSize g)), fun q => ?_, ?_⟩
      · rw [tget_putBytes, State.length_bytes]
        split
        · next h =>
          have e : q - g < granSize g := by omega
          rw [List.getD_eq_getElem?_getD, State.getElem?_bytes, if_pos e]
          simp [Nat.add_sub_cancel' h.1]
        · rfl
      · simp only [hf, hdec]
        exact State.flipMask_of_unarmed (s := State.setDelta { s with mem := _ } g 0) harm g
  obtain ⟨m, hm, hw⟩ := hw
  rw [hw]
  refine ⟨rfl, fun g' => ?_, fun q => ?_⟩
  · show (tget (fun _ => (0 : BitVec 64)) (tput (fun _ => 0) s.ecc g (BitVec.ofNat 64 0)) g').toNat = _
    rw [tget_tput]
    split
    · next h => subst h; exact hclean.symm
    · rfl
  · show tget _ (putBytes m (g + off) b) q = _
    rw [tget_putBytes, hm]

/-- The part of a write that lies in granules of a list. -/
theorem State.foldl_writeGran_stored {pa z : Nat} {b : List Byte} (hz : 0 < z) {l : List Nat}
    (hl : ∀ g ∈ l, s.delta g = 0 ∧ granSize g = z ∧ (∃ k, g = k * z) ∧ pa < g + z ∧ g < pa + b.length) :
    let t := l.foldl (fun s g => s.writeGran g (max g pa - g) ((b.drop (max g pa - pa)).take (min (g + granSize g) (pa + b.length) - max g pa))
      (([] : List Nat).contains g)) s
    t = { s with mem := t.mem, ecc := t.ecc } ∧ (∀ g, t.delta g = s.delta g)
      ∧ ∀ q, t.byte q = if pa ≤ q ∧ q < pa + b.length ∧ q / z * z ∈ l then b.getD (q - pa) 0 else s.byte q := by
  induction l generalizing s with
  | nil => exact ⟨rfl, fun g => rfl, fun q => by simp⟩
  | cons g l ih =>
    obtain ⟨hclean, hsize, ⟨k, hk⟩, hpa, hend⟩ := hl g List.mem_cons_self
    have h1 := State.writeGran_stored harm (g := g) (off := max g pa - g)
      (b := (b.drop (max g pa - pa)).take (min (g + granSize g) (pa + b.length) - max g pa)) hclean
    simp only [List.foldl_cons]
    generalize hs1 : s.writeGran g (max g pa - g) ((b.drop (max g pa - pa)).take (min (g + granSize g) (pa + b.length) - max g pa))
      (([] : List Nat).contains g) = s1
    have hs1' : Stored s s1 (g + (max g pa - g)) ((b.drop (max g pa - pa)).take (min (g + granSize g) (pa + b.length) - max g pa)) := hs1 ▸ h1
    obtain ⟨honly, hdelta, hbytes⟩ := hs1'
    obtain ⟨ho, hd, hb⟩ := ih (s := s1) (by rw [honly]; exact harm) fun g' hg' => by
      rw [hdelta]; exact hl g' (List.mem_cons_of_mem _ hg')
    refine ⟨?_, fun g' => (hd g').trans (hdelta g'), fun q => ?_⟩
    · generalize List.foldl _ s1 l = t at ho
      rw [ho, honly]
    · rw [hb q, hbytes q]
      have hq : (q / z * z = g) ↔ g ≤ q ∧ q < g + z := by
        subst hk
        constructor
        · intro h
          have := Nat.div_mul_le_self q z
          have := Nat.lt_mul_of_div_lt (Nat.lt_succ_self (q / z)) hz
          rw [Nat.succ_mul] at this
          omega
        · rintro ⟨h1, h2⟩
          rw [Nat.div_eq_of_lt_le h1 (by rw [Nat.succ_mul]; exact h2)]
      have hpart : (if g + (max g pa - g) ≤ q ∧ q < g + (max g pa - g)
            + ((b.drop (max g pa - pa)).take (min (g + granSize g) (pa + b.length) - max g pa)).length then
          ((b.drop (max g pa - pa)).take (min (g + granSize g) (pa + b.length) - max g pa)).getD (q - (g + (max g pa - g))) 0 else s.byte q)
          = if pa ≤ q ∧ q < pa + b.length ∧ q / z * z = g then b.getD (q - pa) 0 else s.byte q := by
        simp only [List.length_take, List.length_drop, hsize]
        by_cases hin : pa ≤ q ∧ q < pa + b.length ∧ q / z * z = g
        · obtain ⟨h1, h2⟩ := hq.mp hin.2.2
          rw [if_pos hin, if_pos (by omega), List.getD_eq_getElem?_getD, List.getElem?_take_of_lt (by omega), List.getElem?_drop,
            List.getD_eq_getElem?_getD]
          congr 2
          omega
        · rw [if_neg hin, if_neg]
          intro h
          exact hin ⟨by omega, by omega, hq.mpr ⟨by omega, by omega⟩⟩
      rw [hpart]
      by_cases hmem : q / z * z ∈ l
      · simp only [List.mem_cons, hmem, or_true, and_true]
        split
        · rfl
        · next hout => exact if_neg fun h => hout ⟨h.1, h.2.1⟩
      · simp only [List.mem_cons, hmem, or_false, and_false, if_false]

/-- A write of granules with valid check bits stores its bytes and changes nothing else. -/
theorem State.writeMem_stored {pa : Nat} {b : List Byte} (hone : oneMemory pa b.length) (h : s.cleanAt pa b.length) :
    Stored s (s.writeMem pa b) pa b := by
  unfold State.writeMem
  by_cases hb : b = []
  · subst hb
    exact ⟨rfl, fun g => rfl, fun q => (if_neg fun h => by simp only [List.length_nil] at h; omega).symm⟩
  have hn : 0 < b.length := List.length_pos_iff.mpr hb
  have hz := granSize_pos pa
  rw [if_neg (by simpa using hb)]
  obtain ⟨h1, h2, h3⟩ := State.foldl_writeGran_stored harm hz (pa := pa) (b := b) (l := granules pa b.length) fun g hg => by
    refine ⟨h g hg, granSize_of_oneMemory hone hn hg, granule_multiple hg, ?_⟩
    simp only [granules, span, List.map_map, List.mem_map, List.mem_range, Function.comp] at hg
    obtain ⟨k, hk, rfl⟩ := hg
    have hle : pa / granSize pa + k ≤ (pa + b.length - 1) / granSize pa := by
      have : pa / granSize pa ≤ (pa + b.length - 1) / granSize pa := Nat.div_le_div_right (by omega)
      omega
    have hlast := (Nat.mul_le_mul_right (granSize pa) hle).trans (Nat.div_mul_le_self _ _)
    have hfirst := Nat.lt_mul_of_div_lt (Nat.lt_succ_self (pa / granSize pa)) hz
    rw [Nat.succ_mul] at hfirst
    rw [Nat.add_mul] at hlast ⊢
    exact ⟨by omega, by omega⟩
  refine ⟨h1, h2, fun q => ?_⟩
  rw [h3 q]
  by_cases hq : pa ≤ q ∧ q < pa + b.length
  · rw [if_pos ⟨hq.1, hq.2, granule_mem hq.1 hq.2⟩, if_pos hq]
  · rw [if_neg (fun h => hq ⟨h.1, h.2.1⟩), if_neg hq]

end Write

end Sys2Proof.Machine
end

section
/-! PROOFS. The C slot on the own core store (R240 to R243): loads and stores of scalars and whole registers, gather and scatter. -/

namespace Sys2Proof.Machine

/-! ### C slots that load and that store -/

/-- A core store lies outside DRAM. -/
theorem oneMemory_store (c a n : Nat) : oneMemory (storeBase c + a) n := by
  right
  unfold storeBase dramEnd
  omega

section Slot
variable {i : Instr} {s : State} {x : Issue} {regs srcs dsts : List RegRef} {writes : List RegWrite} {act : State → State}
  (he : exec i s = slotStep s x i) (hmay : s.mayIssue x regs) (hclear : s.fenceClear x) (hf : ∀ z, i ≠ .cFence z)
  (hregs : srcs ++ dsts ⊆ regs)
include he hmay hclear hf hregs

/-- A C slot whose access waits for its return, and whose own action only counts. -/
theorem ran_load {kind : AccKind} (hk : kind = .localLoad ∨ s.room x.core x.thread) (hkind : kind ≠ .globalStore)
    (ho : slotOut i s x.core x.thread = some { kind := 3, srcs, dsts, writes, load := some (kind, false, []), act })
    (hact : ∀ u : State, u.ecc = s.ecc → Counted u (act u)) :
    Ran i s x ((s.thr x.core x.thread).issued kind writes) := by
  have ⟨_, _, hbundle, _, _⟩ := hmay
  refine ran_of_slot i s x _ regs _ he hmay ho hf (.inl hclear) rfl rfl hregs (fun k p a h => ?_) rfl fun u _ hu => ?_
  · cases h
    exact hk
  · have hthread : SlotOut.thread { kind := 3, srcs, dsts, writes, load := some (kind, false, []), act } (s.thr x.core x.thread)
        = (s.thr x.core x.thread).issued kind writes := by
      cases kind
      case globalStore => exact absurd rfl hkind
      all_goals simp only [SlotOut.thread, Thread.issued, ← hbundle]; rfl
    rw [hthread] at hu
    have h : Counted u (act u) := hact u (by rw [hu]; rfl)
    have hall := (show Counted _ u from hu).trans h
    exact State.eq_of_only_cnt (t := act u) hall

/-- A C slot that stores: its thread goes on, and memory, check bits and counters are as its action leaves them. -/
theorem exec_stores {load : Option (AccKind × Bool × List Nat)} {y : Thread} {P : (Nat → Byte) → Prop}
    (ho : slotOut i s x.core x.thread = some { kind := 3, srcs, dsts, writes, load, act })
    (hl : ∀ k p a, load = some (k, p, a) → k = .localLoad ∨ s.room x.core x.thread)
    (hy : SlotOut.thread { kind := 3, srcs, dsts, writes, load, act } (s.thr x.core x.thread) = y)
    (hact : ∀ u : State, u.mem = s.mem → u.ecc = s.ecc → u.memx = s.memx →
      u = { (s.marked x.core).setThr x.core x.thread y with cnt := u.cnt } →
      act u = { u with mem := (act u).mem, ecc := (act u).ecc, cnt := (act u).cnt } ∧ P (act u).byte) :
    ∃ t, exec i s = .next t
      ∧ t = { (s.marked x.core).setThr x.core x.thread y with mem := t.mem, ecc := t.ecc, cnt := t.cnt } ∧ P t.byte := by
  obtain ⟨t, u, hexec, ht, hu⟩ := exec_alone he hmay ho hf (.inl hclear) rfl rfl hregs hl rfl
  rw [hy] at hu
  obtain ⟨hframe, hP⟩ := hact u (by rw [hu]; rfl) (by rw [hu]; rfl) (by rw [hu]; rfl) hu
  replace ht : t = { act u with cnt := t.cnt } := ht
  have hbyte : t.byte = (act u).byte := by rw [ht]; rfl
  refine ⟨t, hexec, ?_, hbyte ▸ hP⟩
  have h1 : t.mem = (act u).mem := by rw [ht]
  have h2 : t.ecc = (act u).ecc := by rw [ht]
  rw [h1, h2]
  generalize act u = v at hframe ht
  rw [ht, hframe, hu]

end Slot

/-- t is as s but for memory, its check bits, and the counters; the check bits of every granule say what they said. -/
structure Wrote (s t : State) : Prop where
  only : t = { s with mem := t.mem, ecc := t.ecc, cnt := t.cnt }
  delta : ∀ g, t.delta g = s.delta g

theorem Wrote.refl (s : State) : Wrote s s := ⟨rfl, fun _ => rfl⟩

theorem Wrote.trans {s t u : State} (h : Wrote s t) (h' : Wrote t u) : Wrote s u := by
  refine ⟨?_, fun g => (h'.delta g).trans (h.delta g)⟩
  rw [h'.only, h.only]

theorem Counted.wrote {s t : State} (h : Counted s t) : Wrote s t := by
  unfold Counted at h
  exact ⟨by rw [h], fun g => by rw [h]; rfl⟩

theorem Counted.byte {s t : State} (h : Counted s t) : t.byte = s.byte := by
  unfold Counted at h
  rw [h]
  rfl

theorem Stored.wrote {s t : State} {pa : Nat} {b : List Byte} (h : Stored s t pa b) : Wrote s t := by
  refine ⟨?_, h.delta⟩
  have := h.only
  rw [this]

/-- Bytes b at pa over what stands there. -/
def storeOver (f : Nat → Byte) (e : Nat × List Byte) (q : Nat) : Byte :=
  if e.1 ≤ q ∧ q < e.1 + e.2.length then e.2.getD (q - e.1) 0 else f q

/-- An address inside a store. -/
def Covers (e : Nat × List Byte) (q : Nat) : Prop := e.1 ≤ q ∧ q < e.1 + e.2.length

theorem storeOver_of_covers {e : Nat × List Byte} {q : Nat} (h : Covers e q) (f : Nat → Byte) : storeOver f e q = e.2.getD (q - e.1) 0 := if_pos h
theorem storeOver_of_not {e : Nat × List Byte} {q : Nat} (h : ¬ Covers e q) (f : Nat → Byte) : storeOver f e q = f q := if_neg h

/-- An address that no store of a list covers keeps its byte. -/
theorem foldl_storeOver_of_not {l : List (Nat × List Byte)} {q : Nat} (h : ∀ e ∈ l, ¬ Covers e q) (f : Nat → Byte) :
    l.foldl storeOver f q = f q := by
  induction l generalizing f with
  | nil => rfl
  | cons e l ih =>
    rw [List.foldl_cons, ih (fun e' he' => h e' (List.mem_cons_of_mem _ he')), storeOver_of_not (h e List.mem_cons_self)]

/-- The last store of a list that covers an address stays there. -/
theorem foldl_storeOver_of_last {l₁ l₂ : List (Nat × List Byte)} {e : Nat × List Byte} {q : Nat} (he : Covers e q)
    (h : ∀ e' ∈ l₂, ¬ Covers e' q) (f : Nat → Byte) : (l₁ ++ e :: l₂).foldl storeOver f q = e.2.getD (q - e.1) 0 := by
  rw [List.foldl_append, List.foldl_cons, foldl_storeOver_of_not h, storeOver_of_covers he]

section Store
variable {s : State} (harm : s.memx.armed = none)
include harm

/-- A store counted. -/
theorem State.writeMem_countMem {pa : Nat} {b : List Byte} (hone : oneMemory pa b.length) (h : s.cleanAt pa b.length) (r : Req) (wr : Bool) :
    Wrote s ((s.writeMem pa b).countMem r pa b.length wr) ∧ ((s.writeMem pa b).countMem r pa b.length wr).byte = storeOver s.byte (pa, b) := by
  have hst := State.writeMem_stored harm hone h
  have hcnt := State.countMem_counted (s.writeMem pa b) r pa b.length wr
  exact ⟨hst.wrote.trans hcnt.wrote, hcnt.byte.trans (funext hst.bytes)⟩

/-- Stores one after another, each counted. -/
theorem State.foldl_writeMem_countMem {α : Type} {l : List α} {pa : α → Nat} {b : α → List Byte} {r : State → Req} {n : Nat}
    (hlen : ∀ e ∈ l, (b e).length = n) (hone : ∀ e ∈ l, oneMemory (pa e) n) (h : ∀ e ∈ l, s.cleanAt (pa e) n) :
    let t := l.foldl (fun s e => (s.writeMem (pa e) (b e)).countMem (r s) (pa e) n true) s
    Wrote s t ∧ t.byte = (l.map (fun e => (pa e, b e))).foldl storeOver s.byte := by
  induction l generalizing s with
  | nil => exact ⟨.refl s, rfl⟩
  | cons e l ih =>
    have hn := hlen e List.mem_cons_self
    obtain ⟨h1, h2⟩ := State.writeMem_countMem harm (hn.symm ▸ hone e List.mem_cons_self) (hn.symm ▸ h e List.mem_cons_self) (r s) true
    rw [hn] at h1 h2
    obtain ⟨h3, h4⟩ := ih (s := (s.writeMem (pa e) (b e)).countMem (r s) (pa e) n true) (by rw [h1.only]; exact harm)
      (fun e' he' => hlen e' (List.mem_cons_of_mem _ he')) (fun e' he' => hone e' (List.mem_cons_of_mem _ he'))
      (fun e' he' g hg => (h1.delta g).trans (h e' (List.mem_cons_of_mem _ he') g hg))
    exact ⟨h1.trans h3, by rw [List.foldl_cons, h4, h2]; rfl⟩

end Store

theorem State.cleanAt_of_same {s u : State} (he : u.ecc = s.ecc) {pa n : Nat} (h : s.cleanAt pa n) : u.cleanAt pa n := by
  intro g hg
  have := h g hg
  unfold State.delta at this ⊢
  rw [he]
  exact this

theorem State.byte_of_same {s u : State} (hm : u.mem = s.mem) : u.byte = s.byte := by
  funext q
  unfold State.byte
  rw [hm]

/-! ### The own core store -/

section Own
variable {s : State} {x : Issue} {i : Instr} {regs srcs : List RegRef} {a : W64} {al n : Nat}
  (he : exec i s = slotStep s x i) (hmay : s.mayIssue x regs) (hclear : s.fenceClear x) (hf : ∀ z, i ≠ .cFence z)
  (hal : a.toNat % al = 0) (hend : a.toNat + n ≤ 0x200000) (hclean : s.cleanAt (storeBase x.core + a.toNat) n)
include he hmay hclear hf hal hend hclean

/-- An aligned load inside the core store goes out with its result. -/
theorem ran_cLoad {g : List Byte → RegWrite} {w : RegWrite} (hregs : srcs ++ [(g []).ref] ⊆ regs)
    (ho : slotOut i s x.core x.thread = some (cLoad s x.core x.thread a al n srcs g))
    (hw : g (s.bytes (storeBase x.core + a.toNat) n) = w) :
    Ran i s x ((s.thr x.core x.thread).issued .localLoad [w]) := by
  have hread := State.readMem_of_clean (oneMemory_store x.core a.toNat n) hclean
  have hin : ¬ storeSize < a.toNat + n := by unfold storeSize; omega
  have hload : cLoad s x.core x.thread a al n srcs g =
      { kind := 3, srcs, dsts := [(g []).ref], writes := [w], load := some (.localLoad, false, []),
        act := fun u => ((u.readMem (storeBase x.core + a.toNat) n).1).countMem (u.reqThr x.core x.thread)
                          (storeBase x.core + a.toNat) n false } := by
    simp [cLoad, hal, hin, hread, poisoned, hw]
  rw [hload] at ho
  refine ran_load he hmay hclear hf hregs (.inl rfl) nofun ho fun u hu => ?_
  rw [State.readMem_of_clean (oneMemory_store x.core a.toNat n) (State.cleanAt_of_same hu hclean)]
  exact State.countMem_counted ..

/-- An aligned store inside the core store stores its bytes. -/
theorem storeRan_cStore {b : List Byte} (harm : s.memx.armed = none) (hn : b.length = n) (hregs : srcs ++ [] ⊆ regs)
    (ho : slotOut i s x.core x.thread = some (cStore x.core x.thread a al srcs b)) :
    let y := s.thr x.core x.thread
    StoreRan i s x (y.goto (y.pc + 32)) (storeBase x.core + a.toNat) b := by
  subst hn
  have ⟨_, _, hbundle, _, _⟩ := hmay
  have hin : ¬ storeSize < a.toNat + b.length := by unfold storeSize; omega
  have hstore : cStore x.core x.thread a al srcs b =
      { kind := 3, srcs
        act := fun u => (u.writeMem (storeBase x.core + a.toNat) b).countMem (u.reqThr x.core x.thread) (storeBase x.core + a.toNat) b.length true } := by
    simp [cStore, hal, hin]
  rw [hstore] at ho
  refine exec_stores (P := fun f => ∀ q, f q = storeOver s.byte (storeBase x.core + a.toNat, b) q) he hmay hclear hf hregs ho nofun
    (SlotOut.thread_eq_afterSlot rfl hbundle) fun u hm hecc hmx _ => ?_
  obtain ⟨h1, h2⟩ := State.writeMem_countMem (hmx ▸ harm) (oneMemory_store x.core a.toNat b.length) (State.cleanAt_of_same hecc hclean)
    (u.reqThr x.core x.thread) true
  exact ⟨h1.only, fun q => by rw [h2, State.byte_of_same hm]⟩

end Own

/-- Settles O12. -/
theorem localAccesses : Obligations.LocalAccesses := by
  have hdst (f : CA) : ([.s f.b.toNat] ++ [.s f.a.toNat] : List RegRef) ⊆ [.s f.a.toNat, .s f.b.toNat] := by simp
  have hsrc (f : CA) : ([.s f.b.toNat, .s f.a.toNat] ++ [] : List RegRef) ⊆ [.s f.a.toNat, .s f.b.toNat] := by simp
  refine ⟨fun s x f hmay hclear => ?_, fun s x f hmay hclear harm => ?_⟩
  · intro y a pa zx sx ok
    have load {i : Instr} {n : Nat} (sgn : Bool) (hok : ok n) (hn : a < 0x200000 → a % n = 0 → a + n ≤ 0x200000) (he : exec i s = slotStep s x i)
        (hf : ∀ z, i ≠ .cFence z) (ho : slotOut i s x.core x.thread = some (cLd f s x.core x.thread n sgn)) :
        Ran i s x (y.issued .localLoad [if sgn then sx n else zx n]) := by
      obtain ⟨hal, hlt, -, hclean⟩ := hok
      exact ran_cLoad he hmay hclear hf hal (hn hlt hal) hclean (hdst f) ho (by cases sgn <;> rfl)
    exact ⟨fun h => ⟨load false h (by omega) rfl nofun rfl, load true h (by omega) rfl nofun rfl⟩,
      fun h => ⟨load false h (by omega) rfl nofun rfl, load true h (by omega) rfl nofun rfl⟩,
      fun h => ⟨load false h (by omega) rfl nofun rfl, load true h (by omega) rfl nofun rfl⟩, fun h => load false h (by omega) rfl nofun rfl⟩
  · intro y a pa ok ran
    have store {i : Instr} {n : Nat} (hok : ok n) (hn : a < 0x200000 → a % n = 0 → a + n ≤ 0x200000) (he : exec i s = slotStep s x i)
        (hf : ∀ z, i ≠ .cFence z) (ho : slotOut i s x.core x.thread = some (cSt f s x.core x.thread n)) : ran i n := by
      obtain ⟨hal, hlt, -, hclean⟩ := hok
      exact storeRan_cStore he hmay hclear hf hal (hn hlt hal) hclean harm (length_leBytes _ _) (hsrc f) ho
    exact ⟨fun h => store h (by omega) rfl nofun rfl, fun h => store h (by omega) rfl nofun rfl, fun h => store h (by omega) rfl nofun rfl,
      fun h => store h (by omega) rfl nofun rfl⟩

end Sys2Proof.Machine
end

section
/-! PROOFS. The C slot on whole registers (R240 to R243): vectors, predicates and tile descriptors, word by word, and gather and scatter. -/

namespace Sys2Proof.Machine

/-- Clean granules of a range outside DRAM are clean for a part of it. -/
theorem State.cleanAt_part {s : State} {pa n pa' n' : Nat} (h : s.cleanAt pa n) (hd : dramEnd ≤ pa) (hn : 0 < n') (hlo : pa ≤ pa')
    (hhi : pa' + n' ≤ pa + n) : s.cleanAt pa' n' := by
  intro g hg
  refine h g ?_
  have h1 : granSize pa = 8 := by simp [granSize, isDram, Nat.not_lt.mpr hd]
  have h2 : granSize pa' = 8 := by simp [granSize, isDram, Nat.not_lt.mpr (hd.trans hlo)]
  simp only [granules, span, List.map_map, List.mem_map, List.mem_range, Function.comp, h1, h2] at hg ⊢
  obtain ⟨k, hk, rfl⟩ := hg
  exact ⟨pa' / 8 + k - pa / 8, by omega, by omega⟩

theorem dramEnd_le_store (c a : Nat) : dramEnd ≤ storeBase c + a := by
  unfold storeBase dramEnd
  omega

/-- An address whose covering stores all write v there, or that no store covers and that holds v, holds v afterwards. -/
theorem foldl_storeOver_of_agree {l : List (Nat × List Byte)} {q : Nat} {v : Byte} (h : ∀ e ∈ l, Covers e q → e.2.getD (q - e.1) 0 = v)
    {f : Nat → Byte} (hex : f q = v ∨ ∃ e ∈ l, Covers e q) : l.foldl storeOver f q = v := by
  induction l generalizing f with
  | nil => exact hex.resolve_right (by simp)
  | cons e l ih =>
    refine ih (fun e' he' => h e' (List.mem_cons_of_mem _ he')) ?_
    by_cases hc : Covers e q
    · exact .inl ((storeOver_of_covers hc f).trans (h e List.mem_cons_self hc))
    · rw [storeOver_of_not hc]
      refine hex.imp_right fun ⟨e', he', hc'⟩ => ⟨e', (List.mem_cons.mp he').resolve_left ?_, hc'⟩
      rintro rfl
      exact hc hc'

section Words
variable {s : State} {x : Issue} {f : CV}

/-- C.VST under PEN writes the 8-byte words that the predicate enables (R241). -/
theorem cVst_words (hplain : cvPlain f = true) (hpen : f.pen = true) (hclear : s.fenceClear x) (harm : s.memx.armed = none)
    (hmay : s.mayIssue x [.v f.a.toNat, .s f.b.toNat, .p f.pred.toNat]) :
    let y := s.thr x.core x.thread
    let a := (cvAddr f y).toNat
    let pa := storeBase x.core + a
    a % 64 = 0 → a + 512 ≤ 0x200000 → s.cleanAt pa 512 →
      ∃ t, exec (.cVst x f) s = .next t
        ∧ t = { (s.marked x.core).setThr x.core x.thread (y.goto (y.pc + 32)) with mem := t.mem, ecc := t.ecc, cnt := t.cnt }
        ∧ ∀ q, t.byte q = if pa ≤ q ∧ q < pa + 512 ∧ (y.preg f.pred.toNat).getLsbD ((q - pa) / 8)
                        then (leBytes 512 (y.vreg f.a.toNat).toNat).getD (q - pa) 0 else s.byte q := by
  intro y a pa hal hend hclean
  have ⟨_, _, hbundle, _, _⟩ := hmay
  let on (j : Nat) : Bool := (y.preg f.pred.toNat).getLsbD j
  let b := leBytes 512 (y.vreg f.a.toNat).toNat
  have hb : b.length = 512 := length_leBytes ..
  have ho : slotOut (.cVst x f) s x.core x.thread = some
      { kind := 3, srcs := [.s f.b.toNat, .v f.a.toNat] ++ [.p f.pred.toNat],
        act := fun s => ((List.range 64).filter on).foldl (fun s j =>
          (s.writeMem (pa + 8 * j) ((b.drop (8 * j)).take 8)).countMem (s.reqThr x.core x.thread) (pa + 8 * j) 8 true) s } := by
    show some (slotCVst f s x.core x.thread) = _
    have hlow : ¬ storeSize ≤ (cvAddr f (s.thr x.core x.thread)).toNat := by
      have : a = (cvAddr f (s.thr x.core x.thread)).toNat := rfl
      unfold storeSize
      omega
    have hany : ((List.range 64).any (fun j => (((s.thr x.core x.thread).preg f.pred.toNat).getLsbD j
        && decide (storeSize < (cvAddr f (s.thr x.core x.thread)).toNat + 8 * j + 8)))) = false := by
      simp only [List.any_eq_false, List.mem_range, Bool.and_eq_true, decide_eq_true_eq, not_and]
      intro j hj _
      have : a = (cvAddr f (s.thr x.core x.thread)).toNat := rfl
      unfold storeSize
      omega
    have hal' : (cvAddr f (s.thr x.core x.thread)).toNat % 64 = 0 := hal
    simp only [slotCVst, hplain, hpen, hany, hlow, hal']
    rfl
  refine exec_stores (i := .cVst x f) (P := fun g => ∀ q, g q =
    if pa ≤ q ∧ q < pa + 512 ∧ (y.preg f.pred.toNat).getLsbD ((q - pa) / 8) then b.getD (q - pa) 0 else s.byte q) rfl hmay hclear nofun (by simp) ho nofun
    (SlotOut.thread_eq_afterSlot rfl hbundle) fun u hm hecc hmx _ => ?_
  have hpart : ∀ j ∈ (List.range 64).filter on, j < 64 := fun j hj => List.mem_range.mp (List.mem_filter.mp hj).1
  obtain ⟨h1, h2⟩ := State.foldl_writeMem_countMem (s := u) (hmx ▸ harm) (l := (List.range 64).filter on) (pa := fun j => pa + 8 * j)
    (b := fun j => (b.drop (8 * j)).take 8) (r := fun s => s.reqThr x.core x.thread) (n := 8)
    (fun j hj => by have := hpart j hj; rw [List.length_take, List.length_drop, hb]; omega)
    (fun j _ => .inr ((dramEnd_le_store x.core a).trans (Nat.le_add_right _ _)))
    (fun j hj => State.cleanAt_of_same hecc (State.cleanAt_part hclean (dramEnd_le_store x.core a) (by decide) (Nat.le_add_right _ _)
      (by have := hpart j hj; omega)))
  refine ⟨h1.only, fun q => ?_⟩
  show State.byte _ q = _
  rw [show State.byte _ = _ from h2, State.byte_of_same hm]
  have hcov (j : Nat) (hj : j < 64) : Covers (pa + 8 * j, (b.drop (8 * j)).take 8) q ↔ pa ≤ q ∧ (q - pa) / 8 = j := by
    have hlen : ((b.drop (8 * j)).take 8).length = 8 := by rw [List.length_take, List.length_drop, hb]; omega
    simp only [Covers, hlen]
    omega
  by_cases hq : pa ≤ q ∧ q < pa + 512 ∧ on ((q - pa) / 8) = true
  · obtain ⟨hlo, hhi, hon⟩ := hq
    rw [if_pos ⟨hlo, hhi, hon⟩]
    refine foldl_storeOver_of_agree (fun e he hc => ?_) (.inr ⟨_, List.mem_map_of_mem (List.mem_filter.mpr ⟨List.mem_range.mpr ?_, hon⟩),
      (hcov _ ?_).mpr ⟨hlo, rfl⟩⟩)
    · obtain ⟨j, hj, rfl⟩ := List.mem_map.mp he
      obtain ⟨-, rfl⟩ := (hcov j (hpart j hj)).mp hc
      show ((b.drop (8 * ((q - pa) / 8))).take 8).getD (q - (pa + 8 * ((q - pa) / 8))) 0 = b.getD (q - pa) 0
      rw [List.getD_eq_getElem?_getD, List.getElem?_take_of_lt (by omega), List.getElem?_drop, List.getD_eq_getElem?_getD]
      congr 2
      omega
    · omega
    · omega
  · rw [if_neg hq]
    refine foldl_storeOver_of_not (fun e he hc => hq ?_) _
    obtain ⟨j, hj, rfl⟩ := List.mem_map.mp he
    have hj64 := hpart j hj
    obtain ⟨hlo, rfl⟩ := (hcov j hj64).mp hc
    exact ⟨hlo, by omega, (List.mem_filter.mp hj).2⟩

end Words

/-! ### Gather and scatter (R242) -/

/-- Steps along a list that each only count. -/
theorem Counted.foldl_mem {α : Type} {f : State → α → State} {l : List α} {u s : State} (h : ∀ a ∈ l, ∀ v, Counted u v → Counted v (f v a))
    (hs : Counted u s) : Counted u (l.foldl f s) := by
  induction l generalizing s with
  | nil => exact hs
  | cons a l ih =>
    exact ih (fun a' ha' => h a' (List.mem_cons_of_mem _ ha')) (hs.trans (h a List.mem_cons_self s hs))

theorem leNat_lt (b : List Byte) : leNat b < 256 ^ b.length := by
  induction b with
  | nil => decide
  | cons x b ih =>
    have := x.isLt
    rw [leNat, List.length_cons, Nat.pow_succ]
    omega

section Lanes
variable {s : State} {x : Issue} {f : CV}

/-- The enabled lanes of a gather or a scatter. -/
def cvOn (f : CV) (y : Thread) : List Nat :=
  (List.range (512 / (2 * 2 ^ f.width.toNat))).filter (fun i => !f.pen || (y.preg f.pred.toNat).getLsbD i)

/-- The address of a lane. -/
def cvAt (f : CV) (y : Thread) (k : Nat) : Nat :=
  (cvAddr f y + BitVec.ofNat 64 (2 * 2 ^ f.width.toNat * lane (y.vreg f.vc.toNat) (8 * (2 * 2 ^ f.width.toNat)) k)).toNat

theorem find?_map_key {β : Type} (l : List Nat) (F : Nat → β) (i : Nat) :
    (l.map (fun k => (k, F k))).find? (fun r => decide (r.1 = i)) = if i ∈ l then some (i, F i) else none := by
  induction l with
  | nil => rfl
  | cons k l ih =>
    rw [List.map_cons, List.find?_cons]
    by_cases h : k = i
    · subst h; simp
    · simp only [h, decide_false, ih, List.mem_cons, Ne.symm h, false_or]

/-- With every enabled lane aligned and inside the core store, no cause. -/
theorem cvLanes_of_ok {y : Thread} (hw : f.width.toNat ≠ 3)
    (h : ∀ k ∈ cvOn f y, cvAt f y k % (2 * 2 ^ f.width.toNat) = 0 ∧ cvAt f y k < 0x200000) :
    cvLanes f y = (none, (cvOn f y).map (fun k => (k, cvAt f y k))) := by
  have hw' : f.width ≠ 3 := fun e => hw (by rw [e]; rfl)
  have h1 : ((cvOn f y).map (fun k => (k, cvAt f y k))).any (fun l => decide (l.2 % (2 * 2 ^ f.width.toNat) ≠ 0)) = false := by
    simp only [List.any_map, List.any_eq_false, Function.comp, decide_eq_true_eq, not_not]
    exact fun k hk => (h k hk).1
  have h2 : ((cvOn f y).map (fun k => (k, cvAt f y k))).any (fun l => decide (storeSize ≤ l.2)) = false := by
    simp only [List.any_map, List.any_eq_false, Function.comp, decide_eq_true_eq, not_le]
    exact fun k hk => (h k hk).2
  have e : cvLanes f y = (if f.width = 3 then some cBundle
      else if ((cvOn f y).map (fun k => (k, cvAt f y k))).any (fun l => decide (l.2 % (2 * 2 ^ f.width.toNat) ≠ 0)) then some cAlign
      else if ((cvOn f y).map (fun k => (k, cvAt f y k))).any (fun l => decide (storeSize ≤ l.2)) then some cBounds
      else none, (cvOn f y).map (fun k => (k, cvAt f y k))) := rfl
  simp only [e, hw', h1, h2, if_false, Bool.false_eq_true]

theorem mem_cvOn {y : Thread} {k : Nat} :
    k ∈ cvOn f y ↔ k < 512 / (2 * 2 ^ f.width.toNat) ∧ (!f.pen || (y.preg f.pred.toNat).getLsbD k) = true := by
  simp [cvOn]

theorem cvWidth_cases (hw : f.width.toNat ≠ 3) : 2 * 2 ^ f.width.toNat = 2 ∨ 2 * 2 ^ f.width.toNat = 4 ∨ 2 * 2 ^ f.width.toNat = 8 := by
  have : f.width.toNat = 0 ∨ f.width.toNat = 1 ∨ f.width.toNat = 2 := by omega
  rcases this with h | h | h <;> simp [h]

theorem cvWidth_lanes (hw : f.width.toNat ≠ 3) : 8 * (2 * 2 ^ f.width.toNat) * (512 / (2 * 2 ^ f.width.toNat)) ≤ 4096 := by
  rcases cvWidth_cases hw with h | h | h <;> rw [h]

variable (hw : f.width.toNat ≠ 3) (hclear : s.fenceClear x) (hmay : s.mayIssue x (cvIdxSrcs f))
  (hok : ∀ k ∈ cvOn f (s.thr x.core x.thread), cvAt f (s.thr x.core x.thread) k % (2 * 2 ^ f.width.toNat) = 0
    ∧ cvAt f (s.thr x.core x.thread) k < 0x200000
    ∧ s.cleanAt (storeBase x.core + cvAt f (s.thr x.core x.thread) k) (2 * 2 ^ f.width.toNat))
include hw hclear hmay hok

/-- A gather moves the elements of its enabled lanes and keeps the others. -/
theorem cVgth_ran :
    let y := s.thr x.core x.thread
    let w := 2 * 2 ^ f.width.toNat
    ∃ X : Vec, Ran (.cVgth x f) s x (y.issued .localLoad [.v f.a.toNat X])
      ∧ ∀ k < 512 / w, lane X (8 * w) k =
          if (!f.pen || (y.preg f.pred.toNat).getLsbD k) = true then leNat (s.bytes (storeBase x.core + cvAt f y k) w)
          else lane (y.vreg f.a.toNat) (8 * w) k := by
  intro y w
  let L := (cvOn f y).map (fun k => (k, cvAt f y k))
  let X := vecOf (8 * w) (512 / w) (fun i => if i ∈ cvOn f y then leNat (s.bytes (storeBase x.core + cvAt f y i) w)
    else lane (y.vreg f.a.toNat) (8 * w) i)
  have hlanes : cvLanes f (s.thr x.core x.thread) = (none, L) := cvLanes_of_ok hw fun k hk => ⟨(hok k hk).1, (hok k hk).2.1⟩
  have hrd : L.map (fun l => (l.1, s.readMem (storeBase x.core + l.2) w))
      = (cvOn f y).map (fun k => (k, s, ([] : List Nat), s.bytes (storeBase x.core + cvAt f y k) w)) := by
    rw [List.map_map]
    exact List.map_congr_left fun k hk => by
      show (k, s.readMem _ w) = _
      rw [State.readMem_of_clean (oneMemory_store ..) (hok k hk).2.2]
  have ho : slotOut (.cVgth x f) s x.core x.thread = some
      { kind := 3, srcs := cvIdxSrcs f, dsts := [.v f.a.toNat], writes := [.v f.a.toNat X], load := some (.localLoad, false, []),
        act := fun u => L.foldl (fun u l => ((u.readMem (storeBase x.core + l.2) w).1).countMem (u.reqThr x.core x.thread)
          (storeBase x.core + l.2) w false) u } := by
    show some (slotCVgth f s x.core x.thread) = _
    have hpois : ((cvOn f y).map (fun k => (k, s, ([] : List Nat), s.bytes (storeBase x.core + cvAt f y k) w))).any
        (fun r => poisoned r.2) = false := by simp [poisoned]
    have hgran : dedupNat (((cvOn f y).map (fun k => (k, s, ([] : List Nat), s.bytes (storeBase x.core + cvAt f y k) w))).flatMap
        (fun r => r.2.2.1)) = [] := by
      rw [List.flatMap_eq_nil_iff.mpr (by simp)]
      rfl
    simp only [slotCVgth, hlanes]
    rw [hrd, hpois, hgran]
    refine congrArg (fun v => some (SlotOut.mk 3 none true (cvIdxSrcs f) [.v f.a.toNat] [.v f.a.toNat v] none (some (.localLoad, false, [])) [] _ false))
      (congrArg (vecOf (8 * w) (512 / w)) (funext fun i => ?_))
    rw [find?_map_key]
    by_cases hi : i ∈ cvOn f y
    · rw [if_pos hi, if_pos hi]
    · rw [if_neg hi, if_neg hi]
  refine ⟨X, ran_load (i := .cVgth x f) rfl hmay hclear nofun (List.append_subset.mpr ⟨List.Subset.refl _, by simp [cvIdxSrcs]⟩) (.inl rfl) nofun ho fun u hu => ?_, fun k hk => ?_⟩
  · have hclean : ∀ l ∈ L, u.cleanAt (storeBase x.core + l.2) w := fun l hl => by
      obtain ⟨k, hk, rfl⟩ := List.mem_map.mp hl
      exact State.cleanAt_of_same hu (hok k hk).2.2
    clear_value L
    have hstep (l : Nat × Nat) (hl : l ∈ L) : ∀ v : State, Counted u v →
        Counted v (((v.readMem (storeBase x.core + l.2) w).1).countMem (v.reqThr x.core x.thread) (storeBase x.core + l.2) w false) := by
      intro v hv
      rw [State.readMem_of_clean (oneMemory_store ..) fun g hg => (hv.wrote.delta g).trans (hclean l hl g hg)]
      exact State.countMem_counted ..
    exact Counted.foldl_mem hstep (Counted.refl u)
  · rw [lane_vecOf (cvWidth_lanes hw), if_pos hk]
    by_cases hon : (!f.pen || (y.preg f.pred.toNat).getLsbD k) = true
    · rw [if_pos (mem_cvOn.mpr ⟨hk, hon⟩), if_pos hon, Nat.pow_mul]
      have := leNat_lt (s.bytes (storeBase x.core + cvAt f y k) w)
      rw [State.length_bytes] at this
      exact Nat.mod_eq_of_lt this
    · rw [if_neg (fun h => hon (mem_cvOn.mp h).2), if_neg hon, lane_mod]

/-- A scatter stores the elements of its enabled lanes, in ascending order. -/
theorem cVsct_stores (harm : s.memx.armed = none) :
    let y := s.thr x.core x.thread
    let w := 2 * 2 ^ f.width.toNat
    ∃ t, exec (.cVsct x f) s = .next t
      ∧ t = { (s.marked x.core).setThr x.core x.thread (y.goto (y.pc + 32)) with mem := t.mem, ecc := t.ecc, cnt := t.cnt }
      ∧ t.byte = ((cvOn f y).map (fun k => (storeBase x.core + cvAt f y k, leBytes w (lane (y.vreg f.a.toNat) (8 * w) k)))).foldl storeOver s.byte := by
  intro y w
  have ⟨_, _, hbundle, _, _⟩ := hmay
  let L := (cvOn f y).map (fun k => (k, cvAt f y k))
  have hlanes : cvLanes f (s.thr x.core x.thread) = (none, L) := cvLanes_of_ok hw fun k hk => ⟨(hok k hk).1, (hok k hk).2.1⟩
  have ho : slotOut (.cVsct x f) s x.core x.thread = some
      { kind := 3, srcs := cvIdxSrcs f,
        act := fun u => L.foldl (fun u l => (u.writeMem (storeBase x.core + l.2) (leBytes w (lane (y.vreg f.a.toNat) (8 * w) l.1))).countMem
          (u.reqThr x.core x.thread) (storeBase x.core + l.2) w true) u } := by
    show some (slotCVsct f s x.core x.thread) = _
    simp only [slotCVsct, hlanes]
    rfl
  refine exec_stores (i := .cVsct x f) (P := fun g => g = _) rfl hmay hclear nofun (by simp) ho nofun
    (SlotOut.thread_eq_afterSlot rfl hbundle) fun u hm hecc hmx _ => ?_
  obtain ⟨h1, h2⟩ := State.foldl_writeMem_countMem (s := u) (hmx ▸ harm) (l := L) (pa := fun l => storeBase x.core + l.2)
    (b := fun l => leBytes w (lane (y.vreg f.a.toNat) (8 * w) l.1)) (r := fun s => s.reqThr x.core x.thread) (n := w)
    (fun l _ => length_leBytes ..) (fun l _ => oneMemory_store ..) (fun l hl => by
      obtain ⟨k, hk, rfl⟩ := List.mem_map.mp hl
      exact State.cleanAt_of_same hecc (hok k hk).2.2)
  refine ⟨h1.only, ?_⟩
  show State.byte _ = _
  rw [show State.byte _ = _ from h2, State.byte_of_same hm, List.map_map]
  rfl

omit hclear hmay in
/-- Two lanes of a scatter whose elements share a byte share their address. -/
theorem cvAt_eq_of_covers {j k q : Nat} (hj : j ∈ cvOn f (s.thr x.core x.thread)) (hk : k ∈ cvOn f (s.thr x.core x.thread))
    {w : Nat} (hwd : 2 * 2 ^ f.width.toNat = w)
    (h1 : cvAt f (s.thr x.core x.thread) j ≤ q) (h2 : q < cvAt f (s.thr x.core x.thread) j + w)
    (h3 : cvAt f (s.thr x.core x.thread) k ≤ q) (h4 : q < cvAt f (s.thr x.core x.thread) k + w) :
    cvAt f (s.thr x.core x.thread) j = cvAt f (s.thr x.core x.thread) k := by
  obtain ⟨hj, -⟩ := hok j hj
  obtain ⟨hk, -⟩ := hok k hk
  have hw := cvWidth_cases hw
  rw [hwd] at hj hk hw
  rcases hw with rfl | rfl | rfl <;> omega

end Lanes

/-- Settles O13. -/
theorem wideAccesses : Obligations.WideAccesses := by
  refine ⟨fun s x f hw hvc hclear _ harm => ?_, fun s x f hw hclear _ harm => ?_⟩
  · intro y a pa d
    have hplain : cvPlain f = true := by simp [cvPlain, hw, hvc]
    have load {i : Instr} {al n : Nat} {regs : List RegRef} (g : List Byte → RegWrite) (hal : a % al = 0) (hend : a + n ≤ 0x200000)
        (hclean : s.cleanAt pa n) (he : exec i s = slotStep s x i) (hf : ∀ z, i ≠ .cFence z) (hmay : s.mayIssue x regs)
        (hregs : [.s f.b.toNat] ++ [(g []).ref] ⊆ regs) (ho : slotOut i s x.core x.thread = some (cvLoad f s x.core x.thread al n g)) :
        Ran i s x (y.issued .localLoad [g (s.bytes pa n)]) := by
      rw [cvLoad, hplain] at ho
      exact ran_cLoad he hmay hclear hf hal hend hclean hregs ho rfl
    have store {i : Instr} {al n : Nat} {regs : List RegRef} {r : RegRef} {b : List Byte} (hal : a % al = 0) (hend : a + n ≤ 0x200000)
        (hclean : s.cleanAt pa n) (he : exec i s = slotStep s x i) (hf : ∀ z, i ≠ .cFence z) (hmay : s.mayIssue x regs)
        (hregs : [.s f.b.toNat, r] ++ [] ⊆ regs) (hn : b.length = n)
        (ho : slotOut i s x.core x.thread = some (cStore x.core x.thread (cvAddr f y) al [.s f.b.toNat, r] b)) :
        StoreRan i s x (y.goto (y.pc + 32)) pa b :=
      storeRan_cStore he hmay hclear hf hal hend hclean harm hn hregs ho
    have plain {i : Instr} {al : Nat} {r : RegRef} {b : List Byte}
        (ho : slotOut i s x.core x.thread = some (cvStore f s x.core x.thread al r b)) :
        slotOut i s x.core x.thread = some (cStore x.core x.thread (cvAddr f y) al [.s f.b.toNat, r] b) := by
      rw [cvStore, hplain] at ho
      exact ho
    refine ⟨fun hal hclean hend => ⟨fun hmay => ⟨load (fun b => .v d (BitVec.ofNat 4096 (leNat b))) hal hend hclean rfl nofun hmay (by simp [RegWrite.ref]) rfl, fun hpen => ?_⟩,
      fun hmay hpen => ?_⟩, fun hal hlt hclean hmay => ?_, fun hal hlt hclean hmay => ?_⟩
    · refine store hal hend hclean (i := .cVst x f) (r := .v d) rfl nofun hmay (by simp) (length_leBytes ..) ?_
      show some (slotCVst f s x.core x.thread) = _
      simp only [slotCVst, hplain, hpen]
      rfl
    · exact cVst_words hplain hpen hclear harm hmay hal hend hclean
    · exact ⟨load (fun b => .p (d % 8) (BitVec.ofNat 512 (leNat b))) hal (by omega) hclean rfl nofun hmay (by simp [RegWrite.ref, d]) rfl,
        store hal (by omega) hclean (i := .cPst x f) rfl nofun hmay (by simp [d]) (length_leBytes ..) (plain rfl)⟩
    · exact ⟨load (fun b => .t (d % 16) (BitVec.ofNat 256 (leNat b))) hal (by omega) hclean rfl nofun hmay (by simp [RegWrite.ref, d]) rfl,
        store hal (by omega) hclean (i := .cTst x f) rfl nofun hmay (by simp [d]) (length_leBytes ..) (plain rfl)⟩
  · intro y w on at_ hmay hok
    have hok' : ∀ k ∈ cvOn f y, cvAt f y k % w = 0 ∧ cvAt f y k < 0x200000 ∧ s.cleanAt (storeBase x.core + cvAt f y k) w := fun k hk =>
      hok k (mem_cvOn.mp hk).1 (mem_cvOn.mp hk).2
    refine ⟨cVgth_ran hw hclear hmay hok', ?_⟩
    obtain ⟨t, hexec, hframe, hbyte⟩ := cVsct_stores hw hclear hmay hok' harm
    refine ⟨t, hexec, hframe, fun k hk hon hlast => ?_, fun q hq => ?_⟩
    · have hkmem : k ∈ cvOn f y := mem_cvOn.mpr ⟨hk, hon⟩
      let e (k : Nat) := (storeBase x.core + cvAt f y k, leBytes w (lane (y.vreg f.a.toNat) (8 * w) k))
      obtain ⟨l₁, l₂, hsplit⟩ := List.append_of_mem hkmem
      have hafter : ∀ j ∈ l₂, k < j := by
        have hsorted : (cvOn f y).Pairwise (· < ·) := List.pairwise_lt_range.filter _
        rw [hsplit] at hsorted
        exact (List.pairwise_cons.mp (List.pairwise_append.mp hsorted).2.1).1
      have hbyte' : t.byte = ((l₁.map e) ++ e k :: l₂.map e).foldl storeOver s.byte := by
        rw [hbyte, hsplit, List.map_append, List.map_cons]
      apply List.ext_getElem?
      intro m
      rw [State.getElem?_bytes]
      by_cases hm : m < w
      · rw [if_pos hm, hbyte']
        have hc : Covers (e k) (storeBase x.core + at_ k + m) := by
          refine ⟨Nat.le_add_right _ _, ?_⟩
          rw [length_leBytes]
          exact Nat.add_lt_add_left hm _
        rw [foldl_storeOver_of_last hc fun e' he' hc' => ?_]
        · have hsub : storeBase x.core + at_ k + m - (e k).1 = m := Nat.add_sub_cancel_left ..
          rw [hsub, List.getD_eq_getElem?_getD, List.getElem?_eq_getElem (by rw [length_leBytes]; exact hm)]
          rfl
        · obtain ⟨j, hj, rfl⟩ := List.mem_map.mp he'
          have hjmem : j ∈ cvOn f y := hsplit ▸ List.mem_append_right _ (List.mem_cons_of_mem _ hj)
          rw [Covers, length_leBytes] at hc'
          obtain ⟨h1, h2⟩ := hc'
          have hat : ∀ q, (e q).1 = storeBase x.core + cvAt f y q := fun _ => rfl
          have hatk : at_ k = cvAt f y k := rfl
          rw [hat, hatk] at h1 h2
          have h1' : cvAt f y j ≤ cvAt f y k + m := by omega
          have h2' : cvAt f y k + m < cvAt f y j + w := by omega
          have heq := cvAt_eq_of_covers hw hok' hjmem hkmem rfl h1' h2' (Nat.le_add_right _ _) (Nat.add_lt_add_left hm _)
          have := hlast j (mem_cvOn.mp hjmem).1 (mem_cvOn.mp hjmem).2 heq
          have := hafter j hj
          omega
      · rw [if_neg hm, List.getElem?_eq_none (by rw [length_leBytes]; omega)]
    · rw [hbyte]
      refine foldl_storeOver_of_not (fun e he hc => ?_) _
      obtain ⟨k, hk, rfl⟩ := List.mem_map.mp he
      obtain ⟨hk, hon⟩ := mem_cvOn.mp hk
      refine hq k hk hon ?_
      rw [Covers, length_leBytes] at hc
      exact hc

end Sys2Proof.Machine
end

section
/-! PROOFS. Global loads and stores and atomics (R190, R193, R244, R302, R304, R311, R312). -/

namespace Sys2Proof.Machine

/-! ### Logs -/

theorem State.event_reported (s : State) (unit sev inst : Nat) (err : W16) : Reported s (s.event unit sev inst err) := s.report_reported _

theorem State.epochDrop_reported (s : State) (c : Nat) :
    Reported (s.wr rMemEpochDrop (BitVec.ofNat 32 (holdAdd (2 ^ 32 - 1) (s.rd rMemEpochDrop).toNat 1))) (s.epochDrop c) :=
  State.event_reported ..

theorem Reported.mem {s t : State} (h : Reported s t) : t.mem = s.mem := by
  obtain ⟨_, _, _, _, _, _, rfl⟩ := h
  rfl

theorem Reported.regs {s t : State} (h : Reported s t) : t.regs = s.regs := by
  obtain ⟨_, _, _, _, _, _, rfl⟩ := h
  rfl

theorem Reported.threads {s t : State} (h : Reported s t) : t.threads = s.threads := by
  obtain ⟨_, _, _, _, _, _, rfl⟩ := h
  rfl

/-! ### Eight aligned bytes -/

/-- Eight aligned bytes lie in one memory. -/
theorem oneMemory_word {pa : Nat} (h : pa % 8 = 0) : oneMemory pa 8 := by
  unfold oneMemory dramEnd
  omega

theorem leBytes_leNat (b : List Byte) : leBytes b.length (leNat b) = b := by
  induction b with
  | nil => rfl
  | cons x b ih =>
    have hx := x.isLt
    rw [List.length_cons, leNat, leBytes]
    have h1 : (x.toNat + 256 * leNat b) / 256 = leNat b := by omega
    rw [h1, ih]
    congr 1
    apply BitVec.eq_of_toNat_eq
    simp only [BitVec.toNat_ofNat]
    omega

/-- The bytes that stand at an address, stored there, change nothing. -/
theorem State.storeOver_same (s : State) (pa : Nat) :
    storeOver s.byte (pa, leBytes 8 (BitVec.ofNat 64 (leNat (s.bytes pa 8))).toNat) = s.byte := by
  have hlt := leNat_lt (s.bytes pa 8)
  have heq := leBytes_leNat (s.bytes pa 8)
  rw [State.length_bytes] at hlt heq
  rw [BitVec.toNat_ofNat, Nat.mod_eq_of_lt (show _ < 2 ^ 64 from hlt), heq]
  funext q
  unfold storeOver
  simp only [State.length_bytes]
  split
  · next h =>
    rw [List.getD_eq_getElem?_getD, State.getElem?_bytes, if_pos (by omega), Nat.add_sub_cancel' h.1]
    rfl
  · rfl

/-- A larder address is in no core store. -/
theorem storeOf_of_larder {pa : Nat} (h : (larderOf pa).isSome = true) : storeOf pa = none := by
  have hr : (larderBase 0 ≤ pa ∧ pa < larderBase 0 + larderSize) ∨ (larderBase 1 ≤ pa ∧ pa < larderBase 1 + larderSize) := by
    unfold larderOf at h
    split at h
    · exact .inl ‹_›
    · split at h
      · exact .inr ‹_›
      · exact absurd h nofun
  simp only [larderBase, larderSize] at hr
  unfold storeOf
  rw [if_neg]
  omega

/-! ### A write of a thread (R190, R304) -/

section Land
variable {s u : State} {c t pa : Nat} {b : List Byte} {work : Bool}

theorem State.globalWrite_of_ok (hcheck : (u.thr c t).checkrun = false) (hok : u.writeOk c t = true) :
    u.globalWrite c t pa b work = u.landWrite c t pa b := by
  simp [State.globalWrite, hcheck, hok]

theorem State.globalWrite_of_old (hcheck : (u.thr c t).checkrun = false) (hok : u.writeOk c t = false) :
    u.globalWrite c t pa b work = u.epochDrop ((u.logical c).getD 255) := by
  simp [State.globalWrite, hcheck, hok]

/-- A write to memory that is in no frozen core lands. -/
theorem State.landWrite_lands (harm : u.memx.armed = none) (hone : oneMemory pa b.length) (hclean : u.cleanAt pa b.length)
    (hfree : ∀ i, storeOf pa = some i → u.rdB (rCoreStat i) 4 = false) :
    Wrote u (u.landWrite c t pa b) ∧ (u.landWrite c t pa b).byte = storeOver u.byte (pa, b) := by
  have hcnt := u.countMem_counted (u.reqThr c t) pa b.length true
  generalize hv : u.countMem (u.reqThr c t) pa b.length true = v at hcnt
  have hst := State.writeMem_stored (s := v) (by rw [show v = _ from hcnt]; exact harm) hone (fun g hg => (hcnt.wrote.delta g).trans (hclean g hg))
  have hland : u.landWrite c t pa b = v.writeMem pa b := by
    unfold State.landWrite
    rw [hv]
    split
    · next i hi =>
      have hnot : v.frozen i = false := by rw [show v = _ from hcnt]; exact hfree i hi
      simp only [hnot, Bool.false_eq_true, if_false]
    · rfl
  rw [hland]
  refine ⟨hcnt.wrote.trans hst.wrote, ?_⟩
  rw [← hcnt.byte]
  exact funext hst.bytes

end Land

/-- A state whose thread has gone on keeps what the write rules ask of it. -/
theorem State.writeOk_of_thread {s u : State} {c t : Nat} {y : Thread} (hu : u = { (s.marked c).setThr c t y with cnt := u.cnt }) :
    u.writeOk c t = decide (y.epoch = s.epoch ((s.logical c).getD 255)) := by
  have hthr : u.thr c t = y := (congrArg (·.thr c t) hu).trans ((s.marked c).thr_setThr_self c t y)
  rw [State.writeOk, hthr, hu]
  rfl

section Slot
variable {s : State} {x : Issue}

/-! ### Loads -/

/-- The bundle of a slot that cannot go on yet waits: it changes nothing but the counters. -/
theorem exec_of_not_ready {i : Instr} {o : SlotOut} {regs : List RegRef} (he : exec i s = slotStep s x i) (hmay : s.mayIssue x regs)
    (hclear : s.fenceClear x) (hf : ∀ z, i ≠ .cFence z) (ho : slotOut i s x.core x.thread = some o) (hr : o.ready = false) :
    ∃ t, exec i s = .next t ∧ t.thr x.core x.thread = s.thr x.core x.thread ∧ t.mem = s.mem := by
  obtain ⟨hm, hst, hb, hi, -⟩ := hmay
  have hel : s.eligible x.core x.thread [o] = false := by simp [State.eligible, hr]
  refine ⟨_, he, ?_⟩
  rw [State.issueSlot_one hm hst hi hb, bundleOuts_of_fenceClear hf hclear ho]
  have hy : ({ s.thr x.core x.thread with bundle := [] } : Thread) = s.thr x.core x.thread := by rw [← hb]
  simp only [State.issueOuts, State.runBundle, hel, Bool.not_false, if_true, hy]
  rw [State.count_countBlock_only]
  exact ⟨State.thr_setThr_self .., rfl⟩

/-- The slot of a global load of memory. -/
theorem slotCGld_mem {f : CA} {pa : Nat} (hal : (caAddr f (s.thr x.core x.thread)).toNat % 8 = 0) (hpa : pa % 8 = 0) (hclean : s.cleanAt pa 8)
    (htarget : s.gTarget (s.thr x.core x.thread).part (caAddr f (s.thr x.core x.thread)).toNat = some (.mem pa)
      ∨ s.gTarget (s.thr x.core x.thread).part (caAddr f (s.thr x.core x.thread)).toNat = some (.work pa)) :
    slotCGld f s x.core x.thread =
      { kind := 3, ready := !s.frozenStore pa, srcs := [.s f.b.toNat], dsts := [.s f.a.toNat],
        writes := [.s f.a.toNat (BitVec.ofNat 64 (leNat (s.bytes pa 8)))], load := some (.globalLoad, false, []),
        act := fun u => ((u.readMem pa 8).1).countMem (u.reqThr x.core x.thread) pa 8 false } := by
  have hread := State.readMem_of_clean (oneMemory_word hpa) hclean
  rcases htarget with h | h <;> simp [slotCGld, hal, h, hread, poisoned]

/-- The slot of a global load of a latch. -/
theorem slotCGld_latch {f : CA} {i j o : Nat} (hal : (caAddr f (s.thr x.core x.thread)).toNat % 8 = 0)
    (htarget : s.gTarget (s.thr x.core x.thread).part (caAddr f (s.thr x.core x.thread)).toNat = some (.latch i j o)) :
    slotCGld f s x.core x.thread =
      { kind := 3, ready := !s.rdB (rCoreStat i) 4, srcs := [.s f.b.toNat], dsts := [.s f.a.toNat],
        writes := [.s f.a.toNat ((s.latchView i j >>> (8 * o)).setWidth 64)], load := some (.globalLoad, false, []) } := by
  simp [slotCGld, hal, htarget]

/-! ### Stores -/

/-- The slot of a global store. -/
theorem slotCGst_mem {f : CA} {pa : Nat} (hal : (caAddr f (s.thr x.core x.thread)).toNat % 8 = 0)
    (htarget : s.gTarget (s.thr x.core x.thread).part (caAddr f (s.thr x.core x.thread)).toNat = some (.mem pa)) :
    slotCGst f s x.core x.thread =
      { kind := 3, srcs := [.s f.b.toNat, .s f.a.toNat], load := some (.globalStore, false, []),
        act := fun u => u.globalWrite x.core x.thread pa (leBytes 8 ((s.thr x.core x.thread).sreg f.a.toNat).toNat) false } := by
  simp [slotCGst, hal, htarget]

theorem SlotOut.thread_globalStore {srcs : List RegRef} {act : State → State} {y : Thread} (hb : y.bundle = []) :
    SlotOut.thread { kind := 3, srcs, load := some (.globalStore, false, []), act } y = y.issued .globalStore [] := by
  simp only [SlotOut.thread, Thread.issued, ← hb]
  rfl

theorem SlotOut.thread_atomic {srcs dsts : List RegRef} {writes : List RegWrite} {act : State → State} {y : Thread} (hb : y.bundle = []) :
    SlotOut.thread { kind := 3, srcs, dsts, writes, load := some (.atomic, false, []), act } y = y.issued .atomic writes := by
  simp only [SlotOut.thread, Thread.issued, ← hb]
  rfl

/-! ### Atomics -/

/-- An atomic on a word of memory under the current epoch: the old word goes out to the register, and the new word, if any, is stored. -/
theorem storeRan_cAtomic {i : Instr} {f : CX} {fadd : Bool} {srcs : List RegRef} {g : W64 → Option W64} {pa : Nat} {v : W64}
    {regs : List RegRef} (he : exec i s = slotStep s x i) (hf : ∀ z, i ≠ .cFence z) (hrsv : f.rsv = 0) (hclear : s.fenceClear x)
    (hroom : s.room x.core x.thread) (harm : s.memx.armed = none) (hmay : s.mayIssue x regs)
    (hregs : (RegRef.s f.b.toNat :: srcs) ++ [.s f.a.toNat] ⊆ regs)
    (hal : ((s.thr x.core x.thread).sreg f.b.toNat).toNat % 8 = 0)
    (htarget : s.gTarget (s.thr x.core x.thread).part ((s.thr x.core x.thread).sreg f.b.toNat).toNat = some (.mem pa))
    (hlarder : (larderOf pa).isSome = true) (hpa : pa % 8 = 0) (hclean : s.cleanAt pa 8)
    (hcheck : (s.thr x.core x.thread).checkrun = false) (hok : s.writeOk x.core x.thread = true)
    (ho : slotOut i s x.core x.thread = some (cAtomic f s x.core x.thread fadd srcs g))
    (hv : g (BitVec.ofNat 64 (leNat (s.bytes pa 8))) = some v
      ∨ (g (BitVec.ofNat 64 (leNat (s.bytes pa 8))) = none ∧ v = BitVec.ofNat 64 (leNat (s.bytes pa 8)))) :
    StoreRan i s x ((s.thr x.core x.thread).issued .atomic [.s f.a.toNat (BitVec.ofNat 64 (leNat (s.bytes pa 8)))]) pa (leBytes 8 v.toNat) := by
  have ⟨_, _, hbundle, _, _⟩ := hmay
  have hone := oneMemory_word hpa
  have hread := State.readMem_of_clean hone hclean
  have hslot : cAtomic f s x.core x.thread fadd srcs g =
      { kind := 3, srcs := .s f.b.toNat :: srcs, dsts := [.s f.a.toNat],
        writes := [.s f.a.toNat (BitVec.ofNat 64 (leNat (s.bytes pa 8)))], load := some (.atomic, false, []),
        act := fun u =>
          let s1 := ((u.readMem pa 8).1).countMem (u.reqThr x.core x.thread) pa 8 false
          match g (BitVec.ofNat 64 (leNat (s.bytes pa 8))) with
          | some v => s1.globalWrite x.core x.thread pa (leBytes 8 v.toNat) false
          | none => s1 } := by
    simp [cAtomic, hrsv, hal, htarget, hlarder, hread, poisoned] <;> rfl
  rw [hslot] at ho
  have hold := State.storeOver_same s pa
  refine exec_stores (P := fun f => ∀ q, f q = storeOver s.byte (pa, leBytes 8 v.toNat) q) he hmay hclear hf hregs ho
    (fun _ _ _ _ => .inr hroom) (SlotOut.thread_atomic hbundle) fun u hm hecc hmx hu => ?_
  have hcnt := u.countMem_counted (u.reqThr x.core x.thread) pa 8 false
  dsimp only
  rw [State.readMem_of_clean hone (State.cleanAt_of_same hecc hclean)]
  generalize hs1 : u.countMem (u.reqThr x.core x.thread) pa 8 false = s1 at hcnt
  have hs1u := (show Counted _ u from hu).trans hcnt
  rcases hv with hv | ⟨hv, rfl⟩ <;> rw [hv] <;> dsimp only
  · have hthr : s1.thr x.core x.thread = (s.thr x.core x.thread).issued .atomic [.s f.a.toNat (BitVec.ofNat 64 (leNat (s.bytes pa 8)))] :=
      (congrArg (·.thr x.core x.thread) hs1u).trans ((s.marked x.core).thr_setThr_self _ _ _)
    rw [State.globalWrite_of_ok (by rw [hthr]; exact hcheck) ((State.writeOk_of_thread hs1u).trans hok)]
    obtain ⟨h1, h2⟩ := State.landWrite_lands (u := s1) (c := x.core) (t := x.thread) (b := leBytes 8 v.toNat)
      (by rw [show s1 = _ from hcnt]; exact hmx ▸ harm) (by rw [length_leBytes]; exact hone)
      (by rw [length_leBytes]; exact fun g hg => (hcnt.wrote.delta g).trans (State.cleanAt_of_same hecc hclean g hg))
      (fun j hj => absurd hj (by rw [storeOf_of_larder hlarder]; nofun))
    exact ⟨(hcnt.wrote.trans h1).only, fun q => by rw [h2, hcnt.byte, State.byte_of_same hm]⟩
  · exact ⟨hcnt.wrote.only, fun q => by rw [hcnt.byte, State.byte_of_same hm]; exact (congrFun hold q).symm⟩

/-- A global store under the current epoch lands. -/
theorem storeRan_cGst {f : CA} {pa : Nat} (hclear : s.fenceClear x) (hroom : s.room x.core x.thread) (harm : s.memx.armed = none)
    (hmay : s.mayIssue x [.s f.a.toNat, .s f.b.toNat]) (hal : (caAddr f (s.thr x.core x.thread)).toNat % 8 = 0)
    (htarget : s.gTarget (s.thr x.core x.thread).part (caAddr f (s.thr x.core x.thread)).toNat = some (.mem pa))
    (hclean : s.cleanAt pa 8) (hpa : pa % 8 = 0) (hcheck : (s.thr x.core x.thread).checkrun = false) (hok : s.writeOk x.core x.thread = true)
    (hfree : ∀ i, storeOf pa = some i → s.rdB (rCoreStat i) 4 = false) :
    let y := s.thr x.core x.thread
    StoreRan (.cGst x f) s x (y.issued .globalStore []) pa (leBytes 8 (y.sreg f.a.toNat).toNat) := by
  have ⟨_, _, hbundle, _, _⟩ := hmay
  refine exec_stores (P := fun g => ∀ q, g q = storeOver s.byte (pa, leBytes 8 ((s.thr x.core x.thread).sreg f.a.toNat).toNat) q)
    (i := .cGst x f) rfl hmay hclear nofun (by simp) (congrArg some (slotCGst_mem hal htarget))
    (fun _ _ _ _ => .inr hroom) (SlotOut.thread_globalStore hbundle) fun u hm hecc hmx hu => ?_
  have hthr : u.thr x.core x.thread = (s.thr x.core x.thread).issued .globalStore [] :=
    (congrArg (·.thr x.core x.thread) hu).trans ((s.marked x.core).thr_setThr_self _ _ _)
  rw [State.globalWrite_of_ok (by rw [hthr]; exact hcheck) ((State.writeOk_of_thread hu).trans hok)]
  obtain ⟨h1, h2⟩ := State.landWrite_lands (u := u) (c := x.core) (t := x.thread)
    (b := leBytes 8 ((s.thr x.core x.thread).sreg f.a.toNat).toNat)
    (hmx ▸ harm) (by rw [length_leBytes]; exact oneMemory_word hpa) (by rw [length_leBytes]; exact State.cleanAt_of_same hecc hclean)
    (fun j hj => by rw [hu]; exact hfree j hj)
  exact ⟨h1.only, fun q => by rw [h2, State.byte_of_same hm]⟩

/-- A global store under an older epoch is dropped and counted. -/
theorem cGst_dropped {f : CA} {pa : Nat} (hclear : s.fenceClear x) (hroom : s.room x.core x.thread)
    (hmay : s.mayIssue x [.s f.a.toNat, .s f.b.toNat]) (hal : (caAddr f (s.thr x.core x.thread)).toNat % 8 = 0)
    (htarget : s.gTarget (s.thr x.core x.thread).part (caAddr f (s.thr x.core x.thread)).toNat = some (.mem pa))
    (hcheck : (s.thr x.core x.thread).checkrun = false) (hold : s.writeOk x.core x.thread = false) :
    ∃ t, exec (.cGst x f) s = .next t ∧ (∀ q, t.byte q = s.byte q) ∧ t.thr x.core x.thread = (s.thr x.core x.thread).issued .globalStore []
      ∧ (t.rd rMemEpochDrop).toNat = min (2 ^ 32 - 1) ((s.rd rMemEpochDrop).toNat + 1) := by
  have ⟨_, _, hbundle, _, _⟩ := hmay
  obtain ⟨t, u, hexec, ht, hu⟩ := exec_alone (i := .cGst x f) rfl hmay (congrArg some (slotCGst_mem hal htarget)) nofun (.inl hclear) rfl rfl
    (by simp) (fun _ _ _ _ => .inr hroom) rfl
  rw [SlotOut.thread_globalStore hbundle] at hu
  have hthr : u.thr x.core x.thread = (s.thr x.core x.thread).issued .globalStore [] :=
    (congrArg (·.thr x.core x.thread) hu).trans ((s.marked x.core).thr_setThr_self _ _ _)
  have hrd : u.rd rMemEpochDrop = s.rd rMemEpochDrop := by rw [hu]; rfl
  dsimp only at ht
  rw [State.globalWrite_of_old (by rw [hthr]; exact hcheck) ((State.writeOk_of_thread hu).trans hold)] at ht
  have hrep := u.epochDrop_reported ((u.logical x.core).getD 255)
  refine ⟨t, hexec, fun q => ?_, ?_, ?_⟩
  · rw [ht]
    show tget _ (u.epochDrop ((u.logical x.core).getD 255)).mem q = _
    rw [hrep.mem, hu]
    rfl
  · rw [ht, ← hthr]
    show tget _ (u.epochDrop ((u.logical x.core).getD 255)).threads _ = _
    rw [hrep.threads]
    rfl
  · rw [ht]
    show BitVec.toNat (tget _ (u.epochDrop ((u.logical x.core).getD 255)).regs _) = _
    rw [hrep.regs]
    refine (congrArg BitVec.toNat (State.rd_wr_self u _ _)).trans ?_
    rw [hrd, holdAdd, BitVec.toNat_ofNat]
    omega

end Slot

/-- Settles O14. -/
theorem globalAccesses : Obligations.GlobalAccesses := by
  refine ⟨fun s x f hclear hroom harm hmay => ?_, fun s x f hrsv hclear hroom harm hmay => ?_⟩
  · intro y a b hal
    refine ⟨fun pa htarget hclean hpa => ⟨fun hfree => ?_, fun hfrozen => ?_⟩, fun pa htarget hclean hpa =>
      ⟨fun hcheck hok hfree => storeRan_cGst hclear hroom harm hmay hal htarget hclean hpa hcheck hok hfree,
       fun hcheck hold => cGst_dropped hclear hroom hmay hal htarget hcheck hold⟩, fun i j o htarget hfree => ?_⟩
    · have ho := slotCGld_mem hal hpa hclean htarget
      rw [hfree] at ho
      refine ran_load (i := .cGld x f) rfl hmay hclear nofun (by simp) (.inr hroom) nofun (congrArg some ho) fun u hu => ?_
      rw [State.readMem_of_clean (oneMemory_word hpa) (State.cleanAt_of_same hu hclean)]
      exact State.countMem_counted ..
    · exact exec_of_not_ready (i := .cGld x f) rfl hmay hclear nofun (congrArg some (slotCGld_mem hal hpa hclean htarget))
        (congrArg (!·) hfrozen)
    · have ho := slotCGld_latch hal htarget
      rw [hfree] at ho
      exact ran_load (i := .cGld x f) rfl hmay hclear nofun (by simp) (.inr hroom) nofun (congrArg some ho) fun u _ => Counted.refl u
  · intro y a v hal pa htarget hlarder hpa hclean hcheck hok old y'
    refine ⟨?_, ?_, ?_⟩
    · have ho : slotOut (.cSwap x f) s x.core x.thread = some (cAtomic f s x.core x.thread false [.s f.val.toNat] (fun _ => some v)) := rfl
      exact storeRan_cAtomic rfl nofun hrsv hclear hroom harm hmay (by simp) hal htarget hlarder hpa hclean hcheck hok ho (.inl rfl)
    · have ho : slotOut (.cFadd x f) s x.core x.thread = some (cAtomic f s x.core x.thread true [.s f.val.toNat] (fun o => some (o + v))) := rfl
      exact storeRan_cAtomic rfl nofun hrsv hclear hroom harm hmay (by simp) hal htarget hlarder hpa hclean hcheck hok ho (.inl rfl)
    · have ho : slotOut (.cCas x f) s x.core x.thread = some (cAtomic f s x.core x.thread false [.s f.val.toNat, .s f.a.toNat]
          (fun o => if o = y.sreg f.a.toNat then some v else none)) := rfl
      refine storeRan_cAtomic rfl nofun hrsv hclear hroom harm hmay (by simp) hal htarget hlarder hpa hclean hcheck hok ho ?_
      show (if old = y.sreg f.a.toNat then some v else none) = some _ ∨ _
      by_cases h : old = y.sreg f.a.toNat
      · exact .inl (by rw [if_pos h, if_pos h])
      · exact .inr ⟨if_neg h, if_neg h⟩

end Sys2Proof.Machine
end

section
/-! PROOFS. The C slot's submissions and latch slots (R241, R246, R314, R375 to R387). -/

namespace Sys2Proof.Machine

/-! ### Packets leave through the fabric -/

theorem State.launch_only (s : State) (own : Bool) (p : Pkt) {t : State} (h : s.launch own p = some t) : ∃ fab, t = { s with fab } := by
  unfold State.launch at h
  split at h
  · exact ⟨_, (Option.some.inj h).symm⟩
  · exact ⟨_, (Option.some.inj h).symm⟩
  · cases h

theorem State.sendStatus_only (s : State) (p : Pkt) (code : W16) : ∃ fab, s.sendStatus p code = { s with fab } := by
  unfold State.sendStatus
  split
  · exact ⟨_, rfl⟩
  · dsimp only
    split
    · exact State.launch_only _ _ _ ‹_›
    · exact ⟨_, rfl⟩

/-- A packet sent touches the fabric only. -/
theorem State.sendPkt_only (s : State) (p : Pkt) : ∃ fab, s.sendPkt p = { s with fab } := by
  unfold State.sendPkt
  split
  · exact State.launch_only _ _ _ ‹_›
  · exact s.sendStatus_only _ _

/-- An arrival records its pending release and sends its packet. -/
theorem State.sendArrival_only (s : State) (p addr : Nat) (round : W64) (core latch : Nat) (child : Bool) :
    ∃ fab freeCtr, s.sendArrival p addr round core latch child =
      { s with fab, freeCtr,
               releases := s.releases ++ [⟨(s.globalCounter addr).1, (s.globalCounter addr).2.1, (s.globalCounter addr).2.2, round, core, latch, child⟩] } := by
  unfold State.sendArrival State.sendBarrier
  dsimp only
  split
  · exact (State.sendPkt_only _ _).imp fun fab h => ⟨_, h⟩
  · exact (State.sendPkt_only _ _).imp fun fab h => ⟨_, h⟩

section Slot
variable {s : State} {x : Issue}

/-! ### No operation and fences -/

theorem ran_cNop (hclear : s.fenceClear x) (hmay : s.mayIssue x []) :
    Ran (.cNop x) s x ((s.thr x.core x.thread).goto ((s.thr x.core x.thread).pc + 32)) := by
  have ⟨_, _, hbundle, _, _⟩ := hmay
  refine ran_of_slot _ s x { kind := 3 } [] _ rfl hmay rfl nofun (.inl hclear) rfl rfl nofun nofun rfl fun u _ hu => ?_
  rw [SlotOut.thread_eq_afterSlot rfl hbundle] at hu
  exact State.eq_of_only_cnt hu

/-- With no fence in force a C.FENCE issues, and holds back the C slot from then on while a global store or an atomic is out. -/
theorem ran_cFence (hclear : s.fenceClear x) (hmay : s.mayIssue x []) :
    let y := s.thr x.core x.thread
    Ran (.cFence x) s x { (y.goto (y.pc + 32)) with fence := y.outs.any (fun o => o.kind = .globalStore || o.kind = .atomic) } := by
  intro y
  obtain ⟨hm, hst, hb, hi, -⟩ := hmay
  have hwait : (y.fence && y.outs.any (fun o => decide (o.kind = .globalStore) || decide (o.kind = .atomic))) = false := by
    rcases hclear with h | h
    · simp [y, h]
    · rw [Bool.and_eq_false_iff]
      refine .inr (List.any_eq_false.mpr fun o ho => ?_)
      simp [h o ho]
  let act (s : State) : State := s.setThr x.core x.thread { s.thr x.core x.thread with
    fence := (s.thr x.core x.thread).outs.any (fun o => o.kind = .globalStore || o.kind = .atomic) }
  have houts : bundleOuts [.cFence x] s x.core x.thread = [{ kind := 3, act }] := by
    have hwait' : ((s.thr x.core x.thread).fence && (s.thr x.core x.thread).outs.any
      (fun o => decide (o.kind = .globalStore) || decide (o.kind = .atomic))) = false := hwait
    simp only [bundleOuts, List.filterMap_cons, List.filterMap_nil, slotOut, Option.map_some, hwait']
    rfl
  have hel : s.eligible x.core x.thread [{ kind := 3, act }] = true := State.eligible_one rfl rfl nofun
  have hcause : bundleCauses [({ kind := 3, act } : SlotOut)] = [] := bundleCauses_one _
  have hrun : s.issueSlot x (.cFence x) = ((act ((((s.marked x.core).setThr x.core x.thread (y.afterSlot [] none)).count
      (s.reqThr x.core x.thread) 18 1).countBlock (0x20000 + 256 * x.core + 128) 1)).count (s.reqThr x.core x.thread) 19 0).countBlock
        (0x20000 + 256 * x.core + 136) 0 := by
    rw [State.issueSlot_one hm hst hi hb, houts]
    unfold State.issueOuts State.runBundle
    have hy : ({ s.thr x.core x.thread with bundle := [], pc := (s.thr x.core x.thread).pc + 32 } : Thread) = y.afterSlot [] none := by
      rw [← hb]
      rfl
    simp only [hel, hcause, Bool.not_true, Bool.false_eq_true, if_false, List.any_cons, List.any_nil, Option.any_none, Bool.or_false,
      List.foldl_cons, List.foldl_nil, List.flatMap_cons, List.flatMap_nil, List.append_nil, List.findSome?_cons, List.findSome?_nil,
      Option.getD_none, hy]
    rfl
  have hset := State.setThr_afterSlot hst (State.count_countBlock_only
    ((s.marked x.core).setThr x.core x.thread (y.afterSlot [] none)) (s.reqThr x.core x.thread) 18 1 (0x20000 + 256 * x.core + 128) 1)
    (fun y => { y with fence := y.outs.any (fun o => o.kind = .globalStore || o.kind = .atomic) })
  exact ⟨_, rfl, State.eq_of_only_cnt (hrun.trans (State.count_countBlock_of_only_cnt hset ..))⟩

/-! ### Submissions -/

omit s x in
/-- A job says of its thread what the thread's slot leaves as it is. -/
theorem State.jobOf_of_thread {s u : State} {c t : Nat} (hu : u = { (s.marked c).setThr c t ((s.thr c t).afterSlot [] none) with cnt := u.cnt })
    (desc : List Byte) (post : Option (W64 × W64)) : u.jobOf c t desc post = s.jobOf c t desc post := by
  have hthr : u.thr c t = (s.thr c t).afterSlot [] none := (congrArg (·.thr c t) hu).trans ((s.marked c).thr_setThr_self c t _)
  have hlog : u.logical c = s.logical c := by rw [hu]; rfl
  simp only [State.jobOf, hthr, hlog]
  rfl

/-- C.DMA reads its descriptor at issue and puts a job at the end of the queue. -/
theorem cDma_queues {f : CD} (hclear : s.fenceClear x) (hrsv : f.rsv = 0) (hmay : s.mayIssue x [.s f.a.toNat]) :
    let y := s.thr x.core x.thread
    let k := dmaIdx x.core f.q.toNat
    let a := (y.sreg f.a.toNat).toNat
    (s.dmaq k).length < 16 → a % 64 = 0 → a < 0x200000 → s.cleanAt (storeBase x.core + a) 64 →
      ∃ t, exec (.cDma x f) s = .next t ∧ t.thr x.core x.thread = y.goto (y.pc + 32)
        ∧ t = { s.marked x.core with threads := t.threads, dma := t.dma, cnt := t.cnt }
        ∧ t.dmaq k = s.dmaq k ++ [s.jobOf x.core x.thread (s.bytes (storeBase x.core + a) 64) none] := by
  intro y k a hroom hal hend hclean
  have ⟨_, _, hbundle, _, _⟩ := hmay
  have hread := State.readMem_of_clean (oneMemory_store x.core a 64) hclean
  have ho : slotOut (.cDma x f) s x.core x.thread = some
      { kind := 3, srcs := [.s f.a.toNat],
        act := fun u => ((u.readMem (storeBase x.core + a) 64).1).setDmaq k
          (u.dmaq k ++ [u.jobOf x.core x.thread (s.bytes (storeBase x.core + a) 64) none]) } := by
    show some (slotCDma f s x.core x.thread) = _
    have hin : ¬ storeSize ≤ a := Nat.not_le.mpr hend
    simp only [slotCDma, hrsv, ne_eq, not_true_eq_false, if_false]
    rw [if_neg (not_not_intro hal), if_neg hin]
    simp only [show s.readMem (storeBase x.core + ((s.thr x.core x.thread).sreg f.a.toNat).toNat) 64 = _ from hread, poisoned, List.isEmpty_nil,
      Bool.not_true, Bool.false_eq_true, if_false, show (s.dmaq (dmaIdx x.core f.q.toNat)).length < 16 from hroom, decide_true]
    rfl
  obtain ⟨t, u, hexec, ht, hu⟩ := exec_alone rfl hmay ho nofun (.inl hclear) rfl rfl (by simp) nofun rfl
  rw [SlotOut.thread_eq_afterSlot rfl hbundle] at hu
  have hclean' : u.cleanAt (storeBase x.core + a) 64 := State.cleanAt_of_same (by rw [hu]; rfl) hclean
  dsimp only at ht
  rw [State.readMem_of_clean (oneMemory_store x.core a 64) hclean'] at ht
  refine ⟨t, hexec, ?_, ?_, ?_⟩
  · rw [ht]
    show u.thr x.core x.thread = _
    rw [hu]
    exact State.thr_setThr_self (s.marked x.core) _ _ _
  · rw [ht, hu]
    rfl
  · rw [ht, ← State.jobOf_of_thread hu, show s.dmaq k = u.dmaq k by rw [hu]; rfl]
    exact State.dmaq_setDmaq_self ..

/-- C.LPOST puts a latch write at the end of the queue. -/
theorem cLpost_queues {f : CD} (hclear : s.fenceClear x) (hrsv : f.rsv = 0) (hmay : s.mayIssue x [.s f.a.toNat, .s f.b.toNat]) :
    let y := s.thr x.core x.thread
    let k := dmaIdx x.core f.q.toNat
    (s.dmaq k).length < 16 → s.latchAddrCause y.part (y.sreg f.a.toNat).toNat = none →
      ∃ t, exec (.cLpost x f) s = .next t ∧ t.thr x.core x.thread = y.goto (y.pc + 32)
        ∧ t = { s.marked x.core with threads := t.threads, dma := t.dma, cnt := t.cnt }
        ∧ t.dmaq k = s.dmaq k ++ [s.jobOf x.core x.thread [] (some (y.sreg f.a.toNat, y.sreg f.b.toNat))] := by
  intro y k hroom hcause
  have ⟨_, _, hbundle, _, _⟩ := hmay
  have ho : slotOut (.cLpost x f) s x.core x.thread = some
      { kind := 3, srcs := [.s f.a.toNat, .s f.b.toNat],
        act := fun u => u.setDmaq k (u.dmaq k ++ [u.jobOf x.core x.thread [] (some (y.sreg f.a.toNat, y.sreg f.b.toNat))]) } := by
    show some (slotCLpost f s x.core x.thread) = _
    simp only [slotCLpost, hrsv, ne_eq, not_true_eq_false, if_false,
      show s.latchAddrCause (s.thr x.core x.thread).part ((s.thr x.core x.thread).sreg f.a.toNat).toNat = none from hcause,
      show (s.dmaq (dmaIdx x.core f.q.toNat)).length < 16 from hroom, decide_true]
    rfl
  obtain ⟨t, u, hexec, ht, hu⟩ := exec_alone rfl hmay ho nofun (.inl hclear) rfl rfl (by simp) nofun rfl
  rw [SlotOut.thread_eq_afterSlot rfl hbundle] at hu
  refine ⟨t, hexec, ?_, ?_, ?_⟩
  · rw [ht]
    show u.thr x.core x.thread = _
    rw [hu]
    exact State.thr_setThr_self (s.marked x.core) _ _ _
  · rw [ht, hu]
    rfl
  · rw [ht, ← State.jobOf_of_thread hu, show s.dmaq k = u.dmaq k by rw [hu]; rfl]
    exact State.dmaq_setDmaq_self ..

end Slot

/-- Settles O15. -/
theorem submissions : Obligations.Submissions := by
  intro s x hclear _ y y'
  exact ⟨fun hmay => ⟨ran_cNop hclear hmay, ran_cFence hclear hmay⟩, fun f hrsv => by
    intro k a hroom
    exact ⟨fun hmay hal hend hclean => cDma_queues hclear hrsv hmay hroom hal hend hclean, fun hmay hcause => cLpost_queues hclear hrsv hmay hroom hcause⟩⟩

end Sys2Proof.Machine
end

section
/-! PROOFS. The latch slots (R375 to R387). -/

namespace Sys2Proof.Machine

/-! ### The fields of a latch record -/

theorem lValue_toNat (r : W128) : (lValue r).toNat = bf r 63 0 := by
  rw [bf_eq_div_mod, lValue, BitVec.toNat_setWidth, Nat.pow_zero, Nat.div_one]

theorem lValue_eq_of_bf {r r' : W128} (h : bf r 63 0 = bf r' 63 0) : lValue r = lValue r' :=
  BitVec.eq_of_toNat_eq (by rw [lValue_toNat, lValue_toNat, h])

theorem lValue_lSetValue (r : W128) (v : W64) : lValue (lSetValue r v) = v := by
  apply BitVec.eq_of_toNat_eq
  rw [lValue_toNat, lSetValue, bf_bfSet_same (by decide) (by decide)]
  exact Nat.mod_eq_of_lt v.isLt

/-- C.LSET's record: value, owner and OWNED, and the latch rearmed. -/
def lSet (r : W128) (v : W64) (seq : W32) : W128 :=
  bfSet (bfSet (bitSet (bitSet (lSetValue r v) 89 true) 92 false) 79 72 0) 127 96 seq.toNat

theorem lSet_fields (r : W128) (v : W64) (seq : W32) :
    lValue (lSet r v seq) = v ∧ lOwned (lSet r v seq) = true ∧ lOwner (lSet r v seq) = seq.toNat ∧ lBroken (lSet r v seq) = false
      ∧ lEstat (lSet r v seq) = 0 ∧ lKind (lSet r v seq) = lKind r := by
  refine ⟨?_, ?_, ?_, ?_, ?_, ?_⟩
  · refine (lValue_eq_of_bf ?_).trans (lValue_lSetValue r v)
    rw [lSet, bf_bfSet_apart (by decide) (by decide) _ _ (.inl (by decide)), bf_bfSet_apart (by decide) (by decide) _ _ (.inl (by decide)),
      bf_bitSet_apart (by decide) _ _ (.inl (by decide)), bf_bitSet_apart (by decide) _ _ (.inl (by decide))]
  · rw [lOwned, lSet, bitAt_bfSet_apart (by decide) (by decide) _ _ (.inl (by decide)),
      bitAt_bfSet_apart (by decide) (by decide) _ _ (.inr (by decide)), bitAt_bitSet (by decide), if_neg (by decide), bitAt_bitSet (by decide),
      if_pos rfl]
  · rw [lOwner, lSet, bf_bfSet_same (by decide) (by decide)]
    exact Nat.mod_eq_of_lt seq.isLt
  · rw [lBroken, lSet, bitAt_bfSet_apart (by decide) (by decide) _ _ (.inl (by decide)),
      bitAt_bfSet_apart (by decide) (by decide) _ _ (.inr (by decide)), bitAt_bitSet (by decide), if_pos rfl]
  · rw [lEstat, lSet, bf_bfSet_apart (by decide) (by decide) _ _ (.inl (by decide)), bf_bfSet_same (by decide) (by decide)]
    exact Nat.zero_mod _
  · rw [lKind, lSet, bf_bfSet_apart (by decide) (by decide) _ _ (.inl (by decide)), bf_bfSet_apart (by decide) (by decide) _ _ (.inr (by decide)),
      bf_bitSet_apart (by decide) _ _ (.inl (by decide)), bf_bitSet_apart (by decide) _ _ (.inr (by decide)), lSetValue,
      bf_bfSet_apart (by decide) (by decide) _ _ (.inr (by decide)), lKind]

theorem lOwner_lSetValue (r : W128) (v : W64) : lOwner (lSetValue r v) = lOwner r := by
  rw [lOwner, lSetValue, bf_bfSet_apart (by decide) (by decide) _ _ (.inr (by decide)), lOwner]

/-! ### Updates of a latch on which no thread is parked -/

section Update
variable {u : State} {i j : Nat}

theorem State.waiters_of_threads {v : State} (h : v.threads = u.threads) : v.waiters i j = u.waiters i j := by
  unfold State.waiters State.thr
  rw [h]

theorem State.waiters_setLatch (u : State) (i j a b : Nat) (q : W128) : (u.setLatch i j q).waiters a b = u.waiters a b :=
  State.waiters_of_threads rfl

theorem State.latchTest_of_no_waiters (h : u.waiters i j = []) : u.latchTest i j = u := by
  unfold State.latchTest
  rw [h]
  rfl

theorem State.latchSet_plain (h : u.waiters i j = []) (hk : lKind (u.latch i j) = 0) (v : W64) (seq : W32) :
    u.latchSet i j v seq = u.setLatch i j (lSet (u.latch i j) v seq) := by
  simp only [State.latchSet, hk, ne_eq, not_true_eq_false, if_false, lSet]
  rw [State.latchTest_of_no_waiters]
  exact (State.waiters_setLatch ..).trans h

theorem State.latchAdd_plain (h : u.waiters i j = []) (hk : lKind (u.latch i j) = 0) (hb : lBroken (u.latch i j) = false) (v : W64) :
    u.latchAdd i j v = u.setLatch i j (lSetValue (u.latch i j) (lValue (u.latch i j) + v)) := by
  simp only [State.latchAdd, hk, hb, ne_eq, not_true_eq_false, if_false, Bool.false_eq_true]
  exact State.latchTest_of_no_waiters ((State.waiters_setLatch ..).trans h)

theorem State.rdF_incF {o hi lo n : Nat} (hlo : lo ≤ hi) (hhi : hi < 32) :
    (u.incF o hi lo n).rdF o hi lo = min (2 ^ (hi + 1 - lo) - 1) (u.rdF o hi lo + n) := by
  rw [State.incF, State.rdF_wrF_same _ _ hlo hhi, holdAdd]
  exact Nat.mod_eq_of_lt (by have := Nat.two_pow_pos (hi + 1 - lo); omega)

end Update

section Slot
variable {s : State} {x : Issue} {f : CL}

/-- A C slot of a latch, alone in its bundle: its thread goes on, and then it acts. -/
theorem exec_latch {i : Instr} {srcs : List RegRef} {act : State → State} (he : exec i s = slotStep s x i) (hclear : s.fenceClear x)
    (hf : ∀ z, i ≠ .cFence z) (hmay : s.mayIssue x [.s f.a.toNat, .s f.b.toNat])
    (hregs : srcs ++ [] ⊆ ([.s f.a.toNat, .s f.b.toNat] : List RegRef))
    (ho : slotOut i s x.core x.thread = some { kind := 3, srcs, act }) :
    let y := s.thr x.core x.thread
    ∃ t u, exec i s = .next t ∧ t = { act u with cnt := t.cnt }
      ∧ u = { (s.marked x.core).setThr x.core x.thread (y.goto (y.pc + 32)) with cnt := u.cnt } := by
  have ⟨_, _, hbundle, _, _⟩ := hmay
  obtain ⟨t, u, hexec, ht, hu⟩ := exec_alone he hmay ho hf (.inl hclear) rfl rfl hregs nofun rfl
  rw [SlotOut.thread_eq_afterSlot rfl hbundle] at hu
  exact ⟨t, u, hexec, ht, hu⟩

/-- A slot's own thread goes on READY: the threads parked on a latch of its core are as before. -/
theorem waiters_of_thread {u : State} {y : Thread} {j : Nat} (hst : y.st = .ready)
    (hu : u = { (s.marked x.core).setThr x.core x.thread y with cnt := u.cnt }) (h : s.waiters x.core j = []) : u.waiters x.core j = [] := by
  simp only [State.waiters, List.filter_eq_nil_iff, List.mem_range] at h ⊢
  intro t ht
  have hthr : u.thr x.core t = if 32 * x.core + t = 32 * x.core + x.thread then y else s.thr x.core t := by
    rw [hu]
    exact tget_tput _ _ _ _ _
  rw [hthr]
  split
  · simp [Thread.eff, hst]
  · exact h t ht

theorem clSrc_sub (f : CL) : clSrc f ++ [] ⊆ ([.s f.a.toNat, .s f.b.toNat] : List RegRef) := by
  unfold clSrc
  cases f.immv <;> simp

variable (hclear : s.fenceClear x) (hj : f.latch.toNat < 48) (hwait : s.waiters x.core f.latch.toNat = [])
  (hmay : s.mayIssue x [.s f.a.toNat, .s f.b.toNat])
include hclear hj hmay

theorem cLset_acts :
    let y := s.thr x.core x.thread
    ∃ t u : State, exec (.cLset x f) s = .next t ∧ t = { u.latchSet x.core f.latch.toNat (clVal f y) y.seq with cnt := t.cnt }
      ∧ u = { (s.marked x.core).setThr x.core x.thread (y.goto (y.pc + 32)) with cnt := u.cnt } :=
  exec_latch (i := .cLset x f) (srcs := clSrc f) (act := fun u => u.latchSet x.core f.latch.toNat (clVal f (s.thr x.core x.thread)) _)
    rfl hclear nofun hmay (clSrc_sub f) (congrArg some (if_neg (Nat.not_le.mpr hj)))

theorem cLadd_acts :
    let y := s.thr x.core x.thread
    ∃ t u : State, exec (.cLadd x f) s = .next t ∧ t = { u.latchAdd x.core f.latch.toNat (clVal f y) with cnt := t.cnt }
      ∧ u = { (s.marked x.core).setThr x.core x.thread (y.goto (y.pc + 32)) with cnt := u.cnt } :=
  exec_latch (i := .cLadd x f) (srcs := clSrc f) (act := fun u => u.latchAdd x.core f.latch.toNat (clVal f (s.thr x.core x.thread)))
    rfl hclear nofun hmay (clSrc_sub f) (congrArg some (if_neg (Nat.not_le.mpr hj)))

omit hj in
/-- C.LRD writes the value to its register. -/
theorem ran_cLrd (hj : f.latch.toNat < 48) :
    Ran (.cLrd x f) s x ((s.thr x.core x.thread).afterS f.a (lValue (s.latch x.core f.latch.toNat))) := by
  have ⟨_, _, hbundle, _, _⟩ := hmay
  have ho : slotOut (.cLrd x f) s x.core x.thread = some
      { kind := 3, dsts := [.s f.a.toNat], writes := [.s f.a.toNat (lValue (s.latch x.core f.latch.toNat))] } :=
    congrArg some (if_neg (Nat.not_le.mpr hj))
  refine ran_of_slot _ s x _ _ _ rfl hmay ho nofun (.inl hclear) rfl rfl (by simp) nofun rfl fun u _ hu => ?_
  rw [SlotOut.thread_eq_afterSlot rfl hbundle] at hu
  exact State.eq_of_only_cnt hu

/-- A wait as C.LWAIT arms it. -/
def cWait (f : CL) (s : State) (c : Nat) (y : Thread) : Wait :=
  { latch := f.latch.toNat, cond := f.cond.toNat, cmp := clVal f y, old := lValue (s.latch c f.latch.toNat), issued := s.now,
    timeout := (y.sreg f.b.toNat).toNat % 2 ^ 32 }

/-- The thread after a C.LWAIT. -/
def Thread.afterWait (z : Thread) (f : CL) (s : State) (c : Nat) (y : Thread) : Thread :=
  let r := s.latch c f.latch.toNat
  if condMet f.cond.toNat (lValue r) (clVal f y) (lValue r) then { z with wstat := 0 }
  else if lBroken r then { z with wstat := BitVec.ofNat 16 (0x0500 ||| lEstat r) }
  else { z with st := .parked, wait := some (cWait f s c y) }

theorem ran_cLwait (hcond : f.cond.toNat ≤ 6) :
    let y := s.thr x.core x.thread
    Ran (.cLwait x f) s x ((y.goto (y.pc + 32)).afterWait f s x.core y) := by
  intro y
  have ⟨_, hst, hbundle, _, _⟩ := hmay
  let g (z : Thread) : Thread :=
    let r := s.latch x.core f.latch.toNat
    if condMet f.cond.toNat (lValue r) (clVal f (s.thr x.core x.thread)) (lValue r) then { z with wstat := 0 }
    else if lBroken r then { z with wstat := BitVec.ofNat 16 (0x0500 ||| lEstat r) }
    else { z.move .parked with wait := some (cWait f s x.core y) }
  have hg : g (y.afterSlot [] none) = (y.goto (y.pc + 32)).afterWait f s x.core y := by
    have hmove : (y.afterSlot [] none).move .parked = { y.afterSlot [] none with st := .parked } := by
      have hst' : (y.afterSlot [] none).st = .ready := hst
      simp [Thread.move, hst']
    simp only [g, hmove]
    rfl
  have ho : slotOut (.cLwait x f) s x.core x.thread = some (slotCLwait f s x.core x.thread) := rfl
  simp only [slotCLwait, Nat.not_lt.mpr hcond, Nat.not_le.mpr hj, if_false] at ho
  refine ran_of_slot _ s x _ _ _ rfl hmay ho nofun (.inl hclear) rfl rfl ?_ nofun rfl fun u _ hu => ?_
  · unfold clSrc
    cases f.immv <;> simp
  · rw [SlotOut.thread_eq_afterSlot rfl hbundle] at hu
    have hset := State.setThr_afterSlot hst hu g
    rw [hg] at hset
    have hlatch : u.latch x.core f.latch.toNat = s.latch x.core f.latch.toNat := by rw [hu]; rfl
    have hnow : u.now = s.now := by rw [hu]; rfl
    refine State.eq_of_only_cnt (k := u.cnt) (.trans ?_ hset)
    dsimp only
    rw [hlatch, hnow]
    by_cases h1 : condMet f.cond.toNat (lValue (s.latch x.core f.latch.toNat)) (clVal f (s.thr x.core x.thread))
        (lValue (s.latch x.core f.latch.toNat)) = true
    · simp only [g, h1, if_true]
    · by_cases h2 : lBroken (s.latch x.core f.latch.toNat) = true
      · simp only [g, h1, h2, if_true, if_false, Bool.false_eq_true]
      · simp only [g, h1, h2, if_false, Bool.false_eq_true]
        rfl

end Slot

/-- Settles O16. -/
theorem latchSlots : Obligations.LatchSlots := by
  intro s x f hclear hj hwait j y y' r v regs latched counted hmay
  have hst : y'.st = .ready := hmay.2.1
  have here {u : State} (hu : u = { (s.marked x.core).setThr x.core x.thread y' with cnt := u.cnt }) :
      u.latch x.core j = r ∧ u.waiters x.core j = [] := ⟨by rw [hu]; rfl, waiters_of_thread hst hu hwait⟩
  have put {i : Instr} {q : W128} (p : W128 → Prop) {t u : State} (hexec : exec i s = .next t) (ht : t = { u.setLatch x.core j q with cnt := t.cnt })
      (hu : u = { (s.marked x.core).setThr x.core x.thread y' with cnt := u.cnt }) (hp : p q) : latched i p := by
    refine ⟨t, hexec, ?_, ?_⟩
    · rw [ht, hu]
      rfl
    · rw [ht]
      show p ((u.setLatch x.core j q).latch x.core j)
      rw [State.latch_setLatch_self]
      exact hp
  have count {i : Instr} {hi lo : Nat} {t u : State} (hlo : lo ≤ hi) (hhi : hi < 32) (h8 : 2 ^ (hi + 1 - lo) = 256) (hexec : exec i s = .next t)
      (ht : t = { u.incF rLatStat hi lo 1 with cnt := t.cnt })
      (hu : u = { (s.marked x.core).setThr x.core x.thread y' with cnt := u.cnt }) : counted i hi lo := by
    refine ⟨t, hexec, ?_, ?_⟩
    · rw [ht, hu]
      rfl
    · have hrd : u.rdF rLatStat hi lo = s.rdF rLatStat hi lo := by rw [hu]; rfl
      rw [ht]
      refine (State.rdF_incF (u := u) (o := rLatStat) (n := 1) hlo hhi).trans ?_
      rw [h8, hrd]
  refine ⟨fun hk => ?_, fun hk hb => ?_, fun hk hb => ?_, fun hk => ⟨?_, ?_⟩, ran_cLrd hclear hmay hj, fun hc => ran_cLwait hclear hj hmay hc,
    fun hc => ?_, fun hcause hroom => ?_⟩
  · obtain ⟨t, u, hexec, ht, hu⟩ := cLset_acts hclear hj hmay
    obtain ⟨hr, hw⟩ := here hu
    rw [State.latchSet_plain hw (by rw [hr]; exact hk)] at ht
    obtain ⟨h1, h2, h3, h4, h5, h6⟩ := lSet_fields (u.latch x.core j) v y.seq
    exact put (fun q => lValue q = v ∧ lOwned q = true ∧ lOwner q = y.seq.toNat ∧ lBroken q = false ∧ lEstat q = 0 ∧ lKind q = 0) hexec ht hu
      ⟨h1, h2, h3, h4, h5, h6.trans (hr ▸ hk)⟩
  · obtain ⟨t, u, hexec, ht, hu⟩ := cLadd_acts hclear hj hmay
    obtain ⟨hr, hw⟩ := here hu
    rw [State.latchAdd_plain hw (by rw [hr]; exact hk) (by rw [hr]; exact hb)] at ht
    exact put (fun q => lValue q = lValue r + v ∧ lOwner q = lOwner r) hexec ht hu
      ⟨by rw [lValue_lSetValue, hr]; rfl, by rw [lOwner_lSetValue, hr]⟩
  · obtain ⟨t, u, hexec, ht, hu⟩ := cLadd_acts hclear hj hmay
    obtain ⟨hr, -⟩ := here hu
    have hadd : u.latchAdd x.core j (clVal f y) = u.incF rLatStat 23 16 1 := by simp [State.latchAdd, hr, hk, hb]
    exact count (by decide) (by decide) (by decide) hexec (hadd ▸ ht) hu
  · obtain ⟨t, u, hexec, ht, hu⟩ := cLset_acts hclear hj hmay
    obtain ⟨hr, -⟩ := here hu
    have hset : u.latchSet x.core j (clVal f y) y.seq = u.incF rLatStat 31 24 1 := by simp [State.latchSet, hr, hk]
    exact count (by decide) (by decide) (by decide) hexec (hset ▸ ht) hu
  · obtain ⟨t, u, hexec, ht, hu⟩ := cLadd_acts hclear hj hmay
    obtain ⟨hr, -⟩ := here hu
    have hadd : u.latchAdd x.core j (clVal f y) = u.incF rLatStat 31 24 1 := by simp [State.latchAdd, hr, hk]
    exact count (by decide) (by decide) (by decide) hexec (hadd ▸ ht) hu
  · show (some (slotCLwait f s x.core x.thread)).bind _ = _
    simp [slotCLwait, hc, SlotOut.raises]
  · have ho : slotOut (.cLarr x f) s x.core x.thread = some
        { kind := 3, srcs := [.s f.a.toNat, .s f.b.toNat],
          act := fun u => u.sendArrival y.part (y.sreg f.a.toNat).toNat (y.sreg f.b.toNat) ((u.logical x.core).getD 255) j false } := by
      show some (slotCLarr f s x.core x.thread) = _
      simp only [slotCLarr, show s.latchAddrCause (s.thr x.core x.thread).part ((s.thr x.core x.thread).sreg f.a.toNat).toNat = none from hcause,
        Nat.not_le.mpr hj, hroom, if_false, decide_true]
      rfl
    obtain ⟨t, u, hexec, ht, hu⟩ := exec_latch (i := .cLarr x f) rfl hclear nofun hmay (by simp) ho
    obtain ⟨fab, ctr, hsend⟩ := u.sendArrival_only y.part (y.sreg f.a.toNat).toNat (y.sreg f.b.toNat) ((u.logical x.core).getD 255) j false
    rw [hsend] at ht
    have hlog : u.logical x.core = s.logical x.core := by rw [hu]; rfl
    have hrel : u.releases = s.releases := by rw [hu]; rfl
    let gc := u.globalCounter (y.sreg f.a.toNat).toNat
    refine ⟨t, ⟨gc.1, gc.2.1, gc.2.2, y.sreg f.b.toNat, (u.logical x.core).getD 255, j, false⟩, hexec, ?_, rfl, rfl,
      congrArg (·.getD 255) hlog, rfl, ?_⟩
    · rw [ht, ← hrel]
    · rw [ht]
      show u.thr x.core x.thread = _
      rw [hu]
      exact State.thr_setThr_self (s.marked x.core) _ _ _

end Sys2Proof.Machine
end

section
/-! PROOFS. The words of a bundle (R202 to R241): the fields of each format stand where its word puts them, and each opcode is its command's. -/

namespace Sys2Proof.Machine

/-! ### Words put together and taken apart -/

theorem getLsbD_append_of_le {m n lo : Nat} (a : BitVec m) (b : BitVec n) (h : n ≤ lo) : (a ++ b).getLsbD lo = a.getLsbD (lo - n) := by
  rw [BitVec.getLsbD_append, if_neg (Nat.not_lt.mpr h)]

theorem getLsbD_append_ofBool {m : Nat} (a : BitVec m) (b : Bool) : (a ++ BitVec.ofBool b).getLsbD 0 = b := by
  rw [BitVec.getLsbD_append, if_pos (by decide)]
  cases b <;> rfl

/-- Two neighbouring fields of a word are one field. -/
theorem extract_append_extract {n hi lo len len' : Nat} (w : BitVec n) (h : hi = lo + len') :
    w.extractLsb' hi len ++ w.extractLsb' lo len' = w.extractLsb' lo (len + len') := by
  subst h
  ext i hi
  simp only [BitVec.getElem_append, BitVec.getElem_extractLsb']
  split
  · rfl
  · rw [Nat.add_assoc, Nat.add_sub_cancel' (by omega)]

theorem ofBool_getLsbD {n : Nat} (w : BitVec n) (k : Nat) : BitVec.ofBool (w.getLsbD k) = w.extractLsb' k 1 := by
  ext i hi
  obtain rfl : i = 0 := by omega
  simp

/-! ### The formats of the slots -/

theorem SF.op_word (op : BitVec 8) (f : SF) : (f.word op).extractLsb' 56 8 = op := by
  unfold SF.word
  repeat rw [BitVec.extractLsb'_append_eq_of_le (by decide)]
  exact BitVec.extractLsb'_eq_self

theorem SF.ofWord_word (op : BitVec 8) (f : SF) : SF.ofWord (f.word op) = f := by
  unfold SF.ofWord SF.word
  cases f
  congr
  · repeat rw [BitVec.extractLsb'_append_eq_of_le (by decide)]
    rw [BitVec.extractLsb'_append_eq_right]
  · repeat rw [BitVec.extractLsb'_append_eq_of_le (by decide)]
    rw [BitVec.extractLsb'_append_eq_right]
  · repeat rw [BitVec.extractLsb'_append_eq_of_le (by decide)]
    rw [BitVec.extractLsb'_append_eq_right]
  · repeat rw [BitVec.extractLsb'_append_eq_of_le (by decide)]
    rw [BitVec.extractLsb'_append_eq_right]
  · rw [BitVec.extractLsb'_append_eq_right]

theorem SF.word_ofWord (w : BitVec 64) : (SF.ofWord w).word (w.extractLsb' 56 8) = w := by
  simp only [SF.word, SF.ofWord]
  repeat rw [extract_append_extract w (by decide)]
  exact BitVec.extractLsb'_eq_self

theorem VF.op_word (op : BitVec 10) (f : VF) : (f.word op).extractLsb' 70 10 = op := by
  unfold VF.word
  repeat rw [BitVec.extractLsb'_append_eq_of_le (by decide)]
  exact BitVec.extractLsb'_eq_self

theorem VF.ofWord_word (op : BitVec 10) (f : VF) : VF.ofWord (f.word op) = f := by
  unfold VF.ofWord VF.word
  cases f
  congr
  · repeat rw [BitVec.extractLsb'_append_eq_of_le (by decide)]
    rw [BitVec.extractLsb'_append_eq_right]
  · repeat rw [getLsbD_append_of_le _ _ (by decide)]
    rw [getLsbD_append_ofBool]
  · repeat rw [getLsbD_append_of_le _ _ (by decide)]
    rw [getLsbD_append_ofBool]
  · repeat rw [BitVec.extractLsb'_append_eq_of_le (by decide)]
    rw [BitVec.extractLsb'_append_eq_right]
  · repeat rw [getLsbD_append_of_le _ _ (by decide)]
    rw [getLsbD_append_ofBool]
  · repeat rw [BitVec.extractLsb'_append_eq_of_le (by decide)]
    rw [BitVec.extractLsb'_append_eq_right]
  · repeat rw [BitVec.extractLsb'_append_eq_of_le (by decide)]
    rw [BitVec.extractLsb'_append_eq_right]
  · repeat rw [BitVec.extractLsb'_append_eq_of_le (by decide)]
    rw [BitVec.extractLsb'_append_eq_right]
  · repeat rw [BitVec.extractLsb'_append_eq_of_le (by decide)]
    rw [BitVec.extractLsb'_append_eq_right]
  · repeat rw [BitVec.extractLsb'_append_eq_of_le (by decide)]
    rw [BitVec.extractLsb'_append_eq_right]
  · repeat rw [BitVec.extractLsb'_append_eq_of_le (by decide)]
    rw [BitVec.extractLsb'_append_eq_right]
  · rw [BitVec.extractLsb'_append_eq_right]

theorem VF.word_ofWord (w : BitVec 80) : (VF.ofWord w).word (w.extractLsb' 70 10) = w := by
  simp only [VF.word, VF.ofWord, ofBool_getLsbD]
  repeat rw [extract_append_extract w (by decide)]
  exact BitVec.extractLsb'_eq_self

theorem MTileF.op_word (op : BitVec 8) (f : MTileF) : (f.word op).extractLsb' 56 8 = op := by
  unfold MTileF.word
  repeat rw [BitVec.extractLsb'_append_eq_of_le (by decide)]
  exact BitVec.extractLsb'_eq_self

theorem MTileF.ofWord_word (op : BitVec 8) (f : MTileF) : MTileF.ofWord (f.word op) = f := by
  unfold MTileF.ofWord MTileF.word
  cases f
  congr
  · repeat rw [BitVec.extractLsb'_append_eq_of_le (by decide)]
    rw [BitVec.extractLsb'_append_eq_right]
  · repeat rw [BitVec.extractLsb'_append_eq_of_le (by decide)]
    rw [BitVec.extractLsb'_append_eq_right]
  · repeat rw [BitVec.extractLsb'_append_eq_of_le (by decide)]
    rw [BitVec.extractLsb'_append_eq_right]
  · repeat rw [BitVec.extractLsb'_append_eq_of_le (by decide)]
    rw [BitVec.extractLsb'_append_eq_right]
  · repeat rw [BitVec.extractLsb'_append_eq_of_le (by decide)]
    rw [BitVec.extractLsb'_append_eq_right]
  · repeat rw [BitVec.extractLsb'_append_eq_of_le (by decide)]
    rw [BitVec.extractLsb'_append_eq_right]
  · repeat rw [BitVec.extractLsb'_append_eq_of_le (by decide)]
    rw [BitVec.extractLsb'_append_eq_right]
  · repeat rw [getLsbD_append_of_le _ _ (by decide)]
    rw [getLsbD_append_ofBool]
  · repeat rw [getLsbD_append_of_le _ _ (by decide)]
    rw [getLsbD_append_ofBool]
  · repeat rw [getLsbD_append_of_le _ _ (by decide)]
    rw [getLsbD_append_ofBool]
  · rw [BitVec.extractLsb'_append_eq_right]

theorem MTileF.word_ofWord (w : BitVec 64) : (MTileF.ofWord w).word (w.extractLsb' 56 8) = w := by
  simp only [MTileF.word, MTileF.ofWord, ofBool_getLsbD]
  repeat rw [extract_append_extract w (by decide)]
  exact BitVec.extractLsb'_eq_self

theorem MSetF.op_word (op : BitVec 8) (f : MSetF) : (f.word op).extractLsb' 56 8 = op := by
  unfold MSetF.word
  repeat rw [BitVec.extractLsb'_append_eq_of_le (by decide)]
  exact BitVec.extractLsb'_eq_self

theorem MSetF.ofWord_word (op : BitVec 8) (f : MSetF) : MSetF.ofWord (f.word op) = f := by
  unfold MSetF.ofWord MSetF.word
  cases f
  congr
  · repeat rw [BitVec.extractLsb'_append_eq_of_le (by decide)]
    rw [BitVec.extractLsb'_append_eq_right]
  · repeat rw [BitVec.extractLsb'_append_eq_of_le (by decide)]
    rw [BitVec.extractLsb'_append_eq_right]
  · repeat rw [BitVec.extractLsb'_append_eq_of_le (by decide)]
    rw [BitVec.extractLsb'_append_eq_right]
  · next rsv =>
    have join (a : BitVec 4) (b : BitVec 5) (c : BitVec 32) (ha : a = rsv.extractLsb' 37 4) (hb : b = rsv.extractLsb' 32 5)
        (hc : c = rsv.extractLsb' 0 32) : a ++ b ++ c = rsv := by
      rw [ha, hb, hc, extract_append_extract rsv (by decide), extract_append_extract rsv (by decide)]
      exact BitVec.extractLsb'_eq_self
    refine join _ _ _ ?_ ?_ ?_
    · repeat rw [BitVec.extractLsb'_append_eq_of_le (by decide)]
      rw [BitVec.extractLsb'_append_eq_right]
    · repeat rw [BitVec.extractLsb'_append_eq_of_le (by decide)]
      rw [BitVec.extractLsb'_append_eq_right]
    · rw [BitVec.extractLsb'_append_eq_right]

theorem MSetF.word_ofWord (w : BitVec 64) : (MSetF.ofWord w).word (w.extractLsb' 56 8) = w := by
  have h1 : (MSetF.ofWord w).rsv.extractLsb' 37 4 = w.extractLsb' 52 4 := by
    unfold MSetF.ofWord
    repeat rw [BitVec.extractLsb'_append_eq_of_le (by decide)]
    exact BitVec.extractLsb'_eq_self
  have h2 : (MSetF.ofWord w).rsv.extractLsb' 32 5 = w.extractLsb' 38 5 := by
    unfold MSetF.ofWord
    rw [BitVec.extractLsb'_append_eq_of_le (by decide), BitVec.extractLsb'_append_eq_right]
  have h3 : (MSetF.ofWord w).rsv.extractLsb' 0 32 = w.extractLsb' 0 32 := BitVec.extractLsb'_append_eq_right
  rw [MSetF.word, h1, h2, h3]
  simp only [MSetF.ofWord]
  repeat rw [extract_append_extract w (by decide)]
  exact BitVec.extractLsb'_eq_self

theorem MCpyF.op_word (op : BitVec 8) (f : MCpyF) : (f.word op).extractLsb' 56 8 = op := by
  unfold MCpyF.word
  repeat rw [BitVec.extractLsb'_append_eq_of_le (by decide)]
  exact BitVec.extractLsb'_eq_self

theorem MCpyF.ofWord_word (op : BitVec 8) (f : MCpyF) : MCpyF.ofWord (f.word op) = f := by
  unfold MCpyF.ofWord MCpyF.word
  cases f
  congr
  · repeat rw [BitVec.extractLsb'_append_eq_of_le (by decide)]
    rw [BitVec.extractLsb'_append_eq_right]
  · repeat rw [BitVec.extractLsb'_append_eq_of_le (by decide)]
    rw [BitVec.extractLsb'_append_eq_right]
  · next rsv =>
    have join (a : BitVec 4) (c : BitVec 44) (ha : a = rsv.extractLsb' 44 4) (hc : c = rsv.extractLsb' 0 44) : a ++ c = rsv := by
      rw [ha, hc, extract_append_extract rsv (by decide)]
      exact BitVec.extractLsb'_eq_self
    refine join _ _ ?_ ?_
    · repeat rw [BitVec.extractLsb'_append_eq_of_le (by decide)]
      rw [BitVec.extractLsb'_append_eq_right]
    · rw [BitVec.extractLsb'_append_eq_right]

theorem MCpyF.word_ofWord (w : BitVec 64) : (MCpyF.ofWord w).word (w.extractLsb' 56 8) = w := by
  have h1 : (MCpyF.ofWord w).rsv.extractLsb' 44 4 = w.extractLsb' 52 4 := by
    unfold MCpyF.ofWord
    rw [BitVec.extractLsb'_append_eq_of_le (by decide)]
    exact BitVec.extractLsb'_eq_self
  have h2 : (MCpyF.ofWord w).rsv.extractLsb' 0 44 = w.extractLsb' 0 44 := BitVec.extractLsb'_append_eq_right
  rw [MCpyF.word, h1, h2]
  simp only [MCpyF.ofWord]
  repeat rw [extract_append_extract w (by decide)]
  exact BitVec.extractLsb'_eq_self

theorem CA.op_word (op : BitVec 7) (f : CA) : (f.word op).extractLsb' 41 7 = op := by
  unfold CA.word
  repeat rw [BitVec.extractLsb'_append_eq_of_le (by decide)]
  exact BitVec.extractLsb'_eq_self

theorem CA.ofWord_word (op : BitVec 7) (f : CA) : CA.ofWord (f.word op) = f := by
  unfold CA.ofWord CA.word
  cases f
  congr
  · repeat rw [BitVec.extractLsb'_append_eq_of_le (by decide)]
    rw [BitVec.extractLsb'_append_eq_right]
  · repeat rw [BitVec.extractLsb'_append_eq_of_le (by decide)]
    rw [BitVec.extractLsb'_append_eq_right]
  · rw [BitVec.extractLsb'_append_eq_right]

theorem CA.word_ofWord (w : BitVec 48) : (CA.ofWord w).word (w.extractLsb' 41 7) = w := by
  simp only [CA.word, CA.ofWord]
  repeat rw [extract_append_extract w (by decide)]
  exact BitVec.extractLsb'_eq_self

theorem CV.op_word (op : BitVec 7) (f : CV) : (f.word op).extractLsb' 41 7 = op := by
  unfold CV.word
  repeat rw [BitVec.extractLsb'_append_eq_of_le (by decide)]
  exact BitVec.extractLsb'_eq_self

theorem CV.ofWord_word (op : BitVec 7) (f : CV) : CV.ofWord (f.word op) = f := by
  unfold CV.ofWord CV.word
  cases f
  congr
  · repeat rw [BitVec.extractLsb'_append_eq_of_le (by decide)]
    rw [BitVec.extractLsb'_append_eq_right]
  · repeat rw [BitVec.extractLsb'_append_eq_of_le (by decide)]
    rw [BitVec.extractLsb'_append_eq_right]
  · repeat rw [getLsbD_append_of_le _ _ (by decide)]
    rw [getLsbD_append_ofBool]
  · repeat rw [BitVec.extractLsb'_append_eq_of_le (by decide)]
    rw [BitVec.extractLsb'_append_eq_right]
  · repeat rw [BitVec.extractLsb'_append_eq_of_le (by decide)]
    rw [BitVec.extractLsb'_append_eq_right]
  · repeat rw [BitVec.extractLsb'_append_eq_of_le (by decide)]
    rw [BitVec.extractLsb'_append_eq_right]
  · rw [BitVec.extractLsb'_append_eq_right]

theorem CV.word_ofWord (w : BitVec 48) : (CV.ofWord w).word (w.extractLsb' 41 7) = w := by
  simp only [CV.word, CV.ofWord, ofBool_getLsbD]
  repeat rw [extract_append_extract w (by decide)]
  exact BitVec.extractLsb'_eq_self

theorem CX.op_word (op : BitVec 7) (f : CX) : (f.word op).extractLsb' 41 7 = op := by
  unfold CX.word
  repeat rw [BitVec.extractLsb'_append_eq_of_le (by decide)]
  exact BitVec.extractLsb'_eq_self

theorem CX.ofWord_word (op : BitVec 7) (f : CX) : CX.ofWord (f.word op) = f := by
  unfold CX.ofWord CX.word
  cases f
  congr
  · repeat rw [BitVec.extractLsb'_append_eq_of_le (by decide)]
    rw [BitVec.extractLsb'_append_eq_right]
  · repeat rw [BitVec.extractLsb'_append_eq_of_le (by decide)]
    rw [BitVec.extractLsb'_append_eq_right]
  · repeat rw [BitVec.extractLsb'_append_eq_of_le (by decide)]
    rw [BitVec.extractLsb'_append_eq_right]
  · rw [BitVec.extractLsb'_append_eq_right]

theorem CX.word_ofWord (w : BitVec 48) : (CX.ofWord w).word (w.extractLsb' 41 7) = w := by
  simp only [CX.word, CX.ofWord]
  repeat rw [extract_append_extract w (by decide)]
  exact BitVec.extractLsb'_eq_self

theorem CL.op_word (op : BitVec 7) (f : CL) : (f.word op).extractLsb' 41 7 = op := by
  unfold CL.word
  repeat rw [BitVec.extractLsb'_append_eq_of_le (by decide)]
  exact BitVec.extractLsb'_eq_self

theorem CL.ofWord_word (op : BitVec 7) (f : CL) : CL.ofWord (f.word op) = f := by
  unfold CL.ofWord CL.word
  cases f
  congr
  · repeat rw [BitVec.extractLsb'_append_eq_of_le (by decide)]
    rw [BitVec.extractLsb'_append_eq_right]
  · repeat rw [BitVec.extractLsb'_append_eq_of_le (by decide)]
    rw [BitVec.extractLsb'_append_eq_right]
  · repeat rw [BitVec.extractLsb'_append_eq_of_le (by decide)]
    rw [BitVec.extractLsb'_append_eq_right]
  · repeat rw [BitVec.extractLsb'_append_eq_of_le (by decide)]
    rw [BitVec.extractLsb'_append_eq_right]
  · repeat rw [getLsbD_append_of_le _ _ (by decide)]
    rw [getLsbD_append_ofBool]
  · rw [BitVec.extractLsb'_append_eq_right]

theorem CL.word_ofWord (w : BitVec 48) : (CL.ofWord w).word (w.extractLsb' 41 7) = w := by
  simp only [CL.word, CL.ofWord, ofBool_getLsbD]
  repeat rw [extract_append_extract w (by decide)]
  exact BitVec.extractLsb'_eq_self

theorem CD.op_word (op : BitVec 7) (f : CD) : (f.word op).extractLsb' 41 7 = op := by
  unfold CD.word
  repeat rw [BitVec.extractLsb'_append_eq_of_le (by decide)]
  exact BitVec.extractLsb'_eq_self

theorem CD.ofWord_word (op : BitVec 7) (f : CD) : CD.ofWord (f.word op) = f := by
  unfold CD.ofWord CD.word
  cases f
  congr
  · repeat rw [BitVec.extractLsb'_append_eq_of_le (by decide)]
    rw [BitVec.extractLsb'_append_eq_right]
  · repeat rw [BitVec.extractLsb'_append_eq_of_le (by decide)]
    rw [BitVec.extractLsb'_append_eq_right]
  · repeat rw [BitVec.extractLsb'_append_eq_of_le (by decide)]
    rw [BitVec.extractLsb'_append_eq_right]
  · rw [BitVec.extractLsb'_append_eq_right]

theorem CD.word_ofWord (w : BitVec 48) : (CD.ofWord w).word (w.extractLsb' 41 7) = w := by
  simp only [CD.word, CD.ofWord]
  repeat rw [extract_append_extract w (by decide)]
  exact BitVec.extractLsb'_eq_self

end Sys2Proof.Machine
end

section
/-! PROOFS. The opcodes of a bundle's slots and the slots of a bundle's word (R202, R206, R210, R217, R234, R241). -/

namespace Sys2Proof.Machine

/-! ### A command's word decodes to it -/

section Decode
variable {i : Instr} {x : Issue} (h : i.issue = some x)
include h

theorem decodeS_of_slotWord {w : BitVec 64} (hw : i.slotWord = some (.s w)) : decodeS x w = some i := by
  cases i
  all_goals cases h
  all_goals cases hw
  all_goals
    rw [decodeS, SF.op_word, SF.ofWord_word]
    rfl

theorem decodeV_of_slotWord {w : BitVec 80} (hw : i.slotWord = some (.v w)) : decodeV x w = some i := by
  cases i
  all_goals cases h
  all_goals cases hw
  all_goals
    rw [decodeV, VF.op_word, VF.ofWord_word]
    rfl

theorem decodeM_of_slotWord {w : BitVec 64} (hw : i.slotWord = some (.m w)) : decodeM x w = some i := by
  cases i
  all_goals cases h
  all_goals cases hw
  case mNop => rfl
  case mTile =>
    rw [decodeM, MTileF.op_word, MTileF.ofWord_word]
    rfl
  case mTset | mTadd =>
    rw [decodeM, MSetF.op_word, MSetF.ofWord_word]
    rfl
  case mTcpy =>
    rw [decodeM, MCpyF.op_word, MCpyF.ofWord_word]
    rfl

theorem decodeC_of_slotWord {w : BitVec 48} (hw : i.slotWord = some (.c w)) : decodeC x w = some i := by
  cases i
  all_goals cases h
  all_goals cases hw
  case cNop | cFence => rfl
  case cLdb | cLdh | cLdw | cLdd | cLdbs | cLdhs | cLdws | cStb | cSth | cStw | cStd | cGld | cGst =>
    rw [decodeC, CA.op_word, CA.ofWord_word]
    rfl
  case cVld | cVst | cVgth | cVsct | cPld | cPst | cTld | cTst =>
    rw [decodeC, CV.op_word, CV.ofWord_word]
    rfl
  case cFadd | cSwap | cCas =>
    rw [decodeC, CX.op_word, CX.ofWord_word]
    rfl
  case cDma | cLpost =>
    rw [decodeC, CD.op_word, CD.ofWord_word]
    rfl
  case cLset | cLadd | cLwait | cLrd | cLarr =>
    rw [decodeC, CL.op_word, CL.ofWord_word]
    rfl

/-- Every slot command has a word. -/
theorem slotWord_of_issue : ∃ v, i.slotWord = some v := by
  cases i
  all_goals cases h
  all_goals exact ⟨_, rfl⟩

theorem decode_of_slotWord {v : SlotWord} (hw : i.slotWord = some v) : v.decode x = some i := by
  cases v with
  | s w => exact decodeS_of_slotWord h hw
  | v w => exact decodeV_of_slotWord h hw
  | m w => exact decodeM_of_slotWord h hw
  | c w => exact decodeC_of_slotWord h hw

end Decode

/-! ### A word that decodes is its command's -/

section Encode
variable {i : Instr} {x : Issue}

theorem SF.word_of_op {w : BitVec 64} {op : BitVec 8} (h : (w.extractLsb' 56 8).toNat = op.toNat) : (SF.ofWord w).word op = w := by
  rw [← BitVec.eq_of_toNat_eq h, SF.word_ofWord]

theorem VF.word_of_op {w : BitVec 80} {op : BitVec 10} (h : (w.extractLsb' 70 10).toNat = op.toNat) : (VF.ofWord w).word op = w := by
  rw [← BitVec.eq_of_toNat_eq h, VF.word_ofWord]

theorem decodeS_some {w : BitVec 64} (h : decodeS x w = some i) : i.slotWord = some (.s w) ∧ i.issue = some x := by
  unfold decodeS at h
  split at h
  all_goals cases h
  all_goals exact ⟨congrArg (some ∘ SlotWord.s) (SF.word_of_op ‹_›), rfl⟩

theorem decodeV_some {w : BitVec 80} (h : decodeV x w = some i) : i.slotWord = some (.v w) ∧ i.issue = some x := by
  unfold decodeV at h
  split at h
  all_goals cases h
  all_goals exact ⟨congrArg (some ∘ SlotWord.v) (VF.word_of_op ‹_›), rfl⟩

theorem MTileF.word_of_op {w : BitVec 64} {op : BitVec 8} (h : (w.extractLsb' 56 8).toNat = op.toNat) : (MTileF.ofWord w).word op = w := by
  rw [← BitVec.eq_of_toNat_eq h, MTileF.word_ofWord]

theorem MSetF.word_of_op {w : BitVec 64} {op : BitVec 8} (h : (w.extractLsb' 56 8).toNat = op.toNat) : (MSetF.ofWord w).word op = w := by
  rw [← BitVec.eq_of_toNat_eq h, MSetF.word_ofWord]

theorem MCpyF.word_of_op {w : BitVec 64} {op : BitVec 8} (h : (w.extractLsb' 56 8).toNat = op.toNat) : (MCpyF.ofWord w).word op = w := by
  rw [← BitVec.eq_of_toNat_eq h, MCpyF.word_ofWord]

theorem decodeM_some {w : BitVec 64} (h : decodeM x w = some i) : i.slotWord = some (.m w) ∧ i.issue = some x := by
  unfold decodeM at h
  split at h
  case h_1 =>
    split at h
    · next h0 =>
      cases h
      exact ⟨congrArg (some ∘ SlotWord.m) h0.symm, rfl⟩
    · cases h
  all_goals cases h
  case h_2.refl => exact ⟨congrArg (some ∘ SlotWord.m) (MTileF.word_of_op ‹_›), rfl⟩
  case h_4.refl => exact ⟨congrArg (some ∘ SlotWord.m) (MCpyF.word_of_op ‹_›), rfl⟩
  all_goals exact ⟨congrArg (some ∘ SlotWord.m) (MSetF.word_of_op ‹_›), rfl⟩

theorem CA.word_of_op {w : BitVec 48} {op : BitVec 7} (h : (w.extractLsb' 41 7).toNat = op.toNat) : (CA.ofWord w).word op = w := by
  rw [← BitVec.eq_of_toNat_eq h, CA.word_ofWord]

theorem CV.word_of_op {w : BitVec 48} {op : BitVec 7} (h : (w.extractLsb' 41 7).toNat = op.toNat) : (CV.ofWord w).word op = w := by
  rw [← BitVec.eq_of_toNat_eq h, CV.word_ofWord]

theorem CX.word_of_op {w : BitVec 48} {op : BitVec 7} (h : (w.extractLsb' 41 7).toNat = op.toNat) : (CX.ofWord w).word op = w := by
  rw [← BitVec.eq_of_toNat_eq h, CX.word_ofWord]

theorem CL.word_of_op {w : BitVec 48} {op : BitVec 7} (h : (w.extractLsb' 41 7).toNat = op.toNat) : (CL.ofWord w).word op = w := by
  rw [← BitVec.eq_of_toNat_eq h, CL.word_ofWord]

theorem CD.word_of_op {w : BitVec 48} {op : BitVec 7} (h : (w.extractLsb' 41 7).toNat = op.toNat) : (CD.ofWord w).word op = w := by
  rw [← BitVec.eq_of_toNat_eq h, CD.word_ofWord]

/-- A C word with no field is its opcode. -/
theorem bare_of_op {w : BitVec 48} {op : BitVec 7} (h : (w.extractLsb' 41 7).toNat = op.toNat) (h0 : w.extractLsb' 0 41 = 0) : op ++ 0#41 = w := by
  rw [← BitVec.eq_of_toNat_eq h, ← show w.extractLsb' 0 41 = 0#41 from h0, extract_append_extract w (by decide)]
  exact BitVec.extractLsb'_eq_self

theorem decodeC_some {w : BitVec 48} (h : decodeC x w = some i) : i.slotWord = some (.c w) ∧ i.issue = some x := by
  unfold decodeC at h
  split at h
  case h_1 | h_28 =>
    split at h
    · cases h
      exact ⟨congrArg (some ∘ SlotWord.c) (bare_of_op ‹_› ‹_›), rfl⟩
    · cases h
  all_goals cases h
  case h_2 | h_3 | h_4 | h_5 | h_6 | h_7 | h_8 | h_9 | h_10 | h_11 | h_12 | h_13 | h_14 => exact ⟨congrArg (some ∘ SlotWord.c) (CA.word_of_op ‹_›), rfl⟩
  case h_15 | h_16 | h_17 | h_18 | h_19 | h_20 | h_21 | h_22 => exact ⟨congrArg (some ∘ SlotWord.c) (CV.word_of_op ‹_›), rfl⟩
  case h_23 | h_24 | h_25 => exact ⟨congrArg (some ∘ SlotWord.c) (CX.word_of_op ‹_›), rfl⟩
  case h_26 | h_27 => exact ⟨congrArg (some ∘ SlotWord.c) (CD.word_of_op ‹_›), rfl⟩
  case h_29 | h_30 | h_31 | h_32 | h_33 => exact ⟨congrArg (some ∘ SlotWord.c) (CL.word_of_op ‹_›), rfl⟩

theorem decode_some {v : SlotWord} (h : v.decode x = some i) : i.slotWord = some v ∧ i.issue = some x := by
  cases v with
  | s w => exact decodeS_some h
  | v w => exact decodeV_some h
  | m w => exact decodeM_some h
  | c w => exact decodeC_some h

end Encode

/-! ### The opcodes that decode -/

section Opcodes
variable (x : Issue)

theorem decodeS_ne_none (w : BitVec 64) : decodeS x w ≠ none ↔
    (w.extractLsb' 56 8).toNat ∈ ([0x00, 0x01, 0x02, 0x03, 0x04, 0x05, 0x06, 0x08, 0x09, 0x0A, 0x0B, 0x0C, 0x0D, 0x0E, 0x0F, 0x10, 0x11, 0x12, 0x13, 0x14,
      0x15, 0x16, 0x17, 0x18, 0x19, 0x1A, 0x1B, 0x1C, 0x1D, 0x20, 0x21, 0x22, 0x23, 0x24, 0x25, 0x26, 0x27, 0x28, 0x29, 0x2A, 0x2B, 0x2E, 0x2F] : List Nat) := by
  unfold decodeS
  generalize (w.extractLsb' 56 8).toNat = n
  split
  case h_44 =>
    refine iff_of_false (fun h => h rfl) ?_
    simp only [List.mem_cons, List.not_mem_nil, or_false, not_or]
    and_intros <;> assumption
  all_goals exact iff_of_true nofun (by decide)

theorem decodeV_ne_none (w : BitVec 80) : decodeV x w ≠ none ↔
    (w.extractLsb' 70 10).toNat ∈ ([0x000, 0x001, 0x002, 0x003, 0x004, 0x005, 0x006, 0x007, 0x008, 0x009, 0x00A, 0x00B, 0x00C, 0x00D, 0x00E, 0x010, 0x011,
      0x012, 0x013, 0x014, 0x015, 0x016, 0x018, 0x019, 0x01A, 0x020, 0x021, 0x022, 0x023, 0x024, 0x025, 0x028, 0x029, 0x02A, 0x02B, 0x02C, 0x02D, 0x030,
      0x031, 0x032, 0x033, 0x038, 0x039, 0x03A, 0x040, 0x041, 0x042, 0x043, 0x044, 0x045, 0x046, 0x047] : List Nat) := by
  unfold decodeV
  generalize (w.extractLsb' 70 10).toNat = n
  split
  case h_53 =>
    refine iff_of_false (fun h => h rfl) ?_
    simp only [List.mem_cons, List.not_mem_nil, or_false, not_or]
    and_intros <;> assumption
  all_goals exact iff_of_true nofun (by decide)

theorem decodeM_ne_none (w : BitVec 64) : decodeM x w ≠ none ↔ w = 0 ∨ (1 ≤ (w.extractLsb' 56 8).toNat ∧ (w.extractLsb' 56 8).toNat ≤ 4) := by
  have hzero : w = 0 → (w.extractLsb' 56 8).toNat = 0 := by rintro rfl; rfl
  unfold decodeM
  generalize (w.extractLsb' 56 8).toNat = n at hzero
  split
  case h_1 =>
    by_cases h : w = 0 <;> simp [h]
  case h_6 h0 h1 h2 h3 h4 =>
    refine iff_of_false (fun h => h rfl) ?_
    rintro (h | h)
    · exact h0 (hzero h)
    · obtain ⟨hlo, hhi⟩ := h
      interval_cases n
      exacts [h1 rfl, h2 rfl, h3 rfl, h4 rfl]
  all_goals exact iff_of_true nofun (.inr (by decide))

/-- A C word of opcode n with no field set. -/
theorem bare_iff {w : BitVec 48} {op : BitVec 7} {v : BitVec 48} (hv : op ++ 0#41 = v) (h : (w.extractLsb' 41 7).toNat = op.toNat) :
    w.extractLsb' 0 41 = 0 ↔ w = v := by
  constructor
  · intro h0
    rw [← hv, bare_of_op h h0]
  · rintro rfl
    rw [← hv]
    exact BitVec.extractLsb'_append_eq_right

theorem decodeC_ne_none (w : BitVec 48) : decodeC x w ≠ none ↔ w = 0 ∨ w = 0x440000000000 ∨
    (w.extractLsb' 41 7).toNat ∈ ([0x01, 0x02, 0x03, 0x04, 0x05, 0x06, 0x07, 0x08, 0x09, 0x0A, 0x0B, 0x0C, 0x0D, 0x10, 0x11, 0x12, 0x13, 0x14, 0x15, 0x16,
      0x17, 0x18, 0x19, 0x1A, 0x20, 0x21, 0x28, 0x29, 0x2A, 0x2B, 0x2C] : List Nat) := by
  have hnop : (w.extractLsb' 41 7).toNat = 0 → (w.extractLsb' 0 41 = 0 ↔ w = 0) := fun h => bare_iff (op := 0) (by decide) h
  have hfence : (w.extractLsb' 41 7).toNat = 0x22 → (w.extractLsb' 0 41 = 0 ↔ w = 0x440000000000) := fun h => bare_iff (op := 0x22) (by decide) h
  have hzero : w = 0 → (w.extractLsb' 41 7).toNat = 0 := by rintro rfl; rfl
  have hbare : w = 0x440000000000 → (w.extractLsb' 41 7).toNat = 0x22 := by rintro rfl; rfl
  unfold decodeC
  generalize (w.extractLsb' 41 7).toNat = n at *
  split
  case h_1 =>
    rw [← hnop rfl]
    by_cases h : w.extractLsb' 0 41 = 0
    · rw [if_pos h]
      exact iff_of_true nofun (.inl h)
    · rw [if_neg h]
      refine iff_of_false (fun h => h rfl) ?_
      rintro (h' | h' | h')
      · exact h h'
      · cases hbare h'
      · simp at h'
  case h_28 =>
    rw [← hfence rfl]
    by_cases h : w.extractLsb' 0 41 = 0
    · rw [if_pos h]
      exact iff_of_true nofun (.inr (.inl h))
    · rw [if_neg h]
      refine iff_of_false (fun h => h rfl) ?_
      rintro (h' | h' | h')
      · cases hzero h'
      · exact h h'
      · simp at h'
  case h_34 =>
    refine iff_of_false (fun h => h rfl) ?_
    rintro (h' | h' | h')
    · exact absurd (hzero h') ‹_›
    · exact absurd (hbare h') ‹_›
    · revert h'
      simp only [List.mem_cons, List.not_mem_nil, or_false, imp_false, not_or]
      and_intros <;> assumption
  all_goals exact iff_of_true nofun (.inr (.inr (by decide)))

end Opcodes

/-! ### The slots of a bundle -/

theorem bundleSlots_bundleWord (s : BitVec 64) (v : BitVec 80) (m : BitVec 64) (c : BitVec 48) :
    bundleSlots (bundleWord s v m c) = [.s s, .v v, .m m, .c c] := by
  have h1 : (bundleWord s v m c).extractLsb' 0 64 = s := BitVec.extractLsb'_append_eq_right
  have h2 : (bundleWord s v m c).extractLsb' 64 80 = v := by
    unfold bundleWord
    rw [BitVec.extractLsb'_append_eq_of_le (by decide), BitVec.extractLsb'_append_eq_right]
  have h3 : (bundleWord s v m c).extractLsb' 144 64 = m := by
    unfold bundleWord
    repeat rw [BitVec.extractLsb'_append_eq_of_le (by decide)]
    rw [BitVec.extractLsb'_append_eq_right]
  have h4 : (bundleWord s v m c).extractLsb' 208 48 = c := by
    unfold bundleWord
    repeat rw [BitVec.extractLsb'_append_eq_of_le (by decide)]
    exact BitVec.extractLsb'_eq_self
  simp only [bundleSlots, h1, h2, h3, h4]

/-- The bytes of a word from byte a on spell its high part. -/
theorem foldr_extract (w : BitVec 256) (n a : Nat) :
    ((List.range n).map (fun i => w.extractLsb' (8 * (a + i)) 8)).foldr (fun (x : BitVec 8) n => x.toNat + 256 * n) 0
      = w.toNat / 2 ^ (8 * a) % 2 ^ (8 * n) := by
  induction n generalizing a with
  | zero => simp [Nat.mod_one]
  | succ n ih =>
    have htail : (fun i => w.extractLsb' (8 * (a + i)) 8) ∘ Nat.succ = fun i => w.extractLsb' (8 * (a + 1 + i)) 8 := by
      funext i
      simp only [Function.comp, Nat.succ_eq_add_one, Nat.add_assoc, Nat.add_comm 1 i]
    rw [List.range_succ_eq_map, List.map_cons, List.foldr_cons, List.map_map, htail, ih, BitVec.extractLsb'_toNat, Nat.shiftRight_eq_div_pow,
      Nat.add_zero, Nat.mul_add 8 a, Nat.pow_add, ← Nat.div_div_eq_div_mul, show 8 * (n + 1) = 8 + 8 * n by omega, Nat.pow_add, Nat.mod_mul]

theorem bundleOfBytes_bundleBytes (w : BitVec 256) : bundleOfBytes (bundleBytes w) = w := by
  have h := foldr_extract w 32 0
  simp only [Nat.zero_add, Nat.mul_zero, Nat.pow_zero, Nat.div_one] at h
  rw [bundleOfBytes, bundleBytes, h, Nat.mod_eq_of_lt w.isLt, BitVec.ofNat_toNat, BitVec.setWidth_eq]

/-- An assembled bundle's slots are those of its commands one by one. -/
theorem bundleOuts_cons (i : Instr) (l : List Instr) (s : State) (c t : Nat) : bundleOuts (i :: l) s c t = bundleOuts [i] s c t ++ bundleOuts l s c t := by
  unfold bundleOuts
  exact List.filterMap_append (l := [i])

theorem wordOuts_of_decode {w : BitVec 256} {c t : Nat} {l : List Instr} (s : State) (h : decodeBundle c t w = l.map some) :
    wordOuts w s c t = bundleOuts l s c t := by
  have key : ∀ (vs : List SlotWord) (l : List Instr), vs.length = l.length →
      (vs.zip (l.map some)).flatMap (fun x => match x.2 with
        | some i => bundleOuts [i] s c t
        | none => [.raises x.1.kind cBundle]) = bundleOuts l s c t := by
    intro vs l hlen
    induction l generalizing vs with
    | nil => simp [bundleOuts]
    | cons i l ih =>
      obtain ⟨v, vs, rfl⟩ := List.exists_cons_of_length_eq_add_one hlen
      rw [List.map_cons, List.zip_cons_cons, List.flatMap_cons, ih vs (Nat.succ.inj hlen), bundleOuts_cons i l]
  rw [wordOuts, h]
  refine key _ _ ?_
  have := congrArg List.length h
  simpa [decodeBundle] using this

theorem decodeBundle_zero (c t : Nat) : decodeBundle c t 0 = [some (.sNop ⟨c, t, true⟩ ⟨0, 0, 0, 0, 0⟩),
    some (.vNop ⟨c, t, true⟩ ⟨0, false, false, 0, false, 0, 0, 0, 0, 0, 0, 0⟩), some (.mNop ⟨c, t, true⟩), some (.cNop ⟨c, t, false⟩)] := rfl

/-- A slot of a bundle word that spells no command raises BUNDLE_INVALID. -/
theorem bundleCauses_of_reserved {w : BitVec 256} (s : State) {c t : Nat} {v : SlotWord} (hv : v ∈ bundleSlots w)
    (h : v.decode ⟨c, t, decide (v.kind < 3)⟩ = none) : (v.kind, cBundle) ∈ bundleCauses (wordOuts w s c t) := by
  have hmem : SlotOut.raises v.kind cBundle ∈ wordOuts w s c t := by
    refine List.mem_flatMap.mpr ⟨(v, none), ?_, List.mem_singleton.mpr rfl⟩
    rw [← h, decodeBundle, List.zip_map_right, List.mem_map]
    refine ⟨(v, v), ?_, rfl⟩
    rw [List.zip_eq_zipWith, List.zipWith_self]
    exact List.mem_map_of_mem hv
  refine List.mem_filterMap.mpr ⟨_, hmem, ?_⟩
  split
  · rfl
  · rfl

/-- Settles O60: the words format by format, then the opcodes kind by kind, then the four slots of a bundle. -/
theorem bundleWords : Obligations.BundleWords :=
  ⟨fun i x h => (slotWord_of_issue h).imp fun v hv => ⟨hv, decode_of_slotWord h hv⟩, fun _ _ _ h => decode_some h, bundleSlots_bundleWord,
    fun w => ⟨bundleOfBytes_bundleBytes w, by simp [bundleBytes]⟩, decodeS_ne_none, decodeV_ne_none, decodeM_ne_none, decodeC_ne_none,
    decodeBundle_zero, fun _ s _ _ _ h => wordOuts_of_decode s h, fun _ s _ _ _ hv h => bundleCauses_of_reserved s hv h⟩

end Sys2Proof.Machine
end

section
/-! PROOFS. 64-bit registers, fields apart from a written one, and the granules of memory: modes, refills, injection and raw accesses. -/

namespace Sys2Proof.Machine

/-! ### More about fields and 64-bit registers -/

section Registers
variable (s : State) (o : Nat)

theorem State.rdF_wr_ne {o' : Nat} (h : o' ≠ o) (v : W32) (hi lo : Nat) : (s.wr o v).rdF o' hi lo = s.rdF o' hi lo := by
  rw [State.rdF, State.rd_wr_ne _ _ _ _ h, State.rdF]

theorem State.rdF_wrF_apart {hi lo hi' lo' : Nat} (hlo : lo ≤ hi) (hhi : hi < 32) (h : hi' < lo ∨ hi < lo') (v : Nat) :
    (s.wrF o hi lo v).rdF o hi' lo' = s.rdF o hi' lo' := by
  rw [State.rdF, State.wrF, State.rd_wr_self, bf_bfSet_apart hlo hhi _ _ h, State.rdF]

theorem State.rdF_wrB_apart {i hi lo : Nat} (hi32 : i < 32) (h : hi < i ∨ i < lo) (b : Bool) :
    (s.wrB o i b).rdF o hi lo = s.rdF o hi lo := by
  rw [State.rdF, State.wrB, State.rd_wr_self, bf_bitSet_apart hi32 _ _ h, State.rdF]

theorem State.rdF_lt (hi lo : Nat) : s.rdF o hi lo < 2 ^ (hi + 1 - lo) := bf_lt ..

theorem State.rd64_lt : s.rd64 o < 2 ^ 64 := by
  have h1 := (s.rd o).isLt
  have h2 := (s.rd (o + 4)).isLt
  unfold State.rd64
  omega

theorem State.rd64_wr64_same (v : Nat) : (s.wr64 o v).rd64 o = v % 2 ^ 64 := by
  rw [State.wr64, State.rd64, State.rd_wr_self, State.rd_wr_ne _ _ _ _ (by omega), State.rd_wr_self, BitVec.toNat_ofNat, BitVec.toNat_ofNat]
  omega

theorem State.rd64_wr64_apart {o' : Nat} (h : o' + 8 ≤ o ∨ o + 8 ≤ o') (v : Nat) : (s.wr64 o v).rd64 o' = s.rd64 o' := by
  rw [State.wr64, State.rd64, State.rd_wr_ne _ _ _ _ (by omega), State.rd_wr_ne _ _ _ _ (by omega), State.rd_wr_ne _ _ _ _ (by omega),
    State.rd_wr_ne _ _ _ _ (by omega), State.rd64]

theorem State.rd64_wr_apart {o' : Nat} (h : o < o' ∨ o' + 4 < o) (v : W32) : (s.wr o v).rd64 o' = s.rd64 o' := by
  rw [State.rd64, State.rd_wr_ne _ _ _ _ (by omega), State.rd_wr_ne _ _ _ _ (by omega), State.rd64]

/-- A row of 64-bit registers, written one after the other. -/
theorem State.rd64_foldl_wr64 (f : Nat → Nat) (n : Nat) {o' : Nat} (ho : o' % 8 = o % 8) :
    ((List.range n).foldl (fun t i => t.wr64 (o + 8 * i) (f i)) s).rd64 o' =
      if o ≤ o' ∧ o' < o + 8 * n then f ((o' - o) / 8) % 2 ^ 64 else s.rd64 o' := by
  induction n with
  | zero => rw [if_neg (by omega)]; rfl
  | succ n ih =>
    rw [List.range_succ, List.foldl_append, List.foldl_cons, List.foldl_nil]
    by_cases h : o' = o + 8 * n
    · subst h
      rw [State.rd64_wr64_same, if_pos (by omega)]
      congr 2
      omega
    · rw [State.rd64_wr64_apart _ _ (by omega), ih]
      by_cases h' : o ≤ o' ∧ o' < o + 8 * n
      · rw [if_pos h', if_pos (by omega)]
      · rw [if_neg h', if_neg (by omega)]

/-- Writing registers one after the other touches the registers only. -/
theorem State.foldl_wr64_only (f g : Nat → Nat) (l : List Nat) :
    let t := l.foldl (fun t i => t.wr64 (f i) (g i)) s
    t = { s with regs := t.regs } := by
  induction l generalizing s with
  | nil => rfl
  | cons a l ih =>
    dsimp only [List.foldl_cons] at ih ⊢
    rw [ih]
    rfl

end Registers

/-! ### Clearing a range -/

theorem tget_tclear {α : Type} (d : Nat → α) (t : Tab α) (a n k : Nat) :
    tget d (tclear t a n) k = if a ≤ k ∧ k < a + n then d k else tget d t k := by
  induction t with
  | nil => simp [tclear, tget]
  | cons x t ih =>
    obtain ⟨q, v⟩ := x
    unfold tclear at ih ⊢
    by_cases hq : a ≤ q ∧ q < a + n
    · rw [List.filter_cons_of_neg (by simpa using hq), ih]
      by_cases hk : q = k
      · subst hk
        rw [if_pos hq, if_pos hq]
      · simp [tget, hk]
    · rw [List.filter_cons_of_pos (by simp only [Bool.not_eq_true', Bool.and_eq_false_iff, decide_eq_false_iff_not]; omega), tget, tget, ih]
      by_cases hk : q = k
      · subst hk
        rw [if_pos rfl, if_neg hq, if_pos rfl]
      · rw [if_neg hk, if_neg hk]

theorem State.zeroFill_of_unarmed {s : State} (h : s.memx.armed = none) (pa n : Nat) :
    s.zeroFill pa n = { s with mem := tclear s.mem pa n, ecc := tclear s.ecc pa n } := by
  simp [State.zeroFill, h]

/-! ### The granules' registers -/

section Granules
variable {s : State} {g : Nat} {v : W32}

/-- A write of a granule's register that is taken: a new mode of a free granule, or a new owner. -/
theorem State.granWrite_of_free (hg : g < 383) (hnew : granMode (bf v 5 4) ≠ granMode (s.modeOf g)) (hfree : s.rdF (rMemGran g) 11 8 = 0xF)
    (hidle : s.rdB (rMemGran g) 3 = false) (hfit : modesFit (fun h => if h = g then bf v 5 4 else s.modeOf h) = true) :
    s.granWrite g v = (s.wrF (rMemGran g) 5 4 (bf v 5 4)).wrB (rMemGran g) 3 true := by
  simp [State.granWrite, hnew, hfree, hidle, hfit, Nat.not_le.mpr hg]

theorem State.granWrite_of_owned (hg : g < 383) (hnew : granMode (bf v 5 4) ≠ granMode (s.modeOf g)) (howned : s.rdF (rMemGran g) 11 8 ≠ 0xF)
    (hidle : s.rdB (rMemGran g) 3 = false) (hfit : modesFit (fun h => if h = g then bf v 5 4 else s.modeOf h) = true) :
    s.granWrite g v = s.wrF (rMemGran g) 11 8 (bf v 11 8) := by
  simp [State.granWrite, hnew, howned, hidle, hfit, Nat.not_le.mpr hg]

theorem State.granWrite_of_same_mode (hg : g < 383) (hsame : granMode (bf v 5 4) = granMode (s.modeOf g))
    (hidle : s.rdB (rMemGran g) 3 = false) :
    s.granWrite g v = (s.wrF (rMemGran g) 5 4 (bf v 5 4)).wrF (rMemGran g) 11 8 (bf v 11 8) := by
  simp [State.granWrite, hsame, hidle, Nat.not_le.mpr hg]

end Granules

/-! ### The test of the checker -/

/-- The words of a granule as RAW_WRITE takes them from the data registers. -/
def State.rawData (s : State) (n : Nat) : List Byte := (List.range n).flatMap (fun i => leBytes 8 (s.rd64 (rEccRawData i)))

theorem State.length_rawData (s : State) (n : Nat) : (s.rawData n).length = 8 * n := by
  simp [State.rawData, List.length_flatMap, length_leBytes, Nat.mul_comm]

theorem State.rawData_wr (s : State) (n : Nat) (v : W32) : (s.wr rEccRawCtl v).rawData n = s.rawData n := by
  unfold State.rawData
  congr 1
  funext i
  rw [State.rd64_wr_apart _ _ (by unfold rEccRawCtl rEccRawData eccReg; omega)]

theorem State.bytes_of_stored {s t : State} {pa : Nat} {b : List Byte} (h : s.storedAt t pa b) : t.bytes pa b.length = b := by
  apply List.ext_getElem?
  intro k
  rw [State.getElem?_bytes]
  by_cases hk : k < b.length
  · rw [if_pos hk, h, if_pos (by omega), Nat.add_sub_cancel_left, List.getD_eq_getElem?_getD, List.getElem?_eq_getElem hk, Option.getD_some]
  · rw [if_neg hk, List.getElem?_eq_none (by omega)]

/-- Check bits stored so that the granule's code word is the one given read back as given. -/
theorem xor_ofNat_xor (c : Nat) (x : BitVec 64) : (x ^^^ BitVec.ofNat 64 ((BitVec.ofNat 64 c ^^^ x).toNat % 2 ^ 64)).toNat = c % 2 ^ 64 := by
  rw [Nat.mod_eq_of_lt (BitVec.isLt _), BitVec.ofNat_toNat, BitVec.setWidth_eq, BitVec.xor_comm x, BitVec.xor_assoc, BitVec.xor_self, BitVec.xor_zero,
    BitVec.toNat_ofNat]

theorem State.delta_setDelta_self (s : State) (g d : Nat) : (s.setDelta g d).delta g = d % 2 ^ 64 := by
  rw [State.delta, State.setDelta, tget_tput_self, BitVec.toNat_ofNat]

/-- Where an address leads does not hang on the registers. -/
theorem State.wordOf_wr (s : State) (o : Nat) (v : W32) (a : Nat) : (s.wr o v).wordOf a = s.wordOf a := by
  unfold State.wordOf
  rfl

theorem State.memx_wrB (s : State) (o i : Nat) (b : Bool) : (s.wrB o i b).memx = s.memx := rfl

theorem State.mem_wrB (s : State) (o i : Nat) (b : Bool) : (s.wrB o i b).mem = s.mem := rfl

section Checker
variable {s : State} (hinj : s.test.lc = 1 ∨ s.test.lc = 3)
include hinj

theorem State.injectable_of_lc : s.injectable = true := by simpa [State.injectable] using hinj

theorem exec_eccInjArm_of_word {v : W32} {pa : Nat} (hpa : s.wordOf (s.rd64 rEccInjAddr) = some pa) :
    ∃ t, exec (.eccInjArm v) s = .next t ∧ t.memx.armed = some pa ∧ t.rdB rEccInjCtl 31 = true ∧ t.mem = s.mem := by
  have haddr : ∀ x, (s.wr rEccInjCtl x).wordOf ((s.wr rEccInjCtl x).rd64 rEccInjAddr) = some pa := fun x => by
    rw [State.rd64_wr_apart _ _ (by unfold rEccInjCtl rEccInjAddr eccReg; omega), State.wordOf_wr, hpa]
  have hexec : exec (.eccInjArm v) s = .next (({ s.wr rEccInjCtl (plainWrite (regDesc rEccInjCtl) (s.rd rEccInjCtl) v) with
      memx := { (s.wr rEccInjCtl (plainWrite (regDesc rEccInjCtl) (s.rd rEccInjCtl) v)).memx with armed := some pa } } : State).wrB rEccInjCtl 31 true) := by
    show execEccInjArm v s = _
    rw [execEccInjArm, if_neg (by rw [State.injectable_of_lc hinj]; decide)]
    dsimp only
    rw [haddr]
  exact ⟨_, hexec, by rw [State.memx_wrB], State.rdB_wrB_same _ _ (by omega) _, by rw [State.mem_wrB]; rfl⟩

theorem exec_eccInjArm_of_no_word {v : W32} (hpa : s.wordOf (s.rd64 rEccInjAddr) = none) :
    ∃ t, exec (.eccInjArm v) s = .next t ∧ t.memx.armed = none ∧ t.rdB rEccInjCtl 31 = false ∧ t.mem = s.mem := by
  have haddr : ∀ x, (s.wr rEccInjCtl x).wordOf ((s.wr rEccInjCtl x).rd64 rEccInjAddr) = none := fun x => by
    rw [State.rd64_wr_apart _ _ (by unfold rEccInjCtl rEccInjAddr eccReg; omega), State.wordOf_wr, hpa]
  have hexec : exec (.eccInjArm v) s = .next (({ s.wr rEccInjCtl (plainWrite (regDesc rEccInjCtl) (s.rd rEccInjCtl) v) with
      memx := { (s.wr rEccInjCtl (plainWrite (regDesc rEccInjCtl) (s.rd rEccInjCtl) v)).memx with armed := none } } : State).wrB rEccInjCtl 31 false) := by
    show execEccInjArm v s = _
    rw [execEccInjArm, if_neg (by rw [State.injectable_of_lc hinj]; decide)]
    dsimp only
    rw [haddr]
  exact ⟨_, hexec, by rw [State.memx_wrB], State.rdB_wrB_same _ _ (by omega) _, by rw [State.mem_wrB]; rfl⟩

variable (hinit : s.rdB rMemInit 31 = true)
include hinit

theorem exec_rawRead_of_word {v : W32} {pa : Nat} (hpa : s.wordOf (s.rd64 rEccRawAddr) = some pa) :
    ∃ t, exec (.rawRead v) s = .next t
      ∧ (∀ i < granSize (granOf pa) / 8, t.rd64 (rEccRawData i) = leNat (s.bytes (granOf pa + 8 * i) 8))
      ∧ t.rd64 rEccRawChk = s.rawChk (granOf pa) ∧ t = { s with regs := t.regs } := by
  have haddr : (s.wr rEccRawCtl (v &&& 1)).wordOf ((s.wr rEccRawCtl (v &&& 1)).rd64 rEccRawAddr) = some pa := by
    rw [State.rd64_wr_apart _ _ (by unfold rEccRawCtl rEccRawAddr eccReg; omega), State.wordOf_wr, hpa]
  have hreg : ∀ i, rEccRawData 0 + 8 * i = rEccRawData i := fun i => by unfold rEccRawData eccReg; omega
  have hexec : exec (.rawRead v) s = .next (((List.range (granSize (granOf pa) / 8)).foldl
      (fun t i => t.wr64 (rEccRawData 0 + 8 * i) (leNat (s.bytes (granOf pa + 8 * i) 8))) (s.wr rEccRawCtl (v &&& 1))).wr64 rEccRawChk
        (s.rawChk (granOf pa))) := by
    show execRawRead v s = _
    simp only [execRawRead, State.injectable_of_lc hinj, hinit, haddr, hreg, Bool.not_true, Bool.or_self, Bool.false_eq_true, if_false]
    rfl
  refine ⟨_, hexec, fun i hi => ?_, ?_, ?_⟩
  · rw [State.rd64_wr64_apart _ _ (by unfold rEccRawData rEccRawChk eccReg; omega), State.rd64_foldl_wr64 _ _ _ _ (by unfold rEccRawData eccReg; omega),
      if_pos (by unfold rEccRawData eccReg; omega), Nat.mod_eq_of_lt ((leNat_lt _).trans_le (by rw [State.length_bytes]; decide))]
    congr 3
    unfold rEccRawData eccReg
    omega
  · rw [State.rd64_wr64_same, Nat.mod_eq_of_lt]
    unfold State.rawChk
    split <;> exact BitVec.isLt _
  · rw [State.wr64, State.foldl_wr64_only]
    rfl

theorem exec_rawWrite_of_word {v : W32} {pa : Nat} (hpa : s.wordOf (s.rd64 rEccRawAddr) = some pa) :
    ∃ t, exec (.rawWrite v) s = .next t ∧ s.storedAt t (granOf pa) (s.rawData (granSize (granOf pa) / 8))
      ∧ t.rawChk (granOf pa) = (if isDram (granOf pa) then s.rd64 rEccRawChk else s.rd64 rEccRawChk % 2048)
      ∧ t = { s with regs := t.regs, mem := t.mem, ecc := t.ecc } := by
  have haddr : (s.wr rEccRawCtl (v &&& 1)).wordOf ((s.wr rEccRawCtl (v &&& 1)).rd64 rEccRawAddr) = some pa := by
    rw [State.rd64_wr_apart _ _ (by unfold rEccRawCtl rEccRawAddr eccReg; omega), State.wordOf_wr, hpa]
  have hchk : (s.wr rEccRawCtl (v &&& 1)).rd64 rEccRawChk = s.rd64 rEccRawChk :=
    State.rd64_wr_apart _ _ (by unfold rEccRawCtl rEccRawChk eccReg; omega) _
  have hdata := State.rawData_wr s (granSize (granOf pa) / 8) (v &&& 1)
  have hexec : exec (.rawWrite v) s = .next (State.setDelta
      { s.wr rEccRawCtl (v &&& 1) with mem := putBytes s.mem (granOf pa) (s.rawData (granSize (granOf pa) / 8)) } (granOf pa)
      (BitVec.ofNat 64 (if isDram (granOf pa) then s.rd64 rEccRawChk else s.rd64 rEccRawChk % 2048) ^^^
        BitVec.ofNat 64 (if isDram (granOf pa) then rsCode (s.rawData (granSize (granOf pa) / 8))
          else hsiao (leNat (s.rawData (granSize (granOf pa) / 8))))).toNat) := by
    show execRawWrite v s = _
    rw [← hdata, ← hchk]
    simp only [execRawWrite, State.injectable_of_lc hinj, hinit, haddr]
    rfl
  have hput : ∀ b d, s.storedAt (State.setDelta { s.wr rEccRawCtl (v &&& 1) with mem := putBytes s.mem (granOf pa) b } (granOf pa) d)
      (granOf pa) b := fun b d a => tget_putBytes ..
  refine ⟨_, hexec, hput _ _, ?_, rfl⟩
  have hbytes := State.bytes_of_stored (hput (s.rawData (granSize (granOf pa) / 8)) (BitVec.ofNat 64 (if isDram (granOf pa) then s.rd64 rEccRawChk
    else s.rd64 rEccRawChk % 2048) ^^^ BitVec.ofNat 64 (if isDram (granOf pa) then rsCode (s.rawData (granSize (granOf pa) / 8))
          else hsiao (leNat (s.rawData (granSize (granOf pa) / 8))))).toNat)
  rw [State.length_rawData] at hbytes
  rw [State.rawChk, State.delta_setDelta_self]
  cases hd : isDram (granOf pa)
  · simp only [granSize, hd, Bool.false_eq_true, if_false] at hbytes ⊢
    rw [hbytes, xor_ofNat_xor, Nat.mod_eq_of_lt (lt_of_lt_of_le (Nat.mod_lt _ (by decide)) (by decide))]
  · simp only [granSize, hd, if_true] at hbytes ⊢
    rw [hbytes, xor_ofNat_xor, Nat.mod_eq_of_lt (s.rd64_lt _)]

end Checker

/-- The size of a granule in words, as R339 gives it. -/
theorem granSize_words (g : Nat) : (if isDram g then 8 else 1) = granSize g / 8 := by
  unfold granSize
  split <;> rfl

/-- Settles O31: a granule's register is written under the guards of R308 and R309, a refill clears its range, and the test of the checker
takes and gives a granule's data and check bits as stored. -/
theorem granulesAndChecker : Obligations.GranulesAndChecker := by
  intro s
  refine ⟨?_, ?_, ?_, ?_, ?_, ?_, ?_, ?_, ?_⟩
  · intro g v hg hnew hfree hidle hfit
    refine ⟨_, congrArg Host.Outcome.next (State.granWrite_of_free hg hnew hfree hidle hfit), ?_, State.rdB_wrB_same _ _ (by omega) _, rfl⟩
    rw [State.modeOf, State.rdF_wrB_apart _ _ (by omega) (by omega), State.rdF_wrF_same _ _ (by omega) (by omega)]
    exact Nat.mod_eq_of_lt (bf_lt ..)
  · intro g v hg hnew howned hidle hfit
    refine ⟨_, congrArg Host.Outcome.next (State.granWrite_of_owned hg hnew howned hidle hfit), ?_, ?_, rfl⟩
    · rw [State.rdF_wrF_same _ _ (by omega) (by omega)]
      exact Nat.mod_eq_of_lt (bf_lt ..)
    · rw [State.modeOf, State.rdF_wrF_apart _ _ (by omega) (by omega) (by omega), State.modeOf]
  · intro g v hnew hfit
    exact congrArg Host.Outcome.next (by simp [State.granWrite, hnew, hfit])
  · intro g v hbusy
    exact congrArg Host.Outcome.next (by simp [State.granWrite, hbusy])
  · intro g v hg hsame hidle
    refine ⟨_, congrArg Host.Outcome.next (State.granWrite_of_same_mode hg hsame hidle), ?_, rfl⟩
    rw [State.rdF_wrF_same _ _ (by omega) (by omega)]
    exact Nat.mod_eq_of_lt (bf_lt ..)
  · intro v
    exact congrArg Host.Outcome.next (by simp [State.granWrite])
  · intro g hg harm hbusy
    have hexec : exec (.refillEnd g) s = .next ((s.refill g).wrB (rMemGran g) 3 false) := by
      show execRefillEnd g s = _
      simp [execRefillEnd, hg, hbusy]
    rw [State.refill, State.zeroFill_of_unarmed harm] at hexec
    exact ⟨_, hexec, State.rdB_wrB_same _ _ (by omega) _, fun a => tget_tclear .., rfl⟩
  · intro v h1 h3
    have hinj : s.injectable = false := by simp [State.injectable, h1, h3]
    refine ⟨?_, ?_, ?_⟩
    · show execEccInjArm v s = _
      simp [execEccInjArm, hinj]
    · show execRawRead v s = _
      simp [execRawRead, hinj]
    · show execRawWrite v s = _
      simp [execRawWrite, hinj]
  · intro hinj
    refine ⟨fun v pa hpa => exec_eccInjArm_of_word hinj hpa, fun v hpa => exec_eccInjArm_of_no_word hinj hpa, fun hinit v => ⟨?_, ?_⟩,
      fun hinit v pa hpa => ?_⟩
    · show execRawRead v s = _
      simp [execRawRead, hinit]
    · show execRawWrite v s = _
      simp [execRawWrite, hinit]
    · dsimp only
      rw [granSize_words]
      exact ⟨exec_rawRead_of_word hinj hinit hpa, exec_rawWrite_of_word hinj hinit hpa⟩

end Sys2Proof.Machine
end

section
/-! PROOFS. The spares of the memory (R332 to R336, R342 to R348, R573): channels and their rebuild, rows, buckets; and what the handling of
errors in any word leaves of them. -/

namespace Sys2Proof.Machine

/-! ### What error handling keeps of the spares -/

/-- What the handling of errors, reports and traces may touch: registers, memory and its check bits, the notes on both, the cores' test
flags, counters, and the host's error ring with what goes with it. -/
def MemOnly (s t : State) : Prop :=
  t = { s with
    regs := t.regs, mem := t.mem, ecc := t.ecc, cores := t.cores, memx := t.memx, cnt := t.cnt, reports := t.reports, rseq := t.rseq
    host := { s.host with err := t.host.err, irqs := t.host.irqs, rates := t.host.rates, mem := t.host.mem } }

theorem MemOnly.trans {s t u : State} (h : MemOnly s t) (h' : MemOnly t u) : MemOnly s u := by
  unfold MemOnly at *
  rw [h']
  rw [h]

/-- The registers that the handling of errors may write: those of the cores, the memory channels, and the buckets and the test of the checker. -/
def handledReg (o : Nat) : Prop := (0x1000000 ≤ o ∧ o < 0x1010000) ∨ (rMemChan 0 ≤ o ∧ o < rMemChan 160) ∨ (0x1030000 ≤ o ∧ o < 0x1040000)

/-- t is s after errors have been handled, reported and traced: no other register moves, and the spare rows of t are those of s, by the counts in
the channels' registers, the row map and the redundancy in use. -/
structure Handled (s t : State) : Prop where
  only : MemOnly s t
  regs : ∀ o, ¬ handledReg o → t.rd o = s.rd o
  left : ∀ x < 160, t.rdF (rMemChan x) 9 0 = s.rdF (rMemChan x) 9 0
  rowMap : t.memx.rowMap = s.memx.rowMap
  redundancy : t.memx.redundancy = s.memx.redundancy
  /-- bits 4 to 1 of no register move: with them CORE_STAT.FROZEN -/
  low : ∀ o, t.rdF o 4 1 = s.rdF o 4 1
  wins : t.cnt.wins = s.cnt.wins
  /-- of a core's record, only the note that it is to be tested next -/
  core : ∀ i, t.core i = { s.core i with testNext := (t.core i).testNext }
  /-- bit 6 of no register moves: CORE_STAT.FENCED among them -/
  six : ∀ o, t.rdF o 6 6 = s.rdF o 6 6

namespace Handled
variable {s t u : State}

theorem refl (s : State) : Handled s s := ⟨rfl, fun _ _ => rfl, fun _ _ => rfl, rfl, rfl, fun _ => rfl, rfl, fun _ => rfl, fun _ => rfl⟩

theorem trans (h : Handled s t) (h' : Handled t u) : Handled s u :=
  ⟨h.only.trans h'.only, fun o ho => (h'.regs o ho).trans (h.regs o ho), fun x hx => (h'.left x hx).trans (h.left x hx),
    h'.rowMap.trans h.rowMap, h'.redundancy.trans h.redundancy, fun o => (h'.low o).trans (h.low o), h'.wins.trans h.wins,
    fun i => by rw [h'.core i, h.core i], fun o => (h'.six o).trans (h.six o)⟩

theorem of_eq (honly : MemOnly s t) (hregs : t.regs = s.regs) (hrow : t.memx.rowMap = s.memx.rowMap)
    (hred : t.memx.redundancy = s.memx.redundancy) (hwins : t.cnt.wins = s.cnt.wins := by rfl) (hcores : t.cores = s.cores := by rfl) : Handled s t :=
  ⟨honly, fun o _ => by rw [State.rd, hregs]; rfl, fun x _ => by rw [State.rdF, State.rd, hregs]; rfl, hrow, hred,
    fun o => by rw [State.rdF, State.rd, hregs]; rfl, hwins, fun i => by rw [State.core, hcores]; rfl, fun o => by rw [State.rdF, State.rd, hregs]; rfl⟩

/-- A core noted for its test. -/
theorem testNext (s : State) (c : Nat) (b : Bool) : Handled s (s.setCore c { s.core c with testNext := b }) := by
  refine ⟨rfl, fun _ _ => rfl, fun _ _ => rfl, rfl, rfl, fun _ => rfl, rfl, fun i => ?_, fun _ => rfl⟩
  have hc : (s.setCore c { s.core c with testNext := b }).core i = if i = c then { s.core c with testNext := b } else s.core i := tget_tput ..
  rw [hc]
  split
  · next e => rw [e]
  · rfl

theorem wr_only (s : State) (o : Nat) (v : W32) : MemOnly s (s.wr o v) := rfl

theorem wr (h : Handled s t) {o : Nat} (hin : handledReg o) (ho : o < rMemChan 0 ∨ rMemChan 160 ≤ o) {v : W32} (hv : bf v 4 1 = t.rdF o 4 1)
    (h6 : bf v 6 6 = t.rdF o 6 6) : Handled s (t.wr o v) := by
  refine h.trans ⟨wr_only .., fun o' ho' => State.rd_wr_ne _ _ _ _ fun e => ho' (e ▸ hin),
    fun x hx => State.rdF_wr_ne _ _ (by unfold rMemChan memReg at *; omega) _ _ _, rfl, rfl, fun k => ?_, rfl, fun _ => rfl, fun k => ?_⟩
  · by_cases e : k = o
    · rw [e, State.rdF, State.rd_wr_self, hv]
    · exact State.rdF_wr_ne _ _ e ..
  · by_cases e : k = o
    · rw [e, State.rdF, State.rd_wr_self, h6]
    · exact State.rdF_wr_ne _ _ e ..

/-- A register of a core or of the checker. -/
def coreOrEcc (o : Nat) : Prop := (0x1000000 ≤ o ∧ o < 0x1010000) ∨ (0x1030000 ≤ o ∧ o < 0x1040000)

theorem wr_low (h : Handled s t) {o : Nat} (ho : coreOrEcc o) {v : W32} (hv : bf v 4 1 = t.rdF o 4 1) (h6 : bf v 6 6 = t.rdF o 6 6) :
    Handled s (t.wr o v) :=
  h.wr (ho.imp_right .inr) (by unfold coreOrEcc at ho; unfold rMemChan memReg; omega) hv h6

theorem wrF_low (h : Handled s t) {o : Nat} (ho : coreOrEcc o) {hi lo : Nat} (hlo : lo ≤ hi) (hhi : hi < 32) (h6 : 6 < lo) (v : Nat) :
    Handled s (t.wrF o hi lo v) := h.wr_low ho (bf_bfSet_apart hlo hhi _ _ (.inl (by omega))) (bf_bfSet_apart hlo hhi _ _ (.inl h6))

theorem wrB_low (h : Handled s t) {o : Nat} (ho : coreOrEcc o) {i : Nat} (hi32 : i < 32) (hi : i = 0 ∨ 4 < i ∧ i ≠ 6) (b : Bool) :
    Handled s (t.wrB o i b) :=
  h.wr_low ho (bf_bitSet_apart hi32 _ _ (by omega)) (bf_bitSet_apart hi32 _ _ (by omega))

/-- A field of a channel's register above the count of spare rows. -/
theorem wrF_chan (h : Handled s t) {y : Nat} (hy : y < 160) {hi lo : Nat} (hlo : lo ≤ hi) (hhi : hi < 32) (h10 : 9 < lo) (v : Nat) :
    Handled s (t.wrF (rMemChan y) hi lo v) := by
  refine h.trans ⟨wr_only .., fun o ho => State.rd_wr_ne _ _ _ _ fun e => ho (.inr (.inl ?_)), fun x _ => ?_, rfl, rfl, fun k => ?_, rfl, fun _ => rfl, fun k => ?_⟩
  · unfold rMemChan memReg at *
    omega
  · by_cases hxy : rMemChan x = rMemChan y
    · rw [hxy, State.rdF_wrF_apart _ _ hlo hhi (.inl h10)]
    · exact State.rdF_wr_ne _ _ hxy _ _ _
  · by_cases hk : k = rMemChan y
    · rw [hk, State.rdF_wrF_apart _ _ hlo hhi (.inl (by omega))]
    · exact State.rdF_wr_ne _ _ hk ..
  · by_cases hk : k = rMemChan y
    · rw [hk, State.rdF_wrF_apart _ _ hlo hhi (.inl (by omega))]
    · exact State.rdF_wr_ne _ _ hk ..

theorem reported (h : Reported s t) : Handled s t := by
  obtain ⟨_, _, _, _, _, _, rfl⟩ := h
  exact .of_eq rfl rfl rfl rfl

theorem like (h : Handled s t) (honly : MemOnly t u) (hregs : u.regs = t.regs) (hrow : u.memx.rowMap = t.memx.rowMap)
    (hred : u.memx.redundancy = t.memx.redundancy) (hwins : u.cnt.wins = t.cnt.wins := by rfl) (hcores : u.cores = t.cores := by rfl) : Handled s u :=
  h.trans (.of_eq honly hregs hrow hred hwins hcores)

theorem foldl {α : Type} {f : State → α → State} (h : ∀ s a, Handled s (f s a)) (l : List α) (s : State) : Handled s (l.foldl f s) := by
  induction l generalizing s with
  | nil => exact .refl s
  | cons a l ih => exact (h s a).trans (ih _)

end Handled

section Keep
variable (s : State)

theorem State.setChanSt_handled {st c : Nat} (hst : st < 8) (hc : c < 20) (v pos : Nat) : Handled s (s.setChanSt st c v pos) :=
  ((Handled.refl s).wrF_chan (by omega) (by omega) (by omega) (by omega) v).wrF_chan (by omega) (by omega) (by omega) (by omega) pos

theorem State.startRebuild_handled {st : Nat} (hst : st < 8) : Handled s (s.startRebuild st) := by
  unfold State.startRebuild
  split
  · exact .refl s
  · split
    · next sp hsp =>
      have hlt : sp < 20 := List.mem_range.mp (List.mem_of_find?_eq_some hsp)
      split
      · exact .refl s
      · exact (s.setChanSt_handled hst hlt ..).wrF_chan (by omega) (by omega) (by omega) (by omega) _
    · exact .refl s

theorem State.eraseChan_handled {st c : Nat} (hst : st < 8) (hc : c < 20) (only : Bool) : Handled s (s.eraseChan st c only) := by
  have h1 : Handled s (s.wrF (rMemChan (20 * st + c)) 31 29 1) := (Handled.refl s).wrF_chan (by omega) (by omega) (by omega) (by omega) _
  have h2 := h1.trans (Handled.reported (State.report_reported (s.wrF (rMemChan (20 * st + c)) 31 29 1)
    { unit := uMem, sev := if only then 0 else 2, inst := 20 * st + c, err := eMemChanErased, beat := 0, rseq := 0 }))
  unfold State.eraseChan
  dsimp only
  generalize State.report _ _ = t at h2 ⊢
  have h3 : Handled s (if 3 ≤ ((List.range 20).filter (fun k => t.chanSt st k = 1 || t.chanSt st k = 4)).length
      then t.event uMem 3 st eMemSpareExhausted else t) := by
    split
    · exact h2.trans (.reported (State.event_reported ..))
    · exact h2
  generalize (if 3 ≤ _ then _ else t : State) = v at h3 ⊢
  split
  · exact h3.trans (.of_eq rfl rfl rfl rfl)
  · split
    · exact h3.trans (.of_eq rfl rfl rfl rfl)
    · refine .trans ?_ (State.startRebuild_handled _ hst)
      exact h3.like rfl rfl rfl rfl

theorem rCoreCtl_core {i : Nat} (hi : i < 144) : Handled.coreOrEcc (rCoreCtl i) ∧ Handled.coreOrEcc (rCoreStat i) := by
  unfold Handled.coreOrEcc rCoreCtl rCoreStat coreReg
  omega

theorem rEccBkt_ecc {k : Nat} (hk : k < 320) : Handled.coreOrEcc (rEccBkt k) := by
  unfold Handled.coreOrEcc rEccBkt eccReg
  omega

theorem State.bucket_handled {k : Nat} (hk : k < 320) : Handled s (s.bucket k) := by
  unfold State.bucket
  dsimp only
  split
  · have h1 : Handled s (((s.wrB (rEccBkt k) 0 true).incF (rEccBkt k) 31 24 1).wrF (rEccBkt k) 23 16 0) :=
      (((Handled.refl s).wrB_low (rEccBkt_ecc hk) (by omega) (.inl rfl) _).wrF_low (rEccBkt_ecc hk) (by omega) (by omega) (by omega) _).wrF_low
        (rEccBkt_ecc hk) (by omega) (by omega) (by omega) _
    generalize ((s.wrB (rEccBkt k) 0 true).incF (rEccBkt k) 31 24 1).wrF (rEccBkt k) 23 16 0 = t at h1 ⊢
    generalize t.now :: t.lastDay _ = l
    have h2 : Handled s ({ t with memx := { t.memx with overflows := tput (fun _ => []) t.memx.overflows k l } } : State) :=
      h1.trans (.of_eq rfl rfl rfl rfl)
    have h3 := h2.trans (.reported (State.event_reported { t with memx := { t.memx with overflows := tput (fun _ => []) t.memx.overflows k l } }
      uMem 1 k eMemBucketOvf))
    generalize State.event _ _ _ _ _ = u at h3 ⊢
    have h4 : Handled s (if u.rdB (rEccBktCfg k) 0 = true then { u with memx := { u.memx with mcpIrqs := u.memx.mcpIrqs ++ [k] } } else u) := by
      split
      · exact h3.trans (.of_eq rfl rfl rfl rfl)
      · exact h3
    generalize (if u.rdB (rEccBktCfg k) 0 = true then _ else u : State) = v at h4 ⊢
    split
    · next hsmall =>
      have hk160 : k < 160 := by simp only [Bool.and_eq_true, decide_eq_true_eq] at hsmall; omega
      exact h4.trans (State.eraseChan_handled _ (by omega) (by omega) _)
    · split
      · have hc := rCoreCtl_core (i := k - 176) (by omega)
        have h5 : Handled s (v.setCore (k - 176) { v.core (k - 176) with testNext := true }) := h4.trans (.testNext ..)
        exact (h5.wrB_low hc.1 (by omega) (.inr (by omega)) _).wrB_low hc.2 (by omega) (.inr (by omega)) _
      · exact h4
  · exact (Handled.refl s).wrF_low (rEccBkt_ecc hk) (by omega) (by omega) (by omega) _

theorem State.setDelta_handled (g d : Nat) : Handled s (s.setDelta g d) := .of_eq rfl rfl rfl rfl

theorem State.flipByte_handled (a e : Nat) : Handled s (s.flipByte a e) := .of_eq rfl rfl rfl rfl

theorem State.ue_handled (g : Nat) : Handled s (s.ue g) := by
  unfold State.ue
  dsimp only
  refine .trans ?_ (.reported (State.report_reported ..))
  refine .trans ?_ (State.setDelta_handled _ g _)
  split
  · exact .of_eq rfl rfl rfl rfl
  · exact .refl s

theorem State.fixPos_handled (g d i : Nat) : Handled s (s.fixPos g d i) := by
  unfold State.fixPos
  split
  · exact Handled.foldl (f := fun s (x : (Nat × Nat) × Nat) => s.flipByte (g + 4 * i + x.2) x.1.1) (fun s x => s.flipByte_handled _ _) _ s
  · exact .refl s

theorem sramBucket_lt (g : Nat) : sramBucket g < 320 := by
  have hlarder : ∀ w, larderOf g = some w → 160 + 8 * w + (g - larderBase w) / (12 * 2 ^ 20) < 320 := fun w h => by
    unfold larderOf larderBase larderSize at h
    unfold larderBase
    split at h
    · cases h
      omega
    · split at h
      · cases h
        omega
      · cases h
  have hstore : (storeOf g).getD 0 < 144 := by
    unfold storeOf
    split
    · rw [Option.getD_some]
      omega
    · exact Nat.zero_lt_succ _
  unfold sramBucket
  split
  · next w h => exact hlarder w h
  · omega

theorem State.tagFix_handled (g tag : Nat) : Handled s (s.tagFix g tag) := by
  unfold State.tagFix
  split
  · exact .refl s
  · exact s.bucket_handled (sramBucket_lt g)

theorem State.stackOf_lt (g : Nat) : s.stackOf g < 8 := by
  have hx : ∀ {a b c : Nat}, a < 8 → b < 8 → c < 8 → a ^^^ b ^^^ c < 2 ^ 3 := fun h1 h2 h3 =>
    Nat.xor_lt_two_pow (Nat.xor_lt_two_pow h1 h2) h3
  have hy : ∀ {a b c : Nat}, a < 4 → b < 4 → c < 4 → a ^^^ b ^^^ c < 2 ^ 2 := fun h1 h2 h3 =>
    Nat.xor_lt_two_pow (Nat.xor_lt_two_pow h1 h2) h3
  unfold State.stackOf
  dsimp only
  split
  · exact (hy (Nat.mod_lt _ (by decide)) (Nat.mod_lt _ (by decide)) (Nat.mod_lt _ (by decide))).trans (by decide)
  · split
    · exact Nat.add_lt_add_left (hy (Nat.mod_lt _ (by decide)) (Nat.mod_lt _ (by decide)) (Nat.mod_lt _ (by decide))) 4
    · exact hx (Nat.mod_lt _ (by decide)) (Nat.mod_lt _ (by decide)) (Nat.mod_lt _ (by decide))

theorem State.chanAt_lt (st : Nat) {pos : Nat} (hpos : pos < 20) : s.chanAt st pos < 20 := by
  unfold State.chanAt
  cases h : (List.range 20).find? (fun c => s.rdF (rMemChan (20 * st + c)) 28 24 = pos && s.chanSt st c ≠ 2) with
  | none => exact hpos
  | some c => exact List.mem_range.mp (List.mem_of_find?_eq_some h)

theorem State.dramCorrected_handled (g : Nat) {pos : Nat} (hpos : pos < 20) : Handled s (s.dramCorrected g pos) := by
  have hst := s.stackOf_lt g
  have hc := s.chanAt_lt (s.stackOf g) hpos
  have h1 := s.bucket_handled (k := 20 * s.stackOf g + s.chanAt (s.stackOf g) pos) (by omega)
  unfold State.dramCorrected
  dsimp only
  generalize s.bucket (20 * s.stackOf g + s.chanAt (s.stackOf g) pos) = t at h1 ⊢
  split
  · refine .trans ?_ (State.eraseChan_handled _ hst hc _)
    exact h1.like rfl rfl rfl rfl
  · exact h1.like rfl rfl rfl rfl

theorem rsTry_lt {syn : List (Nat × Nat)} {er : Option Nat} {po : Bool} {i : Nat} (h : rsTry syn er po = some (some i)) :
    i < 18 ∨ er = some i := by
  unfold rsTry at h
  dsimp only at h
  generalize syn.map (fun x => (x.1, x.2 ^^^ if po = true then rsPi else 0)) = st at h
  cases er with
  | none =>
    dsimp only at h
    split at h
    · simp at h
    · cases hf : (List.range 18).find? (fun i => st.all (fun x => x.2 = gfMul x.1 (gfAlpha i))) with
      | none => simp [hf] at h
      | some k =>
        rw [hf] at h
        obtain rfl := Option.some.inj (Option.some.inj h)
        exact .inl (List.mem_range.mp (List.mem_of_find?_eq_some hf))
  | some j =>
    dsimp only at h
    split at h
    · exact .inr (Option.some.inj h)
    · simp at h

/-- A corrected position is one of the 18 of a line, or the erased one. -/
theorem rsDecode_lt {d : Nat} {er : Option Nat} {po : Bool} {i : Nat} (h : rsDecode d er = some (po, some i)) : i < 18 ∨ er = some i := by
  unfold rsDecode at h
  dsimp only at h
  split at h
  · next hc => exact rsTry_lt (hc.trans (congrArg some (Prod.mk.inj (Option.some.inj h)).2))
  · split at h
    · next hc => exact rsTry_lt (hc.trans (congrArg some (Prod.mk.inj (Option.some.inj h)).2))
    · simp at h

theorem State.decodeGran_handled (g : Nat) : Handled s (s.decodeGran g).1 := by
  unfold State.decodeGran
  dsimp only
  split
  · exact .refl s
  split
  · split
    · exact s.ue_handled g
    · exact .refl s
    · next hdec =>
      unfold State.correctPos
      dsimp only
      split
      · exact .refl s
      · next her =>
        refine ((s.fixPos_handled ..).trans (State.setDelta_handled ..)).trans (State.dramCorrected_handled _ _ ?_)
        rcases rsDecode_lt hdec with h | h
        · omega
        · simp [h] at her
  · split
    · exact (s.setDelta_handled ..).trans (State.tagFix_handled ..)
    · split
      · exact (((s.setDelta_handled ..).trans (State.flipByte_handled ..)).trans (State.bucket_handled _ (sramBucket_lt g))).trans
          (State.tagFix_handled ..)
      · split
        · exact ((s.setDelta_handled ..).trans (State.bucket_handled _ (sramBucket_lt g))).trans (State.tagFix_handled ..)
        · exact s.ue_handled g

theorem rEccInjCtl_ecc : Handled.coreOrEcc rEccInjCtl := by
  unfold Handled.coreOrEcc rEccInjCtl eccReg
  omega

theorem State.flipMask_handled (g : Nat) : Handled s (s.flipMask g) := by
  have hflip : ∀ (f e : Nat → Nat) (l : List Nat) (t : State), Handled t (l.foldl (fun s k => s.flipByte (f k) (e k)) t) :=
    fun f e l t => Handled.foldl (fun s k => s.flipByte_handled _ _) l t
  unfold State.flipMask
  split
  · exact .refl s
  split
  · exact .refl s
  have hend : ∀ t, Handled s t → Handled s
      (((({ t with memx := { t.memx with armed := none } } : State).wrB rEccInjCtl 31 false)).wrB rEccInjCtl 30 true) := fun t h => by
    refine Handled.wrB_low (Handled.wrB_low ?_ rEccInjCtl_ecc (by omega) (.inr (by omega)) _) rEccInjCtl_ecc (by omega) (.inr (by omega)) _
    exact h.like rfl rfl rfl rfl
  refine hend _ ?_
  split
  · split
    · refine .trans ?_ (State.setDelta_handled ..)
      exact (hflip ..).trans (hflip ..)
    · split
      · exact .trans (hflip ..) (State.setDelta_handled ..)
      · exact .trans (hflip ..) (State.setDelta_handled ..)
  · exact .trans (hflip ..) (State.setDelta_handled ..)

theorem State.writeGran_handled (g off : Nat) (b : List Byte) (po : Bool) : Handled s (s.writeGran g off b po) := by
  unfold State.writeGran
  dsimp only
  refine .trans (.trans ?_ (State.setDelta_handled ..)) (State.flipMask_handled ..)
  split
  · exact .of_eq rfl rfl rfl rfl
  · exact (s.decodeGran_handled g).trans (.of_eq rfl rfl rfl rfl)

theorem State.writeMem_handled (pa : Nat) (b : List Byte) (pois : List Nat) : Handled s (s.writeMem pa b pois) := by
  unfold State.writeMem
  split
  · exact .refl s
  · exact Handled.foldl (fun s g => s.writeGran_handled ..) _ s

theorem State.ctlWrite_handled (pa : Nat) (b : List Byte) : Handled s (s.ctlWrite pa b) := by
  unfold State.ctlWrite
  split
  · exact .reported (State.event_reported ..)
  · exact s.writeMem_handled ..

theorem State.putTrace_handled (y : Nat) (r : TraceRec) : Handled s (s.putTrace y r) :=
  (s.ctlWrite_handled ..).trans (.of_eq rfl rfl rfl rfl)

theorem State.traceTo_handled (y : Nat) (w : Option Nat) (r : TraceRec) : Handled s (s.traceTo y w r) := by
  unfold State.traceTo
  dsimp only
  split
  · exact .refl s
  · split
    · exact .of_eq rfl rfl rfl rfl
    · refine .trans ?_ (State.putTrace_handled ..)
      have hlost : ∀ {p : Prop} [Decidable p] (c : Counters) (x : TraceRec), c.wins = s.cnt.wins →
          Handled s (if p then s else ({ s with cnt := c } : State).putTrace y x) := fun c x hc => by
        split
        · exact .refl s
        · refine .trans ?_ (State.putTrace_handled ..)
          exact .of_eq rfl rfl rfl rfl hc
      cases w with
      | none => exact hlost _ _ rfl
      | some w =>
        refine (hlost _ _ ?_).like rfl rfl rfl rfl
        rfl

theorem State.trace_handled (p type unit inst : Nat) (r : Req) (data : Nat) : Handled s (s.trace p type unit inst r data) := by
  unfold State.trace
  dsimp only
  split
  · exact (s.traceTo_handled ..).trans (State.traceTo_handled ..)
  · exact s.traceTo_handled ..

theorem State.traceModule_handled (type unit inst data : Nat) : Handled s (s.traceModule type unit inst data) := s.traceTo_handled ..

theorem State.readGran_handled (g : Nat) : Handled s (s.readGran g).1 := by
  unfold State.readGran
  dsimp only
  split
  · exact s.decodeGran_handled g
  · exact (s.decodeGran_handled g).trans (State.flipMask_handled ..)

theorem State.readMem_handled (pa n : Nat) : Handled s (s.readMem pa n).1 := by
  have hfold : ∀ (l : List Nat) (a : State × List Nat × List Byte), Handled a.1 (l.foldl (fun acc g =>
      ((acc.1.readGran g).1, if (acc.1.readGran g).2.1 then acc.2.1 ++ [g] else acc.2.1, acc.2.2 ++ (acc.1.readGran g).2.2)) a).1 := by
    intro l
    induction l with
    | nil => exact fun a => .refl a.1
    | cons g l ih => exact fun a => (a.1.readGran_handled g).trans (ih ((a.1.readGran g).1, _, _))
  unfold State.readMem
  split
  · exact .refl s
  · exact hfold _ (s, [], [])

theorem State.spareUsed_handled (unit inst : Nat) : Handled s (s.spareUsed unit inst) :=
  .trans (.reported (s.event_reported ..)) (State.traceModule_handled ..)

end Keep

end Sys2Proof.Machine
end

section
/-! PROOFS. Writes to a memory without errors, the trace, and the spares' commands (R333 to R336, R342 to R347, R573). -/

namespace Sys2Proof.Machine

/-! ### A memory without errors stays so -/

/-- Every granule's check bits are valid and no flip is armed. -/
def State.quiet (s : State) : Prop := (∀ g, s.delta g = 0) ∧ s.memx.armed = none

theorem State.noErrors.quiet {s : State} (h : s.noErrors) : s.quiet := ⟨fun g => by rw [State.delta, h.1]; rfl, h.2⟩

theorem State.quiet.like {s t : State} (h : s.quiet) (hecc : t.ecc = s.ecc) (hmemx : t.memx = s.memx) : t.quiet :=
  ⟨fun g => by rw [State.delta, hecc]; exact h.1 g, by rw [hmemx]; exact h.2⟩

theorem State.countBlock_quiet {s : State} (h : s.quiet) (a n : Nat) : (s.countBlock a n).quiet := h

/-- t is s after notes of what happened: reports, counts, and bytes of memory written by the trace. -/
def Noted (s t : State) : Prop :=
  ∃ err irqs rates hmem reports rseq mem ecc cnt,
    t = { s with host := { s.host with err, irqs, rates, mem := hmem }, reports, rseq, mem, ecc, cnt }

theorem Noted.refl (s : State) : Noted s s := ⟨_, _, _, _, _, _, _, _, _, rfl⟩

theorem Noted.trans {s t u : State} : Noted s t → Noted t u → Noted s u := by
  rintro ⟨_, _, _, _, _, _, _, _, _, rfl⟩ ⟨_, _, _, _, _, _, _, _, _, rfl⟩
  exact ⟨_, _, _, _, _, _, _, _, _, rfl⟩

theorem Reported.noted {s t : State} : Reported s t → Noted s t := by
  rintro ⟨_, _, _, _, _, _, rfl⟩
  exact ⟨_, _, _, _, _, _, _, _, _, rfl⟩

theorem Counted.noted {s t : State} (h : Counted s t) : Noted s t := ⟨_, _, _, _, _, _, _, _, _, h⟩

theorem Noted.regs {s t : State} (h : Noted s t) : t.regs = s.regs := by
  obtain ⟨_, _, _, _, _, _, _, _, _, rfl⟩ := h
  rfl

theorem Noted.memx {s t : State} (h : Noted s t) : t.memx = s.memx := by
  obtain ⟨_, _, _, _, _, _, _, _, _, rfl⟩ := h
  rfl

theorem Noted.rd {s t : State} (h : Noted s t) (o : Nat) : t.rd o = s.rd o := by
  rw [State.rd, h.regs]
  rfl

theorem Reported.ite {s t u : State} {p : Prop} [Decidable p] (ht : Reported s t) (hu : Reported s u) : Reported s (if p then t else u) := by
  split
  · exact ht
  · exact hu

theorem Reported.ecc {s t : State} (h : Reported s t) : t.ecc = s.ecc := by
  obtain ⟨_, _, _, _, _, _, rfl⟩ := h
  rfl

theorem Reported.memx {s t : State} (h : Reported s t) : t.memx = s.memx := h.noted.memx

theorem Reported.rd {s t : State} (h : Reported s t) (o : Nat) : t.rd o = s.rd o := h.noted.rd o

theorem Reported.quiet {s t : State} (h : Reported s t) (hq : s.quiet) : t.quiet :=
  ⟨fun g => by rw [State.delta, h.ecc]; exact hq.1 g, by rw [h.memx]; exact hq.2⟩

section Quiet
variable {s : State} (hq : s.quiet)
include hq

theorem State.writeMem_quiet (pa : Nat) (b : List Byte) : (∃ mem ecc, s.writeMem pa b = { s with mem, ecc }) ∧ (s.writeMem pa b).quiet := by
  have hfold : ∀ (f g : Nat → Nat) (x : Nat → List Byte) (l : List Nat) (t : State), t.quiet →
      (∃ mem ecc, l.foldl (fun t a => t.writeGran (f a) (g a) (x a) (([] : List Nat).contains (f a))) t = { t with mem, ecc })
        ∧ (l.foldl (fun t a => t.writeGran (f a) (g a) (x a) (([] : List Nat).contains (f a))) t).quiet := by
    intro f g x l
    induction l with
    | nil => exact fun t ht => ⟨⟨_, _, rfl⟩, ht⟩
    | cons a l ih =>
      intro t ht
      have hw : Stored t (t.writeGran (f a) (g a) (x a) (([] : List Nat).contains (f a))) (f a + g a) (x a) :=
        State.writeGran_stored ht.2 (ht.1 _)
      have hmemx := congrArg State.memx hw.only
      obtain ⟨⟨mem, ecc, h⟩, hend⟩ := ih _ ⟨fun k => (hw.delta k).trans (ht.1 k), (congrArg MemX.armed hmemx).trans ht.2⟩
      refine ⟨⟨mem, ecc, ?_⟩, hend⟩
      rw [List.foldl_cons, h, hw.only]
  unfold State.writeMem
  split
  · exact ⟨⟨_, _, rfl⟩, hq⟩
  · exact hfold id _ _ _ s hq

theorem State.ctlWrite_quiet (pa : Nat) (b : List Byte) : Noted s (s.ctlWrite pa b) ∧ (s.ctlWrite pa b).quiet := by
  unfold State.ctlWrite
  split
  · exact ⟨(s.event_reported ..).noted, (s.event_reported ..).quiet hq⟩
  · obtain ⟨⟨mem, ecc, h⟩, hend⟩ := State.writeMem_quiet hq pa b
    exact ⟨⟨_, _, _, _, _, _, mem, ecc, _, h⟩, hend⟩

theorem State.putTrace_quiet (y : Nat) (r : TraceRec) : Noted s (s.putTrace y r) ∧ (s.putTrace y r).quiet := by
  unfold State.putTrace
  dsimp only
  have h := State.ctlWrite_quiet hq (s.rd64 (rCntTrcb y) + 32 * (tget (fun _ => 0) s.cnt.traceNext y
    % 2 ^ (if s.rdF (rCntTrc y) 30 26 < 10 then 10 else if 20 < s.rdF (rCntTrc y) 30 26 then 20 else s.rdF (rCntTrc y) 30 26)))
    (leBytes 8 s.now.toNat ++ leBytes 2 s.beat.phase.toNat ++ leBytes 1 r.type ++ leBytes 1 r.part ++ leBytes 2 r.layer.toNat
    ++ leBytes 2 r.oper.toNat ++ leBytes 4 r.seq.toNat ++ leBytes 2 r.inst ++ leBytes 1 r.unit ++ [0] ++ leBytes 8 r.data)
  exact ⟨h.1.trans (Counted.noted rfl), h.2⟩

theorem State.traceTo_quiet (y : Nat) (w : Option Nat) (r : TraceRec) : Noted s (s.traceTo y w r) ∧ (s.traceTo y w r).quiet := by
  have hcnt : ∀ {t : State} (c : Counters), Noted s t ∧ t.quiet → Noted s { t with cnt := c } ∧ ({ t with cnt := c } : State).quiet :=
    fun c h => ⟨h.1.trans (Counted.noted rfl), h.2⟩
  have hput : ∀ {t : State} (r : TraceRec), Noted s t ∧ t.quiet → Noted s (t.putTrace y r) ∧ (t.putTrace y r).quiet := fun r h =>
    have h' := State.putTrace_quiet h.2 y r
    ⟨h.1.trans h'.1, h'.2⟩
  have hs : Noted s s ∧ s.quiet := ⟨.refl s, hq⟩
  unfold State.traceTo
  dsimp only
  split
  · exact hs
  · split
    · exact hcnt _ hs
    · have hlost : ∀ {p : Prop} [Decidable p] (c : Counters) (x : TraceRec),
          Noted s (if p then s else ({ s with cnt := c } : State).putTrace y x)
            ∧ (if p then s else ({ s with cnt := c } : State).putTrace y x).quiet := fun c x => by
        split
        · exact hs
        · exact hput x (hcnt c hs)
      refine hput r ?_
      cases w with
      | none => exact hlost _ _
      | some w => exact hcnt _ (hlost _ _)

theorem State.spareUsed_quiet (unit inst : Nat) : Noted s (s.spareUsed unit inst) :=
  (s.event_reported ..).noted.trans (State.traceTo_quiet ((s.event_reported ..).quiet hq) ..).1

end Quiet

/-! ### Channel states -/

/-- t is s but for its registers. -/
def RegsOnly (s t : State) : Prop := ∃ regs, t = { s with regs }

theorem RegsOnly.refl (s : State) : RegsOnly s s := ⟨_, rfl⟩

theorem RegsOnly.wrF {s t : State} (h : RegsOnly s t) (o hi lo v : Nat) : RegsOnly s (t.wrF o hi lo v) := by
  obtain ⟨_, rfl⟩ := h
  exact ⟨_, rfl⟩

theorem RegsOnly.mem {s t : State} (h : RegsOnly s t) : t.mem = s.mem := by
  obtain ⟨_, rfl⟩ := h
  rfl

section Channels
variable (s : State) (st c : Nat)

theorem rMemChan_inj {x y : Nat} (h : rMemChan x = rMemChan y) : x = y := by
  unfold rMemChan memReg at h
  omega

theorem State.chanSt_wrF_state (v c' : Nat) :
    (s.wrF (rMemChan (20 * st + c)) 31 29 v).chanSt st c' = if c' = c then v % 8 else s.chanSt st c' := by
  unfold State.chanSt
  by_cases h : c' = c
  · rw [h, if_pos rfl, State.rdF_wrF_same _ _ (by omega) (by omega)]
    rfl
  · exact (State.rdF_wr_ne _ _ (fun e => h (by have := rMemChan_inj e; omega)) _ _ _).trans (if_neg h).symm

/-- A field of a channel's register below its state. -/
theorem State.chanSt_wrF_below {hi lo : Nat} (hlo : lo ≤ hi) (hhi : hi < 29) (v c' : Nat) :
    (s.wrF (rMemChan (20 * st + c)) hi lo v).chanSt st c' = s.chanSt st c' := by
  unfold State.chanSt
  by_cases h : c' = c
  · rw [h, State.rdF_wrF_apart _ _ hlo (by omega) (by omega)]
  · exact State.rdF_wr_ne _ _ (fun e => h (by have := rMemChan_inj e; omega)) _ _ _

theorem State.chanSt_setChanSt (v pos c' : Nat) : (s.setChanSt st c v pos).chanSt st c' = if c' = c then v % 8 else s.chanSt st c' := by
  rw [State.setChanSt, State.chanSt_wrF_below _ _ _ (by omega) (by omega), State.chanSt_wrF_state]

theorem State.chanSt_of_rd {s t : State} (h : ∀ o, t.rd o = s.rd o) : t.chanSt st c = s.chanSt st c := by
  unfold State.chanSt State.rdF
  rw [h]

/-- s with other notes of its memory's errors. -/
def State.withMemx (s : State) (m : MemX) : State := { s with memx := m }

theorem State.chanSt_withMemx (m : MemX) : (s.withMemx m).chanSt st c = s.chanSt st c := State.chanSt_of_rd st c fun _ => rfl

variable {st c}

/-- A rebuild that starts takes an idle spare. -/
theorem State.startRebuild_starts {k : Nat × Bool} (her : s.erasedChan st = some k) (hnone : ∀ d < 20, s.chanSt st d ≠ 2)
    (hspare : ∃ d < 20, s.chanSt st d = 3) : ∃ d, RegsOnly s (s.startRebuild st) ∧ d < 20 ∧ s.chanSt st d = 3
      ∧ ∀ c', (s.startRebuild st).chanSt st c' = if c' = d then 2 else s.chanSt st c' := by
  obtain ⟨e, he, he3⟩ := hspare
  cases hf : (List.range 20).find? (fun c => s.chanSt st c = 3) with
  | none => simpa [he3] using List.find?_eq_none.mp hf e (List.mem_range.mpr he)
  | some d =>
    have hany : ¬ ((List.range 20).any (fun c => s.chanSt st c = 2) = true) := by simpa using hnone
    have hrun : s.startRebuild st = (s.setChanSt st d 2 (s.rdF (rMemChan (20 * st + k.1)) 28 24)).wrF (rMemChan (20 * st + d)) 23 17 0 := by
      simp only [State.startRebuild, State.erasedPos, her, Option.map_some, hf]
      rw [if_neg hany]
    have honly : RegsOnly s (s.startRebuild st) := by
      rw [hrun]
      exact (((RegsOnly.refl s).wrF ..).wrF ..).wrF ..
    refine ⟨d, honly, List.mem_range.mp (List.mem_of_find?_eq_some hf), by simpa using List.find?_some hf, fun c' => ?_⟩
    rw [hrun, State.chanSt_wrF_below _ _ _ (by omega) (by omega), State.chanSt_setChanSt]

/-- The start of a rebuild, where it starts at all, moves an idle spare's channel only. -/
theorem State.startRebuild_keeps_other (h : s.chanSt st c ≠ 3) : (s.startRebuild st).chanSt st c = s.chanSt st c := by
  unfold State.startRebuild
  split
  · rfl
  · split
    · next d hf =>
      split
      · rfl
      · have hd : s.chanSt st d = 3 := by simpa using List.find?_some hf
        have hne : c ≠ d := fun e => h (e ▸ hd)
        rw [State.chanSt_wrF_below _ _ _ (by omega) (by omega), State.chanSt_setChanSt, if_neg hne]
    · rfl

end Channels

/-! ### The commands -/

section Commands
variable {s : State} {st c : Nat}

theorem rMemChan_ne_spareCmd (x : Nat) : rMemChan x ≠ rMemSpareCmd := by
  unfold rMemChan rMemSpareCmd memReg
  omega

theorem State.chanSt_spareCmd (op c' : Nat) : (s.spareCmd st c op).chanSt st c' = s.chanSt st c' :=
  State.rdF_wr_ne _ _ (rMemChan_ne_spareCmd _) _ _ _

/-- The register and the reports of an erased channel, before the erased position is noted. -/
theorem State.eraseChan_noted (s : State) (st c : Nat) (only : Bool) : ∃ u, Reported (s.wrF (rMemChan (20 * st + c)) 31 29 1) u ∧
    s.eraseChan st c only = match u.erasedChan st with
      | some _ =>
        u.withMemx { u.memx with waiting := tput (fun _ => []) u.memx.waiting st (tget (fun _ => []) u.memx.waiting st ++ [(c, only)]) }
      | none => if only then u.withMemx { u.memx with erased := tput (fun _ => none) u.memx.erased st (some (c, only)) }
          else (u.withMemx { u.memx with erased := tput (fun _ => none) u.memx.erased st (some (c, only)) }).startRebuild st := by
  have h := State.report_reported (s.wrF (rMemChan (20 * st + c)) 31 29 1)
    { unit := uMem, sev := if only then 0 else 2, inst := 20 * st + c, err := eMemChanErased, beat := 0, rseq := 0 }
  exact ⟨_, Reported.ite (h.trans (State.event_reported ..)) h, rfl⟩

theorem State.erasedChan_of_memx {s t : State} (h : t.memx = s.memx) (st : Nat) : t.erasedChan st = s.erasedChan st := by
  rw [State.erasedChan, h, State.erasedChan]

theorem RegsOnly.memx {s t : State} (h : RegsOnly s t) : t.memx = s.memx := by
  obtain ⟨_, rfl⟩ := h
  rfl

theorem RegsOnly.ecc {s t : State} (h : RegsOnly s t) : t.ecc = s.ecc := by
  obtain ⟨_, rfl⟩ := h
  rfl

/-- What an erasure leaves, whatever follows it: the channel is in state 1, and memory is as it was. -/
theorem State.eraseChan_only (s : State) (st c : Nat) : (s.eraseChan st c true).chanSt st c = 1 ∧ (s.eraseChan st c true).mem = s.mem := by
  obtain ⟨u, hu, h⟩ := s.eraseChan_noted st c true
  have hst : u.chanSt st c = 1 := by
    rw [State.chanSt_of_rd st c hu.rd, State.chanSt_wrF_state, if_pos rfl]
  have hmem : u.mem = s.mem := hu.mem.trans ((RegsOnly.refl s).wrF _ _ _ _).mem
  have hend : ∀ m, (u.withMemx m).chanSt st c = 1 ∧ (u.withMemx m).mem = s.mem := fun m => ⟨(State.chanSt_withMemx ..).trans hst, hmem⟩
  rw [if_pos rfl] at h
  rw [h]
  split
  · exact hend _
  · exact hend _

/-- An erasure that starts its rebuild. -/
theorem State.eraseChan_rebuilds (h0 : s.chanSt st c = 0) (hnone : s.erasedChan st = none) (hidle : ∀ d < 20, s.chanSt st d ≠ 2)
    (hspare : ∃ d < 20, s.chanSt st d = 3) :
    (s.eraseChan st c false).mem = s.mem ∧ ∃ d < 20, s.chanSt st d = 3 ∧ (s.eraseChan st c false).chanSt st d = 2
      ∧ (s.eraseChan st c false).chanSt st c = 1 := by
  obtain ⟨u, hu, h⟩ := s.eraseChan_noted st c false
  have hst : ∀ c', u.chanSt st c' = if c' = c then 1 else s.chanSt st c' := fun c' => by
    rw [State.chanSt_of_rd st c' hu.rd, State.chanSt_wrF_state]
  have hu0 : u.erasedChan st = none := (State.erasedChan_of_memx (hu.memx.trans ((RegsOnly.refl s).wrF _ _ _ _).memx) st).trans hnone
  simp only [hu0, Bool.false_eq_true, if_false] at h
  obtain ⟨d, honly, hd, hd3, hall⟩ := State.startRebuild_starts (k := (c, false))
    (s := u.withMemx { u.memx with erased := tput (fun _ => none) u.memx.erased st (some (c, false)) })
    (tget_tput_self (fun _ => none) u.memx.erased st (some (c, false))) (fun d hd => by
      rw [State.chanSt_withMemx, hst]
      split
      · omega
      · exact hidle d hd) (by
      obtain ⟨e, he, he3⟩ := hspare
      refine ⟨e, he, ?_⟩
      rw [State.chanSt_withMemx, hst, if_neg (fun h => by rw [h] at he3; omega), he3])
  rw [State.chanSt_withMemx] at hd3
  have hall' : ∀ c', (s.eraseChan st c false).chanSt st c' = if c' = d then 2 else u.chanSt st c' := fun c' => by
    rw [h, ← State.chanSt_withMemx u st c' _]
    exact hall c'
  have hdc : d ≠ c := fun e => by
    rw [hst, if_pos e] at hd3
    omega
  refine ⟨?_, d, hd, ?_, ?_, ?_⟩
  · rw [h]
    exact honly.mem.trans (hu.mem.trans ((RegsOnly.refl s).wrF _ _ _ _).mem)
  · rwa [hst, if_neg hdc] at hd3
  · rw [hall', if_pos rfl]
  · rw [hall', if_neg hdc.symm, hst, if_pos rfl]

theorem spareEraseOnly_erases (hst : st < 8) (hc : c < 20) (h0 : s.chanSt st c = 0) :
    ∃ t, exec (.spareEraseOnly st c) s = .next t ∧ t.chanSt st c = 1 ∧ t.mem = s.mem := by
  have hrun : exec (.spareEraseOnly st c) s = .next ((s.spareCmd st c 1).eraseChan st c true) := by
    show execSpareEraseOnly st c s = _
    simp [execSpareEraseOnly, hst, hc, State.chanSt_spareCmd, h0]
  exact ⟨_, hrun, State.eraseChan_only ..⟩

theorem spareEraseRebuild_rebuilds (hst : st < 8) (hc : c < 20) (h0 : s.chanSt st c = 0) (hnone : s.erasedChan st = none)
    (hidle : ∀ d < 20, s.chanSt st d ≠ 2) (hspare : ∃ d < 20, s.chanSt st d = 3) :
    ∃ t d, exec (.spareEraseRebuild st c) s = .next t ∧ t.chanSt st c = 1 ∧ d < 20 ∧ s.chanSt st d = 3 ∧ t.chanSt st d = 2 ∧ t.mem = s.mem := by
  have hsame : ∀ d, (s.spareCmd st c 0).chanSt st d = s.chanSt st d := fun d => State.chanSt_spareCmd 0 d
  have hrun : exec (.spareEraseRebuild st c) s = .next ((s.spareCmd st c 0).eraseChan st c false) := by
    show execSpareEraseRebuild st c s = _
    simp [execSpareEraseRebuild, hst, hc, hsame, h0]
  obtain ⟨hmem, d, hd, hd3, hd2, hc1⟩ := State.eraseChan_rebuilds (s := s.spareCmd st c 0) ((hsame c).trans h0) hnone
    (fun d hd => by rw [hsame]; exact hidle d hd) (by simpa only [hsame] using hspare)
  exact ⟨_, d, hrun, hc1, hd, (hsame d).symm.trans hd3, hd2, hmem⟩

theorem spareStartRebuild_rebuilds (hst : st < 8) (hc : c < 20) (h1 : s.chanSt st c = 1) (her : s.erasedChan st = some (c, true))
    (hidle : ∀ d < 20, s.chanSt st d ≠ 2) (hspare : ∃ d < 20, s.chanSt st d = 3) :
    ∃ t d, exec (.spareStartRebuild st c) s = .next t ∧ d < 20 ∧ s.chanSt st d = 3 ∧ t.chanSt st d = 2 ∧ t.mem = s.mem := by
  have hsame : ∀ d, (s.spareCmd st c 2).chanSt st d = s.chanSt st d := fun d => State.chanSt_spareCmd 2 d
  have her' : (s.spareCmd st c 2).erasedChan st = some (c, true) := her
  generalize hu : s.spareCmd st c 2 = u at hsame her'
  have hrun : exec (.spareStartRebuild st c) s = .next
      ((u.withMemx { u.memx with erased := tput (fun _ => none) u.memx.erased st (some (c, false)) }).startRebuild st) := by
    rw [exec_spareStartRebuild, execSpareStartRebuild, hu]
    simp [State.spareStart, hst, hc, hsame, h1, her', State.withMemx]
  obtain ⟨d, honly, hd, hd3, hall⟩ := State.startRebuild_starts (k := (c, false)) (st := st)
    (s := u.withMemx { u.memx with erased := tput (fun _ => none) u.memx.erased st (some (c, false)) })
    (tget_tput_self (fun _ => none) u.memx.erased st (some (c, false))) (fun d hd => by
      rw [State.chanSt_withMemx, hsame]
      exact hidle d hd) (by
      obtain ⟨e, he, he3⟩ := hspare
      exact ⟨e, he, (State.chanSt_withMemx ..).trans ((hsame e).trans he3)⟩)
  rw [State.chanSt_withMemx, hsame] at hd3
  refine ⟨_, d, hrun, hd, hd3, ?_, honly.mem.trans (congrArg State.mem hu).symm⟩
  rw [hall, if_pos rfl]

/-- The end of a rebuild, up to the next channel that waits. -/
theorem rebuildEnd_retires {d : Nat} {o : Bool} (hcd : c ≠ d) (her : s.erasedChan st = some (c, o))
    (hd : (List.range 20).find? (fun e => s.chanSt st e = 2) = some d) (hclean : s.noErrors) :
    ∃ t, exec (.rebuildEnd st) s = .next t ∧ t.chanSt st d = 0 ∧ t.chanSt st c = 4 := by
  have hfin : ∀ {t : State} (m : MemX) (only : Bool), t.chanSt st d = 0 → t.chanSt st c = 4 →
      (if only then t.withMemx m else (t.withMemx m).startRebuild st).chanSt st d = 0
        ∧ (if only then t.withMemx m else (t.withMemx m).startRebuild st).chanSt st c = 4 := by
    intro t m only h0 h4
    rw [← State.chanSt_withMemx t st _ m] at h0 h4
    split
    · exact ⟨h0, h4⟩
    · rw [State.startRebuild_keeps_other _ (by omega), State.startRebuild_keeps_other _ (by omega)]
      exact ⟨h0, h4⟩
  refine ⟨_, rfl, ?_⟩
  unfold State.rebuildEnd
  rw [her, hd]
  dsimp only
  rw [hclean.1, List.map_nil, List.filter_nil, List.foldl_nil]
  generalize s.rdF (rMemChan (20 * st + c)) 28 24 = pos
  have honly : RegsOnly s (((s.setChanSt st d 0 pos).setChanSt st c 4 0x1F).wrF (rMemChan (20 * st + d)) 23 17 100) :=
    (((((RegsOnly.refl s).wrF ..).wrF ..).wrF ..).wrF ..).wrF ..
  have hst : ∀ c', (((s.setChanSt st d 0 pos).setChanSt st c 4 0x1F).wrF (rMemChan (20 * st + d)) 23 17 100).chanSt st c' =
      if c' = c then 4 else if c' = d then 0 else s.chanSt st c' := fun c' => by
    rw [State.chanSt_wrF_below _ _ _ (by omega) (by omega), State.chanSt_setChanSt, State.chanSt_setChanSt]
  generalize ((s.setChanSt st d 0 pos).setChanSt st c 4 0x1F).wrF (rMemChan (20 * st + d)) 23 17 100 = u at honly hst ⊢
  have hnote := State.spareUsed_quiet (s := u.countBlock (0x11000 + 64 * st + 32) (48 * 2 ^ 30))
    (State.countBlock_quiet (hclean.quiet.like honly.ecc honly.memx) _ _) uMem (20 * st + d)
  replace hst : ∀ c', (u.countBlock (0x11000 + 64 * st + 32) (48 * 2 ^ 30)).chanSt st c' = _ := fun c' =>
    (State.chanSt_of_rd st c' (State.countBlock_counted u _ _).noted.rd).trans (hst c')
  have h0 := (State.chanSt_of_rd st d hnote.rd).trans ((hst d).trans ((if_neg hcd.symm).trans (if_pos rfl)))
  have h4 := (State.chanSt_of_rd st c hnote.rd).trans ((hst c).trans (if_pos rfl))
  generalize State.spareUsed _ _ _ = t at h0 h4 ⊢
  split
  · exact ⟨(State.chanSt_withMemx t st d _).trans h0, (State.chanSt_withMemx t st c _).trans h4⟩
  · exact hfin _ _ h0 h4

theorem rowRemap_takes (row : Nat) (hst : st < 8) (hc : c < 20) (hleft : s.rdF (rMemChan (20 * st + c)) 9 0 ≠ 0) :
    ∃ t, exec (.rowRemap st c row) s = .next t ∧ t.rdF (rMemChan (20 * st + c)) 9 0 = s.rdF (rMemChan (20 * st + c)) 9 0 - 1
      ∧ t.memx.rowMap = s.memx.rowMap ++ [(st, c, row, 512 - s.rdF (rMemChan (20 * st + c)) 9 0)] := by
  have hlt := s.rdF_lt (rMemChan (20 * st + c)) 9 0
  have hrun : exec (.rowRemap st c row) s = .next ((({ s.wrF (rMemChan (20 * st + c)) 9 0 (s.rdF (rMemChan (20 * st + c)) 9 0 - 1) with
      memx := { s.memx with rowMap := s.memx.rowMap ++ [(st, c, row, 512 - s.rdF (rMemChan (20 * st + c)) 9 0)] } } : State).commitTable 4).spareUsed
        uMem (20 * st + c)) := by
    show execRowRemap st c row s = _
    simp [execRowRemap, hst, hc, hleft]
    rfl
  have hkept := State.spareUsed_handled (({ s.wrF (rMemChan (20 * st + c)) 9 0 (s.rdF (rMemChan (20 * st + c)) 9 0 - 1) with
      memx := { s.memx with rowMap := s.memx.rowMap ++ [(st, c, row, 512 - s.rdF (rMemChan (20 * st + c)) 9 0)] } } : State).commitTable 4)
        uMem (20 * st + c)
  refine ⟨_, hrun, (hkept.left _ (by omega)).trans ?_, hkept.rowMap⟩
  show (s.wrF (rMemChan (20 * st + c)) 9 0 (s.rdF (rMemChan (20 * st + c)) 9 0 - 1)).rdF (rMemChan (20 * st + c)) 9 0 = _
  rw [State.rdF_wrF_same _ _ (by omega) (by omega), Nat.mod_eq_of_lt (by omega)]

theorem rowRemap_of_none_left (row : Nat) (hst : st < 8) (hc : c < 20) (hleft : s.rdF (rMemChan (20 * st + c)) 9 0 = 0) :
    ∃ t, exec (.rowRemap st c row) s = .next t ∧ t.regs = s.regs ∧ t.memx = s.memx ∧ t.mem = s.mem := by
  have hrun : exec (.rowRemap st c row) s = .next (s.noSpare uMem (20 * st + c)) := by
    show execRowRemap st c row s = _
    simp [execRowRemap, hst, hc, hleft]
  have h := s.event_reported uMem 3 (20 * st + c) eAtticExhausted
  exact ⟨_, hrun, h.regs, h.memx, h.mem⟩

/-- A redundancy row taken. -/
theorem redundancyRowRemap_takes (larder : Bool) (inst bank row : Nat)
    (hbank : (if larder then inst < 2 && bank < 48 else inst < 144 && bank < 64) = true)
    (hleft : tget (fun _ => 0) s.memx.redundancy (bankKey larder inst bank) < if larder then 8 else 4) :
    ∃ t, exec (.redundancyRowRemap larder inst bank row) s = .next t
      ∧ tget (fun _ => 0) t.memx.redundancy (bankKey larder inst bank) = tget (fun _ => 0) s.memx.redundancy (bankKey larder inst bank) + 1 := by
  generalize hm : ({ s.memx with
      redundancy := tput (fun _ => 0) s.memx.redundancy (bankKey larder inst bank)
        (tget (fun _ => 0) s.memx.redundancy (bankKey larder inst bank) + 1)
      rowMap := s.memx.rowMap ++ [(8 + bankKey larder inst bank, inst, row, tget (fun _ => 0) s.memx.redundancy (bankKey larder inst bank))] } : MemX) = m
  have hrun : exec (.redundancyRowRemap larder inst bank row) s = .next ((({ s with memx := m } : State).commitTable 4).spareUsed uMem inst) := by
    show execRedundancyRowRemap larder inst bank row s = _
    rw [execRedundancyRowRemap, if_neg (by simp only [hbank]; decide), if_neg (Nat.not_le.mpr hleft), ← hm]
  have hkept := State.spareUsed_handled (({ s with memx := m } : State).commitTable 4) uMem inst
  refine ⟨_, hrun, ?_⟩
  rw [hkept.redundancy]
  show tget _ m.redundancy _ = _
  rw [← hm]
  dsimp only
  rw [tget_tput_self]

end Commands

/-- Settles O30: the commands of the spares by the lemmas above, the registers by their fields. -/
theorem memorySpares : Obligations.MemorySpares := by
  intro s
  refine ⟨fun st c hst hc h0 => spareEraseOnly_erases hst hc h0, fun st c hst hc h0 hnone hidle hspare => spareEraseRebuild_rebuilds hst hc h0 hnone hidle hspare,
    fun st c hst hc h1 her hidle hspare => spareStartRebuild_rebuilds hst hc h1 her hidle hspare,
    fun st c d o _ _ hcd her hd hclean => rebuildEnd_retires hcd her hd hclean, fun st c row hst hc hleft => rowRemap_takes row hst hc hleft,
    fun st c row hst hc hleft => rowRemap_of_none_left row hst hc hleft, fun inst bank row hinst hbank hleft => ?_,
    fun inst bank row hinst hbank hleft => ?_, fun k hk => ?_, fun k => ?_, ?_⟩
  · exact redundancyRowRemap_takes true inst bank row (by simp [hinst, hbank]) hleft
  · exact redundancyRowRemap_takes false inst bank row (by simp [hinst, hbank]) hleft
  · have hrun : exec (.bucketLeak k) s = .next (s.wrF (rEccBkt k) 23 16 (s.rdF (rEccBkt k) 23 16 - 1)) := by
      show execBucketLeak k s = _
      rw [execBucketLeak, if_pos hk]
    have hlt := s.rdF_lt (rEccBkt k) 23 16
    refine ⟨_, hrun, ?_, rfl, fun o ho => State.rd_wr_ne _ _ _ _ ho⟩
    rw [State.rdF_wrF_same _ _ (by omega) (by omega), Nat.mod_eq_of_lt (by omega)]
  · refine ⟨_, rfl, rfl, ?_, ?_, rfl⟩
    · exact State.rdF_wrF_same s (rEccBkt k) (by omega) (by omega) 0
    · exact State.rdF_wrF_apart s (rEccBkt k) (by omega) (by omega) (by omega) 0
  · exact ⟨_, rfl, rfl, State.rd_wr_self s rMemEpochDrop 0, rfl⟩

end Sys2Proof.Machine
end

section
/-! PROOFS. Register writes by access code and writer (R19, R23, R337). -/

namespace Sys2Proof.Machine

section Writes
variable {s : State} {off : Nat} {v : W32}

theorem registerWrite_permitted {who : Agent} (hword : off % 4 = 0) (hmay : mayWrite who off = true) :
    exec (.registerWrite who off v) s = .next (s.writeReg off v) := by
  rw [exec_registerWrite]
  unfold execRegisterWrite
  rw [if_neg (by omega), if_pos hmay]

theorem registerWrite_denied {who : Agent} (hword : off % 4 = 0) (hmay : mayWrite who off = false) :
    ∃ c, exec (.registerWrite who off v) s = .next (s.logSession c eHifRoleDenied off) := by
  rw [exec_registerWrite]
  unfold execRegisterWrite
  rw [if_neg (by omega), if_neg (by rw [hmay]; decide)]
  exact ⟨_, rfl⟩

/-- The registers that the test of the hardware uses lie below latch space. -/
theorem latchSpace_of_injReg (h : injReg off = true) : latchSpace off = false := by
  unfold injReg rArrStat arrReg rEccInjAddr rEccRawData eccReg at h
  simp only [Bool.or_eq_true, Bool.and_eq_true, decide_eq_true_eq] at h
  unfold latchSpace
  simp only [Bool.and_eq_false_iff, decide_eq_false_iff_not]
  omega

theorem State.writeReg_closed (h : injReg off = true) (hinj : s.injectable = false) : s.writeReg off v = s := by
  rw [State.writeReg, latchSpace_of_injReg h, if_neg (by decide), h, hinj]
  rfl

/-- A register of no field with a row of its own. -/
theorem State.writeReg_memScrub : s.writeReg rMemScrub v = s.plainReg rMemScrub v := by
  rw [State.writeReg, if_neg (by decide), if_neg (by simp [show injReg rMemScrub = false from by decide]), if_neg (by decide), if_neg (by decide),
    if_neg (by decide), if_neg (by decide), if_neg (by decide), if_neg (by decide), if_neg (by decide)]

theorem State.writeReg_pwrErr : s.writeReg rPwrErr v = s.plainReg rPwrErr v := by
  rw [State.writeReg, if_neg (by decide), if_neg (by simp [show injReg rPwrErr = false from by decide]), if_neg (by decide), if_neg (by decide),
    if_neg (by decide), if_neg (by decide), if_neg (by decide), if_neg (by decide), if_neg (by decide)]

/-- A ring's error register: a 1 clears DB_ERR. -/
theorem State.writeReg_ring {n : Nat} (hn : n < 64) :
    s.writeReg (0x100 + 8 * n) v = if bitAt v 25 then s.setRing n { s.ring n with dbErr := false } else s := by
  have hlatch : latchSpace (0x100 + 8 * n) = false := by
    simp [latchSpace]
    omega
  have hinj : injReg (0x100 + 8 * n) = false := by
    refine Bool.eq_false_iff.mpr fun h => ?_
    simp only [injReg, Bool.or_eq_true, Bool.and_eq_true, decide_eq_true_eq] at h
    unfold rArrStat arrReg rEccInjAddr rEccRawData eccReg at h
    omega
  have hring : (0x100 ≤ 0x100 + 8 * n && 0x100 + 8 * n < 0x300 && (0x100 + 8 * n) % 8 = 0) = true := by
    simp only [Bool.and_eq_true, decide_eq_true_eq]
    omega
  rw [State.writeReg, hlatch, if_neg (by decide), hinj, if_neg (by simp), if_pos hring, Nat.add_sub_cancel_left, Nat.mul_div_cancel_left _ (by decide)]

/-- A channel's status register: a 1 clears DONE or OVERRUN. -/
theorem State.writeReg_chan {c : Nat} (hc : c < 32) : s.writeReg (mbxReg c 4) v =
    s.setChan c { s.chan c with overrun := (s.chan c).overrun && !bitAt v 2, done := (s.chan c).done && !bitAt v 1 } := by
  have hlatch : latchSpace (mbxReg c 4) = false := by
    simp [latchSpace, mbxReg]
    omega
  have hinj : injReg (mbxReg c 4) = false := by
    refine Bool.eq_false_iff.mpr fun h => ?_
    simp only [injReg, Bool.or_eq_true, Bool.and_eq_true, decide_eq_true_eq] at h
    unfold mbxReg rArrStat arrReg rEccInjAddr rEccRawData eccReg at h
    omega
  have hring : (0x100 ≤ mbxReg c 4 && mbxReg c 4 < 0x300 && mbxReg c 4 % 8 = 0) = false := by
    refine Bool.eq_false_iff.mpr fun h => ?_
    simp only [Bool.and_eq_true, decide_eq_true_eq] at h
    unfold mbxReg at h
    omega
  have hchan : (0x10000 ≤ mbxReg c 4 && mbxReg c 4 < 0x10000 + 0x40 * 32) = true := by
    simp only [Bool.and_eq_true, decide_eq_true_eq]
    unfold mbxReg
    omega
  have hindex : (mbxReg c 4 - 0x10000) / 0x40 = c := by
    unfold mbxReg
    omega
  have hrest : mbxReg c 4 % 0x40 = 4 := by
    unfold mbxReg
    omega
  rw [State.writeReg, hlatch, if_neg (by decide), hinj, if_neg (by simp), hring, if_neg (by decide), if_pos hchan, hindex, hrest]
  rfl

end Writes

/-- Settles O56: a writer without the right reaches a log only; a permitted write by the register's access codes. -/
theorem registerWrites : Obligations.RegisterWrites := by
  intro s off v
  refine ⟨fun who h => ?_, fun who hword hmay => ?_, fun c hword hmay hbind => ?_, fun who hword hmay hinj hclosed => ?_, fun who hwho => ?_, ?_,
    fun n hn => ?_, fun c hc => ?_, ?_⟩
  · rw [exec_registerWrite]
    unfold execRegisterWrite
    rw [if_pos h]
  · obtain ⟨c, h⟩ := registerWrite_denied (s := s) (v := v) hword hmay
    obtain ⟨log, chans, hlog⟩ := s.logSession_only c eHifRoleDenied off
    exact ⟨_, h, by rw [hlog]⟩
  · rw [exec_registerWrite]
    unfold execRegisterWrite
    rw [if_neg (by omega), if_neg (by rw [hmay]; decide)]
    simp only [if_neg hbind]
  · rw [registerWrite_permitted hword hmay, State.writeReg_closed hinj hclosed]
  · have hmay : mayWrite who rMemScrub = true := by
      rcases hwho with rfl | rfl <;> decide
    refine ⟨_, (registerWrite_permitted (by decide) hmay).trans (congrArg _ State.writeReg_memScrub), ?_, rfl, fun o ho => State.rd_wr_ne _ _ _ _ ho⟩
    rw [State.plainReg, State.rd_wr_self]
    generalize s.rd rMemScrub = w
    show plainWrite _ w v = _
    unfold plainWrite
    rw [show (regDesc rMemScrub).rw &&& ~~~(ownRow rMemScrub) = 0x80FFFF00#32 by decide, show (regDesc rMemScrub).w1c = 0#32 by decide]
    have hones : ∀ x : W32, x &&& 4294967295#32 = x := fun x => BitVec.and_allOnes (x := x)
    simp [hones]
  · refine ⟨_, (registerWrite_permitted (by decide) rfl).trans (congrArg _ State.writeReg_pwrErr), ?_, rfl⟩
    rw [State.plainReg, State.rd_wr_self]
    generalize s.rd rPwrErr = w
    unfold plainWrite
    rw [show (regDesc rPwrErr).rw &&& ~~~(ownRow rPwrErr) = 0#32 by decide, show (regDesc rPwrErr).w1c = 0x1F#32 by decide]
    have hones : ∀ x : W32, x &&& 4294967295#32 = x := fun x => BitVec.and_allOnes (x := x)
    simp [hones, BitVec.and_comm 31#32]
  · have hmay : mayWrite .host (0x100 + 8 * n) = true := decide_eq_true (by omega)
    refine ⟨_, registerWrite_permitted (by omega) hmay, ?_, ?_⟩
    · rw [State.writeReg_ring hn]
      split
      · exact State.ring_setRing_self ..
      · rfl
    · rw [State.writeReg_ring hn]
      split <;> rfl
  · have hmay : mayWrite (.page c) (mbxReg c 4) = true := by
      simp [mayWrite, mbxReg]
      omega
    refine ⟨_, registerWrite_permitted (by unfold mbxReg; omega) hmay, ?_⟩
    rw [State.writeReg_chan hc, State.chan_setChan_self]
    exact ⟨rfl, rfl, rfl⟩
  · rw [exec_registerWrite]
    unfold execRegisterWrite
    rw [if_neg (by decide), if_neg (by decide)]

end Sys2Proof.Machine
end

section
/-! PROOFS. The refusals that every message shares (R522 to R527, R658). -/

namespace Sys2Proof.Machine

/-- Every message command serves its request; SHUTDOWN alone looks at the state afterwards, and only when a shutdown goes on. -/
theorem exec_of_requestOf {i : Instr} {r : Request} (h : requestOf i = some r) (s : State) :
    ∃ (f : State → List Byte → State × Answer) (g : State → State), (∀ t : State, t.pwr.shutting = false → g t = t)
      ∧ exec i s = .next (g (s.serve r.m r.code r.size r.who f)) := by
  unfold requestOf at h
  split at h
  case h_34 =>
    obtain rfl := Option.some.inj h
    exact ⟨_, fun t => if t.pwr.shutting && t.allIdle then t.finishShutdown else t, fun t ht => by simp [ht], rfl⟩
  case h_44 => cases h
  all_goals
    obtain rfl := Option.some.inj h
    exact ⟨_, id, fun _ _ => rfl, rfl⟩

/-- Every message code fits its field of the header (R523). -/
theorem requestOf_code {i : Instr} {r : Request} (h : requestOf i = some r) : r.code < 256 ^ 2 := by
  unfold requestOf at h
  split at h
  case h_44 => cases h
  all_goals
    obtain rfl := Option.some.inj h
    norm_num

section Serve
variable {s : State} {r : Request} {f : State → List Byte → State × Answer}

/-- A repeated request on a management channel is answered again; a busy channel sets OVERRUN. -/
theorem State.serve_of_repeated (hc : r.m.ch < 36) (hm : 32 ≤ r.m.ch) (htag : (s.chan r.m.ch).lastTag.any (fun l => l.1 = r.m.tag) = true)
    (hidle : (s.chan r.m.ch).busy = false) : s.serve r.m r.code r.size r.who f = s.answer (s.chan r.m.ch).resp :=
  (if_neg (Nat.not_le.mpr hc)).trans <| (if_pos (by simpa [hm] using htag)).trans <| if_neg (ne_true_of_eq_false hidle)

theorem State.serve_of_busy (hc : r.m.ch < 36) (htag : 32 ≤ r.m.ch → (s.chan r.m.ch).lastTag.any (fun l => l.1 = r.m.tag) = false)
    (hbusy : (s.chan r.m.ch).busy = true) :
    s.serve r.m r.code r.size r.who f = s.setChan r.m.ch { s.chan r.m.ch with overrun := true } := by
  have hrepeat : ¬ ((32 ≤ r.m.ch && (s.chan r.m.ch).lastTag.any (fun l => l.1 = r.m.tag)) = true) := by
    simpa only [Bool.and_eq_true, decide_eq_true_eq, not_and, Bool.not_eq_true] using htag
  exact (if_neg (Nat.not_le.mpr hc)).trans <| (if_neg hrepeat).trans <| if_pos hbusy

theorem State.not_malformed (hform : s.wellFormed r) :
    ¬ ((1008 < r.m.len.toNat || r.size < r.m.len.toNat || r.m.sid ≠ (s.chan r.m.ch).want) = true) := by
  obtain ⟨hlen, hsize, hsid⟩ := hform
  simp [hsid, Nat.not_lt.mpr hlen, Nat.not_lt.mpr hsize]

theorem State.not_other_version (hspeak : s.speaks r) :
    ¬ ((r.code ≠ 1 && r.code ≠ 2 && ((s.chan r.m.ch).noVersion || r.m.version ≠ (s.chan r.m.ch).version)) = true) := by
  rcases hspeak with h1 | h2 | ⟨hno, hv⟩
  · simp [h1]
  · simp [h2]
  · simp [hno, hv]

variable (hfresh : s.fresh r)
include hfresh

/-- The guards before a fresh request's own: its channel is there, waits for no other request, and has not answered it already. -/
theorem State.fresh_not_repeated : ¬ ((32 ≤ r.m.ch && (s.chan r.m.ch).lastTag.any (fun l => l.1 = r.m.tag)) = true) := by
  obtain ⟨-, -, htag⟩ := hfresh
  simpa only [Bool.and_eq_true, decide_eq_true_eq, not_and, Bool.not_eq_true] using htag

theorem State.serve_of_locked (h : (s.chan r.m.ch).bind = .locked) :
    s.serve r.m r.code r.size r.who f = (s.taking r).respond r.m.ch r.code r.m.tag eHifLocked [] :=
  have ⟨hc, hidle, _⟩ := hfresh
  (if_neg (Nat.not_le.mpr hc)).trans <| (if_neg (State.fresh_not_repeated hfresh)).trans <| (if_neg (ne_true_of_eq_false hidle)).trans <|
    (if_pos h).trans <| congrArg (State.respond · r.m.ch r.code r.m.tag eHifLocked []) (if_neg (by decide))

variable (hopen : (s.chan r.m.ch).bind ≠ .locked)
include hopen

theorem State.serve_of_malformed (h : ¬ s.wellFormed r) :
    s.serve r.m r.code r.size r.who f = (s.taking r).respond r.m.ch r.code r.m.tag eHifMsgInvalid [] := by
  have ⟨hc, hidle, _⟩ := hfresh
  have hform : (1008 < r.m.len.toNat || r.size < r.m.len.toNat || r.m.sid ≠ (s.chan r.m.ch).want) = true := by
    simp only [State.wellFormed, not_and_or, Nat.not_le] at h
    simpa [or_assoc] using h
  exact (if_neg (Nat.not_le.mpr hc)).trans <| (if_neg (State.fresh_not_repeated hfresh)).trans <| (if_neg (ne_true_of_eq_false hidle)).trans <|
    (if_neg hopen).trans <| (if_pos hform).trans <| congrArg (State.respond · r.m.ch r.code r.m.tag eHifMsgInvalid []) (if_neg (by decide))

variable (hform : s.wellFormed r)
include hform

theorem State.serve_of_other_version (h : ¬ s.speaks r) :
    s.serve r.m r.code r.size r.who f = (s.taking r).respond r.m.ch r.code r.m.tag eHifVersion [] := by
  have ⟨hc, hidle, _⟩ := hfresh
  have hspeak : (r.code ≠ 1 && r.code ≠ 2 && ((s.chan r.m.ch).noVersion || r.m.version ≠ (s.chan r.m.ch).version)) = true := by
    simp only [State.speaks, not_or, not_and] at h
    obtain ⟨h1, h2, h3⟩ := h
    cases hn : (s.chan r.m.ch).noVersion <;> simp [h1, h2, hn, h3]
  exact (if_neg (Nat.not_le.mpr hc)).trans <| (if_neg (State.fresh_not_repeated hfresh)).trans <| (if_neg (ne_true_of_eq_false hidle)).trans <|
    (if_neg hopen).trans <| (if_neg (State.not_malformed hform)).trans <| (if_pos hspeak).trans <|
    congrArg (State.respond · r.m.ch r.code r.m.tag eHifVersion []) (if_neg (by decide))

variable (hspeak : s.speaks r)
include hspeak

theorem State.serve_of_not_ready (h : s.mayServe r.code (s.chan r.m.ch) = false) :
    s.serve r.m r.code r.size r.who f = (s.taking r).respond r.m.ch r.code r.m.tag eHifNotReady [] :=
  have ⟨hc, hidle, _⟩ := hfresh
  (if_neg (Nat.not_le.mpr hc)).trans <| (if_neg (State.fresh_not_repeated hfresh)).trans <| (if_neg (ne_true_of_eq_false hidle)).trans <|
    (if_neg hopen).trans <| (if_neg (State.not_malformed hform)).trans <|
    (if_neg (State.not_other_version hspeak)).trans <| (if_pos (congrArg not h)).trans <|
    congrArg (State.respond · r.m.ch r.code r.m.tag eHifNotReady []) (if_neg (by decide))

theorem State.serve_of_no_role (hmay : s.mayServe r.code (s.chan r.m.ch) = true) (h : r.who (s.chan r.m.ch) = false) :
    s.serve r.m r.code r.size r.who f =
      ((s.taking r).logSession (if (s.chan r.m.ch).bind = .bound && ((s.taking r).chan r.m.ch).bind = .bound then some r.m.ch else none)
        eHifRoleDenied r.code).respond r.m.ch r.code r.m.tag eHifRoleDenied [] :=
  have ⟨hc, hidle, _⟩ := hfresh
  (if_neg (Nat.not_le.mpr hc)).trans <| (if_neg (State.fresh_not_repeated hfresh)).trans <| (if_neg (ne_true_of_eq_false hidle)).trans <|
    (if_neg hopen).trans <| (if_neg (State.not_malformed hform)).trans <|
    (if_neg (State.not_other_version hspeak)).trans <| (if_neg (ne_true_of_eq_false (congrArg not hmay))).trans <|
    (if_pos (congrArg not h)).trans <| congrArg (State.respond · r.m.ch r.code r.m.tag eHifRoleDenied []) (if_pos rfl)

end Serve

section Refusals
variable {i : Instr} {s u t : State} {r : Request}

theorem Aside.of_taking (h : Aside (s.taking r) t) : Aside s t := h.trans rfl

/-- A response touches its own channel; the other channels, and all of its own but the response's fields, are as before. -/
theorem State.chan_respond {c : Nat} (hc : c < 36) (hidle : (u.chan c).busy = false) (code : Nat) (tag : W32) (st : W16) (b : List Byte) (k : Nat) :
    (u.respond c code tag st b).chan k = if k = c then (u.chan c).replied code tag st b else u.chan k := by
  obtain ⟨irqs, h⟩ := State.respond_of_idle hc hidle code tag st b
  rw [h]
  exact State.chan_setChan u c k ((u.chan c).replied code tag st b)

theorem State.pwr_respond {c : Nat} (hc : c < 36) (hidle : (u.chan c).busy = false) (code : Nat) (tag : W32) (st : W16) (b : List Byte) :
    (u.respond c code tag st b).pwr = u.pwr := by
  obtain ⟨irqs, h⟩ := State.respond_of_idle hc hidle code tag st b
  rw [h]

/-- A command that ends in the response to its request, with what its channels then hold. -/
theorem served_with_channels {st : W16} {b : List Byte} {P : State → Prop} (he : exec i s = .next (u.respond r.m.ch r.code r.m.tag st b))
    (hc : r.m.ch < 36) (hcode : r.code < 256 ^ 2) (hidle : (u.chan r.m.ch).busy = false)
    (hP : ∀ t, Aside u t → (∀ k, t.chan k = if k = r.m.ch then (u.chan r.m.ch).replied r.code r.m.tag st b else u.chan k) → P t) :
    Served i s r st b P := by
  have hchans := State.chan_respond hc hidle r.code r.m.tag st b
  obtain ⟨t, het, hbody, hco, htag, hst, hdone, hbusy, hresp, haside⟩ := served_of_respond he hc hcode hidle fun _ h => h
  obtain rfl := Host.Outcome.next.inj (he.symm.trans het)
  exact ⟨_, he, hbody, hco, htag, hst, hdone, hbusy, hresp, hP _ haside hchans⟩

/-- A message command whose request is answered with a refusal. -/
theorem served_of_refusal (hr : requestOf i = some r) (hfresh : s.fresh r) (hshut : u.pwr.shutting = false)
    (hidle : (u.chan r.m.ch).busy = false) {st : W16} {P : State → Prop}
    (hserve : ∀ f, s.serve r.m r.code r.size r.who f = u.respond r.m.ch r.code r.m.tag st [])
    (hP : ∀ t, Aside u t → (∀ k, t.chan k = if k = r.m.ch then (u.chan r.m.ch).replied r.code r.m.tag st [] else u.chan k) → P t) :
    Served i s r st [] P := by
  obtain ⟨hc, -⟩ := hfresh
  obtain ⟨f, g, hg, he⟩ := exec_of_requestOf hr s
  rw [hserve, hg _ ((congrArg Power.shutting (State.pwr_respond hc hidle ..)).trans hshut)] at he
  exact served_with_channels he hc (requestOf_code hr) hidle hP

/-- A refusal before the session's role is asked leaves all but its channel. -/
theorem served_of_early_refusal (hr : requestOf i = some r) (hfresh : s.fresh r) (hshut : s.pwr.shutting = false) {st : W16}
    (hserve : ∀ f, s.serve r.m r.code r.size r.who f = (s.taking r).respond r.m.ch r.code r.m.tag st []) : Served i s r st [] (Aside s) :=
  served_of_refusal (u := s.taking r) hr hfresh hshut (by rw [State.chan_taking]; exact hfresh.2.1) hserve fun _ h _ => h.of_taking

theorem State.chan_logSession_none (s : State) (code : W16) (off k : Nat) : (s.logSession none code off).chan k = s.chan k := rfl

theorem State.log_logSession_some (s : State) (c : Nat) (code : W16) (off : Nat) : (s.logSession (some c) code off).host.log = s.host.log := by
  simp only [State.logSession]
  split <;> rfl

theorem State.pwr_logSession (s : State) (c : Option Nat) (code : W16) (off : Nat) : (s.logSession c code off).pwr = s.pwr := by
  obtain ⟨_, _, h⟩ := s.logSession_only c code off
  rw [h]

theorem Aside.log (h : Aside u t) : t.host.log = u.host.log := by
  rw [h]

/-- A state after a log entry and a response, but for the log, is as before. -/
theorem Aside.of_logged {c : Option Nat} {code : W16} {off : Nat} (h : Aside ((s.taking r).logSession c code off) t) :
    Aside { s with host := { s.host with log := t.host.log } } t := by
  have hlog := h.log
  obtain ⟨log, chans, hu⟩ := (s.taking r).logSession_only c code off
  rw [hu] at h hlog
  rw [hlog]
  exact h.trans rfl

/-- A sender without the role: the refusal stands in the log of the session, or of the module. -/
theorem served_of_no_role (hr : requestOf i = some r) (hfresh : s.fresh r) (hshut : s.pwr.shutting = false)
    (hserve : ∀ f, s.serve r.m r.code r.size r.who f =
      ((s.taking r).logSession (if (s.chan r.m.ch).bind = .bound && ((s.taking r).chan r.m.ch).bind = .bound then some r.m.ch else none)
        eHifRoleDenied r.code).respond r.m.ch r.code r.m.tag eHifRoleDenied []) :
    Served i s r eHifRoleDenied [] (fun t => Aside { s with host := { s.host with log := t.host.log } } t
      ∧ ((s.chan r.m.ch).bind ≠ .bound → t.host.log.map (·.code) = s.host.log.map (·.code) ++ [eHifRoleDenied])
      ∧ ((s.chan r.m.ch).bind = .bound → t.host.log = s.host.log ∧ ((t.chan r.m.ch).log.getLast?.map (·.code)) = some eHifRoleDenied)) := by
  have hbind : ((s.taking r).chan r.m.ch).bind = (s.chan r.m.ch).bind := by rw [State.chan_taking]
  have hbusy : ((s.taking r).chan r.m.ch).busy = false := by
    rw [State.chan_taking]
    exact hfresh.2.1
  refine served_of_refusal (u := (s.taking r).logSession (if (s.chan r.m.ch).bind = .bound && ((s.taking r).chan r.m.ch).bind = .bound then some r.m.ch
    else none) eHifRoleDenied r.code) hr hfresh ((congrArg Power.shutting (State.pwr_logSession ..)).trans hshut)
    ((State.logSession_busy ..).trans hbusy) hserve fun t h hchan => ⟨h.of_logged, fun hne => ?_, fun heq => ?_⟩
  · rw [h.log, hbind, if_neg (by simpa using hne)]
    exact List.map_append
  · rw [h.log, hchan, if_pos rfl, hbind, heq]
    exact ⟨State.log_logSession_some .., State.logSession_last ..⟩

end Refusals

/-- Settles O32: the guards that a request meets, in their order. -/
theorem messageRefusals : Obligations.MessageRefusals := by
  intro i s r hr hch hshut
  dsimp only
  refine ⟨fun hm htag hidle => ?_, fun htag hbusy => ?_, fun hfresh hlock => ?_, fun hfresh hlock hform => ?_, fun hfresh hlock hform hspeak => ?_,
    fun hfresh hlock hform hspeak hmay => ?_, fun hfresh hlock hform hspeak hmay hwho => ?_⟩
  · obtain ⟨f, g, hg, he⟩ := exec_of_requestOf hr s
    rw [he, State.serve_of_repeated hch hm htag hidle, hg]
    exact hshut
  · obtain ⟨f, g, hg, he⟩ := exec_of_requestOf hr s
    rw [he, State.serve_of_busy hch htag hbusy, hg]
    exact hshut
  · exact served_of_early_refusal hr hfresh hshut fun f => State.serve_of_locked hfresh hlock
  · exact served_of_early_refusal hr hfresh hshut fun f => State.serve_of_malformed hfresh hlock hform
  · exact served_of_early_refusal hr hfresh hshut fun f => State.serve_of_other_version hfresh hlock hform hspeak
  · exact served_of_early_refusal hr hfresh hshut fun f => State.serve_of_not_ready hfresh hlock hform hspeak hmay
  · exact served_of_no_role hr hfresh hshut fun f => State.serve_of_no_role hfresh hlock hform hspeak hmay hwho

end Sys2Proof.Machine
end

section
/-! PROOFS. Sessions, keys and rings (R525 to R536, R541, R551): what each request does to its channel. -/

namespace Sys2Proof.Machine

/-! ### An answered request, with its channel -/

section Answered
variable {i : Instr} {s : State} {r : Request} {st : W16} {b : List Byte} {f : State → List Byte → State × Answer} {u : State} {P : State → Prop}

/-- A request answered with anything but a refusal of its role, with what its channels then hold. -/
theorem served_answered (h : s.accepts r) (he : exec i s = .next (s.serve r.m r.code r.size r.who f))
    (hf : f (s.taking r) r.text = (u, some (st, b))) (hst : st ≠ eHifRoleDenied) (hcode : r.code < 256 ^ 2)
    (hidle : (u.chan r.m.ch).busy = false)
    (hP : ∀ t, Aside u t → (∀ k, t.chan k = if k = r.m.ch then (u.chan r.m.ch).replied r.code r.m.tag st b else u.chan k) → P t) :
    Served i s r st b P := by
  have ⟨⟨hch, _⟩, _⟩ := h
  rw [State.serve_of_accepts h hf, if_neg hst] at he
  exact served_with_channels he hch hcode hidle hP

/-- A channel as a request's effect finds it: DONE clear, the rest as before. -/
theorem State.chan_taking_ne (s : State) (r : Request) {k : Nat} (hk : k ≠ r.m.ch) : (s.taking r).chan k = s.chan k :=
  (State.chan_setChan ..).trans (if_neg hk)

theorem State.idle_of_accepts (h : s.accepts r) : (s.chan r.m.ch).busy = false := h.1.2.1

/-- A request that moves only its own channel's fields: the state but for the channels is as before. -/
theorem Aside.of_setChan {t : State} {x : Chan} (h : Aside ((s.taking r).setChan r.m.ch x) t) : Aside s t := h.trans rfl

/-- A request whose effect is a write of its own channel. -/
theorem served_of_setChan {x : Chan} (h : s.accepts r) (he : exec i s = .next (s.serve r.m r.code r.size r.who f))
    (hf : f (s.taking r) r.text = ((s.taking r).setChan r.m.ch x, some (st, b))) (hst : st ≠ eHifRoleDenied) (hcode : r.code < 256 ^ 2)
    (hidle : x.busy = false) (hP : ∀ t, Aside s t → t.chan r.m.ch = x.replied r.code r.m.tag st b → P t) : Served i s r st b P := by
  refine served_answered h he hf hst hcode (by rw [State.chan_setChan_self]; exact hidle) fun t ht hchan => hP t ht.of_setChan ?_
  rw [hchan, if_pos rfl, State.chan_setChan_self]

end Answered

/-! ### HELLO, IDENTITY and the handshake -/

section Sessions
variable {s : State} {m : Msg} {r : Request} {late : Bool}

theorem hello_served (hr : requestOf (.hello m) = some r) (h : s.accepts r) (hmin : leAt r.text 0 2 ≤ 0x0100) (hmax : 0x0100 ≤ leAt r.text 2 2) :
    Served (.hello m) s r 0 (leBytes 2 0x0100) (fun t => Aside s t ∧ (t.chan m.ch).ver = some 0x0100 ∧ (t.chan m.ch).noVersion = false) := by
  obtain rfl := Option.some.inj hr
  refine served_of_setChan h rfl (if_pos (by simp [hmin, hmax])) (by decide) (by norm_num) (State.taking_idle h) fun t ht hchan => ⟨ht, ?_⟩
  rw [hchan]
  exact ⟨rfl, rfl⟩

theorem hello_refused (hr : requestOf (.hello m) = some r) (h : s.accepts r) (hver : ¬ (leAt r.text 0 2 ≤ 0x0100 ∧ 0x0100 ≤ leAt r.text 2 2)) :
    Served (.hello m) s r eHifVersion [] (fun t => Aside s t ∧ (t.chan m.ch).noVersion = true) := by
  obtain rfl := Option.some.inj hr
  refine served_of_setChan h rfl (if_neg (by simpa using hver)) (by decide) (by norm_num) (State.taking_idle h) fun t ht hchan => ⟨ht, ?_⟩
  rw [hchan]
  rfl

theorem identity_served (hr : requestOf (.identity m) = some r) (h : s.accepts r) : Served (.identity m) s r 0
    ((List.range 10).flatMap (fun j => leBytes 4 (s.hifWord (4 * j)))
      ++ (List.range 8).flatMap (fun k => leBytes 1 (roleCode (s.key k).role) ++ leBytes 1 (s.key k).part)) (Aside s) := by
  obtain rfl := Option.some.inj hr
  exact served_of_answer h rfl rfl (by decide) (by norm_num) (State.taking_idle h) fun _ ht => ht.of_taking

/-- The partition that a TENANT slot, or another one, asks for (R530). -/
theorem tenantPart_good {k : KeySlot} {p : Nat} {q : Part} (h : k.role = .tenant → p = k.part ∧ q.st = .ready) :
    ¬ ((k.role = .tenant && (p ≠ k.part || q.st ≠ .ready)) = true) := by
  by_cases ht : k.role = .tenant
  · obtain ⟨h1, h2⟩ := h ht
    simp [h1, h2]
  · simp [ht]

theorem otherPart_good {k : KeySlot} {p : Nat} (h : k.role ≠ .tenant → p = 255) : ¬ ((k.role ≠ .tenant && p ≠ 255) = true) := by
  by_cases ht : k.role = .tenant
  · simp [ht]
  · simp [h ht]

theorem sessionOpen_served (hr : requestOf (.sessionOpen m) = some r) (h : s.accepts r) (hslot : leAt r.text 0 1 ≤ 7) (hzero : leAt r.text 2 14 = 0)
    (hopens : roleOpens (s.key (leAt r.text 0 1)).role s.test.lc = true)
    (htenant : (s.key (leAt r.text 0 1)).role = .tenant →
      leAt r.text 1 1 = (s.key (leAt r.text 0 1)).part ∧ (s.part (leAt r.text 1 1)).st = .ready)
    (hother : (s.key (leAt r.text 0 1)).role ≠ .tenant → leAt r.text 1 1 = 255) :
    ∃ mn sid, mn.length = 32 ∧ Served (.sessionOpen m) s r 0 (mn ++ leBytes 4 sid.toNat) (fun t => Aside { s with freeCtr := s.freeCtr + 1 } t
      ∧ (t.chan m.ch).bind = .opening ∧ (t.chan m.ch).sid = sid ∧ (t.chan m.ch).slot = leAt r.text 0 1 ∧ (t.chan m.ch).opart = leAt r.text 1 1
      ∧ (t.chan m.ch).mn = mn ∧ (t.chan m.ch).hn = (r.text.drop 16).take 16) := by
  obtain rfl := Option.some.inj hr
  refine ⟨(List.range 4).flatMap (fun i => leBytes 8 (s.free i).toNat), BitVec.ofNat 32 (s.free 4).toNat, ?_, ?_⟩
  · simp [List.length_flatMap, length_leBytes]
  · refine served_answered h rfl ((if_neg (by simp [Nat.not_lt.mpr hslot, hzero])).trans <| (if_neg (ne_true_of_eq_false (congrArg not hopens))).trans <|
      (if_neg (tenantPart_good htenant)).trans <| if_neg (otherPart_good hother)) (by decide) (by norm_num) ?_ fun t ht hchan => ⟨ht.trans rfl, ?_⟩
    · exact (congrArg Chan.busy (State.chan_setChan_self ..)).trans (State.taking_idle h)
    · rw [hchan, if_pos rfl]
      have hself : ∀ x : Chan, (State.bump ((s.taking ⟨m, 0x0010, 32, fun x => x.bind = .unbound⟩).setChan m.ch x)).chan m.ch = x := fun x =>
        State.chan_setChan_self _ _ x
      rw [hself]
      exact ⟨rfl, rfl, rfl, rfl, rfl, rfl⟩

theorem sessionProof_served (hr : requestOf (.sessionProof m late) = some r) (h : s.accepts r) (hlate : late = false)
    (hrole : (s.key (s.chan m.ch).slot).role ≠ .none)
    (hproof : r.text = hmac256 (s.key (s.chan m.ch).slot).key (proofMessage m.ch (s.chan m.ch))) :
    Served (.sessionProof m late) s r 0 (hmac256 (s.key (s.chan m.ch).slot).key (proofMessage m.ch (s.chan m.ch) ++ [0x4D])) (fun t => Aside s t
      ∧ (t.chan m.ch).bind = .bound ∧ (t.chan m.ch).role = (s.key (s.chan m.ch).slot).role ∧ (t.chan m.ch).sid = (s.chan m.ch).sid
      ∧ (t.chan m.ch).fails = 0 ∧ ((s.key (s.chan m.ch).slot).role = .tenant → (t.chan m.ch).part = (s.chan m.ch).opart)) := by
  obtain rfl := Option.some.inj hr
  have htake := s.chan_taking ⟨m, 0x0011, 32, fun x => x.bind = .opening⟩
  have hgood : (!late && (s.key (s.chan m.ch).slot).role ≠ .none
      && Request.text ⟨m, 0x0011, 32, fun x => x.bind = .opening⟩ = hmac256 (s.key (s.chan m.ch).slot).key (proofMessage m.ch (s.chan m.ch))) = true := by
    simp [hlate, hrole, hproof]
  refine served_of_setChan (x := { s.chan m.ch with
      done := false, bind := .bound, role := (s.key (s.chan m.ch).slot).role,
      part := if (s.key (s.chan m.ch).slot).role = .tenant then (s.chan m.ch).opart else 0, fails := 0
      mn := [], hn := [], log := [], logLost := 0 }) h rfl ?_ (by decide) (by norm_num) (State.idle_of_accepts h) fun t ht hchan => ⟨ht, ?_⟩
  · dsimp only at htake ⊢
    rw [htake]
    exact if_pos hgood
  · rw [hchan]
    exact ⟨rfl, rfl, rfl, rfl, fun ht => if_pos ht⟩

/-- A failed handshake: UNBOUND, or LOCKED from the fourth failure on (R531). -/
structure AuthFailed (s : State) (c : Nat) (x : Chan) : Prop where
  fails : x.fails = (s.chan c).fails + 1
  free : (s.chan c).fails < 3 → x.bind = .unbound
  locked : 3 ≤ (s.chan c).fails → x.bind = .locked ∧ x.lockS = min 64 (2 ^ ((s.chan c).fails - 3))

theorem State.authFail_failed (s : State) (c : Nat) : AuthFailed s c ((s.authFail c).chan c) ∧ ((s.authFail c).chan c).busy = (s.chan c).busy
    ∧ ∃ chans window, s.authFail c = { s with host := { s.host with chans, window } } := by
  obtain ⟨window, hclose⟩ := s.closeChan_only c
  have hchan : (s.closeChan c).chan c = (s.chan c).closed := by
    rw [hclose]
    exact State.chan_setChan_self s c _
  have honly : ∀ x, ∃ chans window, (s.closeChan c).setChan c x = { s with host := { s.host with chans, window } } := fun x => by
    rw [hclose]
    exact ⟨_, _, rfl⟩
  unfold State.authFail
  dsimp only
  rw [hchan]
  by_cases hn : (s.chan c).fails + 1 < 4
  · rw [if_pos hn, State.chan_setChan_self]
    exact ⟨⟨rfl, fun _ => rfl, fun h => absurd h (by omega)⟩, rfl, honly _⟩
  · rw [if_neg hn, State.chan_setChan_self]
    exact ⟨⟨rfl, fun h => absurd h (by omega), fun _ => ⟨rfl, rfl⟩⟩, rfl, honly _⟩

theorem sessionProof_refused (hr : requestOf (.sessionProof m late) = some r) (h : s.accepts r)
    (hbad : late = true ∨ r.text ≠ hmac256 (s.key (s.chan m.ch).slot).key (proofMessage m.ch (s.chan m.ch))) :
    Served (.sessionProof m late) s r eHifAuthFail [] (fun t => (t.chan m.ch).fails = (s.chan m.ch).fails + 1 ∧ t.mem = s.mem ∧ t.parts = s.parts
      ∧ ((s.chan m.ch).fails < 3 → (t.chan m.ch).bind = .unbound)
      ∧ (3 ≤ (s.chan m.ch).fails → (t.chan m.ch).bind = .locked ∧ (t.chan m.ch).lockS = min 64 (2 ^ ((s.chan m.ch).fails - 3)))) := by
  obtain rfl := Option.some.inj hr
  have htake := s.chan_taking ⟨m, 0x0011, 32, fun x => x.bind = .opening⟩
  have hnot : ¬ ((!late && (s.key (s.chan m.ch).slot).role ≠ .none
      && Request.text ⟨m, 0x0011, 32, fun x => x.bind = .opening⟩ = hmac256 (s.key (s.chan m.ch).slot).key (proofMessage m.ch (s.chan m.ch))) = true) := by
    rcases hbad with h1 | h1
    · simp [h1]
    · simp [h1]
  obtain ⟨⟨hfails, hfree, hlocked⟩, hbusy, chans, window, hfail⟩ := (s.taking ⟨m, 0x0011, 32, fun x => x.bind = .opening⟩).authFail_failed m.ch
  rw [htake] at hfails hfree hlocked
  refine served_answered (u := (s.taking ⟨m, 0x0011, 32, fun x => x.bind = .opening⟩).authFail m.ch) h rfl ?_ (by decide) (by norm_num)
    (hbusy.trans (State.taking_idle h)) fun t ht hchan => ?_
  · dsimp only at htake ⊢
    rw [htake]
    exact if_neg hnot
  · rw [hchan, if_pos rfl]
    refine ⟨hfails, ?_, ?_, hfree, hlocked⟩
    · rw [ht, hfail]
      rfl
    · rw [ht, hfail]
      rfl

theorem State.window_closeChan (s : State) (c : Nat) : (s.closeChan c).host.window ≠ some c := by
  unfold State.closeChan
  dsimp only
  split
  · exact nofun
  · next h => exact h

theorem sessionClose_served (hr : requestOf (.sessionClose m) = some r) (h : s.accepts r) : Served (.sessionClose m) s r 0 [] (fun t =>
    (t.chan m.ch).bind = .unbound ∧ (t.chan m.ch).role = .none ∧ (t.chan m.ch).fails = (s.chan m.ch).fails ∧ (t.chan m.ch).log = []
      ∧ t.host.window ≠ some m.ch ∧ t.mem = s.mem ∧ t.rings = s.rings) := by
  obtain rfl := Option.some.inj hr
  have htake : (s.taking ⟨m, 0x0012, 0, isBound⟩).chan m.ch = { s.chan m.ch with done := false } := s.chan_taking _
  obtain ⟨window, hclose⟩ := (s.taking ⟨m, 0x0012, 0, isBound⟩).closeChan_only m.ch
  have hwindow := State.window_closeChan (s.taking ⟨m, 0x0012, 0, isBound⟩) m.ch
  have hself : ((s.taking ⟨m, 0x0012, 0, isBound⟩).closeChan m.ch).chan m.ch = ((s.taking ⟨m, 0x0012, 0, isBound⟩).chan m.ch).closed := by
    rw [hclose]
    exact State.chan_setChan_self _ _ _
  refine served_answered (u := (s.taking _).closeChan m.ch) h rfl rfl (by decide) (by norm_num) ?_ fun t ht hchan => ?_
  · rw [hself]
    exact State.taking_idle h
  · rw [hchan, if_pos rfl, hself, ht.window]
    refine ⟨rfl, rfl, by rw [htake]; rfl, rfl, hwindow, ?_, ?_⟩
    · rw [ht, hclose]
      rfl
    · rw [ht, hclose]
      rfl

theorem errlogRead_own (hr : requestOf (.errlogRead m) = some r) (h : s.accepts r) (hzero : leAt r.text 1 15 = 0) (hsel : leAt r.text 0 1 = 0) :
    Served (.errlogRead m) s r 0 (leBytes 4 (min 60 (s.chan m.ch).log.length) ++ leBytes 4 (s.chan m.ch).logLost ++ zeros 8
      ++ ((s.chan m.ch).log.take 60).flatMap logBytes) (fun t => Aside s t ∧ (t.chan m.ch).log = (s.chan m.ch).log.drop 60) := by
  obtain rfl := Option.some.inj hr
  have htake := s.chan_taking ⟨m, 0x0014, 16, isBound⟩
  refine served_of_setChan (x := { s.chan m.ch with done := false, log := (s.chan m.ch).log.drop 60 }) h rfl ?_ (by decide) (by norm_num)
    (State.idle_of_accepts h) fun t ht hchan => ⟨ht, ?_⟩
  · dsimp only at htake ⊢
    rw [htake]
    exact (if_neg (by simp [hzero, hsel])).trans (if_neg (by omega))
  · rw [hchan]
    rfl

theorem errlogRead_module (hr : requestOf (.errlogRead m) = some r) (h : s.accepts r) (hzero : leAt r.text 1 15 = 0) (hsel : leAt r.text 0 1 = 1)
    (hrole : (s.chan m.ch).role = .operator ∨ (s.chan m.ch).role = .service) :
    Served (.errlogRead m) s r 0 (leBytes 4 (min 60 s.host.log.length) ++ leBytes 4 s.host.err.dropped ++ zeros 8
      ++ (s.host.log.take 60).flatMap logBytes) (Aside { s with host := { s.host with log := s.host.log.drop 60 } }) := by
  obtain rfl := Option.some.inj hr
  have htake := s.chan_taking ⟨m, 0x0014, 16, isBound⟩
  refine served_of_answer (u := { s.taking ⟨m, 0x0014, 16, isBound⟩ with host := { (s.taking ⟨m, 0x0014, 16, isBound⟩).host with
    log := s.host.log.drop 60 } }) h rfl ?_ (by decide) (by norm_num) (State.taking_idle h) fun t ht => ht.trans rfl
  dsimp only at htake ⊢
  rw [htake]
  exact (if_neg (by simp [hzero, hsel])).trans <| (if_pos hsel).trans <| if_pos (by simpa using hrole)

theorem nonceExpiry_fails {c : Nat} (hopen : (s.chan c).bind = .opening) : ∃ t, exec (.nonceExpiry c) s = .next t
    ∧ (t.chan c).fails = (s.chan c).fails + 1 ∧ ((s.chan c).fails < 3 → (t.chan c).bind = .unbound)
    ∧ (3 ≤ (s.chan c).fails → (t.chan c).bind = .locked)
    ∧ t.host.log.map (·.code) = s.host.log.map (·.code) ++ [eHifAuthFail] := by
  obtain ⟨⟨hfails, hfree, hlocked⟩, -, chans, window, hfail⟩ := s.authFail_failed c
  have hrun : exec (.nonceExpiry c) s = .next ((s.authFail c).logSession none eHifAuthFail 0x0011) := by
    rw [exec_nonceExpiry, execNonceExpiry, if_pos hopen]
  refine ⟨_, hrun, hfails, hfree, fun h3 => (hlocked h3).1, ?_⟩
  rw [hfail]
  exact List.map_append

theorem lockExpiry_frees {c : Nat} (hlock : (s.chan c).bind = .locked) :
    exec (.lockExpiry c) s = .next (s.setChan c { s.chan c with bind := .unbound, lockS := 0 }) := by
  rw [exec_lockExpiry]
  exact congrArg _ (if_pos hlock)

end Sessions

/-! ### Flash images -/

/-- A copy newer than the one in use is in use once it is written (R614, R615). -/
theorem Image.seq_put (i : Image) {n : Nat} (hn : i.seq < n) (ver : W32) : (i.put n ver).seq = n := by
  obtain ⟨aOk, aSeq, bOk, bSeq, aVer, bVer, live, dirty⟩ := i
  cases aOk <;> cases bOk
  · rfl
  · have h : bSeq < n := hn
    simp [Image.put, Image.seq, Image.inUse, Nat.not_lt.mpr h.le]
  · have h : aSeq < n := hn
    simp [Image.put, Image.seq, Image.inUse, h]
  · by_cases hab : bSeq < aSeq
    · have h : aSeq < n := by simpa [Image.seq, Image.inUse, Nat.not_lt.mpr hab.le] using hn
      simp [Image.put, Image.seq, Image.inUse, hab, h]
    · have h : bSeq < n := by
        by_cases hlt : aSeq < bSeq
        · simpa [Image.seq, Image.inUse, hlt] using hn
        · have heq : aSeq = bSeq := by omega
          simpa [Image.seq, Image.inUse, heq] using hn
      simp [Image.put, Image.seq, Image.inUse, hab, Nat.not_lt.mpr h.le]

theorem State.image_setImage (s : State) (k j : Nat) (i : Image) : (s.setImage k i).image j = if j = k then i else s.image j := tget_tput _ _ _ _ _

/-- A written image is newer by one. -/
theorem State.seq_flashImage (s : State) (k : Nat) : ((s.flashImage k).image k).seq = (s.image k).seq + 1 := by
  unfold State.flashImage
  dsimp only
  rw [State.image_setImage, if_pos rfl]
  exact Image.seq_put _ (Nat.lt_succ_self _) _

/-! ### KEY_SET -/

/-- The sessions that a key slot opened. -/
def Chan.opensBy (x : Chan) (k : Nat) : Bool := x.bind = .bound && x.slot = k

/-- A channel once the sessions of a slot are closed. -/
def Chan.without (k : Nat) (x : Chan) : Chan := if x.opensBy k then x.closed else x

theorem State.chan_closeChan (s : State) (c j : Nat) : (s.closeChan c).chan j = if j = c then (s.chan c).closed else s.chan j := by
  obtain ⟨window, h⟩ := s.closeChan_only c
  rw [h]
  exact State.chan_setChan s c j _

theorem State.chan_closeSlot (s : State) (k j : Nat) : (s.closeSlot k).chan j = if j < 36 then (s.chan j).without k else s.chan j := by
  refine foldl_range_entry (get := State.chan) (g := Chan.without k) (fun s c j => ?_) 36 s j
  change (if (s.chan c).opensBy k then s.closeChan c else s).chan j = _
  by_cases hopen : (s.chan c).opensBy k = true
  · rw [if_pos hopen, State.chan_closeChan]
    refine ite_congr rfl (fun hj => ?_) fun _ => rfl
    rw [hj, Chan.without, if_pos hopen]
  · rw [if_neg hopen]
    split
    · next hj => rw [hj, Chan.without, if_neg hopen]
    · rfl

theorem State.closeSlot_only (s : State) (k : Nat) : ∃ chans window, s.closeSlot k = { s with host := { s.host with chans, window } } := by
  have hfold : ∀ (l : List Nat) (s : State), ∃ chans window,
      l.foldl (fun s c => if (s.chan c).bind = .bound && (s.chan c).slot = k then s.closeChan c else s) s
        = { s with host := { s.host with chans, window } } := by
    intro l
    induction l with
    | nil => exact fun s => ⟨_, _, rfl⟩
    | cons c l ih =>
      intro s
      rw [List.foldl_cons]
      split
      · obtain ⟨window, h⟩ := s.closeChan_only c
        obtain ⟨chans, w, hl⟩ := ih (s.closeChan c)
        exact ⟨chans, w, hl.trans (by rw [h]; rfl)⟩
      · exact ih s
  exact hfold _ s

theorem Chan.without_busy (k : Nat) (x : Chan) : (x.without k).busy = x.busy := by
  unfold Chan.without
  split <;> rfl

theorem Aside.keys {u t : State} (h : Aside u t) : t.host.keys = u.host.keys := by
  rw [h]

theorem Aside.image {u t : State} (h : Aside u t) (k : Nat) : t.image k = u.image k := by
  rw [h]
  rfl

section Keys
variable {s : State} {m : Msg} {r : Request}

theorem State.key_setKey (s : State) (k j : Nat) (x : KeySlot) : (s.setKey k x).key j = if j = k then x else s.key j := tget_tput _ _ _ _ _

/-- The key slot that KEY_SET stores for a role: the wrapped key XORed with the mask of the session's own key (R535). -/
def State.newKey (s : State) (x : Chan) (b : List Byte) : KeySlot :=
  { role := roleOf (leAt b 1 1), part := leAt b 2 1,
    key := ((b.drop 16).zip (hmac256 (s.key x.slot).key
      ([0x50, 0x48, 0x57, 0x52, 0x41, 0x50, 0x31] ++ leBytes 4 x.sid.toNat ++ leBytes 1 (leAt b 0 1)))).map (fun y => y.1 ^^^ y.2) }

variable (hr : requestOf (.keySet m) = some r) (h : s.accepts r) (hslot : leAt r.text 0 1 ≤ 7) (hrole : leAt r.text 1 1 ≤ 4)
  (hpart : leAt r.text 2 1 ≤ 7) (hzero : leAt r.text 3 13 = 0)
include hr h hslot hrole hpart hzero

theorem keySet_denied (hop : (s.chan m.ch).role = .operator) (hother : leAt r.text 0 1 ≠ (s.chan m.ch).slot)
    (hten : (s.key (leAt r.text 0 1)).role ≠ .tenant) (hnone : (s.key (leAt r.text 0 1)).role ≠ .none) :
    Served (.keySet m) s r eHifRoleDenied [] (fun t => t.host.keys = s.host.keys) := by
  obtain rfl := Option.some.inj hr
  have htake := s.chan_taking ⟨m, 0x0013, 48, hasRole [.factory, .operator]⟩
  refine served_of_roleDenied (u := s.taking _) h rfl ?_ (by norm_num) (State.taking_idle h) fun c t ht => ?_
  · dsimp only at htake ⊢
    rw [htake]
    refine (if_neg (by simp [Nat.not_lt.mpr hslot, Nat.not_lt.mpr hrole, Nat.not_lt.mpr hpart, hzero])).trans (if_pos ?_)
    have h1 : ((s.taking ⟨m, 0x0013, 48, hasRole [.factory, .operator]⟩).key (leAt (Request.text ⟨m, 0x0013, 48, hasRole [.factory, .operator]⟩) 0 1)).role
        = (s.key (leAt (Request.text ⟨m, 0x0013, 48, hasRole [.factory, .operator]⟩) 0 1)).role := rfl
    simp [hop, hother, h1, hten, hnone]
  · obtain ⟨log, chans, hlog⟩ := (s.taking ⟨m, 0x0013, 48, hasRole [.factory, .operator]⟩).logSession_only c eHifRoleDenied 0x0013
    rw [ht.keys, hlog]
    rfl

variable (hfac : (s.chan m.ch).role = .factory) (hopens : s.operatorOpens = false)
include hfac hopens

/-- A FACTORY session's KEY_SET, up to the sessions that it closes. -/
theorem keySet_effect {t : State} (ht : (s.taking r).setKey (leAt r.text 0 1)
      (if roleOf (leAt r.text 1 1) = .none then noKey else s.newKey (s.chan m.ch) r.text) = t) {P : State → Prop}
    (hbusy : ((if roleOf (leAt r.text 1 1) = .none then t.closeSlot (leAt r.text 0 1) else t).chan m.ch).busy = false)
    (hP : ∀ t', Aside ((if roleOf (leAt r.text 1 1) = .none then t.closeSlot (leAt r.text 0 1) else t).flashImage 1) t' →
      (∀ k, k ≠ m.ch → t'.chan k = (if roleOf (leAt r.text 1 1) = .none then t.closeSlot (leAt r.text 0 1) else t).chan k) → P t') :
    Served (.keySet m) s r 0 [] P := by
  obtain rfl := Option.some.inj hr
  generalize hR : (⟨m, 0x0013, 48, hasRole [.factory, .operator]⟩ : Request) = R at *
  have hch : R.m.ch = m.ch := by rw [← hR]
  have htake : (s.taking R).chan m.ch = { s.chan m.ch with done := false } := by rw [← hch, State.chan_taking]
  have hopens' : (s.taking R).operatorOpens = false := hopens
  rw [← hch] at hbusy
  refine served_answered (u := (if roleOf (leAt R.text 1 1) = .none then t.closeSlot (leAt R.text 0 1) else t).flashImage 1) h (by rw [← hR]; rfl) ?_
    (by decide) (requestOf_code hr) hbusy fun t' h' hchan => hP t' h' fun k hk => (hchan k).trans (if_neg (hch ▸ hk))
  dsimp only
  rw [htake, hopens', if_neg (by simp [Nat.not_lt.mpr hslot, Nat.not_lt.mpr hrole, Nat.not_lt.mpr hpart, hzero]), if_neg (by simp [hfac]),
    if_neg (by simp), ← ht]
  rfl

theorem keySet_stores (hsome : roleOf (leAt r.text 1 1) ≠ .none) : Served (.keySet m) s r 0 [] (fun t =>
    t.key (leAt r.text 0 1) = s.newKey (s.chan m.ch) r.text ∧ (∀ k, k ≠ leAt r.text 0 1 → t.key k = s.key k)
      ∧ (t.image 1).seq = (s.image 1).seq + 1) := by
  have hm : r.m.ch = m.ch := by
    obtain rfl := Option.some.inj hr
    rfl
  refine keySet_effect hr h hslot hrole hpart hzero hfac hopens rfl ?_ fun t' ht' _ => ?_
  · rw [if_neg hsome, ← hm]
    exact State.taking_idle h
  · rw [if_neg hsome, if_neg hsome] at ht'
    have hkey : ∀ k, t'.key k = ((s.taking r).setKey (leAt r.text 0 1) (s.newKey (s.chan m.ch) r.text)).key k := fun k => by
      rw [State.key, ht'.keys]
      rfl
    refine ⟨?_, fun k hk => ?_, ?_⟩
    · rw [hkey, State.key_setKey, if_pos rfl]
    · rw [hkey, State.key_setKey, if_neg hk]
      rfl
    · rw [ht'.image, State.seq_flashImage]
      rfl

theorem keySet_clears (hnone : roleOf (leAt r.text 1 1) = .none) : Served (.keySet m) s r 0 [] (fun t => t.key (leAt r.text 0 1) = noKey
    ∧ (∀ k, k ≠ leAt r.text 0 1 → t.key k = s.key k)
    ∧ (∀ c < 36, c ≠ m.ch → (s.chan c).bind = .bound → (s.chan c).slot = leAt r.text 0 1 → (t.chan c).bind = .unbound)) := by
  have hm : r.m.ch = m.ch := by
    obtain rfl := Option.some.inj hr
    rfl
  have hch : r.m.ch < 36 := h.1.1
  refine keySet_effect hr h hslot hrole hpart hzero hfac hopens rfl ?_ fun t' ht' hchan => ?_
  · rw [if_pos hnone, State.chan_closeSlot, ← hm, if_pos hch, Chan.without_busy]
    exact State.taking_idle h
  · rw [if_pos hnone] at hchan ht'
    rw [if_pos hnone] at ht'
    obtain ⟨chans, window, hclose⟩ := ((s.taking r).setKey (leAt r.text 0 1) noKey).closeSlot_only (leAt r.text 0 1)
    have hkey : ∀ k, t'.key k = ((s.taking r).setKey (leAt r.text 0 1) noKey).key k := fun k => by
      rw [State.key, ht'.keys, hclose]
      rfl
    refine ⟨?_, fun k hk => ?_, fun c hc hcm hbound hopened => ?_⟩
    · rw [hkey, State.key_setKey, if_pos rfl]
    · rw [hkey, State.key_setKey, if_neg hk]
      rfl
    · have hsame : ((s.taking r).setKey (leAt r.text 0 1) noKey).chan c = s.chan c := State.chan_taking_ne s r (hm ▸ hcm)
      rw [hchan c hcm, if_pos hnone, State.chan_closeSlot, if_pos hc, hsame, Chan.without,
        if_pos (show (s.chan c).opensBy (leAt r.text 0 1) = true by simp [Chan.opensBy, hbound, hopened])]
      rfl

end Keys

/-- Settles O33: each request by its lemma above. -/
theorem sessions : Obligations.Sessions := by
  refine ⟨fun s m late => ⟨fun r hr h => ⟨hello_served hr h, hello_refused hr h⟩, fun r hr h => identity_served hr h,
    fun r hr h hslot hzero hopens htenant hother => sessionOpen_served hr h hslot hzero hopens htenant hother,
    fun r hr h => ⟨sessionProof_served hr h, sessionProof_refused hr h⟩, fun r hr h => sessionClose_served hr h,
    fun r hr h hzero => ⟨errlogRead_own hr h hzero, errlogRead_module hr h hzero⟩, fun c => nonceExpiry_fails, fun c => lockExpiry_frees⟩,
    fun s m r hr h hslot hrole hpart hzero => ⟨keySet_denied hr h hslot hrole hpart hzero, fun hfac hsome hopens => ?_, fun hfac hnone hopens => ?_⟩⟩
  · exact keySet_stores hr h hslot hrole hpart hzero hfac hopens hsome
  · exact keySet_clears hr h hslot hrole hpart hzero hfac hopens hnone

end Sys2Proof.Machine
end

section
/-! PROOFS. The rings' requests (R536, R541, R551). -/

namespace Sys2Proof.Machine

/-! ### A ring in the partition's memory -/

theorem State.owner_of_dram {s : State} {pa : Nat} (h : isDram pa = true) : s.owner pa = s.rdF (rMemGran (pa / 2 ^ 30)) 11 8 := if_pos h

/-- The owners of DRAM are read from registers. -/
theorem State.owns_of_regs {s t : State} (hregs : t.regs = s.regs) {p pa n : Nat} (hn : pa + n ≤ dramEnd) : t.owns p pa n = s.owns p pa n := by
  by_cases h0 : n = 0
  · simp [State.owns, h0]
  unfold State.owns
  dsimp only
  generalize hz : (if (inWorkRegion pa || inWorkRegion (pa + n - 1)) = true then 64 else 2 ^ 20) = z
  have hzpos : 0 < z := by
    rw [← hz]
    split <;> decide
  congr 1
  rw [List.all_eq, List.all_eq]
  refine decide_eq_decide.mpr (forall_congr' fun u => imp_congr_right fun hu => ?_)
  simp only [span, List.mem_map, List.mem_range] at hu
  obtain ⟨k, hk, rfl⟩ := hu
  have htop : (pa / z + k) * z ≤ pa + n - 1 := by
    have : (pa / z + k) ≤ (pa + n - 1) / z := by omega
    exact (Nat.mul_le_mul_right z this).trans (Nat.div_mul_le_self _ _)
  have hdram : isDram (max ((pa / z + k) * z) pa) = true := decide_eq_true (by omega)
  rw [State.owner_of_dram hdram, State.owner_of_dram hdram, State.rdF, State.rd, hregs, State.rdF, State.rd]

/-- A ring in device memory lies in the partition's DRAM as long as registers and core maps stay. -/
theorem State.ringAt_taking {s : State} {r : Request} {p a n : Nat} (h : s.ringAt p a n = true) : (s.taking r).ringAt p a n = true := by
  unfold State.ringAt State.partRange at h ⊢
  have hrange : (s.taking r).range a n = s.range a n := rfl
  rw [hrange]
  cases hr : s.range a n with
  | none => simp [hr] at h
  | some pa =>
    simp only [hr] at h ⊢
    by_cases hown : s.owns p pa n = true
    · simp only [hown, if_true] at h
      have hend : pa + n ≤ memEnd pa := by
        unfold State.range at hr
        split at hr
        · split at hr
          · next hle => rwa [← Option.some.inj hr]
          · cases hr
        · cases hr
      have hdram : memEnd pa = dramEnd := by
        unfold memEnd
        rw [if_pos h]
      rw [State.owns_of_regs (s := s) (t := s.taking r) rfl (hdram ▸ hend), hown]
      exact h
    · simp [hown] at h

/-! ### Requests -/

section Rings
variable {s : State} {m : Msg} {r : Request} {n : Nat}

/-- A session's partition, asked before and after its request is taken. -/
theorem ownPart_taking (hm : r.m.ch = m.ch) {p : Nat} (h : ownPart (s.chan m.ch) p = true) : ownPart ((s.taking r).chan m.ch) p = true := by
  rw [← hm, State.chan_taking, hm]
  exact h

/-- A field of a body fits its bytes. -/
theorem leAt_lt (l : List Byte) (off n : Nat) : leAt l off n < 256 ^ n :=
  (leNat_lt _).trans_le (Nat.pow_le_pow_right (by decide) ((List.length_take_le _ _)))

/-- The ring that a RING_CREATE body describes (R536). -/
def newRing (b : List Byte) (owner : W32) : Ring where
  st := .running
  log2e := leAt b 1 1
  cmdDev := leAt b 2 1 % 2 = 1
  cplDev := decide (2 ≤ leAt b 2 1)
  vector := leAt b 3 1
  coalN := leAt b 4 2
  coalUs := leAt b 6 2
  cbase := BitVec.ofNat 64 (leAt b 8 8)
  rbase := BitVec.ofNat 64 (leAt b 16 8)
  owner := owner

/-- Any state that a response leaves has the rings of the state before it. -/
theorem Aside.ring {u t : State} (h : Aside u t) (n : Nat) : t.ring n = u.ring n := by
  rw [h]
  rfl

theorem ringCreate_served (hr : requestOf (.ringCreate m) = some r) (h : s.accepts r) (hn : leAt r.text 0 1 ≤ 63)
    (hown : ownPart (s.chan m.ch) (leAt r.text 0 1 / 8) = true) (hw : leAt r.text 2 1 ≤ 3) (hnone : (s.ring (leAt r.text 0 1)).st = .none)
    (hlo : 4 ≤ leAt r.text 1 1) (hhi : leAt r.text 1 1 ≤ 16) (hvec : leAt r.text 3 1 ≤ 63) (hcoal : leAt r.text 4 2 ≤ 255)
    (hc : leAt r.text 8 8 % 64 = 0) (hrb : leAt r.text 16 8 % 32 = 0) (hready : (s.part (leAt r.text 0 1 / 8)).st = .ready)
    (hcdev : leAt r.text 2 1 % 2 = 1 → s.ringAt (leAt r.text 0 1 / 8) (leAt r.text 8 8) (64 * 2 ^ leAt r.text 1 1) = true)
    (hrdev : 2 ≤ leAt r.text 2 1 → s.ringAt (leAt r.text 0 1 / 8) (leAt r.text 16 8) (32 * 2 ^ leAt r.text 1 1) = true) :
    Served (.ringCreate m) s r 0 [] (fun t => Aside (s.setRing (leAt r.text 0 1) (t.ring (leAt r.text 0 1))) t
      ∧ (t.ring (leAt r.text 0 1)).st = .running ∧ (t.ring (leAt r.text 0 1)).log2e = leAt r.text 1 1
      ∧ (t.ring (leAt r.text 0 1)).head = 0 ∧ (t.ring (leAt r.text 0 1)).tail = 0 ∧ (t.ring (leAt r.text 0 1)).written = 0
      ∧ (t.ring (leAt r.text 0 1)).chead = 0 ∧ (t.ring (leAt r.text 0 1)).cbase.toNat = leAt r.text 8 8
      ∧ (t.ring (leAt r.text 0 1)).rbase.toNat = leAt r.text 16 8 ∧ (t.ring (leAt r.text 0 1)).owner = (s.chan m.ch).sid
      ∧ (t.ring (leAt r.text 0 1)).cmdDev = decide (leAt r.text 2 1 % 2 = 1) ∧ (t.ring (leAt r.text 0 1)).cplDev = decide (2 ≤ leAt r.text 2 1)) := by
  obtain rfl := Option.some.inj hr
  generalize hR : (⟨m, 0x0030, 24, hasRole [.operator, .tenant]⟩ : Request) = R at *
  have hch : R.m.ch = m.ch := by rw [← hR]
  have hsid : ((s.taking R).chan m.ch).sid = (s.chan m.ch).sid := by
    rw [← hch, State.chan_taking]
  refine served_answered (u := (s.taking R).setRing (leAt R.text 0 1) (newRing R.text (s.chan m.ch).sid)) h (by rw [← hR]; rfl) ?_ (by decide)
    (requestOf_code hr) (State.taking_idle h) fun t ht _ => ?_
  · rw [← hsid]
    refine (if_neg (by omega)).trans <| (if_neg ?_).trans <| (if_neg (by omega)).trans <| if_neg ?_
    · rw [ringPart, ownPart_taking hch hown]
      decide
    · have h1 : ((s.taking R).ring (leAt R.text 0 1)).st = .none := hnone
      have h2 : ((s.taking R).part (ringPart (leAt R.text 0 1))).st = .ready := hready
      have h3 : leAt R.text 2 1 % 2 = 1 → (s.taking R).ringAt (ringPart (leAt R.text 0 1)) (leAt R.text 8 8) (64 * 2 ^ leAt R.text 1 1) = true :=
        fun hd => State.ringAt_taking (hcdev hd)
      have h4 : 2 ≤ leAt R.text 2 1 → (s.taking R).ringAt (ringPart (leAt R.text 0 1)) (leAt R.text 16 8) (32 * 2 ^ leAt R.text 1 1) = true :=
        fun hd => State.ringAt_taking (hrdev hd)
      simp only [Bool.or_eq_true, Bool.and_eq_true, decide_eq_true_eq, not_or, not_and, Bool.not_eq_true']
      exact ⟨⟨⟨⟨⟨⟨⟨⟨⟨by simp [h1], by omega⟩, by omega⟩, by omega⟩, by omega⟩, by simp [hc]⟩, by simp [hrb]⟩, by simp [h2]⟩,
        fun hd => by simp [h3 hd]⟩, fun hd => by simp [h4 hd]⟩
  · have hring : t.ring (leAt R.text 0 1) = newRing R.text (s.chan m.ch).sid := (ht.ring _).trans (State.ring_setRing_self ..)
    rw [hring]
    exact ⟨ht.trans rfl, rfl, rfl, rfl, rfl, rfl, rfl, (BitVec.toNat_ofNat ..).trans (Nat.mod_eq_of_lt (leAt_lt ..)), (BitVec.toNat_ofNat ..).trans (Nat.mod_eq_of_lt (leAt_lt ..)), rfl, rfl, rfl⟩

/-- The checks that the messages about one ring share. -/
theorem State.ringMsg_of_own (hm : r.m.ch = m.ch) (hnum : leAt r.text 0 1 = n) (hn : n ≤ 63) (hown : ownPart (s.chan m.ch) (n / 8) = true)
    (f : Nat → State × Answer) : (s.taking r).ringMsg m.ch r.text f = f n := by
  have h1 : ¬ 63 < leAt r.text 0 1 := by omega
  have h2 : ¬ ((!ownPart ((s.taking r).chan m.ch) (ringPart (leAt r.text 0 1))) = true) := by
    rw [hnum, ringPart, ownPart_taking hm hown]
    decide
  exact ((if_neg h1).trans (if_neg h2)).trans (congrArg f hnum)

variable (hnum : leAt r.text 0 1 = n) (hn : n ≤ 63) (hown : ownPart (s.chan m.ch) (n / 8) = true)
include hnum hn hown

theorem ringRestart_served (hr : requestOf (.ringRestart m) = some r) (h : s.accepts r) (hhalt : (s.ring n).st = .halted) :
    Served (.ringRestart m) s r 0 [] (Aside (s.setRing n { s.ring n with st := .running, cause := 0 })) := by
  obtain rfl := Option.some.inj hr
  refine served_of_answer (u := (s.taking _).setRing n { s.ring n with st := .running, cause := 0 }) h rfl ?_ (by decide) (by norm_num)
    (State.taking_idle h) fun t ht => ht.trans rfl
  rw [State.ringMsg_of_own rfl hnum hn hown]
  exact if_neg (not_not.mpr hhalt)

theorem ringRestart_refused (hr : requestOf (.ringRestart m) = some r) (h : s.accepts r) (hrun : (s.ring n).st ≠ .halted) :
    Served (.ringRestart m) s r eHifRingInvalid [] (Aside s) := by
  obtain rfl := Option.some.inj hr
  refine served_of_answer (u := s.taking _) h rfl ?_ (by decide) (by norm_num) (State.taking_idle h) fun t ht => ht.of_taking
  rw [State.ringMsg_of_own rfl hnum hn hown]
  exact if_pos hrun

theorem ringDestroy_served (hr : requestOf (.ringDestroy m) = some r) (h : s.accepts r) (hhalt : (s.ring n).st = .halted)
    (hlive : s.ringLive n = false) : Served (.ringDestroy m) s r 0 [] (Aside (s.setRing n {})) := by
  obtain rfl := Option.some.inj hr
  refine served_of_answer (u := (s.taking _).setRing n {}) h rfl ?_ (by decide) (by norm_num) (State.taking_idle h) fun t ht => ht.trans rfl
  rw [State.ringMsg_of_own rfl hnum hn hown]
  have hst : ((s.taking ⟨m, 0x0031, 1, hasRole [.operator, .tenant]⟩).ring n).st = .halted := hhalt
  have hno : (s.taking ⟨m, 0x0031, 1, hasRole [.operator, .tenant]⟩).ringLive n = false := hlive
  exact if_neg (by simp [hst, hno])

theorem ringDestroy_refused (hr : requestOf (.ringDestroy m) = some r) (h : s.accepts r) (hlive : s.ringLive n = true) :
    Served (.ringDestroy m) s r eHifRingInvalid [] (Aside s) := by
  obtain rfl := Option.some.inj hr
  refine served_of_answer (u := s.taking _) h rfl ?_ (by decide) (by norm_num) (State.taking_idle h) fun t ht => ht.of_taking
  rw [State.ringMsg_of_own rfl hnum hn hown]
  have hyes : (s.taking ⟨m, 0x0031, 1, hasRole [.operator, .tenant]⟩).ringLive n = true := hlive
  exact if_pos (by simp [hyes])

theorem ringQuery_served (hr : requestOf (.ringQuery m) = some r) (h : s.accepts r) :
    Served (.ringQuery m) s r 0 (leBytes 4 (s.ringSt n) ++ leBytes 4 (s.ring n).head.toNat ++ leBytes 4 (s.ring n).tail.toNat
      ++ leBytes 4 (s.ring n).chead.toNat ++ leBytes 4 (s.ring n).written.toNat) (Aside s) := by
  obtain rfl := Option.some.inj hr
  refine served_of_answer (u := s.taking _) h rfl ?_ (by decide) (by norm_num) (State.taking_idle h) fun t ht => ht.of_taking
  rw [State.ringMsg_of_own rfl hnum hn hown]
  rfl

end Rings

/-- Settles O35: each request by its lemma above. -/
theorem rings : Obligations.Rings := by
  intro s m
  refine ⟨fun r hr h hn hown hw hnone hlo hhi hvec hcoal hc hrb hready hcdev hrdev =>
      ringCreate_served hr h hn hown hw hnone hlo hhi hvec hcoal hc hrb hready hcdev hrdev,
    fun r n hr h hnum hn hown => ringRestart_served hnum hn hown hr h, fun r n hr h hnum hn hown => ringRestart_refused hnum hn hown hr h,
    fun r n hr h hnum hn hown => ringDestroy_served hnum hn hown hr h, fun r n hr h hnum hn hown => ringDestroy_refused hnum hn hown hr h,
    fun r n hr h hnum hn hown => ringQuery_served hnum hn hown hr h⟩

end Sys2Proof.Machine
end

section
/-! PROOFS. What updates of latches, the end of a command's threads and the failure of a command may touch (R186, R253, R379 to R383, R541). -/

namespace Sys2Proof.Machine

/-! ### Latches -/

/-- What an update of a latch may touch: threads, latches, the accesses that frozen cores hold back, and what a trace record may touch. -/
def LatchesOnly (s t : State) : Prop :=
  t = { s with
    threads := t.threads, latches := t.latches, heldAcc := t.heldAcc
    regs := t.regs, mem := t.mem, ecc := t.ecc, cores := t.cores, memx := t.memx, cnt := t.cnt, reports := t.reports, rseq := t.rseq
    host := { s.host with err := t.host.err, irqs := t.host.irqs, rates := t.host.rates, mem := t.host.mem } }

namespace LatchesOnly
variable {s t u : State}

theorem refl (s : State) : LatchesOnly s s := rfl

theorem trans (h : LatchesOnly s t) (h' : LatchesOnly t u) : LatchesOnly s u := by
  unfold LatchesOnly at *
  rw [h']
  rw [h]

theorem foldl {α : Type} {f : State → α → State} (h : ∀ s a, LatchesOnly s (f s a)) (l : List α) (s : State) : LatchesOnly s (l.foldl f s) := by
  induction l generalizing s with
  | nil => exact .refl s
  | cons a l ih => exact (h s a).trans (ih _)

theorem handled (h : Handled s t) : LatchesOnly s t := by
  obtain ⟨honly, -⟩ := h
  unfold MemOnly at honly
  unfold LatchesOnly
  rw [honly]

theorem reported (h : Reported s t) : LatchesOnly s t := handled (.reported h)

end LatchesOnly

section Latches
variable (s : State) (i j : Nat)

theorem State.wake_latchesOnly (t : Nat) (wstat : W16) : LatchesOnly s (s.wake i t wstat) := rfl

theorem State.setLatch_latchesOnly (v : W128) : LatchesOnly s (s.setLatch i j v) := rfl

theorem State.latchTest_latchesOnly : LatchesOnly s (s.latchTest i j) := by
  unfold State.latchTest
  refine LatchesOnly.foldl (fun s t => ?_) _ s
  split
  · split
    · exact s.wake_latchesOnly ..
    · exact .refl s
  · exact .refl s

theorem State.incF_latchesOnly (o hi lo n : Nat) : LatchesOnly s (s.incF o hi lo n) := rfl

theorem State.latchAdd_latchesOnly (v : W64) : LatchesOnly s (s.latchAdd i j v) := by
  unfold State.latchAdd
  dsimp only
  split
  · exact s.incF_latchesOnly ..
  · split
    · exact s.incF_latchesOnly ..
    · exact (s.setLatch_latchesOnly ..).trans (State.latchTest_latchesOnly ..)

theorem State.latchRaise_latchesOnly (v : W64) : LatchesOnly s (s.latchRaise i j v) := by
  unfold State.latchRaise
  dsimp only
  split
  · exact s.incF_latchesOnly ..
  · exact (s.setLatch_latchesOnly ..).trans (State.latchTest_latchesOnly ..)

theorem State.latchSet_latchesOnly (v : W64) (seq : W32) : LatchesOnly s (s.latchSet i j v seq) := by
  unfold State.latchSet
  dsimp only
  split
  · exact s.incF_latchesOnly ..
  · exact (s.setLatch_latchesOnly ..).trans (State.latchTest_latchesOnly ..)

theorem State.latchBreak_latchesOnly (estat : Nat) : LatchesOnly s (s.latchBreak i j estat) := by
  unfold State.latchBreak
  dsimp only
  refine .trans ?_ (LatchesOnly.foldl (fun s t => s.wake_latchesOnly ..) _ _)
  split
  · exact (s.setLatch_latchesOnly ..).trans (.handled (State.trace_handled ..))
  · exact s.setLatch_latchesOnly ..

theorem State.latchOp_latchesOnly (op : LatchOp) : LatchesOnly s (s.latchOp i j op) := by
  cases op with
  | add v => exact s.latchAdd_latchesOnly ..
  | raise v => exact s.latchRaise_latchesOnly ..
  | brk e => exact s.latchBreak_latchesOnly ..
  | word k v =>
    show LatchesOnly s (s.latchWord i j k v)
    unfold State.latchWord
    dsimp only
    split
    · exact (s.setLatch_latchesOnly ..).trans (State.latchBreak_latchesOnly ..)
    · exact (s.setLatch_latchesOnly ..).trans (State.latchTest_latchesOnly ..)

theorem State.extLatch_latchesOnly (op : LatchOp) : LatchesOnly s (s.extLatch i j op) := by
  unfold State.extLatch
  split
  · rfl
  · exact s.latchOp_latchesOnly ..

theorem State.breakOwned_latchesOnly (p : Nat) (seq : W32) : LatchesOnly s (s.breakOwned p seq) := by
  unfold State.breakOwned
  refine LatchesOnly.foldl (fun s c => ?_) _ s
  split
  · split
    · refine LatchesOnly.foldl (fun s j => ?_) _ s
      split
      · exact s.extLatch_latchesOnly ..
      · exact .refl s
    · exact .refl s
  · exact .refl s

end Latches

/-! ### Failed commands -/

/-- What a failing command may touch: what updates of its latches do, the live commands and its ring. -/
def FailureOnly (s t : State) : Prop :=
  t = { s with
    cmds := t.cmds, rings := t.rings, threads := t.threads, latches := t.latches, heldAcc := t.heldAcc
    regs := t.regs, mem := t.mem, ecc := t.ecc, cores := t.cores, memx := t.memx, cnt := t.cnt, reports := t.reports, rseq := t.rseq
    host := { s.host with err := t.host.err, irqs := t.host.irqs, rates := t.host.rates, mem := t.host.mem } }

theorem FailureOnly.refl (s : State) : FailureOnly s s := rfl

theorem FailureOnly.trans {s t u : State} (h : FailureOnly s t) (h' : FailureOnly t u) : FailureOnly s u := by
  unfold FailureOnly at *
  rw [h']
  rw [h]

theorem LatchesOnly.failure {s t : State} (h : LatchesOnly s t) : FailureOnly s t := by
  unfold LatchesOnly at h
  unfold FailureOnly
  rw [h]

theorem LatchesOnly.rings {s t : State} (h : LatchesOnly s t) : t.rings = s.rings := by
  rw [h]

/-- Rings after a failure: one that is not RUNNING stays as it is. -/
def RingsHalted (s t : State) : Prop := ∀ n, (s.ring n).st ≠ .running → t.ring n = s.ring n

theorem RingsHalted.refl (s : State) : RingsHalted s s := fun _ _ => rfl

theorem RingsHalted.trans {s t u : State} (h : RingsHalted s t) (h' : RingsHalted t u) : RingsHalted s u := fun n hn =>
  (h' n (by rwa [h n hn])).trans (h n hn)

theorem RingsHalted.of_rings {s t : State} (h : t.rings = s.rings) : RingsHalted s t := fun n _ => by
  rw [State.ring, h]
  rfl

section Failure
variable (s : State)

theorem State.haltRing_halts (n cause : Nat) (err : W16) : FailureOnly s (s.haltRing n cause err) ∧ RingsHalted s (s.haltRing n cause err) := by
  unfold State.haltRing
  dsimp only
  split
  · next hrun =>
    refine ⟨rfl, fun k hk => ?_⟩
    rw [State.ring_setRing, if_neg (fun e : k = n => hk (by rw [e]; exact hrun))]
  · exact ⟨rfl, fun k _ => rfl⟩

theorem State.failCmd_fails (ring dc : Nat) (code : W16) (detail : Nat) :
    FailureOnly s (s.failCmd ring dc code detail) ∧ RingsHalted s (s.failCmd ring dc code detail) := by
  unfold State.failCmd
  split
  · exact ⟨rfl, fun n _ => rfl⟩
  next k _ =>
    split
    · exact ⟨rfl, fun n _ => rfl⟩
    · dsimp only
      generalize hu : (s.updCmd ring dc (fun k => { k with phase := .failed, err := code, detail, beatEnd := s.now, toReissue := [] })).endThreads ring dc = u
      have h1 : FailureOnly s u ∧ RingsHalted s u := by
        rw [← hu]
        exact ⟨rfl, .of_rings rfl⟩
      have h2 := u.breakOwned_latchesOnly k.part k.seq
      have h3 := (u.breakOwned k.part k.seq).haltRing_halts ring 1 code
      have h4 := State.report_reported ((u.breakOwned k.part k.seq).haltRing ring 1 code)
        { unit := uWc, sev := 0, inst := ring, err := code, beat := 0, rseq := 0, part := k.part, layer := k.layer, oper := k.oper,
          seq := k.seq, detail }
      exact ⟨((h1.1.trans h2.failure).trans h3.1).trans (LatchesOnly.reported h4).failure,
        ((h1.2.trans (.of_rings h2.rings)).trans h3.2).trans (.of_rings (LatchesOnly.reported h4).rings)⟩

end Failure

end Sys2Proof.Machine
end

section
/-! PROOFS. Partitions (R542 to R547, R550): creation, destruction, pre-emption and query. -/

namespace Sys2Proof.Machine

/-! ### Rows of registers -/

/-- One field of each register of a row written with one value. -/
theorem State.rdF_foldl_wrF {f : Nat → Nat} (hf : ∀ a b, f a = f b → a = b) {hi lo : Nat} (hlo : lo ≤ hi) (hhi : hi < 32) (v : Nat) (l : List Nat) (k : Nat)
    (s : State) : (l.foldl (fun s g => s.wrF (f g) hi lo v) s).rdF (f k) hi lo = if k ∈ l then v % 2 ^ (hi + 1 - lo) else s.rdF (f k) hi lo := by
  induction l generalizing s with
  | nil => simp
  | cons g l ih =>
    rw [List.foldl_cons, ih]
    by_cases hkl : k ∈ l
    · simp [hkl]
    · by_cases hkg : k = g
      · subst hkg
        simp [hkl, State.rdF_wrF_same s (f k) hlo hhi v]
      · have hne : f k ≠ f g := fun e => hkg (hf _ _ e)
        simp only [hkl, hkg, List.mem_cons, or_self, if_false]
        exact State.rdF_wr_ne _ _ hne _ _ _

theorem State.foldl_wrF_regsOnly (f : Nat → Nat) (hi lo v : Nat) (l : List Nat) (s : State) : RegsOnly s (l.foldl (fun s g => s.wrF (f g) hi lo v) s) := by
  suffices h : ∀ t, RegsOnly s t → RegsOnly s (l.foldl (fun s g => s.wrF (f g) hi lo v) t) from h s (.refl s)
  induction l with
  | nil => exact fun t ht => ht
  | cons g l ih => exact fun t ht => ih _ (ht.wrF ..)

/-- Registers outside a row keep their value. -/
theorem State.rd_foldl_wrF {f : Nat → Nat} {o : Nat} (ho : ∀ a, o ≠ f a) (hi lo v : Nat) (l : List Nat) (s : State) :
    (l.foldl (fun s g => s.wrF (f g) hi lo v) s).rd o = s.rd o := by
  induction l generalizing s with
  | nil => rfl
  | cons g l ih => rw [List.foldl_cons, ih, State.wrF, State.rd_wr_ne _ _ _ _ (ho g)]

theorem rMemGran_inj (a b : Nat) (h : rMemGran a = rMemGran b) : a = b := by
  unfold rMemGran memReg at h
  omega

theorem rMemLpage_inj (a b : Nat) (h : rMemLpage a = rMemLpage b) : a = b := by
  unfold rMemLpage memReg at h
  omega

theorem rMemGran_ne_rMemLpage {g : Nat} (hg : g < 384) (j : Nat) : rMemGran g ≠ rMemLpage j := by
  unfold rMemGran rMemLpage memReg
  omega

/-! ### Creation -/

theorem Part.mem_grans {x : Part} {g : Nat} : g ∈ x.grans ↔ g < 384 ∧ x.gran.getLsbD g = true := by
  simp [Part.grans]

theorem Part.mem_lpages {x : Part} {j : Nat} : j ∈ x.lpages ↔ j < 176 ∧ x.lpage.getLsbD j = true := by
  simp [Part.lpages]

theorem Part.mem_coreList {x : Part} {c : Nat} : c ∈ x.coreList ↔ c < 128 ∧ x.cores.getLsbD c = true := by
  simp [Part.coreList]

/-- What filling memory and clearing latches touches. -/
def Cleared (s t : State) : Prop :=
  (t = { s with regs := t.regs, mem := t.mem, ecc := t.ecc, latches := t.latches }) ∧ (∀ a, s.byte a = 0 → t.byte a = 0)
    ∧ ∀ k, tget (fun _ => 0) s.latches k = 0 → tget (fun _ => 0) t.latches k = 0

namespace Cleared
variable {s t u : State}

theorem refl (s : State) : Cleared s s := ⟨rfl, fun _ h => h, fun _ h => h⟩

theorem trans (h : Cleared s t) (h' : Cleared t u) : Cleared s u := by
  obtain ⟨h1, h2, h3⟩ := h
  obtain ⟨h1', h2', h3'⟩ := h'
  refine ⟨?_, fun a ha => h2' a (h2 a ha), fun k hk => h3' k (h3 k hk)⟩
  rw [h1']
  rw [h1]

theorem foldl {α : Type} {f : State → α → State} {l : List α} (h : ∀ s, s.memx.armed = none → ∀ a ∈ l, Cleared s (f s a)) {s : State}
    (harm : s.memx.armed = none) : Cleared s (l.foldl f s) := by
  induction l generalizing s with
  | nil => exact .refl s
  | cons a l ih =>
    have h1 := h s harm a (.head _)
    refine h1.trans (ih (fun s hs b hb => h s hs b (.tail _ hb)) ?_)
    rw [h1.1]
    exact harm

/-- What each step of a row of clearings establishes, and clearing keeps, holds at its end. -/
theorem foldl_mem {α : Type} {f : State → α → State} {Q : α → State → Prop} {l : List α}
    (h : ∀ s, s.memx.armed = none → ∀ a ∈ l, Cleared s (f s a) ∧ Q a (f s a)) (hk : ∀ {a s t}, Cleared s t → Q a s → Q a t) {s : State}
    (harm : s.memx.armed = none) {a : α} (ha : a ∈ l) : Q a (l.foldl f s) := by
  induction l generalizing s with
  | nil => cases ha
  | cons b l ih =>
    have h1 := h s harm b (.head _)
    have harm' : (f s b).memx.armed = none := by
      rw [h1.1.1]
      exact harm
    have htail : ∀ s, s.memx.armed = none → ∀ a ∈ l, Cleared s (f s a) ∧ Q a (f s a) := fun s hs a ha => h s hs a (.tail _ ha)
    rcases List.mem_cons.mp ha with rfl | ha
    · exact hk (Cleared.foldl (fun s hs b hb => (htail s hs b hb).1) harm') h1.2
    · exact ih htail harm' ha

theorem armed (h : Cleared s t) (harm : s.memx.armed = none) : t.memx.armed = none := by
  rw [h.1]
  exact harm

theorem of_regsOnly (h : RegsOnly s t) : Cleared s t := by
  obtain ⟨_, rfl⟩ := h
  exact ⟨rfl, fun _ h => h, fun _ h => h⟩

end Cleared

theorem State.zeroFill_cleared {s : State} (harm : s.memx.armed = none) (pa n : Nat) :
    Cleared s (s.zeroFill pa n) ∧ ∀ a, pa ≤ a → a < pa + n → (s.zeroFill pa n).byte a = 0 := by
  rw [State.zeroFill_of_unarmed harm]
  refine ⟨⟨rfl, fun a ha => ?_, fun _ h => h⟩, fun a hlo hhi => ?_⟩
  · refine (tget_tclear ..).trans ?_
    split
    · rfl
    · exact ha
  · exact (tget_tclear ..).trans (if_pos ⟨hlo, hhi⟩)

theorem State.setLatch_cleared (s : State) (i j : Nat) : Cleared s (s.setLatch i j 0) ∧ (s.setLatch i j 0).latch i j = 0 := by
  refine ⟨⟨rfl, fun _ h => h, fun k hk => ?_⟩, tget_tput_self (fun _ => 0) s.latches (48 * i + j) 0⟩
  refine (tget_tput (fun _ => 0) s.latches (48 * i + j) k 0).trans ?_
  split
  · rfl
  · exact hk

theorem Cleared.latch {s t : State} (h : Cleared s t) {i j : Nat} (hz : s.latch i j = 0) : t.latch i j = 0 := h.2.2 _ hz

/-- The parts of memory that PART_CREATE fills with zeros (R545). -/
def State.clearGrans (s : State) (x : Part) : State :=
  x.grans.foldl (fun s g => ((s.wrF (rMemGran g) 5 4 (x.mode g)).wrB (rMemGran g) 3 false).refill g) s
def State.clearPages (s : State) (x : Part) : State := x.lpages.foldl (fun s j => s.zeroFill (pageBase j) (2 ^ 20)) s
def State.clearCore (s : State) (c : Nat) : State :=
  match s.phys c with
  | some i => (List.range 48).foldl (fun s j => s.setLatch i j 0) (s.zeroFill (storeBase i) storeSize)
  | none => s
/-- The registers that name the owner of a partition's memory. -/
def State.ownMem (s : State) (x : Part) (p : Nat) : State :=
  x.lpages.foldl (fun s j => s.wrF (rMemLpage j) 3 0 p) (x.grans.foldl (fun s g => s.wrF (rMemGran g) 11 8 p) s)

theorem State.makePart_eq (s : State) (p : Nat) (x : Part) :
    s.makePart p x = ((((x.coreList.foldl State.clearCore ((s.clearGrans x).clearPages x))).setPart p x).commitTable 3).ownMem x p := rfl

section Create
variable {s : State} (harm : s.memx.armed = none) (x : Part)
include harm

theorem State.clearGrans_cleared : Cleared s (s.clearGrans x) ∧ ∀ g ∈ x.grans, ∀ a, g * 2 ^ 30 ≤ a → a < (g + 1) * 2 ^ 30 → (s.clearGrans x).byte a = 0 := by
  have hstep : ∀ s : State, s.memx.armed = none → ∀ g ∈ x.grans,
      Cleared s (((s.wrF (rMemGran g) 5 4 (x.mode g)).wrB (rMemGran g) 3 false).refill g) ∧
        ∀ a, g * 2 ^ 30 ≤ a → a < (g + 1) * 2 ^ 30 → (((s.wrF (rMemGran g) 5 4 (x.mode g)).wrB (rMemGran g) 3 false).refill g).byte a = 0 := by
    intro s harm g _
    have hregs : RegsOnly s ((s.wrF (rMemGran g) 5 4 (x.mode g)).wrB (rMemGran g) 3 false) := ((RegsOnly.refl s).wrF ..).wrF ..
    have h1 := Cleared.of_regsOnly hregs
    have h2 := State.zeroFill_cleared (h1.armed harm) (g * 2 ^ 30) (2 ^ 30)
    exact ⟨h1.trans h2.1, fun a hlo hhi => h2.2 a hlo (by omega)⟩
  refine ⟨Cleared.foldl (fun s hs g hg => (hstep s hs g hg).1) harm, fun g hg => ?_⟩
  exact Cleared.foldl_mem (Q := fun g s => ∀ a, g * 2 ^ 30 ≤ a → a < (g + 1) * 2 ^ 30 → s.byte a = 0) hstep
    (fun h hq a hlo hhi => h.2.1 a (hq a hlo hhi)) harm hg

theorem State.clearPages_cleared : Cleared s (s.clearPages x) :=
  Cleared.foldl (fun _ hs _ _ => (State.zeroFill_cleared hs _ _).1) harm

theorem State.clearCore_cleared (c : Nat) :
    Cleared s (s.clearCore c) ∧ ∀ k, (s.clearCore c).phys c = some k → ∀ j < 48, (s.clearCore c).latch k j = 0 := by
  unfold State.clearCore
  cases hp : s.phys c with
  | none => exact ⟨.refl s, fun k hk => absurd (hp.symm.trans hk) nofun⟩
  | some i =>
    have h1 := (State.zeroFill_cleared harm (storeBase i) storeSize).1
    have hstep : ∀ s : State, s.memx.armed = none → ∀ j ∈ List.range 48, Cleared s (s.setLatch i j 0) ∧ (s.setLatch i j 0).latch i j = 0 :=
      fun s _ _ _ => s.setLatch_cleared ..
    have h2 := Cleared.foldl (fun s hs j hj => (hstep s hs j hj).1) (h1.armed harm)
    refine ⟨h1.trans h2, fun k hk j hj => ?_⟩
    have hki : i = k := by
      have hmap := (h1.trans h2).1
      have hsame : ((List.range 48).foldl (fun s j => s.setLatch i j 0) (s.zeroFill (storeBase i) storeSize)).phys c = s.phys c := by
        rw [hmap]
        rfl
      exact Option.some.inj (hp.symm.trans (hsame.symm.trans hk))
    subst hki
    exact Cleared.foldl_mem (Q := fun j s => s.latch i j = 0) hstep (fun h hq => h.latch hq) (h1.armed harm) (List.mem_range.mpr hj)

theorem State.clearCores_cleared (l : List Nat) : Cleared s (l.foldl State.clearCore s) ∧
    ∀ c ∈ l, ∀ k, s.phys c = some k → ∀ j < 48, (l.foldl State.clearCore s).latch k j = 0 := by
  have hphys : ∀ {s t : State}, Cleared s t → ∀ c, t.phys c = s.phys c := fun h c => by
    rw [h.1]
    rfl
  have hall := Cleared.foldl (f := State.clearCore) (l := l) (fun s hs c _ => (State.clearCore_cleared hs c).1) harm
  refine ⟨hall, fun c hc k hk => ?_⟩
  have h := Cleared.foldl_mem (f := State.clearCore) (l := l) (Q := fun c s => ∀ k, s.phys c = some k → ∀ j < 48, s.latch k j = 0)
    (fun s hs c _ => State.clearCore_cleared hs c) (fun h hq k hk j hj => h.latch (hq k ((hphys h _).symm.trans hk) j hj)) harm hc
  exact h k ((hphys hall c).trans hk)

end Create

theorem State.ownMem_only (s : State) (x : Part) (p : Nat) : RegsOnly s (s.ownMem x p) := by
  obtain ⟨_, h1⟩ := State.foldl_wrF_regsOnly rMemGran 11 8 p x.grans s
  obtain ⟨_, h2⟩ := State.foldl_wrF_regsOnly rMemLpage 3 0 p x.lpages (x.grans.foldl (fun s g => s.wrF (rMemGran g) 11 8 p) s)
  exact ⟨_, h2.trans (by rw [h1])⟩

theorem State.ownMem_owner (s : State) (x : Part) {p : Nat} (hp : p < 16) :
    (∀ g ∈ x.grans, (s.ownMem x p).rdF (rMemGran g) 11 8 = p) ∧ ∀ j ∈ x.lpages, (s.ownMem x p).rdF (rMemLpage j) 3 0 = p := by
  refine ⟨fun g hg => ?_, fun j hj => ?_⟩
  · rw [State.ownMem, State.rdF, State.rd_foldl_wrF (fun j => rMemGran_ne_rMemLpage (Part.mem_grans.mp hg).1 j)]
    refine (State.rdF_foldl_wrF rMemGran_inj (by omega) (by omega) p x.grans g s).trans ?_
    rw [if_pos hg]
    exact Nat.mod_eq_of_lt hp
  · rw [State.ownMem, State.rdF_foldl_wrF rMemLpage_inj (by omega) (by omega), if_pos hj]
    exact Nat.mod_eq_of_lt hp

/-- What PART_CREATE leaves (R545). -/
theorem State.makePart_makes {s : State} (harm : s.memx.armed = none) {p : Nat} (hp : p < 8) (x : Part) :
    (∀ q, (s.makePart p x).part q = if q = p then x else s.part q)
      ∧ (∀ g ∈ x.grans, (s.makePart p x).rdF (rMemGran g) 11 8 = p ∧ ∀ a, g * 2 ^ 30 ≤ a → a < (g + 1) * 2 ^ 30 → (s.makePart p x).byte a = 0)
      ∧ (∀ j ∈ x.lpages, (s.makePart p x).rdF (rMemLpage j) 3 0 = p)
      ∧ (∀ c ∈ x.coreList, ∀ k, s.phys c = some k → ∀ j < 48, (s.makePart p x).latch k j = 0)
      ∧ (s.makePart p x).threads = s.threads ∧ (s.makePart p x).host = s.host := by
  have hg := State.clearGrans_cleared harm x
  have hl := State.clearPages_cleared (hg.1.armed harm) x
  have hc := State.clearCores_cleared ((hg.1.trans hl).armed harm) x.coreList
  have hall := (hg.1.trans hl).trans hc.1
  rw [State.makePart_eq]
  generalize x.coreList.foldl State.clearCore ((s.clearGrans x).clearPages x) = u at hc hall ⊢
  have hphys : ∀ c, ((s.clearGrans x).clearPages x).phys c = s.phys c := fun c => by
    rw [(hg.1.trans hl).1]
    rfl
  obtain ⟨hgran, hpage⟩ := ((u.setPart p x).commitTable 3).ownMem_owner x (show p < 16 by omega)
  obtain ⟨regs, hown⟩ := ((u.setPart p x).commitTable 3).ownMem_only x p
  have hparts : u.parts = s.parts := by rw [hall.1]
  have hmem : (((u.setPart p x).commitTable 3).ownMem x p).mem = u.mem := by
    rw [hown]
    rfl
  have hlatch : (((u.setPart p x).commitTable 3).ownMem x p).latches = u.latches := by
    rw [hown]
    rfl
  refine ⟨fun q => ?_, fun g hgm => ⟨hgran g hgm, fun a hlo hhi => ?_⟩, hpage, fun c hcm k hk j hj => ?_, ?_, ?_⟩
  · rw [hown]
    refine (tget_tput _ _ _ _ _).trans ?_
    rw [hparts]
    rfl
  · rw [State.byte, hmem]
    exact hc.1.2.1 a (hl.2.1 a (hg.2 g hgm a hlo hhi))
  · rw [State.latch, hlatch]
    exact hc.2 c hcm k ((hphys c).trans hk) j hj
  · rw [hown]
    show u.threads = s.threads
    rw [hall.1]
  · rw [hown]
    show u.host = s.host
    rw [hall.1]

end Sys2Proof.Machine
end

section
/-! PROOFS. Partitions: the requests that create, destroy, pre-empt and query them (R543 to R547). -/

namespace Sys2Proof.Machine

/-! ### Responses -/

/-- A response whose channel a host reset has not marked for closing only writes its channel, and may raise the channel's interrupt. -/
theorem State.respond_of_open {s : State} {c : Nat} (hc : c < 36) (hopen : (s.chan c).closing = false) (code : Nat) (tag : W32) (status : W16)
    (body : List Byte) :
    ∃ irqs, s.respond c code tag status body = { s with
      resp := (s.chan c).reply code tag status body
      host := { (s.setChan c ((s.chan c).replied code tag status body)).host with irqs } } := by
  have hrun : s.respond c code tag status body = if c < 32 && s.rdB (rMbxCtl c) 0 then
        (s.withReply c code tag status body).irq (s.rdF (rMbxCtl c) 13 8)
      else s.withReply c code tag status body :=
    (if_neg (Nat.not_le.mpr hc)).trans (if_neg (by simp [hopen]))
  rw [hrun]
  split
  · exact State.irq_only ..
  · exact ⟨_, rfl⟩

/-- What responses may touch: channels, interrupts, the window's session and the answer; no channel becomes busy. -/
def Responded (s t : State) : Prop :=
  (t = { s with resp := t.resp, host := { s.host with chans := t.host.chans, irqs := t.host.irqs, window := t.host.window } })
    ∧ ∀ c, (s.chan c).busy = false → (t.chan c).busy = false

theorem Responded.refl (s : State) : Responded s s := ⟨rfl, fun _ h => h⟩

theorem Responded.trans {s t u : State} (h : Responded s t) (h' : Responded t u) : Responded s u := by
  obtain ⟨h1, h2⟩ := h
  obtain ⟨h1', h2'⟩ := h'
  refine ⟨?_, fun c hc => h2' c (h2 c hc)⟩
  rw [h1']
  rw [h1]

theorem State.closeChan_responded (s : State) (c : Nat) : Responded s (s.closeChan c) := by
  obtain ⟨window, h⟩ := s.closeChan_only c
  refine ⟨?_, fun k hk => ?_⟩
  · rw [h]
    rfl
  · rw [State.chan_closeChan]
    split
    · next e => exact e ▸ hk
    · exact hk

theorem State.respond_responded (s : State) (c code : Nat) (tag : W32) (status : W16) (body : List Byte) :
    Responded s (s.respond c code tag status body) := by
  unfold State.respond
  split
  · exact .refl s
  · dsimp only
    have h1 : Responded s (s.withReply c code tag status body) := by
      refine ⟨rfl, fun k hk => ?_⟩
      have hchan : (s.withReply c code tag status body).chan k = if k = c then (s.chan c).replied code tag status body else s.chan k :=
        State.chan_setChan s c k _
      rw [hchan]
      split
      · rfl
      · exact hk
    have h2 : Responded s (if (c < 32 && s.rdB (rMbxCtl c) 0) = true then (s.withReply c code tag status body).irq (s.rdF (rMbxCtl c) 13 8)
        else s.withReply c code tag status body) := by
      split
      · obtain ⟨irqs, h⟩ := (s.withReply c code tag status body).irq_only (s.rdF (rMbxCtl c) 13 8)
        refine h1.trans ⟨?_, fun k hk => ?_⟩
        · rw [h]
        · rw [h]
          exact hk
      · exact h1
    have hend : ∀ u, Responded s u → Responded s (if ((s.chan c).busy && (s.chan c).closing) = true then u.closeChan c else u) := fun u hu => by
      split
      · exact hu.trans (u.closeChan_responded c)
      · exact hu
    exact hend _ h2

/-- A request that is taken and answered later: its channel is BUSY (R522). -/
theorem State.serve_waits {s u : State} {r : Request} {f : State → List Byte → State × Answer} (h : s.accepts r)
    (hf : f (s.taking r) r.text = (u, none)) :
    s.serve r.m r.code r.size r.who f = u.setChan r.m.ch { u.chan r.m.ch with busy := true, lastTag := some (r.m.tag, r.code) } := by
  obtain ⟨hfresh, hlock, hform, hspeak, hmay, hwho⟩ := h
  have ⟨hch, hbusy, _⟩ := hfresh
  have hserve : s.serve r.m r.code r.size r.who f = _ :=
    (if_neg (Nat.not_le.mpr hch)).trans <| (if_neg (State.fresh_not_repeated hfresh)).trans <| (if_neg (ne_true_of_eq_false hbusy)).trans <|
      (if_neg hlock).trans <| (if_neg (State.not_malformed hform)).trans <| (if_neg (State.not_other_version hspeak)).trans <|
      (if_neg (ne_true_of_eq_false (congrArg not hmay))).trans <| if_neg (ne_true_of_eq_false (congrArg not hwho))
  rw [State.taking, Request.text] at hf
  rw [hserve, hf]

theorem exec_waits {i : Instr} {s u : State} {r : Request} {f : State → List Byte → State × Answer} (h : s.accepts r)
    (he : exec i s = .next (s.serve r.m r.code r.size r.who f)) (hf : f (s.taking r) r.text = (u, none)) :
    exec i s = .next (u.setChan r.m.ch { u.chan r.m.ch with busy := true, lastTag := some (r.m.tag, r.code) }) :=
  he.trans (congrArg _ (State.serve_waits h hf))

/-! ### Pre-emption (R546) -/

/-- A ring that PREEMPT halts. -/
def Ring.preempted (x : Ring) : Ring := if x.st = .running || x.st = .halted then { x with st := .halted, cause := 2 } else x

theorem State.ring_haltPart (s : State) (p j : Nat) :
    (s.haltPart p).ring (8 * p + j) = if j < 8 then (s.ring (8 * p + j)).preempted else s.ring (8 * p + j) := by
  refine foldl_range_entry (get := fun s k => s.ring (8 * p + k)) (g := Ring.preempted) (fun s c k => ?_) 8 s j
  dsimp only
  by_cases hst : ((s.ring (8 * p + c)).st = .running || (s.ring (8 * p + c)).st = .halted) = true
  · rw [if_pos hst, State.ring_setRing]
    by_cases hk : k = c
    · rw [hk, if_pos rfl, if_pos rfl, Ring.preempted, if_pos hst]
    · rw [if_neg (by omega), if_neg hk]
  · rw [if_neg hst]
    split
    · next hk => rw [hk, Ring.preempted, if_neg hst]
    · rfl

theorem State.haltPart_only (s : State) (p : Nat) : ∃ rings, s.haltPart p = { s with rings } := by
  have hfold : ∀ (l : List Nat) (s : State), ∃ rings, l.foldl (fun s j =>
      if (s.ring (8 * p + j)).st = .running || (s.ring (8 * p + j)).st = .halted then
        s.setRing (8 * p + j) { s.ring (8 * p + j) with st := .halted, cause := 2 } else s) s = { s with rings } := by
    intro l
    induction l with
    | nil => exact fun s => ⟨_, rfl⟩
    | cons j l ih =>
      intro s
      rw [List.foldl_cons]
      obtain ⟨rings, h⟩ := ih (if (s.ring (8 * p + j)).st = .running || (s.ring (8 * p + j)).st = .halted then
        s.setRing (8 * p + j) { s.ring (8 * p + j) with st := .halted, cause := 2 } else s)
      refine ⟨rings, h.trans ?_⟩
      split <;> rfl
  exact hfold _ s

/-- The partitions of the live commands. -/
def State.cmdParts (s : State) : List Nat := s.cmds.map (·.part)

theorem State.partIdle_of_cmdParts {s t : State} (h : t.cmdParts = s.cmdParts) (p : Nat) : t.partIdle p = s.partIdle p := by
  have heq : ∀ s : State, s.partIdle p = s.cmdParts.all (fun q => q ≠ p) := fun s => by
    rw [State.cmdParts, List.all_map]
    rfl
  rw [heq, heq, h]

theorem State.cmdParts_updCmd (s : State) (ring dc : Nat) {f : Cmd → Cmd} (hf : ∀ k, (f k).part = k.part) : (s.updCmd ring dc f).cmdParts = s.cmdParts := by
  unfold State.cmdParts State.updCmd
  rw [List.map_map]
  refine List.map_congr_left fun k _ => ?_
  dsimp only [Function.comp]
  split
  · exact hf k
  · rfl

theorem LatchesOnly.cmds {s t : State} (h : LatchesOnly s t) : t.cmds = s.cmds := by
  rw [h]

theorem State.cmdParts_failCmd (s : State) (ring dc : Nat) (code : W16) (detail : Nat) : (s.failCmd ring dc code detail).cmdParts = s.cmdParts := by
  unfold State.failCmd
  split
  · rfl
  next k _ =>
    split
    · rfl
    · dsimp only
      have h1 : ((s.updCmd ring dc (fun k => { k with phase := .failed, err := code, detail, beatEnd := s.now, toReissue := [] })).endThreads
          ring dc).cmdParts = s.cmdParts := State.cmdParts_updCmd s ring dc fun _ => rfl
      generalize (s.updCmd ring dc (fun k => { k with phase := .failed, err := code, detail, beatEnd := s.now, toReissue := [] })).endThreads
        ring dc = u at h1 ⊢
      have h2 := (u.breakOwned_latchesOnly k.part k.seq).cmds
      have h3 : ((u.breakOwned k.part k.seq).haltRing ring 1 code).cmds = (u.breakOwned k.part k.seq).cmds := by
        obtain ⟨rings, h⟩ := (u.breakOwned k.part k.seq).haltRing_only ring 1 code
        rw [h]
      have h4 := (LatchesOnly.reported (State.report_reported ((u.breakOwned k.part k.seq).haltRing ring 1 code)
        { unit := uWc, sev := 0, inst := ring, err := code, beat := 0, rseq := 0, part := k.part, layer := k.layer, oper := k.oper,
          seq := k.seq, detail })).cmds
      rw [State.cmdParts, h4, h3, h2]
      exact h1

theorem State.abortPart_fails (s : State) (p : Nat) :
    FailureOnly s (s.abortPart p) ∧ RingsHalted s (s.abortPart p) ∧ (s.abortPart p).cmdParts = s.cmdParts := by
  have hfold : ∀ (l : List Cmd) (s : State), FailureOnly s (l.foldl (fun s k =>
      (s.failCmd k.ring k.dcount eHifPreempted 0).updCmd k.ring k.dcount (fun k => { k with preempted := true })) s)
      ∧ RingsHalted s (l.foldl (fun s k =>
      (s.failCmd k.ring k.dcount eHifPreempted 0).updCmd k.ring k.dcount (fun k => { k with preempted := true })) s)
      ∧ (l.foldl (fun s k =>
      (s.failCmd k.ring k.dcount eHifPreempted 0).updCmd k.ring k.dcount (fun k => { k with preempted := true })) s).cmdParts = s.cmdParts := by
    intro l
    induction l with
    | nil => exact fun s => ⟨rfl, fun _ _ => rfl, rfl⟩
    | cons k l ih =>
      intro s
      have h1 := s.failCmd_fails k.ring k.dcount eHifPreempted 0
      obtain ⟨h2, h3, h4⟩ := ih ((s.failCmd k.ring k.dcount eHifPreempted 0).updCmd k.ring k.dcount (fun k => { k with preempted := true }))
      have hupd : FailureOnly (s.failCmd k.ring k.dcount eHifPreempted 0)
          ((s.failCmd k.ring k.dcount eHifPreempted 0).updCmd k.ring k.dcount (fun k => { k with preempted := true })) := rfl
      refine ⟨(h1.1.trans hupd).trans h2, (h1.2.trans (.of_rings rfl)).trans h3, h4.trans ?_⟩
      exact (State.cmdParts_updCmd _ _ _ (f := fun k => { k with preempted := true }) fun _ => rfl).trans (s.cmdParts_failCmd ..)
  exact hfold _ s

/-- An applied PREEMPT: the partition's rings are halted, the request is noted, and the same partitions have live commands. -/
structure Preempted (s : State) (p : Nat) (w : Preempt) (t : State) : Prop where
  parts : ∀ q, t.part q = if q = p then { s.part p with preempts := (s.part p).preempts ++ [w] } else s.part q
  rings : ∀ j < 8, (s.ring (8 * p + j)).st = .running → (t.ring (8 * p + j)).st = .halted ∧ (t.ring (8 * p + j)).cause = 2
  idle : ∀ q, t.partIdle q = s.partIdle q
  chans : ∀ c, t.chan c = s.chan c

theorem State.preempt_preempted (s : State) (p : Nat) (abort : Bool) (w : Preempt) : Preempted s p w (s.preempt p abort w) := by
  obtain ⟨rings, hhalt⟩ := s.haltPart_only p
  have habort : FailureOnly (s.haltPart p) (if abort then (s.haltPart p).abortPart p else s.haltPart p)
      ∧ RingsHalted (s.haltPart p) (if abort then (s.haltPart p).abortPart p else s.haltPart p)
      ∧ (if abort then (s.haltPart p).abortPart p else s.haltPart p).cmdParts = (s.haltPart p).cmdParts := by
    split
    · exact (s.haltPart p).abortPart_fails p
    · exact ⟨.refl _, .refl _, rfl⟩
  have hring := s.ring_haltPart p
  unfold State.preempt
  dsimp only
  generalize (if abort then (s.haltPart p).abortPart p else s.haltPart p) = u at habort ⊢
  have honly := habort.1
  have hkept := habort.2.1
  have hcmds := habort.2.2
  have hparts : u.parts = s.parts := by rw [honly, hhalt]
  have hchans : u.host.chans = s.host.chans := by rw [honly, hhalt]
  refine ⟨fun q => ?_, fun j hj hrun => ?_, fun q => State.partIdle_of_cmdParts (hcmds.trans (by rw [hhalt]; rfl)) q, fun c => ?_⟩
  · refine (tget_tput _ _ _ _ _).trans ?_
    rw [State.part, State.part, State.part, hparts]
  · have hhalted : (s.haltPart p).ring (8 * p + j) = (s.ring (8 * p + j)).preempted := (hring j).trans (if_pos hj)
    have hsame : ((u.setPart p { u.part p with preempts := (u.part p).preempts ++ [w] }).ring (8 * p + j)) = u.ring (8 * p + j) := rfl
    rw [hsame, hkept _ (by rw [hhalted, Ring.preempted, if_pos (by simp [hrun])]; exact nofun), hhalted, Ring.preempted, if_pos (by simp [hrun])]
    exact ⟨rfl, rfl⟩
  · show tget _ u.host.chans c = _
    rw [hchans]
    rfl

section Requests
variable {s : State} {m : Msg} {r : Request} {p : Nat}

/-- A state that a response leaves has the partitions and rings of the state before it. -/
theorem Aside.part {u t : State} (h : Aside u t) (q : Nat) : t.part q = u.part q := by
  rw [h]
  rfl

theorem preempt_idle (hr : requestOf (.preempt m) = some r) (h : s.accepts r) (hp : leAt r.text 0 1 = p) (hmode : leAt r.text 1 1 ≤ 1) (hle : p ≤ 7)
    (hown : ownPart (s.chan m.ch) p = true) (hready : (s.part p).st = .ready) (hidle : s.partIdle p = true) :
    Served (.preempt m) s r 0 (leBytes 4 0) (fun t => t.part p = s.part p
      ∧ ∀ j < 8, (s.ring (8 * p + j)).st = .running → (t.ring (8 * p + j)).st = .halted ∧ (t.ring (8 * p + j)).cause = 2) := by
  obtain rfl := Option.some.inj hr
  generalize hR : (⟨m, 0x0023, 2, hasRole [.operator, .tenant]⟩ : Request) = R at *
  have hch : R.m.ch = m.ch := by rw [← hR]
  have hready' : ((s.taking R).part p).st = .ready := hready
  have hpre := (s.taking R).preempt_preempted p (leAt R.text 1 1 = 1) { ch := m.ch, tag := m.tag }
  generalize hu : (s.taking R).preempt p (leAt R.text 1 1 = 1) { ch := m.ch, tag := m.tag } = u at hpre
  have hself : (u.part p).preempts.dropLast = (s.part p).preempts := by
    rw [hpre.parts, if_pos rfl]
    exact List.dropLast_concat
  refine served_answered (u := u.setPart p { u.part p with preempts := (u.part p).preempts.dropLast }) h (by rw [← hR]; rfl) ?_ (by decide)
    (requestOf_code hr) ?_ fun t ht _ => ⟨?_, fun j hj hrun => ?_⟩
  · dsimp only
    rw [hp, if_neg (by simp [Nat.not_lt.mpr hle, Nat.not_lt.mpr hmode]), ownPart_taking hch hown, if_neg (by decide), if_neg (not_not.mpr hready'), hu,
      hpre.idle]
    exact if_pos hidle
  · show (u.chan R.m.ch).busy = false
    rw [hpre.chans]
    exact State.taking_idle h
  · rw [ht.part]
    refine (tget_tput_self _ _ _ _).trans ?_
    rw [hself, hpre.parts, if_pos rfl]
    rfl
  · rw [ht.ring]
    exact hpre.rings j hj hrun

theorem preempt_waits (hr : requestOf (.preempt m) = some r) (h : s.accepts r) (hp : leAt r.text 0 1 = p) (hmode : leAt r.text 1 1 ≤ 1) (hle : p ≤ 7)
    (hown : ownPart (s.chan m.ch) p = true) (hready : (s.part p).st = .ready) (hbusy : s.partIdle p = false) :
    ∃ t, exec (.preempt m) s = .next t ∧ (t.chan m.ch).busy = true
      ∧ (t.part p).preempts = (s.part p).preempts ++ [{ ch := m.ch, tag := m.tag }]
      ∧ ∀ j < 8, (s.ring (8 * p + j)).st = .running → (t.ring (8 * p + j)).st = .halted ∧ (t.ring (8 * p + j)).cause = 2 := by
  obtain rfl := Option.some.inj hr
  generalize hR : (⟨m, 0x0023, 2, hasRole [.operator, .tenant]⟩ : Request) = R at *
  have hch : R.m.ch = m.ch := by rw [← hR]
  have hready' : ((s.taking R).part p).st = .ready := hready
  have hbusy' : (s.taking R).partIdle p = false := hbusy
  have hpre := (s.taking R).preempt_preempted p (leAt R.text 1 1 = 1) { ch := m.ch, tag := m.tag }
  generalize hu : (s.taking R).preempt p (leAt R.text 1 1 = 1) { ch := m.ch, tag := m.tag } = u at hpre
  refine ⟨_, exec_waits (u := u) h (by rw [← hR]; rfl) ?_, ?_, ?_, fun j hj hrun => hpre.rings j hj hrun⟩
  · dsimp only
    rw [hp, if_neg (by simp [Nat.not_lt.mpr hle, Nat.not_lt.mpr hmode]), ownPart_taking hch hown, if_neg (by decide), if_neg (not_not.mpr hready'), hu,
      hpre.idle, hbusy']
    rfl
  · rw [hch, State.chan_setChan_self]
  · show (u.part p).preempts = _
    rw [hpre.parts, if_pos rfl]
    rfl

theorem partQuery_served (hr : requestOf (.partQuery m) = some r) (h : s.accepts r) (hp : leAt r.text 0 1 = p) (hle : p ≤ 7)
    (hown : ownPart (s.chan m.ch) p = true) : Served (.partQuery m) s r 0 ((s.part p).body p) (Aside s) := by
  obtain rfl := Option.some.inj hr
  refine served_of_answer (u := s.taking _) h rfl ?_ (by decide) (by norm_num) (State.taking_idle h) fun t ht => ht.of_taking
  dsimp only
  rw [hp, ownPart_taking rfl hown]
  exact (if_neg (by omega)).trans (if_neg (by decide))

theorem preemptDone_answers {w : Preempt} (hw : (s.part p).preempts = [w]) (hkeep : w.destroy = false) (hch : w.ch < 36) (hidle : s.partIdle p = true)
    (hopen : (s.chan w.ch).closing = false) (hshut : s.pwr.shutting = false) :
    ∃ t, exec (.preemptDone p) s = .next t ∧ t.part p = { s.part p with preempts := [] } ∧ t.resp.drop 16 = leBytes 4 w.ended
      ∧ leAt t.resp 4 4 = w.tag.toNat ∧ (t.chan w.ch).done = true ∧ Aside (s.setPart p { s.part p with preempts := [] }) t := by
  have hans : s.answerPreempts p = (s.setPart p { s.part p with preempts := [] }).respond w.ch 0x0023 w.tag 0 (leBytes 4 w.ended) := by
    unfold State.answerPreempts
    simp [hidle, hw, hkeep]
  obtain ⟨irqs, hresp⟩ := State.respond_of_open (s := s.setPart p { s.part p with preempts := [] }) hch hopen 0x0023 w.tag 0 (leBytes 4 w.ended)
  have hexec : exec (.preemptDone p) s = .next (s.answerPreempts p) := by
    rw [exec_preemptDone, execPreemptDone, hans, hresp]
    exact congrArg _ (if_neg (by simp [State.setPart, State.setChan, hshut]))
  rw [hans, hresp] at hexec
  refine ⟨_, hexec, ?_, Chan.reply_body .., Chan.reply_tag .., ?_, rfl⟩
  · exact tget_tput_self (fun _ => {}) s.parts p _
  · exact congrArg Chan.done (State.chan_setChan_self (s.setPart p { s.part p with preempts := [] }) w.ch _)

end Requests

end Sys2Proof.Machine
end

section
/-! PROOFS. Creating and destroying a partition (R544, R545, R547). -/

namespace Sys2Proof.Machine

/-! ### PART_CREATE -/

section Create
variable {s : State} {m : Msg} {r : Request} {p : Nat}

theorem partCreate_served (hr : requestOf (.partCreate m) = some r) (h : s.accepts r) (hp : leAt r.text 0 1 = p) (h1 : leAt r.text 1 1 ≤ 63)
    (h7 : leAt r.text 7 1 = 0) (h94 : leAt r.text 94 2 = 0) (hvalid : s.partInvalid p (partOf r.text) = false)
    (hfree : s.coresBusy (partOf r.text) = false) (hcores : (partOf r.text).coreList.all (fun c => (s.partOfCore c).isNone) = true)
    (harm : s.memx.armed = none) :
    Served (.partCreate m) s r 0 [] (fun t => t.part p = partOf r.text ∧ (∀ q, q ≠ p → t.part q = s.part q)
      ∧ (∀ g < 384, (partOf r.text).gran.getLsbD g = true → t.rdF (rMemGran g) 11 8 = p
        ∧ ∀ a, g * 2 ^ 30 ≤ a → a < (g + 1) * 2 ^ 30 → t.byte a = 0)
      ∧ (∀ j < 176, (partOf r.text).lpage.getLsbD j = true → t.rdF (rMemLpage j) 3 0 = p)
      ∧ (∀ c k, c < 128 → (partOf r.text).cores.getLsbD c = true → s.phys c = some k → ∀ j < 48, t.latch k j = 0) ∧ t.threads = s.threads) := by
  obtain rfl := Option.some.inj hr
  generalize hR : (⟨m, 0x0020, 192, hasRole [.operator]⟩ : Request) = R at *
  generalize hx : partOf R.text = x at *
  have hp8 : p < 8 := by
    by_contra hge
    have : s.partInvalid p x = true := by simp [State.partInvalid, show 7 < p by omega]
    rw [hvalid] at this
    cases this
  have hmake := State.makePart_makes (s := s.taking R) harm hp8 x
  obtain ⟨hpart, hgran, hpage, hlatch, hthreads, hhost⟩ := hmake
  have hvalid' : (s.taking R).partInvalid p x = false := hvalid
  have hfree' : (s.taking R).coresBusy x = false := hfree
  have hcores' : x.coreList.any (fun c => ((s.taking R).partOfCore c).isSome) = false := by
    rw [List.any_eq_false]
    intro c hc
    have hnone : s.partOfCore c = none := by simpa using List.all_eq_true.mp hcores c hc
    have hsame : (s.taking R).partOfCore c = s.partOfCore c := rfl
    simp [hsame, hnone]
  refine served_answered (u := (s.taking R).makePart p x) h (by rw [← hR]; rfl) ?_ (by decide) (requestOf_code hr) ?_ fun t ht _ => ?_
  · dsimp only
    rw [hp, hx, hvalid', hfree', hcores', if_neg (by simp [Nat.not_lt.mpr h1, h7, h94])]
    rfl
  · have hchan : ((s.taking R).makePart p x).chan R.m.ch = (s.taking R).chan R.m.ch := by
      rw [State.chan, hhost]
      rfl
    rw [hchan]
    exact State.taking_idle h
  · have hregs : t.regs = ((s.taking R).makePart p x).regs := by rw [ht]
    have hmem : t.mem = ((s.taking R).makePart p x).mem := by rw [ht]
    have hlat : t.latches = ((s.taking R).makePart p x).latches := by rw [ht]
    have hthr : t.threads = ((s.taking R).makePart p x).threads := by rw [ht]
    refine ⟨?_, fun q hq => ?_, fun g hg hbit => ⟨?_, fun a hlo hhi => ?_⟩, fun j hj hbit => ?_, fun c k hc hbit hk j hj => ?_, hthr.trans hthreads⟩
    · rw [ht.part, hpart, if_pos rfl]
    · rw [ht.part, hpart, if_neg hq]
      rfl
    · rw [State.rdF, State.rd, hregs]
      exact (hgran g (Part.mem_grans.mpr ⟨hg, hbit⟩)).1
    · rw [State.byte, hmem]
      exact (hgran g (Part.mem_grans.mpr ⟨hg, hbit⟩)).2 a hlo hhi
    · rw [State.rdF, State.rd, hregs]
      exact hpage j (Part.mem_lpages.mpr ⟨hj, hbit⟩)
    · rw [State.latch, hlat]
      exact hlatch c (Part.mem_coreList.mpr ⟨hc, hbit⟩) k hk j hj

theorem partCreate_refused (hr : requestOf (.partCreate m) = some r) (h : s.accepts r) (hp : leAt r.text 0 1 = p) (h1 : leAt r.text 1 1 ≤ 63)
    (h7 : leAt r.text 7 1 = 0) (h94 : leAt r.text 94 2 = 0) (hbad : s.partInvalid p (partOf r.text) = true) :
    Served (.partCreate m) s r eHifPartInvalid [] (Aside s) := by
  obtain rfl := Option.some.inj hr
  generalize hR : (⟨m, 0x0020, 192, hasRole [.operator]⟩ : Request) = R at *
  have hbad' : (s.taking R).partInvalid p (partOf R.text) = true := hbad
  refine served_of_answer (u := s.taking R) h (by rw [← hR]; rfl) ?_ (by decide) (requestOf_code hr) (State.taking_idle h) fun t ht => ht.of_taking
  dsimp only
  rw [hp, hbad', if_neg (by simp [Nat.not_lt.mpr h1, h7, h94])]
  rfl

end Create

/-! ### PART_DESTROY -/

theorem MemOnly.latches {s t : State} (h : MemOnly s t) : LatchesOnly s t := by
  unfold MemOnly at h
  unfold LatchesOnly
  rw [h]

theorem State.zeroFill_handled (s : State) (pa n : Nat) : Handled s (s.zeroFill pa n) := by
  have hclear : Handled s { s with mem := tclear s.mem pa n, ecc := tclear s.ecc pa n } := .of_eq rfl rfl rfl rfl
  unfold State.zeroFill
  dsimp only
  split
  · split
    · exact hclear.trans (State.flipMask_handled ..)
    · exact hclear
  · exact hclear

theorem not_handledReg_gran {g : Nat} (hg : g < 384) : ¬ handledReg (rMemGran g) := by
  unfold handledReg rMemGran rMemChan memReg
  omega

/-- The granules and pages of a partition that ends: filled with zeros, with no owner. -/
def State.freeGrans (s : State) (x : Part) : State := x.grans.foldl (fun s g => (s.refill g).wrF (rMemGran g) 11 8 0xF) s
def State.freePages (s : State) (x : Part) : State := x.lpages.foldl (fun s j => (s.zeroFill (pageBase j) (2 ^ 20)).wrF (rMemLpage j) 3 0 0xF) s
/-- The latches of a core break (R382). -/
def State.breakCore (s : State) (c : Nat) : State :=
  match s.phys c with
  | some i => (List.range 48).foldl (fun s j => s.extLatch i j (.brk 2)) s
  | none => s

theorem State.wrF_latchesOnly (s : State) (o hi lo v : Nat) : LatchesOnly s (s.wrF o hi lo v) := rfl

section Free
variable (s : State) (x : Part)

theorem State.freeGrans_only : LatchesOnly s (s.freeGrans x) :=
  LatchesOnly.foldl (fun s g => (MemOnly.latches (s.zeroFill_handled (g * 2 ^ 30) (2 ^ 30)).only).trans (State.wrF_latchesOnly ..)) _ s

theorem State.freePages_only : LatchesOnly s (s.freePages x) :=
  LatchesOnly.foldl (fun s j => (MemOnly.latches (s.zeroFill_handled (pageBase j) (2 ^ 20)).only).trans (State.wrF_latchesOnly ..)) _ s

theorem State.breakCore_only (c : Nat) : LatchesOnly s (s.breakCore c) := by
  unfold State.breakCore
  split
  · exact LatchesOnly.foldl (fun s j => s.extLatch_latchesOnly ..) _ s
  · exact .refl s

/-- The owner of a granule after a partition's granules are freed. -/
theorem State.owner_freeGrans {k : Nat} (hk : k < 384) :
    (s.freeGrans x).rdF (rMemGran k) 11 8 = if k ∈ x.grans then 0xF else s.rdF (rMemGran k) 11 8 := by
  have hfold : ∀ (l : List Nat) (s : State), (l.foldl (fun s g => (s.refill g).wrF (rMemGran g) 11 8 0xF) s).rdF (rMemGran k) 11 8
      = if k ∈ l then 0xF else s.rdF (rMemGran k) 11 8 := by
    intro l
    induction l with
    | nil => simp
    | cons g l ih =>
      intro s
      rw [List.foldl_cons, ih]
      by_cases hkl : k ∈ l
      · simp [hkl]
      · by_cases hkg : k = g
        · subst hkg
          rw [if_neg hkl, if_pos (.head _), State.rdF_wrF_same _ _ (by omega) (by omega)]
          rfl
        · have hne : rMemGran k ≠ rMemGran g := fun e => hkg (rMemGran_inj _ _ e)
          have hkeep := (s.zeroFill_handled (g * 2 ^ 30) (2 ^ 30)).regs _ (not_handledReg_gran hk)
          rw [if_neg hkl, if_neg (by simp [hkg, hkl])]
          refine (State.rdF_wr_ne _ _ hne _ _ _).trans ?_
          rw [State.rdF, State.refill, hkeep, State.rdF]
  exact hfold x.grans s

theorem State.owner_freePages {k : Nat} (hk : k < 384) : (s.freePages x).rdF (rMemGran k) 11 8 = s.rdF (rMemGran k) 11 8 := by
  have hfold : ∀ (l : List Nat) (s : State),
      (l.foldl (fun s j => (s.zeroFill (pageBase j) (2 ^ 20)).wrF (rMemLpage j) 3 0 0xF) s).rdF (rMemGran k) 11 8 = s.rdF (rMemGran k) 11 8 := by
    intro l
    induction l with
    | nil => exact fun s => rfl
    | cons j l ih =>
      intro s
      have hkeep := (s.zeroFill_handled (pageBase j) (2 ^ 20)).regs _ (not_handledReg_gran hk)
      rw [List.foldl_cons, ih]
      refine (State.rdF_wr_ne _ _ (rMemGran_ne_rMemLpage hk j) _ _ _).trans ?_
      rw [State.rdF, hkeep, State.rdF]
  exact hfold x.lpages s

end Free

/-- The rings and sessions of a partition that ends, and its BAR2 mappings. -/
def State.dropRings (s : State) (p : Nat) : State := (List.range 8).foldl (fun s j => s.setRing (8 * p + j) {}) s
def State.dropSessions (s : State) (p : Nat) : State :=
  (List.range 36).foldl (fun s c =>
    if (s.chan c).bind = .bound && (s.chan c).role = .tenant && (s.chan c).part = p then s.closeChan c else s) s
def State.dropMaps (s : State) (x : Part) : State :=
  { s with host := { s.host with bar2 := s.host.bar2.filter (fun e => e.2.all (fun (y : Nat × Nat) => !x.gran.getLsbD y.2)) } }
/-- A partition's entry replaced in the table, whose new form waits to be written to flash; its snapshots go. -/
def State.putEntry (s : State) (p : Nat) (x : Part) : State :=
  (({ s with beat := { s.beat with snaps := s.beat.snaps.filter (fun n => n.part ≠ p) } } : State).setPart p x).commitTable 3

section Entry
variable (s : State) (p : Nat) (x : Part)

theorem State.regs_putEntry : (s.putEntry p x).regs = s.regs := rfl
theorem State.rings_putEntry : (s.putEntry p x).rings = s.rings := rfl
theorem State.host_putEntry : (s.putEntry p x).host = s.host := rfl
theorem State.part_putEntry : (s.putEntry p x).part p = x := by
  have hparts : (s.putEntry p x).parts = (s.setPart p x).parts := rfl
  rw [State.part, hparts]
  exact s.part_setPart_self p x

end Entry

theorem State.dropPart_eq (s : State) (p : Nat) : s.dropPart p =
    ((((s.part p).coreList.foldl State.breakCore (((s.dropRings p).dropSessions p).dropMaps (s.part p))).freeGrans (s.part p)).freePages
      (s.part p)).putEntry p {} := by
  unfold State.dropPart State.putEntry State.freePages State.freeGrans State.dropMaps State.dropSessions State.dropRings State.breakCore
  generalize ({} : Part) = y
  generalize s.part p = x
  rfl

theorem State.ring_dropRings (s : State) (p j : Nat) : (s.dropRings p).ring (8 * p + j) = if j < 8 then {} else s.ring (8 * p + j) := by
  refine foldl_range_entry (get := fun s k => s.ring (8 * p + k)) (g := fun _ => {}) (fun s c k => ?_) 8 s j
  rw [State.ring_setRing]
  exact if_congr (by omega) rfl rfl

theorem State.dropRings_only (s : State) (p : Nat) : ∃ rings, s.dropRings p = { s with rings } := by
  have hfold : ∀ (l : List Nat) (s : State), ∃ rings, l.foldl (fun s j => s.setRing (8 * p + j) {}) s = { s with rings } := by
    intro l
    induction l with
    | nil => exact fun s => ⟨_, rfl⟩
    | cons j l ih =>
      intro s
      obtain ⟨rings, h⟩ := ih (s.setRing (8 * p + j) {})
      exact ⟨rings, h⟩
  exact hfold _ s

theorem State.dropSessions_responded (s : State) (p : Nat) : Responded s (s.dropSessions p) := by
  have hfold : ∀ (l : List Nat) (s : State), Responded s (l.foldl (fun s c =>
      if (s.chan c).bind = .bound && (s.chan c).role = .tenant && (s.chan c).part = p then s.closeChan c else s) s) := by
    intro l
    induction l with
    | nil => exact fun s => .refl s
    | cons c l ih =>
      intro s
      rw [List.foldl_cons]
      split
      · exact (s.closeChan_responded c).trans (ih _)
      · exact ih s
  exact hfold _ s

theorem State.breakCores_only (l : List Nat) (s : State) : LatchesOnly s (l.foldl State.breakCore s) := LatchesOnly.foldl State.breakCore_only l s

/-- What the end of a partition leaves (R547). -/
theorem State.dropPart_drops (s : State) (p : Nat) : (s.dropPart p).part p = {} ∧ (∀ j < 8, (s.dropPart p).ring (8 * p + j) = {})
    ∧ (∀ g ∈ (s.part p).grans, (s.dropPart p).rdF (rMemGran g) 11 8 = 0xF)
    ∧ ((s.part p).coreList = [] → ∀ g < 384, s.rdF (rMemGran g) 11 8 = 0xF → (s.dropPart p).rdF (rMemGran g) 11 8 = 0xF)
    ∧ ∀ c, (s.chan c).busy = false → ((s.dropPart p).chan c).busy = false := by
  have hring := s.ring_dropRings p
  obtain ⟨rings, h1⟩ := s.dropRings_only p
  obtain ⟨h2, hidle⟩ := (s.dropRings p).dropSessions_responded p
  have h3 := State.breakCores_only (s.part p).coreList (((s.dropRings p).dropSessions p).dropMaps (s.part p))
  rw [State.dropPart_eq]
  generalize (s.dropRings p).dropSessions p = u at h2 hidle h3 ⊢
  have hregs : u.regs = s.regs := by rw [h2, h1]
  have hcore : (s.part p).coreList = [] → ((s.part p).coreList.foldl State.breakCore (u.dropMaps (s.part p))).regs = s.regs := fun hnil => by
    rw [hnil]
    exact hregs
  generalize (s.part p).coreList.foldl State.breakCore (u.dropMaps (s.part p)) = v at h3 hcore ⊢
  have h4 := (h3.trans (v.freeGrans_only (s.part p))).trans ((v.freeGrans (s.part p)).freePages_only (s.part p))
  have howner : ∀ g < 384, (((v.freeGrans (s.part p)).freePages (s.part p)).putEntry p {}).rdF (rMemGran g) 11 8
      = if g ∈ (s.part p).grans then 0xF else v.rdF (rMemGran g) 11 8 := fun g hg => by
    rw [State.rdF, State.rd, State.regs_putEntry, ← State.owner_freeGrans v _ hg, ← State.owner_freePages _ _ hg]
    rfl
  generalize (v.freeGrans (s.part p)).freePages (s.part p) = w at h4 howner ⊢
  refine ⟨w.part_putEntry p {}, fun j hj => ?_, fun g hg => ?_, fun hnil g hg hF => ?_, fun c hc => ?_⟩
  · have hrings : w.rings = (s.dropRings p).rings := by rw [h4, State.dropMaps, h2]
    rw [State.ring, State.rings_putEntry, hrings]
    exact (hring j).trans (if_pos hj)
  · rw [howner g (Part.mem_grans.mp hg).1, if_pos hg]
  · rw [howner g hg]
    split
    · rfl
    · rw [State.rdF, State.rd, hcore hnil]
      exact hF
  · have hchans : w.host.chans = u.host.chans := by rw [h4, State.dropMaps]
    rw [State.chan, State.host_putEntry, hchans]
    refine hidle c ?_
    rw [h1]
    exact hc

theorem Responded.foldl {α : Type} {f : State → α → State} (h : ∀ s a, Responded s (f s a)) (l : List α) (s : State) : Responded s (l.foldl f s) := by
  induction l generalizing s with
  | nil => exact .refl s
  | cons a l ih => exact (h s a).trans (ih _)

theorem Responded.part {s t : State} (h : Responded s t) (q : Nat) : t.part q = s.part q := by
  rw [State.part, h.1]
  rfl

theorem Responded.regs {s t : State} (h : Responded s t) : t.regs = s.regs := by rw [h.1]

theorem Part.coreList_none {x : Part} (h : x.cores = 0) : x.coreList = [] := by
  rw [List.eq_nil_iff_forall_not_mem]
  intro c hc
  have hbit := (Part.mem_coreList.mp hc).2
  simp [h] at hbit

/-- The answers to the requests that wait for a partition leave its granules to it, or have given them up. -/
theorem State.answerPreempts_frees (s : State) {p : Nat} (hidle : s.partIdle p = true) :
    (((s.answerPreempts p).part p).gran = (s.part p).gran ∨ ((s.answerPreempts p).part p).coreList = []
      ∧ ∀ g ∈ (s.part p).grans, (s.answerPreempts p).rdF (rMemGran g) 11 8 = 0xF)
    ∧ ∀ c, (s.chan c).busy = false → ((s.answerPreempts p).chan c).busy = false := by
  unfold State.answerPreempts
  rw [hidle, if_neg (by decide)]
  dsimp only
  generalize hv : s.setPart p { s.part p with preempts := [] } = v
  have hpart : v.part p = { s.part p with preempts := [] } := by
    rw [← hv]
    exact s.part_setPart_self p _
  have hchan : ∀ c, v.chan c = s.chan c := fun c => by
    rw [← hv]
    rfl
  have hgrans : (v.part p).grans = (s.part p).grans := by
    rw [hpart]
    rfl
  have hanswer : ∀ u : State, Responded u ((s.part p).preempts.foldl (fun s w =>
      s.respond w.ch (if w.destroy then 0x0021 else 0x0023) w.tag 0 (if w.destroy then [] else leBytes 4 w.ended)) u) :=
    Responded.foldl (fun s w => s.respond_responded ..) _
  by_cases hd : (s.part p).preempts.any (fun w => w.destroy) = true
  · obtain ⟨hnone, -, hfree, -, hbusy⟩ := v.dropPart_drops p
    have hu := hanswer (v.dropPart p)
    simp only [hd, if_true]
    refine ⟨.inr ⟨?_, fun g hg => ?_⟩, fun c hc => hu.2 c (hbusy c ?_)⟩
    · rw [hu.part, hnone]
      exact Part.coreList_none rfl
    · rw [State.rdF, State.rd, hu.regs]
      exact hfree g (hgrans ▸ hg)
    · rw [hchan]
      exact hc
  · have hu := hanswer v
    simp only [hd, Bool.false_eq_true, if_false]
    refine ⟨.inl ?_, fun c hc => hu.2 c ?_⟩
    · rw [hu.part, hpart]
    · rw [hchan]
      exact hc

section Destroy
variable {s : State} {m : Msg} {r : Request} {p : Nat}

theorem partDestroy_served (hr : requestOf (.partDestroy m) = some r) (h : s.accepts r) (hp : leAt r.text 0 1 = p) (hle : p ≤ 7)
    (hready : (s.part p).st = .ready) (hidle : s.partIdle p = true) :
    Served (.partDestroy m) s r 0 [] (fun t => t.part p = {} ∧ (∀ g < 384, (s.part p).gran.getLsbD g = true → t.rdF (rMemGran g) 11 8 = 0xF)
      ∧ ∀ j < 8, t.ring (8 * p + j) = {}) := by
  obtain rfl := Option.some.inj hr
  generalize hR : (⟨m, 0x0021, 1, hasRole [.operator]⟩ : Request) = R at *
  have hm : R.m = m := by rw [← hR]
  generalize hq : (s.taking R).setPart p { (s.taking R).part p with st := .destroying } = q
  have hqpart : q.part p = { s.part p with st := .destroying } := by
    rw [← hq]
    exact (s.taking R).part_setPart_self p _
  have hqidle : q.partIdle p = s.partIdle p := by
    rw [← hq]
    rfl
  have hqchan : ∀ c, q.chan c = (s.taking R).chan c := fun c => by
    rw [← hq]
    rfl
  have hpre := q.preempt_preempted p true { ch := m.ch, tag := m.tag, destroy := true }
  generalize hv : q.preempt p true { ch := m.ch, tag := m.tag, destroy := true } = v at hpre
  have hvidle : v.partIdle p = true := (hpre.idle p).trans (hqidle.trans hidle)
  generalize hw : v.setPart p { v.part p with preempts := (v.part p).preempts.dropLast } = w
  have hwgran : (w.part p).gran = (s.part p).gran := by
    rw [← hw, v.part_setPart_self, hpre.parts, if_pos rfl, hqpart]
  have hwidle : w.partIdle p = true := by
    rw [← hvidle, ← hw]
    rfl
  have hwchan : ∀ c, w.chan c = v.chan c := fun c => by
    rw [← hw]
    rfl
  obtain ⟨hgran, hbusy⟩ := w.answerPreempts_frees hwidle
  obtain ⟨hnone, hrings, hfree, hkeep, hbusy'⟩ := (w.answerPreempts p).dropPart_drops p
  refine served_answered (u := (w.answerPreempts p).dropPart p) h (by rw [← hR]; rfl) ?_ (by decide) (requestOf_code hr) ?_ fun t ht _ => ?_
  · have hready' : ((s.taking R).part p).st = .ready := hready
    dsimp only
    rw [hp, if_neg (by simp [hready', Nat.not_lt.mpr hle]), hq, hv, if_pos hvidle, hw]
  · refine hbusy' _ (hbusy _ ?_)
    rw [hwchan, hpre.chans, hqchan]
    exact State.taking_idle h
  · have hregs : t.regs = ((w.answerPreempts p).dropPart p).regs := by rw [ht]
    refine ⟨(ht.part p).trans hnone, fun g hg hbit => ?_, fun j hj => (ht.ring _).trans (hrings j hj)⟩
    have hmem : g ∈ (w.part p).grans := Part.mem_grans.mpr ⟨hg, hwgran ▸ hbit⟩
    rw [State.rdF, State.rd, hregs]
    obtain hsame | ⟨hcores, hgone⟩ := hgran
    · exact hfree g (Part.mem_grans.mpr ⟨hg, by rw [hsame, hwgran]; exact hbit⟩)
    · exact hkeep hcores g hg (hgone g hmem)

end Destroy

/-- Settles O36, message by message: a partition is made and unmade by folds over its granules, pages and cores, each of which keeps what the others
leave. -/
theorem partitions : Obligations.Partitions := by
  unfold Obligations.Partitions
  intro s m p
  refine ⟨fun r hr h => ?_, fun r hr h hp h1 h7 h94 hbad => partCreate_refused hr h hp h1 h7 h94 hbad,
    fun r hr h hp hle hready hidle => partDestroy_served hr h hp hle hready hidle, fun r hr h hp hle hown => partQuery_served hr h hp hle hown,
    fun r hr h hp hmode hle hown hready => ⟨fun hidle => preempt_idle hr h hp hmode hle hown hready hidle,
      fun hbusy => preempt_waits hr h hp hmode hle hown hready hbusy⟩, fun w hw hkeep hch hidle hopen hshut => preemptDone_answers hw hkeep hch hidle hopen hshut⟩
  exact fun hp h1 h7 h94 hvalid hfree hcores harm => partCreate_served hr h hp h1 h7 h94 hvalid hfree hcores harm

end Sys2Proof.Machine
end

section
/-! PROOFS. What a consumer reads of memory (R321, R323) depends on the bytes, the check bits and the registers of the checker alone. -/

namespace Sys2Proof.Machine

/-! ### The steps of a bucket that overflows -/

/-- The overflows of a bucket within a day, with this one. -/
def State.overflowBeats (s : State) (k : Nat) : List W64 := s.now :: s.lastDay (tget (fun _ => []) s.memx.overflows k)
def State.bucketFull (s : State) (k : Nat) (l : List W64) : State :=
  State.event { s with memx := { s.memx with overflows := tput (fun _ => []) s.memx.overflows k l } } uMem 1 k eMemBucketOvf
def State.bucketIrq (s : State) (k : Nat) : State :=
  if s.rdB (rEccBktCfg k) 0 then { s with memx := { s.memx with mcpIrqs := s.memx.mcpIrqs ++ [k] } } else s
def State.bucketActs (s : State) (k : Nat) (l : List W64) : State :=
  if k < 160 && 4 ≤ l.length && s.chanSt (k / 20) (k % 20) = 0 then s.eraseChan (k / 20) (k % 20) false
  else if 176 ≤ k && 3 ≤ l.length then
    let s := s.setCore (k - 176) { s.core (k - 176) with testNext := true }
    (s.wrB (rCoreCtl (k - 176)) 30 true).wrB (rCoreStat (k - 176)) 5 (!s.rdB (rCoreStat (k - 176)) 6)
  else s

theorem State.bucket_eq (s : State) (k : Nat) : s.bucket k =
    if max 1 (s.rdF (rEccBktCfg k) 23 16) ≤ s.rdF (rEccBkt k) 23 16 + 1 then
      let u := ((s.wrB (rEccBkt k) 0 true).incF (rEccBkt k) 31 24 1).wrF (rEccBkt k) 23 16 0
      ((u.bucketFull k (u.overflowBeats k)).bucketIrq k).bucketActs k (u.overflowBeats k)
    else s.wrF (rEccBkt k) 23 16 (s.rdF (rEccBkt k) 23 16 + 1) := rfl

/-- The registers that decoding a granule reads: those of the cores and the memory, and the beat period. -/
def decodeReg (o : Nat) : Prop := (0x1000000 ≤ o ∧ o < 0x1040000) ∨ o = rBeatCtl

/-- Two states that decode alike: the same memory, and the same of all that decoding reads. -/
structure Sees (s t : State) : Prop where
  mem : t.mem = s.mem
  ecc : t.ecc = s.ecc
  memx : t.memx = s.memx
  now : t.now = s.now
  periods : t.beat.periods = s.beat.periods
  regs : ∀ o, decodeReg o → t.rd o = s.rd o
  pos : ∀ o, t.rdF o 28 24 = s.rdF o 28 24

namespace Sees
variable {s t s' t' : State}

theorem refl (s : State) : Sees s s := ⟨rfl, rfl, rfl, rfl, rfl, fun _ _ => rfl, fun _ => rfl⟩

theorem symm (h : Sees s t) : Sees t s :=
  ⟨h.mem.symm, h.ecc.symm, h.memx.symm, h.now.symm, h.periods.symm, fun o ho => (h.regs o ho).symm, fun o => (h.pos o).symm⟩

theorem trans (h : Sees s t) (h' : Sees t t') : Sees s t' :=
  ⟨h'.mem.trans h.mem, h'.ecc.trans h.ecc, h'.memx.trans h.memx, h'.now.trans h.now, h'.periods.trans h.periods,
    fun o ho => (h'.regs o ho).trans (h.regs o ho), fun o => (h'.pos o).trans (h.pos o)⟩

theorem of_regs (hmem : t.mem = s.mem) (hecc : t.ecc = s.ecc) (hmemx : t.memx = s.memx) (hnow : t.now = s.now)
    (hperiods : t.beat.periods = s.beat.periods) (hregs : t.regs = s.regs) : Sees s t :=
  ⟨hmem, hecc, hmemx, hnow, hperiods, fun o _ => by rw [State.rd, hregs, State.rd], fun o => by rw [State.rdF, State.rd, hregs, State.rdF, State.rd]⟩

theorem of_reported (h : Reported s t) : Sees s t := by
  obtain ⟨_, _, _, _, _, _, rfl⟩ := h
  exact of_regs rfl rfl rfl rfl rfl rfl

/-- Both states report: they decode alike still. -/
theorem reported (h : Sees s t) (hs : Reported s s') (ht : Reported t t') : Sees s' t' := ((of_reported hs).symm.trans h).trans (of_reported ht)

theorem rdF (h : Sees s t) {o : Nat} (ho : decodeReg o) (hi lo : Nat) : t.rdF o hi lo = s.rdF o hi lo := congrArg (bf · hi lo) (h.regs o ho)

theorem rdB (h : Sees s t) {o : Nat} (ho : decodeReg o) (i : Nat) : t.rdB o i = s.rdB o i := congrArg (bitAt · i) (h.regs o ho)

theorem wr (h : Sees s t) (o : Nat) (v : W32) : Sees (s.wr o v) (t.wr o v) := by
  refine ⟨h.mem, h.ecc, h.memx, h.now, h.periods, fun k hk => ?_, fun k => ?_⟩
  · rw [State.rd_wr, State.rd_wr, h.regs k hk]
  · rw [State.rdF, State.rd_wr, State.rdF, State.rd_wr]
    split
    · rfl
    · exact h.pos k

theorem wrF (h : Sees s t) {o : Nat} (ho : decodeReg o) (hi lo v : Nat) : Sees (s.wrF o hi lo v) (t.wrF o hi lo v) := by
  rw [State.wrF, State.wrF, h.regs o ho]
  exact h.wr ..

theorem wrB (h : Sees s t) {o : Nat} (ho : decodeReg o) (i : Nat) (b : Bool) : Sees (s.wrB o i b) (t.wrB o i b) := by
  rw [State.wrB, State.wrB, h.regs o ho]
  exact h.wr ..

theorem incF (h : Sees s t) {o : Nat} (ho : decodeReg o) (hi lo n : Nat) : Sees (s.incF o hi lo n) (t.incF o hi lo n) := by
  rw [State.incF, State.incF, h.rdF ho]
  exact h.wrF ho ..

theorem withMemx (h : Sees s t) (m : MemX) : Sees { s with memx := m } { t with memx := m } := ⟨h.mem, h.ecc, rfl, h.now, h.periods, h.regs, h.pos⟩

theorem ite {p : Prop} [Decidable p] {s1 s2 t1 t2 : State} (h1 : Sees s1 t1) (h2 : Sees s2 t2) : Sees (if p then s1 else s2) (if p then t1 else t2) := by
  split <;> assumption

theorem byte (h : Sees s t) (a : Nat) : t.byte a = s.byte a := by rw [State.byte, h.mem, State.byte]

theorem bytes (h : Sees s t) (a n : Nat) : t.bytes a n = s.bytes a n := by
  unfold State.bytes
  simp [h.byte]

theorem delta (h : Sees s t) (g : Nat) : t.delta g = s.delta g := by rw [State.delta, h.ecc, State.delta]

theorem setDelta (h : Sees s t) (g d : Nat) : Sees (s.setDelta g d) (t.setDelta g d) :=
  ⟨h.mem, congrArg (fun x => tput (fun _ => 0) x g (BitVec.ofNat 64 d)) h.ecc, h.memx, h.now, h.periods, h.regs, h.pos⟩

theorem flipByte (h : Sees s t) (a e : Nat) : Sees (s.flipByte a e) (t.flipByte a e) := by
  refine ⟨?_, h.ecc, h.memx, h.now, h.periods, h.regs, h.pos⟩
  have hflip : ∀ u : State, (u.flipByte a e).mem = tput (fun _ => 0) u.mem a (u.byte a ^^^ BitVec.ofNat 8 e) := fun _ => rfl
  rw [hflip, hflip, h.mem, h.byte]

theorem foldl {α : Type} {f : State → α → State} (hf : ∀ s t a, Sees s t → Sees (f s a) (f t a)) (l : List α) (h : Sees s t) :
    Sees (l.foldl f s) (l.foldl f t) := by
  induction l generalizing s t with
  | nil => exact h
  | cons a l ih => exact ih (hf _ _ a h)

theorem decodeReg_chan {y : Nat} (hy : y < 160) : decodeReg (rMemChan y) := by
  unfold decodeReg rMemChan memReg
  omega

theorem decodeReg_bkt {k : Nat} (hk : k < 320) : decodeReg (rEccBkt k) ∧ decodeReg (rEccBktCfg k) := by
  unfold decodeReg rEccBkt rEccBktCfg eccReg
  omega

theorem decodeReg_core {i : Nat} (hi : i < 144) : decodeReg (rCoreCtl i) ∧ decodeReg (rCoreStat i) := by
  unfold decodeReg rCoreCtl rCoreStat coreReg
  omega

theorem chanSt (h : Sees s t) {st c : Nat} (hst : st < 8) (hc : c < 20) : t.chanSt st c = s.chanSt st c := h.rdF (decodeReg_chan (by omega)) ..

theorem erasedPos (h : Sees s t) (st : Nat) : t.erasedPos st = s.erasedPos st := by
  unfold State.erasedPos State.erasedChan
  rw [h.memx]
  simp only [h.pos]

theorem chanAt (h : Sees s t) {st : Nat} (hst : st < 8) (pos : Nat) : t.chanAt st pos = s.chanAt st pos := by
  unfold State.chanAt
  congr 1
  refine List.find?_congr fun c hc => ?_
  rw [h.chanSt hst (List.mem_range.mp hc), h.pos]

theorem nsSince (h : Sees s t) (b : W64) : t.nsSince b = s.nsSince b := by
  unfold State.nsSince
  rw [h.now, h.periods, h.rdF (.inr rfl)]

theorem stackOf (h : Sees s t) {g : Nat} (hg : isDram g = true) : t.stackOf g = s.stackOf g := by
  have hreg : decodeReg (rMemGran (g / 2 ^ 30)) := by
    have : g < dramEnd := by simpa [isDram] using hg
    unfold dramEnd at this
    unfold decodeReg rMemGran memReg
    omega
  unfold State.stackOf
  rw [h.rdF hreg]

theorem startRebuild (h : Sees s t) {st : Nat} (hst : st < 8) : Sees (s.startRebuild st) (t.startRebuild st) := by
  have hfind : ∀ v, (List.range 20).find? (fun c => t.chanSt st c = v) = (List.range 20).find? (fun c => s.chanSt st c = v) := fun v =>
    List.find?_congr fun c hc => by rw [h.chanSt hst (List.mem_range.mp hc)]
  have hany : (List.range 20).any (fun c => t.chanSt st c = 2) = (List.range 20).any (fun c => s.chanSt st c = 2) := by
    rw [Bool.eq_iff_iff, List.any_eq_true, List.any_eq_true]
    exact exists_congr fun c => and_congr_right fun hc => by rw [h.chanSt hst (List.mem_range.mp hc)]
  unfold State.startRebuild
  rw [h.erasedPos, hfind, hany]
  split
  · exact h
  · split
    · next sp hsp =>
      have hlt : sp < 20 := List.mem_range.mp (List.mem_of_find?_eq_some hsp)
      have hreg : decodeReg (rMemChan (20 * st + sp)) := decodeReg_chan (by omega)
      exact h.ite (((h.wrF hreg ..).wrF hreg ..).wrF hreg ..)
    · exact h

theorem eraseChan (h : Sees s t) {st c : Nat} (hst : st < 8) (hc : c < 20) (only : Bool) : Sees (s.eraseChan st c only) (t.eraseChan st c only) := by
  have hreg : decodeReg (rMemChan (20 * st + c)) := decodeReg_chan (by omega)
  have h1 := (h.wrF hreg 31 29 1).reported (State.report_reported _ { unit := uMem, sev := if only then 0 else 2, inst := 20 * st + c, err := eMemChanErased, beat := 0, rseq := 0 })
    (State.report_reported _ { unit := uMem, sev := if only then 0 else 2, inst := 20 * st + c, err := eMemChanErased, beat := 0, rseq := 0 })
  unfold State.eraseChan
  dsimp only
  generalize (s.wrF (rMemChan (20 * st + c)) 31 29 1).report _ = u at h1 ⊢
  generalize (t.wrF (rMemChan (20 * st + c)) 31 29 1).report _ = v at h1 ⊢
  have hgone : (List.range 20).filter (fun k => v.chanSt st k = 1 || v.chanSt st k = 4) = (List.range 20).filter (fun k => u.chanSt st k = 1 || u.chanSt st k = 4) :=
    List.filter_congr fun k hk => by rw [h1.chanSt hst (List.mem_range.mp hk)]
  rw [hgone]
  have h2 : Sees (if 3 ≤ ((List.range 20).filter (fun k => u.chanSt st k = 1 || u.chanSt st k = 4)).length then u.event uMem 3 st eMemSpareExhausted else u)
      (if 3 ≤ ((List.range 20).filter (fun k => u.chanSt st k = 1 || u.chanSt st k = 4)).length then v.event uMem 3 st eMemSpareExhausted else v) :=
    .ite (h1.reported (State.event_reported ..) (State.event_reported ..)) h1
  generalize (if 3 ≤ _ then u.event _ _ _ _ else u : State) = u at h2 ⊢
  generalize (if 3 ≤ _ then v.event _ _ _ _ else v : State) = v at h2 ⊢
  have herased : v.erasedChan st = u.erasedChan st := by
    unfold State.erasedChan
    rw [h2.memx]
  rw [herased, h2.memx]
  split
  · exact h2.withMemx _
  · exact .ite (h2.withMemx _) ((h2.withMemx _).startRebuild hst)

theorem lastDay (h : Sees s t) (l : List W64) : t.lastDay l = s.lastDay l := by
  unfold State.lastDay
  simp only [h.nsSince]

theorem bucketFull (h : Sees s t) (k : Nat) (l : List W64) : Sees (s.bucketFull k l) (t.bucketFull k l) := by
  unfold State.bucketFull
  rw [h.memx]
  exact (h.withMemx _).reported (State.event_reported ..) (State.event_reported ..)

theorem bucketIrq (h : Sees s t) {k : Nat} (hk : k < 320) : Sees (s.bucketIrq k) (t.bucketIrq k) := by
  unfold State.bucketIrq
  rw [h.rdB (decodeReg_bkt hk).2, h.memx]
  exact .ite (h.withMemx _) h

theorem bucketActs (h : Sees s t) {k : Nat} (hk : k < 320) (l : List W64) : Sees (s.bucketActs k l) (t.bucketActs k l) := by
  unfold State.bucketActs
  by_cases h160 : k < 160
  · have hst : k / 20 < 8 := by omega
    have hc : k % 20 < 20 := Nat.mod_lt _ (by decide)
    rw [h.chanSt hst hc]
    refine .ite (h.eraseChan hst hc false) ?_
    simp only [show ¬ 176 ≤ k by omega, decide_false, Bool.false_and, Bool.false_eq_true, if_false]
    exact h
  · simp only [h160, decide_false, Bool.false_and, Bool.false_eq_true, if_false]
    by_cases h176 : 176 ≤ k
    · obtain ⟨hctl, hstat⟩ := decodeReg_core (i := k - 176) (by omega)
      refine .ite ?_ h
      have hcore : ∀ x y : Core, Sees (s.setCore (k - 176) x) (t.setCore (k - 176) y) := fun x y =>
        ⟨h.mem, h.ecc, h.memx, h.now, h.periods, h.regs, h.pos⟩
      have h2 := fun x y => (hcore x y).wrB hctl 30 true
      rw [(hcore _ _).rdB hstat]
      exact (h2 _ _).wrB hstat ..
    · simp only [h176, decide_false, Bool.false_and, Bool.false_eq_true, if_false]
      exact h

theorem bucket (h : Sees s t) {k : Nat} (hk : k < 320) : Sees (s.bucket k) (t.bucket k) := by
  obtain ⟨hb, hcfg⟩ := decodeReg_bkt hk
  rw [State.bucket_eq, State.bucket_eq, h.rdF hb, h.rdF hcfg]
  refine .ite ?_ (h.wrF hb ..)
  have h1 : Sees (((s.wrB (rEccBkt k) 0 true).incF (rEccBkt k) 31 24 1).wrF (rEccBkt k) 23 16 0)
      (((t.wrB (rEccBkt k) 0 true).incF (rEccBkt k) 31 24 1).wrF (rEccBkt k) 23 16 0) := ((h.wrB hb ..).incF hb ..).wrF hb ..
  generalize ((s.wrB (rEccBkt k) 0 true).incF (rEccBkt k) 31 24 1).wrF (rEccBkt k) 23 16 0 = u at h1 ⊢
  generalize ((t.wrB (rEccBkt k) 0 true).incF (rEccBkt k) 31 24 1).wrF (rEccBkt k) 23 16 0 = v at h1 ⊢
  have hdays : v.overflowBeats k = u.overflowBeats k := by
    unfold State.overflowBeats
    rw [h1.now, h1.lastDay, h1.memx]
  dsimp only
  rw [hdays]
  exact ((h1.bucketFull k _).bucketIrq hk).bucketActs hk _

theorem countBlock (h : Sees s t) (o n : Nat) : Sees (s.countBlock o n) (t.countBlock o n) := ⟨h.mem, h.ecc, h.memx, h.now, h.periods, h.regs, h.pos⟩

theorem dramCorrected (h : Sees s t) {g : Nat} (hg : isDram g = true) {pos : Nat} (hpos : pos < 20) : Sees (s.dramCorrected g pos) (t.dramCorrected g pos) := by
  have hst := s.stackOf_lt g
  have hc := s.chanAt_lt (s.stackOf g) hpos
  unfold State.dramCorrected
  dsimp only
  rw [h.stackOf hg, h.chanAt hst]
  generalize s.chanAt (s.stackOf g) pos = c at hc ⊢
  generalize s.stackOf g = st at hst ⊢
  have h1 := (h.bucket (k := 20 * st + c) (by omega)).countBlock (0x11000 + 64 * st + 16) 1
  generalize (s.bucket (20 * st + c)).countBlock _ 1 = u at h1 ⊢
  generalize (t.bucket (20 * st + c)).countBlock _ 1 = v at h1 ⊢
  simp only [h1.nsSince, h1.now, h1.memx]
  generalize ((st, pos, g, u.now) :: _ : List _) = l
  have h2 := h1.withMemx { u.memx with burst := l }
  have herased : State.erasedChan { v with memx := { u.memx with burst := l } } st = State.erasedChan { u with memx := { u.memx with burst := l } } st := rfl
  rw [h2.chanSt hst hc, herased]
  exact .ite (h2.eraseChan hst hc false) h2

theorem ue (h : Sees s t) (g : Nat) : Sees (s.ue g) (t.ue g) := by
  unfold State.ue
  dsimp only
  refine Sees.reported (Sees.setDelta ?_ ..) (State.report_reported ..) (State.report_reported ..)
  by_cases hg : isDram g = true
  · rw [if_pos hg, if_pos hg, h.stackOf hg]
    exact h.countBlock ..
  · rw [if_neg hg, if_neg hg]
    exact h

theorem fixPos (h : Sees s t) (g d i : Nat) : Sees (s.fixPos g d i) (t.fixPos g d i) := by
  unfold State.fixPos
  exact .ite (foldl (f := fun s (x : (Nat × Nat) × Nat) => s.flipByte (g + 4 * i + x.2) x.1.1) (fun _ _ _ h => h.flipByte ..) _ h) h

theorem tagFix (h : Sees s t) (g tag : Nat) : Sees (s.tagFix g tag) (t.tagFix g tag) := by
  unfold State.tagFix
  exact .ite h (h.bucket (sramBucket_lt g))

/-- A granule's decoding: the same bytes of two states that decode alike, which decode alike after it. -/
def Agree {α : Type} (x y : State × α) : Prop := Sees x.1 y.1 ∧ y.2 = x.2

theorem agree {α : Type} {f : State → α} (h : Sees s t) (hf : f t = f s) : Agree (s, f s) (t, f t) := ⟨h, hf⟩

theorem correctPos (h : Sees s t) {g d i : Nat} (hg : isDram g = true) (hi : i < 20) (po erased : Bool) :
    Agree (s.correctPos g d i po erased) (t.correctPos g d i po erased) := by
  have hf := h.fixPos g d i
  unfold State.correctPos
  dsimp only
  split
  · exact ⟨h, by rw [hf.bytes]⟩
  · have h1 := (hf.setDelta g (if po then poisonDelta g else 0)).dramCorrected hg hi
    exact ⟨h1, by rw [h1.bytes]⟩

theorem decodeGran (h : Sees s t) (g : Nat) : Agree (s.decodeGran g) (t.decodeGran g) := by
  unfold State.decodeGran
  dsimp only
  rw [h.delta, h.bytes]
  split
  · exact ⟨h, rfl⟩
  by_cases hg : isDram g = true
  · rw [if_pos hg, if_pos hg, h.stackOf hg, h.erasedPos, h.bytes]
    split
    · exact ⟨h.ue g, by rw [(h.ue g).bytes]⟩
    · exact ⟨h, rfl⟩
    · next po i hdec =>
      by_cases her : (s.erasedPos (s.stackOf g)).isSome = true
      · rw [her]
        exact ⟨h, by unfold State.correctPos; dsimp only; rw [(h.fixPos ..).bytes]; rfl⟩
      · refine h.correctPos hg ?_ po _
        rcases rsDecode_lt hdec with hi | hi
        · omega
        · simp [hi] at her
  · rw [if_neg hg, if_neg hg]
    have hset := h.setDelta g (if 2 ≤ popNat 3 (s.delta g / 256 % 8) then 0x700 else 0)
    have hlt := sramBucket_lt g
    split
    · have h1 := hset.tagFix g (s.delta g / 256 % 8)
      exact ⟨by simpa using h1, by simpa using h1.bytes ..⟩
    · split
      · next i _ =>
        have h1 := ((hset.flipByte (g + i / 8) (2 ^ (i % 8))).bucket hlt).tagFix g (s.delta g / 256 % 8)
        exact ⟨by simpa using h1, by simpa using h1.bytes ..⟩
      · split
        · have h1 := (hset.bucket hlt).tagFix g (s.delta g / 256 % 8)
          exact ⟨by simpa using h1, by simpa using h1.bytes ..⟩
        · exact ⟨h.ue g, by rw [(h.ue g).bytes]⟩

theorem decodeReg_inj : decodeReg rEccInjCtl ∧ decodeReg rEccInjData ∧ decodeReg (rEccInjData + 4) := by
  unfold decodeReg rEccInjCtl rEccInjData eccReg
  omega

theorem flipMask (h : Sees s t) (g : Nat) : Sees (s.flipMask g) (t.flipMask g) := by
  obtain ⟨hctl, hlo, hhi⟩ := decodeReg_inj
  have hdata : t.rd64 rEccInjData = s.rd64 rEccInjData := by
    unfold State.rd64
    rw [h.regs _ hlo, h.regs _ hhi]
  have hflip : ∀ {s t : State}, Sees s t → ∀ (f e : Nat → Nat) (l : List Nat),
      Sees (l.foldl (fun s k => s.flipByte (f k) (e k)) s) (l.foldl (fun s k => s.flipByte (f k) (e k)) t) := fun h f e l =>
    foldl (f := fun s k => s.flipByte (f k) (e k)) (fun _ _ _ h => h.flipByte ..) l h
  have hend : ∀ u v, Sees u v →
      Sees ((({ u with memx := { u.memx with armed := none } } : State).wrB rEccInjCtl 31 false).wrB rEccInjCtl 30 true)
        ((({ v with memx := { v.memx with armed := none } } : State).wrB rEccInjCtl 31 false).wrB rEccInjCtl 30 true) := fun u v h => by
    rw [h.memx]
    exact ((h.withMemx _).wrB hctl ..).wrB hctl ..
  unfold State.flipMask
  rw [h.memx]
  split
  · exact h
  · next w _ =>
    refine .ite h ?_
    dsimp only
    rw [hdata, h.rdF hctl, h.rdF hctl, h.rdF hctl]
    refine hend _ _ ?_
    have h1 := hflip h (fun k => w + k) (byteAt (s.rd64 rEccInjData)) (List.range 8)
    rw [h1.delta]
    refine .ite (.ite ?_ (.ite (h1.setDelta ..) (h1.setDelta ..))) (h1.setDelta ..)
    exact (hflip h1 ..).setDelta ..

theorem readGran (h : Sees s t) (g : Nat) : Agree (s.readGran g) (t.readGran g) := by
  have hdec := h.decodeGran g
  unfold State.readGran
  dsimp only
  rw [hdec.1.delta, h.delta]
  split
  · exact hdec
  · exact ⟨hdec.1.flipMask g, hdec.2⟩

theorem readMem (h : Sees s t) (pa n : Nat) : Agree (s.readMem pa n) (t.readMem pa n) := by
  have hfold : ∀ (l : List Nat) (a b : State × List Nat × List Byte), Agree a b →
      Agree (l.foldl (fun acc g => ((acc.1.readGran g).1, if (acc.1.readGran g).2.1 then acc.2.1 ++ [g] else acc.2.1, acc.2.2 ++ (acc.1.readGran g).2.2)) a)
        (l.foldl (fun acc g => ((acc.1.readGran g).1, if (acc.1.readGran g).2.1 then acc.2.1 ++ [g] else acc.2.1, acc.2.2 ++ (acc.1.readGran g).2.2)) b) := by
    intro l
    induction l with
    | nil => exact fun _ _ h => h
    | cons g l ih =>
      intro a b hab
      obtain ⟨h1, h2⟩ := hab.1.readGran g
      exact ih _ _ ⟨h1, by dsimp only; rw [h2, hab.2]⟩
  unfold State.readMem
  split
  · exact ⟨h, rfl⟩
  · obtain ⟨h1, h2⟩ := hfold (granules pa n) (s, [], []) (t, [], []) ⟨h, rfl⟩
    exact ⟨h1, by dsimp only; rw [h2]⟩

/-- States that decode alike show a consumer the same bytes. -/
theorem seen (h : Sees s t) (pa n : Nat) : t.seen pa n = s.seen pa n := by
  unfold State.seen
  simp only [h.delta, h.bytes, (h.readMem pa n).2]

end Sees

end Sys2Proof.Machine
end

section
/-! PROOFS. The group table: its banks, their commit and validation, and its messages (R463 to R466, R502, R504, R505). -/

namespace Sys2Proof.Machine

theorem rCollCtl_apart : ¬ decodeReg rCollCtl ∧ ¬ handledReg rCollCtl := by
  unfold decodeReg handledReg rCollCtl collReg rBeatCtl beatReg rMemChan memReg
  omega

theorem rCollSeq_ne_ctl (b : Nat) : rCollSeq b ≠ rCollCtl := by
  unfold rCollSeq rCollCtl collReg
  omega

theorem rCollSeq_inj {a b : Nat} (h : a ≠ b) : rCollSeq a ≠ rCollSeq b := by
  unfold rCollSeq collReg
  omega

/-- A bit of a register that decoding does not read, outside a channel's position. -/
theorem Sees.of_wrB {o : Nat} (ho : ¬ decodeReg o) (s : State) {i : Nat} (hi : i < 32) (hpos : 28 < i ∨ i < 24) (b : Bool) : Sees s (s.wrB o i b) := by
  refine ⟨rfl, rfl, rfl, rfl, rfl, fun k hk => State.rd_wr_ne _ _ _ _ fun e => ho (e ▸ hk), fun k => ?_⟩
  by_cases hk : k = o
  · subst hk
    exact State.rdF_wrB_apart _ _ hi hpos b
  · exact State.rdF_wr_ne _ _ hk _ _ _

theorem Sees.gtByte {s t : State} (h : Sees s t) (b i o : Nat) : t.gtByte b i o = s.gtByte b i o := by
  rw [State.gtByte, h.seen, State.gtByte]

theorem Sees.entryOk {s t : State} (h : Sees s t) (b i : Nat) : t.entryOk b i = s.entryOk b i := by
  unfold State.entryOk State.gtLevn State.gtMembers State.gtCount
  simp only [h.seen, h.gtByte]

theorem Sees.firstInvalid {s t : State} (h : Sees s t) (b : Nat) : t.firstInvalid b = s.firstInvalid b := by
  unfold State.firstInvalid
  simp only [h.entryOk]

theorem State.firstInvalid_lt {s : State} {b i : Nat} (h : s.firstInvalid b = some i) : i < 4096 := by
  unfold State.firstInvalid at h
  exact List.mem_range.mp (List.mem_of_find?_eq_some h)

namespace RegsOnly
variable {s t : State}

theorem wr (h : RegsOnly s t) (o : Nat) (v : W32) : RegsOnly s (t.wr o v) := by
  obtain ⟨_, rfl⟩ := h
  exact ⟨_, rfl⟩

theorem wrB (h : RegsOnly s t) (o i : Nat) (b : Bool) : RegsOnly s (t.wrB o i b) := h.wr ..

theorem only (h : RegsOnly s t) : t = { s with regs := t.regs } := by
  obtain ⟨_, rfl⟩ := h
  rfl

end RegsOnly

/-! ### The steps of a commit (R464) -/

section Steps
variable (s : State)

theorem State.gtNewest_le : s.gtNewest ≤ 1 := by
  unfold State.gtNewest
  split <;> omega

theorem State.gtSeq_wr {o : Nat} {b : Nat} (h : rCollSeq b ≠ o) (v : W32) : (s.wr o v).gtSeq b = s.gtSeq b := by
  rw [State.gtSeq, State.rd_wr_ne _ _ _ _ h, State.gtSeq]

theorem State.gtSeq_wrB (b i : Nat) (x : Bool) : (s.wrB rCollCtl i x).gtSeq b = s.gtSeq b := s.gtSeq_wr (rCollSeq_ne_ctl b) _
theorem State.gtSeq_wrF (b hi lo v : Nat) : (s.wrF rCollCtl hi lo v).gtSeq b = s.gtSeq b := s.gtSeq_wr (rCollSeq_ne_ctl b) _

theorem State.rdB_wrF_apart (o : Nat) {hi lo i : Nat} (hlo : lo ≤ hi) (hhi : hi < 32) (h : i < lo ∨ hi < i) (v : Nat) :
    (s.wrF o hi lo v).rdB o i = s.rdB o i := by
  rw [State.rdB, State.wrF, State.rd_wr_self, bitAt_bfSet_apart hlo hhi _ _ h, State.rdB]

theorem gtWrite_opens (h : s.liveOld = 0) : exec .collGtWrite s = .next (s.wrB rCollCtl 30 true) := congrArg _ (if_pos h)
theorem gtWrite_waits (h : s.liveOld ≠ 0) : exec .collGtWrite s = .next s := congrArg _ (if_neg h)

theorem State.gtCommit_of_open (h : s.rdB rCollCtl 30 = true) : s.gtCommit = (s.wrB rCollCtl 31 true).wrB rCollCtl 29 true := if_pos h

theorem State.rdB_committed : ((s.wrB rCollCtl 31 true).wrB rCollCtl 29 true).rdB rCollCtl 31 = true
    ∧ ((s.wrB rCollCtl 31 true).wrB rCollCtl 29 true).rdB rCollCtl 29 = true :=
  ⟨(State.rdB_wrB_ne _ _ (by omega) (by omega) _).trans (State.rdB_wrB_same _ _ (by omega) _), State.rdB_wrB_same _ _ (by omega) _⟩

theorem gtCommit_starts (h : s.rdB rCollCtl 30 = true) :
    ∃ t, exec .collGtCommit s = .next t ∧ t.rdB rCollCtl 31 = true ∧ t.rdB rCollCtl 29 = true ∧ t = { s with regs := t.regs } := by
  obtain ⟨h31, h29⟩ := s.rdB_committed
  exact ⟨_, congrArg Host.Outcome.next (s.gtCommit_of_open h), h31, h29, (((RegsOnly.refl s).wrB ..).wrB ..).only⟩

theorem gtCommit_closed (h : s.rdB rCollCtl 30 = false) : exec .collGtCommit s = .next s := congrArg _ (if_neg (ne_true_of_eq_false h))

/-- The answer to the GROUP_COMMIT that waits leaves memory and registers. -/
theorem State.answerCommit_apart (st : W16) (b : List Byte) : (s.answerCommit st b).regs = s.regs ∧ (s.answerCommit st b).mem = s.mem := by
  unfold State.answerCommit
  split
  · next c tag _ =>
    obtain ⟨h, -⟩ := State.respond_responded { s with coll := { s.coll with committer := none } } c 0x0123 tag st b
    rw [h]
    exact ⟨rfl, rfl⟩
  · exact ⟨rfl, rfl⟩

/-- BUSY and VALIDATING clear. -/
def State.gtIdle (s : State) : State := (s.wrB rCollCtl 31 false).wrB rCollCtl 29 false

theorem State.gtIdle_sees : Sees s s.gtIdle :=
  (Sees.of_wrB rCollCtl_apart.1 s (by omega) (by omega) _).trans (Sees.of_wrB rCollCtl_apart.1 _ (by omega) (by omega) _)

/-- The registers after a valid bank b becomes the newest with sequence q. -/
def State.gtPassed (s : State) (b q : Nat) : State :=
  (((s.gtIdle.wr (rCollSeq b) (BitVec.ofNat 32 q)).wrF rCollCtl 28 28 b).wrB rCollCtl 30 false).wrB rCollCtl 27 false

theorem State.gtPassed_regs {b : Nat} (hb : b < 2) {q : Nat} (hq : q < 2 ^ 32) : (s.gtPassed b q).rdB rCollCtl 29 = false
    ∧ (s.gtPassed b q).rdB rCollCtl 30 = false ∧ (s.gtPassed b q).rdF rCollCtl 28 28 = b ∧ (s.gtPassed b q).gtSeq (1 - b) = s.gtSeq (1 - b)
    ∧ (s.gtPassed b q).gtSeq b = q := by
  unfold State.gtPassed
  refine ⟨?_, ?_, ?_, ?_, ?_⟩
  · rw [State.rdB_wrB_ne _ _ (by omega) (by omega), State.rdB_wrB_ne _ _ (by omega) (by omega)]
    have h29 : (s.gtIdle).rdB rCollCtl 29 = false := State.rdB_wrB_same _ _ (by omega) _
    rw [State.rdB_wrF_apart _ _ (by omega) (by omega) (by omega), State.rdB, State.rd_wr_ne _ _ _ _ (rCollSeq_ne_ctl b).symm]
    exact h29
  · rw [State.rdB_wrB_ne _ _ (by omega) (by omega), State.rdB_wrB_same _ _ (by omega)]
  · rw [State.rdF_wrB_apart _ _ (by omega) (by omega), State.rdF_wrB_apart _ _ (by omega) (by omega), State.rdF_wrF_same _ _ (by omega) (by omega)]
    omega
  · rw [State.gtSeq_wrB, State.gtSeq_wrB, State.gtSeq_wrF, State.gtSeq_wr _ (rCollSeq_inj (by omega)), State.gtIdle, State.gtSeq_wrB, State.gtSeq_wrB]
  · rw [State.gtSeq_wrB, State.gtSeq_wrB, State.gtSeq_wrF, State.gtSeq, State.rd_wr_self, BitVec.toNat_ofNat, Nat.mod_eq_of_lt hq]

/-- The sequence after the newest one: 0 is left out. -/
def nextSeq (n : Nat) : Nat := if (n + 1) % 2 ^ 32 = 0 then 1 else (n + 1) % 2 ^ 32

theorem nextSeq_lt (n : Nat) : nextSeq n < 2 ^ 32 := by
  unfold nextSeq
  split <;> omega

variable {s}

/-- What the commit staged is used up. -/
def State.dropStaging (s : State) : State := if s.coll.committer.isSome then { s with coll := { s.coll with staging := [] } } else s

theorem State.dropStaging_keeps (s : State) : s.dropStaging.regs = s.regs ∧ s.dropStaging.mem = s.mem := by
  unfold State.dropStaging
  split <;> exact ⟨rfl, rfl⟩

theorem State.validated_of_valid {b : Nat} (hb : 1 - s.gtNewest = b) (hval : s.rdB rCollCtl 29 = true) (hok : s.firstInvalid b = none) :
    s.validated = (s.gtPassed b (nextSeq (s.gtSeq (1 - b)))).dropStaging.answerCommit 0 (leBytes 4 (nextSeq (s.gtSeq (1 - b)))) := by
  have hok' := (s.gtIdle_sees.firstInvalid b).trans hok
  unfold State.gtIdle at hok'
  unfold State.validated
  rw [hval, if_neg (by decide), hb]
  dsimp only
  rw [hok']
  rfl

theorem gtValidation_passes {b : Nat} (hb : 1 - s.gtNewest = b) (hval : s.rdB rCollCtl 29 = true) (hok : s.firstInvalid b = none) :
    ∃ t, exec .gtValidationEnd s = .next t ∧ t.regs = (s.gtPassed b (nextSeq (s.gtSeq (1 - b)))).regs ∧ t.mem = s.mem := by
  refine ⟨s.validated, rfl, ?_⟩
  have hpass : RegsOnly s (s.gtPassed b (nextSeq (s.gtSeq (1 - b)))) :=
    ((((((RegsOnly.refl s).wrB ..).wrB ..).wr ..).wrF ..).wrB ..).wrB ..
  rw [State.validated_of_valid hb hval hok]
  generalize s.gtPassed b (nextSeq (s.gtSeq (1 - b))) = u at hpass ⊢
  obtain ⟨h1, h2⟩ := u.dropStaging.answerCommit_apart 0 (leBytes 4 (nextSeq (s.gtSeq (1 - b))))
  obtain ⟨h3, h4⟩ := u.dropStaging_keeps
  exact ⟨h1.trans h3, (h2.trans h4).trans hpass.mem⟩

/-- The registers after bank b failed at entry i. -/
def State.gtFailed (s : State) (i : Nat) : State := (s.gtIdle.wrB rCollCtl 27 true).wrF rCollCtl 23 12 i

theorem State.gtFailed_regs (s : State) {i : Nat} (hi : i < 4096) : (s.gtFailed i).rdB rCollCtl 27 = true ∧ (s.gtFailed i).rdF rCollCtl 23 12 = i
    ∧ ∀ b, (s.gtFailed i).gtSeq b = s.gtSeq b := by
  unfold State.gtFailed
  refine ⟨?_, ?_, fun b => ?_⟩
  · have h27 : (s.gtIdle.wrB rCollCtl 27 true).rdB rCollCtl 27 = true := State.rdB_wrB_same _ _ (by omega) _
    rw [State.rdB_wrF_apart _ _ (by omega) (by omega) (by omega)]
    exact h27
  · rw [State.rdF_wrF_same _ _ (by omega) (by omega)]
    omega
  · rw [State.gtSeq_wrF, State.gtSeq_wrB, State.gtIdle, State.gtSeq_wrB, State.gtSeq_wrB]

theorem State.validated_of_invalid {b i : Nat} (hb : 1 - s.gtNewest = b) (hval : s.rdB rCollCtl 29 = true) (hbad : s.firstInvalid b = some i) :
    s.validated = ((s.gtFailed i).event uColl 1 i eCollGroupInvalid).answerCommit eCollGroupInvalid (zeros 4 ++ leBytes 2 i) := by
  have hbad' := (s.gtIdle_sees.firstInvalid b).trans hbad
  unfold State.gtIdle at hbad'
  unfold State.validated
  rw [hval, if_neg (by decide), hb]
  dsimp only
  rw [hbad']
  rfl

theorem gtValidation_fails {b i : Nat} (hb : 1 - s.gtNewest = b) (hval : s.rdB rCollCtl 29 = true) (hbad : s.firstInvalid b = some i) :
    ∃ t, exec .gtValidationEnd s = .next t ∧ t.regs = (s.gtFailed i).regs ∧ t.mem = s.mem := by
  refine ⟨s.validated, rfl, ?_⟩
  have hfail : RegsOnly s (s.gtFailed i) := ((((RegsOnly.refl s).wrB ..).wrB ..).wrB ..).wrF ..
  rw [State.validated_of_invalid hb hval hbad]
  generalize s.gtFailed i = v at hfail ⊢
  have hrep := v.event_reported uColl 1 i eCollGroupInvalid
  generalize v.event uColl 1 i eCollGroupInvalid = u at hrep ⊢
  obtain ⟨h1, h2⟩ := u.answerCommit_apart eCollGroupInvalid (zeros 4 ++ leBytes 2 i)
  exact ⟨h1.trans hrep.regs, (h2.trans hrep.mem).trans hfail.mem⟩

end Steps

/-! ### The messages and the counters -/

section Messages
variable {s : State} {m : Msg} {r : Request}

theorem groupWrite_served (hr : requestOf (.groupWrite m) = some r) (h : s.accepts r) (hrole : (s.chan m.ch).role = .operator)
    (hi : leAt r.text 0 2 ≤ 0xFFE) (h0 : 0 < leAt r.text 4 2) (hn : leAt r.text 4 2 ≤ 992) (hoff : leAt r.text 2 2 + leAt r.text 4 2 ≤ 4160)
    (hzero : leAt r.text 6 10 = 0) : Served (.groupWrite m) s r 0 [] (Aside { s with coll := { s.coll with
      staging := s.coll.staging ++ [(leAt r.text 0 2, leAt r.text 2 2, (r.text.drop 16).take (leAt r.text 4 2))] } }) := by
  obtain rfl := Option.some.inj hr
  generalize hR : (⟨m, 0x0122, 1008, hasRole [.operator, .tenant]⟩ : Request) = R at *
  have hch : R.m.ch = m.ch := by rw [← hR]
  have hrole' : ((s.taking R).chan m.ch).role = .operator := by rw [← hch, State.chan_taking, hch, hrole]
  refine served_of_answer (u := { s.taking R with coll := { s.coll with
    staging := s.coll.staging ++ [(leAt R.text 0 2, leAt R.text 2 2, (R.text.drop 16).take (leAt R.text 4 2))] } }) h (by rw [← hR]; rfl) ?_ (by decide)
    (requestOf_code hr) (State.taking_idle h) fun t ht => ht.trans rfl
  dsimp only
  rw [if_neg (by simp only [Bool.or_eq_true, decide_eq_true_eq]; omega), if_neg (by simp [State.ownEntry, hrole'])]
  rfl

/-- The older bank, open and filled from the staging copy. -/
theorem State.writeBank_handled (s : State) : Handled s s.writeBank := by
  unfold State.writeBank
  dsimp only
  generalize (if s.gtSeq s.gtNewest = 0 then [] else _ : List Host.Cell) = cells
  have hcopy : ∀ (f : Host.Cell → Nat) (s : State), Handled s (cells.foldl (fun s c => s.writeMem (f c) [c.2]) s) := fun f =>
    Handled.foldl (fun s c => s.writeMem_handled ..) cells
  have hstage : ∀ (o : Nat) (l : List (Nat × Nat × List Byte)) (s : State),
      Handled s (l.foldl (fun s x => s.writeMem (o + 8192 * x.1 + x.2.1) x.2.2) s) := fun o => Handled.foldl fun s x => s.writeMem_handled ..
  exact ((s.zeroFill_handled ..).trans (hcopy ..)).trans (hstage ..)

theorem State.rdB_of_regs {s t : State} (h : t.regs = s.regs) (o i : Nat) : t.rdB o i = s.rdB o i := by rw [State.rdB, State.rd, h, State.rdB, State.rd]

theorem State.liveOld_of_regs {s t : State} (h : t.regs = s.regs) (hcmds : t.cmds = s.cmds) : t.liveOld = s.liveOld := by
  unfold State.liveOld State.gtNewest State.gtSeq State.rd
  rw [h, hcmds]

/-- The state in which GROUP_COMMIT waits for its validation. -/
def State.committing (s : State) (m : Msg) : State :=
  let w := (s.wrB rCollCtl 30 true).writeBank
  ({ w with coll := { w.coll with committer := some (m.ch, m.tag) } } : State).gtCommit

/-- GROUP_COMMIT's own effect. -/
def State.groupCommit (s : State) (m : Msg) : State × Answer :=
  if !s.coll.staging.all (fun x => s.ownEntry (s.chan m.ch) x.1) then (s, refusal eHifRoleDenied)
  else if s.coll.committer.isSome || s.rdB rCollCtl 29 || s.liveOld ≠ 0 then (s, refusal eHifPartBusy)
  else (s.committing m, none)

theorem State.committing_waits (s : State) (m : Msg) : (s.committing m).coll.committer = some (m.ch, m.tag) ∧ (s.committing m).rdB rCollCtl 29 = true
    ∧ (s.committing m).rdB rCollCtl 31 = true ∧ (s.committing m).threads = s.threads := by
  have hopened : (s.wrB rCollCtl 30 true).rdB rCollCtl 30 = true := State.rdB_wrB_same _ _ (by omega) _
  have honly := ((RegsOnly.refl s).wrB rCollCtl 30 true).only
  unfold State.committing
  dsimp only
  generalize s.wrB rCollCtl 30 true = u at hopened honly ⊢
  have hbank := u.writeBank_handled
  generalize u.writeBank = w at hbank ⊢
  have hopen : w.rdB rCollCtl 30 = true := by rw [State.rdB, hbank.regs _ rCollCtl_apart.2, ← State.rdB, hopened]
  have hthreads : w.threads = s.threads := by rw [hbank.only, honly]
  generalize hv : ({ w with coll := { w.coll with committer := some (m.ch, m.tag) } } : State) = v
  have hvopen : v.rdB rCollCtl 30 = true := (State.rdB_of_regs (by rw [← hv]) _ _).trans hopen
  obtain ⟨h31, h29⟩ := v.rdB_committed
  have hvonly := (((RegsOnly.refl v).wrB rCollCtl 31 true).wrB rCollCtl 29 true).only
  rw [v.gtCommit_of_open hvopen]
  generalize (v.wrB rCollCtl 31 true).wrB rCollCtl 29 true = q at h31 h29 hvonly ⊢
  refine ⟨?_, h29, h31, ?_⟩
  · rw [hvonly, ← hv]
  · rw [hvonly, ← hv]
    exact hthreads

theorem groupCommit_waits (hr : requestOf (.groupCommit m) = some r) (h : s.accepts r) (hrole : (s.chan m.ch).role = .operator)
    (hnone : s.coll.committer = none) (hval : s.rdB rCollCtl 29 = false) (hlive : s.liveOld = 0) :
    ∃ t, exec (.groupCommit m) s = .next t ∧ (t.chan m.ch).busy = true ∧ t.coll.committer = some (m.ch, m.tag) ∧ t.rdB rCollCtl 29 = true
      ∧ t.rdB rCollCtl 31 = true ∧ t.threads = s.threads := by
  obtain rfl := Option.some.inj hr
  generalize hR : (⟨m, 0x0123, 0, hasRole [.operator, .tenant]⟩ : Request) = R at *
  have hch : R.m.ch = m.ch := by rw [← hR]
  obtain ⟨hcommitter, h29, h31, hthreads⟩ := (s.taking R).committing_waits m
  have hrole' : ((s.taking R).chan m.ch).role = .operator := by rw [← hch, State.chan_taking, hch, hrole]
  have hown : ∀ x : Nat × Nat × List Byte, (s.taking R).ownEntry ((s.taking R).chan m.ch) x.1 = true := fun x => by simp [State.ownEntry, hrole']
  have hnone' : (s.taking R).coll.committer = none := hnone
  refine ⟨_, exec_waits (f := fun s _ => s.groupCommit m) (u := (s.taking R).committing m) h (by rw [← hR]; rfl) ?_, ?_, hcommitter, h29, h31, hthreads⟩
  · rw [State.groupCommit, hnone', (State.rdB_of_regs (s := s) (t := s.taking R) rfl rCollCtl 29).trans hval,
      (State.liveOld_of_regs (s := s) (t := s.taking R) rfl rfl).trans hlive,
      if_neg (by simp [hown]), if_neg (by decide)]
  · rw [hch, State.chan_setChan_self]

theorem collStat_read (s : State) : ∃ t, exec .collStatRead s = .next t ∧ t.resp = leBytes 4 s.collStat.toNat ∧ t.rdF rCollStat 7 0 = 0
    ∧ t = { s with regs := t.regs, resp := t.resp } :=
  ⟨_, rfl, rfl, State.rdF_wrF_same _ _ (by omega) (by omega) _, rfl⟩

theorem collDrop_read (s : State) : ∃ t, exec .collDropRead s = .next t ∧ t.resp = leBytes 4 (s.rd rCollDrop).toNat ∧ t.rd rCollDrop = 0
    ∧ t = { s with regs := t.regs, resp := t.resp } :=
  ⟨_, rfl, rfl, State.rd_wr_self s rCollDrop 0, rfl⟩

end Messages

/-- Settles O47: each step of a commit by its lemma above. -/
theorem groupTable : Obligations.GroupTable := by
  intro s m
  have hle := s.gtNewest_le
  refine ⟨gtWrite_opens s, gtWrite_waits s, gtCommit_starts s, gtCommit_closed s, fun hval hok => ?_, fun i hval hbad => ?_,
    fun r hr h hrole hi h0 hn hoff hzero => groupWrite_served hr h hrole hi h0 hn hoff hzero,
    fun r hr h hrole hnone hval hlive => groupCommit_waits hr h hrole hnone hval hlive, collStat_read s, collDrop_read s⟩
  · obtain ⟨t, he, hregs, hmem⟩ := gtValidation_passes rfl hval hok
    obtain ⟨h29, h30, h28, hold, hnew⟩ := s.gtPassed_regs (b := 1 - s.gtNewest) (by omega) (nextSeq_lt (s.gtSeq (1 - (1 - s.gtNewest))))
    refine ⟨t, he, ?_, ?_, ?_, ?_, ?_, hmem⟩
    · rw [State.rdB, State.rd, hregs]; exact h29
    · rw [State.rdB, State.rd, hregs]; exact h30
    · rw [State.rdF, State.rd, hregs]; exact h28
    · rw [State.gtSeq, State.rd, hregs]; exact hold
    · rw [State.gtSeq, State.rd, hregs]; exact hnew
  · obtain ⟨t, he, hregs, hmem⟩ := gtValidation_fails rfl hval hbad
    obtain ⟨h27, h23, hseq⟩ := s.gtFailed_regs (State.firstInvalid_lt hbad)
    refine ⟨t, he, ?_, ?_, ?_, ?_, hmem⟩
    · rw [State.rdB, State.rd, hregs]; exact h27
    · rw [State.rdF, State.rd, hregs]; exact h23
    · rw [State.gtSeq, State.rd, hregs]; exact hseq 0
    · rw [State.gtSeq, State.rd, hregs]; exact hseq 1

end Sys2Proof.Machine
end

section
/-! PROOFS. The messages of reliability (R567 to R572, R580, R583). -/

namespace Sys2Proof.Machine

/-! ### The end of a module's life (R571) -/

/-- The test unit and the keys stay, and no channel becomes busy. -/
def IdentityKept (s t : State) : Prop :=
  t.test = s.test ∧ t.host.keys = s.host.keys ∧ ∀ c, (s.chan c).busy = false → (t.chan c).busy = false

namespace IdentityKept
variable {s t u : State}

theorem refl (s : State) : IdentityKept s s := ⟨rfl, rfl, fun _ h => h⟩

theorem trans (h : IdentityKept s t) (h' : IdentityKept t u) : IdentityKept s u :=
  ⟨h'.1.trans h.1, h'.2.1.trans h.2.1, fun c hc => h'.2.2 c (h.2.2 c hc)⟩

theorem of_chans (htest : t.test = s.test) (hkeys : t.host.keys = s.host.keys) (hchans : t.host.chans = s.host.chans) : IdentityKept s t :=
  ⟨htest, hkeys, fun c hc => by rwa [State.chan, hchans]⟩

theorem responded (h : Responded s t) : IdentityKept s t := ⟨by rw [h.1], by rw [h.1], h.2⟩

theorem latches (h : LatchesOnly s t) : IdentityKept s t := .of_chans (by rw [h]) (by rw [h]) (by rw [h])

theorem failure (h : FailureOnly s t) : IdentityKept s t := .of_chans (by rw [h]) (by rw [h]) (by rw [h])

theorem foldl {α : Type} {f : State → α → State} (h : ∀ s a, IdentityKept s (f s a)) (l : List α) (s : State) : IdentityKept s (l.foldl f s) := by
  induction l generalizing s with
  | nil => exact .refl s
  | cons a l ih => exact (h s a).trans (ih _)

end IdentityKept

section Retire
variable (s : State)

theorem State.putEntry_kept (p : Nat) (x : Part) : IdentityKept s (s.putEntry p x) := .of_chans rfl rfl rfl
theorem State.setPart_kept (p : Nat) (x : Part) : IdentityKept s (s.setPart p x) := .of_chans rfl rfl rfl

theorem State.dropPart_kept (p : Nat) : IdentityKept s (s.dropPart p) := by
  obtain ⟨rings, h1⟩ := s.dropRings_only p
  have hrings : IdentityKept s (s.dropRings p) := by
    rw [h1]
    exact .of_chans rfl rfl rfl
  have hmaps : ∀ (v : State) (x : Part), IdentityKept v (v.dropMaps x) := fun v x => .of_chans rfl rfl rfl
  rw [State.dropPart_eq]
  exact (((((hrings.trans (.responded (State.dropSessions_responded ..))).trans (hmaps ..)).trans (.latches (State.breakCores_only ..))).trans
    (.latches (State.freeGrans_only ..))).trans (.latches (State.freePages_only ..))).trans (State.putEntry_kept ..)

theorem State.answerPreempts_kept (p : Nat) : IdentityKept s (s.answerPreempts p) := by
  unfold State.answerPreempts
  split
  · exact .refl s
  · dsimp only
    have hanswer : ∀ (l : List Preempt) (u : State), IdentityKept u (l.foldl (fun s w =>
        s.respond w.ch (if w.destroy then 0x0021 else 0x0023) w.tag 0 (if w.destroy then [] else leBytes 4 w.ended)) u) :=
      IdentityKept.foldl fun s w => .responded (s.respond_responded ..)
    refine .trans ?_ (hanswer ..)
    split
    · exact (s.setPart_kept ..).trans (State.dropPart_kept ..)
    · exact s.setPart_kept ..

theorem State.preempt_kept (p : Nat) (abort : Bool) (w : Preempt) : IdentityKept s (s.preempt p abort w) := by
  obtain ⟨rings, hhalt⟩ := s.haltPart_only p
  have hkept : IdentityKept s (s.haltPart p) := by
    rw [hhalt]
    exact .of_chans rfl rfl rfl
  unfold State.preempt
  dsimp only
  split
  · exact (hkept.trans (.failure ((s.haltPart p).abortPart_fails p).1)).trans (State.setPart_kept ..)
  · exact hkept.trans (State.setPart_kept ..)

/-- The key slots that RETIRED erases. -/
def KeySlot.retired (x : KeySlot) : KeySlot := if x.role = .operator || x.role = .tenant then noKey else x

theorem KeySlot.retired_role (x : KeySlot) : x.retired.role ≠ .operator ∧ x.retired.role ≠ .tenant := by
  unfold KeySlot.retired
  split
  · exact ⟨nofun, nofun⟩
  · next h => simpa using h

/-- The slots of operators and tenants erased, their sessions closed. -/
def State.eraseKeys (s : State) : State :=
  (List.range 8).foldl (fun s k => if (s.key k).role = .operator || (s.key k).role = .tenant then (s.setKey k noKey).closeSlot k else s) s

theorem State.closeSlot_kept (k : Nat) : IdentityKept s (s.closeSlot k) := by
  obtain ⟨chans, window, h⟩ := s.closeSlot_only k
  refine ⟨by rw [h], by rw [h], fun c hc => ?_⟩
  rw [State.chan_closeSlot]
  split
  · rwa [Chan.without_busy]
  · exact hc

theorem State.eraseKeys_step (k : Nat) :
    let t := if (s.key k).role = .operator || (s.key k).role = .tenant then (s.setKey k noKey).closeSlot k else s
    t.test = s.test ∧ (∀ c, (s.chan c).busy = false → (t.chan c).busy = false) ∧ ∀ j, t.key j = if j = k then (s.key j).retired else s.key j := by
  dsimp only
  split
  · next h =>
    obtain ⟨htest, hkeys, hbusy⟩ := (s.setKey k noKey).closeSlot_kept k
    refine ⟨htest, hbusy, fun j => ?_⟩
    have hkey : ((s.setKey k noKey).closeSlot k).key j = (s.setKey k noKey).key j := by rw [State.key, hkeys, State.key]
    rw [hkey, State.key_setKey]
    split
    · next e => rw [e, KeySlot.retired, if_pos h]
    · rfl
  · next h =>
    refine ⟨rfl, fun _ hc => hc, fun j => ?_⟩
    split
    · next e => rw [e, KeySlot.retired, if_neg h]
    · rfl

theorem State.eraseKeys_kept : s.eraseKeys.test = s.test ∧ ∀ c, (s.chan c).busy = false → (s.eraseKeys.chan c).busy = false := by
  have hfold : ∀ (l : List Nat) (s : State),
      (l.foldl (fun s k => if (s.key k).role = .operator || (s.key k).role = .tenant then (s.setKey k noKey).closeSlot k else s) s).test = s.test
      ∧ ∀ c, (s.chan c).busy = false →
        ((l.foldl (fun s k => if (s.key k).role = .operator || (s.key k).role = .tenant then (s.setKey k noKey).closeSlot k else s) s).chan c).busy = false := by
    intro l
    induction l with
    | nil => exact fun s => ⟨rfl, fun _ h => h⟩
    | cons k l ih =>
      intro s
      obtain ⟨h1, h2, -⟩ := s.eraseKeys_step k
      rw [List.foldl_cons]
      exact ⟨(ih _).1.trans h1, fun c hc => (ih _).2 c (h2 c hc)⟩
  exact hfold _ s

theorem State.key_eraseKeys (k : Nat) : s.eraseKeys.key k = if k < 8 then (s.key k).retired else s.key k :=
  foldl_range_entry (get := State.key) (g := KeySlot.retired) (fun s k j => (s.eraseKeys_step k).2.2 j) 8 s k

/-- A READY partition preempted and destroyed. -/
def State.endPart (s : State) (p : Nat) : State :=
  if (s.part p).st ≠ .ready then s
  else
    let s := s.setPart p { s.part p with st := .destroying }
    (s.preempt p true { ch := 255, tag := 0, destroy := true }).answerPreempts p

theorem State.retireModule_eq : s.retireModule = (List.range 8).foldl State.endPart s.eraseKeys := rfl

theorem State.endPart_kept (p : Nat) : IdentityKept s (s.endPart p) := by
  unfold State.endPart
  split
  · exact .refl s
  · exact ((s.setPart_kept ..).trans (State.preempt_kept ..)).trans (State.answerPreempts_kept ..)

/-- RETIRED leaves no slot of an operator or tenant. -/
theorem State.retireModule_retires : s.retireModule.test = s.test ∧ (∀ k < 8, (s.retireModule.key k).role ≠ .operator ∧ (s.retireModule.key k).role ≠ .tenant)
    ∧ ∀ c, (s.chan c).busy = false → (s.retireModule.chan c).busy = false := by
  have hdrop := IdentityKept.foldl State.endPart_kept (List.range 8) s.eraseKeys
  rw [s.retireModule_eq]
  obtain ⟨htest, hbusy⟩ := s.eraseKeys_kept
  have hkeys : ∀ k, s.eraseKeys.key k = if k < 8 then (s.key k).retired else s.key k := s.key_eraseKeys
  generalize s.eraseKeys = u at hdrop htest hbusy hkeys ⊢
  generalize (List.range 8).foldl State.endPart u = t at hdrop ⊢
  refine ⟨hdrop.1.trans htest, fun k hk => ?_, fun c hc => hdrop.2.2 c (hbusy c hc)⟩
  rw [State.key, hdrop.2.1, ← State.key, hkeys, if_pos hk]
  exact KeySlot.retired_role _

end Retire

/-! ### Life-cycle changes and pattern sets -/

theorem State.closeInj_only (s : State) : ∃ regs memx, s.closeInj = { s with regs, memx } := by
  unfold State.closeInj
  split
  · exact ⟨_, _, rfl⟩
  · exact ⟨_, _, rfl⟩

/-- A change of the life-cycle state, but for what RETIRED ends. -/
def State.setLife (s : State) (new : Nat) : State :=
  let t := ({ s with test := { s.test with lc := new } } : State).closeInj
  if new = 3 || s.test.lc = 3 then t.flashImage 1 else t

theorem State.setLife_keeps (s : State) (new : Nat) : (s.setLife new).test = { s.test with lc := new } ∧ (s.setLife new).parts = s.parts
    ∧ (s.setLife new).host = s.host := by
  obtain ⟨regs, memx, h⟩ := State.closeInj_only { s with test := { s.test with lc := new } }
  have hflash : ∀ t : State, (t.flashImage 1).test = t.test ∧ (t.flashImage 1).parts = t.parts ∧ (t.flashImage 1).host = t.host := fun _ => ⟨rfl, rfl, rfl⟩
  unfold State.setLife
  dsimp only
  rw [h]
  split
  · exact hflash _
  · exact ⟨rfl, rfl, rfl⟩

section LifeCycle
variable {s : State} {m : Msg} {r : Request} {image : List Byte}

theorem Aside.test {u t : State} (h : Aside u t) : t.test = u.test := by rw [h]

/-- LC_SET's own effect on the session's role. -/
def State.lcSet (s : State) (role : Role) (b : List Byte) : State × Answer :=
  match lcChange role s.test.lc (leAt b 0 1) with
  | none => (s, refusal eLcDenied)
  | some false => (s, refusal eHifRoleDenied)
  | some true => (if leAt b 0 1 = 4 then (s.setLife (leAt b 0 1)).retireModule else s.setLife (leAt b 0 1), some (0, []))

theorem lcSet_denied (hr : requestOf (.lcSet m) = some r) (h : s.accepts r) (hno : lcChange (s.chan m.ch).role s.test.lc (leAt r.text 0 1) = none) :
    Served (.lcSet m) s r eLcDenied [] (Aside s) := by
  obtain rfl := Option.some.inj hr
  generalize hR : (⟨m, 0x0110, 1, isBound⟩ : Request) = R at *
  have hch : R.m.ch = m.ch := by rw [← hR]
  have hno' : lcChange ((s.taking R).chan m.ch).role (s.taking R).test.lc (leAt R.text 0 1) = none := by
    rw [← hch, State.chan_taking, hch]
    exact hno
  refine served_of_answer (f := fun s b => s.lcSet (s.chan m.ch).role b) (u := s.taking R) h (by rw [← hR]; rfl) ?_ (by decide) (requestOf_code hr)
    (State.taking_idle h) fun t ht => ht.of_taking
  rw [State.lcSet, hno']
  rfl

variable (hr : requestOf (.lcSet m) = some r) (h : s.accepts r) (hyes : lcChange (s.chan m.ch).role s.test.lc (leAt r.text 0 1) = some true)
include hr h hyes

theorem lcSet_effect {u : State} (hu : (if leAt r.text 0 1 = 4 then ((s.taking r).setLife (leAt r.text 0 1)).retireModule
      else (s.taking r).setLife (leAt r.text 0 1)) = u) (hidle : (u.chan m.ch).busy = false) {P : State → Prop} (hP : ∀ t, Aside u t → P t) :
    Served (.lcSet m) s r 0 [] P := by
  obtain rfl := Option.some.inj hr
  generalize hR : (⟨m, 0x0110, 1, isBound⟩ : Request) = R at *
  have hch : R.m.ch = m.ch := by rw [← hR]
  have hyes' : lcChange ((s.taking R).chan m.ch).role (s.taking R).test.lc (leAt R.text 0 1) = some true := by
    rw [← hch, State.chan_taking, hch]
    exact hyes
  refine served_of_answer (f := fun s b => s.lcSet (s.chan m.ch).role b) (u := u) h (by rw [← hR]; rfl) ?_ (by decide) (requestOf_code hr)
    (hch ▸ hidle) hP
  rw [State.lcSet, hyes', ← hu]

theorem lcSet_changes (hnew : leAt r.text 0 1 ≠ 4) : Served (.lcSet m) s r 0 [] (fun t =>
    t.test = { s.test with lc := leAt r.text 0 1 } ∧ t.parts = s.parts ∧ t.host.keys = s.host.keys) := by
  have hm : r.m.ch = m.ch := by
    obtain rfl := Option.some.inj hr
    rfl
  obtain ⟨htest, hparts, hhost⟩ := (s.taking r).setLife_keeps (leAt r.text 0 1)
  refine lcSet_effect hr h hyes (if_neg hnew) ?_ fun t ht => ⟨ht.test.trans htest, ?_, ?_⟩
  · rw [State.chan, hhost, ← hm]
    exact State.taking_idle h
  · rw [ht]
    exact hparts
  · rw [ht.keys, hhost]
    rfl

theorem lcSet_retires (hnew : leAt r.text 0 1 = 4) : Served (.lcSet m) s r 0 [] (fun t =>
    t.test.lc = 4 ∧ ∀ k < 8, (t.key k).role ≠ .operator ∧ (t.key k).role ≠ .tenant) := by
  have hm : r.m.ch = m.ch := by
    obtain rfl := Option.some.inj hr
    rfl
  obtain ⟨htest, -, hhost⟩ := (s.taking r).setLife_keeps (leAt r.text 0 1)
  obtain ⟨htest', hroles, hbusy⟩ := ((s.taking r).setLife (leAt r.text 0 1)).retireModule_retires
  refine lcSet_effect hr h hyes (if_pos hnew) (hbusy _ ?_) fun t ht => ⟨?_, fun k hk => ?_⟩
  · rw [State.chan, hhost, ← hm]
    exact State.taking_idle h
  · rw [ht.test, htest', htest]
    exact hnew
  · have hkey : t.key k = (((s.taking r).setLife (leAt r.text 0 1)).retireModule).key k := by rw [State.key, ht.keys, State.key]
    rw [hkey]
    exact hroles k hk

end LifeCycle

section Patterns
variable {s : State} {m : Msg} {r : Request} {image : List Byte}

theorem patternLoad_invalid (hr : requestOf (.patternLoad m image) = some r) (h : s.accepts r) (hbad : patternOk image = false) :
    Served (.patternLoad m image) s r ePatternInvalid [] (Aside s) := by
  obtain rfl := Option.some.inj hr
  exact served_of_answer (u := s.taking _) h rfl (if_pos (by simp [hbad])) (by decide) (by norm_num) (State.taking_idle h) fun t ht => ht.of_taking

theorem patternLoad_older (hr : requestOf (.patternLoad m image) = some r) (h : s.accepts r) (hok : patternOk image = true)
    (hold : leAt image 8 4 < (s.patternSet (leAt image 4 2)).version) : Served (.patternLoad m image) s r ePatternRollback [] (Aside s) := by
  obtain rfl := Option.some.inj hr
  exact served_of_answer (u := s.taking _) h rfl ((if_neg (by simp [hok])).trans (if_pos hold)) (by decide) (by norm_num) (State.taking_idle h)
    fun t ht => ht.of_taking

/-- A pattern set in force, and in its slot of the flash. -/
def State.loadPatterns (s : State) (target v : Nat) (set : PSet) : State :=
  let s := { s with test := { s.test with patterns := tput (fun _ => {}) s.test.patterns target set } }
  s.setImage (5 + target) { (s.image (5 + target)).put v with live := v }

theorem State.loadPatterns_keeps (s : State) (target v : Nat) (set : PSet) : (s.loadPatterns target v set).patternSet target = set
    ∧ (s.loadPatterns target v set).test.running = s.test.running ∧ (s.loadPatterns target v set).mem = s.mem
    ∧ (s.loadPatterns target v set).host = s.host :=
  ⟨tget_tput_self _ _ _ _, rfl, rfl, rfl⟩

theorem patternLoad_served (hr : requestOf (.patternLoad m image) = some r) (h : s.accepts r) (hok : patternOk image = true)
    (hnew : (s.patternSet (leAt image 4 2)).version ≤ leAt image 8 4) : Served (.patternLoad m image) s r 0 [] (fun t =>
      t.patternSet (leAt image 4 2) = { version := leAt image 8 4, sa := leAt image 16 2, tr := leAt image 18 2, slices := leAt image 20 2 }
      ∧ t.test.running = s.test.running ∧ t.mem = s.mem) := by
  obtain rfl := Option.some.inj hr
  generalize hR : (⟨m, 0x0111, 1008, hasRole [.operator, .service]⟩ : Request) = R at *
  obtain ⟨hset, hrun, hmem, hhost⟩ := (s.taking R).loadPatterns_keeps (leAt image 4 2) (leAt image 8 4)
    { version := leAt image 8 4, sa := leAt image 16 2, tr := leAt image 18 2, slices := leAt image 20 2 }
  refine served_of_answer (f := fun s _ =>
      if !patternOk image then (s, refusal ePatternInvalid)
      else if leAt image 8 4 < (s.patternSet (leAt image 4 2)).version then (s, refusal ePatternRollback)
      else (s.loadPatterns (leAt image 4 2) (leAt image 8 4)
        { version := leAt image 8 4, sa := leAt image 16 2, tr := leAt image 18 2, slices := leAt image 20 2 }, some (0, [])))
    h (by rw [← hR]; rfl) ((if_neg (by simp [hok])).trans (if_neg (Nat.not_lt.mpr hnew))) (by decide) (requestOf_code hr) ?_ fun t ht => ⟨?_, ?_, ?_⟩
  · rw [State.chan, hhost]
    exact State.taking_idle h
  · rw [State.patternSet, ht.test]
    exact hset
  · rw [ht.test]
    exact hrun
  · rw [ht]
    exact hmem

end Patterns

/-! ### Diagnostics -/

theorem State.core_setCore (s : State) (i j : Nat) (x : Core) : (s.setCore i x).core j = if j = i then x else s.core j := tget_tput _ _ _ _ _

theorem State.addEvent_only (s : State) (e : Ev) : ∃ regs beat, (s.addEvent e).1 = { s with regs, beat } := by
  unfold State.addEvent
  split <;> exact ⟨_, _, rfl⟩

/-- A register that the event table does not show keeps its word. -/
theorem State.rd_addEvent (s : State) (e : Ev) {o : Nat} (hbeat : o ≠ rBeatStat) (hpwr : o ≠ rPwrStat) : (s.addEvent e).1.rd o = s.rd o := by
  unfold State.addEvent
  split
  · rfl
  · exact (State.rd_wr_ne _ _ _ _ hpwr).trans (State.rd_wr_ne _ _ _ _ hbeat)

section Begin
variable {s : State} {i : Nat}

theorem wingOf_lt (i : Nat) : wingOf i < 2 := by
  unfold wingOf
  split <;> omega

theorem rBstWing_apart {w : Nat} : rBstWing w ≠ rBeatStat ∧ rBstWing w ≠ rPwrStat ↔ 0x1090010 + 4 * w ≠ 0x10A0000 := by
  unfold rBstWing rBeatStat rPwrStat bstReg beatReg pwrReg
  omega

/-- The registers of a test that begins. -/
def State.testing (s : State) (i : Nat) : State := ((s.setTest (wingOf i) i 3).wrF (rBstWing (wingOf i)) 20 14 0).wrB (rCoreStat i) 3 true

theorem State.testing_only (s : State) (i : Nat) : RegsOnly s (s.testing i) := (((((RegsOnly.refl s).wrF ..).wrF ..).wrF ..).wrB ..)

/-- The core whose test begins no longer waits for it, and its first slice is due, with the pattern set in force. -/
def State.firstSlice (s : State) (i : Nat) : State :=
  let s := s.setCore i { s.core i with testNext := false }
  ({ s with test := { s.test with running := tput (fun _ => {}) s.test.running (wingOf i) (s.patternSet 1) } } : State).nextSlice (wingOf i) 0 s.now

theorem State.beginTest_eq (s : State) (i : Nat) : s.beginTest i = (s.testing i).firstSlice i := rfl

theorem State.firstSlice_adds (s : State) (i : Nat) : ∃ u e, s.firstSlice i = (State.addEvent u e).1 ∧ u.regs = s.regs ∧ u.host = s.host :=
  ⟨_, _, rfl, rfl, rfl⟩

theorem State.testing_regs (s : State) (hi : i < 144) : (s.testing i).testState (wingOf i) = 3 ∧ (s.testing i).testCore (wingOf i) = i := by
  have hw := wingOf_lt i
  have hcore : rBstWing (wingOf i) ≠ rCoreStat i := by
    unfold rBstWing rCoreStat bstReg coreReg
    omega
  unfold State.testing State.setTest State.testState State.testCore
  constructor
  · refine (State.rdF_wr_ne _ _ hcore _ _ _).trans ?_
    rw [State.rdF_wrF_apart _ _ (by omega) (by omega) (by omega), State.rdF_wrF_same _ _ (by omega) (by omega)]
    rfl
  · refine (State.rdF_wr_ne _ _ hcore _ _ _).trans ?_
    rw [State.rdF_wrF_apart _ _ (by omega) (by omega) (by omega), State.rdF_wrF_apart _ _ (by omega) (by omega) (by omega),
      State.rdF_wrF_same _ _ (by omega) (by omega)]
    omega

/-- The test of a core has begun: its wing tests it. -/
theorem State.beginTest_begins (s : State) (hi : i < 144) : (s.beginTest i).testState (wingOf i) = 3 ∧ (s.beginTest i).testCore (wingOf i) = i
    ∧ (s.beginTest i).host = s.host := by
  have hw := wingOf_lt i
  have hapart := (rBstWing_apart (w := wingOf i)).mpr (by omega)
  obtain ⟨h1, h2⟩ := s.testing_regs hi
  obtain ⟨_, hregs⟩ := s.testing_only i
  rw [s.beginTest_eq i]
  have hhost : (s.testing i).host = s.host := by rw [hregs]
  generalize s.testing i = v at h1 h2 hhost ⊢
  obtain ⟨u, e, hu, hr, hh⟩ := v.firstSlice_adds i
  rw [hu]
  have hread : ∀ hi lo, (u.addEvent e).1.rdF (rBstWing (wingOf i)) hi lo = v.rdF (rBstWing (wingOf i)) hi lo := fun hi lo => by
    rw [State.rdF, State.rd_addEvent _ _ hapart.1 hapart.2, State.rd, hr, State.rdF, State.rd]
  refine ⟨(hread ..).trans h1, (hread ..).trans h2, ?_⟩
  obtain ⟨regs, beat, h⟩ := u.addEvent_only e
  rw [h]
  exact hh.trans hhost

theorem mem_wingCores {i : Nat} (hi : i < 144) : i ∈ wingCores (wingOf i) := by
  simp only [wingCores, span, wingOf, List.mem_map, List.mem_range]
  split
  · exact ⟨i, by omega, by omega⟩
  · exact ⟨i - 72, by omega, by omega⟩

theorem lt_of_mem_wingCores {i k : Nat} (h : k ∈ wingCores (wingOf i)) : k < 144 := by
  have hw := wingOf_lt i
  simp only [wingCores, span, List.mem_map, List.mem_range] at h
  omega

/-- The only core that waits for a test is tested when its wing is free (R559, R584). -/
theorem State.nextTest_begins (hi : i < 144) (hlc : s.test.lc = 3) (hfree : s.testState (wingOf i) = 0) (hret : (s.core i).retired = false)
    (hnext : (s.core i).testNext = true) (hattic : s.logical i = none) (hhand : ∀ h ∈ s.handovers, h.old ≠ i)
    (hothers : ∀ k < 144, k ≠ i → (s.core k).testNext = false) : s.nextTest (wingOf i) = s.beginTest i := by
  have hno : s.handovers.any (fun h => h.old = i) = false := by
    rw [List.any_eq_false]
    exact fun x hx => by simpa using hhand x hx
  have hfind : (wingCores (wingOf i)).find? (fun k => (s.core k).testNext && !(s.core k).retired && !s.handovers.any (fun h => h.old = k)) = some i := by
    cases hf : (wingCores (wingOf i)).find? (fun k => (s.core k).testNext && !(s.core k).retired && !s.handovers.any (fun h => h.old = k)) with
    | none => simpa [hnext, hret, hno] using List.find?_eq_none.mp hf i (mem_wingCores hi)
    | some k =>
      by_contra hne
      have hk := hothers k (lt_of_mem_wingCores (List.mem_of_find?_eq_some hf)) fun e => hne (by rw [e])
      simpa [hk] using List.find?_some hf
  have hdue : s.testDue i = s.beginTest i := by
    unfold State.testDue
    dsimp only
    rw [if_neg (by simp [State.engineAllowed, hlc, hret]), if_neg (by simp [hfree]), if_neg (by simp [hno]), if_pos (by simp [hattic])]
  unfold State.nextTest
  rw [if_neg (by rw [hfree]; decide), if_pos hfree, hfind]
  exact hdue

/-- A wing whose test engine is in use leaves a core waiting. -/
theorem State.nextTest_waits {w : Nat} (h0 : s.testState w ≠ 0) (h4 : s.testState w ≠ 4) : s.nextTest w = s := by
  rw [State.nextTest, if_neg h4, if_neg h0]

end Begin

section TestRun
variable {s : State} {m : Msg} {r : Request} {pass : Bool}

theorem testRun_denied (hr : requestOf (.testRun m pass) = some r) (h : s.accepts r) (hlc : s.test.lc ≠ 3) :
    Served (.testRun m pass) s r eHifRoleDenied [] (fun t => t.cores = s.cores) := by
  obtain rfl := Option.some.inj hr
  refine served_of_roleDenied (u := s.taking _) h rfl (if_pos hlc) (by norm_num) (State.taking_idle h) fun c t ht => ?_
  obtain ⟨log, chans, hlog⟩ := (s.taking ⟨m, 0x0112, 4, hasRole [.service]⟩).logSession_only c eHifRoleDenied 0x0112
  rw [ht, hlog]
  rfl

/-- A request that TEST_RUN finds well formed. -/
theorem testRun_formed {unit inst one : Nat} (h0 : unit ≠ 0) (h12 : unit ≤ 12) (hone : one = 0) (hcore : unit = 1 → inst ≤ 143) (harr : inst ≤ 575) :
    ¬ ((decide (unit = 0) || decide (12 < unit) || decide (one ≠ 0) || (decide (unit = uCore) && decide (143 < inst))
      || (decide (unit = uArray) && decide (575 < inst))) = true) := by
  unfold uCore uArray
  simp only [Bool.or_eq_true, Bool.and_eq_true, decide_eq_true_eq]
  omega

section Units
variable (hr : requestOf (.testRun m pass) = some r) (h : s.accepts r) (hlc : s.test.lc = 3) (hone : leAt r.text 1 1 = 0)
include hr h hlc hone

theorem testRun_busy (h2 : 2 ≤ leAt r.text 0 1) (h12 : leAt r.text 0 1 ≤ 12) (hinst : leAt r.text 2 2 ≤ 575)
    (hused : s.unitUsed (leAt r.text 0 1) (leAt r.text 2 2) = true) : Served (.testRun m pass) s r eBstBusy [] (Aside s) := by
  obtain rfl := Option.some.inj hr
  generalize hR : (⟨m, 0x0112, 4, hasRole [.service]⟩ : Request) = R at *
  have hlc' : (s.taking R).test.lc = 3 := hlc
  have hused' : (s.taking R).unitUsed (leAt R.text 0 1) (leAt R.text 2 2) = true := hused
  refine served_of_answer (u := s.taking R) h (by rw [← hR]; rfl) ?_ (by decide) (requestOf_code hr) (State.taking_idle h) fun t ht => ht.of_taking
  exact (if_neg (by simp [hlc'])).trans <| (if_neg (testRun_formed (by omega) h12 hone (by omega) hinst)).trans <|
    (if_neg (by unfold uCore; omega)).trans (if_pos hused')

theorem testRun_unit (h2 : 2 ≤ leAt r.text 0 1) (h12 : leAt r.text 0 1 ≤ 12) (hinst : leAt r.text 2 2 ≤ 575)
    (hfree : s.unitUsed (leAt r.text 0 1) (leAt r.text 2 2) = false) :
    Served (.testRun m pass) s r 0 [if pass then 1 else 0] (fun t => t.mem = s.mem ∧ t.cores = s.cores) := by
  obtain rfl := Option.some.inj hr
  generalize hR : (⟨m, 0x0112, 4, hasRole [.service]⟩ : Request) = R at *
  have hlc' : (s.taking R).test.lc = 3 := hlc
  have hfree' : ¬ ((s.taking R).unitUsed (leAt R.text 0 1) (leAt R.text 2 2) = true) := ne_true_of_eq_false hfree
  have hrep := (s.taking R).event_reported (leAt R.text 0 1) 3 (leAt R.text 2 2) eBstFail
  generalize hu : (s.taking R).event (leAt R.text 0 1) 3 (leAt R.text 2 2) eBstFail = u at hrep
  have hchan : u.host.chans = (s.taking R).host.chans := by
    obtain ⟨_, _, _, _, _, _, h⟩ := hrep
    rw [h]
  have hcores : u.cores = s.cores := by
    obtain ⟨_, _, _, _, _, _, h⟩ := hrep
    rw [h]
    rfl
  refine served_of_answer (u := if pass then s.taking R else u) h (by rw [← hR]; rfl) ?_ (by decide) (requestOf_code hr) ?_ fun t ht => ?_
  · refine (if_neg (by simp [hlc'])).trans <| (if_neg (testRun_formed (by omega) h12 hone (by omega) hinst)).trans <|
      (if_neg (by unfold uCore; omega)).trans <| (if_neg hfree').trans ?_
    cases pass
    · rw [hu]
      rfl
    · rfl
  · cases pass
    · show (u.chan R.m.ch).busy = false
      rw [State.chan, hchan]
      exact State.taking_idle h
    · exact State.taking_idle h
  · cases pass
    · rw [if_neg (by decide)] at ht
      rw [ht]
      exact ⟨hrep.mem, hcores⟩
    · rw [if_pos rfl] at ht
      rw [ht]
      exact ⟨rfl, rfl⟩

/-- TEST_RUN of a core: it waits for a test, and its wing looks for the next one. -/
theorem testRun_core (hunit : leAt r.text 0 1 = 1) (hinst : leAt r.text 2 2 < 144) {u : State}
    (hu : ((s.taking r).setCore (leAt r.text 2 2) { (s.taking r).core (leAt r.text 2 2) with testNext := true }).nextTest (wingOf (leAt r.text 2 2)) = u)
    (hidle : (u.chan r.m.ch).busy = false) {P : State → Prop} (hP : ∀ t, Aside u t → P t) : Served (.testRun m pass) s r 0 [] P := by
  obtain rfl := Option.some.inj hr
  generalize hR : (⟨m, 0x0112, 4, hasRole [.service]⟩ : Request) = R at *
  have hlc' : (s.taking R).test.lc = 3 := hlc
  refine served_of_answer (u := u) h (by rw [← hR]; rfl) ?_ (by decide) (requestOf_code hr) hidle hP
  refine (if_neg (by simp [hlc'])).trans <| (if_neg (testRun_formed (by omega) (by omega) hone (by omega) (by omega))).trans <| (if_pos hunit).trans ?_
  rw [hu]

theorem testRun_waits (hunit : leAt r.text 0 1 = 1) (hinst : leAt r.text 2 2 < 144) (h0 : s.testState (wingOf (leAt r.text 2 2)) ≠ 0)
    (h4 : s.testState (wingOf (leAt r.text 2 2)) ≠ 4) :
    Served (.testRun m pass) s r 0 [] (fun t => (t.core (leAt r.text 2 2)).testNext = true ∧ t.mem = s.mem) := by
  refine testRun_core hr h hlc hone hunit hinst (State.nextTest_waits h0 h4) (State.taking_idle h) fun t ht => ?_
  have hcore : ∀ (u : State) (x : Core), Aside (u.setCore (leAt r.text 2 2) x) t → t.core (leAt r.text 2 2) = x ∧ t.mem = u.mem := fun u x hx => by
    rw [hx]
    exact ⟨State.core_setCore_self .., rfl⟩
  obtain ⟨h1, h2⟩ := hcore _ _ ht
  rw [h1]
  exact ⟨rfl, h2⟩

theorem testRun_begins (hunit : leAt r.text 0 1 = 1) (hinst : leAt r.text 2 2 < 144) (hfree : s.testState (wingOf (leAt r.text 2 2)) = 0)
    (hret : (s.core (leAt r.text 2 2)).retired = false) (hattic : s.logical (leAt r.text 2 2) = none)
    (hhand : ∀ x ∈ s.handovers, x.old ≠ leAt r.text 2 2) (hothers : ∀ k < 144, (s.core k).testNext = false) :
    Served (.testRun m pass) s r 0 [] (fun t => t.testState (wingOf (leAt r.text 2 2)) = 3 ∧ t.testCore (wingOf (leAt r.text 2 2)) = leAt r.text 2 2) := by
  generalize hv : (s.taking r).setCore (leAt r.text 2 2) { (s.taking r).core (leAt r.text 2 2) with testNext := true } = v
  have hcore : ∀ k, v.core k = if k = leAt r.text 2 2 then { s.core (leAt r.text 2 2) with testNext := true } else s.core k := fun k => by
    rw [← hv]
    exact State.core_setCore ..
  have hregs : v.regs = s.regs := by
    rw [← hv]
    rfl
  have hhost : v.host = (s.taking r).host := by
    rw [← hv]
    rfl
  have hmap : v.logical (leAt r.text 2 2) = s.logical (leAt r.text 2 2) := by
    rw [← hv]
    rfl
  have hlist : v.handovers = s.handovers := by
    rw [← hv]
    rfl
  have hlife : v.test = s.test := by
    rw [← hv]
    rfl
  have hnext := State.nextTest_begins (s := v) hinst (by rw [hlife]; exact hlc) (by rw [State.testState, State.rdF, State.rd, hregs]; exact hfree)
    (by rw [hcore, if_pos rfl]; exact hret) (by rw [hcore, if_pos rfl]) (hmap.trans hattic) (by rw [hlist]; exact hhand)
    (fun k hk hne => by rw [hcore, if_neg hne]; exact hothers k hk)
  obtain ⟨h3, hc, hhost'⟩ := v.beginTest_begins hinst
  refine testRun_core hr h hlc hone hunit hinst (u := v.beginTest (leAt r.text 2 2)) (by rw [hv, hnext]) ?_ fun t ht => ?_
  · rw [State.chan, hhost', hhost]
    exact State.taking_idle h
  · have hregs' : t.regs = (v.beginTest (leAt r.text 2 2)).regs := by rw [ht]
    refine ⟨Eq.trans ?_ h3, Eq.trans ?_ hc⟩
    · rw [State.testState, State.rdF, State.rd, hregs']
      rfl
    · rw [State.testCore, State.rdF, State.rd, hregs']
      rfl

end Units
end TestRun

/-! ### The ledger and the reports -/

theorem State.ledgerAll_of_regs {s t : State} (hmem : t.mem = s.mem) (hecc : t.ecc = s.ecc) (hmemx : t.memx = s.memx) (hnow : t.now = s.now)
    (hperiods : t.beat.periods = s.beat.periods) (hregs : t.regs = s.regs) (hcores : t.cores = s.cores) (i : Nat) : t.ledgerAll i = s.ledgerAll i := by
  have hsees : Sees s t := .of_regs hmem hecc hmemx hnow hperiods hregs
  unfold State.ledgerAll State.spillSize State.core State.rd64 State.rdF State.rd
  rw [hregs, hcores]
  simp only [hsees.seen]

section Reports
variable {s : State} {m : Msg} {r : Request}

/-- LEDGER_READ's own effect. -/
def State.ledgerReply (s : State) (b : List Byte) : State × Answer :=
  let i := leAt b 0 2
  let es := s.ledgerAll i
  if 144 ≤ i || leAt b 2 2 ≠ 0 then (s, refusal eHifMsgInvalid)
  else
    (s, some (0, leBytes 4 es.length ++ leBytes 4 (if s.rdB (rLedgerCtl i) 31 then 1 else 0)
      ++ ((es.drop (leAt b 4 4)).take 62).flatMap (fun e => leBytes 16 e.toNat)))

theorem ledgerRead_served (hr : requestOf (.ledgerRead m) = some r) (h : s.accepts r) (hi : leAt r.text 0 2 < 144) (hzero : leAt r.text 2 2 = 0) :
    Served (.ledgerRead m) s r 0 (leBytes 4 (s.ledgerAll (leAt r.text 0 2)).length
      ++ leBytes 4 (if s.rdB (rLedgerCtl (leAt r.text 0 2)) 31 then 1 else 0)
      ++ (((s.ledgerAll (leAt r.text 0 2)).drop (leAt r.text 4 4)).take 62).flatMap (fun e => leBytes 16 e.toNat)) (Aside s) := by
  obtain rfl := Option.some.inj hr
  generalize hR : (⟨m, 0x0113, 8, hasRole [.operator, .service]⟩ : Request) = R at *
  have hledger : (s.taking R).ledgerAll (leAt R.text 0 2) = s.ledgerAll (leAt R.text 0 2) :=
    State.ledgerAll_of_regs (s := s) (t := s.taking R) rfl rfl rfl rfl rfl rfl rfl _
  have hwrap : (s.taking R).rdB (rLedgerCtl (leAt R.text 0 2)) 31 = s.rdB (rLedgerCtl (leAt R.text 0 2)) 31 :=
    State.rdB_of_regs (s := s) (t := s.taking R) rfl _ _
  refine served_of_answer (u := s.taking R) (f := State.ledgerReply) h (by rw [← hR]; rfl) ?_ (by decide) (requestOf_code hr) (State.taking_idle h)
    fun t ht => ht.of_taking
  unfold State.ledgerReply
  dsimp only
  rw [if_neg (by simp [hi, hzero]), hledger, hwrap]

theorem reportResend_served (hr : requestOf (.reportResend m) = some r) (h : s.accepts r) : Served (.reportResend m) s r 0 [] (Aside { s with
    resend := s.resend ++ (s.reports.filter (fun x => decide ((x.rseq - BitVec.ofNat 32 (leAt r.text 0 4)).toNat < leAt r.text 4 4))).map (·.rseq) }) := by
  obtain rfl := Option.some.inj hr
  exact served_of_answer h rfl rfl (by decide) (by norm_num) (State.taking_idle h) fun t ht => ht.trans rfl

end Reports

/-- Settles O49: each message by its lemma above. -/
theorem reliabilityMessages : Obligations.ReliabilityMessages := by
  intro s m image pass
  refine ⟨fun r hr h => ⟨lcSet_denied hr h, lcSet_changes hr h, lcSet_retires hr h⟩,
    fun r hr h => ⟨patternLoad_invalid hr h, patternLoad_older hr h, patternLoad_served hr h⟩,
    fun r hr h => ⟨testRun_denied hr h, fun hlc h2 h12 hone hinst => testRun_busy hr h hlc hone h2 h12 hinst,
      fun hlc h2 h12 hone hinst => testRun_unit hr h hlc hone h2 h12 hinst, fun hlc hunit hone hinst => testRun_waits hr h hlc hone hunit hinst,
      fun hlc hunit hone hinst => testRun_begins hr h hlc hone hunit hinst⟩,
    fun r hr h => ledgerRead_served hr h, fun r hr h => reportResend_served hr h⟩

end Sys2Proof.Machine
end

section
/-! PROOFS. The beat unit (R351 to R360, R394 to R398): markers, holdover, the backup master and its registers. -/

namespace Sys2Proof.Machine

/-! ### Fields of the registers -/

section Fields
variable (s : State) (o : Nat)

theorem State.rdB_wr_ne {o' : Nat} (h : o' ≠ o) (v : W32) (i : Nat) : (s.wr o v).rdB o' i = s.rdB o' i := by
  rw [State.rdB, State.rd_wr_ne _ _ _ _ h, State.rdB]

theorem State.rdF_wrF_ne {o' : Nat} (h : o' ≠ o) (hi lo v hi' lo' : Nat) : (s.wrF o hi lo v).rdF o' hi' lo' = s.rdF o' hi' lo' := s.rdF_wr_ne o h _ _ _

theorem State.rdF_wrB_ne {o' : Nat} (h : o' ≠ o) (i : Nat) (b : Bool) (hi' lo' : Nat) : (s.wrB o i b).rdF o' hi' lo' = s.rdF o' hi' lo' := s.rdF_wr_ne o h _ _ _

theorem State.rdB_wrF_ne {o' : Nat} (h : o' ≠ o) (hi lo v i : Nat) : (s.wrF o hi lo v).rdB o' i = s.rdB o' i := s.rdB_wr_ne o h _ _

theorem State.rdB_wrB_apart {o' : Nat} (h : o' ≠ o) (i : Nat) (b : Bool) (j : Nat) : (s.wrB o i b).rdB o' j = s.rdB o' j := s.rdB_wr_ne o h _ _

end Fields

theorem State.rdF_of_regs {s t : State} (h : t.regs = s.regs) (o hi lo : Nat) : t.rdF o hi lo = s.rdF o hi lo := by
  rw [State.rdF, State.rd, h, State.rdF, State.rd]

namespace RegsOnly
variable {s t u : State}

theorem trans (h : RegsOnly s t) (h' : RegsOnly t u) : RegsOnly s u := by
  obtain ⟨_, rfl⟩ := h
  obtain ⟨_, rfl⟩ := h'
  exact ⟨_, rfl⟩

theorem beat (h : RegsOnly s t) : t.beat = s.beat := by
  obtain ⟨_, rfl⟩ := h
  rfl

theorem fab (h : RegsOnly s t) : t.fab = s.fab := by
  obtain ⟨_, rfl⟩ := h
  rfl

theorem host (h : RegsOnly s t) : t.host = s.host := by
  obtain ⟨_, rfl⟩ := h
  rfl

end RegsOnly

theorem Reported.beat {s t : State} (h : Reported s t) : t.beat = s.beat := by
  obtain ⟨_, _, _, _, _, _, rfl⟩ := h
  rfl

/-! ### The fields of BEAT_STAT -/

section Status
variable (s : State)

theorem State.beatSt_setBeatSt (v : Nat) : (s.setBeatSt v).beatSt = v % 8 := State.rdF_wrF_same _ _ (by omega) (by omega) _
theorem State.upport_setBeatSt (v : Nat) : (s.setBeatSt v).upport = s.upport := State.rdF_wrF_apart _ _ (by omega) (by omega) (by omega) _
theorem State.beatGen_setBeatSt (v : Nat) : (s.setBeatSt v).beatGen = s.beatGen := State.rdF_wrF_apart _ _ (by omega) (by omega) (by omega) _
theorem State.depth_setBeatSt (v : Nat) : (s.setBeatSt v).rdF rBeatStat 28 26 = s.rdF rBeatStat 28 26 :=
  State.rdF_wrF_apart _ _ (by omega) (by omega) (by omega) _

theorem State.upport_setUp (p : Option Nat) : (s.setUp p).upport = p.getD 0x3F % 64 := State.rdF_wrF_same _ _ (by omega) (by omega) _
theorem State.beatSt_setUp (p : Option Nat) : (s.setUp p).beatSt = s.beatSt := State.rdF_wrF_apart _ _ (by omega) (by omega) (by omega) _
theorem State.beatGen_setUp (p : Option Nat) : (s.setUp p).beatGen = s.beatGen := State.rdF_wrF_apart _ _ (by omega) (by omega) (by omega) _

theorem State.setBeatSt_regsOnly (v : Nat) : RegsOnly s (s.setBeatSt v) := (RegsOnly.refl s).wrF ..
theorem State.setUp_regsOnly (p : Option Nat) : RegsOnly s (s.setUp p) := (RegsOnly.refl s).wrF ..

/-- Depth and generation of a marker taken over. -/
def State.follow (s : State) (depth gen : Nat) : State := (s.wrF rBeatStat 28 26 (min 7 (depth + 1))).wrF rBeatStat 19 12 gen

theorem State.follow_regsOnly (depth gen : Nat) : RegsOnly s (s.follow depth gen) := ((RegsOnly.refl s).wrF ..).wrF ..
theorem State.beatSt_follow (depth gen : Nat) : (s.follow depth gen).beatSt = s.beatSt :=
  (State.rdF_wrF_apart _ _ (by omega) (by omega) (by omega) _).trans (State.rdF_wrF_apart _ _ (by omega) (by omega) (by omega) _)
theorem State.upport_follow (depth gen : Nat) : (s.follow depth gen).upport = s.upport :=
  (State.rdF_wrF_apart _ _ (by omega) (by omega) (by omega) _).trans (State.rdF_wrF_apart _ _ (by omega) (by omega) (by omega) _)
theorem State.depth_follow (depth gen : Nat) : (s.follow depth gen).rdF rBeatStat 28 26 = min 7 (depth + 1) := by
  unfold State.follow
  rw [State.rdF_wrF_apart _ _ (by omega) (by omega) (by omega), State.rdF_wrF_same _ _ (by omega) (by omega)]
  omega
theorem State.period_follow (depth gen : Nat) : (s.follow depth gen).periodPs = s.periodPs := by
  unfold State.periodPs State.follow
  rw [State.rdF_wrF_ne _ _ (by decide), State.rdF_wrF_ne _ _ (by decide)]

end Status

/-! ### Correction of the counter (R357, R358) -/

section Correction
variable (s : State)

theorem State.slew_beat (off : Int) : (s.slew off).beat.count = s.beat.count ∧ (s.slew off).beat.hold = s.beat.hold
    ∧ (s.slew off).beat.offsetPs = s.beat.offsetPs ∧ (s.slew off).mem = s.mem := by
  have hset : ∀ (b : Beat) (v : Nat), (State.setBeatSt { s with beat := b } v).beat = b ∧ (State.setBeatSt { s with beat := b } v).mem = s.mem := fun b v =>
    ⟨(State.setBeatSt_regsOnly _ v).beat, (State.setBeatSt_regsOnly _ v).mem⟩
  unfold State.slew
  dsimp only
  generalize (if off.natAbs < 10000 then s.beat.good + 1 else 0) = good
  split
  · obtain ⟨h1, h2⟩ := hset { s.beat with good := if off.natAbs < 10000 then 1 else 0 } 1
    rw [h1, h2]
    exact ⟨rfl, rfl, rfl, rfl⟩
  · split
    · split
      · obtain ⟨h1, h2⟩ := hset { s.beat with good := 0 } 2
        rw [h1, h2]
        exact ⟨rfl, rfl, rfl, rfl⟩
      · exact ⟨rfl, rfl, rfl, rfl⟩
    · obtain ⟨h1, h2⟩ := hset s.beat 2
      exact ⟨congrArg Beat.count h1, congrArg Beat.hold h1, congrArg Beat.offsetPs h1, h2⟩

/-- An offset noted, before the counter is corrected. -/
def State.noteOffset (s : State) (off : Int) : State :=
  let s := s.wr rBeatOffset (BitVec.ofNat 32 (wrap 32 (max (-(2 ^ 31)) (min (2 ^ 31 - 1) off))))
  { s with beat := { s.beat with offsetPs := off } }

theorem State.noteOffset_only (off : Int) : ∃ regs, s.noteOffset off = { s with regs, beat := { s.beat with offsetPs := off } } := ⟨_, rfl⟩

theorem State.rdF_noteOffset (off : Int) {o : Nat} (h : o ≠ rBeatOffset) (hi lo : Nat) : (s.noteOffset off).rdF o hi lo = s.rdF o hi lo :=
  State.rdF_wr_ne _ _ h _ _ _

theorem State.discipline_eq (off : Int) : s.discipline off =
    if off.natAbs < 1000000 then
      State.slew { s.noteOffset off with beat := { (s.noteOffset off).beat with slewing := false } } off
    else if (s.noteOffset off).beat.slewing then (s.noteOffset off).slew off
    else if 0 < off then
      let t := off.toNat + 625 * (s.noteOffset off).beat.phase.toNat
      let per := (s.noteOffset off).periodPs
      State.stepped { s.noteOffset off with beat := { (s.noteOffset off).beat with
        count := (s.noteOffset off).beat.count + BitVec.ofNat 64 (t / per), phase := BitVec.ofNat 16 (t % per / 625), hold := 0 } }
    else State.stepped { s.noteOffset off with beat := { (s.noteOffset off).beat with hold := cdiv off.natAbs (s.noteOffset off).periodPs } } := rfl

/-- Neither a step nor a hold: the counter and its hold stay. -/
theorem State.discipline_slews (off : Int) (h : off.natAbs < 1000000 ∨ s.beat.slewing = true) :
    (s.discipline off).beat.count = s.beat.count ∧ (s.discipline off).beat.hold = s.beat.hold ∧ (s.discipline off).beat.offsetPs = off
    ∧ (s.discipline off).mem = s.mem := by
  obtain ⟨regs, hnote⟩ := s.noteOffset_only off
  rw [s.discipline_eq]
  by_cases hsmall : off.natAbs < 1000000
  · rw [if_pos hsmall]
    obtain ⟨h1, h2, h3, h4⟩ := State.slew_beat { s.noteOffset off with beat := { (s.noteOffset off).beat with slewing := false } } off
    rw [h1, h2, h3, h4, hnote]
    exact ⟨rfl, rfl, rfl, rfl⟩
  · have hslew : (s.noteOffset off).beat.slewing = true := by
      rw [hnote]
      exact h.resolve_left hsmall
    rw [if_neg hsmall, if_pos hslew]
    obtain ⟨h1, h2, h3, h4⟩ := (s.noteOffset off).slew_beat off
    rw [h1, h2, h3, h4, hnote]
    exact ⟨rfl, rfl, rfl, rfl⟩

/-- LOCKED goes on under a small offset. -/
theorem State.discipline_locked (off : Int) (h : off.natAbs < 1000000) (hlocked : s.beatSt = 2) :
    (s.discipline off).beatSt = 2 ∧ (s.discipline off).upport = s.upport ∧ (s.discipline off).rdF rBeatStat 28 26 = s.rdF rBeatStat 28 26
    ∧ (s.discipline off).now = s.now := by
  obtain ⟨regs, hnote⟩ := s.noteOffset_only off
  have hread : ∀ hi lo, State.rdF { s.noteOffset off with beat := { (s.noteOffset off).beat with slewing := false } } rBeatStat hi lo = s.rdF rBeatStat hi lo :=
    s.rdF_noteOffset off (by decide)
  have hnow : State.now { s.noteOffset off with beat := { (s.noteOffset off).beat with slewing := false } } = s.now := by
    rw [hnote]
    rfl
  rw [s.discipline_eq, if_pos h]
  generalize ({ s.noteOffset off with beat := { (s.noteOffset off).beat with slewing := false } } : State) = u at hread hnow ⊢
  have hst : u.beatSt = 2 := (hread ..).trans hlocked
  have hslew : u.slew off = u.setBeatSt 2 := by
    unfold State.slew
    rw [hst]
    rfl
  rw [hslew, State.beatSt_setBeatSt, State.upport_setBeatSt, State.depth_setBeatSt]
  refine ⟨rfl, hread .., hread .., ?_⟩
  rw [← hnow, State.now, (u.setBeatSt_regsOnly 2).beat]
  rfl

/-- A logged step or hold: ACQUIRE, with the step's flag. -/
theorem State.stepped_acquires : s.stepped.beatSt = 1 ∧ s.stepped.rdB rBeatErr 3 = true ∧ s.stepped.beat = { s.beat with good := 0 } := by
  have hset := (s.setBeatSt_regsOnly 1).wrB rBeatErr 3 true
  have hrep := State.event_reported ((s.setBeatSt 1).wrB rBeatErr 3 true) uBeat 0 0 eBeatStep
  have h1 : ((s.setBeatSt 1).wrB rBeatErr 3 true).beatSt = 1 := (State.rdF_wrB_ne _ _ (by decide) ..).trans (s.beatSt_setBeatSt 1)
  have h2 : ((s.setBeatSt 1).wrB rBeatErr 3 true).rdB rBeatErr 3 = true := State.rdB_wrB_same _ _ (by omega) _
  unfold State.stepped
  generalize (s.setBeatSt 1).wrB rBeatErr 3 true = u at hset hrep h1 h2 ⊢
  dsimp only
  generalize u.event uBeat 0 0 eBeatStep = v at hrep ⊢
  refine ⟨(State.rdF_of_regs (s := u) hrep.regs ..).trans h1, (State.rdB_of_regs (s := u) hrep.regs ..).trans h2, ?_⟩
  rw [hrep.beat, hset.beat]

/-- A large offset steps the counter, or holds it. -/
theorem State.discipline_steps (off : Int) (hslew : s.beat.slewing = false) (hbig : 1000000 ≤ off) :
    (s.discipline off).beatSt = 1 ∧ (s.discipline off).rdB rBeatErr 3 = true
    ∧ (s.discipline off).beat.count = s.beat.count + BitVec.ofNat 64 ((off.toNat + 625 * s.beat.phase.toNat) / s.periodPs) := by
  obtain ⟨regs, hnote⟩ := s.noteOffset_only off
  have hper : (s.noteOffset off).periodPs = s.periodPs := by
    unfold State.periodPs
    rw [State.rdF_noteOffset _ _ (by decide)]
  have hbeat : (s.noteOffset off).beat = { s.beat with offsetPs := off } := by rw [hnote]
  rw [s.discipline_eq, if_neg (by omega), if_neg (by rw [hbeat]; exact ne_true_of_eq_false hslew), if_pos (by omega), hper]
  dsimp only
  obtain ⟨h1, h2, h3⟩ := State.stepped_acquires { s.noteOffset off with beat := { (s.noteOffset off).beat with
    count := (s.noteOffset off).beat.count + BitVec.ofNat 64 ((off.toNat + 625 * (s.noteOffset off).beat.phase.toNat) / s.periodPs)
    phase := BitVec.ofNat 16 ((off.toNat + 625 * (s.noteOffset off).beat.phase.toNat) % s.periodPs / 625), hold := 0 } }
  refine ⟨h1, h2, ?_⟩
  rw [h3, hbeat]

theorem State.discipline_holds (off : Int) (hslew : s.beat.slewing = false) (hbig : off ≤ -1000000) :
    (s.discipline off).beatSt = 1 ∧ (s.discipline off).rdB rBeatErr 3 = true ∧ (s.discipline off).beat.count = s.beat.count
    ∧ (s.discipline off).beat.hold = cdiv off.natAbs s.periodPs := by
  obtain ⟨regs, hnote⟩ := s.noteOffset_only off
  have hper : (s.noteOffset off).periodPs = s.periodPs := by
    unfold State.periodPs
    rw [State.rdF_noteOffset _ _ (by decide)]
  have hbeat : (s.noteOffset off).beat = { s.beat with offsetPs := off } := by rw [hnote]
  rw [s.discipline_eq, if_neg (by omega), if_neg (by rw [hbeat]; exact ne_true_of_eq_false hslew), if_neg (by omega), hper]
  obtain ⟨h1, h2, h3⟩ := State.stepped_acquires { s.noteOffset off with beat := { (s.noteOffset off).beat with hold := cdiv off.natAbs s.periodPs } }
  refine ⟨h1, h2, ?_⟩
  rw [h3, hbeat]
  exact ⟨rfl, rfl⟩

end Correction

/-! ### Markers (R354 to R360) -/

theorem State.port_setPort (s : State) (p q : Nat) (x : Port) : (s.setPort p x).port q = if q = p then x else s.port q := tget_tput _ _ _ _ _

theorem newer_self (a : Nat) (h : a < 256) : newer a a = false := by
  unfold newer
  rw [Nat.mod_eq_of_lt h, show (a + 256 - a) % 256 = 0 by omega]
  rfl

theorem State.beatGen_lt (s : State) : s.beatGen < 256 := s.rdF_lt rBeatStat 19 12

section Marker
variable (s : State) (port : Nat)

/-- The offer of a marker kept at its port. -/
def State.keepOffer (bst depth gen : Nat) : State := s.setPort port { s.port port with offer := some (bst, depth, gen, s.now) }

theorem State.keepOffer_only (bst depth gen : Nat) : ∃ fab, s.keepOffer port bst depth gen = { s with fab } := ⟨_, rfl⟩

theorem State.delay_keepOffer (bst depth gen : Nat) : ((s.keepOffer port bst depth gen).port port).delay = (s.port port).delay := by
  rw [State.keepOffer, State.port_setPort_self]

theorem State.offer_keepOffer {bst depth gen : Nat} (hup : s.portUp port = true) (hbst : bst = 2 ∨ bst = 4) :
    (s.keepOffer port bst depth gen).offer port = some (depth, gen) := by
  have hup' : (s.keepOffer port bst depth gen).portUp port = true := by
    rw [← hup, State.portUp, State.keepOffer, State.port_setPort_self]
    rfl
  have hnow : (s.keepOffer port bst depth gen).now.toNat < s.now.toNat + markerBeats := Nat.lt_add_of_pos_right (by decide)
  have hport : ((s.keepOffer port bst depth gen).port port).offer = some (bst, depth, gen, s.now) := by rw [State.keepOffer, State.port_setPort_self]
  unfold State.offer
  rw [hport]
  dsimp only
  rw [hup', if_pos (by simpa [hnow] using hbst)]

/-- A marker of the current generation on the upstream port, as it comes to the correction: the offset is that of the state before. -/
def State.followed (depth bst gen : Nat) : State :=
  let s := s.keepOffer port bst depth gen
  State.follow { s with beat := { s.beat with lastGen := s.now } } depth gen

/-- After the correction the beat of the marker is noted. -/
def State.noteMarker (s : State) : State := { s with beat := { s.beat with lastMarker := s.now, lastGen := s.now } }

theorem State.noteMarker_keeps : s.noteMarker.regs = s.regs ∧ s.noteMarker.mem = s.mem
    ∧ s.noteMarker.beat = { s.beat with lastMarker := s.now, lastGen := s.now } := ⟨rfl, rfl, rfl⟩

/-- The upstream port that a marker leads to. -/
def State.reUp (gen : Nat) (first change : Bool) (up : Nat) : State :=
  if first || change then s.setUp (s.upFor gen) else if (s.offer up).isNone then s.setUp (s.bestUp (fun _ => true)) else s

theorem State.reUp_regsOnly (gen : Nat) (first change : Bool) (up : Nat) : RegsOnly s (s.reUp gen first change up) := by
  unfold State.reUp
  split
  · exact s.setUp_regsOnly _
  · split
    · exact s.setUp_regsOnly _
    · exact .refl s

/-- The beat at which the current generation was last heard. -/
def State.hearGen (gen : Nat) (first : Bool) : State := if first || !newer s.beatGen gen then { s with beat := { s.beat with lastGen := s.now } } else s

/-- The counter follows a marker of its upstream port. -/
def State.obey (port depth gen : Nat) (change : Bool) (beat : W64) (phase : W16) (frac : Int) : State :=
  if s.upport ≠ port then s
  else
    let s := s.follow depth gen
    let s := if change then { s with beat := { s.beat with slewing := true } } else s
    (s.discipline (s.markerOffset port beat phase frac)).noteMarker

/-- What a marker does once its offer is kept. -/
def State.heed (depth bst gen : Nat) (beat : W64) (phase : W16) (frac : Int) : State :=
  if bst ≠ 2 && bst ≠ 4 then s
  else if s.beatSt = 4 && !newer gen s.beatGen then s
  else
    let up := s.upport
    let first := up = 0x3F || s.beatSt = 0 || s.beatSt = 4
    let change := s.beatSt ≠ 0 && newer gen s.beatGen
    ((s.reUp gen first change up).hearGen gen first).obey port depth gen change beat phase frac

theorem State.marker_eq (depth bst gen : Nat) (beat : W64) (phase : W16) (frac : Int) : s.marker port depth bst gen beat phase frac =
    if !s.rdB rBeatCtl 11 || !s.portUp port then s else (s.keepOffer port bst depth gen).heed port depth bst gen beat phase frac := rfl

theorem State.markerOffset_congr {s t : State} (hnow : t.now = s.now) (hper : t.periodPs = s.periodPs) (hphase : t.beat.phase = s.beat.phase)
    (port : Nat) (hdelay : (t.port port).delay = (s.port port).delay) (beat : W64) (phase : W16) (frac : Int) :
    t.markerOffset port beat phase frac = s.markerOffset port beat phase frac := by
  unfold State.markerOffset
  rw [hnow, hper, hphase, hdelay]

variable {s port}

theorem State.marker_follows {depth bst gen : Nat} {beat : W64} {phase : W16} {frac : Int} (hport : port < 52) (hon : s.rdB rBeatCtl 11 = true)
    (hup : s.portUp port = true) (hbst : bst = 2 ∨ bst = 4) (hupport : s.upport = port) (hst : s.beatSt = 2) (hgen : gen = s.beatGen) :
    s.marker port depth bst gen beat phase frac
      = ((s.followed port depth bst gen).discipline ((s.followed port depth bst gen).markerOffset port beat phase frac)).noteMarker := by
  have hoffer := s.offer_keepOffer port (depth := depth) (gen := gen) hup hbst
  obtain ⟨fab, honly⟩ := s.keepOffer_only port bst depth gen
  have hsame : newer gen s.beatGen = false := by rw [hgen]; exact newer_self _ s.beatGen_lt
  have hsame' : newer s.beatGen gen = false := by rw [hgen]; exact newer_self _ s.beatGen_lt
  have h1 : (s.keepOffer port bst depth gen).beatSt = 2 := by rw [honly]; exact hst
  have h2 : (s.keepOffer port bst depth gen).beatGen = s.beatGen := by rw [honly]; rfl
  have h3 : (s.keepOffer port bst depth gen).upport = port := by rw [honly]; exact hupport
  rw [State.marker_eq, if_neg (by simp [hon, hup])]
  unfold State.heed State.followed
  generalize s.keepOffer port bst depth gen = u at hoffer h1 h2 h3 ⊢
  have h4 : State.upport { u with beat := { u.beat with lastGen := u.now } } = port := h3
  dsimp only
  have hfirst : (decide (port = 0x3F) || decide (2 = 0) || decide (2 = 4) : Bool) = false := by simp; omega
  rw [h1, h2, h3, hsame, if_neg (by simp; omega), if_neg (by decide), hfirst, Bool.and_false]
  have hkeep : u.reUp gen false false port = u := by simp [State.reUp, hoffer]
  have hhear : u.hearGen gen false = { u with beat := { u.beat with lastGen := u.now } } := if_pos (by rw [h2, hsame']; rfl)
  rw [hkeep, hhear]
  exact if_neg (by simpa using h4)

theorem State.followed_keeps (depth bst gen : Nat) (hst : s.beatSt = 2) :
    (s.followed port depth bst gen).beatSt = 2 ∧ (s.followed port depth bst gen).upport = s.upport
    ∧ (s.followed port depth bst gen).rdF rBeatStat 28 26 = min 7 (depth + 1) ∧ (s.followed port depth bst gen).beat = { s.beat with lastGen := s.now }
    ∧ (s.followed port depth bst gen).mem = s.mem ∧ (s.followed port depth bst gen).periodPs = s.periodPs
    ∧ ∀ beat phase frac, (s.followed port depth bst gen).markerOffset port beat phase frac = s.markerOffset port beat phase frac := by
  obtain ⟨fab, honly⟩ := s.keepOffer_only port bst depth gen
  have hdelay := s.delay_keepOffer port bst depth gen
  unfold State.followed
  dsimp only
  generalize s.keepOffer port bst depth gen = u at honly hdelay ⊢
  have hf := State.follow_regsOnly { u with beat := { u.beat with lastGen := u.now } } depth gen
  have hper := State.period_follow { u with beat := { u.beat with lastGen := u.now } } depth gen
  generalize hv : ({ u with beat := { u.beat with lastGen := u.now } } : State) = v at hf hper ⊢
  have hread : ∀ o hi lo, v.rdF o hi lo = s.rdF o hi lo := State.rdF_of_regs (by rw [← hv, honly])
  have hbeat : v.beat = { s.beat with lastGen := s.now } := by
    rw [← hv, honly]
    rfl
  have hport : (v.port port).delay = (s.port port).delay := by
    rw [← hdelay, ← hv]
    rfl
  refine ⟨(v.beatSt_follow ..).trans ((hread ..).trans hst), (v.upport_follow ..).trans (hread ..), v.depth_follow .., hf.beat.trans hbeat, ?_,
    hper.trans ?_, State.markerOffset_congr ?_ (hper.trans ?_) ?_ port ?_⟩
  · rw [hf.mem, ← hv, honly]
  · rw [State.periodPs, hread, State.periodPs]
  · rw [State.now, hf.beat, hbeat]
    rfl
  · rw [State.periodPs, hread, State.periodPs]
  · rw [hf.beat, hbeat]
  · rw [State.port, hf.fab]
    exact hport

theorem marker_locked {depth bst : BitVec 3} {gen : BitVec 8} {beat : W64} {phase : W16} {frac : Int} (hport : port < 52)
    (hon : s.rdB rBeatCtl 11 = true) (hup : s.portUp port = true) (hbst : bst = 2 ∨ bst = 4) (hupport : s.upport = port) (hst : s.beatSt = 2)
    (hgen : gen.toNat = s.beatGen) (hoff : (s.markerOffset port beat phase frac).natAbs < 1000000) :
    ∃ t, exec (.marker port depth bst gen beat phase frac) s = .next t ∧ t.beat.count = s.beat.count ∧ t.beatSt = 2 ∧ t.upport = port
      ∧ t.rdF rBeatStat 28 26 = min 7 (depth.toNat + 1) ∧ t.beat.lastMarker = s.now ∧ t.beat.offsetPs = s.markerOffset port beat phase frac
      ∧ t.mem = s.mem := by
  have hbst' : bst.toNat = 2 ∨ bst.toNat = 4 := hbst.imp (congrArg BitVec.toNat) (congrArg BitVec.toNat)
  have hrun : exec (.marker port depth bst gen beat phase frac) s = .next _ :=
    congrArg Host.Outcome.next (State.marker_follows (depth := depth.toNat) (beat := beat) (phase := phase) (frac := frac) hport hon hup hbst' hupport hst hgen)
  obtain ⟨h1, h2, h3, h4, h5, -, h7⟩ := State.followed_keeps (s := s) (port := port) depth.toNat bst.toNat gen.toNat hst
  rw [h7] at hrun
  generalize s.followed port depth.toNat bst.toNat gen.toNat = u at hrun h1 h2 h3 h4 h5
  generalize s.markerOffset port beat phase frac = off at hrun hoff ⊢
  obtain ⟨hl1, hl2, hl3, hl4⟩ := u.discipline_locked off hoff h1
  obtain ⟨hs1, -, hs3, hs4⟩ := u.discipline_slews off (.inl hoff)
  generalize u.discipline off = v at hrun hl1 hl2 hl3 hl4 hs1 hs3 hs4
  obtain ⟨hregs, hmem, hbeat⟩ := v.noteMarker_keeps
  refine ⟨_, hrun, ?_, (State.rdF_of_regs hregs ..).trans hl1, ((State.rdF_of_regs hregs ..).trans hl2).trans (h2.trans hupport),
    ((State.rdF_of_regs hregs ..).trans hl3).trans h3, ?_, ?_, hmem.trans (hs4.trans h5)⟩
  · rw [hbeat]
    exact hs1.trans (by rw [h4])
  · rw [hbeat]
    exact hl4.trans (by rw [State.now, h4]; rfl)
  · rw [hbeat]
    exact hs3

/-- A marker on the upstream port whose offset steps or holds the counter. -/
theorem marker_acquires {depth bst : BitVec 3} {gen : BitVec 8} {beat : W64} {phase : W16} {frac : Int} (hport : port < 52)
    (hon : s.rdB rBeatCtl 11 = true) (hup : s.portUp port = true) (hbst : bst = 2 ∨ bst = 4) (hupport : s.upport = port) (hst : s.beatSt = 2)
    (hgen : gen.toNat = s.beatGen) (hslew : s.beat.slewing = false) :
    (1000000 ≤ s.markerOffset port beat phase frac → ∃ t, exec (.marker port depth bst gen beat phase frac) s = .next t ∧ t.beatSt = 1
      ∧ t.rdB rBeatErr 3 = true ∧ t.beat.count = s.beat.count
        + BitVec.ofNat 64 (((s.markerOffset port beat phase frac).toNat + 625 * s.beat.phase.toNat) / s.periodPs))
    ∧ (s.markerOffset port beat phase frac ≤ -1000000 → ∃ t, exec (.marker port depth bst gen beat phase frac) s = .next t ∧ t.beatSt = 1
      ∧ t.rdB rBeatErr 3 = true ∧ t.beat.count = s.beat.count ∧ t.beat.hold = cdiv (s.markerOffset port beat phase frac).natAbs s.periodPs) := by
  have hbst' : bst.toNat = 2 ∨ bst.toNat = 4 := hbst.imp (congrArg BitVec.toNat) (congrArg BitVec.toNat)
  have hrun : exec (.marker port depth bst gen beat phase frac) s = .next _ :=
    congrArg Host.Outcome.next (State.marker_follows (depth := depth.toNat) (beat := beat) (phase := phase) (frac := frac) hport hon hup hbst' hupport hst hgen)
  obtain ⟨-, -, -, h4, -, h6, h7⟩ := State.followed_keeps (s := s) (port := port) depth.toNat bst.toNat gen.toNat hst
  rw [h7] at hrun
  generalize s.followed port depth.toNat bst.toNat gen.toNat = u at hrun h4 h6
  generalize s.markerOffset port beat phase frac = off at hrun ⊢
  have hslew' : u.beat.slewing = false := by rw [h4]; exact hslew
  obtain ⟨hregs, -, hbeat⟩ := (u.discipline off).noteMarker_keeps
  refine ⟨fun hbig => ?_, fun hbig => ?_⟩
  · obtain ⟨hl1, hl2, hl3⟩ := u.discipline_steps off hslew' hbig
    refine ⟨_, hrun, (State.rdF_of_regs hregs ..).trans hl1, (State.rdB_of_regs hregs ..).trans hl2, ?_⟩
    rw [hbeat]
    exact hl3.trans (by rw [h4, h6])
  · obtain ⟨hl1, hl2, hl3, hl4⟩ := u.discipline_holds off hslew' hbig
    refine ⟨_, hrun, (State.rdF_of_regs hregs ..).trans hl1, (State.rdB_of_regs hregs ..).trans hl2, ?_, ?_⟩
    · rw [hbeat]
      exact hl3.trans (by rw [h4])
    · rw [hbeat]
      exact hl4.trans (by rw [h6])

/-- Counter and hold stay. -/
def CountKept (s t : State) : Prop := t.beat.count = s.beat.count ∧ t.beat.hold = s.beat.hold

theorem CountKept.of_beat {s t : State} (h : t.beat = s.beat) : CountKept s t := ⟨by rw [h], by rw [h]⟩

theorem CountKept.trans {s t u : State} (h : CountKept s t) (h' : CountKept t u) : CountKept s u := ⟨h'.1.trans h.1, h'.2.trans h.2⟩

theorem State.hearGen_kept (s : State) (gen : Nat) (first : Bool) : CountKept s (s.hearGen gen first) := by
  unfold State.hearGen
  split
  · exact ⟨rfl, rfl⟩
  · exact ⟨rfl, rfl⟩

theorem State.obey_kept (s : State) (port depth gen : Nat) (beat : W64) (phase : W16) (frac : Int) :
    CountKept s (s.obey port depth gen true beat phase frac) := by
  unfold State.obey
  split
  · exact .of_beat rfl
  · simp only [if_true]
    have h1 := s.follow_regsOnly depth gen
    generalize s.follow depth gen = w at h1 ⊢
    have h2 : CountKept w { w with beat := { w.beat with slewing := true } } := ⟨rfl, rfl⟩
    have h3 : State.beat { w with beat := { w.beat with slewing := true } } = { w.beat with slewing := true } := rfl
    generalize ({ w with beat := { w.beat with slewing := true } } : State) = v at h2 h3 ⊢
    obtain ⟨h4, h5, -, -⟩ := v.discipline_slews (v.markerOffset port beat phase frac) (.inr (by rw [h3]))
    obtain ⟨-, -, h6⟩ := (v.discipline (v.markerOffset port beat phase frac)).noteMarker_keeps
    exact ((CountKept.of_beat h1.beat).trans h2).trans (CountKept.trans ⟨h4, h5⟩ ⟨by rw [h6], by rw [h6]⟩)

/-- A newer generation slews, whatever the offset (R360). -/
theorem State.heed_newer (s : State) (port depth bst gen : Nat) (beat : W64) (phase : W16) (frac : Int) (hst : s.beatSt ≠ 0)
    (hnew : newer gen s.beatGen = true) : CountKept s (s.heed port depth bst gen beat phase frac) := by
  have hchange : (decide (s.beatSt ≠ 0) && newer gen s.beatGen) = true := by simp [hst, hnew]
  unfold State.heed
  split
  · exact .of_beat rfl
  split
  · exact .of_beat rfl
  · dsimp only
    rw [hchange]
    exact ((CountKept.of_beat (s.reUp_regsOnly ..).beat).trans (State.hearGen_kept ..)).trans (State.obey_kept ..)

theorem marker_newer {depth bst : BitVec 3} {gen : BitVec 8} {beat : W64} {phase : W16} {frac : Int} (hst : s.beatSt ≠ 0)
    (hnew : newer gen.toNat s.beatGen = true) : ∃ t, exec (.marker port depth bst gen beat phase frac) s = .next t ∧ t.beat.count = s.beat.count
      ∧ t.beat.hold = s.beat.hold := by
  refine ⟨_, rfl, ?_⟩
  change CountKept s (s.marker port depth.toNat bst.toNat gen.toNat beat phase frac)
  rw [State.marker_eq]
  split
  · exact .of_beat rfl
  · obtain ⟨fab, honly⟩ := s.keepOffer_only port bst.toNat depth.toNat gen.toNat
    refine .trans (.of_beat (by rw [honly])) (State.heed_newer _ _ _ _ _ _ _ _ ?_ ?_)
    · rw [honly]; exact hst
    · rw [honly]; exact hnew

theorem marker_ignored {depth bst : BitVec 3} {gen : BitVec 8} {beat : W64} {phase : W16} {frac : Int}
    (h : s.rdB rBeatCtl 11 = false ∨ s.portUp port = false) : exec (.marker port depth bst gen beat phase frac) s = .next s :=
  congrArg Host.Outcome.next ((s.marker_eq ..).trans (if_pos (by simpa using h)))

end Marker

/-! ### Timing flits sent (R354, R355, R430) -/

/-- t is s but for the fabric. -/
def FabOnly (s t : State) : Prop := ∃ fab, t = { s with fab }

namespace FabOnly
variable {s t u : State}

theorem refl (s : State) : FabOnly s s := ⟨_, rfl⟩

theorem trans (h : FabOnly s t) (h' : FabOnly t u) : FabOnly s u := by
  obtain ⟨_, rfl⟩ := h
  obtain ⟨_, rfl⟩ := h'
  exact ⟨_, rfl⟩

theorem foldl {α : Type} {f : State → α → State} (h : ∀ s a, FabOnly s (f s a)) (l : List α) (s : State) : FabOnly s (l.foldl f s) := by
  induction l generalizing s with
  | nil => exact .refl s
  | cons a l ih => exact (h s a).trans (ih _)

theorem only (h : FabOnly s t) : t = { s with fab := t.fab } := by
  obtain ⟨_, rfl⟩ := h
  rfl

end FabOnly

/-- A fold over different ports that changes each in turn, by what the port holds. -/
theorem State.port_foldl {f : State → Nat → State} {g : Nat → Port → Port} (h : ∀ s p q, (f s p).port q = if q = p then g p (s.port p) else s.port q)
    {l : List Nat} (hl : l.Nodup) (s : State) (q : Nat) : (l.foldl f s).port q = if q ∈ l then g q (s.port q) else s.port q := by
  induction l generalizing s with
  | nil => rfl
  | cons p l ih =>
    obtain ⟨hp, hl⟩ := List.nodup_cons.mp hl
    rw [List.foldl_cons, ih hl, h]
    by_cases hqp : q = p
    · subst hqp
      rw [if_neg hp, if_pos rfl, if_pos (.head _)]
    · rw [if_neg hqp]
      exact if_congr (by simp [hqp]) rfl rfl

theorem State.port_sendTiming (s : State) (p q : Nat) (f : Nat × W64 × W64) :
    (s.sendTiming p f).port q = if q = p then { s.port p with timingOut := (s.port p).timingOut ++ [f] } else s.port q := s.port_setPort ..

theorem State.mem_upPorts {s : State} {p : Nat} : p ∈ s.upPorts ↔ p < 52 ∧ s.portUp p = true := by simp [State.upPorts]

theorem State.upPorts_nodup (s : State) : s.upPorts.Nodup := List.nodup_range.filter _

/-- The markers of one send, by the time of the first: sending moves no clock. -/
theorem State.foldl_sendTiming (w : Nat) (b : Beat) (l : List Nat) (s : State) (h : s.beat = b) :
    l.foldl (fun s p => s.sendTiming p (w, s.now, s.beat.phase.setWidth 64)) s = l.foldl (fun s p => s.sendTiming p (w, b.count, b.phase.setWidth 64)) s := by
  induction l generalizing s with
  | nil => rfl
  | cons p l ih =>
    rw [List.foldl_cons, List.foldl_cons, State.now, h]
    exact ih _ h

section Sending
variable {s : State}

theorem markerSend_sends (hon : s.rdB rBeatCtl 11 = true) (hst : s.beatSt = 2 ∨ s.beatSt = 4)
    (hdue : ∀ b, s.beat.markersAt = some b → b.toNat + 16 ≤ s.now.toNat) : ∃ t, exec .markerSend s = .next t
      ∧ (∀ p < 52, s.portUp p = true → (t.port p).timingOut = (s.port p).timingOut
        ++ [(2 + 2 ^ 8 * (s.rdF rBeatStat 28 26 + 8 * s.beatSt) + 2 ^ 16 * s.beatGen, s.now, s.beat.phase.setWidth 64)])
      ∧ t = { s with fab := t.fab, beat := { s.beat with markersAt := some s.now } } := by
  have hall : s.beat.markersAt.all (fun b => decide (b.toNat + 16 ≤ s.now.toNat)) = true := by
    cases h : s.beat.markersAt with
    | none => rfl
    | some b => simpa using hdue b h
  generalize hf : (2 + 2 ^ 8 * (s.rdF rBeatStat 28 26 + 8 * s.beatSt) + 2 ^ 16 * s.beatGen, s.now, s.beat.phase.setWidth 64) = f
  have hrun : exec .markerSend s = .next (s.upPorts.foldl (fun s p => s.sendTiming p f) { s with beat := { s.beat with markersAt := some s.now } }) := by
    rw [← hf, exec_markerSend, execMarkerSend]
    dsimp only
    rw [if_pos (by simpa [hon, hall] using hst), State.foldl_sendTiming _ _ _ _ rfl]
    rfl
  refine ⟨_, hrun, fun p hp hup => ?_, ?_⟩
  · rw [State.port_foldl (g := fun _ x => { x with timingOut := x.timingOut ++ [f] }) (fun s p q => s.port_sendTiming p q f) s.upPorts_nodup,
      if_pos (State.mem_upPorts.mpr ⟨hp, hup⟩)]
    rfl
  · exact (FabOnly.foldl (fun s p => ⟨_, rfl⟩) _ _).only

theorem markerSend_waits {b : W64} (hb : s.beat.markersAt = some b) (h : s.now.toNat < b.toNat + 16) : exec .markerSend s = .next s :=
  congrArg Host.Outcome.next (if_neg (by simp [hb]; omega))

theorem markerSend_quiet (h2 : s.beatSt ≠ 2) (h4 : s.beatSt ≠ 4) : exec .markerSend s = .next s :=
  congrArg Host.Outcome.next (if_neg (by simp [h2, h4]))

/-- The identifier of a port's next delay request. -/
def Port.nextReq (x : Port) : Nat := ((x.dreq.map (·.1)).getD 0 + 1) % 256

/-- A delay request goes out on a port. -/
def State.sendReq (s : State) (t1 : BitVec 48) (p : Nat) : State :=
  (s.setPort p { s.port p with dreq := some ((s.port p).nextReq, t1), measured := some s.now }).sendTiming p
    (3 + 2 ^ 8 * (s.port p).nextReq, t1.setWidth 64, 0)

theorem State.port_sendReq (s : State) (t1 : BitVec 48) (p q : Nat) (hq : q ≠ p) : (s.sendReq t1 p).port q = s.port q := by
  rw [State.sendReq, State.port_sendTiming, if_neg hq, State.port_setPort, if_neg hq]

theorem State.dreq_sendReq (s : State) (t1 : BitVec 48) (p : Nat) : ((s.sendReq t1 p).port p).dreq = some ((s.port p).nextReq, t1) := by
  rw [State.sendReq, State.port_sendTiming, if_pos rfl, State.port_setPort, if_pos rfl]

theorem State.dreq_foldl_sendReq (t1 : BitVec 48) (l : List Nat) (s : State) (p : Nat) (h : p ∈ l ∨ ∃ id, (s.port p).dreq = some (id, t1)) :
    ∃ id, ((l.foldl (fun s p => s.sendReq t1 p) s).port p).dreq = some (id, t1) := by
  induction l generalizing s with
  | nil => exact h.resolve_left nofun
  | cons q l ih =>
    refine ih _ ?_
    by_cases hq : p = q
    · subst hq
      exact .inr ⟨_, s.dreq_sendReq t1 p⟩
    · obtain hmem | hreq := h
      · exact .inl ((List.mem_cons.mp hmem).resolve_left hq)
      · rw [s.port_sendReq t1 q p hq]
        exact .inr hreq

theorem delayExchange_sends (t1 : BitVec 48) : ∃ t, exec (.delayExchange t1) s = .next t ∧ (∀ p < 52, s.portUp p = true →
      (∀ b, (s.port p).measured = some b → b.toNat + 1024 ≤ s.now.toNat) → ∃ id, (t.port p).dreq = some (id, t1)) ∧ t = { s with fab := t.fab } := by
  refine ⟨(s.upPorts.filter (fun p => (s.port p).measured.all (fun b => decide (b.toNat + 1024 ≤ s.now.toNat)))).foldl (fun s p => s.sendReq t1 p) s,
    rfl, fun p hp hup hdue => State.dreq_foldl_sendReq t1 _ s p (.inl ?_), (FabOnly.foldl (fun s p => ⟨_, rfl⟩) _ _).only⟩
  refine List.mem_filter.mpr ⟨State.mem_upPorts.mpr ⟨hp, hup⟩, ?_⟩
  cases h : (s.port p).measured with
  | none => rfl
  | some b => simpa using hdue b h

theorem dreq_answered {port : Nat} (id : BitVec 8) (t1 t2 t3 : BitVec 48) (hup : s.portUp port = true) :
    exec (.dreq port id t1 t2 t3) s = .next (s.sendTiming port (4 + 2 ^ 8 * id.toNat, t2.setWidth 64, t3.setWidth 64)) :=
  congrArg Host.Outcome.next (if_pos hup)

theorem dresp_measures {port : Nat} (id : BitVec 8) (t1 t2 t3 t4 : BitVec 48) (h : (s.port port).dreq = some (id.toNat, t1)) :
    exec (.dresp port id t2 t3 t4) s = .next (s.setPort port { s.port port with delay := ((t4 - t1) - (t3 - t2)).toNat / 2 }) := by
  rw [exec_dresp, execDresp]
  split
  · next n t heq =>
    obtain ⟨rfl, rfl⟩ := Prod.mk.inj (Option.some.inj (h.symm.trans heq))
    exact congrArg Host.Outcome.next (if_pos rfl)
  · next heq => cases h.symm.trans heq

end Sending

/-! ### Loss, holdover and the backup master (R358 to R360) -/

/-- A port chosen as upstream is one that may be. -/
theorem State.bestUp_some (s : State) (ok : Nat → Bool) {p : Nat} (h : s.bestUp ok = some p) : ok p = true ∧ p < 52 := by
  have hfold : ∀ (l : List Nat) (best : Option Nat), (∀ q, best = some q → ok q = true ∧ q < 52) → (∀ q ∈ l, q < 52) →
      ∀ q, l.foldl (fun best p =>
        match (if ok p then s.offer p else none), best with
        | none, _ => best
        | some _, none => some p
        | some x, some q => if ((s.offer q).map (fun y => betterOffer y x)).getD true then some p else best) best = some q → ok q = true ∧ q < 52 := by
    intro l
    induction l with
    | nil => exact fun best hbest _ q hq => hbest q hq
    | cons p l ih =>
      intro best hbest hl q hq
      refine ih _ (fun r hr => ?_) (fun r hr => hl r (.tail _ hr)) q hq
      have hp := hl p (.head _)
      dsimp only at hr
      by_cases hok : ok p = true
      · have hself : ∀ r, some p = some r → ok r = true ∧ r < 52 := fun r hr => Option.some.inj hr ▸ ⟨hok, hp⟩
        split at hr
        · exact hbest r hr
        · exact hself r hr
        · split at hr
          · exact hself r hr
          · exact hbest r hr
      · rw [if_neg hok] at hr
        exact hbest r hr
  exact hfold (List.range 52) none nofun (fun q hq => List.mem_range.mp hq) p h

section Loss
variable {s : State}

theorem markerLoss_holds (hst : s.beatSt = 2) (hold : s.beat.lastMarker.toNat + 64 ≤ s.now.toNat) : ∃ t, exec .markerLoss s = .next t ∧ t.beatSt = 3
    ∧ (t.upport ≠ s.upport ∨ t.upport = 0x3F) ∧ t = { s with regs := t.regs } := by
  have hbest := fun p => s.bestUp_some (fun p => p ≠ s.upport) (p := p)
  refine ⟨s.toHoldover, congrArg Host.Outcome.next (if_pos (by simp [hst, markerBeats, hold])), ?_, ?_, ?_⟩
  · exact (State.beatSt_setUp ..).trans (s.beatSt_setBeatSt 3)
  · have hup : s.toHoldover.upport = (s.bestUp (fun p => p ≠ s.upport)).getD 0x3F % 64 := by
      unfold State.toHoldover
      exact State.upport_setUp ..
    rw [hup]
    cases hb : s.bestUp (fun p => p ≠ s.upport) with
    | none => exact .inr rfl
    | some p =>
      obtain ⟨hne, hlt⟩ := hbest p hb
      have hne' : p ≠ s.upport := by simpa using hne
      exact .inl (by rw [Option.getD_some, Nat.mod_eq_of_lt (by omega)]; exact hne')
  · exact ((s.setBeatSt_regsOnly 3).trans (State.setUp_regsOnly ..)).only

theorem holdoverExpiry_unlocks (hst : s.beatSt = 3) : ∃ t, exec .holdoverExpiry s = .next t ∧ t.beatSt = 0 ∧ t.upport = 0x3F
    ∧ t.rdB rBeatErr 4 = true ∧ t.beat = s.beat := by
  refine ⟨_, congrArg Host.Outcome.next (if_pos hst), ?_⟩
  have hregs := ((((s.setBeatSt_regsOnly 0).trans (State.setUp_regsOnly _ none)).wrF rBeatStat 28 26 7).wrB rBeatErr 4 true)
  have h1 : ((((s.setBeatSt 0).setUp none).wrF rBeatStat 28 26 7).wrB rBeatErr 4 true).beatSt = 0 := by
    unfold State.beatSt
    rw [State.rdF_wrB_ne _ _ (by decide), State.rdF_wrF_apart _ _ (by omega) (by omega) (by omega)]
    exact (State.beatSt_setUp ..).trans (s.beatSt_setBeatSt 0)
  have h2 : ((((s.setBeatSt 0).setUp none).wrF rBeatStat 28 26 7).wrB rBeatErr 4 true).upport = 0x3F := by
    unfold State.upport
    rw [State.rdF_wrB_ne _ _ (by decide), State.rdF_wrF_apart _ _ (by omega) (by omega) (by omega)]
    exact State.upport_setUp ..
  have h3 : ((((s.setBeatSt 0).setUp none).wrF rBeatStat 28 26 7).wrB rBeatErr 4 true).rdB rBeatErr 4 = true := State.rdB_wrB_same _ _ (by omega) _
  generalize (((s.setBeatSt 0).setUp none).wrF rBeatStat 28 26 7).wrB rBeatErr 4 true = u at hregs h1 h2 h3 ⊢
  have hrep := u.event_reported uBeat 0 0 eBeatLost
  exact ⟨(State.rdF_of_regs (s := u) hrep.regs ..).trans h1, (State.rdF_of_regs (s := u) hrep.regs ..).trans h2, (State.rdB_of_regs (s := u) hrep.regs ..).trans h3, hrep.beat.trans hregs.beat⟩

theorem holdoverExpiry_quiet (hst : s.beatSt ≠ 3) : exec .holdoverExpiry s = .next s := congrArg Host.Outcome.next (if_neg hst)

theorem State.master_masters (s : State) : s.master.beatSt = 4 ∧ s.master.upport = 0x3F ∧ s.master.rdF rBeatStat 28 26 = 0 ∧ RegsOnly s s.master := by
  refine ⟨?_, ?_, State.rdF_wrF_same _ _ (by omega) (by omega) _, ((s.setBeatSt_regsOnly 4).trans (State.setUp_regsOnly _ none)).wrF ..⟩
  · exact (State.rdF_wrF_apart _ _ (by omega) (by omega) (by omega) _).trans ((State.beatSt_setUp ..).trans (s.beatSt_setBeatSt 4))
  · exact (State.rdF_wrF_apart _ _ (by omega) (by omega) (by omega) _).trans (State.upport_setUp ..)

/-- A change of master: the reports of the earlier one no longer count (R600). -/
def State.forgetSites (s : State) : State := { s with pwr := { s.pwr with asserted := [], lastSched := none } }

theorem State.forgetSites_keeps (s : State) : s.forgetSites.regs = s.regs ∧ s.forgetSites.beat = s.beat := ⟨rfl, rfl⟩

theorem backupMaster_takes (hrole : s.rdF rBeatCtl 31 30 = 2) (hon : s.rdB rBeatCtl 11 = true) (hst : s.beatSt ≠ 4)
    (hlate : s.beat.lastGen.toNat + max 1 (s.rdF rBeatCtl 19 12) ≤ s.now.toNat) : ∃ t, exec .backupMasterTakeover s = .next t ∧ t.beatSt = 4
      ∧ t.upport = 0x3F ∧ t.rdF rBeatStat 28 26 = 0 ∧ t.beatGen = (s.beatGen + 1) % 256 ∧ t.beat = s.beat := by
  obtain ⟨h1, h2, h3, hregs⟩ := s.master_masters
  have hrun : exec .backupMasterTakeover s = .next (s.master.wrF rBeatStat 19 12 (s.beatGen + 1)).forgetSites := by
    rw [exec_backupMasterTakeover, execBackupMasterTakeover]
    exact congrArg Host.Outcome.next (if_pos (by simp [hrole, hon, hst, hlate]))
  generalize s.master = u at hrun h1 h2 h3 hregs
  have hregs' : RegsOnly s (u.wrF rBeatStat 19 12 (s.beatGen + 1)) := hregs.wrF ..
  have h4 : (u.wrF rBeatStat 19 12 (s.beatGen + 1)).beatSt = 4 := (State.rdF_wrF_apart _ _ (by omega) (by omega) (by omega) _).trans h1
  have h5 : (u.wrF rBeatStat 19 12 (s.beatGen + 1)).upport = 0x3F := (State.rdF_wrF_apart _ _ (by omega) (by omega) (by omega) _).trans h2
  have h6 : (u.wrF rBeatStat 19 12 (s.beatGen + 1)).rdF rBeatStat 28 26 = 0 := (State.rdF_wrF_apart _ _ (by omega) (by omega) (by omega) _).trans h3
  have h7 : (u.wrF rBeatStat 19 12 (s.beatGen + 1)).beatGen = (s.beatGen + 1) % 256 := State.rdF_wrF_same _ _ (by omega) (by omega) _
  generalize u.wrF rBeatStat 19 12 (s.beatGen + 1) = v at hrun hregs' h4 h5 h6 h7
  obtain ⟨hr, hb⟩ := v.forgetSites_keeps
  exact ⟨_, hrun, (State.rdF_of_regs hr ..).trans h4, (State.rdF_of_regs hr ..).trans h5, (State.rdF_of_regs hr ..).trans h6, (State.rdF_of_regs hr ..).trans h7,
    hb.trans hregs'.beat⟩

theorem backupMaster_quiet (hrole : s.rdF rBeatCtl 31 30 ≠ 2) : exec .backupMasterTakeover s = .next s :=
  congrArg Host.Outcome.next (if_neg (by simp [hrole]))

/-! ### Registers with effects (R352, R394 to R398) -/

theorem beatPeriodWrite_ignored (v : W32) (hst : s.beatSt ≠ 0) : exec (.beatPeriodWrite v) s = .next s := congrArg Host.Outcome.next (if_neg hst)

theorem beatPeriodWrite_taken (v : W32) (hst : s.beatSt = 0) :
    exec (.beatPeriodWrite v) s = .next { s with beat := { s.beat with nextPeriod := some (max 32 (min 2000 (bf v 10 0))) } } :=
  congrArg Host.Outcome.next (if_pos hst)

theorem beatCount_captured (s : State) : ∃ t, exec .beatCountCapture s = .next t ∧ t.resp = leBytes 4 (s.now.toNat % 2 ^ 32)
    ∧ t.beat.hi.toNat = s.now.toNat / 2 ^ 32 ∧ t = { s with beat := { s.beat with hi := t.beat.hi }, resp := t.resp } := by
  refine ⟨_, rfl, rfl, ?_, rfl⟩
  have := s.now.isLt
  exact (BitVec.toNat_ofNat ..).trans (Nat.mod_eq_of_lt (by omega))

theorem beatErr_read (s : State) : ∃ t, exec .beatErrRead s = .next t ∧ t.resp = leBytes 4 (s.rd rBeatErr).toNat ∧ t.rdF rBeatErr 31 24 = 0
    ∧ t.rdF rBeatErr 23 0 = s.rdF rBeatErr 23 0 ∧ t = { s with regs := t.regs, resp := t.resp } :=
  ⟨_, rfl, rfl, State.rdF_wrF_same s _ (by omega) (by omega) _, State.rdF_wrF_apart s _ (by omega) (by omega) (by omega) _, rfl⟩

/-- Bytes within a number, little-endian. -/
theorem leAt_leBytes_sub (n v off k : Nat) (h : off + k ≤ n) : leAt (leBytes n v) off k = v / 256 ^ off % 256 ^ k := by
  induction off generalizing n v with
  | zero =>
    induction k generalizing n v with
    | zero => simp [leAt, leNat, Nat.mod_one]
    | succ k ih =>
      obtain ⟨n, rfl⟩ := Nat.exists_eq_add_of_lt (show 0 < n by omega)
      have hk := ih (n := 0 + n) (v := v / 256) (by omega)
      simp only [leAt, List.drop_zero] at hk
      simp only [leAt, leBytes, List.drop_zero, List.take_succ_cons, leNat, hk]
      have hsplit : v % 256 ^ (k + 1) = v % 256 + 256 * (v / 256 % 256 ^ k) := by rw [Nat.pow_succ', Nat.mod_mul]
      rw [BitVec.toNat_ofNat, pow_zero, Nat.div_one, Nat.div_one, hsplit]
  | succ off ih =>
    obtain ⟨n, rfl⟩ := Nat.exists_eq_add_of_lt (show 0 < n by omega)
    have := ih (n := 0 + n) (v := v / 256) (by omega)
    rw [Nat.pow_succ', ← Nat.div_div_eq_div_mul, ← this]
    rfl

theorem latStat_read (s : State) : ∃ t, exec .latStatRead s = .next t ∧ leAt t.resp 2 2 = s.rdF rLatStat 31 16
    ∧ leAt t.resp 0 2 % 512 = min 256 s.releases.length ∧ t.rdF rLatStat 31 16 = 0 ∧ t = { s with regs := t.regs, resp := t.resp } := by
  refine ⟨_, rfl, ?_, ?_, State.rdF_wrF_same s _ (by omega) (by omega) _, rfl⟩
  · refine (leAt_leBytes_sub 4 _ 2 2 (by omega)).trans ?_
    have := bf_bfSet_apart (n := 32) (hi := 8) (lo := 0) (by omega) (by omega) (s.rd rLatStat) (min 256 s.releases.length) (hi' := 31) (lo' := 16) (by omega)
    simpa [State.rdF, bf, Nat.shiftRight_eq_div_pow] using this
  · have hsame := bf_bfSet_same (n := 32) (hi := 8) (lo := 0) (by omega) (by omega) (s.rd rLatStat) (min 256 s.releases.length)
    have hsub := leAt_leBytes_sub 4 (bfSet (s.rd rLatStat) 8 0 (min 256 s.releases.length)).toNat 0 2 (by omega)
    have hmin : min 256 s.releases.length ≤ 256 := min_le_left ..
    simp only [bf, Nat.shiftRight_eq_div_pow] at hsame
    refine (congrArg (· % 512) hsub).trans ?_
    omega

end Loss

/-! ### A beat edge (R351 to R353, R372) -/

/-- A response stands in its channel, whether or not the channel then closes (R522, R550). -/
theorem State.respond_replies (s : State) {c : Nat} (hc : c < 36) (code : Nat) (tag : W32) (status : W16) (body : List Byte) :
    ((s.respond c code tag status body).chan c).done = true ∧ ((s.respond c code tag status body).chan c).busy = false
      ∧ ((s.respond c code tag status body).chan c).resp = (s.chan c).reply code tag status body := by
  have hreply : (s.withReply c code tag status body).chan c = (s.chan c).replied code tag status body := s.chan_setChan_self c _
  have hirq : ∀ u, (∃ irqs, u = { s.withReply c code tag status body with host := { (s.withReply c code tag status body).host with irqs } }) →
      u.chan c = (s.chan c).replied code tag status body := by
    rintro u ⟨irqs, rfl⟩
    exact hreply
  have hlast : ∀ u : State, u.chan c = (s.chan c).replied code tag status body →
      ((if (s.chan c).busy && (s.chan c).closing then u.closeChan c else u).chan c).done = true
      ∧ ((if (s.chan c).busy && (s.chan c).closing then u.closeChan c else u).chan c).busy = false
      ∧ ((if (s.chan c).busy && (s.chan c).closing then u.closeChan c else u).chan c).resp = (s.chan c).reply code tag status body := by
    intro u hu
    split
    · rw [State.chan_closeChan, if_pos rfl, hu]
      exact ⟨rfl, rfl, rfl⟩
    · rw [hu]
      exact ⟨rfl, rfl, rfl⟩
  have hrun : s.respond c code tag status body =
      let u := if c < 32 && s.rdB (rMbxCtl c) 0 then (s.withReply c code tag status body).irq (s.rdF (rMbxCtl c) 13 8) else s.withReply c code tag status body
      if (s.chan c).busy && (s.chan c).closing then u.closeChan c else u := if_neg (Nat.not_le.mpr hc)
  rw [hrun]
  refine hlast _ (hirq _ ?_)
  split
  · exact State.irq_only ..
  · exact ⟨_, rfl⟩

theorem Responded.beat {s t : State} (h : Responded s t) : t.beat = s.beat := by rw [h.1]

section Edge
variable {s : State}

theorem State.releaseGated_none (h : s.coll.ops = []) : s.releaseGated = s := by
  unfold State.releaseGated
  rw [h]
  rfl

theorem State.answerAsked_none (h : s.beat.asked = []) : s.answerAsked = s := by
  unfold State.answerAsked
  rw [h]
  rfl

/-- The edge of an enabled unit. -/
def State.edged (s : State) : State := if s.rdB rBeatCtl 11 then s.edge else s

theorem State.edged_keeps (s : State) : s.edged.coll = s.coll ∧ s.edged.beat.asked = s.beat.asked := by
  unfold State.edged State.edge
  split
  · split
    · exact ⟨rfl, rfl⟩
    · dsimp only
      split
      · exact ⟨rfl, rfl⟩
      · exact ⟨rfl, rfl⟩
  · exact ⟨rfl, rfl⟩

theorem step_edge (hpend : s.pending = []) : step s = .next s.edged.answerAsked.releaseGated := by
  unfold step
  rw [hpend]
  rfl

theorem State.answerAsked_one {a : Asked} (hasked : s.beat.asked = [a]) (hlate : a.until_ ≤ s.now) : s.answerAsked = s.answerEvent a 0 := by
  unfold State.answerAsked
  rw [hasked, List.filter_cons_of_pos (by simpa using hlate)]
  rfl

theorem step_answers {a : Asked} (hpend : s.pending = []) (hops : s.coll.ops = []) (hasked : s.beat.asked = [a]) (hch : a.req.1 < 36)
    (hlate : a.until_ ≤ s.edged.now) : ∃ t, step s = .next t ∧ t.beat.asked = [] ∧ (t.chan a.req.1).done = true ∧ (t.chan a.req.1).busy = false
      ∧ leAt (t.chan a.req.1).resp 8 2 = 0 ∧ (t.chan a.req.1).resp.drop 16 = leBytes 8 a.beat.toNat := by
  obtain ⟨hcoll, hkept⟩ := s.edged_keeps
  rw [step_edge hpend]
  generalize s.edged = u at hcoll hkept hlate ⊢
  rw [State.answerAsked_one (hkept.trans hasked) hlate]
  unfold State.answerEvent
  have hnone : (u.beat.asked.erase a) = [] := by rw [hkept, hasked]; simp
  generalize hv : ({ u with beat := { u.beat with asked := u.beat.asked.erase a } } : State) = v
  have hresp := v.respond_responded a.req.1 0x0124 a.req.2 0 (leBytes 8 a.beat.toNat)
  obtain ⟨h1, h2, h3⟩ := v.respond_replies hch 0x0124 a.req.2 0 (leBytes 8 a.beat.toNat)
  generalize v.respond a.req.1 0x0124 a.req.2 0 (leBytes 8 a.beat.toNat) = w at hresp h1 h2 h3 ⊢
  have hops' : w.coll.ops = [] := by
    rw [hresp.1, ← hv]
    exact (congrArg Coll.ops hcoll).trans hops
  refine ⟨w, congrArg _ (State.releaseGated_none hops'), ?_, h1, h2, ?_, ?_⟩
  · rw [hresp.beat, ← hv]
    exact hnone
  · rw [h3]
    exact Chan.reply_status ..
  · rw [h3]
    exact Chan.reply_body ..

theorem step_quiet (hpend : s.pending = []) (hops : s.coll.ops = []) (hasked : s.beat.asked = []) : step s = .next s.edged := by
  obtain ⟨hcoll, hkept⟩ := s.edged_keeps
  rw [step_edge hpend, State.answerAsked_none (hkept.trans hasked), State.releaseGated_none ((congrArg Coll.ops hcoll).trans hops)]

theorem State.edged_off (hoff : s.rdB rBeatCtl 11 = false) : s.edged = s := if_neg (ne_true_of_eq_false hoff)

theorem State.edged_holds (hon : s.rdB rBeatCtl 11 = true) (hhold : s.beat.hold ≠ 0) : s.edged = { s with beat := { s.beat with hold := s.beat.hold - 1 } } :=
  (if_pos hon).trans (if_pos hhold)

/-- The next value of the counter. -/
def State.counted (s : State) : State := { s with beat := { s.beat with count := s.beat.count + 1, phase := 0, nextPeriod := none } }

theorem State.edged_counts (hon : s.rdB rBeatCtl 11 = true) (hhold : s.beat.hold = 0) :
    s.edged = match s.beat.nextPeriod with
      | some p => s.counted.setPeriod p
      | none => s.counted := (if_pos hon).trans (if_neg (by simp [hhold]))

theorem State.setPeriod_sets (s : State) (p : Nat) : (s.setPeriod p).beat = { s.beat with periods := (s.now, s.rdF rBeatCtl 10 0) :: s.beat.periods }
    ∧ (s.setPeriod p).rdF rBeatCtl 10 0 = p % 2048 ∧ s.setPeriod p = { s with beat := (s.setPeriod p).beat, regs := (s.setPeriod p).regs } :=
  ⟨rfl, State.rdF_wrF_same _ _ (by omega) (by omega) _, rfl⟩

theorem step_counts (hpend : s.pending = []) (hops : s.coll.ops = []) (hasked : s.beat.asked = []) (hon : s.rdB rBeatCtl 11 = true) (hhold : s.beat.hold = 0) :
    ∃ t, step s = .next t ∧ t.beat.count = s.beat.count + 1 ∧ t.beat.phase = 0 ∧ t.beat.nextPeriod = none
      ∧ t = { s with beat := t.beat, regs := t.regs } ∧ (s.beat.nextPeriod = none → t.regs = s.regs)
      ∧ (∀ p, s.beat.nextPeriod = some p → p < 2048 → t.rdF rBeatCtl 10 0 = p) := by
  rw [step_quiet hpend hops hasked, State.edged_counts hon hhold]
  cases hnext : s.beat.nextPeriod with
  | none => exact ⟨_, rfl, rfl, rfl, rfl, rfl, fun _ => rfl, nofun⟩
  | some p =>
    obtain ⟨hbeat, hper, honly⟩ := s.counted.setPeriod_sets p
    refine ⟨_, rfl, by rw [hbeat]; rfl, by rw [hbeat]; rfl, by rw [hbeat]; rfl, honly, nofun, fun q hq hlt => ?_⟩
    obtain rfl := Option.some.inj hq
    exact hper.trans (Nat.mod_eq_of_lt hlt)

end Edge

/-- Settles O39: each row of the beat unit by its lemma above. -/
theorem beatUnit : Obligations.BeatUnit := by
  refine ⟨fun s port depth bst gen beat phase frac => ⟨marker_ignored, ?_, ?_, ?_, marker_newer, markerSend_sends, fun b => markerSend_waits, markerSend_quiet,
    delayExchange_sends, fun id t1 t2 t3 hup => dreq_answered id t1 t2 t3 hup, fun id t1 t2 t3 t4 h => dresp_measures id t1 t2 t3 t4 h, markerLoss_holds,
    holdoverExpiry_unlocks, holdoverExpiry_quiet, backupMaster_takes, backupMaster_quiet, beatPeriodWrite_ignored, beatPeriodWrite_taken,
    beatCount_captured s, beatErr_read s, latStat_read s⟩, fun s hpend hops => ⟨fun a hasked hch hlate => ?_, fun hasked => ⟨fun hoff => ?_, fun hon hhold => ?_,
    fun hon hhold => step_counts hpend hops hasked hon hhold⟩⟩⟩
  · rintro ⟨hport, hon, hup, hbst, hupport, hst, hgen⟩ hoff
    exact marker_locked hport hon hup hbst hupport hst hgen hoff
  · rintro ⟨hport, hon, hup, hbst, hupport, hst, hgen⟩ hslew
    exact (marker_acquires hport hon hup hbst hupport hst hgen hslew).1
  · rintro ⟨hport, hon, hup, hbst, hupport, hst, hgen⟩ hslew
    exact (marker_acquires hport hon hup hbst hupport hst hgen hslew).2
  · exact step_answers hpend hops hasked hch hlate
  · rw [step_quiet hpend hops hasked, State.edged_off hoff]
  · rw [step_quiet hpend hops hasked, State.edged_holds hon hhold]

end Sys2Proof.Machine
end

section
/-! PROOFS. The ports (R407, R428, R432, R433, R440 to R444, R450, R453): what goes on beside a port's own change, and the states of a port. -/

namespace Sys2Proof.Machine

/-! ### What goes on beside a port's change -/

/-- The registers of the ports, the links and the optics. -/
def portReg (o : Nat) : Prop := (0x1060000 ≤ o ∧ o < 0x1060500) ∨ (0x1070000 ≤ o ∧ o < 0x1080000)

/-- The registers of the routes. -/
def routeReg (o : Nat) : Prop := 0x1060500 ≤ o ∧ o < 0x1060600

theorem portReg_handled {o : Nat} (h : portReg o ∨ routeReg o) : ¬ handledReg o := by
  unfold portReg routeReg at h
  unfold handledReg rMemChan memReg
  omega

theorem routeReg_route {x : Nat} (hx : x < 64) : routeReg (rFabRoute x) := by
  unfold routeReg rFabRoute fabReg
  omega

theorem routeReg_not_port {o : Nat} (h : routeReg o) : ¬ portReg o := by
  unfold routeReg at h
  unfold portReg
  omega

section Addresses
variable {p : Nat} (hp : p < 52)
include hp

theorem portReg_port : portReg (rFabPort p) := by
  unfold portReg rFabPort fabReg
  omega

theorem portReg_pcnt : portReg (rFabPcnt p) := by
  unfold portReg rFabPcnt fabReg
  omega

theorem portReg_wave : portReg (rOptWave p) := by
  unfold portReg rOptWave optReg
  omega

end Addresses

theorem portReg_link {l : Nat} (hl : l < 48) : portReg (rFabLink l) := by
  unfold portReg rFabLink fabReg
  omega

theorem portReg_cart {c : Nat} (hc : c ≤ 3) : portReg (rOptCart c) := by
  unfold portReg rOptCart optReg
  omega

theorem rFabPort_inj {p q : Nat} (h : rFabPort p = rFabPort q) : p = q := by
  unfold rFabPort fabReg at h
  omega

/-- t is s but for what a change of one port brings about elsewhere: packets that join the egress of links that carry packets, routes, latches,
reports and traces. Bit 0 of the registers is left open: the core that a latch wakes ungates its clock, and the model's map of cores takes
any number. Of a route, UNREACH follows the links; DETOUR stays. -/
structure Beside (s t : State) : Prop where
  field : ∀ o hi lo, portReg o → 0 < lo → t.rdF o hi lo = s.rdF o hi lo
  bit : ∀ o i, portReg o → 0 < i → t.rdB o i = s.rdB o i
  detour : ∀ o, routeReg o → t.rdB o 31 = s.rdB o 31
  down : ∀ q, (s.port q).linkUp = false → t.port q = s.port q
  line : ∀ q, ∃ e, t.port q = { s.port q with egress := e }
  bays : t.bays = s.bays

namespace Beside
variable {s t u : State}

theorem of_ports (hfield : ∀ o hi lo, portReg o → 0 < lo → t.rdF o hi lo = s.rdF o hi lo) (hbit : ∀ o i, portReg o → 0 < i → t.rdB o i = s.rdB o i)
    (hdetour : ∀ o, routeReg o → t.rdB o 31 = s.rdB o 31) (hports : t.fab.ports = s.fab.ports) (hbays : t.bays = s.bays) : Beside s t := by
  have hport (q : Nat) : t.port q = s.port q := by rw [State.port, hports, State.port]
  exact ⟨hfield, hbit, hdetour, fun q _ => hport q, fun q => ⟨_, hport q⟩, hbays⟩

theorem of_rd (hregs : ∀ o, portReg o ∨ routeReg o → t.rd o = s.rd o) (hports : t.fab.ports = s.fab.ports) (hbays : t.bays = s.bays) : Beside s t :=
  of_ports (fun o hi lo ho _ => by rw [State.rdF, hregs o (.inl ho), State.rdF]) (fun o i ho _ => by rw [State.rdB, hregs o (.inl ho), State.rdB])
    (fun o ho => by rw [State.rdB, hregs o (.inr ho), State.rdB]) hports hbays

theorem of_regs (hregs : t.regs = s.regs) (hports : t.fab.ports = s.fab.ports) (hbays : t.bays = s.bays) : Beside s t :=
  of_rd (fun o _ => by rw [State.rd, hregs, State.rd]) hports hbays

theorem refl (s : State) : Beside s s := of_regs rfl rfl rfl

theorem trans (h : Beside s t) (h' : Beside t u) : Beside s u := by
  refine ⟨fun o hi lo ho hlo => (h'.field o hi lo ho hlo).trans (h.field o hi lo ho hlo), fun o i ho hi => (h'.bit o i ho hi).trans (h.bit o i ho hi),
    fun o ho => (h'.detour o ho).trans (h.detour o ho), fun q hq => ?_, fun q => ?_, h'.bays.trans h.bays⟩
  · have hst := h.down q hq
    exact (h'.down q (by rw [hst]; exact hq)).trans hst
  · obtain ⟨e, he⟩ := h'.line q
    obtain ⟨e', he'⟩ := h.line q
    exact ⟨e, by rw [he, he']⟩

theorem foldl_mem {α : Type} {f : State → α → State} {l : List α} (h : ∀ a ∈ l, ∀ s, Beside s (f s a)) (s : State) : Beside s (l.foldl f s) := by
  induction l generalizing s with
  | nil => exact .refl s
  | cons a l ih => exact (h a (.head _) s).trans (ih (fun b hb => h b (.tail _ hb)) _)

theorem foldl {α : Type} {f : State → α → State} (h : ∀ s a, Beside s (f s a)) (l : List α) (s : State) : Beside s (l.foldl f s) :=
  foldl_mem (fun a _ s => h s a) s

theorem handled (h : Handled s t) : Beside s t := by
  have honly := h.only
  refine of_rd (fun o ho => h.regs o (portReg_handled ho)) ?_ ?_
  · rw [honly]
  · rw [honly]

theorem reported (h : Reported s t) : Beside s t := .handled (.reported h)

theorem wr (s : State) {o : Nat} (ho : ¬ (portReg o ∨ routeReg o)) (v : W32) : Beside s (s.wr o v) :=
  of_rd (fun _ hk => State.rd_wr_ne _ _ _ _ fun e => ho (e ▸ hk)) rfl rfl

theorem wrB_zero (s : State) (o : Nat) (b : Bool) : Beside s (s.wrB o 0 b) := by
  have hbit (k i : Nat) (hi : 0 < i) : (s.wrB o 0 b).rdB k i = s.rdB k i := by
    by_cases h : k = o
    · subst h
      exact State.rdB_wrB_ne _ _ (by omega) (by omega) b
    · exact State.rdB_wrB_apart _ _ h ..
  refine of_ports (fun k hi lo _ hlo => ?_) (fun k i _ hi => hbit k i hi) (fun k _ => hbit k 31 (by omega)) rfl rfl
  by_cases h : k = o
  · subst h
    exact State.rdF_wrB_apart _ _ (by omega) (.inr hlo) b
  · exact State.rdF_wrB_ne _ _ h ..

theorem wrB_unreach (s : State) {x : Nat} (hx : x < 64) (b : Bool) : Beside s (s.wrB (rFabRoute x) 30 b) := by
  have hne {k : Nat} (hk : portReg k) : k ≠ rFabRoute x := fun e => routeReg_not_port (routeReg_route hx) (e ▸ hk)
  refine of_ports (fun k hi lo hk _ => State.rdF_wrB_ne _ _ (hne hk) ..) (fun k i hk _ => State.rdB_wrB_apart _ _ (hne hk) ..) (fun k _ => ?_) rfl rfl
  by_cases h : k = rFabRoute x
  · subst h
    exact State.rdB_wrB_ne _ _ (by omega) (by omega) b
  · exact State.rdB_wrB_apart _ _ h ..

theorem portState (h : Beside s t) {p : Nat} (hp : p < 52) : t.portState p = s.portState p := h.field _ _ _ (portReg_port hp) (by omega)

theorem portLink (h : Beside s t) {p : Nat} (hp : p < 52) : t.portLink p = s.portLink p := by
  rw [State.portLink, h.field _ _ _ (portReg_port hp) (by omega), State.portLink]

theorem linkUp (h : Beside s t) (q : Nat) : (t.port q).linkUp = (s.port q).linkUp := by
  obtain ⟨e, he⟩ := h.line q
  rw [he]

end Beside

section Effects
variable (s : State)

/-- A route that a packet can take leads to a link that carries packets. -/
theorem State.linkUp_of_route {dst dtr l d : Nat} (h : s.route dst dtr = .link l d) : (s.port (s.linkPort l)).linkUp = true := by
  have hup : s.linkUp l = true := by
    unfold State.route at h
    split at h
    · split at h
      · cases h
        assumption
      · cases h
    split at h
    · cases h
    split at h
    · cases h
    dsimp only at h
    split at h
    · split at h
      · cases h
        assumption
      · cases h
    · split at h
      · cases h
        assumption
      · cases h
  unfold State.linkUp at hup
  exact (Bool.and_eq_true_iff.mp hup).2

/-- A packet handed to an egress goes to a link that carries packets. -/
theorem State.launch_beside {t : State} {own : Bool} {p : Pkt} (h : s.launch own p = some t) : Beside s t := by
  unfold State.launch at h
  split at h
  · obtain rfl := Option.some.inj h
    exact .of_regs rfl rfl rfl
  · next l dtr hroute =>
    obtain rfl := Option.some.inj h
    have hup := s.linkUp_of_route hroute
    refine ⟨fun _ _ _ _ _ => rfl, fun _ _ _ _ => rfl, fun _ _ => rfl, fun q hq => ?_, fun q => ?_, rfl⟩
    · rw [State.port_setPort, if_neg]
      intro e
      rw [← e, hq] at hup
      cases hup
    · rw [State.port_setPort]
      split
      · next e =>
        subst e
        exact ⟨_, rfl⟩
      · exact ⟨_, rfl⟩
  · cases h

theorem State.sendStatus_beside (p : Pkt) (code : W16) : Beside s (s.sendStatus p code) := by
  unfold State.sendStatus
  split
  · exact .of_regs rfl rfl rfl
  · dsimp only
    split
    · exact s.launch_beside ‹_›
    · exact .of_regs rfl rfl rfl

theorem State.sendPkt_beside (p : Pkt) : Beside s (s.sendPkt p) := by
  unfold State.sendPkt
  split
  · exact s.launch_beside ‹_›
  · exact s.sendStatus_beside ..

theorem State.rememberDrop_beside (p : Pkt) : Beside s (s.rememberDrop p) := by
  unfold State.rememberDrop
  split
  · exact .refl s
  · exact .of_regs rfl rfl rfl

theorem State.event_beside (unit sev inst : Nat) (err : W16) : Beside s (s.event unit sev inst err) := .reported (s.event_reported ..)
theorem State.noSpare_beside (unit inst : Nat) : Beside s (s.noSpare unit inst) := s.event_beside ..
theorem State.spareUsed_beside (unit inst : Nat) : Beside s (s.spareUsed unit inst) := .handled (s.spareUsed_handled ..)

theorem rBeatStat_not_port : ¬ (portReg rBeatStat ∨ routeReg rBeatStat) := by
  unfold portReg routeReg rBeatStat beatReg
  omega

theorem State.setUp_beside (p : Option Nat) : Beside s (s.setUp p) := .wr s rBeatStat_not_port _
theorem State.setBeatSt_beside (v : Nat) : Beside s (s.setBeatSt v) := .wr s rBeatStat_not_port _
theorem State.toHoldover_beside : Beside s s.toHoldover := (s.setBeatSt_beside _).trans (State.setUp_beside ..)

theorem State.upstreamLost_beside (p : Nat) : Beside s (s.upstreamLost p) := by
  unfold State.upstreamLost
  split
  · exact s.toHoldover_beside
  split
  · exact s.setUp_beside _
  · exact .refl s

theorem State.reroute_beside : Beside s s.reroute := by
  unfold State.reroute
  exact .foldl_mem (fun x hx s => .wrB_unreach s (List.mem_range.mp hx) _) s

theorem State.wake_beside (i t : Nat) (wstat : W16) : Beside s (s.wake i t wstat) := by
  unfold State.wake
  refine .trans ?_ (.wrB_zero _ _ _)
  exact .of_regs rfl rfl rfl

theorem State.setLatch_beside (i j : Nat) (v : W128) : Beside s (s.setLatch i j v) := .of_regs rfl rfl rfl

theorem State.latchBreak_beside (i j estat : Nat) : Beside s (s.latchBreak i j estat) := by
  unfold State.latchBreak
  dsimp only
  refine .trans ?_ (.foldl (fun s t => s.wake_beside ..) _ _)
  refine (s.setLatch_beside i j (bfSet (bitSet (s.latch i j) 92 true) 79 72 estat)).trans ?_
  split
  · exact .handled (State.trace_handled ..)
  · exact .refl _

theorem State.breakEntry_beside (e : Release) : Beside s (s.breakEntry e) := by
  unfold State.breakEntry
  split
  · exact .refl s
  split
  · unfold State.extLatch
    split
    · exact .of_regs rfl rfl rfl
    · exact s.latchBreak_beside ..
  · exact .refl s

theorem State.breakUnreachable_beside (f : Release → Bool) : Beside s (s.breakUnreachable f) := by
  unfold State.breakUnreachable
  exact .trans (t := { s with releases := s.releases.filter (fun e => !f e) }) (.of_regs rfl rfl rfl) (.foldl (fun s e => s.breakEntry_beside e) _ _)

theorem State.routesChanged_beside : Beside s s.routesChanged := s.reroute_beside.trans (State.breakUnreachable_beside ..)

end Effects

/-! ### The states of a port -/

section States
variable (s : State)

theorem State.portState_setPort (p q : Nat) (x : Port) : (s.setPort p x).portState q = s.portState q := rfl
theorem State.portLink_setPort (p q : Nat) (x : Port) : (s.setPort p x).portLink q = s.portLink q := rfl

theorem State.setPortState_handled (p st : Nat) : Handled (s.wrF (rFabPort p) 31 29 st) (s.setPortState p st) := State.traceModule_handled ..

theorem State.setPortState_fab (p st : Nat) : (s.setPortState p st).fab = s.fab := by
  have h := (s.setPortState_handled p st).only
  rw [h]
  rfl

theorem State.port_setPortState (p q st : Nat) : (s.setPortState p st).port q = s.port q := by rw [State.port, s.setPortState_fab, State.port]

theorem State.rdF_setPortState (p st : Nat) {o : Nat} (ho : portReg o) (hi lo : Nat) :
    (s.setPortState p st).rdF o hi lo = (s.wrF (rFabPort p) 31 29 st).rdF o hi lo := by
  rw [State.rdF, (s.setPortState_handled p st).regs o (portReg_handled (.inl ho)), State.rdF]

theorem State.rdF_setPortState_low (p st : Nat) {o : Nat} (ho : portReg o) {hi : Nat} (hhi : hi < 29) (lo : Nat) :
    (s.setPortState p st).rdF o hi lo = s.rdF o hi lo := by
  rw [s.rdF_setPortState p st ho]
  by_cases h : o = rFabPort p
  · subst h
    exact State.rdF_wrF_apart _ _ (by omega) (by omega) (.inl hhi) _
  · exact State.rdF_wrF_ne _ _ h ..

theorem State.rdF_setPortState_ne (p st : Nat) {o : Nat} (ho : portReg o) (hne : o ≠ rFabPort p) (hi lo : Nat) :
    (s.setPortState p st).rdF o hi lo = s.rdF o hi lo :=
  (s.rdF_setPortState p st ho hi lo).trans (State.rdF_wrF_ne _ _ hne ..)

theorem State.portState_setPortState {p q : Nat} (hq : q < 52) (st : Nat) :
    (s.setPortState p st).portState q = if q = p then st % 8 else s.portState q := by
  rw [State.portState, s.rdF_setPortState p st (portReg_port hq)]
  split
  · next h =>
    rw [h]
    exact State.rdF_wrF_same _ _ (by omega) (by omega) _
  · next h => exact State.rdF_wrF_ne _ _ (fun e => h (rFabPort_inj e)) ..

theorem State.portState_setPortState_self {p : Nat} (hp : p < 52) (st : Nat) : (s.setPortState p st).portState p = st % 8 := by
  rw [s.portState_setPortState hp, if_pos rfl]

theorem State.portLink_setPortState (p st : Nat) {q : Nat} (hq : q < 52) : (s.setPortState p st).portLink q = s.portLink q := by
  rw [State.portLink, s.rdF_setPortState_low p st (portReg_port hq) (by omega), State.portLink]

end States

/-- A port that lost its link. -/
def Port.lost (x : Port) : Port :=
  { x with linkUp := false, replay := [], resend := 0, egress := [], openP := none, txOpen := none, acked := none, offer := none }

section Lost
variable (s : State) (p : Nat)

theorem State.linkLost_beside : Beside (s.setPort p (s.port p).lost) (s.linkLost p) := by
  refine .trans ?_ ((State.routesChanged_beside _).trans (State.upstreamLost_beside ..))
  exact .foldl (fun s k => (s.rememberDrop_beside k).trans (State.sendStatus_beside ..)) _ _

theorem State.port_linkLost : (s.linkLost p).port p = (s.port p).lost := by
  have hx : (s.setPort p (s.port p).lost).port p = (s.port p).lost := by rw [State.port_setPort, if_pos rfl]
  exact ((s.linkLost_beside p).down p (by rw [hx]; rfl)).trans hx

end Lost

/-! ### Which half a cartridge feeds -/

theorem State.activeCart_congr {s t : State} (h : ∀ c ≤ 3, ∀ hi lo, 0 < lo → t.rdF (rOptCart c) hi lo = s.rdF (rOptCart c) hi lo) (k : Nat) :
    t.activeCart k = s.activeCart k := by
  have hc (c : Nat) (hc : c ≤ 3) : (decide (t.cartState c = 0) && decide (t.rdF (rOptCart c) 29 28 = k)) =
      (decide (s.cartState c = 0) && decide (s.rdF (rOptCart c) 29 28 = k)) := by
    rw [State.cartState, h c hc _ _ (by omega), h c hc _ _ (by omega), State.cartState]
  unfold State.activeCart
  rw [List.find?_cons, List.find?_cons, List.find?_cons, hc 1 (by omega), hc 2 (by omega), hc 3 (by omega)]
  rfl

theorem State.fed_congr {s t : State} (h : ∀ c ≤ 3, ∀ hi lo, 0 < lo → t.rdF (rOptCart c) hi lo = s.rdF (rOptCart c) hi lo) (p : Nat) :
    t.fed p = s.fed p := by
  rw [State.fed, State.activeCart_congr h, State.fed]

theorem Beside.fed {s t : State} (h : Beside s t) (p : Nat) : t.fed p = s.fed p :=
  State.fed_congr (fun _ hc hi lo hlo => h.field _ hi lo (portReg_cart hc) hlo) p

section Commands
variable {s : State} {p : Nat}

/-! ### Retraining -/

theorem rFabPcnt_ne_port (p q : Nat) : rFabPcnt p ≠ rFabPort q := by
  unfold rFabPcnt rFabPort fabReg
  omega

theorem rOptCart_apart (c : Nat) (hp : p < 52) : rOptCart c ≠ rFabPcnt p ∧ rOptCart c ≠ rFabPort p := by
  unfold rOptCart rFabPcnt rFabPort fabReg optReg
  omega

/-- The retrain counted, before the port's state moves. -/
def State.countRetrain (s : State) (p : Nat) : State := (s.incF (rFabPcnt p) 15 8 1).setPort p { s.port p with nakRun := 0 }

theorem State.trainOr0_incF (hp : p < 52) : (s.incF (rFabPcnt p) 15 8 1).trainOr0 p = s.trainOr0 p := by
  have h : (s.incF (rFabPcnt p) 15 8 1).fed p = s.fed p := State.fed_congr (fun c _ hi lo _ => State.rdF_wrF_ne _ _ (rOptCart_apart c hp).1 ..) p
  rw [State.trainOr0, h, State.trainOr0]

theorem State.retrain_eq (hp : p < 52) : s.retrain p = (s.countRetrain p).setPortState p (s.trainOr0 p) :=
  congrArg (State.setPortState (s.countRetrain p) p) (State.trainOr0_incF hp)

theorem State.countRetrain_counts : (s.countRetrain p).port p = { s.port p with nakRun := 0 }
    ∧ (s.countRetrain p).rdF (rFabPcnt p) 15 8 = min 255 (s.rdF (rFabPcnt p) 15 8 + 1) := by
  have hcount : (s.incF (rFabPcnt p) 15 8 1).rdF (rFabPcnt p) 15 8 = min 255 (s.rdF (rFabPcnt p) 15 8 + 1) := State.rdF_incF (by omega) (by omega)
  unfold State.countRetrain
  generalize s.incF (rFabPcnt p) 15 8 1 = u at hcount ⊢
  exact ⟨by rw [State.port_setPort, if_pos rfl], hcount⟩

theorem State.trainOr0_lt : s.trainOr0 p < 8 := by
  unfold State.trainOr0
  split <;> decide

/-! ### Training, and what turns it away -/

theorem ackTimeout_retrains (hst : s.portState p = 2) (hr : (s.port p).replay ≠ []) : exec (.ackTimeout p) s = .next (s.retrain p) :=
  congrArg Host.Outcome.next (if_pos (by simp [hst, hr]))

theorem linkTrain_quiet (h : s.fed p = false ∨ (s.portState p ≠ 0 ∧ s.portState p ≠ 6)) : exec (.linkTrain p) s = .next s := by
  refine congrArg Host.Outcome.next (if_neg ?_)
  rcases h with h | ⟨h0, h6⟩
  · simp [h]
  · simp [h0, h6]

theorem trainingComplete_quiet (peer : BitVec 14) (role dim : BitVec 2) (idle : BitVec 3) (pport : BitVec 8)
    (h : s.fed p = false ∨ s.portState p ≠ 1) : exec (.trainingComplete p peer role dim idle pport) s = .next s := by
  refine congrArg Host.Outcome.next ?_
  unfold State.trainingComplete
  split
  · rfl
  · exact if_pos (by simpa [or_comm] using h)

/-- The idle wavelength that the partner with the lower address names. -/
def State.agreeIdle (s : State) (p peer idle : Nat) : State :=
  if s.maddr < peer && idle ≠ s.rdF (rOptWave p) 31 29 then s.wrF (rOptWave p) 31 29 idle else s

theorem State.trainingComplete_miswired {l peer role dim : Nat} (idle : Nat) (hl : s.portLink p = some l)
    (hst : s.portState p = 1) (hfed : s.fed p = true) (hwrong : s.rdF (rFabLink l) 29 16 ≠ peer ∨ s.rdF (rFabLink l) 31 30 ≠ role
      ∨ (role = 1 ∧ s.rdF (rFabLink l) 15 14 ≠ dim)) :
    s.trainingComplete p peer role dim idle =
      State.event (if (s.port p).linkUp then (s.setPortState p 6).linkLost p else s.setPortState p 6) uPort 0 p eFabMiswire := by
  unfold State.trainingComplete
  rw [hl]
  dsimp only
  rw [if_neg (by simp [hst, hfed]), if_pos (by simpa [or_assoc] using hwrong)]

section
variable (hp : p < 52)
include hp

theorem State.retrain_retrains : (s.retrain p).portState p = s.trainOr0 p ∧ (s.retrain p).port p = { s.port p with nakRun := 0 }
    ∧ (s.retrain p).rdF (rFabPcnt p) 15 8 = min 255 (s.rdF (rFabPcnt p) 15 8 + 1) := by
  obtain ⟨hport, hcount⟩ := State.countRetrain_counts (s := s) (p := p)
  rw [State.retrain_eq hp]
  generalize s.countRetrain p = u at hport hcount ⊢
  refine ⟨?_, (u.port_setPortState p p _).trans hport, (u.rdF_setPortState_ne p _ (portReg_pcnt hp) (rFabPcnt_ne_port p p) ..).trans hcount⟩
  exact (u.portState_setPortState_self hp _).trans (Nat.mod_eq_of_lt State.trainOr0_lt)

theorem State.linkDown_downs : (s.linkDown p).portState p = 0 ∧ (s.linkDown p).port p = (s.port p).lost := by
  refine ⟨?_, ?_⟩
  · exact ((State.linkLost_beside _ p).portState hp).trans (s.portState_setPortState_self hp 0)
  · exact (State.port_linkLost _ p).trans (by rw [s.port_setPortState])

theorem laneLockLoss_waits (hst : s.portState p = 2) : ∃ t, exec (.laneLockLoss p) s = .next t ∧ t.portState p = 3 ∧ t.fab = s.fab :=
  ⟨_, congrArg Host.Outcome.next (if_pos hst), s.portState_setPortState_self hp 3, s.setPortState_fab ..⟩

theorem lockRegained_runs (hst : s.portState p = 3) : ∃ t, exec (.lockRegained p) s = .next t ∧ t.portState p = 2
    ∧ t.port p = { s.port p with resend := (s.port p).replay.length } := by
  refine ⟨_, congrArg Host.Outcome.next (if_pos hst), State.portState_setPortState_self _ hp 2, ?_⟩
  rw [State.port_setPortState, State.port_setPort, if_pos rfl]
  rfl

theorem relockExpiry_downs (hst : s.portState p = 3) : ∃ t, exec (.relockExpiry p) s = .next t ∧ t.portState p = 0 ∧ (t.port p).linkUp = false
    ∧ (t.port p).replay = [] ∧ (t.port p).egress = [] := by
  obtain ⟨hdown, hport⟩ := State.linkDown_downs (s := s) hp
  refine ⟨_, congrArg Host.Outcome.next (if_pos hst), hdown, ?_⟩
  rw [hport]
  exact ⟨rfl, rfl, rfl⟩

theorem retrainTimeout_fails (hst : s.portState p = 1) : ∃ t, exec (.retrainTimeout p) s = .next t ∧ t.portState p = 5 ∧ t.fab = s.fab :=
  ⟨_, congrArg Host.Outcome.next (if_pos hst), s.portState_setPortState_self hp 5, s.setPortState_fab ..⟩

theorem linkTrain_trains {l : Nat} (hl : s.portLink p = some l) (hrole : s.rdF (rFabLink l) 31 30 ≠ 0) (hfed : s.fed p = true)
    (hst : s.portState p = 0 ∨ s.portState p = 6) : ∃ t, exec (.linkTrain p) s = .next t ∧ t.portState p = 1 ∧ (t.port p).light = true := by
  refine ⟨_, congrArg Host.Outcome.next (if_pos (by simp [hl, hrole, hfed, hst])), State.portState_setPortState_self _ hp 1, ?_⟩
  rw [State.port_setPortState, State.port_setPort, if_pos rfl]

theorem trainingComplete_runs {l : Nat} {peer : BitVec 14} {role dim : BitVec 2} (idle : BitVec 3) (pport : BitVec 8) (hl : s.portLink p = some l)
    (hst : s.portState p = 1) (hfed : s.fed p = true) (hpeer : s.rdF (rFabLink l) 29 16 = peer.toNat) (hrole : s.rdF (rFabLink l) 31 30 = role.toNat)
    (hdim : role.toNat = 1 → s.rdF (rFabLink l) 15 14 = dim.toNat) :
    ∃ t, exec (.trainingComplete p peer role dim idle pport) s = .next t ∧ t.portState p = 2 ∧ (t.port p).linkUp = true
      ∧ ((s.port p).linkUp = false → (t.port p).txSeq = 0 ∧ (t.port p).rxSeq = 0 ∧ (t.port p).replay = [])
      ∧ ((s.port p).linkUp = true → (t.port p).replay = (s.port p).replay ∧ (t.port p).resend = (s.port p).replay.length) := by
  have hrun : s.trainingComplete p peer.toNat role.toNat dim.toNat idle.toNat =
      (State.setPortState ((s.agreeIdle p peer.toNat idle.toNat).setPort p
        { (if (s.port p).linkUp then (s.port p).resendAll else (s.port p).fresh) with linkUp := true, stored := true, light := true, measured := none })
        p 2).routesChanged := by
    unfold State.trainingComplete
    rw [hl]
    dsimp only
    rw [if_neg (by simp [hst, hfed]), if_neg (by simpa [hpeer, hrole] using hdim)]
    rfl
  refine ⟨_, congrArg Host.Outcome.next hrun, ?_⟩
  generalize hx : ({ (if (s.port p).linkUp then (s.port p).resendAll else (s.port p).fresh) with
    linkUp := true, stored := true, light := true, measured := none } : Port) = x
  obtain ⟨e, he⟩ := (State.routesChanged_beside (State.setPortState ((s.agreeIdle p peer.toNat idle.toNat).setPort p x) p 2)).line p
  rw [State.port_setPortState, State.port_setPort, if_pos rfl] at he
  refine ⟨((State.routesChanged_beside _).portState hp).trans (State.portState_setPortState_self _ hp 2), ?_⟩
  rw [he]
  subst hx
  refine ⟨rfl, fun h => ?_, fun h => ?_⟩
  · simp [h, Port.fresh]
  · simp [h, Port.resendAll]

theorem State.miswired_stops (u : State) (hst : u.portState p = 6) (up : Bool) :
    (State.event (if up then u.linkLost p else u) uPort 0 p eFabMiswire).portState p = 6
      ∧ (up = true → ((State.event (if up then u.linkLost p else u) uPort 0 p eFabMiswire).port p).linkUp = false) := by
  have hev := State.event_beside (if up then u.linkLost p else u) uPort 0 p eFabMiswire
  refine ⟨(hev.portState hp).trans ?_, fun hup => (hev.linkUp p).trans ?_⟩
  · split
    · exact ((u.linkLost_beside p).portState hp).trans hst
    · exact hst
  · rw [if_pos hup, State.port_linkLost]
    rfl

theorem trainingComplete_miswires {l : Nat} {peer : BitVec 14} {role dim : BitVec 2} (idle : BitVec 3) (pport : BitVec 8) (hl : s.portLink p = some l)
    (hst : s.portState p = 1) (hfed : s.fed p = true) (hwrong : s.rdF (rFabLink l) 29 16 ≠ peer.toNat ∨ s.rdF (rFabLink l) 31 30 ≠ role.toNat
      ∨ (role.toNat = 1 ∧ s.rdF (rFabLink l) 15 14 ≠ dim.toNat)) :
    ∃ t, exec (.trainingComplete p peer role dim idle pport) s = .next t ∧ t.portState p = 6 ∧ ((s.port p).linkUp = true → (t.port p).linkUp = false) :=
  ⟨_, congrArg Host.Outcome.next (State.trainingComplete_miswired idle.toNat hl hst hfed hwrong),
    State.miswired_stops hp _ (s.portState_setPortState_self hp 6) _⟩

end

/-! ### Registers -/

theorem violLeak_leaks : ∃ t, exec (.violLeak p) s = .next t ∧ t.rdF (rFabPort p) 22 18 = s.rdF (rFabPort p) 22 18 - 1
    ∧ t.portState p = s.portState p ∧ t = { s with regs := t.regs } := by
  refine ⟨_, rfl, (State.rdF_wrF_same _ _ (by omega) (by omega) _).trans (Nat.mod_eq_of_lt ?_), State.rdF_wrF_apart _ _ (by omega) (by omega) (by omega) _, rfl⟩
  have := s.rdF_lt (rFabPort p) 22 18
  omega

theorem fabPcntRead_clears : ∃ t, exec (.fabPcntRead p) s = .next t ∧ t.resp = leBytes 4 (s.rd (rFabPcnt p)).toNat ∧ t.rd (rFabPcnt p) = 0
    ∧ t = { s with regs := t.regs, resp := t.resp } :=
  ⟨_, rfl, rfl, State.rd_wr_self .., rfl⟩

theorem optWaveRead_clears : ∃ t, exec (.optWaveRead p) s = .next t ∧ t.resp = leBytes 4 (s.rd (rOptWave p)).toNat ∧ t.rdF (rOptWave p) 15 0 = 0
    ∧ t.rdF (rOptWave p) 31 16 = s.rdF (rOptWave p) 31 16 ∧ t = { s with regs := t.regs, resp := t.resp } :=
  ⟨_, rfl, rfl, State.rdF_wrF_same _ _ (by omega) (by omega) _, State.rdF_wrF_apart _ _ (by omega) (by omega) (by omega) _, rfl⟩

end Commands

/-- Settles O41, command by command: what a lost link, a change of routes and a report bring about stays beside the port that changes. -/
theorem portStates : Obligations.PortStates := by
  unfold Obligations.PortStates
  intro s p hp x again
  obtain ⟨hre1, hre2, hre3⟩ := State.retrain_retrains (s := s) hp
  refine ⟨fun hst hr => ⟨_, ackTimeout_retrains hst hr, hre1, hre2, hre3⟩, fun hr => congrArg Host.Outcome.next (if_neg ?_), laneLockLoss_waits hp,
    fun h => congrArg Host.Outcome.next (if_neg h), lockRegained_runs hp, relockExpiry_downs hp,
    fun h => ⟨congrArg Host.Outcome.next (if_neg h), congrArg Host.Outcome.next (if_neg h)⟩, fun h => congrArg Host.Outcome.next (if_pos h),
    fun h => congrArg Host.Outcome.next (if_neg h), retrainTimeout_fails hp, fun l => linkTrain_trains hp, linkTrain_quiet,
    fun peer role dim idle pport => trainingComplete_quiet peer role dim idle pport, fun l peer role dim idle pport hl hst hfed =>
      ⟨trainingComplete_runs hp idle pport hl hst hfed, trainingComplete_miswires hp idle pport hl hst hfed⟩,
    fun hl h4 h5 h7 => ⟨_, congrArg Host.Outcome.next (if_pos ?_), hre1, hre3⟩, fun hl => congrArg Host.Outcome.next (if_neg ?_),
    fun h => ⟨_, congrArg Host.Outcome.next (if_pos h), hre1⟩, fun h => congrArg Host.Outcome.next (if_neg h), violLeak_leaks, fabPcntRead_clears,
    optWaveRead_clears⟩
  · have : (s.port p).replay = [] := hr
    simp [this]
  · simp [Option.isSome_iff_ne_none, hl, h4, h5, h7]
  · simp [hl]

end Sys2Proof.Machine
end

section
/-! PROOFS. The spares of the fabric (R403, R405 to R409, R435, R440 to R442, R446, R457): ports, wavelengths and cartridges. -/

namespace Sys2Proof.Machine

/-! ### Registers that stay -/

/-- The registers of P show the same fields and bits above bit 0 in t as in s. -/
structure FieldsKept (P : Nat → Prop) (s t : State) : Prop where
  field : ∀ o hi lo, P o → 0 < lo → t.rdF o hi lo = s.rdF o hi lo
  bit : ∀ o i, P o → 0 < i → t.rdB o i = s.rdB o i

namespace FieldsKept
variable {P : Nat → Prop} {s t u : State}

theorem trans (h : FieldsKept P s t) (h' : FieldsKept P t u) : FieldsKept P s u :=
  ⟨fun o hi lo ho hlo => (h'.field o hi lo ho hlo).trans (h.field o hi lo ho hlo), fun o i ho hi => (h'.bit o i ho hi).trans (h.bit o i ho hi)⟩

theorem of_rd (h : ∀ o, P o → t.rd o = s.rd o) : FieldsKept P s t :=
  ⟨fun o hi lo ho _ => by rw [State.rdF, h o ho, State.rdF], fun o i ho _ => by rw [State.rdB, h o ho, State.rdB]⟩

theorem of_regs (h : t.regs = s.regs) : FieldsKept P s t := of_rd fun o _ => by rw [State.rd, h, State.rd]

theorem refl (s : State) : FieldsKept P s s := of_regs rfl

theorem wr (s : State) {o : Nat} (ho : ¬ P o) (v : W32) : FieldsKept P s (s.wr o v) := of_rd fun _ hk => State.rd_wr_ne _ _ _ _ fun e => ho (e ▸ hk)

theorem mono {Q : Nat → Prop} (h : FieldsKept P s t) (hQ : ∀ o, Q o → P o) : FieldsKept Q s t :=
  ⟨fun o hi lo ho => h.field o hi lo (hQ o ho), fun o i ho => h.bit o i (hQ o ho)⟩

theorem foldl_mem {α : Type} {f : State → α → State} {l : List α} (h : ∀ a ∈ l, ∀ s, FieldsKept P s (f s a)) (s : State) :
    FieldsKept P s (l.foldl f s) := by
  induction l generalizing s with
  | nil => exact .refl s
  | cons a l ih => exact (h a (.head _) s).trans (ih (fun b hb => h b (.tail _ hb)) _)

end FieldsKept

theorem Beside.fields {s t : State} (h : Beside s t) {P : Nat → Prop} (hP : ∀ o, P o → portReg o) : FieldsKept P s t :=
  ⟨fun o hi lo ho => h.field o hi lo (hP o ho), fun o i ho => h.bit o i (hP o ho)⟩

/-- A fold reaches Q where its step at p turns P into Q, and no other step spoils either. -/
theorem foldl_reaches {P Q : State → Prop} {f : State → Nat → State} {p : Nat} {l : List Nat}
    (hother : ∀ s, ∀ q ∈ l, q ≠ p → (P s → P (f s q)) ∧ (Q s → Q (f s q))) (hown : ∀ s, P s → Q (f s p)) (hdone : ∀ s, Q s → Q (f s p))
    (hp : p ∈ l) (s : State) (hs : P s) : Q (l.foldl f s) := by
  have hQ (m : List Nat) (hm : ∀ q ∈ m, q ∈ l) (s : State) (hs : Q s) : Q (m.foldl f s) := by
    induction m generalizing s with
    | nil => exact hs
    | cons q m ih =>
      refine ih (fun r hr => hm r (.tail _ hr)) _ ?_
      by_cases hq : q = p
      · exact hq ▸ hdone s hs
      · exact (hother s q (hm q (.head _)) hq).2 hs
  suffices h : ∀ m : List Nat, (∀ q ∈ m, q ∈ l) → p ∈ m → ∀ s, P s → Q (m.foldl f s) from h l (fun _ h => h) hp s hs
  intro m hm hpm
  induction m with
  | nil => cases hpm
  | cons q m ih =>
    intro s hs
    by_cases hq : q = p
    · subst hq
      exact hQ m (fun r hr => hm r (.tail _ hr)) _ (hown s hs)
    · exact ih (fun r hr => hm r (.tail _ hr)) ((List.mem_cons.mp hpm).resolve_left (Ne.symm hq)) _ ((hother s q (hm q (.head _)) hq).1 hs)

/-- The registers of the cartridges. -/
def bayReg (o : Nat) : Prop := ∃ c ≤ 3, o = rOptCart c
/-- The registers of port p. -/
def ownReg (p o : Nat) : Prop := o = rFabPort p ∨ o = rOptWave p

theorem bayReg_port {o : Nat} (h : bayReg o) : portReg o := by
  obtain ⟨c, hc, rfl⟩ := h
  exact portReg_cart hc

theorem ownReg_port {p : Nat} (hp : p < 52) {o : Nat} (h : ownReg p o) : portReg o := by
  rcases h with rfl | rfl
  · exact portReg_port hp
  · exact portReg_wave hp

theorem bayReg_apart {q : Nat} (hq : q < 104) : ¬ bayReg (rFabPort q) ∧ ¬ bayReg (rOptWave q) := by
  refine ⟨fun ⟨c, hc, h⟩ => ?_, fun ⟨c, hc, h⟩ => ?_⟩
  · unfold rFabPort rOptCart fabReg optReg at h
    omega
  · unfold rOptWave rOptCart optReg at h
    omega

theorem ownReg_apart {p q : Nat} (hp : p < 52) (hq : q < 104) (hne : q ≠ p) : ¬ ownReg p (rFabPort q) ∧ ¬ ownReg p (rOptWave q) := by
  unfold ownReg rFabPort rOptWave fabReg optReg
  omega

namespace FieldsKept
variable {s t : State}

theorem portState {p : Nat} (h : FieldsKept (ownReg p) s t) : t.portState p = s.portState p := h.field _ _ _ (.inl rfl) (by omega)

theorem portLink {p : Nat} (h : FieldsKept (ownReg p) s t) : t.portLink p = s.portLink p := by
  rw [State.portLink, h.field _ _ _ (.inl rfl) (by omega), State.portLink]

theorem idleWave {p : Nat} (h : FieldsKept (ownReg p) s t) : t.idleWave p = s.idleWave p := h.field _ _ _ (.inr rfl) (by omega)

theorem carried {p : Nat} (h : FieldsKept (ownReg p) s t) : t.carried p = s.carried p := by
  unfold State.carried
  simp only [h.idleWave, h.bit _ _ (.inr rfl) (Nat.add_pos_left (by decide : 0 < 24) _)]

theorem cartState {c : Nat} (h : FieldsKept bayReg s t) (hc : c ≤ 3) : t.cartState c = s.cartState c := h.field _ _ _ ⟨c, hc, rfl⟩ (by omega)

theorem half {c : Nat} (h : FieldsKept bayReg s t) (hc : c ≤ 3) : t.rdF (rOptCart c) 29 28 = s.rdF (rOptCart c) 29 28 :=
  h.field _ _ _ ⟨c, hc, rfl⟩ (by omega)

end FieldsKept

/-! ### What the change of one port keeps of the others -/

section Steps
variable {P : Nat → Prop} (s : State) {q : Nat}

theorem State.setPort_fields (q : Nat) (x : Port) : FieldsKept P s (s.setPort q x) := .of_regs rfl

theorem State.setPortState_fields (hP : ∀ o, P o → portReg o) (hq : ¬ P (rFabPort q)) (st : Nat) : FieldsKept P s (s.setPortState q st) :=
  (FieldsKept.wr s hq _).trans ((Beside.handled (s.setPortState_handled q st)).fields hP)

theorem State.linkDown_fields (hP : ∀ o, P o → portReg o) (hq : ¬ P (rFabPort q)) : FieldsKept P s (s.linkDown q) :=
  ((s.setPortState_fields hP hq 0).trans (State.setPort_fields _ q _)).trans ((State.linkLost_beside _ q).fields hP)

theorem State.linkUp_linkLost {p : Nat} (h : p ≠ q) : ((s.linkLost q).port p).linkUp = (s.port p).linkUp := by
  rw [(s.linkLost_beside q).linkUp, State.port_setPort, if_neg h]

theorem State.linkUp_linkDown {p : Nat} (h : p ≠ q) : ((s.linkDown q).port p).linkUp = (s.port p).linkUp :=
  (State.linkUp_linkLost _ h).trans (by rw [State.port_setPortState])

theorem State.port_badWave (q w p : Nat) : (s.badWave q w).port p = s.port p := by
  rw [State.port, (((RegsOnly.refl s).wrB _ _ true).wrF _ _ _ 7).fab (t := s.badWave q w), State.port]

/-- The registers and the command of a port that leaves a wavelength. -/
def State.leaveWave (s : State) (q w : Nat) : State := (s.setPort q { s.port q with wcmd := some (1, w, s.idleWave q) }).badWave q w

theorem State.moveWave_beside (w : Nat) : Beside (s.leaveWave q w) (s.moveWave q w) :=
  (State.spareUsed_beside _ _ _).trans (State.event_beside _ _ _ _ _)

theorem State.leaveWave_fields (hq : ¬ P (rOptWave q)) (w : Nat) : FieldsKept P s (s.leaveWave q w) :=
  ((s.setPort_fields q _).trans (.wr _ hq _)).trans (.wr _ hq _)

theorem State.moveWave_fields (hP : ∀ o, P o → portReg o) (hq : ¬ P (rOptWave q)) (w : Nat) : FieldsKept P s (s.moveWave q w) :=
  (s.leaveWave_fields hq w).trans ((s.moveWave_beside w).fields hP)

theorem State.moveWave_moves (hq : q < 52) {w : Nat} (hw : w < 5) :
    (s.moveWave q w).idleWave q = 7 ∧ (s.moveWave q w).rdB (rOptWave q) (24 + w) = true ∧ ((s.moveWave q w).port q).wcmd = some (1, w, s.idleWave q) := by
  have h := s.moveWave_beside (q := q) w
  have hl : (s.leaveWave q w).rdF (rOptWave q) 31 29 = 7 := State.rdF_wrF_same _ _ (by omega) (by omega) _
  have hb : (s.leaveWave q w).rdB (rOptWave q) (24 + w) = true :=
    (State.rdB_wrF_apart _ _ (by omega) (by omega) (by omega) _).trans (State.rdB_wrB_same _ _ (by omega) _)
  refine ⟨(h.field _ _ _ (portReg_wave hq) (by omega)).trans hl, (h.bit _ _ (portReg_wave hq) (by omega)).trans hb, ?_⟩
  obtain ⟨e, he⟩ := h.line q
  rw [he, State.leaveWave, State.port_badWave, State.port_setPort, if_pos rfl]

end Steps

/-! ### Port takeover -/

/-- The port at fault fails. -/
def State.failPort (s : State) (p : Nat) : State := if s.portState p = 5 then s else s.setPortState p 5

/-- A failed port's buffers and sequences go to another port. -/
def State.handPort (s : State) (p sp : Nat) : State := (s.setPort sp { s.port p with offer := none, dreq := none, nakRun := 0 }).setPort p {}

/-- A failed port's link and wavelengths go to another port. -/
def State.relink (s : State) (p sp l : Nat) : State :=
  let s := (s.wrF (rFabLink l) 5 0 sp).wrF (rFabPort p) 28 23 0x3F
  (s.wrF (rFabPort sp) 28 23 l).wrF (rOptWave sp) 31 24 (s.rdF (rOptWave p) 31 24)

/-- The spare port trains, and the takeover is logged. -/
def State.trainSpare (s : State) (p sp : Nat) : State :=
  (((s.setPortState sp (s.trainOr0 p)).upstreamLost p).spareUsed uPort p).event uPort 0 sp eFabTakeover

theorem State.portLink_lt {s : State} {p l : Nat} (h : s.portLink p = some l) : l < 48 := by
  unfold State.portLink at h
  dsimp only at h
  split at h
  · cases h
    assumption
  · cases h

section Takeover
variable (s : State) {p : Nat} (hp : p < 52)
include hp

theorem State.failPort_fails : (s.failPort p).portState p = 5 ∧ (s.failPort p).fab = s.fab
    ∧ (∀ o hi lo, portReg o → o ≠ rFabPort p ∨ hi < 29 → (s.failPort p).rdF o hi lo = s.rdF o hi lo) := by
  unfold State.failPort
  split
  · next h => exact ⟨h, rfl, fun _ _ _ _ _ => rfl⟩
  · refine ⟨s.portState_setPortState_self hp 5, s.setPortState_fab .., fun o hi lo ho hne => ?_⟩
    rcases hne with hne | hhi
    · exact s.rdF_setPortState_ne p 5 ho hne ..
    · exact s.rdF_setPortState_low p 5 ho hhi ..

theorem State.portLink_failPort : (s.failPort p).portLink p = s.portLink p := by
  rw [State.portLink, (s.failPort_fails hp).2.2 _ _ _ (portReg_port hp) (.inr (by omega)), State.portLink]

theorem State.portTakeover_moves {l : Nat} (hl : s.portLink p = some l) (hne : 13 * (p / 13) + 12 ≠ p) (hsp : s.portState (13 * (p / 13) + 12) = 7) :
    s.portTakeover p = (((s.failPort p).handPort p (13 * (p / 13) + 12)).relink p (13 * (p / 13) + 12) l).trainSpare p (13 * (p / 13) + 12) := by
  have h7 : (s.failPort p).portState (13 * (p / 13) + 12) = 7 :=
    ((s.failPort_fails hp).2.2 _ _ _ (portReg_port (by omega)) (.inl fun e => hne (rFabPort_inj e))).trans hsp
  have hl' := (s.portLink_failPort hp).trans hl
  unfold State.portTakeover
  change (match (s.failPort p).portLink p with | none => _ | some l => _) = _
  rw [hl']
  exact if_pos (Bool.and_eq_true_iff.mpr ⟨decide_eq_true hne, decide_eq_true h7⟩)

theorem State.portTakeover_exhausted {l : Nat} (hl : s.portLink p = some l) (hne : 13 * (p / 13) + 12 ≠ p) (hsp : s.portState (13 * (p / 13) + 12) ≠ 7) :
    s.portTakeover p = let u := ((s.failPort p).event uPort 3 p eFabSpareExhausted).noSpare uPort p
      if (u.port p).linkUp then u.linkLost p else u := by
  have h7 : (s.failPort p).portState (13 * (p / 13) + 12) ≠ 7 := fun h =>
    hsp (((s.failPort_fails hp).2.2 _ _ _ (portReg_port (by omega)) (.inl fun e => hne (rFabPort_inj e))).symm.trans h)
  have hl' := (s.portLink_failPort hp).trans hl
  unfold State.portTakeover
  change (match (s.failPort p).portLink p with | none => _ | some l => _) = _
  rw [hl']
  exact if_neg fun h => h7 (of_decide_eq_true (Bool.and_eq_true_iff.mp h).2)

theorem portTakeover_stops {l : Nat} (hl : s.portLink p = some l) (hne : 13 * (p / 13) + 12 ≠ p) (hsp : s.portState (13 * (p / 13) + 12) ≠ 7) :
    ∃ t, exec (.portTakeover p) s = .next t ∧ t.portState p = 5 ∧ (t.port p).linkUp = false := by
  refine ⟨_, congrArg Host.Outcome.next (s.portTakeover_exhausted hp hl hne hsp), ?_⟩
  have hu := (((s.failPort p).event_beside uPort 3 p eFabSpareExhausted).trans (State.noSpare_beside _ uPort p)).portState hp
  rw [(s.failPort_fails hp).1] at hu
  generalize ((s.failPort p).event uPort 3 p eFabSpareExhausted).noSpare uPort p = u at hu ⊢
  dsimp only
  split
  · exact ⟨((u.linkLost_beside p).portState hp).trans hu, by rw [u.port_linkLost]; rfl⟩
  · next h => exact ⟨hu, Bool.eq_false_iff.mpr h⟩

end Takeover

section Moved
variable (s : State) {p sp l : Nat} (hp : p < 52) (hsp : sp < 52) (hl : l < 48) (hne : sp ≠ p)

theorem State.handPort_keeps (p sp : Nat) : (s.handPort p sp).regs = s.regs ∧ (s.handPort p sp).bays = s.bays := ⟨rfl, rfl⟩

include hne in
theorem State.handPort_hands : (s.handPort p sp).port sp = { s.port p with offer := none, dreq := none, nakRun := 0 } := by
  rw [State.handPort, State.port_setPort, if_neg hne, State.port_setPort, if_pos rfl]

theorem State.relink_regsOnly (p sp l : Nat) : RegsOnly s (s.relink p sp l) :=
  ((((RegsOnly.refl s).wrF _ _ _ _).wrF _ _ _ _).wrF _ _ _ _).wrF _ _ _ _

theorem State.rdF_relink {o : Nat} (h1 : o ≠ rFabLink l) (h2 : o ≠ rOptWave sp) (hi lo : Nat) (h3 : (o ≠ rFabPort p ∧ o ≠ rFabPort sp) ∨ 28 < lo) :
    (s.relink p sp l).rdF o hi lo = s.rdF o hi lo := by
  have hport (u : State) (q v : Nat) (hq : o ≠ rFabPort q ∨ 28 < lo) : (u.wrF (rFabPort q) 28 23 v).rdF o hi lo = u.rdF o hi lo := by
    by_cases h : o = rFabPort q
    · subst h
      exact State.rdF_wrF_apart _ _ (by omega) (by omega) (.inr (hq.resolve_left fun h => h rfl)) _
    · exact State.rdF_wrF_ne _ _ h ..
  unfold State.relink
  dsimp only
  rw [State.rdF_wrF_ne _ _ h2, hport _ sp _ (h3.imp_left And.right), hport _ p _ (h3.imp_left And.left), State.rdF_wrF_ne _ _ h1]

theorem rFabLink_apart (hl : l < 48) (q : Nat) (hq : q < 52) : rFabLink l ≠ rFabPort q ∧ rFabLink l ≠ rOptWave q ∧ rFabPort q ≠ rFabLink l := by
  unfold rFabLink rFabPort rOptWave fabReg optReg
  omega

theorem rFabPort_ne_wave {q : Nat} (hq : q < 52) (r : Nat) : rFabPort q ≠ rOptWave r := by
  unfold rFabPort rOptWave fabReg optReg
  omega

include hp hsp hl in
theorem State.linkPort_relink : (s.relink p sp l).linkPort l = sp := by
  unfold State.relink State.linkPort
  dsimp only
  rw [State.rdF_wrF_ne _ _ (rFabLink_apart hl sp hsp).2.1, State.rdF_wrF_ne _ _ (rFabLink_apart hl sp hsp).1,
    State.rdF_wrF_ne _ _ (rFabLink_apart hl p hp).1, State.rdF_wrF_same _ _ (by omega) (by omega)]
  omega

include hp hne in
theorem State.portLink_relink_failed : (s.relink p sp l).portLink p = none := by
  have h : (s.relink p sp l).rdF (rFabPort p) 28 23 = 0x3F := by
    unfold State.relink
    dsimp only
    rw [State.rdF_wrF_ne _ _ (rFabPort_ne_wave hp _), State.rdF_wrF_ne _ _ (fun e => hne (rFabPort_inj e).symm), State.rdF_wrF_same _ _ (by omega) (by omega)]
    rfl
  rw [State.portLink, h]
  rfl

include hsp hl in
theorem State.portLink_relink_spare : (s.relink p sp l).portLink sp = some l := by
  have h : (s.relink p sp l).rdF (rFabPort sp) 28 23 = l := by
    unfold State.relink
    dsimp only
    rw [State.rdF_wrF_ne _ _ (rFabPort_ne_wave hsp _), State.rdF_wrF_same _ _ (by omega) (by omega)]
    omega
  rw [State.portLink, h]
  exact if_pos hl

include hp hsp hl in
theorem State.relink_keeps : (s.relink p sp l).portState p = s.portState p ∧ (s.relink p sp l).fed p = s.fed p := by
  refine ⟨s.rdF_relink (rFabLink_apart hl p hp).2.2 (rFabPort_ne_wave hp _) _ _ (.inr (by omega)), State.fed_congr (fun c hc hi lo _ => ?_) p⟩
  have h : rOptCart c ≠ rFabLink l ∧ rOptCart c ≠ rOptWave sp ∧ rOptCart c ≠ rFabPort p ∧ rOptCart c ≠ rFabPort sp := by
    unfold rOptCart rFabLink rFabPort rOptWave fabReg optReg
    omega
  exact s.rdF_relink h.1 h.2.1 hi lo (.inl h.2.2)

/-! ### The spare port after it -/

theorem State.rd_upstreamLost (p : Nat) {o : Nat} (ho : o ≠ rBeatStat) : (s.upstreamLost p).rd o = s.rd o := by
  unfold State.upstreamLost State.toHoldover
  split
  · exact (State.rd_wr_ne _ _ _ _ ho).trans (State.rd_wr_ne _ _ _ _ ho)
  split
  · exact State.rd_wr_ne _ _ _ _ ho
  · rfl

theorem State.trainSpare_beside (p sp : Nat) : Beside (s.setPortState sp (s.trainOr0 p)) (s.trainSpare p sp) :=
  ((State.upstreamLost_beside _ _).trans (State.spareUsed_beside _ _ _)).trans (State.event_beside _ _ _ _ _)

include hl hsp in
theorem State.linkPort_trainSpare (p : Nat) : (s.trainSpare p sp).linkPort l = s.linkPort l := by
  have hport := portReg_link hl
  have hbeat : rFabLink l ≠ rBeatStat := by
    unfold rFabLink rBeatStat fabReg beatReg
    omega
  have h1 := s.rdF_setPortState_ne sp (s.trainOr0 p) hport (rFabLink_apart hl sp hsp).1 5 0
  unfold State.trainSpare
  generalize s.setPortState sp (s.trainOr0 p) = u at h1 ⊢
  have h2 := u.rd_upstreamLost p hbeat
  have h3 := ((State.spareUsed_handled (u.upstreamLost p) uPort p).trans (.reported (State.event_reported _ uPort 0 sp eFabTakeover))).regs _
    (portReg_handled (.inl hport))
  rw [State.linkPort, State.rdF, h3, h2]
  exact h1

include hp hsp hne in
theorem State.trainSpare_trains : (s.trainSpare p sp).portState sp = s.trainOr0 p ∧ (s.trainSpare p sp).portState p = s.portState p
    ∧ (s.trainSpare p sp).portLink p = s.portLink p ∧ (s.trainSpare p sp).portLink sp = s.portLink sp
    ∧ ∃ e, (s.trainSpare p sp).port sp = { s.port sp with egress := e } := by
  have h := s.trainSpare_beside p sp
  refine ⟨?_, ?_, ?_, ?_, ?_⟩
  · rw [h.portState hsp, s.portState_setPortState_self hsp, Nat.mod_eq_of_lt State.trainOr0_lt]
  · rw [h.portState hp, s.portState_setPortState hp, if_neg hne.symm]
  · rw [h.portLink hp, s.portLink_setPortState _ _ hp]
  · rw [h.portLink hsp, s.portLink_setPortState _ _ hsp]
  · obtain ⟨e, he⟩ := h.line sp
    exact ⟨e, by rw [he, s.port_setPortState]⟩

end Moved

/-- A port's link has moved to the spare port of its engine. -/
def Moved (s t : State) (p sp l : Nat) : Prop :=
  t.linkPort l = sp ∧ t.portState sp = (if s.fed p then 1 else 0) ∧ t.portState p = 5 ∧ t.portLink p = none ∧ t.portLink sp = some l
    ∧ (t.port sp).replay = (s.port p).replay ∧ (t.port sp).txSeq = (s.port p).txSeq ∧ (t.port sp).rxSeq = (s.port p).rxSeq

theorem State.portTakeover_moved {s : State} {p l : Nat} (hp : p < 52) (hl : s.portLink p = some l) (hne : 13 * (p / 13) + 12 ≠ p)
    (hsp : s.portState (13 * (p / 13) + 12) = 7) : Moved s (s.portTakeover p) p (13 * (p / 13) + 12) l := by
  have hsp52 : 13 * (p / 13) + 12 < 52 := by omega
  have hl48 : l < 48 := State.portLink_lt hl
  obtain ⟨hf5, hffab, hfreg⟩ := s.failPort_fails hp
  rw [s.portTakeover_moves hp hl hne hsp]
  generalize 13 * (p / 13) + 12 = sp at hne hsp52 ⊢
  have hffed : (s.failPort p).fed p = s.fed p :=
    State.fed_congr (fun c hc hi lo _ => hfreg _ hi lo (portReg_cart hc) (.inl (rOptCart_apart c hp).2)) p
  have hfport : (s.failPort p).port p = s.port p := by rw [State.port, hffab, State.port]
  generalize s.failPort p = u at hf5 hffed hfport ⊢
  obtain ⟨hregs, -⟩ := u.handPort_keeps p sp
  have hhport := u.handPort_hands hne
  have hh5 : (u.handPort p sp).portState p = 5 := (State.rdF_of_regs hregs ..).trans hf5
  have hhfed : (u.handPort p sp).fed p = u.fed p := State.fed_congr (fun c _ hi lo _ => State.rdF_of_regs hregs ..) p
  generalize u.handPort p sp = v at hhport hh5 hhfed ⊢
  obtain ⟨hr5, hrfed⟩ := v.relink_keeps hp hsp52 hl48
  have hrport : (v.relink p sp l).port sp = v.port sp := by rw [State.port, (v.relink_regsOnly p sp l).fab, State.port]
  have hrl := v.linkPort_relink hp hsp52 hl48
  have hrp := v.portLink_relink_failed (l := l) hp hne
  have hrs := v.portLink_relink_spare (p := p) hsp52 hl48
  generalize v.relink p sp l = w at hr5 hrfed hrport hrl hrp hrs ⊢
  obtain ⟨ht1, ht2, ht3, ht4, e, ht5⟩ := w.trainSpare_trains hp hsp52 hne
  refine ⟨(w.linkPort_trainSpare hsp52 hl48 p).trans hrl, ?_, ht2.trans (hr5.trans hh5), ht3.trans hrp, ht4.trans hrs, ?_⟩
  · rw [ht1, State.trainOr0, hrfed, hhfed, hffed]
  · rw [ht5, hrport, hhport, hfport]
    exact ⟨rfl, rfl, rfl⟩

/-! ### Wavelengths -/

theorem State.carried_lt {s : State} {p w : Nat} (h : w ∈ s.carried p) : w < 5 := List.mem_range.mp (List.mem_of_mem_filter h)

theorem wavelengthTakeover_carried {s : State} {p lane w : Nat} (hst : s.portState p = 2 ∨ s.portState p = 3) (hw : (s.carried p)[lane]? = some w) :
    exec (.wavelengthTakeover p lane) s = .next (if s.idleWave p = 7 then s.portTakeover p else s.moveWave p w) := by
  have hrun : execWavelengthTakeover p lane s = .next (if s.idleWave p = 7 then s.portTakeover p else s.moveWave p w) := by
    unfold execWavelengthTakeover
    rw [if_neg (by rcases hst with h | h <;> simp [h]), hw]
  exact hrun

theorem wavelengthTakeover_moves {s : State} {p lane w : Nat} (hp : p < 52) (hst : s.portState p = 2 ∨ s.portState p = 3)
    (hw : (s.carried p)[lane]? = some w) (hidle : s.idleWave p ≠ 7) : ∃ t, exec (.wavelengthTakeover p lane) s = .next t ∧ t.idleWave p = 7
      ∧ t.rdB (rOptWave p) (24 + w) = true ∧ (t.port p).wcmd = some (1, w, s.idleWave p) :=
  ⟨_, (wavelengthTakeover_carried hst hw).trans (congrArg Host.Outcome.next (if_neg hidle)),
    s.moveWave_moves hp (State.carried_lt (List.mem_of_getElem? hw))⟩

/-! ### Planned swaps and margin scans -/

section Plan
variable (s : State)

theorem Beside.withBeat (x : Beat) : Beside s { s with beat := x } := .of_regs rfl rfl rfl
theorem Beside.withTest (x : Test) : Beside s { s with test := x } := .of_regs rfl rfl rfl

/-- The MCP's count of packets rises. -/
def State.countToken (s : State) : State :=
  { s with fab := { s.fab with dseq := tput (fun _ => 0) s.fab.dseq 2001 ((tget (fun _ => 0) s.fab.dseq 2001 + 1) % 2 ^ 16) } }

theorem State.mcpPkt_eq (kind dst group body : Nat) (data : List Byte) : s.mcpPkt kind dst group body data =
    (s.countToken.sendPkt (s.countToken.mkPkt kind 3 0 dst 0 group tagMcp (tget (fun _ => 0) s.fab.dseq 2001) body data),
      tget (fun _ => 0) s.fab.dseq 2001) := rfl

theorem State.countToken_beside : Beside s s.countToken := .of_regs rfl rfl rfl

theorem State.mcpPkt_beside (kind dst group body : Nat) (data : List Byte) : Beside s (s.mcpPkt kind dst group body data).1 := by
  rw [State.mcpPkt_eq]
  exact s.countToken_beside.trans (State.sendPkt_beside _ _)

theorem State.issueEvent_beside (ms : List (Nat × Nat)) (wide : Bool) (kind group : Nat) (n : W64) (ident : W32) (req : Option (Nat × W32)) :
    Beside s (s.issueEvent ms wide kind group n ident req) := by
  unfold State.issueEvent
  refine .foldl (fun s m => ?_) _ _
  dsimp only
  generalize hr : s.mcpPkt 4 m.1 group _ [] = r
  have h : Beside s r.1 := hr ▸ s.mcpPkt_beside ..
  exact h.trans (.withBeat ..)

theorem State.planSwap_beside (kind unit : Nat) : Beside s (s.planSwap kind unit) := by
  unfold State.planSwap
  split
  · exact .refl s
  · dsimp only
    unfold State.scheduleSwap
    exact (Beside.withTest s _).trans (State.issueEvent_beside ..)

theorem State.planCart_beside (h : Nat) : Beside s (s.planCart h) := by
  unfold State.planCart
  split
  · exact .refl s
  split
  · exact s.planSwap_beside ..
  · exact s.noSpare_beside ..

end Plan

theorem foldl_min_le (l : List Byte) (a : Nat) : l.foldl (fun (a : Nat) b => min a b.toNat) a ≤ a := by
  induction l generalizing a with
  | nil => exact Nat.le_refl a
  | cons b l ih => exact (ih _).trans (Nat.min_le_left ..)

/-- The scan's margins, and the moves that they call for. -/
def State.scanMargins (s : State) (p : Nat) (margins : List Byte) : State :=
  let low := (List.range 5).filter (fun k => decide ((margins.getD k 0xFF).toNat < 40))
  let u := (s.setPort p { s.port p with lowScan := low }).wrF (rOptWave p) 23 16 (margins.foldl (fun (m : Nat) b => min m b.toNat) 0xFF)
  (low.filter (fun k => (s.port p).lowScan.contains k && (u.carried p).contains k)).foldl (fun s k =>
    if s.idleWave p = 7 then s.noSpare uPort p else s.planSwap 3 (8 * p + k)) u

/-- The scan's laser bias, and the planned switch that it calls for. -/
def State.scanBias (s : State) (p top : Nat) : State :=
  match s.activeCart (wingOfPort p) with
  | none => s
  | some c => if 90 ≤ top then (s.wrF (rOptCart c) 15 8 top).planCart (wingOfPort p) else s.wrF (rOptCart c) 15 8 top

theorem State.marginScan_eq (s : State) (p : Nat) (margins bias : List Byte) : s.marginScan p margins bias =
    if s.rdF rFabCfg 15 8 = 0 then s else (s.scanMargins p margins).scanBias p (bias.foldl (fun (m : Nat) b => max m b.toNat) 0) := rfl

theorem State.scanMargins_worst (s : State) {p : Nat} (hp : p < 52) (margins : List Byte) :
    (s.scanMargins p margins).rdF (rOptWave p) 23 16 = margins.foldl (fun (a : Nat) b => min a b.toNat) 0xFF := by
  unfold State.scanMargins
  generalize (List.range 5).filter (fun k => decide ((margins.getD k 0xFF).toNat < 40)) = low
  dsimp only
  generalize s.setPort p { s.port p with lowScan := low } = u
  have hu : (u.wrF (rOptWave p) 23 16 (margins.foldl (fun (m : Nat) b => min m b.toNat) 0xFF)).rdF (rOptWave p) 23 16 =
      margins.foldl (fun (a : Nat) b => min a b.toNat) 0xFF := by
    rw [State.rdF_wrF_same _ _ (by omega) (by omega)]
    exact Nat.mod_eq_of_lt (by have := foldl_min_le margins 0xFF; omega)
  generalize u.wrF (rOptWave p) 23 16 (margins.foldl (fun (m : Nat) b => min m b.toNat) 0xFF) = v at hu ⊢
  refine ((Beside.foldl (fun s k => ?_) _ v).field _ _ _ (portReg_wave hp) (by omega)).trans hu
  split
  · exact s.noSpare_beside ..
  · exact s.planSwap_beside ..

theorem State.activeCart_le {s : State} {h c : Nat} (hc : s.activeCart h = some c) : c ≤ 3 := by
  have := List.mem_of_find?_eq_some hc
  simp only [List.mem_cons, List.not_mem_nil, or_false] at this
  omega

theorem State.scanBias_field (s : State) {p : Nat} (hp : p < 52) (top : Nat) : (s.scanBias p top).rdF (rOptWave p) 23 16 = s.rdF (rOptWave p) 23 16 := by
  unfold State.scanBias
  split
  · rfl
  · next c hc =>
    have hw : (s.wrF (rOptCart c) 15 8 top).rdF (rOptWave p) 23 16 = s.rdF (rOptWave p) 23 16 := State.rdF_wrF_ne _ _ (by
      have := State.activeCart_le hc
      unfold rOptWave rOptCart optReg
      omega) ..
    split
    · exact ((State.planCart_beside _ _).field _ _ _ (portReg_wave hp) (by omega)).trans hw
    · exact hw

theorem marginScan_scans {s : State} {p : Nat} (hp : p < 52) (m b : List Byte) (hon : s.rdF rFabCfg 15 8 ≠ 0) :
    ∃ t, exec (.marginScan p m b) s = .next t ∧ t.rdF (rOptWave p) 23 16 = m.foldl (fun (a : Nat) b => min a b.toNat) 0xFF := by
  refine ⟨_, congrArg Host.Outcome.next ((s.marginScan_eq p m b).trans (if_neg hon)), ?_⟩
  exact (State.scanBias_field _ hp _).trans (s.scanMargins_worst hp m)

/-! ### Cartridges -/

section Carts
variable (s : State) {c : Nat}

theorem State.bay_setBay (c d : Nat) (x : Bay) : (s.setBay c x).bay d = if d = c then x else s.bay d := tget_tput ..

/-- The register of a cartridge with a new state and half. -/
def State.setCartReg (s : State) (c st half : Nat) : State := (s.wrF (rOptCart c) 31 30 st).wrF (rOptCart c) 29 28 half

theorem State.setCart_eq (st half lamp : Nat) : s.setCart c st half lamp = (s.setCartReg c st half).setBay c { s.bay c with lamp } := rfl

theorem State.setCartReg_sets (c st half : Nat) : (s.setCartReg c st half).cartState c = st % 4
    ∧ (s.setCartReg c st half).rdF (rOptCart c) 29 28 = half % 4 :=
  ⟨(State.rdF_wrF_apart _ _ (by omega) (by omega) (by omega) _).trans (State.rdF_wrF_same _ _ (by omega) (by omega) _),
    State.rdF_wrF_same _ _ (by omega) (by omega) _⟩

theorem State.setCart_regs (c st half lamp : Nat) : (s.setCart c st half lamp).regs = (s.setCartReg c st half).regs := rfl

theorem State.setCart_sets (c st half lamp : Nat) : (s.setCart c st half lamp).cartState c = st % 4
    ∧ (s.setCart c st half lamp).rdF (rOptCart c) 29 28 = half % 4 := by
  obtain ⟨h1, h2⟩ := s.setCartReg_sets c st half
  have h := s.setCart_regs c st half lamp
  exact ⟨(State.rdF_of_regs h ..).trans h1, (State.rdF_of_regs h ..).trans h2⟩

theorem State.rd_setCart (st half lamp : Nat) {o : Nat} (ho : o ≠ rOptCart c) : (s.setCart c st half lamp).rd o = s.rd o := by
  have h : (s.setCart c st half lamp).rd o = (s.setCartReg c st half).rd o := by rw [State.rd, s.setCart_regs, State.rd]
  rw [h, State.setCartReg, State.wrF, State.rd_wr_ne _ _ _ _ ho, State.wrF, State.rd_wr_ne _ _ _ _ ho]

theorem State.bay_setCart (c st half lamp d : Nat) : (s.setCart c st half lamp).bay d = if d = c then { s.bay c with lamp } else s.bay d := by
  rw [State.setCart_eq, State.bay_setBay]
  rfl

theorem rOptCart_inj {c d : Nat} (hc : 1 ≤ c) (hd : 1 ≤ d) (h : c ≠ d) : rOptCart c ≠ rOptCart d := by
  unfold rOptCart optReg
  omega

/-- The ports of a half resend, and the takeover is logged: cartridges and bays stay. -/
theorem State.switchCart_fields (n h : Nat) : FieldsKept bayReg (s.setCart n 0 h 0) (s.switchCart n h)
    ∧ (s.switchCart n h).bays = (s.setCart n 0 h 0).bays := by
  unfold State.switchCart
  generalize s.setCart n 0 h 0 = u
  dsimp only
  obtain ⟨fab, hfab⟩ : FabOnly u ((halfPorts h).foldl (fun s p => if s.portState p = 2 then s.setPort p (s.port p).resendAll else s) u) :=
    FabOnly.foldl (fun s p => by
      split
      · exact ⟨_, rfl⟩
      · exact .refl s) _ u
  rw [hfab]
  generalize hv : ({ u with fab } : State) = v
  have hkept : FieldsKept bayReg u v ∧ v.bays = u.bays := by
    subst hv
    exact ⟨.of_regs rfl, rfl⟩
  suffices hb : Beside v (if n = 3 then (v.event uCart 0 n eFabTakeover).spareUsed uCart n else v.event uCart 0 n eFabTakeover) from
    ⟨hkept.1.trans (hb.fields fun _ => bayReg_port), hb.bays.trans hkept.2⟩
  split
  · exact (v.event_beside ..).trans (State.spareUsed_beside _ _ _)
  · exact v.event_beside ..

/-- A standby cartridge takes over a half from cartridge c. -/
theorem State.switchCart_takes {h : Nat} (hh : h < 4) (hc : c = 1 ∨ c = 2) : (s.switchCart 3 h).cartState 3 = 0
    ∧ (s.switchCart 3 h).rdF (rOptCart 3) 29 28 = h ∧ (s.switchCart 3 h).cartState c = s.cartState c ∧ (s.switchCart 3 h).bay c = s.bay c := by
  obtain ⟨hk, hb⟩ := s.switchCart_fields 3 h
  obtain ⟨h1, h2⟩ := s.setCart_sets 3 0 h 0
  refine ⟨(hk.cartState (by omega)).trans h1, (hk.half (by omega)).trans (h2.trans (Nat.mod_eq_of_lt hh)), ?_, ?_⟩
  · rw [hk.cartState (by omega), State.cartState, State.rdF, s.rd_setCart _ _ _ (rOptCart_inj (by omega) (by omega) (by omega)), State.cartState, State.rdF]
  · rw [State.bay, hb]
    exact (s.bay_setCart ..).trans (if_neg (by omega))

theorem optCartSwap_swaps (hc : c = 1 ∨ c = 2) (h0 : s.cartState c = 0) (h3 : s.cartState 3 = 1) : ∃ t, exec (.optCartSwap c) s = .next t
    ∧ t.cartState c = 1 ∧ t.cartState 3 = 0 ∧ t.rdF (rOptCart 3) 29 28 = s.rdF (rOptCart c) 29 28 := by
  have hlt := s.rdF_lt (rOptCart c) 29 28
  obtain ⟨h1, h2, h4, -⟩ := (s.setCart c 1 2 1).switchCart_takes (h := s.rdF (rOptCart c) 29 28) (by omega) hc
  have hne : c ≠ 3 := by omega
  exact ⟨_, congrArg Host.Outcome.next (if_pos (by simp [hne, h0, h3])), h4.trans (s.setCart_sets ..).1, h1, h2⟩

/-- The SMBus alert of a failed part. -/
def State.alertPart (s : State) : State := { s with pwr := { s.pwr with alert := s.pwr.alert ||| 4 } }

theorem State.alertPart_keeps : s.alertPart.regs = s.regs ∧ s.alertPart.bays = s.bays := ⟨rfl, rfl⟩

/-- A cartridge that fails, before its half is fed anew. -/
def State.loseCart (s : State) (c : Nat) : State := (s.setCart c 2 2 3).alertPart

theorem State.loseCart_keeps (c : Nat) : (s.loseCart c).regs = (s.setCart c 2 2 3).regs ∧ (s.loseCart c).bays = (s.setCart c 2 2 3).bays :=
  State.alertPart_keeps _

theorem State.loseCart_loses (c : Nat) : (s.loseCart c).cartState c = 2 ∧ ((s.loseCart c).bay c).lamp = 3 := by
  obtain ⟨hregs, hbays⟩ := s.loseCart_keeps c
  refine ⟨(State.rdF_of_regs hregs ..).trans (s.setCart_sets ..).1, ?_⟩
  rw [State.bay, hbays]
  exact congrArg Bay.lamp ((s.bay_setCart ..).trans (if_pos rfl))

theorem State.rd_loseCart {o : Nat} (ho : o ≠ rOptCart c) : (s.loseCart c).rd o = s.rd o := by
  rw [State.rd, (s.loseCart_keeps c).1]
  exact s.rd_setCart _ _ _ ho

theorem cartridgeFault_feeds (h0 : s.cartState c = 0) :
    exec (.cartridgeFault c) s = .next ((s.loseCart c).feedHalf c (s.rdF (rOptCart c) 29 28)) := by
  have hrun : s.cartFault c = (s.loseCart c).feedHalf c (s.rdF (rOptCart c) 29 28) := by
    unfold State.cartFault
    dsimp only
    rw [if_neg (by omega), if_pos h0]
    rfl
  exact congrArg Host.Outcome.next hrun

theorem cartridgeFault_switches (hc : c = 1 ∨ c = 2) (h0 : s.cartState c = 0) (h3 : s.cartState 3 = 1) : ∃ t, exec (.cartridgeFault c) s = .next t
    ∧ t.cartState c = 2 ∧ t.cartState 3 = 0 ∧ t.rdF (rOptCart 3) 29 28 = s.rdF (rOptCart c) 29 28 ∧ (t.bay c).lamp = 3 := by
  have hlt := s.rdF_lt (rOptCart c) 29 28
  refine ⟨_, cartridgeFault_feeds s h0, ?_⟩
  obtain ⟨hl1, hl2⟩ := s.loseCart_loses c
  have hl3 : (s.loseCart c).cartState 3 = 1 := by
    rw [State.cartState, State.rdF, s.rd_loseCart (rOptCart_inj (by omega) (by omega) (by omega))]
    exact h3
  generalize s.loseCart c = u at hl1 hl2 hl3 ⊢
  generalize s.rdF (rOptCart c) 29 28 = h at hlt ⊢
  have hrun : u.feedHalf c h = u.switchCart 3 h := by
    have hfind : u.standbyCart h = some 3 := by simp [State.standbyCart, hl3]
    rw [State.feedHalf, hfind]
  obtain ⟨h1, h2, h4, h5⟩ := u.switchCart_takes (h := h) (by omega) hc
  rw [hrun]
  exact ⟨h4.trans hl1, h1, h2, (congrArg Bay.lamp h5).trans hl2⟩

end Carts

/-! ### A half without light -/

/-- The ports of a half are few enough for their registers to stay apart. -/
theorem mem_halfPorts {h q : Nat} : q ∈ halfPorts h ↔ 26 * h ≤ q ∧ q < 26 * h + 26 := by
  unfold halfPorts span
  simp only [List.mem_map, List.mem_range]
  constructor
  · rintro ⟨k, hk, rfl⟩
    omega
  · exact fun ⟨h1, h2⟩ => ⟨q - 26 * h, by omega, by omega⟩

/-- One port of a half that lost its light. -/
def State.darken (s : State) (p : Nat) : State :=
  if (s.portLink p).isSome && (s.portState p = 1 || s.portState p = 2 || s.portState p = 3) then s.linkDown p else s

section Half
variable {s : State} {p h : Nat}

theorem State.darken_fields {P : Nat → Prop} (hP : ∀ o, P o → portReg o) {q : Nat} (hq : ¬ P (rFabPort q)) : FieldsKept P s (s.darken q) := by
  unfold State.darken
  split
  · exact s.linkDown_fields hP hq
  · exact .refl s

theorem State.linkUp_darken {q : Nat} (hne : p ≠ q) : ((s.darken q).port p).linkUp = (s.port p).linkUp := by
  unfold State.darken
  split
  · exact s.linkUp_linkDown hne
  · rfl

theorem State.halfDown_downs (hp : p < 52) (hh : h < 4) (hin : p ∈ halfPorts h) (hst : s.portState p = 1 ∨ s.portState p = 2 ∨ s.portState p = 3)
    (hl : s.portLink p ≠ none) : (s.halfDown h).portState p = 0 ∧ ((s.halfDown h).port p).linkUp = false := by
  refine foldl_reaches (P := fun t => (t.portState p = 1 ∨ t.portState p = 2 ∨ t.portState p = 3) ∧ t.portLink p ≠ none)
    (Q := fun t => t.portState p = 0 ∧ (t.port p).linkUp = false) (f := State.darken) (fun t q hq hne => ?_) (fun t ⟨hst, hl⟩ => ?_) (fun t ht => ?_)
    hin s ⟨hst, hl⟩
  · have hk : FieldsKept (ownReg p) t (t.darken q) :=
      t.darken_fields (fun _ => ownReg_port hp) (ownReg_apart hp (by have := mem_halfPorts.mp hq; omega) hne).1
    exact ⟨fun ⟨hst, hl⟩ => ⟨hk.portState.symm ▸ hst, hk.portLink.symm ▸ hl⟩,
      fun ⟨h0, hup⟩ => ⟨hk.portState.trans h0, (State.linkUp_darken hne.symm).trans hup⟩⟩
  · obtain ⟨h0, hport⟩ := t.linkDown_downs hp
    have hrun : t.darken p = t.linkDown p := if_pos (by simp [Option.isSome_iff_ne_none, hl, hst, or_assoc])
    rw [hrun]
    exact ⟨h0, by rw [hport]; rfl⟩
  · have hrun : t.darken p = t := if_neg (by simp [ht.1])
    rwa [hrun]

theorem State.halfDown_fields (hh : h < 4) : FieldsKept bayReg s (s.halfDown h) :=
  .foldl_mem (f := State.darken) (fun q hq s => s.darken_fields (fun _ => bayReg_port) (bayReg_apart (by have := mem_halfPorts.mp hq; omega)).1) s

theorem State.standbyCart_loseCart {c : Nat} (hc : 1 ≤ c) (hnone : s.standbyCart h = none) : (s.loseCart c).standbyCart h = none := by
  have hd (d : Nat) (hd : d ∈ [3, h + 1]) : s.cartState d ≠ 1 := by simpa using List.find?_eq_none.mp hnone d hd
  refine List.find?_eq_none.mpr fun d hmem => ?_
  have hst : (s.loseCart c).cartState d ≠ 1 := by
    by_cases e : d = c
    · rw [e, (s.loseCart_loses c).1]
      decide
    · have h1 : 1 ≤ d := by
        simp only [List.mem_cons, List.not_mem_nil, or_false] at hmem
        omega
      rw [State.cartState, State.rdF, s.rd_loseCart (rOptCart_inj h1 hc e)]
      exact hd d hmem
  simpa using hst

theorem cartridgeFault_darkens {c : Nat} (hp : p < 52) (hc : c = 1 ∨ c = 2 ∨ c = 3) (h0 : s.cartState c = 0) (hh : s.rdF (rOptCart c) 29 28 = h)
    (hhalf : h = p / 26) (hnone : s.standbyCart h = none) : ∃ t, exec (.cartridgeFault c) s = .next t ∧ t.cartState c = 2
      ∧ ((s.portState p = 1 ∨ s.portState p = 2 ∨ s.portState p = 3) → s.portLink p ≠ none → t.portState p = 0 ∧ (t.port p).linkUp = false) := by
  refine ⟨_, cartridgeFault_feeds s h0, ?_⟩
  rw [hh]
  have hnone' := State.standbyCart_loseCart (s := s) (c := c) (by omega) hnone
  have hreg : rFabPort p ≠ rOptCart c := by
    unfold rFabPort rOptCart fabReg optReg
    omega
  have hrd := s.rd_loseCart hreg
  have hst : (s.loseCart c).portState p = s.portState p := by rw [State.portState, State.rdF, hrd, State.portState, State.rdF]
  have hl : (s.loseCart c).portLink p = s.portLink p := by rw [State.portLink, State.rdF, hrd, State.portLink, State.rdF]
  have h2 := (s.loseCart_loses c).1
  generalize s.loseCart c = u at hnone' hst hl h2 ⊢
  have hrun : u.feedHalf c h = (u.noSpare uCart c).halfDown h := by rw [State.feedHalf, hnone']
  rw [hrun]
  have hb := u.noSpare_beside uCart c
  have h2' := ((hb.fields fun _ => bayReg_port).cartState (by omega)).trans h2
  have hst' := (hb.portState hp).trans hst
  have hl' := (hb.portLink hp).trans hl
  generalize u.noSpare uCart c = v at h2' hst' hl' ⊢
  have hin : p ∈ halfPorts h := mem_halfPorts.mpr (by omega)
  exact ⟨((State.halfDown_fields (s := v) (by omega)).cartState (by omega)).trans h2',
    fun h1 h2 => State.halfDown_downs hp (by omega) hin (by rw [hst']; exact h1) (by rw [hl']; exact h2)⟩

/-! ### A wavelength whose laser failed -/

/-- One port of a half that loses wavelength k. -/
def State.dropWave (k : Nat) (s : State) (p : Nat) : State :=
  if (s.portLink p).isNone || !(s.carried p).contains k then s
  else if s.idleWave p ≠ 7 then s.moveWave p k
  else if s.portState p = 1 || s.portState p = 2 || s.portState p = 3 then ((s.event uPort 3 p eFabSpareExhausted).noSpare uPort p).linkDown p
  else s

theorem State.laserFail_eq (s : State) (c k : Nat) : s.laserFail c k =
    if s.cartState c = 0 then ((halfPorts (s.rdF (rOptCart c) 29 28)).foldl (State.dropWave k) (s.wrB (rOptCart c) (23 + k) false)).planCart
      (s.rdF (rOptCart c) 29 28)
    else s.wrB (rOptCart c) (23 + k) false := by
  unfold State.laserFail
  by_cases h : s.cartState c = 0
  · simp only [h, decide_true, Bool.not_true, Bool.false_eq_true, if_false, if_true]
    rfl
  · simp only [h, decide_false, Bool.not_false, if_true, if_false]

theorem State.dropWave_fields {P : Nat → Prop} (hP : ∀ o, P o → portReg o) (k : Nat) {q : Nat} (hq : ¬ P (rFabPort q) ∧ ¬ P (rOptWave q)) :
    FieldsKept P s (s.dropWave k q) := by
  unfold State.dropWave
  split
  · exact .refl s
  split
  · exact s.moveWave_fields hP hq.2 k
  split
  · exact (((s.event_beside ..).trans (State.noSpare_beside _ _ _)).fields hP).trans (State.linkDown_fields _ hP hq.1)
  · exact .refl s

theorem State.dropWave_drops {k : Nat} (hp : p < 52) (hk : k < 5) (hh : h < 4) (hin : p ∈ halfPorts h) (hl : s.portLink p ≠ none)
    (hcar : (s.carried p).contains k = true) (hidle : s.idleWave p ≠ 7) : ((halfPorts h).foldl (State.dropWave k) s).idleWave p = 7
      ∧ ((halfPorts h).foldl (State.dropWave k) s).rdB (rOptWave p) (24 + k) = true := by
  refine foldl_reaches (P := fun t => t.portLink p ≠ none ∧ (t.carried p).contains k = true ∧ t.idleWave p ≠ 7)
    (Q := fun t => t.idleWave p = 7 ∧ t.rdB (rOptWave p) (24 + k) = true) (fun t q hq hne => ?_) (fun t ⟨hl, hcar, hidle⟩ => ?_) (fun t ht => ?_)
    hin s ⟨hl, hcar, hidle⟩
  · have hk : FieldsKept (ownReg p) t (t.dropWave k q) :=
      t.dropWave_fields (fun _ => ownReg_port hp) k (ownReg_apart hp (by have := mem_halfPorts.mp hq; omega) hne)
    rw [hk.portLink, hk.carried, hk.idleWave, hk.bit _ _ (.inr rfl) (Nat.add_pos_left (by decide : 0 < 24) _)]
    exact ⟨id, id⟩
  · have hrun : t.dropWave k p = t.moveWave p k := by
      unfold State.dropWave
      rw [if_neg (by simpa [Option.isNone_iff_eq_none, hl] using hcar), if_pos hidle]
    obtain ⟨h1, h2, -⟩ := t.moveWave_moves hp hk
    rw [hrun]
    exact ⟨h1, h2⟩
  · have hrun : t.dropWave k p = t := if_pos (by simp [State.carried, ht.2])
    rwa [hrun]

theorem laserFail_leaves {c k : Nat} (hp : p < 52) (hc : c = 1 ∨ c = 2 ∨ c = 3) (hk : k < 5) :
    (∃ t, exec (.laserFail c k) s = .next t ∧ t.rdB (rOptCart c) (23 + k) = false
      ∧ (s.cartState c = 0 → s.rdF (rOptCart c) 29 28 = p / 26 → s.portLink p ≠ none → (s.carried p).contains k = true → s.idleWave p ≠ 7 →
          t.idleWave p = 7 ∧ t.rdB (rOptWave p) (24 + k) = true))
      ∧ (s.cartState c ≠ 0 → exec (.laserFail c k) s = .next (s.wrB (rOptCart c) (23 + k) false)) := by
  have hrun := s.laserFail_eq c k
  have hlt := s.rdF_lt (rOptCart c) 29 28
  generalize s.rdF (rOptCart c) 29 28 = h at hlt hrun ⊢
  have hbit : (s.wrB (rOptCart c) (23 + k) false).rdB (rOptCart c) (23 + k) = false := State.rdB_wrB_same _ _ (by omega) _
  have hkept : FieldsKept (ownReg p) s (s.wrB (rOptCart c) (23 + k) false) := .wr s (by
    unfold ownReg rFabPort rOptWave rOptCart fabReg optReg
    omega) _
  by_cases h0 : s.cartState c = 0
  · rw [if_pos h0] at hrun
    refine ⟨⟨_, congrArg Host.Outcome.next hrun, ?_⟩, fun hne => absurd h0 hne⟩
    generalize s.wrB (rOptCart c) (23 + k) false = u at hbit hkept ⊢
    have hfold : FieldsKept bayReg u ((halfPorts h).foldl (State.dropWave k) u) :=
      .foldl_mem (fun q hq s => s.dropWave_fields (fun _ => bayReg_port) k (bayReg_apart (by have := mem_halfPorts.mp hq; omega))) u
    have hplan := State.planCart_beside ((halfPorts h).foldl (State.dropWave k) u) h
    refine ⟨?_, fun _ hhalf hl hcar hidle => ?_⟩
    · rw [hplan.bit _ _ (portReg_cart (by omega)) (by omega), hfold.bit _ _ ⟨c, by omega, rfl⟩ (by omega), hbit]
    · obtain ⟨h1, h2⟩ := State.dropWave_drops (s := u) hp hk (by omega) (mem_halfPorts.mpr (by omega) : p ∈ halfPorts h) (by rw [hkept.portLink]; exact hl)
        (by rw [hkept.carried]; exact hcar) (by rw [hkept.idleWave]; exact hidle)
      exact ⟨(hplan.field _ _ _ (portReg_wave hp) (by omega)).trans h1, (hplan.bit _ _ (portReg_wave hp) (by omega)).trans h2⟩
  · rw [if_neg h0] at hrun
    exact ⟨⟨_, congrArg Host.Outcome.next hrun, hbit, fun h => absurd h h0⟩, fun _ => congrArg Host.Outcome.next hrun⟩

end Half

/-! ### Detours -/

theorem detourWrite_detours (s : State) {x : Nat} (v : BitVec 32) (d : Bool) (hx : x < 64) : ∃ t, exec (.detourWrite x v d) s = .next t
    ∧ t.rdB (rFabRoute x) 31 = (bitAt v 31 && (s.rdB (rFabRoute x) 31 || (d && !s.linkUp (bf v 5 0)))) := by
  refine ⟨_, rfl, ?_⟩
  rw [(State.routesChanged_beside _).detour _ (routeReg_route hx), State.rdB, State.rd_wr_self, bitAt_bitSet (by omega), if_pos rfl]
  rfl

/-- Settles O42: a takeover's own change is read off it, and what follows elsewhere stays beside it. -/
theorem fabricSpares : Obligations.FabricSpares := by
  unfold Obligations.FabricSpares
  intro s p hp sp moved left
  refine ⟨fun l hl hne hsp => ?_, fun l hl hsp hne => portTakeover_stops s hp hl hne hsp, fun lane w hst hw hidle => wavelengthTakeover_moves hp hst hw hidle,
    fun lane w hst hw hidle => (wavelengthTakeover_carried hst hw).trans (congrArg Host.Outcome.next (if_pos hidle)),
    fun lane h2 h3 => congrArg Host.Outcome.next (if_pos (by simp [h2, h3])), fun m b hon => marginScan_scans hp m b hon,
    fun m b hoff => congrArg Host.Outcome.next (if_pos hoff), fun c hc h0 h3 => ⟨cartridgeFault_switches s hc h0 h3, optCartSwap_swaps s hc h0 h3⟩,
    fun c h3 => congrArg Host.Outcome.next (if_neg (by simp [h3])), fun c h hc h0 hh hhalf hnone => cartridgeFault_darkens hp hc h0 hh hhalf hnone,
    fun c k hc hk => laserFail_leaves hp hc hk, fun x v d hx => detourWrite_detours s v d hx⟩
  have hmoved := State.portTakeover_moved hp hl hne hsp
  exact ⟨⟨_, rfl, hmoved⟩, _, rfl, hmoved⟩

end Sys2Proof.Machine
end

section
/-! PROOFS. Power requests (R597 to R601, R604, R608, R611, R616, R619, R620): what they touch, and what they ask for. -/

namespace Sys2Proof.Machine

/-! ### What the governing of power may touch -/

/-- What profiles, their scheduling and their reports may touch: power, the beat unit's events, the fabric, and what reports and traces may. -/
def PowerOnly (s t : State) : Prop :=
  t = { s with
    fab := t.fab, beat := t.beat, pwr := t.pwr
    regs := t.regs, mem := t.mem, ecc := t.ecc, cores := t.cores, memx := t.memx, cnt := t.cnt, reports := t.reports, rseq := t.rseq
    host := { s.host with err := t.host.err, irqs := t.host.irqs, rates := t.host.rates, mem := t.host.mem } }

theorem PowerOnly.trans {s t u : State} (h : PowerOnly s t) (h' : PowerOnly t u) : PowerOnly s u := by
  unfold PowerOnly at *
  rw [h']
  rw [h]

theorem MemOnly.power {s t : State} (h : MemOnly s t) : PowerOnly s t := by
  unfold MemOnly at h
  unfold PowerOnly
  rw [h]

theorem rPwrStat_not_handled : ¬ handledReg rPwrStat := by
  unfold handledReg rPwrStat pwrReg rMemChan memReg
  omega

/-- t is s after power was governed: the policy and the level of SITE_POWER_N stay. -/
structure Governed (s t : State) : Prop where
  only : PowerOnly s t
  policy : t.pwr.policy = s.pwr.policy
  site : t.rdB rPwrStat 28 = s.rdB rPwrStat 28

namespace Governed
variable {s t u : State}

theorem of_regs (honly : PowerOnly s t) (hpol : t.pwr.policy = s.pwr.policy) (hregs : t.regs = s.regs) : Governed s t :=
  ⟨honly, hpol, State.rdB_of_regs hregs ..⟩

theorem refl (s : State) : Governed s s := of_regs rfl rfl rfl

theorem trans (h : Governed s t) (h' : Governed t u) : Governed s u := ⟨h.only.trans h'.only, h'.policy.trans h.policy, h'.site.trans h.site⟩

theorem handled (h : Handled s t) : Governed s t := by
  have honly := h.only
  refine ⟨honly.power, ?_, ?_⟩
  · rw [honly]
  · rw [State.rdB, h.regs _ rPwrStat_not_handled, State.rdB]

theorem reported (h : Reported s t) : Governed s t := .handled (.reported h)

theorem fab (h : FabOnly s t) : Governed s t := by
  obtain ⟨_, rfl⟩ := h
  exact of_regs rfl rfl rfl

theorem withBeat (s : State) (x : Beat) : Governed s { s with beat := x } := of_regs rfl rfl rfl

theorem withPwr (s : State) (x : Power) (hx : x.policy = s.pwr.policy) : Governed s { s with pwr := x } := of_regs rfl hx rfl

theorem wrF (s : State) {hi lo : Nat} (hlo : lo ≤ hi) (hhi : hi < 32) (h : 28 < lo ∨ hi < 28) (v : Nat) : Governed s (s.wrF rPwrStat hi lo v) :=
  ⟨rfl, rfl, State.rdB_wrF_apart _ _ hlo hhi h v⟩

theorem wrB (s : State) {i : Nat} (hi : i < 32) (h : 28 ≠ i) (b : Bool) : Governed s (s.wrB rPwrStat i b) := ⟨rfl, rfl, State.rdB_wrB_ne _ _ hi h b⟩

theorem foldl {α : Type} {f : State → α → State} (h : ∀ s a, Governed s (f s a)) (l : List α) (s : State) : Governed s (l.foldl f s) := by
  induction l generalizing s with
  | nil => exact .refl s
  | cons a l ih => exact (h s a).trans (ih _)

end Governed

section Effects
variable (s : State)

theorem State.mcpPkt_fabOnly (kind dst group body : Nat) (data : List Byte) : FabOnly s (s.mcpPkt kind dst group body data).1 := by
  rw [State.mcpPkt_eq]
  exact .trans (t := s.countToken) ⟨_, rfl⟩ (State.sendPkt_only _ _)

theorem State.toMaster_fabOnly (b : List Byte) : FabOnly s (s.toMaster b) := by
  unfold State.toMaster
  split
  · exact s.mcpPkt_fabOnly ..
  · exact .refl s

/-- What is sent to members touches the fabric and the list of what was sent. -/
theorem State.issueEvent_only (ms : List (Nat × Nat)) (wide : Bool) (kind group : Nat) (n : W64) (ident : W32) (req : Option (Nat × W32)) :
    ∃ fab issued, s.issueEvent ms wide kind group n ident req = { s with fab, beat := { s.beat with issued } } := by
  unfold State.issueEvent
  generalize (ms.find? (fun m => m.1 = s.maddr)).map (·.2) = own
  dsimp only
  induction ms generalizing s with
  | nil => exact ⟨_, _, rfl⟩
  | cons m ms ih =>
    rw [List.foldl_cons]
    obtain ⟨fab, issued, h⟩ := ih _
    rw [h]
    generalize hr : s.mcpPkt 4 m.1 group _ [] = r
    obtain ⟨_, hf⟩ : FabOnly s r.1 := hr ▸ s.mcpPkt_fabOnly ..
    rw [hf]
    exact ⟨_, _, rfl⟩

/-- A decision schedules at most one profile. -/
theorem State.decideProfile_only : ∃ fab issued lastSched, s.decideProfile =
    { s with fab, beat := { s.beat with issued }, pwr := { s.pwr with lastSched } } := by
  unfold State.decideProfile
  dsimp only
  split
  · exact ⟨_, _, _, rfl⟩
  · obtain ⟨fab, issued, h⟩ := State.issueEvent_only ({ s with pwr := { s.pwr with lastSched := some (_, _) } } : State) s.powerGroup true 4
      s.pwr.policy.pgroup _ _ none
    exact ⟨_, _, _, h⟩

theorem State.decideProfile_governed : Governed s s.decideProfile := by
  obtain ⟨fab, issued, lastSched, h⟩ := s.decideProfile_only
  rw [h]
  exact .of_regs rfl rfl rfl

/-- The reports of SITE_POWER_N that the master has heard, with one more. -/
def State.heardSite (s : State) (src : Nat) (on : Bool) : List Nat :=
  if on then s.pwr.asserted.filter (· ≠ src) ++ [src] else s.pwr.asserted.filter (· ≠ src)

/-- The state of the master that heard a report. -/
def State.hearSite (s : State) (src : Nat) (on : Bool) : State := { s with pwr := { s.pwr with asserted := s.heardSite src on } }

theorem State.siteReport_master (src : Nat) (on : Bool) (h : s.beatSt = 4) : s.siteReport src on = (s.hearSite src on).decideProfile :=
  if_neg (not_not.mpr h)

theorem State.hearSite_governed (src : Nat) (on : Bool) : Governed s (s.hearSite src on) := .withPwr s _ rfl

theorem State.siteReport_governed (src : Nat) (on : Bool) : Governed s (s.siteReport src on) := by
  by_cases h : s.beatSt = 4
  · rw [s.siteReport_master src on h]
    exact (s.hearSite_governed src on).trans (State.decideProfile_governed _)
  · have hrun : s.siteReport src on = s := if_pos h
    rw [hrun]
    exact .refl s

theorem State.sendSite_governed : Governed s s.sendSite := by
  unfold State.sendSite
  dsimp only
  split
  · exact s.siteReport_governed ..
  · exact .fab (s.toMaster_fabOnly _)

theorem State.setClk_governed (f : Nat) : Governed s (s.setClk f) := by
  unfold State.setClk
  dsimp only
  have h : Governed s ((s.wrF rPwrStat 15 0 (min f (profClk s.profile))).wrB rPwrStat 25 (f < profClk s.profile)) :=
    (Governed.wrF s (by omega) (by omega) (by omega) _).trans (.wrB _ (by omega) (by omega) _)
  generalize (s.wrF rPwrStat 15 0 (min f (profClk s.profile))).wrB rPwrStat 25 (f < profClk s.profile) = u at h ⊢
  split
  · exact h
  · exact h.trans (.withPwr u _ rfl)

theorem State.applyProfile_governed (code : Nat) : Governed s (s.applyProfile code) := by
  unfold State.applyProfile
  dsimp only
  generalize hu : (if s.profile < code % 4 then _ else s : State) = u
  have h : Governed s u := by
    subst hu
    split
    · exact .withPwr s _ rfl
    · exact .refl s
  exact ((h.trans (.wrF u (by omega) (by omega) (by omega) _)).trans (State.setClk_governed _ _)).trans (.handled (State.traceModule_handled ..))

theorem State.applyOwn_governed : Governed s s.applyOwn := by
  unfold State.applyOwn
  dsimp only
  split
  · exact s.applyProfile_governed _
  · exact .refl s

end Effects

/-! ### SITE_POWER_N and its reports -/

section Site
variable {s : State}

theorem sitePowerN_shows (on : Bool) : ∃ t, exec (.sitePowerN on) s = .next t ∧ t.rdB rPwrStat 28 = on ∧ t.threads = s.threads := by
  refine ⟨_, rfl, ?_⟩
  have hset : (s.wrB rPwrStat 28 on).rdB rPwrStat 28 = on := State.rdB_wrB_same _ _ (by omega) _
  have hthr : (s.wrB rPwrStat 28 on).threads = s.threads := rfl
  generalize s.wrB rPwrStat 28 on = u at hset hthr ⊢
  have h := u.sendSite_governed.trans (State.applyOwn_governed _)
  refine ⟨h.site.trans hset, ?_⟩
  have honly := h.only
  unfold PowerOnly at honly
  rw [honly]
  exact hthr

theorem State.asserted_decideProfile (s : State) : s.decideProfile.pwr.asserted = s.pwr.asserted := by
  obtain ⟨fab, issued, lastSched, h⟩ := s.decideProfile_only
  rw [h]

theorem sitePowerReport_hears (hst : s.beatSt = 4) : ∃ t, exec .sitePowerReport s = .next t
    ∧ t.pwr.asserted = s.pwr.asserted.filter (· ≠ s.maddr) ++ (if s.rdB rPwrStat 28 then [s.maddr] else []) := by
  have hrun : s.sendSite = (s.hearSite s.maddr (s.rdB rPwrStat 28)).decideProfile := by
    unfold State.sendSite
    dsimp only
    rw [if_pos hst, s.siteReport_master _ _ hst]
  refine ⟨_, congrArg Host.Outcome.next hrun, (State.asserted_decideProfile _).trans ?_⟩
  unfold State.hearSite State.heardSite
  split
  · rfl
  · exact (List.append_nil _).symm

theorem sitePowerReport_quiet (h : s.disciplined = false) : exec .sitePowerReport s = .next s := by
  have hst : s.beatSt ≠ 4 := fun e => by simp [State.disciplined, e] at h
  have hrun : s.sendSite = s := by
    unfold State.sendSite State.toMaster
    dsimp only
    rw [if_neg hst, if_neg (ne_true_of_eq_false h)]
  exact congrArg Host.Outcome.next hrun

theorem profileDecision_decides (src : Nat) (on : Bool) (hst : s.beatSt = 4) : ∃ t, exec (.profileDecision src on) s = .next t
    ∧ t.pwr.asserted = s.pwr.asserted.filter (· ≠ src) ++ (if on then [src] else [])
    ∧ (s.pwr.lastSched = none → s.wantProfile (!(s.pwr.asserted.filter (· ≠ src) ++ (if on then [src] else [])).isEmpty) ≠ s.profile →
        ∃ n, t.pwr.lastSched = some (s.wantProfile (!(s.pwr.asserted.filter (· ≠ src) ++ (if on then [src] else [])).isEmpty), n)
          ∧ s.now + BitVec.ofNat 64 (max s.pwr.policy.plead s.lead) = n) := by
  have hheard : s.heardSite src on = s.pwr.asserted.filter (· ≠ src) ++ (if on then [src] else []) := by
    unfold State.heardSite
    split
    · rfl
    · exact (List.append_nil _).symm
  refine ⟨_, congrArg Host.Outcome.next (s.siteReport_master src on hst), (State.asserted_decideProfile _).trans hheard, ?_⟩
  rw [← hheard]
  intro hnone hwant
  have hpwr : (s.hearSite src on).pwr = { s.pwr with asserted := s.heardSite src on } := rfl
  have hregs : (s.hearSite src on).regs = s.regs := rfl
  have hbeat : (s.hearSite src on).beat = s.beat := rfl
  generalize s.hearSite src on = u at hpwr hregs hbeat ⊢
  have hu4 : u.beatSt = 4 := (State.rdF_of_regs hregs ..).trans hst
  have hprof : u.profile = s.profile := State.rdF_of_regs hregs ..
  have hwp : u.wantProfile (!u.pwr.asserted.isEmpty) = s.wantProfile (!(s.heardSite src on).isEmpty) := by
    unfold State.wantProfile
    rw [hpwr]
  have hlast : u.pwr.lastSched = none := by rw [hpwr]; exact hnone
  have hn : u.now + BitVec.ofNat 64 (max u.pwr.policy.plead u.lead) = s.now + BitVec.ofNat 64 (max s.pwr.policy.plead s.lead) := by
    have hlead : u.lead = s.lead := congrArg (max 8) (State.rdF_of_regs hregs ..)
    rw [State.now, hbeat, hpwr, hlead, State.now]
  refine ⟨_, ?_, rfl⟩
  unfold State.decideProfile
  dsimp only
  rw [hwp, hn, if_neg (by simp [hu4, hlast, hprof, Ne.symm hwant])]
  obtain ⟨fab, issued, h⟩ := State.issueEvent_only ({ u with pwr := { u.pwr with
    lastSched := some (s.wantProfile (!(s.heardSite src on).isEmpty), s.now + BitVec.ofNat 64 (max s.pwr.policy.plead s.lead)) } } : State)
    u.powerGroup true 4 u.pwr.policy.pgroup (s.now + BitVec.ofNat 64 (max s.pwr.policy.plead s.lead))
    (BitVec.ofNat 32 (s.wantProfile (!(s.heardSite src on).isEmpty))) none
  rw [h]

end Site

/-! ### Standby takeovers -/

theorem rHifStat_not_handled : ¬ handledReg rHifStat := by
  unfold handledReg rHifStat hifReg rMemChan memReg
  omega

theorem Reported.pwr {s t : State} (h : Reported s t) : t.pwr = s.pwr := by
  obtain ⟨_, _, _, _, _, _, rfl⟩ := h
  rfl

theorem Reported.cmds {s t : State} (h : Reported s t) : t.cmds = s.cmds := by
  obtain ⟨_, _, _, _, _, _, rfl⟩ := h
  rfl

section Standby
variable {s : State} {w : Nat}

/-- The standby MCP becomes the active one. -/
def State.swapMcp (s : State) : State := { s with pwr := { s.pwr with standbyMcp := false, replaced := true } }

theorem State.swapMcp_keeps (s : State) : s.swapMcp.pwr.standbyMcp = false ∧ s.swapMcp.pwr.replaced = true ∧ s.swapMcp.cmds = s.cmds
    ∧ s.swapMcp.mem = s.mem ∧ s.swapMcp.regs = s.regs ∧ s.swapMcp.pwr.main = s.pwr.main ∧ s.swapMcp.pwr.stopped = s.pwr.stopped :=
  ⟨rfl, rfl, rfl, rfl, rfl, rfl, rfl⟩

theorem State.mcpTakeover_eq (h : s.pwr.standbyMcp = true) :
    s.mcpTakeover = (s.swapMcp.wrB rHifStat 28 (!s.rdB rHifStat 28)).event uMcp 2 0 ePwrTakeover := by
  unfold State.mcpTakeover
  rw [if_pos h]
  rfl

theorem State.mcpTakeover_takes (h : s.pwr.standbyMcp = true) : s.mcpTakeover.pwr.standbyMcp = false ∧ s.mcpTakeover.pwr.replaced = true
    ∧ s.mcpTakeover.rdB rHifStat 28 = (!s.rdB rHifStat 28) ∧ s.mcpTakeover.cmds = s.cmds ∧ s.mcpTakeover.mem = s.mem := by
  obtain ⟨h1, h2, h3, h4, -, -, -⟩ := s.swapMcp_keeps
  have hset : (s.swapMcp.wrB rHifStat 28 (!s.rdB rHifStat 28)).rdB rHifStat 28 = (!s.rdB rHifStat 28) := State.rdB_wrB_same _ _ (by omega) _
  have honly := ((RegsOnly.refl s.swapMcp).wrB rHifStat 28 (!s.rdB rHifStat 28)).only
  rw [State.mcpTakeover_eq h]
  generalize s.swapMcp.wrB rHifStat 28 (!s.rdB rHifStat 28) = u at hset honly ⊢
  have hev := u.event_reported uMcp 2 0 ePwrTakeover
  refine ⟨?_, ?_, (State.rdB_of_regs hev.regs ..).trans hset, ?_, ?_⟩
  · rw [hev.pwr, honly]
    exact h1
  · rw [hev.pwr, honly]
    exact h2
  · rw [hev.cmds, honly]
    exact h3
  · rw [hev.mem, honly]
    exact h4

theorem mcpFault_takes (h : s.pwr.standbyMcp = true) (i : Instr) (hi : i ∈ ([.mcpHeartbeatMiss, .lockstepMiscompare] : List Instr)) :
    ∃ t, exec i s = .next t ∧ t.pwr.standbyMcp = false ∧ t.pwr.replaced = true ∧ t.rdB rHifStat 28 = (!s.rdB rHifStat 28) ∧ t.cmds = s.cmds
      ∧ t.mem = s.mem := by
  have hrun : exec i s = .next s.mcpTakeover := by
    simp only [List.mem_cons, List.not_mem_nil, or_false] at hi
    rcases hi with rfl | rfl
    · rfl
    · rfl
  exact ⟨_, hrun, State.mcpTakeover_takes h⟩

theorem mcpTest_passes (h : s.pwr.replaced = true) :
    exec (.mcpATestResult true) s = .next { s with pwr := { s.pwr with replaced := false, standbyMcp := true } } := by
  refine congrArg Host.Outcome.next ?_
  rw [if_neg (by simp [h]), if_pos rfl]

theorem mcpTest_fails (h : s.pwr.replaced = true) : ∃ t, exec (.mcpATestResult false) s = .next t ∧ t.pwr.replaced = false
    ∧ t.pwr.standbyMcp = s.pwr.standbyMcp ∧ t.pwr.alert = s.pwr.alert ||| 8 := by
  refine ⟨_, congrArg Host.Outcome.next ((if_neg (by simp [h])).trans (if_neg (by decide))), ?_⟩
  unfold State.standbyLost
  rw [(State.event_reported _ _ _ _ _).pwr]
  exact ⟨rfl, rfl, rfl⟩

theorem mcpTest_quiet (h : s.pwr.replaced = false) (pass : Bool) : exec (.mcpATestResult pass) s = .next s :=
  congrArg Host.Outcome.next (if_pos (by simp [h]))

theorem mcpBBoot_quiet (h : s.pwr.main = true ∨ s.pwr.standbyMcp = false) : exec .mcpBBootTakeover s = .next s :=
  congrArg Host.Outcome.next (if_pos (by simpa using h))

theorem mcpBBoot_takes (hmain : s.pwr.main = false) (hstandby : s.pwr.standbyMcp = true) (hstop : s.pwr.stopped ≠ 0) :
    ∃ t, exec .mcpBBootTakeover s = .next t ∧ t.pwr.standbyMcp = false ∧ t.pwr.replaced = true ∧ t.rdB rHifStat 28 = true := by
  obtain ⟨h1, h2, -, -, -, -, h7⟩ := s.swapMcp_keeps
  have hset : (s.swapMcp.wrB rHifStat 28 true).rdB rHifStat 28 = true := State.rdB_wrB_same _ _ (by omega) _
  have hpwr : (s.swapMcp.wrB rHifStat 28 true).pwr = s.swapMcp.pwr := rfl
  have hrun : exec .mcpBBootTakeover s = .next (
      let u := (s.swapMcp.wrB rHifStat 28 true).event uMcp 2 0 ePwrTakeover
      if mainRange u.pwr.mv && u.pwr.stopped = 0 then u.start else u) :=
    congrArg Host.Outcome.next (if_neg (by simp [hmain, hstandby]))
  generalize s.swapMcp.wrB rHifStat 28 true = u at hset hpwr hrun
  have hev := u.event_reported uMcp 2 0 ePwrTakeover
  have hstop' : (u.event uMcp 2 0 ePwrTakeover).pwr.stopped ≠ 0 := by
    rw [hev.pwr, hpwr, h7]
    exact hstop
  refine ⟨_, hrun.trans (congrArg Host.Outcome.next (if_neg (by simp [hstop']))), ?_, ?_, (State.rdB_of_regs hev.regs ..).trans hset⟩
  · rw [hev.pwr, hpwr, h1]
  · rw [hev.pwr, hpwr, h2]

/-! ### Wing controllers -/

/-- A wing's standby controller is used up. -/
def State.useWc (s : State) (w : Nat) : State := { s with pwr := { s.pwr with wcStandby := tput (fun _ => true) s.pwr.wcStandby w false } }

/-- The SMBus alert for a standby that is lost. -/
def State.alertLost (s : State) : State := { s with pwr := { s.pwr with alert := s.pwr.alert ||| 8 } }

theorem State.alertLost_keeps (s : State) : s.alertLost.pwr.wcStandby = s.pwr.wcStandby ∧ s.alertLost.cmds = s.cmds ∧ s.alertLost.threads = s.threads
    ∧ s.alertLost.mem = s.mem ∧ s.alertLost.host.chans = s.host.chans := ⟨rfl, rfl, rfl, rfl, rfl⟩

theorem State.useWc_keeps (s : State) (w : Nat) : (s.useWc w).pwr.wcStandby = tput (fun _ => true) s.pwr.wcStandby w false ∧ (s.useWc w).cmds = s.cmds
    ∧ (s.useWc w).threads = s.threads ∧ (s.useWc w).mem = s.mem ∧ (s.useWc w).host.chans = s.host.chans := ⟨rfl, rfl, rfl, rfl, rfl⟩

theorem State.wcTakeover_eq (h : tget (fun _ => true) s.pwr.wcStandby w = true) :
    s.wcTakeover w = (((s.useWc w).event uWc 2 w ePwrTakeover).alertLost).event uWc 3 w ePwrStandbyLost := by
  unfold State.wcTakeover
  rw [if_pos h]
  rfl

theorem Reported.chans {s t : State} (h : Reported s t) : t.host.chans = s.host.chans := by
  obtain ⟨_, _, _, _, _, _, rfl⟩ := h
  rfl

theorem State.wcTakeover_takes (h : tget (fun _ => true) s.pwr.wcStandby w = true) :
    tget (fun _ => true) (s.wcTakeover w).pwr.wcStandby w = false ∧ (s.wcTakeover w).cmds = s.cmds ∧ (s.wcTakeover w).threads = s.threads
      ∧ (s.wcTakeover w).mem = s.mem ∧ (s.wcTakeover w).host.chans = s.host.chans := by
  obtain ⟨h1, h2, h3, h4, h5⟩ := s.useWc_keeps w
  rw [State.wcTakeover_eq h]
  generalize s.useWc w = u at h1 h2 h3 h4 h5 ⊢
  have hev := u.event_reported uWc 2 w ePwrTakeover
  generalize u.event uWc 2 w ePwrTakeover = v at hev ⊢
  obtain ⟨k1, k2, k3, k4, k5⟩ := v.alertLost_keeps
  generalize v.alertLost = x at k1 k2 k3 k4 k5 ⊢
  have hev' := x.event_reported uWc 3 w ePwrStandbyLost
  rw [hev'.pwr, hev'.cmds, hev'.threads, hev'.mem, hev'.chans, k1, k2, k3, k4, k5, hev.pwr, hev.cmds, hev.threads, hev.mem, hev.chans, h1, h2, h3, h4, h5]
  exact ⟨tget_tput_self .., rfl, rfl, rfl, rfl⟩

theorem exec_wcFault {i : Instr} (hi : i ∈ ([.wcStandbyTakeover w, .wcPrimaryMiscompare w] : List Instr)) : exec i s = .next (s.wcTakeover w) := by
  simp only [List.mem_cons, List.not_mem_nil, or_false] at hi
  rcases hi with rfl | rfl
  · rfl
  · rfl

/-- The code of a second fault: its class and its number are never 0. -/
theorem faultCode_bounds (f : Nat) : 1 ≤ (BitVec.ofNat 16 (2 ^ 8 * (1 + f / 2 ^ 8 % 8) + 1 + f % 255)).toNat / 256
    ∧ (BitVec.ofNat 16 (2 ^ 8 * (1 + f / 2 ^ 8 % 8) + 1 + f % 255)).toNat / 256 ≤ 8
    ∧ (BitVec.ofNat 16 (2 ^ 8 * (1 + f / 2 ^ 8 % 8) + 1 + f % 255)).toNat % 256 ≠ 0 := by
  simp only [BitVec.toNat_ofNat, Nat.reducePow]
  have h1 := Nat.mod_lt (f / 256) (by omega : 8 > 0)
  have h2 := Nat.mod_lt f (by omega : 255 > 0)
  generalize f / 256 % 8 = a at h1 ⊢
  generalize f % 255 = b at h2 ⊢
  omega

/-- A command as its failure leaves it. -/
def Cmd.failed (code : W16) (detail : Nat) (now : W64) (k : Cmd) : Cmd :=
  { k with phase := .failed, err := code, detail, beatEnd := now, toReissue := [] }

theorem State.cmds_failCmd {ring dc : Nat} {k : Cmd} (hk : s.cmd ring dc = some k) (hphase : k.phase ≠ .failed) (code : W16) (detail : Nat) :
    (s.failCmd ring dc code detail).cmds = (s.updCmd ring dc (Cmd.failed code detail s.now)).cmds := by
  unfold State.failCmd
  rw [hk]
  dsimp only
  rw [if_neg hphase]
  generalize hu : (s.updCmd ring dc (fun k => { k with phase := .failed, err := code, detail, beatEnd := s.now, toReissue := [] })).endThreads ring dc = u
  have h1 : u.cmds = (s.updCmd ring dc (Cmd.failed code detail s.now)).cmds := by
    rw [← hu]
    rfl
  have h2 := (u.breakOwned_latchesOnly k.part k.seq).cmds
  obtain ⟨rings, h3⟩ := (u.breakOwned k.part k.seq).haltRing_only ring 1 code
  have h4 : ((u.breakOwned k.part k.seq).haltRing ring 1 code).cmds = (u.breakOwned k.part k.seq).cmds := by rw [h3]
  exact (State.report_reported _ _).cmds.trans (h4.trans (h2.trans h1))

theorem State.failCmd_one {k : Cmd} (hcmds : s.cmds = [k]) (hphase : k.phase ≠ .failed) (code : W16) :
    ∃ k', (s.failCmd k.ring k.dcount code 0).cmds = [k'] ∧ k'.phase = .failed ∧ k'.err = code := by
  have hk : s.cmd k.ring k.dcount = some k := by simp [State.cmd, hcmds]
  refine ⟨k.failed code 0 s.now, ?_, rfl, rfl⟩
  rw [State.cmds_failCmd hk hphase]
  simp [State.updCmd, hcmds]

theorem wcFault_ends {k : Cmd} (h : tget (fun _ => true) s.pwr.wcStandby w = false) (hcmds : s.cmds = [k]) (hphase : k.phase ≠ .failed)
    (hcores : s.coresOfWing k.part w ≠ []) (i : Instr) (hi : i ∈ ([.wcStandbyTakeover w, .wcPrimaryMiscompare w] : List Instr)) :
    ∃ t k', exec i s = .next t ∧ t.cmds = [k'] ∧ k'.phase = .failed ∧ 1 ≤ k'.err.toNat / 256 ∧ k'.err.toNat / 256 ≤ 8 ∧ k'.err.toNat % 256 ≠ 0 := by
  have hbump : s.bump.cmds = [k] := hcmds
  have hrun : s.wcTakeover w = s.bump.failCmd k.ring k.dcount
      (BitVec.ofNat 16 (2 ^ 8 * (1 + (s.free 0).toNat / 2 ^ 8 % 8) + 1 + (s.free 0).toNat % 255)) 0 := by
    unfold State.wcTakeover
    rw [if_neg (ne_true_of_eq_false h), hcmds]
    have hfilter : [k].filter (fun k => !(s.coresOfWing k.part w).isEmpty) = [k] := by
      rw [List.filter_cons, if_pos (by simpa using hcores), List.filter_nil]
    dsimp only
    rw [hfilter]
    rfl
  obtain ⟨k', h1, h2, h3⟩ := State.failCmd_one hbump hphase (BitVec.ofNat 16 (2 ^ 8 * (1 + (s.free 0).toNat / 2 ^ 8 % 8) + 1 + (s.free 0).toNat % 255))
  refine ⟨_, k', (exec_wcFault hi).trans (congrArg Host.Outcome.next hrun), h1, h2, ?_⟩
  rw [h3]
  exact faultCode_bounds _

end Standby

/-! ### Flash copies, and the end of the wait for partitions -/

section Flash
variable {s : State}

/-- The image of a runtime table with its flash copy written. -/
def State.copied (s : State) (k : Nat) : State := s.setImage k { (s.image k).put (s.image k).live with dirty := false }

theorem State.copied_keeps (s : State) (k : Nat) : ((s.copied k).image k).dirty = false ∧ (s.copied k).pwr.policy = s.pwr.policy
    ∧ (s.copied k).spareMap = s.spareMap ∧ (s.copied k).memx = s.memx := by
  refine ⟨?_, rfl, rfl, rfl⟩
  rw [State.copied, State.image_setImage, if_pos rfl]

theorem flashCopy_policy (h : (s.image 5).dirty = true) : ∃ t, exec (.flashCopyWrite 5) s = .next t ∧ t.pwr.flashPolicy = s.pwr.policy
    ∧ (t.image 5).dirty = false := by
  have hrun : s.flashTable 5 = { s.copied 5 with pwr := { (s.copied 5).pwr with flashPolicy := (s.copied 5).pwr.policy } } := by
    unfold State.flashTable
    dsimp only
    rw [if_neg (by simp [h])]
    rfl
  obtain ⟨h1, h2, -⟩ := s.copied_keeps 5
  exact ⟨_, congrArg Host.Outcome.next hrun, h2, h1⟩

theorem flashCopy_map (h : (s.image 4).dirty = true) : ∃ t, exec (.flashCopyWrite 4) s = .next t ∧ t.flashMap = s.spareMap
    ∧ t.memx.flashRows = s.memx.rowMap ∧ (t.image 4).dirty = false := by
  have hrun : s.flashTable 4 = { s.copied 4 with flashMap := (s.copied 4).spareMap, memx := { (s.copied 4).memx with
      flashRows := (s.copied 4).memx.rowMap } } := by
    unfold State.flashTable
    dsimp only
    rw [if_neg (by simp [h])]
    rfl
  obtain ⟨h1, -, h3, h4⟩ := s.copied_keeps 4
  exact ⟨_, congrArg Host.Outcome.next hrun, h3, congrArg MemX.rowMap h4, h1⟩

theorem flashCopy_quiet (k : Nat) (h : (s.image k).dirty = false) : exec (.flashCopyWrite k) s = .next s := by
  have hrun : s.flashTable k = s := if_pos (by simp [h])
  refine congrArg Host.Outcome.next ?_
  split
  · exact hrun
  · rfl

/-- Rings after commands end: one that runs or is halted does so still, and a halted one stays halted. -/
def RingsEnded (s t : State) : Prop :=
  ∀ n, (((s.ring n).st = .running ∨ (s.ring n).st = .halted) → ((t.ring n).st = .running ∨ (t.ring n).st = .halted))
    ∧ ((s.ring n).st = .halted → (t.ring n).st = .halted)

namespace RingsEnded
variable {s t u : State}

theorem refl (s : State) : RingsEnded s s := fun _ => ⟨id, id⟩

theorem of_rings (h : t.rings = s.rings) : RingsEnded s t := fun n => by
  have hn : t.ring n = s.ring n := by rw [State.ring, h, State.ring]
  rw [hn]
  exact ⟨id, id⟩

theorem trans (h : RingsEnded s t) (h' : RingsEnded t u) : RingsEnded s u := fun n => ⟨fun hn => (h' n).1 ((h n).1 hn), fun hn => (h' n).2 ((h n).2 hn)⟩

theorem foldl {α : Type} {f : State → α → State} (h : ∀ s a, RingsEnded s (f s a)) (l : List α) (s : State) : RingsEnded s (l.foldl f s) := by
  induction l generalizing s with
  | nil => exact .refl s
  | cons a l ih => exact (h s a).trans (ih _)

theorem setRing_halted (s : State) (n : Nat) (x : Ring) (hx : x.st = .halted) : RingsEnded s (s.setRing n x) := fun k => by
  rw [State.ring_setRing]
  split
  · exact ⟨fun _ => .inr hx, fun _ => hx⟩
  · exact ⟨id, id⟩

end RingsEnded

theorem State.haltRing_ended (s : State) (n cause : Nat) (err : W16) : RingsEnded s (s.haltRing n cause err) := by
  unfold State.haltRing
  dsimp only
  split
  · exact .setRing_halted s n _ rfl
  · exact .refl s

theorem State.failCmd_ended (s : State) (ring dc : Nat) (code : W16) (detail : Nat) : RingsEnded s (s.failCmd ring dc code detail) := by
  unfold State.failCmd
  split
  · exact .refl s
  next k _ =>
    split
    · exact .refl s
    · dsimp only
      generalize hu : (s.updCmd ring dc (fun k => { k with phase := .failed, err := code, detail, beatEnd := s.now, toReissue := [] })).endThreads ring dc = u
      have h1 : u.rings = s.rings := by
        rw [← hu]
        rfl
      have h2 := (u.breakOwned_latchesOnly k.part k.seq).rings
      exact (RingsEnded.of_rings (h2.trans h1)).trans ((State.haltRing_ended _ ring 1 code).trans
        (.of_rings (LatchesOnly.reported (State.report_reported _ _)).rings))

theorem State.abortPart_ended (s : State) (p : Nat) : RingsEnded s (s.abortPart p) := by
  unfold State.abortPart
  refine .foldl (fun s k => ?_) _ s
  exact (s.failCmd_ended k.ring k.dcount eHifPreempted 0).trans (.of_rings rfl)

theorem State.haltPart_ended (s : State) (p : Nat) : RingsEnded s (s.haltPart p) := by
  unfold State.haltPart
  refine .foldl (fun s j => ?_) _ s
  dsimp only
  split
  · exact .setRing_halted s _ _ rfl
  · exact .refl s

/-- A partition's live commands receive PREEMPT with ABORT. -/
def State.abortLive (s : State) (p : Nat) : State := if s.partIdle p then s else s.preempt p true { ch := 255, tag := 0 }

theorem State.abortLive_ended (s : State) (p : Nat) : RingsEnded s (s.abortLive p) := by
  unfold State.abortLive
  split
  · exact .refl s
  · have h := (s.haltPart_ended p).trans (State.abortPart_ended _ p)
    unfold State.preempt
    dsimp only
    rw [if_pos rfl]
    generalize (s.haltPart p).abortPart p = u at h ⊢
    exact h.trans (.of_rings rfl)

theorem State.abortLive_of_live (s : State) {p : Nat} (h : s.partIdle p = false) : s.abortLive p = s.preempt p true { ch := 255, tag := 0 } :=
  if_neg (ne_true_of_eq_false h)

theorem State.abortLive_of_idle (s : State) {p : Nat} (h : s.partIdle p = true) : s.abortLive p = s := if_pos h

theorem State.partIdle_abortLive (s : State) (p q : Nat) : (s.abortLive p).partIdle q = s.partIdle q := by
  cases h : s.partIdle p with
  | true => rw [s.abortLive_of_idle h]
  | false =>
    rw [s.abortLive_of_live h]
    exact (s.preempt_preempted p true { ch := 255, tag := 0 }).idle q

theorem State.abortLive_halts (s : State) {p j : Nat} (hj : j < 8) (hlive : s.partIdle p = false)
    (hopen : (s.ring (8 * p + j)).st = .running ∨ (s.ring (8 * p + j)).st = .halted) : ((s.abortLive p).ring (8 * p + j)).st = .halted := by
  have hrun := s.abortLive_of_live hlive
  rcases hopen with h | h
  · rw [hrun]
    exact ((s.preempt_preempted p true { ch := 255, tag := 0 }).rings j hj h).1
  · exact (s.abortLive_ended p _).2 h

theorem drainSExpiry_halts (h : s.pwr.shutting = true) : ∃ t, exec .drainSExpiry s = .next t ∧ ∀ p < 8, s.partIdle p = false → ∀ j < 8,
    (s.ring (8 * p + j)).st = .running → (t.ring (8 * p + j)).st = .halted := by
  refine ⟨_, congrArg Host.Outcome.next (if_pos h), fun p hp hlive j hj hrun => ?_⟩
  refine foldl_reaches (P := fun t => t.partIdle p = false ∧ ((t.ring (8 * p + j)).st = .running ∨ (t.ring (8 * p + j)).st = .halted))
    (Q := fun t => (t.ring (8 * p + j)).st = .halted) (f := State.abortLive) (p := p)
    (fun t q _ _ => ⟨fun ⟨hidle, hopen⟩ => ⟨(t.partIdle_abortLive q p).trans hidle, (t.abortLive_ended q _).1 hopen⟩, (t.abortLive_ended q _).2⟩)
    (fun t ⟨hidle, hopen⟩ => t.abortLive_halts hj hidle hopen) (fun t => (t.abortLive_ended p _).2) (List.mem_range.mpr hp) s ⟨hlive, .inl hrun⟩

end Flash

/-- Settles O52: each request is the lemma of its own command. -/
theorem powerRequests : Obligations.PowerRequests := by
  unfold Obligations.PowerRequests
  intro s on src w want
  exact ⟨sitePowerN_shows on, sitePowerReport_quiet, sitePowerReport_hears, fun h => congrArg Host.Outcome.next (if_pos h), profileDecision_decides src on,
    mcpFault_takes, mcpTest_passes, mcpTest_fails, fun h => mcpTest_quiet h on, mcpBBoot_quiet, mcpBBoot_takes, fun h i hi =>
      ⟨_, exec_wcFault hi, (State.wcTakeover_takes h).1, (State.wcTakeover_takes h).2.1, (State.wcTakeover_takes h).2.2.1, (State.wcTakeover_takes h).2.2.2.1⟩,
    fun k => wcFault_ends, flashCopy_policy, flashCopy_map, flashCopy_quiet, fun h => congrArg Host.Outcome.next (if_neg (ne_true_of_eq_false h)),
    drainSExpiry_halts⟩

end Sys2Proof.Machine
end

section
/-! PROOFS. The messages of power and configuration (R598, R599, R604, R611 to R619, R621). -/

namespace Sys2Proof.Machine

/-! ### Profiles and policy -/

theorem PowerOnly.chans {s t : State} (h : PowerOnly s t) : t.host.chans = s.host.chans := by rw [h]

theorem Aside.pwr {u t : State} (h : Aside u t) : t.pwr = u.pwr := by rw [h]

theorem State.chan_of_chans {s t : State} (h : t.host.chans = s.host.chans) (c : Nat) : t.chan c = s.chan c := by rw [State.chan, h, State.chan]

section Policy
variable {s : State} {m : Msg} {r : Request}

theorem State.setCap_sets (s : State) (c : Option Nat) : (s.setCap c).pwr.policy = { s.pwr.policy with opcap := c }
    ∧ (s.setCap c).host.chans = s.host.chans := ⟨rfl, rfl⟩

/-- A cap taken: the module's own requests act, and the master decides or is told. -/
def State.takeCap (s : State) (c : Nat) : State :=
  let s := (s.setCap (if c = 0xFF then none else some c)).applyOwn
  if s.beatSt = 4 then s.decideProfile else s.toMaster (leBytes 1 5 ++ leBytes 1 c)

theorem State.takeCap_takes (s : State) (c : Nat) : (s.takeCap c).pwr.policy = { s.pwr.policy with opcap := if c = 0xFF then none else some c }
    ∧ (s.takeCap c).host.chans = s.host.chans := by
  obtain ⟨h1, h2⟩ := s.setCap_sets (if c = 0xFF then none else some c)
  unfold State.takeCap
  generalize s.setCap (if c = 0xFF then none else some c) = u at h1 h2 ⊢
  have hown := u.applyOwn_governed
  dsimp only
  generalize u.applyOwn = v at hown ⊢
  have hend : Governed v (if v.beatSt = 4 then v.decideProfile else v.toMaster (leBytes 1 5 ++ leBytes 1 c)) := by
    split
    · exact v.decideProfile_governed
    · exact .fab (v.toMaster_fabOnly _)
  have h := hown.trans hend
  exact ⟨h.policy.trans h1, h.only.chans.trans h2⟩

theorem profileReq_served (hr : requestOf (.profileReq m) = some r) (h : s.accepts r) (hc : leAt r.text 0 1 ≤ 3 ∨ leAt r.text 0 1 = 0xFF) :
    Served (.profileReq m) s r 0 [] (fun t =>
      t.pwr.policy = { s.pwr.policy with opcap := if leAt r.text 0 1 = 0xFF then none else some (leAt r.text 0 1) }) := by
  obtain rfl := Option.some.inj hr
  generalize hR : (⟨m, 0x0130, 1, hasRole [.operator]⟩ : Request) = R at *
  obtain ⟨hpol, hchans⟩ := (s.taking R).takeCap_takes (leAt R.text 0 1)
  refine served_of_answer (f := fun s b => if 3 < leAt b 0 1 && leAt b 0 1 ≠ 0xFF then (s, refusal ePwrProfileInvalid)
      else (s.takeCap (leAt b 0 1), some (0, []))) h (by rw [← hR]; rfl) (if_neg ?_) (by decide) (requestOf_code hr) ?_ fun t ht => ?_
  · rcases hc with h | h
    · simp [Nat.not_lt.mpr h]
    · simp [h]
  · rw [State.chan_of_chans hchans]
    exact State.taking_idle h
  · rw [ht.pwr, hpol]
    rfl

theorem profileReq_refused (hr : requestOf (.profileReq m) = some r) (h : s.accepts r) (h3 : 3 < leAt r.text 0 1) (hff : leAt r.text 0 1 ≠ 0xFF) :
    Served (.profileReq m) s r ePwrProfileInvalid [] (Aside s) := by
  obtain rfl := Option.some.inj hr
  exact served_of_answer (u := s.taking _) h rfl (if_pos (by simp [h3, hff])) (by decide) (by norm_num) (State.taking_idle h) fun t ht => ht.of_taking

/-- The policy that a body holds (R598). -/
def policyOf (b : List Byte) (opcap : Option Nat) : Policy :=
  { normal := leAt b 0 1, site := leAt b 1 1, pgroup := leAt b 2 2, plead := leAt b 4 2, debounce := leAt b 6 2, drainS := leAt b 8 2, opcap }

/-- A policy in the live table. -/
def State.storePolicy (s : State) (p : Policy) : State := ({ s with pwr := { s.pwr with policy := p } } : State).commitTable 5

theorem State.storePolicy_keeps (s : State) (p : Policy) : (s.storePolicy p).pwr.policy = p ∧ (s.storePolicy p).host.chans = s.host.chans := ⟨rfl, rfl⟩

theorem policySet_served (hr : requestOf (.policySet m) = some r) (h : s.accepts r) (hnormal : leAt r.text 0 1 ≤ 3) (hsite : leAt r.text 1 1 ≤ 3)
    (hgroup : leAt r.text 2 2 ≤ 0xFFF) : Served (.policySet m) s r 0 [] (fun t => t.pwr.policy = policyOf r.text s.pwr.policy.opcap) := by
  obtain rfl := Option.some.inj hr
  generalize hR : (⟨m, 0x0131, 10, hasRole [.operator]⟩ : Request) = R at *
  obtain ⟨hpol, hchans⟩ := (s.taking R).storePolicy_keeps (policyOf R.text s.pwr.policy.opcap)
  have hgov := ((s.taking R).storePolicy (policyOf R.text s.pwr.policy.opcap)).applyOwn_governed.trans (State.decideProfile_governed _)
  refine served_of_answer (f := fun s b =>
      if 3 < (policyOf b s.pwr.policy.opcap).normal || 3 < (policyOf b s.pwr.policy.opcap).site || 0xFFF < (policyOf b s.pwr.policy.opcap).pgroup then
        (s, refusal ePwrProfileInvalid)
      else ((s.storePolicy (policyOf b s.pwr.policy.opcap)).applyOwn.decideProfile, some (0, []))) h (by rw [← hR]; rfl) (if_neg ?_) (by decide)
    (requestOf_code hr) ?_ fun t ht => ?_
  · simp [policyOf, Nat.not_lt.mpr hnormal, Nat.not_lt.mpr hsite, Nat.not_lt.mpr hgroup]
  · exact (congrArg Chan.busy (State.chan_of_chans (hgov.only.chans.trans hchans) _)).trans (State.taking_idle h)
  · exact (congrArg Power.policy ht.pwr).trans (hgov.policy.trans hpol)

end Policy

/-! ### Images and calibration -/

section Images
variable {s : State} {m : Msg} {r : Request} {image : List Byte}

/-- The firmware version of a copy newer than the one in use is in use once it is written (R614, R615). -/
theorem Image.ver_put (i : Image) {n : Nat} (hn : i.seq < n) (ver : W32) : (i.put n ver).ver = ver := by
  obtain ⟨aOk, aSeq, bOk, bSeq, aVer, bVer, live, dirty⟩ := i
  cases aOk <;> cases bOk
  · rfl
  · have h : bSeq < n := hn
    simp [Image.put, Image.ver, Image.inUse, Nat.not_lt.mpr h.le]
  · have h : aSeq < n := hn
    simp [Image.put, Image.ver, Image.inUse, h]
  · by_cases hab : bSeq < aSeq
    · have h : aSeq < n := by simpa [Image.seq, Image.inUse, Nat.not_lt.mpr hab.le] using hn
      simp [Image.put, Image.ver, Image.inUse, hab, h]
    · have h : bSeq < n := by
        by_cases hlt : aSeq < bSeq
        · simpa [Image.seq, Image.inUse, hlt] using hn
        · have heq : aSeq = bSeq := by omega
          simpa [Image.seq, Image.inUse, heq] using hn
      simp [Image.put, Image.ver, Image.inUse, hab, Nat.not_lt.mpr h.le]

theorem State.setImage_chans (s : State) (k : Nat) (i : Image) : (s.setImage k i).host = s.host ∧ (s.setImage k i).pwr.cal = s.pwr.cal := ⟨rfl, rfl⟩

theorem imageWrite_refused (hr : requestOf (.imageWrite m image) = some r) (h : s.accepts r) (hbad : imageOk 0 ((s.image 0).seq + 1) true image = false) :
    Served (.imageWrite m image) s r eCfgImageInvalid [] (Aside s) := by
  obtain rfl := Option.some.inj hr
  generalize hR : (⟨m, 0x0133, 1008, hasRole [.operator, .service]⟩ : Request) = R at *
  refine served_of_answer (f := fun s _ => if !imageOk 0 ((s.image 0).seq + 1) true image then (s, refusal eCfgImageInvalid)
      else (s.setImage 0 { (s.image 0).put ((s.image 0).seq + 1) (BitVec.ofNat 32 (leAt image 16 4)) with live := (s.image 0).seq + 1 }, some (0, [])))
    (u := s.taking R) h (by rw [← hR]; rfl) (if_pos ?_) (by decide) (requestOf_code hr) (State.taking_idle h) fun t ht => ht.of_taking
  have himage : (s.taking R).image 0 = s.image 0 := rfl
  rw [himage, hbad]
  rfl

theorem imageWrite_served (hr : requestOf (.imageWrite m image) = some r) (h : s.accepts r) (hok : imageOk 0 ((s.image 0).seq + 1) true image = true) :
    Served (.imageWrite m image) s r 0 [] (fun t => (t.image 0).seq = (s.image 0).seq + 1 ∧ (t.image 0).ver = BitVec.ofNat 32 (leAt image 16 4)
      ∧ (∀ k, k ≠ 0 → t.image k = s.image k)) := by
  obtain rfl := Option.some.inj hr
  generalize hR : (⟨m, 0x0133, 1008, hasRole [.operator, .service]⟩ : Request) = R at *
  have himage : ∀ k, (s.taking R).image k = s.image k := fun _ => rfl
  generalize hi : ({ (s.image 0).put ((s.image 0).seq + 1) (BitVec.ofNat 32 (leAt image 16 4)) with live := (s.image 0).seq + 1 } : Image) = i
  have hset (k : Nat) := (s.taking R).image_setImage 0 k i
  refine served_of_answer (f := fun s _ => if !imageOk 0 ((s.image 0).seq + 1) true image then (s, refusal eCfgImageInvalid)
      else (s.setImage 0 { (s.image 0).put ((s.image 0).seq + 1) (BitVec.ofNat 32 (leAt image 16 4)) with live := (s.image 0).seq + 1 }, some (0, [])))
    (u := (s.taking R).setImage 0 i) h (by rw [← hR]; rfl) ?_ (by decide) (requestOf_code hr) ?_ fun t ht => ?_
  · dsimp only
    rw [himage, hok, hi]
    exact if_neg (by decide)
  · rw [State.chan_of_chans (congrArg HostIf.chans ((s.taking R).setImage_chans 0 i).1)]
    exact State.taking_idle h
  · refine ⟨?_, ?_, fun k hk => ?_⟩
    · rw [ht.image, hset, if_pos rfl, ← hi]
      exact Image.seq_put _ (Nat.lt_succ_self _) _
    · rw [ht.image, hset, if_pos rfl, ← hi]
      exact Image.ver_put _ (Nat.lt_succ_self _) _
    · rw [ht.image, hset, if_neg hk, himage]

/-- The deltas of a calibration image (R617). -/
def deltasOf (image : List Byte) : List (Nat × Int) :=
  (List.range ((image.length - 64) / 8)).map (fun k => (leAt image (64 + 8 * k) 4, signed 16 (leAt image (68 + 8 * k) 2)))

/-- New deltas, and their image. -/
def State.storeCal (s : State) (cal : List (Nat × Int)) : State :=
  ({ s with pwr := { s.pwr with cal } } : State).setImage 2 { (s.image 2).put ((s.image 2).seq + 1) with live := (s.image 2).seq + 1 }

theorem State.storeCal_keeps (s : State) (cal : List (Nat × Int)) : (s.storeCal cal).pwr.cal = cal ∧ (s.storeCal cal).host = s.host := ⟨rfl, rfl⟩

theorem State.noteClamps_notes (s : State) : s.noteClamps.pwr = s.pwr ∧ s.noteClamps.host.chans = s.host.chans := by
  unfold State.noteClamps
  split
  · exact ⟨(State.event_reported _ _ _ _ _).pwr, (State.event_reported _ _ _ _ _).chans⟩
  · exact ⟨rfl, rfl⟩

/-- CAL_SET's own effect. -/
def State.calSet (s : State) (image : List Byte) : State × Answer :=
  if !imageOk 2 ((s.image 2).seq + 1) false image || (image.length - 64) % 8 ≠ 0 then (s, refusal eCfgImageInvalid)
  else ((s.storeCal (deltasOf image)).noteClamps, some (0, []))

theorem calSet_refused (hr : requestOf (.calSet m image) = some r) (h : s.accepts r) (hbad : imageOk 2 ((s.image 2).seq + 1) false image = false) :
    Served (.calSet m image) s r eCfgImageInvalid [] (Aside s) := by
  obtain rfl := Option.some.inj hr
  generalize hR : (⟨m, 0x0134, 1008, hasRole [.service, .factory]⟩ : Request) = R at *
  refine served_of_answer (f := fun s _ => s.calSet image) (u := s.taking R) h (by rw [← hR]; rfl) (if_pos ?_) (by decide) (requestOf_code hr)
    (State.taking_idle h) fun t ht => ht.of_taking
  have himage : (s.taking R).image 2 = s.image 2 := rfl
  rw [himage, hbad]
  rfl

theorem calSet_served (hr : requestOf (.calSet m image) = some r) (h : s.accepts r) (hok : imageOk 2 ((s.image 2).seq + 1) false image = true)
    (hlen : (image.length - 64) % 8 = 0) : Served (.calSet m image) s r 0 [] (fun t => t.pwr.cal = deltasOf image) := by
  obtain rfl := Option.some.inj hr
  generalize hR : (⟨m, 0x0134, 1008, hasRole [.service, .factory]⟩ : Request) = R at *
  obtain ⟨hcal, hhost⟩ := (s.taking R).storeCal_keeps (deltasOf image)
  obtain ⟨hpwr, hchans⟩ := ((s.taking R).storeCal (deltasOf image)).noteClamps_notes
  refine served_of_answer (f := fun s _ => s.calSet image) h (by rw [← hR]; rfl) (if_neg ?_) (by decide) (requestOf_code hr) ?_ fun t ht => ?_
  · have himage : (s.taking R).image 2 = s.image 2 := rfl
    rw [himage]
    simp [hok, hlen]
  · exact (congrArg Chan.busy (State.chan_of_chans (hchans.trans (congrArg HostIf.chans hhost)) _)).trans (State.taking_idle h)
  · exact (congrArg Power.cal (ht.pwr.trans hpwr)).trans hcal

theorem calRead_served (hr : requestOf (.calRead m) = some r) (h : s.accepts r) (hitem : leAt r.text 0 4 / 2 ^ 24 < 6) :
    Served (.calRead m) s r 0 (leBytes 4 (wrap 32 (Config.factoryCal (leAt r.text 0 4))) ++ leBytes 4 (wrap 32 (s.userCal (leAt r.text 0 4)))
      ++ leBytes 4 (wrap 32 (s.effCal (leAt r.text 0 4)))) (Aside s) := by
  obtain rfl := Option.some.inj hr
  exact served_of_answer (u := s.taking _) h rfl (if_neg (Nat.not_le.mpr hitem)) (by decide) (by norm_num) (State.taking_idle h) fun t ht => ht.of_taking

end Images

/-! ### TAKEOVER -/

section Takeover
variable {s : State} {m : Msg} {r : Request}

/-- TAKEOVER's own effect. -/
def State.takeoverMsg (s : State) (u : Nat) : State × Answer :=
  if 2 < u then (s, refusal eHifMsgInvalid)
  else if u = 0 then if s.pwr.standbyMcp then (s.mcpTakeover, some (0, [])) else (s, refusal eBstBusy)
  else if tget (fun _ => true) s.pwr.wcStandby (u - 1) then (s.wcTakeover (u - 1), some (0, []))
  else (s, refusal eBstBusy)

theorem State.mcpTakeover_chans (h : s.pwr.standbyMcp = true) : s.mcpTakeover.host.chans = s.host.chans := by
  have hswap : s.swapMcp.host = s.host := rfl
  have honly := ((RegsOnly.refl s.swapMcp).wrB rHifStat 28 (!s.rdB rHifStat 28)).only
  rw [State.mcpTakeover_eq h]
  generalize s.swapMcp.wrB rHifStat 28 (!s.rdB rHifStat 28) = u at honly ⊢
  rw [(u.event_reported uMcp 2 0 ePwrTakeover).chans, honly]
  exact congrArg HostIf.chans hswap

variable (hr : requestOf (.takeover m) = some r) (h : s.accepts r)
include hr h

theorem takeover_effect {st : W16} {u : State} (hf : (s.taking r).takeoverMsg (leAt r.text 0 1) = (u, some (st, []))) (hst : st ≠ eHifRoleDenied)
    (hchans : u.host.chans = (s.taking r).host.chans) {P : State → Prop} (hP : ∀ t, Aside u t → P t) : Served (.takeover m) s r st [] P := by
  obtain rfl := Option.some.inj hr
  generalize hR : (⟨m, 0x0136, 1, hasRole [.service]⟩ : Request) = R at *
  refine served_of_answer (f := fun s b => s.takeoverMsg (leAt b 0 1)) (u := u) h (by rw [← hR]; rfl) hf hst (requestOf_code hr) ?_ hP
  rw [State.chan_of_chans hchans]
  exact State.taking_idle h

theorem takeover_mcp (h0 : leAt r.text 0 1 = 0) (hstandby : s.pwr.standbyMcp = true) : Served (.takeover m) s r 0 [] (fun t =>
    t.pwr.standbyMcp = false ∧ t.pwr.replaced = true ∧ t.rdB rHifStat 28 = (!s.rdB rHifStat 28)) := by
  have hstandby' : (s.taking r).pwr.standbyMcp = true := hstandby
  obtain ⟨h1, h2, h3, -⟩ := State.mcpTakeover_takes hstandby'
  refine takeover_effect hr h (u := (s.taking r).mcpTakeover) ?_ (by decide) (State.mcpTakeover_chans hstandby') fun t ht => ⟨?_, ?_, ?_⟩
  · rw [h0]
    exact if_pos hstandby'
  · rw [ht.pwr, h1]
  · rw [ht.pwr, h2]
  · rw [ht]
    exact h3

theorem takeover_mcp_none (h0 : leAt r.text 0 1 = 0) (hstandby : s.pwr.standbyMcp = false) : Served (.takeover m) s r eBstBusy [] (Aside s) := by
  have hstandby' : (s.taking r).pwr.standbyMcp = false := hstandby
  refine takeover_effect hr h (u := s.taking r) ?_ (by decide) rfl fun t ht => ht.of_taking
  rw [h0]
  exact if_neg (ne_true_of_eq_false hstandby')

theorem takeover_wc {w : Nat} (hw : w < 2) (hu : leAt r.text 0 1 = w + 1) (hstandby : tget (fun _ => true) s.pwr.wcStandby w = true) :
    Served (.takeover m) s r 0 [] (fun t => tget (fun _ => true) t.pwr.wcStandby w = false ∧ t.cmds = s.cmds) := by
  have hstandby' : tget (fun _ => true) (s.taking r).pwr.wcStandby w = true := hstandby
  obtain ⟨h1, h2, -, -, h5⟩ := State.wcTakeover_takes hstandby'
  refine takeover_effect hr h (u := (s.taking r).wcTakeover w) ?_ (by decide) h5 fun t ht => ⟨?_, ?_⟩
  · rw [hu]
    exact (if_neg (by omega)).trans ((if_neg (by omega)).trans (if_pos hstandby'))
  · rw [ht.pwr, h1]
  · rw [ht]
    exact h2

end Takeover

/-! ### SHUTDOWN -/

section Reports
variable (s : State)

theorem State.errRecord_host (r : Report) : (s.errRecord r).host.rates = s.host.rates ∧ (s.errRecord r).reports = s.reports := by
  unfold State.errRecord State.irq State.hostWrite
  dsimp only
  split
  · exact ⟨rfl, rfl⟩
  split
  · exact ⟨rfl, rfl⟩
  split
  · exact ⟨rfl, rfl⟩
  · exact ⟨rfl, rfl⟩

/-- A report as it is kept: with its beat, number, temperature and voltage (R579). -/
def State.stamped (s : State) (r : Report) : Report :=
  { r with beat := s.now, rseq := s.rseq, temp := BitVec.ofNat 16 (s.rdF rPwrTemp 31 16), volt := BitVec.ofNat 16 s.pwr.mv }

/-- The reports, one number further. -/
def State.withReports (s : State) (l : List Report) : State := { s with reports := l, rseq := s.rseq + 1 }

theorem State.withReports_keeps (l : List Report) : (s.withReports l).host = s.host ∧ (s.withReports l).reports = l := ⟨rfl, rfl⟩

theorem State.putReport_eq (r : Report) : s.putReport r =
    (s.withReports ((s.reports ++ [s.stamped r]).drop ((s.reports ++ [s.stamped r]).length - 4096))).errRecord (s.stamped r) := rfl

theorem State.putReport_puts (r : Report) : (s.putReport r).host.rates = s.host.rates
    ∧ (s.putReport r).reports = (s.reports ++ [s.stamped r]).drop ((s.reports ++ [s.stamped r]).length - 4096) := by
  rw [State.putReport_eq]
  generalize (s.reports ++ [s.stamped r]).drop ((s.reports ++ [s.stamped r]).length - 4096) = l
  obtain ⟨h1, h2⟩ := s.withReports_keeps l
  obtain ⟨h3, h4⟩ := (s.withReports l).errRecord_host (s.stamped r)
  exact ⟨h3.trans (congrArg HostIf.rates h1), h4.trans h2⟩

theorem State.last_putReport (r : Report) : (s.putReport r).reports.getLast?.map (·.err) = some r.err := by
  rw [(s.putReport_puts r).2, List.getLast?_drop, if_neg (by simp only [List.length_append, List.length_singleton]; omega), List.getLast?_concat]
  rfl

theorem State.rate_putReport (r : Report) (c : Nat) : (s.putReport r).rate c = s.rate c := by
  rw [State.rate, (s.putReport_puts r).1, State.rate]

theorem State.rate_setRate (c d : Nat) (x : Rate) : (s.setRate c x).rate d = if d = c then x else s.rate d := tget_tput ..

theorem State.rate_summary {c d : Nat} (h : d ≠ c) : (s.summary c).rate d = s.rate d := by
  unfold State.summary
  dsimp only
  split
  · rfl
  · rw [State.rate_putReport, State.rate_setRate, if_neg h]

/-- A report counts in the rate of its own code alone (R580). -/
theorem State.rate_report {r : Report} {d : Nat} (h : d ≠ r.err.toNat) : (s.report r).rate d = s.rate d := by
  unfold State.report
  dsimp only
  split
  · exact s.rate_putReport r d
  split
  · rw [State.rate_putReport, State.rate_setRate, if_neg h, s.rate_summary h]
  split
  · rw [State.rate_putReport, State.rate_setRate, if_neg h]
  · rw [State.rate_setRate, if_neg h]

/-- A report of a code that has not used its rate up is kept (R580). -/
theorem State.last_report {r : Report} (hrate : (s.rate r.err.toNat).sent < 1000) :
    (s.report r).reports.getLast?.map (·.err) = some r.err := by
  unfold State.report
  dsimp only
  rw [if_pos hrate]
  split
  · exact s.last_putReport r
  split
  · exact State.last_putReport _ r
  · exact State.last_putReport _ r

end Reports

/-! ### The orderly shutdown (R564, R565) -/

section Off
variable (s : State)

/-- The tests abandoned and the runtime tables copied. -/
def State.settle (s : State) : State := [3, 4, 5].foldl State.flashTable ([0, 1].foldl State.abandonTest s)

/-- The shutdown record of a settled state; the outcome of the self test is a free value. -/
def State.offRecord (s : State) (outcome : Nat) : ShutRecord :=
  { outcome, fw := (s.image 0).ver, versions := s.setVersions, mapSeq := (s.image 4).seq }

/-- The record, and the report of a failed self test. -/
def State.recordOff (s : State) : State :=
  let outcome := (s.free 0).toNat % 3
  let s := s.bump
  let s := { s with pwr := { s.pwr with record := some (s.offRecord outcome) } }
  if outcome = 2 then s.event uMcp 3 0 eShutdownFail else s

/-- Power off. -/
def State.powerOff (s : State) : State :=
  let s := s.dark.wrF rHifStat 31 29 3
  { s with pwr := { s.pwr with stopped := 2 } }

theorem State.finishShutdown_eq : s.finishShutdown = s.settle.recordOff.powerOff.event uPower 0 0 ePwrOffReady := by
  unfold State.finishShutdown State.powerOff State.recordOff State.offRecord State.settle
  rfl

theorem State.setEvents_only (l : List Ev) : ∃ regs beat, s.setEvents l = { s with regs, beat } := ⟨_, _, rfl⟩

theorem State.endTest_only (w i : Nat) : ∃ regs beat, s.endTest w i = { s with regs, beat } := by
  unfold State.endTest
  dsimp only
  obtain ⟨regs, hr⟩ : RegsOnly s (((s.setTest w 0xFF 0).wrF (rBstWing w) 20 14 0).wrB (rCoreStat i) 3 false) :=
    ((((RegsOnly.refl s).wrF ..).wrF ..).wrF ..).wrB ..
  rw [hr]
  obtain ⟨regs', beat', h⟩ := ({ s with regs } : State).setEvents_only (({ s with regs } : State).beat.events.filter (fun e => e.group ≠ localGroup w))
  exact ⟨regs', beat', h⟩

theorem State.abandonTest_host (w : Nat) : (s.abandonTest w).resp = s.resp ∧ (s.abandonTest w).host = s.host := by
  unfold State.abandonTest
  dsimp only
  split
  · obtain ⟨regs, beat, h⟩ := s.endTest_only w (s.testCore w)
    rw [h]
    exact ⟨rfl, rfl⟩
  · exact ⟨rfl, rfl⟩

theorem State.flashTable_host (k : Nat) : (s.flashTable k).resp = s.resp ∧ (s.flashTable k).host = s.host := by
  unfold State.flashTable
  dsimp only
  split
  · exact ⟨rfl, rfl⟩
  have h : (s.copied k).resp = s.resp ∧ (s.copied k).host = s.host := ⟨rfl, rfl⟩
  unfold State.copied at h
  generalize s.setImage k { (s.image k).put (s.image k).live with dirty := false } = u at h ⊢
  split
  · exact h
  split
  · exact h
  split
  · exact h
  · exact h

theorem State.settle_keeps : s.settle.resp = s.resp ∧ s.settle.host = s.host := by
  obtain ⟨a1, a2⟩ := s.abandonTest_host 0
  obtain ⟨b1, b2⟩ := (s.abandonTest 0).abandonTest_host 1
  unfold State.settle
  simp only [List.foldl_cons, List.foldl_nil]
  generalize (s.abandonTest 0).abandonTest 1 = u at b1 b2 ⊢
  obtain ⟨c1, c2⟩ := u.flashTable_host 3
  obtain ⟨d1, d2⟩ := (u.flashTable 3).flashTable_host 4
  obtain ⟨e1, e2⟩ := ((u.flashTable 3).flashTable 4).flashTable_host 5
  exact ⟨e1.trans (d1.trans (c1.trans (b1.trans a1))), e2.trans (d2.trans (c2.trans (b2.trans a2)))⟩

/-- The settled state with its record. -/
def State.withRecord (s : State) (r : ShutRecord) : State := { s with pwr := { s.pwr with record := some r } }

theorem State.withRecord_keeps (r : ShutRecord) : (s.withRecord r).resp = s.resp ∧ (s.withRecord r).host = s.host
    ∧ (s.withRecord r).pwr.record = some r := ⟨rfl, rfl, rfl⟩

theorem State.recordOff_eq : s.recordOff =
    let u := s.bump.withRecord (s.bump.offRecord ((s.free 0).toNat % 3))
    if (s.free 0).toNat % 3 = 2 then u.event uMcp 3 0 eShutdownFail else u := rfl

theorem Reported.resp {s t : State} (h : Reported s t) : t.resp = s.resp := by
  obtain ⟨_, _, _, _, _, _, rfl⟩ := h
  rfl

theorem State.recordOff_records : s.recordOff.resp = s.resp ∧ s.recordOff.pwr.record ≠ none
    ∧ s.recordOff.rate ePwrOffReady.toNat = s.rate ePwrOffReady.toNat := by
  obtain ⟨h1, h2, h3⟩ := s.bump.withRecord_keeps (s.bump.offRecord ((s.free 0).toNat % 3))
  have hrate (c : Nat) : (s.bump.withRecord (s.bump.offRecord ((s.free 0).toNat % 3))).rate c = s.rate c := by
    rw [State.rate, h2]
    rfl
  rw [State.recordOff_eq]
  generalize s.bump.withRecord (s.bump.offRecord ((s.free 0).toNat % 3)) = u at h1 h3 hrate ⊢
  dsimp only
  split
  · have hev := u.event_reported uMcp 3 0 eShutdownFail
    refine ⟨hev.resp.trans h1, ?_, (u.rate_report (by decide)).trans (hrate _)⟩
    rw [hev.pwr, h3]
    exact nofun
  · exact ⟨h1, by rw [h3]; exact nofun, hrate _⟩

theorem State.foldl_closeChan_only (l : List Nat) (s : State) : ∃ chans window,
    l.foldl (fun s c => s.closeChan c) s = { s with host := { s.host with chans, window } } := by
  induction l generalizing s with
  | nil => exact ⟨_, _, rfl⟩
  | cons c l ih =>
    obtain ⟨w, hw⟩ := s.closeChan_only c
    obtain ⟨chans, w', h⟩ := ih (s.closeChan c)
    exact ⟨chans, w', h.trans (by rw [hw]; rfl)⟩

/-- Without power nothing of memory and contexts is left; the record, the answer and the rates of the reports stay (R592). -/
theorem State.dark_keeps' : s.dark.mem = [] ∧ s.dark.threads = [] ∧ s.dark.pwr.main = false ∧ s.dark.pwr.record = s.pwr.record ∧ s.dark.resp = s.resp
    ∧ s.dark.host.rates = s.host.rates := by
  obtain ⟨chans, window, h⟩ := State.foldl_closeChan_only (List.range 32) s
  unfold State.dark
  rw [h]
  exact ⟨rfl, rfl, rfl, rfl, rfl, rfl⟩

theorem State.stopped_keeps (x : Power) : State.mem { s with pwr := x } = s.mem ∧ State.threads { s with pwr := x } = s.threads
    ∧ State.resp { s with pwr := x } = s.resp ∧ State.host { s with pwr := x } = s.host ∧ State.regs { s with pwr := x } = s.regs :=
  ⟨rfl, rfl, rfl, rfl, rfl⟩

theorem State.powerOff_off : s.powerOff.mem = [] ∧ s.powerOff.threads = [] ∧ s.powerOff.pwr.main = false ∧ s.powerOff.pwr.record = s.pwr.record
    ∧ s.powerOff.resp = s.resp ∧ s.powerOff.host.rates = s.host.rates ∧ s.powerOff.hifState = 3 := by
  obtain ⟨h1, h2, h3, h4, h5, h6⟩ := s.dark_keeps'
  unfold State.powerOff
  generalize s.dark = d at h1 h2 h3 h4 h5 h6 ⊢
  have hst : (d.wrF rHifStat 31 29 3).hifState = 3 := State.rdF_wrF_same _ _ (by omega) (by omega) _
  have honly := ((RegsOnly.refl d).wrF rHifStat 31 29 3).only
  generalize d.wrF rHifStat 31 29 3 = v at hst honly ⊢
  obtain ⟨k1, k2, k3, k4, k5⟩ := v.stopped_keeps { v.pwr with stopped := 2 }
  refine ⟨k1.trans (by rw [honly]; exact h1), k2.trans (by rw [honly]; exact h2), ?_, ?_, k3.trans (by rw [honly]; exact h5),
    (congrArg HostIf.rates k4).trans (by rw [honly]; exact h6), (State.rdF_of_regs k5 ..).trans hst⟩
  · rw [honly]
    exact h3
  · rw [honly]
    exact h4

theorem State.finishShutdown_off : s.finishShutdown.hifState = 3 ∧ s.finishShutdown.pwr.main = false ∧ s.finishShutdown.pwr.record ≠ none
    ∧ s.finishShutdown.mem = [] ∧ s.finishShutdown.threads = [] ∧ s.finishShutdown.resp = s.resp
    ∧ ((s.rate ePwrOffReady.toNat).sent < 1000 → s.finishShutdown.reports.getLast?.map (·.err) = some ePwrOffReady) := by
  obtain ⟨a1, a2⟩ := s.settle_keeps
  obtain ⟨b1, b2, b3⟩ := s.settle.recordOff_records
  obtain ⟨c1, c2, c3, c4, c5, c6, c7⟩ := s.settle.recordOff.powerOff_off
  rw [State.finishShutdown_eq]
  have hrate : s.settle.recordOff.powerOff.rate ePwrOffReady.toNat = s.rate ePwrOffReady.toNat := by
    have h : s.settle.rate ePwrOffReady.toNat = s.rate ePwrOffReady.toNat := by rw [State.rate, a2, State.rate]
    rw [State.rate, c6, ← State.rate, b3, h]
  have hresp := c5.trans (b1.trans a1)
  rw [← c4] at b2
  generalize s.settle.recordOff.powerOff = u at c1 c2 c3 b2 hresp c7 hrate ⊢
  have hev := u.event_reported uPower 0 0 ePwrOffReady
  refine ⟨(State.rdF_of_regs hev.regs ..).trans c7, ?_, ?_, hev.mem.trans c1, hev.threads.trans c2, hev.resp.trans hresp, fun h => ?_⟩
  · rw [hev.pwr, c3]
  · rw [hev.pwr]
    exact b2
  · exact State.last_report u (by rw [hrate]; exact h)

end Off

section Shutdown
variable {s : State} {m : Msg} {r : Request}

/-- A partition told to end: its commands finish, and then it is idle. -/
def State.endWork (s : State) (p : Nat) : State :=
  if (s.part p).st = .ready && !s.partIdle p then s.preempt p false { ch := 255, tag := 0 } else s.haltPart p

/-- The module shuts down: every partition is told. -/
def State.beginShutdown (s : State) : State :=
  (List.range 8).foldl State.endWork { s with pwr := { s.pwr with shutting := true } }

/-- What telling a partition to end leaves as it is. -/
def EndKept (s t : State) : Prop :=
  t.pwr = s.pwr ∧ t.mem = s.mem ∧ t.host = s.host ∧ t.cmds = s.cmds

theorem EndKept.trans {s t u : State} (h : EndKept s t) (h' : EndKept t u) : EndKept s u :=
  ⟨h'.1.trans h.1, h'.2.1.trans h.2.1, h'.2.2.1.trans h.2.2.1, h'.2.2.2.trans h.2.2.2⟩

theorem State.endWork_kept (s : State) (p : Nat) : EndKept s (s.endWork p) := by
  obtain ⟨rings, h⟩ := s.haltPart_only p
  unfold State.endWork State.preempt
  rw [h]
  split
  · exact ⟨rfl, rfl, rfl, rfl⟩
  · exact ⟨rfl, rfl, rfl, rfl⟩

theorem State.beginShutdown_begins (s : State) : s.beginShutdown.pwr = { s.pwr with shutting := true } ∧ s.beginShutdown.mem = s.mem
    ∧ s.beginShutdown.host = s.host ∧ s.beginShutdown.cmds = s.cmds := by
  have hfold (l : List Nat) (s : State) : EndKept s (l.foldl State.endWork s) := by
    induction l generalizing s with
    | nil => exact ⟨rfl, rfl, rfl, rfl⟩
    | cons p l ih => exact (s.endWork_kept p).trans (ih _)
  exact hfold _ { s with pwr := { s.pwr with shutting := true } }

theorem State.allIdle_of_cmds {s t : State} (h : t.cmds = s.cmds) : t.allIdle = s.allIdle := by
  unfold State.allIdle State.partIdle
  rw [h]

theorem exec_shutdown_eq (s : State) (m : Msg) : exec (.shutdown m) s = .next (
    let t := s.serve m 0x0132 0 (hasRole [.operator, .service]) (fun s _ => (s.beginShutdown, some (0, [])))
    if t.pwr.shutting && t.allIdle then t.finishShutdown else t) := rfl

variable (hr : requestOf (.shutdown m) = some r) (h : s.accepts r)
include hr h

/-- SHUTDOWN is answered when it is accepted; with nothing live the module goes off at once. -/
theorem shutdown_runs : ∃ u, u = (s.taking r).beginShutdown ∧ (u.chan r.m.ch).busy = false ∧
    exec (.shutdown m) s = .next (if s.allIdle then (u.respond r.m.ch r.code r.m.tag 0 []).finishShutdown else u.respond r.m.ch r.code r.m.tag 0 []) := by
  have ⟨⟨hch, _⟩, _⟩ := h
  obtain ⟨h1, h2, h3, h4⟩ := (s.taking r).beginShutdown_begins
  have hidle : (((s.taking r).beginShutdown).chan r.m.ch).busy = false := by
    rw [State.chan_of_chans (congrArg HostIf.chans h3)]
    exact State.taking_idle h
  refine ⟨_, rfl, hidle, ?_⟩
  have hserve := State.serve_of_accepts h (f := fun s _ => (s.beginShutdown, some (0, []))) (u := (s.taking r).beginShutdown) (st := 0) (b := []) rfl
  rw [if_neg (by decide)] at hserve
  have hexec : exec (.shutdown m) s = .next (
      let t := s.serve r.m r.code r.size r.who (fun s _ => (s.beginShutdown, some (0, [])))
      if t.pwr.shutting && t.allIdle then t.finishShutdown else t) := by
    obtain rfl := Option.some.inj hr
    exact exec_shutdown_eq s m
  rw [hexec, hserve]
  have hpwr : ((s.taking r).beginShutdown.respond r.m.ch r.code r.m.tag 0 []).pwr.shutting = true := by
    rw [State.pwr_respond hch hidle, h1]
  have hcmds : ((s.taking r).beginShutdown.respond r.m.ch r.code r.m.tag 0 []).cmds = (s.taking r).beginShutdown.cmds := by
    obtain ⟨irqs, hresp⟩ := State.respond_of_idle hch hidle r.code r.m.tag 0 []
    rw [hresp]
  have htaking : (s.taking r).cmds = s.cmds := rfl
  have hall := State.allIdle_of_cmds (hcmds.trans (h4.trans htaking))
  generalize (s.taking r).beginShutdown.respond r.m.ch r.code r.m.tag 0 [] = t at hpwr hall ⊢
  dsimp only
  rw [hpwr, hall]
  rfl

theorem shutdown_off (hidle : s.allIdle = true) : ∃ t, exec (.shutdown m) s = .next t ∧ t.hifState = 3 ∧ t.pwr.main = false ∧ t.pwr.record ≠ none ∧ t.mem = []
    ∧ t.threads = [] ∧ leAt t.resp 8 2 = 0 ∧ ((s.rate ePwrOffReady.toNat).sent < 1000 → t.reports.getLast?.map (·.err) = some ePwrOffReady) := by
  have ⟨⟨hch, _⟩, _⟩ := h
  obtain ⟨u, hu, hbusy, hrun⟩ := shutdown_runs hr h
  rw [if_pos hidle] at hrun
  refine ⟨_, hrun, ?_⟩
  have hhost : u.host = (s.taking r).host := hu ▸ (s.taking r).beginShutdown_begins.2.2.1
  obtain ⟨irqs, hresp⟩ := State.respond_of_idle hch hbusy r.code r.m.tag 0 []
  have hreply : (u.respond r.m.ch r.code r.m.tag 0 []).resp = (u.chan r.m.ch).reply r.code r.m.tag 0 [] := by rw [hresp]
  have hrates : (u.respond r.m.ch r.code r.m.tag 0 []).host.rates = s.host.rates := by
    have h : (u.respond r.m.ch r.code r.m.tag 0 []).host.rates = u.host.rates := by
      rw [hresp]
      rfl
    rw [h, hhost]
    rfl
  generalize u.respond r.m.ch r.code r.m.tag 0 [] = t at hreply hrates ⊢
  obtain ⟨f1, f2, f3, f4, f5, f6, f7⟩ := t.finishShutdown_off
  refine ⟨f1, f2, f3, f4, f5, ?_, fun hsent => f7 ?_⟩
  · rw [f6, hreply, Chan.reply_status]
    rfl
  · rw [State.rate, hrates]
    exact hsent

theorem shutdown_waits (hidle : s.allIdle = false) : Served (.shutdown m) s r 0 [] (fun t => t.pwr.shutting = true ∧ t.pwr.main = s.pwr.main ∧ t.mem = s.mem) := by
  have ⟨⟨hch, _⟩, _⟩ := h
  obtain ⟨u, hu, hbusy, hrun⟩ := shutdown_runs hr h
  rw [if_neg (ne_true_of_eq_false hidle)] at hrun
  refine served_of_respond hrun hch (requestOf_code hr) hbusy fun t ht => ?_
  obtain ⟨h1, h2, -, -⟩ := (s.taking r).beginShutdown_begins
  rw [← hu] at h1 h2
  refine ⟨?_, ?_, ?_⟩
  · rw [ht.pwr, h1]
  · rw [ht.pwr, h1]
    rfl
  · rw [ht]
    exact h2

end Shutdown

/-- Settles O53, message by message. -/
theorem powerMessages : Obligations.PowerMessages := by
  unfold Obligations.PowerMessages
  intro s m image
  refine ⟨fun r hr h => ⟨profileReq_refused hr h, fun hle => ?_, fun hff => ?_⟩, fun r hr h => policySet_served hr h,
    fun r hr h => ⟨shutdown_off hr h, shutdown_waits hr h⟩, fun r hr h => ⟨imageWrite_refused hr h, imageWrite_served hr h⟩,
    fun r hr h => ⟨calSet_refused hr h, calSet_served hr h⟩, fun r hr h => calRead_served hr h,
    fun r hr h => ⟨takeover_mcp hr h, takeover_mcp_none hr h, fun w hw => takeover_wc hr h hw⟩⟩
  · have hrun := profileReq_served hr h (.inl hle)
    rwa [if_neg (by omega)] at hrun
  · have hrun := profileReq_served hr h (.inr hff)
    rwa [if_pos hff] at hrun

end Sys2Proof.Machine
end

section
/-! PROOFS. Counters and traces (R631, R632, R635, R638, R641, R645 to R647). -/

namespace Sys2Proof.Machine

/-! ### What a request finds as it was -/

theorem Aside.regs {u t : State} (h : Aside u t) : t.regs = u.regs := by rw [h]

theorem Aside.memory {u t : State} (h : Aside u t) : t.mem = u.mem := by rw [h]

theorem Aside.cnt {u t : State} (h : Aside u t) : t.cnt = u.cnt := by rw [h]

theorem Aside.of_regsOnly {s u t : State} {r : Request} (h : Aside u t) (hu : RegsOnly (s.taking r) u) : Aside { s with regs := t.regs } t := by
  obtain ⟨regs, rfl⟩ := hu
  rw [h.regs]
  exact Eq.trans h rfl

theorem RegsOnly.wr64 {s t : State} (h : RegsOnly s t) (o v : Nat) : RegsOnly s (t.wr64 o v) := by
  obtain ⟨_, rfl⟩ := h
  exact ⟨_, rfl⟩

theorem State.rdF_wr64_apart (s : State) (o : Nat) {o' : Nat} (h : o' < o ∨ o + 4 < o') (hi lo v : Nat) :
    (s.wr64 o v).rdF o' hi lo = s.rdF o' hi lo := by
  rw [State.wr64, State.rdF_wr_ne _ _ (by omega), State.rdF_wr_ne _ _ (by omega)]

theorem State.rd64_of_regs {s t : State} (h : t.regs = s.regs) (o : Nat) : t.rd64 o = s.rd64 o := by
  rw [State.rd64, State.rd, State.rd, h, State.rd64, State.rd, State.rd]

theorem State.taking_sees (s : State) (r : Request) : Sees s (s.taking r) := .of_regs (s := s) (t := s.taking r) rfl rfl rfl rfl rfl rfl

theorem State.owner_of_sees {s t : State} (h : Sees s t) (hregs : t.regs = s.regs) (hphys : ∀ i, t.partOfPhys i = s.partOfPhys i) (pa : Nat) :
    t.owner pa = s.owner pa := by
  have hrdF (o hi lo : Nat) : t.rdF o hi lo = s.rdF o hi lo := State.rdF_of_regs hregs ..
  have hrec (a : Nat) : t.recPart a = s.recPart a := by
    rw [State.recPart, h.seen, State.recPart]
  unfold State.owner
  simp only [hrdF, hrec, hphys]

theorem State.partRange_of_sees {s t : State} (h : Sees s t) (hregs : t.regs = s.regs) (hphys : ∀ i, t.partOfPhys i = s.partOfPhys i)
    (hrange : ∀ a n, t.range a n = s.range a n) (p a n : Nat) : t.partRange p a n = s.partRange p a n := by
  have howns (pa : Nat) : t.owns p pa n = s.owns p pa n := by
    unfold State.owns
    simp only [State.owner_of_sees h hregs hphys]
  rw [State.partRange, hrange, State.partRange]
  simp only [howns]

theorem State.partRange_taking (s : State) (r : Request) (p a n : Nat) : (s.taking r).partRange p a n = s.partRange p a n :=
  State.partRange_of_sees (s.taking_sees r) rfl (fun _ => rfl) (fun _ _ => rfl) p a n

theorem State.entryMembers_of_sees {s t : State} (h : Sees s t) (hregs : t.regs = s.regs) (g : Nat) : t.entryMembers g = s.entryMembers g := by
  have hseq (b : Nat) : t.gtSeq b = s.gtSeq b := by rw [State.gtSeq, State.rd, hregs, State.gtSeq, State.rd]
  have hnew : t.gtNewest = s.gtNewest := by rw [State.gtNewest, hseq, hseq, State.gtNewest]
  have hmem (b i : Nat) : t.gtMembers b i = s.gtMembers b i := by
    unfold State.gtMembers State.gtCount
    simp only [h.seen]
  rw [State.entryMembers, hnew, hseq, hmem, State.entryMembers]

theorem State.entryMembers_taking (s : State) (r : Request) (g : Nat) : (s.taking r).entryMembers g = s.entryMembers g :=
  State.entryMembers_of_sees (s.taking_sees r) rfl g

/-! ### Captures -/

section Captures
variable {s : State}

theorem counterCapture_denied (off : Nat) (hnone : s.host.window = none) : ∃ t, exec (.counterCapture 0 off) s = .next t ∧ t.resp = zeros 8
    ∧ t.host.log.map (·.code) = s.host.log.map (·.code) ++ [eHifRoleDenied] ∧ t.cnt = s.cnt := by
  refine ⟨_, if_pos (by simp [hnone]), rfl, ?_, rfl⟩
  exact List.map_append

/-- A view captured anew. -/
def State.capture (s : State) (base : Nat) (words : List W64) : State :=
  { s with cnt := { s.cnt with
    shadows := s.cnt.shadows.filter (fun (x : Nat × Nat × List W64) => !(x.1 = 0 && x.2.1 = base)) ++ [(0, base, words)] } }

theorem counterCapture_viewed {off base : Nat} {words : List W64} (hopen : s.host.window ≠ none) (hview : s.viewAt off = some (base, words)) :
    exec (.counterCapture 0 off) s = .next (if off = base then (s.capture base words).answer (leBytes 8 (words.getD 0 0).toNat)
      else s.answer (leBytes 8 ((((s.cnt.shadows.find? (fun (x : Nat × Nat × List W64) => x.1 = 0 && x.2.1 = base)).map (·.2.2)).getD []).getD
        ((off - base) / 8) 0).toNat)) := by
  have hrun : execCounterCapture 0 off s = .next (if off = base then (s.capture base words).answer (leBytes 8 (words.getD 0 0).toNat)
      else s.answer (leBytes 8 ((((s.cnt.shadows.find? (fun (x : Nat × Nat × List W64) => x.1 = 0 && x.2.1 = base)).map (·.2.2)).getD []).getD
        ((off - base) / 8) 0).toNat)) := by
    unfold execCounterCapture
    rw [if_neg (by simpa [Option.isNone_iff_eq_none] using hopen), if_neg (by simp), hview]
    dsimp only
    split
    · rfl
    · rfl
  exact hrun

theorem counterCapture_captures {off : Nat} {words : List W64} (hopen : s.host.window ≠ none) (hview : s.viewAt off = some (off, words)) :
    ∃ t, exec (.counterCapture 0 off) s = .next t ∧ t.resp = leBytes 8 (words.getD 0 0).toNat ∧ (0, off, words) ∈ t.cnt.shadows
      ∧ t.cnt.total = s.cnt.total ∧ t.cnt.tracks = s.cnt.tracks :=
  ⟨_, (counterCapture_viewed hopen hview).trans (congrArg Host.Outcome.next (if_pos rfl)), rfl, List.mem_append_right _ (.head _), rfl, rfl⟩

theorem counterCapture_captured {off base : Nat} {words : List W64} {old : Nat × Nat × List W64} (hopen : s.host.window ≠ none)
    (hview : s.viewAt off = some (base, words)) (hne : off ≠ base)
    (hold : s.cnt.shadows.find? (fun (x : Nat × Nat × List W64) => x.1 = 0 && x.2.1 = base) = some old) :
    exec (.counterCapture 0 off) s = .next (s.answer (leBytes 8 (old.2.2.getD ((off - base) / 8) 0).toNat)) := by
  rw [counterCapture_viewed hopen hview, if_neg hne, hold]
  rfl

end Captures

/-! ### Trackers -/

section Trackers
variable {s : State} (x : Nat)

theorem State.swapTracker_swaps (seq : W32) (layer oper : W16) : (s.swapTracker x seq layer oper).rdB (rCntTrk x) 28 = (!s.rdB (rCntTrk x) 28)
    ∧ (s.swapTracker x seq layer oper).track x = (if s.rdB (rCntTrk x) 28 then { s.track x with x := { seq, layer, oper, beat := s.now } }
        else { s.track x with y := { seq, layer, oper, beat := s.now } }) :=
  ⟨State.rdB_wrB_same _ _ (by omega) _, tget_tput_self ..⟩

theorem State.swapRow_of_mode (hmode : s.rdF (rCntTrk x) 31 30 = 1 ∨ s.rdF (rCntTrk x) 31 30 = 2) : s.swapRow x = s.swapTracker x 0 0 0 :=
  if_pos (by simpa using hmode)

theorem swap_swaps (hmode : s.rdF (rCntTrk x) 31 30 = 1 ∨ s.rdF (rCntTrk x) 31 30 = 2) : ∃ t, exec (.swap x) s = .next t
    ∧ t.rdB (rCntTrk x) 28 = (!s.rdB (rCntTrk x) 28)
    ∧ (s.rdB (rCntTrk x) 28 = true → t.track x = { s.track x with x := { beat := s.now } })
    ∧ (s.rdB (rCntTrk x) 28 = false → t.track x = { s.track x with y := { beat := s.now } }) := by
  obtain ⟨h1, h2⟩ := s.swapTracker_swaps x 0 0 0
  refine ⟨_, congrArg Host.Outcome.next (State.swapRow_of_mode x hmode), h1, fun h => ?_, fun h => ?_⟩
  · rw [h2, if_pos h]
  · rw [h2, if_neg (ne_true_of_eq_false h)]

theorem swap_off (hmode : s.rdF (rCntTrk x) 31 30 = 0) : exec (.swap x) s = .next s := congrArg Host.Outcome.next (if_neg (by simp [hmode]))

theorem cntTrk_read : ∃ t, exec (.cntTrkRead x) s = .next t ∧ t.resp = leBytes 4 (s.rd (rCntTrk x)).toNat ∧ t.rdF (rCntTrk x) 27 20 = 0
    ∧ t.rdF (rCntTrk x) 31 28 = s.rdF (rCntTrk x) 31 28 ∧ t = { s with regs := t.regs, resp := t.resp } :=
  ⟨_, rfl, rfl, State.rdF_wrF_same _ _ (by omega) (by omega) _, State.rdF_wrF_apart _ _ (by omega) (by omega) (by omega) _, rfl⟩

/-- A ring's LOST field cleared. -/
def State.clearLost (s : State) (y : Nat) : State :=
  { s with cnt := { s.cnt with traceLost := tput (fun _ => (0, 0)) s.cnt.traceLost y (0, (tget (fun _ => (0, 0)) s.cnt.traceLost y).2) } }

theorem cntTrc_read (y : Nat) : ∃ t, exec (.cntTrcRead y) s = .next t
    ∧ t.resp = leBytes 4 (bfSet (s.rd (rCntTrc y)) 15 0 (tget (fun _ => (0, 0)) s.cnt.traceLost y).1).toNat
    ∧ (tget (fun _ => (0, 0)) t.cnt.traceLost y).1 = 0 ∧ (∀ z, z ≠ y → tget (fun _ => (0, 0)) t.cnt.traceLost z = tget (fun _ => (0, 0)) s.cnt.traceLost z)
    ∧ t.rdF (rCntTrc y) 31 16 = s.rdF (rCntTrc y) 31 16
    ∧ t = { s with regs := t.regs, resp := t.resp, cnt := { s.cnt with traceLost := t.cnt.traceLost } } := by
  refine ⟨_, rfl, rfl, ?_, fun z hz => ?_, ?_, rfl⟩
  · exact congrArg Prod.fst (tget_tput_self (fun _ => (0, 0)) s.cnt.traceLost y _)
  · exact tget_tput_ne (fun _ => (0, 0)) s.cnt.traceLost y z _ hz
  · have hrd : (s.clearLost y).rdF (rCntTrc y) 31 16 = s.rdF (rCntTrc y) 31 16 := State.rdF_of_regs rfl ..
    exact (State.rdF_wrF_apart (s.clearLost y) _ (by omega) (by omega) (by omega) _).trans hrd

end Trackers

section Messages
variable {s : State} {m : Msg} {r : Request}

/-- CNT_TRACK's own effect. -/
def State.cntTrack (s : State) (x : Chan) (b : List Byte) : State × Answer :=
  if 7 < leAt b 0 1 || 2 < leAt b 1 1 || 2 < leAt b 2 1 || 1 < leAt b 3 1 || leAt b 4 4 ≠ 0 then (s, refusal eHifMsgInvalid)
  else if !ownPart x (leAt b 0 1) then (s, refusal eHifRoleDenied)
  else if leAt b 3 1 = 1 then (s.swapRow (3 * leAt b 0 1 + leAt b 1 1), some (0, []))
  else ((s.wrF (rCntTrk (3 * leAt b 0 1 + leAt b 1 1)) 31 30 (leAt b 2 1)).wr64 (rCntTrkf (3 * leAt b 0 1 + leAt b 1 1)) (leAt b 8 8), some (0, []))

section Track
variable (hr : requestOf (.cntTrack m) = some r) (h : s.accepts r) (h0 : leAt r.text 0 1 ≤ 7) (h1 : leAt r.text 1 1 ≤ 2) (h2 : leAt r.text 2 1 ≤ 2)
  (h4 : leAt r.text 4 4 = 0) (hown : ownPart (s.chan m.ch) (leAt r.text 0 1) = true)
include hr h h0 h1 h2 h4 hown

theorem cntTrack_effect {u : State} (h3 : leAt r.text 3 1 ≤ 1)
    (hu : (if leAt r.text 3 1 = 1 then (s.taking r).swapRow (3 * leAt r.text 0 1 + leAt r.text 1 1)
      else ((s.taking r).wrF (rCntTrk (3 * leAt r.text 0 1 + leAt r.text 1 1)) 31 30 (leAt r.text 2 1)).wr64
        (rCntTrkf (3 * leAt r.text 0 1 + leAt r.text 1 1)) (leAt r.text 8 8)) = u) (hhost : u.host = (s.taking r).host) {P : State → Prop}
    (hP : ∀ t, Aside u t → P t) : Served (.cntTrack m) s r 0 [] P := by
  obtain rfl := Option.some.inj hr
  generalize hR : (⟨m, 0x0140, 16, hasRole [.operator, .tenant]⟩ : Request) = R at *
  have hch : R.m.ch = m.ch := by rw [← hR]
  refine served_of_answer (f := fun s b => s.cntTrack (s.chan m.ch) b) (u := u) h (by rw [← hR]; rfl) ?_ (by decide) (requestOf_code hr) ?_ hP
  · unfold State.cntTrack
    rw [if_neg (by simp [Nat.not_lt.mpr h0, Nat.not_lt.mpr h1, Nat.not_lt.mpr h2, Nat.not_lt.mpr h3, h4]), if_neg (by simp [ownPart_taking hch hown])]
    rw [← hu]
    split
    · rfl
    · rfl
  · rw [State.chan_of_chans (congrArg HostIf.chans hhost)]
    exact State.taking_idle h

theorem cntTrack_sets (h3 : leAt r.text 3 1 = 0) : Served (.cntTrack m) s r 0 [] (fun t =>
    t.rdF (rCntTrk (3 * leAt r.text 0 1 + leAt r.text 1 1)) 31 30 = leAt r.text 2 1
      ∧ t.rd64 (rCntTrkf (3 * leAt r.text 0 1 + leAt r.text 1 1)) = leAt r.text 8 8 ∧ Aside { s with regs := t.regs } t) := by
  generalize hx : 3 * leAt r.text 0 1 + leAt r.text 1 1 = x
  refine cntTrack_effect (u := ((s.taking r).wrF (rCntTrk x) 31 30 (leAt r.text 2 1)).wr64 (rCntTrkf x) (leAt r.text 8 8))
    hr h h0 h1 h2 h4 hown (by omega) ((if_neg (by omega)).trans (by rw [hx])) rfl fun t ht => ⟨?_, ?_, ht.of_regsOnly (.wr64 (.wrF (.refl _) ..) ..)⟩
  · rw [State.rdF_of_regs ht.regs, State.rdF_wr64_apart _ _ (.inl (by unfold rCntTrk rCntTrkf cntReg; omega)), State.rdF_wrF_same _ _ (by omega) (by omega)]
    exact Nat.mod_eq_of_lt (by omega)
  · rw [State.rd64_of_regs ht.regs, State.rd64_wr64_same]
    exact Nat.mod_eq_of_lt (leAt_lt ..)

theorem cntTrack_swaps (h3 : leAt r.text 3 1 = 1) (hmode : s.rdF (rCntTrk (3 * leAt r.text 0 1 + leAt r.text 1 1)) 31 30 = 1) :
    Served (.cntTrack m) s r 0 [] (fun t => t.rdB (rCntTrk (3 * leAt r.text 0 1 + leAt r.text 1 1)) 28
      = !s.rdB (rCntTrk (3 * leAt r.text 0 1 + leAt r.text 1 1)) 28) := by
  generalize hx : 3 * leAt r.text 0 1 + leAt r.text 1 1 = x at hmode ⊢
  have hmode' : (s.taking r).rdF (rCntTrk x) 31 30 = 1 := hmode
  have hkeep : (s.taking r).rdB (rCntTrk x) 28 = s.rdB (rCntTrk x) 28 := State.rdB_of_regs rfl ..
  refine cntTrack_effect (u := (s.taking r).swapTracker x 0 0 0) hr h h0 h1 h2 h4 hown (by omega)
    ((if_pos h3).trans (by rw [hx, State.swapRow_of_mode x (.inl hmode')])) rfl fun t ht => ?_
  rw [State.rdB_of_regs ht.regs, ((s.taking r).swapTracker_swaps x 0 0 0).1, hkeep]

end Track

section Window

/-- CNT_WINDOW's own effect. -/
def State.cntWindow (s : State) (x : Chan) (b : List Byte) : State × Answer :=
  let slot := leAt b 0 1
  let part := leAt b 1 1
  let g := leAt b 2 2
  let len := leAt b 4 4
  let dest := leAt b 16 8
  let ms := s.entryMembers g
  let n : W64 := if leAt b 8 8 = 0 then s.now + BitVec.ofNat 64 s.lead else BitVec.ofNat 64 (leAt b 8 8)
  let own := decide ((s.part part).gtBase ≤ g ∧ g < (s.part part).gtBase + (s.part part).gtCount)
  if 15 < slot || (7 < part && part ≠ 0xFF) || 0xFFE < g || ms.isEmpty || len = 0 || (part < 8 && (!own || dest % 8 ≠ 0
      || (s.partRange part dest 256).isNone)) then (s, refusal eHifMsgInvalid)
  else if x.role = .tenant && part ≠ x.part then (s, refusal eHifRoleDenied)
  else if !s.leadOk n then (s.leadRefuse, some (eSyncLead, leBytes 8 n.toNat))
  else
    let s := s.setWin slot { s.win slot with len, dest := BitVec.ofNat 64 dest }
    let s := ms.foldl (fun s y => if y.1 = s.maddr then s else (s.mcpPkt 5 y.1 0xFFF 0 (mgmtWindow slot len dest)).1) s
    (s.issueEvent ms (part = 0xFF) 6 g n (BitVec.ofNat 32 slot), some (0, leBytes 8 n.toNat))

/-- The beat that a CNT_WINDOW body names, or the first that gives the lead. -/
def windowBeat (s : State) (b : List Byte) : W64 := if leAt b 8 8 = 0 then s.now + BitVec.ofNat 64 s.lead else BitVec.ofNat 64 (leAt b 8 8)

/-- A window taken up: its record written, and its messages and events sent to the members. -/
def State.sendWindow (s : State) (b : List Byte) : State :=
  ((s.entryMembers (leAt b 2 2)).foldl
      (fun s y => if y.1 = s.maddr then s else (s.mcpPkt 5 y.1 0xFFF 0 (mgmtWindow (leAt b 0 1) (leAt b 4 4) (leAt b 16 8))).1)
      (s.setWin (leAt b 0 1) { s.win (leAt b 0 1) with len := leAt b 4 4, dest := BitVec.ofNat 64 (leAt b 16 8) })).issueEvent
    (s.entryMembers (leAt b 2 2)) (leAt b 1 1 = 0xFF) 6 (leAt b 2 2) (windowBeat s b) (BitVec.ofNat 32 (leAt b 0 1))

theorem getLast?_drop_append (l : List Sent) (x : Sent) (n : Nat) (hn : 0 < n) :
    ((l ++ [x]).drop ((l ++ [x]).length - n)).getLast? = some x := by
  rw [List.getLast?_drop, if_neg (by simp only [List.length_append, List.length_cons, List.length_nil]; omega), List.getLast?_append, List.getLast?_singleton]
  rfl

/-- An event sent to a list of members, the last of them apart. -/
theorem State.issueEvent_append (s : State) (ms : List (Nat × Nat)) (y : Nat × Nat) (wide : Bool) (kind group : Nat) (n : W64) (ident : W32)
    (req : Option (Nat × W32)) : ∃ u x, (s.issueEvent (ms ++ [y]) wide kind group n ident req).beat.issued = ((u ++ [x]).drop ((u ++ [x]).length - 256))
      ∧ x.kind = kind ∧ x.ident = ident ∧ x.beat = n ∧ x.req = req := by
  unfold State.issueEvent
  dsimp only
  rw [List.foldl_append, List.foldl_cons, List.foldl_nil]
  generalize State.mcpPkt _ 4 y.1 group _ [] = w
  generalize Option.map _ _ = own
  dsimp only
  exact ⟨w.1.beat.issued, ⟨w.2, kind, own, ident, n, req⟩, rfl, rfl, rfl, rfl, rfl⟩

/-- The last event sent to a list of members is the one that was asked for. -/
theorem State.issueEvent_last (s : State) {ms : List (Nat × Nat)} (hms : ms ≠ []) (wide : Bool) (kind group : Nat) (n : W64) (ident : W32)
    (req : Option (Nat × W32)) : ∃ x, (s.issueEvent ms wide kind group n ident req).beat.issued.getLast? = some x ∧ x.kind = kind ∧ x.ident = ident
      ∧ x.beat = n ∧ x.req = req := by
  obtain ⟨l, y, rfl⟩ : ∃ l y, ms = l ++ [y] := ⟨_, _, (List.dropLast_append_getLast hms).symm⟩
  obtain ⟨u, x, h, hx⟩ := s.issueEvent_append l y wide kind group n ident req
  exact ⟨x, by rw [h, getLast?_drop_append _ _ _ (by decide)], hx⟩

theorem State.sendWindow_opens (s : State) (b : List Byte) (hms : s.entryMembers (leAt b 2 2) ≠ []) :
    ((s.sendWindow b).win (leAt b 0 1)).len = leAt b 4 4 ∧ ((s.sendWindow b).win (leAt b 0 1)).dest.toNat = leAt b 16 8
      ∧ (∃ x, (s.sendWindow b).beat.issued.getLast? = some x ∧ x.kind = 6 ∧ x.ident = BitVec.ofNat 32 (leAt b 0 1) ∧ x.beat = windowBeat s b)
      ∧ (s.sendWindow b).host = s.host := by
  generalize hw : s.setWin (leAt b 0 1) { s.win (leAt b 0 1) with len := leAt b 4 4, dest := BitVec.ofNat 64 (leAt b 16 8) } = w
  generalize hv : (s.entryMembers (leAt b 2 2)).foldl
    (fun s y => if y.1 = s.maddr then s else (s.mcpPkt 5 y.1 0xFFF 0 (mgmtWindow (leAt b 0 1) (leAt b 4 4) (leAt b 16 8))).1) w = v
  have hsent : s.sendWindow b
      = v.issueEvent (s.entryMembers (leAt b 2 2)) (leAt b 1 1 = 0xFF) 6 (leAt b 2 2) (windowBeat s b) (BitVec.ofNat 32 (leAt b 0 1)) := by
    rw [State.sendWindow, hw, hv]
  obtain ⟨fab, hfab⟩ : FabOnly w v := hv ▸ .foldl (fun s y => by
    split
    · exact .refl s
    · exact s.mcpPkt_fabOnly ..) _ w
  obtain ⟨fab', issued, hissue⟩ := v.issueEvent_only (s.entryMembers (leAt b 2 2)) (leAt b 1 1 = 0xFF) 6 (leAt b 2 2) (windowBeat s b)
    (BitVec.ofNat 32 (leAt b 0 1)) none
  have hwin : w.win (leAt b 0 1) = { s.win (leAt b 0 1) with len := leAt b 4 4, dest := BitVec.ofNat 64 (leAt b 16 8) } := hw ▸ tget_tput_self ..
  have hcnt : (s.sendWindow b).cnt = w.cnt := by rw [hsent, hissue, hfab]
  have hhost : (s.sendWindow b).host = s.host := by rw [hsent, hissue, hfab, ← hw, State.setWin]
  obtain ⟨x, hx, h1, h2, h3, -⟩ := v.issueEvent_last hms (leAt b 1 1 = 0xFF) 6 (leAt b 2 2) (windowBeat s b) (BitVec.ofNat 32 (leAt b 0 1)) none
  refine ⟨?_, ?_, ⟨x, by rw [hsent, hx], h1, h2, h3⟩, hhost⟩
  · rw [State.win, hcnt, ← State.win, hwin]
  · rw [State.win, hcnt, ← State.win, hwin]
    exact (BitVec.toNat_ofNat ..).trans (Nat.mod_eq_of_lt (leAt_lt b 16 8))

variable (hr : requestOf (.cntWindow m) = some r) (h : s.accepts r)
  (hrole : (s.chan m.ch).role = .tenant → leAt r.text 1 1 = (s.chan m.ch).part) (hslot : leAt r.text 0 1 ≤ 15) (hg : leAt r.text 2 2 ≤ 0xFFE)
  (hms : s.entryMembers (leAt r.text 2 2) ≠ []) (hlen : 0 < leAt r.text 4 4)
  (hpart : leAt r.text 1 1 = 0xFF ∨ (leAt r.text 1 1 ≤ 7 ∧ (s.part (leAt r.text 1 1)).gtBase ≤ leAt r.text 2 2
    ∧ leAt r.text 2 2 < (s.part (leAt r.text 1 1)).gtBase + (s.part (leAt r.text 1 1)).gtCount
    ∧ leAt r.text 16 8 % 8 = 0 ∧ s.partRange (leAt r.text 1 1) (leAt r.text 16 8) 256 ≠ none))
include hr h hrole hslot hg hms hlen hpart

theorem cntWindow_effect {u : State} {st : W16} {P : State → Prop} (hst : st ≠ eHifRoleDenied)
    (hu : (if !s.leadOk (windowBeat s r.text) then ((s.taking r).leadRefuse, some (eSyncLead, leBytes 8 (windowBeat s r.text).toNat))
      else ((s.taking r).sendWindow r.text, some (0, leBytes 8 (windowBeat s r.text).toNat))) = (u, some (st, leBytes 8 (windowBeat s r.text).toNat)))
    (hhost : u.host.chans = (s.taking r).host.chans) (hP : ∀ t, Aside u t → P t) :
    Served (.cntWindow m) s r st (leBytes 8 (windowBeat s r.text).toNat) P := by
  obtain rfl := Option.some.inj hr
  generalize hR : (⟨m, 0x0141, 24, hasRole [.operator, .tenant]⟩ : Request) = R at *
  have hch : R.m.ch = m.ch := by rw [← hR]
  have hchan : (s.taking R).chan m.ch = { s.chan m.ch with done := false } := hch ▸ s.chan_taking R
  have htenant : (((s.taking R).chan m.ch).role = .tenant && leAt R.text 1 1 ≠ ((s.taking R).chan m.ch).part) = false := by
    rw [hchan]
    by_cases ht : (s.chan m.ch).role = .tenant
    · simp [hrole ht]
    · simp [ht]
  refine served_of_answer (f := fun s b => s.cntWindow (s.chan m.ch) b) (u := u) h (by rw [← hR]; rfl) ?_ hst (requestOf_code hr) ?_ hP
  · unfold State.cntWindow
    dsimp only
    rw [if_neg ?_, if_neg (by rw [htenant]; decide)]
    · exact hu
    · rw [State.entryMembers_taking, State.partRange_taking]
      have hempty : (s.entryMembers (leAt R.text 2 2)).isEmpty = false := by simpa using hms
      rcases hpart with hp | ⟨hp, h1, h2, h3, h4⟩
      · simp [hp, Nat.not_lt.mpr hslot, Nat.not_lt.mpr hg, hempty, Nat.ne_of_gt hlen]
      · have hrange : (s.partRange (leAt R.text 1 1) (leAt R.text 16 8) 256).isNone = false := Option.isNone_eq_false_iff.mpr (Option.isSome_iff_ne_none.mpr h4)
        have h1' : ((s.taking R).part (leAt R.text 1 1)).gtBase ≤ leAt R.text 2 2 := h1
        have h2' : leAt R.text 2 2 < ((s.taking R).part (leAt R.text 1 1)).gtBase + ((s.taking R).part (leAt R.text 1 1)).gtCount := h2
        simp [Nat.not_lt.mpr hp, Nat.not_lt.mpr hslot, Nat.not_lt.mpr hg, hempty, Nat.ne_of_gt hlen, h1', h2', h3, hrange]
  · rw [State.chan_of_chans hhost]
    exact State.taking_idle h

theorem cntWindow_opens (hlead : s.now.toNat + s.lead ≤ (windowBeat s r.text).toNat) :
    Served (.cntWindow m) s r 0 (leBytes 8 (windowBeat s r.text).toNat) (fun t =>
      (t.win (leAt r.text 0 1)).len = leAt r.text 4 4 ∧ (t.win (leAt r.text 0 1)).dest.toNat = leAt r.text 16 8
      ∧ ∃ x, t.beat.issued.getLast? = some x ∧ x.kind = 6 ∧ x.ident = BitVec.ofNat 32 (leAt r.text 0 1) ∧ x.beat = windowBeat s r.text) := by
  obtain ⟨h1, h2, h3, h4⟩ := (s.taking r).sendWindow_opens r.text (by rwa [State.entryMembers_taking])
  refine cntWindow_effect hr h hrole hslot hg hms hlen hpart (by decide) (if_neg (by simpa [State.leadOk] using hlead)) (by rw [h4]) fun t ht => ?_
  have hbeat : t.beat = ((s.taking r).sendWindow r.text).beat := by rw [ht]
  rw [State.win, ht.cnt, hbeat]
  exact ⟨h1, h2, h3⟩

theorem cntWindow_short (hlead : (windowBeat s r.text).toNat < s.now.toNat + s.lead) :
    Served (.cntWindow m) s r eSyncLead (leBytes 8 (windowBeat s r.text).toNat) (fun t => t.cnt = s.cnt) := by
  have hrep : Reported ((s.taking r).wrB rBeatErr 1 true) (s.taking r).leadRefuse := State.event_reported ..
  refine cntWindow_effect hr h hrole hslot hg hms hlen hpart (by decide) (if_pos (by simpa [State.leadOk] using hlead)) hrep.chans fun t ht => ?_
  rw [ht.cnt]
  obtain ⟨_, _, _, _, _, _, hrep⟩ := hrep
  rw [hrep, State.wrB, State.wr]
  rfl

end Window

section TraceRings

/-- Where the ring of a TRACE_CFG body stands. -/
def State.traceAt (s : State) (b : List Byte) : Option Nat :=
  if leAt b 0 1 = 8 then some traceBase else (s.partRange (leAt b 0 1) (leAt b 8 8) (32 * 2 ^ leAt b 1 1)).filter isDram

/-- A trace ring's registers set. -/
def State.setTrace (s : State) (b : List Byte) (pa : Nat) : State :=
  (s.wrF (rCntTrc (leAt b 0 1)) 31 20 (2 ^ 11 * (leAt b 3 1 % 2) + 2 ^ 6 * leAt b 1 1 + 2 * leAt b 2 1 + leAt b 3 1 / 2)).wr64 (rCntTrcb (leAt b 0 1)) pa

/-- A trace ring started: its memory filled with zeros. -/
def State.startTrace (s : State) (b : List Byte) (pa : Nat) : State :=
  { s.zeroFill pa (32 * 2 ^ leAt b 1 1) with cnt := { s.cnt with traceNext := tput (fun _ => 0) s.cnt.traceNext (leAt b 0 1) 0 } }

/-- TRACE_CFG's own effect. -/
def State.traceCfg (s : State) (x : Chan) (b : List Byte) : State × Answer :=
  if 8 < leAt b 0 1 || leAt b 1 1 < 10 || 20 < leAt b 1 1 || 31 < leAt b 2 1 || 3 < leAt b 3 1 || (leAt b 0 1 < 8 && 1 < leAt b 3 1) || leAt b 4 4 ≠ 0 then
    (s, refusal eHifMsgInvalid)
  else if x.role = .tenant && leAt b 0 1 ≠ x.part then (s, refusal eHifRoleDenied)
  else match (if leAt b 8 8 % 4096 = 0 && (leAt b 0 1 < 8 || leAt b 8 8 = 0) then s.traceAt b else none) with
  | none => (s, refusal eHifMsgInvalid)
  | some pa => (if leAt b 3 1 % 2 = 1 then (s.setTrace b pa).startTrace b pa else s.setTrace b pa, some (0, []))

theorem execTraceCfg_eq (m : Msg) (s : State) :
    execTraceCfg m s = .next (s.serve m 0x0142 16 (hasRole [.operator, .tenant]) fun s b => s.traceCfg (s.chan m.ch) b) := rfl

theorem State.startTrace_clears {s : State} (harm : s.memx.armed = none) (b : List Byte) (pa : Nat) :
    (s.startTrace b pa).regs = s.regs ∧ (s.startTrace b pa).host = s.host
      ∧ ∀ a, pa ≤ a → a < pa + 32 * 2 ^ leAt b 1 1 → (s.startTrace b pa).byte a = 0 := by
  have hzero := (State.zeroFill_cleared harm pa (32 * 2 ^ leAt b 1 1)).2
  refine ⟨?_, ?_, hzero⟩
  · rw [State.startTrace, State.zeroFill_of_unarmed harm]
  · rw [State.startTrace, State.zeroFill_of_unarmed harm]

theorem State.setTrace_sets (s : State) {b : List Byte} (pa : Nat) (h1 : leAt b 1 1 ≤ 20) (h2 : leAt b 2 1 ≤ 31) (h3 : leAt b 3 1 ≤ 1) :
    (s.setTrace b pa).rdB (rCntTrc (leAt b 0 1)) 31 = decide (leAt b 3 1 = 1) ∧ (s.setTrace b pa).rdF (rCntTrc (leAt b 0 1)) 30 26 = leAt b 1 1
      ∧ (s.setTrace b pa).rdF (rCntTrc (leAt b 0 1)) 25 21 = leAt b 2 1 := by
  have hword : (s.setTrace b pa).rdF (rCntTrc (leAt b 0 1)) 31 20
      = 2 ^ 11 * (leAt b 3 1 % 2) + 2 ^ 6 * leAt b 1 1 + 2 * leAt b 2 1 + leAt b 3 1 / 2 := by
    rw [State.setTrace, State.rdF_wr64_apart _ _ (.inl (by unfold rCntTrc rCntTrcb cntReg; omega)), State.rdF_wrF_same _ _ (by omega) (by omega)]
    exact Nat.mod_eq_of_lt (by omega)
  generalize s.setTrace b pa = t at *
  have hlt := (t.rd (rCntTrc (leAt b 0 1))).isLt
  rw [State.rdF, bf_eq_div_mod] at hword
  rw [State.rdB, State.rdF, State.rdF, bf_eq_div_mod, bf_eq_div_mod, bitAt, ← BitVec.testBit_toNat, Nat.testBit_eq_decide_div_mod_eq, decide_eq_decide]
  generalize (t.rd (rCntTrc (leAt b 0 1))).toNat = w at *
  have h26 : w / 2 ^ 26 = w / 2 ^ 20 / 2 ^ 6 := by omega
  have h21 : w / 2 ^ 21 = w / 2 ^ 20 / 2 := by omega
  have h31 : w / 2 ^ 31 = w / 2 ^ 20 / 2 ^ 11 := by omega
  rw [Nat.mod_eq_of_lt (show leAt b 3 1 < 2 by omega), Nat.div_eq_of_lt (show leAt b 3 1 < 2 by omega)] at hword
  rw [h26, h21, h31]
  clear hlt h26 h21 h31
  generalize w / 2 ^ 20 = q at hword ⊢
  omega

variable (hr : requestOf (.traceCfg m) = some r) (h : s.accepts r)

include hr h in
theorem traceCfg_sets {pa : Nat} (h0 : leAt r.text 0 1 ≤ 7) (h1 : 10 ≤ leAt r.text 1 1) (h1' : leAt r.text 1 1 ≤ 20) (h2 : leAt r.text 2 1 ≤ 31)
    (h3 : leAt r.text 3 1 ≤ 1) (h4 : leAt r.text 4 4 = 0) (hown : ownPart (s.chan m.ch) (leAt r.text 0 1) = true) (h8 : leAt r.text 8 8 % 4096 = 0)
    (harm : s.memx.armed = none) (hrange : s.partRange (leAt r.text 0 1) (leAt r.text 8 8) (32 * 2 ^ leAt r.text 1 1) = some pa) (hdram : isDram pa = true) :
    Served (.traceCfg m) s r 0 [] (fun t => t.rdB (rCntTrc (leAt r.text 0 1)) 31 = decide (leAt r.text 3 1 = 1)
      ∧ t.rdF (rCntTrc (leAt r.text 0 1)) 30 26 = leAt r.text 1 1 ∧ t.rdF (rCntTrc (leAt r.text 0 1)) 25 21 = leAt r.text 2 1
      ∧ (leAt r.text 3 1 = 1 → ∀ a, pa ≤ a → a < pa + 32 * 2 ^ leAt r.text 1 1 → t.byte a = 0) ∧ (leAt r.text 3 1 = 0 → t.mem = s.mem)) := by
  obtain rfl := Option.some.inj hr
  generalize hR : (⟨m, 0x0142, 16, hasRole [.operator, .tenant]⟩ : Request) = R at *
  have hch : R.m.ch = m.ch := by rw [← hR]
  have hat : (s.taking R).traceAt R.text = some pa := by
    rw [State.traceAt, if_neg (by omega), State.partRange_taking, hrange, Option.filter_some, if_pos hdram]
  have hrole := ownPart_taking hch hown
  generalize hu : (if leAt R.text 3 1 % 2 = 1 then ((s.taking R).setTrace R.text pa).startTrace R.text pa else (s.taking R).setTrace R.text pa) = u
  have hset := (s.taking R).setTrace_sets pa h1' h2 h3
  have harm' : ((s.taking R).setTrace R.text pa).memx.armed = none := harm
  obtain ⟨hregs, hhost, hzero⟩ := State.startTrace_clears harm' R.text pa
  have huregs : u.regs = ((s.taking R).setTrace R.text pa).regs := by
    rw [← hu]
    split
    · exact hregs
    · rfl
  have huhost : u.host = (s.taking R).host := by
    rw [← hu]
    split
    · exact hhost
    · rfl
  refine served_of_answer (f := fun s b => s.traceCfg (s.chan m.ch) b) (u := u) h (by rw [← hR, exec_traceCfg, execTraceCfg_eq]) ?_ (by decide)
    (requestOf_code hr) ?_ fun t ht => ⟨?_, ?_, ?_, fun he => ?_, fun he => ?_⟩
  · unfold State.traceCfg
    rw [if_neg (by
      simp only [Bool.or_eq_true, Bool.and_eq_true, decide_eq_true_eq]
      omega), if_neg ?_, if_pos (by simp [h8]; omega), hat]
    · rw [← hu]
    · generalize (s.taking R).chan m.ch = x at hrole
      unfold ownPart at hrole
      rw [Bool.and_eq_true, decide_eq_true_eq, decide_eq_true_eq]
      rintro ⟨ht, hne⟩
      rw [ht] at hrole
      exact hne (of_decide_eq_true hrole).symm
  · rw [State.chan_of_chans (congrArg HostIf.chans huhost)]
    exact State.taking_idle h
  · rw [State.rdB_of_regs (ht.regs.trans huregs), hset.1]
  · rw [State.rdF_of_regs (ht.regs.trans huregs), hset.2.1]
  · rw [State.rdF_of_regs (ht.regs.trans huregs), hset.2.2]
  · intro a hlo hhi
    rw [State.byte, ht.memory, ← hu, if_pos (by omega)]
    exact hzero a hlo hhi
  · rw [ht.memory, ← hu, if_neg (by omega)]
    rfl

variable (hr' : requestOf (.traceRead m) = some r)
include h hr'

theorem traceRead_records (hk : leAt r.text 0 4 < 2 ^ max 10 (min 20 (s.rdF (rCntTrc 8) 30 26))) :
    Served (.traceRead m) s r 0 (leBytes 4 (min 31 (2 ^ max 10 (min 20 (s.rdF (rCntTrc 8) 30 26)) - leAt r.text 0 4)) ++ zeros 12
      ++ s.seen (s.rd64 (rCntTrcb 8) + 32 * leAt r.text 0 4) (32 * min 31 (2 ^ max 10 (min 20 (s.rdF (rCntTrc 8) 30 26)) - leAt r.text 0 4))) (Aside s) := by
  obtain rfl := Option.some.inj hr'
  generalize hR : (⟨m, 0x0143, 4, hasRole [.operator, .service]⟩ : Request) = R at *
  have hrdF : (s.taking R).rdF (rCntTrc 8) 30 26 = s.rdF (rCntTrc 8) 30 26 := State.rdF_of_regs rfl ..
  have hrd : (s.taking R).rd64 (rCntTrcb 8) = s.rd64 (rCntTrcb 8) := State.rd64_of_regs rfl _
  refine served_of_answer (u := s.taking R) (f := ?_) h (by rw [← hR]; rfl) ?_ (by decide) (requestOf_code hr') (State.taking_idle h) fun t ht => ht.of_taking
  dsimp only
  rw [hrdF, hrd, (s.taking_sees R).seen, if_neg (by omega)]

theorem traceRead_beyond (hk : 2 ^ max 10 (min 20 (s.rdF (rCntTrc 8) 30 26)) ≤ leAt r.text 0 4) :
    Served (.traceRead m) s r eHifMsgInvalid [] (Aside s) := by
  obtain rfl := Option.some.inj hr'
  generalize hR : (⟨m, 0x0143, 4, hasRole [.operator, .service]⟩ : Request) = R at *
  have hrdF : (s.taking R).rdF (rCntTrc 8) 30 26 = s.rdF (rCntTrc 8) 30 26 := State.rdF_of_regs rfl ..
  refine served_of_answer (u := s.taking R) (f := ?_) h (by rw [← hR]; rfl) ?_ (by decide) (requestOf_code hr') (State.taking_idle h) fun t ht => ht.of_taking
  rw [hrdF, if_pos hk]
  rfl

end TraceRings

end Messages

/-- Settles O54: each register access and each message in turn. -/
theorem countersAndTraces : Obligations.CountersAndTraces := by
  intro s m
  refine ⟨counterCapture_denied, fun _ _ => counterCapture_captures, fun _ _ _ _ => counterCapture_captured, swap_swaps, swap_off, cntTrk_read,
    cntTrc_read, ?_, ?_, ?_, ?_⟩
  · intro r hr h b x h0 h1 h2 h4 hown
    exact ⟨cntTrack_sets hr h h0 h1 h2 h4 hown, cntTrack_swaps hr h h0 h1 h2 h4 hown⟩
  · intro r hr h b ms n part hrole hslot hg hms hlen hpart
    exact ⟨cntWindow_opens hr h hrole hslot hg hms hlen hpart, cntWindow_short hr h hrole hslot hg hms hlen hpart⟩
  · intro r pa hr h b y h0 h1 h1' h2 h3 h4 hown h8 harm hrange hdram
    exact traceCfg_sets hr h h0 h1 h1' h2 h3 h4 hown h8 harm hrange hdram
  · intro r hr h n k
    exact ⟨traceRead_records h hr, traceRead_beyond h hr⟩

end Sys2Proof.Machine
end

section
/-! PROOFS. The SMBus (R656) and the cartridge bays (R661 to R665). -/

namespace Sys2Proof.Machine

/-! ### The SMBus -/

section Smbus
variable {s : State}

theorem smbusRead_listed {code : Nat} {b : List Byte} (h : s.smbus code = some b) : exec (.smbusRead code) s =
    .next (if code = 0x06 then { s.answer b with pwr := { s.pwr with alert := 0 } } else if code = 0x04 then (s.answer b).bump else s.answer b) := by
  have hrun : execSmbusRead code s =
      .next (if code = 0x06 then { s.answer b with pwr := { s.pwr with alert := 0 } } else if code = 0x04 then (s.answer b).bump else s.answer b) := by
    rw [execSmbusRead, h]
    rfl
  exact hrun

theorem smbusRead_unlisted {code : Nat} (h : s.smbus code = none) : exec (.smbusRead code) s = .next (s.answer []) := by
  have hrun : execSmbusRead code s = .next (s.answer []) := by rw [execSmbusRead, h]
  exact hrun

theorem smbusRead_plain {code : Nat} {b : List Byte} (h : s.smbus code = some b) (h4 : code ≠ 0x04) (h6 : code ≠ 0x06) :
    exec (.smbusRead code) s = .next (s.answer b) := by
  rw [smbusRead_listed h, if_neg h6, if_neg h4]

end Smbus

/-! ### What stays of a cartridge when another part of its half changes -/

/-- Cartridge c and its bay are as they were. -/
structure CartKept (c : Nat) (s t : State) : Prop where
  cart : t.cartState c = s.cartState c
  half : t.rdF (rOptCart c) 29 28 = s.rdF (rOptCart c) 29 28
  bay : t.bay c = s.bay c

namespace CartKept
variable {c : Nat} {s t u : State}

theorem refl (s : State) : CartKept c s s := ⟨rfl, rfl, rfl⟩

theorem trans (h : CartKept c s t) (h' : CartKept c t u) : CartKept c s u := ⟨h'.cart.trans h.cart, h'.half.trans h.half, h'.bay.trans h.bay⟩

theorem of_fields (hc : c ≤ 3) (hk : FieldsKept bayReg s t) (hb : t.bays = s.bays) : CartKept c s t :=
  ⟨hk.cartState hc, hk.half hc, by rw [State.bay, hb, State.bay]⟩

theorem beside (hc : c ≤ 3) (h : Beside s t) : CartKept c s t := .of_fields hc (h.fields fun _ => bayReg_port) h.bays

end CartKept

section Kept
variable (s : State) {c h : Nat}

theorem State.linkDown_bays (p : Nat) : (s.linkDown p).bays = s.bays := by
  have hm := (s.setPortState_handled p 0).only
  rw [State.linkDown, (State.linkLost_beside _ p).bays, hm]
  rfl

theorem State.halfDown_bays (h : Nat) : (s.halfDown h).bays = s.bays := by
  unfold State.halfDown
  generalize halfPorts h = l
  induction l generalizing s with
  | nil => rfl
  | cons p l ih =>
    rw [List.foldl_cons, ih]
    split
    · exact s.linkDown_bays p
    · rfl

/-- Switching a half to one cartridge leaves the others alone. -/
theorem State.switchCart_kept {n : Nat} (hc : 1 ≤ c ∧ c ≤ 3) (hn : 1 ≤ n) (hne : c ≠ n) (h : Nat) : CartKept c s (s.switchCart n h) := by
  obtain ⟨hk, hb⟩ := s.switchCart_fields n h
  have hrd : (s.setCart n 0 h 0).rd (rOptCart c) = s.rd (rOptCart c) := s.rd_setCart _ _ _ (rOptCart_inj hc.1 hn hne)
  refine .trans (t := s.setCart n 0 h 0) ⟨?_, ?_, ?_⟩ (.of_fields hc.2 hk hb)
  · rw [State.cartState, State.rdF, hrd, State.cartState, State.rdF]
  · rw [State.rdF, hrd, State.rdF]
  · rw [s.bay_setCart, if_neg hne]

/-- A cartridge that is not STANDBY is not the one that takes a half over. -/
theorem State.feedHalf_kept (hc : 1 ≤ c ∧ c ≤ 3) (hh : h < 4) (hst : s.cartState c ≠ 1) : CartKept c s (s.feedHalf c h) := by
  unfold State.feedHalf
  split
  · next n hn =>
    have hn1 : s.cartState n = 1 := by simpa using List.find?_some hn
    have hmem := List.mem_of_find?_eq_some hn
    simp only [List.mem_cons, List.not_mem_nil, or_false] at hmem
    exact s.switchCart_kept hc (by omega) (fun e => hst (e ▸ hn1)) h
  · exact (CartKept.beside hc.2 (s.noSpare_beside ..)).trans (.of_fields hc.2 (State.halfDown_fields hh) (State.halfDown_bays _ h))

/-- A half switched to a cartridge: it is ACTIVE for that half, with its lamp green. -/
theorem State.switchCart_feeds (hc : 1 ≤ c ∧ c ≤ 3) (hh : h < 4) : (s.switchCart c h).cartState c = 0 ∧ (s.switchCart c h).rdF (rOptCart c) 29 28 = h
    ∧ (s.switchCart c h).bay c = { s.bay c with lamp := 0 } := by
  obtain ⟨hk, hb⟩ := s.switchCart_fields c h
  obtain ⟨h1, h2⟩ := s.setCart_sets c 0 h 0
  refine ⟨(hk.cartState hc.2).trans h1, (hk.half hc.2).trans (h2.trans (Nat.mod_eq_of_lt hh)), ?_⟩
  rw [State.bay, hb]
  exact (s.bay_setCart ..).trans (if_pos rfl)

end Kept

/-! ### Levers, removals and insertions -/

section Bays
variable {s : State} {c : Nat} (hc : c = 1 ∨ c = 2 ∨ c = 3)
include hc

theorem leverOpen_opens : ∃ t, exec (.leverOpen c) s = .next t ∧ (t.bay c).leverOpen = true
    ∧ (s.cartState c = 0 → t.cartState c = 2 ∧ (t.bay c).lamp = 3) := by
  have hrun : exec (.leverOpen c) s = .next (if (s.setBay c { s.bay c with leverOpen := true }).cartState c = 0 then
      (s.setBay c { s.bay c with leverOpen := true }).cartFault c else s.setBay c { s.bay c with leverOpen := true }) := rfl
  have hst : (s.setBay c { s.bay c with leverOpen := true }).cartState c = s.cartState c := rfl
  have hopen : ((s.setBay c { s.bay c with leverOpen := true }).bay c).leverOpen = true := by rw [State.bay_setBay, if_pos rfl]
  generalize s.setBay c { s.bay c with leverOpen := true } = u at *
  refine ⟨_, hrun, ?_⟩
  split
  · next h0 =>
    have hlt := u.rdF_lt (rOptCart c) 29 28
    obtain ⟨h1, h2⟩ := u.loseCart_loses c
    have hk := (u.loseCart c).feedHalf_kept (c := c) (h := u.rdF (rOptCart c) 29 28) (by omega) (by omega) (by omega)
    have hlever : ((u.loseCart c).bay c).leverOpen = true := by
      rw [State.bay, (u.loseCart_keeps c).2]
      exact (congrArg Bay.leverOpen ((u.bay_setCart ..).trans (if_pos rfl))).trans hopen
    have hfault : u.cartFault c = (u.loseCart c).feedHalf c (u.rdF (rOptCart c) 29 28) := Host.Outcome.next.inj (cartridgeFault_feeds u h0)
    rw [hfault, hk.bay, hk.cart]
    exact ⟨hlever, fun _ => ⟨h1, h2⟩⟩
  · next h0 => exact ⟨hopen, fun h => absurd (hst.trans h) h0⟩

end Bays

/-- A cartridge taken out, before its half is fed anew. -/
def State.takeOut (s : State) (c : Nat) : State := (s.setCart c 3 2 4).setBay c { lamp := 4, leverOpen := (s.bay c).leverOpen, fitted := false }

theorem execCartridgeRemoval_eq (s : State) (c : Nat) : execCartridgeRemoval c s =
    .next (if s.cartState c = 0 then (s.takeOut c).feedHalf c (s.rdF (rOptCart c) 29 28) else s.takeOut c) := rfl

theorem State.takeOut_out (s : State) (c : Nat) : (s.takeOut c).cartState c = 3 ∧ ((s.takeOut c).bay c).lamp = 4 ∧ ((s.takeOut c).bay c).fitted = false := by
  have hbay : (s.takeOut c).bay c = { lamp := 4, leverOpen := (s.bay c).leverOpen, fitted := false } := (State.bay_setBay ..).trans (if_pos rfl)
  refine ⟨?_, by rw [hbay], by rw [hbay]⟩
  have hregs : (s.takeOut c).regs = (s.setCart c 3 2 4).regs := rfl
  exact (State.rdF_of_regs hregs ..).trans (s.setCart_sets ..).1

section Bays
variable {s : State} {c : Nat} (hc : c = 1 ∨ c = 2 ∨ c = 3)

include hc in
theorem cartridgeRemoval_removes : ∃ t, exec (.cartridgeRemoval c) s = .next t ∧ t.cartState c = 3 ∧ (t.bay c).lamp = 4 ∧ (t.bay c).fitted = false := by
  have hrun := (exec_cartridgeRemoval c s).trans (execCartridgeRemoval_eq s c)
  obtain ⟨h1, h2, h3⟩ := s.takeOut_out c
  have hlt := s.rdF_lt (rOptCart c) 29 28
  refine ⟨_, hrun, ?_⟩
  split
  · have hk := (s.takeOut c).feedHalf_kept (c := c) (h := s.rdF (rOptCart c) 29 28) (by omega) (by omega) (by omega)
    rw [hk.cart, hk.bay]
    exact ⟨h1, h2, h3⟩
  · exact ⟨h1, h2, h3⟩

theorem cartridgeInsert_inserts (hf : (s.bay c).fitted = false) :
    exec (.cartridgeInsert c) s = .next (s.setBay c { s.bay c with fitted := true, warming := true, leverOpen := false }) :=
  congrArg Host.Outcome.next (if_neg (by simp [hf]))

theorem cartridgeInsert_fitted (hf : (s.bay c).fitted = true) : exec (.cartridgeInsert c) s = .next s :=
  congrArg Host.Outcome.next (if_pos hf)

end Bays

/-! ### A cartridge that has locked -/

/-- A cartridge whose warming ends, and one that locks as STANDBY (R665). -/
def State.endWarming (s : State) (c : Nat) : State := s.setBay c { s.bay c with warming := false }
def State.standBy (s : State) (c : Nat) : State := ((s.setCart c 1 2 1).wrF (rOptCart c) 27 23 0x1F).wrF (rOptCart c) 15 8 0
def State.lockCart (s : State) (c : Nat) : State := (s.endWarming c).standBy c

/-- What the halves need of a cartridge that has locked. -/
def State.placeCart (s : State) (c : Nat) : State :=
  if c = 3 then
    match [0, 1].find? (fun h => (s.activeCart h).isNone) with
    | some h => s.switchCart 3 h
    | none => s
  else match s.activeCart (c - 1) with
  | none => s.switchCart c (c - 1)
  | some n => if n = 3 then s.planSwap 2 (c - 1) else s

theorem execCartridgeLocked_eq (s : State) (c : Nat) (good : Bool) : execCartridgeLocked c good s =
    .next (if !(s.bay c).warming then s else if !good then (s.endWarming c).loseCart c else (s.lockCart c).placeCart c) := by
  unfold execCartridgeLocked State.cartLocked State.lockCart State.endWarming
  refine congrArg Host.Outcome.next ?_
  split
  · rfl
  · dsimp only
    generalize s.setBay c { s.bay c with warming := false } = u
    split
    · unfold State.loseCart
      generalize u.setCart c 2 2 3 = v
      rfl
    · unfold State.standBy
      generalize ((u.setCart c 1 2 1).wrF (rOptCart c) 27 23 0x1F).wrF (rOptCart c) 15 8 0 = v
      unfold State.placeCart
      rfl

theorem cartridgeLocked_warm {s : State} {c : Nat} (hw : (s.bay c).warming = true) (good : Bool) :
    exec (.cartridgeLocked c good) s = .next (if !good then (s.endWarming c).loseCart c else (s.lockCart c).placeCart c) := by
  rw [exec_cartridgeLocked, execCartridgeLocked_eq, if_neg (by simp [hw])]

theorem cartridgeLocked_cold {s : State} {c : Nat} (hw : (s.bay c).warming = false) (good : Bool) : exec (.cartridgeLocked c good) s = .next s := by
  rw [exec_cartridgeLocked, execCartridgeLocked_eq, if_pos (by simp [hw])]

section Locked
variable (s : State) (c : Nat)

theorem State.bay_endWarming : (s.endWarming c).bay c = { s.bay c with warming := false } := (State.bay_setBay ..).trans (if_pos rfl)

theorem State.bay_lockCart : (s.lockCart c).bay c = { s.bay c with warming := false, lamp := 1 } := by
  have h := s.bay_endWarming c
  rw [State.lockCart]
  generalize s.endWarming c = u at h ⊢
  have hbays : (u.standBy c).bays = (u.setCart c 1 2 1).bays := rfl
  rw [State.bay, hbays]
  exact ((u.bay_setCart ..).trans (if_pos rfl)).trans (by rw [h])

theorem State.alert_loseCart : (s.loseCart c).pwr.alert = s.pwr.alert ||| 4 := by
  have hbay (u : State) (b : Bay) : (u.setBay c b).pwr = u.pwr := rfl
  have h : (s.setCart c 2 2 3).pwr = s.pwr := by rw [State.setCart_eq, hbay, State.setCartReg, State.wrF, State.wrF, State.wr, State.wr]
  rw [State.loseCart, ← h]
  generalize s.setCart c 2 2 3 = u
  rfl

theorem State.cartState_lockCart : (s.lockCart c).cartState c = 1 := by
  have h := ((s.endWarming c).setCart_sets c 1 2 1).1
  unfold State.lockCart State.standBy
  generalize (s.endWarming c).setCart c 1 2 1 = u at h ⊢
  rw [State.cartState, State.rdF_wrF_apart _ _ (by omega) (by omega) (by omega), State.rdF_wrF_apart _ _ (by omega) (by omega) (by omega)]
  exact h

theorem State.rd_lockCart {o : Nat} (ho : o ≠ rOptCart c) : (s.lockCart c).rd o = s.rd o := by
  have h := (s.endWarming c).rd_setCart 1 2 1 ho
  unfold State.lockCart State.standBy
  generalize (s.endWarming c).setCart c 1 2 1 = u at h ⊢
  rw [State.wrF, State.rd_wr_ne _ _ _ _ ho, State.wrF, State.rd_wr_ne _ _ _ _ ho, h]
  rfl

end Locked

/-- Taking one element out of a search that does not end at it changes nothing. -/
theorem find?_without {α : Type} [DecidableEq α] {p q : α → Bool} {x : α} {l : List α} (hq : q x = false) (hpq : ∀ y ∈ l, y ≠ x → q y = p y)
    (hx : l.find? p ≠ some x) : l.find? q = l.find? p := by
  induction l with
  | nil => rfl
  | cons y l ih =>
    have hrest := ih fun z hz => hpq z (List.mem_cons_of_mem _ hz)
    by_cases hy : y = x
    · subst hy
      have hp : p y = false := by
        by_contra hp
        exact hx (List.find?_cons_of_pos (by simpa using hp))
      rw [List.find?_cons_of_neg (by simp [hp])] at hx
      rw [List.find?_cons_of_neg (by simp [hq]), List.find?_cons_of_neg (by simp [hp]), hrest hx]
    · have hyq := hpq y List.mem_cons_self hy
      by_cases hp : p y = true
      · rw [List.find?_cons_of_pos (by rw [hyq, hp]), List.find?_cons_of_pos hp]
      · rw [List.find?_cons_of_neg hp] at hx
        rw [List.find?_cons_of_neg (by rw [hyq]; exact hp), List.find?_cons_of_neg hp, hrest hx]

section Placing
variable {s : State} {c : Nat}

theorem State.activeCart_lockCart (hc : c = 1 ∨ c = 2 ∨ c = 3) {h : Nat} (hne : s.activeCart h ≠ some c) : (s.lockCart c).activeCart h = s.activeCart h := by
  unfold State.activeCart at hne ⊢
  refine find?_without (by simp [s.cartState_lockCart c]) (fun d hd hdc => ?_) hne
  simp only [List.mem_cons, List.not_mem_nil, or_false] at hd
  have hrd := s.rd_lockCart c (rOptCart_inj (by omega) (by omega) hdc)
  rw [State.cartState, State.rdF, State.rdF, hrd, State.cartState, State.rdF, State.rdF]

theorem cartridgeLocked_bad (hw : (s.bay c).warming = true) : ∃ t, exec (.cartridgeLocked c false) s = .next t ∧ t.cartState c = 2
    ∧ (t.bay c).lamp = 3 ∧ (t.bay c).warming = false ∧ t.pwr.alert = s.pwr.alert ||| 4 := by
  obtain ⟨h1, h2⟩ := (s.endWarming c).loseCart_loses c
  have hwarm : (((s.endWarming c).loseCart c).bay c).warming = false := by
    rw [State.bay, ((s.endWarming c).loseCart_keeps c).2]
    exact (congrArg Bay.warming ((State.bay_setCart ..).trans (if_pos rfl))).trans (by rw [s.bay_endWarming c])
  have halert : ((s.endWarming c).loseCart c).pwr.alert = (s.endWarming c).pwr.alert ||| 4 := State.alert_loseCart ..
  exact ⟨_, cartridgeLocked_warm hw false, h1, h2, hwarm, halert⟩

theorem cartridgeLocked_standby (hc : c = 1 ∨ c = 2 ∨ c = 3) (hw : (s.bay c).warming = true) (h0 : s.activeCart 0 ≠ none) (h1 : s.activeCart 1 ≠ none)
    (h0c : s.activeCart 0 ≠ some c) (h1c : s.activeCart 1 ≠ some c) : ∃ t, exec (.cartridgeLocked c true) s = .next t ∧ t.cartState c = 1
      ∧ (t.bay c).lamp = 1 ∧ (t.bay c).warming = false := by
  have ha0 := State.activeCart_lockCart hc h0c
  have ha1 := State.activeCart_lockCart hc h1c
  have hst := s.cartState_lockCart c
  have hbay := s.bay_lockCart c
  refine ⟨_, cartridgeLocked_warm hw true, ?_⟩
  rw [if_neg (by decide)]
  generalize s.lockCart c = u at *
  suffices hk : CartKept c u (u.placeCart c) by
    rw [hk.cart, hk.bay, hbay]
    exact ⟨hst, rfl, rfl⟩
  unfold State.placeCart
  split
  · have hfind : [0, 1].find? (fun h => (u.activeCart h).isNone) = none := by simp [ha0, ha1, h0, h1]
    rw [hfind]
    exact .refl u
  · split
    · next hnone =>
      have hhalf : c - 1 = 0 ∨ c - 1 = 1 := by omega
      rcases hhalf with e | e
      · exact absurd (ha0.symm.trans (e ▸ hnone)) h0
      · exact absurd (ha1.symm.trans (e ▸ hnone)) h1
    · split
      · exact .beside (by omega) (u.planSwap_beside ..)
      · exact .refl u

/-- A cartridge that locks and is switched to a half at once. -/
theorem cartridgeLocked_feeds (hc : c = 1 ∨ c = 2 ∨ c = 3) (hw : (s.bay c).warming = true) {h : Nat} (hh : h < 4)
    (hplace : (s.lockCart c).placeCart c = (s.lockCart c).switchCart c h) : ∃ t, exec (.cartridgeLocked c true) s = .next t ∧ t.cartState c = 0
      ∧ t.rdF (rOptCart c) 29 28 = h ∧ (t.bay c).lamp = 0 ∧ (t.bay c).warming = false := by
  obtain ⟨h1, h2, h3⟩ := (s.lockCart c).switchCart_feeds (c := c) (by omega) hh
  refine ⟨_, cartridgeLocked_warm hw true, ?_⟩
  rw [if_neg (by decide), hplace, h3, s.bay_lockCart c]
  exact ⟨h1, h2, rfl, rfl⟩

theorem State.placeCart_own (hc : c = 1 ∨ c = 2) (hnone : s.activeCart (c - 1) = none) :
    (s.lockCart c).placeCart c = (s.lockCart c).switchCart c (c - 1) := by
  have ha := State.activeCart_lockCart (s := s) (c := c) (h := c - 1) (by omega) (by rw [hnone]; exact nofun)
  rw [State.placeCart, if_neg (by omega), ha, hnone]

theorem State.placeCart_east (hnone : s.activeCart 0 = none) : (s.lockCart 3).placeCart 3 = (s.lockCart 3).switchCart 3 0 := by
  have ha := State.activeCart_lockCart (s := s) (c := 3) (h := 0) (by omega) (by rw [hnone]; exact nofun)
  rw [State.placeCart, if_pos rfl, List.find?_cons_of_pos (by rw [ha, hnone]; rfl)]

theorem State.placeCart_west (h0 : s.activeCart 0 ≠ none) (h03 : s.activeCart 0 ≠ some 3) (hnone : s.activeCart 1 = none) :
    (s.lockCart 3).placeCart 3 = (s.lockCart 3).switchCart 3 1 := by
  have ha0 := State.activeCart_lockCart (s := s) (c := 3) (h := 0) (by omega) h03
  have ha1 := State.activeCart_lockCart (s := s) (c := 3) (h := 1) (by omega) (by rw [hnone]; exact nofun)
  rw [State.placeCart, if_pos rfl, List.find?_cons_of_neg (by simpa [ha0, Option.isNone_iff_eq_none] using h0),
    List.find?_cons_of_pos (by rw [ha1, hnone]; rfl)]

end Placing

/-! ### CART_SERVICE -/

section Service
variable {s : State} {m : Msg} {r : Request}

/-- CART_SERVICE's own effect. -/
def State.serviceCart (s : State) (c : Nat) : State × Answer :=
  if c = 0 || 3 < c then (s, some (0, [1]))
  else if c ≠ 3 && s.cartState c = 0 && s.cartState 3 = 1 then (s.planSwap 4 (c - 1), some (0, [0]))
  else if s.cartState c ≠ 0 && (c = 3 || s.activeCart (c - 1) ≠ some 3) then (s.setBay c { s.bay c with lamp := 2 }, some (0, [0]))
  else (s, some (0, [1]))

theorem execCartService_eq (m : Msg) (s : State) :
    execCartService m s = .next (s.serve m 0x0150 1 (hasRole [.operator, .service]) fun s b => s.serviceCart (leAt b 0 1)) := rfl

theorem State.scheduleSwap_keeps_test (s : State) (id : W32) (kind unit : Nat) :
    (s.scheduleSwap id kind unit).test = s.test ∧ (s.scheduleSwap id kind unit).host = s.host := by
  obtain ⟨fab, issued, h⟩ := s.issueEvent_only (s.swapMembers (swapPorts kind unit)) true 8 0xFFF (s.now + BitVec.ofNat 64 s.lead) id none
  rw [State.scheduleSwap, h]
  exact ⟨rfl, rfl⟩

/-- A planned action, entered in the list. -/
def State.enterPlan (s : State) (kind unit : Nat) : State :=
  { s with test := { s.test with swaps := s.test.swaps + 1, planned := s.test.planned ++ [(BitVec.ofNat 32 (s.test.swaps + 1), kind, unit)] } }

theorem State.planSwap_eq (s : State) (kind unit : Nat) :
    s.planSwap kind unit = if s.test.planned.any (fun (x : W32 × Nat × Nat) => x.2 = (kind, unit)) then s
      else (s.enterPlan kind unit).scheduleSwap (BitVec.ofNat 32 (s.test.swaps + 1)) kind unit := rfl

theorem State.enterPlan_enters (s : State) (kind unit : Nat) :
    (s.enterPlan kind unit).test.planned = s.test.planned ++ [(BitVec.ofNat 32 (s.test.swaps + 1), kind, unit)]
      ∧ (s.enterPlan kind unit).host = s.host := ⟨rfl, rfl⟩

theorem State.planSwap_plans (s : State) (kind unit : Nat) :
    (kind, unit) ∈ (s.planSwap kind unit).test.planned.map (·.2) ∧ (s.planSwap kind unit).host = s.host := by
  rw [State.planSwap_eq]
  split
  · next h =>
    obtain ⟨x, hx, he⟩ := List.any_eq_true.mp h
    exact ⟨List.mem_map.mpr ⟨x, hx, of_decide_eq_true he⟩, rfl⟩
  · obtain ⟨h1, h2⟩ := s.enterPlan_enters kind unit
    obtain ⟨h3, h4⟩ := (s.enterPlan kind unit).scheduleSwap_keeps_test (BitVec.ofNat 32 (s.test.swaps + 1)) kind unit
    rw [h3, h4, h1, h2]
    exact ⟨List.mem_map.mpr ⟨_, List.mem_append_right _ (.head _), rfl⟩, rfl⟩

variable (hr : requestOf (.cartService m) = some r) (h : s.accepts r)
include hr h

theorem cartService_answers {u : State} {b : List Byte} {P : State → Prop} (hu : (s.taking r).serviceCart (leAt r.text 0 1) = (u, some (0, b)))
    (hhost : u.host = (s.taking r).host) (hP : ∀ t, Aside u t → P t) : Served (.cartService m) s r 0 b P := by
  obtain rfl := Option.some.inj hr
  generalize hR : (⟨m, 0x0150, 1, hasRole [.operator, .service]⟩ : Request) = R at *
  refine served_of_answer (f := fun s b => s.serviceCart (leAt b 0 1)) (u := u) h (by rw [← hR, exec_cartService, execCartService_eq]) hu (by decide)
    (requestOf_code hr) ?_ hP
  rw [State.chan_of_chans (congrArg HostIf.chans hhost)]
  exact State.taking_idle h

section Cart
variable {c : Nat} (hb : leAt r.text 0 1 = c) (hc : c = 1 ∨ c = 2 ∨ c = 3)
include hb hc

theorem cartService_flashes (hst : s.cartState c ≠ 0) (hfree : c = 3 ∨ s.activeCart (c - 1) ≠ some 3) :
    Served (.cartService m) s r 0 [0] (Aside (s.setBay c { s.bay c with lamp := 2 })) := by
  have hst' : (s.taking r).cartState c ≠ 0 := hst
  have hfree' : c = 3 ∨ (s.taking r).activeCart (c - 1) ≠ some 3 := hfree
  refine cartService_answers hr h (u := (s.taking r).setBay c { s.bay c with lamp := 2 }) ?_ rfl fun t ht => Eq.trans ht rfl
  rw [hb, State.serviceCart, if_neg (by simp; omega), if_neg (by simp [hst']), if_pos (by simpa [hst'] using hfree')]
  rfl

theorem cartService_plans (hst : s.cartState c = 0) (hne : c ≠ 3) (h3 : s.cartState 3 = 1) :
    Served (.cartService m) s r 0 [0] (fun t => (4, c - 1) ∈ t.test.planned.map (·.2)) := by
  have hst' : (s.taking r).cartState c = 0 := hst
  have h3' : (s.taking r).cartState 3 = 1 := h3
  obtain ⟨hplan, hhost⟩ := (s.taking r).planSwap_plans 4 (c - 1)
  refine cartService_answers hr h ?_ hhost fun t ht => by rw [ht.test]; exact hplan
  rw [hb, State.serviceCart, if_neg (by simp; omega), if_pos (by simp [hne, hst', h3'])]

theorem cartService_busy (hst : s.cartState c = 0) (hno : c = 3 ∨ s.cartState 3 ≠ 1) : Served (.cartService m) s r 0 [1] (Aside s) := by
  have hst' : (s.taking r).cartState c = 0 := hst
  have hno' : c = 3 ∨ (s.taking r).cartState 3 ≠ 1 := hno
  refine cartService_answers hr h ?_ rfl fun t ht => ht.of_taking
  rw [hb, State.serviceCart, if_neg (by simp; omega), if_neg (by rcases hno' with e | e <;> simp [e]), if_neg (by simp [hst'])]

end Cart

theorem cartService_none (hb : leAt r.text 0 1 = 0 ∨ 3 < leAt r.text 0 1) : Served (.cartService m) s r 0 [1] (Aside s) := by
  refine cartService_answers hr h ?_ rfl fun t ht => ht.of_taking
  rw [State.serviceCart, if_pos (by rcases hb with e | e <;> simp [e])]

end Service

/-- Settles O55: the SMBus codes, each bay command, and CART_SERVICE by the state of its cartridge. -/
theorem baysAndSmbus : Obligations.BaysAndSmbus := by
  intro s m c hc
  refine ⟨fun _ => smbusRead_unlisted, fun _ _ => rfl, smbusRead_plain rfl (by decide) (by decide), smbusRead_listed rfl, fun _ _ => smbusRead_plain,
    smbusRead_listed rfl, leverOpen_opens hc, cartridgeRemoval_removes hc, cartridgeInsert_inserts, cartridgeInsert_fitted, cartridgeLocked_cold,
    cartridgeLocked_bad, cartridgeLocked_standby hc, fun hw hne hnone => ?_, fun hw hnone => ?_, fun hw h0 h03 hnone => ?_, fun r hr h hb => ?_,
    fun r hr h => cartService_none hr h⟩
  · exact cartridgeLocked_feeds hc hw (by omega) (State.placeCart_own (by omega) hnone)
  · obtain ⟨t, hrun, h1, h2, -⟩ := cartridgeLocked_feeds (by omega) hw (by omega) (State.placeCart_east hnone)
    exact ⟨t, hrun, h1, h2⟩
  · obtain ⟨t, hrun, h1, h2, -⟩ := cartridgeLocked_feeds (by omega) hw (by omega) (State.placeCart_west h0 h03 hnone)
    exact ⟨t, hrun, h1, h2⟩
  · exact ⟨cartService_flashes hr h hb hc, cartService_plans hr h hb hc, cartService_busy hr h hb hc⟩

end Sys2Proof.Machine
end

section
/-! PROOFS. Barriers (R386 to R392): what updates of a latch leave of the others, and the rows of arrivals, releases, refusals and resets. -/

namespace Sys2Proof.Machine

/-! ### What stays when a latch is not written -/

theorem bitAt_of_bf {n : Nat} {w w' : BitVec n} {hi lo : Nat} (h : bf w hi lo = bf w' hi lo) {i : Nat} (hlo : lo ≤ i) (hhi : i ≤ hi) :
    bitAt w i = bitAt w' i := by
  have hbit (w : BitVec n) : bitAt w i = (bf w hi lo).testBit (i - lo) := by
    rw [bf, Nat.testBit_mod_two_pow, Nat.testBit_shiftRight, decide_eq_true (by omega : i - lo < hi + 1 - lo), Bool.true_and, Nat.add_sub_cancel' hlo]
    exact (BitVec.testBit_toNat w).symm
  rw [hbit, hbit, h]

theorem Handled.frozen {s t : State} (h : Handled s t) (i : Nat) : t.frozen i = s.frozen i := bitAt_of_bf (h.low (rCoreStat i)) (by omega) (by omega)

/-- t has the barriers of s: its latches, its pending releases, its cores, and which of those are frozen. -/
structure Still (s t : State) : Prop where
  latches : t.latches = s.latches
  releases : t.releases = s.releases
  spareMap : t.spareMap = s.spareMap
  frozen : ∀ i, t.frozen i = s.frozen i

namespace Still
variable {s t u : State}

theorem refl (s : State) : Still s s := ⟨rfl, rfl, rfl, fun _ => rfl⟩

theorem trans (h : Still s t) (h' : Still t u) : Still s u :=
  ⟨h'.latches.trans h.latches, h'.releases.trans h.releases, h'.spareMap.trans h.spareMap, fun i => (h'.frozen i).trans (h.frozen i)⟩

theorem handled (h : Handled s t) : Still s t := by
  have honly := h.only
  refine ⟨?_, ?_, ?_, h.frozen⟩ <;> rw [honly]

theorem fab (h : FabOnly s t) : Still s t := by
  obtain ⟨_, rfl⟩ := h
  exact ⟨rfl, rfl, rfl, fun _ => rfl⟩

theorem foldl {α : Type} {f : State → α → State} (h : ∀ s a, Still s (f s a)) (l : List α) (s : State) : Still s (l.foldl f s) := by
  induction l generalizing s with
  | nil => exact .refl s
  | cons a l ih => exact (h s a).trans (ih _)

theorem latch (h : Still s t) (i j : Nat) : t.latch i j = s.latch i j := by rw [State.latch, h.latches, State.latch]

theorem phys (h : Still s t) (c : Nat) : t.phys c = s.phys c := by rw [State.phys, h.spareMap, State.phys]

end Still

theorem State.ctrAt_congr {s t : State} (hmap : t.spareMap = s.spareMap) {i j : Nat} (h0 : t.latch i j = s.latch i j)
    (h1 : t.latch i (j + 1) = s.latch i (j + 1)) : t.ctrAt i j = s.ctrAt i j := by
  have hlog : t.logical i = s.logical i := by
    unfold State.logical State.phys
    rw [hmap]
  rw [State.ctrAt, h0, h1, hlog, State.ctrAt]

theorem Still.ctrAt {s t : State} (h : Still s t) (i j : Nat) : t.ctrAt i j = s.ctrAt i j :=
  State.ctrAt_congr h.spareMap (h.latch ..) (h.latch ..)

/-! ### Updates of a latch -/

section Latches
variable (s : State) (i j : Nat)

theorem State.frozen_wrB_ne {i k : Nat} (hk : k ≠ 4) (hk32 : k < 32) (b : Bool) (c : Nat) : (s.wrB (rCoreStat c) k b).frozen i = s.frozen i := by
  by_cases e : rCoreStat i = rCoreStat c
  · rw [State.frozen, e, State.rdB_wrB_ne _ _ hk32 (Ne.symm hk), State.frozen, e]
  · exact State.rdB_wrB_apart _ _ e ..

theorem State.wrB_still {k : Nat} (hk : k ≠ 4) (hk32 : k < 32) (c : Nat) (b : Bool) : Still s (s.wrB (rCoreStat c) k b) :=
  ⟨rfl, rfl, rfl, fun _ => s.frozen_wrB_ne hk hk32 b c⟩

theorem State.wake_still (t : Nat) (wstat : W16) : Still s (s.wake i t wstat) ∧ (s.wake i t wstat).mem = s.mem := by
  unfold State.wake
  dsimp only
  generalize hu : s.setThr i t _ = u
  have h : Still s u ∧ u.mem = s.mem := by
    subst hu
    exact ⟨⟨rfl, rfl, rfl, fun _ => rfl⟩, rfl⟩
  exact ⟨h.1.trans (u.wrB_still (by omega) (by omega) ..), h.2⟩

theorem State.latchTest_still : Still s (s.latchTest i j) ∧ (s.latchTest i j).mem = s.mem := by
  unfold State.latchTest
  generalize s.waiters i j = l
  generalize lValue (s.latch i j) = v
  dsimp only
  induction l generalizing s with
  | nil => exact ⟨.refl s, rfl⟩
  | cons t l ih =>
    rw [List.foldl_cons]
    have hstep : ∀ u : State, Still u (match (u.thr i t).wait with
        | some w => if condMet w.cond v w.cmp w.old then u.wake i t 0 else u
        | none => u) ∧ (match (u.thr i t).wait with
        | some w => if condMet w.cond v w.cmp w.old then u.wake i t 0 else u
        | none => u).mem = u.mem := fun u => by
      split
      · split
        · exact u.wake_still ..
        · exact ⟨.refl u, rfl⟩
      · exact ⟨.refl u, rfl⟩
    exact ⟨(hstep s).1.trans (ih _).1, (ih _).2.trans (hstep s).2⟩

end Latches

theorem State.latch_setLatch (s : State) (i j a b : Nat) (v : W128) :
    (s.setLatch i j v).latch a b = if 48 * a + b = 48 * i + j then v else s.latch a b := tget_tput ..

theorem lSetValue_keeps (r : W128) (v : W64) : lKind (lSetValue r v) = lKind r ∧ lBroken (lSetValue r v) = lBroken r ∧ lEstat (lSetValue r v) = lEstat r :=
  ⟨bf_bfSet_apart (by decide) (by decide) _ _ (.inr (by decide)), bitAt_bfSet_apart (by decide) (by decide) _ _ (.inr (by decide)),
    bf_bfSet_apart (by decide) (by decide) _ _ (.inr (by decide))⟩

/-- A record that a break leaves (R382). -/
def lBreak (r : W128) (estat : Nat) : W128 := bfSet (bitSet r 92 true) 79 72 estat

theorem lBreak_breaks (r : W128) (estat : Nat) : lBroken (lBreak r estat) = true ∧ lEstat (lBreak r estat) = estat % 256 := by
  refine ⟨?_, bf_bfSet_same (by decide) (by decide) _ _⟩
  rw [lBroken, lBreak, bitAt_bfSet_apart (by decide) (by decide) _ _ (.inr (by decide)), bitAt_bitSet (by decide), if_pos rfl]

section Updates
variable (s : State) (i j : Nat)

theorem State.latchBreak_still (estat : Nat) : Still (s.setLatch i j (lBreak (s.latch i j) estat)) (s.latchBreak i j estat) := by
  unfold State.latchBreak lBreak
  dsimp only
  refine .trans ?_ (Still.foldl (fun s t => (s.wake_still ..).1) _ _)
  split
  · exact .handled (State.trace_handled ..)
  · exact .refl _

theorem State.latchRaise_still {v : W64} (h : lBroken (s.latch i j) = false) :
    Still (s.setLatch i j (lSetValue (s.latch i j) (if (lValue (s.latch i j)).toNat < v.toNat then v else lValue (s.latch i j)))) (s.latchRaise i j v) := by
  unfold State.latchRaise
  dsimp only
  rw [if_neg (show ¬lBroken (s.latch i j) = true by simp [h])]
  exact (State.latchTest_still _ i j).1

theorem State.extLatch_thawed (op : LatchOp) (h : s.frozen i = false) : s.extLatch i j op = s.latchOp i j op := if_neg (by simp [h])

end Updates

/-! ### Counters -/

/-- A counter with new ROUND, CUR and NEXT. -/
def Ctr.put (c : Ctr) (round cur next : Nat) : Ctr := { c with value := bfSet (bfSet (bfSet c.value 63 48 round) 47 32 cur) 31 16 next }

section Counters
variable {c : Ctr}

theorem Ctr.put_fields (c : Ctr) (r q n : Nat) : (c.put r q n).round = r % 2 ^ 16 ∧ (c.put r q n).cur = q % 2 ^ 16 ∧ (c.put r q n).nxt = n % 2 ^ 16
    ∧ (c.put r q n).expect = c.expect := by
  unfold Ctr.put Ctr.round Ctr.cur Ctr.nxt Ctr.expect
  dsimp only
  refine ⟨?_, ?_, bf_bfSet_same (by decide) (by decide) _ _, ?_⟩
  · rw [bf_bfSet_apart (by decide) (by decide) _ _ (.inr (by decide)), bf_bfSet_apart (by decide) (by decide) _ _ (.inr (by decide)),
      bf_bfSet_same (by decide) (by decide)]
  · rw [bf_bfSet_apart (by decide) (by decide) _ _ (.inr (by decide)), bf_bfSet_same (by decide) (by decide)]
  · rw [bf_bfSet_apart (by decide) (by decide) _ _ (.inl (by decide)), bf_bfSet_apart (by decide) (by decide) _ _ (.inl (by decide)),
      bf_bfSet_apart (by decide) (by decide) _ _ (.inl (by decide))]

theorem Ctr.round_lt (c : Ctr) : c.round < 2 ^ 16 := bf_lt ..
theorem Ctr.nxt_lt (c : Ctr) : c.nxt < 2 ^ 16 := bf_lt ..

variable {s : State} {i j : Nat}

theorem State.ctrAt_some (h : s.ctrAt i j = some c) :
    (lKind (s.latch i j) = 1 ∧ j % 2 = 0 ∧ lKind (s.latch i (j + 1)) = 2) ∧ c.phys = i ∧ c.latch = j ∧ c.value = lValue (s.latch i j) := by
  unfold State.ctrAt at h
  split at h
  · next hk =>
    obtain rfl := Option.some.inj h
    exact ⟨by simpa [and_assoc] using hk, rfl, rfl, rfl⟩
  · cases h

/-- A counter's own latch written: the counter has the new value. -/
theorem State.ctrAt_setLatch (h : s.ctrAt i j = some c) (v : W64) :
    (s.setLatch i j (lSetValue (s.latch i j) v)).ctrAt i j = some { c with value := v } := by
  obtain ⟨⟨hk, hj, hl⟩, -⟩ := State.ctrAt_some h
  have h0 : (s.setLatch i j (lSetValue (s.latch i j) v)).latch i j = lSetValue (s.latch i j) v := by rw [State.latch_setLatch, if_pos rfl]
  have h1 : (s.setLatch i j (lSetValue (s.latch i j) v)).latch i (j + 1) = s.latch i (j + 1) := by rw [State.latch_setLatch, if_neg (by omega)]
  have hlog : (s.setLatch i j (lSetValue (s.latch i j) v)).logical i = s.logical i := rfl
  have hcond (k : Nat) (hk : k = 1) : (decide (k = 1) && decide (j % 2 = 0) && decide (lKind (s.latch i (j + 1)) = 2)) = true := by simp [hk, hj, hl]
  rw [State.ctrAt, if_pos (hcond _ hk)] at h
  obtain rfl := Option.some.inj h
  rw [State.ctrAt, h0, h1, hlog, if_pos (hcond _ ((lSetValue_keeps ..).1.trans hk)), lValue_lSetValue]

theorem State.putCtr_puts (h : s.ctrAt i j = some c) (r q n : Nat) : (s.putCtr c r q n).ctrAt i j = some (c.put r q n) ∧ (s.putCtr c r q n).mem = s.mem := by
  obtain ⟨-, rfl, rfl, -⟩ := State.ctrAt_some h
  have hset := State.ctrAt_setLatch h (bfSet (bfSet (bfSet c.value 63 48 r) 47 32 q) 31 16 n)
  have htest := State.latchTest_still (s.setLatch c.phys c.latch (lSetValue (s.latch c.phys c.latch)
    (bfSet (bfSet (bfSet c.value 63 48 r) 47 32 q) 31 16 n))) c.phys c.latch
  exact ⟨(htest.1.ctrAt ..).trans hset, htest.2⟩

theorem State.sendBarrier_fabOnly (s : State) (p dst daddr group : Nat) (round : W64) (op estat tag : Nat) :
    FabOnly s (s.sendBarrier p dst daddr group round op estat tag) := State.sendPkt_only ..

theorem State.toGroup_fabOnly (s : State) (c : Ctr) (round op estat : Nat) : FabOnly s (s.toGroup c round op estat) :=
  .foldl (fun s _ => s.sendBarrier_fabOnly ..) _ s

theorem FabOnly.memory {s t : State} (h : FabOnly s t) : t.mem = s.mem := by
  obtain ⟨_, rfl⟩ := h
  rfl

theorem State.ctrAt_value (h : s.ctrAt i j = some c) : ({ c with value := lValue (s.latch c.phys c.latch) } : Ctr) = c := by
  obtain ⟨-, rfl, rfl, hv⟩ := State.ctrAt_some h
  rw [← hv]

/-- A round ends at a counter without PARENT, whose next round is not full yet. -/
theorem State.complete_root (h : s.ctrAt i j = some c) (hp : c.parent = 0) (hn : c.nxt ≠ c.expect) : ∃ c', (s.complete c).ctrAt i j = some c'
    ∧ c'.round = (c.round + 1) % 2 ^ 16 ∧ c'.cur = c.nxt ∧ c'.nxt = 0 ∧ c'.expect = c.expect ∧ (s.complete c).mem = s.mem := by
  have hsend := s.toGroup_fabOnly c c.round 1 0
  rw [State.complete, if_pos hp]
  generalize s.toGroup c c.round 1 0 = u at hsend ⊢
  have hu : u.ctrAt i j = some c := ((Still.fab hsend).ctrAt ..).trans h
  have hadv : u.advance c = u.putCtr c ((c.round + 1) % 2 ^ 16) c.nxt 0 := by
    unfold State.advance
    dsimp only
    rw [State.ctrAt_value hu, if_pos hn]
  obtain ⟨h1, h2⟩ := State.putCtr_puts hu ((c.round + 1) % 2 ^ 16) c.nxt 0
  obtain ⟨hr, hc, hx, he⟩ := c.put_fields ((c.round + 1) % 2 ^ 16) c.nxt 0
  rw [hadv]
  exact ⟨_, h1, hr.trans (Nat.mod_mod ..), hc.trans (Nat.mod_eq_of_lt c.nxt_lt), hx, he, h2.trans hsend.memory⟩

/-- A round ends at a counter with a PARENT: an arrival goes there, and the counter stays. -/
theorem State.complete_child (h : s.ctrAt i j = some c) (hp : c.parent ≠ 0) : (s.complete c).ctrAt i j = some c := by
  rw [State.complete, if_neg hp]
  unfold State.sendArrival
  dsimp only
  refine ((Still.fab (State.sendBarrier_fabOnly ..)).ctrAt ..).trans ?_
  split
  · exact h
  · exact h

end Counters

/-! ### Arrivals -/

section Arrivals
variable {s u : State} {src : Option Nat} {p : Pkt} {c : Ctr} {i j : Nat}

theorem State.arrive_next (h : (pktWord p).toNat % 2 ^ 16 = (c.round + 1) % 2 ^ 16) : u.arrive c p = u.putCtr c c.round c.cur ((c.nxt + 1) % 2 ^ 16) := by
  have hr := c.round_lt
  unfold State.arrive
  dsimp only
  rw [if_neg (by omega), if_pos (by omega)]

theorem State.arrive_other (h : (pktWord p).toNat % 2 ^ 16 ≠ c.round) (h' : (pktWord p).toNat % 2 ^ 16 ≠ (c.round + 1) % 2 ^ 16) :
    u.arrive c p = u.refuseArrival p 0x01 := by
  have hr := c.round_lt
  unfold State.arrive
  dsimp only
  rw [if_neg (by omega), if_neg (by omega)]

theorem State.arrive_current (h : (pktWord p).toNat % 2 ^ 16 = c.round) :
    u.arrive c p = if (c.cur + 1) % 2 ^ 16 = c.expect then (u.putCtr c c.round ((c.cur + 1) % 2 ^ 16) c.nxt).complete
      { c with value := lValue ((u.putCtr c c.round ((c.cur + 1) % 2 ^ 16) c.nxt).latch c.phys c.latch) }
      else u.putCtr c c.round ((c.cur + 1) % 2 ^ 16) c.nxt := by
  have hr := c.round_lt
  unfold State.arrive
  dsimp only
  rw [if_pos (by omega)]

/-- The last arrival of a round: the counter is complete. -/
theorem State.arrive_last (hc : u.ctrAt i j = some c) (h : (pktWord p).toNat % 2 ^ 16 = c.round) (hlast : (c.cur + 1) % 2 ^ 16 = c.expect) :
    ∃ v : State, v.ctrAt i j = some (c.put c.round c.expect c.nxt) ∧ v.mem = u.mem ∧ u.arrive c p = v.complete (c.put c.round c.expect c.nxt) := by
  rw [State.arrive_current h, if_pos hlast, hlast]
  obtain ⟨h1, h2⟩ := State.putCtr_puts hc c.round c.expect c.nxt
  refine ⟨_, h1, h2, ?_⟩
  generalize u.putCtr c c.round c.expect c.nxt = v at h1 ⊢
  have hv := State.ctrAt_value h1
  exact congrArg v.complete hv

theorem barrierArrival_at {q : Nat} (ht : s.takePkt src (fun p => p.kind = 2 && barrierOp p = 0) = some (p, u))
    (hc : u.checkTarget src p = .inr (.latch i j 0, q)) : exec (.barrierArrival src) s =
      .next (if s.frozen i then s else match u.ctrAt i j with
        | some c => u.arrive c p
        | none => u.refuseArrival p 0x09) := by
  have hrun : s.arrivalRow src = if s.frozen i then s else match u.ctrAt i j with
        | some c => u.arrive c p
        | none => u.refuseArrival p 0x09 := by
    unfold State.arrivalRow
    rw [ht]
    dsimp only
    rw [hc]
    rfl
  exact congrArg Host.Outcome.next hrun

end Arrivals

/-! ### Releases and refusals -/

/-- The pending entries of a counter that a broadcast to partition q is about. -/
def State.pendingOf (s : State) (q : Nat) (f : Release → Bool) (e : Release) : Bool := f e && s.partOfCore e.core = some q

/-- t without the pending entries of a list of them. -/
def State.dropReleases (s : State) (mine : Release → Bool) : State := { s with releases := s.releases.filter (fun e => !mine e) }

section Entries
variable {s u : State} {src : Option Nat} {p : Pkt} {q i : Nat} {e : Release}

theorem State.latch_self_of_still {t : State} {j : Nat} {r : W128} (h : Still (s.setLatch i j r) t) : t.latch i j = r :=
  (h.latch i j).trans (s.latch_setLatch_self i j r)

theorem State.releaseEntry_raises (hph : u.phys e.core = some i) (hchild : e.child = false) (hfr : u.frozen i = false)
    (hb : lBroken (u.latch i e.latch) = false) : (u.releaseEntry e).releases = u.releases
      ∧ lValue ((u.releaseEntry e).latch i e.latch)
        = (if (lValue (u.latch i e.latch)).toNat < (e.round + 1).toNat then e.round + 1 else lValue (u.latch i e.latch)) := by
  have hrun : u.releaseEntry e = u.latchRaise i e.latch (e.round + 1) := by
    unfold State.releaseEntry
    rw [hph]
    dsimp only
    rw [if_neg (by simp [hchild]), u.extLatch_thawed _ _ _ hfr, State.latchOp]
  have hs := u.latchRaise_still i e.latch (v := e.round + 1) hb
  rw [hrun]
  refine ⟨hs.releases, ?_⟩
  rw [State.latch_self_of_still hs, lValue_lSetValue]

theorem State.refuseEntry_at (hph : u.phys e.core = some i) (hchild : e.child = false) (estat : Nat) :
    u.refuseEntry estat e = (u.event uCore 0 i (BitVec.ofNat 16 (0x0500 ||| estat))).extLatch i e.latch (.brk estat) := by
  unfold State.refuseEntry
  rw [hph]
  dsimp only
  rw [if_neg (by simp [hchild])]

theorem State.refuseEntry_breaks (hph : u.phys e.core = some i) (hchild : e.child = false) (hfr : u.frozen i = false) (estat : Nat) :
    (u.refuseEntry estat e).releases = u.releases ∧ lBroken ((u.refuseEntry estat e).latch i e.latch) = true
      ∧ lEstat ((u.refuseEntry estat e).latch i e.latch) = estat % 256 := by
  have hev (code : W16) : Still u (u.event uCore 0 i code) := .handled (.reported (u.event_reported ..))
  rw [State.refuseEntry_at hph hchild]
  generalize BitVec.ofNat 16 (0x0500 ||| estat) = code
  have hv := hev code
  generalize u.event uCore 0 i code = v at hv ⊢
  have hs := v.latchBreak_still i e.latch estat
  rw [State.extLatch_thawed _ _ _ _ ((hv.frozen i).trans hfr), State.latchOp, State.latch_self_of_still hs]
  exact ⟨(hs.releases.trans (State.setLatch_releases ..)).trans hv.releases, lBreak_breaks ..⟩

theorem barrierRelease_raises (ht : s.takePkt src (fun p => p.kind = 2 && barrierOp p = 1) = some (p, u)) (hc : u.checkBroadcast src p = .inr q)
    (hone : u.releases.filter (u.pendingOf q fun e => e.names (u.senderCtr p) && e.inRound (pktWord p).toNat) = [e]) (hchild : e.child = false)
    (hph : u.phys e.core = some i) (hfr : u.frozen i = false) (hthaw : s.childFrozen q (u.senderCtr p) = false)
    (hb : lBroken (u.latch i e.latch) = false) : ∃ t, exec (.barrierRelease src) s = .next t
      ∧ t.releases = u.releases.filter (fun e => !u.pendingOf q (fun e => e.names (u.senderCtr p) && e.inRound (pktWord p).toNat) e)
      ∧ lValue (t.latch i e.latch)
        = (if (lValue (u.latch i e.latch)).toNat < (e.round + 1).toNat then e.round + 1 else lValue (u.latch i e.latch)) := by
  have hrun : s.releaseRow src = (u.releases.filter (u.pendingOf q fun e => e.names (u.senderCtr p) && e.inRound (pktWord p).toNat)).foldl
      State.releaseEntry (u.dropReleases (u.pendingOf q fun e => e.names (u.senderCtr p) && e.inRound (pktWord p).toNat)) := by
    unfold State.releaseRow
    rw [ht]
    dsimp only
    rw [hc]
    dsimp only
    rw [if_neg (by simp [hthaw])]
    rfl
  rw [hone, List.foldl_cons, List.foldl_nil] at hrun
  obtain ⟨h1, h2⟩ := State.releaseEntry_raises (u := u.dropReleases _) (e := e) hph hchild hfr hb
  exact ⟨_, congrArg Host.Outcome.next hrun, h1, h2⟩

theorem pktByte_lt (p : Pkt) (k : Nat) : pktByte p k < 256 := by
  unfold pktByte byteAt
  omega

theorem barrierRefusal_breaks (ht : s.takePkt src (fun p => p.kind = 2 && barrierOp p = 4) = some (p, u)) (hc : u.checkBroadcast src p = .inr q)
    (htag : p.tag.toNat ≠ tagBroadcast)
    (hfind : u.releases.find? (fun e => (e.names (u.senderCtr p) && e.inRound (pktWord p).toNat) && u.partOfCore e.core = some q) = some e)
    (hchild : e.child = false) (hph : u.phys e.core = some i) (hfr : u.frozen i = false) (hthaw : s.childFrozen q (u.senderCtr p) = false) :
    ∃ t, exec (.barrierRefusal src) s = .next t ∧ t.releases = u.releases.erase e ∧ lBroken (t.latch i e.latch) = true
      ∧ lEstat (t.latch i e.latch) = pktByte p 1 := by
  have hrun : s.refusalRow src = ({ u with releases := u.releases.erase e } : State).refuseEntry (pktByte p 1) e := by
    unfold State.refusalRow
    rw [ht]
    dsimp only
    rw [hc]
    dsimp only
    rw [if_neg (by simp [hthaw]), if_neg htag, hfind]
  obtain ⟨h1, h2, h3⟩ := State.refuseEntry_breaks (u := { u with releases := u.releases.erase e }) (e := e) hph hchild hfr (pktByte p 1)
  exact ⟨_, congrArg Host.Outcome.next hrun, h1, h2, h3.trans (Nat.mod_eq_of_lt (pktByte_lt ..))⟩

end Entries

/-! ### Resets -/

/-- Latch j of core i is broken by a reset (R382). -/
def State.brokenAt (s : State) (i j : Nat) : Prop := lBroken (s.latch i j) = true ∧ lEstat (s.latch i j) = 2

section Resets
variable {s t u : State} {i j : Nat}

theorem Still.brokenAt (h : Still s t) (hb : s.brokenAt i j) : t.brokenAt i j := by
  unfold State.brokenAt
  rwa [h.latch]

theorem State.setLatch_brokenAt {a b : Nat} {r : W128} (hb : s.brokenAt i j) (hr : 48 * i + j = 48 * a + b → lBroken r = true ∧ lEstat r = 2) :
    (s.setLatch a b r).brokenAt i j := by
  unfold State.brokenAt
  rw [State.latch_setLatch]
  split
  · exact hr ‹_›
  · exact hb

theorem State.latch_same {a b : Nat} (s : State) (h : 48 * i + j = 48 * a + b) : s.latch a b = s.latch i j := by rw [State.latch, ← h, State.latch]

/-- Storing a counter's rounds leaves a broken latch broken. -/
theorem State.putCtr_brokenAt (c : Ctr) (r q n : Nat) (hb : s.brokenAt i j) : (s.putCtr c r q n).brokenAt i j := by
  refine (State.latchTest_still _ _ _).1.brokenAt (State.setLatch_brokenAt hb fun e => ?_)
  rw [(lSetValue_keeps ..).2.1, (lSetValue_keeps ..).2.2, s.latch_same e]
  exact hb

/-- What follows the storing of a counter's rounds in its reset sends packets only. -/
theorem State.resetCtr_fabOnly (c : Ctr) (r0 : Nat) : FabOnly (s.putCtr c r0 0 0) (s.resetCtr c r0) := by
  unfold State.resetCtr
  generalize s.putCtr c r0 0 0 = v
  dsimp only
  split
  · exact v.toGroup_fabOnly ..
  · exact (v.toGroup_fabOnly ..).trans (State.sendBarrier_fabOnly ..)

theorem State.resetCtr_brokenAt (c : Ctr) (r0 : Nat) (hb : s.brokenAt i j) : (s.resetCtr c r0).brokenAt i j :=
  (Still.fab (State.resetCtr_fabOnly c r0)).brokenAt (State.putCtr_brokenAt c r0 0 0 hb)

theorem State.resetCtr_releases (c : Ctr) (r0 : Nat) : (s.resetCtr c r0).releases = s.releases :=
  (Still.fab (State.resetCtr_fabOnly c r0)).releases.trans (State.latchTest_still _ _ _).1.releases

/-- What breaking entries leaves for the next one: the cores that are frozen, the map of the cores, and the table. -/
structure CoresKept (s t : State) : Prop where
  releases : t.releases = s.releases
  spareMap : t.spareMap = s.spareMap
  frozen : ∀ i, t.frozen i = s.frozen i

theorem Still.cores (h : Still s t) : CoresKept s t := ⟨h.releases, h.spareMap, h.frozen⟩

theorem CoresKept.trans (h : CoresKept s t) (h' : CoresKept t u) : CoresKept s u :=
  ⟨h'.releases.trans h.releases, h'.spareMap.trans h.spareMap, fun i => (h'.frozen i).trans (h.frozen i)⟩

theorem State.setLatch_cores_kept (s : State) (a b : Nat) (r : W128) : CoresKept s (s.setLatch a b r) := ⟨rfl, rfl, fun _ => rfl⟩

theorem State.latchBreak_cores (s : State) (a b estat : Nat) : CoresKept s (s.latchBreak a b estat) :=
  (s.setLatch_cores_kept ..).trans (s.latchBreak_still a b estat).cores

theorem State.breakEntry_cores (s : State) (e : Release) : CoresKept s (s.breakEntry e) := by
  unfold State.breakEntry
  split
  · exact (Still.refl s).cores
  split
  · unfold State.extLatch
    split
    · exact ⟨rfl, rfl, fun _ => rfl⟩
    · exact s.latchBreak_cores ..
  · exact (Still.refl s).cores

theorem State.breakEntry_brokenAt (e : Release) (hb : s.brokenAt i j) : (s.breakEntry e).brokenAt i j := by
  unfold State.breakEntry
  split
  · exact hb
  split
  · unfold State.extLatch
    split
    · exact hb
    · refine (s.latchBreak_still ..).brokenAt (State.setLatch_brokenAt hb fun _ => ?_)
      exact lBreak_breaks ..
  · exact hb

theorem State.breakEntry_breaks {e : Release} (hchild : e.child = false) (hph : s.phys e.core = some i) (hfr : s.frozen i = false) :
    (s.breakEntry e).brokenAt i e.latch := by
  have hrun : s.breakEntry e = s.latchBreak i e.latch 2 := by
    unfold State.breakEntry
    rw [if_neg (by simp [hchild]), hph]
    exact s.extLatch_thawed _ _ _ hfr
  have hs := s.latchBreak_still i e.latch 2
  rw [hrun, State.brokenAt, State.latch_self_of_still hs]
  exact lBreak_breaks ..

/-- Every entry of a list breaks its latch. -/
theorem foldl_breakEntry (l : List Release) (s : State) : CoresKept s (l.foldl State.breakEntry s) ∧ ∀ e i, e ∈ l → e.child = false →
    s.phys e.core = some i → s.frozen i = false → (l.foldl State.breakEntry s).brokenAt i e.latch := by
  have hrest (l : List Release) (s : State) (i j : Nat) (hb : s.brokenAt i j) : (l.foldl State.breakEntry s).brokenAt i j := by
    induction l generalizing s with
    | nil => exact hb
    | cons e l ih => exact ih _ (State.breakEntry_brokenAt e hb)
  induction l generalizing s with
  | nil => exact ⟨(Still.refl s).cores, fun _ _ h => nomatch h⟩
  | cons a l ih =>
    obtain ⟨hk, hbr⟩ := ih (s.breakEntry a)
    have ha := s.breakEntry_cores a
    refine ⟨ha.trans hk, fun e i he hchild hph hfr => ?_⟩
    rcases List.mem_cons.mp he with rfl | he
    · exact hrest l _ _ _ (State.breakEntry_breaks hchild hph hfr)
    · exact hbr e i he hchild (by rw [State.phys, ha.spareMap]; exact hph) ((ha.frozen i).trans hfr)

theorem foldl_resetCtr (r0 : Nat) (l : List Ctr) (s : State) : (l.foldl (fun s k => s.resetCtr k r0) s).releases = s.releases
    ∧ ∀ i j, s.brokenAt i j → (l.foldl (fun s k => s.resetCtr k r0) s).brokenAt i j := by
  induction l generalizing s with
  | nil => exact ⟨rfl, fun _ _ h => h⟩
  | cons c l ih =>
    obtain ⟨h1, h2⟩ := ih (s.resetCtr c r0)
    exact ⟨h1.trans (State.resetCtr_releases c r0), fun i j hb => h2 i j (State.resetCtr_brokenAt c r0 hb)⟩

theorem groupReset_breaks {src : Option Nat} {p : Pkt} {q : Nat} (ht : s.takePkt src (fun p => p.kind = 2 && barrierOp p = 2) = some (p, u))
    (hc : u.checkBroadcast src p = .inr q) (hthaw : s.childFrozen q (u.senderCtr p) = false) : ∃ t, exec (.groupReset src) s = .next t
      ∧ t.releases = u.releases.filter (fun e => !u.pendingOf q (fun e => e.names (u.senderCtr p)) e)
      ∧ ∀ e i, e ∈ u.releases → u.pendingOf q (fun e => e.names (u.senderCtr p)) e = true → e.child = false → u.phys e.core = some i →
        u.frozen i = false → t.brokenAt i e.latch := by
  obtain ⟨v, hv⟩ : ∃ v, v = (u.releases.filter (u.pendingOf q fun e => e.names (u.senderCtr p))).foldl State.breakEntry
      (u.dropReleases (u.pendingOf q fun e => e.names (u.senderCtr p))) := ⟨_, rfl⟩
  have hrun : s.resetRow src = (v.children q (u.senderCtr p)).foldl (fun s k => s.resetCtr k ((pktWord p).toNat % 2 ^ 16)) v := by
    unfold State.resetRow
    rw [ht]
    dsimp only
    rw [hc]
    dsimp only
    rw [if_neg (by simp [hthaw]), hv]
    rfl
  obtain ⟨h1, h2⟩ := foldl_breakEntry (u.releases.filter (u.pendingOf q fun e => e.names (u.senderCtr p)))
    (u.dropReleases (u.pendingOf q fun e => e.names (u.senderCtr p)))
  rw [← hv] at h1 h2
  obtain ⟨h3, h4⟩ := foldl_resetCtr ((pktWord p).toNat % 2 ^ 16) (v.children q (u.senderCtr p)) v
  exact ⟨_, congrArg Host.Outcome.next hrun, h3.trans h1.releases, fun e i he hm hchild hph hfr =>
    h4 _ _ (h2 e i (List.mem_filter.mpr ⟨he, hm⟩) hchild hph hfr)⟩

/-- An acknowledgement counted at its counter (R392). -/
def State.countAck (s : State) (c : Ctr) : State :=
  { s with resetAcks := tput (fun _ => 0) s.resetAcks (48 * c.core + c.latch) (tget (fun _ => 0) s.resetAcks (48 * c.core + c.latch) + 1) }

theorem resetAcknowledgement_counts {src : Option Nat} {p : Pkt} {q o : Nat} {c : Ctr}
    (ht : s.takePkt src (fun p => p.kind = 2 && barrierOp p = 3) = some (p, u)) (hc : u.checkTarget src p = .inr (.latch i j o, q))
    (hat : u.ctrAt i j = some c) (hp : c.parent = 0) : exec (.resetAcknowledgement src) s = .next (u.countAck c) := by
  have hrun : s.ackRow src = u.countAck c := by
    unfold State.ackRow
    rw [ht]
    dsimp only
    rw [hc]
    dsimp only
    rw [hat]
    dsimp only
    rw [if_pos hp]
    rfl
  exact congrArg Host.Outcome.next hrun

theorem barrierRows_none {src : Option Nat} : ∀ k ∈ [0, 1, 2, 3, 4], s.takePkt src (fun p => p.kind = 2 && barrierOp p = k) = none →
    exec (if k = 0 then .barrierArrival src else if k = 1 then .barrierRelease src else if k = 2 then .groupReset src
      else if k = 3 then .resetAcknowledgement src else .barrierRefusal src) s = .next s := by
  intro k hk ht
  simp only [List.mem_cons, List.not_mem_nil, or_false] at hk
  rcases hk with rfl | rfl | rfl | rfl | rfl
  · exact congrArg Host.Outcome.next (show s.arrivalRow src = s by unfold State.arrivalRow; rw [ht])
  · exact congrArg Host.Outcome.next (show s.releaseRow src = s by unfold State.releaseRow; rw [ht])
  · exact congrArg Host.Outcome.next (show s.resetRow src = s by unfold State.resetRow; rw [ht])
  · exact congrArg Host.Outcome.next (show s.ackRow src = s by unfold State.ackRow; rw [ht])
  · exact congrArg Host.Outcome.next (show s.refusalRow src = s by unfold State.refusalRow; rw [ht])

end Resets

/-- Settles O40: the row of each packet, an arrival by its round. -/
theorem barriers : Obligations.Barriers := by
  intro s src p u
  refine ⟨fun i j q c ht hc => ?_, ?_, fun q e i ht hc htag hfind hchild hph hfr hthaw => barrierRefusal_breaks ht hc htag hfind hchild hph hfr hthaw,
    ?_, fun i j o q c ht hc hat hp => resetAcknowledgement_counts ht hc hat hp, barrierRows_none⟩
  rotate_left
  · intro q e i ht hc mine hone hchild hph hfr hthaw hb
    exact barrierRelease_raises ht hc hone hchild hph hfr hthaw hb
  · intro q ht hc mine hthaw
    exact groupReset_breaks ht hc hthaw
  have hrun := barrierArrival_at ht hc
  refine ⟨fun hfr => by rw [hrun, if_pos hfr], fun hfr => ?_⟩
  rw [hrun, if_neg (by simp [hfr])]
  refine ⟨fun hnone => by rw [hnone], fun hat => ?_⟩
  rw [hat]
  dsimp only
  refine ⟨fun h hne => ?_, fun h => ?_, fun h h' => ?_, fun h hlast hp hn => ?_, fun h hlast hp => ?_⟩
  · rw [State.arrive_current h, if_neg hne]
  · rw [State.arrive_next h]
  · rw [State.arrive_other h h']
  · obtain ⟨v, hv, hmem, hcomp⟩ := State.arrive_last hat h hlast
    obtain ⟨hr, -, hx, he⟩ := c.put_fields c.round c.expect c.nxt
    have hr' := hr.trans (Nat.mod_eq_of_lt c.round_lt)
    have hx' := hx.trans (Nat.mod_eq_of_lt c.nxt_lt)
    obtain ⟨c', h1, h2, h3, h4, h5, h6⟩ := State.complete_root hv hp (by rw [hx', he]; exact hn)
    exact ⟨_, c', rfl, by rw [hcomp]; exact h1, by rw [h2, hr'], by rw [h3, hx'], h4, by rw [h5, he], by rw [hcomp, h6, hmem]⟩
  · obtain ⟨v, hv, -, hcomp⟩ := State.arrive_last hat h hlast
    obtain ⟨hr, hq, hx, -⟩ := c.put_fields c.round c.expect c.nxt
    refine ⟨_, _, rfl, by rw [hcomp]; exact State.complete_child hv hp, hr.trans (Nat.mod_eq_of_lt c.round_lt), ?_, hx.trans (Nat.mod_eq_of_lt c.nxt_lt)⟩
    exact hq.trans (Nat.mod_eq_of_lt (bf_lt ..))

end Sys2Proof.Machine
end

section
/-! PROOFS. Requests for events, their arrival, snapshots and windows (R363, R364, R372 to R374, R392, R639, R640). -/

namespace Sys2Proof.Machine

/-! ### Arrival -/

section Arrival
variable {s u : State} {src : Option Nat} {p : Pkt}

/-- A sound event's row, by the state of the beat unit. -/
def State.arriveEvent (s : State) (p : Pkt) (e : Ev) : State :=
  if !s.disciplined then (if e.kind = 2 then s.lateEvent e else s.sendStatus p eSyncUnlocked)
  else if e.beat ≤ s.now then
    ((((s.incF rBeatErr 31 24 1).wrB rBeatErr 0 true).event uBeat 0 e.kind eSyncLate).lateEvent e).sendStatus p eSyncLate
  else if (s.addEvent e).2 then (if e.kind = 9 then (s.addEvent e).1.setDeadline e.group e.ident e.beat else (s.addEvent e).1)
  else if e.kind = 2 then (s.wrB rBeatErr 2 true).lateEvent e else (s.wrB rBeatErr 2 true).sendStatus p eSyncEvtFull

theorem event_sound (ht : s.takePkt src (fun p => p.kind = 4) = some (p, u)) (hcrc : BitVec.ofNat 32 (pktCrc p) = p.ecrc) (h1 : 1 ≤ (evOf p).kind)
    (h8 : (evOf p).kind ≤ 8) : exec (.event src) s = .next (u.arriveEvent p (evOf p)) := by
  have hrun : s.eventRow src = u.arriveEvent p (evOf p) := by
    unfold State.eventRow
    rw [ht]
    dsimp only
    rw [if_neg (not_not.mpr hcrc), if_neg (by simp; omega)]
    rfl
  exact congrArg Host.Outcome.next hrun

theorem event_none (ht : s.takePkt src (fun p => p.kind = 4) = none) : exec (.event src) s = .next s :=
  congrArg Host.Outcome.next (show s.eventRow src = s by unfold State.eventRow; rw [ht])

theorem State.arriveEvent_schedules {e : Ev} (hd : u.disciplined = true) (hb : u.now < e.beat) (hlen : u.beat.events.length < 32) (h8 : e.kind ≤ 8) :
    u.arriveEvent p e = u.setEvents (insEv e u.beat.events) := by
  have hadd : u.addEvent e = (u.setEvents (insEv e u.beat.events), true) := if_neg (by omega)
  unfold State.arriveEvent
  rw [if_neg (by simp [hd]), if_neg (BitVec.not_le.mpr hb), hadd, if_pos rfl, if_neg (by omega)]

theorem State.setEvents_schedules (l : List Ev) : (u.setEvents l).beat.events = l
    ∧ u.setEvents l = { u with beat := (u.setEvents l).beat, regs := (u.setEvents l).regs } := ⟨rfl, rfl⟩

/-- A late event noted. -/
def State.noteLate (s : State) (kind : Nat) : State := ((s.incF rBeatErr 31 24 1).wrB rBeatErr 0 true).event uBeat 0 kind eSyncLate

theorem State.noteLate_notes (kind : Nat) : (u.noteLate kind).rdB rBeatErr 0 = true ∧ (u.noteLate kind).beat = u.beat := by
  have hev := State.event_reported ((u.incF rBeatErr 31 24 1).wrB rBeatErr 0 true) uBeat 0 kind eSyncLate
  exact ⟨(State.rdB_of_regs hev.regs ..).trans (State.rdB_wrB_same _ _ (by omega) _), hev.beat⟩

theorem FabOnly.regs_beat {s t : State} (h : FabOnly s t) : t.regs = s.regs ∧ t.beat = s.beat := by
  obtain ⟨_, rfl⟩ := h
  exact ⟨rfl, rfl⟩

theorem State.arriveEvent_late {e : Ev} (hd : u.disciplined = true) (hb : e.beat ≤ u.now) (h7 : e.kind = 7) :
    (u.arriveEvent p e).rdB rBeatErr 0 = true ∧ (u.arriveEvent p e).beat.events = u.beat.events := by
  have hlate : (u.noteLate e.kind).lateEvent e = u.noteLate e.kind := by
    simp only [State.lateEvent, h7]
  have hrun : u.arriveEvent p e = (u.noteLate e.kind).sendStatus p eSyncLate := by
    unfold State.arriveEvent
    rw [if_neg (by simp [hd]), if_pos hb]
    exact congrArg (fun v => State.sendStatus v p eSyncLate) hlate
  obtain ⟨h1, h2⟩ := u.noteLate_notes e.kind
  obtain ⟨h3, h4⟩ := FabOnly.regs_beat (State.sendStatus_only (u.noteLate e.kind) p eSyncLate)
  rw [hrun]
  exact ⟨(State.rdB_of_regs h3 ..).trans h1, by rw [h4, h2]⟩

theorem State.arriveEvent_unlocked {e : Ev} (hd : u.disciplined = false) (h2 : e.kind ≠ 2) : u.arriveEvent p e = u.sendStatus p eSyncUnlocked := by
  unfold State.arriveEvent
  rw [if_pos (by simp [hd]), if_neg h2]

end Arrival

/-! ### Snapshots -/

section Snapshots
variable {s : State} {m : Msg} {r : Request}

theorem State.editSnap_edits {n n' : Snap} (hn : n ∈ s.beat.snaps) (hp : n.part = n'.part) (hs : n.slot = n'.slot) :
    n' ∈ (s.editSnap n').beat.snaps ∧ (s.editSnap n').threads = s.threads := by
  unfold State.editSnap
  obtain ⟨v, hv⟩ : ∃ v : State, v = { s with beat := { s.beat with snaps := s.beat.snaps.map (fun x => if x.part = n'.part && x.slot = n'.slot then n' else x) } } :=
    ⟨_, rfl⟩
  have hsnaps : n' ∈ v.beat.snaps := by
    rw [hv]
    exact List.mem_map.mpr ⟨n, hn, if_pos (by simp [hp, hs])⟩
  have hthreads : v.threads = s.threads := by rw [hv]
  rw [← hv]
  have honly := (v.writeMem_handled (snapAddr n'.part n'.slot) n'.bytes []).only
  rw [honly]
  exact ⟨hsnaps, hthreads⟩

theorem snapshotComplete_completes {p id : Nat} {n : Snap} (hfind : s.beat.snaps.find? (fun n => n.part = p && n.id.toNat = id && !n.complete) = some n)
    (hb : n.beat.toNat + 64 ≤ s.now.toNat) : ∃ t, exec (.snapshotComplete p id) s = .next t ∧ { n with complete := true } ∈ t.beat.snaps
      ∧ t.threads = s.threads := by
  have hrun : s.completeSnap p id = s.editSnap { n with complete := true } := by
    unfold State.completeSnap
    rw [hfind]
    exact if_pos hb
  obtain ⟨h1, h2⟩ := State.editSnap_edits (n' := { n with complete := true }) (List.mem_of_find?_eq_some hfind) rfl rfl
  exact ⟨_, congrArg Host.Outcome.next hrun, h1, h2⟩

theorem snapshotComplete_early {p id : Nat} {n : Snap} (hfind : s.beat.snaps.find? (fun n => n.part = p && n.id.toNat = id && !n.complete) = some n)
    (hb : s.now.toNat < n.beat.toNat + 64) : exec (.snapshotComplete p id) s = .next s := by
  have hrun : s.completeSnap p id = s := by
    unfold State.completeSnap
    rw [hfind]
    exact if_neg (by unfold logWin; omega)
  exact congrArg Host.Outcome.next hrun

section Read
variable {n : Snap} (hr : requestOf (.snapshotRead m) = some r) (h : s.accepts r) (hown : ownPart (s.chan m.ch) (leAt r.text 0 1) = true)
  (hlast : (s.beat.snaps.filter (fun n => n.part = leAt r.text 0 1 && n.id.toNat = leAt r.text 4 4)).getLast? = some n)
include hr h hown hlast

theorem snapshotRead_answers {a : W16 × List Byte} (ha : a.1 ≠ eHifRoleDenied)
    (hans : (if !n.complete then (s.taking r, refusal eHifNotReady)
      else (s.taking r, some (0, leBytes 4 ((n.bytes.drop (leAt r.text 8 4)).take 992).length ++ zeros 12 ++ (n.bytes.drop (leAt r.text 8 4)).take 992)))
        = (s.taking r, some a)) : Served (.snapshotRead m) s r a.1 a.2 (Aside s) := by
  obtain rfl := Option.some.inj hr
  generalize hR : (⟨m, 0x0126, 12, hasRole [.operator, .service, .tenant]⟩ : Request) = R at *
  have hch : R.m.ch = m.ch := by rw [← hR]
  refine served_of_answer (u := s.taking R) (f := ?_) h (by rw [← hR]; rfl) ?_ ha (requestOf_code hr) (State.taking_idle h) fun t ht => ht.of_taking
  have hlast' : ((s.taking R).beat.snaps.filter (fun n => n.part = leAt R.text 0 1 && n.id.toNat = leAt R.text 4 4)).getLast? = some n := hlast
  dsimp only
  rw [ownPart_taking hch hown, if_neg (by decide), hlast']
  exact hans

theorem snapshotRead_complete (hc : n.complete = true) : Served (.snapshotRead m) s r 0
    (leBytes 4 ((n.bytes.drop (leAt r.text 8 4)).take 992).length ++ zeros 12 ++ (n.bytes.drop (leAt r.text 8 4)).take 992) (Aside s) :=
  snapshotRead_answers hr h hown hlast (a := (0, _)) (show (0 : W16) ≠ eHifRoleDenied by decide) (if_neg (by simp [hc]))

theorem snapshotRead_open (hc : n.complete = false) : Served (.snapshotRead m) s r eHifNotReady [] (Aside s) :=
  snapshotRead_answers hr h hown hlast (a := (eHifNotReady, [])) (by decide) (if_pos (by simp [hc]))

end Read

end Snapshots

/-! ### Windows -/

section Windows
variable {s : State} {slot : Nat} {n : W64}

/-- The words of a window's record. -/
def State.windowWords (s : State) (slot : Nat) (n : W64) : List W64 :=
  [BitVec.ofNat 64 (winWord (s.win slot).openLen slot (s.win slot).part (if (s.win slot).overrun then 2 else 0)), n]
    ++ (span 2 30).map (fun i => tget (fun _ => 0) (s.winSet (s.win slot).part) i - tget (fun _ => 0) (s.win slot).base i)

/-- A window closed, before its record is written. -/
def State.shutWindow (s : State) (slot : Nat) : State := s.setWin slot { s.win slot with opened := none, base := [], overrun := false }

theorem State.win_shutWindow (s : State) (slot : Nat) : (s.shutWindow slot).win slot = { s.win slot with opened := none, base := [], overrun := false } :=
  tget_tput_self ..

theorem State.closeWindow_eq (hopen : (s.win slot).opened = some n) : s.closeWindow slot =
    if s.now.toNat < n.toNat + (s.win slot).openLen then s
    else (s.shutWindow slot).putWindow slot (s.win slot).part (s.win slot).openDest (s.windowWords slot n) (if (s.win slot).overrun then 2 else 0) := by
  unfold State.closeWindow
  dsimp only
  rw [hopen]
  rfl

theorem windowCloseCapture_early (hopen : (s.win slot).opened = some n) (hb : s.now.toNat < n.toNat + (s.win slot).openLen) :
    exec (.windowCloseCapture slot) s = .next s :=
  congrArg Host.Outcome.next ((State.closeWindow_eq hopen).trans (if_pos hb))

theorem windowCloseCapture_late (hopen : (s.win slot).opened = some n) (hb : n.toNat + (s.win slot).openLen ≤ s.now.toNat) :
    exec (.windowCloseCapture slot) s = .next ((s.shutWindow slot).putWindow slot (s.win slot).part (s.win slot).openDest (s.windowWords slot n)
      (if (s.win slot).overrun then 2 else 0)) :=
  congrArg Host.Outcome.next ((State.closeWindow_eq hopen).trans (if_neg (by omega)))

theorem Handled.win {s t : State} (h : Handled s t) (k : Nat) : t.win k = s.win k := by rw [State.win, h.wins, State.win]

theorem State.putWindow_module {part : Nat} (h8 : 8 ≤ part) (dest : W64) (words : List W64) (flags : Nat) :
    (s.putWindow slot part dest words flags).win slot = { s.win slot with record := words } := by
  unfold State.putWindow
  dsimp only
  rw [if_neg (by omega)]
  exact ((State.traceModule_handled ..).win _).trans (tget_tput_self ..)

theorem windowCloseCapture_module (hopen : (s.win slot).opened = some n) (hb : n.toNat + (s.win slot).openLen ≤ s.now.toNat) (h8 : 8 ≤ (s.win slot).part) :
    ∃ t, exec (.windowCloseCapture slot) s = .next t ∧ (t.win slot).opened = none ∧ (t.win slot).record = s.windowWords slot n := by
  refine ⟨_, windowCloseCapture_late hopen hb, ?_, ?_⟩
  · rw [State.putWindow_module h8, State.win_shutWindow]
  · rw [State.putWindow_module h8]

/-- A trace whose rings are off records nothing. -/
theorem State.trace_off {p : Nat} (h : s.noTrace p) (type unit inst : Nat) (r : Req) (data : Nat) : s.trace p type unit inst r data = s := by
  obtain ⟨h1, h2⟩ := h
  have hoff {y : Nat} (hy : s.rdB (rCntTrc y) 31 = false) (w : Option Nat) (x : TraceRec) : s.traceTo y w x = s := if_pos (by rw [hy]; rfl)
  unfold State.trace
  dsimp only
  rw [hoff h1, hoff h2, ite_self]

theorem State.noTrace_of_regs {s t : State} {p : Nat} (hregs : t.regs = s.regs) (h : s.noTrace p) : t.noTrace p :=
  ⟨(State.rdB_of_regs hregs ..).trans h.1, (State.rdB_of_regs hregs ..).trans h.2⟩

/-- Counting leaves the windows alone. -/
theorem State.count_wins (s : State) (r : Req) (w n : Nat) : (s.count r w n).cnt.wins = s.cnt.wins := by
  have htrack (s : State) (x : Nat) : (s.countTrack x w n r).cnt.wins = s.cnt.wins := by
    unfold State.countTrack
    split
    · rfl
    · rfl
  unfold State.count
  split
  · rfl
  · dsimp only
    split
    · rfl
    · simp only [List.foldl_cons, List.foldl_nil, htrack]

theorem State.cross_wins (s : State) (r : Req) (home n : Nat) (wr : Bool) : (s.cross r home n wr).cnt.wins = s.cnt.wins := by
  unfold State.cross
  split
  · rfl
  · exact s.count_wins r 7 n

theorem State.countNear_wins (s : State) (r : Req) (off near far home k : Nat) (wr : Bool) :
    (if home = r.wing then (s.countBlock off k).count r near k else ((s.countBlock off k).count r far k).cross r home k wr).cnt.wins = s.cnt.wins := by
  split
  · exact State.count_wins (s.countBlock off k) ..
  · exact (State.cross_wins ..).trans (State.count_wins (s.countBlock off k) ..)

theorem State.countMem_wins (s : State) (r : Req) (pa n : Nat) (wr : Bool) : (s.countMem r pa n wr).cnt.wins = s.cnt.wins := by
  unfold State.countMem
  split
  · rfl
  generalize span _ _ = l
  induction l generalizing s with
  | nil => rfl
  | cons u l ih =>
    rw [List.foldl_cons, ih]
    dsimp only
    split
    · exact (State.cross_wins ..).trans (s.count_wins ..)
    · exact s.countNear_wins ..

theorem length_flatMap_words (words : List W64) : (words.flatMap (fun (x : W64) => leBytes 8 x.toNat)).length = 8 * words.length := by
  rw [List.length_flatMap, List.map_congr_left fun x _ => length_leBytes 8 x.toNat, List.map_const', List.sum_replicate, smul_eq_mul, mul_comm]

theorem State.storedAt_of_byte {s t : State} {pa : Nat} {b : List Byte} (h : t.byte = storeOver s.byte (pa, b)) : s.storedAt t pa b :=
  fun a => congrFun h a

theorem State.putWindow_stored {pa part : Nat} {dest : W64} {words : List W64} (h8 : part < 8) (hrange : s.partRange part dest.toNat 256 = some pa)
    (hone : oneMemory pa 256) (hlen : words.length = 32) (hquiet : s.noErrors) (hoff : s.noTrace part) (flags : Nat) :
    (s.putWindow slot part dest words flags).win slot = s.win slot
      ∧ s.storedAt (s.putWindow slot part dest words flags) pa (words.flatMap (fun (x : W64) => leBytes 8 x.toNat)) := by
  have hbytes : (words.flatMap (fun (x : W64) => leBytes 8 x.toNat)).length = 256 := by rw [length_flatMap_words, hlen]
  generalize hb : words.flatMap (fun (x : W64) => leBytes 8 x.toNat) = b at hbytes
  have hclean : s.cleanAt pa b.length := fun g _ => hquiet.quiet.1 g
  obtain ⟨hwrote, hbyte⟩ := State.writeMem_countMem hquiet.2 (by rw [hbytes]; exact hone) hclean { part := some part, wing := s.wingOfPart part } true
  have hwins : ((s.writeMem pa b).countMem { part := some part, wing := s.wingOfPart part } pa b.length true).cnt.wins = s.cnt.wins :=
    (State.countMem_wins ..).trans (s.writeMem_handled pa b []).wins
  rw [hbytes] at hwrote hbyte hwins
  have hregs : ((s.writeMem pa b).countMem { part := some part, wing := s.wingOfPart part } pa 256 true).regs = s.regs := by rw [hwrote.only]
  have hrun : s.putWindow slot part dest words flags =
      (s.writeMem pa b).countMem { part := some part, wing := s.wingOfPart part } pa 256 true := by
    unfold State.putWindow
    dsimp only
    rw [if_pos h8, hrange, hb]
    exact State.trace_off (State.noTrace_of_regs hregs hoff) ..
  rw [hrun]
  exact ⟨by rw [State.win, hwins, State.win], State.storedAt_of_byte hbyte⟩

theorem State.shutWindow_sees (s : State) (slot : Nat) : Sees s (s.shutWindow slot) := .of_regs rfl rfl rfl rfl rfl rfl

theorem State.shutWindow_byte (s : State) (slot a : Nat) : (s.shutWindow slot).byte a = s.byte a := rfl

theorem windowCloseCapture_stored {pa : Nat} (hopen : (s.win slot).opened = some n) (hb : n.toNat + (s.win slot).openLen ≤ s.now.toNat)
    (h8 : (s.win slot).part < 8) (hrange : s.partRange (s.win slot).part (s.win slot).openDest.toNat 256 = some pa) (hone : oneMemory pa 256)
    (hquiet : s.noErrors) (hoff : s.noTrace (s.win slot).part) : ∃ t, exec (.windowCloseCapture slot) s = .next t ∧ (t.win slot).opened = none
      ∧ s.storedAt t pa ((s.windowWords slot n).flatMap (fun (x : W64) => leBytes 8 x.toNat)) := by
  have hrange' : (s.shutWindow slot).partRange (s.win slot).part (s.win slot).openDest.toNat 256 = some pa :=
    (State.partRange_of_sees (s.shutWindow_sees slot) rfl (fun _ => rfl) (fun _ _ => rfl) ..).trans hrange
  obtain ⟨h1, h2⟩ := State.putWindow_stored (slot := slot) h8 hrange' hone (words := s.windowWords slot n) (by simp [State.windowWords, span]) hquiet hoff
    (if (s.win slot).overrun then 2 else 0)
  exact ⟨_, windowCloseCapture_late hopen hb, by rw [h1, State.win_shutWindow], fun a => (h2 a).trans (by rw [s.shutWindow_byte slot a])⟩

end Windows

/-! ### EVENT_REQ -/

section Request
variable {s : State} {m : Msg} {r : Request}

/-- EVENT_REQ's own effect for the beat n. -/
def State.eventReq (s : State) (m : Msg) (b : List Byte) (n : W64) : State × Answer :=
  let x := s.chan m.ch
  let ms := s.entryMembers (leAt b 2 2)
  if !([1, 2, 3, 5, 9] : List Nat).contains (leAt b 0 1) || leAt b 4 4 ≠ 0 || 0xFFE < leAt b 2 2 || ms.isEmpty
      || (if leAt b 0 1 = 5 then leAt b 1 1 ≠ 0xFF else 7 < leAt b 1 1) || (leAt b 0 1 = 5 && !s.listsAll ms) then (s, refusal eHifMsgInvalid)
  else if x.role = .tenant && (leAt b 0 1 = 5 || x.part ≠ leAt b 1 1 || !s.ownEntry x (leAt b 2 2)) then (s, refusal eHifRoleDenied)
  else if !s.leadOk n then (s.leadRefuse, some (eSyncLead, leBytes 8 n.toNat))
  else
    let s := s.issueEvent ms (leAt b 0 1 = 5) (leAt b 0 1) (leAt b 2 2) n (BitVec.ofNat 32 (leAt b 16 4)) (some (m.ch, m.tag))
    ({ s with beat := { s.beat with asked := s.beat.asked ++ [⟨(m.ch, m.tag), n, s.now + BitVec.ofNat 64 (askedLeads * s.lead)⟩] } }, none)

theorem execEventReq_eq (m : Msg) (s : State) : execEventReq m s =
    .next (s.serve m 0x0124 20 (hasRole [.operator, .tenant]) fun s b => s.eventReq m b (windowBeat s b)) := rfl

/-- An event asked for, and the answer that waits. -/
def State.askEvent (s : State) (m : Msg) (b : List Byte) (n : W64) : State :=
  let u := s.issueEvent (s.entryMembers (leAt b 2 2)) (leAt b 0 1 = 5) (leAt b 0 1) (leAt b 2 2) n (BitVec.ofNat 32 (leAt b 16 4)) (some (m.ch, m.tag))
  { u with beat := { u.beat with asked := u.beat.asked ++ [⟨(m.ch, m.tag), n, u.now + BitVec.ofNat 64 (askedLeads * u.lead)⟩] } }

theorem State.askEvent_asks {b : List Byte} {n : W64} (hms : s.entryMembers (leAt b 2 2) ≠ []) : ∃ x, (s.askEvent m b n).beat.asked
      = s.beat.asked ++ [⟨(m.ch, m.tag), n, s.now + BitVec.ofNat 64 (2 * s.lead)⟩]
    ∧ (s.askEvent m b n).beat.issued.getLast? = some x ∧ x.kind = leAt b 0 1 ∧ x.ident = BitVec.ofNat 32 (leAt b 16 4)
    ∧ x.beat = n ∧ x.req = some (m.ch, m.tag) ∧ (s.askEvent m b n).mem = s.mem := by
  unfold State.askEvent
  obtain ⟨fab, issued, hu⟩ := s.issueEvent_only (s.entryMembers (leAt b 2 2)) (leAt b 0 1 = 5) (leAt b 0 1) (leAt b 2 2) n (BitVec.ofNat 32 (leAt b 16 4))
    (some (m.ch, m.tag))
  obtain ⟨x, hx, h1, h2, h3, h4⟩ := s.issueEvent_last hms (leAt b 0 1 = 5) (leAt b 0 1) (leAt b 2 2) n (BitVec.ofNat 32 (leAt b 16 4)) (some (m.ch, m.tag))
  generalize s.issueEvent (s.entryMembers (leAt b 2 2)) (leAt b 0 1 = 5) (leAt b 0 1) (leAt b 2 2) n (BitVec.ofNat 32 (leAt b 16 4))
    (some (m.ch, m.tag)) = u at hu hx ⊢
  refine ⟨x, ?_, hx, h1, h2, h3, h4, ?_⟩
  · rw [hu]
    rfl
  · rw [hu]

theorem Aside.fabric {u t : State} (h : Aside u t) : t.fab = u.fab := by rw [h]

theorem Reported.fab {s t : State} (h : Reported s t) : t.fab = s.fab := by
  obtain ⟨_, _, _, _, _, _, rfl⟩ := h
  rfl

section Asked
variable (hr : requestOf (.eventReq m) = some r) (h : s.accepts r)
  (hown : (s.chan m.ch).role = .operator ∨ ((s.chan m.ch).part = leAt r.text 1 1 ∧ s.ownEntry (s.chan m.ch) (leAt r.text 2 2) = true))
  (hkind : (leAt r.text 0 1 ∈ [1, 2, 3, 9] ∧ leAt r.text 1 1 ≤ 7)
    ∨ (leAt r.text 0 1 = 5 ∧ leAt r.text 1 1 = 0xFF ∧ s.listsAll (s.entryMembers (leAt r.text 2 2)) = true ∧ (s.chan m.ch).role = .operator))
  (h4 : leAt r.text 4 4 = 0) (hg : leAt r.text 2 2 ≤ 0xFFE) (hms : s.entryMembers (leAt r.text 2 2) ≠ [])
include hr h hown hkind h4 hg hms

theorem eventReq_allowed {n : W64} : (s.taking r).eventReq m r.text n =
    if !s.leadOk n then ((s.taking r).leadRefuse, some (eSyncLead, leBytes 8 n.toNat)) else ((s.taking r).askEvent m r.text n, none) := by
  have hch : r.m.ch = m.ch := by
    obtain rfl := Option.some.inj hr
    rfl
  have hchan : (s.taking r).chan m.ch = { s.chan m.ch with done := false } := hch ▸ s.chan_taking r
  have hlists : (s.taking r).listsAll (s.entryMembers (leAt r.text 2 2)) = s.listsAll (s.entryMembers (leAt r.text 2 2)) := rfl
  have howns : (s.taking r).ownEntry { s.chan m.ch with done := false } (leAt r.text 2 2) = s.ownEntry (s.chan m.ch) (leAt r.text 2 2) := rfl
  have hempty : (s.entryMembers (leAt r.text 2 2)).isEmpty = false := by simpa using hms
  have hlead : (s.taking r).leadOk n = s.leadOk n := rfl
  unfold State.eventReq
  dsimp only
  rw [State.entryMembers_taking, hchan, hlists, howns, hempty, hlead, if_neg ?_, if_neg ?_]
  · rw [State.askEvent, State.entryMembers_taking]
  · rcases hkind with ⟨hk, hp⟩ | ⟨hk, hp, hl, ho⟩
    · have hk5 : leAt r.text 0 1 ≠ 5 := fun e => absurd (e ▸ hk) (by decide)
      rcases hown with ho | ⟨ho, he⟩
      · simp [ho]
      · simp [hk5, ho, he]
    · simp [ho]
  · rcases hkind with ⟨hk, hp⟩ | ⟨hk, hp, hl, ho⟩
    · have hk5 : leAt r.text 0 1 ≠ 5 := fun e => absurd (e ▸ hk) (by decide)
      have hin : ([1, 2, 3, 5, 9] : List Nat).contains (leAt r.text 0 1) = true := by
        simp only [List.mem_cons, List.not_mem_nil, or_false] at hk
        rcases hk with e | e | e | e <;> rw [e] <;> rfl
      rw [hin]
      simp [h4, Nat.not_lt.mpr hg, hk5, Nat.not_lt.mpr hp]
    · have hin : ([1, 2, 3, 5, 9] : List Nat).contains (leAt r.text 0 1) = true := by
        rw [hk]
        rfl
      rw [hin]
      simp [h4, Nat.not_lt.mpr hg, hk, hp, hl]

theorem eventReq_waits {n : W64} (hlead : s.now.toNat + s.lead ≤ n.toNat) (hn : n = windowBeat s r.text) : ∃ t x, exec (.eventReq m) s = .next t
    ∧ (t.chan m.ch).busy = true ∧ t.beat.asked = s.beat.asked ++ [⟨(m.ch, m.tag), n, s.now + BitVec.ofNat 64 (2 * s.lead)⟩]
    ∧ t.beat.issued.getLast? = some x ∧ x.kind = leAt r.text 0 1 ∧ x.ident = BitVec.ofNat 32 (leAt r.text 16 4) ∧ x.beat = n
    ∧ x.req = some (m.ch, m.tag) ∧ t.mem = s.mem := by
  have heff := eventReq_allowed hr h hown hkind h4 hg hms (n := n)
  rw [if_neg (by simpa [State.leadOk] using hlead)] at heff
  obtain rfl := Option.some.inj hr
  generalize hR : (⟨m, 0x0124, 20, hasRole [.operator, .tenant]⟩ : Request) = R at *
  have hch : R.m.ch = m.ch := by rw [← hR]
  have hbeat : windowBeat (s.taking R) R.text = n := hn.symm
  obtain ⟨x, h1, h2, h3⟩ := State.askEvent_asks (s := s.taking R) (m := m) (b := R.text) (n := n) (by rwa [State.entryMembers_taking])
  refine ⟨_, x, exec_waits (u := (s.taking R).askEvent m R.text n) (f := fun s b => s.eventReq m b (windowBeat s b)) h
    (by rw [← hR, exec_eventReq, execEventReq_eq]) (by rw [hbeat]; exact heff), ?_, h1, h2, h3⟩
  rw [hch, State.chan_setChan_self]

theorem eventReq_short {n : W64} (hlead : n.toNat < s.now.toNat + s.lead) (hn : n = windowBeat s r.text) :
    Served (.eventReq m) s r eSyncLead (leBytes 8 n.toNat) (fun t => t.rdB rBeatErr 1 = true ∧ t.fab = s.fab) := by
  have heff := eventReq_allowed hr h hown hkind h4 hg hms (n := n)
  rw [if_pos (by simpa [State.leadOk] using hlead)] at heff
  obtain rfl := Option.some.inj hr
  generalize hR : (⟨m, 0x0124, 20, hasRole [.operator, .tenant]⟩ : Request) = R at *
  have hbeat : windowBeat (s.taking R) R.text = n := hn.symm
  have hrep : Reported ((s.taking R).wrB rBeatErr 1 true) (s.taking R).leadRefuse := State.event_reported ..
  refine served_of_answer (f := fun s b => s.eventReq m b (windowBeat s b)) h (by rw [← hR, exec_eventReq, execEventReq_eq])
    (by rw [hbeat]; exact heff) (by decide) (requestOf_code hr) ?_ fun t ht => ⟨?_, ?_⟩
  · rw [State.chan_of_chans (hrep.chans.trans rfl)]
    exact State.taking_idle h
  · rw [State.rdB_of_regs (ht.regs.trans hrep.regs), State.rdB_wrB_same _ _ (by omega)]
  · rw [ht.fabric, hrep.fab]
    rfl

end Asked
end Request

/-! ### BARRIER_RESET -/

section Reset
variable {s : State} {m : Msg} {r : Request}

/-- Sending packets leaves the resets that wait for another module. -/
theorem State.launch_resets {s t : State} {own : Bool} {p : Pkt} (h : s.launch own p = some t) : t.fab.resets = s.fab.resets := by
  unfold State.launch at h
  split at h
  · obtain rfl := Option.some.inj h
    rfl
  · obtain rfl := Option.some.inj h
    rfl
  · cases h

theorem State.sendStatus_resets (s : State) (p : Pkt) (code : W16) : (s.sendStatus p code).fab.resets = s.fab.resets := by
  unfold State.sendStatus
  split
  · rfl
  · dsimp only
    split
    · exact State.launch_resets ‹_›
    · rfl

theorem State.mcpPkt_resets (s : State) (kind dst group body : Nat) (data : List Byte) :
    (s.mcpPkt kind dst group body data).1.fab.resets = s.fab.resets := by
  rw [State.mcpPkt_eq]
  have hcount : s.countToken.fab.resets = s.fab.resets := rfl
  rw [← hcount]
  generalize s.countToken = v
  dsimp only
  unfold State.sendPkt
  split
  · exact State.launch_resets ‹_›
  · exact v.sendStatus_resets ..

/-- BARRIER_RESET's own effect for an operator. -/
def State.barrierReset (s : State) (m : Msg) (b : List Byte) : State × Answer :=
  let x := s.chan m.ch
  let a := leAt b 0 8
  let r0 := leAt b 8 2
  let part := if x.role = .tenant then some x.part else none
  if isRemote a && remoteMod a ≠ s.maddr then
    match part.bind (fun p => if (s.gtFor p (remoteMod a)).isNone then some p else none) with
    | some _ => (s, refusal eHifMsgInvalid)
    | none =>
      let dst := remoteMod a
      let there := match part with
        | some p => ((s.gtFor p dst).bind (fun g => (s.entryMembers g).find? (fun (y : Nat × Nat) => y.1 = dst))).map (fun (y : Nat × Nat) => y.2)
        | none => some 0xFF
      if s.route dst 0 = .none then (s, refusal eFabUnreachable)
      else
        let r := s.mcpPkt 5 dst 0xFFF 0 (mgmtReset (there.getD 0xFF) (remoteLocal a) r0)
        ({ r.1 with fab := { r.1.fab with resets := r.1.fab.resets ++ [(r.2, m.ch, m.tag)] } }, none)
  else match s.startReset (if isRemote a then remoteLocal a else a) r0 part with
  | some t => (t, some (0, []))
  | none => (s, refusal eHifMsgInvalid)

theorem execBarrierReset_eq (m : Msg) (s : State) :
    execBarrierReset m s = .next (s.serve m 0x0125 10 (hasRole [.operator, .tenant]) fun s b => s.barrierReset m b) := rfl

variable (hr : requestOf (.barrierReset m) = some r) (h : s.accepts r) (hrole : (s.chan m.ch).role = .operator)

section Here
variable (hlocal : isRemote (leAt r.text 0 8) = false)
include hr h hrole hlocal

theorem barrierReset_here : (s.taking r).barrierReset m r.text = match (s.taking r).startReset (leAt r.text 0 8) (leAt r.text 8 2) none with
    | some t => (t, some (0, []))
    | none => (s.taking r, refusal eHifMsgInvalid) := by
  have hch : r.m.ch = m.ch := by
    obtain rfl := Option.some.inj hr
    rfl
  have hchan : ((s.taking r).chan m.ch).role = .operator := by rw [← hch, State.chan_taking, hch]; exact hrole
  unfold State.barrierReset
  dsimp only
  rw [hlocal, hchan]
  rfl

theorem barrierReset_resets {i j : Nat} {c : Ctr} (hres : s.resolve (leAt r.text 0 8) = .latch i j 0) (hat : s.ctrAt i j = some c) :
    Served (.barrierReset m) s r 0 [] (fun t => ∃ c', t.ctrAt i j = some c' ∧ c'.round = leAt r.text 8 2 ∧ c'.cur = 0 ∧ c'.nxt = 0
      ∧ c'.expect = c.expect ∧ t.mem = s.mem) := by
  have heff := barrierReset_here hr h hrole hlocal
  obtain ⟨v, hv, hvat, hvmem, hvchans⟩ : ∃ v : State, (s.taking r).startReset (leAt r.text 0 8) (leAt r.text 8 2) none
      = some (v.resetCtr c (leAt r.text 8 2)) ∧ v.ctrAt i j = some c ∧ v.mem = s.mem ∧ v.host.chans = (s.taking r).host.chans := by
    have hres' : (s.taking r).resolve (leAt r.text 0 8) = .latch i j 0 := hres
    have hat' : (s.taking r).ctrAt i j = some c := hat
    refine ⟨{ s.taking r with resetAcks := tput (fun _ => 0) (s.taking r).resetAcks (48 * c.core + c.latch) 0 }, ?_, hat, rfl, rfl⟩
    unfold State.startReset
    simp only [hres', hat']
    rfl
  rw [hv] at heff
  obtain ⟨h1, h2⟩ := State.putCtr_puts hvat (leAt r.text 8 2) 0 0
  have hfab := State.resetCtr_fabOnly (s := v) c (leAt r.text 8 2)
  have hlat : LatchesOnly v (v.putCtr c (leAt r.text 8 2) 0 0) := (v.setLatch_latchesOnly ..).trans (State.latchTest_latchesOnly ..)
  obtain ⟨hround, hcur, hnxt, hexp⟩ := c.put_fields (leAt r.text 8 2) 0 0
  generalize v.putCtr c (leAt r.text 8 2) 0 0 = w at h1 h2 hfab hlat
  generalize v.resetCtr c (leAt r.text 8 2) = u at heff hfab
  have huat : u.ctrAt i j = some (c.put (leAt r.text 8 2) 0 0) := ((Still.fab hfab).ctrAt ..).trans h1
  have humem : u.mem = s.mem := hfab.memory.trans (h2.trans hvmem)
  have huchans : u.host.chans = (s.taking r).host.chans := by
    obtain ⟨_, rfl⟩ := hfab
    rw [hlat]
    exact hvchans
  obtain rfl := Option.some.inj hr
  generalize hR : (⟨m, 0x0125, 10, hasRole [.operator, .tenant]⟩ : Request) = R at *
  refine served_of_answer (u := u) (f := fun s b => s.barrierReset m b) h (by rw [← hR, exec_barrierReset, execBarrierReset_eq]) heff (by decide)
    (requestOf_code hr) ?_ fun t ht => ⟨c.put (leAt R.text 8 2) 0 0, ?_, hround.trans (Nat.mod_eq_of_lt (leAt_lt ..)), hcur, hnxt, hexp,
      ht.memory.trans humem⟩
  · rw [State.chan_of_chans huchans]
    exact State.taking_idle h
  · rw [State.ctrAt_congr (s := u) (by rw [ht]) (by rw [ht]; rfl) (by rw [ht]; rfl)]
    exact huat

theorem barrierReset_noCounter (hno : ∀ i j, s.resolve (leAt r.text 0 8) = .latch i j 0 → s.ctrAt i j = none) :
    Served (.barrierReset m) s r eHifMsgInvalid [] (Aside s) := by
  have heff := barrierReset_here hr h hrole hlocal
  have hnone : (s.taking r).startReset (leAt r.text 0 8) (leAt r.text 8 2) none = none := by
    unfold State.startReset
    split
    · next i j hres =>
      have hat : (s.taking r).ctrAt i j = none := hno i j hres
      rw [hat]
    · rfl
  rw [hnone] at heff
  obtain rfl := Option.some.inj hr
  generalize hR : (⟨m, 0x0125, 10, hasRole [.operator, .tenant]⟩ : Request) = R at *
  exact served_of_answer (u := s.taking R) (f := fun s b => s.barrierReset m b) h (by rw [← hR, exec_barrierReset, execBarrierReset_eq]) heff (by decide)
    (requestOf_code hr) (State.taking_idle h) fun t ht => ht.of_taking

end Here

section There
variable (hremote : isRemote (leAt r.text 0 8) = true) (hother : remoteMod (leAt r.text 0 8) ≠ s.maddr)
include hr h hrole hremote hother

theorem barrierReset_there : (s.taking r).barrierReset m r.text = if s.route (remoteMod (leAt r.text 0 8)) 0 = .none then (s.taking r, refusal eFabUnreachable)
    else
      let x := (s.taking r).mcpPkt 5 (remoteMod (leAt r.text 0 8)) 0xFFF 0 (mgmtReset 0xFF (remoteLocal (leAt r.text 0 8)) (leAt r.text 8 2))
      ({ x.1 with fab := { x.1.fab with resets := x.1.fab.resets ++ [(x.2, m.ch, m.tag)] } }, none) := by
  have hch : r.m.ch = m.ch := by
    obtain rfl := Option.some.inj hr
    rfl
  have hchan : ((s.taking r).chan m.ch).role = .operator := by rw [← hch, State.chan_taking, hch]; exact hrole
  have hother' : (isRemote (leAt r.text 0 8) && remoteMod (leAt r.text 0 8) ≠ (s.taking r).maddr) = true := by
    have hm : (s.taking r).maddr = s.maddr := rfl
    simpa [hremote, hm] using hother
  have hroute : (s.taking r).route (remoteMod (leAt r.text 0 8)) 0 = s.route (remoteMod (leAt r.text 0 8)) 0 := rfl
  unfold State.barrierReset
  dsimp only
  rw [if_pos hother', hchan, hroute]
  rfl

theorem barrierReset_unreachable (hroute : s.route (remoteMod (leAt r.text 0 8)) 0 = .none) : Served (.barrierReset m) s r eFabUnreachable [] (Aside s) := by
  have heff := barrierReset_there hr h hrole hremote hother
  rw [if_pos hroute] at heff
  obtain rfl := Option.some.inj hr
  generalize hR : (⟨m, 0x0125, 10, hasRole [.operator, .tenant]⟩ : Request) = R at *
  exact served_of_answer (u := s.taking R) (f := fun s b => s.barrierReset m b) h (by rw [← hR, exec_barrierReset, execBarrierReset_eq]) heff (by decide)
    (requestOf_code hr) (State.taking_idle h) fun t ht => ht.of_taking

theorem barrierReset_sent (hroute : s.route (remoteMod (leAt r.text 0 8)) 0 ≠ .none) : ∃ t tok, exec (.barrierReset m) s = .next t
    ∧ (t.chan m.ch).busy = true ∧ t.fab.resets = s.fab.resets ++ [(tok, m.ch, m.tag)] ∧ t.mem = s.mem := by
  have heff := barrierReset_there hr h hrole hremote hother
  rw [if_neg hroute] at heff
  have hfab := (s.taking r).mcpPkt_fabOnly 5 (remoteMod (leAt r.text 0 8)) 0xFFF 0 (mgmtReset 0xFF (remoteLocal (leAt r.text 0 8)) (leAt r.text 8 2))
  have hresets := (s.taking r).mcpPkt_resets 5 (remoteMod (leAt r.text 0 8)) 0xFFF 0 (mgmtReset 0xFF (remoteLocal (leAt r.text 0 8)) (leAt r.text 8 2))
  dsimp only at heff
  generalize (s.taking r).mcpPkt 5 (remoteMod (leAt r.text 0 8)) 0xFFF 0 (mgmtReset 0xFF (remoteLocal (leAt r.text 0 8)) (leAt r.text 8 2)) = x
    at heff hfab hresets
  obtain ⟨v, hv, hvresets, hvmem⟩ : ∃ v : State, v = { x.1 with fab := { x.1.fab with resets := x.1.fab.resets ++ [(x.2, m.ch, m.tag)] } }
      ∧ v.fab.resets = s.fab.resets ++ [(x.2, m.ch, m.tag)] ∧ v.mem = s.mem := by
    refine ⟨_, rfl, ?_, hfab.memory⟩
    dsimp only
    rw [hresets]
    rfl
  rw [← hv] at heff
  obtain rfl := Option.some.inj hr
  generalize hR : (⟨m, 0x0125, 10, hasRole [.operator, .tenant]⟩ : Request) = R at *
  have hch : R.m.ch = m.ch := by rw [← hR]
  refine ⟨_, x.2, exec_waits (u := v) (f := fun s b => s.barrierReset m b) h (by rw [← hR, exec_barrierReset, execBarrierReset_eq]) heff, ?_, hvresets, hvmem⟩
  rw [hch, State.chan_setChan_self]

end There
end Reset

/-- Settles O38: each arrival, capture and request in turn. -/
theorem eventRequests : Obligations.EventRequests := by
  intro s m
  refine ⟨fun src p u ht hcrc h1 h8 => ?_, fun _ => event_none, fun p id n hfind => ⟨snapshotComplete_completes hfind, snapshotComplete_early hfind⟩,
    fun slot n hopen => ?_, fun r hr h => ?_, fun r hr h hrole hlocal => ?_, fun r hr h hrole hremote hother => ?_, fun r n hr h hown hlast => ?_⟩
  · rw [event_sound ht hcrc h1 h8]
    refine ⟨fun hd hb hlen => ?_, fun hd hb h7 => ⟨_, rfl, State.arriveEvent_late hd hb h7⟩, fun hd h2 => by rw [State.arriveEvent_unlocked hd h2]⟩
    rw [State.arriveEvent_schedules hd hb hlen h8]
    exact ⟨_, rfl, State.setEvents_schedules _⟩
  · intro w words
    exact ⟨windowCloseCapture_early hopen, windowCloseCapture_module hopen, fun pa => windowCloseCapture_stored hopen⟩
  · intro b kind ms n hown hkind h4 hg hms
    exact ⟨fun hlead => eventReq_waits hr h hown hkind h4 hg hms hlead rfl, fun hlead => eventReq_short hr h hown hkind h4 hg hms hlead rfl⟩
  · exact ⟨fun i j c hres hat => barrierReset_resets hr h hrole hlocal hres hat, barrierReset_noCounter hr h hrole hlocal⟩
  · exact ⟨barrierReset_unreachable hr h hrole hremote hother, barrierReset_sent hr h hrole hremote hother⟩
  · exact ⟨snapshotRead_complete hr h hown hlast, snapshotRead_open hr h hown hlast⟩

end Sys2Proof.Machine
end

section
/-! PROOFS. Events that are due (R361, R365, R368, R370, R371, R485, R561, R574, R601, R639). -/

namespace Sys2Proof.Machine

/-! ### The table without the event that is due -/

section Table
variable {s : State} {e : Ev}

theorem State.due_nextDue {k : Nat} (h : s.nextDue k e) (f : State → Ev → State) : s.due k f = f (s.setEvents (s.beat.events.erase e)) e := by
  obtain ⟨hfind, hk⟩ := h
  unfold State.due
  rw [hfind]
  exact if_pos hk

theorem State.due_empty (h : s.beat.events = []) (k : Nat) (f : State → Ev → State) : s.due k f = s := by
  unfold State.due
  rw [h]
  rfl

/-- Storing the event table touches the table and the two registers that show it. -/
theorem State.setEvents_fields (s : State) (l : List Ev) : (s.setEvents l).beat.events = l
    ∧ (∀ o, o ≠ rBeatStat → o ≠ rPwrStat → (s.setEvents l).rd o = s.rd o) := by
  refine ⟨rfl, fun o h1 h2 => ?_⟩
  unfold State.setEvents
  rw [State.wrB, State.rd_wr_ne _ _ _ _ h2, State.wrF, State.rd_wr_ne _ _ _ _ h1]
  rfl

theorem State.rdF_setEvents (s : State) (l : List Ev) {o : Nat} (h1 : o ≠ rBeatStat) (h2 : o ≠ rPwrStat) (hi lo : Nat) :
    (s.setEvents l).rdF o hi lo = s.rdF o hi lo := by rw [State.rdF, (s.setEvents_fields l).2 o h1 h2, State.rdF]

/-- The events proper, before the registers show them. -/
def State.putEvents (s : State) (l : List Ev) : State := { s with beat := { s.beat with events := l } }

theorem State.setEvents_eq (s : State) (l : List Ev) :
    s.setEvents l = ((s.putEvents l).wrF rBeatStat 11 6 l.length).wrB rPwrStat 29 (l.any (fun e => e.kind = 4)) := rfl

/-- PWR_STAT but for its bit 29 stays. -/
theorem State.power_setEvents (s : State) (l : List Ev) {hi lo : Nat} (h : hi < 29 ∨ 29 < lo) : (s.setEvents l).rdF rPwrStat hi lo = s.rdF rPwrStat hi lo := by
  have hput : (s.putEvents l).regs = s.regs := rfl
  rw [State.setEvents_eq, State.rdF_wrB_apart _ _ (by omega) h, State.rdF_wrF_ne _ _ (by unfold rPwrStat rBeatStat pwrReg beatReg; omega),
    State.rdF_of_regs hput]

theorem State.bit_setEvents (s : State) (l : List Ev) {o i : Nat} (h1 : o = rBeatStat → 11 < i) (h2 : o = rPwrStat → i ≠ 29) :
    (s.setEvents l).rdB o i = s.rdB o i := by
  have hput : (s.putEvents l).rdB o i = s.rdB o i := State.rdB_of_regs rfl ..
  have hbeat : ((s.putEvents l).wrF rBeatStat 11 6 l.length).rdB o i = (s.putEvents l).rdB o i := by
    by_cases e : o = rBeatStat
    · rw [e, State.rdB_wrF_apart _ _ (by omega) (by omega) (.inr (h1 e))]
    · exact State.rdB_wr_ne _ _ e ..
  rw [State.setEvents_eq]
  by_cases e : o = rPwrStat
  · rw [e, State.rdB_wrB_ne _ _ (by omega) (h2 e), ← e, hbeat, hput]
  · rw [State.rdB_wrB_apart _ _ e, hbeat, hput]

end Table

/-! ### Snapshots, periods and deadlines -/

section Simple
variable {s : State} {e : Ev}

theorem State.putSnap_puts (s : State) (n : Snap) : n ∈ (s.putSnap n).beat.snaps ∧ (s.putSnap n).beat.events = s.beat.events
    ∧ (s.putSnap n).threads = s.threads ∧ (s.putSnap n).latches = s.latches := by
  unfold State.putSnap
  obtain ⟨v, hv⟩ : ∃ v : State, v = { s with beat := { s.beat with
      snaps := s.beat.snaps.filter (fun x => !(x.part = n.part && x.slot = n.slot)) ++ [n] } } := ⟨_, rfl⟩
  have hkeep : n ∈ v.beat.snaps ∧ v.beat.events = s.beat.events ∧ v.threads = s.threads ∧ v.latches = s.latches := by
    rw [hv]
    exact ⟨List.mem_append_right _ (.head _), rfl, rfl, rfl⟩
  dsimp only
  rw [← hv, (v.writeMem_handled (snapAddr n.part n.slot) n.bytes []).only]
  exact hkeep

theorem snapshot_due (h : s.nextDue 1 e) (hp : e.part < 8) : ∃ t n, exec .snapshot s = .next t ∧ n ∈ t.beat.snaps ∧ n.part = e.part ∧ n.id = e.ident
    ∧ n.beat = e.beat ∧ n.late = false ∧ n.complete = false ∧ n.incomplete = false
    ∧ (n.counts, n.sections) = (s.setEvents (s.beat.events.erase e)).snapSections e.part
    ∧ t.beat.events = s.beat.events.erase e ∧ t.threads = s.threads ∧ t.latches = s.latches := by
  have hrun : exec .snapshot s = .next ((s.setEvents (s.beat.events.erase e)).takeSnapshot e.part e.ident e.beat false) :=
    congrArg Host.Outcome.next (State.due_nextDue h _)
  have hevents := (s.setEvents_fields (s.beat.events.erase e)).1
  have hthreads : (s.setEvents (s.beat.events.erase e)).threads = s.threads := rfl
  have hlatches : (s.setEvents (s.beat.events.erase e)).latches = s.latches := rfl
  generalize s.setEvents (s.beat.events.erase e) = u at *
  have htake : u.takeSnapshot e.part e.ident e.beat false = u.putSnap { slot := u.snapSlot e.part, part := e.part, id := e.ident, beat := e.beat, counts := (u.snapSections e.part).1, sections := (u.snapSections e.part).2, late := false, complete := false } := by
    unfold State.takeSnapshot
    rw [if_neg (by omega)]
    rfl
  obtain ⟨h1, h2, h3, h4⟩ := u.putSnap_puts { slot := u.snapSlot e.part, part := e.part, id := e.ident, beat := e.beat, counts := (u.snapSections e.part).1, sections := (u.snapSections e.part).2, late := false, complete := false }
  rw [← htake] at h1 h2 h3 h4
  exact ⟨_, _, hrun, h1, rfl, rfl, rfl, rfl, rfl, rfl, rfl, h2.trans hevents, h3.trans hthreads, h4.trans hlatches⟩

theorem clampPeriod_lt (v : Nat) : clampPeriod v < 2048 := by
  unfold clampPeriod
  omega

theorem period_due (h : s.nextDue 5 e) : ∃ t, exec .period s = .next t ∧ t.rdF rBeatCtl 10 0 = max 32 (min 2000 (e.ident.toNat % 65536))
    ∧ t = { s.setEvents (s.beat.events.erase e) with regs := t.regs, beat := { (s.setEvents (s.beat.events.erase e)).beat with
        periods := (s.now, s.rdF rBeatCtl 10 0) :: s.beat.periods } } := by
  have hrun : exec .period s = .next ((s.setEvents (s.beat.events.erase e)).setPeriod (clampPeriod (e.ident.toNat % 65536))) :=
    congrArg Host.Outcome.next (State.due_nextDue h _)
  have hperiod := s.rdF_setEvents (s.beat.events.erase e) (o := rBeatCtl) (by unfold rBeatCtl rBeatStat beatReg; omega)
    (by unfold rBeatCtl rPwrStat beatReg pwrReg; omega) 10 0
  have hnow : (s.setEvents (s.beat.events.erase e)).now = s.now := rfl
  have hperiods : (s.setEvents (s.beat.events.erase e)).beat.periods = s.beat.periods := rfl
  generalize s.setEvents (s.beat.events.erase e) = u at *
  obtain ⟨h1, h2, h3⟩ := u.setPeriod_sets (clampPeriod (e.ident.toNat % 65536))
  refine ⟨_, hrun, h2.trans (Nat.mod_eq_of_lt (clampPeriod_lt _)), ?_⟩
  rw [← hperiod, ← hnow, ← hperiods, ← h1]
  exact h3

theorem find?_map_kept {α : Type} {p : α → Bool} {f : α → α} (h : ∀ x, p (f x) = p x) (l : List α) : (l.map f).find? p = (l.find? p).map f := by
  have hp : p ∘ f = p := funext h
  rw [List.find?_map, hp]

theorem State.collOp_updOp {o : CollOp} {g n : Nat} (hat : s.collOp g n = some o) (f : CollOp → CollOp)
    (hf : ∀ x, (f x).group = x.group ∧ (f x).opseq = x.opseq) : (s.updOp o f).collOp g n = some (f o) := by
  have hmem := List.find?_some hat
  have hgn : o.group = g ∧ o.opseq = n := by simpa using hmem
  have hkeep : ∀ x : CollOp, (fun o : CollOp => decide (o.group = g) && decide (o.opseq = n)) (if x.group = o.group && x.opseq = o.opseq then f x else x)
      = (fun o : CollOp => decide (o.group = g) && decide (o.opseq = n)) x := fun x => by
    dsimp only
    split
    · rw [(hf x).1, (hf x).2]
    · rfl
  have hmap := find?_map_kept (p := fun o : CollOp => decide (o.group = g) && decide (o.opseq = n))
    (f := fun x : CollOp => if x.group = o.group && x.opseq = o.opseq then f x else x) hkeep s.coll.ops
  have hfind : s.coll.ops.find? (fun o : CollOp => decide (o.group = g) && decide (o.opseq = n)) = some o := hat
  rw [hfind] at hmap
  refine hmap.trans (congrArg some (if_pos ?_))
  simp

theorem collDeadline_due {o : CollOp} (h : s.nextDue 9 e) (hat : s.collOp e.group e.ident.toNat = some o) (href : o.ref = none) :
    ∃ t o', exec .collDeadline s = .next t ∧ t.collOp e.group e.ident.toNat = some o' ∧ o' = { o with ref := some e.beat } := by
  have hrun : exec .collDeadline s = .next ((s.setEvents (s.beat.events.erase e)).setDeadline e.group e.ident e.beat) :=
    congrArg Host.Outcome.next (State.due_nextDue h _)
  have hat' : (s.setEvents (s.beat.events.erase e)).collOp e.group e.ident.toNat = some o := hat
  generalize s.setEvents (s.beat.events.erase e) = u at *
  have hset : u.setDeadline e.group e.ident e.beat = u.updOp o (fun o => { o with ref := some e.beat }) := by
    unfold State.setDeadline
    rw [hat']
    exact if_pos (by rw [href]; rfl)
  exact ⟨_, _, hrun, by rw [hset]; exact State.collOp_updOp hat' _ fun _ => ⟨rfl, rfl⟩, rfl⟩

theorem counterWindow_due (h : s.nextDue 6 e) : exec .counterWindow s =
    .next ((s.setEvents (s.beat.events.erase e)).openWindow (e.ident.toNat % 16) e.part e.beat) :=
  congrArg Host.Outcome.next (State.due_nextDue h _)

theorem State.openWindow_opens {k p : Nat} {n : W64} (hclosed : (s.win k).opened = none) (hlen : (s.win k).len ≠ 0) :
    (s.openWindow k p n).win k = { s.win k with opened := some n, openLen := (s.win k).len, openDest := (s.win k).dest, part := p, base := s.winSet p, overrun := false } := by
  have hrun : s.openWindow k p n = s.setWin k { s.win k with opened := some n, openLen := (s.win k).len, openDest := (s.win k).dest, part := p, base := s.winSet p, overrun := false } := by
    unfold State.openWindow
    dsimp only
    rw [hclosed, if_neg (by decide), if_neg hlen]
  rw [hrun]
  exact tget_tput_self ..

theorem State.openWindow_overruns {k p : Nat} {n : W64} (hopen : (s.win k).opened ≠ none) :
    (s.openWindow k p n).win k = { s.win k with overrun := true } := by
  have hrun : s.openWindow k p n = s.setWin k { s.win k with overrun := true } := if_pos (Option.isSome_iff_ne_none.mpr hopen)
  rw [hrun]
  exact tget_tput_self ..

end Simple

/-! ### Profiles -/

section Profile
variable {s : State} {e : Ev}

theorem profClk_lt (p : Nat) : profClk p < 65536 := by
  rcases p with _ | _ | _ | _ | p
  · decide
  · decide
  · decide
  · decide
  · exact (by decide : 950 < 65536)

theorem State.setClk_clk (s : State) (f : Nat) : (s.setClk f).clk = min f (profClk s.profile) ∧ (s.setClk f).profile = s.profile := by
  have hpc := profClk_lt s.profile
  have hclk : ((s.wrF rPwrStat 15 0 (min f (profClk s.profile))).wrB rPwrStat 25 (f < profClk s.profile)).clk = min f (profClk s.profile) := by
    rw [State.clk, State.rdF_wrB_apart _ _ (by omega) (by omega), State.rdF_wrF_same _ _ (by omega) (by omega)]
    exact Nat.mod_eq_of_lt (by omega)
  have hprof : ((s.wrF rPwrStat 15 0 (min f (profClk s.profile))).wrB rPwrStat 25 (f < profClk s.profile)).profile = s.profile := by
    rw [State.profile, State.rdF_wrB_apart _ _ (by omega) (by omega), State.rdF_wrF_apart _ _ (by omega) (by omega) (by omega), State.profile]
  unfold State.setClk
  dsimp only
  generalize (s.wrF rPwrStat 15 0 (min f (profClk s.profile))).wrB rPwrStat 25 (f < profClk s.profile) = u at hclk hprof ⊢
  split
  · exact ⟨hclk, hprof⟩
  · exact ⟨hclk, hprof⟩

/-- The cap of the profile before, kept while a lower one comes into force. -/
def State.rememberCap (s : State) (p : Nat) : State :=
  if s.profile < p then { s with pwr := { s.pwr with oldCap := some (s.profile, s.now + BitVec.ofNat 64 (s.nsBeats 10000000)) } } else s

theorem State.rememberCap_regs (s : State) (p : Nat) : (s.rememberCap p).regs = s.regs := by
  unfold State.rememberCap
  split
  · rfl
  · rfl

theorem State.applyProfile_eq (s : State) (code : Nat) : s.applyProfile code =
    (((s.rememberCap (code % 4)).wrF rPwrStat 31 30 (code % 4)).setClk (if s.rdB rPwrStat 25 then s.clk else profClk (code % 4))).traceModule 0x11 uPower 0
      (s.profile + 4 * (code % 4)) := rfl

theorem State.applyProfile_applies (s : State) (code : Nat) : (s.applyProfile code).profile = code % 4
    ∧ (s.applyProfile code).clk = min (if s.rdB rPwrStat 25 then s.clk else profClk (code % 4)) (profClk (code % 4)) := by
  rw [State.applyProfile_eq]
  generalize hf : (if s.rdB rPwrStat 25 then s.clk else profClk (code % 4)) = f
  generalize s.rememberCap (code % 4) = v
  have hp : (v.wrF rPwrStat 31 30 (code % 4)).profile = code % 4 := by
    rw [State.profile, State.rdF_wrF_same _ _ (by omega) (by omega)]
    exact Nat.mod_mod ..
  generalize v.wrF rPwrStat 31 30 (code % 4) = w at hp
  obtain ⟨h1, h2⟩ := w.setClk_clk f
  rw [hp] at h1 h2
  generalize w.setClk f = x at h1 h2
  have hregs := (x.traceModule_handled 0x11 uPower 0 (s.profile + 4 * (code % 4))).regs rPwrStat rPwrStat_not_handled
  exact ⟨by rw [State.profile, State.rdF, hregs, ← State.rdF]; exact h2, by rw [State.clk, State.rdF, hregs, ← State.rdF]; exact h1⟩

theorem profile_due (h : s.nextDue 4 e) : ∃ t, exec .profile s = .next t ∧ t.profile = e.ident.toNat % 4
    ∧ (s.rdB rPwrStat 25 = false → t.clk = profClk (e.ident.toNat % 4))
    ∧ (s.rdB rPwrStat 25 = true → t.clk = min s.clk (profClk (e.ident.toNat % 4))) := by
  have hrun : exec .profile s = .next ((s.setEvents (s.beat.events.erase e)).applyProfile (e.ident.toNat % 256)) :=
    congrArg Host.Outcome.next (State.due_nextDue h _)
  have hgov : (s.setEvents (s.beat.events.erase e)).rdB rPwrStat 25 = s.rdB rPwrStat 25 :=
    s.bit_setEvents _ (fun e => absurd e (by unfold rPwrStat rBeatStat pwrReg beatReg; omega)) (fun _ => by omega)
  have hclk : (s.setEvents (s.beat.events.erase e)).clk = s.clk := s.power_setEvents _ (.inl (by omega))
  generalize s.setEvents (s.beat.events.erase e) = u at *
  obtain ⟨h1, h2⟩ := u.applyProfile_applies (e.ident.toNat % 256)
  have hmod : e.ident.toNat % 256 % 4 = e.ident.toNat % 4 := by omega
  rw [hmod] at h1 h2
  refine ⟨_, hrun, h1, fun hoff => ?_, fun hon => ?_⟩
  · rw [h2, hgov, hoff, if_neg (by decide), Nat.min_self]
  · rw [h2, hgov, hon, if_pos rfl, hclk]

end Profile

/-! ### Test slices and planned swaps -/

section Tests
variable {s : State} {e : Ev}

theorem State.addEvent_regs (s : State) (x : Ev) {o : Nat} (h1 : o ≠ rBeatStat) (h2 : o ≠ rPwrStat) : (s.addEvent x).1.rd o = s.rd o := by
  unfold State.addEvent
  split
  · rfl
  · exact (s.setEvents_fields _).2 o h1 h2

theorem State.addEvent_threads (s : State) (x : Ev) : (s.addEvent x).1.threads = s.threads := by
  unfold State.addEvent
  split
  · rfl
  · rfl

/-- A slice of the test of a free core, counted. -/
def State.countSlice (s : State) (w : Nat) : State :=
  (((s.setTest w (s.testCore w) 3).wrB (rCoreStat (s.testCore w)) 3 true)).incF (rBstWing w) 20 14 1

theorem State.runSlice_eq {w : Nat} (h3 : s.testState w = 3) : s.runSlice w =
    if s.rdF (rBstWing w) 20 14 + 1 < (tget (fun _ => {}) s.test.running w).slices then
      (s.countSlice w).nextSlice w (s.rdF (rBstWing w) 20 14 + 1) (s.now + BitVec.ofNat 64 (s.nsBeats 250000000)) else s.countSlice w := by
  unfold State.runSlice
  dsimp only
  rw [if_neg (by simp [h3]), if_pos (by simp [h3])]
  rfl

theorem testRegs_apart {w : Nat} (hw : w < 2) {i : Nat} (hi : i < 256) : rCoreStat i ≠ rBstWing w ∧ rCoreStat i ≠ rBeatStat ∧ rCoreStat i ≠ rPwrStat
    ∧ rBstWing w ≠ rBeatStat ∧ rBstWing w ≠ rPwrStat := by
  unfold rCoreStat rBstWing rBeatStat rPwrStat coreReg bstReg beatReg pwrReg
  omega

theorem State.countSlice_counts {w : Nat} (hw : w < 2) : (s.countSlice w).rdF (rBstWing w) 20 14 = min 127 (s.rdF (rBstWing w) 20 14 + 1)
    ∧ (s.countSlice w).rdB (rCoreStat (s.testCore w)) 3 = true := by
  have hi : s.testCore w < 256 := s.rdF_lt (rBstWing w) 31 24
  obtain ⟨h1, -⟩ := testRegs_apart hw hi
  unfold State.countSlice State.setTest
  generalize s.testCore w = i at hi h1
  refine ⟨?_, ?_⟩
  · rw [State.rdF_incF (by omega) (by omega), State.rdF_wrB_ne _ _ h1.symm, State.rdF_wrF_apart _ _ (by omega) (by omega) (by omega),
      State.rdF_wrF_apart _ _ (by omega) (by omega) (by omega)]
    rfl
  · rw [State.incF, State.wrF, State.rdB_wr_ne _ _ h1, State.rdB_wrB_same _ _ (by omega)]

theorem State.wrF_threads (s : State) (o hi lo v : Nat) : (s.wrF o hi lo v).threads = s.threads := rfl
theorem State.wrB_threads (s : State) (o i : Nat) (b : Bool) : (s.wrB o i b).threads = s.threads := rfl
theorem State.incF_threads (s : State) (o hi lo n : Nat) : (s.incF o hi lo n).threads = s.threads := rfl

theorem State.countSlice_threads {w : Nat} : (s.countSlice w).threads = s.threads :=
  (State.incF_threads ..).trans ((State.wrB_threads ..).trans ((State.wrF_threads ..).trans (State.wrF_threads ..)))

theorem State.rdF_addEvent (s : State) (x : Ev) {o : Nat} (h1 : o ≠ rBeatStat) (h2 : o ≠ rPwrStat) (hi lo : Nat) :
    (s.addEvent x).1.rdF o hi lo = s.rdF o hi lo := by rw [State.rdF, s.addEvent_regs x h1 h2, State.rdF]

theorem State.rdB_addEvent (s : State) (x : Ev) {o : Nat} (h1 : o ≠ rBeatStat) (h2 : o ≠ rPwrStat) (i : Nat) :
    (s.addEvent x).1.rdB o i = s.rdB o i := by rw [State.rdB, s.addEvent_regs x h1 h2, State.rdB]

theorem State.addEvent_slice {w i : Nat} (hw : w < 2) (hi : i < 256) (u : State) (x : Ev) :
    (u.addEvent x).1.rdF (rBstWing w) 20 14 = u.rdF (rBstWing w) 20 14 ∧ (u.addEvent x).1.rdB (rCoreStat i) 3 = u.rdB (rCoreStat i) 3
      ∧ (u.addEvent x).1.threads = u.threads := by
  obtain ⟨-, h2, h3, h4, h5⟩ := testRegs_apart hw hi
  exact ⟨u.rdF_addEvent x h4 h5 20 14, u.rdB_addEvent x h2 h3 3, u.addEvent_threads x⟩

theorem State.runSlice_runs {w : Nat} (hw : w < 2) (h3 : s.testState w = 3) :
    (s.runSlice w).rdF (rBstWing w) 20 14 = min 127 (s.rdF (rBstWing w) 20 14 + 1) ∧ (s.runSlice w).rdB (rCoreStat (s.testCore w)) 3 = true
      ∧ (s.runSlice w).threads = s.threads := by
  have hi : s.testCore w < 256 := s.rdF_lt (rBstWing w) 31 24
  obtain ⟨hc1, hc2⟩ := State.countSlice_counts (s := s) hw
  have hc3 := State.countSlice_threads (s := s) (w := w)
  rw [State.runSlice_eq h3]
  generalize s.countSlice w = u at hc1 hc2 hc3
  unfold State.nextSlice
  generalize ({ beat := s.now + BitVec.ofNat 64 (s.nsBeats 250000000), kind := 7, part := 0xFF, ident := BitVec.ofNat 32 (s.rdF (rBstWing w) 20 14 + 1), group := localGroup w, src := u.maddr } : Ev) = x
  obtain ⟨ha1, ha2, ha3⟩ := State.addEvent_slice hw hi u x
  split
  · exact ⟨ha1.trans hc1, ha2.trans hc2, ha3.trans hc3⟩
  · exact ⟨hc1, hc2, hc3⟩

theorem testSlice_due {w : Nat} (hw : w < 2) (h : s.nextDue 7 e) (hg : e.group = localGroup w) (h3 : s.testState w = 3) : ∃ t, exec .testSlice s = .next t
    ∧ t.rdF (rBstWing w) 20 14 = min 127 (s.rdF (rBstWing w) 20 14 + 1) ∧ t.rdB (rCoreStat (s.testCore w)) 3 = true ∧ t.threads = s.threads := by
  have hrun : exec .testSlice s = .next ((s.setEvents (s.beat.events.erase e)).runSlice w) := by
    refine congrArg Host.Outcome.next ((State.due_nextDue h _).trans ?_)
    obtain rfl | rfl : w = 0 ∨ w = 1 := by omega
    · exact if_pos hg
    · rw [if_neg (by rw [hg]; decide), if_pos hg]
  have happ := (testRegs_apart hw (i := 0) (by omega)).2.2.2
  have hfield := s.rdF_setEvents (s.beat.events.erase e) happ.1 happ.2
  have hthreads : (s.setEvents (s.beat.events.erase e)).threads = s.threads := rfl
  generalize s.setEvents (s.beat.events.erase e) = u at *
  have hcore : u.testCore w = s.testCore w := hfield ..
  obtain ⟨h1, h2, h4⟩ := State.runSlice_runs (s := u) hw ((hfield ..).trans h3)
  rw [hfield] at h1
  rw [hcore] at h2
  exact ⟨_, hrun, h1, h2, h4.trans hthreads⟩

theorem spareSwap_other (h : s.nextDue 8 e) (hsrc : e.src ≠ s.maddr) : exec .spareSwap s = .next (s.setEvents (s.beat.events.erase e)) := by
  refine congrArg Host.Outcome.next ((State.due_nextDue h _).trans ?_)
  have hsrc' : e.src ≠ (s.setEvents (s.beat.events.erase e)).maddr := by
    have hm : (s.setEvents (s.beat.events.erase e)).maddr = s.maddr := by
      rw [State.maddr, s.rdF_setEvents _ (by unfold rFabId rBeatStat fabReg beatReg; omega) (by unfold rFabId rPwrStat fabReg pwrReg; omega), State.maddr]
    rwa [hm]
  generalize s.setEvents (s.beat.events.erase e) = u at *
  dsimp only
  split
  · exact if_neg hsrc'
  · rfl

end Tests

/-! ### STOP -/

section Stop

/-- What a STOP may do: it holds threads that were READY or PARKED, and their partition remembers them. -/
structure Stopping (s t : State) : Prop where
  rest : t = { s with threads := t.threads, parts := t.parts }
  thread : ∀ i k, t.thr i k = s.thr i k ∨ ((s.thr i k).st = .ready ∨ (s.thr i k).st = .parked)
    ∧ t.thr i k = { s.thr i k with st := .held, under := (s.thr i k).st }
  stopped : ∀ p, (t.part p).stopped = (s.part p).stopped

/-- A thread that a STOP of the partition is done with. -/
def State.stilled (s : State) (p i k : Nat) : Prop := (s.thr i k).part = p → (s.thr i k).st ≠ .ready ∧ (s.thr i k).st ≠ .parked

namespace Stopping
variable {s t u : State}

theorem refl (s : State) : Stopping s s := ⟨rfl, fun _ _ => .inl rfl, fun _ => rfl⟩

theorem trans (h : Stopping s t) (h' : Stopping t u) : Stopping s u where
  rest := by rw [h'.rest, h.rest]
  thread i k := by
    rcases h'.thread i k with e' | ⟨hst', e'⟩
    · rw [e']
      exact h.thread i k
    · rcases h.thread i k with e | ⟨-, e⟩
      · rw [e] at hst' e'
        exact .inr ⟨hst', e'⟩
      · rw [e] at hst'
        rcases hst' with hst' | hst' <;> cases hst'
  stopped p := (h'.stopped p).trans (h.stopped p)

theorem foldl {α : Type} {f : State → α → State} (h : ∀ s a, Stopping s (f s a)) (l : List α) (s : State) : Stopping s (l.foldl f s) := by
  induction l generalizing s with
  | nil => exact refl s
  | cons a l ih => exact (h s a).trans (ih _)

theorem stilled (h : Stopping s t) {p i k : Nat} (hq : s.stilled p i k) : t.stilled p i k := by
  unfold State.stilled
  rcases h.thread i k with e | ⟨-, e⟩
  · rw [e]
    exact hq
  · rw [e]
    exact fun _ => ⟨nofun, nofun⟩

theorem phys (h : Stopping s t) (lc : Nat) : t.phys lc = s.phys lc := by rw [h.rest]; rfl

end Stopping

variable {s : State} {p lc i k : Nat}

/-- The STOP of one thread. -/
def State.stopThread (p lc i : Nat) (s : State) (k : Nat) : State :=
  if ((s.thr i k).st = .ready || (s.thr i k).st = .parked) && (s.thr i k).part = p then
    (s.setThr i k { s.thr i k with st := .held, under := (s.thr i k).st }).setPart p { s.part p with held := (s.part p).held ++ [32 * lc + k] }
  else s

/-- The STOP of the threads of one logical core. -/
def State.stopCore (p : Nat) (s : State) (lc : Nat) : State :=
  match s.phys lc with
  | none => s
  | some i => (List.range 32).foldl (State.stopThread p lc i) s

theorem State.stopPart_eq (s : State) (p : Nat) :
    s.stopPart p = (s.coresOf p).foldl (State.stopCore p) (s.setPart p { s.part p with stopped := true }) := rfl

theorem State.thr_setThr (s : State) (i k : Nat) (x : Thread) (i' k' : Nat) :
    (s.setThr i k x).thr i' k' = if 32 * i' + k' = 32 * i + k then x else s.thr i' k' := tget_tput ..

theorem State.part_setPart_other {q : Nat} (x : Part) (h : q ≠ p) : (s.setPart p x).part q = s.part q := tget_tput_ne _ _ _ _ _ h

theorem State.stopThread_stopping (s : State) : Stopping s (s.stopThread p lc i k) := by
  unfold State.stopThread
  split
  · next hc =>
    have hst : (s.thr i k).st = .ready ∨ (s.thr i k).st = .parked := by
      simp only [Bool.and_eq_true, Bool.or_eq_true, decide_eq_true_eq] at hc
      exact hc.1
    refine ⟨rfl, fun i' k' => ?_, fun q => ?_⟩
    · have hthr := s.thr_setThr i k { s.thr i k with st := .held, under := (s.thr i k).st } i' k'
      by_cases e : 32 * i' + k' = 32 * i + k
      · have hsame : s.thr i' k' = s.thr i k := congrArg (tget (fun _ => ({} : Thread)) s.threads) e
        rw [if_pos e] at hthr
        rw [hsame]
        exact .inr ⟨hst, hthr⟩
      · rw [if_neg e] at hthr
        exact .inl hthr
    · by_cases e : q = p
      · rw [e, State.part_setPart_self]
      · rw [State.part_setPart_other _ e]
        rfl
  · exact .refl s

theorem State.stopThread_stilled (s : State) : (s.stopThread p lc i k).stilled p i k := by
  unfold State.stopThread State.stilled
  split
  · have hthr := State.thr_setThr_self s i k { s.thr i k with st := .held, under := (s.thr i k).st }
    have heq : ((s.setThr i k { s.thr i k with st := .held, under := (s.thr i k).st }).setPart p
        { s.part p with held := (s.part p).held ++ [32 * lc + k] }).thr i k = _ := hthr
    rw [heq]
    exact fun _ => ⟨nofun, nofun⟩
  · next hc => simpa only [Bool.and_eq_true, Bool.or_eq_true, decide_eq_true_eq, not_and', not_or] using hc

theorem State.stopCore_stopping (s : State) (lc : Nat) : Stopping s (s.stopCore p lc) := by
  unfold State.stopCore
  split
  · exact .refl s
  · exact .foldl (fun s _ => s.stopThread_stopping) _ s

theorem State.stopCore_eq (hi : s.phys lc = some i) : s.stopCore p lc = (List.range 32).foldl (State.stopThread p lc i) s := by
  unfold State.stopCore
  rw [hi]

theorem State.stopCore_stilled (s : State) (hi : s.phys lc = some i) (hk : k < 32) : (s.stopCore p lc).stilled p i k := by
  rw [State.stopCore_eq hi]
  have hin : k ∈ List.range 32 := List.mem_range.mpr hk
  generalize List.range 32 = l at hin
  exact foldl_reaches (P := fun _ => True) (Q := fun t => t.stilled p i k) (f := State.stopThread p lc i)
    (fun t q _ _ => ⟨fun _ => trivial, t.stopThread_stopping.stilled⟩) (fun t _ => t.stopThread_stilled) (fun t _ => t.stopThread_stilled) hin s trivial

theorem State.stopPart_stopping (s : State) (p : Nat) : Stopping (s.setPart p { s.part p with stopped := true }) (s.stopPart p) :=
  .foldl (fun s lc => s.stopCore_stopping lc) _ _

theorem State.stopPart_stilled (s : State) (hlc : lc < 128) (hc : (s.part p).cores.getLsbD lc = true) (hi : s.phys lc = some i) (hk : k < 32) :
    (s.stopPart p).stilled p i k := by
  have hin : lc ∈ s.coresOf p := List.mem_filter.mpr ⟨List.mem_range.mpr hlc, hc⟩
  rw [State.stopPart_eq]
  exact foldl_reaches (P := fun t => t.phys lc = some i) (Q := fun t => t.stilled p i k ∧ t.phys lc = some i)
    (fun t q _ _ => ⟨fun h => ((t.stopCore_stopping q).phys lc).trans h,
      fun h => ⟨(t.stopCore_stopping q).stilled h.1, ((t.stopCore_stopping q).phys lc).trans h.2⟩⟩)
    (fun t h => ⟨t.stopCore_stilled h hk, ((t.stopCore_stopping lc).phys lc).trans h⟩)
    (fun t h => ⟨t.stopCore_stilled h.2 hk, ((t.stopCore_stopping lc).phys lc).trans h.2⟩) hin
    (s.setPart p { s.part p with stopped := true }) hi |>.1

theorem State.stopPart_stopped (s : State) (p q : Nat) : ((s.stopPart p).part q).stopped = if q = p then true else (s.part q).stopped := by
  rw [(s.stopPart_stopping p).stopped]
  split
  · next e => rw [e, State.part_setPart_self]
  · next e => rw [State.part_setPart_other _ e]

variable {e : Ev}

theorem partsOf_part (h : p < 8) : partsOf p = [p] := by
  unfold partsOf
  rw [if_neg (by omega), if_pos h]

theorem stop_due (h : s.nextDue 2 e) (hp : e.part < 8) : ∃ t, exec .stop s = .next t ∧ (t.part e.part).stopped = true
    ∧ (∀ lc i th, lc < 128 → (s.part e.part).cores.getLsbD lc = true → s.phys lc = some i → th < 32 → (s.thr i th).part = e.part →
        (t.thr i th).st ≠ .ready ∧ (t.thr i th).st ≠ .parked ∧ ((s.thr i th).st = .ready → (t.thr i th).under = .ready))
    ∧ t.mem = s.mem ∧ t.latches = s.latches ∧ t.cmds = s.cmds := by
  obtain ⟨u, hu⟩ : ∃ u, u = s.setEvents (s.beat.events.erase e) := ⟨_, rfl⟩
  have hrun : exec .stop s = .next (u.stopPart e.part) := by
    refine congrArg Host.Outcome.next ((State.due_nextDue h _).trans ?_)
    rw [partsOf_part hp, ← hu]
    rfl
  have hthr : ∀ i k, (u.setPart e.part { u.part e.part with stopped := true }).thr i k = s.thr i k := fun _ _ => by rw [hu]; rfl
  have hcores : (u.part e.part).cores = (s.part e.part).cores := by rw [hu]; rfl
  have hphys : ∀ lc, u.phys lc = s.phys lc := fun _ => by rw [hu]; rfl
  have hsame : u.mem = s.mem ∧ u.latches = s.latches ∧ u.cmds = s.cmds := by rw [hu]; exact ⟨rfl, rfl, rfl⟩
  have hs := u.stopPart_stopping e.part
  refine ⟨_, hrun, by rw [u.stopPart_stopped, if_pos rfl], fun lc i th hlc hc hi hth hpart => ?_, by rw [hs.rest]; exact hsame⟩
  have hquiet := u.stopPart_stilled hlc (hcores ▸ hc) ((hphys lc).trans hi) hth (p := e.part)
  have hthread := hs.thread i th
  rw [hthr] at hthread
  have hpart' : ((u.stopPart e.part).thr i th).part = e.part := by
    rcases hthread with e' | ⟨-, e'⟩
    · rw [e', hpart]
    · rw [e']
      exact hpart
  obtain ⟨hr, hpk⟩ := hquiet hpart'
  refine ⟨hr, hpk, fun hready => ?_⟩
  rcases hthread with e' | ⟨-, e'⟩
  · exact absurd ((congrArg Thread.st e').trans hready) hr
  · rw [e']
    exact hready

theorem stop_due_all (h : s.nextDue 2 e) (hp : e.part = 0xFF) : ∃ t, exec .stop s = .next t ∧ ∀ p < 8, (t.part p).stopped = true := by
  have hrun : exec .stop s = .next ((List.range 8).foldl State.stopPart (s.setEvents (s.beat.events.erase e))) := by
    refine congrArg Host.Outcome.next ((State.due_nextDue h _).trans ?_)
    rw [hp]
    rfl
  refine ⟨_, hrun, fun p hp => ?_⟩
  refine foldl_reaches (P := fun _ => True) (Q := fun t => (t.part p).stopped = true) (fun t q _ hne => ⟨id, fun h => ?_⟩) (fun t _ => ?_)
    (fun t _ => ?_) (List.mem_range.mpr hp) _ trivial
  · rw [t.stopPart_stopped, if_neg hne.symm, h]
  · rw [t.stopPart_stopped, if_pos rfl]
  · rw [t.stopPart_stopped, if_pos rfl]

end Stop

/-! ### RESUME -/

section Resume

/-- What a RESUME may do: held threads go back to the state under the hold, and only a stopped partition changes. -/
structure Resuming (s t : State) : Prop where
  rest : t = { s with threads := t.threads, parts := t.parts, regs := t.regs }
  holdAll : ∀ i, t.rdB (rCoreCtl i) 29 = s.rdB (rCoreCtl i) 29
  thread : ∀ i k, t.thr i k = s.thr i k ∨ (s.thr i k).st = .held ∧ t.thr i k = { s.thr i k with st := (s.thr i k).under }
  part : ∀ q, (s.part q).stopped = false → t.part q = s.part q

namespace Resuming
variable {s t u : State}

theorem refl (s : State) : Resuming s s := ⟨rfl, fun _ => rfl, fun _ _ => .inl rfl, fun _ _ => rfl⟩

theorem trans (h : Resuming s t) (h' : Resuming t u) : Resuming s u where
  rest := by rw [h'.rest, h.rest]
  holdAll i := (h'.holdAll i).trans (h.holdAll i)
  thread i k := by
    rcases h'.thread i k with e' | ⟨hst', e'⟩
    · rw [e']
      exact h.thread i k
    · rcases h.thread i k with e | ⟨hst, e⟩
      · rw [e] at hst' e'
        exact .inr ⟨hst', e'⟩
      · rw [e] at e'
        exact .inr ⟨hst, e'⟩
  part q hq := by
    have hkeep := h.part q hq
    exact (h'.part q (hkeep.symm ▸ hq)).trans hkeep

theorem phys (h : Resuming s t) (lc : Nat) : t.phys lc = s.phys lc := by rw [h.rest]; rfl

/-- A thread that went back stays so. -/
theorem given (h : Resuming s t) {i k : Nat} {st : TState} (hu : (s.thr i k).under = st) (hs : (s.thr i k).st = st) : (t.thr i k).st = st := by
  rcases h.thread i k with e | ⟨-, e⟩
  · rw [e, hs]
  · rw [e]
    exact hu

theorem under (h : Resuming s t) (i k : Nat) : (t.thr i k).under = (s.thr i k).under := by
  rcases h.thread i k with e | ⟨-, e⟩
  · rw [e]
  · rw [e]

end Resuming

variable {s : State} {i k : Nat}

/-- A thread gets its state back. -/
theorem State.giveBack_resuming (s : State) (hst : (s.thr i k).st = .held) : Resuming s (s.setThr i k { s.thr i k with st := (s.thr i k).under }) where
  rest := rfl
  holdAll _ := rfl
  thread i' k' := by
    have hthr := s.thr_setThr i k { s.thr i k with st := (s.thr i k).under } i' k'
    by_cases e : 32 * i' + k' = 32 * i + k
    · have hsame : s.thr i' k' = s.thr i k := congrArg (tget (fun _ => ({} : Thread)) s.threads) e
      rw [if_pos e] at hthr
      rw [hsame]
      exact .inr ⟨hst, hthr⟩
    · rw [if_neg e] at hthr
      exact .inl hthr
  part _ _ := rfl

theorem State.ungate_resuming (s : State) (c : Nat) : Resuming s (s.ungate c) where
  rest := rfl
  holdAll i := State.rdB_wr_ne _ _ (by unfold rCoreCtl rCoreStat coreReg; omega) ..
  thread _ _ := .inl rfl
  part _ _ := rfl

theorem State.letGo_resuming (s : State) : Resuming s (s.letGo i k) := by
  unfold State.letGo
  dsimp only
  split
  · exact .refl s
  next hc =>
  have hst : (s.thr i k).st = .held := by
    by_contra h
    exact hc (by simp [h])
  split
  · next hstop =>
    split
    · exact .refl s
    · refine ⟨rfl, fun _ => rfl, fun _ _ => .inl rfl, fun q hq => State.part_setPart_other _ fun e => ?_⟩
      rw [e, hstop] at hq
      cases hq
  · split
    · exact (s.giveBack_resuming hst).trans (State.ungate_resuming ..)
    · exact s.giveBack_resuming hst

theorem State.letGo_gives (hst : (s.thr i k).st = .held) (hctl : s.rdB (rCoreCtl i) 29 = false) (hho : ∀ x ∈ s.handovers, x.old ≠ i)
    (hrun : (s.part (s.thr i k).part).stopped = false) : ((s.letGo i k).thr i k).st = (s.thr i k).under := by
  have hany : s.handovers.any (fun h => h.old = i && h.held.contains k) = false := by
    rw [List.any_eq_false]
    exact fun x hx => by simp [hho x hx]
  have hself := State.thr_setThr_self s i k { s.thr i k with st := (s.thr i k).under }
  unfold State.letGo
  dsimp only
  rw [hctl, hany, hrun, if_neg (by simp [hst]), if_neg (by decide)]
  split
  · have hungate : ((s.setThr i k { s.thr i k with st := (s.thr i k).under }).ungate i).thr i k = _ := hself
    rw [hungate]
  · rw [hself]

/-- One step of a RESUME: thread `h % 32` of logical core `h / 32`. -/
def State.resumeThread (s : State) (h : Nat) : State :=
  match s.phys (h / 32) with
  | none => s
  | some i => s.letGo i (h % 32)

theorem State.resumePart_eq (s : State) (p : Nat) :
    s.resumePart p = (s.part p).held.foldl State.resumeThread (s.setPart p { s.part p with stopped := false, held := [] }) := rfl

theorem State.resumeThread_resuming (s : State) (h : Nat) : Resuming s (s.resumeThread h) := by
  unfold State.resumeThread
  split
  · exact .refl s
  · exact s.letGo_resuming

theorem Resuming.foldl (l : List Nat) (s : State) : Resuming s (l.foldl State.resumeThread s) := by
  induction l generalizing s with
  | nil => exact .refl s
  | cons a l ih => exact (s.resumeThread_resuming a).trans (ih _)

theorem State.resume_gives {h : Nat} {l : List Nat} (hin : h ∈ l) (hi : s.phys (h / 32) = some i) (hst : (s.thr i (h % 32)).st = .held)
    (hctl : s.rdB (rCoreCtl i) 29 = false) (hho : ∀ x ∈ s.handovers, x.old ≠ i) (hrun : (s.part (s.thr i (h % 32)).part).stopped = false) :
    ((l.foldl State.resumeThread s).thr i (h % 32)).st = (s.thr i (h % 32)).under := by
  have hkeep : ∀ t q, Resuming s t ∧ (t.thr i (h % 32)).st = (s.thr i (h % 32)).under →
      Resuming s (t.resumeThread q) ∧ ((t.resumeThread q).thr i (h % 32)).st = (s.thr i (h % 32)).under := fun t q ⟨hr, hg⟩ =>
    ⟨hr.trans (t.resumeThread_resuming q), (t.resumeThread_resuming q).given (hr.under ..) hg⟩
  refine (foldl_reaches (P := Resuming s) (Q := fun t => Resuming s t ∧ (t.thr i (h % 32)).st = (s.thr i (h % 32)).under)
    (fun t q _ _ => ⟨fun hr => hr.trans (t.resumeThread_resuming q), hkeep t q⟩) (fun t hr => ?_) (fun t => hkeep t h) hin s (.refl s)).2
  rcases hr.thread i (h % 32) with e | ⟨-, e⟩
  · refine ⟨hr.trans (t.resumeThread_resuming h), ?_⟩
    have hstep : t.resumeThread h = t.letGo i (h % 32) := by
      unfold State.resumeThread
      rw [hr.phys, hi]
    have hho' : t.handovers = s.handovers := by rw [hr.rest]
    rw [hstep, State.letGo_gives (by rw [e, hst]) (by rw [hr.holdAll, hctl]) (by rw [hho']; exact hho) (by rw [e, hr.part _ hrun, hrun]), e]
  · exact hkeep t h ⟨hr, by rw [e]⟩

theorem resume_due {e : Ev} (h : s.nextDue 3 e) (hp : e.part < 8) (hops : s.coll.ops = []) : ∃ t, exec .resume s = .next t ∧ (t.part e.part).stopped = false
    ∧ (t.part e.part).held = [] ∧ (∀ h i, h ∈ (s.part e.part).held → s.phys (h / 32) = some i → (s.thr i (h % 32)).st = .held →
        (s.thr i (h % 32)).part = e.part → s.rdB (rCoreCtl i) 29 = false → (∀ x ∈ s.handovers, x.old ≠ i) →
          (t.thr i (h % 32)).st = (s.thr i (h % 32)).under) ∧ t.mem = s.mem := by
  obtain ⟨u, hu⟩ : ∃ u, u = s.setEvents (s.beat.events.erase e) := ⟨_, rfl⟩
  have hpart : u.part e.part = s.part e.part := by rw [hu]; rfl
  have hctl : ∀ i, u.rdB (rCoreCtl i) 29 = s.rdB (rCoreCtl i) 29 := fun i => by
    rw [hu, s.bit_setEvents _ (fun _ => by omega) (fun e => absurd e (by unfold rCoreCtl rPwrStat coreReg pwrReg; omega))]
  obtain ⟨v, hv⟩ : ∃ v, v = u.setPart e.part { u.part e.part with stopped := false, held := [] } := ⟨_, rfl⟩
  have hvpart : v.part e.part = { u.part e.part with stopped := false, held := [] } := by rw [hv, State.part_setPart_self]
  have hvctl : ∀ i, v.rdB (rCoreCtl i) 29 = s.rdB (rCoreCtl i) 29 := fun i => by rw [← hctl i, hv]; rfl
  have hsame : v.mem = s.mem ∧ v.coll = s.coll ∧ v.handovers = s.handovers ∧ v.spareMap = s.spareMap ∧ v.threads = s.threads := by
    rw [hv, hu]
    exact ⟨rfl, rfl, rfl, rfl, rfl⟩
  obtain ⟨hmem, hcoll, hho, hmap, hthreads⟩ := hsame
  have hr := Resuming.foldl (s.part e.part).held v
  have hcollt : ((s.part e.part).held.foldl State.resumeThread v).coll.ops = [] := by rw [hr.rest]; exact hcoll ▸ hops
  have hrun : exec .resume s = .next ((s.part e.part).held.foldl State.resumeThread v) := by
    refine congrArg Host.Outcome.next ((State.due_nextDue h _).trans ?_)
    rw [partsOf_part hp, ← hu, List.foldl_cons, List.foldl_nil, State.resumePart_eq, ← hv, hpart, State.releaseGated_none hcollt]
  have hown : ((s.part e.part).held.foldl State.resumeThread v).part e.part = v.part e.part := hr.part _ (by rw [hvpart])
  have hthr : ∀ i k, v.thr i k = s.thr i k := fun i k => by rw [State.thr, hthreads, State.thr]
  refine ⟨_, hrun, by rw [hown, hvpart], by rw [hown, hvpart], fun h i hin hi hst hpt hc hx => ?_, by rw [hr.rest]; exact hmem⟩
  have hphys : v.phys (h / 32) = some i := by rw [State.phys, hmap, ← State.phys, hi]
  rw [State.resume_gives hin hphys (by rw [hthr, hst]) ((hvctl i).trans hc) (hho ▸ hx) (by rw [hthr, hpt, hvpart]), hthr]

end Resume

/-! ### The statement -/

section Settle

/-- The carried-out swap of a wavelength. -/
theorem State.doSwap_wave {s : State} {p k : Nat} (hk : k < 8) (hst : s.portState p = 2) (hcar : (s.carried p).contains k = true) (hidle : s.idleWave p ≠ 7) :
    s.doSwap 3 (8 * p + k) = s.moveWave p k := by
  have hdiv : (8 * p + k) / 8 = p := by omega
  have hmod : (8 * p + k) % 8 = k := by omega
  unfold State.doSwap
  dsimp only
  rw [if_pos rfl, hdiv, hmod, if_pos (by rw [hcar]; simp [hst, hidle])]

theorem spareSwap_own {s : State} {e : Ev} {id : W32} {p k : Nat} (h : s.nextDue 8 e)
    (hfind : s.test.planned.find? (fun (x : W32 × Nat × Nat) => x.1 = e.ident) = some (id, 3, 8 * p + k)) (hsrc : e.src = s.maddr) (hp : p < 52)
    (hst : s.portState p = 2) (hcar : (s.carried p).contains k = true) (hidle : s.idleWave p ≠ 7) :
    ∃ t, exec .spareSwap s = .next t ∧ t.idleWave p = 7 ∧ t.rdB (rOptWave p) (24 + k) = true ∧ (t.port p).wcmd = some (1, k, s.idleWave p) := by
  obtain ⟨u, hu⟩ : ∃ u, u = s.setEvents (s.beat.events.erase e) := ⟨_, rfl⟩
  obtain ⟨v, hv⟩ : ∃ v : State, v = { u with test := { u.test with planned := u.test.planned.erase (id, 3, 8 * p + k) } } := ⟨_, rfl⟩
  have hmaddr : u.maddr = s.maddr := by
    rw [hu, State.maddr, s.rdF_setEvents _ (by unfold rFabId rBeatStat fabReg beatReg; omega) (by unfold rFabId rPwrStat fabReg pwrReg; omega), State.maddr]
  have htest : u.test = s.test := by rw [hu]; rfl
  have hrun : exec .spareSwap s = .next (v.doSwap 3 (8 * p + k)) := by
    refine congrArg Host.Outcome.next ((State.due_nextDue h _).trans ?_)
    rw [← hu]
    dsimp only
    rw [htest, hfind]
    dsimp only
    rw [hmaddr, if_pos hsrc, hv, htest]
  have hvregs : v.regs = u.regs := by rw [hv]
  have hwave : rOptWave p ≠ rBeatStat ∧ rOptWave p ≠ rPwrStat := by unfold rOptWave rBeatStat rPwrStat optReg beatReg pwrReg; omega
  have hport : rFabPort p ≠ rBeatStat ∧ rFabPort p ≠ rPwrStat := by unfold rFabPort rBeatStat rPwrStat fabReg beatReg pwrReg; omega
  have hvst : v.portState p = s.portState p := by rw [State.portState, State.rdF_of_regs hvregs, hu, s.rdF_setEvents _ hport.1 hport.2, State.portState]
  have hvidle : v.idleWave p = s.idleWave p := by rw [State.idleWave, State.rdF_of_regs hvregs, hu, s.rdF_setEvents _ hwave.1 hwave.2, State.idleWave]
  have hvcar : v.carried p = s.carried p := by
    unfold State.carried
    rw [hvidle]
    refine List.filter_congr fun k _ => ?_
    rw [State.rdB_of_regs hvregs, hu, s.bit_setEvents _ (fun e => absurd e hwave.1) (fun e => absurd e hwave.2)]
  have hk : k < 5 := State.carried_lt (List.contains_iff_mem.mp hcar)
  rw [← hvidle]
  refine ⟨_, hrun.trans (congrArg Host.Outcome.next (State.doSwap_wave (by omega) (hvst.trans hst) (hvcar ▸ hcar) (hvidle ▸ hidle))), v.moveWave_moves hp hk⟩

theorem due_none {s : State} (h : s.beat.events = []) :
    ∀ i ∈ ([.snapshot, .stop, .resume, .profile, .period, .counterWindow, .testSlice, .spareSwap, .collDeadline] : List Instr), exec i s = .next s := by
  have hdue := State.due_empty h
  intro i hi
  simp only [List.mem_cons, List.not_mem_nil, or_false] at hi
  rcases hi with rfl | rfl | rfl | rfl | rfl | rfl | rfl | rfl | rfl
  all_goals exact congrArg Host.Outcome.next (hdue ..)

/-- Settles O37. -/
theorem eventsDue : Obligations.EventsDue := by
  unfold Obligations.EventsDue
  intro s e u
  refine ⟨snapshot_due, stop_due, stop_due_all, resume_due, profile_due, period_due, fun h => ⟨fun hc hl => ?_, fun ho => ?_⟩,
    fun w hw => testSlice_due hw, fun id p k => spareSwap_own, spareSwap_other, fun o => collDeadline_due, due_none⟩
  · exact ⟨_, counterWindow_due h, State.openWindow_opens (s := u) hc hl⟩
  · exact ⟨_, counterWindow_due h, State.openWindow_overruns (s := u) ho⟩

end Settle

end Sys2Proof.Machine
end

section
/-! PROOFS. Host accesses of device memory through BAR2, and the scrubber on an SRAM word (R321, R324, R326, R330, R338, R518). -/

namespace Sys2Proof.Machine

/-! ### BAR2 -/

section Bar2
variable {s : State} {off : Nat}

theorem State.noErrors_clean (h : s.noErrors) (pa n : Nat) : s.cleanAt pa n := fun _ _ => by
  rw [State.delta, h.1]
  rfl

theorem bar2Read_denied {n : Nat} (h : s.bar2Target off n = none) : ∃ t e, exec (.bar2Read off n) s = .next t ∧ t.resp = []
    ∧ t.host.log = s.host.log ++ [e] ∧ e.code = eHifBar2Denied ∧ t.mem = s.mem := by
  have hrun : s.bar2Read off n = (s.logSession none eHifBar2Denied off).unsupported := by
    unfold State.bar2Read
    rw [h]
  exact ⟨_, _, congrArg Host.Outcome.next hrun, rfl, rfl, rfl, rfl⟩

theorem bar2Write_denied {b : List Byte} (h : s.bar2Target off b.length = none) : ∃ t e, exec (.bar2Write off b) s = .next t ∧ t.resp = []
    ∧ t.host.log = s.host.log ++ [e] ∧ e.code = eHifBar2Denied ∧ t.mem = s.mem := by
  have hrun : s.bar2Write off b = (s.logSession none eHifBar2Denied off).unsupported := by
    unfold State.bar2Write
    rw [h]
  exact ⟨_, _, congrArg Host.Outcome.next hrun, rfl, rfl, rfl, rfl⟩

theorem Counted.answer {t : State} (h : Counted s t) (b : List Byte) : t.answer b = { s with cnt := (t.answer b).cnt, resp := (t.answer b).resp } := by
  unfold Counted at h
  rw [h]
  rfl

theorem bar2Read_reads {n p pa : Nat} (h : s.bar2Target off n = some (p, pa)) (hready : s.memReady pa = true) (hone : oneMemory pa n) (hclean : s.noErrors) :
    ∃ t, exec (.bar2Read off n) s = .next t ∧ t.resp = s.bytes pa n ∧ t = { s with cnt := t.cnt, resp := t.resp } := by
  have hrun : s.bar2Read off n = ((s.countMem { part := some p, wing := 0 } pa n false).count { part := some p, wing := 0 } 10 n).answer (s.bytes pa n) := by
    unfold State.bar2Read
    rw [h]
    dsimp only
    rw [hready, if_neg (by decide), State.readMem_of_clean hone (State.noErrors_clean hclean pa n)]
    rfl
  exact ⟨_, congrArg Host.Outcome.next hrun, rfl, ((State.countMem_counted ..).trans (State.count_counted ..)).answer _⟩

theorem bar2Write_writes {b : List Byte} {p pa : Nat} (h : s.bar2Target off b.length = some (p, pa)) (hready : s.memReady pa = true)
    (hone : oneMemory pa b.length) (hclean : s.noErrors) :
    ∃ t, exec (.bar2Write off b) s = .next t ∧ s.storedAt t pa b ∧ t = { s with mem := t.mem, ecc := t.ecc, cnt := t.cnt } := by
  have hrun : s.bar2Write off b
      = ((s.writeMem pa b).countMem { part := some p, wing := 0 } pa b.length true).count { part := some p, wing := 0 } 10 b.length := by
    unfold State.bar2Write
    rw [h]
    dsimp only
    rw [hready, if_neg (by decide)]
  obtain ⟨hw, hb⟩ := State.writeMem_countMem hclean.2 hone (State.noErrors_clean hclean pa b.length) { part := some p, wing := 0 } true
  have hcount := State.count_counted ((s.writeMem pa b).countMem { part := some p, wing := 0 } pa b.length true) { part := some p, wing := 0 } 10 b.length
  exact ⟨_, congrArg Host.Outcome.next hrun, fun a => congrFun (hcount.byte.trans hb) a, (hw.trans hcount.wrote).only⟩

end Bar2

/-! ### What counting a corrected bit leaves as it is -/

section Bucket

/-- t stores what s stores, and the armed flip mask is the same. -/
structure SameStore (s t : State) : Prop where
  mem : t.mem = s.mem
  ecc : t.ecc = s.ecc
  armed : t.memx.armed = s.memx.armed

namespace SameStore
variable {s t u : State}

theorem refl (s : State) : SameStore s s := ⟨rfl, rfl, rfl⟩

theorem trans (h : SameStore s t) (h' : SameStore t u) : SameStore s u := ⟨h'.mem.trans h.mem, h'.ecc.trans h.ecc, h'.armed.trans h.armed⟩

theorem reported (h : Reported s t) : SameStore s t := by
  obtain ⟨_, _, _, _, _, _, rfl⟩ := h
  exact ⟨rfl, rfl, rfl⟩

theorem wr (s : State) (o : Nat) (v : W32) : SameStore s (s.wr o v) := ⟨rfl, rfl, rfl⟩
theorem wrF (s : State) (o hi lo v : Nat) : SameStore s (s.wrF o hi lo v) := wr ..
theorem wrB (s : State) (o i : Nat) (b : Bool) : SameStore s (s.wrB o i b) := wr ..
theorem incF (s : State) (o hi lo n : Nat) : SameStore s (s.incF o hi lo n) := wr ..

theorem event (s : State) (unit sev inst : Nat) (err : W16) : SameStore s (s.event unit sev inst err) := .reported (s.event_reported ..)

theorem delta (h : SameStore s t) (g : Nat) : t.delta g = s.delta g := by rw [State.delta, h.ecc, State.delta]
theorem byte (h : SameStore s t) (a : Nat) : t.byte a = s.byte a := by rw [State.byte, h.mem, State.byte]

end SameStore

variable (s : State)

theorem State.startRebuild_store (st : Nat) : SameStore s (s.startRebuild st) := by
  unfold State.startRebuild
  split
  · exact .refl s
  · split
    · split
      · exact .refl s
      · exact ((SameStore.wrF ..).trans (.wrF ..)).trans (.wrF ..)
    · exact .refl s

theorem State.eraseChan_store (st c : Nat) (only : Bool) : SameStore s (s.eraseChan st c only) := by
  have h2 := (SameStore.wrF s (rMemChan (20 * st + c)) 31 29 1).trans (.reported (State.report_reported _
    { unit := uMem, sev := if only then 0 else 2, inst := 20 * st + c, err := eMemChanErased, beat := 0, rseq := 0 }))
  unfold State.eraseChan
  dsimp only
  generalize State.report _ _ = t at h2 ⊢
  have h3 : SameStore s (if 3 ≤ ((List.range 20).filter (fun k => t.chanSt st k = 1 || t.chanSt st k = 4)).length
      then t.event uMem 3 st eMemSpareExhausted else t) := by
    split
    · exact h2.trans (.event ..)
    · exact h2
  generalize (if 3 ≤ _ then _ else t : State) = v at h3 ⊢
  split
  · exact h3.trans ⟨rfl, rfl, rfl⟩
  · split
    · exact h3.trans ⟨rfl, rfl, rfl⟩
    · refine .trans ?_ (State.startRebuild_store _ st)
      exact h3.trans ⟨rfl, rfl, rfl⟩

/-- An overflow of a bucket, remembered and logged. -/
def State.overflow (s : State) (k : Nat) : State :=
  let s := ((s.wrB (rEccBkt k) 0 true).incF (rEccBkt k) 31 24 1).wrF (rEccBkt k) 23 16 0
  let h := s.now :: s.lastDay (tget (fun _ => []) s.memx.overflows k)
  let s := ({ s with memx := { s.memx with overflows := tput (fun _ => []) s.memx.overflows k h } } : State).event uMem 1 k eMemBucketOvf
  if s.rdB (rEccBktCfg k) 0 then { s with memx := { s.memx with mcpIrqs := s.memx.mcpIrqs ++ [k] } } else s

theorem State.overflow_store (k : Nat) : SameStore s (s.overflow k) := by
  have h1 := ((SameStore.wrB s (rEccBkt k) 0 true).trans (.incF _ (rEccBkt k) 31 24 1)).trans (.wrF _ (rEccBkt k) 23 16 0)
  unfold State.overflow
  dsimp only
  generalize State.wrF _ (rEccBkt k) 23 16 0 = t at h1 ⊢
  have h2 : SameStore s ({ t with memx := { t.memx with overflows := tput (fun _ => []) t.memx.overflows k (t.now :: t.lastDay (tget (fun _ => []) t.memx.overflows k)) } } : State) :=
    h1.trans ⟨rfl, rfl, rfl⟩
  have h3 := h2.trans (.event _ uMem 1 k eMemBucketOvf)
  generalize State.event _ uMem 1 k eMemBucketOvf = v at h3 ⊢
  split
  · exact h3.trans ⟨rfl, rfl, rfl⟩
  · exact h3

theorem State.bucket_store (k : Nat) : SameStore s (s.bucket k) := by
  unfold State.bucket
  dsimp only
  split
  · have h := s.overflow_store k
    unfold State.overflow at h
    dsimp only at h
    generalize (if State.rdB _ (rEccBktCfg k) 0 = true then _ else _ : State) = v at h ⊢
    split
    · exact h.trans (v.eraseChan_store ..)
    · split
      · refine (h.trans ?_).trans ((SameStore.wrB ..).trans (.wrB ..))
        exact ⟨rfl, rfl, rfl⟩
      · exact h
  · exact .wrF ..

end Bucket

/-! ### The scrubber -/

section Scrub
variable {s : State}

theorem granOf_sram {pa : Nat} (h : isDram pa = false) : granOf pa = pa / 8 * 8 ∧ isDram (pa / 8 * 8) = false := by
  have hsize : granSize pa = 8 := by
    unfold granSize
    rw [h]
    rfl
  have hpa : dramEnd ≤ pa := by simpa [isDram] using h
  refine ⟨by rw [granOf, hsize], decide_eq_false ?_⟩
  unfold dramEnd at *
  omega

variable {a pa : Nat} (hon : s.rdB rMemScrub 31 = true) (hinit : s.rdB rMemInit 31 = true) (harm : s.memx.armed = none)
  (hres : s.resolve a = .mem pa) (hsram : isDram pa = false)

section Run
include hon hinit hres hsram

theorem scrubRead_sram : exec (.scrubRead a) s = .next (s.readGran (pa / 8 * 8)).1 := by
  have hrun : s.scrubRead a = (s.readGran (pa / 8 * 8)).1 := by
    unfold State.scrubRead
    rw [hon, hinit, hres]
    dsimp only
    rw [if_neg (by decide), hsram, if_neg (by decide), (granOf_sram hsram).1]
  exact congrArg Host.Outcome.next hrun

theorem scrubRead_clean (h0 : s.delta (pa / 8 * 8) = 0) : exec (.scrubRead a) s = .next s := by
  rw [scrubRead_sram hon hinit hres hsram, State.readGran_of_clean h0]

end Run

/-- A granule that was put right, or poisoned, with no flip mask armed. -/
theorem State.readGran_stored {g : Nat} (hd : (s.decodeGran g).1.delta g ≠ s.delta g) (harm : (s.decodeGran g).1.memx.armed = none) :
    (s.readGran g).1 = (s.decodeGran g).1 := by
  unfold State.readGran
  dsimp only
  rw [if_neg hd]
  exact State.flipMask_of_unarmed harm g

variable {g : Nat} (hg : isDram g = false) (hd : s.delta g < 256) (h0 : s.delta g ≠ 0)
include hg

section Decode
include hd h0

theorem State.decodeGran_bit {i : Nat} (hi : hsiaoCols.findIdx? (fun c => c = s.delta g) = some i) :
    (s.decodeGran g).1 = ((s.setDelta g 0).flipByte (g + i / 8) (2 ^ (i % 8))).bucket (sramBucket g) := by
  have hsyn : s.delta g % 256 = s.delta g := Nat.mod_eq_of_lt hd
  have htag : s.delta g / 256 % 8 = 0 := by rw [Nat.div_eq_of_lt hd]
  unfold State.decodeGran
  dsimp only
  rw [if_neg h0, hg, hsyn, htag, if_neg (by decide), if_neg h0, hi]
  rfl

theorem State.decodeGran_ue (hi : hsiaoCols.findIdx? (fun c => c = s.delta g) = none) (hj : ∀ j < 8, 2 ^ j ≠ s.delta g) :
    (s.decodeGran g).1 = s.ue g := by
  have hsyn : s.delta g % 256 = s.delta g := Nat.mod_eq_of_lt hd
  have hany : ((List.range 8).any fun j => decide (2 ^ j = s.delta g)) = false := by
    rw [List.any_eq_false]
    exact fun j hj' => by simpa using hj j (List.mem_range.mp hj')
  unfold State.decodeGran
  dsimp only
  rw [if_neg h0, hg, hsyn, if_neg (by decide), if_neg h0, hi]
  dsimp only
  rw [hany]
  rfl

end Decode

theorem State.ue_poisons : (s.ue g).delta g = 0x700 ∧ (s.ue g).mem = s.mem ∧ (s.ue g).memx = s.memx := by
  have hdelta := s.delta_setDelta_self g (poisonDelta g)
  have hval : poisonDelta g = 0x700 := by
    unfold poisonDelta
    rw [hg]
    rfl
  rw [hval] at hdelta
  have hmem : (s.setDelta g 0x700).mem = s.mem ∧ (s.setDelta g 0x700).memx = s.memx := ⟨rfl, rfl⟩
  unfold State.ue
  dsimp only
  rw [hg, if_neg (by decide), hval]
  generalize s.setDelta g 0x700 = t at hdelta hmem
  obtain ⟨_, _, _, _, _, _, ht⟩ := t.report_reported { unit := uMem, sev := 0, inst := 0, err := eMemUe, beat := 0, rseq := 0, detail := g }
  rw [ht]
  exact ⟨hdelta, hmem⟩

end Scrub

section Settle
variable {s : State} {a pa : Nat}

theorem scrubRead_corrects (hon : s.rdB rMemScrub 31 = true) (hinit : s.rdB rMemInit 31 = true) (harm : s.memx.armed = none)
    (hres : s.resolve a = .mem pa) (hsram : isDram pa = false) {i : Nat} (hd : s.delta (pa / 8 * 8) < 256)
    (hi : hsiaoCols.findIdx? (fun c => c = s.delta (pa / 8 * 8)) = some i) (h0 : s.delta (pa / 8 * 8) ≠ 0) :
    ∃ t, exec (.scrubRead a) s = .next t ∧ t.delta (pa / 8 * 8) = 0
      ∧ t.byte (pa / 8 * 8 + i / 8) = s.byte (pa / 8 * 8 + i / 8) ^^^ BitVec.ofNat 8 (2 ^ (i % 8))
      ∧ (∀ b, b ≠ pa / 8 * 8 + i / 8 → t.byte b = s.byte b) := by
  have hg := (granOf_sram hsram).2
  have hrun := scrubRead_sram hon hinit hres hsram
  generalize pa / 8 * 8 = g at *
  have hdec := State.decodeGran_bit hg hd h0 hi
  have hfix : ((s.setDelta g 0).flipByte (g + i / 8) (2 ^ (i % 8))).delta g = 0 := s.delta_setDelta_self g 0
  have harm' : ((s.setDelta g 0).flipByte (g + i / 8) (2 ^ (i % 8))).memx.armed = none := harm
  have hbyte : ∀ b, ((s.setDelta g 0).flipByte (g + i / 8) (2 ^ (i % 8))).byte b
      = if b = g + i / 8 then s.byte (g + i / 8) ^^^ BitVec.ofNat 8 (2 ^ (i % 8)) else s.byte b := fun b => tget_tput ..
  generalize (s.setDelta g 0).flipByte (g + i / 8) (2 ^ (i % 8)) = u at *
  have hstore := u.bucket_store (sramBucket g)
  have hdelta : (s.decodeGran g).1.delta g = 0 := by rw [hdec, hstore.delta, hfix]
  rw [State.readGran_stored (by rw [hdelta]; exact h0.symm) (by rw [hdec, hstore.armed, harm'])] at hrun
  refine ⟨_, hrun, hdelta, ?_, fun b hb => ?_⟩
  · rw [hdec, hstore.byte, hbyte, if_pos rfl]
  · rw [hdec, hstore.byte, hbyte, if_neg hb]

theorem scrubRead_poisons (hon : s.rdB rMemScrub 31 = true) (hinit : s.rdB rMemInit 31 = true) (harm : s.memx.armed = none)
    (hres : s.resolve a = .mem pa) (hsram : isDram pa = false) (hd : s.delta (pa / 8 * 8) < 256) (h0 : s.delta (pa / 8 * 8) ≠ 0)
    (hi : hsiaoCols.findIdx? (fun c => c = s.delta (pa / 8 * 8)) = none) (hj : ∀ j < 8, 2 ^ j ≠ s.delta (pa / 8 * 8)) :
    ∃ t, exec (.scrubRead a) s = .next t ∧ t.delta (pa / 8 * 8) = 0x700 ∧ t.mem = s.mem := by
  have hg := (granOf_sram hsram).2
  have hrun := scrubRead_sram hon hinit hres hsram
  generalize pa / 8 * 8 = g at *
  have hdec := State.decodeGran_ue hg hd h0 hi hj
  obtain ⟨hdelta, hmem, hmx⟩ := State.ue_poisons hg
  rw [State.readGran_stored (by rw [hdec, hdelta]; omega) (by rw [hdec, hmx, harm]), hdec] at hrun
  exact ⟨_, hrun, hdelta, hmem⟩

/-- Settles O29. -/
theorem hostMemoryAndScrub : Obligations.HostMemoryAndScrub := by
  unfold Obligations.HostMemoryAndScrub
  refine ⟨fun s off n b => ⟨bar2Read_denied, bar2Write_denied, fun p pa => bar2Read_reads, fun p pa => bar2Write_writes⟩,
    fun s a pa hon hinit harm hres hsram => ⟨scrubRead_clean hon hinit hres hsram, fun i => scrubRead_corrects hon hinit harm hres hsram,
      scrubRead_poisons hon hinit harm hres hsram⟩⟩

end Settle

end Sys2Proof.Machine
end

section
/-! PROOFS. Frames (R410, R415, R422 to R427, R443 to R445, R449, R458, R673): received, sent, resent, and packets that age. -/

namespace Sys2Proof.Machine

/-! ### Frames received -/

section Receive
variable {s t : State} {p : Nat} {f : Frame} {k : Pkt}

theorem frame_not_running (h2 : s.portState p ≠ 2) (h4 : s.portState p ≠ 4) (ok : Bool) :
    exec (.frameReceive p f ok) s = .next s ∧ exec (.frameSend p) s = .next s := by
  have hst : (decide (s.portState p ≠ 2) && decide (s.portState p ≠ 4)) = true := by simp [h2, h4]
  exact ⟨congrArg Host.Outcome.next (if_pos hst), congrArg Host.Outcome.next (if_pos hst)⟩

theorem frameReceive_bad (h : s.portState p = 2 ∨ s.portState p = 4) :
    exec (.frameReceive p f false) s = .next (s.setPort p { s.port p with nak := true }) := by
  have hst : ¬ (decide (s.portState p ≠ 2) && decide (s.portState p ≠ 4)) = true := by
    rcases h with h | h
    · simp [h]
    · simp [h]
  refine congrArg Host.Outcome.next ?_
  unfold State.frameReceive
  dsimp only
  rw [if_neg hst]
  rfl

/-- The count of corrected symbols, which a frame that passes its check adds. -/
def State.countSymbols (s : State) (p : Nat) : State := (s.incF (rOptWave p) 15 0 ((s.free 0).toNat % 61)).bump

theorem State.countSymbols_rd (s : State) (p : Nat) {o : Nat} (ho : o < 0x1070000) : (s.countSymbols p).rd o = s.rd o := by
  have hne : o ≠ rOptWave p := by
    unfold rOptWave optReg
    omega
  have hbump : (s.countSymbols p).rd o = (s.incF (rOptWave p) 15 0 ((s.free 0).toNat % 61)).rd o := rfl
  rw [hbump, State.incF, State.wrF, State.rd_wr_ne _ _ _ _ hne]

theorem State.countSymbols_only (s : State) (p : Nat) : (s.countSymbols p).fab = s.fab ∧ (s.countSymbols p).mem = s.mem := ⟨rfl, rfl⟩

theorem State.frameReceive_eq (h : s.portState p = 2) : s.frameReceive p f true =
    (let u := s.countSymbols p
     let x := u.port p
     let back := (x.rxSeq + 4096 - f.fseq.toNat) % 4096
     if true && 1 ≤ back && back ≤ 128 then u
     else if !true || back ≠ 0 then u.setPort p { x with nak := true }
     else
       let bad := disordered ((x.openP.map (·.2)).getD 0) f.flits
       if bad && !x.faulted then (u.setPort p { x with nak := true, faulted := true }).viol p
       else
         let v := u.setPort p { x with rxSeq := (x.rxSeq + 1) % 4096, nak := false, faulted := false }
         (f.flits.zipIdx).foldl (fun s (y : Flit × Nat) => s.flit p y.2 y.1) (if bad then v.viol p else v)) := by
  unfold State.frameReceive
  dsimp only
  rw [if_neg (by simp [h]), if_pos rfl]
  rfl

theorem frameReceive_again (h : s.portState p = 2) (h1 : 1 ≤ ((s.port p).rxSeq + 4096 - f.fseq.toNat) % 4096)
    (h2 : ((s.port p).rxSeq + 4096 - f.fseq.toNat) % 4096 ≤ 128) : ∃ t, exec (.frameReceive p f true) s = .next t ∧ t.port p = s.port p := by
  have hport : (s.countSymbols p).port p = s.port p := rfl
  refine ⟨s.countSymbols p, congrArg Host.Outcome.next ?_, rfl⟩
  rw [State.frameReceive_eq h]
  dsimp only
  rw [hport, if_pos (by simp [h1, h2])]

/-- The port that has taken a frame. -/
def Port.took (x : Port) : Port := { x with rxSeq := (x.rxSeq + 1) % 4096, nak := false, faulted := false }

theorem State.frameReceive_next (h : s.portState p = 2) (hseq : f.fseq.toNat = (s.port p).rxSeq)
    (hord : disordered (((s.port p).openP.map (·.2)).getD 0) f.flits = false) : s.frameReceive p f true =
      (f.flits.zipIdx).foldl (fun s (y : Flit × Nat) => s.flit p y.2 y.1) ((s.countSymbols p).setPort p (s.port p).took) := by
  have hport : (s.countSymbols p).port p = s.port p := rfl
  have hback : ((s.port p).rxSeq + 4096 - f.fseq.toNat) % 4096 = 0 := by omega
  rw [State.frameReceive_eq h]
  dsimp only
  rw [hport, hback, hord]
  rfl

theorem disordered_idle {l : List Flit} (h : ∀ y ∈ l, y = .idle) (n : Nat) : disordered n l = false := by
  induction l with
  | nil => rfl
  | cons y l ih =>
    rw [h y (.head _)]
    exact ih fun z hz => h z (.tail _ hz)

theorem State.foldl_flit_idle {l : List (Flit × Nat)} (h : ∀ y ∈ l, y.1 = .idle) (s : State) :
    l.foldl (fun s (y : Flit × Nat) => s.flit p y.2 y.1) s = s := by
  induction l with
  | nil => rfl
  | cons y l ih =>
    have hy : s.flit p y.2 y.1 = s := by
      rw [h y (.head _)]
      rfl
    rw [List.foldl_cons, hy]
    exact ih fun z hz => h z (.tail _ hz)

theorem frameReceive_idle (h : s.portState p = 2) (hseq : f.fseq.toNat = (s.port p).rxSeq) (hidle : ∀ y ∈ f.flits, y = .idle) :
    ∃ t, exec (.frameReceive p f true) s = .next t
      ∧ t.port p = { s.port p with rxSeq := ((s.port p).rxSeq + 1) % 4096, nak := false, faulted := false } ∧ t.mem = s.mem := by
  have hfold := State.foldl_flit_idle (p := p) (l := f.flits.zipIdx) (fun y hy => hidle _ (List.fst_mem_of_mem_zipIdx hy))
    ((s.countSymbols p).setPort p (s.port p).took)
  refine ⟨_, congrArg Host.Outcome.next ((State.frameReceive_next h hseq (disordered_idle hidle _)).trans hfold), State.port_setPort_self .., rfl⟩

/-! ### A packet that arrives -/

theorem find?_congr_mem {α : Type} {p q : α → Bool} {l : List α} (h : ∀ a ∈ l, p a = q a) : l.find? p = l.find? q := by
  rw [← List.head?_filter, ← List.head?_filter, List.filter_congr h]

theorem State.route_here_of (hrd : ∀ o, o < 0x1070000 → t.rd o = s.rd o) {dst dtr : Nat} (h : s.route dst dtr = .here) : t.route dst dtr = .here := by
  have hlink : ∀ l ∈ List.range 48, (decide (2 ≤ t.rdF (rFabLink l) 31 30) && decide (t.rdF (rFabLink l) 29 16 = dst))
      = (decide (2 ≤ s.rdF (rFabLink l) 31 30) && decide (s.rdF (rFabLink l) 29 16 = dst)) := fun l hl => by
    have hlt := List.mem_range.mp hl
    have hr : rFabLink l < 0x1070000 := by
      unfold rFabLink fabReg
      omega
    rw [State.rdF, State.rdF, State.rdF, State.rdF, hrd _ hr]
  have hmaddr : t.maddr = s.maddr := by
    rw [State.maddr, State.rdF, hrd _ (by unfold rFabId fabReg; omega)]
    rfl
  unfold State.route at h ⊢
  rw [find?_congr_mem hlink, hmaddr]
  split at h
  · split at h
    · cases h
    · cases h
  split at h
  · next hdst => rw [if_pos hdst]
  next hdst =>
  rw [if_neg hdst]
  split at h
  · rfl
  · dsimp only at h
    split at h
    · split at h
      · cases h
      · cases h
    · split at h
      · cases h
      · cases h

theorem State.misrouted_of (hrd : ∀ o, o < 0x1070000 → t.rd o = s.rd o) (hp : p < 52) : t.misrouted p k = s.misrouted p k := by
  have hfield : ∀ o hi lo, o < 0x1070000 → t.rdF o hi lo = s.rdF o hi lo := fun o hi lo ho => by rw [State.rdF, hrd o ho, State.rdF]
  have hport : rFabPort p < 0x1070000 := by
    unfold rFabPort fabReg
    omega
  have hlink : t.portLink p = s.portLink p := by rw [State.portLink, hfield _ _ _ hport, State.portLink]
  have hmaddr : t.maddr = s.maddr := hfield _ _ _ (by unfold rFabId fabReg; omega)
  unfold State.misrouted
  dsimp only
  rw [hlink, hmaddr]
  cases hl : s.portLink p with
  | none => rfl
  | some l =>
    have hl48 : l < 48 := by
      unfold State.portLink at hl
      dsimp only at hl
      split at hl
      · cases hl
        assumption
      · cases hl
    have hr : rFabLink l < 0x1070000 := by
      unfold rFabLink fabReg
      omega
    dsimp only
    rw [hfield _ _ _ hr, hfield _ _ _ hr]

theorem State.inArrangement_of (hrd : ∀ o, o < 0x1070000 → t.rd o = s.rd o) (a : Nat) : t.inArrangement a = s.inArrangement a := by
  have hsize : ∀ d, t.dimSize d = s.dimSize d := fun d => by
    have hr : t.rd rFabId = s.rd rFabId := hrd _ (by unfold rFabId fabReg; omega)
    simp only [State.dimSize, State.rdF, hr]
  unfold State.inArrangement
  simp only [hsize]

theorem State.editSnap_fab (s : State) (n : Snap) : (s.editSnap n).fab = s.fab := by
  unfold State.editSnap
  obtain ⟨v, hv⟩ : ∃ v : State, v = { s with beat := { s.beat with snaps := s.beat.snaps.map (fun x => if x.part = n.part && x.slot = n.slot then n else x) } } :=
    ⟨_, rfl⟩
  rw [← hv, (v.writeMem_handled (snapAddr n.part n.slot) n.bytes []).only, hv]

theorem State.logChannel_fab (s : State) (q : Nat) (k : Pkt) : (s.logChannel q k).fab = s.fab := by
  unfold State.logChannel
  split
  · rfl
  · next r hr =>
    clear hr
    generalize s.beat.snaps.filter (fun n => n.part = r && !n.late && k.sendBeat < n.beat) = l
    induction l generalizing s with
    | nil => rfl
    | cons n l ih =>
      rw [List.foldl_cons, ih]
      split
      · exact s.editSnap_fab _
      · dsimp only
        split
        · exact s.editSnap_fab _
        · exact s.editSnap_fab _

theorem State.arrivePkt_here (hst : s.portState p = 2) (hen : s.rdB rFabId 31 = true) (hok : pktMalformed k = false)
    (hroom : (s.port p).held.getD (pktPool k) 0 + pktCost k ≤ poolCap.getD (pktPool k) 0) (hway : s.misrouted p k = false)
    (hin : s.inArrangement k.dst.toNat = true) (hhere : s.route k.dst.toNat k.dtr.toNat = .here) :
    ((s.arrivePkt p k).port p).ingress = (s.port p).ingress ++ [k] ∧ ((s.arrivePkt p k).port p).rxSeq = (s.port p).rxSeq := by
  obtain ⟨v, hv⟩ : ∃ v, v = (s.countBlock (0x10000 + 64 * p + 8) (pktBytes k)).countBlock (0x10000 + 64 * p + 24) 1 := ⟨_, rfl⟩
  have hvport : v.port p = s.port p := by rw [hv]; rfl
  have hvhere : v.route k.dst.toNat k.dtr.toNat = .here := State.route_here_of (s := s) (fun o _ => by rw [hv]; rfl) hhere
  have hrun : s.arrivePkt p k = (v.setPort p { v.port p with
      ingress := (v.port p).ingress ++ [k]
      held := addAt (v.port p).held (pktPool k) (pktCost k) }).logChannel p k := by
    unfold State.arrivePkt
    dsimp only
    rw [hst, hen, hok, hway, hin, if_neg (by decide), if_neg (by decide), if_neg (Nat.not_lt.mpr hroom), if_neg (by decide), if_neg (by decide), ← hv,
      if_pos hvhere]
  rw [hrun]
  generalize hw : v.setPort p { v.port p with ingress := (v.port p).ingress ++ [k], held := addAt (v.port p).held (pktPool k) (pktCost k) } = w
  have hport : (w.logChannel p k).port p = w.port p := by rw [State.port, w.logChannel_fab, State.port]
  rw [hport, ← hw, State.port_setPort_self, hvport]
  exact ⟨rfl, rfl⟩

theorem frameReceive_packet (hp : p < 52) (hst : s.portState p = 2) (hseq : f.fseq.toNat = (s.port p).rxSeq) (hone : f.flits = [.pkt k]) (hlen : k.len = 0)
    (hdata : k.data = []) (hopen : (s.port p).openP = none) (hen : s.rdB rFabId 31 = true) (hok : pktMalformed k = false)
    (hroom : (s.port p).held.getD (pktPool k) 0 + pktCost k ≤ poolCap.getD (pktPool k) 0) (hway : s.misrouted p k = false)
    (hin : s.inArrangement k.dst.toNat = true) (hhere : s.route k.dst.toNat k.dtr.toNat = .here) :
    ∃ t, exec (.frameReceive p f true) s = .next t ∧ (t.port p).ingress = (s.port p).ingress ++ [k] ∧ (t.port p).rxSeq = ((s.port p).rxSeq + 1) % 4096 := by
  have hord : disordered (((s.port p).openP.map (·.2)).getD 0) f.flits = false := by
    rw [hone, hopen]
    rfl
  obtain ⟨v, hv⟩ : ∃ v, v = (s.countSymbols p).setPort p (s.port p).took := ⟨_, rfl⟩
  have hrd : ∀ o, o < 0x1070000 → v.rd o = s.rd o := fun o ho => by
    rw [hv, ← s.countSymbols_rd p ho]
    rfl
  have hport : v.port p = (s.port p).took := by rw [hv, State.port_setPort_self]
  have hflit : v.flit p 0 (.pkt k) = v.arrivePkt p k := by
    have hdrop : v.dropOpen p = v := by
      unfold State.dropOpen
      dsimp only
      rw [hport]
      have hopen' : (s.port p).took.openP = none := hopen
      rw [hopen']
    have hk : { k with data := [] } = k := by rw [← hdata]
    unfold State.flit
    dsimp only
    rw [hdrop, if_pos hlen, hk]
  have hrun : s.frameReceive p f true = v.arrivePkt p k := by
    rw [State.frameReceive_next hst hseq hord, ← hv, hone]
    exact hflit
  have hfst : v.portState p = 2 := by
    rw [State.portState, State.rdF, hrd _ (by unfold rFabPort fabReg; omega)]
    exact hst
  have hfen : v.rdB rFabId 31 = true := by
    rw [State.rdB, hrd _ (by unfold rFabId fabReg; omega)]
    exact hen
  obtain ⟨h1, h2⟩ := State.arrivePkt_here hfst hfen hok (by rw [hport]; exact hroom) ((State.misrouted_of hrd hp).trans hway)
    ((State.inArrangement_of hrd _).trans hin) (State.route_here_of hrd hhere)
  rw [hport] at h1 h2
  exact ⟨_, congrArg Host.Outcome.next hrun, h1, h2⟩

end Receive

/-! ### Frames sent -/

section Send
variable {s : State} {p : Nat}

theorem State.nextFlit_idle {x : Port} (hegress : x.egress = []) (hopen : x.txOpen = none) : s.nextFlit x = (x, .idle, none) := by
  have hhead : ∀ vc, s.headOf x vc = none := fun vc => by
    unfold State.headOf
    rw [hegress]
    rfl
  have hpick : s.pickPkt x = none := by
    unfold State.pickPkt
    rw [hhead, hhead, hhead, hhead]
    simp only [drrPick, ite_self]
  unfold State.nextFlit
  rw [hopen, hpick]

theorem State.fillSlots_idle {x : Port} (hegress : x.egress = []) (hopen : x.txOpen = none) (n : Nat) :
    s.fillSlots n x = (x, List.replicate n .idle, []) := by
  induction n with
  | zero => rfl
  | succ n ih =>
    unfold State.fillSlots
    dsimp only
    rw [State.nextFlit_idle hegress hopen, ih]
    rfl

/-- A frame of the replay buffer leaves again. -/
def State.sendAgain (s : State) (p : Nat) (x : Port) (f : Frame) : State :=
  ((s.setPort p { x with resend := x.resend - 1, line := some ({ f with rpl := true }, none) }).incF (rFabPcnt p) 31 16 1).countBlock
    (0x10000 + 64 * p + 40) 1

/-- A new frame leaves: its timing and CTRL flits, and what the slots hold. -/
def State.sendFrame (s : State) (p st : Nat) (x : Port) (tim : Option (Nat × W64 × W64)) (first : List Flit) : State :=
  let starved := st = 2 && s.starved x
  let r := if st = 2 then s.fillSlots (40 - first.length) x else (x, List.replicate (40 - first.length) Flit.idle, [])
  let f : Frame := { fseq := BitVec.ofNat 12 x.txSeq, rpl := false, flits := first ++ r.2.1 }
  let s := s.setPort p { r.1 with txSeq := (x.txSeq + 1) % 4096, replay := r.1.replay ++ [f], line := some (f, tim) }
  let s := (s.countBlock (0x10000 + 64 * p) ((r.2.2.map pktBytes).foldl (· + ·) 0)).countBlock (0x10000 + 64 * p + 16) r.2.2.length
  if starved then (s.countBlock (0x10000 + 64 * p + 48) ((s.free 0).toNat % 42)).bump else s

/-- The CTRL flit of a new frame, when one is due. -/
def State.sendPlain (s : State) (p st : Nat) (x : Port) (tim : Option (Nat × W64 × W64)) : State :=
  let ctl := 3 ≤ x.sinceCtrl || x.nak || x.wcmd.isSome || x.lcmd ≠ 0
  let first := (if tim.isSome then [Flit.timing] else []) ++ (if ctl then [Flit.ctrl x.ctrl] else [])
  let x := if ctl then x.ctrlSent else { x with sinceCtrl := x.sinceCtrl + 1 }
  s.sendFrame p st x tim first

/-- A port with nothing to resend prepares a new frame. -/
def State.sendNew (s : State) (p st : Nat) (x : Port) : State :=
  let tim := if st = 2 then x.timingOut.head?.map s.stampTiming else none
  s.sendPlain p st (if tim.isSome then { x with timingOut := x.timingOut.tail } else x) tim

/-- The port before it sends: a full replay buffer is resent. -/
def Port.toSend (x : Port) : Port := if x.resend = 0 && 128 ≤ x.replay.length then x.resendAll else x

/-- A running port sends a frame. -/
def State.sendOne (s : State) (p st : Nat) (x : Port) : State :=
  match (if x.resend = 0 then none else x.replay[x.replay.length - x.resend]?) with
  | some f => s.sendAgain p x f
  | none => s.sendNew p st x

theorem State.frameSend_eq : s.frameSend p = if s.portState p ≠ 2 && s.portState p ≠ 4 then s else s.sendOne p (s.portState p) (s.port p).toSend := rfl

theorem State.frameSend_running (h : s.portState p = 2) (hx : (s.port p).toSend = s.port p) : s.frameSend p = s.sendOne p 2 (s.port p) := by
  rw [State.frameSend_eq, h, hx]
  rfl

/-- Port fields of a frame that left. -/
def Port.sent1 (x : Port) (f : Frame) : Port := { x with txSeq := (x.txSeq + 1) % 4096, replay := x.replay ++ [f], line := some (f, none) }

theorem State.sendFrame_idle {x : Port} (hegress : x.egress = []) (hopen : x.txOpen = none) : s.sendFrame p 2 x none []
    = ((s.setPort p (x.sent1 { fseq := BitVec.ofNat 12 x.txSeq, rpl := false, flits := List.replicate 40 .idle })).countBlock (0x10000 + 64 * p) 0).countBlock
        (0x10000 + 64 * p + 16) 0 := by
  have hstarved : s.starved x = false := by
    unfold State.starved
    rw [hegress]
    rfl
  unfold State.sendFrame
  dsimp only
  rw [hstarved, if_pos rfl, State.fillSlots_idle hegress hopen]
  rfl

theorem State.sendNew_plain {x : Port} (htim : x.timingOut = []) (hctl : x.sinceCtrl < 3) (hnak : x.nak = false) (hw : x.wcmd = none) (hl : x.lcmd = 0) :
    s.sendNew p 2 x = s.sendFrame p 2 { x with sinceCtrl := x.sinceCtrl + 1 } none [] := by
  have htim' : (if 2 = 2 then x.timingOut.head?.map s.stampTiming else none) = none := by
    rw [htim]
    rfl
  have hctl' : (decide (3 ≤ x.sinceCtrl) || x.nak || x.wcmd.isSome || decide (x.lcmd ≠ 0)) = false := by
    rw [hnak, hw, hl, decide_eq_false (Nat.not_le.mpr hctl)]
    rfl
  have hnew : s.sendNew p 2 x = s.sendPlain p 2 x none := by
    unfold State.sendNew
    dsimp only
    rw [htim']
    rfl
  rw [hnew]
  unfold State.sendPlain
  dsimp only
  rw [hctl']
  rfl

theorem frameSend_idle (h : s.portState p = 2) (hresend : (s.port p).resend = 0) (hreplay : (s.port p).replay.length < 128) (hegress : (s.port p).egress = [])
    (hopen : (s.port p).txOpen = none) (htim : (s.port p).timingOut = []) (hctl : (s.port p).sinceCtrl < 3) (hnak : (s.port p).nak = false)
    (hw : (s.port p).wcmd = none) (hl : (s.port p).lcmd = 0) :
    ∃ t g, exec (.frameSend p) s = .next t ∧ g.fseq = BitVec.ofNat 12 (s.port p).txSeq ∧ g.rpl = false ∧ g.flits = List.replicate 40 .idle
      ∧ (t.port p).replay = (s.port p).replay ++ [g] ∧ (t.port p).txSeq = ((s.port p).txSeq + 1) % 4096 ∧ (t.port p).line = some (g, none) := by
  have hrun := State.frameSend_running h (if_neg (by simp [Nat.not_le.mpr hreplay]))
  generalize s.port p = x at *
  unfold State.sendOne at hrun
  rw [if_pos hresend] at hrun
  dsimp only at hrun
  rw [State.sendNew_plain htim hctl hnak hw hl] at hrun
  obtain ⟨y, hy⟩ : ∃ y : Port, y = { x with sinceCtrl := x.sinceCtrl + 1 } := ⟨_, rfl⟩
  have hfields : y.egress = [] ∧ y.txOpen = none ∧ y.txSeq = x.txSeq ∧ y.replay = x.replay := by
    rw [hy]
    exact ⟨hegress, hopen, rfl, rfl⟩
  obtain ⟨h1, h2, h3, h4⟩ := hfields
  rw [← hy, State.sendFrame_idle h1 h2] at hrun
  refine ⟨_, { fseq := BitVec.ofNat 12 y.txSeq, rpl := false, flits := List.replicate 40 .idle }, congrArg Host.Outcome.next hrun,
    congrArg (BitVec.ofNat 12) h3, rfl, rfl, ?_⟩
  have hport : ∀ z, (((s.setPort p z).countBlock (0x10000 + 64 * p) 0).countBlock (0x10000 + 64 * p + 16) 0).port p = z := fun z => State.port_setPort_self ..
  rw [hport, ← h3, ← h4]
  exact ⟨rfl, rfl, rfl⟩

theorem frameSend_again {g : Frame} (h : s.portState p = 2) (hresend : (s.port p).resend ≠ 0)
    (hg : (s.port p).replay[(s.port p).replay.length - (s.port p).resend]? = some g) : ∃ t, exec (.frameSend p) s = .next t
      ∧ t.port p = { s.port p with resend := (s.port p).resend - 1, line := some ({ g with rpl := true }, none) } := by
  have hrun := State.frameSend_running h (if_neg (by simp [hresend]))
  unfold State.sendOne at hrun
  rw [if_neg hresend, hg] at hrun
  have hport : (s.sendAgain p (s.port p) g).port p = { s.port p with resend := (s.port p).resend - 1, line := some ({ g with rpl := true }, none) } :=
    State.port_setPort_self ..
  exact ⟨_, congrArg Host.Outcome.next hrun, hport⟩

end Send

/-! ### Packets that age -/

section Aged
variable {s : State} {p : Nat}

/-- Packets joined the egress of a port; nothing else of it changed. -/
def Joined (x y : Port) : Prop := ∃ l, y = { x with egress := x.egress ++ l }

theorem Joined.refl (x : Port) : Joined x x := ⟨[], by rw [List.append_nil]⟩

theorem Joined.trans {x y z : Port} (h : Joined x y) (h' : Joined y z) : Joined x z := by
  obtain ⟨l, hl⟩ := h
  obtain ⟨l', hl'⟩ := h'
  exact ⟨l ++ l', by rw [hl', hl, List.append_assoc]⟩

theorem State.launch_joined {t : State} {own : Bool} {k : Pkt} (h : s.launch own k = some t) (q : Nat) : Joined (s.port q) (t.port q) := by
  unfold State.launch at h
  split at h
  · obtain rfl := Option.some.inj h
    exact .refl _
  · obtain rfl := Option.some.inj h
    rw [State.port_setPort]
    split
    · next e => exact e ▸ ⟨_, rfl⟩
    · exact .refl _
  · cases h

theorem State.sendStatus_joined (k : Pkt) (code : W16) (q : Nat) : Joined (s.port q) ((s.sendStatus k code).port q) := by
  unfold State.sendStatus
  split
  · exact .refl _
  · dsimp only
    split
    · next ht => exact State.launch_joined ht q
    · exact .refl _

theorem State.rememberDrop_port (k : Pkt) (q : Nat) : (s.rememberDrop k).port q = s.port q := by
  have hports : ∀ d, ({ s with fab := { s.fab with dropped := d } } : State).port q = s.port q := fun _ => rfl
  unfold State.rememberDrop
  split
  · rfl
  · exact hports _

theorem State.refusePkt_joined (src : Option Nat) (k : Pkt) (code : W16) (q : Nat) : Joined (s.port q) ((s.refusePkt src k code).port q) := by
  have hcount : ((s.rememberDrop k).countDrop src).port q = s.port q := by
    rw [← State.rememberDrop_port (s := s) k q]
    unfold State.countDrop
    split
    · rfl
    · rfl
  unfold State.refusePkt
  rw [← hcount]
  exact State.sendStatus_joined ..

theorem State.freeFlits_ingress (s : State) (k : Pkt) : ((s.freeFlits p k).port p).ingress = (s.port p).ingress := by
  unfold State.freeFlits
  dsimp only
  rw [State.port_setPort_self]

theorem packetAged_ingress {n : Nat} {k : Pkt} (h : (s.port p).ingress[n]? = some k) :
    ∃ t, exec (.packetAged p n) s = .next t ∧ (t.port p).ingress = (s.port p).ingress.eraseIdx n := by
  have hrun : s.packetAged p n = ((s.setPort p { s.port p with ingress := (s.port p).ingress.eraseIdx n }).freeFlits p k).refusePkt (some p) k eFabAged := by
    unfold State.packetAged
    dsimp only
    rw [h]
  refine ⟨_, congrArg Host.Outcome.next hrun, ?_⟩
  obtain ⟨l, hl⟩ := State.refusePkt_joined (s := (s.setPort p { s.port p with ingress := (s.port p).ingress.eraseIdx n }).freeFlits p k) (some p) k eFabAged p
  rw [hl]
  exact (State.freeFlits_ingress ..).trans (congrArg Port.ingress (State.port_setPort_self ..))

/-- An egress without its i-th packet. -/
def Port.without (x : Port) (i : Nat) : Port := { x with egress := x.egress.eraseIdx i }

theorem packetAged_egress {n : Nat} {e : Bool × Pkt} (hn : (s.port p).ingress.length ≤ n) (h : (s.port p).egress[n - (s.port p).ingress.length]? = some e) :
    ∃ t l, exec (.packetAged p n) s = .next t ∧ (t.port p).egress = (s.port p).egress.eraseIdx (n - (s.port p).ingress.length) ++ l := by
  obtain ⟨v, hv⟩ : ∃ v, v = s.setPort p ((s.port p).without (n - (s.port p).ingress.length)) := ⟨_, rfl⟩
  have hrun : s.packetAged p n = (v.rememberDrop e.2).sendStatus e.2 eFabAged := by
    unfold State.packetAged
    dsimp only
    rw [List.getElem?_eq_none hn, h, hv]
    rfl
  obtain ⟨l, hl⟩ := State.sendStatus_joined (s := v.rememberDrop e.2) e.2 eFabAged p
  have hport : v.port p = (s.port p).without (n - (s.port p).ingress.length) := by rw [hv, State.port_setPort_self]
  rw [State.rememberDrop_port, hport] at hl
  exact ⟨_, l, congrArg Host.Outcome.next hrun, congrArg Port.egress hl⟩

/-- Settles O43. -/
theorem frames : Obligations.Frames := by
  unfold Obligations.Frames
  intro s p f hp x
  exact ⟨frame_not_running, frameReceive_bad, fun h hseq _ => frameReceive_idle h hseq, fun h _ h1 h2 => frameReceive_again h h1 h2,
    fun k hst hseq _ hone hlen hdata hopen hen hok hroom hway hin hhere => frameReceive_packet hp hst hseq hone hlen hdata hopen hen hok hroom hway hin hhere,
    frameSend_idle, fun g => frameSend_again, fun n k => packetAged_ingress, fun n e => packetAged_egress⟩

end Aged

end Sys2Proof.Machine
end

section
/-! PROOFS. Packets at their destination and the fabric settings: the obligation fails. A core may be mapped to any number, and CORE_STAT of core
6144 stands at the address of FAB_ID; a FABRIC_SET that wakes a thread of that core clears bit 0 of FAB_ID. -/

namespace Sys2Proof.Machine

/-- A release that another module owes to latch 0 of logical core 0. -/
def owedRelease : Release := { cmod := 1, ccore := 0, clatch := 0, round := 0, core := 0, latch := 0, child := false }

/-- A module in service whose logical core 0 is physical core 6144, a thread of which waits for the release; channel 32 is an operator's. -/
def aliasState : State :=
  { State.reset with
    regs := [(rHifStat, 0x40000000)]
    spareMap := [(0, some 6144)]
    releases := [owedRelease]
    threads := [(32 * 6144, { st := .parked, wait := some { latch := 0, cond := 0, cmp := 0, old := 0, issued := 0, timeout := 0 } })]
    host := { State.reset.host with chans := [(32, { bind := .bound, role := .operator })] } }

/-- FABRIC_SET with FAB_ID = 1, two modules in dimension 0, and every other word zero. -/
def aliasMsg : Msg := { ch := 32, tag := 0, sid := 0, version := 0x0100, len := 4, body := [1, 0, 0, 0] }

/-- FAB_ID after a command. -/
def fabIdAfter : Host.Outcome State Fault Refusal → W32
  | .next t => t.rd rFabId
  | _ => 1

theorem fabIdAfter_alias : fabIdAfter (exec (.fabricSet aliasMsg) aliasState) = 0 := by decide +kernel

/-- The request of the message. -/
def aliasRequest : Request := ⟨aliasMsg, 0x0120, 480, hasRole [.operator]⟩

theorem aliasRequest_word : BitVec.ofNat 32 (leAt aliasRequest.text 0 4) = 1 := by decide +kernel

theorem accepts_alias : aliasState.accepts aliasRequest := by
  refine ⟨⟨by decide, by decide, fun _ => by decide⟩, by decide, ⟨by decide, by decide, by decide⟩, .inr (.inr ⟨by decide, by decide⟩), by decide, by decide⟩

/-- Refutes O44: FABRIC_SET breaks the entries toward unreachable modules, and the thread it wakes on core 6144 ungates that core, at the
address of FAB_ID. -/
theorem not_packets : ¬ Obligations.Packets := by
  unfold Obligations.Packets
  intro h
  obtain ⟨-, -, -, -, -, -, -, -, -, hset⟩ := h aliasState none (aliasState.mkPkt 0 0 0 0 0 0 0 0 0 []) aliasState aliasMsg
  obtain ⟨-, hserved⟩ := hset aliasRequest rfl accepts_alias (by decide +kernel) (by decide +kernel) (by decide +kernel) (by decide +kernel)
    (by decide +kernel) (by decide +kernel) (by decide +kernel)
  obtain ⟨t, hrun, -, -, -, -, -, -, -, hid, -⟩ := hserved (.inl rfl)
  have hone : t.rd rFabId = 1 := hid.trans aliasRequest_word
  have hzero := fabIdAfter_alias
  rw [hrun] at hzero
  exact absurd (hone.symm.trans hzero) (by decide)

end Sys2Proof.Machine
end

section
/-! PROOFS. The rolling core test, hallway lanes and native reports (R33, R559 to R563, R573, R578 to R580, R588). -/

namespace Sys2Proof.Machine

/-! ### Fills of a core store -/

section Fill

/-- t is s but for registers, memory, its check bits and the checker. -/
def StoreOnly (s t : State) : Prop := ∃ regs mem ecc memx, t = { s with regs, mem, ecc, memx }

theorem StoreOnly.refl (s : State) : StoreOnly s s := ⟨_, _, _, _, rfl⟩

theorem StoreOnly.trans {s t u : State} (h : StoreOnly s t) (h' : StoreOnly t u) : StoreOnly s u := by
  obtain ⟨_, _, _, _, rfl⟩ := h
  obtain ⟨_, _, _, _, rfl⟩ := h'
  exact ⟨_, _, _, _, rfl⟩

theorem StoreOnly.foldl {α : Type} {f : State → α → State} (h : ∀ s a, StoreOnly s (f s a)) (l : List α) (s : State) : StoreOnly s (l.foldl f s) := by
  induction l generalizing s with
  | nil => exact .refl s
  | cons a l ih => exact (h s a).trans (ih _)

theorem State.flipMask_store (s : State) (g : Nat) : StoreOnly s (s.flipMask g) := by
  have hflip : ∀ (f e : Nat → Nat) (l : List Nat) (t : State), StoreOnly t (l.foldl (fun s k => s.flipByte (f k) (e k)) t) :=
    fun f e l t => StoreOnly.foldl (fun s k => ⟨_, _, _, _, rfl⟩) l t
  have hdelta : ∀ (t : State) (d : Nat), StoreOnly t (t.setDelta g d) := fun t d => ⟨_, _, _, _, rfl⟩
  have hend : ∀ t, StoreOnly s t → StoreOnly s
      (((({ t with memx := { t.memx with armed := none } } : State).wrB rEccInjCtl 31 false)).wrB rEccInjCtl 30 true) := fun t h =>
    h.trans ⟨_, _, _, _, rfl⟩
  unfold State.flipMask
  split
  · exact .refl s
  split
  · exact .refl s
  refine hend _ ?_
  split
  · split
    · exact ((hflip ..).trans (hflip ..)).trans (hdelta ..)
    · split
      · exact (hflip ..).trans (hdelta ..)
      · exact (hflip ..).trans (hdelta ..)
  · exact (hflip ..).trans (hdelta ..)

theorem State.zeroFill_store (s : State) (pa n : Nat) : StoreOnly s (s.zeroFill pa n) := by
  have hclear : StoreOnly s { s with mem := tclear s.mem pa n, ecc := tclear s.ecc pa n } := ⟨_, _, _, _, rfl⟩
  unfold State.zeroFill
  dsimp only
  split
  · split
    · exact hclear.trans (State.flipMask_store ..)
    · exact hclear
  · exact hclear

end Fill

/-! ### What the test engine of a wing leaves as it is -/

section Engine

/-- t is s after the test engine of wing w has turned to core j. -/
structure Tested (j w : Nat) (s t : State) : Prop where
  rd : ∀ o, o ≠ rBstWing w → o ≠ rCoreStat j → o ≠ rCoreCtl j → o ≠ rBeatStat → o ≠ rPwrStat → t.rd o = s.rd o
  core : ∀ k, k ≠ j → t.core k = s.core k
  next : t.test.nextCore = s.test.nextCore
  due : t.test.dueAt = s.test.dueAt

namespace Tested
variable {j w : Nat} {s t u : State}

theorem refl (s : State) : Tested j w s s := ⟨fun _ _ _ _ _ _ => rfl, fun _ _ => rfl, rfl, rfl⟩

theorem trans (h : Tested j w s t) (h' : Tested j w t u) : Tested j w s u :=
  ⟨fun o h1 h2 h3 h4 h5 => (h'.rd o h1 h2 h3 h4 h5).trans (h.rd o h1 h2 h3 h4 h5), fun k hk => (h'.core k hk).trans (h.core k hk),
    h'.next.trans h.next, h'.due.trans h.due⟩

theorem wr (s : State) {o : Nat} (ho : o = rBstWing w ∨ o = rCoreStat j ∨ o = rCoreCtl j) (v : W32) : Tested j w s (s.wr o v) := by
  refine ⟨fun k h1 h2 h3 _ _ => State.rd_wr_ne _ _ _ _ fun e => ?_, fun _ _ => rfl, rfl, rfl⟩
  rcases ho with ho | ho | ho
  · exact h1 (e.trans ho)
  · exact h2 (e.trans ho)
  · exact h3 (e.trans ho)

theorem wrF (s : State) {o : Nat} (ho : o = rBstWing w ∨ o = rCoreStat j ∨ o = rCoreCtl j) (hi lo v : Nat) : Tested j w s (s.wrF o hi lo v) := wr s ho _
theorem wrB (s : State) {o : Nat} (ho : o = rBstWing w ∨ o = rCoreStat j ∨ o = rCoreCtl j) (i : Nat) (b : Bool) : Tested j w s (s.wrB o i b) := wr s ho _

theorem setTest (s : State) (c st : Nat) : Tested j w s (s.setTest w c st) := (wrF s (.inl rfl) 31 24 c).trans (wrF _ (.inl rfl) 23 21 st)

theorem setCore (s : State) (x : Core) : Tested j w s (s.setCore j x) := by
  refine ⟨fun _ _ _ _ _ _ => rfl, fun k hk => ?_, rfl, rfl⟩
  rw [State.core_setCore, if_neg hk]

theorem reported (h : Reported s t) : Tested j w s t := by
  obtain ⟨_, _, _, _, _, _, rfl⟩ := h
  exact ⟨fun _ _ _ _ _ _ => rfl, fun _ _ => rfl, rfl, rfl⟩

theorem addEvent (s : State) (e : Ev) : Tested j w s (s.addEvent e).1 := by
  have hkeep : (s.addEvent e).1.cores = s.cores ∧ (s.addEvent e).1.test = s.test := by
    obtain ⟨regs, beat, h⟩ := s.addEvent_only e
    rw [h]
    exact ⟨rfl, rfl⟩
  exact ⟨fun o _ _ _ h4 h5 => State.rd_addEvent _ _ h4 h5, fun k _ => by rw [State.core, hkeep.1, State.core], by rw [hkeep.2], by rw [hkeep.2]⟩

theorem test (s : State) (x : Test) (hn : x.nextCore = s.test.nextCore) (hd : x.dueAt = s.test.dueAt) : Tested j w s { s with test := x } :=
  ⟨fun _ _ _ _ _ _ => rfl, fun _ _ => rfl, hn, hd⟩

end Tested

variable (s : State) (i : Nat)

theorem State.setTest_test (w c st : Nat) : (s.setTest w c st).test = s.test := rfl

theorem State.beginTest_tested : Tested i (wingOf i) s (s.beginTest i) := by
  have h1 : Tested i (wingOf i) s (s.testing i) := ((Tested.setTest s i 3).trans (.wrF _ (.inl rfl) 20 14 0)).trans (.wrB _ (.inr (.inl rfl)) 3 true)
  rw [s.beginTest_eq i]
  generalize s.testing i = v at h1 ⊢
  have h2 := h1.trans (.setCore v { v.core i with testNext := false })
  unfold State.firstSlice
  dsimp only
  generalize v.setCore i { v.core i with testNext := false } = u at h2 ⊢
  refine (h2.trans ?_).trans (.addEvent _ _)
  exact .test u _ rfl rfl

/-- A core withdrawn from its wing, before the report. -/
def State.withdrawing (s : State) (i : Nat) : State :=
  let w := wingOf i
  let s := { s with test := { s.test with deferred := tput (fun _ => none) s.test.deferred w none } }
  let s := (s.setTest w i 5).wrF (rBstWing w) 20 14 0
  let s := s.setCore i { s.core i with withdrawn := true, testNext := false }
  { s with test := { s.test with running := tput (fun _ => {}) s.test.running w (s.patternSet 1) } }

theorem State.withdraw_eq : s.withdraw i = ((s.withdrawing i).event uCore 0 i eBstWithdrawn).nextSlice (wingOf i) 0 (s.withdrawing i).now := rfl

theorem State.withdrawing_tested : Tested i (wingOf i) s (s.withdrawing i) := by
  have h0 : Tested i (wingOf i) s { s with test := { s.test with deferred := tput (fun _ => none) s.test.deferred (wingOf i) none } } :=
    .test s _ rfl rfl
  unfold State.withdrawing
  dsimp only
  generalize ({ s with test := { s.test with deferred := tput (fun _ => none) s.test.deferred (wingOf i) none } } : State) = v at h0 ⊢
  have h1 := (h0.trans (.setTest v i 5)).trans (.wrF _ (.inl rfl) 20 14 0)
  generalize (v.setTest (wingOf i) i 5).wrF (rBstWing (wingOf i)) 20 14 0 = u at h1 ⊢
  have h2 := h1.trans (.setCore u { u.core i with withdrawn := true, testNext := false })
  generalize u.setCore i { u.core i with withdrawn := true, testNext := false } = x at h2 ⊢
  exact h2.trans (.test x _ rfl rfl)

theorem State.withdraw_tested : Tested i (wingOf i) s (s.withdraw i) := by
  rw [State.withdraw_eq]
  exact ((s.withdrawing_tested i).trans (.reported (State.event_reported ..))).trans (.addEvent _ _)

theorem State.deferTest_tested : Tested i (wingOf i) s (s.deferTest i) := by
  have h := Tested.setTest (j := i) s (w := wingOf i) i 4
  have htest := s.setTest_test (wingOf i) i 4
  unfold State.deferTest
  dsimp only
  refine Tested.trans ?_ (.reported (State.event_reported ..))
  generalize s.setTest (wingOf i) i 4 = v at h htest ⊢
  have hsame : s.test.nextCore = v.test.nextCore ∧ s.test.dueAt = v.test.dueAt := by rw [htest]; exact ⟨rfl, rfl⟩
  exact h.trans (.test v { s.test with deferred := tput (fun _ => none) s.test.deferred (wingOf i) (some s.now) } hsame.1 hsame.2)

theorem State.testDue_tested : Tested i (wingOf i) s (s.testDue i) := by
  unfold State.testDue
  dsimp only
  split
  · exact .refl s
  split
  · exact .setCore ..
  split
  · exact .setTest ..
  split
  · exact s.beginTest_tested i
  split
  · exact ((Tested.setTest s i 2).trans (.wrB _ (.inr (.inr rfl)) ..)).trans (.wrB _ (.inr (.inl rfl)) ..)
  · split
    · exact s.withdraw_tested i
    · exact s.deferTest_tested i

end Engine

/-! ### A core falls due -/

section Due
variable {s : State} {i : Nat}

theorem State.setTest_reads {w c st : Nat} (hc : c < 256) (hst : st < 8) : (s.setTest w c st).testState w = st ∧ (s.setTest w c st).testCore w = c := by
  unfold State.setTest State.testState State.testCore
  rw [State.rdF_wrF_same _ _ (by omega) (by omega), State.rdF_wrF_apart _ _ (by omega) (by omega) (by omega), State.rdF_wrF_same _ _ (by omega) (by omega)]
  exact ⟨Nat.mod_eq_of_lt hst, Nat.mod_eq_of_lt hc⟩

theorem State.testState_of_regs {s t : State} (h : t.regs = s.regs) (w : Nat) : t.testState w = s.testState w := State.rdF_of_regs h ..

/-- The next core of a wing is noted, and the beat at which this one fell due. -/
def State.fallsDue (s : State) (w i : Nat) : State :=
  { s with test := { s.test with nextCore := tput (fun _ => 0) s.test.nextCore w ((i - 72 * w + 1) % 72)
                                 dueAt := tput (fun _ => none) s.test.dueAt w (some s.now) } }

theorem rollingTestDue_due {w : Nat} (hw : w < 2) (hon : s.rdB rBstRot 31 = true) (hcore : i = s.dueCore w) (htime : s.dueTime w = true) :
    exec (.rollingTestDue w i) s = .next ((s.fallsDue w i).testDue i) := by
  refine congrArg Host.Outcome.next (if_pos ?_)
  simp [hon, hw, ← hcore, htime]

theorem rollingTestDue_early {w : Nat} (h : s.rdB rBstRot 31 = false ∨ i ≠ s.dueCore w ∨ s.dueTime w = false) :
    exec (.rollingTestDue w i) s = .next s := by
  refine congrArg Host.Outcome.next (if_neg ?_)
  rcases h with h | h | h
  · simp [h]
  · simp [h]
  · simp [h]

theorem wingOf_bounds (hi : i < 144) : 72 * wingOf i ≤ i ∧ i < 72 * wingOf i + 72 := by
  unfold wingOf
  split
  · omega
  · omega

theorem rollingTestDue_notes (hi : i < 144) (hon : s.rdB rBstRot 31 = true) (hcore : i = s.dueCore (wingOf i)) (htime : s.dueTime (wingOf i) = true) :
    ∃ t, exec (.rollingTestDue (wingOf i) i) s = .next t ∧ t.dueCore (wingOf i) = 72 * wingOf i + (i + 1 - 72 * wingOf i) % 72
      ∧ tget (fun _ => none) t.test.dueAt (wingOf i) = some s.now := by
  have hkeep := (s.fallsDue (wingOf i) i).testDue_tested i
  have hnext : (s.fallsDue (wingOf i) i).test.nextCore = tput (fun _ => 0) s.test.nextCore (wingOf i) ((i - 72 * wingOf i + 1) % 72) := rfl
  have hdue : (s.fallsDue (wingOf i) i).test.dueAt = tput (fun _ => none) s.test.dueAt (wingOf i) (some s.now) := rfl
  obtain ⟨hlo, -⟩ := wingOf_bounds hi
  refine ⟨_, rollingTestDue_due (wingOf_lt i) hon hcore htime, ?_, ?_⟩
  · rw [State.dueCore, hkeep.next, hnext, tget_tput_self, Nat.mod_mod, Nat.sub_add_comm hlo]
  · rw [hkeep.due, hdue, tget_tput_self]

/-- A core that may be tested, in a wing whose engine is free. -/
structure State.Testable (s : State) (i : Nat) : Prop where
  allowed : s.engineAllowed = true
  kept : (s.core i).retired = false
  free : s.testState (wingOf i) = 0
  staying : ∀ h ∈ s.handovers, h.old ≠ i

theorem State.Testable.fallsDue (h : s.Testable i) (w : Nat) : (s.fallsDue w i).Testable i := ⟨h.allowed, h.kept, h.free, h.staying⟩

theorem State.testDue_eq (h : s.Testable i) : s.testDue i = if (s.logical i).isNone then s.beginTest i else match s.spareFor (wingOf i) with
    | some _ => ((s.setTest (wingOf i) i 2).wrB (rCoreCtl i) 30 true).wrB (rCoreStat i) 5 (!s.fenced i)
    | none => if s.rdF rBstRot 15 0 = 0 then s.withdraw i else s.deferTest i := by
  have hno : s.handovers.any (fun h => h.old = i) = false := by
    rw [List.any_eq_false]
    exact fun x hx => by simpa using h.staying x hx
  unfold State.testDue
  dsimp only
  rw [if_neg (by simp [h.allowed, h.kept]), if_neg (by simp [h.free]), if_neg (by simp [hno])] <;> rfl

theorem rCore_apart (hi : i < 144) (w : Nat) : rBstWing w ≠ rCoreStat i ∧ rBstWing w ≠ rCoreCtl i ∧ rCoreCtl i ≠ rCoreStat i ∧ rCoreStat i ≠ rBeatStat
    ∧ rCoreStat i ≠ rPwrStat := by
  unfold rBstWing rCoreStat rCoreCtl rBeatStat rPwrStat bstReg coreReg beatReg pwrReg
  omega

theorem State.beginTest_stat (s : State) (hi : i < 144) : (s.beginTest i).rdB (rCoreStat i) 3 = true := by
  obtain ⟨-, -, -, h4, h5⟩ := rCore_apart hi 0
  have hbit : (s.testing i).rdB (rCoreStat i) 3 = true := State.rdB_wrB_same _ _ (by omega) _
  rw [s.beginTest_eq i]
  generalize s.testing i = v at hbit ⊢
  obtain ⟨u, e, hu, hr, -⟩ := v.firstSlice_adds i
  rw [hu, State.rdB, State.rd_addEvent _ _ h4 h5, State.rd, hr, ← State.rd, ← State.rdB, hbit]

theorem State.testDue_moves (h : s.Testable i) (hi : i < 144) (hlog : s.logical i ≠ none) (hsp : s.spareFor (wingOf i) ≠ none) :
    (s.testDue i).testState (wingOf i) = 2 ∧ (s.testDue i).testCore (wingOf i) = i ∧ (s.testDue i).rdB (rCoreCtl i) 30 = true
      ∧ (s.testDue i).rdB (rCoreStat i) 5 = !s.fenced i := by
  obtain ⟨h1, h2, h3, -⟩ := rCore_apart hi (wingOf i)
  obtain ⟨c, hc⟩ := Option.ne_none_iff_exists'.mp hsp
  obtain ⟨hst, hco⟩ := State.setTest_reads (s := s) (w := wingOf i) (c := i) (st := 2) (by omega) (by omega)
  rw [State.testDue_eq h, if_neg (by simpa [Option.isNone_iff_eq_none] using hlog), hc]
  dsimp only
  generalize s.setTest (wingOf i) i 2 = v at hst hco
  refine ⟨?_, ?_, ?_, State.rdB_wrB_same _ _ (by omega) _⟩
  · rw [State.testState, State.rdF_wrB_ne _ _ h1, State.rdF_wrB_ne _ _ h2]
    exact hst
  · rw [State.testCore, State.rdF_wrB_ne _ _ h1, State.rdF_wrB_ne _ _ h2]
    exact hco
  · rw [State.rdB_wrB_apart _ _ h3, State.rdB_wrB_same _ _ (by omega)]

/-- A wing's deferral noted. -/
def State.setDeferred (s : State) (w : Nat) (t : Test) (b : Option W64) : State :=
  { s with test := { t with deferred := tput (fun _ => none) t.deferred w b } }

theorem State.setDeferred_sets (s : State) (w : Nat) (t : Test) (b : Option W64) : (s.setDeferred w t b).regs = s.regs ∧ (s.setDeferred w t b).cores = s.cores
    ∧ tget (fun _ => none) (s.setDeferred w t b).test.deferred w = b := ⟨rfl, rfl, tget_tput_self ..⟩

theorem State.deferTest_eq (s : State) (i : Nat) : s.deferTest i = ((s.setTest (wingOf i) i 4).setDeferred (wingOf i) s.test (some s.now)).event uCore 0 i eBstDeferred := rfl

theorem Reported.testing {s t : State} (h : Reported s t) : t.regs = s.regs ∧ t.cores = s.cores ∧ t.test = s.test := by
  obtain ⟨_, _, _, _, _, _, rfl⟩ := h
  exact ⟨rfl, rfl, rfl⟩

theorem State.deferTest_defers (s : State) (hi : i < 144) : (s.deferTest i).testState (wingOf i) = 4
    ∧ tget (fun _ => none) (s.deferTest i).test.deferred (wingOf i) = some s.now := by
  obtain ⟨hst, -⟩ := State.setTest_reads (s := s) (w := wingOf i) (c := i) (st := 4) (by omega) (by omega)
  rw [State.deferTest_eq]
  generalize s.setTest (wingOf i) i 4 = v at hst
  obtain ⟨hregs, -, hd⟩ := v.setDeferred_sets (wingOf i) s.test (some s.now)
  generalize v.setDeferred (wingOf i) s.test (some s.now) = u at hregs hd
  obtain ⟨h1, -, h3⟩ := (u.event_reported uCore 0 i eBstDeferred).testing
  exact ⟨(State.testState_of_regs (h1.trans hregs) _).trans hst, by rw [h3, hd]⟩

/-- A core marked withdrawn, whose test runs with the pattern set in force. -/
def State.markWithdrawn (s : State) (i : Nat) : State :=
  let s := s.setCore i { s.core i with withdrawn := true, testNext := false }
  { s with test := { s.test with running := tput (fun _ => {}) s.test.running (wingOf i) (s.patternSet 1) } }

theorem State.markWithdrawn_marks (s : State) (i : Nat) : (s.markWithdrawn i).regs = s.regs ∧ ((s.markWithdrawn i).core i).withdrawn = true
    ∧ (s.markWithdrawn i).test.deferred = s.test.deferred := by
  have hcore := State.core_setCore_self s i { s.core i with withdrawn := true, testNext := false }
  exact ⟨rfl, congrArg Core.withdrawn hcore, rfl⟩

theorem State.withdrawing_eq (s : State) (i : Nat) :
    s.withdrawing i = (((s.setDeferred (wingOf i) s.test none).setTest (wingOf i) i 5).wrF (rBstWing (wingOf i)) 20 14 0).markWithdrawn i := rfl

theorem State.wrF_test (s : State) (o hi lo v : Nat) : (s.wrF o hi lo v).test = s.test := rfl

theorem State.withdrawing_withdraws (s : State) (hi : i < 144) : (s.withdrawing i).testState (wingOf i) = 5 ∧ ((s.withdrawing i).core i).withdrawn = true
    ∧ tget (fun _ => none) (s.withdrawing i).test.deferred (wingOf i) = none := by
  rw [State.withdrawing_eq]
  obtain ⟨-, -, hvd⟩ := s.setDeferred_sets (wingOf i) s.test none
  generalize s.setDeferred (wingOf i) s.test none = v at hvd
  obtain ⟨hst, -⟩ := State.setTest_reads (s := v) (w := wingOf i) (c := i) (st := 5) (by omega) (by omega)
  rw [← v.setTest_test (wingOf i) i 5] at hvd
  generalize v.setTest (wingOf i) i 5 = u at hst hvd
  have hst' : (u.wrF (rBstWing (wingOf i)) 20 14 0).testState (wingOf i) = 5 := by
    rw [State.testState, State.rdF_wrF_apart _ _ (by omega) (by omega) (by omega)]
    exact hst
  rw [← u.wrF_test (rBstWing (wingOf i)) 20 14 0] at hvd
  generalize u.wrF (rBstWing (wingOf i)) 20 14 0 = x at hst' hvd
  obtain ⟨h1, h2, h3⟩ := x.markWithdrawn_marks i
  exact ⟨(State.testState_of_regs h1 _).trans hst', h2, by rw [h3, hvd]⟩

theorem State.nextSlice_kept (s : State) {w : Nat} (hw : w < 2) (n : Nat) (b : W64) : (s.nextSlice w n b).testState w = s.testState w
    ∧ (s.nextSlice w n b).cores = s.cores ∧ (s.nextSlice w n b).test = s.test := by
  have hapart := (rBstWing_apart (w := w)).mpr (by omega)
  unfold State.nextSlice
  generalize ({ beat := b, kind := 7, part := 0xFF, ident := BitVec.ofNat 32 n, group := localGroup w, src := s.maddr } : Ev) = e
  refine ⟨s.rdF_addEvent e hapart.1 hapart.2 23 21, ?_⟩
  obtain ⟨regs, beat, h⟩ := s.addEvent_only e
  rw [h]
  exact ⟨rfl, rfl⟩

theorem State.withdraw_withdraws (s : State) (hi : i < 144) : (s.withdraw i).testState (wingOf i) = 5 ∧ ((s.withdraw i).core i).withdrawn = true
    ∧ tget (fun _ => none) (s.withdraw i).test.deferred (wingOf i) = none := by
  obtain ⟨h1, h2, h3⟩ := s.withdrawing_withdraws hi
  rw [State.withdraw_eq]
  generalize (s.withdrawing i).now = n
  generalize s.withdrawing i = v at h1 h2 h3
  obtain ⟨k1, k2, k3⟩ := (v.event_reported uCore 0 i eBstWithdrawn).testing
  generalize v.event uCore 0 i eBstWithdrawn = u at k1 k2 k3
  obtain ⟨n1, n2, n3⟩ := u.nextSlice_kept (wingOf_lt i) 0 n
  exact ⟨(n1.trans (State.testState_of_regs k1 _)).trans h1, by rw [State.core, n2, k2]; exact h2, by rw [n3, k3, h3]⟩

theorem testWithdraw_withdraws {b : W64} (hi : i < 144) (hd : tget (fun _ => none) s.test.deferred (wingOf i) = some b)
    (h4 : s.testState (wingOf i) = 4) (hc : s.testCore (wingOf i) = i) (hb : b.toNat + 65536 * s.rdF rBstRot 15 0 ≤ s.now.toNat) :
    ∃ t, exec (.testWithdraw (wingOf i)) s = .next t ∧ t.testState (wingOf i) = 5 ∧ (t.core i).withdrawn = true
      ∧ tget (fun _ => none) t.test.deferred (wingOf i) = none := by
  have hrun : execTestWithdraw (wingOf i) s = .next (s.withdraw i) := by
    unfold execTestWithdraw
    rw [hd]
    dsimp only
    rw [if_pos (by simp [h4, hb]), hc]
  exact ⟨_, hrun, s.withdraw_withdraws hi⟩

theorem testWithdraw_none {w : Nat} (hd : tget (fun _ => none) s.test.deferred w = none) : exec (.testWithdraw w) s = .next s := by
  have hrun : execTestWithdraw w s = .next s := by
    unfold execTestWithdraw
    rw [hd]
  exact hrun

end Due

/-! ### A test's result -/

section Result
variable {s : State} {i : Nat}

theorem Reported.foldl {α : Type} {f : State → α → State} (h : ∀ s a, Reported s (f s a)) (l : List α) (s : State) : Reported s (l.foldl f s) := by
  induction l generalizing s with
  | nil => exact .refl s
  | cons a l ih => exact (h s a).trans (ih _)

theorem State.blastReport_reported (s : State) (i : Nat) (err : W16) : Reported s (s.blastReport i err) :=
  (State.report_reported ..).trans (.foldl (fun _ _ => State.report_reported ..) _ _)

/-- The result of a test in BST_RESULT and BST_COV. -/
def State.tested (s : State) (w : Nat) (word cov : W32) : State := (s.wr (rBstResult w) word).wr (rBstCov w) cov

theorem State.testResult_eq (pass : Bool) (ms : Nat) (hc : s.testCore (wingOf i) = i) (h : s.testState (wingOf i) = 3 ∨ s.testState (wingOf i) = 5) :
    ∃ word cov, word = BitVec.ofNat 32 (i * 2 ^ 24 + (if pass then 2 ^ 23 else 0) + min 0xFFFF ms) ∧ s.testResult i pass ms =
      ((if pass then (((s.tested (wingOf i) word cov).endTest (wingOf i) i).testPassed i).report
          { unit := uCore, sev := 0, inst := i, err := 0, beat := 0, rseq := 0, detail := word.toNat }
        else ((s.tested (wingOf i) word cov).endTest (wingOf i) i).testFailed i).countSpares (wingOf i)).nextTest (wingOf i) := by
  refine ⟨_, BitVec.ofNat 32 ((tget (fun _ => ({} : PSet)) s.test.running (wingOf i)).sa % 2 ^ 14 * 2 ^ 18
    + (tget (fun _ => ({} : PSet)) s.test.running (wingOf i)).tr % 2 ^ 14 * 2 ^ 4), rfl, ?_⟩
  unfold State.testResult
  dsimp only
  rw [if_neg (by rcases h with h | h <;> simp [hc, h])]
  rfl

/-- The end of a test with its result: what the steps that follow rest on. -/
structure Ended (s u : State) (i : Nat) (word : W32) : Prop where
  result : u.rd (rBstResult (wingOf i)) = word
  idle : u.testState (wingOf i) = 0
  cores : u.cores = s.cores
  now : u.now = s.now
  map : u.spareMap = s.spareMap

theorem rBstResult_apart {w v : Nat} (hw : w < 2) (hv : v < 2) : rBstResult w ≠ rBstCov w ∧ rBstResult w ≠ rBstWing v ∧ rBstResult w ≠ rCoreStat i
    ∧ rBstResult w ≠ rCoreCtl i ∧ rBstResult w ≠ rBeatStat ∧ rBstResult w ≠ rPwrStat ∧ rBstResult w ≠ rLedgerCtl i ∧ rBstWing v ≠ rLedgerCtl i := by
  unfold rBstResult rBstCov rBstWing rCoreStat rCoreCtl rBeatStat rPwrStat rLedgerCtl bstReg coreReg beatReg pwrReg
  omega

theorem State.setTest_rd (s : State) {w o : Nat} (h : o ≠ rBstWing w) (c st : Nat) : (s.setTest w c st).rd o = s.rd o := by
  rw [State.setTest, State.wrF, State.rd_wr_ne _ _ _ _ h, State.wrF, State.rd_wr_ne _ _ _ _ h]

/-- The registers of a wing whose test is over. -/
def State.stopTest (s : State) (w i : Nat) : State := ((s.setTest w 0xFF 0).wrF (rBstWing w) 20 14 0).wrB (rCoreStat i) 3 false

theorem State.stopTest_only (s : State) (w i : Nat) : RegsOnly s (s.stopTest w i) := ((((RegsOnly.refl s).wrF ..).wrF ..).wrF ..).wrB ..

theorem State.endTest_eq (s : State) (w i : Nat) : s.endTest w i = (s.stopTest w i).setEvents ((s.stopTest w i).beat.events.filter (fun e => e.group ≠ localGroup w)) := rfl

theorem State.stopTest_stops (s : State) (hi : i < 144) : (s.stopTest (wingOf i) i).rd (rBstResult (wingOf i)) = s.rd (rBstResult (wingOf i))
    ∧ (s.stopTest (wingOf i) i).testState (wingOf i) = 0 := by
  have hw := wingOf_lt i
  obtain ⟨-, h2, h3, -⟩ := rBstResult_apart (i := i) hw hw
  have hcore := (rCore_apart hi (wingOf i)).1
  have hst := (State.setTest_reads (s := s) (w := wingOf i) (c := 0xFF) (st := 0) (by omega) (by omega)).1
  have hrd := s.setTest_rd h2 0xFF 0
  unfold State.stopTest
  generalize s.setTest (wingOf i) 0xFF 0 = u at hst hrd
  constructor
  · rw [State.wrB, State.rd_wr_ne _ _ _ _ h3, State.wrF, State.rd_wr_ne _ _ _ _ h2, hrd]
  · rw [State.testState, State.rdF_wrB_ne _ _ hcore, State.rdF_wrF_apart _ _ (by omega) (by omega) (by omega)]
    exact hst

theorem State.setEvents_rest (s : State) (l : List Ev) : (s.setEvents l).cores = s.cores ∧ (s.setEvents l).now = s.now ∧ (s.setEvents l).spareMap = s.spareMap :=
  ⟨rfl, rfl, rfl⟩

theorem State.tested_result (s : State) (w : Nat) (word cov : W32) : (s.tested w word cov).rd (rBstResult w) = word := by
  have h1 : rBstResult w ≠ rBstCov w := by
    unfold rBstResult rBstCov bstReg
    omega
  unfold State.tested
  rw [State.rd_wr_ne _ _ _ _ h1, State.rd_wr_self]

theorem State.tested_only (s : State) (w : Nat) (word cov : W32) : RegsOnly s (s.tested w word cov) := ⟨_, rfl⟩

theorem RegsOnly.rest {s t : State} (h : RegsOnly s t) : t.cores = s.cores ∧ t.now = s.now ∧ t.spareMap = s.spareMap := by
  obtain ⟨_, rfl⟩ := h
  exact ⟨rfl, rfl, rfl⟩

theorem State.endTest_ends (s : State) (hi : i < 144) (word cov : W32) : Ended s ((s.tested (wingOf i) word cov).endTest (wingOf i) i) i word := by
  have hw := wingOf_lt i
  obtain ⟨-, -, -, -, h5, h6, -⟩ := rBstResult_apart (i := i) hw hw
  have hapart := (rBstWing_apart (w := wingOf i)).mpr (by omega)
  have hres := s.tested_result (wingOf i) word cov
  obtain ⟨hc, hn, hm⟩ := (s.tested_only (wingOf i) word cov).rest
  generalize s.tested (wingOf i) word cov = v at hres hc hn hm
  obtain ⟨hrd, hst⟩ := v.stopTest_stops hi
  obtain ⟨hc', hn', hm'⟩ := (v.stopTest_only (wingOf i) i).rest
  rw [v.endTest_eq]
  generalize v.stopTest (wingOf i) i = x at hrd hst hc' hn' hm'
  generalize x.beat.events.filter (fun e => e.group ≠ localGroup (wingOf i)) = l
  obtain ⟨k1, k2, k3⟩ := x.setEvents_rest l
  exact ⟨((x.setEvents_fields l).2 _ h5 h6).trans (hrd.trans hres), (x.rdF_setEvents l hapart.1 hapart.2 23 21).trans hst, k1.trans (hc'.trans hc),
    k2.trans (hn'.trans hn), k3.trans (hm'.trans hm)⟩

/-- The wing goes on with another core: this one, which waits for no test, stays as it is. -/
theorem State.goesOn (hi : i < 144) (hidle : s.testState (wingOf i) = 0) (hnext : (s.core i).testNext = false) :
    (((s.countSpares (wingOf i)).nextTest (wingOf i)).core i) = s.core i
      ∧ ((s.countSpares (wingOf i)).nextTest (wingOf i)).rd (rBstResult (wingOf i)) = s.rd (rBstResult (wingOf i))
      ∧ ((s.countSpares (wingOf i)).nextTest (wingOf i)).rd (rCoreStat i) = s.rd (rCoreStat i) := by
  have hw := wingOf_lt i
  obtain ⟨-, h2, -⟩ := rBstResult_apart (i := i) hw hw
  obtain ⟨hcore, -, -, h4, h5⟩ := rCore_apart hi (wingOf i)
  have hu : ∃ u, u = s.countSpares (wingOf i) := ⟨_, rfl⟩
  obtain ⟨u, hu⟩ := hu
  have hidle' : u.testState (wingOf i) = 0 := by
    rw [hu, State.countSpares, State.testState, State.rdF_wrF_apart _ _ (by omega) (by omega) (by omega)]
    exact hidle
  have hkeep : u.core i = s.core i ∧ u.rd (rBstResult (wingOf i)) = s.rd (rBstResult (wingOf i)) ∧ u.rd (rCoreStat i) = s.rd (rCoreStat i) := by
    rw [hu, State.countSpares, State.wrF, State.rd_wr_ne _ _ _ _ h2, State.rd_wr_ne _ _ _ _ hcore.symm]
    exact ⟨rfl, rfl, rfl⟩
  rw [← hu, ← hkeep.1, ← hkeep.2.1, ← hkeep.2.2]
  unfold State.nextTest
  rw [if_neg (by omega), if_pos hidle']
  split
  · next j hj =>
    have hmem := List.mem_of_find?_eq_some hj
    have hlt := lt_of_mem_wingCores hmem
    have hjw : wingOf j = wingOf i := by
      have hb := wingOf_bounds hlt
      simp only [wingCores, span, List.mem_map, List.mem_range] at hmem
      omega
    have hne : i ≠ j := by
      intro e
      have hsome := List.find?_some hj
      rw [← e, hkeep.1, hnext] at hsome
      cases hsome
    have hkept := u.testDue_tested j
    rw [hjw] at hkept
    obtain ⟨-, -, h3', h4', h5', h6', -⟩ := rBstResult_apart (i := j) hw hw
    refine ⟨hkept.core i hne, hkept.rd _ h2 h3' h4' h5' h6', hkept.rd _ hcore.symm ?_ ?_ h4 h5⟩
    · unfold rCoreStat coreReg
      omega
    · unfold rCoreStat rCoreCtl coreReg
      omega
  · exact ⟨rfl, rfl, rfl⟩

theorem State.clearLedger_clears (s : State) (i : Nat) : ((s.clearLedger i).core i).ledger = [] ∧ (s.clearLedger i).now = s.now
    ∧ ∀ o, o ≠ rLedgerCtl i → (s.clearLedger i).rd o = s.rd o := by
  have hcore := s.core_setCore_self i { s.core i with ledger := [], spilled := 0 }
  have hnow : (s.setCore i { s.core i with ledger := [], spilled := 0 }).now = s.now := rfl
  have hrd : ∀ o, (s.setCore i { s.core i with ledger := [], spilled := 0 }).rd o = s.rd o := fun _ => rfl
  unfold State.clearLedger
  generalize s.setCore i { s.core i with ledger := [], spilled := 0 } = v at hcore hnow hrd
  exact ⟨(congrArg Core.ledger hcore :), hnow, fun o ho => (State.rd_wr_ne _ _ _ _ ho).trans (hrd o)⟩

/-- A core marked passed. -/
def State.markPassed (s : State) (i : Nat) : State := s.setCore i { s.core i with passed := true, lastPass := s.now, withdrawn := false, testNext := false }

theorem State.markPassed_marks (s : State) (i : Nat) : ((s.markPassed i).core i).passed = true ∧ ((s.markPassed i).core i).lastPass = s.now
    ∧ ((s.markPassed i).core i).ledger = (s.core i).ledger ∧ ((s.markPassed i).core i).testNext = false ∧ (s.markPassed i).regs = s.regs := by
  have hcore := s.core_setCore_self i { s.core i with passed := true, lastPass := s.now, withdrawn := false, testNext := false }
  unfold State.markPassed
  rw [hcore]
  exact ⟨rfl, rfl, rfl, rfl, rfl⟩

/-- The fence of a core opens, and its planned hand-over is off. -/
def State.openCore (s : State) (i : Nat) : State := ((s.wrB (rCoreCtl i) 31 false).wrB (rCoreStat i) 6 false).wrB (rCoreCtl i) 30 false

theorem State.openCore_opens (s : State) (hi : i < 144) : (s.openCore i).rd (rBstResult (wingOf i)) = s.rd (rBstResult (wingOf i))
    ∧ (s.openCore i).testState (wingOf i) = s.testState (wingOf i) ∧ (s.openCore i).cores = s.cores ∧ (s.openCore i).rdB (rCoreStat i) 6 = false := by
  have hw := wingOf_lt i
  obtain ⟨-, -, h3, h4, -⟩ := rBstResult_apart (i := i) hw hw
  obtain ⟨hb1, hb2, hb3, -⟩ := rCore_apart hi (wingOf i)
  unfold State.openCore
  refine ⟨?_, ?_, rfl, ?_⟩
  · rw [State.wrB, State.rd_wr_ne _ _ _ _ h4, State.wrB, State.rd_wr_ne _ _ _ _ h3, State.wrB, State.rd_wr_ne _ _ _ _ h4]
  · rw [State.testState, State.rdF_wrB_ne _ _ hb2, State.rdF_wrB_ne _ _ hb1, State.rdF_wrB_ne _ _ hb2, State.testState]
  · rw [State.rdB_wrB_apart _ _ hb3.symm, State.rdB_wrB_same _ _ (by omega)]

theorem State.testPassed_eq (s : State) (i : Nat) : ∃ pa n, s.testPassed i = (((s.clearLedger i).markPassed i).zeroFill pa n).openCore i := ⟨_, _, rfl⟩

theorem State.zeroFill_test (s : State) (pa n : Nat) (hw : w < 2) : (s.zeroFill pa n).rd (rBstResult w) = s.rd (rBstResult w)
    ∧ (s.zeroFill pa n).testState w = s.testState w ∧ (s.zeroFill pa n).cores = s.cores := by
  have hz := s.zeroFill_handled pa n
  have hnot : ¬ handledReg (rBstResult w) ∧ ¬ handledReg (rBstWing w) := by
    unfold handledReg rBstResult rBstWing rMemChan bstReg memReg
    omega
  refine ⟨hz.regs _ hnot.1, by rw [State.testState, State.rdF, hz.regs _ hnot.2, State.testState, State.rdF], ?_⟩
  obtain ⟨_, _, _, _, h⟩ := s.zeroFill_store pa n
  rw [h]

/-- What a passed test leaves (R560, R562, R563). -/
theorem State.testPassed_passes (s : State) (hi : i < 144) : ((s.testPassed i).core i).passed = true ∧ ((s.testPassed i).core i).lastPass = s.now
    ∧ ((s.testPassed i).core i).ledger = [] ∧ ((s.testPassed i).core i).testNext = false ∧ (s.testPassed i).rdB (rCoreStat i) 6 = false
    ∧ (s.testPassed i).rd (rBstResult (wingOf i)) = s.rd (rBstResult (wingOf i)) ∧ (s.testPassed i).testState (wingOf i) = s.testState (wingOf i) := by
  have hw := wingOf_lt i
  obtain ⟨-, -, -, -, -, -, h7, h8⟩ := rBstResult_apart (i := i) hw hw
  obtain ⟨pa, n, hpass⟩ := s.testPassed_eq i
  rw [hpass]
  obtain ⟨hled, hnow, hrd⟩ := s.clearLedger_clears i
  generalize s.clearLedger i = u at hled hnow hrd
  obtain ⟨m1, m2, m3, m4, m5⟩ := u.markPassed_marks i
  generalize u.markPassed i = v at m1 m2 m3 m4 m5
  obtain ⟨z1, z2, z3⟩ := v.zeroFill_test pa n hw
  generalize v.zeroFill pa n = x at z1 z2 z3
  obtain ⟨o1, o2, o3, o4⟩ := x.openCore_opens hi
  generalize x.openCore i = y at o1 o2 o3 o4
  have hcore : y.core i = v.core i := by rw [State.core, o3, z3, State.core]
  have hvrd : ∀ o, v.rd o = u.rd o := fun o => by rw [State.rd, m5, State.rd]
  refine ⟨by rw [hcore, m1], by rw [hcore, m2, hnow], by rw [hcore, m3, hled], by rw [hcore, m4], o4, ?_, ?_⟩
  · rw [o1, z1, hvrd, hrd _ h7]
  · rw [o2, z2, State.testState, State.rdF, hvrd, hrd _ h8, State.testState, State.rdF]

theorem coreTestResult_passes {ms : Nat} (hi : i < 144) (hc : s.testCore (wingOf i) = i) (h : s.testState (wingOf i) = 3 ∨ s.testState (wingOf i) = 5) :
    ∃ t, exec (.coreTestResult i true ms) s = .next t ∧ (t.core i).passed = true ∧ (t.core i).lastPass = s.now ∧ (t.core i).ledger = []
      ∧ t.fenced i = false ∧ t.rd (rBstResult (wingOf i)) = BitVec.ofNat 32 (i * 2 ^ 24 + 2 ^ 23 + min 0xFFFF ms) := by
  obtain ⟨word, cov, hword, hrun⟩ := State.testResult_eq true ms hc h
  have hend := s.endTest_ends hi word cov
  rw [if_pos rfl] at hrun hword
  generalize (s.tested (wingOf i) word cov).endTest (wingOf i) i = u at hrun hend
  obtain ⟨hres, hidle, -, hnow, -⟩ := hend
  obtain ⟨p1, p2, p3, p4, p5, p6, p7⟩ := u.testPassed_passes hi
  generalize u.testPassed i = y at hrun p1 p2 p3 p4 p5 p6 p7
  obtain ⟨k1, k2, -⟩ := (y.report_reported { unit := uCore, sev := 0, inst := i, err := 0, beat := 0, rseq := 0, detail := word.toNat }).testing
  generalize y.report { unit := uCore, sev := 0, inst := i, err := 0, beat := 0, rseq := 0, detail := word.toNat } = z at hrun k1 k2
  have hcore : z.core i = y.core i := by rw [State.core, k2, State.core]
  have hrd : ∀ o, z.rd o = y.rd o := fun o => by rw [State.rd, k1, State.rd]
  obtain ⟨hg1, hg2, hg3⟩ := State.goesOn (s := z) hi ((State.testState_of_regs k1 _).trans (p7.trans hidle)) (by rw [hcore, p4])
  refine ⟨_, congrArg Host.Outcome.next hrun, by rw [hg1, hcore, p1], by rw [hg1, hcore, p2, hnow], by rw [hg1, hcore, p3], ?_, ?_⟩
  · rw [State.fenced, State.rdB, hg3, hrd, ← State.rdB, p5]
  · rw [hg2, hrd, p6, hres, hword]

/-- A core marked failed, and retired. -/
def State.markFailed (s : State) (i : Nat) : State :=
  s.setCore i { s.core i with passed := false, retired := true, withdrawn := false, testNext := false }

theorem State.markFailed_marks (s : State) (i : Nat) : ((s.markFailed i).core i).passed = false ∧ ((s.markFailed i).core i).retired = true
    ∧ ((s.markFailed i).core i).testNext = false ∧ (s.markFailed i).regs = s.regs ∧ (s.markFailed i).spareMap = s.spareMap := by
  have hcore := s.core_setCore_self i { s.core i with passed := false, retired := true, withdrawn := false, testNext := false }
  unfold State.markFailed
  rw [hcore]
  exact ⟨rfl, rfl, rfl, rfl, rfl⟩

theorem State.testFailed_eq (s : State) (i : Nat) : s.testFailed i = if (((s.blastReport i eBstFail).markFailed i).logical i).isSome then
    ((s.blastReport i eBstFail).markFailed i).faultTakeover i ⟨0, none⟩ [] else (s.blastReport i eBstFail).markFailed i := rfl

theorem State.rd_of_same_regs {s t : State} (h : t.regs = s.regs) (o : Nat) : t.rd o = s.rd o := by rw [State.rd, h, State.rd]

theorem State.logical_of_map {s t : State} (h : t.spareMap = s.spareMap) (i : Nat) : t.logical i = s.logical i := by
  unfold State.logical State.phys
  rw [h]

theorem Reported.spareMap {s t : State} (h : Reported s t) : t.spareMap = s.spareMap := by
  obtain ⟨_, _, _, _, _, _, rfl⟩ := h
  rfl

theorem coreTestResult_fails {ms : Nat} (hi : i < 144) (hc : s.testCore (wingOf i) = i) (h : s.testState (wingOf i) = 3 ∨ s.testState (wingOf i) = 5)
    (hlog : s.logical i = none) : ∃ t, exec (.coreTestResult i false ms) s = .next t ∧ (t.core i).passed = false ∧ (t.core i).retired = true
      ∧ t.rd (rBstResult (wingOf i)) = BitVec.ofNat 32 (i * 2 ^ 24 + min 0xFFFF ms) := by
  obtain ⟨word, cov, hword, hrun⟩ := State.testResult_eq false ms hc h
  have hend := s.endTest_ends hi word cov
  rw [if_neg (by decide)] at hrun hword
  generalize (s.tested (wingOf i) word cov).endTest (wingOf i) i = u at hrun hend
  obtain ⟨hres, hidle, -, -, hmap⟩ := hend
  have hrep := u.blastReport_reported i eBstFail
  rw [u.testFailed_eq] at hrun
  generalize u.blastReport i eBstFail = x at hrun hrep
  obtain ⟨m1, m2, m3, m4, m5⟩ := x.markFailed_marks i
  generalize x.markFailed i = v at hrun m1 m2 m3 m4 m5
  rw [State.logical_of_map (m5.trans (hrep.spareMap.trans hmap)), hlog, if_neg (by decide)] at hrun
  have hregs : v.regs = u.regs := m4.trans hrep.regs
  obtain ⟨hg1, hg2, -⟩ := State.goesOn (s := v) hi ((State.testState_of_regs hregs _).trans hidle) m3
  exact ⟨_, congrArg Host.Outcome.next hrun, by rw [hg1, m1], by rw [hg1, m2], by rw [hg2, State.rd_of_same_regs hregs, hres, hword, Nat.add_zero]⟩

theorem coreTestResult_other {p : Bool} {ms : Nat} (hc : s.testCore (wingOf i) ≠ i) : exec (.coreTestResult i p ms) s = .next s :=
  congrArg Host.Outcome.next (if_pos (by simp [hc]))

end Result

/-! ### Lanes, reports and the check counts -/

section Rest
variable {s : State}

/-- A spare lane of a direction taken. -/
def State.takeLane (s : State) (d : Nat) : State :=
  { s with fab := { s.fab with hallUsed := tput (fun _ => 0) s.fab.hallUsed d (tget (fun _ => 0) s.fab.hallUsed d + 1) } }

theorem State.takeLane_takes (s : State) (d : Nat) : tget (fun _ => 0) (s.takeLane d).fab.hallUsed d = tget (fun _ => 0) s.fab.hallUsed d + 1 :=
  tget_tput_self (fun _ => 0) s.fab.hallUsed d (tget (fun _ => 0) s.fab.hallUsed d + 1)

theorem Handled.fab {s t : State} (h : Handled s t) : t.fab = s.fab := by rw [h.only]

theorem hallwayLaneSpare_takes {d l : Nat} (h : tget (fun _ => 0) s.fab.hallUsed d < 16) : ∃ t, exec (.hallwayLaneSpare d l) s = .next t
    ∧ tget (fun _ => 0) t.fab.hallUsed d = tget (fun _ => 0) s.fab.hallUsed d + 1 :=
  ⟨(s.takeLane d).spareUsed uHall (272 * d + l), congrArg Host.Outcome.next (if_pos h),
    by rw [((s.takeLane d).spareUsed_handled uHall (272 * d + l)).fab, s.takeLane_takes d]⟩

theorem hallwayLaneSpare_none {d l : Nat} (h : 16 ≤ tget (fun _ => 0) s.fab.hallUsed d) : ∃ t, exec (.hallwayLaneSpare d l) s = .next t
    ∧ t.fab = s.fab ∧ t.mem = s.mem := by
  have hrep : Reported s (s.noSpare uHall (272 * d + l)) := s.event_reported ..
  exact ⟨_, congrArg Host.Outcome.next (if_neg (by omega)), hrep.fab, hrep.mem⟩

theorem State.dueSummaries_reported (s : State) : Reported s s.dueSummaries := by
  unfold State.dueSummaries
  refine Reported.foldl (fun s e => ?_) _ s
  split
  · exact s.summary_reported _
  · exact .refl s

theorem State.dueSummaries_keeps_sent (s : State) : s.dueSummaries.rsent = s.rsent ∧ s.dueSummaries.resend = s.resend
    ∧ s.dueSummaries.maddr = s.maddr ∧ s.dueSummaries.host.keys = s.host.keys := by
  have h := s.dueSummaries_reported
  refine ⟨?_, ?_, State.rdF_of_regs h.regs .., ?_⟩
  all_goals
    obtain ⟨_, _, _, _, _, _, ht⟩ := h
    rw [ht]

theorem State.datagram_due (s : State) (l : List Report) : s.dueSummaries.datagram l = s.datagram l := by
  obtain ⟨-, -, hm, hk⟩ := s.dueSummaries_keeps_sent
  unfold State.datagram State.key
  rw [hm, hk]

/-- The records that have not been sent. -/
def State.unsent (s : State) : List Report := (s.dueSummaries.reports.filter (fun r => decide ((r.rseq - s.rsent).toNat < 2 ^ 31))).take 16

theorem nativeReportSend_eq : execNativeReportSend s = if s.resend ≠ [] then
    .next (({ s.dueSummaries with resend := s.resend.drop 16 } : State).answer
      (s.datagram (s.dueSummaries.reports.filter (fun r => (s.resend.take 16).contains r.rseq))))
    else match s.unsent.getLast? with
    | none => .next s.dueSummaries
    | some r => .next (({ s.dueSummaries with rsent := r.rseq + 1 } : State).answer (s.datagram s.unsent)) := by
  obtain ⟨h1, h2, -⟩ := s.dueSummaries_keeps_sent
  unfold execNativeReportSend State.unsent
  simp only [h1, h2, State.datagram_due] <;> rfl

theorem nativeReportSend_new {r : Report} (hno : s.resend = []) (hlast : s.unsent.getLast? = some r) :
    exec .nativeReportSend s = .next (({ s.dueSummaries with rsent := r.rseq + 1 } : State).answer (s.datagram s.unsent)) := by
  rw [exec_nativeReportSend, nativeReportSend_eq, if_neg (by simp [hno]), hlast]

theorem nativeReportSend_none (hno : s.resend = []) (hall : ∀ r ∈ s.dueSummaries.reports, 2 ^ 31 ≤ (r.rseq - s.rsent).toNat) :
    exec .nativeReportSend s = .next s.dueSummaries := by
  have hunsent : s.unsent = [] := by
    unfold State.unsent
    rw [List.filter_eq_nil_iff.mpr fun r hr => by simpa using hall r hr, List.take_nil]
  rw [exec_nativeReportSend, nativeReportSend_eq, if_neg (by simp [hno]), hunsent]
  rfl

theorem nativeReportSend_again (hsome : s.resend ≠ []) : exec .nativeReportSend s = .next (({ s.dueSummaries with resend := s.resend.drop 16 } : State).answer
    (s.datagram (s.dueSummaries.reports.filter (fun r => (s.resend.take 16).contains r.rseq)))) := by
  rw [exec_nativeReportSend, nativeReportSend_eq, if_pos hsome]

theorem bstCheckRead_clears : ∃ t, exec .bstCheckRead s = .next t ∧ t.resp = leBytes 4 (s.rd rBstCheck).toNat ∧ t.rd rBstCheck = 0
    ∧ t = { s with regs := t.regs, resp := t.resp } := ⟨_, rfl, rfl, s.rd_wr_self rBstCheck 0, rfl⟩

theorem rollingTestDue_tests {i : Nat} (hi : i < 144) (hon : s.rdB rBstRot 31 = true) (hcore : i = s.dueCore (wingOf i)) (htime : s.dueTime (wingOf i) = true)
    (h : s.Testable i) :
    (s.logical i = none → ∃ t, exec (.rollingTestDue (wingOf i) i) s = .next t ∧ t.testState (wingOf i) = 3 ∧ t.testCore (wingOf i) = i
      ∧ t.rdB (rCoreStat i) 3 = true)
    ∧ (s.logical i ≠ none → s.spareFor (wingOf i) ≠ none → ∃ t, exec (.rollingTestDue (wingOf i) i) s = .next t ∧ t.testState (wingOf i) = 2
      ∧ t.testCore (wingOf i) = i ∧ t.rdB (rCoreCtl i) 30 = true ∧ t.rdB (rCoreStat i) 5 = !s.fenced i)
    ∧ (s.logical i ≠ none → s.spareFor (wingOf i) = none → s.rdF rBstRot 15 0 ≠ 0 → ∃ t, exec (.rollingTestDue (wingOf i) i) s = .next t
      ∧ t.testState (wingOf i) = 4 ∧ tget (fun _ => none) t.test.deferred (wingOf i) = some s.now)
    ∧ (s.logical i ≠ none → s.spareFor (wingOf i) = none → s.rdF rBstRot 15 0 = 0 → ∃ t, exec (.rollingTestDue (wingOf i) i) s = .next t
      ∧ t.testState (wingOf i) = 5 ∧ (t.core i).withdrawn = true) := by
  have hrun := rollingTestDue_due (wingOf_lt i) hon hcore htime
  have ht := h.fallsDue (wingOf i)
  have hlog : (s.fallsDue (wingOf i) i).logical i = s.logical i := rfl
  have hsp : (s.fallsDue (wingOf i) i).spareFor (wingOf i) = s.spareFor (wingOf i) := rfl
  have hfen : (s.fallsDue (wingOf i) i).fenced i = s.fenced i := rfl
  have hdefer : (s.fallsDue (wingOf i) i).rdF rBstRot 15 0 = s.rdF rBstRot 15 0 := State.rdF_of_regs rfl ..
  have hnow : (s.fallsDue (wingOf i) i).now = s.now := rfl
  rw [hrun]
  generalize s.fallsDue (wingOf i) i = u at *
  rw [← hlog, ← hsp, ← hfen, ← hdefer, ← hnow]
  refine ⟨fun hl => ⟨_, rfl, ?_⟩, fun hl hs => ⟨_, rfl, State.testDue_moves ht hi hl hs⟩, fun hl hs hd => ⟨_, rfl, ?_⟩, fun hl hs hd => ⟨_, rfl, ?_⟩⟩
  · rw [State.testDue_eq ht, if_pos (by rw [hl]; rfl)]
    obtain ⟨h1, h2, -⟩ := u.beginTest_begins hi
    exact ⟨h1, h2, u.beginTest_stat hi⟩
  · rw [State.testDue_eq ht, if_neg (by simpa [Option.isNone_iff_eq_none] using hl), hs]
    dsimp only
    rw [if_neg hd]
    exact u.deferTest_defers hi
  · rw [State.testDue_eq ht, if_neg (by simpa [Option.isNone_iff_eq_none] using hl), hs]
    dsimp only
    rw [if_pos hd]
    obtain ⟨h1, h2, -⟩ := u.withdraw_withdraws hi
    exact ⟨h1, h2⟩

/-- Settles O48. -/
theorem reliability : Obligations.Reliability := by
  unfold Obligations.Reliability
  rintro s i _ hi rfl
  exact ⟨fun hon hcore htime hal hret h0 hho => rollingTestDue_tests hi hon hcore htime ⟨hal, hret, h0, hho⟩, rollingTestDue_early,
    rollingTestDue_notes hi, fun b => testWithdraw_withdraws hi, testWithdraw_none, fun ms => coreTestResult_passes hi, fun ms => coreTestResult_fails hi,
    fun p ms => coreTestResult_other, fun d l => hallwayLaneSpare_takes, fun d l => hallwayLaneSpare_none, fun hno r => nativeReportSend_new hno,
    nativeReportSend_none, nativeReportSend_again, bstCheckRead_clears⟩

end Rest

end Sys2Proof.Machine
end

section
/-! PROOFS. Commands from their ring to their start (R249 to R251, R253, R297, R537, R541). -/

namespace Sys2Proof.Machine

/-! ### Live commands and rings -/

section Live
variable {s t u : State} {n dc : Nat} {k : Cmd}

/-- t has the live commands and the rings of s. -/
structure SameCmds (s t : State) : Prop where
  cmds : t.cmds = s.cmds
  rings : t.rings = s.rings

namespace SameCmds

theorem refl (s : State) : SameCmds s s := ⟨rfl, rfl⟩

theorem trans (h : SameCmds s t) (h' : SameCmds t u) : SameCmds s u := ⟨h'.cmds.trans h.cmds, h'.rings.trans h.rings⟩

theorem foldl {α : Type} {f : State → α → State} (h : ∀ s a, SameCmds s (f s a)) (l : List α) (s : State) : SameCmds s (l.foldl f s) := by
  induction l generalizing s with
  | nil => exact .refl s
  | cons a l ih => exact (h s a).trans (ih _)

theorem handled (h : Handled s t) : SameCmds s t := by
  have honly := h.only
  unfold MemOnly at honly
  rw [honly]
  exact ⟨rfl, rfl⟩

theorem reported (h : Reported s t) : SameCmds s t := handled (.reported h)

theorem counted (h : Counted s t) : SameCmds s t := by
  unfold Counted at h
  rw [h]
  exact ⟨rfl, rfl⟩

theorem latches (h : LatchesOnly s t) : SameCmds s t := ⟨h.cmds, h.rings⟩

theorem cmd (h : SameCmds s t) (ring dc : Nat) : t.cmd ring dc = s.cmd ring dc := by rw [State.cmd, h.cmds, State.cmd]

theorem ring (h : SameCmds s t) (n : Nat) : t.ring n = s.ring n := by rw [State.ring, h.rings, State.ring]

end SameCmds

theorem State.cmd_ids (h : s.cmd n dc = some k) : k.ring = n ∧ k.dcount = dc := by
  have hp := List.find?_some h
  simpa using hp

theorem State.cmd_updCmd_self {f : Cmd → Cmd} (hring : ∀ k, (f k).ring = k.ring) (hdc : ∀ k, (f k).dcount = k.dcount) :
    (s.updCmd n dc f).cmd n dc = (s.cmd n dc).map f := by
  unfold State.cmd State.updCmd
  dsimp only
  induction s.cmds with
  | nil => rfl
  | cons x l ih =>
    rw [List.map_cons, List.find?_cons, List.find?_cons]
    by_cases hx : (x.ring = n && x.dcount = dc) = true
    · rw [if_pos hx, hring, hdc, hx]
      rfl
    · rw [if_neg hx, Bool.eq_false_iff.mpr hx]
      exact ih

/-! ### Failed commands -/

theorem State.rings_haltRing (cause : Nat) (err : W16) : (s.haltRing n cause err).rings
    = if (s.ring n).st = .running then tput (fun _ => {}) s.rings n { s.ring n with st := .halted, cause, lasterr := err } else s.rings := by
  unfold State.haltRing
  dsimp only
  split <;> rfl

theorem State.haltRing_congr (h : t.rings = s.rings) (n cause : Nat) (err : W16) : (t.haltRing n cause err).rings = (s.haltRing n cause err).rings := by
  rw [State.rings_haltRing, State.rings_haltRing, State.ring, State.ring, h]

theorem State.ring_failCmd (hk : s.cmd n dc = some k) (hphase : k.phase ≠ .failed) (code : W16) (detail j : Nat) :
    (s.failCmd n dc code detail).ring j = if j = n ∧ (s.ring n).st = .running then
      { s.ring n with st := .halted, cause := 1, lasterr := code } else s.ring j := by
  have hring : (s.failCmd n dc code detail).ring j = (s.haltRing n 1 code).ring j := by
    unfold State.failCmd
    rw [hk]
    dsimp only
    rw [if_neg hphase, (SameCmds.reported (State.report_reported _ _)).ring]
    generalize hu : (s.updCmd n dc (fun k => { k with phase := .failed, err := code, detail, beatEnd := s.now, toReissue := [] })).endThreads n dc = u
    have hrings : u.rings = s.rings := by
      rw [← hu]
      rfl
    rw [State.ring, State.haltRing_congr ((u.breakOwned_latchesOnly k.part k.seq).rings.trans hrings), State.ring]
  rw [hring]
  unfold State.haltRing
  dsimp only
  by_cases hrun : (s.ring n).st = .running
  · rw [if_pos hrun, State.ring_setRing]
    simp only [hrun, and_true]
  · rw [if_neg hrun, if_neg (fun h => hrun h.2)]

theorem State.cmd_failCmd (hk : s.cmd n dc = some k) (hphase : k.phase ≠ .failed) (code : W16) (detail : Nat) :
    (s.failCmd n dc code detail).cmd n dc = some (k.failed code detail s.now) := by
  have hmap := State.cmd_updCmd_self (s := s) (n := n) (dc := dc) (f := Cmd.failed code detail s.now) (fun _ => rfl) (fun _ => rfl)
  rw [hk] at hmap
  rw [State.cmd, State.cmds_failCmd hk hphase]
  exact hmap

theorem State.refuse_refuses (hk : s.cmd k.ring k.dcount = some k) (hphase : k.phase ≠ .failed) (code : W16) (order : Nat) :
    ∃ k', (s.refuse k code order).cmd k.ring k.dcount = some k' ∧ k'.desc = k.desc ∧ k'.part = k.part ∧ k'.takenAt = k.takenAt
      ∧ (k'.phase = .failed ∧ k'.err = code ∧ k'.detail = order ∧ k'.refused = true)
      ∧ ((s.refuse k code order).ring k.ring).head = (s.ring k.ring).head := by
  have hupd : (s.updCmd k.ring k.dcount (fun k => { k with refused := true })).cmd k.ring k.dcount = some { k with refused := true } := by
    rw [State.cmd_updCmd_self (f := fun k => { k with refused := true }) (fun _ => rfl) (fun _ => rfl), hk]
    rfl
  refine ⟨_, State.cmd_failCmd hupd hphase code order, rfl, rfl, rfl, ⟨rfl, rfl, rfl, rfl⟩, ?_⟩
  unfold State.refuse
  rw [State.ring_failCmd hupd hphase]
  split <;> rfl

end Live

/-! ### Checks of a taken command -/

section Check
variable {s t u : State} {n dc : Nat}

/-- In t the command dc of ring n is that of s as far as its descriptor and its taking say, and the ring's HEAD stands. -/
structure Weighed (n dc : Nat) (s t : State) : Prop where
  head : (t.ring n).head = (s.ring n).head
  cmd : ∀ k, s.cmd n dc = some k → ∃ k', t.cmd n dc = some k' ∧ k'.desc = k.desc ∧ k'.part = k.part ∧ k'.takenAt = k.takenAt

namespace Weighed

theorem trans (h : Weighed n dc s t) (h' : Weighed n dc t u) : Weighed n dc s u := by
  refine ⟨h'.head.trans h.head, fun k hk => ?_⟩
  obtain ⟨k', hk', hdesc, hpart, hat⟩ := h.cmd k hk
  obtain ⟨k'', hk'', hdesc', hpart', hat'⟩ := h'.cmd k' hk'
  exact ⟨k'', hk'', hdesc'.trans hdesc, hpart'.trans hpart, hat'.trans hat⟩

theorem same (h : SameCmds s t) : Weighed n dc s t :=
  ⟨by rw [h.ring], fun k hk => ⟨k, by rw [h.cmd, hk], rfl, rfl, rfl⟩⟩

theorem refl (s : State) : Weighed n dc s s := same (.refl s)

theorem updCmd (s : State) {f : Cmd → Cmd} (hring : ∀ k, (f k).ring = k.ring) (hdc : ∀ k, (f k).dcount = k.dcount)
    (hdesc : ∀ k, (f k).desc = k.desc) (hpart : ∀ k, (f k).part = k.part) (hat : ∀ k, (f k).takenAt = k.takenAt) :
    Weighed n dc s (s.updCmd n dc f) :=
  ⟨rfl, fun k hk => ⟨f k, by rw [State.cmd_updCmd_self hring hdc, hk]; rfl, hdesc k, hpart k, hat k⟩⟩

theorem failCmd (s : State) (code : W16) (detail : Nat) : Weighed n dc s (s.failCmd n dc code detail) := by
  cases hk : s.cmd n dc with
  | none => exact ⟨by rw [State.failCmd, hk], fun k h => nomatch hk.symm.trans h⟩
  | some k =>
    by_cases hphase : k.phase = .failed
    · rw [State.failCmd, hk]
      dsimp only
      rw [if_pos hphase]
      exact .refl s
    · refine ⟨?_, fun k₁ h => ?_⟩
      · rw [State.ring_failCmd hk hphase]
        split <;> rfl
      · obtain rfl := Option.some.inj (hk.symm.trans h)
        exact ⟨_, State.cmd_failCmd hk hphase code detail, rfl, rfl, rfl⟩

theorem refuse (s : State) (k : Cmd) (code : W16) (order : Nat) : Weighed k.ring k.dcount s (s.refuse k code order) :=
  (updCmd s (f := fun k => { k with refused := true }) (fun _ => rfl) (fun _ => rfl) (fun _ => rfl) (fun _ => rfl) (fun _ => rfl)).trans
    (failCmd ..)

end Weighed

theorem State.wcPoison_reported (s : State) (k : Cmd) (a : Nat) : Reported s (s.wcPoison k a) := by
  unfold State.wcPoison State.logPoison
  exact s.report_reported _

theorem State.wcRead_same (s : State) (k : Cmd) (a n : Nat) : SameCmds s (s.wcRead k a n).1 :=
  ((SameCmds.handled (s.readMem_handled ..)).trans (.counted (State.countMem_counted ..))).trans
    (SameCmds.foldl (fun s g => .reported (s.wcPoison_reported k g)) _ _)

/-- Orders 3 to 8 of R297, once the parameter block is read. -/
def State.checkSegs (s : State) (k : Cmd) : State :=
  if k.opcode = 1 && !s.inPart k.part k.mSegtab (32 * k.mNseg) then s.refuse k eMemBounds 3
  else
    let t := if k.opcode = 1 then s.wcRead k k.mSegtab (32 * k.mNseg) else (s, none, [])
    match t.2.1 with
    | some _ => t.1.refuse k eMemPoison 3
    | none =>
      let k := { k with segs := t.2.2 }
      let s := t.1.updCmd k.ring k.dcount (fun c => { c with segs := t.2.2 })
      if s.tensorsOut k || (k.opcode = 0x20 && s.collOut k) then s.refuse k eMemBounds 3
      else match (if k.opcode = 0x20 then s.checkColl k else s.checkRest k) with
      | some e => s.refuse k e.1 e.2
      | none => s

theorem State.checkSegs_weighed (s : State) (k : Cmd) : Weighed k.ring k.dcount s (s.checkSegs k) := by
  unfold State.checkSegs
  split
  · exact .refuse ..
  · have hread : SameCmds s (if k.opcode = 1 then s.wcRead k k.mSegtab (32 * k.mNseg) else (s, none, [])).1 := by
      split
      · exact s.wcRead_same ..
      · exact .refl s
    dsimp only
    generalize (if k.opcode = 1 then s.wcRead k k.mSegtab (32 * k.mNseg) else (s, none, [])) = r at hread ⊢
    split
    · exact (Weighed.same hread).trans (.refuse ..)
    · have hupd : Weighed k.ring k.dcount s (r.1.updCmd k.ring k.dcount (fun c => { c with segs := r.2.2 })) :=
        (Weighed.same hread).trans (.updCmd _ (fun _ => rfl) (fun _ => rfl) (fun _ => rfl) (fun _ => rfl) (fun _ => rfl))
      generalize r.1.updCmd k.ring k.dcount (fun c => { c with segs := r.2.2 }) = v at hupd ⊢
      split
      · exact hupd.trans (Weighed.refuse v { k with segs := r.2.2 } _ _)
      · split
        · exact hupd.trans (Weighed.refuse v { k with segs := r.2.2 } _ _)
        · exact hupd

theorem State.checkCmd_eq (s : State) (k : Cmd) : s.checkCmd k =
    if descBad k then s.refuse k eDescInvalid 1
    else if acvBad k then s.refuse k eContractVersion 2
    else if !s.inPart k.part k.paramAt k.paramLen then s.refuse k eMemBounds 3
    else match (s.wcRead k k.paramAt k.paramLen).2.1 with
      | some _ => (s.wcRead k k.paramAt k.paramLen).1.refuse k eMemPoison 3
      | none => ((s.wcRead k k.paramAt k.paramLen).1.updCmd k.ring k.dcount
          (fun c => { c with param := (s.wcRead k k.paramAt k.paramLen).2.2 })).checkSegs { k with param := (s.wcRead k k.paramAt k.paramLen).2.2 } := rfl

theorem State.checkCmd_weighed (s : State) (k : Cmd) : Weighed k.ring k.dcount s (s.checkCmd k) := by
  rw [State.checkCmd_eq]
  split
  · exact .refuse ..
  · split
    · exact .refuse ..
    · split
      · exact .refuse ..
      · have hread := Weighed.same (n := k.ring) (dc := k.dcount) (s.wcRead_same k k.paramAt k.paramLen)
        generalize s.wcRead k k.paramAt k.paramLen = r at hread ⊢
        split
        · exact hread.trans (.refuse ..)
        · have hupd : Weighed k.ring k.dcount s (r.1.updCmd k.ring k.dcount (fun c => { c with param := r.2.2 })) :=
            hread.trans (.updCmd _ (fun _ => rfl) (fun _ => rfl) (fun _ => rfl) (fun _ => rfl) (fun _ => rfl))
          exact hupd.trans (State.checkSegs_weighed _ { k with param := r.2.2 })

theorem descBad_congr {k k' : Cmd} (h : k.desc = k'.desc) : descBad k = descBad k' := by
  cases k
  cases k'
  subst h
  rfl

theorem acvBad_congr {k k' : Cmd} (h : k.desc = k'.desc) : acvBad k = acvBad k' := by
  cases k
  cases k'
  subst h
  rfl

end Check

/-! ### Taking a descriptor -/

section Take
variable (s : State) (n : Nat) (host : List Byte)

/-- The next descriptor of a ring: the state after the read, the poisoned granules, and its bytes. -/
def State.descRead : State × List Nat × List Byte :=
  let r := s.ring n
  let p := n / 8
  let a := r.cbase.toNat + 64 * (r.head.toNat % 2 ^ r.log2e)
  let req : Req := { part := some p, wing := s.wingOfPart p }
  if r.cmdDev then let y := s.readMem (s.physOf a) 64; (y.1.countMem req (s.physOf a) 64 false, y.2)
  else (s.count req 10 64, [], padTo 64 host)

/-- The command of a descriptor, as it is taken. -/
def State.newCmd (desc : List Byte) : Cmd :=
  let k : Cmd := { ring := n, dcount := (s.ring n).head.toNat, part := n / 8, desc, takenAt := s.now, items := 1 }
  { k with level := s.levelOf k, acvChanged := leAt k.desc 2 2 ≠ 0 && leAt k.desc 2 2 < Config.acv.toNat }

/-- A command joins the live ones, and HEAD of its ring rises. -/
def State.joinCmd (x : Ring) (k : Cmd) : State :=
  let s := s.setRing n { x with head := x.head + 1 }
  { s with cmds := s.cmds ++ [k] }

/-- A ring gives up its next descriptor (R249, R250, R297, R537). -/
def State.givesUp : Prop :=
  (s.ring n).st = .running ∧ (s.ring n).head ≠ (s.ring n).tail ∧ ((s.ring n).head - (s.ring n).chead).toNat < 2 ^ (s.ring n).log2e
  ∧ (s.part (n / 8)).stopped = false ∧ s.frozenPart (n / 8) = false

variable {s n}

theorem State.descriptorTake_eq (h : s.givesUp n) : s.descriptorTake n host =
    if (s.descRead n host).2.1.isEmpty then
      ((s.descRead n host).1.joinCmd n (s.ring n) (s.newCmd n (s.descRead n host).2.2)).checkCmd (s.newCmd n (s.descRead n host).2.2)
    else ((s.descRead n host).2.1.foldl (fun u g => u.wcPoison (s.newCmd n (s.descRead n host).2.2) g)
      ((s.descRead n host).1.joinCmd n (s.ring n) (s.newCmd n (s.descRead n host).2.2))).refuse
        (s.newCmd n (s.descRead n host).2.2) eMemPoison 0 := by
  obtain ⟨hrun, htail, hroom, hstop, hfrozen⟩ := h
  unfold State.descriptorTake
  dsimp only
  rw [if_neg (by simp only [hrun, htail, hstop, hfrozen, Nat.not_le.mpr hroom]; decide)]
  rfl

theorem State.descriptorTake_idle (h : (s.ring n).st ≠ .running ∨ (s.ring n).head = (s.ring n).tail
    ∨ 2 ^ (s.ring n).log2e ≤ ((s.ring n).head - (s.ring n).chead).toNat ∨ (s.part (n / 8)).stopped = true ∨ s.frozenPart (n / 8) = true) :
    s.descriptorTake n host = s := by
  unfold State.descriptorTake
  dsimp only
  refine if_pos ?_
  simp only [Bool.or_eq_true, decide_eq_true_eq]
  tauto

theorem State.descRead_same : SameCmds s (s.descRead n host).1 := by
  unfold State.descRead
  dsimp only
  split
  · dsimp only
    exact (SameCmds.handled (s.readMem_handled ..)).trans (.counted (State.countMem_counted ..))
  · dsimp only
    exact .counted (s.count_counted ..)

theorem State.joinCmd_joins {u : State} (x : Ring) {k : Cmd} (hring : k.ring = n) (hnone : u.cmd n k.dcount = none) :
    (u.joinCmd n x k).cmd n k.dcount = some k ∧ ((u.joinCmd n x k).ring n).head = x.head + 1 := by
  have hjoin : (u.joinCmd n x k).cmd n k.dcount = (u.cmds ++ [k]).find? (fun c => c.ring = n && c.dcount = k.dcount) := rfl
  have hold : u.cmds.find? (fun c => c.ring = n && c.dcount = k.dcount) = none := hnone
  refine ⟨?_, ?_⟩
  · rw [hjoin, List.find?_append, hold, Option.none_or]
    exact List.find?_cons_of_pos (by simp [hring])
  · exact congrArg Ring.head (tget_tput_self (fun _ => {}) u.rings n _)

/-- What a taken descriptor leaves: HEAD one higher, and its command checked or refused. -/
theorem descriptorTake_takes (h : s.givesUp n) (hnone : s.cmd n (s.ring n).head.toNat = none) :
    ∃ t k, exec (.descriptorTake n host) s = .next t ∧ (t.ring n).head = (s.ring n).head + 1 ∧ t.cmd n (s.ring n).head.toNat = some k
      ∧ k.desc = (s.descRead n host).2.2 ∧ k.part = n / 8 ∧ k.takenAt = s.now
      ∧ ((s.descRead n host).2.1 = [] → descBad k = true → k.phase = .failed ∧ k.err = eDescInvalid ∧ k.detail = 1 ∧ k.refused = true)
      ∧ ((s.descRead n host).2.1 = [] → descBad k = false → acvBad k = true →
        k.phase = .failed ∧ k.err = eContractVersion ∧ k.detail = 2 ∧ k.refused = true) := by
  have hrun := State.descriptorTake_eq host h
  have hsame := State.descRead_same (s := s) (n := n) host
  generalize s.descRead n host = r at hrun hsame ⊢
  generalize hk : s.newCmd n r.2.2 = k at hrun
  obtain ⟨hring, hdc, hpart, hdesc, hat, hphase⟩ : k.ring = n ∧ k.dcount = (s.ring n).head.toNat ∧ k.part = n / 8 ∧ k.desc = r.2.2
      ∧ k.takenAt = s.now ∧ k.phase = .taken := by
    rw [← hk]
    exact ⟨rfl, rfl, rfl, rfl, rfl, rfl⟩
  obtain ⟨hcmd, hhead⟩ := State.joinCmd_joins (u := r.1) (s.ring n) hring (by rw [hsame.cmd, hdc]; exact hnone)
  have hlive : k.phase ≠ .failed := by rw [hphase]; decide
  generalize r.1.joinCmd n (s.ring n) k = v at hrun hcmd hhead
  have hown : v.cmd k.ring k.dcount = some k := by rw [hring]; exact hcmd
  rw [hdc] at hcmd
  by_cases hempty : r.2.1 = []
  · rw [if_pos (by rw [hempty]; rfl)] at hrun
    by_cases hbad : descBad k = true
    · obtain ⟨k', hc, hdesc', hpart', hat', hcode, hh⟩ := State.refuse_refuses hown hlive eDescInvalid 1
      rw [hring, hdc] at hc
      rw [hring] at hh
      rw [State.checkCmd_eq, if_pos hbad] at hrun
      refine ⟨_, k', congrArg Host.Outcome.next hrun, hh.trans hhead, hc, hdesc'.trans hdesc, hpart'.trans hpart, hat'.trans hat, fun _ _ => hcode,
        fun _ hgood => ?_⟩
      exact absurd ((descBad_congr hdesc').symm.trans hgood) (by rw [hbad]; decide)
    · by_cases hacv : acvBad k = true
      · obtain ⟨k', hc, hdesc', hpart', hat', hcode, hh⟩ := State.refuse_refuses hown hlive eContractVersion 2
        rw [hring, hdc] at hc
        rw [hring] at hh
        rw [State.checkCmd_eq, if_neg hbad, if_pos hacv] at hrun
        refine ⟨_, k', congrArg Host.Outcome.next hrun, hh.trans hhead, hc, hdesc'.trans hdesc, hpart'.trans hpart, hat'.trans hat, fun _ hb => ?_,
          fun _ _ _ => hcode⟩
        exact absurd ((descBad_congr hdesc').symm.trans hb) hbad
      · have hw := v.checkCmd_weighed k
        rw [hring, hdc] at hw
        obtain ⟨k', hk', hdesc', hpart', hat'⟩ := hw.cmd k hcmd
        refine ⟨_, k', congrArg Host.Outcome.next hrun, hw.head.trans hhead, hk', hdesc'.trans hdesc, hpart'.trans hpart, hat'.trans hat, fun _ hb => ?_,
          fun _ _ ha => ?_⟩
        · exact absurd ((descBad_congr hdesc').symm.trans hb) hbad
        · exact absurd ((acvBad_congr hdesc').symm.trans ha) hacv
  · rw [if_neg (by rwa [List.isEmpty_iff])] at hrun
    have hw : Weighed k.ring k.dcount v ((r.2.1.foldl (fun u g => u.wcPoison k g) v).refuse k eMemPoison 0) :=
      (Weighed.same (SameCmds.foldl (fun u g => .reported (u.wcPoison_reported k g)) _ _)).trans (.refuse ..)
    rw [hring, hdc] at hw
    obtain ⟨k', hk', hdesc', hpart', hat'⟩ := hw.cmd k hcmd
    exact ⟨_, k', congrArg Host.Outcome.next hrun, hw.head.trans hhead, hk', hdesc'.trans hdesc, hpart'.trans hpart, hat'.trans hat,
      fun h => absurd h hempty, fun h => absurd h hempty⟩

end Take

/-- Settles O22: a descriptor that a RUNNING ring gives up, and the rings that give none. -/
theorem descriptorTake : Obligations.DescriptorTake := by
  unfold Obligations.DescriptorTake
  intro s n host
  refine ⟨fun hrun htail hroom hstop hfrozen hnone hdev => ?_, fun hrun htail hroom hstop hfrozen hnone hdev _ => ?_, fun h => ?_⟩
  · have hread : s.descRead n host = (s.count { part := some (n / 8), wing := s.wingOfPart (n / 8) } 10 64, [], padTo 64 host) := by
      unfold State.descRead
      dsimp only
      rw [if_neg (ne_true_of_eq_false hdev)]
    obtain ⟨t, k, ht, hhead, hk, hdesc, hpart, hat, hbad, hacv⟩ := descriptorTake_takes host ⟨hrun, htail, hroom, hstop, hfrozen⟩ hnone
    rw [hread] at hdesc hbad hacv
    exact ⟨t, k, ht, hhead, hk, hdesc, hpart, hat, hbad rfl, hacv rfl⟩
  · have hread : (s.descRead n host).2.2 = (s.readMem (s.physOf ((s.ring n).cbase.toNat + 64 * ((s.ring n).head.toNat % 2 ^ (s.ring n).log2e))) 64).2.2 := by
      unfold State.descRead
      dsimp only
      rw [if_pos hdev]
    obtain ⟨t, k, ht, hhead, hk, hdesc, -⟩ := descriptorTake_takes host ⟨hrun, htail, hroom, hstop, hfrozen⟩ hnone
    exact ⟨t, k, ht, hhead, hk, hdesc.trans hread⟩
  · exact congrArg Host.Outcome.next (State.descriptorTake_idle host h)

/-! ### The start rule -/

section Start
variable {s : State} {n dc op : Nat} {k : Cmd} {i : Instr}

/-- The commands that start under R251, with their opcodes. -/
theorem exec_runCmd (hi : (i, op) ∈ [(Instr.nop n dc, 0), (.matmul n dc, 1), (.quantize n dc, 2), (.convert n dc, 3), (.copy n dc, 4),
    (.fill n dc, 5), (.reduceSum n dc, 8), (.reduceSsq n dc, 9), (.reduceMax n dc, 0xA), (.reduceMin n dc, 0xB), (.moments n dc, 0xC),
    (.sort n dc, 0x10), (.gather n dc, 0x11), (.scatterAdd n dc, 0x12), (.kernel n dc, 0x18)]) (s : State) :
    ∃ body, exec i s = .next (s.runCmd n dc op body) := by
  simp only [List.mem_cons, Prod.mk.injEq, List.not_mem_nil, or_false] at hi
  obtain ⟨rfl, rfl⟩ | ⟨rfl, rfl⟩ | ⟨rfl, rfl⟩ | ⟨rfl, rfl⟩ | ⟨rfl, rfl⟩ | ⟨rfl, rfl⟩ | ⟨rfl, rfl⟩ | ⟨rfl, rfl⟩ | ⟨rfl, rfl⟩ | ⟨rfl, rfl⟩
    | ⟨rfl, rfl⟩ | ⟨rfl, rfl⟩ | ⟨rfl, rfl⟩ | ⟨rfl, rfl⟩ | ⟨rfl, rfl⟩ := hi <;> exact ⟨_, rfl⟩

section Run
variable (body : State → Cmd → State) (hk : s.cmd n dc = some k)
include hk

theorem State.runCmd_other (h : k.opcode ≠ op) : s.runCmd n dc op body = s := by
  unfold State.runCmd
  rw [hk]
  exact if_pos h

theorem State.runCmd_wait (h : s.gate k = .wait) : s.runCmd n dc op body = s := by
  unfold State.runCmd
  rw [hk]
  dsimp only
  rw [h]
  exact ite_self _

theorem State.runCmd_fail (hop : k.opcode = op) {c : W16} (h : s.gate k = .fail c) : s.runCmd n dc op body = s.failCmd n dc c 0 := by
  unfold State.runCmd
  rw [hk]
  dsimp only
  rw [if_neg (not_not.mpr hop), h]

theorem State.runCmd_go (hop : k.opcode = op) (h : s.gate k = .go) : s.runCmd n dc op body = body (s.begun k) k := by
  unfold State.runCmd
  rw [hk]
  dsimp only
  rw [if_neg (not_not.mpr hop), h]
  rfl

end Run

theorem State.taken_of_gate (h : s.gate k ≠ .wait) : k.phase = .taken := by
  by_contra hphase
  refine h ?_
  unfold State.gate
  exact if_pos (by simp [hphase])

/-- A command that fails where it stands, not yet failed. -/
theorem State.failCmd_halts (hk : s.cmd n dc = some k) (hphase : k.phase ≠ .failed) (c : W16) :
    ∃ k', (s.failCmd n dc c 0).cmd n dc = some k' ∧ k'.phase = .failed ∧ k'.err = c
      ∧ ((s.ring n).st = .running → ((s.failCmd n dc c 0).ring n).st = .halted ∧ ((s.failCmd n dc c 0).ring n).lasterr = c) := by
  refine ⟨_, State.cmd_failCmd hk hphase c 0, rfl, rfl, fun hrun => ?_⟩
  rw [State.ring_failCmd hk hphase, if_pos ⟨rfl, hrun⟩]
  exact ⟨rfl, rfl⟩

theorem State.waitTimeout_passed (hk : s.cmd n dc = some k) (hphase : k.phase = .taken) (hwait : k.waitEn = true) (hgate : s.waitGate k = .wait)
    (hlim : k.waitTimeout ≠ 0) (hat : k.takenAt.toNat + k.waitTimeout ≤ s.now.toNat) : s.waitTimeout n dc = s.failCmd n dc eSyncTimeout 0 := by
  unfold State.waitTimeout
  rw [hk]
  dsimp only
  exact if_pos (by simp [hphase, hwait, hgate, hlim, hat])

theorem State.waitTimeout_early (hk : s.cmd n dc = some k) (h : k.waitTimeout = 0 ∨ s.now.toNat < k.takenAt.toNat + k.waitTimeout) :
    s.waitTimeout n dc = s := by
  unfold State.waitTimeout
  rw [hk]
  dsimp only
  refine if_neg ?_
  simp only [Bool.and_eq_true, decide_eq_true_eq]
  rintro ⟨⟨⟨-, hlim⟩, hat⟩, -⟩
  rcases h with h | h
  · exact absurd h (by simpa using hlim)
  · omega

end Start

/-- Settles O23: by the three answers of the start rule, and the wait's limit. -/
theorem startRule : Obligations.StartRule := by
  unfold Obligations.StartRule
  refine ⟨fun s n dc k hk _ _ i op hi => ?_, fun s n dc k hk hphase hwait hgate => ⟨fun hlim hat => ?_, fun h => ?_⟩⟩
  · obtain ⟨body, hrun⟩ := exec_runCmd hi s
    refine ⟨fun hop => ?_, fun hgate => ?_, fun c hop hgate => ?_⟩
    · rw [hrun, State.runCmd_other body hk hop]
    · rw [hrun, State.runCmd_wait body hk hgate]
    · have hphase := State.taken_of_gate (s := s) (k := k) (by rw [hgate]; exact Gate.noConfusion)
      obtain ⟨k', h⟩ := State.failCmd_halts hk (by rw [hphase]; decide) c
      rw [State.runCmd_fail body hk hop hgate] at hrun
      exact ⟨_, k', hrun, h⟩
  · have hrun := State.waitTimeout_passed hk hphase hwait hgate hlim hat
    obtain ⟨k', hk', hph, herr, -⟩ := State.failCmd_halts hk (by rw [hphase]; decide) eSyncTimeout
    exact ⟨_, k', congrArg Host.Outcome.next hrun, hk', hph, herr⟩
  · exact congrArg Host.Outcome.next (State.waitTimeout_early hk h)

end Sys2Proof.Machine
end

section
/-! PROOFS. Writes of whole destinations where memory holds no error (R65, R186, R233, R324). -/

namespace Sys2Proof.Machine

/-! ### Memory without errors -/

/-- t is s but for memory, its check bits, the counters and the count of free values; the check bits of every granule say what they said. -/
structure Puts (s t : State) : Prop where
  only : t = { s with mem := t.mem, ecc := t.ecc, cnt := t.cnt, freeCtr := t.freeCtr }
  delta : ∀ g, t.delta g = s.delta g

namespace Puts
variable {s t u : State}

theorem refl (s : State) : Puts s s := ⟨rfl, fun _ => rfl⟩

theorem trans (h : Puts s t) (h' : Puts t u) : Puts s u := by
  refine ⟨?_, fun g => (h'.delta g).trans (h.delta g)⟩
  rw [h'.only, h.only]

theorem wrote (h : Wrote s t) : Puts s t := by
  refine ⟨?_, h.delta⟩
  have honly := h.only
  rw [honly]

theorem counted (h : Counted s t) : Puts s t := wrote h.wrote

theorem bump (s : State) : Puts s s.bump := ⟨rfl, fun _ => rfl⟩

theorem quiet (h : Puts s t) (hq : s.quiet) : t.quiet := by
  refine ⟨fun g => (h.delta g).trans (hq.1 g), ?_⟩
  rw [h.only]
  exact hq.2

theorem sameCmds (h : Puts s t) : SameCmds s t := by
  rw [h.only]
  exact ⟨rfl, rfl⟩

theorem physOf (h : Puts s t) (a : Nat) : t.physOf a = s.physOf a := by
  rw [h.only]
  rfl

theorem foldl {α : Type} {f : State → α → State} (hf : ∀ s a, s.quiet → Puts s (f s a)) (l : List α) {s : State} (hq : s.quiet) : Puts s (l.foldl f s) := by
  induction l generalizing s with
  | nil => exact .refl s
  | cons a l ih => exact (hf s a hq).trans (ih ((hf s a hq).quiet hq))

end Puts

section Writes
variable {s u : State}

theorem State.writeMem_puts (hq : s.quiet) (pa : Nat) (b : List Byte) : Puts s (s.writeMem pa b) := by
  unfold State.writeMem
  split
  · exact .refl s
  · exact Puts.foldl (fun s g hq => .wrote (State.writeGran_stored hq.2 (hq.1 g)).wrote) _ hq

/-- A read meets no poison and corrects nothing. -/
theorem State.readMem_quiet (hq : s.quiet) (pa n : Nat) : s.readMem pa n = (s, [], (s.readMem pa n).2.2) := by
  unfold State.readMem
  split
  · rfl
  · have hgran (g : Nat) : s.readGran g = (s, false, s.bytes g (granSize g)) := by
      have hdec : s.decodeGran g = (s, false, s.bytes g (granSize g)) := by
        unfold State.decodeGran
        exact if_pos (hq.1 g)
      unfold State.readGran
      rw [hdec]
      exact if_pos rfl
    have hfold : ∀ (l : List Nat) (b : List Byte), ∃ b', l.foldl (fun (acc : State × List Nat × List Byte) g =>
        ((acc.1.readGran g).1, if (acc.1.readGran g).2.1 then acc.2.1 ++ [g] else acc.2.1, acc.2.2 ++ (acc.1.readGran g).2.2)) (s, [], b) = (s, [], b') := by
      intro l
      induction l with
      | nil => exact fun b => ⟨b, rfl⟩
      | cons g l ih =>
        intro b
        rw [List.foldl_cons, hgran]
        exact ih _
    obtain ⟨b', hb⟩ := hfold (granules pa n) []
    dsimp only
    rw [hb]

end Writes

/-! ### Destinations written -/

/-- A relation that a write of memory, a count and a drawn free value keep. -/
structure WriteRel (R : State → State → Prop) : Prop where
  refl : ∀ s, R s s
  trans : ∀ {s t u}, R s t → R t u → R s u
  write : ∀ s pa b, R s (s.writeMem pa b)
  counted : ∀ {s t}, Counted s t → R s t
  bump : ∀ s, R s s.bump

namespace WriteRel
variable {R : State → State → Prop} (h : WriteRel R) {s u : State}
include h

theorem foldl {α : Type} {f : State → α → State} (hf : ∀ s a, R s (f s a)) (l : List α) (s : State) : R s (l.foldl f s) := by
  induction l generalizing s with
  | nil => exact h.refl s
  | cons a l ih => exact h.trans (hf s a) (ih _)

/-- Rows written one after another, each settled against the rows before it. -/
theorem foldl_rows {α : Type} {f : State × List (Nat × Nat) → α → State × List (Nat × Nat)} (hf : ∀ acc a, R acc.1 (f acc a).1) (l : List α)
    (acc : State × List (Nat × Nat)) : R acc.1 (l.foldl f acc).1 := by
  induction l generalizing acc with
  | nil => exact h.refl _
  | cons a l ih => exact h.trans (hf acc a) (ih _)

theorem overlap (hu : R s u) (seen : List (Nat × Nat)) (o pa n : Nat) : R s (s.overlap u seen o pa n) := by
  unfold State.overlap
  split
  · exact h.trans hu (h.foldl (fun v a => h.write ..) _ _)
  · exact hu

theorem bumpOverlap (s : State) (l : List (Nat × Nat)) : R s (s.bumpOverlap l) := by
  induction l with
  | nil => exact h.refl s
  | cons r l ih =>
    unfold State.bumpOverlap
    split
    · exact h.bump s
    · exact ih

theorem putCodes (s : State) (f n : Nat) (rowMajor : Bool) (base : Nat → Nat) (codes : List (Nat × Nat × Nat)) :
    R s (s.putCodes f n rowMajor base codes) := by
  unfold State.putCodes
  dsimp only
  exact h.trans (h.foldl_rows (fun acc o => h.overlap (h.write ..) ..) _ (s, [])) (h.bumpOverlap _ _)

theorem putScales (s : State) (l : List (Nat × Byte)) : R s (s.putScales l) := by
  unfold State.putScales
  dsimp only
  exact h.trans (h.foldl_rows (fun acc x => h.overlap (h.write ..) ..) _ (s, [])) (h.bumpOverlap _ _)

theorem putTensor (s : State) (r : Req) (t : Tensor) (rows cols : Nat) (codes : List (Nat × Nat × Nat)) (scales : List (Nat × Byte)) :
    R s (s.putTensor r t rows cols codes scales) := by
  unfold State.putTensor
  dsimp only
  refine h.trans (h.trans (h.putCodes s t.fmt cols true (fun o => s.physOf t.base + o * t.pitch cols) codes) (h.putScales _ scales)) (h.counted ?_)
  exact Counted.foldl (fun s _ => s.countMem_counted ..) _ _

theorem scramble (s : State) (r : Req) (t : Tensor) (rows cols : Nat) : R s (s.scramble r t rows cols) := h.trans (h.putTensor ..) (h.bump _)

theorem matPut (s : State) (k : Cmd) (r : Req) (codes : List (Nat × Nat × Nat)) (scales : List (Nat × Byte)) : R s (s.matPut k r codes scales) := by
  unfold State.matPut
  dsimp only
  have hcodes := h.putCodes s (k.ten 2).fmt (if k.mRowMajor then k.mN else dRows k k.segments) k.mRowMajor (s.dRow k) codes
  refine h.trans (h.trans (h.trans hcodes (h.putScales _ scales)) ?_) (h.counted (Counted.foldl (fun s _ => s.countMem_counted ..) _ _))
  exact h.foldl (fun u _ => h.write ..) _ _

theorem matScramble (s : State) (k : Cmd) (keep : List MItem) : R s (s.matScramble k keep) := h.trans (h.matPut ..) (h.bump _)

theorem writeCount (s : State) (r : Req) (pa n : Nat) (b : List Byte) : R s ((s.writeMem pa b).countMem r pa n true) :=
  h.trans (h.write ..) (h.counted (State.countMem_counted ..))

end WriteRel

/-- Where memory holds no error, a destination's bytes and their check bits are all that its writing touches. -/
theorem quiet_puts : WriteRel (fun s t => s.quiet → Puts s t) where
  refl s _ := .refl s
  trans h h' hq := (h hq).trans (h' ((h hq).quiet hq))
  write s pa b hq := s.writeMem_puts hq pa b
  counted h _ := .counted h
  bump s _ := .bump s

end Sys2Proof.Machine
end

section
/-! PROOFS. The completion of a command (R252, R289, R292, R296): the obligation fails. The owner of a record of the work-counter region is a byte of
the record itself (R282, R310), and the adaptive state record goes to memory before the completion block: where both lie in one such record,
the first takes the place of the second from the partition. -/

namespace Sys2Proof.Machine

/-- The first record of the east wing's work-counter region. -/
def ownRecord : Nat := recordAddr 0 0

/-- A written QUANTIZE of partition 1 with its completion block in the record and its adaptive state in the record's bytes 16 to 31. -/
def adaptInRecord : Cmd :=
  { ring := 8, dcount := 0, part := 1, phase := .written, adaptRec := zeros 16
    desc := [2, 8] ++ zeros 30 ++ leBytes 8 ownRecord ++ zeros 24
    param := zeros 16 ++ leBytes 8 (ownRecord + 16) ++ zeros 8 }

/-- The command is live, and PART of the record says 1. -/
def recordState : State := { State.reset with mem := [(ownRecord + 28, 1)], cmds := [adaptInRecord] }

/-- The flags of the completion record at host address 0 after a command. -/
def flagsAfter : Host.Outcome State Fault Refusal → Byte
  | .next t => tget (fun _ => 0) t.host.mem 7
  | _ => 0

theorem flagsAfter_record : flagsAfter (exec (.commandComplete 8 0) recordState) = 0 := by decide +kernel

theorem mayComplete_record : recordState.mayComplete adaptInRecord = true := by decide +kernel

theorem result_record : (adaptInRecord.resultEn && !adaptInRecord.refused && recordState.inPart adaptInRecord.part adaptInRecord.result 64) = true := by
  decide +kernel

/-- Refutes O26: at the time of the completion the block's place belongs to the command's partition, and yet no block is written and the
record says so. -/
theorem not_commandCompletes : ¬ Obligations.CommandCompletes := by
  unfold Obligations.CommandCompletes
  intro h
  obtain ⟨-, hdone, -⟩ := h recordState 8 0 adaptInRecord rfl rfl rfl
  obtain ⟨-, -, hblock⟩ := hdone mayComplete_record (.inl (by decide +kernel)) rfl rfl ⟨by decide +kernel, by decide +kernel⟩
  obtain ⟨t, ht, -, -, hrec, -⟩ := hblock result_record ⟨rfl, rfl⟩ (by unfold oneMemory; decide +kernel)
  have hflags : tget (fun _ => (0 : Byte)) t.host.mem 7 = 1 := (hrec 7 (by decide)).trans (by decide +kernel)
  have hzero := flagsAfter_record
  rw [ht] at hzero
  exact absurd (hflags.symm.trans hzero) (by decide)

end Sys2Proof.Machine
end

section
/-! PROOFS. DMA (R304, R314 to R319, R328, R671, R672): the start of a descriptor, the move of one row, and completions. -/

namespace Sys2Proof.Machine

/-! ### The queues of DMA stay -/

/-- t has the DMA queues of s. -/
def SameDma (s t : State) : Prop := t.dma = s.dma

namespace SameDma
variable {s t u : State}

theorem refl (s : State) : SameDma s s := rfl

theorem trans (h : SameDma s t) (h' : SameDma t u) : SameDma s u := Eq.trans h' h

theorem handled (h : Handled s t) : SameDma s t := by
  have honly := h.only
  unfold MemOnly at honly
  unfold SameDma
  rw [honly]

theorem reported (h : Reported s t) : SameDma s t := handled (.reported h)

theorem counted (h : Counted s t) : SameDma s t := by
  unfold Counted at h
  unfold SameDma
  rw [h]

theorem failure (h : FailureOnly s t) : SameDma s t := by
  unfold FailureOnly at h
  unfold SameDma
  rw [h]

theorem latches (h : LatchesOnly s t) : SameDma s t := failure h.failure

theorem writeRel : WriteRel SameDma where
  refl := refl
  trans := trans
  write s pa b := handled (s.writeMem_handled pa b [])
  counted := counted
  bump _ := rfl

theorem dmaq (h : SameDma s t) (k : Nat) : t.dmaq k = s.dmaq k := by
  unfold SameDma at h
  rw [State.dmaq, h, State.dmaq]

end SameDma

/-! ### Packets leave all but the fabric -/

section Send
variable (s : State)

/-- t is s but for the fabric and the counters. -/
def Shipped (s t : State) : Prop := t = { s with fab := t.fab, cnt := t.cnt }

theorem Shipped.refl (s : State) : Shipped s s := rfl

theorem Shipped.trans {s t u : State} (h : Shipped s t) (h' : Shipped t u) : Shipped s u := by
  unfold Shipped at *
  rw [h']
  rw [h]

theorem Shipped.counted {s t : State} (h : Counted s t) : Shipped s t := by
  unfold Counted at h
  unfold Shipped
  rw [h]

theorem Shipped.dma {s t : State} (h : Shipped s t) : SameDma s t := by
  unfold Shipped at h
  unfold SameDma
  rw [h]

theorem Shipped.foldl_fst {α β : Type} {f : State × β → α → State × β} (hf : ∀ acc a, Shipped acc.1 (f acc a).1) (l : List α) (acc : State × β) :
    Shipped acc.1 (l.foldl f acc).1 := by
  induction l generalizing acc with
  | nil => exact .refl _
  | cons a l ih => exact (hf acc a).trans (ih _)

theorem State.launch_shipped {t : State} {own : Bool} {k : Pkt} (h : s.launch own k = some t) : Shipped s t := by
  unfold State.launch at h
  split at h
  · rw [← Option.some.inj h]
    rfl
  · rw [← Option.some.inj h]
    rfl
  · cases h

theorem State.sendStatus_shipped (k : Pkt) (code : W16) : Shipped s (s.sendStatus k code) := by
  unfold State.sendStatus
  split
  · rfl
  · dsimp only
    split
    · next t ht => exact s.launch_shipped ht
    · rfl

theorem State.sendPkt_shipped (k : Pkt) : Shipped s (s.sendPkt k) := by
  unfold State.sendPkt
  split
  · next t ht => exact s.launch_shipped ht
  · exact s.sendStatus_shipped ..

theorem State.crossOut_counted (r : Req) (k : Pkt) : Counted s (s.crossOut r k) := by
  unfold State.crossOut
  split
  · exact s.cross_counted ..
  · rfl

theorem State.sendWrites_shipped (r : Req) (vc dst daddr group tag dseq : Nat) (b : List Byte) (bad : List (Nat × Nat)) :
    Shipped s (s.sendWrites r vc dst daddr group tag dseq b bad).1 := by
  unfold State.sendWrites
  split
  · exact .refl s
  · exact Shipped.foldl_fst (fun acc pg =>
      ((Shipped.counted (acc.1.crossOut_counted ..)).trans (State.sendPkt_shipped ..)).trans (.counted (State.count_counted ..))) _ (s, 0)

theorem State.extLatch_add_mem (i j : Nat) (v : W64) : (s.extLatch i j (.add v)).mem = s.mem := by
  unfold State.extLatch
  split
  · rfl
  · show (s.latchAdd i j v).mem = s.mem
    unfold State.latchAdd
    dsimp only
    split
    · rfl
    · split
      · rfl
      · exact (State.latchTest_still _ i j).2

/-- A latch write toward a global address leaves memory and the DMA queues as they are. -/
theorem State.postLatch_keeps_mem (r : Req) (a : Nat) (v : W64) (vc tag dseq : Nat) (g : Option Nat) :
    SameDma s (s.postLatch r a v vc tag dseq g) ∧ (s.postLatch r a v vc tag dseq g).mem = s.mem := by
  unfold State.postLatch
  split
  · split
    · have h := s.sendPkt_shipped (s.mkPkt 1 vc (r.part.getD 0) (remoteMod a) (remoteLocal a) (by assumption) tag dseq v.toNat [])
      unfold Shipped at h
      unfold SameDma
      rw [h]
      exact ⟨rfl, rfl⟩
    · exact ⟨rfl, rfl⟩
  · split
    · next i j _ _ =>
      split
      · have hcross := (s.extLatch i j (.add v)).cross_counted r (wingOf i) 8 true
        refine ⟨(SameDma.latches (s.extLatch_latchesOnly ..)).trans (.counted hcross), ?_⟩
        unfold Counted at hcross
        rw [hcross]
        exact s.extLatch_add_mem i j v
      · exact ⟨rfl, rfl⟩
    · exact ⟨rfl, rfl⟩

end Send

/-! ### The move of rows -/

section Move
variable (s : State) (r : Req) (j : DmaJob) (q : Nat) (d : DmaD)

/-- Source row i of a descriptor, as it goes to the destination: the state after the read, the bytes, and the ranges that are poisoned. -/
def State.sourceRow (i : Nat) : State × List Byte × List (Nat × Nat) :=
  if d.zero then (s, zeros d.outLen, [])
  else match s.dmaSrc j.part (d.src + i * d.sstr) d.rowlen with
    | some src => let y := s.dmaRead r src d.rowlen; let c := convRow d y.2.1 y.2.2; (y.1, c.1, c.2)
    | none => (s, [], [])

/-- What a move of rows carries: the state, bytes written, flits and granules written poisoned, and the rows written so far. -/
abbrev MoveAcc := State × Nat × (Nat × List Nat) × List (Nat × Nat)

/-- A row stored in local memory, or held back for a frozen core. -/
def State.storeRow (acc : MoveAcc) (i pa : Nat) (b : List Byte) (bad : List (Nat × Nat)) : MoveAcc :=
  let po := hitGranules pa b.length bad
  let s := s.countMem r pa b.length true
  let s := if s.frozenStore pa then s.hold ((storeOf pa).getD 0) (.write pa b po) else s.overlap (s.writeMem pa b po) acc.2.2.2 i pa b.length
  (s, acc.2.1 + b.length, (acc.2.2.1.1, po ++ acc.2.2.1.2), (pa, b.length) :: acc.2.2.2)

/-- A row sent to another module. -/
def State.sendRow (acc : MoveAcc) (a : Nat) (b : List Byte) (bad : List (Nat × Nat)) : MoveAcc :=
  let w := s.sendWrites r (dmaVc q) (remoteMod a) (remoteLocal a) (j.group.getD 0) (s.dmaTag j.core q) j.dseq b bad
  (w.1, acc.2.1 + b.length, (acc.2.2.1.1 + w.2, acc.2.2.1.2), acc.2.2.2)

/-- Row i of a descriptor, read and moved. -/
def moveRow (acc : MoveAcc) (i : Nat) : MoveAcc :=
  let rd := acc.1.sourceRow r j d i
  let a := d.dst + i * d.dstr
  if isRemote d.dst then if j.checkrun then (rd.1, acc.2) else rd.1.sendRow r j q acc a rd.2.1 rd.2.2
  else match rd.1.partRange j.part a d.outLen with
    | none => (rd.1, acc.2)
    | some pa => if j.checkrun && storeOf pa ≠ some j.core then (rd.1, acc.2) else rd.1.storeRow r acc i pa rd.2.1 rd.2.2

/-- The request of a descriptor. -/
def State.reqJob : Req := { s.reqThr j.core j.thread with part := some j.part }

theorem State.dmaMove_eq : s.dmaMove j q d =
    let w := (List.range d.rows).foldl (moveRow (s.reqJob j) j q d) (s, 0, (0, []), [])
    (w.1.bumpOverlap w.2.2.2, w.2.1, w.2.2.1.1 + (dedupNat w.2.2.1.2).length) := rfl

theorem State.sourceRow_dma (i : Nat) : SameDma s (s.sourceRow r j d i).1 := by
  unfold State.sourceRow
  split
  · exact .refl s
  · split
    · next src _ =>
      show SameDma s (s.dmaRead r src d.rowlen).1
      unfold State.dmaRead
      split
      · exact (SameDma.handled (s.readMem_handled ..)).trans (.counted (State.countMem_counted ..))
      · exact .refl s
    · exact .refl s

theorem State.storeRow_dma (acc : MoveAcc) (i pa : Nat) (b : List Byte) (bad : List (Nat × Nat)) : SameDma s (s.storeRow r acc i pa b bad).1 := by
  unfold State.storeRow
  dsimp only
  refine SameDma.trans (.counted (s.countMem_counted r pa b.length true)) ?_
  split
  · rfl
  · exact SameDma.writeRel.overlap (.handled (State.writeMem_handled ..)) ..

theorem moveRow_dma (acc : MoveAcc) (i : Nat) : SameDma acc.1 (moveRow r j q d acc i).1 := by
  have hread := acc.1.sourceRow_dma r j d i
  unfold moveRow
  dsimp only
  generalize acc.1.sourceRow r j d i = rd at hread ⊢
  split
  · split
    · exact hread
    · have hsend := rd.1.sendWrites_shipped r (dmaVc q) (remoteMod (d.dst + i * d.dstr)) (remoteLocal (d.dst + i * d.dstr)) (j.group.getD 0)
        (rd.1.dmaTag j.core q) j.dseq rd.2.1 rd.2.2
      exact hread.trans hsend.dma
  · split
    · exact hread
    · split
      · exact hread
      · exact hread.trans (rd.1.storeRow_dma ..)

theorem State.dmaMove_dma : SameDma s (s.dmaMove j q d).1 := by
  have hfold : ∀ (l : List Nat) (acc : MoveAcc), SameDma acc.1 (l.foldl (moveRow (s.reqJob j) j q d) acc).1 := by
    intro l
    induction l with
    | nil => exact fun acc => .refl _
    | cons i l ih => exact fun acc => (moveRow_dma ..).trans (ih _)
  rw [State.dmaMove_eq]
  exact (hfold _ _).trans (SameDma.writeRel.bumpOverlap ..)

end Move

/-! ### The start of a descriptor -/

section Start
variable {s : State} {c q : Nat} {j : DmaJob} {l : List DmaJob}

/-- The next packet sequence of a DMA queue is taken. -/
def State.takeSeq (s : State) (k : Nat) : State :=
  { s with fab := { s.fab with dseq := tput (fun _ => 0) s.fab.dseq k ((tget (fun _ => 0) s.fab.dseq k + 1) % 2 ^ 16) } }

/-- A descriptor as its start finds it: the sequence it takes and the group entries chosen for it. -/
def DmaJob.starting (j : DmaJob) (s : State) (k : Nat) : DmaJob :=
  { j with
    started := true, dseq := tget (fun _ => 0) s.fab.dseq k, group := (s.takeSeq k).entryFor j.part (dmaD j.desc).dst
    lgroup := (s.takeSeq k).entryFor j.part ((j.post.map (fun x => x.1.toNat)).getD (dmaD j.desc).latch) }

/-- The first waiting descriptor of a queue, started. -/
def State.startJob (s : State) (q : Nat) (j : DmaJob) : State × DmaJob :=
  if j.post.isSome then (s, j)
  else match s.dmaError j.part (dmaD j.desc) with
  | some e => (s, { j with err := e })
  | none =>
    if s.jobStale j then (s.epochDrop j.lcore, j)
    else ((s.dmaMove j q (dmaD j.desc)).1,
      { j with bytes := (s.dmaMove j q (dmaD j.desc)).2.1, poisoned := (s.dmaMove j q (dmaD j.desc)).2.2 })

/-- A started descriptor stands first in its queue. -/
def State.putFirst (s : State) (k : Nat) (j : DmaJob) : State := s.setDmaq k ((s.dmaq k).set 0 j)

theorem State.startJob_first (s : State) (q k : Nat) (j : DmaJob) :
    (if j.post.isSome then s.putFirst k j
      else match s.dmaError j.part (dmaD j.desc) with
      | some e => s.putFirst k { j with err := e }
      | none =>
        if s.jobStale j then (s.epochDrop j.lcore).putFirst k j
        else
          let m := s.dmaMove j q (dmaD j.desc)
          m.1.putFirst k { j with bytes := m.2.1, poisoned := m.2.2 }) = (s.startJob q j).1.putFirst k (s.startJob q j).2 := by
  unfold State.startJob
  split
  · rfl
  · split
    · rfl
    · split <;> rfl

theorem State.dmaStart_eq (hq : s.dmaq (4 * c + q) = j :: l) (hst : j.started = false) (hstop : (s.part j.part).stopped = false)
    (hgo : j.post.isNone = true → s.dmaError j.part (dmaD j.desc) = none → s.dmaHeld j.part (dmaD j.desc) = false) :
    s.dmaStart c q =
      ((s.takeSeq (4 * c + q)).startJob q (j.starting s (4 * c + q))).1.putFirst (4 * c + q)
        ((s.takeSeq (4 * c + q)).startJob q (j.starting s (4 * c + q))).2 := by
  have hfirst : (j :: l).findIdx? (fun j => !j.started) = some 0 := by
    rw [List.findIdx?_cons, hst]
    rfl
  have hguard : ((s.part j.part).stopped || (j.post.isNone && (((dmaD j.desc).fence && decide ((0 : Nat) ≠ 0))
      || ((s.dmaError j.part (dmaD j.desc)).isNone && s.dmaHeld j.part (dmaD j.desc))))) = false := by
    rw [hstop]
    simp only [ne_eq, not_true_eq_false, decide_false, Bool.and_false, Bool.false_or, Bool.and_eq_false_iff]
    by_cases h1 : j.post.isNone = true
    · cases h2 : s.dmaError j.part (dmaD j.desc) with
      | none => exact .inr (.inr (hgo h1 h2))
      | some e => exact .inr (.inl rfl)
    · exact .inl (Bool.eq_false_iff.mpr h1)
  unfold State.dmaStart
  dsimp only [dmaIdx]
  rw [hq, hfirst]
  dsimp only [List.getElem?_cons_zero]
  rw [if_neg (ne_true_of_eq_false hguard)]
  exact (s.takeSeq (4 * c + q)).startJob_first q (4 * c + q) (j.starting s (4 * c + q))

theorem State.startJob_dma (s : State) (q : Nat) (j : DmaJob) : SameDma s (s.startJob q j).1 := by
  unfold State.startJob
  split
  · exact .refl s
  · split
    · exact .refl s
    · split
      · exact SameDma.trans (t := s.wr rMemEpochDrop _) rfl (.reported (s.epochDrop_reported j.lcore))
      · exact s.dmaMove_dma j q _

theorem State.startJob_keeps (s : State) (q : Nat) (j : DmaJob) : (s.startJob q j).2.started = j.started
    ∧ (s.startJob q j).2.group = j.group ∧ (s.startJob q j).2.lgroup = j.lgroup := by
  unfold State.startJob
  split
  · exact ⟨rfl, rfl, rfl⟩
  · split
    · exact ⟨rfl, rfl, rfl⟩
    · split <;> exact ⟨rfl, rfl, rfl⟩

theorem State.startJob_post (s : State) (q : Nat) (h : j.post.isSome = true) : s.startJob q j = (s, j) := if_pos h

theorem State.startJob_error (s : State) (q : Nat) (hpost : j.post = none) {e : W16} (herr : s.dmaError j.part (dmaD j.desc) = some e) :
    s.startJob q j = (s, { j with err := e }) := by
  unfold State.startJob
  rw [if_neg (by rw [hpost]; decide), herr]

theorem State.startJob_err (s : State) (q : Nat) (herr : s.dmaError j.part (dmaD j.desc) = none) : (s.startJob q j).2.err = j.err := by
  unfold State.startJob
  rw [herr]
  split
  · rfl
  · dsimp only
    split <;> rfl

theorem State.startJob_moves (s : State) (q : Nat) (hpost : j.post = none) (herr : s.dmaError j.part (dmaD j.desc) = none) (hstale : s.jobStale j = false) :
    s.startJob q j = ((s.dmaMove j q (dmaD j.desc)).1,
      { j with bytes := (s.dmaMove j q (dmaD j.desc)).2.1, poisoned := (s.dmaMove j q (dmaD j.desc)).2.2 }) := by
  unfold State.startJob
  rw [if_neg (by rw [hpost]; decide), herr]
  dsimp only
  rw [if_neg (by rw [hstale]; decide)]

/-- A descriptor that may start stands started at the head of its queue. -/
theorem dmaStart_starts (hq : s.dmaq (4 * c + q) = j :: l) (hst : j.started = false) (hstop : (s.part j.part).stopped = false)
    (hgo : j.post.isNone = true → s.dmaError j.part (dmaD j.desc) = none → s.dmaHeld j.part (dmaD j.desc) = false) {u : State} {j' : DmaJob}
    (hrun : (s.takeSeq (4 * c + q)).startJob q (j.starting s (4 * c + q)) = (u, j')) :
    exec (.dmaStart c q) s = .next (u.putFirst (4 * c + q) j') ∧ (u.putFirst (4 * c + q) j').dmaq (4 * c + q) = j' :: l ∧ j'.started = true := by
  have hdma := (s.takeSeq (4 * c + q)).startJob_dma q (j.starting s (4 * c + q))
  have hkeeps := (s.takeSeq (4 * c + q)).startJob_keeps q (j.starting s (4 * c + q))
  have heq := State.dmaStart_eq hq hst hstop hgo
  rw [hrun] at hdma hkeeps heq
  have hu : u.dmaq (4 * c + q) = j :: l := (hdma.dmaq _).trans hq
  refine ⟨congrArg Host.Outcome.next heq, ?_, hkeeps.1⟩
  unfold State.putFirst
  rw [State.dmaq_setDmaq_self, hu]
  rfl

end Start

/-! ### One local row -/

section Row
variable {s u : State} {j : DmaJob} {d : DmaD} {q pa : Nat} {b : List Byte}

theorem State.frozenStore_counted {s t : State} (h : Counted s t) (pa : Nat) : t.frozenStore pa = s.frozenStore pa := by
  unfold Counted at h
  rw [h]
  rfl

/-- The move of one row to local memory, no byte of it poisoned. -/
theorem State.dmaMove_row (hrows : d.rows = 1) (hlocal : isRemote d.dst = false) (hcheck : j.checkrun = false)
    (hread : s.sourceRow (s.reqJob j) j d 0 = (u, b, [])) (hrange : u.partRange j.part d.dst d.outLen = some pa) (hfrozen : u.frozenStore pa = false) :
    s.dmaMove j q d = ((u.countMem (s.reqJob j) pa b.length true).writeMem pa b, b.length, 0) := by
  have hhit : hitGranules pa b.length [] = [] := by simp [hitGranules]
  have hrow : moveRow (s.reqJob j) j q d (s, 0, (0, []), []) 0
      = ((u.countMem (s.reqJob j) pa b.length true).writeMem pa b, b.length, (0, []), [(pa, b.length)]) := by
    unfold moveRow
    dsimp only
    rw [hread]
    dsimp only
    rw [hlocal, Nat.zero_mul, Nat.add_zero, hrange]
    dsimp only
    rw [if_neg Bool.false_ne_true, hcheck, if_neg (by simp)]
    unfold State.storeRow
    dsimp only
    rw [State.frozenStore_counted (u.countMem_counted ..), hfrozen, if_neg Bool.false_ne_true, hhit]
    simp [State.overlap]
  rw [State.dmaMove_eq, hrows]
  have hone : (List.range 1).foldl (moveRow (s.reqJob j) j q d) (s, 0, (0, []), []) = moveRow (s.reqJob j) j q d (s, 0, (0, []), []) 0 := rfl
  rw [hone, hrow]
  simp [State.bumpOverlap, dedupNat]

theorem length_convRow (hb : b.length = d.rowlen) : (convRow d b []).1.length = d.outLen := by
  unfold convRow DmaD.outLen
  by_cases hc : d.conv = true
  · rw [hc, if_neg (by decide), if_pos rfl]
    dsimp only
    rw [List.length_flatMap]
    simp [length_leBytes]
  · rw [Bool.not_eq_true] at hc
    simp only [hc, Bool.not_false, if_true, Bool.false_eq_true, if_false]
    exact hb

theorem State.sourceRow_zero (r : Req) (hz : d.zero = true) (i : Nat) : s.sourceRow r j d i = (s, zeros d.outLen, []) := by
  unfold State.sourceRow
  rw [if_pos hz]

theorem State.sourceRow_mem {sp : Nat} (r : Req) (hz : d.zero = false) (hsrc : s.dmaSrc j.part d.src d.rowlen = some (.mem sp)) (hone : oneMemory sp d.rowlen)
    (hclean : s.noErrors) : s.sourceRow r j d 0 = (s.countMem r sp d.rowlen false, (convRow d (s.bytes sp d.rowlen) []).1, []) := by
  unfold State.sourceRow
  rw [if_neg (ne_true_of_eq_false hz), Nat.zero_mul, Nat.add_zero, hsrc]
  dsimp only
  unfold State.dmaRead
  dsimp only
  rw [State.readMem_of_clean hone (State.noErrors_clean hclean _ _)]
  have hbad : (convRow d (s.bytes sp d.rowlen) []).2 = [] := by
    unfold convRow
    split <;> rfl
  simp only [List.map_nil]
  rw [hbad]

/-- The bytes of a row stand at its destination, and nothing else changed but counters. -/
theorem State.putRow_stores (hcount : Counted s u) (hclean : s.noErrors) (hone : oneMemory pa b.length) (r : Req) :
    Wrote s ((u.countMem r pa b.length true).writeMem pa b) ∧ s.storedAt ((u.countMem r pa b.length true).writeMem pa b) pa b := by
  have hc := hcount.trans (u.countMem_counted r pa b.length true)
  generalize u.countMem r pa b.length true = v at hc ⊢
  have harm : v.memx.armed = none := by
    unfold Counted at hc
    rw [hc]
    exact hclean.2
  have hst := State.writeMem_stored (s := v) harm hone (fun g _ => (hc.wrote.delta g).trans (hclean.quiet.1 g))
  exact ⟨hc.wrote.trans hst.wrote, fun a => (hst.bytes a).trans (by rw [hc.byte])⟩

end Row

/-! ### Completions -/

section Complete
variable {s : State} {c q : Nat} {j : DmaJob} {l : List DmaJob}

/-- The status word of a descriptor goes to its core's store. -/
def State.putStatus (s : State) (c : Nat) (j : DmaJob) : State :=
  let d := dmaD j.desc
  if d.stat && d.status + 8 ≤ storeSize && !s.jobStale j then
    let b := leBytes 8 (dmaStatus j)
    if s.frozen c then s.hold c (.write (storeBase c + d.status) b []) else s.writeMem (storeBase c + d.status) b else s

/-- The request that a completing descriptor counts for. -/
def State.reqDone (s : State) (c : Nat) (j : DmaJob) : Req := { s.reqThr c j.thread with part := some j.part }

/-- A descriptor that completes, before what its error or its latch asks for. -/
def State.closeJob (s : State) (c : Nat) (j : DmaJob) : State :=
  ((s.putStatus c j).count (s.reqDone c j) 20 1).trace j.part 0x04 uCore c (s.reqDone c j) (min 0xFFFFFFFF j.bytes + 2 ^ 32 * j.err.toNat)

theorem State.dmaComplete_post (hq : s.dmaq (4 * c + q) = j :: l) (hst : j.started = true) {x : W64 × W64} (hx : j.post = some x) :
    s.dmaComplete c q = if (s.setDmaq (4 * c + q) l).jobStale j then (s.setDmaq (4 * c + q) l).epochDrop j.lcore
      else (s.setDmaq (4 * c + q) l).postLatch ((s.setDmaq (4 * c + q) l).reqDone c j) x.1.toNat x.2 (dmaVc q) (s.dmaTag c q) j.dseq j.lgroup := by
  unfold State.dmaComplete
  dsimp only [dmaIdx]
  rw [hq]
  dsimp only
  rw [hst, if_neg (by decide), hx]
  rfl

theorem State.dmaComplete_desc (hq : s.dmaq (4 * c + q) = j :: l) (hst : j.started = true) (hpost : j.post = none) (hlatch : j.err = 0 → (dmaD j.desc).latch = 0) :
    s.dmaComplete c q = if j.err ≠ 0 then ((s.setDmaq (4 * c + q) l).closeJob c j).failCmd j.ring j.dcount j.err 0 else (s.setDmaq (4 * c + q) l).closeJob c j := by
  unfold State.dmaComplete
  dsimp only [dmaIdx]
  rw [hq]
  dsimp only
  rw [hst, if_neg (by decide), hpost]
  dsimp only
  by_cases herr : j.err = 0
  · rw [if_neg (not_not.mpr herr), if_pos (hlatch herr), if_neg (not_not.mpr herr)]
    rfl
  · rw [if_pos herr, if_pos herr]
    rfl

theorem State.putStatus_keeps (s : State) (c : Nat) (j : DmaJob) : SameDma s (s.putStatus c j) ∧ SameCmds s (s.putStatus c j) := by
  unfold State.putStatus
  dsimp only
  split
  · split
    · exact ⟨rfl, rfl, rfl⟩
    · exact ⟨.handled (s.writeMem_handled ..), .handled (s.writeMem_handled ..)⟩
  · exact ⟨.refl s, .refl s⟩

theorem State.closeJob_keeps (s : State) (c : Nat) (j : DmaJob) : SameDma s (s.closeJob c j) ∧ SameCmds s (s.closeJob c j) := by
  have hcount := (s.putStatus c j).count_counted (s.reqDone c j) 20 1
  have h := State.trace_handled ((s.putStatus c j).count (s.reqDone c j) 20 1) j.part 0x04 uCore c (s.reqDone c j) (min 0xFFFFFFFF j.bytes + 2 ^ 32 * j.err.toNat)
  obtain ⟨h1, h2⟩ := s.putStatus_keeps c j
  exact ⟨(h1.trans (.counted hcount)).trans (.handled h), (h2.trans (.counted hcount)).trans (.handled h)⟩

/-- With the trace rings off, a completion without a status word only counts. -/
theorem State.closeJob_counted (hstat : (dmaD j.desc).stat = false) (hoff : s.noTrace j.part) : Counted s (s.closeJob c j) := by
  have hput : s.putStatus c j = s := by
    unfold State.putStatus
    dsimp only
    rw [hstat]
    exact if_neg (by simp)
  have hcount := s.count_counted (s.reqDone c j) 20 1
  unfold State.closeJob
  rw [hput, State.trace_off]
  · exact hcount
  · refine State.noTrace_of_regs ?_ hoff
    unfold Counted at hcount
    rw [hcount]

/-- With the trace rings off and no error in memory, a completion stores its status word. -/
theorem State.closeJob_stores (hstat : (dmaD j.desc).stat = true) (hoff : s.noTrace j.part) (hclean : s.noErrors) (hend : (dmaD j.desc).status + 8 ≤ 0x200000)
    (hstale : s.jobStale j = false) (hfrozen : s.frozen c = false) :
    SameDma s (s.closeJob c j) ∧ s.storedAt (s.closeJob c j) (storeBase c + (dmaD j.desc).status) (leBytes 8 (dmaStatus j)) := by
  refine ⟨(s.closeJob_keeps c j).1, ?_⟩
  have hput : s.putStatus c j = s.writeMem (storeBase c + (dmaD j.desc).status) (leBytes 8 (dmaStatus j)) := by
    unfold State.putStatus
    dsimp only
    rw [if_pos (by simp [hstat, hstale, storeSize, hend]), if_neg (by rw [hfrozen]; decide)]
  have hst := State.writeMem_stored (s := s) (pa := storeBase c + (dmaD j.desc).status) (b := leBytes 8 (dmaStatus j)) hclean.2 (oneMemory_store ..)
    (State.noErrors_clean hclean _ _)
  unfold State.closeJob
  rw [hput]
  generalize s.writeMem (storeBase c + (dmaD j.desc).status) (leBytes 8 (dmaStatus j)) = v at hst ⊢
  have hcount := v.count_counted (s.reqDone c j) 20 1
  have hw := hst.wrote.trans hcount.wrote
  rw [State.trace_off]
  · intro a
    rw [hcount.byte]
    exact hst.bytes a
  · refine State.noTrace_of_regs ?_ hoff
    rw [hw.only]

end Complete

theorem Sees.gtMembers {s t : State} (h : Sees s t) (b i : Nat) : t.gtMembers b i = s.gtMembers b i := by
  unfold State.gtMembers State.gtCount
  simp only [h.seen]

/-- The group entry for an address is a matter of memory, registers and partitions. -/
theorem Sees.entryFor {s t : State} (h : Sees s t) (hregs : t.regs = s.regs) (hparts : t.parts = s.parts) (p a : Nat) : t.entryFor p a = s.entryFor p a := by
  have hpart : t.part p = s.part p := by rw [State.part, hparts, State.part]
  have hseq (b : Nat) : t.gtSeq b = s.gtSeq b := by rw [State.gtSeq, State.rd, hregs, State.gtSeq, State.rd]
  have hmaddr : t.maddr = s.maddr := State.rdF_of_regs hregs ..
  unfold State.entryFor State.gtFor State.gtNewest State.gtLists State.gtListsMod
  simp only [hpart, hseq, hmaddr, h.gtMembers]

section TakeSeq
variable (s : State) (k : Nat)

theorem State.takeSeq_sees : Sees s (s.takeSeq k) := .of_regs rfl rfl rfl rfl rfl rfl

theorem State.partRange_takeSeq (p a n : Nat) : (s.takeSeq k).partRange p a n = s.partRange p a n :=
  State.partRange_of_sees (s.takeSeq_sees k) rfl (fun _ => rfl) (fun _ _ => rfl) p a n

theorem State.dmaSrc_takeSeq (p a n : Nat) : (s.takeSeq k).dmaSrc p a n = s.dmaSrc p a n := by
  have hres (a : Nat) : (s.takeSeq k).resolve a = s.resolve a := rfl
  have hpart (i : Nat) : (s.takeSeq k).partOfPhys i = s.partOfPhys i := rfl
  have howns (x : Nat) : (s.takeSeq k).owns p x n = s.owns p x n := by
    unfold State.owns
    simp only [State.owner_of_sees (s.takeSeq_sees k) rfl hpart]
  have hrec (a : Nat) : (s.takeSeq k).recPart a = s.recPart a := by
    rw [State.recPart, (s.takeSeq_sees k).seen, State.recPart]
  unfold State.dmaSrc
  simp only [hres, hpart, howns, hrec]

theorem State.entryFor_takeSeq (p a : Nat) : (s.takeSeq k).entryFor p a = s.entryFor p a :=
  (s.takeSeq_sees k).entryFor rfl rfl p a

theorem State.dmaError_takeSeq (p : Nat) (d : DmaD) : (s.takeSeq k).dmaError p d = s.dmaError p d := by
  unfold State.dmaError
  simp only [State.dmaSrc_takeSeq, State.partRange_takeSeq, State.entryFor_takeSeq]
  rfl

end TakeSeq

theorem length_zeros (n : Nat) : (zeros n).length = n := by
  unfold zeros
  induction n with
  | zero => rfl
  | succ n ih => exact congrArg (· + 1) ih

/-- One local row: its bytes stand at the destination, and threads and latches stay. -/
theorem dmaStart_row {s u : State} {c q pa : Nat} {j : DmaJob} {l : List DmaJob} {b : List Byte} (hq : s.dmaq (4 * c + q) = j :: l)
    (hpost : j.post = none) (hst : j.started = false) (hstop : (s.part j.part).stopped = false) (herr : s.dmaError j.part (dmaD j.desc) = none)
    (hheld : s.dmaHeld j.part (dmaD j.desc) = false) (hstale : s.jobStale j = false) (hcheck : j.checkrun = false) (hrows : (dmaD j.desc).rows = 1)
    (hlocal : isRemote (dmaD j.desc).dst = false) (hrange : s.partRange j.part (dmaD j.desc).dst (dmaD j.desc).outLen = some pa) (hone : oneMemory pa b.length)
    (hclean : s.noErrors) (hfrozen : s.frozenStore pa = false)
    (hread : (s.takeSeq (4 * c + q)).sourceRow ((s.takeSeq (4 * c + q)).reqJob (j.starting s (4 * c + q))) (j.starting s (4 * c + q)) (dmaD j.desc) 0 = (u, b, []))
    (hcount : Counted (s.takeSeq (4 * c + q)) u) :
    ∃ t j', exec (.dmaStart c q) s = .next t ∧ t.dmaq (4 * c + q) = j' :: l ∧ j'.started = true ∧ j'.bytes = b.length ∧ j'.poisoned = 0
      ∧ s.storedAt t pa b ∧ t.threads = s.threads ∧ t.latches = s.latches := by
  have hrun := (s.takeSeq (4 * c + q)).startJob_moves (j := j.starting s (4 * c + q)) q hpost ((s.dmaError_takeSeq ..).trans herr) hstale
  obtain ⟨ht, hl, hs⟩ := dmaStart_starts hq hst hstop (fun _ _ => hheld) hrun
  have hrange' : u.partRange j.part (dmaD j.desc).dst (dmaD j.desc).outLen = some pa := by
    unfold Counted at hcount
    have hsees : Sees s u := by
      rw [hcount]
      exact .of_regs rfl rfl rfl rfl rfl rfl
    rw [← hrange]
    exact State.partRange_of_sees hsees (by rw [hcount]; rfl) (fun _ => by rw [hcount]; rfl) (fun _ _ => by rw [hcount]; rfl) ..
  have hmove := State.dmaMove_row (j := j.starting s (4 * c + q)) (q := q) hrows hlocal hcheck hread hrange'
    ((State.frozenStore_counted hcount pa).trans hfrozen)
  obtain ⟨hw, hstore⟩ := State.putRow_stores hcount hclean hone ((s.takeSeq (4 * c + q)).reqJob (j.starting s (4 * c + q)))
  have hw1 := hw.only
  generalize (u.countMem ((s.takeSeq (4 * c + q)).reqJob (j.starting s (4 * c + q))) pa b.length true).writeMem pa b = v at hmove hstore hw1
  have hm : (s.takeSeq (4 * c + q)).dmaMove (j.starting s (4 * c + q)) q (dmaD (j.starting s (4 * c + q)).desc) = (v, b.length, 0) := hmove
  rw [hm] at ht hl hs
  refine ⟨_, _, ht, hl, hs, rfl, rfl, hstore, ?_, ?_⟩
  · show v.threads = s.threads
    rw [hw1]
    rfl
  · show v.latches = s.latches
    rw [hw1]
    rfl

/-- Settles O28: a descriptor's start by its error, its epoch and its one row, and the completions. -/
theorem dmaMoves : Obligations.DmaMoves := by
  unfold Obligations.DmaMoves
  intro s c q j l hq
  dsimp only
  generalize hd : dmaD j.desc = d
  have herr' : (s.takeSeq (4 * c + q)).dmaError j.part d = s.dmaError j.part d := s.dmaError_takeSeq ..
  have hgroup : (j.starting s (4 * c + q)).group = s.entryFor j.part d.dst := by rw [← hd]; exact s.entryFor_takeSeq ..
  have hlgroup : (j.starting s (4 * c + q)).lgroup = s.entryFor j.part ((j.post.map (fun x => x.1.toNat)).getD d.latch) := by
    rw [← hd]
    exact s.entryFor_takeSeq ..
  subst hd
  refine ⟨fun e hpost hst hstop herr => ?_, fun hpost hst hstop herr hheld => ?_, fun pa hpost hst hstop herr hstale hcheck hrows hlocal hrange hone hclean hfrozen => ?_,
    fun x hpost hst hstop => ?_, fun x hpost hst => ?_, fun hpost hst herr hstat hlatch hoff => ?_,
    fun hpost hst herr hstat hlatch hoff hclean hend hstale hfrozen => ?_, fun k hpost hst herr hk hphase => ?_⟩
  · have hrun := (s.takeSeq (4 * c + q)).startJob_error (j := j.starting s (4 * c + q)) q hpost (herr'.trans herr)
    obtain ⟨ht, hl, hs⟩ := dmaStart_starts hq hst hstop (fun _ h => absurd (herr.symm.trans h) (by simp)) hrun
    exact ⟨_, _, ht, hl, hs, rfl, rfl, rfl⟩
  · obtain ⟨ht, hl, hs⟩ := dmaStart_starts hq hst hstop (fun _ _ => hheld) rfl
    obtain ⟨-, hg, hlg⟩ := (s.takeSeq (4 * c + q)).startJob_keeps q (j.starting s (4 * c + q))
    rw [hpost] at hlgroup
    exact ⟨_, _, ht, hl, hs, State.startJob_err _ q (herr'.trans herr), hg.trans hgroup, hlg.trans hlgroup⟩
  · refine ⟨fun hz => ?_, fun sp hz hsrc hsf hone' => ?_⟩
    · have hheld : s.dmaHeld j.part (dmaD j.desc) = false := by
        unfold State.dmaHeld
        rw [hz]
        rfl
      have hlen : (zeros (dmaD j.desc).outLen).length = (dmaD j.desc).outLen := length_zeros _
      obtain ⟨t, j', ht, hl, hs, hb, -, hstore, -⟩ := dmaStart_row hq hpost hst hstop herr hheld hstale hcheck hrows hlocal hrange (by rw [hlen]; exact hone)
        hclean hfrozen (State.sourceRow_zero _ hz 0) (.refl _)
      exact ⟨t, j', ht, hl, hs, hb.trans hlen, hstore⟩
    · have hheld : s.dmaHeld j.part (dmaD j.desc) = false := by
        unfold State.dmaHeld
        rw [hrows]
        simp [List.range_succ, hsrc, hsf]
      have hsrc' : (s.takeSeq (4 * c + q)).dmaSrc j.part (dmaD j.desc).src (dmaD j.desc).rowlen = some (.mem sp) := (s.dmaSrc_takeSeq ..).trans hsrc
      have hclean' : (s.takeSeq (4 * c + q)).noErrors := hclean
      have hlen : (convRow (dmaD j.desc) (s.bytes sp (dmaD j.desc).rowlen) []).1.length = (dmaD j.desc).outLen := length_convRow (State.length_bytes ..)
      obtain ⟨t, j', ht, hl, hs, hb, hpois, hstore, hthr, hlat⟩ := dmaStart_row (b := (convRow (dmaD j.desc) (s.bytes sp (dmaD j.desc).rowlen) []).1) hq hpost
        hst hstop herr hheld hstale hcheck hrows hlocal hrange (by rw [hlen]; exact hone) hclean hfrozen (State.sourceRow_mem (j := j.starting s (4 * c + q)) _ hz hsrc' hone' hclean') (State.countMem_counted ..)
      exact ⟨t, j', ht, hl, hs, hb.trans hlen, hpois, hstore, hthr, hlat⟩
  · have hrun := (s.takeSeq (4 * c + q)).startJob_post (j := j.starting s (4 * c + q)) q (by rw [DmaJob.starting, hpost]; rfl)
    obtain ⟨ht, hl, hs⟩ := dmaStart_starts hq hst hstop (fun h => absurd h (by rw [hpost]; exact Bool.false_ne_true)) hrun
    rw [hpost] at hlgroup
    exact ⟨_, _, ht, hl, hs, hlgroup, rfl⟩
  · have hrun := State.dmaComplete_post hq hst hpost
    refine ⟨_, congrArg Host.Outcome.next hrun, ?_⟩
    have hset : (s.setDmaq (4 * c + q) l).dmaq (4 * c + q) = l := State.dmaq_setDmaq_self ..
    split
    · have hdrop := (s.setDmaq (4 * c + q) l).epochDrop_reported j.lcore
      exact ⟨((SameDma.reported hdrop).dmaq _).trans hset, hdrop.mem⟩
    · obtain ⟨hdma, hmem⟩ := (s.setDmaq (4 * c + q) l).postLatch_keeps_mem ((s.setDmaq (4 * c + q) l).reqDone c j) x.1.toNat x.2 (dmaVc q)
        (s.dmaTag c q) j.dseq j.lgroup
      exact ⟨(hdma.dmaq _).trans hset, hmem⟩
  · have hrun := State.dmaComplete_desc hq hst hpost (fun _ => hlatch)
    rw [if_neg (not_not.mpr herr)] at hrun
    have hset : (s.setDmaq (4 * c + q) l).dmaq (4 * c + q) = l := State.dmaq_setDmaq_self ..
    have hcount := State.closeJob_counted (s := s.setDmaq (4 * c + q) l) (c := c) hstat hoff
    refine ⟨_, congrArg Host.Outcome.next hrun, ((SameDma.counted hcount).dmaq _).trans hset, ?_⟩
    unfold Counted at hcount
    rw [hcount]
    rfl
  · have hrun := State.dmaComplete_desc hq hst hpost (fun _ => hlatch)
    rw [if_neg (not_not.mpr herr)] at hrun
    have hset : (s.setDmaq (4 * c + q) l).dmaq (4 * c + q) = l := State.dmaq_setDmaq_self ..
    obtain ⟨hdma, hstore⟩ := State.closeJob_stores (s := s.setDmaq (4 * c + q) l) hstat hoff hclean hend hstale hfrozen
    exact ⟨_, congrArg Host.Outcome.next hrun, (hdma.dmaq _).trans hset, hstore⟩
  · have hrun := State.dmaComplete_desc hq hst hpost (fun h => absurd h herr)
    rw [if_pos herr] at hrun
    have hset : (s.setDmaq (4 * c + q) l).dmaq (4 * c + q) = l := State.dmaq_setDmaq_self ..
    obtain ⟨hdma, hcmds⟩ := (s.setDmaq (4 * c + q) l).closeJob_keeps c j
    have hk' : ((s.setDmaq (4 * c + q) l).closeJob c j).cmd j.ring j.dcount = some k := (hcmds.cmd ..).trans hk
    refine ⟨_, _, congrArg Host.Outcome.next hrun, ?_, State.cmd_failCmd hk' hphase j.err 0, rfl, rfl⟩
    exact ((SameDma.failure (State.failCmd_fails ..).1).dmaq _).trans ((hdma.dmaq _).trans hset)

end Sys2Proof.Machine
end

section
/-! PROOFS. What a hand-over and a takeover of a core look at, and the operations that leave it as it is (R189 to R193, R575). -/

namespace Sys2Proof.Machine

/-! ### What a hand-over looks at -/

/-- t has the core map, the hand-overs and the collective operations of s, COLL_STAT, its cores but for the notes on their next tests, and bits 1
to 4 and 6 of every register: FENCED, FROZEN and the test bit of CORE_STAT among them. -/
structure Guarded (s t : State) : Prop where
  spareMap : t.spareMap = s.spareMap
  handovers : t.handovers = s.handovers
  low : ∀ o, t.rdF o 4 1 = s.rdF o 4 1
  six : ∀ o, t.rdF o 6 6 = s.rdF o 6 6
  core : ∀ i, t.core i = { s.core i with testNext := (t.core i).testNext }
  coll : t.coll = s.coll
  collStat : t.rd rCollStat = s.rd rCollStat

namespace Guarded
variable {s t u : State}

theorem refl (s : State) : Guarded s s := ⟨rfl, rfl, fun _ => rfl, fun _ => rfl, fun _ => rfl, rfl, rfl⟩

theorem trans (h : Guarded s t) (h' : Guarded t u) : Guarded s u :=
  ⟨h'.spareMap.trans h.spareMap, h'.handovers.trans h.handovers, fun o => (h'.low o).trans (h.low o), fun o => (h'.six o).trans (h.six o),
    fun i => by rw [h'.core i, h.core i], h'.coll.trans h.coll, h'.collStat.trans h.collStat⟩

theorem foldl {α : Type} {f : State → α → State} (h : ∀ s a, Guarded s (f s a)) (l : List α) (s : State) : Guarded s (l.foldl f s) := by
  induction l generalizing s with
  | nil => exact .refl s
  | cons a l ih => exact (h s a).trans (ih _)

theorem of_eq (hmap : t.spareMap = s.spareMap) (hover : t.handovers = s.handovers) (hregs : t.regs = s.regs) (hcores : t.cores = s.cores)
    (hcoll : t.coll = s.coll := by rfl) : Guarded s t :=
  ⟨hmap, hover, fun _ => State.rdF_of_regs hregs .., fun _ => State.rdF_of_regs hregs .., fun i => by rw [State.core, hcores, State.core], hcoll,
    congrArg (fun l => tget resetReg l rCollStat) hregs⟩

theorem handled (h : Handled s t) : Guarded s t := by
  have honly := h.only
  unfold MemOnly at honly
  refine ⟨?_, ?_, h.low, h.six, h.core, ?_, h.regs _ (by unfold handledReg rCollStat collReg rMemChan memReg; omega)⟩ <;> rw [honly]

theorem reported (h : Reported s t) : Guarded s t := handled (.reported h)

theorem counted (h : Counted s t) : Guarded s t := by
  unfold Counted at h
  rw [h]
  exact of_eq rfl rfl rfl rfl

theorem writeRel : WriteRel Guarded where
  refl := refl
  trans := trans
  write s pa b := handled (s.writeMem_handled pa b [])
  counted := counted
  bump _ := of_eq rfl rfl rfl rfl

/-- A register write that keeps bits 1 to 4 and bit 6. -/
theorem wr (s : State) {o : Nat} (ho : o ≠ rCollStat) {v : W32} (h4 : bf v 4 1 = s.rdF o 4 1) (h6 : bf v 6 6 = s.rdF o 6 6) : Guarded s (s.wr o v) := by
  refine ⟨rfl, rfl, fun k => ?_, fun k => ?_, fun _ => rfl, rfl, State.rd_wr_ne _ _ _ _ ho.symm⟩
  · by_cases e : k = o
    · rw [e, State.rdF, State.rd_wr_self, h4]
    · exact State.rdF_wr_ne _ _ e ..
  · by_cases e : k = o
    · rw [e, State.rdF, State.rd_wr_self, h6]
    · exact State.rdF_wr_ne _ _ e ..

theorem wrF (s : State) {o : Nat} (ho : o ≠ rCollStat) {hi lo : Nat} (hlo : lo ≤ hi) (hhi : hi < 32) (h6 : 6 < lo) (v : Nat) : Guarded s (s.wrF o hi lo v) :=
  wr s ho (bf_bfSet_apart hlo hhi _ _ (.inl (by omega))) (bf_bfSet_apart hlo hhi _ _ (.inl h6))

theorem wrB (s : State) {o : Nat} (ho : o ≠ rCollStat) {i : Nat} (hi : i = 0 ∨ i = 5 ∨ 6 < i) (hi32 : i < 32) (b : Bool) : Guarded s (s.wrB o i b) :=
  wr s ho (bf_bitSet_apart hi32 _ _ (by omega)) (bf_bitSet_apart hi32 _ _ (by omega))

theorem fenced (h : Guarded s t) (i : Nat) : t.fenced i = s.fenced i := bitAt_of_bf (h.six (rCoreStat i)) (by omega) (by omega)

theorem stat (h : Guarded s t) (i : Nat) {k : Nat} (h1 : 1 ≤ k) (h4 : k ≤ 4) : t.rdB (rCoreStat i) k = s.rdB (rCoreStat i) k :=
  bitAt_of_bf (h.low (rCoreStat i)) h1 h4

theorem logical (h : Guarded s t) (i : Nat) : t.logical i = s.logical i := by
  unfold State.logical State.phys
  rw [h.spareMap]

theorem spareFor (h : Guarded s t) (w : Nat) : t.spareFor w = s.spareFor w := by
  have hcore (i : Nat) : (t.core i).passed = (s.core i).passed ∧ (t.core i).retired = (s.core i).retired := by
    rw [h.core i]
    exact ⟨rfl, rfl⟩
  have h3 (i : Nat) := h.stat i (k := 3) (by omega) (by omega)
  unfold State.spareFor
  simp only [h.logical, (hcore _).1, (hcore _).2, h3, h.fenced, h.handovers]

end Guarded

theorem rCoreStat_ne_collStat (i : Nat) : rCoreStat i ≠ rCollStat ∧ rCoreCtl i ≠ rCollStat := by
  unfold rCoreStat rCoreCtl coreReg rCollStat collReg
  omega

section Updates
variable (s : State) (i j : Nat)

theorem State.wake_guarded (t : Nat) (wstat : W16) : Guarded s (s.wake i t wstat) :=
  Guarded.trans (t := s.setThr i t { (s.thr i t).move .ready with wait := none, wstat }) (.of_eq rfl rfl rfl rfl) (.wrB _ (rCoreStat_ne_collStat i).1 (.inl rfl) (by omega) _)

theorem State.latchTest_guarded : Guarded s (s.latchTest i j) := by
  unfold State.latchTest
  refine Guarded.foldl (fun s t => ?_) _ s
  split
  · split
    · exact s.wake_guarded ..
    · exact .refl s
  · exact .refl s

theorem State.setLatch_guarded (v : W128) : Guarded s (s.setLatch i j v) := .of_eq rfl rfl rfl rfl

theorem State.latchAdd_guarded (v : W64) : Guarded s (s.latchAdd i j v) := by
  unfold State.latchAdd
  dsimp only
  split
  · exact .wrF s (by decide) (by omega) (by omega) (by omega) _
  · split
    · exact .wrF s (by decide) (by omega) (by omega) (by omega) _
    · exact (s.setLatch_guarded ..).trans (State.latchTest_guarded ..)

theorem State.latchBreak_guarded (estat : Nat) : Guarded s (s.latchBreak i j estat) := by
  unfold State.latchBreak
  dsimp only
  refine .trans ?_ (Guarded.foldl (fun s t => s.wake_guarded ..) _ _)
  split
  · exact (s.setLatch_guarded ..).trans (.handled (State.trace_handled ..))
  · exact s.setLatch_guarded ..

theorem State.breakOwned_guarded (p : Nat) (seq : W32) : Guarded s (s.breakOwned p seq) := by
  unfold State.breakOwned
  refine Guarded.foldl (fun s c => ?_) _ s
  split
  · split
    · refine Guarded.foldl (fun s j => ?_) _ s
      split
      · unfold State.extLatch
        split
        · exact .of_eq rfl rfl rfl rfl
        · exact s.latchBreak_guarded ..
      · exact .refl s
    · exact .refl s
  · exact .refl s

theorem State.haltRing_guarded (n cause : Nat) (err : W16) : Guarded s (s.haltRing n cause err) := by
  obtain ⟨rings, h⟩ := s.haltRing_only n cause err
  rw [h]
  exact .of_eq rfl rfl rfl rfl

theorem State.failCmd_guarded (ring dc : Nat) (code : W16) (detail : Nat) : Guarded s (s.failCmd ring dc code detail) := by
  unfold State.failCmd
  split
  · exact .refl s
  next k _ =>
    split
    · exact .refl s
    · dsimp only
      generalize hu : (s.updCmd ring dc (fun k => { k with phase := .failed, err := code, detail, beatEnd := s.now, toReissue := [] })).endThreads ring dc = u
      have h1 : Guarded s u := by
        rw [← hu]
        exact .of_eq rfl rfl rfl rfl
      exact ((h1.trans (u.breakOwned_guarded k.part k.seq)).trans (State.haltRing_guarded ..)).trans (.reported (State.report_reported ..))

theorem State.recordLost_guarded (p : Nat) (bad : Bool) : Guarded s (s.recordLost p bad) := by
  unfold State.recordLost
  split
  · exact Guarded.foldl (fun s k => s.failCmd_guarded ..) _ s
  · exact .refl s

theorem State.copyMem_handled (src dst n : Nat) : Handled s (s.copyMem src dst n).1 := by
  unfold State.copyMem
  split
  · exact .refl s
  · exact (s.readMem_handled ..).trans (State.writeMem_handled ..)

theorem State.copyLatches_guarded (old new : Nat) : Guarded s (s.copyLatches old new) := Guarded.foldl (fun s _ => s.setLatch_guarded ..) _ s

theorem State.copyIdentity_guarded (old new : Nat) : Guarded s (s.copyIdentity old new) := by
  unfold State.copyIdentity
  dsimp only
  refine Guarded.trans ?_ (.wrF _ (rCoreStat_ne_collStat new).2 (by omega) (by omega) (by omega) _)
  exact (Guarded.handled ((s.zeroFill_handled ..).trans (State.copyMem_handled ..))).trans (State.copyLatches_guarded ..)

end Updates

end Sys2Proof.Machine
end

section
/-! PROOFS. Fences, draining, HOLD_ALL, the exception registers and the ledger of a core (R189 to R193, R198, R200, R201). -/

namespace Sys2Proof.Machine

/-! ### Holding the threads of a core -/

/-- A thread after HOLD_ALL: held where it was READY or PARKED. -/
def Thread.stayed (x : Thread) : Thread := if x.st = .ready ∨ x.st = .parked then { x with st := .held, under := x.st } else x

theorem Thread.stayed_st (x : Thread) : x.stayed.st ≠ .ready ∧ x.stayed.st ≠ .parked := by
  unfold Thread.stayed
  split
  · exact ⟨TState.noConfusion, TState.noConfusion⟩
  · next h => exact not_or.mp h

theorem Thread.stayed_outs (x : Thread) : x.stayed.outs = x.outs := by
  unfold Thread.stayed
  split <;> rfl

/-- Thread t of core i is held. -/
def State.holdThread (i : Nat) (s : State) (t : Nat) : State :=
  s.setThr i t { s.thr i t with st := .held, under := (s.thr i t).st }

/-- The thread is held where it ran or was parked in s. -/
def State.holdLive (s : State) (i : Nat) (u : State) (t : Nat) : State :=
  if (s.thr i t).st = .ready || (s.thr i t).st = .parked then u.holdThread i t else u

section
variable (s : State) (i : Nat)

theorem State.holdAll_fold : (s.holdAll i).1 = (List.range 32).foldl (s.holdLive i) s := List.foldl_filter ..

theorem State.holdLive_only (u : State) (t : Nat) : ∃ threads, s.holdLive i u t = { u with threads } := by
  unfold State.holdLive
  split <;> exact ⟨_, rfl⟩

theorem State.holdAll_only : ∃ threads, (s.holdAll i).1 = { s with threads } := by
  rw [State.holdAll_fold]
  suffices h : ∀ (l : List Nat) (u : State), ∃ threads, l.foldl (s.holdLive i) u = { u with threads } from h (List.range 32) s
  intro l
  induction l with
  | nil => exact fun u => ⟨_, rfl⟩
  | cons t l ih =>
    intro u
    obtain ⟨threads, h⟩ := s.holdLive_only i u t
    obtain ⟨threads', h'⟩ := ih (s.holdLive i u t)
    rw [List.foldl_cons, h', h]
    exact ⟨_, rfl⟩

theorem State.thr_holdLive {u : State} {t : Nat} (h : u.thr i t = s.thr i t) (k : Nat) :
    (s.holdLive i u t).thr i k = if k = t then (s.thr i k).stayed else u.thr i k := by
  have hthr := u.thr_setThr i t { s.thr i t with st := .held, under := (s.thr i t).st } i k
  unfold State.holdLive State.holdThread
  rw [h]
  by_cases hk : k = t
  · subst hk
    rw [if_pos rfl] at hthr ⊢
    rw [Thread.stayed]
    by_cases hst : (s.thr i k).st = .ready ∨ (s.thr i k).st = .parked
    · rw [if_pos (by simpa using hst), if_pos hst, hthr]
    · rw [if_neg (by simpa using hst), if_neg hst, h]
  · rw [if_neg (by omega)] at hthr
    rw [if_neg hk]
    split
    · exact hthr
    · rfl

theorem State.thr_holdAll {t : Nat} (ht : t < 32) : (s.holdAll i).1.thr i t = (s.thr i t).stayed := by
  have hfold (n : Nat) (k : Nat) : ((List.range n).foldl (s.holdLive i) s).thr i k = if k < n then (s.thr i k).stayed else s.thr i k := by
    induction n generalizing k with
    | zero => rfl
    | succ n ih =>
      rw [List.range_succ, List.foldl_append, List.foldl_cons, List.foldl_nil, State.thr_holdLive _ _ ((ih n).trans (if_neg (Nat.lt_irrefl n))), ih]
      grind
  rw [State.holdAll_fold, hfold, if_pos ht]

end

/-! ### A fence -/

/-- The bits of a fence: FENCED and FENCE set, DRAINING and FROZEN cleared. -/
def State.fenceBits (s : State) (i : Nat) : State :=
  (((s.wrB (rCoreStat i) 6 true).wrB (rCoreCtl i) 31 true).wrB (rCoreStat i) 5 false).wrB (rCoreStat i) 4 false

/-- Array a of core i without its tiles. -/
def State.clearArray (i : Nat) (s : State) (a : Nat) : State :=
  s.putArr (4 * i + a) { s.arr (4 * i + a) with queue := [], lo := none, hi := none, drain := none }

section
variable (s : State) (i : Nat)

theorem State.fenceBits_fenced : (s.fenceBits i).fenced i = true := by
  have hne : rCoreStat i ≠ rCoreCtl i := by unfold rCoreStat rCoreCtl coreReg; omega
  unfold State.fenceBits State.fenced
  rw [State.rdB_wrB_ne _ _ (by omega) (by omega), State.rdB_wrB_ne _ _ (by omega) (by omega), State.rdB_wrB_apart _ _ hne, State.rdB_wrB_same _ _ (by omega)]

/-- What abandoning tiles touches: the arrays and their status words. -/
theorem State.dropTiles_only : ∃ regs arrays, s.dropTiles i = { s with regs, arrays } := by
  suffices h : ∀ (l : List Nat) (u : State), (∃ regs arrays, u = { s with regs, arrays }) →
      ∃ regs arrays, l.foldl (State.clearArray i) u = { s with regs, arrays } from h (List.range 4) s ⟨_, _, rfl⟩
  intro l
  induction l with
  | nil => exact fun u h => h
  | cons a l ih =>
    rintro u ⟨regs, arrays, rfl⟩
    exact ih _ ⟨_, _, rfl⟩

theorem State.rd_dropTiles {o : Nat} (ho : ∀ a < 4, o ≠ rArrStat (4 * i + a)) : (s.dropTiles i).rd o = s.rd o := by
  suffices h : ∀ (l : List Nat) (u : State), (∀ a ∈ l, a < 4) → (l.foldl (State.clearArray i) u).rd o = u.rd o from
    h (List.range 4) s fun a ha => List.mem_range.mp ha
  intro l
  induction l with
  | nil => exact fun u h => rfl
  | cons a l ih =>
    intro u hl
    rw [List.foldl_cons, ih _ fun b hb => hl b (.tail _ hb)]
    exact State.rd_wr_ne _ _ _ _ (ho a (hl a (.head _)))

/-- An array with no queue and nothing that stages, streams or drains. -/
def Arr.empty (r : Arr) : Prop := r.queue = [] ∧ r.idle = true

theorem State.arr_dropTiles {a : Nat} (ha : a < 4) : ((s.dropTiles i).arr (4 * i + a)).empty := by
  have hown (u : State) : ((u.clearArray i a).arr (4 * i + a)).empty := by
    have harr : (u.clearArray i a).arr (4 * i + a) = _ := State.arr_setArr_self u (4 * i + a) _
    rw [harr]
    exact ⟨rfl, rfl⟩
  refine foldl_reaches (P := fun _ => True) (Q := fun u => (u.arr (4 * i + a)).empty) (f := State.clearArray i) (p := a)
    (fun u b _ hb => ⟨fun _ => trivial, fun h => ?_⟩) (fun u _ => hown u) (fun u _ => hown u) (List.mem_range.mpr ha) s trivial
  have harr : (u.clearArray i b).arr (4 * i + a) = _ := tget_tput_ne _ _ _ _ _ (by omega)
  rw [harr]
  exact h

theorem State.dropHandover_none (h : ∀ h ∈ s.handovers, h.old ≠ i) : s.dropHandover i = s := by
  have hnil : s.handovers.filter (fun h => h.old = i && h.frozen && !h.fault) = [] :=
    List.filter_eq_nil_iff.mpr fun k hk => by simp [h k hk]
  have hall : s.handovers.filter (fun h => h.old ≠ i) = s.handovers := List.filter_eq_self.mpr fun k hk => decide_eq_true (h k hk)
  unfold State.dropHandover
  rw [hnil]
  dsimp only [List.foldl_nil]
  rw [hall]

theorem State.claimsDue_only {lc : Nat} (hq : s.quiet) : ∃ cmds, s.claimsDue lc = { s.epochUp lc with cmds } := by
  have hfold (l : List (Cmd × Due)) (u : State) : ∃ cmds, l.foldl (fun s x => s.addDue x.1.ring x.1.dcount x.2) u = { u with cmds } := by
    induction l generalizing u with
    | nil => exact ⟨_, rfl⟩
    | cons x l ih =>
      obtain ⟨cmds, h⟩ := ih (u.addDue x.1.ring x.1.dcount x.2)
      exact ⟨cmds, h⟩
  obtain ⟨cmds, h⟩ := hfold (s.claimedBy lc) (s.epochUp lc)
  refine ⟨cmds, ?_⟩
  unfold State.claimsDue
  rw [h]
  generalize hu : { s.epochUp lc with cmds } = u
  have huq : u.quiet := by
    rw [← hu]
    exact hq
  unfold State.slotsLost
  split
  · have hany : (List.range 32).any (u.slotLost lc) = false := List.any_eq_false.mpr fun t _ => by
      unfold State.slotLost
      rw [State.readMem_quiet huq]
      simp
    rw [hany, State.recordLost]
    exact if_neg Bool.false_ne_true
  · rfl

theorem State.epoch_epochUp (lc : Nat) : (s.epochUp lc).epoch lc = s.epoch lc + 1 := by
  unfold State.epochUp
  exact tget_tput_self (fun _ => 0) s.epochs lc (s.epoch lc + 1)

/-- A fenced core with its tiles abandoned. -/
def State.fenceTiles (s : State) (i : Nat) : State := (s.fenceBits i).dropTiles i

theorem State.fenceTiles_only : ∃ regs arrays, s.fenceTiles i = { s with regs, arrays } := by
  have hwr (u : State) (o k : Nat) (b : Bool) (hu : ∃ regs, u = { s with regs }) : ∃ regs, u.wrB o k b = { s with regs } := by
    obtain ⟨regs, rfl⟩ := hu
    exact ⟨_, rfl⟩
  obtain ⟨regs, hb⟩ : ∃ regs, s.fenceBits i = { s with regs } := hwr _ _ _ _ (hwr _ _ _ _ (hwr _ _ _ _ (hwr _ _ _ _ ⟨_, rfl⟩)))
  obtain ⟨regs', arrays, hd⟩ := (s.fenceBits i).dropTiles_only i
  rw [State.fenceTiles, hd, hb]
  exact ⟨_, _, rfl⟩

theorem State.fenceTiles_fenced : (s.fenceTiles i).fenced i = true := by
  have hrd : (s.fenceTiles i).rd (rCoreStat i) = (s.fenceBits i).rd (rCoreStat i) :=
    State.rd_dropTiles _ _ fun a ha => by unfold rCoreStat rArrStat coreReg arrReg; omega
  exact (congrArg (bitAt · 6) hrd).trans (s.fenceBits_fenced i)

theorem State.fenceTiles_map : (s.fenceTiles i).spareMap = s.spareMap := by
  obtain ⟨regs, arrays, hd⟩ := s.fenceTiles_only i
  rw [hd]

theorem State.fenceTiles_handovers : (s.fenceTiles i).handovers = s.handovers := by
  obtain ⟨regs, arrays, hd⟩ := s.fenceTiles_only i
  rw [hd]

theorem State.epoch_claimsDue (lc : Nat) (hq : s.quiet) : (s.claimsDue lc).epoch lc = s.epoch lc + 1 := by
  obtain ⟨cmds, h⟩ := s.claimsDue_only (lc := lc) hq
  calc (s.claimsDue lc).epoch lc
    _ = (s.epochUp lc).epoch lc := congrArg (·.epoch lc) h
    _ = s.epoch lc + 1 := s.epoch_epochUp lc

theorem State.claimsDue_frame (lc : Nat) (hq : s.quiet) : ∃ epochs cmds, s.claimsDue lc = { s with epochs, cmds } := by
  obtain ⟨cmds, h⟩ := s.claimsDue_only (lc := lc) hq
  exact ⟨_, cmds, h⟩

theorem State.fenceTiles_quiet (hq : s.quiet) : (s.fenceTiles i).quiet := by
  obtain ⟨regs, arrays, hd⟩ := s.fenceTiles_only i
  rw [hd]
  exact hq

/-- The last step of a fence of the core of a logical core: its claims fall due. -/
def State.fenceClaims (s : State) (i : Nat) (o : Option Nat) : State :=
  match o with
  | none => s.fenceTiles i
  | some lc => (s.fenceTiles i).claimsDue lc

theorem State.fenceClaims_only (hq : s.quiet) (o : Option Nat) : ∃ epochs cmds, s.fenceClaims i o = { s.fenceTiles i with epochs, cmds } := by
  have hsame (u : State) : ∃ epochs cmds, u = { u with epochs, cmds } := ⟨_, _, rfl⟩
  cases o with
  | none => exact hsame _
  | some lc => exact State.claimsDue_frame _ lc (s.fenceTiles_quiet i hq)

/-- A fence of a core, of which no hand-over is under way. -/
theorem State.fenceCore_stages (hf : s.fenced i = false) (hh : ∀ h ∈ s.handovers, h.old ≠ i) :
    s.fenceCore i = s.fenceClaims i (s.logical i) := by
  have hnone : (s.fenceTiles i).dropHandover i = s.fenceTiles i := State.dropHandover_none _ _ (by rw [s.fenceTiles_handovers]; exact hh)
  have hlog := State.logical_of_map (s.fenceTiles_map i) i
  unfold State.fenceCore
  rw [if_neg (by rw [hf]; exact Bool.false_ne_true)]
  change (match ((s.fenceTiles i).dropHandover i).logical i with
    | none => (s.fenceTiles i).dropHandover i
    | some lc => ((s.fenceTiles i).dropHandover i).claimsDue lc) = _
  rw [hnone, hlog]
  unfold State.fenceClaims
  split <;> rfl

/-- A fence of a core with no hand-over under way, in a memory with no error. -/
theorem State.fenceCore_only (hf : s.fenced i = false) (hq : s.quiet) (hh : ∀ h ∈ s.handovers, h.old ≠ i) :
    ∃ epochs cmds, s.fenceCore i = { s.fenceTiles i with epochs, cmds } := by
  obtain ⟨epochs, cmds, h⟩ := s.fenceClaims_only i hq (s.logical i)
  exact ⟨epochs, cmds, (s.fenceCore_stages i hf hh).trans h⟩

theorem State.epoch_fenceCore {lc : Nat} (hf : s.fenced i = false) (hq : s.quiet) (hh : ∀ h ∈ s.handovers, h.old ≠ i) (hlc : s.logical i = some lc) :
    (s.fenceCore i).epoch lc = s.epoch lc + 1 := by
  obtain ⟨regs, arrays, hd⟩ := s.fenceTiles_only i
  have hepoch : (s.fenceTiles i).epoch lc = s.epoch lc := (congrArg (·.epoch lc) hd).trans rfl
  rw [s.fenceCore_stages i hf hh, hlc, ← hepoch]
  exact State.epoch_claimsDue _ lc (s.fenceTiles_quiet i hq)

theorem State.issues_of_fenced (h : s.fenced i = true) : s.issues i = false := by
  have h6 : s.rdB (rCoreStat i) 6 = true := h
  unfold State.issues
  simp [h6]

theorem State.fenceCore_frame (hf : s.fenced i = false) (hq : s.quiet) (hh : ∀ h ∈ s.handovers, h.old ≠ i) :
    ∃ regs arrays epochs cmds, s.fenceCore i = { s with regs, arrays, epochs, cmds } ∧ regs = (s.fenceTiles i).regs ∧ arrays = (s.fenceTiles i).arrays := by
  obtain ⟨epochs, cmds, hrun⟩ := s.fenceCore_only i hf hq hh
  obtain ⟨regs, arrays, hd⟩ := s.fenceTiles_only i
  rw [hrun, hd]
  exact ⟨_, _, _, _, rfl, rfl, rfl⟩

theorem State.fenceCore_effect (hf : s.fenced i = false) (he : s.noErrors) (hh : ∀ h ∈ s.handovers, h.old ≠ i) :
    (s.fenceCore i).fenced i = true ∧ (s.fenceCore i).issues i = false
      ∧ (∀ a < 4, ((s.fenceCore i).arr (4 * i + a)).queue = [] ∧ ((s.fenceCore i).arr (4 * i + a)).idle = true)
      ∧ (∀ lc, s.logical i = some lc → (s.fenceCore i).epoch lc = s.epoch lc + 1) ∧ (s.fenceCore i).mem = s.mem
      ∧ (s.fenceCore i).threads = s.threads := by
  obtain ⟨regs, arrays, epochs, cmds, hrun, hregs, harrays⟩ := s.fenceCore_frame i hf he.quiet hh
  have hempty (a : Nat) (ha : a < 4) : ((s.fenceTiles i).arr (4 * i + a)).empty := (s.fenceBits i).arr_dropTiles i ha
  have hepoch (lc : Nat) (hlc : s.logical i = some lc) := s.epoch_fenceCore i hf he.quiet hh hlc
  have hu : (s.fenceCore i).fenced i = true := by
    have hfen := s.fenceTiles_fenced i
    unfold State.fenced at hfen ⊢
    rw [← hfen, hrun]
    exact State.rdB_of_regs hregs _ _
  refine ⟨hu, State.issues_of_fenced _ _ hu, fun a ha => ?_, hepoch, by rw [hrun], by rw [hrun]⟩
  have he : (s.fenceCore i).arr (4 * i + a) = (s.fenceTiles i).arr (4 * i + a) := by
    rw [hrun]
    exact congrArg (fun l => tget (fun _ => {}) l (4 * i + a)) harrays
  rw [he]
  exact hempty a ha

/-! ### The register block of a core -/

theorem State.extCore_thawed (h : s.frozen i = false) (op : CoreOp) : s.extCore i op = s.coreOp i op := by
  unfold State.extCore
  rw [if_neg (by rw [h]; exact Bool.false_ne_true)]

theorem State.extCore_frozen (h : s.frozen i = true) (op : CoreOp) : s.extCore i op = s.hold i (.core op) := if_pos h

theorem State.coreOp_drain (hf : s.fenced i = false) (on : Bool) :
    ∃ u, s.coreOp i (.drain on) = u ∧ u.rdB (rCoreCtl i) 30 = on ∧ u.rdB (rCoreStat i) 5 = on ∧ u = { s with regs := u.regs } := by
  have hne : rCoreStat i ≠ rCoreCtl i := by unfold rCoreStat rCoreCtl coreReg; omega
  have hfen : (s.wrB (rCoreCtl i) 30 on).fenced i = false := (State.rdB_wrB_apart _ _ hne _ _ _).trans hf
  have hrun : s.coreOp i (.drain on) = (s.wrB (rCoreCtl i) 30 on).wrB (rCoreStat i) 5 on := by
    unfold State.coreOp
    dsimp only
    rw [hfen, Bool.not_false, Bool.and_true]
  refine ⟨_, hrun, ?_, State.rdB_wrB_same _ _ (by omega) _, rfl⟩
  rw [State.rdB_wrB_apart _ _ hne.symm, State.rdB_wrB_same _ _ (by omega)]

theorem State.coreOp_holdAll (on : Bool) :
    ∃ u, s.coreOp i (.holdAll on) = u ∧ u.rdB (rCoreCtl i) 29 = on ∧ u = { s with regs := u.regs, threads := u.threads }
      ∧ (on = true → u.issues i = false ∧ ∀ t < 32, (u.thr i t).st ≠ .ready ∧ (u.thr i t).st ≠ .parked) ∧ (on = false → u.threads = s.threads) := by
  have h29 : (s.wrB (rCoreCtl i) 29 on).rdB (rCoreCtl i) 29 = on := State.rdB_wrB_same _ _ (by omega) _
  cases on with
  | false => exact ⟨_, rfl, h29, rfl, fun h => absurd h Bool.false_ne_true, fun _ => rfl⟩
  | true =>
    have hrun : s.coreOp i (.holdAll true) = ((s.wrB (rCoreCtl i) 29 true).holdAll i).1 := rfl
    have honly : ∃ regs, s.wrB (rCoreCtl i) 29 true = { s with regs } := ⟨_, rfl⟩
    refine ⟨_, hrun, ?_⟩
    generalize s.wrB (rCoreCtl i) 29 true = u at h29 honly
    obtain ⟨regs, rfl⟩ := honly
    obtain ⟨threads, h⟩ := State.holdAll_only { s with regs } i
    have hthr {t : Nat} (ht : t < 32) := State.thr_holdAll { s with regs } i ht
    generalize (State.holdAll { s with regs } i).1 = v at h hthr
    subst h
    refine ⟨h29, rfl, fun _ => ⟨?_, fun t ht => ?_⟩, fun h => absurd h.symm Bool.false_ne_true⟩
    · have h29' : State.rdB { s with regs, threads } (rCoreCtl i) 29 = true := h29
      unfold State.issues
      rw [h29']
      simp
    · rw [hthr ht]
      exact Thread.stayed_st _

theorem State.coreOp_exc3 {e : ExcRec} {l : List ExcRec} (h : (s.core i).exc = e :: l) :
    s.coreOp i (.excRead 3) = (s.setCore i { s.core i with exc := l }).answer (leBytes 4 e.beat.toNat) := by
  have hread : s.excRead i 3 = e.beat := by
    unfold State.excRead
    dsimp only
    rw [h]
    rfl
  unfold State.coreOp
  dsimp only
  rw [hread, if_neg (by omega), if_pos rfl, h]
  rfl

theorem State.coreOp_exc0 {u : State} (hu : u = s.coreOp i (.excRead 0)) :
    u.resp = leBytes 4 (s.excRead i 0).toNat ∧ (u.core i).dropped = 0 ∧ (u.core i).exc = (s.core i).exc
      ∧ u = { s with cores := u.cores, resp := u.resp } := by
  have hrun : s.coreOp i (.excRead 0) = (s.setCore i { s.core i with dropped := 0 }).answer (leBytes 4 (s.excRead i 0).toNat) := rfl
  have hcore : u.core i = { s.core i with dropped := 0 } := by
    rw [hu, hrun]
    exact s.core_setCore_self i _
  refine ⟨hu ▸ rfl, by rw [hcore], by rw [hcore], ?_⟩
  rw [hu, hrun]
  rfl

theorem State.coreOp_clearLedger {u : State} (hu : u = s.coreOp i .clearLedger) :
    (u.core i).ledger = [] ∧ (u.core i).spilled = 0 ∧ u.rdB (rLedgerCtl i) 31 = false ∧ u = { s with cores := u.cores, regs := u.regs } := by
  have hrun : s.coreOp i .clearLedger = (s.setCore i { s.core i with ledger := [], spilled := 0 }).wrB (rLedgerCtl i) 31 false := rfl
  have hcore : u.core i = { s.core i with ledger := [], spilled := 0 } := by
    rw [hu, hrun]
    exact s.core_setCore_self i _
  refine ⟨by rw [hcore], by rw [hcore], ?_, ?_⟩
  · rw [hu, hrun]
    exact State.rdB_wrB_same _ _ (by omega) _
  · rw [hu, hrun]
    rfl

end

/-- Settles O19: a fence of a core that is not fenced, and each access to its register block, with its frame; a frozen core holds them. -/
theorem coreControl : Obligations.CoreControl := by
  unfold Obligations.CoreControl
  refine fun s i => ⟨fun hf he hh => ⟨_, exec_coreFence .., s.fenceCore_effect i hf he hh⟩, fun hf => ?_, fun hz => ⟨fun hf on => ?_, fun on => ?_, fun e l h => ?_, ?_, ?_⟩, fun hz => ?_, ?_⟩
  · rw [exec_coreFence, execCoreFence, State.fenceCore, if_pos hf]
  · obtain ⟨u, hu, h⟩ := s.coreOp_drain i hf on
    exact ⟨u, by rw [exec_coreDrain, execCoreDrain, State.extCore_thawed _ _ hz, hu], h⟩
  · obtain ⟨u, hu, h⟩ := s.coreOp_holdAll i on
    exact ⟨u, by rw [exec_coreHoldAll, execCoreHoldAll, State.extCore_thawed _ _ hz, hu], h⟩
  · rw [exec_coreExc3Read, execCoreExc3Read, State.extCore_thawed _ _ hz, State.coreOp_exc3 _ _ h]
  · have hexec : exec (.coreExc0Read i) s = .next (s.coreOp i (.excRead 0)) :=
      (exec_coreExc0Read ..).trans (congrArg _ (s.extCore_thawed i hz _))
    exact ⟨_, hexec, s.coreOp_exc0 i rfl⟩
  · have hexec : exec (.ledgerClear i true) s = .next (s.coreOp i .clearLedger) :=
      (exec_ledgerClear ..).trans (congrArg _ (s.extCore_thawed i hz _))
    exact ⟨_, hexec, s.coreOp_clearLedger i rfl⟩
  · have hhold (op : CoreOp) : s.extCore i op = { s with heldAcc := s.heldAcc ++ [(i, .core op)] } := s.extCore_frozen i hz op
    have hexec : ∀ p : Instr × CoreOp, exec p.1 s = .next (s.extCore i p.2) → exec p.1 s = .next { s with heldAcc := s.heldAcc ++ [(i, .core p.2)] } :=
      fun p h => h.trans (congrArg _ (hhold p.2))
    intro p hp
    refine hexec p ?_
    simp only [List.mem_cons, List.not_mem_nil, or_false] at hp
    obtain rfl | rfl | rfl | rfl | rfl | rfl | rfl := hp <;> rfl
  · exact ⟨_, _, exec_ledgerClear .., rfl, rfl⟩

end Sys2Proof.Machine
end

section
/-! PROOFS. The packets of collective operations and what a step of an operation leaves as it was (R477 to R479, R487, R490, R491, R499). -/

namespace Sys2Proof.Machine

/-! ### Packets sent -/

/-- A relation that the packets of partition p keep: what changes the fabric and the counters alone, and the partition's trace. -/
structure SendRel (p : Nat) (R : State → State → Prop) : Prop where
  refl : ∀ s, R s s
  trans : ∀ {s t u}, R s t → R t u → R s u
  shipped : ∀ {s t}, Shipped s t → R s t
  trace : ∀ s type unit inst r data, R s (s.trace p type unit inst r data)

namespace SendRel
variable {k : Cmd} {R : State → State → Prop} (h : SendRel k.part R) (s : State) (o : CollOp)
include h

theorem foldl {α : Type} {f : State → α → State} (hf : ∀ s a, R s (f s a)) (l : List α) (s : State) : R s (l.foldl f s) := by
  induction l generalizing s with
  | nil => exact h.refl s
  | cons a l ih => exact h.trans (hf s a) (ih _)

theorem collSend (dst phase addr : Nat) (b : List Byte) (bad : List (Nat × Nat)) : R s (s.collSend k o dst phase addr b bad) := by
  unfold State.collSend
  split
  · exact h.refl s
  · dsimp only
    generalize hu : { s with fab := { s.fab with dseq := tput (fun _ => 0) s.fab.dseq 2000 ((tget (fun _ => 0) s.fab.dseq 2000 + 1) % 2 ^ 16) } } = u
    have hship : Shipped s u := by
      rw [← hu]
      rfl
    exact h.trans (h.trans (h.shipped hship) (h.trace u ..))
      (h.shipped ((State.sendWrites_shipped ..).trans (.counted (State.count_counted ..))))

theorem sendContribution : R s (s.sendContribution k o) := h.foldl (fun s _ => h.collSend s o ..) _ s

theorem sendPartials (l : Nat) : R s (s.sendPartials k o l) := h.foldl (fun s _ => h.collSend s o ..) _ s

theorem sendResults (l : Nat) : R s (s.sendResults k o l) := h.foldl (fun s _ => h.foldl (fun s _ => h.collSend s o ..) _ s) _ s

theorem sendNotices : R s (s.sendNotices k o) := h.foldl (fun s _ => h.collSend s o ..) _ s

theorem sendMask (hw : WriteRel R) (idx : Nat) (b : List Byte) : R s (s.sendMask k o idx b) :=
  h.trans (hw.write s ..) (h.foldl (fun s _ => h.collSend s o ..) _ _)

end SendRel

theorem Shipped.guarded {s t : State} (h : Shipped s t) : Guarded s t := by
  unfold Shipped at h
  rw [h]
  exact .of_eq rfl rfl rfl rfl

theorem Shipped.sameCmds {s t : State} (h : Shipped s t) : SameCmds s t := by
  unfold Shipped at h
  rw [h]
  exact ⟨rfl, rfl⟩

theorem Guarded.sendRel (p : Nat) : SendRel p Guarded where
  refl := .refl
  trans := .trans
  shipped := Shipped.guarded
  trace s := fun _ _ _ _ _ => .handled (s.trace_handled ..)

theorem SameCmds.sendRel (p : Nat) : SendRel p SameCmds where
  refl := .refl
  trans := .trans
  shipped := Shipped.sameCmds
  trace s := fun _ _ _ _ _ => .handled (s.trace_handled ..)

theorem SameCmds.writeRel : WriteRel SameCmds where
  refl := .refl
  trans := .trans
  write s pa b := .handled (s.writeMem_handled pa b [])
  counted := .counted
  bump _ := ⟨rfl, rfl⟩

/-- With the partition's trace off its packets change the fabric and the counters alone. -/
theorem Shipped.sendRel (p : Nat) : SendRel p (fun s t => s.noTrace p → Shipped s t) where
  refl s _ := .refl s
  trans h h' hoff := (h hoff).trans (h' (State.noTrace_of_regs (by rw [h hoff]) hoff))
  shipped h _ := h
  trace s _ _ _ _ _ hoff := by
    rw [State.trace_off hoff]
    exact .refl s

/-! ### Reports and ends of operations -/

section Ends
variable {R : State → State → Prop} (h : WriteRel R) (s : State) (k : Cmd) (o : CollOp)

theorem State.scrambleBytes_rel (h : WriteRel R) (a n : Nat) : R s (s.scrambleBytes a n) := h.trans (h.write s ..) (h.bump _)

theorem State.collReport_rel (h : WriteRel R) (status : W16) : R s (s.collReport k o status) := h.trans (h.write s ..) (h.write _ ..)

/-- The destination and the scratch memory of an operation that ends with an error hold free values; a timeout has been counted. -/
def State.scrambled (s : State) (k : Cmd) (o : CollOp) : State :=
  let m := (k.collShapes o.size).getLast?
  let s := match m with
    | some x => s.scrambleBytes x.1.base (if k.cCop = 2 then (o.shardBytes k o.rank).2 else x.1.size x.2.1 x.2.2)
    | none => s
  let s := if k.cCop = 5 then
      (s.scrambleBytes k.cE.base (k.cE.size k.cRows k.cCols)).scrambleBytes k.cQ.base (k.cQ.size k.cCols k.cLrank) else s
  s.scrambleBytes (k.scratch + stgAt o.size) (k.cSlen - stgAt o.size)

theorem State.scrambled_rel (h : WriteRel R) : R s (s.scrambled k o) := by
  unfold State.scrambled
  dsimp only
  refine h.trans ?_ (State.scrambleBytes_rel _ h ..)
  split
  · refine h.trans (h.trans ?_ (State.scrambleBytes_rel _ h ..)) (State.scrambleBytes_rel _ h ..)
    split
    · exact s.scrambleBytes_rel h ..
    · exact h.refl s
  · split
    · exact s.scrambleBytes_rel h ..
    · exact h.refl s

/-- COLL_STAT counts a timeout. -/
def State.countTimeout (s : State) (code : W16) : State := if code = eCollTimeout then s.incF rCollStat 7 0 1 else s

theorem State.endOp_eq (code : W16) : s.endOp k o code
    = ((((s.countTimeout code).scrambled k o).collReport k o code).dropOp o).failCmd k.ring k.dcount code 0 := rfl

end Ends

/-! ### The core map and the hand-overs -/

/-- t has the core map and the hand-overs of s. -/
structure SameMap (s t : State) : Prop where
  spareMap : t.spareMap = s.spareMap
  handovers : t.handovers = s.handovers

namespace SameMap
variable {s t u : State}

theorem refl (s : State) : SameMap s s := ⟨rfl, rfl⟩

theorem trans (h : SameMap s t) (h' : SameMap t u) : SameMap s u := ⟨h'.spareMap.trans h.spareMap, h'.handovers.trans h.handovers⟩

theorem guarded (h : Guarded s t) : SameMap s t := ⟨h.spareMap, h.handovers⟩

theorem foldl {α : Type} {f : State → α → State} (hf : ∀ s a, SameMap s (f s a)) (l : List α) (s : State) : SameMap s (l.foldl f s) := by
  induction l generalizing s with
  | nil => exact .refl s
  | cons a l ih => exact (hf s a).trans (ih _)

theorem phys (h : SameMap s t) (lc : Nat) : t.phys lc = s.phys lc := by
  unfold State.phys
  rw [h.spareMap]

end SameMap

section Restart
variable (s : State) (k : Cmd) (o : CollOp)

theorem State.endOp_sameMap (code : W16) : SameMap s (s.endOp k o code) := by
  rw [State.endOp_eq]
  have hcount : SameMap s (s.countTimeout code) := by
    unfold State.countTimeout
    split <;> exact ⟨rfl, rfl⟩
  have hwrite := (Guarded.writeRel.trans (State.scrambled_rel (s.countTimeout code) k o Guarded.writeRel)
    (State.collReport_rel _ k o Guarded.writeRel code))
  generalize ((s.countTimeout code).scrambled k o).collReport k o code = u at hwrite ⊢
  have hdrop : SameMap u (u.dropOp o) := ⟨rfl, rfl⟩
  exact (hcount.trans (.guarded hwrite)).trans (hdrop.trans (.guarded (State.failCmd_guarded ..)))

theorem State.restartOp_sameMap : SameMap s (s.restartOp k o) := by
  have hrel := Guarded.sendRel k.part
  unfold State.restartOp
  split
  · exact (s.endOp_sameMap ..).trans (.guarded (hrel.sendNotices ..))
  · dsimp only
    generalize hu : s.updOp o (fun _ => { o with attempt := o.attempt + 1, restarts := o.restarts + 1 }) = u
    have h1 : SameMap s u := by
      rw [← hu]
      exact ⟨rfl, rfl⟩
    generalize hv : (if k.reduces && o.released.isSome && (!o.q || (o.pAgreed.map (·.1)).getD 0 / 2 ^ o.rank % 2 = 1) then
      u.sendContribution k { o with attempt := o.attempt + 1, restarts := o.restarts + 1 } else u) = v
    have h2 : Guarded u v := by
      rw [← hv]
      split
      · exact hrel.sendContribution ..
      · exact .refl u
    have h3 (w : State) : Guarded w ((List.range (o.levels - 1)).foldl (fun s l => if l < o.partials.length then
        s.sendPartials k { o with attempt := o.attempt + 1, restarts := o.restarts + 1 } (l + 1) else s) w) := by
      refine Guarded.foldl (fun s l => ?_) _ w
      split
      · exact hrel.sendPartials ..
      · exact .refl s
    have h4 (w : State) : Guarded w (o.sent.foldl (fun s m => (List.range o.size).foldl (fun s r =>
        s.collSend k { o with attempt := o.attempt + 1, restarts := o.restarts + 1 } r 1 (o.maskAt k o.rank m.1) m.2) s) w) :=
      Guarded.foldl (fun s m => Guarded.foldl (fun s r => hrel.collSend ..) _ s) _ w
    have h5 (w : State) : Guarded w (if o.down then (List.range o.levels).foldl (fun s l => if o.level ≤ l then
        s.sendResults k { o with attempt := o.attempt + 1, restarts := o.restarts + 1 } l else s) w else w) := by
      split
      · refine Guarded.foldl (fun s l => ?_) _ w
        split
        · exact hrel.sendResults ..
        · exact .refl s
      · exact .refl w
    exact h1.trans (.guarded (((h2.trans (h3 v)).trans (h4 _)).trans (h5 _)))

end Restart

end Sys2Proof.Machine
end

section
/-! PROOFS. The hand-over and the takeover of a core (R182 to R184, R189 to R193, R575). -/

namespace Sys2Proof.Machine

/-! ### What the end of a hand-over leaves as it is -/

/-- t has the core map, the hand-overs and the held accesses of s, and FROZEN of core i. -/
structure Charted (i : Nat) (s t : State) : Prop where
  map : SameMap s t
  heldAcc : t.heldAcc = s.heldAcc
  frozen : t.rdB (rCoreStat i) 4 = s.rdB (rCoreStat i) 4

namespace Charted
variable {i : Nat} {s t u : State}

theorem refl (s : State) : Charted i s s := ⟨.refl s, rfl, rfl⟩

theorem trans (h : Charted i s t) (h' : Charted i t u) : Charted i s u := ⟨h.map.trans h'.map, h'.heldAcc.trans h.heldAcc, h'.frozen.trans h.frozen⟩

theorem foldl {α : Type} {f : State → α → State} (hf : ∀ s a, Charted i s (f s a)) (l : List α) (s : State) : Charted i s (l.foldl f s) := by
  induction l generalizing s with
  | nil => exact .refl s
  | cons a l ih => exact (hf s a).trans (ih _)

theorem of_eq (hmap : t.spareMap = s.spareMap) (hover : t.handovers = s.handovers) (hheld : t.heldAcc = s.heldAcc) (hregs : t.regs = s.regs) : Charted i s t :=
  ⟨⟨hmap, hover⟩, hheld, State.rdB_of_regs hregs _ _⟩

theorem handled (h : Handled s t) : Charted i s t := by
  have honly := h.only
  unfold MemOnly at honly
  refine ⟨.guarded (.handled h), by rw [honly], bitAt_of_bf (h.low _) (by omega) (by omega)⟩

theorem reported (h : Reported s t) : Charted i s t := handled (.reported h)

theorem wrF (s : State) {o : Nat} (ho : rCoreStat i ≠ o) (hi lo v : Nat) : Charted i s (s.wrF o hi lo v) := ⟨⟨rfl, rfl⟩, rfl, State.rdB_wrF_ne _ _ ho ..⟩

theorem wrB (s : State) (o : Nat) {k : Nat} (hk : 4 ≠ k) (h32 : k < 32) (b : Bool) : Charted i s (s.wrB o k b) := by
  refine ⟨⟨rfl, rfl⟩, rfl, ?_⟩
  by_cases ho : rCoreStat i = o
  · rw [ho]
    exact State.rdB_wrB_ne _ _ h32 hk b
  · exact State.rdB_wrB_apart _ _ ho ..

end Charted

section Moves
variable {i : Nat} (s : State)

theorem State.setTest_charted (hi : i < 144) (w core st : Nat) : Charted i s (s.setTest w core st) :=
  (Charted.wrF s (rCore_apart hi w).1.symm ..).trans (.wrF _ (rCore_apart hi w).1.symm ..)

theorem State.addEvent_charted (hi : i < 144) (e : Ev) : Charted i s (s.addEvent e).1 := by
  obtain ⟨-, -, -, h4, h5⟩ := rCore_apart hi 0
  unfold State.addEvent
  split
  · exact .refl s
  · have hev (l : List Ev) : Charted i s { s with beat := { s.beat with events := l } } := .of_eq rfl rfl rfl rfl
    exact ((hev _).trans (.wrF _ h4 ..)).trans (.wrB _ _ (by omega) (by omega) _)

theorem State.beginTest_charted (hi : i < 144) (j : Nat) : Charted i s (s.beginTest j) := by
  unfold State.beginTest State.nextSlice
  dsimp only
  have h1 := ((s.setTest_charted hi (wingOf j) j 3).trans (.wrF _ (rCore_apart hi (wingOf j)).1.symm 20 14 0)).trans
    (.wrB _ (rCoreStat j) (k := 3) (by omega) (by omega) true)
  generalize (((s.setTest (wingOf j) j 3).wrF (rBstWing (wingOf j)) 20 14 0).wrB (rCoreStat j) 3 true) = u at h1 ⊢
  have h2 (v : State) (x : Core) (test : Test) : Charted i v { v.setCore j x with test } := .of_eq rfl rfl rfl rfl
  exact (h1.trans (h2 u ..)).trans (State.addEvent_charted _ hi _)

theorem State.testFreed_charted (hi : i < 144) (j : Nat) : Charted i s (s.testFreed j) := by
  unfold State.testFreed
  dsimp only
  split
  · split
    · exact s.setTest_charted hi ..
    · exact .refl s
  · split
    · exact s.beginTest_charted hi j
    · exact .refl s

theorem State.letGo_charted (c t : Nat) : Charted i s (s.letGo c t) := by
  unfold State.letGo
  dsimp only
  have hthr (x : Thread) : Charted i s (s.setThr c t x) := .of_eq rfl rfl rfl rfl
  split
  · exact .refl s
  · split
    · split
      · exact .refl s
      · exact .of_eq rfl rfl rfl rfl
    · split
      · exact (hthr _).trans (.wrB _ _ (by omega) (by omega) _)
      · exact hthr _

theorem State.moveDma_charted (old new : Nat) : Charted i s (s.moveDma old new) := by
  unfold State.moveDma
  refine Charted.foldl (fun s q => ?_) _ s
  exact .of_eq rfl rfl rfl rfl

theorem State.releaseHeld_none (h : s.heldAcc = []) (old new : Nat) : Charted i s (s.releaseHeld old new) := by
  unfold State.releaseHeld
  rw [h]
  exact .of_eq rfl rfl h.symm rfl

/-- The end of a hand-over, once its map stands: spare used, core tested, spares counted. -/
theorem State.settle_charted (hi : i < 144) (j w : Nat) : Charted i s (((s.spareUsed uCore j).testFreed j).countSpares w) :=
  ((Charted.handled (s.spareUsed_handled ..)).trans (State.testFreed_charted _ hi j)).trans (.wrF _ (rCore_apart hi w).1.symm ..)

end Moves

/-! ### The map and the contexts -/

section Commit
variable (s : State) (lc old new : Nat)

theorem State.phys_commitMap : (s.commitMap lc old new).phys lc = some new := tget_tput_self (fun _ => none) s.spareMap lc (some new)

theorem State.commitMap_rest : (s.commitMap lc old new).handovers = s.handovers ∧ (s.commitMap lc old new).heldAcc = s.heldAcc := ⟨rfl, rfl⟩

theorem State.copyLatches_only : ∃ latches, s.copyLatches old new = { s with latches } := by
  unfold State.copyLatches
  generalize List.range 48 = l
  suffices h : ∀ u : State, ∃ latches, l.foldl (fun s j => s.setLatch new j (s.latch old j)) u = { u with latches } from h s
  induction l with
  | nil => exact fun u => ⟨_, rfl⟩
  | cons j l ih =>
    intro u
    obtain ⟨latches, h⟩ := ih (u.setLatch new j (u.latch old j))
    exact ⟨latches, h⟩

/-- The contexts of core old go to core new, but for the exception queue. -/
def State.copyThreads (s : State) (old new : Nat) : State := (List.range 32).foldl (fun s t => s.setThr new t (s.thr old t)) s

theorem State.copyThreads_only : ∃ threads, s.copyThreads old new = { s with threads } := by
  unfold State.copyThreads
  generalize List.range 32 = l
  suffices h : ∀ u : State, ∃ threads, l.foldl (fun s t => s.setThr new t (s.thr old t)) u = { u with threads } from h s
  induction l with
  | nil => exact fun u => ⟨_, rfl⟩
  | cons t l ih =>
    intro u
    obtain ⟨threads, h⟩ := ih (u.setThr new t (u.thr old t))
    exact ⟨threads, h⟩

theorem State.thr_copyThreads (hne : new ≠ old) {t : Nat} (ht : t < 32) : (s.copyThreads old new).thr new t = s.thr old t := by
  refine (foldl_reaches (P := fun u => u.thr old t = s.thr old t) (Q := fun u => u.thr old t = s.thr old t ∧ u.thr new t = s.thr old t)
    (f := fun s t => s.setThr new t (s.thr old t)) (p := t) (fun u q hq hqt => ?_) (fun u hu => ?_) (fun u hu => ?_) (List.mem_range.mpr ht) s rfl).2
  · have hq32 : q < 32 := List.mem_range.mp hq
    have hold := u.thr_setThr new q (u.thr old q) old t
    have hnew := u.thr_setThr new q (u.thr old q) new t
    rw [if_neg (by omega)] at hold hnew
    exact ⟨fun h => hold.trans h, fun ⟨h, h'⟩ => ⟨hold.trans h, hnew.trans h'⟩⟩
  · have hold := u.thr_setThr new t (u.thr old t) old t
    rw [if_neg (by omega)] at hold
    exact ⟨hold.trans hu, (State.thr_setThr_self ..).trans hu⟩
  · have hold := u.thr_setThr new t (u.thr old t) old t
    rw [if_neg (by omega)] at hold
    exact ⟨hold.trans hu.1, (State.thr_setThr_self ..).trans hu.1⟩

theorem State.copyContexts_eq : s.copyContexts old new = (s.copyThreads old new).setCore new { (s.copyThreads old new).core new with
    exc := ((s.copyThreads old new).core old).exc, dropped := ((s.copyThreads old new).core old).dropped, msgs := ((s.copyThreads old new).core old).msgs } := rfl

theorem State.copyContexts_only : ∃ threads cores, s.copyContexts old new = { s with threads, cores } := by
  obtain ⟨threads, h⟩ := s.copyThreads_only old new
  rw [State.copyContexts_eq, h]
  exact ⟨_, _, rfl⟩

theorem State.copyIdentity_threads : (s.copyIdentity old new).threads = s.threads := by
  have hmem : Handled s ((s.zeroFill (storeBase new) storeSize).copyMem (storeBase old) (storeBase new)
      ((s.zeroFill (storeBase new) storeSize).keepBytes old)).1 := (s.zeroFill_handled ..).trans (State.copyMem_handled ..)
  have honly := hmem.only
  unfold MemOnly at honly
  unfold State.copyIdentity
  dsimp only
  generalize ((s.zeroFill (storeBase new) storeSize).copyMem (storeBase old) (storeBase new)
      ((s.zeroFill (storeBase new) storeSize).keepBytes old)).1 = u at honly ⊢
  obtain ⟨latches, h⟩ := u.copyLatches_only old new
  rw [h]
  show u.threads = s.threads
  rw [honly]

end Commit

/-! ### The freeze -/

section Freeze
variable {s : State} {i lc n : Nat}

theorem State.ne_of_spareFor {w : Nat} (hn : s.spareFor w = some n) (hlc : s.logical i = some lc) : n ≠ i := by
  have hp := List.find?_some hn
  intro e
  subst e
  simp [hlc] at hp

/-- The core freezes and its identity goes to core n. -/
def State.frozenTo (s : State) (i n : Nat) : State := ((s.wrB (rCoreStat i) 4 true).copyIdentity i n).copyContexts i n

theorem State.frozenTo_rest : (s.frozenTo i n).handovers = s.handovers ∧ (s.frozenTo i n).rdB (rCoreStat i) 4 = true := by
  have hg := (s.wrB (rCoreStat i) 4 true).copyIdentity_guarded i n
  have h4 : (s.wrB (rCoreStat i) 4 true).rdB (rCoreStat i) 4 = true := State.rdB_wrB_same _ _ (by omega) _
  have hstat := (hg.stat i (k := 4) (by omega) (by omega)).trans h4
  have hhand := hg.handovers
  unfold State.frozenTo
  generalize (s.wrB (rCoreStat i) 4 true).copyIdentity i n = u at hstat hhand ⊢
  obtain ⟨threads, cores, hc⟩ := u.copyContexts_only i n
  rw [hc]
  exact ⟨hhand, hstat⟩

theorem State.thr_frozenTo (hne : n ≠ i) {t : Nat} (ht : t < 32) : (s.frozenTo i n).thr n t = s.thr i t := by
  have hid := (s.wrB (rCoreStat i) 4 true).copyIdentity_threads i n
  unfold State.frozenTo
  generalize (s.wrB (rCoreStat i) 4 true).copyIdentity i n = u at hid ⊢
  have hthr (w : State) (x : Core) : (w.setCore n x).thr n t = w.thr n t := rfl
  rw [State.copyContexts_eq, hthr, u.thr_copyThreads i n hne ht, State.thr, hid]
  rfl

theorem State.handoverFreeze_eq (hlc : s.logical i = some lc) (hdrain : s.rdB (rCoreStat i) 5 = true) (hf : s.fenced i = false)
    (harr : s.arraysIdle i = true) (hh : s.handovers = []) (hn : s.spareFor (wingOf i) = some n) (hout : ∀ t < 32, (s.thr i t).outs = []) :
    s.handoverFreeze i = State.frozenTo { (s.holdAll i).1 with
      handovers := [{ logical := lc, old := i, new := n, fault := false, frozen := true, held := (s.holdAll i).2 }] } i n := by
  have hbusy : (List.range 32).any (fun t => !(((s.holdAll i).1.thr i t).outs.isEmpty)) = false := List.any_eq_false.mpr fun t ht => by
    have h32 := List.mem_range.mp ht
    rw [s.thr_holdAll i h32, Thread.stayed_outs, hout t h32]
    simp
  have hhold : (s.holdAll i).1.handovers = [] := by
    obtain ⟨threads, h⟩ := s.holdAll_only i
    rw [h]
    exact hh
  unfold State.handoverFreeze
  rw [hlc]
  dsimp only
  rw [if_neg (by simp [hdrain, hf, harr, hh]), hh]
  dsimp only [List.find?_nil, Option.map_none, Option.orElse_none, Option.getD_none, List.nil_append]
  rw [hn]
  dsimp only
  rw [hbusy, hhold]
  rfl

end Freeze

/-! ### The commit of a hand-over -/

section Commits
variable {s : State} {i lc : Nat} {h : Handover}

/-- The map stands, the hand-over is off the list, and the replacement has the latches and contexts. -/
def State.charted (s : State) (i : Nat) (h : Handover) : State :=
  ((({ s with handovers := s.handovers.filter (fun h => h.old ≠ i) } : State).copyLatches i h.new).copyContexts i h.new).commitMap h.logical i h.new

/-- The threads of a core are free. -/
def State.freedThreads (s : State) (i : Nat) : State := (List.range 32).foldl (fun s t => s.setThr i t (s.thr i t).free) s

/-- A core that was moved out has no exceptions, and is retired where that was due. -/
def State.emptied (s : State) (i : Nat) : State :=
  s.setCore i { s.core i with exc := [], dropped := 0, msgs := [], retired := (s.core i).retired || (s.core i).retireNext }

/-- The replacement's threads go on, and the old core is emptied. -/
def State.vacated (s : State) (i : Nat) (h : Handover) : State :=
  (((h.held.foldl (fun s t => s.letGo h.new t) s).freedThreads i).emptied i).wrB (rCoreStat i) 5 false

/-- The old core thaws and what waited goes to the replacement. -/
def State.delivered (s : State) (i : Nat) (h : Handover) : State :=
  (((s.wrB (rCoreCtl i) 30 false).ungate h.new).moveDma i h.new).releaseHeld i h.new

theorem State.handoverCommit_eq (hh : s.handovers = [h]) (hold : h.old = i) (hz : h.frozen = true) (hf : h.fault = false) :
    s.handoverCommit i = (((((((s.charted i h).vacated i h).wrB (rCoreStat i) 4 false).delivered i h).spareUsed uCore i).testFreed i).countSpares (wingOf i)) := by
  have hfind : s.handovers.find? (fun h => h.old = i && h.frozen && !h.fault) = some h := by
    rw [hh, List.find?_cons_of_pos (by simp [hold, hz, hf])]
  unfold State.handoverCommit
  rw [hfind]
  rfl

theorem State.charted_map (hh : s.handovers = [h]) (hlc : h.logical = lc) (hold : h.old = i) (hacc : s.heldAcc = []) :
    (s.charted i h).phys lc = some h.new ∧ (s.charted i h).handovers = [] ∧ (s.charted i h).heldAcc = [] := by
  have hnil : s.handovers.filter (fun h => h.old ≠ i) = [] := by
    rw [hh]
    simp [hold]
  unfold State.charted
  rw [hnil, hlc]
  generalize hu : ({ s with handovers := [] } : State) = u
  have huh : u.handovers = [] ∧ u.heldAcc = [] := by
    rw [← hu]
    exact ⟨rfl, hacc⟩
  obtain ⟨latches, h1⟩ := u.copyLatches_only i h.new
  rw [h1]
  obtain ⟨threads, cores, h2⟩ := State.copyContexts_only { u with latches } i h.new
  rw [h2]
  exact ⟨State.phys_commitMap .., huh⟩

theorem State.setThr_charted (s : State) (j t : Nat) (x : Thread) : Charted i s (s.setThr j t x) := .of_eq rfl rfl rfl rfl

theorem State.freeThreads_charted (s : State) (j : Nat) : Charted i s (s.freedThreads j) :=
  Charted.foldl (fun s _ => s.setThr_charted ..) _ s

theorem State.emptied_charted (s : State) : Charted i s (s.emptied i) := .of_eq rfl rfl rfl rfl

theorem State.vacated_charted (s : State) (h : Handover) : Charted i s (s.vacated i h) :=
  (((Charted.foldl (fun s t => s.letGo_charted ..) _ s).trans (State.freeThreads_charted ..)).trans (State.emptied_charted _)).trans
    (.wrB _ _ (by omega) (by omega) _)

theorem State.ungate_charted (s : State) (j : Nat) : Charted i s (s.ungate j) := .wrB s (rCoreStat j) (k := 0) (by omega) (by omega) false

theorem State.ctl_charted (s : State) : Charted i s (s.wrB (rCoreCtl i) 30 false) := .wrB s (rCoreCtl i) (k := 30) (by omega) (by omega) false

theorem Charted.releaseHeld {s t : State} (h : Charted i s t) (hacc : s.heldAcc = []) (old new : Nat) : Charted i s (t.releaseHeld old new) :=
  h.trans (State.releaseHeld_none _ (h.heldAcc.trans hacc) ..)

theorem State.delivery_charted {s : State} (n : Nat) (hacc : s.heldAcc = []) :
    Charted i s ((((s.wrB (rCoreCtl i) 30 false).ungate n).moveDma i n).releaseHeld i n) :=
  ((s.ctl_charted.trans (State.ungate_charted ..)).trans (State.moveDma_charted ..)).releaseHeld hacc ..

theorem State.delivered_charted {s : State} (h : Handover) (hacc : s.heldAcc = []) : Charted i s (s.delivered i h) :=
  State.delivery_charted h.new hacc

/-- The old core thaws, and the spare is counted. -/
def State.thawed (s : State) (i : Nat) (h : Handover) : State :=
  (((((s.wrB (rCoreStat i) 4 false).delivered i h).spareUsed uCore i).testFreed i).countSpares (wingOf i))

theorem State.thawed_charted {s : State} (hi : i < 144) (h : Handover) (hacc : s.heldAcc = []) :
    Charted i (s.wrB (rCoreStat i) 4 false) (s.thawed i h) :=
  (State.delivered_charted h (show (s.wrB (rCoreStat i) 4 false).heldAcc = [] from hacc)).trans (State.settle_charted _ hi i (wingOf i))

theorem State.thawed_moves {s : State} (hi : i < 144) (h : Handover) (hacc : s.heldAcc = []) :
    SameMap s (s.thawed i h) ∧ (s.thawed i h).rdB (rCoreStat i) 4 = false := by
  have hc := State.thawed_charted hi h hacc
  have hbit : (s.wrB (rCoreStat i) 4 false).rdB (rCoreStat i) 4 = false := State.rdB_wrB_same _ _ (by omega) _
  have hsame : SameMap s (s.wrB (rCoreStat i) 4 false) := ⟨rfl, rfl⟩
  exact ⟨hsame.trans hc.map, hc.frozen.trans hbit⟩

theorem State.handoverCommit_thaws (hh : s.handovers = [h]) (hold : h.old = i) (hz : h.frozen = true) (hf : h.fault = false) :
    s.handoverCommit i = ((s.charted i h).vacated i h).thawed i h := State.handoverCommit_eq hh hold hz hf

theorem State.handoverCommit_moves (hi : i < 144) (hh : s.handovers = [h]) (hlc : h.logical = lc) (hold : h.old = i) (hz : h.frozen = true)
    (hf : h.fault = false) (hacc : s.heldAcc = []) :
    (s.handoverCommit i).phys lc = some h.new ∧ (s.handoverCommit i).handovers = [] ∧ (s.handoverCommit i).rdB (rCoreStat i) 4 = false := by
  obtain ⟨hphys, hhand, hheld⟩ := State.charted_map (i := i) hh hlc hold hacc
  have h1 := (s.charted i h).vacated_charted (i := i) h
  obtain ⟨hmap, hbit⟩ := State.thawed_moves hi h (h1.heldAcc.trans hheld)
  have hall := h1.map.trans hmap
  rw [State.handoverCommit_thaws hh hold hz hf]
  exact ⟨(hall.phys lc).trans hphys, hall.handovers.trans hhand, hbit⟩

/-! ### The commit of a takeover -/

/-- A core without exceptions. -/
def State.noExc (s : State) (i : Nat) : State := s.setCore i { s.core i with exc := [], dropped := 0, msgs := [] }

/-- The map stands and the fenced core is emptied. -/
def State.replaced (s : State) (lc : Nat) (h : Handover) : State :=
  (((({ s with handovers := s.handovers.filter (fun x => !(x.logical = lc && x.fault)) } : State).commitMap lc h.old h.new).freedThreads h.old).noExc
    h.old).ungate h.new

/-- The collective operations of a logical core's partition start again. -/
def State.restarted (s : State) (lc : Nat) : State :=
  s.coll.ops.foldl (fun s o =>
    match s.collOp o.group o.opseq, s.cmd o.ring o.dcount with
    | some o, some k => if s.partOfCore lc = some k.part then s.restartOp k o else s
    | _, _ => s) s

theorem State.takeoverCommit_eq (hh : s.handovers = [h]) (hlc : h.logical = lc) (hf : h.fault = true) :
    s.takeoverCommit lc = State.restarted ((((((s.replaced lc h).releaseHeld h.old h.new).spareUsed uCore h.old).testFreed h.old).countSpares
      (wingOf h.old))) lc := by
  have hfind : s.handovers.find? (fun h => h.logical = lc && h.fault) = some h := by
    rw [hh, List.find?_cons_of_pos (by simp [hlc, hf])]
  unfold State.takeoverCommit
  rw [hfind]
  rfl

theorem State.restarted_sameMap (s : State) (lc : Nat) : SameMap s (s.restarted lc) := by
  unfold State.restarted
  refine SameMap.foldl (fun s o => ?_) _ s
  split
  · split
    · exact s.restartOp_sameMap ..
    · exact .refl s
  · exact .refl s

theorem State.noExc_charted (s : State) (j : Nat) : Charted i s (s.noExc j) := .of_eq rfl rfl rfl rfl

theorem State.emptiedOf_charted (s : State) (h : Handover) : Charted h.old s (((s.freedThreads h.old).noExc h.old).ungate h.new) :=
  ((s.freeThreads_charted h.old).trans (State.noExc_charted ..)).trans (State.ungate_charted ..)

theorem State.replaced_map (hh : s.handovers = [h]) (hlc : h.logical = lc) (hf : h.fault = true) (hacc : s.heldAcc = []) :
    (s.replaced lc h).phys lc = some h.new ∧ (s.replaced lc h).handovers = [] ∧ (s.replaced lc h).heldAcc = [] := by
  have hnil : s.handovers.filter (fun x => !(x.logical = lc && x.fault)) = [] := by
    rw [hh]
    simp [hlc, hf]
  unfold State.replaced
  rw [hnil]
  generalize hu : ({ s with handovers := [] } : State) = u
  have huh : u.handovers = [] ∧ u.heldAcc = [] := by
    rw [← hu]
    exact ⟨rfl, hacc⟩
  have hrest := u.commitMap_rest lc h.old h.new
  have hmoved := (u.commitMap lc h.old h.new).emptiedOf_charted h
  exact ⟨(hmoved.map.phys lc).trans (u.phys_commitMap lc h.old h.new), hmoved.map.handovers.trans (hrest.1.trans huh.1),
    hmoved.heldAcc.trans (hrest.2.trans huh.2)⟩

theorem State.takeoverCommit_moves (hi : h.old < 144) (hh : s.handovers = [h]) (hlc : h.logical = lc) (hf : h.fault = true) (hacc : s.heldAcc = []) :
    (s.takeoverCommit lc).phys lc = some h.new ∧ (s.takeoverCommit lc).handovers = [] := by
  obtain ⟨hphys, hhand, hheld⟩ := State.replaced_map hh hlc hf hacc
  rw [State.takeoverCommit_eq hh hlc hf]
  generalize s.replaced lc h = a at hphys hhand hheld ⊢
  have h1 := (State.releaseHeld_none (i := h.old) a hheld h.old h.new).trans (State.settle_charted _ hi h.old (wingOf h.old))
  have hmap := h1.map.trans (State.restarted_sameMap _ lc)
  exact ⟨(hmap.phys lc).trans hphys, hmap.handovers.trans hhand⟩

end Commits

end Sys2Proof.Machine
end

section
/-! PROOFS. The first step of a fault takeover (R182 to R184, R192, R193, R575), and the statement of hand-over and takeover. -/

namespace Sys2Proof.Machine

section Takeover
variable {s t : State} {i lc n : Nat}

/-! ### The fence of a takeover -/

/-- The spare of a core's wing does not hang on the core itself, which holds a logical core. -/
theorem State.spareFor_congr (hmap : SameMap s t) (hcores : ∀ k, (t.core k).passed = (s.core k).passed ∧ (t.core k).retired = (s.core k).retired)
    (hregs : ∀ k < 144, k ≠ i → t.rd (rCoreStat k) = s.rd (rCoreStat k)) (hlc : s.logical i = some lc) (w : Nat) (hw : w < 2) :
    t.spareFor w = s.spareFor w := by
  unfold State.spareFor
  refine List.find?_congr fun k hk => ?_
  rw [State.logical_of_map hmap.spareMap k, (hcores k).1, (hcores k).2, hmap.handovers]
  by_cases hki : k = i
  · rw [hki, hlc]
    rfl
  · have hk144 : k < 144 := by
      obtain ⟨m, hm, rfl⟩ := List.mem_map.mp hk
      have := List.mem_range.mp hm
      omega
    have hrd := hregs k hk144 hki
    unfold State.fenced State.rdB
    rw [hrd]

theorem State.addDue_guarded (s : State) (ring dc : Nat) (d : Due) : Guarded s (s.addDue ring dc d) := .of_eq rfl rfl rfl rfl

theorem State.slotsLost_guarded (s : State) (lc : Nat) : Guarded s (s.slotsLost lc) := by
  unfold State.slotsLost
  split
  · exact State.recordLost_guarded ..
  · exact .refl _

theorem State.claimsDue_guarded (s : State) (lc : Nat) : Guarded s (s.claimsDue lc) := by
  have hfold (l : List (Cmd × Due)) (u : State) : Guarded u (l.foldl (fun s x => s.addDue x.1.ring x.1.dcount x.2) u) :=
    Guarded.foldl (fun s x => s.addDue_guarded ..) l u
  have hup : Guarded s (s.epochUp lc) := .of_eq rfl rfl rfl rfl
  exact (hup.trans (hfold (s.claimedBy lc) _)).trans (State.slotsLost_guarded _ lc)

theorem State.fenceBits_rd {k : Nat} (hk : k ≠ i) : (s.fenceBits i).rd (rCoreStat k) = s.rd (rCoreStat k) := by
  have h1 : rCoreStat k ≠ rCoreStat i := by unfold rCoreStat coreReg; omega
  have h2 : rCoreStat k ≠ rCoreCtl i := by unfold rCoreStat rCoreCtl coreReg; omega
  unfold State.fenceBits
  rw [State.wrB, State.rd_wr_ne _ _ _ _ h1, State.wrB, State.rd_wr_ne _ _ _ _ h1, State.wrB, State.rd_wr_ne _ _ _ _ h2, State.wrB,
    State.rd_wr_ne _ _ _ _ h1]

theorem State.fenceTiles_rd {k : Nat} (hk : k ≠ i) (h144 : k < 144) : (s.fenceTiles i).rd (rCoreStat k) = s.rd (rCoreStat k) :=
  (State.rd_dropTiles _ _ fun a _ => by unfold rCoreStat rArrStat coreReg arrReg; omega).trans (State.fenceBits_rd hk)

theorem State.fenceTiles_core (k : Nat) : (s.fenceTiles i).core k = s.core k := by
  obtain ⟨regs, arrays, hd⟩ := s.fenceTiles_only i
  rw [hd]
  rfl

/-- What a fence leaves of what a takeover looks at, with no hand-over under way. -/
structure Walled (i : Nat) (s t : State) : Prop where
  map : SameMap s t
  fenced : t.fenced i = true
  spare : t.spareFor (wingOf i) = s.spareFor (wingOf i)

theorem State.fenceCore_walled (hh : s.handovers = []) (hlc : s.logical i = some lc) : Walled i s (s.fenceCore i) := by
  by_cases hf : s.fenced i = true
  · have hrun : s.fenceCore i = s := if_pos hf
    rw [hrun]
    exact ⟨.refl s, hf, rfl⟩
  · have hrun := s.fenceCore_stages i (Bool.eq_false_iff.mpr hf) (by rw [hh]; exact fun _ h => nomatch h)
    have hg : Guarded (s.fenceTiles i) (s.fenceCore i) := by
      rw [hrun, hlc]
      exact State.claimsDue_guarded ..
    have hmap : SameMap s (s.fenceTiles i) := ⟨s.fenceTiles_map i, s.fenceTiles_handovers i⟩
    have hspare : (s.fenceTiles i).spareFor (wingOf i) = s.spareFor (wingOf i) :=
      State.spareFor_congr hmap (fun k => by rw [State.fenceTiles_core]; exact ⟨rfl, rfl⟩) (fun k hk hki => State.fenceTiles_rd hki hk) hlc _
        (by unfold wingOf; split <;> omega)
    exact ⟨hmap.trans (.guarded hg), (hg.fenced i).trans (s.fenceTiles_fenced i), (hg.spareFor _).trans hspare⟩

/-! ### The replacement -/

/-- The latches that read with an error enter the broken state on the replacement. -/
def State.brokenLatches (s : State) (n : Nat) (bad : List Nat) : State :=
  bad.foldl (fun s j => if j < 48 then s.setLatch n j (bfSet (bitSet (s.latch n j) 92 true) 79 72 2) else s) s

theorem State.brokenLatches_guarded (s : State) (n : Nat) (bad : List Nat) : Guarded s (s.brokenLatches n bad) := by
  refine Guarded.foldl (fun s j => ?_) _ s
  split
  · exact s.setLatch_guarded ..
  · exact .refl s

/-- A fenced core's identity goes to core n, and the takeover is under way. -/
def State.takenBy (s : State) (lc i n : Nat) (bad : List Nat) : State :=
  let u := (s.copyIdentity i n).brokenLatches n bad
  { u with handovers := u.handovers ++ [{ logical := lc, old := i, new := n, fault := true, frozen := true }] }

theorem State.takenBy_effect (hh : s.handovers = []) (hf : s.fenced i = true) (bad : List Nat) : (s.takenBy lc i n bad).fenced i = true
    ∧ (s.takenBy lc i n bad).handovers = [{ logical := lc, old := i, new := n, fault := true, frozen := true }] := by
  have hg := (s.copyIdentity_guarded i n).trans (State.brokenLatches_guarded _ n bad)
  unfold State.takenBy
  generalize (s.copyIdentity i n).brokenLatches n bad = u at hg ⊢
  refine ⟨(hg.fenced i).trans hf, ?_⟩
  dsimp only
  rw [hg.handovers, hh]
  rfl

/-- No spare: the latches break and the logical core is unspared. -/
def State.unspared (s : State) (lc i : Nat) : State :=
  let u := (List.range 48).foldl (fun s j => s.latchBreak i j 2) s
  (({ u with heldAcc := u.heldAcc.filter (fun h => h.1 ≠ i), spareMap := tput (fun _ => none) u.spareMap lc none } : State).commitTable 4).noSpare uCore i

theorem State.phys_unspared (s : State) (lc i : Nat) : (s.unspared lc i).phys lc = none := by
  unfold State.unspared
  dsimp only
  generalize (List.range 48).foldl (fun s j => s.latchBreak i j 2) s = u
  have hput : (({ u with heldAcc := u.heldAcc.filter (fun h => h.1 ≠ i), spareMap := tput (fun _ => none) u.spareMap lc none } : State).commitTable 4).phys lc
      = none := tget_tput_self (fun _ => none) u.spareMap lc none
  generalize ({ u with heldAcc := u.heldAcc.filter (fun h => h.1 ≠ i), spareMap := tput (fun _ => none) u.spareMap lc none } : State).commitTable 4 = v at hput ⊢
  have hrep : Reported v (v.noSpare uCore i) := by
    unfold State.noSpare State.event
    exact State.report_reported ..
  exact ((SameMap.guarded (.reported hrep)).phys lc).trans hput

/-- What follows the fence of a takeover. -/
def State.takeOver (s : State) (i : Nat) (bad : List Nat) : State :=
  match s.logical i with
  | none => s
  | some lc =>
    if s.handovers.any (fun h => h.old = i) then s
    else match s.spareFor (wingOf i) with
    | none => s.unspared lc i
    | some new => s.takenBy lc i new bad

/-- A takeover with a cause that is not of the hardware. -/
theorem State.faultTakeover_fences {cause : Nat} (hc : cause < 0x10) (thread : Option Nat) (bad : List Nat) :
    s.faultTakeover i ⟨cause, thread⟩ bad = (s.fenceCore i).takeOver i bad := by
  have hno : ¬ 0x10 ≤ cause := by omega
  unfold State.faultTakeover
  cases thread with
  | none =>
    dsimp only
    rw [if_neg hno]
    rfl
  | some t =>
    dsimp only
    rw [if_neg hno, if_neg hno]
    rfl

theorem State.takeOver_walled (hw : Walled i s t) (hh : s.handovers = []) (hlc : s.logical i = some lc) (bad : List Nat) :
    t.takeOver i bad = match s.spareFor (wingOf i) with
      | none => t.unspared lc i
      | some new => t.takenBy lc i new bad := by
  unfold State.takeOver
  rw [(State.logical_of_map hw.map.spareMap i).trans hlc]
  dsimp only
  rw [if_neg (by simp [hw.map.handovers, hh]), hw.spare]

/-! ### A hardware cause -/

theorem State.raise_reads (s : State) {i t cause slot : Nat} {second : Bool} {pc : W64} (hexc : (s.core i).exc.length < 8) :
    ((s.raise i t cause slot second pc).thr i t).st = .faulted
      ∧ (∃ e, (((s.raise i t cause slot second pc).core i).exc = (s.core i).exc ++ [e] ∧ e.cause = cause ∧ e.thread = t ∧ e.bundle = pc))
      ∧ ((s.raise i t cause slot second pc).core i).msgs = (s.core i).msgs ++ [⟨t, cause, (s.thr i t).part, (s.thr i t).ring, (s.thr i t).dcount⟩] := by
  have hthr : ((s.raise i t cause slot second pc).thr i t).st = .faulted := by
    unfold State.raise
    dsimp only
    rw [State.thr_setThr_self]
  have hcore : (s.raise i t cause slot second pc).core i = { s.core i with
      exc := (s.core i).exc ++ [{ cause, slot, second, thread := t, part := (s.thr i t).part, bundle := pc, seq := (s.thr i t).seq, beat := s.now.setWidth 32 }]
      msgs := (s.core i).msgs ++ [⟨t, cause, (s.thr i t).part, (s.thr i t).ring, (s.thr i t).dcount⟩] } := by
    unfold State.raise
    dsimp only
    rw [if_pos hexc]
    exact State.core_setCore_self ..
  rw [hcore]
  exact ⟨hthr, ⟨_, rfl, rfl, rfl, rfl⟩, rfl⟩

theorem State.raise_rest (s : State) (i t cause slot : Nat) (second : Bool) (pc : W64) :
    ∃ threads cores, s.raise i t cause slot second pc = { s with threads, cores } := ⟨_, _, rfl⟩

theorem State.hardwareCause_raises (hst : (s.thr i n).st = .ready) (cause : Nat) : ∃ slot second,
    s.hardwareCause i n cause = (s.raise i n cause slot second (s.thr i n).pc).bump := by
  unfold State.hardwareCause
  dsimp only
  rw [if_neg (by simp [Thread.eff, hst])]
  exact ⟨_, _, rfl⟩

theorem Reported.core {s t : State} (h : Reported s t) (j : Nat) : t.core j = s.core j := by
  obtain ⟨_, _, _, _, _, _, rfl⟩ := h
  rfl

/-- The blast-radius report, and the core to be tested next. -/
def State.blasted (s : State) (i cause : Nat) : State :=
  (s.blastReport i (BitVec.ofNat 16 cause)).setCore i { (s.blastReport i (BitVec.ofNat 16 cause)).core i with testNext := true }

theorem State.blasted_reads (s : State) (i cause : Nat) : (s.blasted i cause).core i = { s.core i with testNext := true }
    ∧ (s.blasted i cause).threads = s.threads ∧ SameMap s (s.blasted i cause) := by
  have hr := s.blastReport_reported i (BitVec.ofNat 16 cause)
  have hg := Guarded.reported hr
  have hset (u : State) (x : Core) : (u.setCore i x).threads = u.threads ∧ SameMap u (u.setCore i x) := ⟨rfl, ⟨rfl, rfl⟩⟩
  unfold State.blasted
  obtain ⟨hthr, hmap⟩ := hset (s.blastReport i (BitVec.ofNat 16 cause)) { (s.blastReport i (BitVec.ofNat 16 cause)).core i with testNext := true }
  refine ⟨?_, hthr.trans hr.threads, (SameMap.guarded hg).trans hmap⟩
  rw [State.core_setCore_self, hr.core]

/-- A hardware cause in a core that is fenced and whose takeover is under way. -/
theorem State.faultTakeover_blasts {t cause : Nat} (hc : 0x10 ≤ cause) (hf : (s.hardwareCause i t cause).fenced i = true)
    (hh : (s.hardwareCause i t cause).handovers = s.handovers) (hany : s.handovers.any (fun h => h.old = i) = true) (bad : List Nat) :
    s.faultTakeover i ⟨cause, some t⟩ bad = (s.hardwareCause i t cause).blasted i cause := by
  have hrun : (s.hardwareCause i t cause).fenceCore i = s.hardwareCause i t cause := if_pos hf
  have hhand := ((s.hardwareCause i t cause).blasted_reads i cause).2.2.handovers
  have hstop (u : State) (hu : u.handovers.any (fun h => h.old = i) = true) : u.takeOver i bad = u := by
    unfold State.takeOver
    split
    · rfl
    · exact if_pos hu
  have hsteps : s.faultTakeover i ⟨cause, some t⟩ bad = (((s.hardwareCause i t cause).fenceCore i).blasted i cause).takeOver i bad := by
    unfold State.faultTakeover
    extract_lets a b k c w
    have ha : a = s.hardwareCause i t cause := if_pos hc
    have hblast : c = b.blasted i cause := if_pos hc
    have hstate : c = ((s.hardwareCause i t cause).fenceCore i).blasted i cause := by
      rw [← ha]
      exact hblast
    rw [← hstate]
    rfl
  rw [hsteps, hrun]
  exact hstop _ (by rw [hhand, hh]; exact hany)

theorem State.faultTakeover_raises {t cause : Nat} (hc : 0x10 ≤ cause) (hst : (s.thr i t).st = .ready) (hf : s.fenced i = true)
    (hexc : (s.core i).exc.length < 8) (hany : s.handovers.any (fun h => h.old = i) = true) (bad : List Nat) :
    ∃ u e, s.faultTakeover i ⟨cause, some t⟩ bad = u ∧ (u.thr i t).st = .faulted ∧ (u.core i).exc = (s.core i).exc ++ [e]
      ∧ e.cause = cause ∧ e.thread = t ∧ e.bundle = (s.thr i t).pc ∧ (u.core i).testNext = true
      ∧ (u.core i).msgs = (s.core i).msgs ++ [⟨t, cause, (s.thr i t).part, (s.thr i t).ring, (s.thr i t).dcount⟩] := by
  obtain ⟨slot, second, hraise⟩ := State.hardwareCause_raises hst cause
  obtain ⟨hthr, ⟨e, hexc', he⟩, hmsgs⟩ := s.raise_reads (t := t) (cause := cause) (slot := slot) (second := second) (pc := (s.thr i t).pc) hexc
  obtain ⟨threads, cores, honly⟩ := s.raise_rest i t cause slot second (s.thr i t).pc
  generalize s.raise i t cause slot second (s.thr i t).pc = v at hraise hthr hexc' hmsgs honly
  have hfen : (s.hardwareCause i t cause).fenced i = true := by
    rw [hraise, honly]
    exact hf
  have hhand : (s.hardwareCause i t cause).handovers = s.handovers := by
    rw [hraise, honly]
    rfl
  obtain ⟨hcore, hthreads, -⟩ := (s.hardwareCause i t cause).blasted_reads i cause
  have hcv : (s.hardwareCause i t cause).core i = v.core i := by rw [hraise]; rfl
  have htv : (s.hardwareCause i t cause).threads = v.threads := by rw [hraise]; rfl
  obtain ⟨hec, het, heb⟩ := he
  refine ⟨_, e, State.faultTakeover_blasts hc hfen hhand hany bad, ?_, ?_, hec, het, heb, ?_, ?_⟩
  · rw [State.thr, hthreads, htv]
    exact hthr
  · rw [hcore, hcv]
    exact hexc'
  · rw [hcore]
  · rw [hcore, hcv]
    exact hmsgs

end Takeover

/-- Settles O20: the freeze and its commit, the takeover with and without a spare, a hardware cause during one, and its commit. -/
theorem handOver : Obligations.HandOver := by
  unfold Obligations.HandOver
  refine fun s i lc hlc hi => ⟨fun n hdrain hf harr hh hn hout => ?_, fun h hh hl hold hne hz hf hacc => ?_, fun n cause thread bad hc hh hn hne => ?_,
    fun t cause bad hc ht hst hf hexc hany => ?_, fun cause thread bad hc hh hn => ?_, fun h hh hl hold hne hf hacc => ?_⟩
  · obtain ⟨threads, hhold⟩ := s.holdAll_only i
    have hthr {t : Nat} (ht : t < 32) := s.thr_holdAll i ht
    obtain ⟨h1, h2⟩ := State.frozenTo_rest (i := i) (n := n) (s := { (s.holdAll i).1 with
      handovers := [{ logical := lc, old := i, new := n, fault := false, frozen := true, held := (s.holdAll i).2 }] })
    refine ⟨_, _, by rw [exec_handoverFreeze, execHandoverFreeze, State.handoverFreeze_eq hlc hdrain hf harr hh hn hout], h1, rfl, rfl, rfl, rfl, rfl, h2,
      fun t ht => ?_⟩
    have hnew := State.thr_frozenTo (s := { (s.holdAll i).1 with
      handovers := [{ logical := lc, old := i, new := n, fault := false, frozen := true, held := (s.holdAll i).2 }] }) (State.ne_of_spareFor hn hlc) ht
    have hold : State.thr { (s.holdAll i).1 with
      handovers := [{ logical := lc, old := i, new := n, fault := false, frozen := true, held := (s.holdAll i).2 }] } i t = (s.thr i t).stayed := hthr ht
    rw [hnew, hold]
    exact Thread.stayed_st _
  · exact ⟨_, exec_handoverCommit .., State.handoverCommit_moves hi hh hl hold hz hf hacc⟩
  · have hw := State.fenceCore_walled hh hlc
    have hrun := State.takeOver_walled hw hh hlc bad
    rw [hn] at hrun
    obtain ⟨hfen, hhand⟩ := State.takenBy_effect (lc := lc) (n := n) (hw.map.handovers.trans hh) hw.fenced bad
    exact ⟨_, _, by rw [exec_faultTakeover, execFaultTakeover, State.faultTakeover_fences hc, hrun], hfen, hhand, rfl, rfl, rfl, rfl⟩
  · obtain ⟨u, e, hrun, h⟩ := State.faultTakeover_raises hc hst hf hexc hany bad
    exact ⟨u, e, by rw [exec_faultTakeover, execFaultTakeover, hrun], h⟩
  · have hrun := State.takeOver_walled (State.fenceCore_walled hh hlc) hh hlc bad
    rw [hn] at hrun
    exact ⟨_, by rw [exec_faultTakeover, execFaultTakeover, State.faultTakeover_fences hc, hrun], State.phys_unspared ..⟩
  · exact ⟨_, exec_takeoverCommit .., State.takeoverCommit_moves (by omega) hh hl hf hacc⟩

end Sys2Proof.Machine
end

section
/-! PROOFS. The start of a collective operation (R468, R470, R472, R480): the obligation fails. A command that starts records itself in the ledgers
of its cores (R194), and a full ledger spills its oldest entry to the address in CORE_LEDGER_BASE (R201); where that is an entry of the group table,
the operation's members are those of the entry as spilled. -/

namespace Sys2Proof.Machine

/-- A gated ALL_REDUCE of group 0 under sequence 1, which waits for latch 0 of logical core 0 to reach 1. -/
def gatedReduce : Cmd :=
  { ring := 0, dcount := 0, part := 0, desc := leBytes 1 0x20 ++ zeros 63
    param := [1, 16, 0, 0] ++ leBytes 4 1 ++ leBytes 4 1 ++ zeros 18 ++ leBytes 2 0 ++ leBytes 8 1 ++ zeros 24 }

/-- Its core's ledger is full of entries of another command and spills to entry 0 of bank 0, which names no member. -/
def spillState : State :=
  { State.reset with
    regs := [(rLedgerCtl 0, 0x40000000), (rLedgerBase 0, BitVec.ofNat 32 (gtAddr 0 0)), (rLedgerBase 0 + 4, BitVec.ofNat 32 (gtAddr 0 0 / 2 ^ 32)), (rCollSeq 0, 1)]
    cores := [(0, { ledger := List.replicate 1024 (1 + 2 ^ 48) })]
    spareMap := [(0, some 0)]
    parts := [(0, { st := .ready, cores := 1 })]
    cmds := [gatedReduce] }

/-- The members of the operations after a command. -/
def membersAfter : Host.Outcome State Fault Refusal → List (List (Nat × Nat))
  | .next t => t.coll.ops.map CollOp.members
  | _ => []

theorem membersAfter_spill : membersAfter (exec (.allReduce 0 0) spillState) = [[(0, 0)]] := by decide +kernel

theorem gtMembers_spill : spillState.gtMembers 0 0 = [] := by decide +kernel

theorem startable_spill : spillState.startable 0 0 0x20 gatedReduce := ⟨rfl, rfl, rfl, by decide +kernel, by decide +kernel⟩

/-- Refutes O45: the operation's members are not those that the table names before the command. -/
theorem not_collectiveStart : ¬ Obligations.CollectiveStart := by
  unfold Obligations.CollectiveStart
  intro h
  obtain ⟨-, -, hgated, -⟩ := h spillState 0 0 1 (.allReduce 0 0) gatedReduce startable_spill (by decide +kernel) ⟨by decide +kernel, by decide +kernel⟩ rfl
    ⟨rfl, rfl⟩ (by simp)
  obtain ⟨t, o, -, hrun, hops, -, -, hmem, -⟩ := hgated 0 (by decide +kernel) (by decide +kernel) (by decide +kernel) fun o _ hm => by
    unfold State.maskMismatch CollOp.size
    rw [hm, show gatedReduce.cGroup = 0 by decide +kernel, gtMembers_spill]
    rfl
  have hall := membersAfter_spill
  rw [hrun] at hall
  have hone : t.coll.ops.map CollOp.members = [[]] := by
    rw [hops, List.map_singleton, hmem, show gatedReduce.cGroup = 0 by decide +kernel, gtMembers_spill]
  exact absurd (hone.symm.trans hall) (by decide)

end Sys2Proof.Machine
end

section
/-! PROOFS. NOP, FILL, COPY, conversions and reductions (R257, R672): the obligation fails. A COPY records itself in the ledgers of its cores before it
looks for its group entry (R194), and a full ledger spills its oldest entry to the address in CORE_LEDGER_BASE (R201): there may stand the entry
that decides whether the COPY is denied. -/

namespace Sys2Proof.Machine

/-- A COPY of one W32 word at address 0 to address 0 of module 0, by a remote address. -/
def remoteCopy : Cmd :=
  { ring := 0, dcount := 0, part := 0, desc := leBytes 1 4 ++ zeros 63
    param := leBytes 4 1 ++ leBytes 4 1 ++ zeros 24 ++ (zeros 20 ++ [7] ++ zeros 11) ++ (leBytes 8 (2 ^ 63) ++ zeros 12 ++ [7] ++ zeros 11) }

/-- The partition may use entry 0, which has no member; its core's ledger is full of entries of another command and spills a member count of 1 to the
entry. -/
def copySpillState : State :=
  { State.reset with
    regs := [(rLedgerCtl 0, 0x40000000), (rLedgerBase 0, BitVec.ofNat 32 (gtAddr 0 0)), (rLedgerBase 0 + 4, BitVec.ofNat 32 (gtAddr 0 0 / 2 ^ 32)), (rCollSeq 0, 1)]
    cores := [(0, { ledger := List.replicate 1024 (1 + 2 ^ 48) })]
    spareMap := [(0, some 0)]
    parts := [(0, { st := .ready, cores := 1, gtBase := 0, gtCount := 1 })]
    cmds := [remoteCopy] }

/-- The phases of the live commands after a command. -/
def phasesAfter : Host.Outcome State Fault Refusal → List CPhase
  | .next t => t.cmds.map Cmd.phase
  | _ => []

theorem phasesAfter_copy : phasesAfter (exec (.copy 0 0) copySpillState) = [.written] := by decide +kernel

theorem entryFor_copy : copySpillState.entryFor remoteCopy.part (remoteCopy.ten 1).base = none := by decide +kernel

theorem startable_copy : copySpillState.startable 0 0 4 remoteCopy := ⟨rfl, rfl, rfl, by decide +kernel, by decide +kernel⟩

/-- Refutes O24: no entry reaches the module as the command starts, and yet the COPY is not denied. -/
theorem not_elementCommands : ¬ Obligations.ElementCommands := by
  unfold Obligations.ElementCommands
  intro h
  obtain ⟨-, -, -, hdenied, -⟩ := h.1 copySpillState 0 0 remoteCopy ⟨rfl, rfl⟩
  obtain ⟨t, k', hrun, hcmd, hphase, -⟩ := hdenied startable_copy entryFor_copy
  have hall := phasesAfter_copy
  rw [hrun] at hall
  have hmem : k' ∈ t.cmds := List.mem_of_find?_eq_some hcmd
  have hfailed : k'.phase ∈ t.cmds.map Cmd.phase := List.mem_map_of_mem hmem
  rw [show t.cmds.map Cmd.phase = [.written] from hall, List.mem_singleton, hphase] at hfailed
  exact absurd hfailed (by decide)

end Sys2Proof.Machine
end

section
/-! PROOFS. The K-split combination, the re-execution and the reissue of items (R271, R186): the obligation fails. A combination that meets a bad scale
ends its command, the latches that the command owns break (R382), and the break is traced: with the partition's trace on, the record goes to
memory. -/

namespace Sys2Proof.Machine

/-- A MATMUL of one item in two parts, all of it claimed and ended; D is of format 0 with given scales, that at address 128 zero. -/
def badSplit : Cmd :=
  { ring := 0, dcount := 0, part := 0, phase := .running, tab := 4096, desc := leBytes 1 1 ++ zeros 63
    param := leBytes 4 1 ++ leBytes 4 1 ++ leBytes 4 1 ++ leBytes 3 0 ++ leBytes 1 2 ++ zeros 16 ++ (zeros 20 ++ [7] ++ zeros 11)
      ++ (leBytes 8 4 ++ zeros 12 ++ [7] ++ zeros 11) ++ (leBytes 8 64 ++ leBytes 8 128 ++ zeros 4 ++ [0, 8] ++ zeros 10) }

/-- Latch 0 of the partition's core is owned by the command, and the partition's trace ring is on, with its base at address 0. -/
def tracedSplit : State :=
  { State.reset with
    regs := [(rCntTrc 0, 0x80000000)]
    spareMap := [(0, some 0)]
    latches := [(0, BitVec.ofNat 128 (2 ^ 89))]
    parts := [(0, { st := .ready, cores := 1 })]
    cmds := [badSplit] }

/-- Whether memory is empty after a command. -/
def memEmptyAfter : Host.Outcome State Fault Refusal → Bool
  | .next t => t.mem.isEmpty
  | _ => true

theorem memEmptyAfter_split : memEmptyAfter (exec (.kSplitCombine 0 0) tracedSplit) = false := by decide +kernel

theorem badScale_split : ((tracedSplit.groupDst badSplit (fun row n =>
    match (mGroups badSplit.segments).find? (fun g => g.drow ≤ row && row < g.drow + g.rows) with
    | some g => combineParts badSplit.mTree ((List.range badSplit.mParts).map (fun j =>
        wideVal 8 true (leNat (tracedSplit.readMem (tracedSplit.partAt badSplit j (g.m0 + (row - g.drow)) n) 6).2.2)))
    | none => .zero false)).foldl (fun e d => e.join (d.encode tracedSplit)) ({} : Enc)).bad = true := by decide +kernel

/-- Refutes O27: the command fails with SCALE_INVALID, and a trace record stands in memory. -/
theorem not_checkedItems : ¬ Obligations.CheckedItems := by
  unfold Obligations.CheckedItems
  intro h
  obtain ⟨hsplit, -⟩ := h.1 tracedSplit 0 0 badSplit rfl rfl rfl
  obtain ⟨-, hbad⟩ := hsplit (by decide +kernel) (by decide +kernel) rfl (by decide +kernel) rfl (by decide +kernel) (by decide +kernel) (by decide +kernel)
    ⟨rfl, rfl⟩ (by decide +kernel)
  obtain ⟨t, -, hrun, -, -, -, hmem⟩ := hbad badScale_split
  have hfull := memEmptyAfter_split
  rw [hrun] at hfull
  have hempty : t.mem.isEmpty = true := by
    rw [hmem]
    rfl
  exact absurd (hempty.symm.trans hfull) (by decide)

end Sys2Proof.Machine
end

section
/-! PROOFS. The steps of a collective operation: rounds, agreement, levels and timeouts (R478, R485, R487, R488, R491). -/

namespace Sys2Proof.Machine

/-! ### Operations and their landing records -/

section Ops
variable {s t : State} {g n : Nat} {o : CollOp} {k : Cmd}

theorem State.collOp_of_coll (h : t.coll = s.coll) (g n : Nat) : t.collOp g n = s.collOp g n := by
  unfold State.collOp
  rw [h]

theorem State.collOp_ids (h : s.collOp g n = some o) : o.group = g ∧ o.opseq = n := by
  have hp := List.find?_some h
  simpa using hp

/-- The operation is number n of group g. -/
def CollOp.named (g n : Nat) (x : CollOp) : Bool := x.group = g && x.opseq = n

/-- An operation changed under its own name is the one found. -/
theorem State.collOp_updOp_named (h : s.collOp g n = some o) {f : CollOp → CollOp} (hf : (f o).group = o.group ∧ (f o).opseq = o.opseq) :
    (s.updOp o f).collOp g n = some (f o) := by
  obtain ⟨rfl, rfl⟩ := State.collOp_ids h
  change s.coll.ops.find? (CollOp.named o.group o.opseq) = some o at h
  change (s.coll.ops.map fun x => if CollOp.named o.group o.opseq x = true then f x else x).find? (CollOp.named o.group o.opseq) = some (f o)
  generalize s.coll.ops = l at h ⊢
  induction l with
  | nil => cases h
  | cons x l ih =>
    rw [List.map_cons]
    by_cases hx : CollOp.named o.group o.opseq x = true
    · rw [List.find?_cons_of_pos hx] at h
      obtain rfl := Option.some.inj h
      rw [if_pos hx, List.find?_cons_of_pos (by simp [CollOp.named, hf.1, hf.2])]
    · rw [List.find?_cons_of_neg hx] at h
      rw [if_neg hx, List.find?_cons_of_neg hx]
      exact ih h

/-- Operation n of group g is over on this member. -/
def State.over (s : State) (g n : Nat) : Prop := (g, n) ∈ s.coll.doneOps

theorem State.dropOp_over (s : State) (o : CollOp) : (s.dropOp o).over o.group o.opseq ∧ (s.dropOp o).collOp o.group o.opseq = none
    ∧ (s.dropOp o).landing o.group o.opseq = none := by
  refine ⟨List.mem_append_right _ (List.mem_singleton_self _), List.find?_eq_none.mpr fun x hx => ?_, List.find?_eq_none.mpr fun x hx => ?_⟩
  · have hp := (List.mem_filter.mp hx).2
    simpa [imp_iff_not_or] using hp
  · have hp := (List.mem_filter.mp hx).2
    simpa [imp_iff_not_or] using hp

theorem State.withOp_runs (ho : s.collOp g n = some o) (hk : s.cmd o.ring o.dcount = some k) (hs : (s.part k.part).stopped = false)
    (hf : s.frozenPart k.part = false) (f : State → Cmd → CollOp → State) : s.withOp g n f = f s k o := by
  unfold State.withOp
  rw [ho]
  dsimp only
  rw [hk]
  dsimp only
  rw [if_neg (by rw [hs, hf]; decide)]

/-! ### Ends -/

theorem State.countTimeout_rest (s : State) (code : W16) : (s.countTimeout code).coll = s.coll ∧ SameCmds s (s.countTimeout code) := by
  unfold State.countTimeout
  split <;> exact ⟨rfl, ⟨rfl, rfl⟩⟩

/-- An operation about to be dropped with an error: its destination is scrambled and its report written. -/
def State.concluded (s : State) (k : Cmd) (o : CollOp) (code : W16) : State := ((s.countTimeout code).scrambled k o).collReport k o code

theorem State.concluded_guarded (s : State) (k : Cmd) (o : CollOp) (code : W16) : Guarded (s.countTimeout code) (s.concluded k o code) :=
  Guarded.writeRel.trans (State.scrambled_rel _ k o Guarded.writeRel) (State.collReport_rel _ k o Guarded.writeRel code)

theorem State.concluded_sameCmds (s : State) (k : Cmd) (o : CollOp) (code : W16) : SameCmds s (s.concluded k o code) :=
  (s.countTimeout_rest code).2.trans (SameCmds.writeRel.trans (State.scrambled_rel _ k o SameCmds.writeRel) (State.collReport_rel _ k o SameCmds.writeRel code))

theorem State.endOp_steps (s : State) (k : Cmd) (o : CollOp) (code : W16) :
    s.endOp k o code = ((s.concluded k o code).dropOp o).failCmd k.ring k.dcount code 0 := rfl

theorem State.endOp_coll (s : State) (k : Cmd) (o : CollOp) (code : W16) : (s.endOp k o code).coll = (s.dropOp o).coll := by
  have hcoll := (s.concluded_guarded k o code).coll.trans (s.countTimeout_rest code).1
  have hdrop {u v : State} (h : u.coll = v.coll) : (u.dropOp o).coll = (v.dropOp o).coll := by
    unfold State.dropOp
    rw [h]
  rw [State.endOp_steps]
  exact (State.failCmd_guarded ..).coll.trans (hdrop hcoll)

theorem State.over_of_coll (h : t.coll = (s.dropOp o).coll) :
    t.over o.group o.opseq ∧ t.collOp o.group o.opseq = none ∧ t.landing o.group o.opseq = none := by
  obtain ⟨h1, h2, h3⟩ := s.dropOp_over o
  refine ⟨?_, (State.collOp_of_coll h ..).trans h2, ?_⟩
  · unfold State.over
    rw [h]
    exact h1
  · unfold State.landing
    rw [h]
    exact h3

/-- A command after its operation's end: failed, with the code when it had not failed before. -/
theorem State.endOp_cmd (hk : s.cmd k.ring k.dcount = some k) (o : CollOp) (code : W16) :
    ∃ k', (s.endOp k o code).cmd k.ring k.dcount = some k' ∧ k'.phase = .failed ∧ (k.phase ≠ .failed → k'.err = code) := by
  have hsame : SameCmds (s.concluded k o code) ((s.concluded k o code).dropOp o) := ⟨rfl, rfl⟩
  have hcmd := (((s.concluded_sameCmds k o code).trans hsame).cmd k.ring k.dcount).trans hk
  rw [State.endOp_steps]
  by_cases hphase : k.phase = .failed
  · refine ⟨k, ?_, hphase, fun h => absurd hphase h⟩
    rw [State.failCmd, hcmd]
    dsimp only
    rw [if_pos hphase]
    exact hcmd
  · exact ⟨_, State.cmd_failCmd hcmd hphase code 0, rfl, fun _ => rfl⟩

theorem State.finishOp_coll (s : State) (k : Cmd) (o : CollOp) : (s.finishOp k o).coll = (s.dropOp o).coll := by
  have hrep := (s.collReport_rel k o Guarded.writeRel 0).coll
  have hdrop {u v : State} (h : u.coll = v.coll) : ((u.dropOp o).doneCmd k).coll = (v.dropOp o).coll := by
    show (u.dropOp o).coll = (v.dropOp o).coll
    unfold State.dropOp
    rw [h]
  unfold State.finishOp
  dsimp only
  split
  · exact hdrop hrep
  · exact hdrop ((Guarded.reported (State.report_reported ..)).coll.trans hrep)

end Ops

/-! ### Progress -/

section Progress
variable {s : State} {g n : Nat} {o : CollOp} {k : Cmd}

theorem State.lrEnd_over (s : State) (k : Cmd) (o : CollOp) : (s.lrEnd k o).over o.group o.opseq := by
  unfold State.lrEnd
  dsimp only
  split
  · exact (State.over_of_coll (s.endOp_coll ..)).1
  · exact (State.over_of_coll (State.finishOp_coll ..)).1

theorem State.lrSecond_outcome (ho : s.collOp g n = some o) (k : Cmd) :
    (s.lrSecond k o).over g n ∨ ∃ o', (s.lrSecond k o).collOp g n = some o' ∧ o'.level = 0 := by
  obtain ⟨hg, hn⟩ := State.collOp_ids ho
  unfold State.lrSecond
  dsimp only
  split
  · have hover := (State.over_of_coll (s.endOp_coll k o eAccumRange)).1
    rw [hg, hn] at hover
    exact .inl hover
  · next own _ =>
    right
    generalize hu : s.updLanding o.group o.opseq (fun l => { l with parts := l.parts.filter (fun x => x.phase = 0 && (o.rank :: o.peers 0).contains x.rank) }) = u
    have hou : u.collOp g n = some o := by
      rw [← hu]
      exact ho
    have hset := State.collOp_updOp_named hou (f := fun _ => { o with
      q := true, own, pbar := lowCodes o (k.cRows * k.cLrank), pAgreed := o.agreed, agreed := none, partials := [], down := false, level := 0 }) ⟨rfl, rfl⟩
    split
    · exact ⟨_, (State.collOp_of_coll ((Guarded.sendRel k.part).sendContribution ..).coll g n).trans hset, rfl⟩
    · exact ⟨_, hset, rfl⟩

/-- A member's progress ends the operation, leaves it, or brings LR_REDUCE to its second round. -/
theorem State.collAdvance_outcome (ho : s.collOp g n = some o) : (s.collAdvance g n).over g n ∨ s.collAdvance g n = s
    ∨ (o.level = 0 ∧ (∃ k, s.cmd o.ring o.dcount = some k ∧ k.cCop = 5) ∧ ∃ o', (s.collAdvance g n).collOp g n = some o' ∧ o'.level = 0) := by
  obtain ⟨hg, hn⟩ := State.collOp_ids ho
  unfold State.collAdvance
  rw [ho]
  dsimp only
  split
  · exact .inr (.inl rfl)
  · next k hk =>
    split
    · next hdone =>
      split
      · next hcop =>
        split
        · have hover := s.lrEnd_over k o
          rw [hg, hn] at hover
          exact .inl hover
        · obtain hover | hnext := State.lrSecond_outcome ho k
          · exact .inl hover
          · simp only [Bool.and_eq_true, decide_eq_true_eq] at hdone
            exact .inr (.inr ⟨hdone.1.2, ⟨k, hk, hcop⟩, hnext⟩)
      · have hover := (State.over_of_coll (s.finishOp_coll k o)).1
        rw [hg, hn] at hover
        exact .inl hover
    · exact .inr (.inl rfl)

/-! ### Rounds -/

theorem State.scanAndSend_sends (ho : s.collOp g n = some o) (k : Cmd) (idx : Nat) (arr : Nat → Bool) :
    ∃ o' b, (s.scanAndSend k o idx arr).collOp g n = some o' ∧ (idx, b) ∈ o'.sent ∧ o'.agreed = o.agreed := by
  unfold State.scanAndSend
  dsimp only
  generalize maskBytes _ _ _ _ _ _ _ = b
  have hset := State.collOp_updOp_named ho (f := fun o => { o with sent := o.sent.filter (fun m => m.1 ≠ idx) ++ [(idx, b)] }) ⟨rfl, rfl⟩
  refine ⟨_, b, (State.collOp_of_coll ((Guarded.sendRel k.part).sendMask _ o Guarded.writeRel idx b).coll g n).trans hset, ?_, rfl⟩
  exact List.mem_append_right _ (List.mem_singleton_self _)

variable (ho : s.collOp g n = some o) (hk : s.cmd o.ring o.dcount = some k) (hs : (s.part k.part).stopped = false) (hf : s.frozenPart k.part = false)
include ho hk hs hf

theorem State.ownerRound1_sends {d : W64} (hd : o.ref = some d) (hr : k.reduces = true) (ht : k.cTolerant = true) (hq : o.q = false)
    (hsent : o.sent.any (fun m => m.1 = 0) = false) :
    (d ≤ s.now → ∃ o' b, (s.ownerRound1 g n).collOp g n = some o' ∧ (0, b) ∈ o'.sent ∧ o'.agreed = o.agreed) ∧ (s.now < d → s.ownerRound1 g n = s) := by
  unfold State.ownerRound1
  rw [State.withOp_runs ho hk hs hf]
  dsimp only
  rw [hd]
  dsimp only
  refine ⟨fun hnow => ?_, fun hnow => if_pos (by simp [hnow])⟩
  rw [if_neg (by simp [hr, ht, hq, hsent, BitVec.not_lt.mpr hnow])]
  exact State.scanAndSend_sends ho k 0 _

theorem State.ownerRound1_waits (hd : o.ref = none) : s.ownerRound1 g n = s := by
  unfold State.ownerRound1
  rw [State.withOp_runs ho hk hs hf]
  dsimp only
  rw [hd]

theorem State.round2_sends (hr : k.reduces = true) (ha : o.agreed = none) (hq : o.q = false) (hlow : k.cTolerant = false ∨ o.need2 = true)
    (hsent : o.sent.any (fun m => m.1 = 1) = false) (hrel : o.released ≠ none) (hin : s.partsIn k o 0 (fun _ => true) = true) :
    ∃ o' b, (s.round2 g n).collOp g n = some o' ∧ (1, b) ∈ o'.sent ∧ o'.agreed = none := by
  have hparts : s.partsIn k o 0 (fun r => !o.q || decide ((o.pAgreed.map (·.1)).getD 0 / 2 ^ r % 2 = 1)) = true := by
    simpa [hq] using hin
  have hlow' : (!k.cTolerant || o.need2) = true := by
    obtain h | h := hlow <;> simp [h]
  have hsome : o.released.isNone = false := Option.isNone_eq_false_iff.mpr (Option.isSome_iff_ne_none.mpr hrel)
  unfold State.round2
  rw [State.withOp_runs ho hk hs hf]
  dsimp only
  rw [if_neg (by rw [hparts]; simp [hr, ha, hq, hsent, hsome, hlow']), if_neg (by simp [hq]), ← ha, hq]
  exact State.scanAndSend_sends ho k 1 _

theorem State.round2_waits (hrel : o.released = none) : s.round2 g n = s := by
  unfold State.round2
  rw [State.withOp_runs ho hk hs hf]
  dsimp only
  exact if_pos (by simp [hrel])

end Progress

/-! ### Agreement, levels and timeouts -/

section Agreement
variable {s : State} {g n : Nat} {o : CollOp} {k : Cmd}

theorem State.collAdvance_not_down (ho : s.collOp g n = some o) (hd : o.down = false) : s.collAdvance g n = s := by
  unfold State.collAdvance
  rw [ho]
  dsimp only
  split
  · rfl
  · exact if_neg (by simp [hd])

/-- An operation that is not LR_REDUCE is over after its progress, or as it was. -/
theorem State.collAdvance_over_or_same (ho : s.collOp g n = some o) (hcop : ∀ k, s.cmd o.ring o.dcount = some k → k.cCop ≠ 5) :
    (s.collAdvance g n).over g n ∨ s.collAdvance g n = s := by
  obtain hover | hsame | ⟨-, ⟨k, hk, h5⟩, -⟩ := State.collAdvance_outcome ho
  · exact .inl hover
  · exact .inr hsame
  · exact absurd h5 (hcop k hk)

theorem State.collAdvance_gone (ho : s.collOp g n = none) : s.collAdvance g n = s := by
  unfold State.collAdvance
  rw [ho]

theorem State.keepResult_rel {R : State → State → Prop} (h : WriteRel R) (s : State) (hcop : k.cCop ≠ 5) (o : CollOp) (x : Nat) (b : List Byte) :
    R s (s.keepResult k o x b) := by
  unfold State.keepResult
  dsimp only
  rw [if_neg hcop]
  exact h.trans (h.write s ..) (h.counted (State.countMem_counted ..))

/-- The operation after the mask is agreed, its only level folded and its results on their way down. -/
def CollOp.settled (s : State) (k : Cmd) (o : CollOp) (mask round nanset : Nat) : CollOp :=
  let n : CollOp := { o with agreed := some (mask, round), nanset := o.nanset ||| nanset }
  { n with partials := n.partials ++ [s.foldLevel k n mask 0], level := 0, down := true }

/-- An ALL_REDUCE of one level sends its results down as soon as its mask is agreed. -/
theorem State.agreedOn_settles (ho : s.collOp g n = some o) (hcop : k.cCop = 1) (hlev : o.levn.length = 1) (mask round nanset : Nat) :
    (∃ o', (s.agreedOn k o mask round nanset).collOp g n = some o' ∧ o'.agreed = some (mask, round) ∧ o'.down = true
      ∧ o'.ring = o.ring ∧ o'.dcount = o.dcount) ∧ SameCmds s (s.agreedOn k o mask round nanset) := by
  obtain ⟨hg, hn⟩ := State.collOp_ids ho
  have h5 : k.cCop ≠ 5 := by rw [hcop]; decide
  have h2 : k.cCop ≠ 2 := by rw [hcop]; decide
  unfold State.agreedOn
  extract_lets block p s1 n1
  have ho1 : s1.collOp g n = some o := ho
  have hc1 : SameCmds s s1 := ⟨rfl, rfl⟩
  clear_value s1
  have ho2 : (s1.updOp o (fun _ => n1)).collOp g n = some n1 := State.collOp_updOp_named ho1 ⟨rfl, rfl⟩
  have hc2 : SameCmds s (s1.updOp o (fun _ => n1)) := hc1.trans ⟨rfl, rfl⟩
  generalize s1.updOp o (fun _ => n1) = s2 at ho2 hc2 ⊢
  have hn1 : n1.agreed = some (mask, round) ∧ n1.ring = o.ring ∧ n1.dcount = o.dcount ∧ n1.group = g ∧ n1.opseq = n ∧ n1.levels = 1 :=
    ⟨rfl, rfl, rfl, hg, hn, hlev⟩
  clear_value n1
  obtain ⟨hagreed, hring, hdcount, hg1, hn1', hlev1⟩ := hn1
  unfold State.folded
  extract_lets ps n2 s3 s4
  have ho3 : s3.collOp g n = some n2 := State.collOp_updOp_named ho2 ⟨rfl, rfl⟩
  have hc3 : SameCmds s s3 := hc2.trans ⟨rfl, rfl⟩
  clear_value s3
  have ho4 : s4.collOp g n = some n2 := (State.collOp_of_coll (State.keepResult_rel Guarded.writeRel s3 h5 ..).coll g n).trans ho3
  have hc4 : SameCmds s s4 := hc3.trans (State.keepResult_rel SameCmds.writeRel s3 h5 ..)
  clear_value s4
  rw [if_neg (by rw [hlev1]; decide), if_neg h2, hg1, hn1', ho4]
  unfold State.startDown
  dsimp only
  generalize hn3 : ({ n2 with down := true, level := n2.levels - 1 } : CollOp) = n3
  have ho5 := State.collOp_updOp_named ho4 (f := fun o => { o with down := true, level := n2.levels - 1 }) ⟨rfl, rfl⟩
  have hc5 : SameCmds s (s4.updOp n2 (fun o => { o with down := true, level := n2.levels - 1 })) := hc4.trans ⟨rfl, rfl⟩
  exact ⟨⟨_, (State.collOp_of_coll ((Guarded.sendRel k.part).sendResults ..).coll g n).trans ho5, hagreed, rfl, hring, hdcount⟩,
    hc5.trans ((SameCmds.sendRel k.part).sendResults ..)⟩

variable (ho : s.collOp g n = some o) (hk : s.cmd o.ring o.dcount = some k) (hs : (s.part k.part).stopped = false) (hf : s.frozenPart k.part = false)
include ho hk hs hf

theorem State.agree_below_quorum (hmm : s.maskMismatch k o = false) (hr : k.reduces = true) (ha : o.agreed = none) (hq : o.q = false)
    (ht : k.cTolerant = true) (hn2 : o.need2 = false) (hd : o.down = false) {a nans : Nat} (hm : s.masks k o 0 = some (a, nans))
    (hnanq : k.cNanq = false) (hqr : popNat o.size a < max 1 k.cQr) :
    (s.agree g n).collOp g n = some { o with need2 := true } := by
  have hset := State.collOp_updOp_named ho (f := fun o => { o with need2 := true }) ⟨rfl, rfl⟩
  have hstep : s.agree g n = (s.updOp o (fun o => { o with need2 := true })).collAdvance g n := by
    unfold State.agree
    rw [State.withOp_runs ho hk hs hf]
    simp [hmm, hr, ha, hq, ht, hn2, hm, hnanq, hqr]
  rw [hstep, State.collAdvance_not_down hset hd]
  exact hset

theorem State.agree_second_round (hmm : s.maskMismatch k o = false) (hr : k.reduces = true) (ha : o.agreed = none) (hq : o.q = false)
    (ht : k.cTolerant = false) (hcop : k.cCop = 1) (hlev : o.levn.length = 1) {a nans : Nat} (hm : s.masks k o 1 = some (a, nans))
    (hnanq : k.cNanq = false) :
    (s.agree g n).over g n ∨ ∃ o', (s.agree g n).collOp g n = some o' ∧ o'.agreed = some (a, 2) ∧ o'.down = true := by
  have hstep : s.agree g n = (s.agreedOn k o a 2 nans).collAdvance g n := by
    unfold State.agree
    rw [State.withOp_runs ho hk hs hf]
    simp [hmm, hr, ha, hq, ht, hm, hnanq]
  obtain ⟨⟨o', ho', hagreed, hdown, hring, hdcount⟩, hsame⟩ := State.agreedOn_settles ho hcop hlev a 2 nans
  have hcop' (k' : Cmd) (hk' : (s.agreedOn k o a 2 nans).cmd o'.ring o'.dcount = some k') : k'.cCop ≠ 5 := by
    rw [hring, hdcount, hsame.cmd, hk] at hk'
    obtain rfl := Option.some.inj hk'
    rw [hcop]
    decide
  rw [hstep]
  obtain hover | hstay := State.collAdvance_over_or_same ho' hcop'
  · exact .inl hover
  · rw [hstay]
    exact .inr ⟨o', ho', hagreed, hdown⟩

theorem State.agree_mismatch (hmm : s.maskMismatch k o = true) : (s.agree g n).collOp g n = none
    ∧ ∃ k', (s.agree g n).cmd o.ring o.dcount = some k' ∧ k'.phase = .failed ∧ (k.phase ≠ .failed → k'.err = eCollGroupMismatch) := by
  obtain ⟨hg, hn⟩ := State.collOp_ids ho
  obtain ⟨hring, hdcount⟩ := State.cmd_ids hk
  have hgone := (State.over_of_coll (s.endOp_coll k o eCollGroupMismatch)).2.1
  rw [hg, hn] at hgone
  have hend := State.endOp_cmd (hring.symm ▸ hdcount.symm ▸ hk) o eCollGroupMismatch
  have hstep : s.agree g n = (s.endOp k o eCollGroupMismatch).collAdvance g n := by
    unfold State.agree
    rw [State.withOp_runs ho hk hs hf]
    dsimp only
    rw [if_pos hmm]
  rw [hstep, State.collAdvance_gone hgone]
  rw [hring, hdcount] at hend
  exact ⟨hgone, hend⟩

theorem State.hierLevel_descends {l : Nat} (hl : 1 ≤ l) (hd : o.down = true) (hlev : o.level = l) (hin : s.resultsIn k o l = true) :
    (s.hierLevel g n l).over g n ∨ ∃ o', (s.hierLevel g n l).collOp g n = some o' ∧ o'.level = l - 1 := by
  have hset := State.collOp_updOp_named ho (f := fun o => { o with level := l - 1 }) ⟨rfl, rfl⟩
  have hsent := (State.collOp_of_coll ((Guarded.sendRel k.part).sendResults (s.updOp o (fun o => { o with level := l - 1 })) o (l - 1)).coll g n).trans hset
  have hstep : s.hierLevel g n l = ((s.updOp o (fun o => { o with level := l - 1 })).sendResults k o (l - 1)).collAdvance g n := by
    unfold State.hierLevel
    rw [State.withOp_runs ho hk hs hf]
    rw [if_neg (by simp [hlev]; omega), if_pos hd, if_neg (by simp [hin])]
  rw [hstep]
  obtain hover | hstay | ⟨hzero, -, o', ho', hzero'⟩ := State.collAdvance_outcome hsent
  · exact .inl hover
  · rw [hstay]
    exact .inr ⟨_, hsent, rfl⟩
  · exact .inr ⟨o', ho', hzero'.trans hzero.symm⟩

theorem State.hierLevel_waits {l : Nat} (hd : o.down = false) (hlev : o.level ≠ l) : s.hierLevel g n l = s := by
  unfold State.hierLevel
  rw [State.withOp_runs ho hk hs hf]
  rw [if_pos (by simp [hlev])]
  exact State.collAdvance_not_down ho hd

end Agreement

section Timeout
variable {s : State} {g n : Nat} {o : CollOp} {k : Cmd}

theorem State.timeouts_endOp (s : State) (k : Cmd) (o : CollOp) :
    (s.endOp k o eCollTimeout).rdF rCollStat 7 0 = min 255 (s.rdF rCollStat 7 0 + 1) := by
  have hdrop : ((s.concluded k o eCollTimeout).dropOp o).rd rCollStat = (s.concluded k o eCollTimeout).rd rCollStat := rfl
  have hcount : (s.endOp k o eCollTimeout).rd rCollStat = (s.incF rCollStat 7 0 1).rd rCollStat := by
    rw [State.endOp_steps]
    exact (State.failCmd_guarded ..).collStat.trans (hdrop.trans (s.concluded_guarded k o eCollTimeout).collStat)
  calc (s.endOp k o eCollTimeout).rdF rCollStat 7 0
    _ = (s.incF rCollStat 7 0 1).rdF rCollStat 7 0 := congrArg (bf · 7 0) hcount
    _ = min 255 (s.rdF rCollStat 7 0 + 1) := by
      unfold State.incF
      rw [State.rdF_wrF_same _ _ (by omega) (by omega)]
      unfold holdAdd
      omega

theorem State.collTimeout_ends (ho : s.collOp g n = some o) (hk : s.cmd o.ring o.dcount = some k)
    (hdue : (o.ref.getD o.start).toNat + k.cTimeout ≤ s.now.toNat) :
    (s.collTimeout g n).collOp g n = none ∧ (s.collTimeout g n).landing g n = none
    ∧ (∃ k', (s.collTimeout g n).cmd o.ring o.dcount = some k' ∧ k'.phase = .failed ∧ (k.phase ≠ .failed → k'.err = eCollTimeout))
    ∧ (s.collTimeout g n).rdF rCollStat 7 0 = min 255 (s.rdF rCollStat 7 0 + 1) := by
  obtain ⟨hg, hn⟩ := State.collOp_ids ho
  obtain ⟨hring, hdcount⟩ := State.cmd_ids hk
  have hstep : s.collTimeout g n = (s.endOp k o eCollTimeout).sendNotices k o := by
    unfold State.collTimeout
    rw [ho]
    dsimp only
    rw [hk]
    exact if_pos hdue
  have hsent : Guarded (s.endOp k o eCollTimeout) ((s.endOp k o eCollTimeout).sendNotices k o) := (Guarded.sendRel k.part).sendNotices ..
  have hsame : SameCmds (s.endOp k o eCollTimeout) ((s.endOp k o eCollTimeout).sendNotices k o) := (SameCmds.sendRel k.part).sendNotices ..
  obtain ⟨-, hgone, hland⟩ := State.over_of_coll (hsent.coll.trans (s.endOp_coll k o eCollTimeout))
  have hend := State.endOp_cmd (hring.symm ▸ hdcount.symm ▸ hk) o eCollTimeout
  rw [hg, hn] at hgone hland
  rw [hring, hdcount] at hend
  rw [hstep, hsame.cmd]
  have hstat : State.rdF (State.sendNotices _ k o) rCollStat 7 0 = _ := congrArg (bf · 7 0) hsent.collStat
  exact ⟨hgone, hland, hend, hstat.trans (s.timeouts_endOp k o)⟩

theorem State.collTimeout_waits (ho : s.collOp g n = some o) (hk : s.cmd o.ring o.dcount = some k)
    (hdue : s.now.toNat < (o.ref.getD o.start).toNat + k.cTimeout) : s.collTimeout g n = s := by
  unfold State.collTimeout
  rw [ho]
  dsimp only
  rw [hk]
  exact if_neg (by omega)

end Timeout

/-- Settles O46: each step of an operation changes the operation under its name alone, or ends it. -/
theorem collectiveSteps : Obligations.CollectiveSteps := by
  intro s g n o k ho hk hs hf
  have next {i : Instr} {u : State} (h : exec i s = .next u) (hu : u = s) : exec i s = .next s := hu ▸ h
  refine ⟨fun d hd hr ht hq hsent => ?_, fun hd => next rfl (State.ownerRound1_waits ho hk hs hf hd),
    fun hr ha hq hlow hsent hrel hin => ?_, fun hrel => next rfl (State.round2_waits ho hk hs hf hrel),
    fun hmm hr ha hq ht hn2 hd a nans hm hnanq hqr => ?_, fun hmm hr ha hq ht _ hcop hlev a nans hm hnanq => ?_, fun hmm => ?_,
    fun l hl hd hlev hin => ?_, fun l hd hlev => next rfl (State.hierLevel_waits ho hk hs hf hd hlev), fun hdue => ?_,
    fun hdue => next rfl (State.collTimeout_waits ho hk hdue)⟩
  · obtain ⟨hsends, hwaits⟩ := State.ownerRound1_sends ho hk hs hf hd hr ht hq hsent
    refine ⟨fun hnow => ?_, fun hnow => next rfl (hwaits hnow)⟩
    obtain ⟨o', b, h⟩ := hsends hnow
    exact ⟨_, o', b, rfl, h⟩
  · obtain ⟨o', b, h⟩ := State.round2_sends ho hk hs hf hr ha hq hlow hsent hrel hin
    exact ⟨_, o', b, rfl, h⟩
  · exact ⟨_, _, rfl, State.agree_below_quorum ho hk hs hf hmm hr ha hq ht hn2 hd hm hnanq hqr, rfl⟩
  · exact ⟨_, rfl, State.agree_second_round ho hk hs hf hmm hr ha hq ht hcop hlev hm hnanq⟩
  · obtain ⟨hgone, k', h⟩ := State.agree_mismatch ho hk hs hf hmm
    exact ⟨_, k', rfl, hgone, h⟩
  · exact ⟨_, rfl, State.hierLevel_descends ho hk hs hf hl hd hlev hin⟩
  · obtain ⟨hgone, hland, ⟨k', hk', hfailed, herr⟩, hstat⟩ := State.collTimeout_ends ho hk hdue
    exact ⟨_, k', rfl, hgone, hland, hk', hfailed, herr, hstat⟩

end Sys2Proof.Machine
end

section
/-! PROOFS. The tiles of an array from start to end, its registers and its test (R119, R121, R132, R137 to R140, R148, R150, R152, R155, R573). -/

namespace Sys2Proof.Machine

/-! ### Reads of memory that holds no error -/

section Reads
variable {s t : State}

/-- The n bytes at pa, cut from their granules. -/
def State.readBytes (s : State) (pa n : Nat) : List Byte :=
  if n = 0 then [] else (((granules pa n).flatMap (fun g => s.bytes g (granSize g))).drop (pa - granOf pa)).take n

theorem State.readBytes_of_mem (h : t.mem = s.mem) (pa n : Nat) : t.readBytes pa n = s.readBytes pa n := by
  have hbyte : t.byte = s.byte := funext fun a => by rw [State.byte, h, State.byte]
  unfold State.readBytes State.bytes
  rw [hbyte]

theorem State.quiet.readMem (hq : s.quiet) (pa n : Nat) : s.readMem pa n = (s, [], s.readBytes pa n) := by
  have hgran (g : Nat) : s.readGran g = (s, false, s.bytes g (granSize g)) := by
    have hdec : s.decodeGran g = (s, false, s.bytes g (granSize g)) := by
      unfold State.decodeGran
      exact if_pos (hq.1 g)
    unfold State.readGran
    rw [hdec]
    exact if_pos rfl
  have hfold (l : List Nat) (b : List Byte) : l.foldl (fun (acc : State × List Nat × List Byte) g =>
      ((acc.1.readGran g).1, if (acc.1.readGran g).2.1 then acc.2.1 ++ [g] else acc.2.1, acc.2.2 ++ (acc.1.readGran g).2.2)) (s, [], b)
      = (s, [], b ++ l.flatMap (fun g => s.bytes g (granSize g))) := by
    induction l generalizing b with
    | nil => simp
    | cons g l ih =>
      rw [List.foldl_cons, hgran, List.flatMap_cons, ← List.append_assoc]
      exact ih _
  unfold State.readMem State.readBytes
  split
  · rfl
  · dsimp only
    rw [hfold]
    rfl

theorem State.quiet.slotLost (hq : s.quiet) (lc t : Nat) : s.slotLost lc t = false := by
  unfold State.slotLost
  rw [hq.readMem]
  rfl

theorem State.quiet.claimSlot (hq : s.quiet) (lc t : Nat) : s.claimSlot lc t = leNat (s.readBytes (claimAddr lc t) 8) := by
  unfold State.claimSlot
  rw [hq.readMem]

theorem State.quiet.claimSlot_of_mem (hs : s.quiet) (ht : t.quiet) (h : t.mem = s.mem) (lc n : Nat) : t.claimSlot lc n = s.claimSlot lc n := by
  rw [hs.claimSlot, ht.claimSlot, State.readBytes_of_mem h]

theorem Counted.quiet (h : Counted s t) (hq : s.quiet) : t.quiet := by
  unfold Counted at h
  rw [h]
  exact hq

/-- Ranges read where memory holds no error: nothing but the counters changes, and no range is poisoned. -/
theorem State.quiet.readRanges (hq : s.quiet) (unit inst : Nat) (r : Req) (l : List (Nat × Nat)) :
    Counted s (s.readRanges unit inst r l).1 ∧ ∀ x ∈ (s.readRanges unit inst r l).2, x.2 = none := by
  have hfold (l : List (Nat × Nat)) (acc : State × List (List Byte × Option Nat) × List Nat) (h1 : Counted s acc.1) (h2 : ∀ x ∈ acc.2.1, x.2 = none)
      (h3 : acc.2.2 = []) :
      let f := l.foldl (fun (acc : State × List (List Byte × Option Nat) × List Nat) x =>
        ((acc.1.readMem x.1 x.2).1.countMem r x.1 x.2 false, acc.2.1 ++ [((acc.1.readMem x.1 x.2).2.2, (acc.1.readMem x.1 x.2).2.1.head?)],
          acc.2.2 ++ (acc.1.readMem x.1 x.2).2.1)) acc
      Counted s f.1 ∧ (∀ x ∈ f.2.1, x.2 = none) ∧ f.2.2 = [] := by
    induction l generalizing acc with
    | nil => exact ⟨h1, h2, h3⟩
    | cons a l ih =>
      rw [List.foldl_cons, (h1.quiet hq).readMem]
      refine ih _ (h1.trans (State.countMem_counted ..)) (fun x hx => ?_) (by rw [h3]; rfl)
      obtain hx | hx := List.mem_append.mp hx
      · exact h2 x hx
      · rw [List.mem_singleton.mp hx]
        rfl
  obtain ⟨h1, h2, h3⟩ := hfold l (s, [], []) (.refl s) (fun x hx => nomatch hx) rfl
  unfold State.readRanges
  dsimp only at h1 h2 h3 ⊢
  rw [h3]
  exact ⟨h1, h2⟩

/-- A feeder meets no poison where memory holds no error. -/
theorem State.quiet.feed (hq : s.quiet) (inst : Nat) (r : Req) (f : Feed) : Counted s (s.feed inst r f).1 ∧ (s.feed inst r f).2.2.1 = [] := by
  unfold State.feed
  extract_lets alongK cells data sk so scaleOf row hit blocks el
  obtain ⟨hd1, hd2⟩ := hq.readRanges uArray inst r (f.rows.map (fun o => (f.addr o, rowBytes f.fmt f.kLen)))
  obtain ⟨hk1, hk2⟩ := (hd1.quiet hq).readRanges uArray inst r (if alongK then f.rows.map f.scRange else [])
  obtain ⟨ho1, ho2⟩ := (hk1.quiet (hd1.quiet hq)).readRanges uArray inst r (cells.map (fun c => (f.scAddr c.1 c.2, 1)))
  have hhit (l : List (List Byte × Option Nat)) (h : ∀ x ∈ l, x.2 = none) : hit l = [] := by
    have hnone : (f.rows.zip l).filter (fun x => x.2.2.isSome) = [] :=
      List.filter_eq_nil_iff.mpr fun x hx => by rw [h x.2 (List.of_mem_zip hx).2]; decide
    show ((f.rows.zip l).filter (fun x => x.2.2.isSome)).map (·.1) = []
    rw [hnone]
    rfl
  have hblocks : blocks = [] := by
    have hnone : (cells.zip so.2).filter (fun x => x.2.2.isSome) = [] :=
      List.filter_eq_nil_iff.mpr fun x hx => by rw [ho2 x.2 (List.of_mem_zip hx).2]; decide
    show ((cells.zip so.2).filter (fun x => x.2.2.isSome)).map (fun x => x.1.2) = []
    rw [hnone]
    rfl
  refine ⟨(hd1.trans hk1).trans ho1, ?_⟩
  show hit data.2 ++ hit sk.2 ++ f.rows.filter (fun o => blocks.contains (f.blk o)) = []
  rw [hhit data.2 hd2, hhit sk.2 hk2, hblocks]
  exact List.filter_eq_nil_iff.mpr fun o _ => by simp

end Reads

/-! ### An array and its registers -/

section Registers
variable {s : State} {i j : Nat} {a : Arr}

theorem rArr_apart (i j : Nat) : rArrErr i ≠ rArrStat j ∧ rArrRemap i ≠ rArrStat j ∧ rArrInj i ≠ rArrStat j := by
  unfold rArrErr rArrRemap rArrInj rArrStat arrReg
  omega

/-- The array as it is stored: at a tile boundary with the assignment last written. -/
def Arr.settled (a : Arr) (v : W32) : Arr := if a.idle then { a with remap := v } else a

theorem State.arr_putArr (s : State) (i : Nat) (a : Arr) : (s.putArr i a).arr i = a.settled (s.rd (rArrRemap i)) := tget_tput_self ..

theorem State.putArr_only (s : State) (i : Nat) (a : Arr) : s.putArr i a = { s with regs := (s.putArr i a).regs, arrays := (s.putArr i a).arrays } := rfl

theorem State.rd_putArr {o : Nat} (ho : o ≠ rArrStat i) : (s.putArr i a).rd o = s.rd o := State.rd_wr_ne _ _ _ _ ho

theorem Arr.settled_places (a : Arr) (v : W32) : (a.settled v).queue = a.queue ∧ (a.settled v).lo = a.lo ∧ (a.settled v).suspect = a.suspect := by
  unfold Arr.settled
  split <;> exact ⟨rfl, rfl, rfl⟩

theorem Arr.settled_remap (a : Arr) (v : W32) : (a.settled v).remap = if a.idle then v else a.remap := by
  unfold Arr.settled
  split <;> rfl

theorem State.putArr_quiet (hq : s.quiet) : (s.putArr i a).quiet := hq

end Registers

/-! ### A tile starts -/

section Start
variable {s : State} {i : Nat}

theorem State.ledgerStart_only (hl : (s.core i).ledger.length < 1024) (seq : W32) (layer oper : W16) (part check : Nat) :
    s.ledgerStart i seq layer oper part check = { s with cores := (s.ledgerStart i seq layer oper part check).cores } := by
  unfold State.ledgerStart
  dsimp only
  rw [if_pos hl]
  split
  · split <;> rfl
  · rfl

theorem Arr.startable_head {a : Arr} {q : TileReq} {l : List TileReq} (hqueue : a.queue = q :: l) (hhalf : q.half = 0) (hidle : a.idle = true) :
    a.startable 0 = some 0 := by
  unfold Arr.idle at hidle
  simp only [Bool.and_eq_true, Option.isNone_iff_eq_none] at hidle
  obtain ⟨⟨hlo, hhi⟩, hdrain⟩ := hidle
  unfold Arr.startable
  simp [hqueue, hhalf, hlo, hhi, hdrain, List.findIdx?_cons]

theorem Arr.enter_idle {a : Arr} (hidle : a.idle = true) (r : Running) : (a.enter 0 r).queue = a.queue ∧ (a.enter 0 r).lo = some { r with cycI := max r.cycI 0 } := by
  unfold Arr.idle at hidle
  simp only [Bool.and_eq_true, Option.isNone_iff_eq_none] at hidle
  obtain ⟨⟨hlo, hhi⟩, hdrain⟩ := hidle
  unfold Arr.enter Arr.setPlace
  simp [hlo]

/-- A tile whose array is idle and in service starts: it leaves the queue and streams from its first run, clean so far. -/
theorem State.tileStart_streams {q : TileReq} {l : List TileReq} (hqueue : (s.arr i).queue = q :: l) (hhalf : q.half = 0) (hitem : q.item = none)
    (hidle : (s.arr i).idle = true) (hbad : (s.arr i).bad = false) (hfree : s.idleArray i = false) (hstop : (s.part q.part).stopped = false)
    (hl : (s.core (i / 4)).ledger.length < 1024) (hq : s.quiet) :
    ((s.tileStart i 0).arr i).queue = l ∧ (s.tileStart i 0).mem = s.mem ∧ (s.tileStart i 0).threads = s.threads
    ∧ ∃ w, ((s.tileStart i 0).arr i).lo = some w ∧ w.req = q ∧ w.mb = 0 ∧ w.run = 0 ∧ w.poisoned = false ∧ w.done = false
      ∧ w.kLen = (tileP q.desc).K := by
  have hin : s.tileIn q = some q.tileIn := by
    unfold State.tileIn
    rw [hitem]
  unfold State.tileStart
  dsimp only
  rw [Arr.startable_head hqueue hhalf hidle]
  dsimp only
  rw [show (s.arr i).queue[0]? = some q by rw [hqueue]; rfl]
  dsimp only
  rw [if_neg (by simp [hbad, hfree, hstop]), hin]
  dsimp only
  generalize (((s.cmd q.ring q.dcount).map (fun k => k.level)).getD 0) = level
  have h1 := s.ledgerStart_only hl q.seq q.layer q.oper q.part level
  generalize s.ledgerStart (i / 4) q.seq q.layer q.oper q.part level = s1 at h1 ⊢
  have hq1 : s1.quiet := by
    rw [h1]
    exact hq
  obtain ⟨hx, hpoisM⟩ := hq1.feed i (s.reqThr q.core q.thread) q.tileIn.x
  obtain ⟨hw, hpoisN⟩ := (hx.quiet hq1).feed i (s.reqThr q.core q.thread) q.tileIn.w
  rw [hpoisM, hpoisN]
  generalize (s1.feed i (s.reqThr q.core q.thread) q.tileIn.x).2.1 = x
  generalize ((s1.feed i (s.reqThr q.core q.thread) q.tileIn.x).1.feed i (s.reqThr q.core q.thread) q.tileIn.w).2.1 = w
  have h2 : Counted s1 _ := hx.trans hw
  generalize ((s1.feed i (s.reqThr q.core q.thread) q.tileIn.x).1.feed i (s.reqThr q.core q.thread) q.tileIn.w).1 = s2 at h2 ⊢
  generalize hinj : s2.rdB (rArrInj i) 31 = inj
  have h3 : (if inj = true then s2.wrB (rArrInj i) 31 false else s2).mem = s2.mem
      ∧ (if inj = true then s2.wrB (rArrInj i) 31 false else s2).threads = s2.threads := by
    split <;> exact ⟨rfl, rfl⟩
  generalize (if inj = true then s2.wrB (rArrInj i) 31 false else s2) = s3 at h3 ⊢
  have hrest : ({ s.arr i with queue := (s.arr i).queue.eraseIdx 0 } : Arr).idle = true := hidle
  have henter := Arr.enter_idle hrest
    { req := q, x, w, poisM := [], poisN := [], rows := q.tileIn.rows, kLen := q.tileIn.kLen, bank := (s.arr i).bankFor 0
      done := decide (q.tileIn.kLen = 0), injected := inj, cycI := passCycles (tileP q.desc) }
  generalize Arr.enter _ 0 _ = b at henter ⊢
  have hmem : s2.mem = s.mem ∧ s2.threads = s.threads := by
    unfold Counted at h2
    rw [h2, h1]
    exact ⟨rfl, rfl⟩
  refine ⟨?_, h3.1.trans hmem.1, h3.2.trans hmem.2, _,
    ((congrArg Arr.lo (State.arr_putArr ..)).trans (Arr.settled_places ..).2.1).trans henter.2, rfl, rfl, rfl, ?_, ?_, rfl⟩
  · rw [State.arr_putArr, (Arr.settled_places ..).1]
    exact henter.1.trans (by rw [hqueue]; rfl)
  · simp [Running.poisoned]
  · exact decide_eq_false (show ¬ (tget' q.desc 0xB + 1 = 0) by omega)

end Start

/-! ### A run -/

section Run
variable {s : State} {i fault : Nat} {w : Running}

/-- What upsets a run (R155): the world, or an armed injection. -/
def Running.upset (w : Running) (s : State) (i fault : Nat) : Nat :=
  if fault ≠ 0 then min 2 fault else if w.injected then 1 + bf (s.rd (rArrInj i)) 0 0 else 0

/-- The tile after a run: promoted or replayed, or at its end with the check that failed. -/
def Running.afterRun (w : Running) (s : State) (i fault : Nat) : Running :=
  if w.check (w.upset s i fault) ≠ 0 then
    { w with failed := w.check (w.upset s i fault), injected := w.injected && fault = 0, done := true, replaying := false }
  else w.runOnce

theorem State.runComplete_runs (hlo : (s.arr i).lo = some w) (hdone : w.done = false) :
    s.runComplete i 0 fault = s.putArr i { s.arr i with lo := some (w.afterRun s i fault) } := by
  unfold State.runComplete Arr.place
  dsimp only
  rw [if_neg (by decide), hlo]
  dsimp only
  rw [if_neg (by rw [hdone]; decide)]
  rfl

/-- The duplicated adders differ when a result of copy B is upset (R139). -/
theorem Running.check_adder (w : Running) : w.check 2 ≠ 0 := by
  have hdiff (l : List Nat) : l ≠ (l.headD 0 ^^^ 1) :: l.drop 1 := by
    cases l with
    | nil => exact fun h => nomatch h
    | cons a l =>
      intro h
      have ha : a = a ^^^ 1 := (List.cons.inj h).1
      have hbit := congrArg (Nat.testBit · 0) ha
      simp at hbit
      omega
  unfold Running.check
  dsimp only
  split
  · decide
  · rw [if_pos rfl, if_pos (hdiff _)]
    decide

end Run

/-! ### The end of a tile -/

section TileEnd
variable {s u : State} {i : Nat} {w : Running}

/-- What a tile's end counts, records and reports, once it is written or not. -/
def State.tileAccounts (s : State) (i : Nat) (w : Running) (oc : Nat) (e : Enc) : State :=
  let s := if oc = 0 then (s.tileCounts w.req e w.replays).traceTile w.req i 0 else s
  (s.tileResult i w (some oc)).tileCycled i w none

theorem State.tileEnd_plain (hlo : (s.arr i).lo = some w) (hdone : w.done = true) (hhalf : w.req.half = 0) (hitem : w.req.item = none)
    (hoen : w.req.oen = false) (hdrain : (s.arr i).drain = none) :
    s.tileEnd i 0 false = (((s.tileWrite w).1.putArr i { s.arr i with lo := none }).tileAccounts i w (s.tileWrite w).2.1 (s.tileWrite w).2.2).latchAdd
      w.req.core w.req.latch 1 := by
  have hout : s.tileOut w = ((s.tileWrite w).1, some (s.tileWrite w).2.1, (s.tileWrite w).2.2) := by
    unfold State.tileOut
    simp [hhalf, hitem]
  unfold State.tileEnd State.tileAccounts
  simp [hlo, hdone, hdrain, hhalf, hitem, hout, Arr.place, Arr.setPlace, State.putOutcome, hoen]

/-- The latch of a tile that ended has risen by 1, where nothing waits on it. -/
theorem State.latchAdd_ends {c j : Nat} (hlatches : u.latches = s.latches) (hthreads : u.threads = s.threads) (hkind : lKind (s.latch c j) = 0)
    (hbroken : lBroken (s.latch c j) = false) (hwait : s.waiters c j = []) :
    lValue ((u.latchAdd c j 1).latch c j) = lValue (s.latch c j) + 1 ∧ u.latchAdd c j 1 = { u with latches := (u.latchAdd c j 1).latches } := by
  have hlatch : u.latch c j = s.latch c j := by rw [State.latch, hlatches, State.latch]
  rw [State.latchAdd_plain ((State.waiters_of_threads hthreads).trans hwait) (by rw [hlatch]; exact hkind) (by rw [hlatch]; exact hbroken), hlatch]
  exact ⟨by rw [State.latch_setLatch_self, lValue_lSetValue], rfl⟩

theorem State.tileCycled_counted (s : State) (i : Nat) (w : Running) : Counted s (s.tileCycled i w none) := by
  unfold State.tileCycled
  extract_lets req cyc at_ alone own s1 s2
  have h1 : Counted s s1 := by
    show Counted s (if own = true then s.count req 11 cyc else s)
    split
    · exact State.count_counted ..
    · exact .refl s
  have h2 : Counted s s2 := h1.trans ((State.count_counted s1 req 13 w.replayCyc).trans (State.countBlock_counted ..))
  split
  · exact h2.trans (State.countBlock_counted ..)
  · exact h2

theorem State.failCmd_gone {ring dc : Nat} (h : s.cmd ring dc = none) (code : W16) (detail : Nat) : s.failCmd ring dc code detail = s := by
  unfold State.failCmd
  rw [h]

/-- t is s but for the counters and the live commands. -/
def Tallied (s t : State) : Prop := t = { s with cnt := t.cnt, cmds := t.cmds }

theorem Tallied.counted {s t : State} (h : Counted s t) : Tallied s t := by
  unfold Counted at h
  unfold Tallied
  rw [h]

theorem Tallied.trans {s t u : State} (h : Tallied s t) (h' : Tallied t u) : Tallied s u := by
  unfold Tallied at *
  rw [h', h]

theorem Tallied.updCmd (s : State) (ring dc : Nat) (f : Cmd → Cmd) : Tallied s (s.updCmd ring dc f) := rfl

/-- The counts of a tile whose thread has no live claim. -/
theorem State.tileCounts_tallied (hq : s.quiet) (q : TileReq) (hslot : s.claimSlot ((s.logical q.core).getD 255) q.thread % 2 = 0) (e : Enc) (n : Nat) :
    Tallied s (s.tileCounts q e n) := by
  unfold State.tileCounts
  extract_lets lc d bit item s1 m s2 r
  have hd : d = (true, none) := if_pos hslot
  have h1 : s1 = s := by
    show (match d.2 with | some v => _ | none => s) = s
    rw [hd]
  rw [if_neg (by rw [hq.slotLost]; decide)]
  split
  · exact .counted (.refl s)
  · have h2 : Tallied s s2 := h1 ▸ Tallied.updCmd s1 _ _ _
    exact h2.trans (.counted (((State.count_counted ..).trans (State.count_counted ..)).trans (State.count_counted ..)))

theorem State.traceTile_counted {q : TileReq} (h : s.noTrace q.part) (i outcome : Nat) : Counted s (s.traceTile q i outcome) := by
  unfold State.traceTile
  dsimp only
  generalize hu : { s with cnt := { s.cnt with commits := tput (fun _ => 0) s.cnt.commits q.part (tget (fun _ => 0) s.cnt.commits q.part + 1) } } = u
  have hcnt : Counted s u := by
    rw [← hu]
    rfl
  split
  · rw [State.trace_off (State.noTrace_of_regs (by rw [← hu]) h)]
    exact hcnt
  · exact hcnt

/-- A clean tile is counted and traced. -/
theorem State.tileAccounts_clean (hfailed : w.failed = 0) (hq : s.quiet) (hoff : s.noTrace w.req.part)
    (hslot : s.claimSlot ((s.logical w.req.core).getD 255) w.req.thread % 2 = 0) (e : Enc) : Tallied s (s.tileAccounts i w 0 e) := by
  have h1 := State.tileCounts_tallied hq w.req hslot e w.replays
  have hregs : (s.tileCounts w.req e w.replays).regs = s.regs := by rw [h1]
  have hresult (u : State) : u.tileResult i w (some 0) = u := by
    unfold State.tileResult
    simp [hfailed]
  unfold State.tileAccounts
  dsimp only
  rw [if_pos rfl, hresult]
  exact h1.trans (.counted ((State.traceTile_counted (State.noTrace_of_regs hregs hoff) i 0).trans (State.tileCycled_counted ..)))

/-- A poisoned tile sets its bit of ARR_ERR. -/
theorem State.tileAccounts_poisoned (hfailed : w.failed = 0) (hgone : s.cmd w.req.ring w.req.dcount = none) (e : Enc) :
    Counted (s.wrB (rArrErr i) 3 true) (s.tileAccounts i w 2 e) := by
  have hresult : s.tileResult i w (some 2) = s.wrB (rArrErr i) 3 true := by
    unfold State.tileResult
    simp only [hfailed, ne_eq, not_true_eq_false, if_false, if_true]
    exact State.failCmd_gone (s := s.wrB (rArrErr i) 3 true) hgone ..
  unfold State.tileAccounts
  dsimp only
  rw [if_neg (by decide), hresult]
  exact State.tileCycled_counted ..

theorem State.arrayFailed_reported (s : State) (i : Nat) (w : Running) :
    ∃ v, v = { s with regs := v.regs, arrays := v.arrays } ∧ Reported v (s.arrayFailed i w)
      ∧ ((w.failed = 1 ∨ w.failed = 2) → bitAt (v.rd (rArrErr i)) (w.failed - 1) = true) ∧ (v.arr i).lo = (s.arr i).lo
      ∧ (w.injected = false → (v.arr i).suspect = true) := by
  unfold State.arrayFailed
  dsimp only
  generalize hu : (if w.failed = 1 then (s.wrB (rArrErr i) 0 true).incF (rArrErr i) 31 24 1 else (s.wrB (rArrErr i) 1 true).incF (rArrErr i) 23 16 1) = u
  have honly : u = { s with regs := u.regs } := by
    rw [← hu]
    split <;> rfl
  have hbit (h : w.failed = 1 ∨ w.failed = 2) : u.rdB (rArrErr i) (w.failed - 1) = true := by
    have hset (b hi lo : Nat) (hlo : lo ≤ hi) (hhi : hi < 32) (hb : b < lo) : ((s.wrB (rArrErr i) b true).incF (rArrErr i) hi lo 1).rdB (rArrErr i) b = true :=
      (State.rdB_wrF_apart _ _ hlo hhi (.inl hb) _).trans (State.rdB_wrB_same _ _ (by omega) _)
    rw [← hu]
    obtain h | h := h
    · rw [h, if_pos rfl]
      exact hset 0 31 24 (by omega) (by omega) (by omega)
    · rw [h, if_neg (by decide)]
      exact hset 1 23 16 (by omega) (by omega) (by omega)
  have harr : u.arr i = s.arr i := by rw [honly]; rfl
  split
  · next hinj => exact ⟨u, by rw [honly], .refl u, hbit, by rw [harr], fun h => absurd (hinj.symm.trans h) (by decide)⟩
  · refine ⟨u.putArr i { u.arr i with suspect := true }, by rw [State.putArr_only, honly], State.event_reported .., fun h => ?_, ?_, fun _ => ?_⟩
    · rw [State.rd_putArr (rArr_apart ..).1]
      exact hbit h
    · rw [State.arr_putArr, (Arr.settled_places ..).2.1, ← harr]
    · rw [State.arr_putArr, (Arr.settled_places ..).2.2]

theorem State.tileFailed_gone (hpois : w.poisoned = false) (hquiet : (s.arrayFailed i w).quiet)
    (hgone : (s.arrayFailed i w).cmd w.req.ring w.req.dcount = none) : s.tileFailed i w = s.arrayFailed i w := by
  unfold State.tileFailed
  extract_lets q s1 lc s2 v item key
  have h2 : s2 = s1 := if_neg (by rw [hquiet.slotLost]; decide)
  rw [if_neg (by rw [hpois]; decide), h2]
  split
  · rfl
  · next hk => exact absurd (hgone.symm.trans hk) (fun h => nomatch h)

/-- A failed check is recorded at the array; a tile of no command has nothing to run again. -/
theorem State.tileAccounts_failed (hfailed : w.failed ≠ 0) (hpois : w.poisoned = false) (hq : s.quiet) (hgone : s.cmd w.req.ring w.req.dcount = none) (e : Enc) :
    Counted (s.arrayFailed i w) (s.tileAccounts i w 1 e) := by
  obtain ⟨v, hv, hrep, -⟩ := s.arrayFailed_reported i w
  have hquiet : (s.arrayFailed i w).quiet := by
    obtain ⟨_, _, _, _, _, _, h⟩ := hrep
    rw [h, hv]
    exact hq
  have hcmd : (s.arrayFailed i w).cmd w.req.ring w.req.dcount = none := by
    obtain ⟨_, _, _, _, _, _, h⟩ := hrep
    rw [h, hv]
    exact hgone
  have hresult : s.tileResult i w (some 1) = s.arrayFailed i w := by
    unfold State.tileResult
    simp [hfailed, State.tileFailed_gone hpois hquiet hcmd]
  unfold State.tileAccounts
  dsimp only
  rw [if_neg (by decide), hresult]
  exact State.tileCycled_counted ..

end TileEnd

/-! ### What a tile leaves -/

section Outcome
variable {s : State} {i : Nat} {w : Running}

theorem State.tileWrite_of_unclean (h : w.clean = false) (hoc : w.outcome {} ≠ 0) : s.tileWrite w = (s, w.outcome {}, {}) := by
  unfold State.tileWrite
  simp [h, hoc]

theorem Running.outcome_of_clean (h : w.clean = true) {e : Enc} (he : e.bad = false) : w.outcome e = 0 := by
  unfold Running.clean at h
  simp only [Bool.and_eq_true, Bool.not_eq_true', decide_eq_true_eq] at h
  simp [Running.outcome, h, he]

theorem State.tileWrite_outcome (h : w.clean = true) (he : (w.dst.encode s).bad = false) : (s.tileWrite w).2.1 = 0 := by
  have hoc := Running.outcome_of_clean h he
  unfold State.tileWrite
  simp [h, hoc]

/-- The write of a tile touches memory alone where memory holds no error. -/
theorem State.tileWrite_puts (hq : s.quiet) : Puts s (s.tileWrite w).1 := by
  unfold State.tileWrite
  extract_lets q p e oc s1 s2 row
  split
  · exact .refl s
  · have h1 : Puts s s1 := quiet_puts.putCodes s _ _ _ _ _ hq
    have h2 : Puts s1 s2 := quiet_puts.putScales s1 _ (h1.quiet hq)
    have h4 : Puts s2 (s2.count (s2.reqThr q.core q.thread) 2 (row * if p.rowMajor then p.M else p.N)) := Puts.counted (State.count_counted ..)
    exact (h1.trans h2).trans h4

/-- The latch that an ended tile adds to, and its place in the array. -/
structure TilePast (s u : State) (i : Nat) : Prop where
  lo : (u.arr i).lo = none
  latches : u.latches = s.latches
  threads : u.threads = s.threads

variable (hlo : (s.arr i).lo = some w) (hdone : w.done = true) (hhalf : w.req.half = 0) (hitem : w.req.item = none) (hoen : w.req.oen = false)
  (hdrain : (s.arr i).drain = none) (hkind : lKind (s.latch w.req.core w.req.latch) = 0) (hbroken : lBroken (s.latch w.req.core w.req.latch) = false)
  (hwait : s.waiters w.req.core w.req.latch = []) (hgone : s.cmd w.req.ring w.req.dcount = none) (hq : s.quiet)

/-- The array gives up the tile that it streamed. -/
theorem State.putArr_vacates (s : State) (i : Nat) :
    ∃ v, s.putArr i { s.arr i with lo := none } = v ∧ v = { s with regs := v.regs, arrays := v.arrays }
      ∧ (v.mem = s.mem ∧ v.latches = s.latches ∧ v.threads = s.threads) ∧ (v.arr i).lo = none ∧ ∀ o, o ≠ rArrStat i → v.rd o = s.rd o :=
  ⟨_, rfl, State.putArr_only .., ⟨rfl, rfl, rfl⟩, (congrArg Arr.lo (State.arr_putArr ..)).trans (Arr.settled_places ..).2.1, fun _ ho => State.rd_putArr ho⟩

theorem State.latchAdd_past {u : State} (h : TilePast s u i) (hkind : lKind (s.latch w.req.core w.req.latch) = 0)
    (hbroken : lBroken (s.latch w.req.core w.req.latch) = false) (hwait : s.waiters w.req.core w.req.latch = []) :
    let t := u.latchAdd w.req.core w.req.latch 1
    ((t.arr i).lo = none ∧ lValue (t.latch w.req.core w.req.latch) = lValue (s.latch w.req.core w.req.latch) + 1)
      ∧ t = { u with latches := t.latches } := by
  obtain ⟨hvalue, honly⟩ := State.latchAdd_ends h.latches h.threads hkind hbroken hwait
  refine ⟨⟨?_, hvalue⟩, honly⟩
  rw [honly]
  exact h.lo

include hlo hdone hhalf hitem hoen hdrain hkind hbroken hwait

theorem State.tileEnd_poisoned (hgone : s.cmd w.req.ring w.req.dcount = none) (hpois : w.poisoned = true) (hfailed : w.failed = 0) :
    let u := s.tileEnd i 0 false
    ((u.arr i).lo = none ∧ lValue (u.latch w.req.core w.req.latch) = lValue (s.latch w.req.core w.req.latch) + 1) ∧ u.mem = s.mem
      ∧ bitAt (u.rd (rArrErr i)) 3 = true := by
  have hwrite : s.tileWrite w = (s, 2, {}) := by
    have hoc : w.outcome {} = 2 := if_pos hpois
    rw [State.tileWrite_of_unclean (by simp [Running.clean, hpois]) (by rw [hoc]; decide), hoc]
  rw [State.tileEnd_plain hlo hdone hhalf hitem hoen hdrain, hwrite]
  obtain ⟨v, hv, hvonly, ⟨hvmem, hvlatches, hvthreads⟩, hvlo, -⟩ := s.putArr_vacates i
  rw [hv]
  have hacc := State.tileAccounts_poisoned (s := v) (i := i) hfailed (by rw [hvonly]; exact hgone) {}
  generalize v.tileAccounts i w 2 {} = u at hacc ⊢
  unfold Counted at hacc
  have hpast : TilePast s u i := by
    rw [hacc]
    exact ⟨hvlo, hvlatches, hvthreads⟩
  obtain ⟨hended, honly⟩ := State.latchAdd_past hpast hkind hbroken hwait
  refine ⟨hended, ?_, ?_⟩
  · rw [honly, hacc]
    exact hvmem
  · rw [honly, hacc]
    exact State.rdB_wrB_same v (rArrErr i) (by omega) true

theorem State.tileEnd_failed (hgone : s.cmd w.req.ring w.req.dcount = none) (hq : s.quiet) (hpois : w.poisoned = false)
    (hfailed : w.failed = 1 ∨ w.failed = 2) :
    let u := s.tileEnd i 0 false
    ((u.arr i).lo = none ∧ lValue (u.latch w.req.core w.req.latch) = lValue (s.latch w.req.core w.req.latch) + 1) ∧ u.mem = s.mem
      ∧ bitAt (u.rd (rArrErr i)) (w.failed - 1) = true ∧ (w.injected = false → (u.arr i).suspect = true) := by
  have hne : w.failed ≠ 0 := by omega
  have hwrite : s.tileWrite w = (s, 1, {}) := by
    have hoc : w.outcome {} = 1 := (if_neg (by rw [hpois]; decide)).trans (if_pos hne)
    rw [State.tileWrite_of_unclean (by simp [Running.clean, hne]) (by rw [hoc]; decide), hoc]
  rw [State.tileEnd_plain hlo hdone hhalf hitem hoen hdrain, hwrite]
  obtain ⟨v, hv, hvonly, ⟨hvmem, hvlatches, hvthreads⟩, hvlo, -⟩ := s.putArr_vacates i
  rw [hv]
  have hacc := State.tileAccounts_failed (s := v) (i := i) hne hpois (by rw [hvonly]; exact hq) (by rw [hvonly]; exact hgone) {}
  obtain ⟨x, hx, ⟨_, _, _, _, _, _, hrep⟩, hbit, hxlo, hsuspect⟩ := v.arrayFailed_reported i w
  generalize v.tileAccounts i w 1 {} = u at hacc ⊢
  unfold Counted at hacc
  rw [hrep] at hacc
  have hpast : TilePast s u i := by
    have hxlatches : x.latches = v.latches := by rw [hx]
    have hxthreads : x.threads = v.threads := by rw [hx]
    rw [hacc]
    exact ⟨hxlo.trans hvlo, hxlatches.trans hvlatches, hxthreads.trans hvthreads⟩
  obtain ⟨hended, honly⟩ := State.latchAdd_past hpast hkind hbroken hwait
  refine ⟨hended, ?_, ?_, fun hinj => ?_⟩
  · rw [honly, hacc]
    have hxmem : x.mem = v.mem := by rw [hx]
    exact hxmem.trans hvmem
  · rw [honly, hacc]
    exact hbit hfailed
  · rw [honly, hacc]
    exact hsuspect hinj

theorem State.tileEnd_clean (hi : i < 576) (hq : s.quiet) (hoff : s.noTrace w.req.part) (hclean : w.clean = true) (he : (w.dst.encode s).bad = false)
    (hslot : (s.tileWrite w).1.claimSlot ((s.logical w.req.core).getD 255) w.req.thread % 2 = 0) :
    let u := s.tileEnd i 0 false
    ((u.arr i).lo = none ∧ lValue (u.latch w.req.core w.req.latch) = lValue (s.latch w.req.core w.req.latch) + 1) ∧ u.mem = (s.tileWrite w).1.mem
      ∧ u.threads = s.threads := by
  have hputs := State.tileWrite_puts (w := w) hq
  rw [State.tileEnd_plain hlo hdone hhalf hitem hoen hdrain, State.tileWrite_outcome hclean he]
  generalize (s.tileWrite w).1 = x at hputs hslot ⊢
  have harr : x.arr i = s.arr i := by rw [hputs.only]; rfl
  obtain ⟨v, hv, hvonly, ⟨hvmem, hvlatches, hvthreads⟩, hvlo, hvrd⟩ := x.putArr_vacates i
  rw [← harr, hv]
  have hfailed : w.failed = 0 := by
    unfold Running.clean at hclean
    simp only [Bool.and_eq_true, decide_eq_true_eq] at hclean
    exact hclean.1.2
  have hvoff : v.noTrace w.req.part := by
    have hoffx : x.noTrace w.req.part := State.noTrace_of_regs (by rw [hputs.only]) hoff
    have hreg (p : Nat) : v.rdB (rCntTrc p) 31 = x.rdB (rCntTrc p) 31 :=
      congrArg (bitAt · 31) (hvrd _ (by unfold rCntTrc cntReg rArrStat arrReg; omega))
    exact ⟨(hreg _).trans hoffx.1, (hreg _).trans hoffx.2⟩
  have hvquiet : v.quiet := by
    rw [hvonly]
    exact hputs.quiet hq
  have hvslot : v.claimSlot ((v.logical w.req.core).getD 255) w.req.thread % 2 = 0 := by
    have hlogical : v.logical w.req.core = s.logical w.req.core := by
      rw [hvonly, hputs.only]
      rfl
    rw [(hputs.quiet hq).claimSlot_of_mem hvquiet hvmem, hlogical]
    exact hslot
  have hacc := State.tileAccounts_clean (i := i) hfailed hvquiet hvoff hvslot (s.tileWrite w).2.2
  generalize v.tileAccounts i w 0 (s.tileWrite w).2.2 = u at hacc ⊢
  unfold Tallied at hacc
  have hxlatches : x.latches = s.latches := by rw [hputs.only]
  have hxthreads : x.threads = s.threads := by rw [hputs.only]
  have hpast : TilePast s u i := by
    rw [hacc]
    exact ⟨hvlo, hvlatches.trans hxlatches, hvthreads.trans hxthreads⟩
  obtain ⟨hended, honly⟩ := State.latchAdd_past hpast hkind hbroken hwait
  refine ⟨hended, ?_, ?_⟩
  · rw [honly, hacc]
    exact hvmem
  · rw [honly]
    exact hpast.threads

end Outcome

/-! ### The array test -/

section Test
variable {s : State} {i m : Nat}

/-- One failing row takes the first row spare (R150, R573). -/
theorem addSpares_row : ∀ m : Fin 64, addSpares 0 [m.val] [] = some (BitVec.ofNat 32 (1 + 64 * m.val)) ∧ bf (BitVec.ofNat 32 (1 + 64 * m.val)) 3 0 = 1
    ∧ bf (BitVec.ofNat 32 (1 + 64 * m.val)) 11 6 = m.val ∧ remapBad (BitVec.ofNat 32 (1 + 64 * m.val)) = false := by
  decide

theorem State.arrayTest_clean (hbad : (s.arr i).bad = true) (hidle : (s.arr i).idle = true) :
    s.arrayTest i [] [] = s.putArr i { s.arr i with suspect := false } := by
  unfold State.arrayTest
  simp [hbad, hidle]

theorem State.arrayTest_row (hbad : (s.arr i).bad = true) (hidle : (s.arr i).idle = true) {v : W32} (hadd : addSpares (s.arr i).remap [m] [] = some v) :
    s.arrayTest i [m] [] = ((s.wr (rArrRemap i) v).putArr i { s.arr i with suspect := false }).spareUsed uArray i := by
  unfold State.arrayTest
  simp [hbad, hidle, hadd]

/-- A row spare taken leaves the array in service with its new assignment. -/
theorem State.arrayTest_spares (hbad : (s.arr i).bad = true) (hidle : (s.arr i).idle = true) (hremap : (s.arr i).remap = 0) (hi : i < 576) (hm : m < 64) :
    let u := s.arrayTest i [m] []
    bf (u.rd (rArrRemap i)) 3 0 = 1 ∧ bf (u.rd (rArrRemap i)) 11 6 = m ∧ (u.arr i).bad = false ∧ (u.arr i).remap = u.rd (rArrRemap i) := by
  obtain ⟨hadd, hon, hrow, hgood⟩ := addSpares_row ⟨m, hm⟩
  dsimp only at hadd hon hrow hgood
  rw [State.arrayTest_row hbad hidle (by rw [hremap]; exact hadd)]
  generalize BitVec.ofNat 32 (1 + 64 * m) = v at hon hrow hgood ⊢
  have harr : ((s.wr (rArrRemap i) v).putArr i { s.arr i with suspect := false }).arr i = { s.arr i with suspect := false, remap := v } := by
    rw [State.arr_putArr, State.rd_wr_self]
    exact if_pos hidle
  have hreg : ((s.wr (rArrRemap i) v).putArr i { s.arr i with suspect := false }).rd (rArrRemap i) = v := by
    rw [State.rd_putArr (rArr_apart i i).2.1, State.rd_wr_self]
  generalize (s.wr (rArrRemap i) v).putArr i { s.arr i with suspect := false } = u at harr hreg ⊢
  have hkept := u.spareUsed_handled uArray i
  have hreg' : (u.spareUsed uArray i).rd (rArrRemap i) = v := by
    rw [hkept.regs _ (by unfold handledReg rArrRemap arrReg rMemChan memReg; omega), hreg]
  have harr' : (u.spareUsed uArray i).arr i = u.arr i := by
    have honly := hkept.only
    unfold MemOnly at honly
    rw [honly]
    rfl
  dsimp only
  rw [hreg', harr', harr]
  exact ⟨hon, hrow, hgood, rfl⟩

end Test

/-- Settles O21: an array's tile passes its stages with what it carries, and the registers of the array say what they hold. -/
theorem arrayTiles : Obligations.ArrayTiles := by
  intro s a ha r
  refine ⟨fun q l hqueue hhalf hitem hidle hbad hfree hstop hl hno => ?_, fun w fault hlo hdone => ?_,
    fun w hlo hdone hhalf hitem hoen hlatch hdrain hkind hbroken hwait hgone hno hoff => ⟨fun hpois hfailed => ?_, fun hpois hfailed => ?_,
      fun hclean he hslot => ?_⟩, fun w f hlo hdrain hdone => ?_, fun v => ?_, fun v hlc => if_pos (by simpa [State.injectable] using hlc),
    fun v h1 h3 => if_neg (by simp [State.injectable, h1, h3]), ?_, fun hbad hidle => ?_, fun m hbad hidle hremap hm => ?_⟩
  · obtain ⟨hrest, hmem, hthreads, w, hw⟩ := State.tileStart_streams hqueue hhalf hitem hidle hbad hfree hstop hl hno.quiet
    obtain ⟨hlo, hreq, hmb, hrun, hpois, hdone, hk⟩ := hw
    exact ⟨_, w, rfl, hrest, hlo, hreq, hmb, hrun, hpois, hdone, hk, hmem, hthreads⟩
  · refine ⟨_, w.afterRun s a fault, congrArg Host.Outcome.next (State.runComplete_runs hlo hdone),
      (congrArg Arr.lo (State.arr_putArr ..)).trans (Arr.settled_places ..).2.1, rfl, rfl, fun hf => if_neg (fun h => h hf), fun hf => ?_, fun hfault => ?_⟩
    · rw [show w.afterRun s a fault = _ from if_pos hf]
      exact ⟨rfl, rfl, rfl⟩
    · have hupset : w.upset s a fault = 2 := by
        unfold Running.upset
        rw [if_pos (by omega)]
        omega
      have hcheck : w.check (w.upset s a fault) ≠ 0 := hupset ▸ w.check_adder
      rw [show w.afterRun s a fault = _ from if_pos hcheck]
      exact hcheck
  · obtain ⟨hended, hmem, hbit⟩ := State.tileEnd_poisoned hlo hdone hhalf hitem hoen hdrain hkind hbroken hwait hgone hpois hfailed
    exact ⟨_, rfl, hended, hmem, hbit⟩
  · obtain ⟨hended, hmem, hbit, hsuspect⟩ := State.tileEnd_failed hlo hdone hhalf hitem hoen hdrain hkind hbroken hwait hgone hno.quiet hpois hfailed
    exact ⟨_, rfl, hended, hmem, hbit, hsuspect⟩
  · obtain ⟨hended, hmem, hthreads⟩ := State.tileEnd_clean hlo hdone hhalf hitem hoen hdrain hkind hbroken hwait ha hno.quiet hoff hclean he hslot
    exact ⟨_, rfl, hended, hmem, hthreads⟩
  · refine congrArg Host.Outcome.next ?_
    unfold State.tileEnd Arr.place
    simp [show (s.arr a).lo = some w from hlo, show (s.arr a).drain = none from hdrain, hdone]
  · have hremap : ∀ u : State, u = (s.wr (rArrRemap a) (v &&& 0xFFFFFFCF)).putArr a r →
        (u.arr a).remap = if r.idle = true then v &&& 0xFFFFFFCF else r.remap := fun u hu => by
      rw [hu, State.arr_putArr, Arr.settled_remap, State.rd_wr_self]
    exact ⟨_, rfl, (State.rd_putArr (rArr_apart a a).2.1).trans (State.rd_wr_self ..), rfl, fun h => (hremap _ rfl).trans (if_pos h),
      fun h => (hremap _ rfl).trans (if_neg (by rw [h]; decide))⟩
  · exact ⟨_, rfl, rfl, State.rdF_wrF_same _ _ (by omega) (by omega) _, State.rdF_wrF_apart _ _ (by omega) (by omega) (.inl (by omega)) _, rfl⟩
  · refine ⟨_, congrArg Host.Outcome.next (State.arrayTest_clean hbad hidle), ?_, rfl⟩
    rw [State.arr_putArr, (Arr.settled_places ..).2.2]
  · exact ⟨_, rfl, State.arrayTest_spares hbad hidle hremap ha hm⟩

end Sys2Proof.Machine
end

section
/-! PROOFS. Threads: returns, holds and releases, wakes, and the wing controller's answer to their messages (R160, R163, R167, R176, R182 to R187, R379). -/

namespace Sys2Proof.Machine

/-! ### Returns -/

section Returns
variable {s : State} {c t n : Nat} {o : Outst}

/-- The thread without access n; a fence ends with the last global store or atomic before it. -/
def Thread.returned (y : Thread) (n : Nat) : Thread :=
  { y with outs := y.outs.eraseIdx n, fence := y.fence && (y.outs.eraseIdx n).any (fun o => o.kind = .globalStore || o.kind = .atomic) }

theorem State.loadReturn_clean (h : (s.thr c t).outs[n]? = some o) (hp : o.poison = false) :
    s.loadReturn c t n = s.setThr c t (o.writes.foldl Thread.put ((s.thr c t).returned n)) := by
  unfold State.loadReturn
  dsimp only
  rw [h]
  dsimp only
  rw [if_neg (by rw [hp]; decide)]
  rfl

theorem State.loadReturn_poisoned (h : (s.thr c t).outs[n]? = some o) (hp : o.poison = true) :
    Reported ((s.setThr c t ((s.thr c t).returned n)).raise c t cPoison 3 false o.pc) (s.loadReturn c t n) := by
  have hlog (l : List Nat) (u : State) (r : Req) : Reported u (l.foldl (fun u g => u.logPoison uCore c g r) u) := by
    induction l generalizing u with
    | nil => exact .refl u
    | cons g l ih => exact (State.report_reported ..).trans (ih _)
  unfold State.loadReturn
  dsimp only
  rw [h]
  dsimp only
  rw [if_pos hp]
  exact hlog ..

/-- What a raise leaves of the thread and adds to its core's messages. -/
theorem State.raise_thread (s : State) (c t cause slot : Nat) (second : Bool) (pc : W64) :
    (s.raise c t cause slot second pc).thr c t
      = { s.thr c t with st := .faulted, under := .free, outs := [], fence := false, wait := none, bundle := [] }
    ∧ ((s.raise c t cause slot second pc).core c).msgs = (s.core c).msgs ++ [⟨t, cause, (s.thr c t).part, (s.thr c t).ring, (s.thr c t).dcount⟩] := by
  have hmsgs (k : Core) (m : List ExcMsg) (u : State) (x : Thread) : (((u.setCore c { k with msgs := m }).setThr c t x).core c).msgs = m :=
    congrArg Core.msgs (tget_tput_self _ _ _ _)
  refine ⟨State.thr_setThr_self .., ?_⟩
  unfold State.raise
  dsimp only
  rw [hmsgs]
  split <;> rfl

end Returns

/-! ### Holds and wakes -/

section Holds
variable {s : State} {c t : Nat}

/-- A hold that HOLD_ALL or a hand-over keeps. -/
theorem State.letGo_kept (h : s.rdB (rCoreCtl c) 29 = true ∨ s.handovers.any (fun h => h.old = c && h.held.contains t) = true) : s.letGo c t = s := by
  unfold State.letGo
  dsimp only
  obtain h | h := h <;> exact if_pos (by rw [h]; simp)

section Free
variable (hst : (s.thr c t).st = .held) (hctl : s.rdB (rCoreCtl c) 29 = false)
  (hkept : s.handovers.any (fun h => h.old = c && h.held.contains t) = false)
include hst hctl hkept

theorem State.letGo_runs (hstop : (s.part (s.thr c t).part).stopped = false) : s.letGo c t = if (s.thr c t).under = .ready then
    (s.setThr c t { s.thr c t with st := .ready }).wrB (rCoreStat c) 0 false else s.setThr c t { s.thr c t with st := (s.thr c t).under } := by
  unfold State.letGo
  dsimp only
  rw [if_neg (by rw [hst, hctl, hkept]; decide), if_neg (by rw [hstop]; decide)]
  split
  · next h =>
    rw [h]
    rfl
  · rfl

/-- A stopped partition keeps the note of the thread that its RESUME releases. -/
theorem State.letGo_stopped (hstop : (s.part (s.thr c t).part).stopped = true) : s.letGo c t = { s with parts := (s.letGo c t).parts }
    ∧ 32 * (s.logical c).getD 128 + t ∈ ((s.letGo c t).part (s.thr c t).part).held := by
  have hrun : s.letGo c t = if (s.part (s.thr c t).part).held.contains (32 * (s.logical c).getD 128 + t) then s else
      s.setPart (s.thr c t).part { s.part (s.thr c t).part with held := (s.part (s.thr c t).part).held ++ [32 * (s.logical c).getD 128 + t] } := by
    unfold State.letGo
    dsimp only
    rw [if_neg (by rw [hst, hctl, hkept]; decide), if_pos hstop]
  rw [hrun]
  split
  · next h => exact ⟨rfl, List.contains_iff_mem.mp h⟩
  · refine ⟨rfl, ?_⟩
    rw [State.part_setPart_self]
    exact List.mem_append_right _ (List.mem_singleton_self _)

end Free

theorem State.wake_parked (hst : (s.thr c t).st = .parked) (wstat : W16) :
    s.wake c t wstat = (s.setThr c t { s.thr c t with st := .ready, wait := none, wstat }).wrB (rCoreStat c) 0 false := by
  have hmove : (s.thr c t).move .ready = { s.thr c t with st := .ready } := by
    unfold Thread.move
    rw [if_neg (by rw [hst]; decide)]
  unfold State.wake
  dsimp only
  rw [hmove]
  rfl

end Holds

/-! ### Threads that do not wait -/

/-- Every thread of s that is not parked is in t as it was. -/
def Woken (s t : State) : Prop := ∀ c n, n < 32 → (s.thr c n).eff ≠ .parked → t.thr c n = s.thr c n

namespace Woken
variable {s t u : State}

theorem of_threads (h : t.threads = s.threads) : Woken s t := fun c n _ _ => by rw [State.thr, h, State.thr]

theorem trans (h : Woken s t) (h' : Woken t u) : Woken s u := fun c n hn hp =>
  (h' c n hn (by rw [h c n hn hp]; exact hp)).trans (h c n hn hp)

theorem foldl {α : Type} {f : State → α → State} (hf : ∀ s a, Woken s (f s a)) (l : List α) (s : State) : Woken s (l.foldl f s) := by
  induction l generalizing s with
  | nil => exact .of_threads rfl
  | cons a l ih => exact (hf s a).trans (ih _)

end Woken

section Breaks
variable {s u : State} {i j : Nat}

theorem State.waiters_parked {n : Nat} (h : n ∈ s.waiters i j) : n < 32 ∧ (s.thr i n).eff = .parked := by
  unfold State.waiters at h
  obtain ⟨hn, hp⟩ := List.mem_filter.mp h
  simp only [Bool.and_eq_true, decide_eq_true_eq] at hp
  exact ⟨List.mem_range.mp hn, hp.1⟩

theorem State.wake_other {c m n : Nat} (hm : m < 32) (hn : n < 32) (h : ¬ (c = i ∧ m = n)) (wstat : W16) : (s.wake i n wstat).thr c m = s.thr c m := by
  have hapart : 32 * c + m ≠ 32 * i + n := by omega
  exact (State.thr_setThr ..).trans (if_neg hapart)

/-- The waiters of a latch wake; a thread that is not one of them stays as it was. -/
theorem State.wakeAll_woken {l : List Nat} (hl : ∀ n ∈ l, n < 32 ∧ (s.thr i n).eff = .parked) (hthr : u.threads = s.threads) (wstat : W16) :
    Woken s (l.foldl (fun s n => s.wake i n wstat) u) := by
  intro c m hm hp
  have hfold (l : List Nat) (hl : ∀ n ∈ l, n < 32 ∧ (s.thr i n).eff = .parked) (v : State) :
      (l.foldl (fun s n => s.wake i n wstat) v).thr c m = v.thr c m := by
    induction l generalizing v with
    | nil => rfl
    | cons n l ih =>
      obtain ⟨hn, hparked⟩ := hl n List.mem_cons_self
      have hne : ¬ (c = i ∧ m = n) := fun ⟨hc, hmn⟩ => hp (hc ▸ hmn ▸ hparked)
      exact (ih (fun n hn => hl n (List.mem_cons_of_mem _ hn)) _).trans (State.wake_other hm hn hne wstat)
  rw [hfold l hl u, State.thr, hthr, State.thr]

theorem State.latchBreak_woken (s : State) (i j estat : Nat) : Woken s (s.latchBreak i j estat) := by
  unfold State.latchBreak
  extract_lets w s1 s2
  have h2 : s2.threads = s1.threads := by
    show (match s1.partOfPhys i with | some p => s1.trace p 0x06 uCore i {} (j + 256 * estat) | none => s1).threads = s1.threads
    split
    · next p _ =>
      have honly := (s1.trace_handled (p := p) (type := 0x06) (unit := uCore) (inst := i) (r := {}) (data := j + 256 * estat)).only
      unfold MemOnly at honly
      rw [honly]
    · rfl
  have h1 : s1.threads = s.threads := rfl
  clear_value s2
  exact State.wakeAll_woken (fun n hn => State.waiters_parked hn) (h2.trans h1) _

theorem State.breakOwned_woken (s : State) (p : Nat) (seq : W32) : Woken s (s.breakOwned p seq) := by
  unfold State.breakOwned
  refine Woken.foldl (fun s c => ?_) _ s
  split
  · split
    · next i _ =>
      refine Woken.foldl (fun s j => ?_) _ s
      split
      · unfold State.extLatch
        split
        · exact .of_threads rfl
        · exact s.latchBreak_woken i j 2
      · exact .of_threads rfl
    · exact .of_threads rfl
  · exact .of_threads rfl

end Breaks

/-! ### The threads of a command that fails -/

section Ends
variable {s : State} {c t ring dc : Nat}

theorem tget_listed {α : Type} {d : Nat → α} {l : Tab α} {k : Nat} (h : tget d l k ≠ d k) : (k, tget d l k) ∈ l := by
  induction l with
  | nil => exact absurd rfl h
  | cons e l ih =>
    obtain ⟨a, x⟩ := e
    rw [tget] at h ⊢
    split
    · next hk =>
      rw [hk]
      exact List.mem_cons_self
    · next hk =>
      rw [if_neg hk] at h
      exact List.mem_cons_of_mem _ (ih h)

/-- A live thread of the command. -/
def Thread.runs (x : Thread) (ring dc : Nat) : Bool := x.st ≠ .free && x.ring = ring && x.dcount = dc

/-- Freeing the live threads of a command, entry by entry. -/
def freeEntry (ring dc : Nat) (t : Tab Thread) (x : Nat × Thread) : Tab Thread := if x.2.runs ring dc then tput (fun _ => {}) t x.1 x.2.free else t

theorem State.endThreads_eq (s : State) (ring dc : Nat) : s.endThreads ring dc = { s with threads := s.threads.foldl (freeEntry ring dc) s.threads } := rfl

theorem freeEntry_free {l : Tab Thread} {k : Nat} (acc : Tab Thread)
    (h : (∃ x ∈ l, x.1 = k ∧ x.2.runs ring dc = true) ∨ (tget (fun _ => ({} : Thread)) acc k).st = .free) :
    (tget (fun _ => ({} : Thread)) (l.foldl (freeEntry ring dc) acc) k).st = .free := by
  induction l generalizing acc with
  | nil =>
    obtain ⟨x, hx, -⟩ | h := h
    · exact nomatch hx
    · exact h
  | cons e l ih =>
    rw [List.foldl_cons]
    have hstep (hk : e.1 = k) (hr : e.2.runs ring dc = true) : (tget (fun _ => ({} : Thread)) (freeEntry ring dc acc e) k).st = .free := by
      unfold freeEntry
      rw [if_pos hr, hk, tget_tput_self]
      rfl
    have hkeep (hfree : (tget (fun _ => ({} : Thread)) acc k).st = .free) : (tget (fun _ => ({} : Thread)) (freeEntry ring dc acc e) k).st = .free := by
      by_cases hr : e.2.runs ring dc = true
      · by_cases hk : e.1 = k
        · exact hstep hk hr
        · unfold freeEntry
          rw [if_pos hr, tget_tput_ne _ _ _ _ _ (Ne.symm hk)]
          exact hfree
      · unfold freeEntry
        rw [if_neg hr]
        exact hfree
    refine ih _ ?_
    obtain ⟨x, hx, hk, hr⟩ | h := h
    · obtain rfl | hx := List.mem_cons.mp hx
      · exact .inr (hstep hk hr)
      · exact .inl ⟨x, hx, hk, hr⟩
    · exact .inr (hkeep h)

theorem State.endThreads_frees (h : (s.thr c t).runs ring dc = true) : ((s.endThreads ring dc).thr c t).st = .free := by
  have hlive : (s.thr c t).st ≠ .free := by
    unfold Thread.runs at h
    simp only [Bool.and_eq_true, decide_eq_true_eq] at h
    exact h.1.1
  have hne : tget (fun _ => ({} : Thread)) s.threads (32 * c + t) ≠ {} := fun heq => hlive (congrArg Thread.st heq)
  exact freeEntry_free _ (.inl ⟨_, tget_listed hne, rfl, h⟩)

/-- A command that fails ends its threads (R186). -/
theorem State.failCmd_frees {k : Cmd} (hk : s.cmd ring dc = some k) (hphase : k.phase ≠ .failed) (ht : t < 32) (h : (s.thr c t).runs ring dc = true)
    (code : W16) (detail : Nat) : ((s.failCmd ring dc code detail).thr c t).st = .free := by
  unfold State.failCmd
  rw [hk]
  dsimp only
  rw [if_neg hphase]
  generalize hu : s.updCmd ring dc _ = u
  have hthr : u.threads = s.threads := by rw [← hu]; rfl
  have hfree : ((u.endThreads ring dc).thr c t).st = .free := State.endThreads_frees (by rw [State.thr, hthr]; exact h)
  generalize u.endThreads ring dc = v at hfree ⊢
  have heff : (v.thr c t).eff ≠ .parked := by
    unfold Thread.eff
    rw [hfree, if_neg (by decide)]
    decide
  have hwoken := v.breakOwned_woken k.part k.seq c t ht heff
  generalize v.breakOwned k.part k.seq = w at hwoken ⊢
  have hring : (w.haltRing ring 1 code).threads = w.threads := by
    unfold State.haltRing
    dsimp only
    split <;> rfl
  rw [State.thr, Reported.threads (State.report_reported ..), hring]
  exact (congrArg Thread.st hwoken).trans hfree

end Ends

/-! ### Messages to the wing controller -/

section Messages
variable {s : State} {c t : Nat} {m : ExcMsg} {rest : List ExcMsg}

/-- The state after the first message of core c is taken. -/
def State.msgTaken (s : State) (c : Nat) (rest : List ExcMsg) : State := s.setCore c { s.core c with msgs := rest }

theorem State.takeMsg_first (hmsgs : (s.core c).msgs = m :: rest) (hm : m.thread = t) : s.takeMsg c t = some (m, s.msgTaken c rest) := by
  unfold State.takeMsg
  dsimp only
  rw [hmsgs, List.find?_cons_of_pos (by simp [hm])]
  simp [State.msgTaken]

theorem State.core_msgTaken (s : State) (c : Nat) (rest : List ExcMsg) : ((s.msgTaken c rest).core c).msgs = rest :=
  congrArg Core.msgs (tget_tput_self _ _ _ _)

variable (hmsgs : (s.core c).msgs = m :: rest) (hm : m.thread = t)
include hmsgs hm

theorem State.wcException_break (hst : (s.thr c t).st = .faulted) (hring : (s.thr c t).ring = m.ring) (hdc : (s.thr c t).dcount = m.dcount)
    (hcause : m.cause = cBreak) : s.wcException c t = (s.msgTaken c rest).setThr c t { s.thr c t with st := .held, under := .ready } := by
  have hthr : (s.msgTaken c rest).thr c t = s.thr c t := rfl
  unfold State.wcException
  rw [State.takeMsg_first hmsgs hm]
  dsimp only
  rw [if_pos hcause, hthr, if_pos (by simp [hst, hring, hdc])]

theorem State.wcException_hardware (hcause : 0x10 ≤ m.cause) (hno : s.noErrors) (hh : s.handovers = []) :
    (s.wcException c t).fenced c = true ∧ ((s.wcException c t).core c).msgs = rest ∧ (s.wcException c t).mem = s.mem
      ∧ (s.wcException c t).threads = s.threads := by
  have hne : m.cause ≠ cBreak := by
    intro h
    rw [h] at hcause
    exact absurd hcause (by decide)
  have hrun : s.wcException c t = (s.msgTaken c rest).fenceCore c := by
    unfold State.wcException
    rw [State.takeMsg_first hmsgs hm]
    dsimp only
    rw [if_neg hne, if_pos hcause]
  have hcore := s.core_msgTaken c rest
  have hframe : (s.msgTaken c rest).mem = s.mem ∧ (s.msgTaken c rest).threads = s.threads := ⟨rfl, rfl⟩
  rw [hrun]
  have hu : (s.msgTaken c rest).noErrors ∧ (s.msgTaken c rest).handovers = [] := ⟨hno, hh⟩
  generalize s.msgTaken c rest = u at hcore hframe hu ⊢
  obtain ⟨hnou, hhu⟩ := hu
  obtain ⟨hmem, hthreads⟩ := hframe
  have hhand : ∀ h ∈ u.handovers, h.old ≠ c := fun h hin => by
    rw [hhu] at hin
    exact nomatch hin
  by_cases hf : u.fenced c = true
  · rw [show u.fenceCore c = u from if_pos hf]
    exact ⟨hf, hcore, hmem, hthreads⟩
  · have hf' := Bool.eq_false_iff.mpr hf
    obtain ⟨hfenced, -, -, -, hm', ht'⟩ := u.fenceCore_effect c hf' hnou hhand
    obtain ⟨regs, arrays, epochs, cmds, honly, -⟩ := u.fenceCore_frame c hf' hnou.quiet hhand
    refine ⟨hfenced, ?_, hm'.trans hmem, ht'.trans hthreads⟩
    rw [honly]
    exact hcore

theorem State.wcException_ends (hst : (s.thr c t).st = .faulted) (hring : (s.thr c t).ring = m.ring) (hdc : (s.thr c t).dcount = m.dcount)
    (hcause : m.cause < 0x10) (hne : m.cause ≠ cBreak) (ht : t < 32) :
    ((s.wcException c t).thr c t).st = .free ∧ ((s.wcException c t).core c).msgs = rest
      ∧ ∀ k, s.cmd m.ring m.dcount = some k → k.phase ≠ .failed →
        ∃ k', (s.wcException c t).cmd m.ring m.dcount = some k' ∧ k'.phase = .failed ∧ k'.err = causeCode m.cause := by
  generalize hw : (s.msgTaken c rest).failCmd m.ring m.dcount (causeCode m.cause) 0 = w
  have hcore : (w.core c).msgs = rest := by
    have hg := (State.failCmd_guarded (s := s.msgTaken c rest) m.ring m.dcount (causeCode m.cause) 0).core c
    rw [hw] at hg
    rw [hg]
    exact s.core_msgTaken c rest
  have hrun : s.wcException c t = if (w.thr c t).st = .faulted ∧ (w.thr c t).ring = m.ring ∧ (w.thr c t).dcount = m.dcount then
      w.setThr c t (w.thr c t).free else w := by
    unfold State.wcException
    rw [State.takeMsg_first hmsgs hm]
    dsimp only
    rw [if_neg hne, if_neg (by omega), hw]
    simp only [Bool.and_eq_true, decide_eq_true_eq, and_assoc]
  have hfreed (hdead : (s.msgTaken c rest).cmd m.ring m.dcount = none ∨ ∃ k, (s.msgTaken c rest).cmd m.ring m.dcount = some k ∧ k.phase = .failed) :
      w.thr c t = s.thr c t := by
    have hsame : w = s.msgTaken c rest := by
      rw [← hw]
      obtain h | ⟨k, hk, hphase⟩ := hdead
      · exact State.failCmd_gone h ..
      · unfold State.failCmd
        rw [hk]
        exact if_pos hphase
    rw [hsame]
    rfl
  refine ⟨?_, ?_, fun k hk hphase => ?_⟩
  · rw [hrun]
    split
    · rw [State.thr_setThr_self]
      rfl
    · next hmine =>
      cases hk : (s.msgTaken c rest).cmd m.ring m.dcount with
      | none =>
        rw [hfreed (.inl hk)] at hmine
        exact absurd ⟨hst, hring, hdc⟩ hmine
      | some k =>
        by_cases hphase : k.phase = .failed
        · rw [hfreed (.inr ⟨k, hk, hphase⟩)] at hmine
          exact absurd ⟨hst, hring, hdc⟩ hmine
        · rw [← hw]
          refine State.failCmd_frees hk hphase ht ?_ _ _
          show (s.thr c t).runs m.ring m.dcount = true
          unfold Thread.runs
          rw [hst, hring, hdc]
          simp
  · rw [hrun]
    split <;> exact hcore
  · have hfail := State.cmd_failCmd (s := s.msgTaken c rest) hk hphase (causeCode m.cause) 0
    rw [hw] at hfail
    have hcmd : (s.wcException c t).cmd m.ring m.dcount = w.cmd m.ring m.dcount := by
      rw [hrun]
      split <;> rfl
    exact ⟨_, hcmd.trans hfail, rfl, rfl⟩

end Messages

end Sys2Proof.Machine
end

section
/-! PROOFS. The starts of threads, and what the wing controller does with them (R160, R261, R282 to R284). -/

namespace Sys2Proof.Machine

/-! ### Ranges read where memory holds no error -/

section Ranges
variable {s t : State} {pa n m off : Nat}

theorem State.quiet.readBytes (hq : s.quiet) (hone : oneMemory pa n) : s.readBytes pa n = s.bytes pa n := by
  have h1 := hq.readMem pa n
  rw [State.readMem_of_clean hone (fun g _ => hq.1 g)] at h1
  exact (congrArg (fun x : State × List Nat × List Byte => x.2.2) h1).symm

theorem State.leAt_bytes (s : State) (h : off + n ≤ m) : leAt (s.bytes pa m) off n = leNat (s.bytes (pa + off) n) := by
  rw [leAt, State.drop_take_bytes h]

theorem State.range_oneMemory {a : Nat} (h : s.range a n = some pa) : oneMemory pa n := by
  have hend : pa + n ≤ memEnd pa := by
    unfold State.range at h
    split at h
    · split at h
      · next p _ hp => exact Option.some.inj h ▸ hp
      · exact nomatch h
    · exact nomatch h
  unfold memEnd at hend
  split at hend
  · exact .inl hend
  · next hd => exact .inr (by simpa [isDram] using hd)

/-- A read of one memory where memory holds no error. -/
theorem State.quiet.read (hq : s.quiet) (hone : oneMemory pa n) : s.readMem pa n = (s, [], s.bytes pa n) := by
  rw [hq.readMem, hq.readBytes hone]

theorem State.bytes_of_byte (h : ∀ a, pa ≤ a → a < pa + n → t.byte a = s.byte a) : t.bytes pa n = s.bytes pa n := by
  unfold State.bytes
  refine List.map_congr_left fun a ha => ?_
  unfold span at ha
  obtain ⟨j, hj, rfl⟩ := List.mem_map.mp ha
  have := List.mem_range.mp hj
  exact h _ (by omega) (by omega)

end Ranges

/-! ### Threads of a KERNEL -/

section Kernel
variable {s : State} {c t lc : Nat} {k : Cmd} {rec_ limit : Nat} {args : List Byte}

/-- The registers of a started thread (R261). -/
theorem tget_startRegs (rec_ limit : Nat) (args : List Byte) (i : Nat) : tget (fun _ => (0 : W64)) (startRegs rec_ limit args) i
    = if 24 ≤ i ∧ i < 32 then BitVec.ofNat 64 (leAt args (8 * (i - 24)) 8)
      else if i = 2 then BitVec.ofNat 64 limit else if i = 1 then BitVec.ofNat 64 rec_ else 0 := by
  have hfold (n : Nat) (l : Tab W64) : tget (fun _ => (0 : W64)) ((List.range n).foldl (fun t j => tput (fun _ => 0) t (24 + j)
      (BitVec.ofNat 64 (leAt args (8 * j) 8))) l) i
      = if 24 ≤ i ∧ i < 24 + n then BitVec.ofNat 64 (leAt args (8 * (i - 24)) 8) else tget (fun _ => (0 : W64)) l i := by
    induction n with
    | zero => rw [if_neg (by omega)]; rfl
    | succ n ih =>
      rw [List.range_succ, List.foldl_append, List.foldl_cons, List.foldl_nil, tget_tput, ih]
      by_cases h : i = 24 + n
      · rw [if_pos h, if_pos (by omega), h, Nat.add_sub_cancel_left]
      · rw [if_neg h]
        by_cases h' : 24 ≤ i ∧ i < 24 + n
        · rw [if_pos h', if_pos (by omega)]
        · rw [if_neg h', if_neg (by omega)]
  unfold startRegs
  dsimp only
  rw [hfold, tget_tput, tget_tput]
  rfl

/-- A thread as a KERNEL starts it. -/
def Thread.kernelStart (x : Thread) (k : Cmd) (rec_ limit : Nat) (args : List Byte) (epoch : Nat) (checkrun : Bool) : Thread :=
  { x with
    st := .ready, under := .ready, pc := BitVec.ofNat 64 k.kLoadAt
    s := startRegs rec_ limit args, rm := 0, flags := 0, qsat := 0, qlost := 0, wstat := 0
    part := k.part, ring := k.ring, dcount := k.dcount, seq := k.seq, layer := k.layer, oper := k.oper
    epoch, checkrun, outs := [], fence := false, wait := none, bundle := [] }

theorem State.thr_wrB (u : State) (o i : Nat) (b : Bool) (c t : Nat) : (u.wrB o i b).thr c t = u.thr c t := rfl

theorem State.thr_ungate (u : State) (i c t : Nat) : (u.ungate i).thr c t = u.thr c t := rfl

section Start
variable (hlc : s.logical c = some lc) (hst : (s.thr c t).st = .free) (hopen : s.coreOpen c = true) (hpart : s.partOfCore lc = some k.part)
  (hstop : (s.part k.part).stopped = false) (hheld : s.rdB (rCoreCtl c) 29 = false)
include hlc hst hopen hpart hstop hheld

theorem State.startThread_starts (hq : s.quiet) (hloaded : k.loaded.contains c = true) {pa : Nat} (hargs : s.range k.kArgs 64 = some pa) :
    ∃ cmds, s.startThread c t k rec_ limit false = ({ s with cmds }.setThr c t
      ((s.thr c t).kernelStart k rec_ limit (s.bytes pa 64) (s.epoch lc) false)).ungate c := by
  have hread := hq.read (State.range_oneMemory hargs)
  unfold State.startThread
  split
  · next h => exact absurd (h.symm.trans hlc) (fun h => nomatch h)
  · next l h =>
    obtain rfl := Option.some.inj (hlc.symm.trans h)
    rw [if_neg (by simp [hst, hopen, hpart, hstop])]
    extract_lets a s1 x held args s2
    have ha : a = (s, [], s.bytes pa 64) := by
      show (match s.range k.kArgs 64 with | some pa => s.readMem pa 64 | none => (s, [], [])) = _
      rw [hargs]
      exact hread
    have hs1 : s1 = s := by
      show (if k.loaded.contains c then a.1 else a.1.loadProgram c k) = s
      rw [if_pos hloaded, ha]
    have hheld' : held = false := by
      show s1.rdB (rCoreCtl c) 29 = false
      rw [hs1]
      exact hheld
    have hx : x = s.thr c t := by
      show s1.thr c t = s.thr c t
      rw [hs1]
    have hargs' : args = s.bytes pa 64 := by
      show a.2.2 = _
      rw [ha]
    obtain ⟨cmds, hs2⟩ : ∃ cmds, s2 = { s with cmds } := by
      show ∃ cmds, s1.updCmd k.ring k.dcount _ = { s with cmds }
      rw [hs1]
      exact ⟨_, rfl⟩
    have hepoch : s2.epoch lc = s.epoch lc := by
      rw [hs2]
      rfl
    rw [if_neg (by rw [ha]; simp), hheld', hx, hargs', hepoch, hs2]
    exact ⟨cmds, rfl⟩

/-- A thread of a KERNEL starts at the program's entry with its counter, its limit and the arguments (R261). -/
theorem State.startThread_effect (hq : s.quiet) (hloaded : k.loaded.contains c = true) {pa : Nat} (hargs : s.range k.kArgs 64 = some pa) :
    let u := s.startThread c t k rec_ limit false
    (u.thr c t).st = .ready ∧ (u.thr c t).pc = BitVec.ofNat 64 k.kLoadAt ∧ (u.thr c t).sreg 1 = BitVec.ofNat 64 rec_
      ∧ (u.thr c t).sreg 2 = BitVec.ofNat 64 limit ∧ (∀ j < 8, (u.thr c t).sreg (24 + j) = BitVec.ofNat 64 (leNat (s.bytes (pa + 8 * j) 8)))
      ∧ (∀ j < 24, j ≠ 1 → j ≠ 2 → (u.thr c t).sreg j = 0) ∧ (u.thr c t).part = k.part ∧ (u.thr c t).epoch = s.epoch lc
      ∧ (u.thr c t).flags = 0 ∧ (u.thr c t).rm = 0 ∧ (u.thr c t).v = (s.thr c t).v ∧ u.mem = s.mem := by
  obtain ⟨cmds, hstart⟩ := State.startThread_starts (rec_ := rec_) (limit := limit) hlc hst hopen hpart hstop hheld hq hloaded hargs
  rw [hstart]
  dsimp only
  rw [State.thr_ungate, State.thr_setThr_self]
  have hsreg (j : Nat) : ((s.thr c t).kernelStart k rec_ limit (s.bytes pa 64) (s.epoch lc) false).sreg j
      = tget (fun _ => 0) (startRegs rec_ limit (s.bytes pa 64)) j := by
    unfold Thread.sreg Thread.kernelStart
    dsimp only
  refine ⟨rfl, rfl, ?_, ?_, fun j hj => ?_, fun j hj h1 h2 => ?_, rfl, rfl, rfl, rfl, rfl, rfl⟩
  · rw [hsreg, tget_startRegs, if_neg (by omega), if_neg (by decide), if_pos rfl]
  · rw [hsreg, tget_startRegs, if_neg (by omega), if_pos rfl]
  · rw [hsreg, tget_startRegs, if_pos (by omega), Nat.add_sub_cancel_left, State.leAt_bytes s (by omega)]
  · rw [hsreg, tget_startRegs, if_neg (by omega), if_neg h2, if_neg h1]

end Start

end Kernel

/-! ### Threads of a MATMUL -/

section Claim
variable {s : State} {c t lc id n : Nat} {k : Cmd}

/-- A word stored where memory holds no error. -/
theorem State.quiet.write (hq : s.quiet) {pa : Nat} (b : List Byte) (hone : oneMemory pa b.length) :
    (s.writeMem pa b).byte = storeOver s.byte (pa, b) :=
  funext (State.writeMem_stored hq.2 hone (fun g _ => hq.1 g)).bytes

theorem storeOver_apart {f : Nat → Byte} {pa q : Nat} {b : List Byte} (h : q < pa ∨ pa + b.length ≤ q) : storeOver f (pa, b) q = f q :=
  storeOver_of_not (fun hc => by unfold Covers at hc; dsimp only at hc; omega) f

/-- The front of what was stored at an address. -/
theorem bytes_storeOver_front (f : Nat → Byte) (pa : Nat) (b c : List Byte) : (span pa b.length).map (storeOver f (pa, b ++ c)) = b := by
  apply List.ext_getElem
  · simp [span]
  · intro j _ hj
    have hcov : Covers (pa, b ++ c) (pa + j) := by
      unfold Covers
      rw [List.length_append]
      dsimp only
      omega
    have hat : (span pa b.length)[j]'(by simpa [span] using hj) = pa + j := by simp [span]
    rw [List.getElem_map, hat, storeOver_of_covers hcov]
    dsimp only
    rw [Nat.add_sub_cancel_left, List.getD_append _ _ _ _ hj, List.getD_eq_getElem _ _ hj]

/-- The word that was stored at an address. -/
theorem bytes_storeOver (f : Nat → Byte) (pa v : Nat) : (span pa 8).map (storeOver f (pa, leBytes 8 v)) = leBytes 8 v := by
  have h := bytes_storeOver_front f pa (leBytes 8 v) []
  rwa [length_leBytes, List.append_nil] at h

/-- Where the work counters and the claim slots stand: apart from each other, and outside DRAM. -/
theorem claim_apart {w lc t id : Nat} (hw : w < 2) (ht : t < 32) (hid : id < 65536) :
    dramEnd ≤ recordAddr w id ∧ dramEnd ≤ claimAddr lc t ∧ recordAddr w id < 2 ^ 64
      ∧ (recordAddr w id + 16 ≤ claimAddr lc t ∨ claimAddr lc t + 8 ≤ recordAddr w id) := by
  unfold recordAddr claimAddr larderBase dramEnd
  omega

theorem State.logical_lt {i lc : Nat} (h : s.logical i = some lc) : lc < 128 := List.mem_range.mp (List.mem_of_find?_eq_some h)

/-- A claim recorded where memory holds no error. -/
theorem State.claim_writes (hq : s.quiet) (c t rec_ item : Nat) :
    ∃ v, s.claim c t rec_ item = s.writeMem (claimAddr ((s.logical c).getD 0) t) (leBytes 8 v) := by
  unfold State.claim State.recordLost
  dsimp only
  rw [hq.readMem, hq.readMem]
  exact ⟨_, if_neg (by simp [poisoned])⟩

/-- A claim moves NEXT on and stores the slot; all other memory stands. -/
theorem State.claimNext_claims (hq : s.quiet) {pa slot : Nat} (hrec : dramEnd ≤ pa) (hslot : dramEnd ≤ slot)
    (hapart : pa + 16 ≤ slot ∨ slot + 8 ≤ pa) (hsl : claimAddr ((s.logical c).getD 0) t = slot) (hnext : leNat (s.bytes pa 8) = n) :
    ∃ u, s.claimNext c t pa = (u, n, leNat (s.bytes (pa + 8) 8)) ∧ Puts s u
      ∧ u.bytes pa 8 = leBytes 8 (n + 1) ∧ ∀ a < dramEnd, u.byte a = s.byte a := by
  have hread := hq.read (pa := pa) (n := 16) (.inr hrec)
  have hfirst : leAt (s.bytes pa 16) 0 8 = n := by rw [State.leAt_bytes s (by omega), Nat.add_zero, hnext]
  have hsecond : leAt (s.bytes pa 16) 8 8 = leNat (s.bytes (pa + 8) 8) := State.leAt_bytes s (by omega)
  unfold State.claimNext
  extract_lets r next s0
  have hr : r = (s, [], s.bytes pa 16) := hread
  have hnext' : next = n := by
    show leAt r.2.2 0 8 = n
    rw [hr]
    exact hfirst
  have hlast : leAt r.2.2 8 8 = leNat (s.bytes (pa + 8) 8) := by
    rw [hr]
    exact hsecond
  have hs0 : s0 = (s.countMem (s.reqThr c t) pa 8 false).writeMem pa (leBytes 8 (n + 1)) := by
    show (r.1.countMem (s.reqThr c t) pa 8 false).writeMem pa (leBytes 8 (next + 1)) = _
    rw [hr, hnext']
  rw [hlast, hnext', hs0]
  have hcount := s.countMem_counted (s.reqThr c t) pa 8 false
  generalize s.countMem (s.reqThr c t) pa 8 false = s1 at hcount ⊢
  have hq1 := hcount.quiet hq
  have h2 := State.writeMem_puts hq1 pa (leBytes 8 (n + 1))
  have hb2 := hq1.write (pa := pa) (leBytes 8 (n + 1)) (.inr hrec)
  generalize s1.writeMem pa (leBytes 8 (n + 1)) = s2 at h2 hb2 ⊢
  have hq2 := h2.quiet hq1
  have hlog2 : s2.logical c = s.logical c := by
    unfold Counted at hcount
    rw [h2.only, hcount]
    rfl
  obtain ⟨v, hclaim⟩ := State.claim_writes hq2 c t pa n
  rw [hclaim, hlog2, hsl]
  have h3 := State.writeMem_puts hq2 slot (leBytes 8 v)
  have hb3 := hq2.write (pa := slot) (leBytes 8 v) (.inr hslot)
  generalize s2.writeMem slot (leBytes 8 v) = s3 at h3 hb3 ⊢
  refine ⟨s3, rfl, ((Puts.counted hcount).trans h2).trans h3, ?_, fun a ha => ?_⟩
  · rw [← bytes_storeOver s1.byte pa (n + 1), ← hb2]
    refine State.bytes_of_byte fun a h1 h2 => ?_
    rw [hb3]
    exact storeOver_apart (by rw [length_leBytes]; omega)
  · rw [hb3, storeOver_apart (by omega), hb2, storeOver_apart (by omega), hcount.byte]

variable (hidle : ∀ a < 4, (s.arr (4 * c + a)).queue = [] ∧ (s.arr (4 * c + a)).idle = true ∧ (s.arr (4 * c + a)).bad = false)
include hidle

/-- With every array of the core free the first takes the tile. -/
theorem State.arrayFor_first (q : TileReq) : s.arrayFor c q = some (4 * c) := by
  have hplaces (a : Arr) (hqueue : a.queue = []) (hi : a.idle = true) : a.others 1 ++ a.others 2 = [] := by
    unfold Arr.idle at hi
    simp only [Bool.and_eq_true, Option.isNone_iff_eq_none] at hi
    simp [Arr.others, hqueue, hi.1.1, hi.1.2]
  have hspan : span (4 * c) 4 = [4 * c, 4 * c + 1, 4 * c + 2, 4 * c + 3] := rfl
  have hall (i : Nat) (hi : i ∈ span (4 * c) 4) : (s.arr i).queue = [] ∧ (s.arr i).idle = true ∧ (s.arr i).bad = false := by
    unfold span at hi
    obtain ⟨a, ha, rfl⟩ := List.mem_map.mp hi
    exact hidle a (List.mem_range.mp ha)
  unfold State.arrayFor
  extract_lets load ok
  have hload (i : Nat) (hi : i ∈ span (4 * c) 4) : load i = 0 := by
    obtain ⟨hqueue, hi, -⟩ := hall i hi
    show 2 * (s.arr i).queue.length + (if (s.arr i).idle then 0 else 1) = 0
    rw [hqueue, hi]
    rfl
  have hok (i : Nat) (hi : i ∈ span (4 * c) 4) : ok i = true := by
    obtain ⟨hqueue, hi, hbad⟩ := hall i hi
    show (!(s.arr i).bad && (s.arr i).queue.length ≤ 2 && ((s.arr i).others 1 ++ (s.arr i).others 2).all (fun o => q.fits o)) = true
    rw [hplaces _ hqueue hi, hqueue, hbad]
    rfl
  rw [List.filter_eq_self.mpr hok]
  rw [hspan] at hload ⊢
  simp only [List.foldl_cons, List.foldl_nil]
  rw [hload (4 * c) (by simp), hload (4 * c + 1) (by simp), if_neg (by omega)]
  dsimp only
  rw [hload (4 * c) (by simp), hload (4 * c + 2) (by simp), if_neg (by omega)]
  dsimp only
  rw [hload (4 * c) (by simp), hload (4 * c + 3) (by simp), if_neg (by omega)]

/-- The thread of a MATMUL claims the next item and queues its tile. -/
theorem State.libClaim_queues (hq : s.quiet) (ht : t < 32) (hid : id < 65536) {w : Nat} (hw : w < 2) {x : MItem}
    (hrec : (s.thr c t).sreg 1 = BitVec.ofNat 64 (recordAddr w id))
    (hnext : leNat (s.bytes (recordAddr w id) 8) = n) (hlimit : n < leNat (s.bytes (recordAddr w id + 8) 8)) (htab : k.tab + 32 * n + 32 ≤ dramEnd)
    (hitem : s.itemAt k n = some (x, 0)) (fuel : Nat) :
    ∃ u q, s.libClaim c t k (fuel + 1) = u ∧ u.threads = s.threads ∧ (u.arr (4 * c)).queue = [q] ∧ q.item = some n ∧ q.core = c ∧ q.thread = t
      ∧ q.part = k.part ∧ u.bytes (recordAddr w id) 8 = leBytes 8 (n + 1) := by
  obtain ⟨hfar, hslot, hlt, hapart⟩ := claim_apart (w := w) (lc := (s.logical c).getD 0) (id := id) hw ht hid
  obtain ⟨v, hclaim, hputs, hbytes, hbyte⟩ := State.claimNext_claims hq hfar hslot hapart rfl hnext
  have hitem' : v.itemAt k n = some (x, 0) := by
    have hone : oneMemory (k.tab + 32 * n) 32 := .inl htab
    rw [← hitem]
    unfold State.itemAt
    rw [(hputs.quiet hq).read hone, hq.read hone, State.bytes_of_byte (s := s) (t := v) fun a _ ha => hbyte a (by omega)]
  have harr : v.arr (4 * c) = s.arr (4 * c) := by
    rw [hputs.only]
    rfl
  unfold State.libClaim
  dsimp only
  rw [State.arrayFor_first hidle]
  dsimp only
  rw [hrec, BitVec.toNat_ofNat, Nat.mod_eq_of_lt hlt, hclaim]
  dsimp only
  rw [if_neg (by omega), hitem']
  dsimp only
  rw [if_neg (by decide), if_neg (by decide), if_neg (by decide)]
  refine ⟨_, v.itemReq c t k n 0 x, rfl, ?_, ?_, rfl, rfl, rfl, rfl, hbytes⟩
  · show v.threads = s.threads
    rw [hputs.only]
  · rw [State.arr_putArr, (Arr.settled_places ..).1, harr]
    show (s.arr (4 * c)).queue ++ _ = _
    rw [show (s.arr (4 * c)).queue = [] from (hidle 0 (by omega)).1]
    rfl

end Claim

/-! ### Starts -/

section Starts
variable {s : State} {c t lc r dc : Nat} {k : Cmd} (hk : s.cmd r dc = some k) (hrun : k.phase = .running) (hcounter : (s.counterFor k (wingOf c)).1 ≠ 0)

section Library
variable (hlc : s.logical c = some lc) (hst : (s.thr c t).st = .free) (hopen : s.coreOpen c = true) (hpart : s.partOfCore lc = some k.part)
  (hstop : (s.part k.part).stopped = false) (hheld : s.rdB (rCoreCtl c) 29 = false)
include hlc hst hopen hpart hstop hheld

/-- The state in which a library thread makes its first claim. -/
theorem State.startLib_claims (hl : (s.core c).ledger.length < 1024) (rec_ limit : Nat) :
    ∃ v : State, s.startLib c t k rec_ limit false = v.libClaim c t k 2 ∧ v.mem = s.mem ∧ v.arrays = s.arrays ∧ (s.quiet → v.quiet)
      ∧ (v.thr c t).st = .parked ∧ (v.thr c t).s = startRegs rec_ limit [] := by
  have hledger := s.ledgerStart_only hl k.seq k.layer k.oper k.part k.level
  unfold State.startLib
  split
  · next h => exact absurd (h.symm.trans hlc) (fun h => nomatch h)
  · next l h =>
    obtain rfl := Option.some.inj (hlc.symm.trans h)
    rw [if_neg (by simp [hst, hopen, hpart, hstop, hheld])]
    extract_lets level x s1
    have hs1 (P : State → Prop) (h : ∀ cores (x : Thread), P ({ s with cores }.setThr c t { x with st := .parked, s := startRegs rec_ limit [] })) : P s1 := by
      show P ((s.ledgerStart c k.seq k.layer k.oper k.part k.level).setThr c t _)
      rw [hledger]
      exact h _ { x with
                  under := .parked, pc := 0, rm := 0, flags := 0, qsat := 0, qlost := 0, wstat := 0
                  part := k.part, ring := k.ring, dcount := k.dcount, seq := k.seq, layer := k.layer, oper := k.oper
                  epoch := s.epoch lc, checkrun := false, outs := [], fence := false, wait := none, bundle := [], reissue := false }
    refine ⟨s1.ungate c, rfl, hs1 (fun u => u.mem = s.mem) fun _ _ => rfl, hs1 (fun u => u.arrays = s.arrays) fun _ _ => rfl,
      fun hq => hs1 State.quiet fun _ _ => hq, ?_, ?_⟩
    · rw [State.thr_ungate]
      exact hs1 (fun u => (u.thr c t).st = .parked) fun _ _ => by rw [State.thr_setThr_self]
    · rw [State.thr_ungate]
      exact hs1 (fun u => (u.thr c t).s = startRegs rec_ limit []) fun _ _ => by rw [State.thr_setThr_self]

/-- A thread of a MATMUL starts with the claim of its first item. -/
theorem State.startLib_queues (hq : s.quiet) (hl : (s.core c).ledger.length < 1024) {w id n limit : Nat} (hw : w < 2) (hid : id < 65536) (ht : t < 32)
    (hnext : leNat (s.bytes (recordAddr w id) 8) = n) (hlimit : n < leNat (s.bytes (recordAddr w id + 8) 8)) (htab : k.tab + 32 * n + 32 ≤ dramEnd)
    {x : MItem} (hitem : s.itemAt k n = some (x, 0))
    (hidle : ∀ a < 4, (s.arr (4 * c + a)).queue = [] ∧ (s.arr (4 * c + a)).idle = true ∧ (s.arr (4 * c + a)).bad = false) :
    ∃ u q, s.startLib c t k (recordAddr w id) limit false = u ∧ (u.thr c t).st = .parked ∧ (u.arr (4 * c)).queue = [q] ∧ q.item = some n ∧ q.core = c
      ∧ q.thread = t ∧ q.part = k.part ∧ leNat (u.bytes (recordAddr w id) 8) = n + 1 := by
  obtain ⟨v, hstart, hmem, harrays, hquiet, hparked, hregs⟩ := State.startLib_claims hlc hst hopen hpart hstop hheld hl (recordAddr w id) limit
  have hbyte (a m : Nat) : v.bytes a m = s.bytes a m := State.bytes_of_byte fun _ _ _ => by rw [State.byte, hmem, State.byte]
  have harr (a : Nat) : v.arr a = s.arr a := by rw [State.arr, harrays, State.arr]
  have hsreg : (v.thr c t).sreg 1 = BitVec.ofNat 64 (recordAddr w id) := by
    rw [Thread.sreg, hregs, tget_startRegs, if_neg (by omega), if_neg (by decide), if_pos rfl]
  have hitem' : v.itemAt k n = some (x, 0) := by
    rw [← hitem]
    unfold State.itemAt
    rw [(hquiet hq).readMem, hq.readMem, State.readBytes_of_mem hmem]
  obtain ⟨u, q, hu, hthreads, hqueue, hq1, hq2, hq3, hq4, hbytes⟩ := State.libClaim_queues (fun a ha => by rw [harr]; exact hidle a ha) (hquiet hq) ht hid hw
    hsreg (by rw [hbyte]; exact hnext) (by rw [hbyte]; exact hlimit) htab hitem' 1
  refine ⟨u, q, hstart.trans hu, ?_, hqueue, hq1, hq2, hq3, hq4, ?_⟩
  · rw [State.thr, hthreads]
    exact hparked
  · rw [hbytes, leNat_leBytes, Nat.mod_eq_of_lt]
    have hlt := leNat_lt (s.bytes (recordAddr w id + 8) 8)
    rw [State.length_bytes] at hlt
    omega

end Library

include hk hrun hcounter

theorem threadStart_kernel (hop : k.opcode = 0x18) (ht : t < k.kThreads) : exec (.threadStart c t r dc) s
    = .next (s.startThread c t k (s.counterFor k (wingOf c)).1 (s.counterFor k (wingOf c)).2 false) := by
  rw [exec_threadStart]
  unfold execThreadStart
  rw [hk]
  dsimp only
  rw [if_neg (by simp [hrun, hcounter]), if_pos (by simp [hop, ht])]

theorem threadStart_library (hop : k.opcode = 1) : exec (.threadStart c t r dc) s
    = .next (s.startLib c t k (s.counterFor k (wingOf c)).1 (s.counterFor k (wingOf c)).2 false) := by
  rw [exec_threadStart]
  unfold execThreadStart
  rw [hk]
  dsimp only
  rw [if_neg (by simp [hrun, hcounter]), if_neg (by simp [hop]), if_pos hop]

end Starts

/-! ### Timeouts and gating -/

section Idle
variable {s : State} {c t : Nat}

theorem latchWaitTimeout_wakes {w : Wait} (hw : (s.thr c t).wait = some w) (hst : (s.thr c t).st = .parked) (hto : w.timeout ≠ 0)
    (hdue : w.issued.toNat + w.timeout ≤ s.now.toNat) : exec (.latchWaitTimeout c t) s
      = .next ((s.setThr c t { s.thr c t with st := .ready, wait := none, wstat := eSyncTimeout }).wrB (rCoreStat c) 0 false) := by
  have heff : (s.thr c t).eff = .parked := by
    unfold Thread.eff
    rw [hst, if_neg (by decide)]
  rw [exec_latchWaitTimeout]
  unfold execLatchWaitTimeout
  dsimp only
  rw [hw]
  dsimp only
  rw [if_pos (by simp [heff, hto, hdue]), State.wake_parked hst]

theorem coreGate_stops (hgate : s.rdB (rCoreCtl c) 0 = true) (hthreads : ∀ t < 32, (s.thr c t).st ≠ .ready ∧ (s.thr c t).outs = [])
    (harrays : ∀ a < 4, s.rdB (rArrStat (4 * c + a)) 0 = true ∧ (s.arr (4 * c + a)).queue = []) :
    exec (.coreGate c) s = .next (s.wrB (rCoreStat c) 0 true) := by
  have hidle : (List.range 32).all (fun t => (s.thr c t).st ≠ .ready && (s.thr c t).outs.isEmpty) = true :=
    List.all_eq_true.mpr fun t ht => by
      obtain ⟨hst, houts⟩ := hthreads t (List.mem_range.mp ht)
      simp [hst, houts]
  have hgated : (List.range 4).all (fun a => s.rdB (rArrStat (4 * c + a)) 0 && (s.arr (4 * c + a)).queue.isEmpty) = true :=
    List.all_eq_true.mpr fun a ha => by
      obtain ⟨hreg, hqueue⟩ := harrays a (List.mem_range.mp ha)
      simp [hreg, hqueue]
  rw [exec_coreGate]
  unfold execCoreGate
  dsimp only
  rw [hgate, hidle, hgated]
  rfl

end Idle

/-- Settles O18: each step of a thread's life changes the thread and what it names alone. -/
theorem threadLifecycle : Obligations.ThreadLifecycle := by
  refine ⟨fun s c t => ?_, fun s c t m rest hmsgs hm hst hring hdc => ⟨fun hcause => ?_, fun hcause hno hh => ?_, fun hcause hne ht => ?_⟩⟩
  · intro y kept
    refine ⟨fun n o ho hp => ?_, fun n o ho hp => ?_, fun hst => ?_, fun hst hctl hkept hstop => ⟨fun hu => ?_, fun hu => ?_⟩,
      fun hst hkeep => ?_, fun hst hctl hkept hstop => ?_, fun hst => ?_, fun w hw hst hto hdue => ?_, coreGate_stops,
      fun r dc k lc hk hrun hcounter hlc hst hopen hpart hstop hheld ht hno => ⟨fun pa hop hkt hloaded hargs => ?_,
        fun id n x hop hl hrec hid hnext hlimit htab hitem hidle => ?_⟩⟩
    · exact congrArg Host.Outcome.next (State.loadReturn_clean ho hp)
    · have hrep := State.loadReturn_poisoned ho hp
      obtain ⟨hthr, hmsgs⟩ := State.raise_thread (s.setThr c t (y.returned n)) c t cPoison 3 false o.pc
      have hy : (s.setThr c t (y.returned n)).thr c t = y.returned n := State.thr_setThr_self ..
      obtain ⟨_, _, honly⟩ := State.raise_rest (s.setThr c t (y.returned n)) c t cPoison 3 false o.pc
      have hu : (s.loadReturn c t n).thr c t = { y.returned n with st := .faulted, under := .free, outs := [], fence := false, wait := none, bundle := [] } := by
        rw [State.thr, hrep.threads]
        exact hthr.trans (by rw [hy])
      refine ⟨_, rfl, by rw [hu], by rw [hu]; rfl, by rw [hu]; rfl, by rw [hu]; rfl, by rw [hu]; rfl, ?_, ?_⟩
      · rw [hrep.core, hmsgs, hy]
        rfl
      · rw [hrep.mem, honly]
        rfl
    · exact if_pos (by simpa using hst)
    · exact (if_pos hst).trans (congrArg Host.Outcome.next ((State.letGo_runs hst hctl hkept hstop).trans (if_neg hu)))
    · exact (if_pos hst).trans (congrArg Host.Outcome.next ((State.letGo_runs hst hctl hkept hstop).trans (if_pos hu)))
    · exact (if_pos hst).trans (congrArg Host.Outcome.next (State.letGo_kept hkeep))
    · obtain ⟨honly, hmem⟩ := State.letGo_stopped hst hctl hkept hstop
      exact ⟨_, if_pos hst, honly, hmem⟩
    · exact (if_neg (by rw [show (s.thr c t).st = .faulted from hst]; decide)).trans (if_pos hst)
    · refine ⟨_, latchWaitTimeout_wakes hw hst hto hdue, ?_, rfl, fun o ho => State.rd_wr_ne _ _ _ _ ho⟩
      rw [State.thr_wrB, State.thr_setThr_self]
    · exact ⟨_, threadStart_kernel hk hrun hcounter hop hkt, State.startThread_effect hlc hst hopen hpart hstop hheld hno.quiet hloaded hargs⟩
    · obtain ⟨u, q, hu, hparked, hqueue, hq1, hq2, hq3, hq4, hbytes⟩ := State.startLib_queues (limit := (s.counterFor k (wingOf c)).2)
        hlc hst hopen hpart hstop hheld hno.quiet hl (wingOf_lt c) hid ht hnext hlimit htab hitem hidle
      refine ⟨u, q, (threadStart_library hk hrun hcounter hop).trans (congrArg Host.Outcome.next ?_), hparked, hqueue, hq1, hq2, hq3, hq4, hbytes⟩
      rw [← hu, hrec]
  · exact congrArg Host.Outcome.next (State.wcException_break hmsgs hm hst hring hdc hcause)
  · obtain ⟨hfenced, hcore, hmem, hthreads⟩ := State.wcException_hardware hmsgs hm hcause hno hh
    exact ⟨_, rfl, hfenced, hcore, hmem, hthreads⟩
  · obtain ⟨hfree, hcore, hcmd⟩ := State.wcException_ends hmsgs hm hst hring hdc hcause hne ht
    exact ⟨_, rfl, hfree, hcore, hcmd⟩

end Sys2Proof.Machine
end

section
/-! PROOFS. The order of values, extremes and sorted rows (R101, R102, R105, R106). -/

namespace Sys2Proof.Machine

/-! ### The order of values -/

/-- A number between the infinities. -/
abbrev Extended := WithBot (WithTop ℚ)

/-- What a value that is not NaN stands for. -/
def Val.number : Val → Extended
  | .nan => ⊥
  | .inf s => if s then ⊥ else ⊤
  | .fin s m e => (((if s then -(m * 2 ^ e : ℚ) else m * 2 ^ e : ℚ) : WithTop ℚ) : Extended)

/-- A value's place in the order in which -0 lies below +0. -/
def Val.key (v : Val) : Extended ×ₗ Bool := toLex (v.number, v.isZero && !v.sign)

section Order
variable {a b c : Val}

theorem two_zpow_split (m : Nat) {e q : Int} (h : q ≤ e) : (m : ℚ) * 2 ^ e = ((m * 2 ^ (e - q).toNat : Nat) : ℚ) * 2 ^ q := by
  have hexp : ((2 : ℚ) ^ (e - q).toNat) * 2 ^ q = 2 ^ e := by
    rw [← zpow_natCast, Int.toNat_of_nonneg (by omega), ← zpow_add₀ (by norm_num)]
    congr 1
    omega
  push_cast
  rw [mul_assoc, hexp]

/-- Finite values compare as the rationals that they are. -/
theorem Val.lt_fin (s t : Bool) (m n : Nat) (e g : Int) : Val.lt (.fin s m e) (.fin t n g) = true
    ↔ (if s then -(m * 2 ^ e : ℚ) else m * 2 ^ e) < (if t then -(n * 2 ^ g : ℚ) else n * 2 ^ g) := by
  have hpos : (0 : ℚ) < 2 ^ (Min.min e g) := zpow_pos (by norm_num) _
  rw [two_zpow_split m (min_le_left e g), two_zpow_split n (min_le_right e g)]
  have hsign (s : Bool) (x : Nat) (p : ℚ) : (if s then -((x : ℚ) * p) else (x : ℚ) * p) = ((if s then -(x : Int) else x : Int) : ℚ) * p := by
    cases s <;> push_cast <;> simp
  rw [hsign, hsign, mul_lt_mul_iff_left₀ hpos, Int.cast_lt]
  simp [Val.lt]

theorem Val.lt_iff (ha : a.isNan = false) (hb : b.isNan = false) : Val.lt a b = true ↔ a.number < b.number := by
  cases a with
  | nan => exact absurd ha (by decide)
  | inf s =>
    cases b with
    | nan => exact absurd hb (by decide)
    | inf t => cases s <;> cases t <;> simp [Val.lt, Val.number]
    | fin t n g => cases s <;> simp [Val.lt, Val.number]
  | fin s m e =>
    cases b with
    | nan => exact absurd hb (by decide)
    | inf t =>
      cases t
      · simp [Val.lt, Val.number, WithBot.coe_lt_coe, -WithBot.coe_top, ← WithBot.coe_top]
      · simp [Val.lt, Val.number]
    | fin t n g =>
      rw [Val.lt_fin, Val.number, Val.number, WithBot.coe_lt_coe, WithTop.coe_lt_coe]

theorem Val.number_zero (ha : a.isZero = true) : a.number = (((0 : ℚ) : WithTop ℚ) : Extended) := by
  cases a with
  | nan => exact absurd ha (by decide)
  | inf s => exact absurd ha (by simp [Val.isZero])
  | fin s m e =>
    have hm : m = 0 := by simpa [Val.isZero] using ha
    subst hm
    cases s <;> simp [Val.number]

theorem Val.isZero_of_number (ha : a.isNan = false) (h : a.number = (((0 : ℚ) : WithTop ℚ) : Extended)) : a.isZero = true := by
  cases a with
  | nan => exact absurd ha (by decide)
  | inf s =>
    cases s
    · exact absurd (WithBot.coe_inj.mp h) (WithTop.top_ne_coe)
    · exact absurd h.symm (WithBot.coe_ne_bot)
  | fin s m e =>
    have hpow : (2 : ℚ) ^ e ≠ 0 := zpow_ne_zero _ (by norm_num)
    rw [Val.number, WithBot.coe_inj, WithTop.coe_inj] at h
    cases s <;> simpa [Val.isZero, hpow] using h

/-- The order with signed zeros is the order of the keys. -/
theorem Val.ltz_iff (ha : a.isNan = false) (hb : b.isNan = false) : Val.ltz a b = true ↔ a.key < b.key := by
  unfold Val.ltz Val.key
  rw [Bool.or_eq_true, Val.lt_iff ha hb, Prod.Lex.toLex_lt_toLex]
  refine or_congr_right ⟨fun h => ?_, fun ⟨heq, hlt⟩ => ?_⟩
  · simp only [Bool.and_eq_true, Bool.not_eq_true'] at h
    obtain ⟨⟨⟨hza, hzb⟩, hsa⟩, hsb⟩ := h
    exact ⟨(Val.number_zero hza).trans (Val.number_zero hzb).symm, by simp [hza, hzb, hsa, hsb]⟩
  · dsimp only at heq hlt
    obtain ⟨h1, h2⟩ := Bool.lt_iff.mp hlt
    simp only [Bool.and_eq_true, Bool.not_eq_true'] at h2
    obtain ⟨hzb, hsb⟩ := h2
    have hza := Val.isZero_of_number ha (heq.trans (Val.number_zero hzb))
    rw [hza] at h1
    have hsa : a.sign = true := by simpa using h1
    simp [hza, hzb, hsa, hsb]

theorem Val.ltz_irrefl (a : Val) : Val.ltz a a = false := by
  cases ha : a.isNan with
  | true =>
    cases a with
    | nan => rfl
    | inf s => exact absurd ha (by decide +revert)
    | fin s m e => exact absurd ha (by simp [Val.isNan])
  | false => exact Bool.eq_false_iff.mpr fun h => lt_irrefl _ ((Val.ltz_iff ha ha).mp h)

end Order

/-! ### Extremes -/

section Extremes

/-- b lies beyond a, on the side of the extreme. -/
def beyond (mx : Bool) (a b : Val) : Bool := if mx then Val.ltz a b else Val.ltz b a

theorem beyond_iff {mx : Bool} {a b : Val} (ha : a.isNan = false) (hb : b.isNan = false) :
    beyond mx a b = true ↔ if mx then a.key < b.key else b.key < a.key := by
  cases mx with
  | true => exact Val.ltz_iff ha hb
  | false => exact Val.ltz_iff hb ha

theorem not_beyond_iff {mx : Bool} {a b : Val} (ha : a.isNan = false) (hb : b.isNan = false) :
    beyond mx a b = false ↔ if mx then b.key ≤ a.key else a.key ≤ b.key := by
  rw [← Bool.not_eq_true, beyond_iff ha hb]
  cases mx <;> exact not_lt

theorem not_beyond_trans {mx : Bool} {a b c : Val} (ha : a.isNan = false) (hb : b.isNan = false) (hc : c.isNan = false)
    (h : beyond mx a b = false) (h' : beyond mx b c = false) : beyond mx a c = false := by
  rw [not_beyond_iff ha hb] at h
  rw [not_beyond_iff hb hc] at h'
  rw [not_beyond_iff ha hc]
  cases mx with
  | true => exact le_trans h' h
  | false => exact le_trans h h'

theorem not_beyond_of_beyond {mx : Bool} {a b : Val} (ha : a.isNan = false) (hb : b.isNan = false) (h : beyond mx a b = true) : beyond mx b a = false := by
  rw [beyond_iff ha hb] at h
  rw [not_beyond_iff hb ha]
  cases mx <;> exact le_of_lt h

theorem beyond_self (mx : Bool) (a : Val) : beyond mx a a = false := by cases mx <;> exact Val.ltz_irrefl a

/-- The further of two values that are not NaN. -/
theorem further_eq {mx : Bool} {a b : Val} (ha : a.isNan = false) (hb : b.isNan = false) :
    (if mx then Val.max a b else Val.min a b) = if beyond mx a b then b else a := by
  cases mx <;> simp [Val.max, Val.min, beyond, ha, hb]

/-- The extreme so far is one of the values seen, and none of them lies beyond it. -/
theorem foldl_further (mx : Bool) (l : List Val) (m : Val) (hm : m.isNan = false) (hl : ∀ v ∈ l, v.isNan = false) :
    let r := l.foldl (fun a b => if mx then Val.max a b else Val.min a b) m
    r ∈ m :: l ∧ r.isNan = false ∧ ∀ v ∈ m :: l, beyond mx r v = false := by
  induction l generalizing m with
  | nil => exact ⟨List.mem_cons_self, hm, fun v hv => by rw [List.mem_singleton.mp hv]; exact beyond_self mx m⟩
  | cons b l ih =>
    have hb := hl b List.mem_cons_self
    have hrest : ∀ v ∈ l, v.isNan = false := fun v hv => hl v (List.mem_cons_of_mem _ hv)
    dsimp only
    rw [List.foldl_cons, further_eq hm hb]
    generalize hc : (if beyond mx m b then b else m) = c
    have hchosen : (c = b ∨ c = m) ∧ beyond mx c m = false ∧ beyond mx c b = false := by
      rw [← hc]
      split
      · next h => exact ⟨.inl rfl, not_beyond_of_beyond hm hb h, beyond_self mx b⟩
      · next h => exact ⟨.inr rfl, beyond_self mx m, Bool.eq_false_iff.mpr h⟩
    obtain ⟨hc, hcm, hcb⟩ := hchosen
    have hcnan : c.isNan = false := by
      obtain rfl | rfl := hc
      · exact hb
      · exact hm
    obtain ⟨hmem, hnan, hnone⟩ := ih c hcnan hrest
    have hrc := hnone c List.mem_cons_self
    refine ⟨?_, hnan, fun v hv => ?_⟩
    · obtain h | h := List.mem_cons.mp hmem
      · rw [h]
        obtain rfl | rfl := hc
        · exact List.mem_cons_of_mem _ List.mem_cons_self
        · exact List.mem_cons_self
      · exact List.mem_cons_of_mem _ (List.mem_cons_of_mem _ h)
    · obtain rfl | hv := List.mem_cons.mp hv
      · exact not_beyond_trans hnan hcnan hm hrc hcm
      · obtain rfl | hv := List.mem_cons.mp hv
        · exact not_beyond_trans hnan hcnan hb hrc hcb
        · exact hnone v (List.mem_cons_of_mem _ hv)

theorem extreme_nan (mx : Bool) {l : List Val} (h : ∀ v ∈ l, v.isNan = true) : (extreme mx l).isNan = true := by
  have hnil : l.filter (fun v => !v.isNan) = [] := List.filter_eq_nil_iff.mpr fun v hv => by simp [h v hv]
  unfold extreme
  rw [hnil]
  rfl

theorem extreme_of_some (mx : Bool) {l : List Val} (h : ∃ v ∈ l, v.isNan = false) :
    extreme mx l ∈ l ∧ (extreme mx l).isNan = false ∧ ∀ v ∈ l, v.isNan = false → beyond mx (extreme mx l) v = false := by
  obtain ⟨v, hv, hnan⟩ := h
  have hmem (x : Val) : x ∈ l.filter (fun v => !v.isNan) ↔ x ∈ l ∧ x.isNan = false := by simp [List.mem_filter]
  unfold extreme
  split
  · next hnil =>
    have hin := (hmem v).mpr ⟨hv, hnan⟩
    rw [hnil] at hin
    exact nomatch hin
  · next m r hcons =>
    rw [hcons] at hmem
    obtain ⟨hin, hnan, hnone⟩ := foldl_further mx r m ((hmem m).mp List.mem_cons_self).2 fun v hv => ((hmem v).mp (List.mem_cons_of_mem _ hv)).2
    exact ⟨((hmem _).mp hin).1, hnan, fun v hv hvn => hnone v ((hmem v).mpr ⟨hv, hvn⟩)⟩

end Extremes

/-! ### Sorted rows -/

section SortedRows
variable {desc : Bool}

theorem sortLe_iff {a b : Val} : sortLe desc a b = true ↔ (b.isNan = true ∨ (a.isNan = false ∧ b.isNan = false
    ∧ if desc then b.key ≤ a.key else a.key ≤ b.key)) := by
  unfold sortLe
  cases ha : a.isNan with
  | true => simp
  | false =>
    cases hb : b.isNan with
    | true => simp
    | false =>
      cases desc with
      | true => simpa using (Bool.not_eq_true _ ▸ (Val.ltz_iff ha hb).not).trans not_lt
      | false => simpa using (Bool.not_eq_true _ ▸ (Val.ltz_iff hb ha).not).trans not_lt

theorem sortLe_trans {a b c : Val} (h : sortLe desc a b = true) (h' : sortLe desc b c = true) : sortLe desc a c = true := by
  rw [sortLe_iff] at h h' ⊢
  obtain hc | ⟨hb, hc, hbc⟩ := h'
  · exact .inl hc
  · obtain hb' | ⟨ha, -, hab⟩ := h
    · exact absurd (hb.symm.trans hb') (by decide)
    · refine .inr ⟨ha, hc, ?_⟩
      cases desc with
      | true => exact le_trans hbc hab
      | false => exact le_trans hab hbc

theorem sortLe_total (desc : Bool) (a b : Val) : sortLe desc a b = true ∨ sortLe desc b a = true := by
  rw [sortLe_iff, sortLe_iff]
  cases ha : a.isNan with
  | true => simp
  | false =>
    cases hb : b.isNan with
    | true => simp
    | false => cases desc <;> simpa using le_total _ _

/-- a may stand before b. -/
abbrev rowLe (desc : Bool) (a b : Nat × Val) : Prop := sortLe desc a.2 b.2 = true

theorem sortIns_eq (desc : Bool) (x : Nat × Val) (l : List (Nat × Val)) : sortIns desc x l = l.orderedInsert (rowLe desc) x := by
  induction l with
  | nil => rfl
  | cons y r ih =>
    rw [sortIns, List.orderedInsert_cons, ih]

theorem sortRow_eq (desc : Bool) (l : List (Nat × Val)) : sortRow desc l = l.insertionSort (rowLe desc) := by
  induction l with
  | nil => rfl
  | cons x l ih =>
    rw [List.insertionSort_cons, ← ih, ← sortIns_eq]
    rfl

theorem sortRow_sorted (desc : Bool) (l : List (Nat × Val)) : (sortRow desc l).Perm l ∧ (sortRow desc l).Pairwise (fun a b => sortLe desc a.2 b.2 = true) := by
  have htotal : Std.Total (rowLe desc) := ⟨fun a b => sortLe_total desc a.2 b.2⟩
  have htrans : IsTrans _ (rowLe desc) := ⟨fun _ _ _ => sortLe_trans⟩
  rw [sortRow_eq]
  exact ⟨List.perm_insertionSort _ l, List.pairwise_insertionSort _ l⟩

/-- y stands with v in the order. -/
def level (desc : Bool) (v : Val) (y : Nat × Val) : Bool := sortLe desc v y.2 && sortLe desc y.2 v

theorem filter_sortIns (v : Val) (x : Nat × Val) (l : List (Nat × Val)) :
    (sortIns desc x l).filter (level desc v) = (x :: l).filter (level desc v) := by
  induction l with
  | nil => rfl
  | cons y r ih =>
    rw [sortIns]
    split
    · rfl
    · next hxy =>
      by_cases hx : level desc v x = true
      · have hy : ¬ level desc v y = true := fun hy => by
          unfold level at hx hy
          rw [Bool.and_eq_true] at hx hy
          exact hxy (sortLe_trans hx.2 hy.1)
        rw [List.filter_cons_of_neg hy, ih, List.filter_cons_of_pos hx, List.filter_cons_of_pos hx, List.filter_cons_of_neg hy]
      · rw [List.filter_cons_of_neg hx, List.filter_cons, List.filter_cons, ih, List.filter_cons_of_neg hx]

theorem filter_sortRow (desc : Bool) (l : List (Nat × Val)) (v : Val) : (sortRow desc l).filter (level desc v) = l.filter (level desc v) := by
  induction l with
  | nil => rfl
  | cons x l ih =>
    have hstep : sortRow desc (x :: l) = sortIns desc x (sortRow desc l) := rfl
    rw [hstep, filter_sortIns, List.filter_cons, List.filter_cons, ih]

end SortedRows

end Sys2Proof.Machine
end

section
/-! PROOFS. Commands with an order, an index, a matrix product or a work counter (R194, R253, R260, R261, R278, R279, R282, R283). -/

namespace Sys2Proof.Machine

/-! ### A command begins -/

section Begin
variable {s t u : State} {k : Cmd}

/-- t is s but for the counters and bit 28 of the tracker registers. -/
structure Followed (s t : State) : Prop where
  only : t = { s with regs := t.regs, cnt := t.cnt }
  bits : ∀ o b, b ≠ 28 → t.rdB o b = s.rdB o b

namespace Followed

theorem refl (s : State) : Followed s s := ⟨rfl, fun _ _ _ => rfl⟩

theorem trans (h : Followed s t) (h' : Followed t u) : Followed s u :=
  ⟨by rw [h'.only, h.only], fun o b hb => (h'.bits o b hb).trans (h.bits o b hb)⟩

theorem swapTracker (s : State) (x : Nat) (seq : W32) (layer oper : W16) : Followed s (s.swapTracker x seq layer oper) := by
  refine ⟨rfl, fun o b hb => ?_⟩
  unfold State.swapTracker
  dsimp only
  by_cases ho : o = rCntTrk x
  · rw [ho]
    exact State.rdB_wrB_ne _ _ (by omega) hb _
  · exact congrArg (bitAt · b) (State.rd_wr_ne _ _ _ _ ho)

theorem followTrackers (s : State) (k : Cmd) : Followed s (s.followTrackers k) := by
  have hstep (s : State) (x : Nat) : Followed s (if s.rdF (rCntTrk x) 31 30 = 2 && s.tracks x (s.reqCmd k) then s.swapTracker x k.seq k.layer k.oper else s) := by
    split
    · exact swapTracker ..
    · exact refl s
  exact ((hstep s _).trans (hstep _ _)).trans (hstep _ _)

theorem noTrace (h : Followed s t) {p : Nat} (hoff : s.noTrace p) : t.noTrace p :=
  ⟨(h.bits _ _ (by decide)).trans hoff.1, (h.bits _ _ (by decide)).trans hoff.2⟩

theorem memOnly (h : Followed s t) : MemOnly s t := by
  have honly := h.only
  unfold MemOnly
  rw [honly]

theorem quiet (h : Followed s t) (hq : s.quiet) : t.quiet := by
  rw [h.only]
  exact hq

theorem activeCores (h : Followed s t) (p w : Nat) : t.activeCores p w = s.activeCores p w := by
  have hopen (i : Nat) : t.coreOpen i = s.coreOpen i := by
    have hcore : t.core i = s.core i := by rw [h.only]; rfl
    unfold State.coreOpen State.fenced
    rw [h.bits _ _ (by decide), h.bits _ _ (by decide), h.bits _ _ (by decide), h.bits _ _ (by decide), hcore]
  have hphys (l : Nat) : t.phys l = s.phys l := by rw [h.only]; rfl
  have hcores : t.coresOfWing p w = s.coresOfWing p w := by rw [h.only]; rfl
  unfold State.activeCores
  simp only [hopen, hphys, hcores]

end Followed

/-- The record of a command that runs from beat b. -/
def Cmd.running (b : W64) (k : Cmd) : Cmd := { k with phase := .running, beatStart := b }

/-- The command's record as its start leaves it. -/
def State.marking (s : State) (k : Cmd) : State := s.updCmd k.ring k.dcount (Cmd.running s.now)

theorem State.beginCmd_followed (hoff : s.noTrace k.part) : Followed (s.marking k) (s.beginCmd k) := by
  have h := Followed.followTrackers (s.marking k) k
  unfold State.beginCmd
  extract_lets v w
  have hv : v = s.marking k := rfl
  rw [hv, State.trace_off (h.noTrace hoff)]
  exact h

/-- t differs from s in memory and what the handling of its errors touches, and holds no error where s holds none. -/
structure Handles (s t : State) : Prop where
  only : MemOnly s t
  quiet : s.quiet → t.quiet

namespace Handles

theorem refl (s : State) : Handles s s := ⟨rfl, id⟩

theorem trans (h : Handles s t) (h' : Handles t u) : Handles s u := ⟨h.only.trans h'.only, fun hq => h'.quiet (h.quiet hq)⟩

theorem ite {p : Prop} [Decidable p] (ht : Handles s t) (hu : Handles s u) : Handles s (if p then t else u) := by
  split
  · exact ht
  · exact hu

theorem setCore (s : State) (i : Nat) (c : Core) : Handles s (s.setCore i c) := ⟨rfl, id⟩

theorem wrB (s : State) (o i : Nat) (b : Bool) : Handles s (s.wrB o i b) := ⟨rfl, id⟩

theorem ctlWrite (s : State) (pa : Nat) (b : List Byte) : Handles s (s.ctlWrite pa b) := by
  have hrep := s.event_reported uMem 0 (pa / 2 ^ 30) eMemNotReady
  exact .ite ⟨(Handled.reported hrep).only, hrep.quiet⟩ ⟨(s.writeMem_handled pa b []).only, fun hq => (State.writeMem_puts hq pa b).quiet hq⟩

theorem ledgerStart (s : State) (i : Nat) (seq : W32) (layer oper : W16) (part check : Nat) :
    Handles s (s.ledgerStart i seq layer oper part check) := by
  unfold State.ledgerStart
  extract_lets k new old s1 n s2 c s3
  have h1 : Handles s s1 := setCore ..
  have h2 : Handles s1 s2 := ctlWrite ..
  have h3 : Handles s2 s3 := setCore ..
  clear_value s1 s2 s3
  split
  · exact .ite (setCore ..) (.ite (setCore ..) (.ite ((h1.trans (h2.trans h3)).trans (.ite (wrB ..) (refl _))) h1))
  · exact setCore ..

theorem recordStarts (s : State) (k : Cmd) : Handles s (s.recordStarts k) := by
  unfold State.recordStarts
  split
  · exact refl s
  · refine List.foldlRecOn _ _ (refl s) fun u hu lc _ => hu.trans ?_
    split
    · exact .ite (ledgerStart ..) (refl u)
    · exact refl u

end Handles

/-- The state in which a command's effect starts: its record, the counters, the ledgers and what their spill writes. -/
theorem State.begun_handles (hoff : s.noTrace k.part) : Handles (s.marking k) (s.begun k) := by
  have h := State.beginCmd_followed hoff
  exact .trans ⟨h.memOnly, h.quiet⟩ (.recordStarts ..)

/-- A MATMUL and a KERNEL record no start. -/
theorem State.begun_followed (hoff : s.noTrace k.part) (hop : k.opcode = 1 ∨ k.opcode = 0x18) : Followed (s.marking k) (s.begun k) := by
  have hrun : s.begun k = s.beginCmd k := by
    unfold State.begun State.recordStarts
    obtain h | h := hop <;> exact if_pos (by rw [h]; decide)
  rw [hrun]
  exact State.beginCmd_followed hoff

theorem State.cmd_marking (hk : s.cmd k.ring k.dcount = some k) : (s.marking k).cmd k.ring k.dcount = some (k.running s.now) := by
  unfold State.marking
  rw [State.cmd_updCmd_self (f := Cmd.running s.now) (fun _ => rfl) (fun _ => rfl), hk]
  rfl

theorem MemOnly.sameCmds (h : MemOnly s t) : SameCmds s t := by
  unfold MemOnly at h
  rw [h]
  exact ⟨rfl, rfl⟩

theorem MemOnly.physOf (h : MemOnly s t) (a : Nat) : t.physOf a = s.physOf a := by
  unfold MemOnly at h
  rw [h]
  rfl

end Begin

/-! ### A command under way -/

section Alive
variable {s t u : State} {r dc : Nat} {k : Cmd}

/-- The rings of t are those of s, and the command is live still. -/
structure Alive (r dc : Nat) (s t : State) : Prop where
  rings : t.rings = s.rings
  cmd : ∀ k, s.cmd r dc = some k → ∃ k', t.cmd r dc = some k' ∧ k'.phase = k.phase

namespace Alive

theorem trans (h : Alive r dc s t) (h' : Alive r dc t u) : Alive r dc s u := by
  refine ⟨h'.rings.trans h.rings, fun k hk => ?_⟩
  obtain ⟨k1, hk1, hphase1⟩ := h.cmd k hk
  obtain ⟨k2, hk2, hphase2⟩ := h'.cmd k1 hk1
  exact ⟨k2, hk2, hphase2.trans hphase1⟩

theorem same (h : SameCmds s t) : Alive r dc s t := ⟨h.rings, fun k hk => ⟨k, (h.cmd r dc).trans hk, rfl⟩⟩

theorem updCmd (s : State) {f : Cmd → Cmd} (hring : ∀ k, (f k).ring = k.ring) (hdc : ∀ k, (f k).dcount = k.dcount)
    (hphase : ∀ k, (f k).phase = k.phase) : Alive r dc s (s.updCmd r dc f) :=
  ⟨rfl, fun k hk => ⟨f k, by rw [State.cmd_updCmd_self hring hdc, hk]; rfl, hphase k⟩⟩

theorem putDest (s : State) (k : Cmd) (x : Tensor) (rows cols : Nat) (val : Nat → Nat → Val) :
    Alive k.ring k.dcount s (s.putDest k x rows cols val).1 := by
  have hcounts (u : State) (e : Enc) : Alive k.ring k.dcount u (u.addCounts k e) := by
    unfold State.addCounts
    extract_lets v
    have hupd : Alive k.ring k.dcount u v := updCmd u (fun _ => rfl) (fun _ => rfl) (fun _ => rfl)
    exact hupd.trans (same (.counted ((State.count_counted ..).trans (State.count_counted ..))))
  exact (same (SameCmds.writeRel.putTensor ..)).trans (hcounts ..)

/-- A command whose destination is complete. -/
theorem done (h : Alive k.ring k.dcount s u) {k0 : Cmd} (hk : s.cmd k.ring k.dcount = some k0) :
    ∃ k', (u.doneCmd k).cmd k.ring k.dcount = some k' ∧ (u.doneCmd k).rings = s.rings ∧ k'.phase = .written := by
  obtain ⟨k1, hk1, -⟩ := h.cmd k0 hk
  refine ⟨{ k1 with phase := .written, beatEnd := u.now }, ?_, h.rings, rfl⟩
  unfold State.doneCmd
  rw [State.cmd_updCmd_self (f := fun k => { k with phase := .written, beatEnd := u.now }) (fun _ => rfl) (fun _ => rfl), hk1]
  rfl

/-- The end of an indexed command whose entries were in range. -/
theorem indexEnd_good (h : Alive k.ring k.dcount s u) {k0 : Cmd} (hk : s.cmd k.ring k.dcount = some k0) {bad : Nat} (hbad : bad = 0) :
    ∃ k', (u.indexEnd k bad).cmd k.ring k.dcount = some k' ∧ (u.indexEnd k bad).rings = s.rings ∧ k'.phase = .written := by
  unfold State.indexEnd
  rw [if_pos hbad]
  exact h.done hk

theorem indexEnd_bad (h : Alive k.ring k.dcount s u) {k0 : Cmd} (hk : s.cmd k.ring k.dcount = some k0) (hphase : k0.phase ≠ .failed) {bad : Nat}
    (hbad : bad ≠ 0) : ∃ k', (u.indexEnd k bad).cmd k.ring k.dcount = some k' ∧ k'.phase = .failed ∧ k'.err = eIndexRange
      ∧ k'.detail = min 0xFFFFFFFF bad := by
  obtain ⟨k1, hk1, hphase1⟩ := h.cmd k0 hk
  unfold State.indexEnd
  rw [if_neg hbad]
  exact ⟨_, State.cmd_failCmd hk1 (hphase1 ▸ hphase) eIndexRange (cap32 bad), rfl, rfl, rfl⟩

end Alive

end Alive

/-! ### Sources -/

section Sources
variable {s u : State} {k : Cmd}

theorem State.quiet.readTensor (hq : s.quiet) (r : Req) (t : Tensor) (rows cols : Nat) :
    Counted s (s.readTensor r t rows cols).1 ∧ (s.readTensor r t rows cols).2 = false := by
  obtain ⟨hcount, hnone⟩ := hq.readRanges uWc r.wing r ((List.range rows).map (fun i => (s.physOf t.base + i * t.pitch cols, rowBytes t.fmt cols))
    ++ (if t.scaled then [(s.physOf t.sbase, t.scSize rows cols)] else []))
  exact ⟨hcount, List.any_eq_false.mpr fun x hx => by rw [hnone x hx]; decide⟩

/-- A source read where memory holds no error. -/
theorem State.quiet.withSource (hq : s.quiet) (go : State → State) : ∃ u, Counted s u ∧ s.withSource k go = go u := by
  obtain ⟨hcount, hclean⟩ := hq.readTensor (s.reqCmd k) (k.ten 0) k.rows k.cols
  refine ⟨_, hcount, ?_⟩
  unfold State.withSource
  dsimp only
  rw [if_neg (by rw [hclean]; decide)]

/-- The entries of an index tensor. -/
def State.indexOf (s : State) (k : Cmd) (n : Nat) : List Nat :=
  (List.range n).map (fun j => leAt (s.readMem (s.physOf (k.ten 1).base) (4 * n)).2.2 (4 * j) 4)

theorem State.quiet.readIndex (hq : s.quiet) (k : Cmd) (n : Nat) : ∃ u, Counted s u ∧ s.readIndex k n = (u, none, s.indexOf k n) := by
  have hread := hq.readMem (s.physOf (k.ten 1).base) (4 * n)
  refine ⟨s.countMem (s.reqCmd k) (s.physOf (k.ten 1).base) (4 * n) false, State.countMem_counted .., ?_⟩
  unfold State.readIndex State.wcRead State.indexOf
  dsimp only
  rw [hread]
  rfl

theorem State.indexOf_counted (hq : s.quiet) (h : Counted s u) (k : Cmd) (n : Nat) : u.indexOf k n = s.indexOf k n := by
  have hphys (a : Nat) : u.physOf a = s.physOf a := by
    unfold Counted at h
    rw [h]
    rfl
  have hmem : u.mem = s.mem := by
    unfold Counted at h
    rw [h]
  unfold State.indexOf
  rw [hphys, (h.quiet hq).readMem, hq.readMem, State.readBytes_of_mem hmem]

end Sources

end Sys2Proof.Machine
end

section
/-! PROOFS. SORT, GATHER and SCATTER_ADD end (R106, R269, R271). -/

namespace Sys2Proof.Machine

section Indexed
variable {s : State} {k k0 : Cmd}

theorem State.sortCmd_ends (hq : s.quiet) (hk : s.cmd k.ring k.dcount = some k0) :
    ∃ k', (s.sortCmd k).cmd k.ring k.dcount = some k' ∧ (s.sortCmd k).rings = s.rings ∧ k'.phase = .written := by
  unfold State.sortCmd
  obtain ⟨u, hu, hgo⟩ := hq.withSource (k := k) _
  rw [hgo]
  have hdest (rows cols : Nat) (val : Nat → Nat → Val) : Alive k.ring k.dcount s (u.putDest k (k.ten 1) rows cols val).1 :=
    (Alive.same (.counted hu)).trans (.putDest ..)
  exact Alive.done ((hdest ..).trans (.same ((SameCmds.writeRel.write ..).trans (.counted (State.countMem_counted ..))))) hk

theorem State.gatherCmd_indexEnd (hq : s.quiet) (k : Cmd) : ∃ u, Alive k.ring k.dcount s u
    ∧ s.gatherCmd k = u.indexEnd k ((s.indexOf k k.xrows).filter (fun e => !decide (e < k.rows))).length := by
  obtain ⟨u, hu, hread⟩ := hq.readIndex k k.xrows
  unfold State.gatherCmd
  rw [hread]
  refine ⟨_, .trans (.same (.counted hu)) (.same (SameCmds.foldl (fun v e => ?_) _ _)), rfl⟩
  have hcopy (v : State) (sa pa n : Nat) : SameCmds v (v.copyMem sa pa n).1 := by
    unfold State.copyMem
    split
    · exact .refl v
    · exact (SameCmds.handled (v.readMem_handled ..)).trans (.handled (State.writeMem_handled ..))
  dsimp only
  split
  · exact (hcopy ..).trans ((SameCmds.counted (State.countMem_counted ..)).trans (.counted (State.countMem_counted ..)))
  · exact (SameCmds.writeRel.write ..).trans (.counted (State.countMem_counted ..))

theorem State.scatterAddCmd_indexEnd (hq : s.quiet) (k : Cmd) : ∃ u, Alive k.ring k.dcount s u
    ∧ s.scatterAddCmd k = u.indexEnd k ((s.indexOf k k.rows).filter (fun e => !decide (e < k.xrows))).length := by
  unfold State.scatterAddCmd
  obtain ⟨u, hu, hgo⟩ := hq.withSource (k := k) _
  rw [hgo]
  obtain ⟨v, hv, hread⟩ := (hu.quiet hq).readIndex k k.rows
  rw [State.indexOf_counted hq hu] at hread
  dsimp only
  rw [hread]
  dsimp only
  generalize hrd : v.readRanges _ _ _ _ = rd
  obtain ⟨hcount, hclean⟩ := (hv.quiet (hu.quiet hq)).readRanges uWc (u.reqCmd k).wing (u.reqCmd k) _
  rw [hrd] at hcount hclean
  rw [if_neg (by simpa using hclean)]
  refine ⟨_, .same ((SameCmds.counted (hu.trans (hv.trans hcount))).trans (SameCmds.foldl (fun w e => ?_) _ _)), rfl⟩
  split
  · exact (SameCmds.writeRel.write ..).trans (.counted (State.countMem_counted ..))
  · exact .refl w

end Indexed

/-! ### The command starts -/

section Starts
variable {s : State} {k : Cmd}

theorem State.begun_quiet (hoff : s.noTrace k.part) (hq : s.quiet) : (s.begun k).quiet := (State.begun_handles hoff).quiet hq

theorem State.begun_cmd (hoff : s.noTrace k.part) (hk : s.cmd k.ring k.dcount = some k) :
    (s.begun k).cmd k.ring k.dcount = some (k.running s.now) ∧ (s.begun k).rings = s.rings := by
  have hsame := (State.begun_handles hoff).only.sameCmds
  exact ⟨(hsame.cmd ..).trans (State.cmd_marking hk), hsame.rings⟩

theorem State.begun_indexOf (hoff : s.noTrace k.part) (n : Nat) : (s.begun k).indexOf k n
    = (List.range n).map (fun j => leAt (((s.begun k).readMem (s.physOf (k.ten 1).base) (4 * n)).2.2) (4 * j) 4) := by
  have hphys : (s.begun k).physOf (k.ten 1).base = s.physOf (k.ten 1).base := (State.begun_handles hoff).only.physOf _
  unfold State.indexOf
  rw [hphys]

/-- The end of a command whose index entries e are below n, or of one with an entry beyond. -/
theorem indexEnd_ends {u b : State} {idx : List Nat} (hb : Alive k.ring k.dcount b u)
    (hk : b.cmd k.ring k.dcount = some (k.running s.now)) (n : Nat) :
    let t := u.indexEnd k (idx.filter (fun e => !decide (e < n))).length
    ((∀ e ∈ idx, e < n) → ∃ k', t.cmd k.ring k.dcount = some k' ∧ t.rings = b.rings ∧ k'.phase = .written)
    ∧ ((∃ e ∈ idx, n ≤ e) → ∃ k', t.cmd k.ring k.dcount = some k' ∧ k'.phase = .failed ∧ k'.err = eIndexRange
      ∧ k'.detail = min 0xFFFFFFFF (idx.filter (fun e => !decide (e < n))).length) := by
  refine ⟨fun hall => hb.indexEnd_good hk ?_, fun ⟨e, he, hbad⟩ => hb.indexEnd_bad hk ?_ ?_⟩
  · rw [List.length_eq_zero_iff, List.filter_eq_nil_iff]
    exact fun e he => by simp [hall e he]
  · exact nofun
  · have hmem : e ∈ idx.filter (fun e => !decide (e < n)) := List.mem_filter.mpr ⟨he, by simpa using hbad⟩
    exact (List.length_pos_of_mem hmem).ne'

end Starts

end Sys2Proof.Machine
end

section
/-! PROOFS. The work counters and the item table of a command (R279, R282, R283). -/

namespace Sys2Proof.Machine

section Counters
variable {s t : State} {k : Cmd} {tab share n w lo hi : Nat} {on : Bool}

/-- The first free work-counter record of wing w with NEXT lo and LIMIT hi, where the wing holds cores; and its address. -/
def State.wingRecord (s : State) (k : Cmd) (tab w : Nat) (on : Bool) (lo hi : Nat) : State × Nat :=
  if on then (s.writeMem (recordAddr w (s.freeRecord w)) (workRecord lo hi tab k.seq k.part 0 (s.freeRecord w)), recordAddr w (s.freeRecord w))
  else (s, 0)

theorem State.putCounters_eq (s : State) (k : Cmd) (share n tab : Nat) :
    let east := !(s.coresOfWing k.part 0).isEmpty
    let west := !(s.coresOfWing k.part 1).isEmpty
    let e := s.wingRecord k tab 0 east 0 (if west then share else n)
    let w := e.1.wingRecord k tab 1 west (if east then share else 0) n
    s.putCounters k share n tab = w.1.updCmd k.ring k.dcount (fun k => { k with counterE := e.2, counterW := w.2 }) := rfl

theorem workRecord_front (lo hi tab : Nat) (seq : W32) (part flags id : Nat) :
    ∃ c, workRecord lo hi tab seq part flags id = (leBytes 8 lo ++ leBytes 8 hi) ++ c := by
  refine ⟨leBytes 8 tab ++ leBytes 4 seq.toNat ++ leBytes 1 part ++ leBytes 1 flags ++ leBytes 2 id ++ zeros 32, ?_⟩
  simp only [workRecord, List.append_assoc]

/-- r is s with a record of wing w from lo to hi stored, and its address; or s and 0 where the wing holds no core. -/
structure Recorded (s : State) (on : Bool) (lo hi : Nat) (r : State × Nat) : Prop where
  puts : Puts s r.1
  some : r.2 ≠ 0 ↔ on = true
  far : r.2 ≠ 0 → dramEnd ≤ r.2
  claims : r.2 ≠ 0 → r.1.bytes r.2 16 = leBytes 8 lo ++ leBytes 8 hi
  below : ∀ a, (r.2 ≠ 0 → a < r.2) → r.1.byte a = s.byte a

theorem State.wingRecord_recorded (hq : s.quiet) : Recorded s on lo hi (s.wingRecord k tab w on lo hi) := by
  unfold State.wingRecord
  cases on with
  | false => exact ⟨.refl s, by simp, fun h => absurd rfl h, fun h => absurd rfl h, fun _ _ => rfl⟩
  | true =>
    generalize s.freeRecord w = id
    have hfar : dramEnd ≤ recordAddr w id := by
      unfold recordAddr larderBase dramEnd
      omega
    have hne : recordAddr w id ≠ 0 := fun h => by
      rw [h] at hfar
      exact absurd hfar (by decide)
    generalize recordAddr w id = pa at hfar hne
    obtain ⟨c, hrec⟩ := workRecord_front lo hi tab k.seq k.part 0 id
    generalize workRecord lo hi tab k.seq k.part 0 id = b at hrec
    have hputs := State.writeMem_puts hq pa b
    have hbyte := hq.write b (pa := pa) (.inr hfar)
    rw [if_pos rfl]
    refine ⟨hputs, by simp [hne], fun _ => hfar, fun _ => ?_, fun a ha => ?_⟩
    · have hfront := bytes_storeOver_front s.byte pa (leBytes 8 lo ++ leBytes 8 hi) c
      rw [← hrec, ← hbyte, List.length_append, length_leBytes, length_leBytes] at hfront
      exact hfront
    · rw [hbyte]
      exact storeOver_apart (.inl (ha hne))

/-- The records of both wings. -/
theorem State.putCounters_counts (hq : s.quiet) {k1 : Cmd} (hk : s.cmd k.ring k.dcount = some k1) (share n tab : Nat) :
    let t := s.putCounters k share n tab
    ∃ cE cW, t.cmd k.ring k.dcount = some { k1 with counterE := cE, counterW := cW } ∧ t.rings = s.rings
      ∧ (cE ≠ 0 ↔ s.coresOfWing k.part 0 ≠ []) ∧ (cW ≠ 0 ↔ s.coresOfWing k.part 1 ≠ [])
      ∧ (cE + 64 ≤ cW ∨ cW = 0 → cE ≠ 0 → t.bytes cE 16 = leBytes 8 0 ++ leBytes 8 (if s.coresOfWing k.part 1 = [] then n else share))
      ∧ (cW ≠ 0 → t.bytes cW 16 = leBytes 8 (if s.coresOfWing k.part 0 = [] then 0 else share) ++ leBytes 8 n)
      ∧ ∀ a < dramEnd, t.byte a = s.byte a := by
  have hon (l : List Nat) : (!l.isEmpty) = true ↔ l ≠ [] := by simp
  have hpick (l : List Nat) (x y : Nat) : (if (!l.isEmpty) = true then x else y) = if l = [] then y else x := by
    cases l <;> rfl
  rw [State.putCounters_eq]
  rw [hpick, hpick]
  have hE : Recorded s (!(s.coresOfWing k.part 0).isEmpty) 0 (if s.coresOfWing k.part 1 = [] then n else share)
    (s.wingRecord k tab 0 (!(s.coresOfWing k.part 0).isEmpty) 0 (if s.coresOfWing k.part 1 = [] then n else share)) := State.wingRecord_recorded hq
  generalize s.wingRecord k tab 0 _ 0 _ = e at hE ⊢
  have hW : Recorded e.1 (!(s.coresOfWing k.part 1).isEmpty) (if s.coresOfWing k.part 0 = [] then 0 else share) n
    (e.1.wingRecord k tab 1 (!(s.coresOfWing k.part 1).isEmpty) (if s.coresOfWing k.part 0 = [] then 0 else share) n) :=
    State.wingRecord_recorded (hE.puts.quiet hq)
  generalize e.1.wingRecord k tab 1 _ _ n = w at hW ⊢
  have hsame := hE.puts.sameCmds.trans hW.puts.sameCmds
  refine ⟨e.2, w.2, ?_, hsame.rings, hE.some.trans (hon _), hW.some.trans (hon _), fun hapart he => ?_, hW.claims, fun a ha => ?_⟩
  · rw [State.cmd_updCmd_self (f := fun k => { k with counterE := e.2, counterW := w.2 }) (fun _ => rfl) (fun _ => rfl), hsame.cmd, hk]
    rfl
  · rw [← hE.claims he]
    exact State.bytes_of_byte fun a _ hlt => hW.below a fun hw => by omega
  · exact (hW.below a fun hw => ha.trans_le (hW.far hw)).trans (hE.below a fun he => ha.trans_le (hE.far he))

end Counters

/-! ### The item table -/

section Table
variable {s : State} {tab n : Nat}

theorem MItem.length_entry (x : MItem) (flags : Nat) : (x.entry flags).length = 32 := by
  simp only [MItem.entry, List.length_append, length_leBytes]
  rfl

/-- Entries from the n-th on. -/
def State.putTable (s : State) (tab n : Nat) (items : List (MItem × Nat)) : State :=
  (items.zipIdx n).foldl (fun s x => s.writeMem (tab + 32 * x.2) (x.1.1.entry x.1.2)) s

theorem State.putTable_puts (hq : s.quiet) (tab n : Nat) (items : List (MItem × Nat)) : Puts s (s.putTable tab n items) :=
  Puts.foldl (fun _ _ hq => State.writeMem_puts hq _ _) _ hq

/-- Entry j stands at its place, and nothing below the table changes. -/
theorem State.putTable_bytes (items : List (MItem × Nat)) (hq : s.quiet) (h : tab + 32 * (n + items.length) ≤ dramEnd) :
    (∀ a < tab + 32 * n, (s.putTable tab n items).byte a = s.byte a)
    ∧ ∀ j x, items[j]? = some x → (s.putTable tab n items).bytes (tab + 32 * (n + j)) 32 = x.1.entry x.2 := by
  induction items generalizing s n with
  | nil => exact ⟨fun _ _ => rfl, nofun⟩
  | cons y l ih =>
    have hlen := MItem.length_entry y.1 y.2
    rw [List.length_cons] at h
    have hone : oneMemory (tab + 32 * n) (y.1.entry y.2).length := .inl (by omega)
    have hbyte := hq.write (y.1.entry y.2) hone
    have hstep : s.putTable tab n (y :: l) = (s.writeMem (tab + 32 * n) (y.1.entry y.2)).putTable tab (n + 1) l := rfl
    obtain ⟨hbelow, hentries⟩ := ih (n := n + 1) ((State.writeMem_puts hq _ _).quiet hq) (by omega)
    rw [hstep]
    refine ⟨fun a ha => ?_, fun j x hx => ?_⟩
    · rw [hbelow a (by omega), hbyte]
      exact storeOver_apart (.inl ha)
    · cases j with
      | zero =>
        obtain rfl : y = x := by simpa using hx
        have hfront := bytes_storeOver_front s.byte (tab + 32 * n) (y.1.entry y.2) []
        rw [List.append_nil, hlen, ← hbyte] at hfront
        exact (State.bytes_of_byte fun a _ ha => hbelow a (by omega)).trans hfront
      | succ j =>
        have hj := hentries j x (by simpa using hx)
        rwa [show n + 1 + j = n + (j + 1) by omega] at hj

end Table

end Sys2Proof.Machine
end

section
/-! PROOFS. What the commands with an order, an index, a matrix product or a work counter do (R106, R260 to R271, R278 to R283, R553). -/

namespace Sys2Proof.Machine

/-! ### Matrix products and kernels -/

section Products
variable {s u : State} {k k1 : Cmd}

/-- cE and cW are the work counters of the wings, 0 for a wing without cores; the east one claims up to the share of n items. -/
structure Claims (s t : State) (k : Cmd) (share n cE cW : Nat) : Prop where
  east : cE ≠ 0 ↔ s.coresOfWing k.part 0 ≠ []
  west : cW ≠ 0 ↔ s.coresOfWing k.part 1 ≠ []
  eastBytes : cE + 64 ≤ cW ∨ cW = 0 → cE ≠ 0 → t.bytes cE 16 = leBytes 8 0 ++ leBytes 8 (if s.coresOfWing k.part 1 = [] then n else share)
  westBytes : cW ≠ 0 → t.bytes cW 16 = leBytes 8 (if s.coresOfWing k.part 0 = [] then 0 else share) ++ leBytes 8 n

/-- A MATMUL's record with its table and the items that are selected. -/
def Cmd.tabled (tab n : Nat) (k : Cmd) : Cmd :=
  { k with tab, items := n, checks := ((List.range n).filter (checkSelected k.seq k.level)).map (fun i => { item := i }) }

theorem State.matmulCmd_starts (hq : s.quiet) (hk : s.cmd k.ring k.dcount = some k1) {items : List (MItem × Nat)}
    (hitems : k.plan (s.activeCores k.part (s.wingOfPart k.part)) = items) :
    ∃ cE cW, (s.matmulCmd k).cmd k.ring k.dcount = some { Cmd.tabled s.freeTable items.length k1 with counterE := cE, counterW := cW }
      ∧ (s.matmulCmd k).rings = s.rings
      ∧ Claims s (s.matmulCmd k) k (eastShare items (s.activeCores k.part 0) (s.activeCores k.part 1)) items.length cE cW
      ∧ (s.freeTable + 32 * items.length ≤ dramEnd →
        ∀ j x, items[j]? = some x → (s.matmulCmd k).bytes (s.freeTable + 32 * j) 32 = x.1.entry x.2) := by
  unfold State.matmulCmd
  rw [hitems]
  extract_lets l tab u share n v
  have hputs : Puts s u := State.putTable_puts hq tab 0 items
  have hv : v.cmd k.ring k.dcount = some (Cmd.tabled tab n k1) := by
    have hu := (hputs.sameCmds.cmd k.ring k.dcount).trans hk
    exact (State.cmd_updCmd_self (s := u) (f := Cmd.tabled tab n) (fun _ => rfl) (fun _ => rfl)).trans (congrArg _ hu)
  have hshare : share = eastShare items (s.activeCores k.part 0) (s.activeCores k.part 1) := by
    have hactive (w : Nat) : u.activeCores k.part w = s.activeCores k.part w := by
      rw [hputs.only]
      rfl
    rw [← hactive, ← hactive]
  have hcores (w : Nat) : v.coresOfWing k.part w = s.coresOfWing k.part w := by
    have hu : u.coresOfWing k.part w = s.coresOfWing k.part w := by
      rw [hputs.only]
      rfl
    exact hu
  have hvq : v.quiet := hputs.quiet hq
  have hvr : v.rings = s.rings := hputs.sameCmds.rings
  have hvb (pa m : Nat) : v.bytes pa m = u.bytes pa m := rfl
  have hu : u = s.putTable tab 0 items := rfl
  clear_value u v share
  subst hshare
  obtain ⟨cE, cW, hcmd, hrings, heast, hwest, hclaimE, hclaimW, hbelow⟩ := State.putCounters_counts hvq hv
    (eastShare items (s.activeCores k.part 0) (s.activeCores k.part 1)) n tab
  rw [hcores] at heast hwest hclaimE hclaimW
  refine ⟨cE, cW, hcmd, hrings.trans hvr, ⟨heast, hwest, hclaimE, hclaimW⟩, fun htab j x hx => ?_⟩
  obtain ⟨-, hentries⟩ := State.putTable_bytes items (tab := tab) (n := 0) hq (by rwa [Nat.zero_add])
  have hentry := hentries j x hx
  have hj := (List.getElem?_eq_some_iff.mp hx).1
  rw [Nat.zero_add, ← hu, ← hvb] at hentry
  exact (State.bytes_of_byte fun a _ ha => hbelow a (by omega)).trans hentry

theorem State.kernelCmd_starts (hq : s.quiet) (hk : s.cmd k.ring k.dcount = some k1) :
    let e := s.activeCores k.part 0
    let w := s.activeCores k.part 1
    ∃ cE cW, (s.kernelCmd k).cmd k.ring k.dcount = some { k1 with items := k.kItems, counterE := cE, counterW := cW }
      ∧ (s.kernelCmd k).rings = s.rings
      ∧ Claims s (s.kernelCmd k) k (if w = 0 then k.kItems else k.kItems * e / (e + w)) k.kItems cE cW := by
  unfold State.kernelCmd
  extract_lets e w n u
  obtain ⟨cE, cW, hcmd, hrings, heast, hwest, hclaimE, hclaimW, -⟩ :=
    State.putCounters_counts hq hk (if w = 0 then n else n * e / (e + w)) n (s.free 0).toNat
  refine ⟨cE, cW, ?_, hrings, heast, hwest, hclaimE, hclaimW⟩
  exact (State.cmd_updCmd_self (s := u.bump) (f := fun k => { k with items := n }) (fun _ => rfl) (fun _ => rfl)).trans (congrArg _ hcmd)

/-- What MATMUL and KERNEL read of the partition and of the tables is as it was before the start. -/
theorem State.begun_reads (hoff : s.noTrace k.part) (hop : k.opcode = 1 ∨ k.opcode = 0x18) :
    (∀ p w, (s.begun k).activeCores p w = s.activeCores p w) ∧ (∀ p w, (s.begun k).coresOfWing p w = s.coresOfWing p w)
      ∧ (∀ p, (s.begun k).wingOfPart p = s.wingOfPart p) ∧ (s.begun k).freeTable = s.freeTable := by
  have h := State.begun_followed hoff hop
  have hcores (p : Nat) : (s.begun k).coresOf p = s.coresOf p := by
    rw [h.only]
    rfl
  have hmark : (s.marking k).freeTable = s.freeTable := by
    unfold State.freeTable State.marking State.updCmd
    rw [List.foldl_map]
    congr 1
    funext a c
    by_cases hc : (c.ring = k.ring && c.dcount = k.dcount) = true
    · rw [if_pos hc]
      rfl
    · rw [if_neg hc]
  refine ⟨h.activeCores, fun p w => ?_, fun p => ?_, ?_⟩
  · unfold State.coresOfWing
    rw [hcores]
  · unfold State.wingOfPart
    rw [hcores]
  · rw [← hmark]
    unfold State.freeTable
    rw [h.memOnly.sameCmds.cmds]

end Products

/-- Settles O25: an extreme and a sorted row follow the order of the keys; an indexed command ends by the entries in range; a MATMUL's
table lies below the work counters, which its wings' records open. -/
theorem orderAndIndex : Obligations.OrderAndIndex := by
  unfold Obligations.OrderAndIndex
  refine ⟨⟨fun mx l h => extreme_nan mx h, fun mx l h => extreme_of_some mx h, sortRow_sorted, filter_sortRow⟩, ?_⟩
  intro s ring dc k herr hoff _
  have hq := herr.quiet
  have hbq : (s.begun k).quiet := State.begun_quiet hoff hq
  dsimp only
  have hrun {i : Instr} {op : Nat} {body : State → Cmd → State} (hi : exec i s = .next (s.runCmd ring dc op body))
      (hst : s.startable ring dc op k) : k.ring = ring ∧ k.dcount = dc ∧ k.opcode = op ∧ s.cmd k.ring k.dcount = some k
        ∧ exec i s = .next (body (s.begun k) k) := by
    obtain ⟨hk, hring, hdc, hop, hgate⟩ := hst
    rw [State.runCmd_go body hk hop hgate] at hi
    exact ⟨hring, hdc, hop, by rw [hring, hdc, hk], hi⟩
  refine ⟨fun hst => ?_, fun hst hall => ?_, fun hst hbad => ?_, fun hst hall => ?_, fun hst hbad => ?_, fun hst => ?_, fun hst => ?_⟩
  · obtain ⟨rfl, rfl, -, hk, hexec⟩ := hrun (i := .sort ring dc) rfl hst
    obtain ⟨hkb, hrings⟩ := State.begun_cmd hoff hk
    obtain ⟨k', hk', hr, hphase⟩ := State.sortCmd_ends hbq hkb
    exact ⟨_, k', hexec, hk', hr.trans hrings, hphase⟩
  · obtain ⟨rfl, rfl, -, hk, hexec⟩ := hrun (i := .gather ring dc) rfl hst
    obtain ⟨hkb, hrings⟩ := State.begun_cmd hoff hk
    obtain ⟨u, hu, hend⟩ := State.gatherCmd_indexEnd hbq k
    rw [← State.begun_indexOf hoff] at hall
    obtain ⟨k', hk', hr, hphase⟩ := (indexEnd_ends hu hkb k.rows).1 hall
    rw [← hend] at hk' hr
    exact ⟨_, k', hexec, hk', hr.trans hrings, hphase⟩
  · obtain ⟨rfl, rfl, -, hk, hexec⟩ := hrun (i := .gather ring dc) rfl hst
    obtain ⟨hkb, -⟩ := State.begun_cmd hoff hk
    obtain ⟨u, hu, hend⟩ := State.gatherCmd_indexEnd hbq k
    rw [← State.begun_indexOf hoff] at hbad ⊢
    obtain ⟨k', hk', hfail⟩ := (indexEnd_ends hu hkb k.rows).2 hbad
    rw [← hend] at hk'
    exact ⟨_, k', hexec, hk', hfail⟩
  · obtain ⟨rfl, rfl, -, hk, hexec⟩ := hrun (i := .scatterAdd ring dc) rfl hst
    obtain ⟨hkb, hrings⟩ := State.begun_cmd hoff hk
    obtain ⟨u, hu, hend⟩ := State.scatterAddCmd_indexEnd hbq k
    rw [← State.begun_indexOf hoff] at hall
    obtain ⟨k', hk', hr, hphase⟩ := (indexEnd_ends hu hkb k.xrows).1 hall
    rw [← hend] at hk' hr
    exact ⟨_, k', hexec, hk', hr.trans hrings, hphase⟩
  · obtain ⟨rfl, rfl, -, hk, hexec⟩ := hrun (i := .scatterAdd ring dc) rfl hst
    obtain ⟨hkb, -⟩ := State.begun_cmd hoff hk
    obtain ⟨u, hu, hend⟩ := State.scatterAddCmd_indexEnd hbq k
    rw [← State.begun_indexOf hoff] at hbad ⊢
    obtain ⟨k', hk', hfail⟩ := (indexEnd_ends hu hkb k.xrows).2 hbad
    rw [← hend] at hk'
    exact ⟨_, k', hexec, hk', hfail⟩
  · obtain ⟨rfl, rfl, hop, hk, hexec⟩ := hrun (i := .matmul ring dc) rfl hst
    obtain ⟨hkb, hrings⟩ := State.begun_cmd hoff hk
    obtain ⟨hactive, hcores, hwing, htable⟩ := State.begun_reads hoff (.inl hop)
    obtain ⟨cE, cW, hcmd, hr, hclaims, hentries⟩ := State.matmulCmd_starts hbq hkb rfl
    rw [hactive, hwing] at hcmd hclaims hentries
    rw [htable] at hcmd hentries
    rw [hactive, hactive] at hclaims
    obtain ⟨heast, hwest, hclaimE, hclaimW⟩ := hclaims
    rw [hcores] at heast hwest hclaimE hclaimW
    refine ⟨_, _, hexec, hcmd, hr.trans hrings, rfl, rfl, rfl, ⟨heast, hwest⟩, ?_, fun htab => ⟨⟨hclaimE, hclaimW⟩, hentries htab⟩⟩
    exact (List.map_map ..).trans (List.map_id _)
  · obtain ⟨rfl, rfl, hop, hk, hexec⟩ := hrun (i := .kernel ring dc) rfl hst
    obtain ⟨hkb, hrings⟩ := State.begun_cmd hoff hk
    obtain ⟨hactive, hcores, -, -⟩ := State.begun_reads hoff (.inr hop)
    obtain ⟨cE, cW, hcmd, hr, heast, hwest, hclaimE, hclaimW⟩ := State.kernelCmd_starts hbq hkb
    rw [hcores] at heast hwest hclaimE hclaimW
    rw [hactive, hactive] at hclaimE hclaimW
    exact ⟨_, _, hexec, hcmd, hr.trans hrings, rfl, rfl, ⟨heast, hwest⟩, hclaimE, hclaimW⟩

end Sys2Proof.Machine
end
